-- ==== Sys2Proof/Word.lean ====
section
/-! DEFINITION. The word types of the Home: what the manual treats as bits is a bit vector (R20, R82, R436). -/

namespace Sys2Proof

/-- One 64-bit Chart slot (R436). -/
abbrev Word := BitVec 64

/-- One byte. -/
abbrev Byte := BitVec 8

/-- A line address LADDR, bits [43:6] of a device physical address (R82). -/
abbrev Line := BitVec 38

/-- The data of one 64 B line; byte 0 in [7:0] (R82). -/
abbrev LineData := BitVec 512

/-- A 10-bit Agent ID (R82). -/
abbrev Aid := BitVec 10

/-- An incarnation (R82). -/
abbrev Inc := BitVec 4

/-- A requester's tag (R82). -/
abbrev Tag := BitVec 16

/-- One stored Vault entry of 120 bits (R157). -/
abbrev VBits := BitVec 120

/-- One stored Cellar entry of 128 bits (R173). -/
abbrev CBits := BitVec 128

/-- The bits [hi:lo] of a value (R20). -/
def bits {n : Nat} (x : BitVec n) (hi lo : Nat) : Nat := (x.toNat >>> lo) % 2 ^ (hi + 1 - lo)

/-- Places the value `v` of `w` bits at bit `lo`. -/
def place (v w lo : Nat) : Nat := (v % 2 ^ w) <<< lo

/-- One bit as a number. -/
def bit (b : Bool) : Nat := if b then 1 else 0

end Sys2Proof
end

