-- ==== Sys2Proof/Config.lean ====
section
/-! DEFINITION. What an implementation fixes (R10, R29, R534) and the free values: constants with no body, on whose
value no statement can rest. -/

namespace Sys2Proof

/-- The three build configurations (R10), reported in BUILD_CONFIG (R29). -/
inductive Build where
  | h1L | h1M | h1S
  deriving DecidableEq, Repr

namespace Build

/-- BUILD_CONFIG (R29). -/
def code : Build → Nat | .h1L => 0 | .h1M => 1 | .h1S => 2
/-- TILLS_BUILT (R29): active and spare Tills. -/
def tills : Build → Nat | .h1L => 18 | .h1M => 9 | .h1S => 5
/-- The Tills that are active after a cold reset (R32). -/
def activeTills : Build → Nat | .h1L => 16 | .h1M => 8 | .h1S => 4
/-- WICKETS_BUILT (R29), WS excluded. -/
def wickets : Build → Nat | .h1L => 8 | .h1M => 4 | .h1S => 2
/-- MEMPORTS_BUILT (R29). -/
def ports : Build → Nat | .h1L => 4 | .h1M => 2 | .h1S => 1
/-- log2 of the active Tills at cold reset, sT of R179. -/
def sT : Build → Nat | .h1L => 4 | .h1M => 3 | .h1S => 2
/-- The side of the Exchange torus (R313 and the configuration table of "The Exchange"). -/
def side : Build → Nat | .h1L => 6 | .h1M => 5 | .h1S => 4
/-- JTAG_IDCODE PART (R533). -/
def part : Build → Nat | .h1L => 0xD3C1 | .h1M => 0xD3C2 | .h1S => 0xD3C3

/-- The index of WS among the Wickets (R340). -/
def ws : Nat := 8

/-- A Wicket of this build: an external Wicket, or WS. -/
def hasWicket (b : Build) (w : Nat) : Bool := w < b.wickets || w == ws
/-- A Till of this build. -/
def hasTill (b : Build) (t : Nat) : Bool := t < b.tills
/-- A memory port of this build. -/
def hasPort (b : Build) (m : Nat) : Bool := m < b.ports

/-- The built Wickets, WS last (R49: nine, five or three). -/
def wicketList (b : Build) : List Nat := List.range b.wickets ++ [ws]
/-- The built Tills. -/
def tillList (b : Build) : List Nat := List.range b.tills

end Build

/-- A node of the Exchange (R313, R42). -/
inductive NodeKind where
  | till (t : Nat) | wicket (w : Nat) | port (m : Nat) | au | ch | ty | jn | as_
  deriving DecidableEq, Repr

namespace Build

/-- One row of the placement table of R313 and of the configuration table of "The Exchange". -/
def placeRow : Build → Nat → List (Option NodeKind)
  | .h1L, 0 => [some (.wicket 0), some (.till 0), some (.till 1), some (.port 0), some (.till 2), some (.wicket 1)]
  | .h1L, 1 => [some (.till 3), some .au, some (.till 4), some (.till 5), some .ch, some (.till 6)]
  | .h1L, 2 => [some (.wicket 2), some (.till 7), some (.port 1), some (.till 8), some (.till 9), some (.wicket 3)]
  | .h1L, 3 => [some (.wicket 4), some (.till 10), some (.till 11), some (.port 2), some (.till 12), some (.wicket 5)]
  | .h1L, 4 => [some (.till 13), some .ty, some (.till 14), some (.till 15), some .jn, some (.till 16)]
  | .h1L, 5 => [some (.wicket 6), some (.till 17), some (.port 3), some (.wicket 8), some .as_, some (.wicket 7)]
  | .h1M, 0 => [some (.wicket 0), some (.till 0), some (.port 0), some (.till 1), some (.wicket 1)]
  | .h1M, 1 => [some (.till 2), some .au, some (.till 3), some .ch, some (.till 4)]
  | .h1M, 2 => [some (.wicket 2), some (.till 5), some .ty, some (.till 6), some (.wicket 3)]
  | .h1M, 3 => [some (.till 7), some .jn, some (.till 8), some .as_, some (.wicket 8)]
  | .h1M, 4 => [none, some (.port 1), none, none, none]
  | .h1S, 0 => [some (.wicket 0), some (.till 0), some (.port 0), some (.till 1)]
  | .h1S, 1 => [some .au, some (.till 2), some .ch, some (.wicket 1)]
  | .h1S, 2 => [some (.till 3), some .ty, some (.till 4), some .jn]
  | .h1S, 3 => [some (.wicket 8), some .as_, none, none]
  | _, _ => []

/-- The node at position (x, y); its node ID is 8y + x (R313). -/
def nodeAt (b : Build) (n : Nat) : Option NodeKind := ((b.placeRow (n / 8))[n % 8]?).join

/-- The node IDs of the built nodes, ascending (R313). -/
def nodeIds (b : Build) : List Nat := (List.range 64).filter (fun n => (b.nodeAt n).isSome)

/-- The node ID of a node (R313). -/
def nodeId (b : Build) (k : NodeKind) : Nat := (b.nodeIds.find? (fun n => b.nodeAt n == some k)).getD 0

end Build

/-- Entropy drawn for a session NONCE (R467); the argument numbers the draw. DESIGN CHOICE, log entry 6. -/
opaque Config.nonce : Nat → BitVec 256
/-- The keyed hash of the head table (R117): draw of the key at cold reset, hash number, line. DESIGN CHOICE, log entry 6. -/
opaque Config.headHash : Nat → Nat → Line → BitVec 15
/-- The entropy seed of a bank LFSR (R359): draw at cold reset, Till, bank. DESIGN CHOICE, log entry 6. -/
opaque Config.lfsrSeed : Nat → Nat → Nat → BitVec 16
/-- The check bits of a 64-bit word of a store whose code is internal to the Home (R537). DESIGN CHOICE, log entry 6. -/
opaque Config.checkBits : BitVec 64 → BitVec 8
/-- The parity of a stored reservation monitor, and the check bits of a parity entry (R366, R537). DESIGN CHOICE, log entry 6. -/
opaque Config.parityCheck : BitVec 120 → BitVec 8
/-- A value that the spec leaves open, numbered by the counter `freeCtr` of State. DESIGN CHOICE, log entry 6. -/
opaque Config.freeValue : Nat → BitVec 512

end Sys2Proof
end

