-- ==== Sys2Proof/Syntax.lean ====
section
/-! DEFINITION. The commands of the Home: one constructor per row of spec/opcode_table.json, with the operands the
spec's message layouts (R82, R440, R448, R512, R518 to R520, R379) give the row. -/

namespace Sys2Proof

/-- A request message with its data message (R82). DATA, BE and POISON are ignored where the opcode carries no data. -/
structure Req where
  aid : Aid
  inc : Inc := 0
  tag : Tag := 0
  laddr : Line := 0
  strm : Bool := false
  param : BitVec 8 := 0
  rcpt : BitVec 8 := 0
  rsnd : Bool := false
  data : LineData := 0
  be : Word := BitVec.allOnes 64
  poison : Bool := false
  deriving DecidableEq, Repr

/-- A snoop response message (R82). -/
structure Rsp where
  aid : Aid
  inc : Inc := 0
  sid : BitVec 12 := 0
  blk : BitVec 2 := 0
  low : BitVec 2 := 0
  deriving DecidableEq, Repr

/-- A Teller Message body but for its CMD byte, which the row fixes (R448), and the endpoint that sent it (R525). -/
structure Teller where
  eid : BitVec 8 := 0
  tver : BitVec 8 := 1
  auth : Bool := false
  session : BitVec 16 := 0
  length : Nat := 0
  seq : BitVec 32 := 0
  payload : List Byte := []
  mac : BitVec 128 := 0
  deriving DecidableEq, Repr

/-- A memory operation of an MREQ or MCMP (R517). -/
inductive Mop where
  | mrd | mcancel | mwr | mwrPtl | mmeta | crd | cwb
  deriving DecidableEq, Repr

/-- A function with the common control and status entries of R60. -/
inductive Func where
  | wicket (w : Nat) | way (w : Nat) | stream (s : Nat) | portShaper (w : Nat)
  | subShaper (n : Nat) | svcShaper (n c : Nat) | till (t : Nat)
  deriving DecidableEq, Repr

/-- A silicon fault that becomes visible in a step (R366): a flip of stored Vault bits, or an uncorrectable word. -/
inductive Upset where
  | none
  | vault (way : Nat) (mask : VBits)
  | ledger
  | dataBuffer
  | summary (word : Nat)
  | monitor (i : Nat)
  deriving DecidableEq, Repr

/-- Where an Auditor set walk stands (R379): one Vault set, or one Cellar group of a page bucket. -/
inductive WalkAt where
  | vault (bank set : Nat)
  | cellar (p g : Nat)
  deriving DecidableEq, Repr

/-- The kind of event at an Exchange link (R332). -/
inductive LinkEvent where
  | correctable | uncorrectable | bufferCorrected | bufferPayload | bufferControl | chkMismatch
  deriving DecidableEq, Repr

/-- What the Assay measures at one check (R413): slack of each Till's logic probes in ps, SRAM margins and link margins
(empty but in a full sweep) and junction temperatures in 0.1 degree C. -/
structure Measure where
  logic : List (Nat × Int) := []
  sram : List (Nat × Int) := []
  link : List (Nat × Int) := []
  tj : List (Nat × Int) := []
  deriving DecidableEq, Repr

/-- The commands: one constructor per row of the table, in the table's order. -/
inductive Instr where
  | pwrGoodRise (resume : Bool)
  | pwrGoodFall
  | brownoutRise
  | brownoutFall
  | coldRst
  | flr
  | pwrFailWarnRise
  | pwrFailWarnFall
  | quiesced
  | bringupFill (failed : List Nat) (imageCrcOk : Bool) (ptm : Word) (ptmValid : Bool)
  | assayBaseline (m : Measure) (mhz : Nat) (acked : Bool)
  | homeReady
  | start
  | functionReset
  | functionResetDone
  | slotAttention (w : Nat)
  | tickStrobe (dt : Nat) (ptm : Word) (ptmValid : Bool)
  | tickLost (dt : Nat)
  | substituteTick (dt : Nat) (ptm : Word) (ptmValid : Bool)
  | marginAck (id : BitVec 8) (mv : BitVec 14) (mhz : BitVec 12)
  | marginTimeout
  | mrdata (port till folio line : Nat) (cancelled error poison writtenOff cellared : Bool) (data : LineData)
      (upset : Upset)
  | mcmp (port : Nat) (lost : Bool) (mop : Mop) (till folio : Nat)
  | mcred (port till : Nat) (dataKind : Bool) (count : Nat)
  | chstatChange (port : Nat) (level : BitVec 16)
  | memWriteTimeout (port till folio : Nat) (mop : Mop)
  | memReadTimeout (port till folio line : Nat)
  | linkDown (w : Nat) (aid : Aid)
  | linkUp (w : Nat) (aid : Aid) (resetSeen : Bool) (identity : Word)
  | agentReset (w : Nat) (aid : Aid)
  | linkReset (w : Nat)
  | rdS (w : Nat) (q : Req)
  | rdX (w : Nat) (q : Req)
  | rdAny (w : Nat) (q : Req)
  | rdNc (w : Nat) (q : Req)
  | own (w : Nat) (q : Req)
  | drop (w : Nat) (q : Req)
  | down (w : Nat) (q : Req)
  | wbI (w : Nat) (q : Req)
  | wbS (w : Nat) (q : Req)
  | wbX (w : Nat) (q : Req)
  | evc (w : Nat) (q : Req)
  | conflict (w : Nat) (q : Req)
  | ncwFull (w : Nat) (q : Req)
  | ncwPtl (w : Nat) (q : Req)
  | claimX (w : Nat) (q : Req)
  | claimS (w : Nat) (q : Req)
  | release (w : Nat) (q : Req)
  | rsv (w : Nat) (q : Req)
  | cwr (w : Nat) (q : Req)
  | settle (w : Nat) (q : Req)
  | rspI (w : Nat) (r : Rsp)
  | rspS (w : Nat) (r : Rsp)
  | rspE (w : Nat) (r : Rsp)
  | requestInjection (w dt : Nat)
  | qFlitAccepted (till w : Nat)
  | vaultLookupDone (till folio : Nat) (upset : Upset)
  | folioReadOutDone (till folio : Nat)
  | chainedNotice (w till : Nat)
  | completionDelivery (w till : Nat) (dataPlane : Bool)
  | snoopDelivery (w till : Nat)
  | foreclosedResponse (till w : Nat)
  | loanRequest (till w : Nat)
  | loanGrant (w till : Nat)
  | loanIdle (w till : Nat)
  | creditReturn (w till : Nat)
  | receiptTimeout (till folio : Nat)
  | bucketMapCommit (v : BitVec 8)
  | bucketMapSwitch (node : Nat)
  | regionCommit (v : BitVec 8)
  | regionTableSwitch (node : Nat)
  | enable (f : Func)
  | disable (f : Func)
  | enablingComplete (f : Func)
  | drainComplete (f : Func)
  | cellarEnable (header : LineData)
  | cellarClearingDone
  | preload
  | preloadAndLock
  | unlock
  | preloadSector (till : Nat) (sector : BitVec 36)
  | cellarVisit (till p g : Nat)
  | scrubRun (till bank : Nat) (upsets : List (Nat × VBits))
  | foreclosureWalk (till : Nat) (pos : WalkAt)
  | leaveWalk (till : Nat) (pos : WalkAt)
  | retentiveCleanWalk (till : Nat) (pos : WalkAt)
  | resolutionWalk (till entry : Nat)
  | rebuildStep (till bucket : Nat)
  | copyRun (till bank : Nat)
  | switch (batch : Nat)
  | salvage (till : Nat)
  | retireRow (till bank row : Nat)
  | handoverSend (till : Nat)
  | copyEndSend (till : Nat)
  | handover (w till : Nat)
  | handoverAck (till w : Nat)
  | copyEnd (till : Nat)
  | tillDown (w till : Nat)
  | salvageMark (till w : Nat)
  | tillWatchdog (till : Nat)
  | bankWatchdog (till bank : Nat)
  | exchStall (node port vc : Nat)
  | bankArbitration (till bank dt : Nat) (raised : BitVec 4) (lockStart lockEnd : Bool)
  | linkFlitError (link half : Nat) (e : LinkEvent)
  | routeCommit
  | routeMark (src dst cls : Nat)
  | routeMarkAck (src dst cls : Nat)
  | retrain (link : Nat)
  | retrainDone (link : Nat) (pass0 pass1 : Bool)
  | tallySample (latency : Nat) (full : Bool)
  | tallyWindow
  | journalRecord
  | alarmWindow
  | journalPointer (s : Nat)
  | jnDataRead (s : Nat)
  | ffClear (till : Nat)
  | countersClear
  | lostWritesClear
  | snoopTimeout (w sid : Nat)
  | grace (n : Nat)
  | foreclosureDone (n : Nat)
  | quarantineWindow (n : Nat)
  | join (n : Nat)
  | leave (n : Nat)
  | foreclose (n : Nat)
  | agentRelease (n : Nat)
  | agentJoined (n : Nat)
  | agentLeft (n : Nat)
  | agentCfgWrite (n : Nat) (v : BitVec 32)
  | escrowWrite (index sub : Nat) (v : BitVec 16)
  | tenantMembersWrite (t i : Nat) (v : Word)
  | slotCtrlWrite (w : Nat) (v : BitVec 16)
  | wicketLinkReset (w : Nat) (v : BitVec 8)
  | shaperConfigWrite (f : Func) (v : Word)
  | leaseExpiry (till entry : Nat)
  | expiredHold (till entry : Nat)
  | claimReleaseDone (till : Nat) (page : BitVec 32)
  | rsvTimeout (till i : Nat)
  | postDrainDelay (entry : Nat)
  | holdQuiesced
  | saveImageWritten
  | powerTargetRun
  | powerTargetLean
  | powerTargetHold
  | powerTargetOff
  | quickCheck (m : Measure)
  | fullSweep (m : Measure)
  | tjSample (tj : List (Nat × Int))
  | ageHours
  | identify (h : Teller)
  | open_ (h : Teller)
  | prove (h : Teller)
  | close (h : Teller)
  | read (h : Teller)
  | write (h : Teller)
  | readRange (h : Teller)
  | writeMulti (h : Teller)
  | journalRead (h : Teller)
  | tallyRead (h : Teller)
  | counterRead (h : Teller)
  | debugSet (h : Teller)
  | tillHalt (h : Teller)
  | tillResume (h : Teller)
  | rawRead (h : Teller)
  | rawWrite (h : Teller)
  | lockOpen (h : Teller)
  | lockClose (h : Teller)
  | inject (h : Teller)
  | unquarantine (h : Teller)
  | proveWindow (slot : Nat)
  | sessionIdle (slot : Nat)
  | haltMaxTicks (till : Nat)
  | program
  | revoke
  | keyBlowDone
  | provision
  | deploy
  | retire
  | lifecycleChanged
  | segTarget (v : BitVec 32)
  | segDataRead
  | segDataWrite (v : Word)
  | chartWrite (offset : BitVec 27) (size : Nat) (v : Word)
  | tillReset (till : Nat) (fillOk : Bool)
  | tapInstruction (ir : Nat)
  | unknownCommand (cmd : BitVec 8) (h : Teller)
  deriving DecidableEq, Repr

end Sys2Proof
end

