-- ==== Sys2Proof/Decode.lean ====
section
/-! DEFINITION. The commands that the opcode table spells by bits. No row of the table gives bits, so no word spells a
command. -/

namespace Sys2Proof

/-- The command that a word of `nbits` bits spells by the table's bits: the table gives no row any bits. -/
def decodeTableWord (_nbits _w : Nat) : Option Instr := none

end Sys2Proof
end

