-- ==== Sys2Proof/Machine/Crypto.lean ====
section
/-! DEFINITION. SHA-384 and HMAC-SHA-384 over bytes, as the session proofs and message codes use them (R460, R468, R469).
A word of 64 bits is a number below 2 ^ 64. -/

namespace Sys2Proof.Machine

/-- The modulus of a 64-bit word. -/
def w64 : Nat := 2 ^ 64

/-- Rotation of a 64-bit word to the right. -/
def rotr (x n : Nat) : Nat := x / 2 ^ n + x * 2 ^ (64 - n) % w64

/-- The round constants of SHA-384: the first 64 bits of the fractional parts of the cube roots of the first 80 primes. -/
def shaK1 : List Nat := [
  0x428a2f98d728ae22, 0x7137449123ef65cd, 0xb5c0fbcfec4d3b2f, 0xe9b5dba58189dbbc, 0x3956c25bf348b538,
  0x59f111f1b605d019, 0x923f82a4af194f9b, 0xab1c5ed5da6d8118, 0xd807aa98a3030242, 0x12835b0145706fbe,
  0x243185be4ee4b28c, 0x550c7dc3d5ffb4e2, 0x72be5d74f27b896f, 0x80deb1fe3b1696b1, 0x9bdc06a725c71235,
  0xc19bf174cf692694, 0xe49b69c19ef14ad2, 0xefbe4786384f25e3, 0x0fc19dc68b8cd5b5, 0x240ca1cc77ac9c65]
/-- The next round constants. -/
def shaK2 : List Nat := [
  0x2de92c6f592b0275, 0x4a7484aa6ea6e483, 0x5cb0a9dcbd41fbd4, 0x76f988da831153b5, 0x983e5152ee66dfab,
  0xa831c66d2db43210, 0xb00327c898fb213f, 0xbf597fc7beef0ee4, 0xc6e00bf33da88fc2, 0xd5a79147930aa725,
  0x06ca6351e003826f, 0x142929670a0e6e70, 0x27b70a8546d22ffc, 0x2e1b21385c26c926, 0x4d2c6dfc5ac42aed,
  0x53380d139d95b3df, 0x650a73548baf63de, 0x766a0abb3c77b2a8, 0x81c2c92e47edaee6, 0x92722c851482353b]
/-- The next round constants. -/
def shaK3 : List Nat := [
  0xa2bfe8a14cf10364, 0xa81a664bbc423001, 0xc24b8b70d0f89791, 0xc76c51a30654be30, 0xd192e819d6ef5218,
  0xd69906245565a910, 0xf40e35855771202a, 0x106aa07032bbd1b8, 0x19a4c116b8d2d0c8, 0x1e376c085141ab53,
  0x2748774cdf8eeb99, 0x34b0bcb5e19b48a8, 0x391c0cb3c5c95a63, 0x4ed8aa4ae3418acb, 0x5b9cca4f7763e373,
  0x682e6ff3d6b2b8a3, 0x748f82ee5defb2fc, 0x78a5636f43172f60, 0x84c87814a1f0ab72, 0x8cc702081a6439ec]
/-- The last round constants. -/
def shaK4 : List Nat := [
  0x90befffa23631e28, 0xa4506cebde82bde9, 0xbef9a3f7b2c67915, 0xc67178f2e372532b, 0xca273eceea26619c,
  0xd186b8c721c0c207, 0xeada7dd6cde0eb1e, 0xf57d4f7fee6ed178, 0x06f067aa72176fba, 0x0a637dc5a2c898a6,
  0x113f9804bef90dae, 0x1b710b35131c471b, 0x28db77f523047d84, 0x32caab7b40c72493, 0x3c9ebe0a15c9bebc,
  0x431d67c49c100d4c, 0x4cc5d4becb3e42b6, 0x597f299cfc657e2a, 0x5fcb6fab3ad6faec, 0x6c44198c4a475817]
/-- All round constants. -/
def shaK : List Nat := shaK1 ++ shaK2 ++ shaK3 ++ shaK4

/-- The initial value of SHA-384. -/
def shaInit : List Nat := [
  0xcbbb9d5dc1059ed8, 0x629a292a367cd507, 0x9159015a3070dd17, 0x152fecd8f70e5939,
  0x67332667ffc00b31, 0x8eb44a8768581511, 0xdb0c2e0d64f98fa7, 0x47b5481dbefa4fa4]

/-- The message schedule: `n` further words behind the words so far, the latest first. -/
def shaWords : Nat → List Nat → List Nat
  | 0, l => l
  | n + 1, l =>
    let a := l.getD 1 0
    let b := l.getD 14 0
    let s1 := rotr a 19 ^^^ rotr a 61 ^^^ (a / 2 ^ 6)
    let s0 := rotr b 1 ^^^ rotr b 8 ^^^ (b / 2 ^ 7)
    shaWords n ((s1 + l.getD 6 0 + s0 + l.getD 15 0) % w64 :: l)

/-- One round on the eight working variables. -/
def shaRound (v : List Nat) (kw : Nat) : List Nat :=
  match v with
  | [a, b, c, d, e, f, g, h] =>
    let t1 := (h + (rotr e 14 ^^^ rotr e 18 ^^^ rotr e 41) + ((e &&& f) ^^^ ((w64 - 1 - e) &&& g)) + kw) % w64
    let t2 := ((rotr a 28 ^^^ rotr a 34 ^^^ rotr a 39) + ((a &&& b) ^^^ (a &&& c) ^^^ (b &&& c))) % w64
    [(t1 + t2) % w64, a, b, c, (d + t1) % w64, e, f, g]
  | _ => v

/-- A big-endian word of 8 bytes. -/
def beWord (l : List Byte) : Nat := l.foldl (fun n b => n * 256 + b.toNat) 0
/-- The bytes of a word, big-endian. -/
def beBytes (n w : Nat) : List Byte := (List.range n).map (fun i => BitVec.ofNat 8 (w / 2 ^ (8 * (n - 1 - i))))

/-- One block of 128 bytes. -/
def shaBlock (h : List Nat) (b : List Byte) : List Nat :=
  let w0 := (List.range 16).map (fun i => beWord ((b.drop (8 * i)).take 8))
  let w := (shaWords 64 w0.reverse).reverse
  let v := (shaK.zip w).foldl (fun v p => shaRound v (p.1 + p.2)) h
  (h.zip v).map (fun p => (p.1 + p.2) % w64)

/-- The blocks of a message. -/
def shaBlocks : Nat → List Nat → List Byte → List Nat
  | 0, h, _ => h
  | n + 1, h, l => if l.isEmpty then h else shaBlocks n (shaBlock h (l.take 128)) (l.drop 128)

/-- SHA-384: 48 bytes. -/
def sha384 (m : List Byte) : List Byte :=
  let pad := (240 - (m.length + 1) % 128) % 128
  let l := m ++ [0x80] ++ List.replicate pad 0 ++ beBytes 16 (8 * m.length)
  ((shaBlocks (l.length / 128 + 1) shaInit l).take 6).flatMap (beBytes 8)

/-- HMAC-SHA-384: 48 bytes. -/
def hmac384 (key m : List Byte) : List Byte :=
  let k0 := if key.length ≤ 128 then key else sha384 key
  let k := k0 ++ List.replicate (128 - k0.length) 0
  sha384 (k.map (· ^^^ 0x5C) ++ sha384 (k.map (· ^^^ 0x36) ++ m))

end Sys2Proof.Machine
end

