-- ==== Sys2Proof/Machine/State.lean ====
section
/-! DEFINITION. The state of the Home as plain data, and the state right after reset. Sparse stores are lists of
(key, value) pairs in one canonical form (keys rising, no value equal to the store's default). -/

namespace Sys2Proof.Machine

/-- Why a command stops. -/
inductive Fault where
  /-- Raised by a command that names a Wicket, Till, memory port, node or link the build does not have (R534: unbuilt
  Wickets and memory ports have no signals), or a number outside the range of its kind (an eleventh Wicket, an entry the
  command does not write). Safe: the hardware has no such event. -/
  | unbuiltPart
  deriving DecidableEq, Repr

/-- Why a command is refused. -/
inductive Refusal where
  /-- Raised by an arm of exec without a meaning. Safe: the model stops. -/
  | notModelled (mnemonic : String)
  deriving DecidableEq, Repr

/-- A sparse store: keys strictly rising, no value equal to the default of the store. -/
abbrev KV (α : Type) := List (Nat × α)

/-! ## Enumerations -/

/-- Request opcodes (R83), and 0x3B for Home-internal Folios (R112). -/
inductive Opc where
  | rdS | rdX | rdAny | rdNc | own | drop | down | wbI | wbS | wbX | evc | conflict | ncwFull | ncwPtl
  | claimX | claimS | release | rsv | cwr | settle | internal
  deriving DecidableEq, Repr

/-- Snoop opcodes (R83). -/
inductive SnpOpc where | cur | data | inv
  deriving DecidableEq, Repr

/-- Snoop response opcodes (R83). -/
inductive RspOpc where | i | s | e
  deriving DecidableEq, Repr

/-- Completion opcodes (R83). -/
inductive CmpOpc where | cmp | cmpS | cmpE | conflictAck
  deriving DecidableEq, Repr

/-- STATUS of a completion (R82). -/
inductive CStat where | ok | writtenOff | lost | fail | retry
  deriving DecidableEq, Repr

/-- Folio phases (R113). -/
inductive Phase where
  | free | reserved | waiting | lookup | snoop | data | blocked | done | folded | retry
  deriving DecidableEq, Repr

/-- The credit that admitted a Folio (R112 SRC). -/
inductive Src where | escrow | kept | loan | receipt | internal
  deriving DecidableEq, Repr

/-- The memory read of a Folio (R112 SPEC). -/
inductive Spec where | none | issued | cancelled | held
  deriving DecidableEq, Repr

/-- Line states (R70, R158). -/
inductive LState where | i | s | x | c | p | unknown
  deriving DecidableEq, Repr

/-- States of a function (R61). -/
inductive FnState where | off | enabling | on | draining | failed
  deriving DecidableEq, Repr

/-- States of an Agent Table entry (R281). -/
inductive AState where | absent | joining | active | leaving | foreclosing | quarantined
  deriving DecidableEq, Repr

/-- Till roles (R383). -/
inductive Role where | none | spare | active | source | destination | reset
  deriving DecidableEq, Repr

/-- States of a claim-table entry (R246). -/
inductive ClState where | gathering | held | expired | releasing
  deriving DecidableEq, Repr

/-- Session states (R466). -/
inductive SesState where | free | opening | open_ | restricted
  deriving DecidableEq, Repr

/-- Outcome of a write for Settle (R269), worst last in the order of R269 read backwards. -/
inductive Outc where | ok | writtenOff | fail | lost
  deriving DecidableEq, Repr

/-- How far the Home has come since power-good rose (R531, R307). -/
inductive Boot where
  /-- Power is off, or PWR_GOOD is low. -/
  | off
  /-- Steps 1 to 4 of R531: the Chart is unavailable. -/
  | filling
  /-- CH is released. -/
  | released
  deriving DecidableEq, Repr

/-- Why a management access may act (R459, R464): the window, or a session slot. -/
inductive Path where | window | session (slot : Nat)
  deriving DecidableEq, Repr

/-- Who receives the completion of a request: its agent, a posting-buffer entry of WS (R267), or a debug session
(R476, INJECT). -/
inductive Origin where | agent | post (entry : Nat) | injected (id : Nat)
  deriving DecidableEq, Repr

/-! ## Messages at the boundary -/

/-- Everything the Home sends across its boundary (R507). -/
inductive Out where
  | snp (w : Nat) (opc : SnpOpc) (aid : Aid) (inc : Inc) (sid : Nat) (laddr : Line) (blk : Nat)
  | cmp (w : Nat) (opc : CmpOpc) (aid : Aid) (inc : Inc) (tag : Tag) (status : CStat) (rcpt : Nat)
  | dataOut (w : Nat) (aid : Aid) (inc : Inc) (tag : Tag) (data : LineData) (poison : Bool)
  | credit (w : Nat) (aid : Aid) (kept : Bool) (count : Nat)
  | bind (w : Nat) (on : Bool) (aid : Aid) (inc : Inc)
  | mreq (port : Nat) (mop : Mop) (spec : Bool) (lmask : Nat) (mbit mval cellared : Bool) (addr : Line)
      (till folio : Nat) (data : LineData) (be : Word) (poison : Bool)
  | margin (req : Word)
  | notice (stream : Nat)
  | teller (eid : BitVec 8) (body : List Byte)
  | windowRead (value : Word)
  /-- The writes of a clearing walk: zero to every slot of the carve-out (R176). -/
  | cellarZeroed (base size : Nat)
  | saveImage
  deriving DecidableEq, Repr

/-! ## Ledger -/

/-- The write data of a Folio: DATA, BE and POISON of a data message (R82). -/
structure WData where
  data : LineData
  be : Word
  poison : Bool
  deriving DecidableEq, Repr

/-- The line a Folio holds in a read-return buffer, with its Memo (R80, R168). `memo` is false where the data came
with no Memo of memory (a fold, R182). -/
structure RData where
  data : LineData
  poison : Bool
  woff : Bool
  cellared : Bool
  memo : Bool
  deriving DecidableEq, Repr

/-- A write access of a Folio whose MCMP is awaited (R519, R522). -/
structure OpenWrite where
  mop : Mop
  addr : Line
  port : Nat
  tick : Nat
  deriving DecidableEq, Repr

/-- The read of a Folio in flight at a memory port (R517): MRD, or CRD with the lines still due. -/
structure OpenRead where
  crd : Bool
  addr : Line
  port : Nat
  tick : Nat
  /-- CCLK at which the read left (R482). -/
  cclk : Nat
  lines : List Nat
  got : KV LineData
  bad : Bool
  /-- Cancelled: the answer is discarded (R144). -/
  cancel : Bool
  deriving DecidableEq, Repr

/-- What a Folio works for. -/
inductive Job where
  /-- The request of an agent. -/
  | request
  /-- One of the four internal Folios of R192, for line `line` of sector operation `op`. -/
  | sector (op line : Nat)
  /-- The internal Folio of a group operation (R177, R517). -/
  | group (op : Nat)
  /-- An internal Folio that only awaits the MCMP of its writes (R517). -/
  | access
  deriving DecidableEq, Repr

/-- One Folio (R112), with the Clearing unit's record of its snoops (R146). -/
structure Folio where
  phase : Phase
  laddr : Line
  opc : Opc
  aid : Aid
  inc : Inc
  tag : Tag
  src : Src
  /-- The pool that the Folio's credit goes back to (R133, R141). -/
  credit : Src
  bgen : Nat
  rgen : Nat
  strm : Bool
  param : BitVec 8
  nb : Bool
  head : Bool
  next : Option Nat
  wicket : Nat
  origin : Origin
  epoch : Nat
  job : Job
  wdata : Option WData
  /-- The line-responses still due: agent and line within the sector; EXPECT is its length. -/
  due : List (Aid × Nat)
  /-- The agents snooped as possible owners of the Folio's own line (R233). -/
  owners : List Aid
  /-- Line-responses received as RSP_I: agent and line. -/
  gotI : List (Aid × Nat)
  gotS : List (Aid × Nat)
  gotE : Option Aid
  /-- Agents whose writeback folded into the Folio, with the line (R77, R233). -/
  folds : List (Aid × Nat)
  woff : Bool
  /-- Lines whose snoops completed as written off (R233, R234). -/
  woffLines : List Nat
  spec : Spec
  rdata : Option RData
  read : Option OpenRead
  /-- Line state found at lookup (LST). -/
  lst : LState
  /-- The lookup is done and the entry is in the Vault way, the operation buffer or the resident buffer. -/
  looked : Bool
  way : Option Nat
  region : Nat
  /-- The lookup waits for data, a consult, a way, a buffer or R164 (R182, R184, R198, R200, R164). -/
  waits : Bool
  consulted : Bool
  /-- Completion sent. -/
  sent : Bool
  status : CStat
  /-- D-plane read-out still to come (R114). -/
  readOut : Bool
  writes : List OpenWrite
  /-- The EVC, DROP and DOWN Folios recorded against this head's snoops (R78). -/
  crossed : List Nat
  outcome : Outc
  /-- The agent is dead: dropped where it would retire (R297). -/
  dead : Bool
  blockedTick : Option Nat
  acceptCclk : Nat
  headCclk : Nat
  doneCclk : Nat
  expect0 : Nat
  /-- The CRD outstanding is the Folio's own consult (R185). -/
  consult : Bool
  /-- The directory change has been made (R147). -/
  applied : Bool
  /-- The write-through that the completion waits for has issued its CWB (R205). -/
  through : Bool
  /-- The snoops outstanding resolve an Unknown sector (R187), or come before a foreclosure edit (R298). -/
  resolving : Bool
  /-- The sector, missed in the Vault, has no entry: a new one is made where the change needs it. -/
  fresh : Bool
  /-- The snoop sent for each line, and the lines found in X when they were snooped (R91, R164, R233). -/
  kinds : List (Nat × SnpOpc)
  foundX : List Nat
  /-- The Folio's own memory write has been put in order (R97). -/
  wrote : Bool
  /-- The Folio's read of its line was speculative (R80, R144). -/
  specRead : Bool
  /-- BLOCK_SNOOP_EN as it was when the Folio reached the head of its chain (R110). -/
  blk : Bool
  /-- A CWR: the recorded owner wrote back into its Folio (R242). -/
  cwrLost : Bool
  /-- The Cellar-case receipt has been taken: the slot reclaim has been started (R198). -/
  retried : Bool
  /-- A claim-holder access: no lookup and no directory change (R252). -/
  holder : Bool
  deriving DecidableEq, Repr

/-- Where a chain descriptor lives (R116). -/
inductive Place where | bucket1 | bucket2 | store | list
  deriving DecidableEq, Repr

/-- A chain descriptor (R116). -/
structure Chain where
  laddr : Line
  head : Nat
  tail : Nat
  place : Place
  deriving DecidableEq, Repr

/-- An escrow receipt held at a Till (R139, R141). -/
structure Receipt where
  folio : Nat
  aid : Aid
  cellarCase : Bool
  tick : Nat
  deriving DecidableEq, Repr

/-! ## Directory -/

/-- A sector entry: four line states, sharer field and replacement bits (R157, R160). -/
structure Ent where
  l0 : LState := .i
  l1 : LState := .i
  l2 : LState := .i
  l3 : LState := .i
  fmt : BitVec 2 := 0
  shr : Word := 0
  age : BitVec 2 := 0
  strm : Bool := false
  lock : Bool := false
  dirty : Bool := false
  deriving DecidableEq, Repr

/-- What the four internal Folios of a sector are for (R192, R196, R235, R290, R298, R206, R372, R211). -/
inductive SecKind where
  | evict
  | reclaimSlot (forReceipt : Option Nat)
  | claim (coord : Nat)
  | leave
  | foreclose
  | retentive
  | resolve (cellar : Bool)
  | preload (mode : Nat)
  deriving DecidableEq, Repr

/-- How far a sector operation has come. -/
inductive SecStage where
  /-- Its four Folios are not all heads. -/
  | gather
  /-- Heads, waiting for a Cellar group read to find the entry. -/
  | consult
  /-- Snoops outstanding. -/
  | snoop
  /-- Waiting for a group read to write the Cellar. -/
  | group
  /-- Done; waiting for MCMP of its writes. -/
  | closing
  deriving DecidableEq, Repr

/-- One operation on a whole sector with its four internal Folios and their shared buffer (R192). -/
structure SecOp where
  sector : Nat
  kind : SecKind
  folios : List Nat
  stage : SecStage
  ent : Ent
  /-- The operation holds the sector's entry in its buffer (R218 place 2). -/
  buffered : Bool
  cwbDone : Bool
  /-- A fold changed the entry after the CWB (R220). -/
  late : Bool
  /-- A reclaim: all lines end I, nothing is spilled. -/
  reclaim : Bool
  slot : Option Nat
  region : Nat
  deriving DecidableEq, Repr

/-- What a group operation does (R177). -/
inductive GroupKind where
  | spill (op : Nat) | delete (sector : Nat) (op : Option Nat) | writeThrough (folio : Nat)
  | direct (folio : Nat) | visit (gens : Bool)
  /-- Reads a group for the foreclosure walk or the leave walk (R290, R300). -/
  | scan (leave : Bool)
  /-- Writes the entry of sector operation `op` to its slot. -/
  | edit (op : Nat)
  /-- The rewrite of a claimed sector that is in the Cellar alone (R254). -/
  | unclaim (sector : Nat)
  deriving DecidableEq, Repr

/-- One entry of the group table (R177). -/
structure GroupOp where
  p : Nat
  g : Nat
  kind : GroupKind
  folio : Nat
  /-- The operation's CRD has been issued (it is first for its group). -/
  running : Bool
  /-- Another operation on the same group entered during the visit (R180). -/
  disturbed : Bool
  deriving DecidableEq, Repr

/-- A claim-table entry (R246). -/
structure Claim where
  state : ClState
  exclusive : Bool
  page : Nat
  claimants : List Aid
  /-- TICK_COUNT at which the lease ends; none before the first sector has been written C (R248). -/
  expiry : Option Nat
  leaseClass : Nat
  coord : Nat
  joining : List Aid
  /-- Claimants of an EXPIRED record that have sent RELEASE (R256). -/
  released : List Aid
  expiredTick : Nat
  deriving DecidableEq, Repr

/-- The progress of a coordinator (R235, R249, R250). -/
structure Gather where
  /-- The claim-table entry. -/
  entry : Nat
  /-- The Claim joins a HELD Shared entry. -/
  joins : Bool
  lease : Nat
  /-- Sectors still to take, in bank order, and sectors in progress. -/
  todo : List Nat
  busy : Nat
  /-- Sectors written C for this Claim. -/
  got : List Nat
  failed : Bool
  deriving DecidableEq, Repr

/-- A release rewrite in progress (R254): the page, the claimants removed, the Folio that it completes and how, and
the entry that frees. -/
structure Rel where
  page : Nat
  aids : List Aid
  folio : Option Nat
  ok : Bool
  entry : Option Nat
  deriving DecidableEq, Repr

/-- A reservation monitor (R259); ARM_TICK shows the low 16 bits of the Tick of its arming. -/
structure Monitor where
  aid : Aid
  inc : Inc
  laddr : Line
  ownerE : Bool
  ownerAid : Aid
  armTick : Nat
  deriving DecidableEq, Repr

/-- A resolution table entry (R370, R371, R407). -/
structure Resolve where
  cellar : Bool
  bank : Nat
  set : Nat
  p : Nat
  g : Nat
  cursor : Nat
  deriving DecidableEq, Repr

/-- A CE_TABLE entry (R374). -/
structure CeEntry where
  store : Nat
  bank : Nat
  row : Nat
  count : Nat
  firstTick : Nat
  deriving DecidableEq, Repr

/-- A Vault bank arbiter (R358 to R362). -/
structure Arb where
  wait : List Nat := [0, 0, 0, 0]
  /-- The LFSR at CCLK `lfsrCclk`; none until the bank's first decision after the cold reset that seeded it (R359). -/
  lfsr : Option (BitVec 16) := none
  lfsrCclk : Nat := 0
  grant : Option Nat := none
  grantTick : Nat := 0
  locked : Bool := false
  debugLock : Bool := false
  stuck : Bool := false
  deriving DecidableEq, Repr

/-- A set of bit positions as disjoint rising runs (first, length): the Cellar Summary (R179). -/
abbrev Runs := List (Nat × Nat)

/-- A common control function (R60, R61). -/
structure Fn where
  st : FnState
  pendDis : Bool := false
  pendEn : Bool := false
  last : Nat := 0
  deriving DecidableEq, Repr

/-- The escrow of one agent at one Till (R135, R137): committed, and released by a death (term X). -/
structure Commit where
  folios : Nat := 0
  data : Nat := 0
  xFolios : Nat := 0
  xData : Nat := 0
  deriving DecidableEq, Repr

/-- The rebuild of one bucket after a forced transfer (R398). -/
structure Rebuild where
  cursor : Nat
  visited : Nat
  deriving DecidableEq, Repr

/-- A memory access waiting for the credits of its port (R520); accesses leave in order (R81). -/
structure MemAcc where
  port : Nat
  mop : Mop
  spec : Bool
  lmask : Nat
  mbit : Bool
  mval : Bool
  /-- The sector whose Summary bit gives CELLARED of an MWR as it leaves (R167). -/
  sector : Nat
  addr : Nat
  folio : Nat
  data : LineData
  be : Word
  poison : Bool
  deriving DecidableEq, Repr

/-- A P or D message that waits at the NI of a halted Till (R479). -/
inductive NiMsg where
  | read (port folio line : Nat) (cancelled error : Bool) (d : RData)
  | written (port folio : Nat) (mop : Mop) (lost : Bool)
  | response (folio : Nat) (o : RspOpc) (aid : Aid) (lines : List Nat)
  deriving DecidableEq, Repr

/-- One Till (R31). -/
structure Till where
  fn : Fn := ⟨.on, false, false, 0⟩
  role : Role := .none
  failCause : Nat := 0
  /-- The Till has met a cause of R393 and fails at the end of the command. -/
  failDue : Option Nat := none
  folios : KV Folio := []
  chains : List Chain := []
  disp : KV Nat := []
  receipts : List Receipt := []
  vault : KV VBits := []
  parity : KV (VBits × VBits) := []
  summary : Runs := []
  secOps : KV SecOp := []
  groups : List GroupOp := []
  fetch : KV Nat := []
  resident : KV Ent := []
  claims : KV Claim := []
  /-- Key: the coordinator's Folio. -/
  gathers : KV Gather := []
  releases : List Rel := []
  monitors : KV Monitor := []
  resolve : KV Resolve := []
  ce : KV CeEntry := []
  remap : KV Nat := []
  rowsRetired : KV Nat := []
  escrow : KV Commit := []
  lentF : Nat := 0
  lentD : Nat := 0
  memCred : KV (Nat × Nat) := []
  memQ : List MemAcc := []
  loanReqs : List (Nat × Bool) := []
  banks : KV Arb := []
  /-- A halted Till: the Tick at which HALT_MAX_TICKS ends the halt (R479). -/
  halted : Option Nat := none
  /-- Messages that wait while the Till is halted (R479). -/
  ni : List NiMsg := []
  /-- Ticks without progress (R381). -/
  idleTicks : Nat := 0
  scrubBank : Nat := 0
  scrubPage : Nat := 0
  scrubCredit : Nat := 0
  /-- Buckets gated here by a transfer (R389, R394). -/
  gated : List Nat := []
  /-- Requests of gated buckets that join no chain, in acceptance order (R389). -/
  deferred : List Nat := []
  /-- Acknowledgements received: old owner × 16 + Wicket (R390, R394). -/
  acks : List Nat := []
  copyEnd : Bool := false
  rebuild : KV Rebuild := []
  copyBank : KV Nat := []
  div2 : Bool := false
  divBefore : Bool := false
  /-- Packets kept at a failed Till's NI for salvage, and the MARKs it holds (R393, R395). -/
  marks : List Nat := []
  servedSince : Bool := false
  slotsRetired : Nat := 0
  slotsWasted : Nat := 0
  slotsFront : Nat := 0
  slotsBack : Nat := 0
  /-- The event signals of R488 that were 1 at the last cycle seen: code and unit. -/
  cond : List (Nat × Nat) := []
  /-- Retirements, for one sample in every 256 (R482). -/
  retCount : Nat := 0
  deriving DecidableEq, Repr

/-! ## Messages on the Exchange -/

/-- An agent request on Q, Wicket to Till (R319). -/
structure QFlit where
  w : Nat
  till : Nat
  opc : Opc
  aid : Aid
  inc : Inc
  tag : Tag
  laddr : Line
  strm : Bool
  param : BitVec 8
  crd : Src
  bgen : Nat
  rgen : Nat
  rcpt : Nat
  cls : Nat
  wdata : Option WData
  origin : Origin
  epoch : Nat
  deriving DecidableEq, Repr

/-- A snoop on S, Till to Wicket (R82, R320). -/
structure SFlit where
  till : Nat
  w : Nat
  opc : SnpOpc
  aid : Aid
  laddr : Line
  blk : Nat
  folio : Nat
  deriving DecidableEq, Repr

/-- A P-plane message from a Till to a Wicket (R73, R320). -/
inductive PMsg where
  | cmp (opc : CmpOpc) (aid : Aid) (inc : Inc) (tag : Tag) (status : CStat) (rcpt : Nat) (isRead : Bool)
      (laddr : Line) (req : Opc) (origin : Origin)
  | chained (aid : Aid) (tag : Tag) (laddr : Line)
  | credit (src : Src) (aid : Aid) (inc : Inc) (data : Bool) (outcome : Option (Outc × Nat)) (origin : Origin)
  | loan (folios data : Nat)
  | handover (batch : List Nat)
  | tillDown
  deriving DecidableEq, Repr

/-- A P-plane message from a Wicket to a Till. -/
inductive WMsg where
  | foreclosed (folio : Nat) (aid : Aid) (laddr : Line) (lines : List Nat)
  | loanReq (data : Bool)
  /-- An acknowledgement of the hand-over or the failure of Till `src`. -/
  | handoverAck (src : Nat)
  deriving DecidableEq, Repr

/-- Read data on D, Till to Wicket (R321 KIND 1). -/
structure DMsg where
  aid : Aid
  inc : Inc
  tag : Tag
  data : LineData
  poison : Bool
  origin : Origin
  deriving DecidableEq, Repr

/-- The messages in flight; each list is in the order sent (R271). The pairs name Till and Wicket. -/
structure Net where
  q : List QFlit := []
  s : List SFlit := []
  p : List (Nat × Nat × PMsg) := []
  d : List (Nat × Nat × DMsg) := []
  pw : List (Nat × Nat × WMsg) := []
  /-- The batches for which a COPY_END is on its way to the destination (R390). -/
  copyEnd : List Nat := []
  /-- MARK packets of a forced transfer: failed Till and Wicket (R394). -/
  marks : List (Nat × Nat) := []
  deriving DecidableEq, Repr

/-! ## Wickets -/

/-- An admission entry (R344). -/
structure Adm where
  opc : Opc
  aid : Aid
  inc : Inc
  tag : Tag
  laddr : Line
  strm : Bool
  param : BitVec 8
  rcpt : Option Nat
  wdata : Option WData
  origin : Origin
  cls : Nat
  till : Nat
  bgen : Nat
  rgen : Nat
  epoch : Nat
  seq : Nat
  cclk : Nat
  keptEntry : Bool
  /-- Held at WS until drains or epochs let it proceed (R265, R268). -/
  held : Bool
  /-- In the bypass, in the order it became eligible (R349). -/
  bypass : Option Nat
  deriving DecidableEq, Repr

/-- An agent's unused credits at one Till (R128). -/
structure Cred where
  folios : Nat := 0
  data : Nat := 0
  keptF : Nat := 0
  keptD : Nat := 0
  /-- Requests injected whose credit has not yet returned (R396). -/
  open_ : Nat := 0
  deriving DecidableEq, Repr

/-- A Wicket's loan credits for one Till (R130, R131). -/
structure Loan where
  folios : Nat := 0
  data : Nat := 0
  inUseF : Nat := 0
  inUseD : Nat := 0
  asked : Bool := false
  idleTick : Nat := 0
  deriving DecidableEq, Repr

/-- An outstanding snoop of a Wicket (R84, R293). -/
structure Snoop where
  till : Nat
  folio : Nat
  opc : SnpOpc
  aid : Aid
  laddr : Line
  blk : Nat
  undone : List Nat
  startTick : Nat
  timeout : Nat
  /-- Taken while Grace runs and not yet sent (R292). -/
  heldOut : Bool
  resent : Bool
  deriving DecidableEq, Repr

/-- A writeback admitted that has had neither its CMP nor a CHAINED notice (R79). -/
structure WbOpen where
  aid : Aid
  tag : Tag
  laddr : Line
  deriving DecidableEq, Repr

/-- A snoop response held behind a writeback (R79). -/
structure HeldRsp where
  opc : RspOpc
  r : Rsp
  deriving DecidableEq, Repr

/-- A completion received and not yet delivered: it waits for its data or behind an earlier one (R149, R221). -/
structure HeldCmp where
  till : Nat
  opc : CmpOpc
  aid : Aid
  inc : Inc
  tag : Tag
  status : CStat
  rcpt : Nat
  needData : Bool
  laddr : Line
  req : Opc
  origin : Origin
  deriving DecidableEq, Repr

/-- Data received whose completion has not yet come (R149). -/
structure HeldData where
  till : Nat
  d : DMsg
  deriving DecidableEq, Repr

/-- A batch of buckets in a Wicket's switch-over table, with the old owner (R388). -/
structure SwEntry where
  bucket : Nat
  old : Nat
  deriving DecidableEq, Repr

/-- A shaper (R351 to R356). -/
structure Shaper where
  fn : Fn := ⟨.off, false, false, 0⟩
  cfg : Word := BitVec.ofNat 64 (65535 * 2 ^ 32 + 8192 * 2 ^ 16)
  /-- A NEXT_REFILL change waits (R355). -/
  next : Bool := false
  rate : Nat := 8192
  burst : Nat := 65535
  credit : Int := 0
  deriving DecidableEq, Repr

/-- Per-agent shapers and round-robin memory at the agent's Wicket (R351, R354). -/
structure AgShape where
  sub : Shaper := {}
  svc : List Shaper := [{}, {}, {}, {}]
  lastCls : Nat := 3
  bulk : Bool := false
  deriving DecidableEq, Repr

/-- The entry credits the port logic holds for an agent (R344, R511). -/
structure EntCred where
  ord : Nat := 0
  kept : Nat := 0
  deriving DecidableEq, Repr

/-- One Wicket (R37). -/
structure Wicket where
  fn : Fn := ⟨.on, false, false, 0⟩
  entries : List Adm := []
  seq : Nat := 0
  bypassSeq : Nat := 0
  entCred : KV EntCred := []
  /-- Key: agent × 32 + Till. -/
  creds : KV Cred := []
  loans : KV Loan := []
  sids : KV Snoop := []
  /-- Freed SIDs of resent snoops, with the agent and lines: a later response to one is a duplicate (R230). -/
  dups : KV (Aid × List Nat) := []
  /-- Snoops that wait for a SID in the S ejection buffer (R84). -/
  sWait : List SFlit := []
  heldRsp : List HeldRsp := []
  wbs : List WbOpen := []
  heldCmp : List HeldCmp := []
  heldData : List HeldData := []
  /-- Messages toward agents in Grace (R292). -/
  graceOut : List (Aid × Out) := []
  /-- The switch-over table (R388). -/
  swTable : List SwEntry := []
  shaper : Shaper := {}
  lastSub : Nat := 1023
  /-- Agents of a link reset that have not yet left Foreclosing (R305, R343). -/
  resetting : List Aid := []
  /-- The failed Tills whose TILL_DOWN has been received, until the MARKs have been sent (R394). -/
  down : List Nat := []
  delayCount : Nat := 0
  deriving DecidableEq, Repr

/-- A posting-buffer entry (R263). -/
structure Post where
  aid : Aid
  laddr : Line
  mask : Word
  data : LineData
  poison : Bool
  epoch : Nat
  cclk : Nat
  seq : Nat
  draining : Bool
  deriving DecidableEq, Repr

/-- One write awaited by an agent's epochs (R268, R269). -/
structure EpochRec where
  epoch : Nat
  pending : Nat
  worst : Outc
  deriving DecidableEq, Repr

/-- A SETTLE that awaits completion (R268). -/
structure Settle where
  tag : Tag
  inc : Inc
  epoch : Nat
  origin : Origin
  deriving DecidableEq, Repr

/-- What WS keeps for an internal agent (R268). -/
structure WsAgent where
  epoch : Nat := 0
  epochs : List EpochRec := []
  settles : List Settle := []
  deriving DecidableEq, Repr

/-- A receipt handle of WS (R140). -/
structure Handle where
  aid : Aid
  opc : Opc
  laddr : Line
  tag : Tag
  param : BitVec 8
  till : Nat
  folio : Nat
  epoch : Nat
  deriving DecidableEq, Repr

/-- The state of WS beyond a Wicket (R37, R245). -/
structure WsState where
  post : KV Post := []
  postSeq : Nat := 0
  agents : KV WsAgent := []
  handles : KV Handle := []
  /-- RETRY completions that wait for a handle (R140). -/
  handleWait : List (Nat × HeldCmp) := []
  /-- The claim mirror: agent, page and whether a release is on its way (R257). -/
  mirror : List (Aid × Nat) := []
  deriving DecidableEq, Repr

/-! ## Agents, maps, walks -/

/-- One Agent Table entry (R280, R281). -/
structure Agent where
  kind : BitVec 2 := 0
  wicket : BitVec 4 := 0
  strm : Bool := false
  readmit : Bool := true
  autoRejoin : Bool := false
  inc : Inc := 0
  state : AState := .absent
  grace : Bool := false
  link : Bool := false
  deadMark : Bool := false
  cause : BitVec 4 := 0
  windowCount : BitVec 4 := 0
  identity : Word := 0
  remembered : Word := 0
  result : Nat := 0
  graceStart : Nat := 0
  graceLen : Nat := 0
  foreCount : BitVec 16 := 0
  resetSeen : Bool := false
  deathTick : Option Nat := none
  /-- The Tills that have committed the agent's escrow in the current join (R285). -/
  committed : List Nat := []
  escrowF : Nat := 0
  escrowD : Nat := 0
  folioEscrow : BitVec 16 := 0
  dataEscrow : BitVec 16 := 0
  postEn : Bool := true
  deriving DecidableEq, Repr

/-- One region of the Region table (R203): BASE and LIMIT as stored, ATTR fields. -/
structure Region where
  base : Word := 0
  limit : Word := 0
  attr : BitVec 32 := 0
  deriving DecidableEq, Repr

/-- The Bucket Map and Region table with their commits (R46 to R49, R401, R402). -/
structure Maps where
  bLive : KV Nat := []
  bPrev : KV Nat := []
  bShadow : KV Nat := []
  bGen : Nat := 0
  /-- Nodes (Wickets 0 to 8, 9 for AU) that have not switched; a commit runs while it is not empty. -/
  bPend : List Nat := []
  /-- The running commit is made by a transfer. -/
  bByTransfer : Bool := false
  bResult : Nat := 0
  rLive : KV Region := []
  rPrev : KV Region := []
  rShadow : KV Region := []
  rGen : Nat := 0
  rPend : List Nat := []
  rResult : Nat := 0
  rFail : Nat := 0
  deriving DecidableEq, Repr

/-- One walk of the Auditor over Vault sets and Cellar groups (R290, R300): the agents of its set with the sets
and groups each still has to be visited in. -/
structure WalkAgent where
  aid : Aid
  vaultLeft : KV Nat
  groupsLeft : Nat
  deriving DecidableEq, Repr

/-- The Auditor (R42): its walks and orders. -/
structure Auditor where
  fore : List WalkAgent := []
  /-- The Vault cursor (sets per Till) and group cursor of the foreclosure walk and the leave walk. -/
  foreSet : KV Nat := []
  foreGroup : Nat := 0
  leave : List WalkAgent := []
  leaveSet : KV Nat := []
  leaveGroup : Nat := 0
  /-- Regions whose clean walk runs, with the sets still to visit (R206). -/
  clean : KV Nat := []
  cellarCursor : Nat := 0
  cellarCredit : Nat := 0
  /-- The pass of the Cellar walk has been complete since this generation (R202). -/
  passGen : Nat := 0
  preload : Option (Nat × Nat × Nat) := none
  orderCred : KV Nat := []
  /-- Rows to retire: Till, bank and row (R375, R416). -/
  retire : List (Nat × Nat × Nat) := []
  deriving DecidableEq, Repr

/-- A Till transfer (R386 to R400). -/
structure Transfer where
  planned : Bool
  src : Nat
  dst : Nat
  state : Nat
  batch : List Nat
  /-- HANDOVER has been sent for the batch. -/
  notice : Bool
  copySent : Bool
  gateCclk : Nat
  /-- The destination had served requests when the source failed (R395, R397). -/
  served : Bool
  salvaged : Bool
  /-- Batches handed over. -/
  done : Nat
  deriving DecidableEq, Repr

/-! ## Exchange, Assay, power, sessions, Tally, Journal -/

/-- An Exchange link (R331 to R333). -/
structure Link where
  state : Nat := 0
  half0 : Bool := true
  half1 : Bool := true
  last : Nat := 0
  replay0 : Nat := 0
  replay1 : Nat := 0
  deriving DecidableEq, Repr

/-- One changed route entry of a running commit: source, destination, MARKs on their way by class, and
acknowledgements on their way and received (R336). -/
structure RouteStep where
  src : Nat
  dst : Nat
  marks : List Nat
  acking : List Nat
  acked : List Nat
  deriving DecidableEq, Repr

/-- A regulator (R327). -/
structure Reg where
  /-- Tokens in units of 1/256, negative by the flits held, at CCLK `cclk`. -/
  level : Int
  cclk : Nat
  deriving DecidableEq, Repr

/-- The Exchange (R313 to R339). -/
structure Exchange where
  links : KV Link := []
  routeSteps : List RouteStep := []
  routeBusy : Bool := false
  regs : KV Reg := []
  sampleCount : KV Nat := []
  /-- The Tick of the last bite of the stall watchdog at a local port (R334). -/
  localBite : Option Nat := none
  deriving DecidableEq, Repr

/-- A margin request that awaits its acknowledgement (R419). -/
structure MarginReq where
  id : Nat
  kind : Nat
  mv : Nat
  mhz : Nat
  tick : Nat
  /-- What follows the grant: 0 plan, 1 Hold, 2 Off, 3 Hold exit, 4 baseline. -/
  why : Nat
  deriving DecidableEq, Repr

/-- One step of the plan that stands (R416, R417). -/
inductive PlanStep where
  | volt (mv : Nat) | slow (mhz : Nat) | assist (t : Nat)
  deriving DecidableEq, Repr

/-- The Assay (R408 to R421). -/
structure Assay where
  vdd : Nat := 750
  mhz : Nat := 1200
  reqId : Nat := 0
  req : Option MarginReq := none
  /-- The second request of a plan that changes voltage and frequency (R410): mV and MHz. -/
  second : Option (Nat × Nat) := none
  /-- The steps of the plan that stands, the latest first. -/
  steps : List PlanStep := []
  /-- The step a margin request works for, and whether it is undone. -/
  plan : Option (PlanStep × Bool) := none
  /-- Source, slack and action of the ASSAY_PLAN record to come (R420). -/
  planRec : List Nat := []
  undoReady : Nat := 0
  /-- SCRUB_RATE as firmware last wrote it (R417). -/
  userScrub : Nat := 1024
  baselineDone : Bool := false
  /-- A scheduled quick check, full sweep or temperature reading has not been made (R414, R422). -/
  quickDue : Bool := false
  fullDue : Bool := false
  tjDue : Bool := false
  /-- TJ_HIGH was written in this Assay window (R422). -/
  tjSeen : Bool := false
  /-- TICK_COUNT to which powered age is recorded (R415). -/
  ageTick : Nat := 0
  deriving DecidableEq, Repr

/-- The power state machine (R423 to R430). -/
structure Power where
  state : Nat := 0
  pending : Option Nat := none
  result : Nat := 0
  wake : Nat := 0
  /-- The state that Hold was entered from. -/
  from_ : Nat := 0
  parked : List Nat := []
  /-- Off entry has passed Hold: CH writes the save image (R430). -/
  saving : Bool := false
  offReady : Bool := false
  /-- The supply granted for Hold, in mV (R426). -/
  heldMv : Nat := 0
  /-- Commands that arrived in Hold and are acted on after the exit (R427), and requests that wait at the boundary (R305,
  R426, R529). -/
  deferred : List Instr := []
  throttled : Bool := false
  deriving DecidableEq, Repr

/-- A session slot (R466). -/
structure Session where
  state : SesState := .free
  number : Nat := 0
  role : Nat := 0
  slot : Nat := 0
  nonce : BitVec 256 := 0
  key : List Byte := []
  seq : Nat := 0
  opened : Nat := 0
  lastTick : Nat := 0
  macFails : Nat := 0
  idle : Nat := 0
  window : Nat := 0
  debug : Bool := false
  deriving DecidableEq, Repr

/-- An INJECT whose completion has not come (R476): the Teller request that waits for it. -/
structure Inject where
  eid : BitVec 8
  auth : Bool
  session : Nat
  seq : Nat
  slot : Nat
  deriving DecidableEq, Repr

/-- Sessions, Quarantine and debug (R459 to R481). -/
structure Sec where
  sessions : List Session := [{}, {}, {}, {}]
  nextSession : Nat := 1
  draws : Nat := 0
  proofFails : Nat := 0
  quarantine : Bool := false
  quarantines : Nat := 0
  lastOpProve : Option Nat := none
  level : Nat := 0
  locks : List (Nat × Nat) := []
  keyStage : List Byte := []
  keyTarget : Nat := 0
  keyResult : Nat := 0
  /-- The key blow in progress: slot index and whether it revokes. -/
  keyBlow : Option (Nat × Bool) := none
  /-- The verifier that a PROGRAM in progress blows: KEY_STAGE is cleared at once (R461). -/
  keyImage : List Byte := []
  lifeResult : Nat := 0
  lifeBlow : Option Nat := none
  /-- Requests injected whose completion is awaited, by number (R476). -/
  injects : KV Inject := []
  injectCtr : Nat := 0
  deriving DecidableEq, Repr

/-- The segment context (R445). -/
structure Seg where
  target : Nat := 0
  number : Nat := 0
  length : Nat := 0
  snap : List Byte := []
  stage : List Byte := []
  result : Nat := 0
  deriving DecidableEq, Repr

/-- A window of a Reckoner channel (R484, R485). -/
structure Win where
  min : Nat := 0
  max : Nat := 0
  sum : Nat := 0
  count : Nat := 0
  flags : Nat := 0
  hist : KV Nat := []
  deriving DecidableEq, Repr

/-- A Reckoner channel (R482 to R486). -/
structure Chan where
  cfg : BitVec 32 := 0x80000000
  pending : Option (BitVec 32) := none
  cur : Win := {}
  last : Win := {}
  /-- The channel was cleared since the last sweep: its WIN_NUMBER reads 0 (R504). -/
  cleared : Bool := false
  deriving DecidableEq, Repr

/-- A sample on its way to TY (R482). `value` is none where the value is a latency inside the Exchange (DESIGN CHOICE, log entry 16). -/
structure Sample where
  chan : Nat
  measure : Nat
  filter : Nat
  value : Option Nat
  deriving DecidableEq, Repr

/-- The Reckoner (R482 to R486): every channel is swept at one boundary, so the window numbers are the same for all. -/
structure Tally where
  chans : KV Chan := []
  inbox : List Sample := []
  /-- TICK_COUNT of each window boundary whose sweep has not been made. -/
  due : List Nat := []
  curNum : Nat := 0
  lastNum : Nat := 0
  /-- The open window contained Hold (R505). -/
  held : Bool := false
  deriving DecidableEq, Repr

/-- A Journal record (R490). -/
structure JRec where
  code : Nat
  stream : Nat
  src : Nat
  aid : Option Aid
  args : List Nat
  tick : Nat
  ptm : Nat
  ptmInv : Bool
  seq : Nat := 0
  deriving DecidableEq, Repr

/-- A coalesced Alarm cause of the current period (R497). -/
structure Cause where
  code : Nat
  src : Nat
  count : Nat
  last : JRec
  deriving DecidableEq, Repr

/-- The drops since the last GAP record (R498). -/
structure Drops where
  policed : Nat := 0
  full : Nat := 0
  first : Nat := 0
  last : Nat := 0
  code : Nat := 0
  deriving DecidableEq, Repr

/-- A Journal stream (R493 to R502). -/
structure Stream where
  fn : Fn := ⟨.on, false, false, 0⟩
  fill : List JRec := []
  drain : List JRec := []
  /-- Words of the oldest drain record already read by the window. -/
  word : Nat := 0
  lastWord : Word := 0
  seq : Nat := 0
  tokens : Nat := 0
  exempt : List (Nat × Nat) := []
  drops : Drops := {}
  underrun : Bool := false
  wptr : Nat := 0
  wptr2 : Nat := 0
  rptr : Nat := 0
  rptr2 : Nat := 0
  toggle : Bool := false
  deriving DecidableEq, Repr

/-- A first-fault register (R503): CODE, TICK and ARG0. -/
structure FirstFault where
  code : Nat
  tick : Nat
  arg : Nat
  deriving DecidableEq, Repr

/-- The Journal (R490 to R504). -/
structure Journal where
  streams : List Stream :=
    [{ tokens := 256 }, { tokens := 64 }, { tokens := 512 }, { tokens := 256 }]
  /-- Records on their way to JN on the D plane (R493). -/
  inbox : List JRec := []
  causes : List Cause := []
  /-- Key: Till. -/
  ff : KV (List FirstFault) := []
  traceCount : Nat := 0
  /-- TICK_COUNT of each alarm period boundary that has not been handled (R497). -/
  alarmDue : List Nat := []
  deriving DecidableEq, Repr

/-- OTP and fuses (R532). -/
structure Fuses where
  build : Build := .h1L
  autoStart : Bool := false
  iana : BitVec 32 := 0
  jtagMaker : BitVec 11 := 0
  lot : List Byte := List.replicate 12 0
  wafer : Byte := 0
  dieX : Byte := 0
  dieY : Byte := 0
  testDate : BitVec 32 := 0
  fuseMap : BitVec 16 := 0
  stepping : Byte := 0
  hallmarkCrc : BitVec 32 := 0
  /-- s0, a, n of logic, SRAM, link (R434). -/
  model : List Nat := [0, 0, 0, 0, 0, 0, 0, 0, 0]
  tempCoef : List Int := [0, 0, 0]
  vGain : Nat := 0
  ageBits : Nat := 0
  lifecycle : Nat := 0
  /-- Key slots: state, and the verifier of 48 bytes. Index role × 4 + slot (R460). -/
  keys : KV (Nat × List Byte) := []
  /-- Row remaps: Till, bank, row and spare (R375). -/
  remaps : List (Nat × Nat × Nat × Nat) := []
  deriving DecidableEq, Repr

/-- The timebase (R55 to R59, R411). -/
structure Time where
  /-- CCLK since the model's start, and the time in ps. -/
  cclk : Nat := 0
  ps : Nat := 0
  tick : Nat := 0
  substitute : Bool := false
  /-- Times of the last accepted Tick, of the last external strobe and of the last substitute Tick, in ps. -/
  lastTick : Nat := 0
  lastExt : Option Nat := none
  lastSub : Nat := 0
  run : Nat := 0
  ptm : Word := 0
  ptmValid : Bool := false
  tickPs : Nat := 0
  deriving DecidableEq, Repr

/-- The save image in device memory, as CH last wrote it (R430). It lies outside the block. -/
structure Image where
  lot : List Byte
  wafer : Byte
  dieX : Byte
  dieY : Byte
  tick : Nat
  ptm : Word
  ptmValid : Bool
  cellarGen : Nat
  consumed : Bool
  chart : KV Word
  agents : KV Agent
  maps : Maps
  sec : Nat × Bool × Nat
  /-- The class K entries that the state holds beside the plain ones: the functions, the Tills with role, cause and
  CE_TABLE, the shapers, the channels' configuration, the lost-write table and the Cellar. -/
  tills : List (Fn × Role × Nat × KV CeEntry)
  wickets : List (Fn × Shaper)
  ways : List Fn
  streams : List Fn
  shapes : KV AgShape
  chanCfg : KV (BitVec 32)
  lost : List (Word × Word)
  cellarOn : Bool
  cellarFloor : Nat
  deriving DecidableEq, Repr

/-- The pins of R528 and the outputs that the manual holds as levels. -/
structure Pins where
  pwrGood : Bool := true
  brownout : Bool := false
  warn : Bool := false
  quiesceState : Nat := 0
  deriving DecidableEq, Repr

/-- The Home. -/
structure State where
  /-- The commands that wait, first in first out. -/
  pending : List Instr := []
  /-- Everything sent across the boundary, oldest first. -/
  out : List Out := []
  /-- Counts the free values used; the model's own field (DESIGN CHOICE, log entry 6). -/
  freeCtr : Nat := 0
  boot : Boot := .filling
  /-- GLOBAL_STATE (R454): 1 CONFIG, 2 READY, 3 FATAL. -/
  global : Nat := 1
  startSeen : Bool := false
  resetCause : Nat := 0
  /-- RESUME was sampled at 1, and the resume has not ended (R431). -/
  resuming : Bool := false
  /-- A function reset is in progress (R456). -/
  inReset : Bool := false
  fatal : Bool := false
  pins : Pins := {}
  fuses : Fuses := {}
  time : Time := {}
  /-- The plain Chart entries: key index × 256 + subindex (R435). -/
  chart : KV Word := []
  seg : Seg := {}
  agents : KV Agent := []
  maps : Maps := {}
  net : Net := {}
  wickets : List Wicket := List.replicate 9 {}
  ws : WsState := {}
  shapes : KV AgShape := []
  tills : List Till :=
    List.replicate 16 { role := .active } ++ List.replicate 2 { role := .spare }
  /-- The event signals of the Wickets that were 1 at the last cycle seen: code and unit (R488). -/
  cond : List (Nat × Nat) := []
  /-- Reads returned by each port, for one sample in every 256 (R482). -/
  portReads : KV Nat := []
  /-- CHSTAT of each port (R516). -/
  chstat : KV (BitVec 16) := []
  /-- 0 OFF, 1 CLEARING, 2 ON (R215). -/
  cellarState : Nat := 0
  cellarGen : Nat := 0
  cellarFloor : Nat := 0
  cellarLocked : Bool := false
  saveLocked : Bool := false
  interleaveLocked : Bool := false
  ways : List Fn := List.replicate 16 ⟨.on, false, false, 0⟩
  /-- The lost-write table: LOST_WRITE and LOST_TICK (R272). -/
  lost : List (Word × Word) := []
  au : Auditor := {}
  transfers : List Transfer := []
  exch : Exchange := {}
  assay : Assay := {}
  power : Power := {}
  sec : Sec := {}
  tally : Tally := {}
  journal : Journal := {}
  image : Option Image := none
  coldDraw : Nat := 0
  tap : Nat := 1
  deriving DecidableEq, Repr

/-- The Home right after a cold reset: PWR_GOOD is high, the bring-up fill has not ended, the Chart is unavailable and
every entry holds its default (R306, R531). The build and the fuses are the model's (DESIGN CHOICE, log entry 4). -/
def State.reset : State := {}

end Sys2Proof.Machine
end

