-- ==== Sys2Proof/Machine/Entries.lean ====
section
/-! DEFINITION. The Chart entries (R29, R66, R108, R152, R215, R243, R277, R312, R339, R365, R407, R434, R453, R458,
R481, R506, R535): type, access, class, default and the owner's range of each (R435 to R438). -/

namespace Sys2Proof.Machine

/-- The types of R436. -/
inductive Ty where
  | bool | u8 | u16 | u32 | u64 | s32 | enum | bitmap (n : Nat) | octets (n : Nat) | string (n : Nat)
  deriving DecidableEq, Repr

/-- The code of a type in Teller responses (R436). -/
def Ty.code : Ty → Nat
  | .bool => 1 | .u8 => 2 | .u16 => 3 | .u32 => 4 | .u64 => 5 | .s32 => 6 | .enum => 7 | .bitmap _ => 8
  | .octets _ => 9 | .string _ => 10

/-- The width of a type in bits (R436). -/
def Ty.width : Ty → Nat
  | .bool => 1 | .u8 => 8 | .u16 => 16 | .u32 => 32 | .u64 => 64 | .s32 => 32 | .enum => 8 | .bitmap n => n
  | .octets n => 8 * n | .string n => 8 * n

/-- The length of a value in bytes, as Teller READ and WRITE count it (R450). -/
def Ty.bytes : Ty → Nat
  | .bool => 1 | .u8 => 1 | .u16 => 2 | .u32 => 4 | .u64 => 8 | .s32 => 4 | .enum => 1 | .bitmap n => (n + 7) / 8
  | .octets n => n | .string n => n

/-- A long entry: longer than one slot (R436). -/
def Ty.long (t : Ty) : Bool := t.bytes > 8

/-- The access classes of R437. -/
inductive Acc where | ro | rw | wo | w1c | rwl | cmd
  deriving DecidableEq, Repr

/-- The persistence classes of R438. -/
inductive Cls where | v | k | f
  deriving DecidableEq, Repr

/-- One entry of the dictionary: `lo` to `hi` is the owner's range of a written value. -/
structure Entry where
  ty : Ty
  acc : Acc
  cls : Cls
  d : Nat := 0
  lo : Nat := 0
  hi : Nat := 2 ^ 64
  deriving DecidableEq, Repr

/-- A row of the dictionary at a fixed index and subindex. -/
abbrev ERow := Nat × Nat × Entry

/-- Shorthands for rows that only report: class V, class K and class F. -/
def roV (t : Ty) : Entry := ⟨t, .ro, .v, 0, 0, 2 ^ 64⟩
def roK (t : Ty) (d : Nat := 0) : Entry := ⟨t, .ro, .k, d, 0, 2 ^ 64⟩
def roF (t : Ty) (d : Nat := 0) : Entry := ⟨t, .ro, .f, d, 0, 2 ^ 64⟩
/-- Shorthand for a class K control with default and range. -/
def rwK (t : Ty) (d : Nat) (lo : Nat := 0) (hi : Nat := 2 ^ 64) : Entry := ⟨t, .rw, .k, d, lo, hi⟩
/-- Shorthand for a command. -/
def cmdV : Entry := ⟨.u8, .cmd, .v, 0, 0, 2 ^ 64⟩

/-- Identity, Hallmark and global entries (R29, R453, R458, R535). -/
def rows1 : List ERow := [
  (0x1000, 0, roF .u16 0x0100), (0x1000, 1, roF .u64 0x44454345534B4831), (0x1000, 2, roF .enum), (0x1000, 3, roF .u8),
  (0x1000, 4, roF .u8), (0x1000, 5, roF .u8), (0x1000, 6, roF (.string 8)), (0x1000, 7, roF (.string 16)),
  (0x1000, 8, roF .u32),
  (0x1001, 0, roF (.string 12)), (0x1001, 1, roF .u8), (0x1001, 2, roF .u8), (0x1001, 3, roF .u8),
  (0x1001, 4, roF .u32), (0x1001, 5, roF .u16), (0x1001, 6, roF .u8), (0x1001, 7, roF .u32),
  (0x1002, 0, roF .u32),
  (0x1100, 0, roV .enum), (0x1100, 1, cmdV), (0x1100, 2, roV .enum), (0x1100, 3, roF .bool), (0x1100, 4, roV .enum),
  (0x1100, 5, roK .u32), (0x1100, 6, roV .u32), (0x1100, 7, roV .u64), (0x1100, 8, roV .u64),
  (0x1100, 9, roV (.bitmap 64)), (0x1100, 0xA, roV .u64), (0x1100, 0xB, rwK (.bitmap 11) 0x1C3),
  (0x1110, 0, ⟨.u32, .rw, .v, 0, 0, 2 ^ 64⟩), (0x1110, 1, ⟨.u16, .rw, .v, 0, 0, 2 ^ 64⟩),
  (0x1110, 2, ⟨.u64, .rw, .v, 0, 0, 2 ^ 64⟩), (0x1110, 3, roV .u16), (0x1110, 4, roV .enum)]

/-- Home configuration entries (R66, R108, R243, R312, R407, R535). -/
def rows2 : List ERow := [
  (0x2010, 0, cmdV), (0x2010, 1, roK .u32), (0x2010, 2, roK .enum), (0x2011, 0, ⟨.enum, .rwl, .k, 2, 0, 2⟩),
  (0x2012, 0, cmdV), (0x2012, 1, roK .u32), (0x2012, 2, roK .enum), (0x2012, 3, roV .u8),
  (0x2020, 0, rwK .bool 1), (0x2020, 1, roV .u64), (0x2020, 2, rwK .bool 1), (0x2020, 3, roV .u32),
  (0x2020, 4, roV .u32), (0x2020, 5, roV .u32), (0x2020, 6, roV .u32),
  (0x2030, 0, roV .u32), (0x2030, 1, roV .u64), (0x2030, 2, roV .u64), (0x2030, 3, roV .u64), (0x2030, 4, roV .u32),
  (0x2030, 5, roV .u32), (0x2030, 6, roV .u32), (0x2030, 7, roV .u32), (0x2030, 8, roV .u32),
  (0x2080, 0, rwK .u32 65536 0 16777215), (0x2080, 1, rwK .u32 4096 64 1048576), (0x2080, 2, rwK .u16 384 16 4096),
  (0x2080, 3, rwK .u16 64 8 2048), (0x2080, 4, rwK .u8 4 1 15), (0x2080, 5, rwK .u32 1048576), (0x2080, 6, roV .enum),
  (0x2080, 7, roV .u16), (0x2080, 8, roV .u32), (0x2080, 9, roV .u64), (0x2080, 0xA, roV .u32),
  (0x2080, 0xB, roV .u32),
  (0x2090, 0, rwK .u16 16 2 4096), (0x2090, 1, rwK .u16 16 2 4096)]

/-- Cellar entries (R215). -/
def rows3 : List ERow := [
  (0x3F00, 0, ⟨.u64, .rwl, .k, 0, 0, 2 ^ 64⟩), (0x3F00, 1, ⟨.enum, .rwl, .k, 2, 0, 3⟩), (0x3F00, 2, cmdV),
  (0x3F00, 3, roK .enum), (0x3F00, 4, roK .u8), (0x3F00, 5, roV .u32), (0x3F00, 6, roK (.bitmap 64)),
  (0x3F00, 7, rwK .u8 48 1 64), (0x3F00, 8, roV .u64), (0x3F00, 9, roV .u64), (0x3F00, 0xA, roV .u64),
  (0x3F00, 0xB, roV .u64), (0x3F00, 0xC, roV .u64), (0x3F00, 0xD, roV .u64), (0x3F00, 0xE, roV .enum),
  (0x3F10, 0, cmdV), (0x3F10, 1, rwK .u64 0), (0x3F10, 2, rwK .u64 0), (0x3F10, 3, roV .enum),
  (0x3F10, 5, roV .u32), (0x3F10, 6, roV .u32), (0x3F10, 7, rwK .u16 256 16 4096), (0x3F10, 8, roV .enum)]

/-- Ledger, escrow, Claim, monitor, posting and Settle entries (R152, R277). -/
def rows4 : List ERow := [
  (0x4010, 0, rwK .u16 8), (0x4010, 1, rwK .u16 2), (0x4010, 2, roF .u16 256), (0x4010, 3, roK .u16 8192),
  (0x4010, 4, roK .enum), (0x4010, 5, roK .u16 2048),
  (0x4011, 0, rwK .u8 16 1 64), (0x4011, 1, rwK .u16 1024 16 8192), (0x4011, 2, rwK .u16 512 16 4096),
  (0x4011, 3, rwK .u16 4 1 4096),
  (0x4012, 0, rwK .u16 64 8 65535), (0x4012, 1, roV .u32), (0x4012, 2, roV .u32), (0x4012, 3, roV .u32),
  (0x4012, 4, roV .u32),
  (0x4100, 0, rwK .u32 64 16 1048576), (0x4100, 1, rwK .u32 256 16 1048576), (0x4100, 2, rwK .u32 1024 16 1048576), (0x4100, 3, rwK .u32 4096 16 1048576),
  (0x4100, 4, rwK .u32 16384 16 1048576), (0x4100, 5, rwK .u32 65536 16 1048576), (0x4100, 6, rwK .u32 262144 16 1048576),
  (0x4100, 7, rwK .u32 1048576 16 1048576),
  (0x4101, 0, rwK .u8 16 1 128), (0x4101, 1, rwK .u32 65536 256 1048576), (0x4101, 2, roV .u64), (0x4101, 3, roV .u32),
  (0x4101, 4, roV .u32), (0x4101, 5, roV .u32), (0x4101, 6, roV .u32),
  (0x4200, 0, rwK .u16 16 1 4096), (0x4200, 1, roV .u32), (0x4200, 2, roV .u32),
  (0x4300, 0, rwK .u16 64 4 4096), (0x4300, 1, rwK .u16 384 16 496), (0x4300, 2, roV .u16), (0x4300, 3, roV .u64),
  (0x4300, 4, roV .u64), (0x4300, 5, roV .u64), (0x4300, 6, roV .u32), (0x4300, 7, roF .u8 4),
  (0x4310, 0, roV .u8), (0x4310, 1, roV .u32), (0x4310, 2, cmdV)]

/-- Exchange entries (R339). -/
def rows5 : List ERow := [
  (0x5000, 0, cmdV), (0x5000, 1, roK .enum), (0x5000, 2, roK .u32), (0x5000, 3, roV .u16), (0x5000, 4, rwK .u16 64 0 4096),
  (0x5000, 5, rwK .u16 16 2 65535), (0x5000, 6, rwK .u8 4 1 64), (0x5000, 7, roV .u8), (0x5000, 8, roV .u8),
  (0x5000, 9, roV .u64)]

/-- Admission and bank arbitration entries (R365). -/
def rows6 : List ERow := [
  (0x6010, 0, rwK .u16 6 1 14), (0x6010, 1, rwK .u16 1024 16 8192), (0x6010, 2, rwK .u16 256 0 65535),
  (0x6010, 3, rwK .u16 16 4 4096),
  (0x6800, 0, rwK .u32 0x020608F0), (0x6800, 1, rwK .u32 0xFF104004), (0x6800, 2, rwK .u16 2 1 1024)]

/-- Integrity and repair entries (R407). -/
def rows7 : List ERow := [
  (0x7000, 0, rwK .u16 1024 0 16384), (0x7000, 1, rwK .u16 64 0 4096), (0x7000, 2, rwK .u16 256 16 4096),
  (0x7000, 3, rwK .u16 1024 64 16384), (0x7000, 4, rwK .u64 0x100000000000), (0x7000, 5, rwK .u8 4 1 255),
  (0x7000, 6, rwK .u32 1048576), (0x7000, 7, rwK .u16 4 3 1024), (0x7000, 8, roK .bool), (0x7000, 9, rwK .u8 1 1 16),
  (0x7010, 0, roK .enum), (0x7010, 1, roK .u8 0xFF), (0x7010, 2, roK .u8 0xFF), (0x7010, 3, roV .u16),
  (0x7010, 4, roV .u32), (0x7010, 5, roV .u32), (0x7010, 6, roV .u32), (0x7010, 7, roV .u32), (0x7010, 8, roV .u32)]

/-- Assay, power and timebase entries (R66, R434, R535). -/
def rows8 : List ERow := [
  (0x8000, 0, rwK .enum 2 0 2), (0x8000, 3, rwK .u16 20 5 200), (0x8000, 4, rwK .u16 10 2 100), (0x8000, 5, rwK .u32 87660),
  (0x8000, 6, rwK .u8 10 5 25), (0x8000, 7, rwK .u16 800 750 850), (0x8000, 9, rwK .u16 2000 1200 2200),
  (0x8000, 0xA, roV .u16), (0x8000, 0xB, roV .u16), (0x8000, 0xC, roV .u32), (0x8000, 0xD, roV .u32),
  (0x8000, 0xE, roV .s32), (0x8000, 0xF, roV .u32),
  (0x8001, 0, roF .u32), (0x8001, 1, roF .u32), (0x8001, 2, roF .u32), (0x8001, 3, roF .u32), (0x8001, 4, roF .u32),
  (0x8001, 5, roF .u32), (0x8001, 6, roF .u32), (0x8001, 7, roF .u32), (0x8001, 8, roF .u32), (0x8001, 9, roF .s32),
  (0x8001, 0xA, roF .s32), (0x8001, 0xB, roF .s32), (0x8001, 0xC, roF .u16), (0x8001, 0xF, roF .u32),
  (0x8040, 1, rwK .u32 3900 900 7800), (0x8040, 2, roK .u64), (0x8040, 3, roK .enum), (0x8040, 4, roV .u32),
  (0x8040, 5, roV .u32), (0x8040, 6, roV .u32), (0x8040, 7, roV .u64), (0x8040, 8, roV .bool),
  (0x8050, 0, cmdV), (0x8050, 1, roK .enum), (0x8050, 2, roV .enum), (0x8050, 3, roV .enum), (0x8050, 4, roV .enum),
  (0x8050, 5, rwK .u16 0xFF00), (0x8050, 7, rwK .bool 1), (0x8050, 8, rwK .u16 600 550 700),
  (0x8051, 0, ⟨.u64, .rwl, .k, 0, 0, 2 ^ 64⟩), (0x8051, 1, rwK .bool 0), (0x8051, 2, roK .u32), (0x8051, 3, roV .enum),
  (0x8060, 0, rwK .u16 64 4 4096), (0x8060, 1, roV .u64), (0x8060, 2, roV .u32),
  (0x8070, 0, rwK .s32 1050 850 1090), (0x8070, 1, roV .s32), (0x8070, 2, roV .u32),
  (0x8080, 0, roV .u32), (0x8080, 1, roV .enum)]

/-- Session, key and debug entries (R481). -/
def rows9 : List ERow := [
  (0x9000, 0, roF .enum), (0x9000, 1, cmdV), (0x9000, 2, roV .enum), (0x9000, 3, roK .bool), (0x9000, 4, roK .u8),
  (0x9000, 5, roK .u32),
  (0x9001, 0, rwK .u32 67108864 65536 4294967295), (0x9001, 1, rwK .u32 65536 256 16777216),
  (0x9001, 2, rwK .u32 65536 4096 16777216), (0x9001, 3, roV .u8), (0x9001, 4, roV .u32),
  (0x9011, 0, cmdV), (0x9011, 1, ⟨.octets 48, .wo, .v, 0, 0, 2 ^ 64⟩), (0x9011, 2, ⟨.u8, .rw, .v, 0, 0, 15⟩),
  (0x9011, 3, roV .enum),
  (0x9020, 0, roV .enum), (0x9020, 1, roV .u16), (0x9020, 2, roV (.bitmap 18)), (0x9020, 3, rwK .u32 262144 16 16777216),
  (0x9020, 4, roV .u8)]

/-- Tally and Journal entries at fixed indices (R506). -/
def rowsB : List ERow := [
  (0xB800, 0, rwK .u32 256 16 16777216), (0xB800, 1, roV .u64), (0xB800, 2, roV .u64),
  (0xB800, 3, ⟨.bool, .rw, .v, 0, 0, 2 ^ 64⟩), (0xB800, 4, cmdV),
  (0xC010, 0, rwK .u32 65536 256 16777216), (0xC011, 0, rwK .u16 0x8000), (0xC011, 2, rwK (.bitmap 64) 0),
  (0xC011, 3, rwK .u64 0), (0xC011, 4, rwK .u64 0xFFFFFFFFFC0), (0xC011, 5, rwK .u16 1 1 65535)]

/-- The entry of a row list. -/
def findRow (l : List ERow) (i j : Nat) : Option Entry := (l.find? (fun r => r.1 == i && r.2.1 == j)).map (·.2.2)

/-- The channels of the build (R482, R505). -/
def chanCount (b : Build) : Nat := 1024 + b.tills + (b.wickets + 1) + b.ports + b.nodeIds.length

/-- The default SHAPER value: rate 8,192 and burst 65,535 (R351). -/
def shaperDefault : Nat := 65535 * 2 ^ 32 + 8192 * 2 ^ 16

/-- The entries of Till blocks 0x3000 + 0x80 × T, offset `o` (R215, R365, R407). -/
def tillRow (o j : Nat) : Option Entry :=
  if o == 0x10 then
    (if j ≤ 2 then some (roV .u32) else if j ≤ 4 then some (roV .u8) else none)
  else if o == 0x20 then
    (if j ≤ 1 then some (roV .u64) else if j == 2 then some (roV (.bitmap 16)) else if j == 3 then some (roV .u8) else none)
  else if o == 0x30 then
    (if j ≤ 1 then some (roV .u64) else if j ≤ 4 then some (roV .u32) else if j == 5 then some (roV .u8)
     else if j == 6 then some (roV .u32) else if 0x10 ≤ j && j ≤ 0x2F then some (roK .u64)
     else if 0x40 ≤ j && j ≤ 0x7F then some (roK .u64) else none)
  else if o == 0x40 then (if j ≤ 0xF then some (roF .u8) else none)
  else none

/-- The entries of a Wicket at 0x6000 + w (R365). -/
def wicketRow (j : Nat) : Option Entry :=
  match j with
  | 0 | 2 | 4 => some cmdV
  | 1 => some (roK .u16 2)
  | 3 => some (rwK .u64 shaperDefault)
  | 5 => some (roK .u16 0)
  | 6 => some (roV .s32)
  | 7 => some (roV .u16)
  | 8 | 0xA | 0xB => some (roV .u32)
  | 9 => some (roV .u64)
  | _ => none

/-- The entries of an agent's shapers at 0x6100 + n (R365). -/
def shaperRow (j : Nat) : Option Entry :=
  if j == 0 then some (rwK .u64 shaperDefault) else if j == 1 then some cmdV else if j == 2 then some (roK .u16 0)
  else if j == 3 then some (roV .s32)
  else if 0x10 ≤ j && j ≤ 0x13 then some (rwK .u64 shaperDefault) else if 0x14 ≤ j && j ≤ 0x17 then some cmdV
  else if 0x18 ≤ j && j ≤ 0x1B then some (roK .u16 0) else if 0x1C ≤ j && j ≤ 0x1F then some (roV .s32)
  else if 0x20 ≤ j && j ≤ 0x23 then some (roV .u16) else if j == 0x24 then some (rwK .bool 0) else none

/-- The entries of a Journal stream at 0xC000 + s (R506). -/
def streamRow (s j : Nat) : Option Entry :=
  match j with
  | 0 => some (roV .u64)
  | 1 => some cmdV
  | 2 => some (roK .u16 2)
  | 3 => some (roV .u32)
  | 4 => some ⟨.bool, .w1c, .v, 0, 0, 2 ^ 64⟩
  | 5 => some (rwK .u16 ([16, 8, 64, 256].getD s 0) 1 4096)
  | 6 => some (rwK .u16 ([256, 64, 512, 256].getD s 0) 1 4096)
  | 7 | 8 | 0xB => some (roV .u64)
  | 9 | 0xA => some (roV .u32)
  | _ => none

/-- Is the link at position `d` (0 the outgoing X link, 1 the outgoing Y link) of node `n` built. -/
def hasLink (b : Build) (l : Nat) : Bool := decide (l / 2 % 8 < b.side) && decide (l / 16 < b.side)

/-- The entries at indices that name a Till, Wicket, memory port, node, link, agent, channel, region or bucket. -/
def indexedRow (b : Build) (i j : Nat) : Option Entry :=
  if 0x2041 ≤ i && i < 0x2080 then (if j < 16 then some (rwK .u64 0) else none)
  else if 0x2091 ≤ i && i < 0x2095 then
    (if b.hasPort (i - 0x2091) then
      (if j == 0 then some (roV (.bitmap 16)) else if j ≤ 4 then some (roV .u32) else none) else none)
  else if 0x2100 ≤ i && i < 0x2140 then
    (match j with
     | 0 | 1 => some (roK .u64) | 2 => some (roK .u32) | 0x10 | 0x11 => some (rwK .u64 0)
     | 0x12 => some (rwK .u32 0) | _ => none)
  else if 0x2200 ≤ i && i < 0x2300 then
    (if j < 16 then some (roK .u8) else if j < 32 then some (rwK .u8 0) else none)
  else if 0x3000 ≤ i && i < 0x3900 then
    (if b.hasTill ((i - 0x3000) / 0x80) then tillRow ((i - 0x3000) % 0x80) j else none)
  else if 0x3F20 ≤ i && i < 0x3F30 then
    (if j == 0 then some cmdV else if j == 1 then some (roK .u16 2) else none)
  else if i == 0x3F30 then (if j < 16 && b != .h1L then some (rwK .u16 0xFFFF 1 0xFFFF) else none)
  else if 0x4020 ≤ i && i < 0x4032 then
    (if b.hasTill (i - 0x4020) then
      (if j ≤ 3 || 5 ≤ j && j ≤ 7 then some (roV .u16) else if j == 4 then some (roV .u8) else none) else none)
  else if 0x4110 ≤ i && i < 0x4122 then (if b.hasTill (i - 0x4110) && j ≤ 1 then some (roV .u8) else none)
  else if 0x4210 ≤ i && i < 0x4222 then (if b.hasTill (i - 0x4210) && j == 0 then some (roV .u8) else none)
  else if 0x4311 ≤ i && i < 0x4351 then (if j ≤ 1 then some (roK .u64) else none)
  else if 0x4400 ≤ i && i < 0x4800 then
    (if j ≤ 1 then some (rwK .u16 0) else if j == 2 then some (roV .u32) else none)
  else if 0x4800 ≤ i && i < 0x4C00 then
    (if j == 0 then some (rwK .bool 1) else if j == 1 then some (roV .u8) else none)
  else if 0x5100 ≤ i && i < 0x5140 then
    (if j < 64 then some (roK .u32)
     else if j < 128 then some (if (b.nodeAt (i - 0x5100)).isSome then rwK .u32 0 else roK .u32) else none)
  else if 0x5200 ≤ i && i < 0x5240 then
    (if j ≤ 4 then some (if (b.nodeAt (i - 0x5200)).isSome then rwK .u32 0 else roK .u32) else none)
  else if 0x5300 ≤ i && i < 0x5340 then (if j ≤ 6 then some (roV .u64) else none)
  else if 0x5400 ≤ i && i < 0x5480 then
    (if j == 1 then some (if hasLink b (i - 0x5400) then cmdV else roV .u8) else if j ≤ 3 then some (roV .u32) else none)
  else if 0x6000 ≤ i && i ≤ 0x6008 then (if b.hasWicket (i - 0x6000) then wicketRow j else none)
  else if 0x6100 ≤ i && i < 0x6500 then shaperRow j
  else if 0x7100 ≤ i && i < 0x7112 then
    (if b.hasTill (i - 0x7100) then
      (match j with
       | 0 => some cmdV | 1 => some (roK .u16 2) | 2 => some (roK .enum) | 3 => some (roK .u16)
       | 4 => some (roK .enum) | 5 => some (roV .u64) | _ => none) else none)
  else if 0x8010 ≤ i && i < 0x8022 then
    (if b.hasTill (i - 0x8010) then
      (match j with
       | 0 | 1 | 2 => some (roV .s32) | 3 => some (roV .u8) | 4 => some (roV (.bitmap 16)) | _ => none) else none)
  else if 0x8400 ≤ i && i < 0x8480 then (if hasLink b (i - 0x8400) && j == 0 then some (roV .s32) else none)
  else if 0x9002 ≤ i && i < 0x9006 then (if j == 0 then some (roV .u64) else none)
  else if 0xA000 ≤ i && i < 0xA400 then
    (match j with
     | 0 => some (rwK .u32 0x01000000) | 1 => some (roK .u32) | 2 => some (roK .u64) | 3 => some cmdV
     | 4 => some (roV .enum) | 5 => some (roV .u32) | 6 => some (roK .u16) | _ => none)
  else if 0xB000 ≤ i && i < 0xB600 then
    (if i - 0xB000 < chanCount b then
      (if j == 0 then some (rwK .u32 0x80000000) else if j == 1 || j == 4 then some (roV .u64)
       else if j == 2 || j == 3 || j == 5 then some (roV .u32) else if j == 6 then some (roV (.bitmap 4))
       else if 0x10 ≤ j && j ≤ 0x2F then some (roV .u32) else none) else none)
  else if 0xB600 ≤ i && i < 0xB612 then
    (if b.hasTill (i - 0xB600) then
      (if j < 0x40 then some ⟨.u64, .rw, .v, 0, 0, 2 ^ 64⟩ else if j < 0x80 then some (rwK .u32 0)
       else if j ≤ 0x84 then some (roV .u64) else none) else none)
  else if i == 0xB700 then
    (if j < 0x40 then some ⟨.u64, .rw, .v, 0, 0, 2 ^ 64⟩ else if j < 0x80 then some (rwK .u32 0) else none)
  else if 0xC000 ≤ i && i < 0xC004 then streamRow (i - 0xC000) j
  else if 0xC040 ≤ i && i < 0xC052 then
    (if b.hasTill (i - 0xC040) then
      (if j < 16 then some (roV .u64) else if j == 16 then some cmdV else if j == 17 then some (roV .u32) else none)
     else none)
  else if 0xC800 ≤ i && i < 0xC808 then
    (if i - 0xC800 < b.wickets then
      (if j == 0 then some ⟨.u16, .w1c, .v, 0, 0, 2 ^ 64⟩ else if j == 1 then some (rwK .u16 0x0040) else none) else none)
  else none

/-- The entry at (index, subindex), or none where it is unimplemented (R435). -/
def entryAt (b : Build) (i j : Nat) : Option Entry :=
  if 0x9010 ≤ i && i < 0x9014 && 0x10 ≤ j && j < 0x14 then some (roF .enum)
  else if i == 0x3F10 && j == 4 then (if b == .h1L then some (rwK .u8 8 1 12) else none)
  else if i == 0x8050 && j == 6 then some (rwK (.bitmap b.tills) (2 ^ b.tills - 1))
  else if i == 0xC011 && j == 1 then some (rwK (.bitmap b.tills) 0)
  else
    match findRow
      (match i / 0x1000 with
       | 1 => rows1 | 2 => rows2 | 3 => rows3 | 4 => rows4 | 5 => rows5 | 6 => rows6 | 7 => rows7 | 8 => rows8
       | 9 => rows9 | 0xB | 0xC => rowsB | _ => []) i j with
    | some e => some e
    | none => indexedRow b i j

end Sys2Proof.Machine
end

