-- ==== Sys2Proof/Machine/Ops.lean ====
section
/-! DEFINITION. The named operations over the sparse stores, the parts of the Home, the plain Chart entries, the
counters and the Journal records on their way to JN. -/

namespace Sys2Proof.Machine

/-! ## Sparse stores -/

/-- The value at a key, or none where the key is not listed. -/
def KV.find? {α : Type} (m : KV α) (k : Nat) : Option α :=
  match m with
  | [] => none
  | (k', v) :: t => if k' = k then some v else if k < k' then none else KV.find? t k

/-- The value at a key, `d` where the key is not listed. -/
def KV.get {α : Type} (m : KV α) (k : Nat) (d : α) : α := (KV.find? m k).getD d

/-- Is the key listed. -/
def KV.has {α : Type} (m : KV α) (k : Nat) : Bool := (KV.find? m k).isSome

/-- Lists the value at the key, in place of any before it. -/
def KV.put {α : Type} (m : KV α) (k : Nat) (v : α) : KV α :=
  match m with
  | [] => [(k, v)]
  | (k', w) :: t => if k' = k then (k, v) :: t else if k < k' then (k, v) :: (k', w) :: t else (k', w) :: KV.put t k v

/-- Removes the key. -/
def KV.del {α : Type} (m : KV α) (k : Nat) : KV α :=
  match m with
  | [] => []
  | (k', w) :: t => if k' = k then t else if k < k' then (k', w) :: t else (k', w) :: KV.del t k

/-- Writes the value at the key; the default `d` is never listed. -/
def KV.set {α : Type} [DecidableEq α] (m : KV α) (k : Nat) (v d : α) : KV α :=
  if v = d then KV.del m k else KV.put m k v

/-- Changes the value at a listed key. -/
def KV.mod {α : Type} (m : KV α) (k : Nat) (f : α → α) : KV α :=
  m.map (fun p => if p.1 = k then (k, f p.2) else p)

/-- The keys. -/
def KV.keys {α : Type} (m : KV α) : List Nat := m.map (·.1)

/-- The lowest number of `0 … n - 1` that is not listed (DESIGN CHOICE, log entry 3). -/
def KV.lowest {α : Type} (m : KV α) (n : Nat) : Option Nat :=
  let rec go (l : KV α) (k : Nat) : Nat :=
    match l with
    | [] => k
    | (k', _) :: t => if k' = k then go t (k + 1) else k
  let k := go m 0
  if k < n then some k else none

/-- Keys strictly rising, all above `lo`. -/
def KV.rising {α : Type} (lo : Nat) (m : KV α) : Bool :=
  match m with
  | [] => true
  | (k, _) :: t => decide (lo ≤ k) && KV.rising (k + 1) t

/-- The canonical form: keys strictly rising. -/
def KV.wf {α : Type} (m : KV α) : Bool := KV.rising 0 m

/-- Replaces the element at a position. -/
def setAt {α : Type} (l : List α) (i : Nat) (v : α) : List α := l.set i v

/-- Removes the first element that satisfies `p`. -/
def dropFirst {α : Type} (p : α → Bool) : List α → List α
  | [] => []
  | a :: t => if p a then t else a :: dropFirst p t

/-- Puts an element behind those that come no later by the key. -/
def insertBy {α : Type} (key : α → Nat) (a : α) : List α → List α
  | [] => [a]
  | b :: t => if key a < key b then a :: b :: t else b :: insertBy key a t

/-- A list in the order of a key. -/
def sortBy {α : Type} (key : α → Nat) (l : List α) : List α := l.foldl (fun m a => insertBy key a m) []

/-! ## Parts -/

/-- The build of the part (R29). -/
def State.build (s : State) : Build := s.fuses.build

/-- A Till of the state; of an unbuilt number, an empty one. -/
def State.till (s : State) (t : Nat) : Till := (s.tills[t]?).getD {}
/-- Changes one Till. -/
def State.modTill (s : State) (t : Nat) (f : Till → Till) : State := { s with tills := s.tills.modify t f }
/-- A Wicket of the state. -/
def State.wicket (s : State) (w : Nat) : Wicket := (s.wickets[w]?).getD {}
/-- Changes one Wicket. -/
def State.modWicket (s : State) (w : Nat) (f : Wicket → Wicket) : State := { s with wickets := s.wickets.modify w f }
/-- An Agent Table entry (R280). -/
def State.agent (s : State) (n : Nat) : Agent := KV.get s.agents n {}
/-- Writes an Agent Table entry. -/
def State.setAgent (s : State) (n : Nat) (a : Agent) : State := { s with agents := KV.set s.agents n a {} }
/-- Changes an Agent Table entry. -/
def State.modAgent (s : State) (n : Nat) (f : Agent → Agent) : State := s.setAgent n (f (s.agent n))
/-- A Folio of a Till. -/
def State.folio? (s : State) (t f : Nat) : Option Folio := KV.find? (s.till t).folios f
/-- Writes a Folio. -/
def State.setFolio (s : State) (t f : Nat) (x : Folio) : State :=
  s.modTill t (fun u => { u with folios := KV.put u.folios f x })
/-- Changes a Folio that exists. -/
def State.modFolio (s : State) (t f : Nat) (g : Folio → Folio) : State :=
  s.modTill t (fun u => { u with folios := KV.mod u.folios f g })
/-- A Journal stream. -/
def State.stream (s : State) (k : Nat) : Stream := (s.journal.streams[k]?).getD {}
/-- Changes a Journal stream. -/
def State.modStream (s : State) (k : Nat) (f : Stream → Stream) : State :=
  { s with journal := { s.journal with streams := s.journal.streams.modify k f } }
/-- Does FATAL stop a message: SNP, CMP and DATA_OUT (R404). -/
def Out.stopped : Out → Bool | .snp .. | .cmp .. | .dataOut .. => true | _ => false
/-- Sends a message across the boundary; with FATAL set, a Wicket sends nothing further on SNP, CMP or DATA_OUT (R404). -/
def State.send (s : State) (o : Out) : State :=
  if s.fatal && o.stopped then s else { s with out := s.out ++ [o] }

/-- The next free value (DESIGN CHOICE, log entry 6): the value numbered by `freeCtr`. -/
def State.free (s : State) : BitVec 512 := Config.freeValue s.freeCtr
/-- Counts one free value as used. -/
def State.freeUsed (s : State) : State := { s with freeCtr := s.freeCtr + 1 }

/-! ## Plain Chart entries -/

/-- The key of an entry in the plain store (R435). -/
def ekey (i j : Nat) : Nat := i * 256 + j

/-- The default of an entry (R435). -/
def State.edefault (s : State) (i j : Nat) : Nat := ((entryAt s.build i j).map (·.d)).getD 0

/-- The stored value of a plain entry. -/
def State.raw (s : State) (i j : Nat) : Word :=
  (KV.find? s.chart (ekey i j)).getD (BitVec.ofNat 64 (s.edefault i j))

/-- The stored value as a number. -/
def State.rawN (s : State) (i j : Nat) : Nat := (s.raw i j).toNat

/-- Stores a value in a plain entry. -/
def State.setRaw (s : State) (i j : Nat) (v : Word) : State :=
  { s with chart := KV.set s.chart (ekey i j) v (BitVec.ofNat 64 (s.edefault i j)) }

/-- Stores a number in a plain entry. -/
def State.setRawN (s : State) (i j v : Nat) : State := s.setRaw i j (BitVec.ofNat 64 v)

/-- A counter entry: its index, subindex and width. -/
structure Ctr where
  i : Nat
  j : Nat
  w : Nat
  deriving DecidableEq, Repr

/-- Adds `n` to a counter; a counter wraps at its width (R28, DEDUCED, log entry 7). -/
def State.bumpBy (s : State) (c : Ctr) (n : Nat) : State := s.setRawN c.i c.j ((s.rawN c.i c.j + n) % 2 ^ c.w)
/-- Counts one event. -/
def State.bump (s : State) (c : Ctr) : State := s.bumpBy c 1
/-- Counts `n` in a counter that keeps a maximum. -/
def State.bumpMax (s : State) (c : Ctr) (n : Nat) : State :=
  if s.rawN c.i c.j < n then s.setRawN c.i c.j (min n (2 ^ c.w - 1)) else s

/-! ## Programmable counters (R487, R488) -/

/-- Does a selector value select the event `code` of `unit`. -/
def selMatches (sel : Nat) (code unit : Nat) : Bool :=
  (sel >>> 31) % 2 == 1 && sel % 1024 == code && code != 0
    && ((sel >>> 12) % 256 == 0xFF || (sel >>> 12) % 256 == unit)

/-- Adds `n` to counter `j` at index `i`; a wrap of the 48-bit value sets OVF (R487). -/
def State.pcAdd (s : State) (i j n : Nat) : State :=
  let v := s.rawN i j + n
  let s1 := s.setRawN i j (v % 2 ^ 48)
  if v < 2 ^ 48 then s1 else s1.setRawN i (0x40 + j) ((s1.rawN i (0x40 + j)) ||| 2 ^ 29)

/-- The selectors that firmware has written at an index: counter number and value. Only these can be enabled. -/
def State.selectors (s : State) (i : Nat) : List (Nat × Nat) :=
  (s.chart.filter (fun p => decide (ekey i 0x40 ≤ p.1 && p.1 < ekey i 0x80))).map
    (fun p => (p.1 - ekey i 0x40, p.2.toNat))

/-- `n` one-cycle events of `code` and `unit` at index `i` (R487, R488; DESIGN CHOICE, log entry 15). -/
def State.pcEvent (s : State) (i code unit n : Nat) : State :=
  if s.rawN 0xB800 3 == 1 then s else
    ((s.selectors i).filter (fun p => selMatches p.2 code unit)).foldl (fun s p => s.pcAdd i p.1 n) s

/-- One event at a Till (R488). -/
def State.tev (s : State) (t code : Nat) (unit : Nat := 0xFF) : State := s.pcEvent (0xB600 + t) code unit 1
/-- One event of the Home (R488). -/
def State.gev (s : State) (code : Nat) (unit : Nat := 0xFF) : State := s.pcEvent 0xB700 code unit 1

/-! ## Samples for the Reckoner (R482, R483) -/

/-- A channel of the Reckoner. -/
def State.chan (s : State) (c : Nat) : Chan := KV.get s.tally.chans c {}
/-- Changes a channel. -/
def State.modChan (s : State) (c : Nat) (f : Chan → Chan) : State :=
  { s with tally := { s.tally with chans := KV.set s.tally.chans c (f (s.chan c)) {} } }

/-- The channel of a Till, a Wicket, a port and an Exchange initiator (R482, R505). -/
def tillChan (t : Nat) : Nat := 1024 + t
def wicketChan (b : Build) (w : Nat) : Nat := 1024 + b.tills + (if w == Build.ws then b.wickets else w)
def portChan (b : Build) (m : Nat) : Nat := 1024 + b.tills + (b.wickets + 1) + m
def nodeChan (b : Build) (k : Nat) : Nat := 1024 + b.tills + (b.wickets + 1) + b.ports + k

/-- The bin of a value (R484). -/
def binOf (v : Nat) : Nat := if v == 0 then 0 else min (Nat.log2 v + 1) 31

/-- EN, MEASURE, FILTER and SHIFT of a CHAN_CFG (R483). -/
def chanEn (c : BitVec 32) : Bool := bits c 31 31 == 1
def chanMeasure (c : BitVec 32) : Nat := bits c 30 28
def chanFilter (c : BitVec 32) : Nat := bits c 27 25
def chanShift (c : BitVec 32) : Nat := bits c 24 20

/-- Does a channel take a sample of this measure and filter code (R483, R484). A filter code of 0 of the channel takes
every sample of the measure. -/
def chanTakes (c : BitVec 32) (measure filter : Nat) : Bool :=
  chanEn c && chanMeasure c == measure && (chanFilter c == 0 || chanFilter c == filter)

/-- A source sends a sample to TY on the P plane, if the channel would take it (DESIGN CHOICE, log entry 16). -/
def State.sample (s : State) (c measure filter : Nat) (v : Option Nat) : State :=
  if chanTakes (s.chan c).cfg measure filter then
    { s with tally := { s.tally with inbox := s.tally.inbox ++ [⟨c, measure, filter, v⟩] } }
  else s

/-! ## Exchange flits (R322 to R328) -/

/-- The regulator entry of class `c` of a node; RATE is never 0, so a stored 0 stands for the default (R327). -/
def State.regWord (s : State) (n c : Nat) : Nat :=
  let v := s.rawN (0x5200 + n) c
  if v == 0 then place (if c == 4 && n == s.build.nodeId .au then 64 else 256) 9 16 + 32 else v

/-- The CCLK for which flits wait at a regulator whose level, in 1/256 tokens, is negative (R327). -/
def regWait (level : Int) (rate : Nat) : Nat := ((-level).toNat + rate - 1) / max 1 rate

/-- `len` flits of a head pass the regulator of class `c` of node `n`; those it holds wait below zero, and the CCLK they
wait count in REG_HOLD_CCLK (R327, R328; DESIGN CHOICE, log entry 9). -/
def State.regulate (s : State) (n c len : Nat) : State :=
  let v := s.regWord n c
  let rate := v / 2 ^ 16 % 512
  if rate == 256 then s else
    let r : Reg := KV.get s.exch.regs (n * 8 + c) ⟨0, 0⟩
    let full : Int := ((v % 256) * 256 : Nat)
    let now := min full (r.level + ((s.time.cclk - r.cclk) * rate : Nat) + (if KV.has s.exch.regs (n * 8 + c) then 0 else full))
    let next := now - ((len * 256 : Nat) : Int)
    let held := regWait next rate - regWait now rate
    let s1 := { s with exch := { s.exch with regs := KV.put s.exch.regs (n * 8 + c) ⟨next, s.time.cclk⟩ } }
    if held == 0 then s1 else (s1.bumpBy ⟨0x5300 + n, 5, 64⟩ held).pcEvent 0xB700 0x106 n held

/-- Is the next head flit of class `c` of node `n` timed for statistics (R328). -/
def State.timed (s : State) (n c : Nat) : State × Bool :=
  let p := s.rawN 0x5000 4
  if p == 0 then (s, false) else
    let k := KV.get s.exch.sampleCount (n * 8 + c) 0 + 1
    ({ s with exch := { s.exch with sampleCount := KV.set s.exch.sampleCount (n * 8 + c) (k % p) 0 } }, k % p == 0)

/-- One flit of class `c` leaves node `n` untimed. -/
def State.flitPlain (s : State) (n c len : Nat) : State :=
  (((s.bumpBy ⟨0x5300 + n, c, 64⟩ len).pcEvent 0xB700 0x105 n len).regulate n c len)

/-- A packet of `len` flits in class `c` (0 Q, 1 S, 2 P, 3 D high, 4 D low) leaves node `n` for node `d`; one head flit in
every SAMPLE_PERIOD is timed, and `d` sends its latency to TY (R328). -/
def State.flit (s : State) (n c len d : Nat) : State :=
  let (s1, hit) := (s.flitPlain n c len).timed n c
  if hit then
    ((s1.bump ⟨0x5300 + n, 6, 64⟩).flitPlain d 2 1).sample
      (nodeChan s.build (s.build.nodeIds.findIdx (· == n))) 0 (1 + c) none
  else s1

/-- A packet between two nodes. -/
def State.packet (s : State) (a : NodeKind) (c len : Nat) (b : NodeKind) : State :=
  s.flit (s.build.nodeId a) c len (s.build.nodeId b)

/-! ## Journal records (R490, R491) -/

/-- The PTM stamp of a record made now: PTM_AT_TICK plus the time since that Tick (R411). -/
def State.ptmStamp (s : State) : Nat × Bool :=
  if s.time.ptmValid then ((s.time.ptm.toNat + (s.time.ps - s.time.tickPs) / 1000) % 2 ^ 64, false) else (0, true)

/-- A source makes a record and sends it to JN (R490, R493). -/
def State.emitAs (s : State) (code src : Nat) (aid : Option Aid) (args : List Nat) : State :=
  let stamp := s.ptmStamp
  let stream := if code < 0x100 then 0 else if code < 0x200 then 1 else if code < 0x300 then 2 else 3
  let s := s.flit src 4 1 (s.build.nodeId .jn)
  { s with journal := { s.journal with inbox := s.journal.inbox ++
      [{ code := code, stream := stream, src := src, aid := aid, args := args, tick := s.time.tick,
         ptm := stamp.1, ptmInv := stamp.2 }] } }

/-- A record of the node `k`. -/
def State.emit (s : State) (code : Nat) (k : NodeKind) (args : List Nat) (aid : Option Aid := none) : State :=
  s.emitAs code (s.build.nodeId k) aid args

/-- The record codes of R491. -/
inductive J where
  | tillFailed | vaultEntryLost | cellarSlotLost | dataBufferUe | lostWrite | protocolError | exchStall | exchLinkLost
  | exchDataUe | exchFatal | chartFatal | tillSalvageIncomplete | journalPointer
  | tickLost | ledgerOverflowList | exchLinkHalf | exchLinkDown | bankStuck | agentDead | agentQuarantined
  | rowSparesExhausted | tillRetired | assayExhausted | slackNegative | marginShort | marginNoAck | tjHigh | thermalLimit
  | lifecycleChanged | quarantineEntered | quarantineReleased | debugHaltEnded
  | tickRestored | homeReady | agentJoined | agentLeft | agentReadmitted | foreclosureDone | wrongWicket | opcodeRefused
  | writtenOffRead | untrackedOpcode | receiptExpired | claimRefused | claimExpired | claimRecordDeleted
  | postedWriteFailed | pageRebuilt | resolveDone | rowRetired | transferDone | assayPlan | sessionOpened | sessionClosed
  | proofFailed | debugLevel | slotAttention | writtenOffWrite | cellarConfigBad
  | folioTrace
  deriving DecidableEq, Repr

/-- The code of a record (R491): the three streams count in the order listed. -/
def J.code : J → Nat
  | .tillFailed => 0x001 | .vaultEntryLost => 0x002 | .cellarSlotLost => 0x003 | .dataBufferUe => 0x004
  | .lostWrite => 0x005 | .protocolError => 0x006 | .exchStall => 0x007 | .exchLinkLost => 0x008
  | .exchDataUe => 0x009 | .exchFatal => 0x00A | .chartFatal => 0x00B | .tillSalvageIncomplete => 0x00C
  | .journalPointer => 0x00D
  | .tickLost => 0x101 | .ledgerOverflowList => 0x102 | .exchLinkHalf => 0x103 | .exchLinkDown => 0x104
  | .bankStuck => 0x105 | .agentDead => 0x106 | .agentQuarantined => 0x107 | .rowSparesExhausted => 0x108
  | .tillRetired => 0x109 | .assayExhausted => 0x10A | .slackNegative => 0x10B | .marginShort => 0x10C
  | .marginNoAck => 0x10D | .tjHigh => 0x10E | .thermalLimit => 0x10F | .lifecycleChanged => 0x110
  | .quarantineEntered => 0x111 | .quarantineReleased => 0x112 | .debugHaltEnded => 0x113
  | .tickRestored => 0x201 | .homeReady => 0x202 | .agentJoined => 0x203 | .agentLeft => 0x204
  | .agentReadmitted => 0x205 | .foreclosureDone => 0x206 | .wrongWicket => 0x207 | .opcodeRefused => 0x208
  | .writtenOffRead => 0x209 | .untrackedOpcode => 0x20A | .receiptExpired => 0x20B | .claimRefused => 0x20C
  | .claimExpired => 0x20D | .claimRecordDeleted => 0x20E | .postedWriteFailed => 0x20F | .pageRebuilt => 0x210
  | .resolveDone => 0x211 | .rowRetired => 0x212 | .transferDone => 0x213 | .assayPlan => 0x214
  | .sessionOpened => 0x215 | .sessionClosed => 0x216 | .proofFailed => 0x217 | .debugLevel => 0x218
  | .slotAttention => 0x219 | .writtenOffWrite => 0x21A | .cellarConfigBad => 0x21B
  | .folioTrace => 0x301

/-- A node makes a named record. -/
def State.note (s : State) (c : J) (k : NodeKind) (args : List Nat) (aid : Option Aid := none) : State :=
  s.emit c.code k args aid

/-! ## The Tick -/

/-- Has a timer that started at `start` with length `len` run out (R54). -/
def State.due (s : State) (start len : Nat) : Bool := decide (start + len ≤ s.time.tick)

/-- Is the Chart available (R307): CH is released, no function reset runs and the Home is not in Off. -/
def State.chartUp (s : State) : Bool := s.boot == .released && !s.inReset && s.power.state != 3

end Sys2Proof.Machine
end

