-- ==== Sys2Proof/Machine/Tally.lean ====
section
/-! DEFINITION. The Reckoner, the counters' clear and the Journal (R482 to R506), with the commands of their rows. -/

namespace Sys2Proof.Machine

/-! ## The Reckoner -/

/-- One sample into a window (R484). -/
def addSample (x : Win) (v shift : Nat) : Win :=
  let m := min v (2 ^ 32 - 1)
  let b := binOf (v >>> shift)
  { x with
    min := if x.count == 0 then m else min x.min m
    max := max x.max m
    sum := min (x.sum + v) (2 ^ 64 - 1)
    count := min (x.count + 1) (2 ^ 32 - 1)
    flags := if x.sum + v < 2 ^ 64 then x.flags else x.flags ||| 2
    hist := KV.set x.hist b (min (KV.get x.hist b 0 + 1) (2 ^ 32 - 1)) 0 }

/-- TY takes the oldest sample on its way, or drops it when its FIFO is full (R482, R484). -/
def takeSample (s : State) (latency : Nat) (full : Bool) : State :=
  match s.tally.inbox with
  | [] => s
  | x :: rest =>
    let s1 := { s with tally := { s.tally with inbox := rest } }
    if full then
      ((s1.bump ⟨0xB800, 1, 64⟩).gev 0x10B).modChan x.chan
        (fun c => { c with cur := { c.cur with flags := c.cur.flags ||| 1 } })
    else
      s1.modChan x.chan (fun c =>
        if chanTakes c.cfg x.measure x.filter then { c with cur := addSample c.cur (x.value.getD latency) (chanShift c.cfg) }
        else c)

/-- The sweep of one channel at a boundary (R485, R505). -/
def Chan.sweep (c : Chan) (held : Bool) : Chan :=
  { cfg := c.pending.getD c.cfg
    pending := none
    last := { c.cur with flags := if held then c.cur.flags ||| 4 else c.cur.flags }
    cur := { flags := if c.pending.isSome then 8 else 0 }
    cleared := false }

/-- The channels after a sweep; a window that contained Hold flags every channel of the build. -/
def sweepChans (b : Build) (held : Bool) (l : KV Chan) : KV Chan :=
  if held then
    (List.range (chanCount b)).foldl (fun m c => KV.set m c ((KV.get l c {}).sweep true) {}) []
  else l.foldl (fun m p => KV.set m p.1 (p.2.sweep false) {}) []

/-- TY sweeps every channel for the oldest boundary not yet swept (R485). -/
def sweepWindow (s : State) : State :=
  match s.tally.due with
  | [] => s
  | k :: rest =>
    let num := k / max 1 (s.rawN 0xB800 0)
    ({ s with tally := { s.tally with
        due := rest, lastNum := s.tally.curNum, curNum := num, held := false,
        chans := sweepChans s.build s.tally.held s.tally.chans } } : State).bump ⟨0xB800, 2, 64⟩

/-! ## The Journal -/

/-- Is a record 64 B long (R491). -/
def JRec.long (r : JRec) : Bool :=
  r.code == 0 || r.code < 0x200 || r.code ≥ 0x300 || r.code == J.assayPlan.code || r.code == J.transferDone.code
    || r.code == J.claimExpired.code

/-- The length of a record in bytes (R490). -/
def JRec.bytes (r : JRec) : Nat := if r.long then 64 else 32

/-- The words of a record (R490). -/
def JRec.words (r : JRec) : List Word :=
  let w2 := place r.code 12 52 + place r.stream 2 50 + place (bit r.long) 1 49 + place (bit r.ptmInv) 1 48
    + place r.src 6 42 + place ((r.aid.map BitVec.toNat).getD 0x3FF) 10 32 + place r.seq 32 0
  let head := [BitVec.ofNat 64 r.tick, BitVec.ofNat 64 r.ptm, BitVec.ofNat 64 w2, BitVec.ofNat 64 (r.args.getD 0 0)]
  if r.long then head ++ (List.range 4).map (fun k => BitVec.ofNat 64 (r.args.getD (k + 1) 0)) else head

/-- The bytes a bank holds. -/
def bankBytes (l : List JRec) : Nat := (l.map JRec.bytes).sum

/-- The room of a bank for a record: the whole bank, or less the RESERVE of the stream (R493). -/
def bankLimit (k : Nat) (whole : Bool) : Nat :=
  if whole then 16384 else if k == 0 then 16384 - 4096 else 16384 - 64

/-- Puts one record into the fill bank, swapping the banks if the record finds no room and the drain bank is empty
(R493, R494); none where it finds no room. -/
def Stream.place (x : Stream) (k : Nat) (whole : Bool) (r : JRec) : Option Stream :=
  let r := { r with seq := x.seq }
  let n := r.bytes / 8
  let y := { x with seq := (x.seq + 1) % 2 ^ 32, wptr := x.wptr + n, wptr2 := x.wptr2 + n }
  if bankBytes x.fill + r.bytes ≤ bankLimit k whole then some { y with fill := x.fill ++ [r] }
  else if x.drain.isEmpty then
    some { y with drain := x.fill, fill := [r], wptr := n, wptr2 := n, rptr := 0, rptr2 := 0, toggle := !x.toggle }
  else none

/-- Counts a dropped record (R498). -/
def Drops.add (d : Drops) (policed : Bool) (tick code : Nat) : Drops :=
  let first := d.policed + d.full == 0
  { policed := if policed then d.policed + 1 else d.policed
    full := if policed then d.full else d.full + 1
    first := if first then tick else d.first
    last := tick
    code := if first then code else d.code }

/-- A stream drops a record. -/
def State.dropRec (s : State) (k : Nat) (policed : Bool) (r : JRec) : State :=
  (((s.modStream k (fun x => { x with drops := x.drops.add policed s.time.tick r.code })).bump
    ⟨0xC000 + k, if policed then 7 else 8, 64⟩).gev 0x10A k)

/-- After a record is stored: NOTICES, and the notice output (R495). -/
def State.noticed (s : State) (k : Nat) : State := (s.bump ⟨0xC000 + k, 0xB, 64⟩).send (.notice k)

/-- The GAP record of the drops so far (R498). -/
def gapRec (s : State) (k : Nat) (d : Drops) : JRec :=
  let stamp := s.ptmStamp
  { code := 0, stream := k, src := s.build.nodeId .jn, aid := none,
    args := [d.policed, d.full, d.first, d.last, d.code % 4096], tick := s.time.tick, ptm := stamp.1, ptmInv := stamp.2 }

/-- Is the record exempt from the policer (R496). -/
def Stream.exempts (x : Stream) (k : Nat) (r : JRec) : Bool :=
  k == 0 && !x.exempt.contains (r.code, r.src) && x.exempt.length < 64

/-- Is a record policed because of the stream's control state or the debug level (R502). -/
def streamShut (s : State) (k : Nat) : Bool :=
  (s.stream k).fn.st != .on || (k == 3 && s.sec.level == 0)

/-- Offers a record to its stream: it is stored, behind a GAP record if records were dropped, or dropped (R493 to R498,
R502, R504). -/
def offer (s : State) (k : Nat) (r : JRec) : State :=
  let x := s.stream k
  if s.inReset then s.dropRec k false r
  else if streamShut s k then s.dropRec k true r
  else
    let ex := x.exempts k r
    if !ex && x.tokens == 0 then s.dropRec k true r
    else
      let gap := x.drops.policed + x.drops.full != 0
      match (if gap then x.place k true (gapRec s k x.drops) else some x) with
      | none => s.dropRec k false r
      | some y =>
        match y.place k ex r with
        | none => s.dropRec k false r
        | some z =>
          let z := { z with
            tokens := if ex then z.tokens else z.tokens - 1
            exempt := if ex then z.exempt ++ [(r.code, r.src)] else z.exempt
            drops := {} }
          let s1 := s.modStream k (fun _ => z)
          let s2 := if gap then (s1.bump ⟨0xC000 + k, 9, 32⟩).noticed k else s1
          s2.noticed k

/-- The first-fault registers of a Till (R503). -/
def State.ffOf (s : State) (t : Nat) : List FirstFault := KV.get s.journal.ff t []

/-- A Fault record of a Till goes into its lowest free first-fault register, or counts in FF_MISSED (R503). -/
def firstFault (s : State) (r : JRec) : State :=
  match s.build.nodeAt r.src with
  | some (.till t) =>
    if (s.ffOf t).length < 8 then
      { s with journal := { s.journal with
        ff := KV.set s.journal.ff t (s.ffOf t ++ [⟨r.code, r.tick % 2 ^ 48, r.args.getD 0 0⟩]) [] } }
    else s.bump ⟨0xC040 + t, 0x11, 32⟩
  | _ => s

/-- An Alarm arrives: the first of its cause is offered; a later one only counts (R497). -/
def alarmArrives (s : State) (r : JRec) : State :=
  let cs := s.journal.causes
  if cs.any (fun c => c.code == r.code && c.src == r.src) then
    { s with journal := { s.journal with causes := cs.map (fun c =>
        if c.code == r.code && c.src == r.src then { c with count := c.count + 1, last := r } else c) } }
  else if cs.length < 64 then
    offer { s with journal := { s.journal with causes := cs ++ [⟨r.code, r.src, 0, r⟩] } } 1 r
  else offer s 1 r

/-- JN receives one record (R493, R497, R503). -/
def receiveRec (s : State) (r : JRec) : State :=
  if r.stream == 0 then offer (firstFault s r) 0 r
  else if r.stream == 1 then alarmArrives s r
  else offer s r.stream r

/-- JN receives the oldest record on its way (R493). -/
def takeRec (s : State) : State :=
  match s.journal.inbox with
  | [] => s
  | r :: rest => receiveRec { s with journal := { s.journal with inbox := rest } } r

/-- An alarm period ends: each cause with a repeat count offers one record in the new period (R497). -/
def alarmPeriod (s : State) : State :=
  match s.journal.alarmDue with
  | [] => s
  | k :: rest =>
    let stamp := s.ptmStamp
    let again := (s.journal.causes.filter (fun c => c.count != 0)).map (fun c =>
      { c.last with args := (List.range 4).map (fun i => c.last.args.getD i 0) ++ [c.count],
                    tick := k, ptm := stamp.1, ptmInv := stamp.2 })
    again.foldl (fun s r => offer s 1 r)
      { s with journal := { s.journal with alarmDue := rest, causes := again.map (fun r => ⟨r.code, r.src, 0, r⟩) } }

/-- A mismatch of a stream's duplicated pointers resets the stream, and JN stores a JOURNAL_POINTER record (R501). -/
def resetPointers (s : State) (k : Nat) : State :=
  let x := s.stream k
  let held := x.fill ++ x.drain
  let s1 := s.modStream k (fun x => { x with
    fill := [], drain := [], word := 0, wptr := 0, wptr2 := 0, rptr := 0, rptr2 := 0,
    drops := held.foldl (fun d r => d.add false s.time.tick r.code) x.drops })
  let s2 := (s1.bumpBy ⟨0xC000 + k, 8, 64⟩ held.length).bump ⟨0xC000 + k, 0xA, 32⟩
  let stamp := s.ptmStamp
  receiveRec s2 { code := J.journalPointer.code, stream := 0, src := s.build.nodeId .jn, aid := none, args := [k],
                  tick := s.time.tick, ptm := stamp.1, ptmInv := stamp.2 }

/-- Swaps the banks when the reader finds the drain bank empty (R494). -/
def Stream.readSwap (x : Stream) : Stream :=
  if x.drain.isEmpty && !x.fill.isEmpty then
    { x with drain := x.fill, fill := [], word := 0, wptr := 0, wptr2 := 0, rptr := 0, rptr2 := 0, toggle := !x.toggle }
  else x

/-- One read of JN_DATA: the next word of the oldest record of the drain bank (R499, R500). -/
def Stream.readWord (x : Stream) : Stream × Word :=
  let y := x.readSwap
  match y.drain with
  | [] => ({ y with underrun := true }, y.lastWord)
  | r :: rest =>
    let v := r.words.getD y.word 0
    let y := { y with lastWord := v, rptr := y.rptr + 1, rptr2 := y.rptr2 + 1 }
    if y.word + 1 < r.bytes / 8 then ({ y with word := y.word + 1 }, v)
    else ({ y with drain := rest, word := 0 }, v)

/-- A read of JN_DATA: the value, and the state after it. `debug` is whether the reader holds a debug level; the Trace
stream returns 0 and advances nothing without one (R499). -/
def jnRead (s : State) (k : Nat) (debug : Bool) : State × Word :=
  if k == 3 && !debug then (s, 0)
  else
    let (x, v) := (s.stream k).readWord
    (s.modStream k (fun _ => x), v)

/-- The whole records that fit in `room` bytes, in SEQ order; the banks swap as the reader empties one (R494, R499). -/
def Stream.takeRecs : Nat → Stream → Nat → Stream × List JRec
  | 0, x, _ => (x, [])
  | n + 1, x, room =>
    let y := x.readSwap
    match y.drain with
    | [] => (y, [])
    | r :: rest =>
      if r.bytes ≤ room then
        let y := { y with
          drain := rest, word := 0, lastWord := r.words.getLastD 0, rptr := y.rptr + r.bytes / 8
          rptr2 := y.rptr2 + r.bytes / 8 }
        let (z, l) := Stream.takeRecs n y (room - r.bytes)
        (z, r :: l)
      else (y, [])

/-- The policer at a Tick: POLICE_RATE tokens up to POLICE_BURST, then clipped to the burst (R496). -/
def policeTick (s : State) : State :=
  (List.range 4).foldl (fun s k =>
    s.modStream k (fun x => { x with tokens := min (x.tokens + s.rawN (0xC000 + k) 5) (s.rawN (0xC000 + k) 6) })) s

/-- Enabling a stream empties its banks and returns its pointers to 0 (R502). -/
def Stream.emptied (x : Stream) : Stream :=
  { x with fill := [], drain := [], word := 0, wptr := 0, wptr2 := 0, rptr := 0, rptr2 := 0 }

/-! ## The commands -/

/-- TALLY_SAMPLE (R482, R484). -/
def execTallySample (latency : Nat) (full : Bool) (s : State) : Host.Outcome State Fault Refusal :=
  .next (takeSample s latency full)

/-- TALLY_WINDOW (R485). -/
def execTallyWindow (s : State) : Host.Outcome State Fault Refusal := .next (sweepWindow s)

/-- JOURNAL_RECORD (R493). -/
def execJournalRecord (s : State) : Host.Outcome State Fault Refusal := .next (takeRec s)

/-- ALARM_WINDOW (R497). -/
def execAlarmWindow (s : State) : Host.Outcome State Fault Refusal := .next (alarmPeriod s)

/-- JOURNAL_POINTER (R501). -/
def execJournalPointer (k : Nat) (s : State) : Host.Outcome State Fault Refusal :=
  if k < 4 then .next (resetPointers s k) else .fault .unbuiltPart

end Sys2Proof.Machine
end

