-- ==== Sys2Proof/Machine/Assay.lean ====
section
/-! DEFINITION. The Assay: slack, projection, plans, margin requests and temperature (R408 to R422). Slack is held in
ps; a projection is computed in millionths of a ps. -/

namespace Sys2Proof.Machine

/-! ## Signed entries -/

/-- The 32-bit pattern of a signed value, saturated to the S32 range. -/
def s32Of (x : Int) : Nat :=
  let y : Int := max (-2147483648) (min x 2147483647)
  (y % 4294967296).toNat

/-- The value of a stored S32 entry. -/
def intOf (v : Nat) : Int :=
  let w : Nat := v % 4294967296
  if w < 2 ^ 31 then (w : Int) else (w : Int) - 2 ^ 32

/-- A signed plain entry. -/
def State.rawI (s : State) (i j : Nat) : Int := intOf (s.rawN i j)
/-- Stores a signed plain entry. -/
def State.setRawI (s : State) (i j : Nat) (x : Int) : State := s.setRawN i j (s32Of x)

/-! ## The margin model (R415) -/

/-- The largest `x < 2 ^ k + lo` with `p x`, for a `p` that is true up to some point; `lo` if there is none above. -/
def searchUp (p : Nat → Bool) : Nat → Nat → Nat
  | 0, lo => lo
  | k + 1, lo => if p (lo + 2 ^ k) then searchUp p k (lo + 2 ^ k) else searchUp p k lo

/-- t ^ (n / 1000) in millionths, rounded down (DESIGN CHOICE, log entry 17). -/
def powMil (t n : Nat) : Nat := searchUp (fun x => decide (x ^ 1000 ≤ t ^ n * (10 ^ 6) ^ 1000)) 64 0

/-- (num / den) ^ (1000 / n), rounded down and at most 2^32 (DESIGN CHOICE, log entry 17). -/
def rootMil (num den n : Nat) : Nat := searchUp (fun x => decide (x ^ n * den ^ 1000 ≤ num ^ 1000)) 32 0

/-- The sources of margin (R413): the logic and the SRAM of a Till, and an Exchange link. -/
inductive MSource where | logic (t : Nat) | sram (t : Nat) | link (l : Nat)
  deriving DecidableEq, Repr

/-- The class of a source: 0 logic, 1 SRAM, 2 link. -/
def MSource.cls : MSource → Nat | .logic _ => 0 | .sram _ => 1 | .link _ => 2

/-- The number of a source in an ASSAY_PLAN record (DESIGN CHOICE, log entry 18). -/
def MSource.num : MSource → Nat | .logic t => t | .sram t => 0x100 + t | .link l => 0x200 + l

/-- AGE_HOURS (R415). -/
def State.ageHours (s : State) : Nat := s.fuses.ageBits * 128

/-- s0 in millionths of a ps, a in millionths of a ps per hour^n, and n in thousandths, as fused (R434). -/
def State.model0 (s : State) (c : Nat) : Int := ((s.fuses.model.getD (3 * c) 0 : Nat) : Int) * 1000000
def State.modelA (s : State) (c : Nat) : Int := ((s.fuses.model.getD (3 * c + 1) 0 : Nat) : Int) * 1000
def State.modelN (s : State) (c : Nat) : Nat := s.fuses.model.getD (3 * c + 2) 0

/-- What the plan adds to the slack of a source, in millionths of a ps: g × k, and for logic and link sources the
difference of the CCLK period to that at 2,000 MHz (R415). -/
def gain (s : State) (src : MSource) (vdd mhz assist : Nat) : Int :=
  let g : Int := (s.fuses.vGain : Int) * 100000
  match src with
  | .sram _ => g * assist
  | _ =>
    let k : Int := ((vdd : Int) - 750) / (max 1 (s.rawN 0x8000 6) : Nat)
    g * k + (if mhz < 2000 then ((10 ^ 12 / max 1 mhz : Nat) : Int) - 500000000 else 0)

/-- The last measured slack of a source in ps. -/
def measured (s : State) (src : MSource) : Int :=
  match src with
  | .logic t => s.rawI (0x8010 + t) 0
  | .sram t => s.rawI (0x8010 + t) 1
  | .link l => s.rawI (0x8400 + l) 0

/-- The assist level of a Till (R434). -/
def State.assist (s : State) (t : Nat) : Nat := s.rawN (0x8010 + t) 3

/-- The Till whose assist level a source has. -/
def MSource.till : MSource → Nat | .sram t => t | .logic t => t | .link _ => 0

/-- The projected slack of a source at end of service in millionths of a ps, with the gain `newGain` in place of the
gain under which it was measured (R415). -/
def project (s : State) (src : MSource) (newGain : Int) : Int :=
  let c := src.cls
  let now := gain s src s.assay.vdd s.assay.mhz (s.assist src.till)
  let n := s.modelN c
  let life := powMil (s.rawN 0x8000 5) n
  if s.ageHours < 1024 then s.model0 c + newGain - s.modelA c * (life : Int) / 1000000
  else
    let t := powMil s.ageHours n
    s.model0 c + newGain - (s.model0 c + now - measured s src * 1000000) * (life : Int) / (max 1 t : Nat)

/-- The projection with the plan that stands. -/
def projectNow (s : State) (src : MSource) : Int :=
  project s src (gain s src s.assay.vdd s.assay.mhz (s.assist src.till))

/-- The remaining margin life of a source in hours (R415); where the formula has no value (no ageing, or a fused
exponent of 0) a free value (DESIGN CHOICE, log entry 6). -/
def lifeLeft (s : State) (src : MSource) : Nat :=
  let c := src.cls
  let now := gain s src s.assay.vdd s.assay.mhz (s.assist src.till)
  let n := s.modelN c
  let room := s.model0 c + now - (s.rawN 0x8000 3 : Int) * 1000000
  let (num, den) :=
    if s.ageHours < 1024 then (room, s.modelA c)
    else (room * (powMil s.ageHours n : Int), (s.model0 c + now - measured s src * 1000000) * 1000000)
  if n == 0 || den ≤ 0 then (s.free.toNat) % 2 ^ 32
  else if num ≤ 0 then 0
  else rootMil num.toNat den.toNat n - s.ageHours

/-- The Tills that the Assay measures: built, not OFF, not FAILED and not in Till reset (R413). -/
def assayTills (s : State) : List Nat :=
  s.build.tillList.filter (fun t =>
    (s.till t).fn.st != .off && (s.till t).fn.st != .failed && (s.till t).role != .reset)

/-- The built links. -/
def linkList (b : Build) : List Nat := (List.range 128).filter (hasLink b)

/-- The sources that have been measured. -/
def sources (s : State) : List MSource :=
  (assayTills s).map .logic ++ (assayTills s).map .sram ++ (linkList s.build).map .link

/-! ## Margin requests (R419) -/

/-- The margin word of a request or a grant (R419). -/
def marginWord (id kind mv mhz : Nat) : Word :=
  BitVec.ofNat 64 (place id 8 56 + place kind 2 54 + place mv 14 40 + place mhz 12 28)

/-- Sends one margin request; `why` says what follows its grant. -/
def askMargin (s : State) (kind mv mhz why : Nat) : State :=
  let id := (s.assay.reqId + 1) % 256
  { s with
    assay := { s.assay with reqId := id, req := some ⟨id, kind, mv, mhz, s.time.tick, why⟩ }
    out := s.out ++ [.margin (marginWord id kind mv mhz)] }

/-! ## Plans (R416 to R421) -/

/-- Writes the ASSAY_PLAN record of an applied plan or undo, and counts it (R420; arguments by DESIGN CHOICE, log entry 18). -/
def planApplied (s : State) (before after : Nat) : State :=
  (s.note .assayPlan .as_ (s.assay.planRec ++ [before, after])).bump ⟨0x8000, 0xC, 32⟩

/-- Voltage, CCLK, assist level and SCRUB_RATE in one word (DESIGN CHOICE, log entry 18). -/
def planWord (s : State) (t : Nat) : Nat :=
  place s.assay.vdd 14 40 + place s.assay.mhz 12 28 + place (s.assist t) 8 16 + place (s.rawN 0x7000 0) 16 0

/-- The record so far: source, measured and projected slack, action (0 voltage, 1 CCLK, 2 assist, 4 added for undo). -/
def planRec (s : State) (src : MSource) (action : Nat) : List Nat :=
  [src.num, place (s32Of (measured s src)) 32 32 + s32Of (projectNow s src / 1000000), action]

/-- Is a source short (R416). -/
def isShort (s : State) (src : MSource) : Bool :=
  decide (projectNow s src < (s.rawN 0x8000 3 : Int) * 1000000) || decide (measured s src < (s.rawN 0x8000 3 : Int))

/-- How short a source is: the lesser of its measured and projected slack. -/
def shortness (s : State) (src : MSource) : Int := min (projectNow s src) (measured s src * 1000000)

/-- The shortest of the short sources, the first of equals. -/
def shortest (s : State) : Option MSource :=
  ((sources s).filter (isShort s)).foldl
    (fun best x => match best with
      | none => some x
      | some y => if shortness s x < shortness s y then some x else some y) none

/-- Does something defer a plan (R418). -/
def planBlocked (s : State) : Bool :=
  !s.transfers.isEmpty || s.exch.routeBusy || s.power.state ≥ 4 || s.assay.req.isSome

/-- A measured slack below 0 lowers CCLK by one step at once and raises SLACK_NEGATIVE (R416): the lower frequency. -/
def slowed (mhz : Nat) : Nat := if mhz ≥ 1225 then mhz - 25 else mhz

/-- The plan for a logic or link source: raise voltage, or lower CCLK at V_MAX_MV, or nothing left (R416). -/
def planLogic (s : State) (src : MSource) : State :=
  let vmax := s.rawN 0x8000 7
  let neg := decide (measured s src < 0)
  let s0 := if neg then s.note .slackNegative .as_ [src.num, s32Of (measured s src)] else s
  let mhz := if neg then slowed s.assay.mhz else s.assay.mhz
  if s.assay.vdd < vmax then
    let mv := min (s.assay.vdd + s.rawN 0x8000 6) vmax
    let s1 := { s0 with assay := { s0.assay with
      plan := some (.volt s.assay.vdd, false), planRec := planRec s src 0
      second := if mhz < s.assay.mhz then some (mv, mhz) else none } }
    if mhz < s.assay.mhz then askMargin s1 0 s.assay.vdd mhz 0 else askMargin s1 0 mv mhz 0
  else if slowed mhz < s.assay.mhz then
    askMargin { s0 with assay := { s0.assay with plan := some (.slow s.assay.mhz, false), planRec := planRec s src 1 } }
      0 s.assay.vdd (slowed mhz) 0
  else s0.note .assayExhausted .as_ [src.num]

/-- The plan for an SRAM source: assist level, retirement of the rows of CE_TABLE, SCRUB_RATE doubled (R416). -/
def planSram (s : State) (t : Nat) : State :=
  let rows := ((s.till t).ce.filter (fun p => p.2.store == 0)).map (fun p => (t, p.2.bank, p.2.row))
  let rate := min (2 * s.rawN 0x7000 0) 16384
  let before := planWord s t
  let prec := planRec s (.sram t) 2
  let s1 := { s with au := { s.au with retire := s.au.retire ++ rows } }
  let s1 := s1.setRawN 0x7000 0 rate
  if s.assist t < 3 then
    let s2 := s1.setRawN (0x8010 + t) 3 (s.assist t + 1)
    let s3 := { s2 with assay := { s2.assay with steps := .assist t :: s2.assay.steps, planRec := prec } }
    planApplied s3 before (planWord s3 t)
  else planLogic s1 (.sram t)

/-- Removes the latest step of the plan (R417). -/
def undoStep (s : State) : State :=
  match s.assay.steps with
  | [] => s
  | .volt mv :: rest =>
    askMargin { s with assay := { s.assay with plan := some (.volt mv, true), planRec := [0, 0, 4], steps := rest } }
      0 mv s.assay.mhz 0
  | .slow mhz :: rest =>
    askMargin { s with assay := { s.assay with plan := some (.slow mhz, true), planRec := [0, 0, 5], steps := rest } }
      0 s.assay.vdd (min mhz (s.rawN 0x8000 9)) 0
  | .assist t :: rest =>
    let before := planWord s t
    let s1 := s.setRawN (0x8010 + t) 3 (s.assist t - 1)
    let s2 := if s.assist t ≤ 1 then s1.setRawN 0x7000 0 s.assay.userScrub else s1
    let s3 := { s2 with assay := { s2.assay with steps := rest, planRec := [(MSource.sram t).num, 0, 6] } }
    planApplied s3 before (planWord s3 t)

/-- The gain of a source with the latest step removed. -/
def gainUndone (s : State) (src : MSource) : Int :=
  let a := s.assist src.till
  match s.assay.steps.head? with
  | some (.volt mv) => gain s src mv s.assay.mhz a
  | some (.slow mhz) => gain s src s.assay.vdd mhz a
  | some (.assist t) => gain s src s.assay.vdd s.assay.mhz (if src == .sram t then a - 1 else a)
  | none => gain s src s.assay.vdd s.assay.mhz a

/-- Do both conditions of R417 hold at this check. -/
def undoHolds (s : State) : Bool :=
  !s.assay.steps.isEmpty && (sources s).all (fun x =>
    decide ((s.rawN 0x8000 3 + s.rawN 0x8000 4 : Nat) ≤ measured s x)
      && decide ((s.rawN 0x8000 3 : Int) * 1000000 ≤ project s x (gainUndone s x)))

/-- What a check does with the plan (R416 to R418, R434). -/
def replan (s : State) : State :=
  let above := decide (s.rawN 0x8000 7 < s.assay.vdd)
  let undo := undoHolds s
  let ready := if undo then s.assay.undoReady + 1 else 0
  let s := { s with assay := { s.assay with undoReady := ready } }
  let want := above || (shortest s).isSome || (undo && ready ≥ 2)
  if !want then s
  else if planBlocked s then s.bump ⟨0x8000, 0xD, 32⟩
  else if above then
    askMargin { s with assay := { s.assay with plan := some (.volt s.assay.vdd, true), planRec := [0, 0, 4] } }
      0 (s.rawN 0x8000 7) s.assay.mhz 0
  else
    match shortest s with
    | some (.sram t) => planSram s t
    | some src => planLogic s src
    | none => undoStep { s with assay := { s.assay with undoReady := 0 } }

/-! ## Temperature (R422) -/

/-- One reading of a Till's junction sensor. -/
def readTj (s : State) (t : Nat) (x : Int) : State :=
  let s1 := s.setRawI (0x8010 + t) 2 x
  let s2 := if s1.rawI 0x8070 1 < x then s1.setRawI 0x8070 1 x else s1
  let s3 := if s2.rawI 0x8070 0 ≤ x && !s2.assay.tjSeen then
      { s2.note .tjHigh (.till t) [t, s32Of x] with assay := { s2.assay with tjSeen := true } } else s2
  if 1100 ≤ x then
    let s4 := ((s3.note .thermalLimit (.till t) [t, s32Of x]).bump ⟨0x8070, 2, 32⟩)
    if s4.power.throttled then s4
    else { s4 with
      power := { s4.power with throttled := true }
      tills := s4.tills.map (fun u => if u.role == .active then { u with divBefore := u.div2, div2 := true } else u) }
  else s3

/-- The readings of one sample; the divider returns to its setting when every sensor reads below TJ_ALARM. -/
def readTjs (s : State) (l : List (Nat × Int)) : State :=
  let s1 := (l.filter (fun p => s.build.hasTill p.1)).foldl (fun s p => readTj s p.1 p.2) s
  if s1.power.throttled && s1.build.tillList.all (fun t => decide (s1.rawI (0x8010 + t) 2 < s1.rawI 0x8070 0)) then
    { s1 with
      power := { s1.power with throttled := false }
      tills := s1.tills.map (fun u => if u.role == .active then { u with div2 := u.divBefore } else u) }
  else s1

/-! ## Measurements (R413, R414) -/

/-- A measured value normalised to 105 degrees with the fused coefficient of its class (R413; DESIGN CHOICE, log entry 18). -/
def normalise (s : State) (c t : Nat) (x : Int) : Int :=
  x - s.fuses.tempCoef.getD c 0 * (1050 - s.rawI (0x8010 + t) 2) / 1000

/-- Has a bank no unused spare row (R375). -/
def noSpare (u : Till) (bank : Nat) : Bool := KV.get u.rowsRetired bank 0 ≥ 32

/-- Reports the measured slacks in the Chart. -/
def report (s : State) (m : Measure) (full : Bool) : State :=
  let ok := assayTills s
  let s1 := (m.logic.filter (fun p => ok.contains p.1)).foldl
    (fun s p => s.setRawI (0x8010 + p.1) 0 (normalise s 0 p.1 p.2)) s
  let s2 := if full then
      let s1 := (m.sram.filter (fun p => ok.contains p.1)).foldl (fun s p =>
        s.setRawI (0x8010 + p.1) 1 (normalise s 1 p.1 p.2)) s1
      let s1 := ok.foldl (fun s t => s.setRawN (0x8010 + t) 4
        (((List.range 16).filter (noSpare (s.till t))).map (2 ^ ·)).sum) s1
      (m.link.filter (fun p => hasLink s.build p.1 && (KV.get s.exch.links p.1 {}).state == 0)).foldl
        (fun s p => s.setRawI (0x8400 + p.1) 0 (normalise s 2 0 p.2)) s1
    else s1
  let worst := ((sources s2).map (measured s2)).foldl min (2 ^ 31 - 1)
  let life := ((sources s2).map (lifeLeft s2)).foldl min (2 ^ 32 - 1)
  (((s2.setRawI 0x8000 0xE worst).setRawN 0x8000 0xF life)).freeUsed

/-- A quick check or full sweep at its Tick (R414, R416 to R418, R421). -/
def check (s : State) (m : Measure) (full : Bool) : State :=
  let s1 := { s with assay := { s.assay with quickDue := false, fullDue := false, tjSeen := false } }
  if s.rawN 0x8000 0 == 0 then readTjs s1 m.tj
  else
    let s2 := report (readTjs s1 m.tj) m full
    if s.rawN 0x8000 0 == 2 then replan s2 else s2

end Sys2Proof.Machine
end

