-- ==== Sys2Proof/Machine/Operands.lean ====
section
/-! DEFINITION. Addresses and the fields they select (R44, R40, R156, R172, R173, R179), and the encodings of opcodes
(R83). -/

namespace Sys2Proof.Machine

/-! ## Addresses -/

/-- The page a[43:12] of a line. -/
def pageOf (l : Line) : Nat := l.toNat / 64
/-- The sector a[43:8] of a line. -/
def sectorOf (l : Line) : Nat := l.toNat / 4
/-- The index of a line within its sector. -/
def lineIx (l : Line) : Nat := l.toNat % 4
/-- Line `i` of a sector. -/
def lineAt (sector i : Nat) : Line := BitVec.ofNat 38 (sector * 4 + i)
/-- The page of a sector. -/
def pageOfSector (sec : Nat) : Nat := sec / 16

/-- The page bucket of a page address (R44). -/
def bucketOf (page : Nat) : Nat := (page % 4096) ^^^ (page / 4096 % 4096) ^^^ ((page / 2 ^ 24 % 256) * 16)
/-- The page bucket of a line. -/
def bucketOfLine (l : Line) : Nat := bucketOf (pageOf l)

/-- Bank, set and tag of a sector (R156). -/
def bankOf (sec : Nat) : Nat := sec % 16
def setOf (sec : Nat) : Nat := (sec / 16 % 2048) ^^^ (sec / 2 ^ 14 % 2048)
def tagOf (sec : Nat) : Nat := sec / 2 ^ 14
/-- The sector of a tag in a bank and set: the placement reversed (R156). -/
def sectorFrom (bank set tag : Nat) : Nat := tag * 2 ^ 14 + ((set ^^^ (tag % 2048)) % 1024) * 16 + bank

/-- h of R172. -/
def hashOf (sec : Nat) : Nat := (sec % 2 ^ 15) ^^^ (sec / 2 ^ 15 % 2 ^ 15) ^^^ ((sec / 2 ^ 30 % 64) * 512)

/-- k of R172 for the Cellar size in force. -/
def State.cellarK (s : State) : Nat := 12 + s.rawN 0x3F00 1
/-- The group of a sector (R172). -/
def State.groupOf (s : State) (sec : Nat) : Nat := hashOf sec % 2 ^ (s.cellarK - 2)
/-- Groups in one segment. -/
def State.groupCount (s : State) : Nat := 2 ^ (s.cellarK - 2)
/-- The line address of bucket 0 of group `g` of segment `p` (R172). -/
def State.groupLine (s : State) (p g : Nat) : Nat :=
  (s.rawN 0x3F00 0 + p * (2 ^ (30 + s.rawN 0x3F00 1) / 4096) + g * 256) / 64
/-- w of R179. -/
def State.sumW (s : State) : Nat := 12 + s.build.sT - s.cellarK
/-- The Summary bit of a sector, given its page bucket, group and hash (R179). -/
def State.sumIndex (s : State) (p g h : Nat) : Nat :=
  let w := s.sumW
  let l := if w == 0 then 0 else h / 2 ^ (s.cellarK - 2) % 2 ^ w
  (((p / 2 ^ s.build.sT) * 2 ^ (s.cellarK - 2) + g) * 2 ^ w + l) % 2 ^ 22
/-- The page bucket of a sector. -/
def bucketOfSector (sec : Nat) : Nat := bucketOf (pageOfSector sec)
/-- The Summary bit of a sector (R179). -/
def State.sumBit (s : State) (sec : Nat) : Nat := s.sumIndex (bucketOfSector sec) (s.groupOf sec) (hashOf sec)

/-- The sector of a Cellar slot in segment `p` with its TAG and SUB (R173). -/
def sectorFromSlot (p tag sub : Nat) : Nat :=
  let a21 := (p ^^^ (tag / 4 % 4096) ^^^ ((tag / 2 ^ 14 % 256) * 16)) % 1024
  tag * 2 ^ 14 + a21 * 16 + sub

/-- The memory port of a line (R40). -/
def State.portOf (s : State) (l : Nat) : Nat :=
  (l * 64 / 2 ^ (8 + 2 * min (s.rawN 0x2011 0) 2)) % s.build.ports

/-! ## The Bucket Map and the Region table -/

/-- The Till of a bucket by the live map (R46, R47). -/
def State.liveTill (s : State) (b : Nat) : Nat := KV.get s.maps.bLive b (b % s.build.activeTills)
/-- The Till of a bucket by the map before the running commit. -/
def State.prevTill (s : State) (b : Nat) : Nat := KV.get s.maps.bPrev b (b % s.build.activeTills)
/-- The Till of a bucket by the replica of node `n`, a Wicket or 9 for the Auditor: the committed map once the node
has switched (R49). -/
def State.replicaTill (s : State) (n b : Nat) : Nat :=
  if s.maps.bPend.contains n then s.prevTill b else s.liveTill b
/-- The Bucket Map generation that node `n` stamps. -/
def State.replicaGen (s : State) (n : Nat) : Nat :=
  if s.maps.bPend.isEmpty || s.maps.bPend.contains n then s.maps.bGen else s.maps.bGen + 1

/-- The default region: region 0 is enabled (R203). -/
def regionDefault (n : Nat) : Region := if n == 0 then { attr := 0x80000000 } else {}
/-- A region of the live table. -/
def State.region (s : State) (n : Nat) : Region := KV.get s.maps.rLive n (regionDefault n)
/-- A region of the table before the running commit. -/
def State.regionPrev (s : State) (n : Nat) : Region := KV.get s.maps.rPrev n (regionDefault n)
/-- A region under a generation: the committed table, or the one before it while a commit runs (R204). -/
def State.regionAt (s : State) (gen n : Nat) : Region :=
  if !s.maps.rPend.isEmpty && gen == s.maps.rGen then s.regionPrev n else s.region n

/-- Fields of ATTR (R203). -/
def Region.en (r : Region) : Bool := bits r.attr 31 31 == 1
def Region.retentive (r : Region) : Bool := bits r.attr 30 30 == 1
def Region.claimable (r : Region) : Bool := bits r.attr 29 29 == 1
def Region.untracked (r : Region) : Bool := bits r.attr 28 28 == 1
def Region.stream (r : Region) : Nat := bits r.attr 27 26
def Region.tenant (r : Region) : Nat := bits r.attr 25 20
def Region.waygrp (r : Region) : Nat := bits r.attr 19 16

/-- Does an enabled region contain the 2 MiB block of a sector (R203). -/
def Region.covers (r : Region) (sec : Nat) : Bool :=
  r.en && decide (bits r.base 43 21 ≤ sec / 2 ^ 13) && decide (sec / 2 ^ 13 ≤ bits r.limit 43 21)

/-- The region of a sector under a generation: the lowest enabled one from 1 to 63, else region 0 (R203). -/
def State.regionOf (s : State) (gen sec : Nat) : Nat :=
  (((List.range 64).drop 1).find? (fun n => (s.regionAt gen n).covers sec)).getD 0

/-- The Region table generation that node `n` stamps. -/
def State.replicaRGen (s : State) (n : Nat) : Nat :=
  if s.maps.rPend.isEmpty || s.maps.rPend.contains n then s.maps.rGen else s.maps.rGen + 1

/-! ## Opcodes (R83) -/

/-- The code of a request opcode; 0x3B for a Home-internal Folio (R112). -/
def Opc.code : Opc → Nat
  | .rdS => 0x01 | .rdX => 0x02 | .rdAny => 0x03 | .rdNc => 0x04 | .own => 0x05 | .drop => 0x06 | .down => 0x07
  | .wbI => 0x08 | .wbS => 0x09 | .wbX => 0x0A | .evc => 0x0B | .conflict => 0x0C | .ncwFull => 0x10 | .ncwPtl => 0x11
  | .claimX => 0x20 | .claimS => 0x21 | .release => 0x22 | .rsv => 0x23 | .cwr => 0x24 | .settle => 0x25
  | .internal => 0x3B

/-- The request opcode of a code. -/
def opcOf (n : Nat) : Option Opc :=
  [Opc.rdS, .rdX, .rdAny, .rdNc, .own, .drop, .down, .wbI, .wbS, .wbX, .evc, .conflict, .ncwFull, .ncwPtl, .claimX,
   .claimS, .release, .rsv, .cwr, .settle].find? (fun o => o.code == n)

/-- The request carries a data message (R83). -/
def Opc.hasData : Opc → Bool
  | .wbI | .wbS | .wbX | .ncwFull | .ncwPtl | .cwr => true
  | _ => false
/-- The request reads data: its completion carries a line (R149). -/
def Opc.reads : Opc → Bool | .rdS | .rdX | .rdAny | .rdNc | .rsv => true | _ => false
/-- A writeback. -/
def Opc.isWb : Opc → Bool | .wbI | .wbS | .wbX => true | _ => false
/-- A request that gives a copy up or down without data (R75). -/
def Opc.isDrop : Opc → Bool | .evc | .drop | .down => true | _ => false
/-- A Claim. -/
def Opc.isClaim : Opc → Bool | .claimX | .claimS => true | _ => false

/-- The state codes of LST (R158). -/
def LState.code : LState → Nat | .i => 0 | .s => 1 | .x => 2 | .c => 3 | .p => 4 | .unknown => 5
/-- The state of an LST code; 6 and 7 read as Unknown. -/
def lstOf (n : Nat) : LState :=
  match n with | 0 => .i | 1 => .s | 2 => .x | 3 => .c | 4 => .p | _ => .unknown

/-- The phase codes of R113. -/
def Phase.code : Phase → Nat
  | .free => 0 | .reserved => 1 | .waiting => 2 | .lookup => 3 | .snoop => 4 | .data => 5 | .blocked => 6 | .done => 7
  | .folded => 8 | .retry => 9
/-- The SRC codes of R112. -/
def Src.code : Src → Nat | .escrow => 0 | .kept => 1 | .loan => 2 | .receipt => 3 | .internal => 4
/-- The STATUS codes of R82. -/
def CStat.code : CStat → Nat | .ok => 0 | .writtenOff => 1 | .lost => 2 | .fail => 3 | .retry => 4
/-- The STATE codes of R61. -/
def FnState.code : FnState → Nat | .off => 0 | .enabling => 1 | .on => 2 | .draining => 3 | .failed => 4

end Sys2Proof.Machine
end

