-- ==== Sys2Proof/Machine/Vault.lean ====
section
/-! DEFINITION. The entry code (R537), the Vault's entries and page parity (R157, R173, R367 to R369), the sharer field
(R160 to R163) and the ways (R189, R190). -/

namespace Sys2Proof.Machine

/-! ## The entry code (R537) -/

/-- The data positions of the code: the integers from 3 to 127 that are no power of two. -/
def dataPositions : List Nat := (List.range 128).filter (fun p => decide (3 ≤ p) && !([4, 8, 16, 32, 64].contains p))

/-- The XOR of the positions of the set data bits: CHK[6:0]. -/
def chkLow (d : Nat) : Nat :=
  (dataPositions.foldl (fun (a : Nat × Nat) p => (if a.2 % 2 == 1 then a.1 ^^^ p else a.1, a.2 / 2)) (0, d)).1

/-- The parity of the lowest `n` bits of a number. -/
def parity : Nat → Nat → Bool
  | 0, _ => false
  | n + 1, x => (x % 2 == 1) != parity n (x / 2)

/-- CHK over 120 data bits (R537). -/
def chkOf (d : Nat) : Nat := chkLow d + (if parity 120 d != parity 7 (chkLow d) then 128 else 0)

/-- The outcome of a read of a stored word (R537). -/
inductive Ecc where
  | good | corrected | bad
  deriving DecidableEq, Repr

/-- Reads `d` with the stored check bits `c`; `n` data bits are in use. -/
def eccRead (n d c : Nat) : Ecc × Nat :=
  let syn := chkLow d ^^^ (c % 128)
  let odd := parity 120 d != parity 8 c
  if syn == 0 then (if odd then (.corrected, d) else (.good, d))
  else if !odd then (.bad, d)
  else if [1, 2, 4, 8, 16, 32, 64].contains syn then (.corrected, d)
  else
    match dataPositions.findIdx? (· == syn) with
    | some j => if j < n then (.corrected, d ^^^ 2 ^ j) else (.bad, d)
    | none => (.bad, d)

/-! ## Entries -/

/-- The state of line `i`. -/
def Ent.line (e : Ent) (i : Nat) : LState := match i with | 0 => e.l0 | 1 => e.l1 | 2 => e.l2 | _ => e.l3
/-- Sets the state of line `i`. -/
def Ent.setLine (e : Ent) (i : Nat) (x : LState) : Ent :=
  match i with | 0 => { e with l0 := x } | 1 => { e with l1 := x } | 2 => { e with l2 := x } | _ => { e with l3 := x }
/-- Sets every line. -/
def Ent.setAll (e : Ent) (x : LState) : Ent := { e with l0 := x, l1 := x, l2 := x, l3 := x }
/-- The four states. -/
def Ent.lines (e : Ent) : List LState := [e.l0, e.l1, e.l2, e.l3]
/-- All lines I (R159). -/
def Ent.idle (e : Ent) : Bool := e.lines.all (· == .i)
/-- The entry names no sector (R159). -/
def Ent.empty (e : Ent) : Bool := e.idle && !e.dirty && !e.lock
/-- Some line is in C. -/
def Ent.claimed (e : Ent) : Bool := e.lines.any (· == .c)
/-- The sector is Unknown. -/
def Ent.unknown (e : Ent) : Bool := e.lines.any (· == .unknown)

/-- LST3 to LST0, FMT and SHR as they stand in bits [89:12] of both layouts (R157, R173). -/
def Ent.core (e : Ent) : Nat :=
  place e.l3.code 3 87 + place e.l2.code 3 84 + place e.l1.code 3 81 + place e.l0.code 3 78 + place e.fmt.toNat 2 76
    + place e.shr.toNat 64 12

/-- The entry of bits [89:12]. -/
def Ent.ofCore (n : Nat) : Ent :=
  { l3 := lstOf (n / 2 ^ 87 % 8), l2 := lstOf (n / 2 ^ 84 % 8), l1 := lstOf (n / 2 ^ 81 % 8), l0 := lstOf (n / 2 ^ 78 % 8)
    fmt := BitVec.ofNat 2 (n / 2 ^ 76), shr := BitVec.ofNat 64 (n / 2 ^ 12) }

/-- The stored bits of a Vault entry (R157). An empty entry is stored as all zero, as the bring-up fill leaves it. -/
def encVault (tag : Nat) (e : Ent) : VBits :=
  if e.empty then 0 else
    let d := place tag 22 90 + e.core + place e.age.toNat 2 10 + place (bit e.strm) 1 9 + place (bit e.lock) 1 8
      + place (bit e.dirty) 1 7
    BitVec.ofNat 120 (place (chkOf d) 8 112 + d)

/-- A read of stored Vault bits: its outcome, tag and entry; an uncorrectable one reads as empty (R369). -/
def decVault (v : VBits) : Ecc × Nat × Ent :=
  if v == 0 then (.good, 0, {}) else
    let (o, d) := eccRead 112 (v.toNat % 2 ^ 112) (v.toNat / 2 ^ 112)
    if o == .bad then (.bad, 0, {}) else
    (o, d / 2 ^ 90 % 2 ^ 22,
      { Ent.ofCore d with
        age := BitVec.ofNat 2 (d / 2 ^ 10), strm := d / 2 ^ 9 % 2 == 1, lock := d / 2 ^ 8 % 2 == 1
        dirty := d / 2 ^ 7 % 2 == 1 })

/-- The stored bits of a Cellar slot (R173); an idle entry is an empty slot (R174). -/
def encSlot (gen tag sub : Nat) (e : Ent) : Nat :=
  if e.idle then 0 else
    let d := place gen 8 112 + place tag 22 90 + e.core + place sub 4 8
    place (chkOf d) 8 120 + d

/-- The stored bits with a correctable error corrected (R366). -/
def eccFix (v : VBits) : VBits :=
  if v == 0 then 0 else
    let (o, d) := eccRead 112 (v.toNat % 2 ^ 112) (v.toNat / 2 ^ 112)
    if o == .corrected then BitVec.ofNat 120 (place (chkOf d) 8 112 + d) else v

/-- A slot as a group read finds it: outcome of the code, GEN, TAG, SUB and entry. -/
structure Slot where
  ecc : Ecc
  gen : Nat
  tag : Nat
  sub : Nat
  ent : Ent
  deriving DecidableEq, Repr

/-- Reads the stored bits of a slot. -/
def decSlot (v : Nat) : Slot :=
  if v == 0 then ⟨.good, 0, 0, 0, {}⟩ else
    let (o, d) := eccRead 120 (v % 2 ^ 120) (v / 2 ^ 120)
    ⟨o, d / 2 ^ 112 % 256, d / 2 ^ 90 % 2 ^ 22, d / 2 ^ 8 % 16, Ent.ofCore d⟩

/-! ## The Vault and its parity -/

/-- The key of a way. -/
def vkey (bank set way : Nat) : Nat := (bank * 2048 + set) * 16 + way

/-- Multiplication by α in GF(2^8) (R368). -/
def gfDouble (x : Nat) : Nat := if x < 128 then 2 * x else (2 * x) ^^^ 0x11D
/-- Multiplication in GF(2^8). -/
def gfMul (a b : Nat) : Nat :=
  ((List.range 8).foldl (fun (s : Nat × Nat) i => (if b / 2 ^ i % 2 == 1 then s.1 ^^^ s.2 else s.1, gfDouble s.2)) (0, a)).1
/-- α to the power e. -/
def gfPow (e : Nat) : Nat := (List.range e).foldl (fun x _ => gfDouble x) 1
/-- The inverse in GF(2^8): the power 254. -/
def gfInv (a : Nat) : Nat := (List.range 253).foldl (fun x _ => gfMul x a) a
/-- Multiplies each of the 15 symbols of a stored entry (R368). -/
def symMul (c : Nat) (v : VBits) : VBits :=
  BitVec.ofNat 120 (((List.range 15).map (fun s => gfMul (v.toNat / 2 ^ (8 * s) % 256) c * 2 ^ (8 * s))).sum)

/-- The stored bits of a way. -/
def Till.vraw (u : Till) (k : Nat) : VBits := KV.get u.vault k 0

/-- Writes the stored bits of a way, and PAR0 and PAR1 of its page from the old and new values (R369). -/
def Till.vwrite (u : Till) (k : Nat) (v : VBits) : Till :=
  if u.vraw k == v then u else
    let d := eccFix (u.vraw k) ^^^ v
    let page := k / 64
    let p := KV.get u.parity page (0, 0)
    { u with
      vault := KV.set u.vault k v 0
      parity := KV.set u.parity page (p.1 ^^^ d, p.2 ^^^ symMul (gfPow (k % 64)) d) (0, 0) }

/-- The entry of a way with its tag. -/
def Till.vread (u : Till) (k : Nat) : Nat × Ent := (decVault (u.vraw k)).2

/-- The ways of a set: way, tag and entry. -/
def Till.set (u : Till) (bank set : Nat) : List (Nat × Nat × Ent) :=
  (List.range 16).map (fun w => (w, u.vread (vkey bank set w)))

/-- The way that holds a sector, with its entry (R181). An empty entry names no sector. -/
def Till.hit (u : Till) (sec : Nat) : Option (Nat × Ent) :=
  ((u.set (bankOf sec) (setOf sec)).find? (fun x => x.2.1 == tagOf sec && !x.2.2.empty)).map (fun x => (x.1, x.2.2))

/-- Writes the entry of a sector into a way. -/
def Till.vput (u : Till) (sec way : Nat) (e : Ent) : Till :=
  u.vwrite (vkey (bankOf sec) (setOf sec) way) (encVault (tagOf sec) e)

/-- Where the authoritative copy of a sector's entry is (R218). -/
inductive Loc where
  | way (w : Nat) | op (k : Nat) | resident
  deriving DecidableEq, Repr

/-- The copy of a sector's entry in the places of R218, in that order. -/
def Till.find (u : Till) (sec : Nat) : Option (Loc × Ent) :=
  match u.hit sec with
  | some (w, e) => some (.way w, e)
  | none =>
    match List.find? (fun p => p.2.sector == sec && p.2.buffered) u.secOps with
    | some (k, o) => some (.op k, o.ent)
    | none => (KV.find? u.resident sec).map (fun e => (.resident, e))

/-- Writes the copy of a sector's entry back to its place; a late change of a spilled entry is marked (R220). -/
def Till.putAt (u : Till) (sec : Nat) (l : Loc) (e : Ent) : Till :=
  match l with
  | .way w => u.vput sec w e
  | .op k => { u with secOps := KV.mod u.secOps k (fun o => { o with ent := e, late := o.late || o.cwbDone }) }
  | .resident => { u with resident := KV.put u.resident sec e }

/-! ## The sharer field (R160 to R163) -/

/-- An agent that is a caching host and Active or Leaving (R161). -/
def Agent.present (a : Agent) : Bool := a.kind == 0 && (a.state == .active || a.state == .leaving)
/-- Is the agent present. -/
def State.present (s : State) (n : Nat) : Bool := (s.agent n).present
/-- The present agents, ascending. -/
def State.presentList (s : State) : List Nat := (s.agents.filter (fun p => p.2.present)).map (·.1)

/-- The pointers of FMT 00. -/
def Ent.ptrs (e : Ent) : List Nat :=
  if bits e.shr 63 60 ≤ 6 then (List.range (bits e.shr 63 60)).map (fun i => bits e.shr (10 * i + 9) (10 * i)) else []

/-- FMT as it is read: a COUNT of 7 to 15 reads as FMT 11 (R160). -/
def Ent.format (e : Ent) : Nat := if e.fmt == 0 && bits e.shr 63 60 > 6 then 3 else e.fmt.toNat

/-- Precise pointers. -/
def Ent.setPtrs (e : Ent) (l : List Nat) : Ent :=
  { e with
    fmt := 0
    shr := BitVec.ofNat 64 (place l.length 4 60 + (l.mapIdx (fun i a => place a 10 (10 * i))).sum) }

/-- Is agent `n` a member of tenant list `t` (R165). -/
def State.member (s : State) (t n : Nat) : Bool := t != 0 && s.rawN (0x2040 + t) (n / 64) / 2 ^ (n % 64) % 2 == 1
/-- The group mask of a tenant: the groups of its members (R165). -/
def State.tenantMask (s : State) (t : Nat) : Nat :=
  ((List.range 64).map (fun g => if s.rawN (0x2040 + t) (g / 4) / 2 ^ (16 * (g % 4)) % 2 ^ 16 != 0 then 2 ^ g else 0)).sum

/-- The agents that the sharer field names (R160). -/
def State.named (s : State) (e : Ent) : List Nat :=
  match e.format with
  | 0 => e.ptrs
  | 1 => s.presentList.filter (fun n => e.shr.toNat / 2 ^ (n / 16) % 2 == 1)
  | 2 => s.presentList.filter (fun n => s.member (bits e.shr 5 0) n)
  | _ => s.presentList

/-- H: the holders of a line (R71). -/
def State.holders (s : State) (e : Ent) (i : Nat) : List Nat :=
  if e.line i == .s || e.line i == .x then s.named e else []

/-- Is agent `n` named by the sharer field. -/
def State.names (s : State) (e : Ent) (n : Nat) : Bool := (s.named e).contains n

/-- The requester is the owner of a line in X only when H names it and no other agent (R71). -/
def State.ownerIs (s : State) (e : Ent) (i n : Nat) : Bool := e.line i == .x && s.named e == [n]

/-- How many bits are set in a 64-bit number. -/
def popcount (x : Nat) : Nat := ((List.range 64).filter (fun i => x / 2 ^ i % 2 == 1)).length

/-- FMT 01 with a group mask, or FMT 11 where the mask has more bits than the threshold (R162). -/
def State.coarse (s : State) (e : Ent) (mask : Nat) : Ent :=
  if popcount mask > s.rawN 0x3F00 7 then { e with fmt := 3, shr := 0 } else { e with fmt := 1, shr := BitVec.ofNat 64 mask }

/-- Adds a holder to the sharer field (R162). -/
def State.addHolder (s : State) (tenant : Nat) (e : Ent) (n : Nat) : Ent :=
  match e.format with
  | 0 =>
    let l := e.ptrs
    if l.contains n then e
    else if l.length < 6 then e.setPtrs (l ++ [n])
    else if tenant != 0 && (l ++ [n]).all (s.member tenant) then { e with fmt := 2, shr := BitVec.ofNat 64 tenant }
    else s.coarse e ((l ++ [n]).foldl (fun m a => m ||| 2 ^ (a / 16)) 0)
  | 1 => s.coarse e (e.shr.toNat ||| 2 ^ (n / 16))
  | 2 =>
    if s.member (bits e.shr 5 0) n then e
    else s.coarse e (s.tenantMask (bits e.shr 5 0) ||| 2 ^ (n / 16))
  | _ => e

/-- The format when every line is I or P; and a line in S or X without a named holder becomes I (R162, R163). -/
def Ent.tidy (e : Ent) : Ent :=
  let e1 := if e.format == 0 && e.ptrs.isEmpty then
      (List.range 4).foldl (fun e i => if e.line i == .s || e.line i == .x then e.setLine i .i else e) e else e
  if e1.lines.all (fun x => x == .i || x == .p) then { e1 with fmt := 0, shr := 0 } else e1

/-- Removes an agent's pointer (R163). -/
def Ent.dropPtr (e : Ent) (n : Nat) : Ent := if e.format == 0 then e.setPtrs (e.ptrs.filter (· != n)) else e

/-- A holder leaves line `i`: its pointer goes only if the format is 00 and every other line is I or P (R163). -/
def Ent.leaves (e : Ent) (i n : Nat) : Ent :=
  if e.format == 0 && ((List.range 4).all (fun j => j == i || e.line j == .i || e.line j == .p)) then e.dropPtr n else e

/-! ## Ways -/

/-- May way `w` receive a new sector of the region: ON, unlocked, unpinned, in the mask (R189, R210). -/
def State.eligible (s : State) (t region bank set : Nat) (w : Nat) (e : Ent) : Bool :=
  ((s.ways[w]?).map (·.st == .on)).getD false && !e.lock && !e.claimed
    && !((s.till t).folios.any (fun p => p.2.way == some w && bankOf (sectorOf p.2.laddr) == bank
          && setOf (sectorOf p.2.laddr) == set && p.2.phase != .free))
    && (s.build == .h1L || s.rawN 0x3F30 (s.region region).waygrp / 2 ^ w % 2 == 1)

/-- Is a way of the set pinned: an open Folio holds it, or it records a line in C (R189). -/
def State.pinned (s : State) (t bank set w : Nat) (e : Ent) : Bool :=
  e.claimed || (s.till t).folios.any (fun p => p.2.way == some w && bankOf (sectorOf p.2.laddr) == bank
    && setOf (sectorOf p.2.laddr) == set)

/-- The ages after the ageing steps of R190: each step adds 1 to every eligible way until one has age 3. -/
def ageUp (l : List (Nat × Nat × Ent)) : List (Nat × Nat × Ent) :=
  let m := (l.map (fun x => x.2.2.age.toNat)).foldl max 0
  l.map (fun x => (x.1, x.2.1, { x.2.2 with age := BitVec.ofNat 2 (x.2.2.age.toNat + (3 - m)) }))

/-- Chooses the way for a new sector and ages the eligible ways (R190); none where no way is eligible. -/
def State.chooseWay (s : State) (t region sec : Nat) : Option (State × Nat) :=
  let bank := bankOf sec
  let set := setOf sec
  let l := ((s.till t).set bank set).filter (fun x => s.eligible t region bank set x.1 x.2.2)
  match l.find? (fun x => x.2.2.empty) with
  | some x => some (s, x.1)
  | none =>
    if l.isEmpty then none else
      let aged := ageUp l
      let s1 := s.modTill t (fun u => aged.foldl (fun u x => u.vwrite (vkey bank set x.1) (encVault x.2.1 x.2.2)) u)
      let cand := aged.filter (fun x => x.2.2.age == 3)
      let pick := (cand.find? (fun x => x.2.2.idle && !x.2.2.dirty)).orElse fun _ =>
        (cand.find? (fun x => x.2.2.idle)).orElse fun _ =>
        (cand.find? (fun x => !x.2.2.dirty)).orElse fun _ => cand.head?
      pick.map (fun x => (s1, x.1))

/-! ## The Cellar Summary (R179, R180) -/

/-- Adds one position to a set of runs. -/
def Runs.insert (k : Nat) : Runs → Runs
  | [] => [(k, 1)]
  | (a, n) :: t =>
    if k + 1 < a then (k, 1) :: (a, n) :: t
    else if k + 1 == a then (k, n + 1) :: t
    else if k < a + n then (a, n) :: t
    else if k == a + n then
      (match t with
       | (b, m) :: t' => if b == k + 1 then (a, n + 1 + m) :: t' else (a, n + 1) :: t
       | [] => [(a, n + 1)])
    else (a, n) :: Runs.insert k t

/-- Adds the positions `a … a + n - 1`. -/
def Runs.insertRange (a n : Nat) (r : Runs) : Runs :=
  let hit := r.filter (fun x => decide (x.1 ≤ a + n) && decide (a ≤ x.1 + x.2))
  let lo := hit.foldl (fun m x => min m x.1) a
  let hi := hit.foldl (fun m x => max m (x.1 + x.2)) (a + n)
  let (below, above) := (r.filter (fun x => decide (x.1 + x.2 < a)), r.filter (fun x => decide (a + n < x.1)))
  below ++ (lo, hi - lo) :: above

/-- Removes one position. -/
def Runs.remove (k : Nat) : Runs → Runs
  | [] => []
  | (a, n) :: t =>
    if k < a then (a, n) :: t
    else if k < a + n then
      (if k == a then [] else [(a, k - a)]) ++ (if k + 1 == a + n then [] else [(k + 1, a + n - k - 1)]) ++ t
    else (a, n) :: Runs.remove k t

/-- Is a position in the set. -/
def Runs.mem (k : Nat) (r : Runs) : Bool := r.any (fun p => decide (p.1 ≤ k) && decide (k < p.1 + p.2))
/-- How many positions are set. -/
def Runs.count (r : Runs) : Nat := (r.map (·.2)).sum

/-- The Summary bit of a sector as the Till treats it: clear while the Cellar is not ON (R186). -/
def State.summaryOf (s : State) (t sec : Nat) : Bool :=
  s.cellarState == 2 && Runs.mem (s.sumBit sec) (s.till t).summary

end Sys2Proof.Machine
end

