-- ==== Sys2Proof/Machine/Ledger.lean ====
section
/-! DEFINITION. The Ledger's parts: messages on the planes, memory accesses in issue order, Folios, chains, pools,
retirement (R73, R81, R111 to R137, R271, R517, R520). -/

namespace Sys2Proof.Machine

/-! ## Messages between Tills and Wickets (R271) -/

/-- A Till sends a P-plane message to a Wicket. -/
def State.sendP (s : State) (t w : Nat) (m : PMsg) : State :=
  let s := s.packet (.till t) 2 1 (.wicket w)
  { s with net := { s.net with p := s.net.p ++ [(t, w, m)] } }
/-- A Wicket sends a P-plane message to a Till. -/
def State.sendW (s : State) (w t : Nat) (m : WMsg) : State :=
  let s := s.packet (.wicket w) 2 1 (.till t)
  { s with net := { s.net with pw := s.net.pw ++ [(w, t, m)] } }
/-- The oldest P-plane message from a Till to a Wicket. -/
def State.frontP (s : State) (t w : Nat) : Option PMsg :=
  (s.net.p.find? (fun x => x.1 == t && x.2.1 == w)).map (·.2.2)
/-- Takes that message off the plane. -/
def State.popP (s : State) (t w : Nat) : State :=
  { s with net := { s.net with p := dropFirst (fun x => x.1 == t && x.2.1 == w) s.net.p } }
/-- The oldest P-plane message from a Wicket to a Till. -/
def State.frontW (s : State) (w t : Nat) : Option WMsg :=
  (s.net.pw.find? (fun x => x.1 == w && x.2.1 == t)).map (·.2.2)
/-- Takes that message off the plane. -/
def State.popW (s : State) (w t : Nat) : State :=
  { s with net := { s.net with pw := dropFirst (fun x => x.1 == w && x.2.1 == t) s.net.pw } }

/-! ## Folios -/

/-- A Folio with the fields of R112 at their defaults. -/
def blankFolio : Folio := {
  phase := .lookup, laddr := 0, opc := .internal, aid := 0, inc := 0, tag := 0, src := .internal, credit := .internal
  bgen := 0, rgen := 0, strm := false, param := 0, nb := false, head := false, next := none, wicket := 0, origin := .agent
  epoch := 0, job := .request, wdata := none, due := [], owners := [], gotI := [], gotS := [], gotE := none, folds := []
  woff := false, woffLines := [], spec := .none, rdata := none, read := none, lst := .i, looked := false, way := none
  region := 0, waits := false, consulted := false, sent := false, status := .ok, readOut := false, writes := []
  crossed := [], outcome := .ok, dead := false, blockedTick := none, acceptCclk := 0, headCclk := 0, doneCclk := 0
  expect0 := 0, consult := false, applied := false, through := false, resolving := false, fresh := false
  kinds := [], foundX := [], wrote := false, cwrLost := false, retried := false, holder := false, blk := true, specRead := false }

/-- The lowest free Folio number (DESIGN CHOICE, log entry 3). -/
def State.freeFolio (s : State) (t : Nat) : Option Nat := KV.lowest (s.till t).folios 16384

/-- Folios of the internal reserve in use: internal Folios, and receipts taken from the reserve (R124). -/
def Till.internalUsed (u : Till) : Nat :=
  (u.folios.filter (fun p => p.2.credit == .internal && p.2.src == .internal)).length
/-- Folios of the receipt reserve in use (R139). -/
def Till.receiptUsed (u : Till) : Nat :=
  (u.folios.filter (fun p => p.2.credit == .internal && p.2.src == .receipt)).length
/-- Internal Folios free for evictions and walks: the reserve of 256 less its 64 receipts (R124, R200). -/
def Till.internalFree (u : Till) : Nat := 192 - u.internalUsed

/-- Read-return buffers in use: a Folio's read or copy, and the shared buffer of a sector operation (R143, R192). -/
def Till.readBufsUsed (u : Till) : Nat :=
  (u.folios.filter (fun p => p.2.read.isSome || p.2.rdata.isSome)).length + u.secOps.length

/-- The head of a line's chain. -/
def Till.headOf (u : Till) (l : Line) : Option Nat := (u.chains.find? (fun c => c.laddr == l)).map (·.head)

/-- The escrow sums over the 1,024 entries (R124, R152). -/
def State.escrowF (s : State) (n : Nat) : Nat :=
  let v := (s.agent n).folioEscrow.toNat
  if v == 0 then s.rawN 0x4010 0 else v
def State.escrowD (s : State) (n : Nat) : Nat :=
  let v := (s.agent n).dataEscrow.toNat
  if v == 0 then s.rawN 0x4010 1 else v
/-- The sums of Folio and data escrow: the entries that use the default, and the others (R127). -/
def State.escrowSums (s : State) : Nat × Nat :=
  let f := List.filter (fun p => p.2.folioEscrow != 0) s.agents
  let d := List.filter (fun p => p.2.dataEscrow != 0) s.agents
  ((f.map (fun p => p.2.folioEscrow.toNat)).sum + (1024 - f.length) * s.rawN 0x4010 0,
   (d.map (fun p => p.2.dataEscrow.toNat)).sum + (1024 - d.length) * s.rawN 0x4010 1)

/-- The shared pool not lent: all Folios but the internal reserve, less what is committed to agents and lent (R135,
R137; DEDUCED, log entry 19). -/
def Till.poolF (u : Till) : Nat := 16128 - (u.escrow.map (fun p => p.2.folios)).sum - u.lentF
def Till.poolD (u : Till) : Nat := 6080 - (u.escrow.map (fun p => p.2.data)).sum - u.lentD

/-! ## Memory accesses (R81, R517, R520) -/

/-- Does an access carry a line on MWDATA. -/
def mopCarries : Mop → Bool | .mwr | .mwrPtl | .cwb => true | _ => false
/-- Is an access answered on MCMP. -/
def mopWritten : Mop → Bool | .mwr | .mwrPtl | .cwb | .mmeta => true | _ => false

/-- The credits of a Till at a port: request and write-data (R520). -/
def Till.cred (u : Till) (m : Nat) : Nat × Nat := KV.get u.memCred m (0, 0)

/-- An access leaves: its message, and the Folio's record of the answer to come (R517, R522). -/
def issueAcc (s : State) (t : Nat) (a : MemAcc) : State :=
  let s0 := s.packet (.till t) 0 1 (.port a.port)
  let s0 := if mopCarries a.mop then s0.packet (.till t) 4 1 (.port a.port) else s0
  let s1 := s0.send (.mreq a.port a.mop a.spec a.lmask a.mbit a.mval
    (a.mop == .mwr && s.summaryOf t a.sector) (BitVec.ofNat 38 a.addr) t a.folio a.data a.be a.poison)
  let s2 := if a.mop == .mrd || a.mop == .crd then
      (if a.mop == .mrd then s1.gev 0x108 a.port else s1).modFolio t a.folio (fun f =>
        { f with read := f.read.map (fun r => { r with tick := s.time.tick, cclk := s.time.cclk }) })
    else if mopWritten a.mop then
      s1.modFolio t a.folio (fun f => { f with writes := f.writes ++ [⟨a.mop, BitVec.ofNat 38 a.addr, a.port, s.time.tick⟩] })
    else s1
  s2.modTill t (fun u =>
    let c := u.cred a.port
    { u with memCred := KV.set u.memCred a.port (c.1 - 1, if mopCarries a.mop then c.2 - 1 else c.2) (0, 0) })

/-- Issues the waiting accesses in order; an access without its credits holds every later one of its port (R81, R520). -/
def drainMem (s : State) (t : Nat) : State :=
  let go := fun (x : State × List MemAcc × List Nat) (a : MemAcc) =>
    let c := (x.1.till t).cred a.port
    if x.2.2.contains a.port || c.1 == 0 || (mopCarries a.mop && c.2 == 0) then
      (x.1, x.2.1 ++ [a], a.port :: x.2.2)
    else (issueAcc x.1 t a, x.2.1, x.2.2)
  let r := (s.till t).memQ.foldl go (s, [], [])
  r.1.modTill t (fun u => { u with memQ := r.2.1 })

/-- Puts an access behind the earlier ones of the Till and issues what the credits allow. -/
def pushAcc (s : State) (t : Nat) (a : MemAcc) : State :=
  drainMem (s.modTill t (fun u => { u with memQ := u.memQ ++ [a] })) t

/-- An access without data. -/
def plainAcc (s : State) (mop : Mop) (addr folio : Nat) : MemAcc :=
  { port := s.portOf addr, mop := mop, spec := false, lmask := 0, mbit := false, mval := false, sector := addr / 4,
    addr := addr, folio := folio, data := 0, be := 0, poison := false }

/-- A Folio reads its line (R143): MRD, speculative or not. -/
def readLine (s : State) (t f : Nat) (l : Line) (spec : Bool) : State :=
  let s1 := s.modFolio t f (fun x => { x with
    spec := .issued, specRead := spec
    read := some ⟨false, l, s.portOf l.toNat, s.time.tick, s.time.cclk, [0], [], false, false⟩ })
  let s2 := if spec then s1.tev t 0x00F else s1
  pushAcc s2 t { plainAcc s .mrd l.toNat f with spec := spec }

/-- A Folio reads a Cellar group (R172, R517). -/
def readGroup (s : State) (t f p g : Nat) : State :=
  let a := s.groupLine p g
  pushAcc (s.modFolio t f (fun x => { x with
    read := some ⟨true, BitVec.ofNat 38 a, s.portOf a, s.time.tick, s.time.cclk, [0, 1, 2, 3], [], false, false⟩ })) t (plainAcc s .crd a f)

/-- A Folio writes its line: MWR or MWR_PTL (R167). -/
def writeLine (s : State) (t f : Nat) (l : Line) (d : WData) (partly : Bool) : State :=
  pushAcc s t { plainAcc s (if partly then .mwrPtl else .mwr) l.toNat f with data := d.data, be := d.be, poison := d.poison }

/-- A Folio writes Memo bits of the lines of a sector: `off` selects WRITTEN_OFF (R167). -/
def writeMemo (s : State) (t f sec mask : Nat) (off value : Bool) : State :=
  pushAcc s t { plainAcc s .mmeta (sec * 4) f with lmask := mask, mbit := off, mval := value }

/-- A Folio writes one Cellar bucket (R517). -/
def writeBucket (s : State) (t f addr : Nat) (d : LineData) : State :=
  pushAcc s t { plainAcc s .cwb addr f with data := d, be := BitVec.allOnes 64 }

/-- Counts the cancellation of a speculative read (R144). -/
def countCancel (s : State) (t : Nat) (x : Folio) : State :=
  if x.specRead then (s.bump ⟨0x2020, 5, 32⟩).tev t 0x010 else s

/-- Cancels a Folio's read of its line (R144): MCANCEL if it has left and its data has not returned, and the data is
discarded. A read that has not left yet leaves the queue. -/
def cancelRead (s : State) (t f : Nat) : State :=
  match s.folio? t f with
  | none => s
  | some x =>
    match x.read with
    | some r =>
      if r.crd || r.cancel then s
      else
        let s1 := countCancel s t x
        if (s.till t).memQ.any (fun a => a.folio == f && a.mop == .mrd) then
          (s1.modTill t (fun u => { u with memQ := u.memQ.filter (fun a => !(a.folio == f && a.mop == .mrd)) })).modFolio t f
            (fun x => { x with spec := .none, read := none, specRead := false })
        else
          let s2 := s1.modFolio t f (fun x => { x with spec := .cancelled, read := some { r with cancel := true }, specRead := false })
          if x.specRead then pushAcc s2 t (plainAcc s .mcancel r.addr.toNat f) else s2
    | none =>
      if x.spec == .held then
        (countCancel s t x).modFolio t f (fun x => { x with spec := .none, rdata := none, specRead := false })
      else s

/-! ## Slots (R489) -/

/-- Classes of a Till slot: retired 0, wasted 1, front-starved 2, back-starved 3. -/
def State.slot (s : State) (t cls n : Nat) : State :=
  if s.rawN 0xB800 3 == 1 then s else
    s.modTill t (fun u => match cls with
      | 0 => { u with slotsRetired := u.slotsRetired + n }
      | 1 => { u with slotsWasted := u.slotsWasted + n }
      | 2 => { u with slotsFront := u.slotsFront + n }
      | _ => { u with slotsBack := u.slotsBack + n })

/-- A request was decided (R489 class 1; DEDUCED, log entry 10). -/
def State.slotRetired (s : State) (t : Nat) : State := (s.slot t 0 1).tev t 0x002
/-- A slot was wasted (R489 class 2). -/
def State.slotWasted (s : State) (t : Nat) : State := (s.slot t 1 1).tev t 0x003

/-! ## Chains (R115 to R120) -/

/-- The two bucket indices of a line (R117). -/
def hash1 (draw : Nat) (l : Line) : Nat := (Config.headHash draw 0 l).toNat
def hash2 (draw : Nat) (l : Line) : Nat :=
  let h := (Config.headHash draw 1 l).toNat
  if h == hash1 draw l then h ^^^ 1 else h

/-- Descriptors in a bucket of the head table. -/
def inBucket (draw h : Nat) (l : List Chain) : Nat :=
  (l.filter (fun c => (c.place == .bucket1 && hash1 draw c.laddr == h) || (c.place == .bucket2 && hash2 draw c.laddr == h))).length

/-- Where a new chain is placed (R118). While fewer than four chains are open, bucket h1 has a free descriptor. -/
def placeFor (draw : Nat) (l : Line) (cs : List Chain) : Place :=
  if cs.length < 4 then .bucket1 else
    let n1 := inBucket draw (hash1 draw l) cs
    let n2 := inBucket draw (hash2 draw l) cs
    if n1 < 4 then .bucket1
    else if n2 < 4 then .bucket2
    else if (cs.filter (·.place == .store)).length < 64 then .store
    else .list

/-- Opens a chain with one Folio as its head (R118, R119). -/
def openChain (s : State) (t : Nat) (l : Line) (f : Nat) : State :=
  let u := s.till t
  let pl := placeFor s.coldDraw l u.chains
  let s1 := s.modTill t (fun u => { u with
    chains := u.chains ++ [⟨l, f, f, pl⟩]
    disp := if pl == .bucket1 then u.disp else
      KV.set u.disp (hash1 s.coldDraw l) (min 7 (KV.get u.disp (hash1 s.coldDraw l) 0 + 1)) 0 })
  if pl == .list && !(u.chains.any (·.place == .list)) then
    (s1.note .ledgerOverflowList (.till t) [t]).bump ⟨0x4012, 4, 32⟩
  else s1

/-- DISP as the descriptors give it; the Till rebuilds it when the overflow list empties (R119). -/
def rebuiltDisp (draw : Nat) (cs : List Chain) : KV Nat :=
  (cs.filter (·.place != .bucket1)).foldl
    (fun m c => KV.set m (hash1 draw c.laddr) (min 7 (KV.get m (hash1 draw c.laddr) 0 + 1)) 0) []

/-- Frees the descriptor of a chain (R120). -/
def closeChain (s : State) (t : Nat) (l : Line) : State :=
  s.modTill t (fun u =>
    match u.chains.find? (fun c => c.laddr == l) with
    | none => u
    | some c =>
      let cs := u.chains.filter (fun c => c.laddr != l)
      let d := if c.place == .bucket1 then u.disp else
        let h := hash1 s.coldDraw l
        let v := KV.get u.disp h 0
        KV.set u.disp h (if v == 7 then 7 else v - 1) 0
      { u with
        chains := cs
        disp := if c.place == .list && !(cs.any (·.place == .list)) then rebuiltDisp s.coldDraw cs else d })

/-- A Folio joins the chain of its line, or opens one (R115, R118). -/
def joinChain (s : State) (t f : Nat) (l : Line) : State :=
  match (s.till t).chains.find? (fun c => c.laddr == l) with
  | none =>
    (openChain s t l f).modFolio t f (fun x => { x with
      head := true, phase := .lookup, headCclk := s.time.cclk, blk := s.rawN 0x2020 0 == 1 })
  | some c =>
    ((s.modFolio t c.tail (fun x => { x with next := some f })).modFolio t f (fun x => { x with phase := .waiting })).modTill
      t (fun u => { u with chains := u.chains.map (fun d => if d.laddr == l then { d with tail := f } else d) })

/-- The copy of the line that a Folio hands on (R80): memory data or folded data. A request that writes its line hands
nothing on: its successor reads memory behind the write. -/
def Folio.copy (x : Folio) : Option RData := if x.opc.hasData then none else x.rdata

/-- A head hands the head on to its successor, or frees the descriptor (R120, R80). -/
def handOn (s : State) (t f : Nat) : State :=
  match s.folio? t f with
  | none => s
  | some x =>
    if !x.head then s
    else
      let s1 := s.modFolio t f (fun x => { x with head := false, next := none })
      match x.next with
      | none => closeChain s1 t x.laddr
      | some g =>
        (s1.modFolio t g (fun y => { y with
          head := true, phase := .lookup, headCclk := s.time.cclk, blk := s.rawN 0x2020 0 == 1
          rdata := x.copy.orElse fun _ => y.rdata
          spec := if x.copy.isSome then .held else y.spec })).modTill t (fun u =>
            { u with chains := u.chains.map (fun d => if d.laddr == x.laddr then { d with head := g } else d) })

/-- Takes a Folio that is not the head out of its chain. -/
def unlink (s : State) (t f : Nat) : State :=
  match s.folio? t f with
  | none => s
  | some x =>
    s.modTill t (fun u =>
      let prev := (List.find? (fun p => p.2.next == some f) u.folios).map (·.1)
      { u with
        folios := u.folios.map (fun p => if some p.1 == prev then (p.1, { p.2 with next := x.next }) else p)
        chains := u.chains.map (fun c => if c.laddr == x.laddr && c.tail == f then { c with tail := prev.getD c.head } else c) })

/-! ## Retirement (R114, R133) -/

/-- Has every answer of a Folio arrived: its writes, its read, and the read-out of its data (R114, R517). -/
def canRetire (s : State) (t : Nat) (f : Nat) (x : Folio) : Bool :=
  x.phase == .done && x.writes.isEmpty && x.read.isNone && !x.readOut
    && !((s.till t).memQ.any (fun a => a.folio == f))
    && !((s.till t).groups.any (fun g => g.folio == f))

/-- The FOLIO_TRACE record of a retiring Folio (R492). -/
def traceFolio (s : State) (t : Nat) (x : Folio) : State :=
  if s.sec.level == 0 || s.rawN 0xC011 1 / 2 ^ t % 2 == 0
      || !(s.rawN 0xC011 0 / 2 ^ 15 % 2 == 1 || s.rawN 0xC011 0 % 1024 == x.aid.toNat)
      || s.rawN 0xC011 2 / 2 ^ x.opc.code % 2 == 0
      || x.laddr.toNat * 64 < s.rawN 0xC011 3 || s.rawN 0xC011 4 < x.laddr.toNat * 64 then s
  else
    let n := s.journal.traceCount + 1
    let s1 := { s with journal := { s.journal with traceCount := n % max 1 (s.rawN 0xC011 5) } }
    if n % max 1 (s.rawN 0xC011 5) != 0 then s1 else
      s1.note .folioTrace (.till t)
        [place x.opc.code 6 58 + place x.aid.toNat 10 48 + place x.inc.toNat 4 44 + place x.laddr.toNat 38 0,
         place x.tag.toNat 16 48 + place x.src.code 3 45 + place x.status.code 3 42 + place x.expect0 12 30,
         x.headCclk - x.acceptCclk, x.doneCclk - x.headCclk, s.time.cclk - x.doneCclk] (some x.aid)

/-- Is the request a write that a SETTLE covers (R268). -/
def Opc.isWrite : Opc → Bool | .ncwFull | .ncwPtl | .cwr => true | _ => false

/-- Retires a Folio: it becomes FREE and its credit goes back behind its completion (R133, R114). -/
def retire (s : State) (t f : Nat) : State :=
  match s.folio? t f with
  | none => s
  | some x =>
    let n := (s.till t).retCount + 1
    let s1 := s.modTill t (fun u => { u with folios := KV.del u.folios f, retCount := n % 256 })
    if x.job != .request then s1
    else
      let s2 := traceFolio s1 t x
      let s3 := if n % 256 == 0 then s2.sample (tillChan t) 0 0 (some (s.time.cclk - x.acceptCclk)) else s2
      let s4 := if x.credit == .loan then s3.modTill t (fun u => { u with
          lentF := u.lentF - 1, lentD := if x.opc.hasData then u.lentD - 1 else u.lentD }) else s3
      let out := if x.opc.isWrite then some (x.outcome, x.epoch) else none
      if x.dead && x.credit == .escrow || x.dead && x.credit == .kept then
        s4.modTill t (fun u => { u with escrow := KV.mod u.escrow x.aid.toNat (fun c =>
          { c with xFolios := c.xFolios + 1, xData := if x.opc.hasData then c.xData + 1 else c.xData }) })
      else s4.sendP t x.wicket (.credit x.credit x.aid x.inc x.opc.hasData out x.origin)

/-- Retires a Folio if every answer has arrived. -/
def tryRetire (s : State) (t f : Nat) : State :=
  match s.folio? t f with
  | some x => if canRetire s t f x then retire s t f else s
  | none => s

/-- Takes `n` internal Folios with a job, for the lines given (R124). -/
def takeInternal (s : State) (t : Nat) (l : Line) (job : Job) : State × Nat :=
  let f := (s.freeFolio t).getD 16383
  (s.setFolio t f { blankFolio with laddr := l, job := job, acceptCclk := s.time.cclk, headCclk := s.time.cclk }, f)

end Sys2Proof.Machine
end

