-- ==== Sys2Proof/Machine/Snoops.lean ====
section
/-! DEFINITION. Reservation monitors (R240 to R242, R259 to R262), snoops (R91 to R94, R164), the group table and the
start of group operations (R177, R192 to R196), evictions and ways (R190, R198). -/

namespace Sys2Proof.Machine

/-! ## Monitors -/

/-- Clears every monitor that `p` selects; `lost` counts each in RSV_LOST (R242). -/
def clearMons (s : State) (t : Nat) (p : Monitor → Bool) (lost : Bool) : State :=
  let n := (List.filter (fun m => p m.2) (s.till t).monitors).length
  if n == 0 then s else
    let s1 := s.modTill t (fun u => { u with monitors := u.monitors.filter (fun m => !p m.2) })
    if lost then s1.bumpBy ⟨0x2030, 8, 32⟩ n else s1

/-- The event of agent `r` on a line clears the monitors of other agents on it (R241). -/
def clearOthers (s : State) (t : Nat) (l : Line) (r : Aid) : State :=
  clearMons s t (fun m => m.laddr == l && m.aid != r) true
/-- A store by the monitor's own agent clears it too (R241). -/
def clearOwn (s : State) (t : Nat) (l : Line) (r : Aid) : State :=
  clearMons s t (fun m => m.laddr == l && m.aid == r) false
/-- The armed monitor of an agent on a line. -/
def Till.monOf (u : Till) (l : Line) (r : Aid) : Option Monitor :=
  (List.find? (fun m => m.2.laddr == l && m.2.aid == r) u.monitors).map (·.2)

/-- Arms a monitor for a completed RSV; an agent holds one per Till; with none free the RSV fails (R240, R260). -/
def armMon (s : State) (t : Nat) (x : Folio) (owner : Option Aid) : State × Bool :=
  let s1 := clearMons s t (fun m => m.aid == x.aid) false
  match KV.lowest (s1.till t).monitors 64 with
  | none => (s1.bump ⟨0x4200, 1, 32⟩, false)
  | some i =>
    let m : Monitor := ⟨x.aid, x.inc, x.laddr, owner.isSome, owner.getD 0, s.time.tick⟩
    (s1.modTill t (fun u => { u with monitors := KV.put u.monitors i m }), true)

/-! ## Snoops -/

/-- The lines of a snoop type to one agent as snoop messages: first line and BLK (R94). -/
def blocksOf (en : Bool) (l : List Nat) : List (Nat × Nat) :=
  if en && [0, 1, 2, 3].all l.contains then [(0, 3)]
  else
    (if en && l.contains 0 && l.contains 1 then [(0, 1)] else ([0, 1].filter l.contains).map (fun i => (i, 0)))
    ++ (if en && l.contains 2 && l.contains 3 then [(2, 1)] else ([2, 3].filter l.contains).map (fun i => (i, 0)))

/-- The lines a BLK value covers from a first line (R82). -/
def covered (first blk : Nat) : List Nat :=
  if blk == 3 then [0, 1, 2, 3] else if blk == 1 then [first, first + 1] else [first]

/-- A snoop to be sent: its type, agent and lines. -/
abbrev Target := SnpOpc × Nat × List Nat

/-- Joins the lines of the snoops of one type to one agent, so that R94 sees all of them. -/
def mergeTargets (l : List Target) : List Target :=
  l.foldl (fun acc x =>
    if acc.any (fun y => y.1 == x.1 && y.2.1 == x.2.1) then
      acc.map (fun y => if y.1 == x.1 && y.2.1 == x.2.1 then (y.1, y.2.1, y.2.2 ++ x.2.2.filter (fun i => !y.2.2.contains i)) else y)
    else acc ++ [x]) []

/-- Sends the snoops of a Folio on S, and sets what its Clearing unit awaits (R91, R94, R146). A snoop to an agent in
Foreclosing is not sent and counts as a foreclosed response at once (R299, R233). -/
def sendSnoops (s : State) (t f : Nat) (sec : Nat) (e : Ent) (l0 : List Target) : State :=
  let l := mergeTargets l0
  let en := (s.folio? t f).any (·.blk)
  let gone := l.filter (fun x => (s.agent x.2.1).state == .foreclosing)
  let live := l.filter (fun x => (s.agent x.2.1).state != .foreclosing)
  let flits := live.flatMap (fun x => (blocksOf en x.2.2).map (fun b =>
    ({ till := t, w := (s.agent x.2.1).wicket.toNat, opc := x.1, aid := BitVec.ofNat 10 x.2.1
       laddr := lineAt sec b.1, blk := b.2, folio := f } : SFlit)))
  let pairs := fun (l : List Target) => l.flatMap (fun x => x.2.2.map (fun i => (BitVec.ofNat 10 x.2.1, i)))
  let due := pairs live
  let lines := ([0, 1, 2, 3].filter (fun i => l.any (fun x => x.2.2.contains i)))
  let s1 := s.modFolio t f (fun x => { x with
    phase := .snoop, due := due, expect0 := due.length
    kinds := lines.map (fun i => (i, ((l.find? (fun x => x.2.2.contains i)).map (·.1)).getD .inv))
    foundX := lines.filter (fun i => e.line i == .x)
    owners := ((l.filter (fun x => x.2.2.any (fun i => e.line i == .x))).map (fun x => BitVec.ofNat 10 x.2.1))
    gotI := pairs gone, gotS := [], gotE := none
    woffLines := lines.filter (fun i => e.line i == .x
      && (pairs gone).any (fun p => p.2 == i && !x.folds.contains p)) })
  let s2 := { s1 with net := { s1.net with s := s1.net.s ++ flits } }
  let s3 := if gone.isEmpty then s2 else s2.bumpBy ⟨0x2030, 4, 32⟩ gone.length
  flits.foldl (fun s q => ((s.packet (.till t) 1 1 (.wicket q.w)).bump ⟨0x2020, 1, 64⟩).tev t 0x00E) s3

/-- Does a Folio await line-responses. -/
def State.awaits (s : State) (t f : Nat) : Bool := ((s.folio? t f).map (fun x => !x.due.isEmpty)).getD false

/-! ## The foreclosure edit (R298) -/

/-- The agents of the walk set that an entry names and that the edit removes. -/
def State.deadIn (s : State) (e : Ent) : List Nat :=
  let set := s.au.fore.map (fun x => x.aid.toNat)
  match e.format with
  | 0 => e.ptrs.filter set.contains
  | 1 => set.filter (fun n => e.shr.toNat / 2 ^ (n / 16) % 2 == 1 && !(s.presentList.any (fun m => m / 16 == n / 16)))
  | _ => []

/-- The lines in X of an entry. -/
def Ent.xLines (e : Ent) : List Nat := [0, 1, 2, 3].filter (fun i => e.line i == .x)

/-- The snoops that come before the edit: to the survivors named beside a dead agent in a sector with a line in X. -/
def State.foreTargets (s : State) (e : Ent) : List Target :=
  let dead := s.deadIn e
  if dead.isEmpty || e.format != 0 || e.xLines.isEmpty then []
  else (e.ptrs.filter (fun n => !dead.contains n && (s.agent n).state != .foreclosing)).map (fun n => (.inv, n, e.xLines))

/-- The entry after the edit, with the lines written off. -/
def State.foreEdit (s : State) (e : Ent) : Ent × List Nat :=
  let dead := s.deadIn e
  if dead.isEmpty then (e, [])
  else if e.format == 0 then
    let xs := e.xLines
    ((xs.foldl (fun e i => e.setLine i .p) (e.setPtrs (e.ptrs.filter (fun n => !dead.contains n)))).tidy, xs)
  else
    let e1 := { e with shr := dead.foldl (fun v n => v &&& ~~~(BitVec.ofNat 64 (2 ^ (n / 16)))) e.shr }
    ((if e1.shr == 0 then (List.range 4).foldl (fun e i => if e.line i == .s then e.setLine i .i else e) e1 else e1).tidy, [])

/-- A mask of lines. -/
def maskOf (l : List Nat) : Nat := (l.map (2 ^ ·)).sum

/-- Writes lines off by the edit: MMETA setting WRITTEN_OFF, counted in LINES_WRITTEN_OFF (R298). -/
def writeOff (s : State) (t f sec : Nat) (l : List Nat) : State :=
  if l.isEmpty then s else (writeMemo s t f sec (maskOf l) true true).bumpBy ⟨0x2080, 9, 64⟩ l.length

/-! ## Claims on a page (R246, R399) -/

/-- Does a claim-table entry of the Till, or a release in progress, stand behind the lines in C of a page. -/
def Till.claimLive (u : Till) (page : Nat) : Bool :=
  u.claims.any (fun p => p.2.page == page && p.2.state != .expired) || u.releases.any (fun r => r.page == page)

/-- A line in C on a page without a HELD Claim is treated as I and rewritten I (R399). -/
def Ent.unclaimed (e : Ent) : Ent := if e.claimed then { (e.setAll .i) with fmt := 0, shr := 0 } else e

/-- The entry as a head uses it: after R399, and after R298 where the edit needs no snoop; written back where it is
held. -/
def heal (s : State) (t f sec : Nat) (e : Ent) : State × Ent :=
  let e1 := if e.claimed && !(s.till t).claimLive (pageOfSector sec) then e.unclaimed else e
  let r := if (s.foreTargets e1).isEmpty then s.foreEdit e1 else (e1, [])
  if r.1 == e then (s, e)
  else
    let e2 := { r.1 with dirty := true }
    (writeOff (s.modTill t (fun u => match u.find sec with
      | some (l, _) => u.putAt sec l e2
      | none => u)) t f sec r.2, e2)

/-- The snoop that a request needs on its own line, and whether the requester is snooped too (R91). -/
def snoopFor (o : Opc) (st : LState) : Option (SnpOpc × Bool) :=
  match st, o with
  | .s, .rdX | .s, .own | .s, .wbI | .s, .wbS | .s, .wbX => some (.inv, false)
  | .s, .ncwFull | .s, .ncwPtl | .s, .cwr => some (.inv, true)
  | .x, .rdS | .x, .rdAny => some (.data, false)
  | .x, .rdNc | .x, .rsv => some (.cur, false)
  | .x, .rdX | .x, .own | .x, .wbI | .x, .wbS | .x, .wbX => some (.inv, false)
  | .x, .ncwFull | .x, .ncwPtl | .x, .cwr => some (.inv, true)
  | _, _ => none

/-- The snoops of a request on its own line (R91). -/
def ownTargets (s : State) (e : Ent) (i : Nat) (o : Opc) (r : Nat) : List Target :=
  match snoopFor o (e.line i) with
  | none => []
  | some (k, all) => ((s.holders e i).filter (fun n => all || n != r)).map (fun n => (k, n, [i]))

/-- Does the request always obtain X on its line (R164). -/
def grantsX : Opc → Bool | .rdX | .own | .wbX => true | _ => false
/-- Does the request add its agent as a holder in S. -/
def addsS : Opc → Bool | .rdS | .wbS => true | _ => false

/-- The snoops on other lines that make the new state expressible (R164; DEDUCED, log entry 20). -/
def makeRoom (s : State) (e : Ent) (i : Nat) (o : Opc) (r : Nat) : List Target :=
  let others := [0, 1, 2, 3].filter (· != i)
  let tooMany := decide (((e.ptrs.filter (· != r)).length + 1) > 6)
  if grantsX o then
    let ls := others.filter (fun j => (e.line j == .s && (e.format != 0 || tooMany)) || (e.line j == .x && tooMany))
    (s.named e).flatMap (fun n => if ls.isEmpty then [] else [(SnpOpc.inv, n, ls)])
  else if addsS o || (o == .rdAny && e.line i == .x) then
    let ls := others.filter (fun j => e.line j == .x && tooMany)
    (s.named e).flatMap (fun n => if ls.isEmpty then [] else [(SnpOpc.data, n, ls)])
  else []

/-- Is another line of the sector served by a head that does not itself wait under R164. -/
def otherHeads (s : State) (t f : Nat) (l : Line) : Bool :=
  (s.till t).folios.any (fun p => p.1 != f && p.2.head && sectorOf p.2.laddr == sectorOf l && p.2.laddr != l
    && !(p.2.waits && lineIx l < lineIx p.2.laddr))

/-! ## Group operations (R177) -/

/-- Starts the operations that are first for their group and within the table of 32 (R177). -/
def runGroups (s : State) (t : Nat) : State :=
  let go := fun (x : State × List GroupOp) (g : GroupOp) =>
    if g.running then (x.1, x.2 ++ [g])
    else if x.2.length ≥ 32 || x.2.any (fun h => h.p == g.p && h.g == g.g)
        || ((x.1.folio? t g.folio).bind (·.read)).isSome then (x.1, x.2 ++ [g])
    else (readGroup x.1 t g.folio g.p g.g, x.2 ++ [{ g with running := true }])
  let r := (s.till t).groups.foldl go (s, [])
  r.1.modTill t (fun u => { u with groups := r.2 })

/-- Puts a group operation behind the earlier ones; another on the same group disturbs a visit (R180). -/
def startGroup (s : State) (t : Nat) (sec : Nat) (k : GroupKind) (f : Nat) : State :=
  let p := bucketOfSector sec
  let g := s.groupOf sec
  runGroups (s.modTill t (fun u => { u with
    groups := (u.groups.map (fun h => if h.p == p && h.g == g then { h with disturbed := true } else h))
      ++ [⟨p, g, k, f, false, false⟩] })) t

/-- An operation has issued its last CWB: it leaves the table, and the next for the group starts (R177). -/
def endGroup (s : State) (t : Nat) (o : GroupOp) : State :=
  runGroups (s.modTill t (fun u => { u with groups := dropFirst (fun h => h.folio == o.folio && h.running) u.groups })) t

/-! ## Sector operations (R192, R193, R196) -/

/-- Takes the four internal Folios of a sector for an operation; they head or join the chains of its lines (R192,
R235). -/
def startSecOp (s : State) (t sec : Nat) (kind : SecKind) (e : Ent) (buffered : Bool) (region : Nat) : State × Nat :=
  let k := ((s.till t).secOps.foldl (fun m p => max m (p.1 + 1)) 0)
  let r := [0, 1, 2, 3].foldl (fun (x : State × List Nat) i =>
    let y := takeInternal x.1 t (lineAt sec i) (.sector k i)
    (joinChain y.1 t y.2 (lineAt sec i), x.2 ++ [y.2])) (s, [])
  let o : SecOp :=
    { sector := sec, kind := kind, folios := r.2, stage := .gather, ent := e, buffered := buffered, cwbDone := false,
      late := false, reclaim := false, slot := none, region := region }
  (r.1.modTill t (fun u => { u with secOps := KV.put u.secOps k o }), k)

/-- The lead Folio of an operation. -/
def SecOp.lead (o : SecOp) : Nat := o.folios.headD 0
/-- Changes an operation. -/
def State.modOp (s : State) (t k : Nat) (g : SecOp → SecOp) : State :=
  s.modTill t (fun u => { u with secOps := KV.mod u.secOps k g })

/-- The four Folios hand on and wait for their answers (R194). -/
def opHandOn (s : State) (t k : Nat) : State :=
  match KV.find? (s.till t).secOps k with
  | none => s
  | some o =>
    o.folios.foldl (fun s f => (handOn s t f).modFolio t f (fun x => { x with phase := .done, doneCclk := s.time.cclk }))
      (s.modOp t k (fun o => { o with stage := .closing }))

/-- The Folios of a finished operation retire once every answer has arrived, and its buffer frees (R194, R220). -/
def opClose (s : State) (t k : Nat) : State :=
  match KV.find? (s.till t).secOps k with
  | none => s
  | some o =>
    if o.stage == .closing && o.folios.all (fun f => (s.folio? t f).all (fun x => canRetire s t f x)) then
      o.folios.foldl (fun s f => retire s t f) (s.modTill t (fun u => { u with secOps := KV.del u.secOps k }))
    else s

/-- The snoops of a sector operation: SNP_INV to every agent named, for the lines in S or X (R196, R236). -/
def opTargets (s : State) (e : Ent) : List Target :=
  let ls := [0, 1, 2, 3].filter (fun i => e.line i == .s || e.line i == .x)
  if e.unknown then s.presentList.map (fun n => (.inv, n, [0, 1, 2, 3]))
  else if ls.isEmpty then [] else (s.named e).map (fun n => (.inv, n, ls))

/-- Is a sector rebuilt after a forced transfer: its region is Volatile, or Retentive with its clean walk pending
(R398). -/
def State.rebuilt (s : State) (sec : Nat) : Bool :=
  let n := s.regionOf s.maps.rGen sec
  !(s.region n).retentive || KV.has s.au.clean n
/-- Is a rebuilt sector in a bucket that is REBUILDING: it is neither consulted nor spilled (R398). -/
def State.inRebuild (s : State) (t sec : Nat) : Bool :=
  KV.has (s.till t).rebuild (bucketOfSector sec) && s.rebuilt sec

/-- A reclaim's last line-response has come: every line is I, or P where it was written off, and the entry is discarded
with its stale slot (R196, R234). -/
def reclaimEnd (s : State) (t k : Nat) : State :=
  match KV.find? (s.till t).secOps k with
  | none => s
  | some o =>
    let off := ((s.folio? t o.lead).map (·.woffLines)).getD []
    let s0 := if off.isEmpty then s else writeMemo s t o.lead o.sector (maskOf off) true true
    let s1 := s0.modOp t k (fun p => { p with ent := { p.ent.setAll .i with fmt := 0, shr := 0 } })
    if s1.summaryOf t o.sector then
      startGroup (s1.modOp t k (fun p => { p with stage := .group })) t o.sector (.delete o.sector (some k)) o.lead
    else opClose (opHandOn s1 t k) t k

/-- Sends a reclaim's snoops; where every agent named is in Foreclosing none is awaited (R196, R299). -/
def reclaimSnoop (s : State) (t k : Nat) (o : SecOp) (e : Ent) (l : List Target) : State :=
  let s1 := sendSnoops s t o.lead o.sector e l
  if s1.awaits t o.lead then s1 else reclaimEnd s1 t k

/-- Disposes of the buffered entry of an eviction (R193, R186, R196). -/
def dispose (s : State) (t k : Nat) : State :=
  match KV.find? (s.till t).secOps k with
  | none => s
  | some o =>
    let bank := bankOf o.sector
    if o.ent.idle then
      if o.ent.dirty && s.summaryOf t o.sector then
        startGroup (s.modOp t k (fun o => { o with stage := .group })) t o.sector (.delete o.sector (some k)) o.lead
      else opClose (opHandOn s t k) t k
    else if !o.ent.dirty && s.cellarState == 2 && !(s.inRebuild t o.sector) then
      opClose (opHandOn ((s.bump ⟨0x3F00, 9, 64⟩).tev t 0x00B bank) t k) t k
    else if s.cellarState == 2 && !(s.inRebuild t o.sector) then
      startGroup (s.modOp t k (fun o => { o with stage := .group })) t o.sector (.spill k) o.lead
    else
      let s1 := ((s.bump ⟨0x3F00, 0xB, 64⟩).tev t 0x00D bank).modOp t k (fun o => { o with stage := .snoop, reclaim := true })
      let l := opTargets s o.ent
      if l.isEmpty then opClose (opHandOn (s1.modOp t k (fun o => { o with ent := o.ent.setAll .i })) t k) t k
      else reclaimSnoop s1 t k o o.ent l

/-- Evicts the entry of a way (R192): its copy goes to the buffer of four internal Folios and the way is free. At the
destination of a transfer a copied entry whose bucket has not moved is dropped: its source holds it (DESIGN CHOICE, log entry 25). -/
def evictWay (s : State) (t bank set way : Nat) : State :=
  let x := (s.till t).vread (vkey bank set way)
  if x.2.empty then s
  else
    let sec := sectorFrom bank set x.1
    let s1 := s.modTill t (fun u => u.vwrite (vkey bank set way) 0)
    if (s.till t).role == .destination && s.liveTill (bucketOfSector sec) != t then s1 else
    let (s2, k) := startSecOp s1 t sec .evict { x.2 with lock := false } true (s.regionOf s.maps.rGen sec)
    dispose s2 t k

/-- Would an eviction of this way find a chain open on a line of its sector. -/
def wayBusy (s : State) (t bank set way : Nat) : Bool :=
  let x := (s.till t).vread (vkey bank set way)
  !x.2.empty && (s.till t).chains.any (fun c => sectorOf c.laddr == sectorFrom bank set x.1)

/-- What became of the search for a place for a sector's entry. -/
inductive Room where
  /-- A way, pinned by the Folio. -/
  | way (w : Nat)
  /-- Cellar-resident operation (R198); true where all 16 ways are pinned. -/
  | resident (pinned : Bool)
  /-- The Folio waits in LOOKUP (R200, R208). -/
  | wait
  deriving DecidableEq, Repr

/-- Finds a place for a new or promoted entry of a Folio's sector (R190, R198, R200). -/
def findRoom (s : State) (t f region sec : Nat) : State × Room :=
  match s.chooseWay t region sec with
  | some (s1, w) =>
    if wayBusy s1 t (bankOf sec) (setOf sec) w || (s1.till t).internalFree < 4
        && !((s1.till t).vread (vkey (bankOf sec) (setOf sec) w)).2.empty then (s, .wait)
    else
      let s2 := evictWay s1 t (bankOf sec) (setOf sec) w
      (s2.modFolio t f (fun x => { x with way := some w }), .way w)
  | none =>
    if s.cellarState == 2 then
      (s, .resident (((s.till t).set (bankOf sec) (setOf sec)).all
        (fun x => s.pinned t (bankOf sec) (setOf sec) x.1 x.2.2)))
    else (s, .wait)

/-- Is a fill streaming (R191). -/
def streaming (s : State) (x : Folio) : Bool :=
  let r := s.region x.region
  r.stream != 2 && ((s.agent x.aid.toNat).kind == 1 || x.strm || r.stream == 1)

end Sys2Proof.Machine
end

