-- ==== Sys2Proof/Machine/Protocol.lean ====
section
/-! DEFINITION. A head Folio's lookup, decision, directory change and completion (R97 to R100, R114, R146 to R149, R164,
R168, R181 to R188, R198, R199, R205). -/

namespace Sys2Proof.Machine

/-! ## The directory change (R99, R100, R147, R163) -/

/-- What the responses make of the lines a Folio snooped (R99, R100, R164). -/
def applyKinds (x : Folio) (e : Ent) : Ent :=
  let e1 := x.kinds.foldl (fun e k =>
    let some_s := x.gotS.any (fun p => p.2 == k.1)
    if !(e.line k.1 == .s || e.line k.1 == .x) then e
    else match k.2 with
      | .inv => e.setLine k.1 .i
      | .data => e.setLine k.1 (if some_s then .s else .i)
      | .cur => if x.gotE.isSome then e else e.setLine k.1 (if some_s then .s else .i)) e
  let e2 := x.gotI.foldl (fun e p =>
    if [0, 1, 2, 3].all (fun j => x.gotI.contains (p.1, j)) then e.dropPtr p.1.toNat else e.leaves p.2 p.1.toNat) e1
  e2.tidy

/-- X on a line for one agent (R99, R162). -/
def grantX (s : State) (tenant : Nat) (e : Ent) (i r : Nat) : Ent :=
  if [0, 1, 2, 3].all (fun j => j == i || e.line j == .i || e.line j == .p) then (e.setLine i .x).setPtrs [r]
  else s.addHolder tenant (e.setLine i .x) r

/-- S on a line for one agent added to its holders. -/
def grantS (s : State) (tenant : Nat) (e : Ent) (i r : Nat) : Ent := s.addHolder tenant (e.setLine i .s) r

/-- Can the sector record X for the agent without a further snoop (R99). -/
def canX (e : Ent) (i r : Nat) : Bool :=
  [0, 1, 2, 3].all (fun j => j == i || e.line j == .i || e.line j == .p)
    || (e.format == 0 && (e.ptrs.filter (· != r)).length + 1 ≤ 6)

/-- The agent gives the line up. -/
def giveUp (e : Ent) (i r : Nat) : Ent := ((e.setLine i .i).leaves i r).tidy

/-- The new entry and the completion of a request whose snoops are complete, for a line not in P, C or Unknown. A dead
agent is not named as a holder (R297). -/
def change (s : State) (tenant : Nat) (x : Folio) (e : Ent) : Ent × CmpOpc :=
  let i := lineIx x.laddr
  let r := x.aid.toNat
  let e1 := applyKinds x e
  if x.dead then
    (match x.opc with
     | .rdX | .own => if s.ownerIs e1 i r then e1 else (e1.setLine i .i).tidy
     | .wbI | .wbS | .wbX | .ncwFull | .ncwPtl | .cwr => (e1.setLine i .i).tidy
     | _ => e1, .cmp)
  else match x.opc with
  | .rdS => (grantS s tenant e1 i r, .cmpS)
  | .rdX | .own => (grantX s tenant e1 i r, .cmpE)
  | .rdAny =>
    if (e1.line i == .i || s.ownerIs e1 i r) && canX e1 i r then (grantX s tenant e1 i r, .cmpE)
    else (grantS s tenant e1 i r, .cmpS)
  | .rdNc | .rsv => if x.kinds.isEmpty && s.ownerIs e1 i r then (giveUp e1 i r, .cmp) else (e1, .cmp)
  | .ncwFull | .ncwPtl | .cwr => ((e1.setLine i .i).tidy, .cmp)
  | .wbI => (giveUp e1 i r, .cmp)
  | .wbS => (grantS s tenant ((e1.setLine i .i).tidy) i r, .cmp)
  | .wbX => (grantX s tenant ((e1.setLine i .i).tidy) i r, .cmp)
  | _ => (e1, .cmp)

/-! ## Completion -/

/-- Data whose value the manual does not give, poisoned (R87, R149; DESIGN CHOICE, log entry 6). -/
def State.poisoned (s : State) (x : Folio) : LineData := (x.rdata.map (·.data)).getD s.free

/-- A Folio in Cellar-resident operation that handed on with no successor writes the sector's entry to its slot, unless
that is done (R198, R199); a chain on another line of the sector keeps the buffered entry. -/
def leaveResident (s : State) (t f : Nat) : State :=
  match s.folio? t f with
  | none => s
  | some x =>
    let sec := sectorOf x.laddr
    if x.job == .request && KV.has (s.till t).resident sec
        && !((s.till t).chains.any (fun c => sectorOf c.laddr == sec)) && !((s.till t).groups.any (fun g => g.folio == f)) then
      if x.fresh && x.through then s.modTill t (fun u => { u with resident := KV.del u.resident sec })
      else startGroup s t sec (.direct f) f
    else s

/-- Sends the completion, with the data of a read, and hands the head on (R120, R148, R149). -/
def complete (s : State) (t f : Nat) (x : Folio) (opc : CmpOpc) (st : CStat) (data : LineData) (poison : Bool) : State :=
  let s1 := s.sendP t x.wicket (.cmp opc x.aid x.inc x.tag st 0 x.opc.reads x.laddr x.opc x.origin)
  let s2 := if x.opc.reads then
      let s1 := s1.packet (.till t) 3 1 (.wicket x.wicket)
      { s1 with net := { s1.net with d := s1.net.d ++ [(t, x.wicket, ⟨x.aid, x.inc, x.tag, data, poison, x.origin⟩)] } }
    else s1
  let s3 := s2.modFolio t f (fun y => { y with
    phase := .done, sent := true, status := st, readOut := x.opc.reads, doneCclk := s.time.cclk
    outcome := match st with | .ok => y.outcome | .writtenOff => .writtenOff | .lost => .lost | _ => .fail })
  let s4 := (s3.slotRetired t).modTill t (fun u => { u with servedSince := true })
  tryRetire (leaveResident (handOn s4 t f) t f) t f

/-- A read served as a line in P (R99, R168). -/
def completeOff (s : State) (t f : Nat) (x : Folio) : State :=
  let s1 := (s.bump ⟨0x2020, 6, 32⟩).note .writtenOffRead (.till t) [x.laddr.toNat] (some x.aid)
  (complete s1 t f x .cmp .writtenOff (s.poisoned x) true).freeUsed

/-- Stores a changed entry, or a new one in the way pinned or in the resident buffer (R159, R191, R199, R205). -/
def storeEnt (s : State) (t f : Nat) (x : Folio) (loc : Option Loc) (e e' : Ent) (retentive : Bool) : State :=
  let sec := sectorOf x.laddr
  match loc with
  | some l =>
    if e' == e then s else s.modTill t (fun u => u.putAt sec l { e' with dirty := if retentive then e.dirty else true })
  | none =>
    if e'.idle then s else
      let st := streaming s x
      let e2 := { e' with age := if st then 3 else 0, strm := st, dirty := !retentive }
      match x.way with
      | some w => s.modTill t (fun u => u.vput sec w e2)
      | none => s.modTill t (fun u => { u with resident := KV.put u.resident sec e2 }) |>.modFolio t f (fun y => y)

/-- The memory write of a request that writes its line, put in order once (R97). -/
def putWrite (s : State) (t f : Nat) (x : Folio) : State :=
  match x.wdata with
  | some d => if x.wrote then s else (writeLine s t f x.laddr d (x.opc == .ncwPtl)).modFolio t f (fun y => { y with wrote := true })
  | none => s

/-- Is the Folio's own write still waiting for a credit. -/
def writePending (s : State) (t f : Nat) : Bool :=
  (s.till t).memQ.any (fun a => a.folio == f && (a.mop == .mwr || a.mop == .mwrPtl))

/-- The last part of a request: its write is issued, its monitors act, and it completes (R97, R240 to R242). -/
def conclude (s : State) (t f : Nat) (opc : CmpOpc) : State :=
  match s.folio? t f with
  | none => s
  | some x =>
    let failed := x.opc == .cwr && (x.cwrLost || ((s.till t).monOf x.laddr x.aid).isNone)
    let s1 := if x.opc.hasData && !failed then putWrite s t f x else s
    if writePending s1 t f then s1.modFolio t f (fun y => { y with phase := .data })
    else
      let s2 := if opc == .cmpE || (x.opc.hasData && !failed) then clearOthers s1 t x.laddr x.aid else s1
      let s3 := if x.opc.hasData then clearOwn s2 t x.laddr x.aid else s2
      if failed then complete (s3.bump ⟨0x2030, 7, 32⟩) t f x .cmp .fail 0 false
      else if x.opc == .rsv then
        let (s4, ok) := armMon s3 t x x.gotE
        complete s4 t f x .cmp (if ok then .ok else .fail) ((x.rdata.map (·.data)).getD 0) ((x.rdata.map (·.poison)).getD false)
      else complete s3 t f x opc .ok ((x.rdata.map (·.data)).getD 0) ((x.rdata.map (·.poison)).getD false)

/-- The completion opcode of a request whose directory change has been made. -/
def cmpOf (s : State) (x : Folio) (e : Ent) : CmpOpc :=
  match x.opc with
  | .rdS => .cmpS
  | .rdX | .own => .cmpE
  | .rdAny => if e.line (lineIx x.laddr) == .x && s.names e x.aid.toNat then .cmpE else .cmpS
  | _ => .cmp

/-- Records P where a read found WRITTEN_OFF and no holder is left (R168). -/
def recordP (s : State) (t f : Nat) (x : Folio) (loc : Option Loc) (e e1 : Ent) : State :=
  let i := lineIx x.laddr
  if e1.line i == .s || e1.line i == .x then storeEnt s t f x loc e e1 false
  else if loc.isSome || x.way.isSome then storeEnt s t f x loc e ((e1.setLine i .p).tidy) false
  else
    match findRoom s t f x.region (sectorOf x.laddr) with
    | (s1, .way w) => storeEnt s1 t f { x with way := some w } none e ((e1.setLine i .p).tidy) false
    | _ => s

/-- Does a directory change of the region go through to the Cellar (R205). -/
def writesThrough (s : State) (r : Region) : Bool := r.retentive && s.cellarState == 2

/-- A Folio that needs its line's data waits in DATA for it, reading it if no read is outstanding (R114, R143). -/
def awaitData (s : State) (t f : Nat) (x : Folio) : State :=
  let s1 := s.modFolio t f (fun y => { y with phase := .data })
  if x.read.isSome then s1
  else if (s.till t).readBufsUsed ≥ 2048 then s1.modFolio t f (fun y => { y with waits := true })
  else readLine s1 t f x.laddr false

/-- Serves a head whose snoops are complete, by the line's entry (R99, R100, R114, R147, R168, R205). -/
def serve (s : State) (t f : Nat) (x : Folio) : State :=
  let sec := sectorOf x.laddr
  let i := lineIx x.laddr
  let reg := s.regionAt x.rgen x.region
  let found := (s.till t).find sec
  let e := (found.map (·.2)).getD {}
  let loc := found.map (·.1)
  let isP := e.line i == .p
  let plain := x.holder || reg.untracked || x.lst == .unknown
  let off := (x.rdata.map (·.woff)).getD false
  if x.opc.reads && (plain || !isP) && x.rdata.isNone then awaitData s t f x
  else if plain then (if x.opc.reads && off then completeOff s t f x else conclude s t f .cmp)
  else if x.applied then conclude s t f (cmpOf s x e)
  else if x.opc.reads && isP then completeOff s t f x
  else if x.opc.reads && off then
    let s1 := recordP s t f x loc e (applyKinds x e)
    if writesThrough s reg && ((s1.till t).find sec).map (·.2) != some e then startGroup s1 t sec (.writeThrough f) f
    else completeOff s1 t f x
  else if x.opc == .ncwPtl && isP then
    complete (s.note .writtenOffWrite (.till t) [x.laddr.toNat] (some x.aid)) t f x .cmp .writtenOff 0 false
  else
    let (e', c) := change s reg.tenant x (if isP then e.setLine i .i else e)
    let s1 := storeEnt (s.modFolio t f (fun y => { y with applied := true, phase := .data })) t f x loc e e' reg.retentive
    if writesThrough s reg && e' != e then startGroup s1 t sec (.writeThrough f) f
    else if x.fresh && x.way.isNone && !e'.idle then startGroup s1 t sec (.direct f) f
    else conclude s1 t f c

/-- A head whose snoops are complete goes on: lines written off by foreclosed responses become P (R234), then the
request is served. -/
def finish (s : State) (t f : Nat) : State :=
  match s.folio? t f with
  | none => s
  | some x =>
    if x.job != .request || x.sent || !x.due.isEmpty || !x.looked || (s.till t).groups.any (fun g => g.folio == f) then s
    else if x.woffLines.isEmpty then serve s t f x
    else
      let sec := sectorOf x.laddr
      let reg := s.regionAt x.rgen x.region
      let found := (s.till t).find sec
      let e := (found.map (·.2)).getD {}
      let e1 := (x.woffLines.foldl (fun e i => e.setLine i .p) (applyKinds x e)).tidy
      let x1 := { x with woffLines := [], kinds := [], woff := true, phase := .data }
      let s1 := storeEnt ((writeMemo s t f sec (maskOf x.woffLines) true true).modFolio t f (fun y => { y with
        woffLines := [], kinds := [], woff := true, phase := .data })) t f x1 (found.map (·.1)) e e1 reg.retentive
      if writesThrough s reg then startGroup s1 t sec (.writeThrough f) f
      else
        match s1.folio? t f with
        | some x2 => serve s1 t f x2
        | none => s1

/-! ## The decision (R99, R100, R114, R164) -/

/-- Will the request record its agent in the sector. -/
def records : Opc → Bool | .rdS | .rdX | .rdAny | .own | .wbS | .wbX => true | _ => false

/-- A head waits in BLOCKED: its line is in C (R114); its speculative read is cancelled (R144). -/
def block (s : State) (t f : Nat) : State :=
  (cancelRead s t f).modFolio t f (fun y => { y with
    phase := .blocked, way := none, rdata := none
    blockedTick := y.blockedTick.orElse fun _ => some s.time.tick })

/-- Acts on an entry that is neither Unknown nor to be edited: blocks, snoops, or goes on to completion. -/
def decideKnown (s : State) (t f : Nat) (e : Ent) (fresh : Bool) : State :=
  match s.folio? t f with
  | none => s
  | some x =>
    let i := lineIx x.laddr
    let sec := sectorOf x.laddr
    let s := s.modFolio t f (fun y => { y with lst := e.line i, fresh := fresh, waits := false })
    if e.line i == .c then block s t f
    else if x.opc == .cwr && ((s.till t).monOf x.laddr x.aid).isNone then
      conclude (s.modFolio t f (fun y => { y with looked := true })) t f .cmp
    else
      let room := makeRoom s e i x.opc x.aid.toNat
      if !room.isEmpty && otherHeads s t f x.laddr then
        (s.modFolio t f (fun y => { y with waits := true })).slotWasted t
      else
        let s1 := s.modFolio t f (fun y => { y with looked := true })
        let l := ownTargets s e i x.opc x.aid.toNat ++ room
        if l.isEmpty then finish s1 t f
        else
          let s2 := sendSnoops s1 t f sec e l
          if s2.awaits t f then s2 else finish s2 t f

/-- The snoops that resolve a sector, or that come before a foreclosure edit, are complete: the entry is installed and
the request is decided by it (R187, R298, R372). -/
def resolved (s : State) (t f : Nat) : State :=
  match s.folio? t f with
  | none => s
  | some x =>
    let sec := sectorOf x.laddr
    let found := (s.till t).find sec
    let s1 := s.modFolio t f (fun y => { y with
      resolving := false, kinds := [], gotI := [], gotS := [], gotE := none, woffLines := [], phase := .lookup })
    if x.lst == .unknown then
      match found, x.way with
      | some (l, e), _ =>
        let e1 : Ent := { age := e.age, strm := e.strm, lock := e.lock, dirty := true }
        decideKnown (s1.modTill t (fun u => u.putAt sec l e1)) t f e1 false
      | none, some w =>
        let e1 : Ent := { dirty := true }
        decideKnown (s1.modTill t (fun u => u.vput sec w e1)) t f e1 false
      | none, none => decideKnown s1 t f {} true
    else
      match found with
      | some (l, e) =>
        let r := s.foreEdit (applyKinds x e)
        let e1 := { r.1 with dirty := true }
        decideKnown (writeOff (s1.modTill t (fun u => u.putAt sec l e1)) t f sec r.2) t f e1 false
      | none => decideKnown s1 t f {} true

/-- Acts on the entry found for a head Folio: resolves an Unknown sector and edits out the dead before the request is
decided (R187, R298, R371). In a Retentive region an edit is written through before the lookup goes on (R205). -/
def decide' (s : State) (t f : Nat) (e0 : Ent) (fresh : Bool) : State :=
  match s.folio? t f with
  | none => s
  | some x =>
    let sec := sectorOf x.laddr
    let (s, e) := heal s t f sec e0
    let s := s.modFolio t f (fun y => { y with lst := e.line (lineIx x.laddr), fresh := fresh, waits := false })
    if e != e0 && writesThrough s (s.regionAt x.rgen x.region) && !e.idle then
      startGroup ((s.modTill t (fun u => match u.find sec with
        | some (l, y) => u.putAt sec l { y with dirty := false }
        | none => u)).modFolio t f (fun y => { y with waits := true })) t sec (.writeThrough f) f
    else if e.unknown then
      if x.opc.isWb then finish (s.modFolio t f (fun y => { y with looked := true })) t f
      else
        let l : List Target := s.presentList.map (fun n => (.inv, n, [0, 1, 2, 3]))
        let s1 := s.modFolio t f (fun y => { y with resolving := true })
        if l.isEmpty then resolved s1 t f
        else
          let s2 := sendSnoops s1 t f sec e l
          if s2.awaits t f then s2 else resolved s2 t f
    else
      let l := s.foreTargets e
      if l.isEmpty then decideKnown s t f e fresh
      else sendSnoops (s.modFolio t f (fun y => { y with resolving := true })) t f sec e l

/-- A sector with no entry: a place is found if the request will record its agent, then the request is decided
(R190, R198). -/
def decideFresh (s : State) (t f : Nat) : State :=
  match s.folio? t f with
  | none => s
  | some x =>
    if !records x.opc || x.way.isSome then decideKnown s t f {} true
    else
      match findRoom s t f x.region (sectorOf x.laddr) with
      | (s1, .way _) => decideKnown s1 t f {} true
      | (s1, .resident _) => decideKnown s1 t f {} true
      | (s1, .wait) => s1.modFolio t f (fun y => { y with waits := true })

/-- A sector that must be resolved and has no entry: a place for the resolved entry is found first (R372). -/
def decideUnknown (s : State) (t f : Nat) : State :=
  match s.folio? t f with
  | none => s
  | some x =>
    let e := ({} : Ent).setAll .unknown
    if x.way.isSome then decide' s t f e true
    else
      match findRoom s t f x.region (sectorOf x.laddr) with
      | (s1, .way _) => decide' s1 t f e true
      | (s1, .resident _) => decide' s1 t f e true
      | (s1, .wait) => s1.modFolio t f (fun y => { y with waits := true })

/-- An entry found in the Cellar, or handed over by an eviction, is promoted into a way, or used in the resident
buffer (R197, R199, R223). -/
def promote (s : State) (t f : Nat) (e : Ent) (fromCellar : Bool) : State :=
  match s.folio? t f with
  | none => s
  | some x =>
    let sec := sectorOf x.laddr
    let e1 := { e with age := 0, strm := false }
    match findRoom s t f x.region sec with
    | (s1, .way w) =>
      let s2 := s1.modTill t (fun u => u.vput sec w e1)
      let s3 := if fromCellar then (s2.bump ⟨0x3F00, 0xA, 64⟩).tev t 0x00C (bankOf sec) else s2
      decide' s3 t f e1 false
    | (s1, .resident _) =>
      decide' (s1.modTill t (fun u => { u with resident := KV.put u.resident sec e1 })) t f e1 false
    | (s1, .wait) => s1.modFolio t f (fun y => { y with waits := true })

/-! ## The lookup (R181 to R188, R370, R371) -/

/-- Is the sector a candidate of a listed resolution entry at or above its cursor (R371). -/
def mustResolve (s : State) (t sec : Nat) (consulted : Bool) : Bool :=
  (s.till t).resolve.any (fun p =>
    decide (p.2.cursor ≤ sec) && decide (sec * 256 < s.rawN 0x7000 4) &&
      (if p.2.cellar then consulted && p.2.p == bucketOfSector sec && p.2.g == s.groupOf sec
       else p.2.bank == bankOf sec && p.2.set == setOf sec))
  || (match KV.find? (s.till t).rebuild (bucketOfSector sec) with
      | some r => s.rebuilt sec && decide (r.cursor ≤ sec) && decide (sec * 256 < s.rawN 0x7000 4)
      | none => false)

/-- The sector missed everywhere: it has no entry, or is resolved first (R185, R371). -/
def absent (s : State) (t f : Nat) (sec : Nat) (consulted : Bool) : State :=
  if mustResolve s t sec consulted then decideUnknown s t f else decideFresh s t f

/-- A request to a region with UNTRACKED set (R188). -/
def lookupUntracked (s : State) (t f : Nat) (x : Folio) : State :=
  if x.opc == .rdNc || x.opc == .ncwFull || x.opc == .ncwPtl then
    finish (s.modFolio t f (fun y => { y with looked := true })) t f
  else
    complete ((cancelRead s t f).note .untrackedOpcode (.till t) [x.laddr.toNat] (some x.aid)) t f x .cmp .fail s.free true

/-- The lookup of a head Folio in LOOKUP (R181 to R188). -/
def lookup (s : State) (t f : Nat) : State :=
  match s.folio? t f with
  | none => s
  | some x =>
    if x.phase != .lookup || x.job != .request || x.opc.isClaim || x.opc == .release then s
    else
      let sec := sectorOf x.laddr
      let bank := bankOf sec
      let region := s.regionOf x.rgen sec
      let s := s.modFolio t f (fun y => { y with region := region })
      let x := { x with region := region }
      if (s.regionAt x.rgen region).untracked then lookupUntracked s t f x
      else
        match (s.till t).find sec with
        | some (.way w, e) =>
          let keep := e.strm && streaming s x
          let e1 := { e with age := 0, strm := keep }
          let s0 := s.modTill t (fun u => u.vput sec w e1)
          let s1 := if x.waits then s0 else s0.tev t 0x006 bank
          decide' (s1.modFolio t f (fun y => { y with way := some w })) t f e1 false
        | some (.op k, e) =>
          let late := ((KV.find? (s.till t).secOps k).map (·.late)).getD false
          let s1 := s.modOp t k (fun o => { o with buffered := false })
          if e.idle then decideFresh s1 t f else promote s1 t f { e with dirty := late || s.cellarState != 2 } false
        | some (.resident, e) => decide' s t f e false
        | none =>
          let s := if x.waits then s else s.tev t 0x007 bank
          if x.opc.reads && x.rdata.isNone then
            let s := s.modFolio t f (fun y => { y with waits := true })
            if x.read.isSome || (s.till t).readBufsUsed ≥ 2048 then s else readLine s t f x.laddr false
          else
            let cellared := match x.rdata with
              | some d => if d.memo then d.cellared && s.cellarState == 2 else s.summaryOf t sec
              | none => s.summaryOf t sec
            if cellared && !x.consulted && !(s.inRebuild t sec) then
              if KV.has (s.till t).fetch bank || x.read.isSome then s.modFolio t f (fun y => { y with waits := true })
              else
                let s1 := (s.modTill t (fun u => { u with fetch := KV.put u.fetch bank f })).modFolio t f
                  (fun y => { y with consult := true })
                (readGroup s1 t f (bucketOfSector sec) (s.groupOf sec)).tev t 0x008 bank
            else absent s t f sec x.consulted

/-- Tries a Folio that waits for a resource again. -/
def retryFolio (s : State) (t f : Nat) : State :=
  match s.folio? t f with
  | some x =>
    if x.phase == .lookup then lookup s t f
    else if x.phase == .data || x.phase == .snoop then finish s t f
    else s
  | none => s

/-- Tries every Folio of a Till that waits in DATA for a credit or a buffer, in Folio order. -/
def kickData (s : State) (t : Nat) : State :=
  ((s.till t).folios.filter (fun p => p.2.phase == .data && p.2.job == .request)).foldl (fun s p => finish s t p.1) s

/-- The Folio of the retried request becomes RESERVED under a receipt (R138, R139, Cellar case). -/
def retryCellar (s : State) (t f : Nat) : State :=
  match s.folio? t f with
  | none => s
  | some x =>
    let s1 := handOn (cancelRead s t f) t f
    let s2 := s1.modFolio t f (fun y => { y with
      phase := .reserved, way := none, rdata := none, looked := false, applied := false, fresh := false, kinds := []
      retried := true })
    let s3 := s2.modTill t (fun u => { u with receipts := u.receipts ++ [⟨f, x.aid, true, s.time.tick⟩] })
    ((s3.sendP t x.wicket (.cmp .cmp x.aid x.inc x.tag .retry f x.opc.reads x.laddr x.opc x.origin)).bump
      ⟨0x4012, 2, 32⟩).slotWasted t |>.tev t 0x011

end Sys2Proof.Machine
end

