-- ==== Sys2Proof/Machine/Groups.lean ====
section
/-! DEFINITION. What a Cellar group read returns to: consults, spills, deletions, write-throughs, direct slots, slot
reclaims and compaction visits (R174, R177, R180, R185, R194 to R199, R201, R205, R370). -/

namespace Sys2Proof.Machine

/-- The lines of a group as returned. -/
abbrev GLines := KV LineData

/-- The stored bits of slot `n` of a group: bucket n / 4, slot n mod 4 (R173). -/
def slotBits (g : GLines) (n : Nat) : Nat := (KV.get g (n / 4) 0).toNat / 2 ^ (128 * (n % 4)) % 2 ^ 128

/-- The slots of a group; bucket 0 of group 0 of segment 0 is the header (R175). -/
def slotsOf (p g : Nat) (l : GLines) : List (Nat × Slot) :=
  ((List.range 16).filter (fun n => !(p == 0 && g == 0 && n < 4))).map (fun n => (n, decSlot (slotBits l n)))

/-- Is a slot live: readable, and of the current generation (R173, R174). -/
def State.liveSlot (s : State) (x : Slot) : Bool := x.ecc != .bad && x.gen != 0 && x.gen == s.cellarGen

/-- The sector of a live slot in segment `p`. -/
def Slot.sector (x : Slot) (p : Nat) : Nat := sectorFromSlot p x.tag x.sub

/-- The live slot of a sector. -/
def slotFor (s : State) (p g sec : Nat) (l : GLines) : Option (Nat × Slot) :=
  (slotsOf p g l).find? (fun x => s.liveSlot x.2 && x.2.sector p == sec)

/-- The lowest-numbered empty slot. -/
def emptySlot (s : State) (p g : Nat) (l : GLines) : Option Nat :=
  ((slotsOf p g l).find? (fun x => !s.liveSlot x.2)).map (·.1)

/-- The lowest-numbered slot that holds a shadowed copy of a Volatile sector (R195). -/
def shadowSlot (s : State) (t p g : Nat) (l : GLines) : Option (Nat × Nat) :=
  ((slotsOf p g l).find? (fun x => s.liveSlot x.2 && ((s.till t).hit (x.2.sector p)).isSome
    && !(s.region (s.regionOf s.maps.rGen (x.2.sector p))).retentive)).map (fun x => (x.1, x.2.sector p))

/-- Bucket `b` of a group as it is written back: live slots as they are, every other slot zero, and slot `n` as given
(R174). -/
def bucketWith (s : State) (p g : Nat) (l : GLines) (b : Nat) (n v : Nat) : LineData :=
  BitVec.ofNat 512 (((List.range 4).map (fun i =>
    let k := 4 * b + i
    let x := decSlot (slotBits l k)
    let keep := if s.liveSlot x && !(p == 0 && g == 0 && b == 0) then slotBits l k else 0
    (if k == n then v else keep) * 2 ^ (128 * i))).sum)

/-- Writes slot `n` of a group with a CWB of its bucket. -/
def writeSlot (s : State) (t f p g : Nat) (l : GLines) (n v : Nat) : State :=
  writeBucket s t f (s.groupLine p g + n / 4) (bucketWith s p g l (n / 4) n v)

/-- Enters a group in the Till's resolution table, once (R370). A full table fails the Till (R373): the cause is
left in `failDue` for the failure that follows. -/
def enterGroup (s : State) (t p g : Nat) : State :=
  if (s.till t).resolve.any (fun y => y.2.cellar && y.2.p == p && y.2.g == g) then
    s.modTill t (fun u => { u with resolve := u.resolve.map (fun y =>
      if y.2.cellar && y.2.p == p && y.2.g == g then (y.1, { y.2 with cursor := 0 }) else y) })
  else
    match KV.lowest (s.till t).resolve 64 with
    | some i => s.modTill t (fun u => { u with resolve := KV.put u.resolve i ⟨true, 0, 0, p, g, 0⟩ })
    | none => s.modTill t (fun u => { u with failDue := some 4 })

/-- Slots that a group read found uncorrectable (R370): Fault record, count, and a resolution entry. -/
def lostSlots (s : State) (t p g : Nat) (l : GLines) : State :=
  ((slotsOf p g l).filter (fun x => x.2.ecc == .bad)).foldl (fun s x =>
    let s1 := (s.note .cellarSlotLost (.till t) [p, g, x.1]).bump ⟨0x3030 + 0x80 * t, 3, 32⟩
    enterGroup s1 t p g) s

/-- Sets the Summary bit of a sector (R180). -/
def setSummary (s : State) (t sec : Nat) : State :=
  s.modTill t (fun u => { u with summary := Runs.insert (s.sumBit sec) u.summary })

/-- Changes CELLAR_ENTRIES, the live slots created less those deleted (R215; DEDUCED, log entry 27). -/
def cellarCount (s : State) (more less : Nat) : State :=
  s.setRawN 0x3F00 5 ((s.rawN 0x3F00 5 + more - less) % 2 ^ 32)

/-- Creates or rewrites the slot of a sector with an entry; none where the group is full. A new slot sets the Summary
bit and CELLARED (R194). -/
def slotWrite (s : State) (t f p g sec : Nat) (l : GLines) (e : Ent) : Option State :=
  let v := encSlot s.cellarGen (tagOf sec) (bankOf sec) e
  match slotFor s p g sec l with
  | some (n, _) => some (cellarCount (writeSlot s t f p g l n v) 0 (bit e.idle))
  | none =>
    if e.idle then some s else
      match emptySlot s p g l with
      | some n => some (cellarCount (writeMemo (writeSlot (setSummary s t sec) t f p g l n v) t f sec 15 false true) 1 0)
      | none =>
        match shadowSlot s t p g l with
        | some (n, other) =>
          let s1 := s.modTill t (fun u =>
            match u.hit other with
            | some (w, e2) => u.vput other w { e2 with dirty := true }
            | none => u)
          let s2 := s1.bump ⟨0x3F00, 0xB, 64⟩
          some (writeMemo (writeSlot (setSummary s2 t sec) t f p g l n v) t f sec 15 false true)
        | none => none

/-- Starts a reclaim of a Cellar-only sector of a full group: the lowest slot whose sector has no open chain and no
Vault entry (R196, R198; DESIGN CHOICE, log entry 21). -/
def reclaimSlot (s : State) (t p g : Nat) (l : GLines) : State :=
  match (slotsOf p g l).find? (fun x => s.liveSlot x.2 && ((s.till t).find (x.2.sector p)).isNone
      && !((s.till t).chains.any (fun c => sectorOf c.laddr == x.2.sector p))) with
  | none => s
  | some (n, x) =>
    if (s.till t).internalFree < 4 then s else
      let sec := x.sector p
      let (s1, k) := startSecOp s t sec (.reclaimSlot none) x.ent true (s.regionOf s.maps.rGen sec)
      let s2 := ((s1.bump ⟨0x3F00, 0xB, 64⟩).tev t 0x00D (bankOf sec)).modOp t k (fun o => { o with
        stage := .snoop, reclaim := true, slot := some n })
      let tg := opTargets s2 x.ent
      match KV.find? (s2.till t).secOps k with
      | none => s2
      | some o =>
        if tg.isEmpty then startGroup (s2.modOp t k (fun o => { o with stage := .group, ent := o.ent.setAll .i })) t sec
          (.delete sec (some k)) o.lead
        else reclaimSnoop s2 t k o x.ent tg

/-- A consult returns: the entry is promoted, or every line is I (R185, R213). -/
def consultDone (s : State) (t f : Nat) (x : Folio) (l : GLines) (bad : Bool) : State :=
  let sec := sectorOf x.laddr
  let p := bucketOfSector sec
  let g := s.groupOf sec
  let s0 := (s.modTill t (fun u => { u with fetch := KV.del u.fetch (bankOf sec) })).modFolio t f (fun y => { y with
    consult := false, consulted := true })
  let s1 := if bad then
      enterGroup s0 t p g
    else lostSlots s0 t p g l
  match (if bad then none else slotFor s1 p g sec l) with
  | some (_, y) => promote s1 t f y.ent true
  | none =>
    let s2 := (s1.bump ⟨0x3F00, 0xD, 64⟩).tev t 0x009 (bankOf sec)
    if bad || (slotsOf p g l).any (fun y => y.2.ecc == .bad) then decideUnknown s2 t f
    else absent s2 t f sec true

/-- A spill's group read returns (R194, R195). -/
def spillDone (s : State) (t : Nat) (o : GroupOp) (k : Nat) (l : GLines) : State :=
  match KV.find? (s.till t).secOps k with
  | none => endGroup s t o
  | some op =>
    match slotWrite s t o.folio o.p o.g op.sector l { op.ent with dirty := false } with
    | some s1 =>
      let s2 := ((s1.bump ⟨0x3F00, 8, 64⟩).tev t 0x00A (bankOf op.sector)).modOp t k (fun x => { x with cwbDone := true })
      opClose (opHandOn (endGroup s2 t o) t k) t k
    | none =>
      let s1 := ((s.bump ⟨0x3F00, 0xB, 64⟩).tev t 0x00D (bankOf op.sector)).modOp t k (fun x => { x with
        stage := .snoop, reclaim := true })
      let s2 := endGroup s1 t o
      let tg := opTargets s2 op.ent
      if tg.isEmpty then opClose (opHandOn (s2.modOp t k (fun x => { x with ent := x.ent.setAll .i })) t k) t k
      else reclaimSnoop s2 t k op op.ent tg

/-- A deletion's group read returns: the slot is deleted, and CELLARED cleared in every case (R193). -/
def deleteDone (s : State) (t : Nat) (o : GroupOp) (sec : Nat) (k : Option Nat) (l : GLines) : State :=
  let s1 := match slotFor s o.p o.g sec l with
    | some (n, _) => cellarCount (writeSlot s t o.folio o.p o.g l n 0) 0 1
    | none => s
  let s2 := endGroup (writeMemo s1 t o.folio sec 15 false false) t o
  match k with
  | some k => opClose (opHandOn s2 t k) t k
  | none => tryRetire s2 t o.folio

/-- A write-through, a direct slot or a resident write-back returns (R198, R199, R205). -/
def slotDone (s : State) (t : Nat) (o : GroupOp) (f : Nat) (direct : Bool) (l : GLines) : State :=
  match s.folio? t f with
  | none => endGroup s t o
  | some x =>
    let sec := sectorOf x.laddr
    let e := (((s.till t).find sec).map (·.2)).getD {}
    let isNew := (slotFor s o.p o.g sec l).isNone
    match slotWrite s t f o.p o.g sec l e with
    | some s1 =>
      let s2 := if direct && x.sent then s1.modTill t (fun u => { u with resident := KV.del u.resident sec }) else s1
      let s3 := if direct && isNew && !e.idle then s2.bump ⟨0x3F00, 0xC, 64⟩ else s2
      let s4 := endGroup (s3.modFolio t f (fun y => { y with through := true })) t o
      if x.sent then tryRetire s4 t f else if x.phase == .lookup then lookup s4 t f else finish s4 t f
    | none =>
      if direct && !x.sent && (((s.till t).set (bankOf sec) (setOf sec)).all
          (fun y => s.pinned t (bankOf sec) (setOf sec) y.1 y.2.2)) then
        retryCellar (reclaimSlot (endGroup (s.modTill t (fun u => { u with resident := KV.del u.resident sec })) t o)
          t o.p o.g l) t f
      else
        startGroup (endGroup (reclaimSlot s t o.p o.g l) t o) t sec o.kind f

/-- The Summary bits that cover a group, with the value of L each stands for; none where the bits are shared (R179,
R180). -/
def groupBits (s : State) (t p g : Nat) : List (Nat × Nat) :=
  let per := 2 ^ s.build.sT
  let shared := (List.range per).any (fun i =>
    let q := p / per * per + i
    q != p && s.liveTill q == t) || 2 ^ (12 - s.build.sT + (s.cellarK - 2) + s.sumW) > 2 ^ 22
  if shared then [] else (List.range (2 ^ s.sumW)).map (fun l => (s.sumIndex p g (l * 2 ^ (s.cellarK - 2)), l))

/-- A compaction visit's group read returns (R180, R201); in a bucket that is REBUILDING the slots of rebuilt sectors are
deleted too (R398). -/
def visitDone (s : State) (t : Nat) (o : GroupOp) (l : GLines) : State :=
  let slots := slotsOf o.p o.g l
  let stays := fun (x : Nat × Slot) => s.liveSlot x.2 && !x.2.ent.idle && !(s.inRebuild t (x.2.sector o.p))
  let l2 : GLines := (List.range 4).map (fun b => (b, BitVec.ofNat 512 (((List.range 4).map (fun i =>
    let n := 4 * b + i
    match slots.find? (fun x => x.1 == n) with
    | none => slotBits l n * 2 ^ (128 * i)
    | some x => if stays x then encSlot x.2.gen x.2.tag x.2.sub x.2.ent * 2 ^ (128 * i) else 0)).sum)))
  let gone := (slots.filter (fun x => s.liveSlot x.2 && !(stays x))).length
  let s1 := cellarCount (lostSlots s t o.p o.g l) 0 gone
  let s2 := (List.range 4).foldl (fun s b =>
    if KV.get l2 b 0 == KV.get l b 0 then s else writeBucket s t o.folio (s.groupLine o.p o.g + b) (KV.get l2 b 0)) s1
  let s3 := if o.disturbed then s2 else
    (groupBits s t o.p o.g).foldl (fun s b =>
      let used := slots.any (fun x => stays x && (s.sumW == 0 ||
        hashOf (x.2.sector o.p) / 2 ^ (s.cellarK - 2) % 2 ^ s.sumW == b.2))
      if used then s else s.modTill t (fun u => { u with summary := Runs.remove b.1 u.summary })) s2
  tryRetire (endGroup s3 t o) t o.folio

end Sys2Proof.Machine
end

