-- ==== Sys2Proof/Machine/Sectors.lean ====
section
/-! DEFINITION. What the four internal Folios of a sector do when they are heads and when their snoops are complete
(R192 to R197, R206, R211, R223, R236, R237, R290, R298, R372), Claims and their release (R246 to R257), and the group
reads of the walks. -/

namespace Sys2Proof.Machine

/-- A sector operation. -/
def State.op? (s : State) (t k : Nat) : Option SecOp := KV.find? (s.till t).secOps k
/-- The progress of a coordinator. -/
def State.gather? (s : State) (t c : Nat) : Option Gather := KV.find? (s.till t).gathers c
/-- Changes the progress of a coordinator. -/
def State.modGather (s : State) (t c : Nat) (g : Gather → Gather) : State :=
  s.modTill t (fun u => { u with gathers := KV.mod u.gathers c g })
/-- Changes a claim-table entry. -/
def State.modClaim (s : State) (t i : Nat) (g : Claim → Claim) : State :=
  s.modTill t (fun u => { u with claims := KV.mod u.claims i g })

/-- Are the four Folios of an operation heads in LOOKUP (R236). -/
def Till.opReady (u : Till) (o : SecOp) : Bool :=
  o.folios.all (fun f => (KV.find? u.folios f).any (fun x => x.head && x.phase == .lookup))

/-- The operation is over: its Folios hand on, and retire when their answers have come. -/
def opEnd (s : State) (t k : Nat) : State := opClose (opHandOn s t k) t k

/-- The sector's entry as it stands for an operation. -/
def State.opEnt (s : State) (t : Nat) (o : SecOp) : Ent := (((s.till t).find o.sector).map (·.2)).getD {}

/-- Takes the sector's authoritative entry for an operation: it pins the way, or takes the buffered copy (R218, R223);
false where none of the places holds it. -/
def opLoad (s : State) (t k : Nat) (o : SecOp) : State × Bool :=
  match (s.till t).find o.sector with
  | some (.way w, _) => (s.modFolio t o.lead (fun x => { x with way := some w }), true)
  | some (.op j, e) =>
    if j == k then (s, true) else
      let late := ((s.op? t j).map (·.late)).getD false
      ((s.modOp t j (fun p => { p with buffered := false })).modOp t k (fun p => { p with
        ent := { e with dirty := late || s.cellarState != 2 }, buffered := true }), true)
  | some (.resident, e) =>
    ((s.modTill t (fun u => { u with resident := KV.del u.resident o.sector })).modOp t k (fun p => { p with
      ent := { e with dirty := true }, buffered := true }), true)
  | none => (s, false)

/-- Puts the entry that an operation has changed where the sector's entry is: in its way, or, from the buffer, in its
Cellar slot; then the operation ends (R159, R194, R205). An entry that R298 or R399 has edited in its place is dirty there,
and is written as a changed one. -/
def opStore (s : State) (t k : Nat) (o : SecOp) (e : Ent) : State :=
  let old := s.opEnt t o
  let thru := writesThrough s (s.region o.region)
  match (s.till t).find o.sector with
  | some (.way w, _) =>
    if e == old && !(old.dirty && thru) then opEnd s t k
    else if thru then
        startGroup ((s.modTill t (fun u => u.vput o.sector w { e with dirty := old.dirty })).modOp t k (fun p => { p with
          stage := .group })) t o.sector (.edit k) o.lead
    else opEnd (s.modTill t (fun u => u.vput o.sector w { e with dirty := true })) t k
  | _ =>
    if e == old && !old.dirty then opEnd s t k
    else
      let s1 := s.modOp t k (fun p => { p with ent := { e with dirty := true }, buffered := true })
      if s.cellarState == 2 && (!e.idle || s.summaryOf t o.sector) then
        startGroup (s1.modOp t k (fun p => { p with stage := .group })) t o.sector (.edit k) o.lead
      else opEnd s1 t k

/-! ## Claims (R235, R236, R246 to R251) -/

/-- The four Folios of an operation wait in BLOCKED (R237). -/
def opBlock (s : State) (t : Nat) (o : SecOp) : State :=
  o.folios.foldl (fun s f => s.modFolio t f (fun x => { x with
    phase := .blocked, way := none, blockedTick := x.blockedTick.orElse fun _ => some s.time.tick })) s

/-- Every head in BLOCKED on a page repeats its lookup (R114, R254); the longest wait is kept (R258). -/
def unblock (s : State) (t page : Nat) : State :=
  (List.filter (fun p => p.2.phase == .blocked && pageOf p.2.laddr == page) (s.till t).folios).foldl (fun s p =>
    (s.bumpMax ⟨0x4101, 6, 32⟩ (s.time.tick - p.2.blockedTick.getD s.time.tick)).modFolio t p.1 (fun x => { x with
      phase := .lookup, blockedTick := none, looked := false, waits := false, consulted := false })) s

/-- Starts the rewrite of a page's sectors; those whose entry is in the Cellar alone are read and rewritten there
(R254). -/
def startRelease (s : State) (t : Nat) (r : Rel) : State :=
  let s1 := s.modTill t (fun u => { u with releases := u.releases ++ [r] })
  ((List.range 16).filter (fun b => ((s.till t).find (r.page * 16 + b)).isNone && s.summaryOf t (r.page * 16 + b))).foldl
    (fun s b =>
      let sec := r.page * 16 + b
      let (s2, f) := takeInternal s t (lineAt sec 0) (.group 0)
      startGroup s2 t sec (.unclaim sec) f) s1

/-- The entry of a sector after a release: the claimants go, and the lines become I when none remains (R254). -/
def releaseEnt (aids : List Aid) (e : Ent) : Ent :=
  if !e.claimed then e else
    let l := e.ptrs.filter (fun n => !(aids.map BitVec.toNat).contains n)
    if l.isEmpty then { e.unclaimed with dirty := true } else { e.setPtrs l with dirty := true }

/-- The end of a coordinator whose Claim has failed: its sectors are released, then it completes (R250). -/
def failEnd (s : State) (t c : Nat) : State :=
  match s.gather? t c, s.folio? t c with
  | some g, some x =>
    if !g.failed || g.busy != 0 then s
    else
      let s1 := s.modTill t (fun u => { u with gathers := KV.del u.gathers c })
      let page := pageOf x.laddr
      let entry := if g.joins then none else some g.entry
      if g.got.isEmpty then
        let s2 := match entry with
          | some i => s1.modTill t (fun u => { u with claims := KV.del u.claims i })
          | none => s1
        complete s2 t c x .cmp .fail 0 false
      else startRelease (match entry with
        | some i => s1.modClaim t i (fun y => { y with state := .releasing })
        | none => s1) t ⟨page, [x.aid], some c, false, entry⟩
  | _, _ => s

/-- Takes further sectors of the page, up to four in progress; when all sixteen are in C the Claim is granted (R235,
R251). -/
def gatherNext : Nat → State → Nat → Nat → State
  | 0, s, _, _ => s
  | n + 1, s, t, c =>
    match s.gather? t c, s.folio? t c with
    | some g, some x =>
      if g.failed then failEnd s t c
      else
        match g.todo with
        | sec :: rest =>
          if g.busy ≥ 4 || (s.till t).internalFree < 4 then s
          else
            let s1 := s.modGather t c (fun g => { g with todo := rest, busy := g.busy + 1 })
            gatherNext n (startSecOp s1 t sec (.claim c) {} false x.region).1 t c
        | [] =>
          if g.busy != 0 then s
          else
            let s1 := (s.modTill t (fun u => { u with gathers := KV.del u.gathers c })).modClaim t g.entry (fun y =>
              { y with
                state := if g.joins then y.state else .held
                joining := y.joining.filter (· != x.aid) })
            complete (s1.bump ⟨0x4101, 2, 64⟩) t c x .cmp .ok 0 false
    | _, _ => s

/-- A sector has been written C for a coordinator; the first starts the lease (R248, R249). -/
def sectorTaken (s : State) (t c sec : Nat) (taken : Bool) : State :=
  match s.gather? t c with
  | none => s
  | some g =>
    let s1 := s.modGather t c (fun g => { g with busy := g.busy - 1, got := if taken then g.got ++ [sec] else g.got })
    let s2 := if taken && g.got.isEmpty then
        s1.modClaim t g.entry (fun y => { y with
          expiry := some (match y.expiry with
            | some e => if g.joins then min e (s.time.tick + g.lease) else s.time.tick + g.lease
            | none => s.time.tick + g.lease) })
      else s1
    gatherNext 17 s2 t c

/-- A Claim's operation writes C on its sector and hands on (R236, R237, R198). -/
def claimWrite (s : State) (t k c : Nat) (o : SecOp) (e : Ent) (add : Bool) : State :=
  match s.folio? t c with
  | none => opEnd s t k
  | some x =>
    let e1 := if add then e.setPtrs (e.ptrs ++ [x.aid.toNat]) else
      ({ (e.setAll .c) with strm := false }).setPtrs [x.aid.toNat]
    let r := match (s.till t).find o.sector with
      | some (.way _, _) => (s, true)
      | _ =>
        match findRoom s t o.lead o.region o.sector with
        | (s1, .way w) => ((s1.modTill t (fun u => u.vput o.sector w { e with dirty := true, lock := false })).modOp t k
            (fun p => { p with buffered := false }), true)
        | (s1, .resident _) => (s1, true)
        | (_, .wait) => (s, false)
    if !r.2 then
      s.modOp t k (fun p => { p with ent := e, buffered := true, stage := .gather })
    else
      let s1 := clearMons r.1 t (fun m => sectorOf m.laddr == o.sector && m.aid != x.aid) true
      let s2 := match (s1.till t).find o.sector with
        | some (.way w, _) =>
          if writesThrough s1 (s1.region o.region) then
            startGroup ((s1.modTill t (fun u => u.vput o.sector w { e1 with dirty := false })).modOp t k (fun p => { p with
              stage := .group, ent := e1 })) t o.sector (.edit k) o.lead
          else opEnd (s1.modTill t (fun u => u.vput o.sector w { e1 with dirty := true })) t k
        | _ => startGroup (s1.modOp t k (fun p => { p with stage := .group, ent := { e1 with dirty := true }, buffered := true }))
            t o.sector (.edit k) o.lead
      sectorTaken s2 t c o.sector true

/-- Is the sector's C held by an Exclusive Claim (R237). -/
def Till.heldX (u : Till) (page : Nat) (e : Ent) : Bool :=
  u.claims.any (fun p => p.2.page == page && p.2.exclusive && p.2.claimants.any (fun a => e.ptrs.contains a.toNat))

/-! ## Heads -/

/-- The last line-response of an operation has come (R196, R236, R290, R298, R372). -/
def opSnooped (s : State) (t k : Nat) : State :=
  match s.op? t k with
  | none => s
  | some o =>
    match s.folio? t o.lead with
    | none => s
    | some x =>
      let old := s.opEnt t o
      let s0 := if x.woffLines.isEmpty then s else writeMemo s t o.lead o.sector (maskOf x.woffLines) true true
      let e := (x.woffLines.foldl (fun e i => e.setLine i .p) (applyKinds x old)).tidy
      let drop := fun (s : State) =>
        if s.summaryOf t o.sector then
          startGroup (s.modOp t k (fun p => { p with stage := .group })) t o.sector (.delete o.sector (some k)) o.lead
        else opEnd s t k
      match o.kind with
      | .evict | .reclaimSlot _ =>
        reclaimEnd s t k
      | .claim c =>
        (match s0.gather? t c with
         | some g =>
           let e1 : Ent := { e.setAll .i with fmt := 0, shr := 0 }
           if g.failed then sectorTaken (opStore s0 t k o e1) t c o.sector false else claimWrite s0 t k c o e1 false
         | none => opStore s0 t k o e)
      | .leave =>
        let e1 := (x.gotI.foldl (fun e p =>
          if [0, 1, 2, 3].all (fun j => x.gotI.contains (p.1, j)) then e.dropPtr p.1.toNat else e.leaves p.2 p.1.toNat) old)
        opStore s0 t k o (x.woffLines.foldl (fun e i => e.setLine i .p) e1).tidy
      | .foreclose =>
        let r := s0.foreEdit old
        opStore (writeOff s0 t o.lead o.sector r.2) t k o r.1
      | .resolve _ => drop s0
      | .retentive | .preload _ => opEnd s0 t k

/-- Sends an operation's snoops; with none to await it goes on at once. -/
def opSnoop (s : State) (t k : Nat) (o : SecOp) (e : Ent) (l : List Target) : State :=
  let s1 := sendSnoops (s.modOp t k (fun p => { p with stage := .snoop })) t o.lead o.sector e l
  if s1.awaits t o.lead then s1 else opSnooped s1 t k

/-- Locked ways in a set (R212). -/
def Till.lockedIn (u : Till) (bank set : Nat) : Nat := ((u.set bank set).filter (fun x => x.2.2.lock)).length

/-- Preload of one sector (R211): mode 1 preload, 2 preload and lock, 3 unlock. -/
def preloadAct (s : State) (t k : Nat) (o : SecOp) (mode : Nat) (found : Bool) : State :=
  let room := decide ((s.till t).lockedIn (bankOf o.sector) (setOf o.sector) < s.rawN 0x3F10 4)
  let skip := fun (s : State) => s.bump ⟨0x3F10, 5, 32⟩
  match (s.till t).find o.sector with
  | some (.way w, e) =>
    let put := fun (e : Ent) => s.modTill t (fun u => u.vput o.sector w e)
    if mode == 1 then opEnd (put { e with age := 0 }) t k
    else if mode == 3 then opEnd (put { e with lock := false }) t k
    else if e.lock || room then opEnd (put { e with lock := true }) t k
    else opEnd (skip s) t k
  | other =>
    let e : Ent := (other.map (·.2)).getD {}
    if mode == 3 then opStore s t k o e
    else
      match findRoom s t o.lead o.region o.sector with
      | (s1, .way w) =>
        let lock := mode == 2 && room
        let s2 := (s1.modTill t (fun u => u.vput o.sector w { e with
          age := 0, strm := false, lock := lock, dirty := if found then e.dirty else false })).modOp t k
            (fun p => { p with buffered := false })
        let s3 := if found then (s2.bump ⟨0x3F00, 0xA, 64⟩).tev t 0x00C (bankOf o.sector) else s2
        opEnd (if mode == 2 && !room then skip s3 else s3) t k
      | _ =>
        if found && e.dirty && s.cellarState == 2 then
          startGroup ((skip s).modOp t k (fun p => { p with stage := .group })) t o.sector (.edit k) o.lead
        else opEnd (skip s) t k

/-- What an operation does with the sector's entry at the head. -/
def opDo (s : State) (t k : Nat) (o : SecOp) (found : Bool) : State :=
  let (s, e) := heal s t o.lead o.sector (s.opEnt t o)
  let sx := [0, 1, 2, 3].filter (fun i => e.line i == .s || e.line i == .x)
  match o.kind with
  | .claim c =>
    match s.gather? t c, s.folio? t c with
    | some g, some x =>
      if g.failed then sectorTaken (opEnd s t k) t c o.sector false
      else if e.claimed then
        if x.opc == .claimS && !((s.till t).heldX (pageOfSector o.sector) e) && e.ptrs.length < 6 then
          claimWrite s t k c o e true
        else opBlock s t o
      else
        let l := (opTargets s e).map (fun x => (x.1, x.2.1, [0, 1, 2, 3]))
        if l.isEmpty then claimWrite s t k c o e false else opSnoop s t k o e l
    | _, _ => opEnd s t k
  | .leave =>
    let l := (s.au.leave.map (fun x => x.aid.toNat)).filter (fun n => (s.named e).contains n)
    if l.isEmpty || sx.isEmpty then opStore s t k o e
    else opSnoop s t k o e (l.map (fun n => (.inv, n, [0, 1, 2, 3])))
  | .foreclose =>
    let l := s.foreTargets e
    if l.isEmpty then opStore s t k o e else opSnoop s t k o e l
  | .retentive =>
    (match (s.till t).find o.sector with
     | some (.way _, e) =>
       if e.dirty && !e.idle && writesThrough s (s.region (s.regionOf s.maps.rGen o.sector)) then
         startGroup (s.modOp t k (fun p => { p with stage := .group, ent := e })) t o.sector (.edit k) o.lead
       else opEnd s t k
     | _ => opEnd s t k)
  | .resolve _ =>
    if found then opStore s t k o e
    else
      let l : List Target := s.presentList.map (fun n => (.inv, n, [0, 1, 2, 3]))
      if !l.isEmpty then opSnoop s t k o e l
      else if s.summaryOf t o.sector then
        startGroup (s.modOp t k (fun p => { p with stage := .group })) t o.sector (.delete o.sector (some k)) o.lead
      else opEnd s t k
  | .preload m => preloadAct s t k o m found
  | .evict | .reclaimSlot _ => s

/-- Does the operation look for the entry in the Cellar (R183, R211, R290, R300, R371). -/
def SecKind.consults : SecKind → Bool
  | .claim _ | .leave | .foreclose => true
  | .resolve c => c
  | .preload m => m != 3
  | _ => false

/-- An operation whose four Folios are heads acts: it takes the entry, from the Cellar where the Summary bit is set. -/
def opAct (s : State) (t k : Nat) : State :=
  match s.op? t k with
  | none => s
  | some o =>
    if o.stage != .gather || !((s.till t).opReady o) then s
    else
      let (s1, found) := opLoad s t k o
      let bank := bankOf o.sector
      if !found && o.kind.consults && s.summaryOf t o.sector && !(s.inRebuild t o.sector) && !((s.folio? t o.lead).any (·.consulted)) then
        if KV.has (s.till t).fetch bank then s
        else
          let s2 := ((s1.modTill t (fun u => { u with fetch := KV.put u.fetch bank o.lead })).modFolio t o.lead
            (fun y => { y with consult := true })).modOp t k (fun p => { p with stage := .consult })
          (readGroup s2 t o.lead (bucketOfSector o.sector) (s.groupOf o.sector)).tev t 0x008 bank
      else
        let s2 := match o.kind with
          | .claim _ => (match (s1.till t).find o.sector with
            | some (.way w, e) => s1.modTill t (fun u => u.vput o.sector w { e with age := 0, strm := false })
            | _ => s1)
          | _ => s1
        opDo s2 t k o found

/-- The consult of an operation returns. -/
def opConsulted (s : State) (t k : Nat) (l : GLines) (bad : Bool) : State :=
  match s.op? t k with
  | none => s
  | some o =>
    let p := bucketOfSector o.sector
    let g := s.groupOf o.sector
    let s1 := (s.modTill t (fun u => { u with fetch := KV.del u.fetch (bankOf o.sector) })).modFolio t o.lead
      (fun y => { y with consult := false, consulted := true })
    if o.stage != .consult then opClose s1 t k
    else
      let s2 := if bad then enterGroup s1 t p g else lostSlots s1 t p g l
      match (if bad then none else slotFor s2 p g o.sector l) with
      | some (_, y) =>
        let s3 := s2.modOp t k (fun q => { q with stage := .gather, ent := y.ent, buffered := true })
        opDo s3 t k o true
      | none =>
        let s3 := (s2.bump ⟨0x3F00, 0xD, 64⟩).tev t 0x009 (bankOf o.sector) |>.modOp t k (fun q => { q with stage := .gather })
        opDo s3 t k o false

/-- The write of an operation's entry to its slot returns (R194, R205, R206, R298). -/
def editDone (s : State) (t : Nat) (g : GroupOp) (k : Nat) (l : GLines) : State :=
  match s.op? t k with
  | none => endGroup s t g
  | some o =>
    match slotWrite s t g.folio g.p g.g o.sector l { o.ent with dirty := false } with
    | some s1 =>
      let s2 := s1.modTill t (fun u => match u.hit o.sector with
        | some (w, e) => u.vput o.sector w { e with dirty := false }
        | none => u)
      let s3 := if (slotFor s g.p g.g o.sector l).isNone && !o.ent.idle && ((s.till t).hit o.sector).isNone then
          s2.bump ⟨0x3F00, 0xC, 64⟩ else s2
      opEnd ((endGroup s3 t g).modOp t k (fun p => { p with cwbDone := true })) t k
    | none => startGroup (endGroup (reclaimSlot s t g.p g.g l) t g) t o.sector (.edit k) g.folio

/-- The rewrite of a claimed sector in its slot returns (R254). -/
def unclaimDone (s : State) (t : Nat) (o : GroupOp) (sec : Nat) (l : GLines) : State :=
  let aids := (((s.till t).releases.find? (fun r => r.page == pageOfSector sec)).map (·.aids)).getD []
  let s1 := match slotFor s o.p o.g sec l with
    | some (n, y) =>
      let e := releaseEnt aids y.ent
      cellarCount (writeSlot s t o.folio o.p o.g l n (encSlot s.cellarGen (tagOf sec) (bankOf sec) e)) 0 (bit e.idle)
    | none => s
  let s2 := (endGroup s1 t o).modFolio t o.folio (fun x => { x with phase := .done })
  tryRetire s2 t o.folio

/-- A group read of a walk returns: the sectors that name agents of its set are taken (R290, R300). -/
def scanDone (s : State) (t : Nat) (o : GroupOp) (leave : Bool) (l : GLines) : State :=
  let hits := (slotsOf o.p o.g l).filter (fun x => s.liveSlot x.2 && ((s.till t).find (x.2.sector o.p)).isNone
    && !((s.till t).secOps.any (fun q => q.2.sector == x.2.sector o.p && (q.2.kind == .leave || q.2.kind == .foreclose)))
    && (if leave then x.2.ent.lines.any (fun y => y == .s || y == .x)
          && s.au.leave.any (fun a => (s.named x.2.ent).contains a.aid.toNat)
        else !(s.deadIn x.2.ent).isEmpty))
  let s0 := lostSlots s t o.p o.g l
  let s1 := hits.foldl (fun s x =>
    if (s.till t).internalFree < 4 then s else
      let (s2, k) := startSecOp s t (x.2.sector o.p) (if leave then .leave else .foreclose) {} false
        (s.regionOf s.maps.rGen (x.2.sector o.p))
      match s2.op? t k with
      | some q => if (s2.till t).opReady q then
          opDo (s2.modOp t k (fun q => { q with ent := x.2.ent, buffered := true })) t k q true else s2
      | none => s2) s0
  let s2 := (endGroup s1 t o).modFolio t o.folio (fun x => { x with phase := .done })
  tryRetire s2 t o.folio

/-- The lines of a group have all returned to the Folio of a running group operation. -/
def groupDone (s : State) (t f : Nat) (l : GLines) : State :=
  match (s.till t).groups.find? (fun g => g.folio == f && g.running) with
  | none => s
  | some g =>
    match g.kind with
    | .spill k => spillDone s t g k l
    | .delete sec k => deleteDone s t g sec k l
    | .writeThrough f => slotDone s t g f false l
    | .direct f => slotDone s t g f true l
    | .visit _ => visitDone s t g l
    | .scan leave => scanDone s t g leave l
    | .edit k => editDone s t g k l
    | .unclaim sec => unclaimDone s t g sec l

/-! ## Release and expiry (R250, R254 to R257) -/

/-- A Claim still gathering fails (R250): its operations that are not heads leave their chains, and the others hand on
without writing C. -/
def failGather (s : State) (t c : Nat) : State :=
  match s.gather? t c with
  | none => s
  | some g =>
    if g.failed then s
    else
      let s1 := s.modGather t c (fun g => { g with failed := true, todo := [] })
      let mine := List.filter (fun p => p.2.kind == .claim c && (p.2.stage == .gather || p.2.stage == .consult)) (s.till t).secOps
      let s2 := mine.foldl (fun s p =>
        let s3 := p.2.folios.foldl (fun s f =>
          if (s.folio? t f).any (fun x => x.head) then s else unlink s t f) s
        (opEnd s3 t p.1).modGather t c (fun g => { g with busy := g.busy - 1 })) s1
      failEnd s2 t c

/-- CLAIMANTS as R246 lays it out: claimant i in [59 - 10i : 50 - 10i]. -/
def claimantsField (l : List Aid) : Nat := (l.mapIdx (fun i a => a.toNat * 2 ^ (50 - 10 * i))).sum

/-- The arguments of a CLAIM_EXPIRED record (R491). -/
def claimArgs (c : Claim) : List Nat :=
  [c.page, place c.leaseClass 3 0 + place c.claimants.length 3 4, claimantsField c.claimants]

/-- A HELD entry is ended for all its claimants with no EXPIRED record (R254, R257), or loses one claimant. -/
def dropClaimant (s : State) (t i : Nat) (c : Claim) (a : Aid) (folio : Option Nat) (ok : Bool) : State :=
  let rest := c.claimants.filter (· != a)
  if rest.isEmpty then
    startRelease (s.modClaim t i (fun y => { y with state := .releasing })) t ⟨c.page, [a], folio, ok, some i⟩
  else startRelease (s.modClaim t i (fun y => { y with claimants := rest })) t ⟨c.page, [a], folio, ok, none⟩

/-- The EXPIRED record is deleted, with a second Event record (R256). -/
def deleteRecord (s : State) (t i : Nat) (c : Claim) : State :=
  (s.modTill t (fun u => { u with claims := KV.del u.claims i })).note .claimRecordDeleted (.till t) [c.page]

/-- A claimant counts as having sent RELEASE for an EXPIRED record (R256, R257). -/
def countReleased (s : State) (t i : Nat) (c : Claim) (a : Aid) : State :=
  let l := if c.released.contains a then c.released else c.released ++ [a]
  if c.claimants.all l.contains then deleteRecord s t i c else s.modClaim t i (fun y => { y with released := l })

/-- The Claims of an agent that leaves or is foreclosed end (R257). -/
def endClaims (s : State) (t : Nat) (a : Aid) : State :=
  let coords := List.filter (fun p => (s.folio? t p.1).any (fun x => x.aid == a)) (s.till t).gathers
  let s1 := coords.foldl (fun s p =>
    (if p.2.joins then s.modClaim t p.2.entry (fun y => { y with
      claimants := y.claimants.filter (· != a), joining := y.joining.filter (· != a) }) else s) |> (failGather · t p.1)) s
  (List.filter (fun p => p.2.claimants.contains a) (s1.till t).claims).foldl (fun s p =>
    match p.2.state with
    | .held => dropClaimant s t p.1 p.2 a none true
    | .expired => countReleased s t p.1 p.2 a
    | _ => s) s1

/-- The lease of an entry ends (R249, R250, R256). -/
def expire (s : State) (t i : Nat) (c : Claim) : State :=
  match c.state with
  | .gathering => failGather s t c.coord
  | .held =>
    let joiners := List.filter (fun p => p.2.joins && p.2.entry == i) (s.till t).gathers
    let s1 := joiners.foldl (fun s p => failGather s t p.1) s
    let kept := c.claimants.filter (fun a => !c.joining.contains a)
    let c1 := { c with claimants := kept, joining := [] }
    let s2 := s1.modClaim t i (fun _ => { c1 with state := .expired, expiredTick := s.time.tick })
    let s3 := (s2.bump ⟨0x4101, 3, 32⟩).note .claimExpired (.till t) (claimArgs c1)
    let s4 := startRelease s3 t ⟨c.page, c.claimants, none, true, none⟩
    if kept.isEmpty then deleteRecord s4 t i c1 else s4
  | _ => s

/-- The rewrite of a page completes in every bank (R254). -/
def releaseDone (s : State) (t page : Nat) : State :=
  match (s.till t).releases.find? (fun r => r.page == page) with
  | none => s
  | some r =>
    if (s.till t).groups.any (fun g => match g.kind with | .unclaim sec => pageOfSector sec == page | _ => false) then s
    else
      let s1 := (List.range 16).foldl (fun s b =>
        s.modTill t (fun u => match u.find (page * 16 + b) with
          | some (l, e) => if e.claimed then u.putAt (page * 16 + b) l (releaseEnt r.aids e) else u
          | none => u)) s
      let s2 := s1.modTill t (fun u => { u with
        releases := dropFirst (fun q => q == r) u.releases
        claims := match r.entry with | some i => KV.del u.claims i | none => u.claims })
      let s3 := clearMons s2 t (fun m => pageOf m.laddr == page && r.aids.contains m.aid) false
      let s4 := unblock s3 t page
      match r.folio.bind (fun c => (s4.folio? t c).map (fun x => (c, x))) with
      | some (c, x) => complete s4 t c x .cmp (if r.ok then .ok else .fail) 0 false
      | none => s4

/-- The coordinator's lookup: the checks of R247, in order, and the start of the gathering. -/
def claimLookup (s : State) (t f : Nat) (x : Folio) : State :=
  let page := pageOf x.laddr
  let sec := page * 16
  let reg := s.regionAt x.rgen (s.regionOf x.rgen sec)
  let mine := List.filter (fun p => p.2.claimants.contains x.aid) (s.till t).claims
  let refuse := fun (s : State) => complete (s.bump ⟨0x4101, 4, 32⟩) t f x .cmp .fail 0 false
  if KV.has (s.till t).gathers f then gatherNext 17 s t f
  else if x.laddr.toNat % 64 != 0 || x.param.toNat / 8 != 0 then refuse s
  else if !reg.claimable || reg.untracked then refuse (s.note .claimRefused (.till t) [x.laddr.toNat] (some x.aid))
  else if mine.length ≥ s.rawN 0x4101 0 then refuse s
  else if mine.any (fun p => p.2.page == page) then refuse s
  else
    let cls := x.param.toNat % 8
    let lease := s.rawN 0x4100 cls
    let todo := (List.range 16).map (fun b => sec + b)
    let s1 := s.modFolio t f (fun y => { y with region := s.regionOf x.rgen sec })
    match (if x.opc == .claimS then List.find? (fun p => p.2.page == page && p.2.state == .held && !p.2.exclusive
        && p.2.claimants.length < 6) (s.till t).claims else none) with
    | some (i, _) =>
      let s2 := s1.modClaim t i (fun y => { y with
        claimants := y.claimants ++ [x.aid], joining := y.joining ++ [x.aid], coord := f })
      gatherNext 17 (s2.modTill t (fun u => { u with gathers := KV.put u.gathers f ⟨i, true, lease, todo, 0, [], false⟩ })) t f
    | none =>
      match KV.lowest (s.till t).claims 128 with
      | none => s1.modFolio t f (fun y => { y with waits := true })
      | some i =>
        let c : Claim := ⟨.gathering, x.opc == .claimX, page, [x.aid], none, cls, f, [], [], 0⟩
        gatherNext 17 (s1.modTill t (fun u => { u with
          claims := KV.put u.claims i c
          gathers := KV.put u.gathers f ⟨i, false, lease, todo, 0, [], false⟩ })) t f

end Sys2Proof.Machine
end

