-- ==== Sys2Proof/Machine/Clearing.lean ====
section
/-! DEFINITION. The Clearing unit (R146, R147, R233), and the answers of the memory ports at a Till (R144, R182, R270,
R518 to R522). -/

namespace Sys2Proof.Machine

/-! ## Line-responses -/

/-- The last line-response of a Folio has come: its request or operation goes on (R147). -/
def cleared (s : State) (t f : Nat) : State :=
  match s.folio? t f with
  | none => s
  | some x =>
    match x.job with
    | .request =>
      if x.resolving then resolved s t f
      else if x.looked || x.phase != .snoop then finish s t f
      else lookup (s.modFolio t f (fun y => { y with phase := .lookup, kinds := [], gotI := [], gotS := [], gotE := none })) t f
    | .sector k _ => opSnooped s t k
    | .group _ | .access => s

/-- The EVC, DROP and DOWN Folios recorded against an agent's snoop complete once its response is processed (R78). -/
def crossedDone (s : State) (t f : Nat) (a : Aid) (sec : Nat) (lines : List Nat) : State :=
  match s.folio? t f with
  | none => s
  | some x =>
    let go := x.crossed.filter (fun g => (s.folio? t g).any (fun y =>
      y.aid == a && sectorOf y.laddr == sec && lines.contains (lineIx y.laddr)))
    go.foldl (fun s g =>
      match s.folio? t g with
      | some y => complete s t g y .cmp .ok 0 false
      | none => s) (s.modFolio t f (fun x => { x with crossed := x.crossed.filter (fun g => !go.contains g) }))

/-- One response to a Folio's snoop, for the lines given that are still due (R146, R233). `dead` marks a foreclosed
response. -/
def respond (s : State) (t f : Nat) (o : RspOpc) (a : Aid) (lines : List Nat) (dead : Bool) : State :=
  match s.folio? t f with
  | none => s
  | some x =>
    let ls := lines.filter (fun i => x.due.contains (a, i))
    let pairs := ls.map (fun i => (a, i))
    let off := if dead then ls.filter (fun i =>
        x.foundX.contains i && x.owners.contains a && !x.folds.contains (a, i)) else []
    let s1 := s.modFolio t f (fun x => { x with
      due := x.due.filter (fun p => !pairs.contains p)
      gotI := if o == .i then x.gotI ++ pairs else x.gotI
      gotS := if o == .s then x.gotS ++ pairs else x.gotS
      gotE := if o == .e && !ls.isEmpty then some a else x.gotE
      woff := x.woff || !off.isEmpty
      woffLines := x.woffLines ++ off.filter (fun i => !x.woffLines.contains i) })
    let s2 := crossedDone s1 t f a (sectorOf x.laddr) ls
    if ls.isEmpty || s2.awaits t f then s2 else cleared s2 t f

/-- A Till receives the oldest foreclosed response of a Wicket (R232, R233). -/
def takeForeclosed (s : State) (t w : Nat) : State :=
  match s.frontW w t with
  | some (.foreclosed f a _ lines) => respond ((s.popW w t).bump ⟨0x2030, 4, 32⟩) t f .i a lines true
  | _ => s

/-! ## Reads -/

/-- A read's data, or its cancellation, has come to a Folio: what waited for it goes on (R114, R144, R182). -/
def readBack (s : State) (t f : Nat) : State :=
  match s.folio? t f with
  | none => s
  | some x =>
    if x.phase == .lookup && x.waits then lookup s t f
    else if x.phase == .data && x.job == .request then finish s t f
    else
      match x.job with
      | .sector k _ => opClose s t k
      | _ => tryRetire s t f

/-- A line returned to a Folio's read of its line (R518, R522). The answer to a cancelled read is discarded (R144). -/
def lineBack (s : State) (t f : Nat) (x : Folio) (r : OpenRead) (cancelled : Bool) (d : RData) : State :=
  let s1 := s.modFolio t f (fun x => { x with read := none })
  if cancelled || r.cancel || x.phase == .blocked then
    readBack (s1.modFolio t f (fun x => { x with spec := if x.rdata.isSome then .held else .none })) t f
  else readBack (s1.modFolio t f (fun x => { x with rdata := some d, spec := .held })) t f

/-- One line of a group returned to a Folio's CRD; with the last one the consult or the group operation goes on. -/
def groupBack (s : State) (t f : Nat) (x : Folio) (r : OpenRead) (line : Nat) (data : LineData) (bad : Bool) : State :=
  let r1 : OpenRead := { r with
    lines := r.lines.filter (· != line), got := KV.put r.got line data, bad := r.bad || bad }
  if !r1.lines.isEmpty then s.modFolio t f (fun x => { x with read := some r1 })
  else
    let s1 := s.modFolio t f (fun x => { x with read := none })
    if x.phase == .done && x.job == .request then
      tryRetire (s1.modTill t (fun u => { u with fetch := u.fetch.filter (fun p => p.2 != f) })) t f
    else if x.consult then
      (match x.job with
       | .sector k _ => opConsulted s1 t k r1.got r1.bad
       | _ => consultDone s1 t f x r1.got r1.bad)
    else if r1.bad then
      let p := ((s.till t).groups.find? (fun g => g.folio == f && g.running)).map (fun g => (g.p, g.g))
      let s2 := match p with | some (p, g) => enterGroup s1 t p g | none => s1
      groupDone s2 t f r1.got
    else groupDone s1 t f r1.got

/-- The memory answers a read with data, CANCELLED or ERROR (R518, R521, R522). An answer that matches no outstanding
read is discarded. -/
def readAnswer (s : State) (m t f line : Nat) (cancelled error : Bool) (d : RData) : State :=
  match (s.folio? t f).bind (fun x => x.read.map (fun r => (x, r))) with
  | none => s
  | some (x, r) =>
    if r.port != m || !r.lines.contains line || (s.till t).memQ.any (fun a => a.folio == f && (a.mop == .mrd || a.mop == .crd))
    then s
    else
      let s0 := if error && !r.crd then s.bump ⟨0x2091 + m, 2, 32⟩ else s
      if r.crd then groupBack s0 t f x r line d.data error
      else lineBack s0 t f x r cancelled (if error then { d with poison := true, cellared := true, woff := false } else d)

/-- One returned MRD in 256 is sampled for the port (R482). -/
def portSample (s : State) (m t f : Nat) : State :=
  match (s.folio? t f).bind (·.read) with
  | none => s
  | some r =>
    if r.crd then s else
    let n := KV.get s.portReads m 0 + 1
    let s1 := { s with portReads := KV.set s.portReads m (n % 256) 0 }
    if n % 256 == 0 then s1.sample (portChan s.build m) 0 0 (some (s.time.cclk - r.cclk)) else s1

/-! ## Writes -/

/-- The class of an end-point outcome: the worse of two (R269). -/
def Outc.worse (a b : Outc) : Outc :=
  let n : Outc → Nat := fun x => match x with | .ok => 0 | .writtenOff => 1 | .fail => 2 | .lost => 3
  if n a < n b then b else a

/-- A lost write enters the lost-write table, or is counted as dropped (R272). -/
def enterLost (s : State) (m : Nat) (ptl : Bool) (a : Aid) (l : Line) : State :=
  if s.lost.length < 64 then
    { s with lost := s.lost ++ [(BitVec.ofNat 64 (2 ^ 63 + place m 2 61 + place (bit ptl) 1 60 + place a.toNat 10 50
      + l.toNat), BitVec.ofNat 64 s.time.tick)] }
  else s.bump ⟨0x4310, 1, 32⟩

/-- A write of a Folio has its end-point outcome: MCMP, or a timeout (R269, R270, R519, R522). -/
def writeAnswer (s : State) (m t f : Nat) (mop : Mop) (lost : Bool) : State :=
  match s.folio? t f with
  | none => s
  | some x =>
    match x.writes.find? (fun w => w.mop == mop && w.port == m) with
    | none => s
    | some w =>
      let s1 := s.modFolio t f (fun x => { x with
        writes := dropFirst (fun v => v.mop == mop && v.port == m) x.writes
        outcome := if lost && (mop == .mwr || mop == .mwrPtl) then x.outcome.worse .lost else x.outcome })
      let s2 := if !lost then s1 else
          ((enterLost s1 m (mop == .mwrPtl) x.aid w.addr).note .lostWrite (.till t) [w.addr.toNat] (some x.aid)).bump
            ⟨0x2091 + m, 1, 32⟩
      let s3 := if lost && mop == .cwb then
          (let off := w.addr.toNat * 64 - s.rawN 0x3F00 0
           let seg := 2 ^ (30 + s.rawN 0x3F00 1) / 4096
           enterGroup s2 t (off / seg) (off % seg / 256))
        else s2
      match x.job with
      | .sector k _ => opClose s3 t k
      | _ => tryRetire s3 t f

/-- The oldest write of a kind that a Folio has open at a port. -/
def State.openWrite? (s : State) (m t f : Nat) (mop : Mop) : Option OpenWrite :=
  (s.folio? t f).bind (fun x => x.writes.find? (fun w => w.mop == mop && w.port == m))

/-! ## Credits (R520) -/

/-- Credits return to a Till; the excess over the grant is ignored and counted. -/
def credReturn (s : State) (m t : Nat) (data : Bool) (n : Nat) : State :=
  let c := (s.till t).cred m
  let full := if data then decide (32 < c.2 + n) else decide (64 < c.1 + n)
  let c1 := if data then (c.1, min 32 (c.2 + n)) else (min 64 (c.1 + n), c.2)
  let s1 := s.modTill t (fun u => { u with memCred := KV.set u.memCred m c1 (0, 0) })
  let s2 := if full then s1.bump ⟨0x2091 + m, 4, 32⟩ else s1
  let s3 := drainMem s2 t
  kickData s3 t

end Sys2Proof.Machine
end

