-- ==== Sys2Proof/Machine/Ingress.lean ====
section
/-! DEFINITION. A Till's ingress: acceptance of Q flits, folds and claim-holder accesses (R75 to R80, R112, R121 to R123,
R138 to R141, R218 to R222, R252 to R255). -/

namespace Sys2Proof.Machine

/-- The Folio of an accepted flit (R112). -/
def folioOf (s : State) (q : QFlit) : Folio :=
  { blankFolio with
    laddr := q.laddr, opc := q.opc, aid := q.aid, inc := q.inc, tag := q.tag, src := q.crd, credit := q.crd
    bgen := q.bgen, rgen := q.rgen, strm := q.strm, param := q.param, wicket := q.w, origin := q.origin, epoch := q.epoch
    wdata := q.wdata, acceptCclk := s.time.cclk, headCclk := s.time.cclk, region := 0 }

/-- The head of a line that has not sent its completion. -/
def State.openHead (s : State) (t : Nat) (l : Line) : Option (Nat × Folio) :=
  ((s.till t).headOf l).bind (fun f => (s.folio? t f).map (fun x => (f, x)))

/-- The lead Folio of the operation that a head belongs to, or the head itself: where the snoops for the line are
recorded. -/
def State.snooper (s : State) (t f : Nat) (x : Folio) : Nat :=
  match x.job with
  | .sector k _ => ((s.op? t k).map (·.lead)).getD f
  | _ => f

/-- Is a snoop for the line, issued by the line's head, outstanding to the agent (R75). -/
def State.snoopOut (s : State) (t : Nat) (l : Line) (a : Aid) : Bool :=
  (s.openHead t l).any (fun h => (s.folio? t (s.snooper t h.1 h.2)).any (fun y => y.due.contains (a, lineIx l)))

/-- A non-blocking Folio completes in the Till cycle after its acceptance (R123). -/
def nbDone (s : State) (t f : Nat) : State :=
  match s.folio? t f with
  | some x => complete s t f x .cmp .ok 0 false
  | none => s

/-- Passes folded data to the head as the current copy, and cancels its read (R77, R145, R182, R219, R242). -/
def foldInto (s : State) (t : Nat) (l : Line) (a : Aid) (d : WData) : State :=
  match s.openHead t l with
  | none => s
  | some (h, x) =>
    let lead := s.snooper t h x
    let s1 := (cancelRead s t h).bump ⟨0x2030, 2, 64⟩
    let lost := x.opc == .cwr && ((s.till t).monOf l x.aid).any (fun m => m.ownerE && m.ownerAid == a)
    let s2 := s1.modFolio t h (fun y => { y with
      rdata := some ⟨d.data, d.poison, false, false, false⟩, spec := .held, cwrLost := y.cwrLost || lost })
    let s3 := s2.modFolio t lead (fun y => { y with folds := y.folds ++ [(a, lineIx l)] })
    if x.phase == .lookup && x.waits && x.job == .request then lookup s3 t h
    else if x.phase == .data && x.job == .request then finish s3 t h
    else s3

/-- A non-blocking writeback: the memory write and the CMP, the entry's change if its sender is the owner, and the data
to the head (R75, R77, R100, R218 to R220, R241). -/
def foldWb (s : State) (t f : Nat) (x : Folio) (d : WData) (owner : Bool) : State :=
  let sec := sectorOf x.laddr
  let i := lineIx x.laddr
  let s1 := if !owner then s else
    s.modTill t (fun u => match u.find sec with
      | some (l, e) =>
        let e1 := match x.opc with
          | .wbI => giveUp e i x.aid.toNat
          | .wbS => e.setLine i .s
          | _ => e
        if e1 == e then u else u.putAt sec l { e1 with dirty := true }
      | none => u)
  let s2 := (writeLine s1 t f x.laddr d false).modFolio t f (fun y => { y with wrote := true })
  nbDone ((foldInto (clearOthers s2 t x.laddr x.aid) t x.laddr x.aid d).tev t 0x012) t f

/-- EVC, DROP or DOWN of a recorded holder at the fold point (R78, R100, R163). -/
def foldDrop (s : State) (t f : Nat) (x : Folio) : State :=
  let sec := sectorOf x.laddr
  let i := lineIx x.laddr
  let r := x.aid.toNat
  let s1 := s.modTill t (fun u => match u.find sec with
    | some (l, e) =>
      let e1 := match x.opc with
        | .down => if s.ownerIs e i r then e.setLine i .s else e
        | _ =>
          if s.ownerIs e i r then giveUp e i r
          else if e.line i == .s && e.format == 0 then
            (let e2 := e.leaves i r
             if e.ptrs == [r] then (e2.setLine i .i).tidy else e2.tidy)
          else e
      if e1 == e then u else u.putAt sec l { e1 with dirty := true }
    | none => u)
  nbDone (s1.tev t 0x012) t f

/-- A claim-holder access at the fold point (R252). -/
def holderAccess (s : State) (t f : Nat) (x : Folio) (c : Claim) : State :=
  let s1 := s.modFolio t f (fun y => { y with looked := true, holder := true, phase := .data })
  let fail := fun (s : State) => complete s t f x .cmp .fail 0 false
  if x.opc.isClaim then fail (s1.bump ⟨0x4101, 4, 32⟩)
  else if x.opc.isWrite && (c.state == .expired || !c.exclusive) then
    let s2 := (s1.bump ⟨0x4101, 5, 32⟩)
    if x.opc == .cwr then fail ((clearOwn s2 t x.laddr x.aid).bump ⟨0x2030, 7, 32⟩) else fail s2
  else finish s1 t f

/-- A RELEASE at its fold point (R238, R255): it waits for the agent's earlier claim-holder writes on the page. -/
def releaseAccess (s : State) (t f : Nat) (x : Folio) : State :=
  let page := pageOf x.laddr
  match List.find? (fun p => p.2.page == page && p.2.claimants.contains x.aid) (s.till t).claims with
  | none => complete s t f x .cmp .fail 0 false
  | some (i, c) =>
    if c.state == .expired then
      complete (countReleased s t i c x.aid) t f x .cmp .fail 0 false
    else if c.state != .held || c.joining.contains x.aid then complete s t f x .cmp .fail 0 false
    else if (s.till t).folios.any (fun p => p.2.holder && p.2.aid == x.aid && pageOf p.2.laddr == page
        && p.2.opc.isWrite && !p.2.sent) then
      s.modFolio t f (fun y => { y with phase := .data, waits := true })
    else dropClaimant (s.modFolio t f (fun y => { y with phase := .data, waits := false })) t i c x.aid (some f) true

/-- The claim-table entry that makes a request a claim-holder access (R252). -/
def holderOf (s : State) (t : Nat) (x : Folio) : Option Claim :=
  (List.find? (fun p => p.2.page == pageOf x.laddr && p.2.claimants.contains x.aid
    && (p.2.state == .held || p.2.state == .expired) && !p.2.joining.contains x.aid) (s.till t).claims).map (·.2)

/-- The request goes into the chain of its line; a new head issues its speculative read (R80, R115, R143, R144). -/
def chainIn (s : State) (t f : Nat) (x : Folio) : State :=
  let s1 := joinChain s t f x.laddr
  let s2 := if x.opc.isWb then s1.sendP t x.wicket (.chained x.aid x.tag x.laddr) else s1
  if (s2.folio? t f).any (·.head) && x.opc.reads && s.rawN 0x2020 2 == 1 && (s.till t).readBufsUsed < 2048 then
    readLine s2 t f x.laddr true
  else s2

/-! ## The switch-over of a transfer (R388, R389) -/

/-- The transfer that moves a bucket away from Till `t`, planned and running. -/
def State.leaving (s : State) (t b : Nat) : Option Transfer :=
  s.transfers.find? (fun x => x.planned && x.src == t && x.batch.contains b && x.state == 2)

/-- Would a request join a chain (R75, R252). -/
def wouldChain (s : State) (t : Nat) (x : Folio) : Bool :=
  if x.opc == .conflict || x.opc.isDrop || x.opc == .release then false
  else if (holderOf s t x).isSome then false
  else if x.opc.isWb then
    !(s.snoopOut t x.laddr x.aid
      || ((s.till t).find (sectorOf x.laddr)).any (fun p => s.ownerIs p.2 (lineIx x.laddr) x.aid.toNat))
  else true

/-- The transfer case of R138: RETRY with a receipt at the Till that now owns the bucket; with its receipt reserve empty
the request is held in RETRY (R139). -/
def retryTransfer (s : State) (t f d : Nat) : State :=
  match s.folio? t f with
  | none => s
  | some x =>
    match (if (s.till d).receiptUsed < 64 then s.freeFolio d else none) with
    | none => s.modFolio t f (fun y => { y with phase := .retry, waits := true, lst := .i, way := none, region := d })
    | some g =>
      let y : Folio := { x with
        phase := .reserved, src := .receipt, credit := .internal, job := .request, looked := false
        head := false, next := none, rdata := none, read := none }
      let s1 := (s.setFolio d g y).modTill d (fun u => { u with receipts := u.receipts ++ [⟨g, x.aid, false, s.time.tick⟩] })
      let s2 := s1.sendP t x.wicket (.cmp .cmp x.aid x.inc x.tag .retry g x.opc.reads x.laddr x.opc x.origin)
      let s3 := s2.modFolio t f (fun y => { y with phase := .done, sent := true, status := .retry })
      tryRetire (((s3.bump ⟨0x4012, 1, 32⟩).slotWasted t).tev t 0x011) t f

/-- Requests that a Till holds in RETRY for want of a receipt try again. -/
def retryHeld (s : State) (t : Nat) : State :=
  (List.filter (fun p => p.2.phase == .retry) (s.till t).folios).foldl (fun s p => retryTransfer s t p.1 p.2.region) s

/-! ## A dead agent's Folios (R297) -/

/-- Drops a Folio of a dead agent: it leaves its chain, its read is cancelled, and it frees once its answers have come. -/
def dropFolio (s : State) (t f : Nat) : State :=
  match s.folio? t f with
  | none => s
  | some x =>
    let s1 := (cancelRead s t f).modFolio t f (fun y => { y with
      phase := .done, dead := true, sent := true, readOut := false, way := none, waits := false })
    let s2 := if x.head then leaveResident (handOn s1 t f) t f else if x.phase == .waiting then unlink s1 t f else s1
    tryRetire (s2.modTill t (fun u => { u with
      deferred := u.deferred.filter (· != f), receipts := u.receipts.filter (·.folio != f) })) t f

/-- What a Till does with one Folio of a dead agent. -/
def disposeFolio (s : State) (t f : Nat) : State :=
  match s.folio? t f with
  | none => s
  | some x =>
    let mark := s.modFolio t f (fun y => { y with dead := true })
    if x.opc == .internal then s
    else
      match x.phase with
      | .waiting | .reserved | .retry => dropFolio s t f
      | .lookup | .blocked => if (KV.has (s.till t).gathers f) then mark else dropFolio s t f
      | _ => mark

/-! ## Acceptance (R121 to R123, R141) -/

/-- What an accepted request does: fold, claim-holder access, coordinator, or chain. -/
def place' (s : State) (t f : Nat) (x : Folio) : State :=
  let sec := sectorOf x.laddr
  let i := lineIx x.laddr
  let untracked := (s.regionAt x.rgen (s.regionOf x.rgen sec)).untracked
  match x.opc with
  | .conflict =>
    complete (s.bump ⟨0x2030, 1, 64⟩) t f x .conflictAck .ok 0 false
  | .evc | .drop | .down =>
    if untracked then chainIn s t f x
    else if ((s.till t).find sec).any (fun p => (s.holders p.2 i).contains x.aid.toNat) then
      let s1 := s.modFolio t f (fun y => { y with nb := true })
      if s.snoopOut t x.laddr x.aid then
        match s.openHead t x.laddr with
        | some (h, y) =>
          ((s1.modFolio t (s.snooper t h y) (fun z => { z with crossed := z.crossed ++ [f] })).modFolio t f
            (fun z => { z with phase := .folded })).bump ⟨0x2030, 3, 64⟩
        | none => nbDone s1 t f
      else foldDrop s1 t f x
    else nbDone s t f
  | .wbI | .wbS | .wbX =>
    let owner := ((s.till t).find sec).any (fun p => s.ownerIs p.2 i x.aid.toNat)
    let out := s.snoopOut t x.laddr x.aid
    (match x.wdata with
     | some d =>
       if !untracked && (owner || out) then
         foldWb (s.modFolio t f (fun y => { y with nb := true, region := s.regionOf x.rgen sec })) t f x d owner
       else chainIn s t f x
     | none => chainIn s t f x)
  | .release => releaseAccess s t f x
  | .claimX | .claimS =>
    (match holderOf s t x with
     | some c => holderAccess s t f x c
     | none => s.modFolio t f (fun y => { y with phase := .lookup }))
  | .rdNc | .rsv =>
    (match holderOf s t x with
     | some c => if c.state == .expired then chainIn s t f x else holderAccess s t f x c
     | none => chainIn s t f x)
  | .ncwFull | .ncwPtl | .cwr =>
    (match holderOf s t x with
     | some c => holderAccess s t f x c
     | none => chainIn s t f x)
  | _ => chainIn s t f x

/-- A resend whose receipt has expired is answered FAIL (R141). -/
def failResend (s : State) (q : QFlit) : State :=
  let s1 := s.sendP q.till q.w (.cmp .cmp q.aid q.inc q.tag .fail 0 q.opc.reads q.laddr q.opc q.origin)
  if !q.opc.reads then s1 else
    let s2 := s1.packet (.till q.till) 3 1 (.wicket q.w)
    { s2 with
      net := { s2.net with d := s2.net.d ++ [(q.till, q.w, ⟨q.aid, q.inc, q.tag, s.free, true, q.origin⟩)] }
      freeCtr := s2.freeCtr + 1 }

/-- A Till's ingress accepts one Q flit (R121): its Folio, and what the request does at the fold point. -/
def accept (s : State) (q : QFlit) : State :=
  let t := q.till
  let gone := (s.agent q.aid.toNat).deadMark || (s.agent q.aid.toNat).inc != q.inc
  let x := { folioOf s q with dead := gone }
  let slot : Option (State × Nat × Folio) :=
    if q.crd == .receipt then
      (match (s.till t).receipts.find? (fun r => r.folio == q.rcpt && r.aid == q.aid), s.folio? t q.rcpt with
       | some r, some y => some (s.modTill t (fun u => { u with
           receipts := dropFirst (fun p => p == r) u.receipts }), q.rcpt, { x with
             credit := y.credit, strm := y.strm, param := y.param, epoch := y.epoch, wdata := x.wdata.orElse fun _ => y.wdata })
       | _, _ => none)
    else (s.freeFolio t).map (fun f => (s, f, x))
  match slot with
  | none => if q.crd == .receipt then failResend s q else s
  | some (s1, f, x) =>
    let s2 := (s1.setFolio t f x).tev t 0x001
    let b := bucketOfLine x.laddr
    if gone && wouldChain s2 t x then dropFolio s2 t f else
    match s.leaving t b with
    | some tr =>
      if tr.notice || wouldChain s2 t x then retryTransfer s2 t f tr.dst else place' s2 t f x
    | none =>
      if (s.liveTill b != t) && !(s.maps.bPend.contains q.w) && x.opc != .conflict && (s.till t).role == .source then
        retryTransfer s2 t f (s.liveTill b)
      else if (s.till t).gated.contains b then
        (s2.modFolio t f (fun y => { y with phase := .waiting })).modTill t (fun u => { u with deferred := u.deferred ++ [f] })
      else place' s2 t f x

end Sys2Proof.Machine
end

