-- ==== Sys2Proof/Machine/Flags.lean ====
section
/-! DEFINITION. The common control and status of the functions (R60 to R65), and the words of the status entries. -/

namespace Sys2Proof.Machine

/-! ## The common state machine (R62) -/

/-- The step that a transition starts. -/
inductive Start where | nothing | enabling | drain
  deriving DecidableEq, Repr

/-- ENABLE (R62). -/
def Fn.enable (f : Fn) : Fn × Start :=
  match f.st with
  | .off => ({ f with st := .enabling, last := 0 }, .enabling)
  | .enabling => ({ f with pendDis := false, last := 0 }, .nothing)
  | .on => ({ f with last := 0 }, .nothing)
  | .draining => ({ f with pendEn := true, last := 0 }, .nothing)
  | .failed => ({ f with last := 2 }, .nothing)

/-- DISABLE (R62). -/
def Fn.disable (f : Fn) : Fn × Start :=
  match f.st with
  | .off | .failed => ({ f with last := 0 }, .nothing)
  | .enabling => ({ f with pendDis := true, last := 0 }, .nothing)
  | .on => ({ f with st := .draining, last := 0 }, .drain)
  | .draining => ({ f with pendEn := false, last := 0 }, .nothing)

/-- Enabling completes (R62). -/
def Fn.enabled (f : Fn) : Fn × Start :=
  if f.st != .enabling then (f, .nothing)
  else if f.pendDis then ({ f with st := .draining, pendDis := false }, .drain)
  else ({ f with st := .on }, .nothing)

/-- The drain completes (R62). -/
def Fn.drained (f : Fn) : Fn × Start :=
  if f.st != .draining then (f, .nothing)
  else if f.pendEn then ({ f with st := .enabling, pendEn := false }, .enabling)
  else ({ f with st := .off }, .nothing)

/-- A fault (R62). -/
def Fn.fault (f : Fn) : Fn :=
  { f with st := .failed, pendDis := false, pendEn := false }

/-- A command refused with a result code and no other effect. -/
def Fn.refuse (f : Fn) (code : Nat) : Fn := { f with last := code }

/-- The common status entry (R61). -/
def Fn.word (f : Fn) : Nat :=
  place f.last 4 12 + place (bit f.pendDis) 1 9 + place (bit f.pendEn) 1 8 + place f.st.code 3 0

/-! ## The functions -/

/-- The shapers and round-robin memory of an agent. -/
def State.shape (s : State) (n : Nat) : AgShape := KV.get s.shapes n {}
/-- Changes them. -/
def State.modShape (s : State) (n : Nat) (g : AgShape → AgShape) : State :=
  { s with shapes := KV.set s.shapes n (g (s.shape n)) {} }

/-- A shaper (R351). -/
def State.shaper (s : State) : Func → Shaper
  | .portShaper w => (s.wicket w).shaper
  | .subShaper n => (s.shape n).sub
  | .svcShaper n c => ((s.shape n).svc[c]?).getD {}
  | _ => {}
/-- Changes a shaper. -/
def State.modShaper (s : State) (f : Func) (g : Shaper → Shaper) : State :=
  match f with
  | .portShaper w => s.modWicket w (fun x => { x with shaper := g x.shaper })
  | .subShaper n => s.modShape n (fun x => { x with sub := g x.sub })
  | .svcShaper n c => s.modShape n (fun x => { x with svc := x.svc.modify c g })
  | _ => s

/-- Is the function a shaper. -/
def isShaper : Func → Bool | .portShaper _ | .subShaper _ | .svcShaper _ _ => true | _ => false

/-- Does the build have the function. -/
def funcBuilt (b : Build) : Func → Bool
  | .wicket w | .portShaper w => b.hasWicket w
  | .way w => decide (w < 16)
  | .stream k => decide (k < 4)
  | .subShaper n => decide (n < 1024)
  | .svcShaper n c => decide (n < 1024) && decide (c < 4)
  | .till t => b.hasTill t

/-- The state of a function. -/
def State.fn (s : State) : Func → Fn
  | .wicket w => (s.wicket w).fn
  | .way w => (s.ways[w]?).getD ⟨.on, false, false, 0⟩
  | .stream k => (s.stream k).fn
  | .till t => (s.till t).fn
  | f => (s.shaper f).fn
/-- Changes the state of a function. -/
def State.setFn (s : State) (f : Func) (x : Fn) : State :=
  match f with
  | .wicket w => s.modWicket w (fun u => { u with fn := x })
  | .way w => { s with ways := s.ways.set w x }
  | .stream k => s.modStream k (fun u => { u with fn := x })
  | .till t => s.modTill t (fun u => { u with fn := x })
  | .portShaper _ | .subShaper _ | .svcShaper _ _ => s.modShaper f (fun u => { u with fn := x })

/-! ## Words of status entries -/

/-- The state codes of AGENT_STATE (R281). -/
def AState.code : AState → Nat
  | .absent => 0 | .joining => 1 | .active => 2 | .leaving => 3 | .foreclosing => 4 | .quarantined => 5

/-- AGENT_STATE (R281). -/
def Agent.stateWord (a : Agent) : Nat :=
  place a.inc.toNat 4 28 + place a.state.code 3 25 + place (bit a.grace) 1 24 + place (bit a.link) 1 23
    + place (bit a.deadMark) 1 22 + place a.cause.toNat 4 18 + place a.windowCount.toNat 4 14

/-- AGENT_CFG (R280). -/
def Agent.cfgWord (a : Agent) : Nat :=
  place a.kind.toNat 2 30 + place a.wicket.toNat 4 26 + place (bit a.strm) 1 25 + place (bit a.readmit) 1 24
    + place (bit a.autoRejoin) 1 23

/-- The codes of TILL_ROLE (R383). -/
def Role.code : Role → Nat
  | .none => 0 | .spare => 1 | .active => 2 | .source => 3 | .destination => 4 | .reset => 5

/-- Open Folios of an agent over all Tills (R154). -/
def State.foliosOpen (s : State) (n : Nat) : Nat :=
  (s.tills.map (fun u => (List.filter (fun p => p.2.aid.toNat == n && p.2.opc != .internal) u.folios).length)).sum

/-- Folios free at a Till for requests: all but the internal reserve, less those in use (R152; DEDUCED, log entry 19). -/
def Till.foliosFree (u : Till) : Nat :=
  16128 - (List.filter (fun p => !(p.2.credit == .internal)) u.folios).length

/-- Is the Home in Hold, or leaving it (R423, R426, R428). -/
def State.inHold (s : State) : Bool := s.power.state == 2 || s.assay.req.any (·.why == 3)

/-- Do the Wickets hold back their service queues for Hold (R426) or for a power-fail warning (R529). -/
def State.quiescing (s : State) : Bool := s.pins.warn || s.power.state == 6 || s.power.state == 7 || s.inHold

/-- A Fault, Alarm or other condition that sets FATAL (R404): the record, the FATAL output, and no admission. -/
def goFatal (s : State) (rec_ : J) (k : NodeKind) (args : List Nat) : State :=
  { s.note rec_ k args with fatal := true, global := 3 }

end Sys2Proof.Machine
end

