-- ==== Sys2Proof/Machine/Replies.lean ====
section
/-! DEFINITION. The bodies of Teller responses (R448, R469), and completions as a Wicket delivers them: to the agent, or, for
an injected request, in the response to its INJECT (R82, R476). -/

namespace Sys2Proof.Machine

/-! ## Bytes -/

/-- A value of `n` bytes, little-endian. -/
def leBytes (n v : Nat) : List Byte := (List.range n).map (fun i => BitVec.ofNat 8 (v / 2 ^ (8 * i)))
/-- The value of little-endian bytes. -/
def leVal (l : List Byte) : Nat := l.foldr (fun b n => b.toNat + 256 * n) 0

/-! ## Teller bodies (R448, R469) -/

/-- Body bytes 0 to 11 + LENGTH. -/
def tellerHead (tver cmd flags status session seq : Nat) (payload : List Byte) : List Byte :=
  leBytes 1 tver ++ leBytes 1 cmd ++ leBytes 1 flags ++ leBytes 1 status ++ leBytes 2 session
    ++ leBytes 2 payload.length ++ leBytes 4 seq ++ payload

/-- The MAC over a body: the first 16 bytes of HMAC-SHA-384 under the session key. -/
def tellerMac (key body : List Byte) : List Byte := (hmac384 key body).take 16

/-- A response; with a key it has AUTH 1, its SEQ and a MAC. -/
def tellerBody (key : Option (List Byte)) (cmd status session seq : Nat) (payload : List Byte) : List Byte :=
  match key with
  | none => tellerHead 1 cmd 1 status session 0 payload
  | some k =>
    let b := tellerHead 1 cmd 3 status session seq payload
    b ++ tellerMac k b

/-! ## Completions (R82) -/

/-- The completion opcodes of R83. -/
def CmpOpc.code : CmpOpc → Nat | .cmp => 0x3C | .cmpS => 0x3D | .cmpE => 0x3E | .conflictAck => 0x3F

/-- A completion message of 64 bits (R82). -/
def cmpWord (o : CmpOpc) (a : Aid) (i : Inc) (t : Tag) (st : CStat) (rcpt : Nat) : Nat :=
  place o.code 6 58 + place a.toNat 10 48 + place i.toNat 4 44 + place t.toNat 16 28 + place st.code 3 25 + place rcpt 14 11

/-- A data message of 640 bits with read data (R82). -/
def dataWord (a : Aid) (i : Inc) (t : Tag) (d : LineData) (poison : Bool) : Nat :=
  place a.toNat 10 630 + place i.toNat 4 626 + place t.toNat 16 610 + place 1 2 608 + place (bit poison) 1 607
    + place (2 ^ 64 - 1) 64 512 + d.toNat

/-- The completion of an injected request answers its INJECT, if that still waits (R476, R477). -/
def injectDone (s : State) (id : Nat) (payload : List Byte) : State :=
  match KV.find? s.sec.injects id with
  | none => s
  | some x =>
    let key := if x.auth then (s.sec.sessions[x.slot]?).map (·.key) else none
    { s with sec := { s.sec with injects := KV.del s.sec.injects id } }.send
      (.teller x.eid (tellerBody key 0x37 0 x.session x.seq payload))

/-- A Wicket delivers a completion with its data. -/
def sendCmp (s : State) (w : Nat) (origin : Origin) (o : CmpOpc) (a : Aid) (i : Inc) (t : Tag) (st : CStat) (rcpt : Nat)
    (data : Option (LineData × Bool)) : State :=
  match origin with
  | .agent =>
    let s1 := match data with
      | some d => s.send (.dataOut w a i t d.1 d.2)
      | none => s
    s1.send (.cmp w o a i t st rcpt)
  | .injected id =>
    injectDone s id (leBytes 8 (cmpWord o a i t st rcpt) ++ match data with
      | some d => leBytes 80 (dataWord a i t d.1 d.2)
      | none => [])
  | .post _ => s

end Sys2Proof.Machine
end

