-- ==== Sys2Proof/Machine/Clock.lean ====
section
/-! DEFINITION. The passing of CCLK: the time, the Till cycles by class, the level events of the programmable counters
and the depth samples (R50, R52, R357, R487 to R489; log entries 8, 10, 15). -/

namespace Sys2Proof.Machine

/-- A Folio whose lookup has not been made and whose bank is granted to another requester (R488, 0x014). -/
def Till.bankWaits (u : Till) (bank : Nat) : Bool :=
  (KV.get u.banks bank {}).locked && ((KV.get u.banks bank {}).grant.any (· != 0))
    && u.folios.any (fun p => p.2.phase == .lookup && p.2.head && !p.2.looked && bankOf (sectorOf p.2.laddr) == bank)

/-- A Folio waits for the Cellar fetch slot of a bank that another holds (R488, 0x017). -/
def Till.fetchWaits (u : Till) (bank : Nat) : Bool :=
  (KV.find? u.fetch bank).any (fun g =>
    u.folios.any (fun p => p.1 != g && p.2.phase == .lookup && p.2.waits && bankOf (sectorOf p.2.laddr) == bank))

/-- The event signals of a Till that are 1 now: code and unit (R488). -/
def Till.signals (u : Till) : List (Nat × Nat) :=
  (if u.folios.any (fun p => p.2.phase == .waiting) then [(0x013, 0xFF)] else [])
    ++ ((List.range 16).filter u.bankWaits).map (fun b => (0x014, b))
    ++ (if u.readBufsUsed ≥ 2048 then [(0x015, 0xFF)] else [])
    ++ (if u.poolF == 0 then [(0x016, 0xFF)] else [])
    ++ ((List.range 16).filter u.fetchWaits).map (fun b => (0x017, b))
    ++ (if u.folios.any (fun p => p.2.phase == .blocked) then [(0x018, 0xFF)] else [])

/-- The event signals of the Home that are 1 now (R488). -/
def State.signals (s : State) : List (Nat × Nat) :=
  ((s.build.wicketList).filter (fun w =>
    (s.wicket w).entCred.any (fun p => p.2.ord == 0))).map (fun w => (0x104, w))

/-- Counts `n` cycles of level events at index `i`: a level selector counts cycles, an edge selector a rise (R487). -/
def State.levelEvents (s : State) (i : Nat) (now before : List (Nat × Nat)) (n : Nat) : State :=
  if s.rawN 0xB800 3 == 1 then s else
    (s.selectors i).foldl (fun s p =>
      let hot := fun (l : List (Nat × Nat)) => l.any (fun e => selMatches p.2 e.1 e.2)
      if !hot now then s
      else if bits (BitVec.ofNat 32 p.2) 30 30 == 1 then s.pcAdd i p.1 n
      else if hot before then s else s.pcAdd i p.1 1) s

/-- Do the clocks of a Till run: it is not gated (R384, R427). -/
def State.clocked (s : State) (t : Nat) : Bool := (s.till t).fn.st != .off && s.power.state != 2

/-- `n` CCLK pass at a Till: its cycles are starved (R489). -/
def tillCycles (s : State) (t n : Nat) : State :=
  if !s.clocked t then s else
    let u := s.till t
    let n := if u.div2 then n / 2 else n
    let back := u.halted.isSome || !u.memQ.isEmpty
      || u.folios.any (fun p => p.2.head && (p.2.phase == .lookup || (p.2.phase == .data && p.2.waits)))
    let s1 := s.slot t (if back then 3 else 2) n
    let s2 := s1.pcEvent (0xB600 + t) (if back then 0x005 else 0x004) 0xFF n
    if (s2.selectors (0xB600 + t)).isEmpty then s2
    else
      let now := (s2.till t).signals
      (s2.levelEvents (0xB600 + t) now u.cond n).modTill t (fun u => { u with cond := now })

/-- Depth of one service queue (R357). -/
def Wicket.depth (x : Wicket) (a c : Nat) : Nat :=
  (x.entries.filter (fun e => e.aid.toNat == a && e.cls == c && !e.held)).length

/-- The agents bound to a Wicket, ascending. -/
def State.bound (s : State) (w : Nat) : List Nat :=
  (List.filter (fun p => p.2.wicket.toNat == w && (p.2.state == .active || p.2.state == .leaving)) s.agents).map (·.1)

/-- The depth samples of a Wicket in `n` CCLK (R357). -/
def depthSamples (s : State) (w n : Nat) : State :=
  let p := max 1 (s.rawN 0x6010 3)
  let l := s.bound w
  if l.isEmpty then s else
    ((List.range ((s.time.cclk + n) / p - s.time.cclk / p)).foldl (fun s k =>
      let q := (s.time.cclk / p + 1 + k) % (4 * l.length)
      let a := l.getD (q / 4) 0
      let d := (s.wicket w).depth a (q % 4)
      if d == 0 then s else s.sample a 1 (1 + q % 4) (some d)) s)

/-- Does some agent channel take level samples. -/
def State.wantsDepth (s : State) : Bool :=
  s.tally.chans.any (fun p => decide (p.1 < 1024) && chanEn p.2.cfg && chanMeasure p.2.cfg == 1)

/-- `n` CCLK pass. -/
def advance (s : State) (n : Nat) : State :=
  if n == 0 then s else
    let s1 := s.build.tillList.foldl (fun s t => tillCycles s t n) s
    let s2 := if (s1.selectors 0xB700).isEmpty then s1 else
      (let now := s1.signals
       { s1.levelEvents 0xB700 now s1.cond n with cond := now })
    let s3 := if s2.wantsDepth then s2.build.wicketList.foldl (fun s w => depthSamples s w n) s2 else s2
    { s3 with time := { s3.time with
      cclk := s3.time.cclk + n, ps := s3.time.ps + n * 1000000 / max 1 s3.assay.mhz } }

end Sys2Proof.Machine
end

