-- ==== Sys2Proof/Machine/Wickets.lean ====
section
/-! DEFINITION. A Wicket's entry credits and admission entries, and the posting buffer, epochs and SETTLEs of WS (R263 to
R269, R344 to R350, R511). -/

namespace Sys2Proof.Machine

/-! ## Entry credits (R344, R511; DESIGN CHOICE, log entry 13) -/

/-- Is the agent bound: it is Active or Leaving. -/
def State.serving (s : State) (n : Nat) : Bool :=
  (s.agent n).state == .active || (s.agent n).state == .leaving

/-- Admission entries of an agent, kept or ordinary. Drains of posted entries and injected requests take none. -/
def Wicket.used (x : Wicket) (a : Nat) (kept : Bool) : Nat :=
  (x.entries.filter (fun e => e.aid.toNat == a && e.keptEntry == kept && e.origin == .agent)).length

/-- Is a message of the agent held at WS (R265, R268). -/
def Wicket.holds (x : Wicket) (a : Nat) : Bool := x.entries.any (fun e => e.aid.toNat == a && e.held)

/-- Entries of the shared pool that no agent has (R344). -/
def State.sharedFree (s : State) (w : Nat) : Nat :=
  let x := s.wicket w
  let m := s.rawN 0x6010 0
  let l := s.bound w
  16384 - l.length * (2 + m) - (l.map (fun a => (KV.get x.entCred a {}).ord + x.used a false - m)).sum

/-- Grants entry credits for an agent. -/
def grantEntries (s : State) (w a : Nat) (kept : Bool) (n : Nat) : State :=
  if n == 0 then s else
    (s.modWicket w (fun x =>
      let c := KV.get x.entCred a {}
      { x with entCred := KV.put x.entCred a (if kept then { c with kept := c.kept + n } else { c with ord := c.ord + n }) })).send
      (.credit w (BitVec.ofNat 10 a) kept n)

/-- Brings an agent's entry credits up to its kept entries and ADMIT_MIN, and, where it has no ordinary credit left, one
from the shared pool within ADMIT_MAX. -/
def regrant (s : State) (w a : Nat) : State :=
  let x := s.wicket w
  if !(s.serving a) || (s.agent a).wicket.toNat != w || x.fn.st == .failed || x.holds a then s else
    let c := KV.get x.entCred a {}
    let m := s.rawN 0x6010 0
    let s1 := grantEntries s w a true (2 - (c.kept + x.used a true))
    let s2 := grantEntries s1 w a false (m - (c.ord + x.used a false))
    let c2 := KV.get (s2.wicket w).entCred a {}
    if c2.ord == 0 && decide (x.used a false + 2 < s.rawN 0x6010 1) && s2.sharedFree w != 0 then grantEntries s2 w a false 1
    else s2

/-- After an admission entry is freed: its agent's credits, then those of agents that have none. -/
def regrantAll (s : State) (w a : Nat) : State :=
  let s1 := regrant s w a
  ((s1.bound w).filter (fun n => (KV.get (s1.wicket w).entCred n {}).ord == 0)).foldl (fun s n => regrant s w n) s1

/-- The requests that may use kept entries and kept credits (R129, R344). -/
def Opc.keptKind (o : Opc) : Bool := o.isWb || o.isDrop || o == .conflict

/-- The port logic spent one entry credit on a request: an ordinary one if it held one, else a kept one. -/
def spendEntry (s : State) (w a : Nat) (o : Opc) : State × Bool :=
  let c := KV.get (s.wicket w).entCred a {}
  let put := fun (c : EntCred) => s.modWicket w (fun x => { x with entCred := KV.put x.entCred a c })
  if c.ord != 0 then (put { c with ord := c.ord - 1 }, false)
  else if o.keptKind && c.kept != 0 then (put { c with kept := c.kept - 1 }, true)
  else (s, false)

/-! ## Routing at a Wicket (R46, R388) -/

/-- The Till that a Wicket sends a request to. -/
def State.routeTill (s : State) (w : Nat) (o : Opc) (a : Aid) (l : Line) : Nat :=
  let b := bucketOfLine l
  match (s.wicket w).swTable.find? (fun e => e.bucket == b) with
  | some e =>
    if o.keptKind || (w == Build.ws && (o == .release || s.ws.mirror.contains (a, pageOf l))) then e.old
    else s.replicaTill w b
  | none => s.replicaTill w b

/-- The requests not yet injected take their Till and generations anew (R49, R388, R402). -/
def retarget (s : State) (w : Nat) : State :=
  s.modWicket w (fun x => { x with entries := x.entries.map (fun e =>
    if e.rcpt.isSome then e else
      { e with till := s.routeTill w e.opc e.aid e.laddr, bgen := s.replicaGen w, rgen := s.replicaRGen w }) })

/-! ## Admission entries -/

/-- The service class of a request (R346). -/
def State.classOf (s : State) (a : Nat) (o : Opc) : Nat :=
  let c := match o with
    | .rdS | .rdAny | .rdNc | .rsv => 0
    | .rdX | .own | .cwr | .claimX | .claimS | .release => 1
    | _ => 2
  if c < 2 && (s.shape a).bulk then 3 else c

/-- The write data of a request message (R82): a full write carries every byte. -/
def dataOf (o : Opc) (q : Req) : Option WData :=
  if o.hasData then some ⟨q.data, if o == .ncwPtl then q.be else BitVec.allOnes 64, q.poison⟩ else none

/-- The admission entry of a request (R344, R346). At WS, STRM is set in every request of the Bulk class (R191). -/
def admOf (s : State) (w : Nat) (o : Opc) (q : Req) (kept : Bool) (origin : Origin) (rcpt : Option (Nat × Nat)) : Adm :=
  let c := s.classOf q.aid.toNat o
  { opc := o, aid := q.aid, inc := q.inc, tag := q.tag, laddr := q.laddr
    strm := q.strm || (s.agent q.aid.toNat).strm || (w == Build.ws && c == 3)
    param := q.param, rcpt := rcpt.map (·.2), wdata := dataOf o q, origin := origin, cls := c
    till := (rcpt.map (·.1)).getD (s.routeTill w o q.aid q.laddr)
    bgen := s.replicaGen w, rgen := s.replicaRGen w
    epoch := (KV.get s.ws.agents q.aid.toNat {}).epoch
    seq := (s.wicket w).seq, cclk := s.time.cclk, keptEntry := kept, held := false, bypass := none }

/-- Puts a request into an admission entry. -/
def appendAdm (s : State) (w : Nat) (e : Adm) : State :=
  s.modWicket w (fun x => { x with entries := x.entries ++ [{ e with seq := x.seq }], seq := x.seq + 1 })

/-- The Wicket admits a request (R344). -/
def pushAdm (s : State) (w : Nat) (e : Adm) : State :=
  ((appendAdm s w e).modWicket w (fun x => { x with
    wbs := if e.opc.isWb then x.wbs ++ [⟨e.aid, e.tag, e.laddr⟩] else x.wbs })).gev 0x102 w

/-- A completion that a Wicket builds itself, with its poisoned data for a read (R69, R149; the data is a free value,
DESIGN CHOICE, log entry 6). -/
def wicketFail (s : State) (w : Nat) (o : Opc) (a : Aid) (i : Inc) (tag : Tag) (origin : Origin := .agent) : State :=
  if o.reads then (sendCmp s w origin .cmp a i tag .fail 0 (some (s.free, true))).freeUsed
  else sendCmp s w origin .cmp a i tag .fail 0 none

/-! ## Epochs and SETTLE (R268, R269) -/

/-- What WS keeps for an internal agent. -/
def State.wsAgent (s : State) (a : Nat) : WsAgent := KV.get s.ws.agents a {}
/-- Changes it. -/
def State.modWsAgent (s : State) (a : Nat) (g : WsAgent → WsAgent) : State :=
  { s with ws := { s.ws with agents := KV.set s.ws.agents a (g (s.wsAgent a)) {} } }

/-- Changes the record of an epoch. -/
def modEpoch (l : List EpochRec) (e : Nat) (g : EpochRec → EpochRec) : List EpochRec :=
  if l.any (·.epoch == e) then l.map (fun r => if r.epoch == e then g r else r) else l ++ [g ⟨e, 0, .ok⟩]

/-- A write belongs to an epoch. -/
def addWrite (s : State) (a e : Nat) : State :=
  s.modWsAgent a (fun x => { x with epochs := modEpoch x.epochs e (fun r => { r with pending := r.pending + 1 }) })

/-- An outcome is recorded against an epoch; `ends` where it is the write's end point. -/
def noteOutcome (s : State) (a e : Nat) (o : Outc) (ends : Bool) : State :=
  s.modWsAgent a (fun x => { x with epochs := modEpoch x.epochs e (fun r =>
    { r with pending := if ends then r.pending - 1 else r.pending, worst := r.worst.worse o }) })

/-- The STATUS that reports an outcome. -/
def Outc.status : Outc → CStat | .ok => .ok | .writtenOff => .writtenOff | .fail => .fail | .lost => .lost

/-- The oldest SETTLE of an agent completes if every write it covers has its outcome. -/
def settleDone (s : State) (a : Nat) : Option State :=
  let x := s.wsAgent a
  match x.settles with
  | [] => none
  | t :: rest =>
    let cov := x.epochs.filter (fun r => decide (r.epoch ≤ t.epoch))
    if cov.any (·.pending != 0) then none else
      let o := cov.foldl (fun o r => o.worse r.worst) Outc.ok
      let s1 := s.modWsAgent a (fun x => { x with
        settles := rest, epochs := x.epochs.filter (fun r => decide (t.epoch < r.epoch)) })
      let s2 := (sendCmp s1 Build.ws t.origin .cmp (BitVec.ofNat 10 a) t.inc t.tag o.status 0 none).bump ⟨0x4300, 5, 64⟩
      some (if o == .lost then s2.bump ⟨0x4300, 6, 32⟩ else s2)

/-- The SETTLEs of one agent complete in order. -/
def checkSettles : Nat → State → Nat → State
  | 0, s, _ => s
  | n + 1, s, a => match settleDone s a with | some s1 => checkSettles n s1 a | none => s

/-! ## The posting buffer (R263 to R267) -/

/-- The byte mask as a mask of 512 bits. -/
def byteMask (be : Word) : LineData :=
  (List.range 64).foldl (fun (m : LineData) i => if be.getLsbD i then m ||| (BitVec.ofNat 512 0xFF <<< (8 * i)) else m) 0

/-- Replaces the enabled bytes. -/
def mergeBytes (old new : LineData) (be : Word) : LineData :=
  let m := byteMask be
  (old &&& ~~~m) ||| (new &&& m)

/-- An entry starts to drain: its write joins WS's service queues (R265). -/
def drainPost (s : State) (e : Nat) : State :=
  match KV.find? s.ws.post e with
  | none => s
  | some p =>
    if p.draining then s else
      let full := p.mask == BitVec.allOnes 64
      let q : Req := { aid := p.aid, inc := (s.agent p.aid.toNat).inc, tag := 0, laddr := p.laddr
                       data := p.data, be := p.mask, poison := p.poison }
      let s1 := { s with ws := { s.ws with post := KV.put s.ws.post e { p with draining := true } } }
      pushAdm s1 Build.ws { admOf s1 Build.ws (if full then .ncwFull else .ncwPtl) q false (.post e) none with epoch := p.epoch }

/-- Drains the entries of an agent that `p` selects, the oldest first. -/
def drainWhere (s : State) (p : Post → Bool) : State :=
  let l := sortBy (fun x => x.2.seq) (List.filter (fun x => !x.2.draining && p x.2) s.ws.post)
  l.foldl (fun s x => drainPost s x.1) s

/-- The high-water trigger (R265). -/
def highWater (s : State) : State :=
  let m := s.rawN 0x4300 1
  let idle := sortBy (fun x => x.2.seq) (List.filter (fun x => !x.2.draining) s.ws.post)
  if s.ws.post.length ≤ m then s else (idle.take (idle.length - m)).foldl (fun s x => drainPost s x.1) s

/-- A store enters the buffer: it merges, or takes a new entry (R263, R264). -/
def postStore (s : State) (a : Aid) (l : Line) (d : WData) (epoch : Nat) : State :=
  match List.find? (fun x => x.2.aid == a && x.2.laddr == l && !x.2.draining) s.ws.post with
  | some (k, p) =>
    let s1 := { s with ws := { s.ws with post := KV.put s.ws.post k { p with
      data := mergeBytes p.data d.data d.be, mask := p.mask ||| d.be, poison := p.poison || d.poison } } }
    (s1.modWsAgent a.toNat (fun x => { x with epochs := modEpoch x.epochs epoch (fun r =>
      { r with pending := r.pending - 1 }) })).bump ⟨0x4300, 3, 64⟩
  | none =>
    match KV.lowest s.ws.post 512 with
    | none => s
    | some k =>
      highWater { s with ws := { s.ws with
        post := KV.put s.ws.post k ⟨a, l, d.be, mergeBytes 0 d.data d.be, d.poison, epoch, s.time.cclk, s.ws.postSeq, false⟩
        postSeq := s.ws.postSeq + 1 } }

/-- The agent's entries for a line, in age order. -/
def State.posted (s : State) (a : Aid) (l : Line) : List Post :=
  sortBy (·.seq) ((List.filter (fun x => x.2.aid == a && x.2.laddr == l) s.ws.post).map (·.2))

/-- Merges entries in age order: the data, the bytes covered and the bytes poisoned (R266). -/
def mergePosts (l : List Post) : LineData × Word × Word :=
  l.foldl (fun m p => (mergeBytes m.1 p.data p.mask, m.2.1 ||| p.mask,
    (m.2.2 &&& ~~~p.mask) ||| (if p.poison then p.mask else 0))) (0, 0, 0)

/-- A store takes its place in the posting buffer and the agent's CMP leaves (R263). -/
def postWrite (s : State) (e : Adm) : State :=
  match e.wdata with
  | none => s
  | some d =>
    checkSettles 4 (sendCmp (postStore s e.aid e.laddr d e.epoch) Build.ws e.origin .cmp e.aid e.inc e.tag .ok 0 none) e.aid.toNat

/-! ## What WS does with a message (R245, R263 to R268) -/

/-- SETTLE closes the open epoch (R268). -/
def closeEpoch (s : State) (e : Adm) : State :=
  let a := e.aid.toNat
  let ep := (s.wsAgent a).epoch
  let s1 := s.modWsAgent a (fun x => { x with epoch := x.epoch + 1, settles := x.settles ++ [⟨e.tag, e.inc, ep, e.origin⟩] })
  checkSettles 4 (drainWhere s1 (fun p => p.aid == e.aid && decide (p.epoch ≤ ep))) a

/-- WS serves a message of an internal agent, or answers none where it must wait. The flag says that the message keeps
its admission entry. A resend under a receipt is always injected (R141). -/
def wsServe (s : State) (e : Adm) : Option (State × Bool) :=
  let page := pageOf e.laddr
  match e.opc with
  | .settle => if (s.wsAgent e.aid.toNat).settles.length ≥ 4 then none else some (closeEpoch s e, false)
  | .ncwFull | .ncwPtl =>
    if s.ws.post.length ≥ 512 then none
    else if (s.agent e.aid.toNat).postEn && e.rcpt.isNone then some (postWrite s e, false)
    else some (s, true)
  | .cwr =>
    if s.ws.post.length ≥ 512 then none
    else some (drainWhere s (fun p => p.aid == e.aid && p.laddr == e.laddr), true)
  | .rsv => some (drainWhere s (fun p => p.aid == e.aid && p.laddr == e.laddr), true)
  | .claimX | .claimS | .release => some (drainWhere s (fun p => p.aid == e.aid && pageOf p.laddr == page), true)
  | .rdNc =>
    let l := s.posted e.aid e.laddr
    let m := mergePosts l
    if !l.isEmpty && m.2.1 == BitVec.allOnes 64 && e.rcpt.isNone then
      some ((sendCmp s Build.ws e.origin .cmp e.aid e.inc e.tag .ok 0 (some (m.1, m.2.2 != 0))).bump ⟨0x4300, 4, 64⟩, false)
    else some (drainWhere s (fun p => p.aid == e.aid && p.laddr == e.laddr), true)
  | _ => some (s, true)

/-- Does WS hold back the message behind an earlier held one of its agent. -/
def wsTake (s : State) (e : Adm) : State :=
  if (s.wicket Build.ws).holds e.aid.toNat then pushAdm s Build.ws { e with held := true }
  else
    match wsServe s e with
    | none => pushAdm s Build.ws { e with held := true }
    | some (s1, keep) => if keep then pushAdm s1 Build.ws e else regrantAll s1 Build.ws e.aid.toNat

/-- The held messages of an agent proceed in the order sent, as far as they can. -/
def pumpHeld : Nat → State → Nat → State
  | 0, s, _ => s
  | n + 1, s, a =>
    match (s.wicket Build.ws).entries.find? (fun e => e.aid.toNat == a && e.held) with
    | none => s
    | some e =>
      match wsServe s e with
      | none => s
      | some (s1, keep) =>
        let s2 := s1.modWicket Build.ws (fun x => { x with entries := x.entries.filter (fun y => y.seq != e.seq) })
        let s2 := if keep then appendAdm s2 Build.ws { e with held := false } else s2
        pumpHeld n (regrantAll s2 Build.ws a) a

/-- Every agent's held messages try again, the agent that has waited longest first. -/
def pumpAll (s : State) : State :=
  let l := ((s.wicket Build.ws).entries.filter (·.held)).map (fun e => e.aid.toNat)
  l.eraseDups.foldl (fun s a => pumpHeld l.length s a) s

/-- A posting-buffer entry frees (R263). -/
def freePost (s : State) (e : Nat) : State :=
  pumpAll { s with ws := { s.ws with post := KV.del s.ws.post e } }

/-- A write has its end-point outcome (R269). -/
def writeEnded (s : State) (a e : Nat) (o : Outc) : State :=
  pumpAll (checkSettles 4 (noteOutcome s a e o true) a)

end Sys2Proof.Machine
end

