-- ==== Sys2Proof/Machine/Injection.lean ====
section
/-! DEFINITION. Credits at a Wicket, loans, the shapers and the injection of requests into the Exchange (R128 to R134,
R347 to R356). -/

namespace Sys2Proof.Machine

/-! ## Credits (R128, R129) -/

/-- The key of an agent's counts at a Till. -/
def ckey (a t : Nat) : Nat := a * 32 + t
/-- An agent's unused credits at a Till. -/
def Wicket.cred (x : Wicket) (a t : Nat) : Cred := KV.get x.creds (ckey a t) {}
/-- Changes them. -/
def Wicket.modCred (x : Wicket) (a t : Nat) (g : Cred → Cred) : Wicket :=
  { x with creds := KV.set x.creds (ckey a t) (g (x.cred a t)) {} }
/-- The loan credits for a Till. -/
def Wicket.loan (x : Wicket) (t : Nat) : Loan := KV.get x.loans t {}
/-- Changes them. -/
def Wicket.modLoan (x : Wicket) (t : Nat) (g : Loan → Loan) : Wicket :=
  { x with loans := KV.set x.loans t (g (x.loan t)) {} }

/-- Is a line covered by a snoop outstanding to the agent from the Till (R129). -/
def Wicket.snooped (x : Wicket) (a : Aid) (t : Nat) (l : Line) : Bool :=
  x.sids.any (fun p => p.2.aid == a && p.2.till == t && sectorOf p.2.laddr == sectorOf l
      && (p.2.undone.contains (lineIx l)
        || x.heldRsp.any (fun h => h.r.sid.toNat == p.1 && (covered h.r.low.toNat h.r.blk.toNat).contains (lineIx l))))
    || x.sWait.any (fun q => q.aid == a && q.till == t && sectorOf q.laddr == sectorOf l
      && (covered (lineIx q.laddr) q.blk).contains (lineIx l))

/-- Does a request qualify for a kept credit (R129). -/
def Wicket.qualifies (x : Wicket) (o : Opc) (a : Aid) (t : Nat) (l : Line) : Bool :=
  o == .conflict || (o.keptKind && x.snooped a t l)

/-- Are the counts enough for a request, with or without data. -/
def enough (f d : Nat) (data : Bool) : Bool := f != 0 && (!data || d != 0)

/-- The credit that a request takes from its lane: a receipt, an ordinary credit, or a loan credit (R129, R131, R141). -/
def Wicket.creditFor (x : Wicket) (e : Adm) : Option Src :=
  if e.rcpt.isSome then some .receipt
  else
    let c := x.cred e.aid.toNat e.till
    let l := x.loan e.till
    if enough c.folios c.data e.wdata.isSome then some .escrow
    else if enough l.folios l.data e.wdata.isSome then some .loan
    else none

/-- Takes a credit and counts the request as open (R128, R396). -/
def Wicket.take (x : Wicket) (e : Adm) (src : Src) : Wicket :=
  let d := if e.wdata.isSome then 1 else 0
  match src with
  | .escrow => x.modCred e.aid.toNat e.till (fun c => { c with folios := c.folios - 1, data := c.data - d, open_ := c.open_ + 1 })
  | .kept => x.modCred e.aid.toNat e.till (fun c => { c with keptF := c.keptF - 1, keptD := c.keptD - d, open_ := c.open_ + 1 })
  | .loan =>
    (x.modLoan e.till (fun l => { l with
      folios := l.folios - 1, data := l.data - d, inUseF := l.inUseF + 1, inUseD := l.inUseD + d })).modCred e.aid.toNat e.till
      (fun c => { c with open_ := c.open_ + 1 })
  | _ => x

/-! ## Loans (R130, R131) -/

/-- Sends the loan requests that are due: a request waits for a Till without any credit, and none of the agents whose
requests wait for it can take an ordinary or loan credit there. -/
def askLoans (s : State) (w : Nat) : State :=
  let x := s.wicket w
  if x.fn.st == .enabling then s else
    (s.build.tillList.filter (fun t => x.entries.any (fun e => e.till == t))).foldl (fun s t =>
      let x := s.wicket w
      let l := x.entries.filter (fun e => e.till == t && !e.held)
      let lack := l.filter (fun e => (x.creditFor e).isNone && !x.qualifies e.opc e.aid e.till e.laddr)
      if lack.isEmpty || (x.loan t).asked || l.any (fun e => e.rcpt.isNone && (x.creditFor e).isSome) then s
      else (s.modWicket w (fun x => x.modLoan t (fun l => { l with asked := true }))).sendW w t
        (.loanReq (lack.any (fun e => e.wdata.isSome)))) s

/-- Unused loan credits go back to the Till (R131); the Till counts them on receipt (R132). -/
def returnLoan (s : State) (w t : Nat) : State :=
  let l := (s.wicket w).loan t
  if l.folios == 0 && l.data == 0 then s else
    ((s.packet (.wicket w) 2 1 (.till t)).modWicket w (fun x => x.modLoan t (fun l => { l with folios := 0, data := 0 }))).modTill t
      (fun u => { u with lentF := u.lentF - l.folios, lentD := u.lentD - l.data })

/-- A Wicket returns its unused loan credits for every Till (R131, R151). -/
def returnLoans (s : State) (w : Nat) : State := s.build.tillList.foldl (fun s t => returnLoan s w t) s

/-- Does an agent's join wait for the Till's pool (R135): the Till grants no loan meanwhile. -/
def State.recalls (s : State) (t : Nat) : Bool :=
  s.agents.any (fun p => p.2.state == .joining && !p.2.committed.contains t)

/-- A Till grants the loan requests that it keeps, in their order, as far as the pool and the caps allow (R130). -/
def serveLoans (s : State) (t : Nat) : State :=
  if s.recalls t then s else
    (s.till t).loanReqs.foldl (fun s r =>
      let u := s.till t
      let l := (s.wicket r.1).loan t
      let n := min (min (s.rawN 0x4011 0) u.poolF) (s.rawN 0x4011 1 - (l.folios + l.inUseF))
      let d := if r.2 then min (min n u.poolD) (s.rawN 0x4011 2 - (l.data + l.inUseD)) else 0
      if n == 0 || (r.2 && d == 0) then s
      else (s.modTill t (fun u => { u with
        loanReqs := dropFirst (· == r) u.loanReqs, lentF := u.lentF + n, lentD := u.lentD + d })).sendP t r.1 (.loan n d)) s

/-! ## Shapers (R351 to R356) -/

/-- Does a shaper gate: ON, or draining as if ON. -/
def Shaper.gates (x : Shaper) : Bool := x.fn.st == .on || x.fn.st == .draining
/-- May a request leave at a shaper (R352). -/
def Shaper.allows (x : Shaper) : Bool := !x.gates || decide (1 ≤ x.credit)
/-- One injected request is charged (R352). -/
def Shaper.charge (x : Shaper) : Shaper := if x.gates then { x with credit := max (-65535) (x.credit - 1) } else x
/-- APPLY, VT, BURST and RATE of a configuration value (R351). -/
def cfgApply (c : Word) : Nat := bits c 63 62
def cfgVt (c : Word) : Bool := bits c 61 61 == 1
def cfgBurst (c : Word) : Nat := bits c 47 32
def cfgRate (c : Word) : Nat := bits c 31 16
/-- Loads C and the configuration as enabling does (R356). -/
def Shaper.load (x : Shaper) : Shaper :=
  { x with rate := cfgRate x.cfg, burst := cfgBurst x.cfg, next := false,
           credit := (if cfgApply x.cfg == 0 then cfgBurst x.cfg else if cfgApply x.cfg == 1 then 0 else cfgRate x.cfg : Nat) }
/-- The refill at a Tick; `idle` is whether nothing beneath the shaper waits (R352, R353, R355). -/
def Shaper.refill (x : Shaper) (idle : Bool) : Shaper :=
  if !x.gates then x else
    let y := if x.next then
        { x with rate := cfgRate x.cfg, burst := cfgBurst x.cfg, next := false, credit := min x.credit (cfgBurst x.cfg : Nat) }
      else x
    let up := y.credit + (y.rate : Nat)
    { y with credit := if cfgVt y.cfg && idle then min (min up (max y.credit (y.rate : Nat))) (y.burst : Nat)
                       else min up (y.burst : Nat) }
/-- What a Tick does to a shaper (R356): enabling completes, then the refill, then a drain with C at 0 or above ends. -/
def Shaper.tick (x : Shaper) (idle : Bool) : Shaper :=
  if x.fn.st == .enabling then
    { x.load with fn := x.fn.enabled.1 }
  else
    let y := x.refill idle
    if y.fn.st == .draining && decide (0 ≤ y.credit) then
      let r := y.fn.drained
      { y with fn := r.1, credit := 0 }
    else y
/-- A configuration value with its reserved fields 0 (R24). -/
def cfgMask (c : Word) : Word := BitVec.ofNat 64 (place (bits c 63 61) 3 61 + place (bits c 47 16) 32 16)
/-- A configuration entry is written (R351, R355). -/
def Shaper.configure (x : Shaper) (c : Word) : Shaper :=
  let y := { x with cfg := cfgMask c }
  if !x.gates then { y with next := false }
  else if cfgApply c == 2 then { y with next := true }
  else { y.load with next := false }
/-- Is a configuration value legal (R351). -/
def cfgLegal (c : Word) : Bool :=
  cfgApply c != 3 && cfgRate c != 0 && cfgBurst c != 0 && decide (cfgRate c ≤ cfgBurst c)

/-- Charges the three shapers of a request. -/
def chargeAll (s : State) (w a c : Nat) : State :=
  ((s.modShaper (.portShaper w) Shaper.charge).modShaper (.subShaper a) Shaper.charge).modShaper (.svcShaper a c) Shaper.charge

/-- Do the three shapers let a request leave (R352). -/
def shapersAllow (s : State) (w a c : Nat) : Bool :=
  (s.shaper (.portShaper w)).allows && (s.shaper (.subShaper a)).allows && (s.shaper (.svcShaper a c)).allows

/-! ## Choosing the request (R347 to R349, R354) -/

/-- Marks the requests that become eligible for the bypass, in the order they do (R129, R349). -/
def markBypass (s : State) (w : Nat) : State :=
  let x := s.wicket w
  let r := x.entries.foldl (fun (m : List Adm × Nat) e =>
    if e.bypass.isNone && !e.held && x.qualifies e.opc e.aid e.till e.laddr
        && !(x.entries.any (fun y => y.aid == e.aid && y.laddr == e.laddr && y.cls == e.cls && decide (y.seq < e.seq))) then
      (m.1 ++ [{ e with bypass := some m.2 }], m.2 + 1)
    else (m.1 ++ [e], m.2)) ([], x.bypassSeq)
  s.modWicket w (fun x => { x with entries := r.1, bypassSeq := r.2 })

/-- May a request be offered: the state of the Wicket, the power-fail warning and R348. -/
def State.mayOffer (s : State) (w : Nat) (e : Adm) : Bool :=
  let x := s.wicket w
  let isPost := match e.origin with | .post _ => true | _ => false
  !e.held && x.fn.st != .enabling && x.fn.st != .failed && !s.fatal && (!s.quiescing || isPost) && !s.inHold
    && (w != Build.ws || match e.opc with
      | .release | .claimX | .claimS | .rsv | .cwr =>
        !(x.entries.any (fun y => y.aid == e.aid && pageOf y.laddr == pageOf e.laddr && decide (y.seq < e.seq)))
      | .rdNc =>
        !(x.entries.any (fun y => y.aid == e.aid && y.laddr == e.laddr && decide (y.seq < e.seq)
          && (match y.origin with | .post _ => true | _ => false)))
      | _ => true)

/-- The requests at the front of their lanes that can leave: offered, with a credit and every shaper allowing it (R347,
R352, R354). -/
def State.offers (s : State) (w : Nat) : List Adm :=
  let x := s.wicket w
  x.entries.filter (fun e =>
    !(x.entries.any (fun y => y.aid == e.aid && y.cls == e.cls && y.till == e.till && !y.held && decide (y.seq < e.seq)))
      && s.mayOffer w e && (x.creditFor e).isSome && shapersAllow s w e.aid.toNat e.cls)

/-- The first number of a list after `last`, cyclically. -/
def nextAfter (last : Nat) (l : List Nat) : Nat := sortBy (fun n => if n > last then n else n + 1024) l |>.headD 0

/-- The request of the bypass that leaves next (R349). -/
def State.pickBypass (s : State) (w : Nat) : Option Adm :=
  let x := s.wicket w
  if s.fatal || x.fn.st == .failed then none else
    (sortBy (fun e => e.bypass.getD 0) (x.entries.filter (fun e =>
      e.bypass.isSome && !e.held
        && (let c := x.cred e.aid.toNat e.till
            enough c.keptF c.keptD e.wdata.isSome)))).head?

/-- The request that the port chooses (R354). -/
def State.pickShaped (s : State) (w : Nat) : Option Adm :=
  let l := s.offers w
  match l with
  | [] => none
  | _ =>
    let a := nextAfter (s.wicket w).lastSub (l.map (·.aid.toNat))
    let la := l.filter (·.aid.toNat == a)
    let c := sortBy (fun n => if n > (s.shape a).lastCls then n else n + 4) (la.map (·.cls)) |>.headD 0
    (sortBy (·.seq) (la.filter (·.cls == c))).head?

/-! ## Injection -/

/-- The delay sample of one request in every DELAY_SAMPLE_PERIOD injections (R357). -/
def delaySample (s : State) (w : Nat) (e : Adm) : State :=
  let p := s.rawN 0x6010 2
  if p == 0 then s else
    let k := (s.wicket w).delayCount + 1
    let s1 := s.modWicket w (fun x => { x with delayCount := k % p })
    if k % p != 0 then s1
    else
      let v := some (s.time.cclk - e.cclk)
      (s1.sample e.aid.toNat 0 (1 + e.cls) v).sample (wicketChan s.build w) 0 0 v

/-- A Q flit enters the Exchange, with its data on D (R319, R321). -/
def sendQ (s : State) (q : QFlit) : State :=
  let s1 := s.packet (.wicket q.w) 0 1 (.till q.till)
  let s2 := if q.wdata.isSome then s1.packet (.wicket q.w) 4 1 (.till q.till) else s1
  { s2 with net := { s2.net with q := s2.net.q ++ [q] } }

/-- A request leaves its admission entry on a credit (R128, R349, R352). -/
def inject (s : State) (w : Nat) (e : Adm) (src : Src) : State :=
  let s1 := s.modWicket w (fun x => { (x.take e src) with entries := x.entries.filter (fun y => y.seq != e.seq) })
  let s2 := chargeAll s1 w e.aid.toNat e.cls
  let s3 := if src == .kept then (s2.bump ⟨0x6000 + w, 9, 64⟩).gev 0x103 w else s2
  let s4 := delaySample s3 w e
  let s5 := sendQ s4 { w := w, till := e.till, opc := e.opc, aid := e.aid, inc := e.inc, tag := e.tag, laddr := e.laddr
                       strm := e.strm, param := e.param, crd := src, bgen := e.bgen, rgen := e.rgen, rcpt := e.rcpt.getD 0
                       cls := e.cls, wdata := e.wdata, origin := e.origin, epoch := e.epoch }
  let s6 := if e.origin == .agent then regrantAll s5 w e.aid.toNat else s5
  askLoans (markBypass s6 w) w

/-- One decision of the port: the bypass first, then the shaped requests (R349, R354). -/
def portDecides (s : State) (w : Nat) : State :=
  match s.pickBypass w with
  | some e => inject s w e .kept
  | none =>
    match s.pickShaped w with
    | none => askLoans s w
    | some e =>
      match (s.wicket w).creditFor e with
      | none => s
      | some src =>
        let s1 := s.modWicket w (fun x => { x with lastSub := e.aid.toNat })
        inject (s1.modShape e.aid.toNat (fun x => { x with lastCls := e.cls })) w e src

/-- REQUEST_INJECTION: `dt` CCLK after the last command, the port makes one decision (R354). -/
def execRequestInjection (w dt : Nat) (s : State) : Host.Outcome State Fault Refusal :=
  if !s.build.hasWicket w then .fault .unbuiltPart else .next (portDecides (advance s dt) w)

end Sys2Proof.Machine
end

