-- ==== Sys2Proof/Machine/Death.lean ====
section
/-! DEFINITION. The death of an agent, Grace and link resets (R229 to R232, R287, R291 to R299, R305). -/

namespace Sys2Proof.Machine

/-! ## Foreclosed responses (R232) -/

/-- The lines of a snoop for which its Till has had no response: undone, or held behind a writeback (R79). -/
def Wicket.openLines (x : Wicket) (sid : Nat) (p : Snoop) : List Nat :=
  [0, 1, 2, 3].filter (fun i => p.undone.contains i
    || x.heldRsp.any (fun h => h.r.sid.toNat == sid && (covered h.r.low.toNat h.r.blk.toNat).contains i))

/-- A Wicket answers a snoop itself. -/
def forecloseSnoop (s : State) (w t f : Nat) (a : Aid) (l : Line) (lines : List Nat) : State :=
  s.sendW w t (.foreclosed f a l lines)

/-- Snoops that waited for a SID take the SIDs that are free (R84). A snoop to an agent in Grace is held. -/
def takeSids : Nat → State → Nat → State
  | 0, s, _ => s
  | n + 1, s, w =>
    match (s.wicket w).sWait, KV.lowest (s.wicket w).sids 4096 with
    | q :: rest, some sid =>
      let grace := (s.agent q.aid.toNat).grace
      let p : Snoop := { till := q.till, folio := q.folio, opc := q.opc, aid := q.aid, laddr := q.laddr, blk := q.blk
                         undone := covered (lineIx q.laddr) q.blk, startTick := s.time.tick
                         timeout := s.rawN 0x2080 1, heldOut := grace, resent := false }
      let s1 := s.modWicket w (fun x => { x with sWait := rest, sids := KV.put x.sids sid p, dups := KV.del x.dups sid })
      let s2 := if grace then s1 else s1.send (.snp w q.opc q.aid (s.agent q.aid.toNat).inc sid q.laddr q.blk)
      takeSids n s2 w
    | _, _ => s

/-- A SID frees, and snoops that wait for one take it (R84). The lines of a resent snoop are remembered (R230). -/
def freeSid (s : State) (w sid : Nat) : State :=
  let s1 := match KV.find? (s.wicket w).sids sid with
    | some p => s.modWicket w (fun x => { x with
        sids := KV.del x.sids sid
        dups := if p.resent then KV.put x.dups sid (p.aid, covered (lineIx p.laddr) p.blk) else x.dups })
    | none => s
  takeSids (s1.wicket w).sWait.length s1 w

/-- The Wicket answers every snoop to a dead agent (R232). -/
def answerSnoops (s : State) (w : Nat) (a : Aid) : State :=
  let x := s.wicket w
  let mine := List.filter (fun p => p.2.aid == a) x.sids
  let s1 := mine.foldl (fun s p => forecloseSnoop s w p.2.till p.2.folio a p.2.laddr (x.openLines p.1 p.2)) s
  let s2 := (x.sWait.filter (·.aid == a)).foldl (fun s q =>
    forecloseSnoop s w q.till q.folio a q.laddr (covered (lineIx q.laddr) q.blk)) s1
  let s3 := s2.modWicket w (fun x => { x with
    sids := List.filter (fun p => p.2.aid != a) x.sids, sWait := x.sWait.filter (·.aid != a)
    heldRsp := x.heldRsp.filter (fun h => h.r.aid != a) })
  takeSids (s3.wicket w).sWait.length s3 w

/-! ## Death (R296, R297) -/

/-- What the Wicket and WS drop (R265, R268, R296). -/
def dropAtWicket (s : State) (w : Nat) (a : Aid) : State :=
  let n := a.toNat
  let held := (s.wicket w).creds.filter (fun p => p.1 / 32 == n)
  let s1 := held.foldl (fun s p => s.modTill (p.1 % 32) (fun u => { u with escrow := KV.mod u.escrow n (fun c =>
    { c with xFolios := c.xFolios + p.2.folios + p.2.keptF, xData := c.xData + p.2.data + p.2.keptD }) })) s
  let s2 := s1.modWicket w (fun x => { x with
    entries := x.entries.filter (·.aid != a), wbs := x.wbs.filter (·.aid != a)
    heldCmp := x.heldCmp.filter (·.aid != a), heldData := x.heldData.filter (fun d => d.d.aid != a)
    graceOut := x.graceOut.filter (fun p => p.1 != a)
    creds := List.filter (fun p => p.1 / 32 != n) x.creds, entCred := KV.del x.entCred n })
  if w != Build.ws then s2 else
    pumpAll { s2 with ws := { s2.ws with
      post := List.filter (fun p => p.2.aid != a) s2.ws.post, agents := KV.del s2.ws.agents n
      handles := List.filter (fun p => p.2.aid != a) s2.ws.handles
      handleWait := s2.ws.handleWait.filter (fun p => p.2.aid != a)
      mirror := s2.ws.mirror.filter (fun p => p.1 != a) } }

/-- What the Tills do with the dead agent's Folios, Claims and monitors (R257, R262, R297). -/
def dropAtTills (s : State) (a : Aid) : State :=
  s.build.tillList.foldl (fun s t =>
    let s1 := endClaims s t a
    let s2 := clearMons s1 t (fun m => m.aid == a) false
    ((s2.till t).folios.filter (fun p => p.2.aid == a && p.2.opc != .internal)).foldl (fun s p => disposeFolio s t p.1) s2) s

/-- The vault sets of every active Till, each to be visited once, and the Cellar groups (R290, R300). -/
def walkAll (s : State) (a : Aid) : WalkAgent :=
  { aid := a
    vaultLeft := (s.build.tillList.filter (fun t => (s.till t).role == .active || (s.till t).role == .source)).map
      (fun t => (t, 16 * 2048))
    groupsLeft := if s.cellarState == 2 then 4096 * s.groupCount else 0 }

/-- An agent is declared dead with a cause (R291, R296). -/
def declareDead (s : State) (a : Aid) (cause : Nat) : State :=
  let n := a.toNat
  let ag := s.agent n
  if !(s.serving n) then s else
    let w := ag.wicket.toNat
    let s1 := s.setAgent n { ag with
      state := .foreclosing, cause := BitVec.ofNat 4 cause, deadMark := true, grace := false, resetSeen := decide (cause = 6)
      foreCount := ag.foreCount + 1, windowCount := if ag.windowCount == 15 then 15 else ag.windowCount + 1
      deathTick := some s.time.tick }
    let s2 := s1.note .agentDead (.wicket w) [n, ag.inc.toNat, cause, 0] (some a)
    let s3 := s2.bump ⟨0x2080, 8, 32⟩
    let s4 := answerSnoops s3 w a
    let s5 := (s4.send (.bind w false a 0))
    let s6 := dropAtTills (dropAtWicket s5 w a) a
    let au := { s6.au with leave := s6.au.leave.filter (·.aid != a) }
    { s6 with au := if ag.kind == 0 then { au with fore := au.fore ++ [walkAll s6 a] } else au }

/-- A protocol error (R93). -/
def protocolError (s : State) (w : Nat) (a : Aid) (arg : Nat) : State :=
  declareDead ((s.bump ⟨0x2020, 3, 32⟩).note .protocolError (.wicket w) [arg] (some a)) a 4

/-- A link reset of a Wicket (R305, R343): no further effect while the agents of an earlier one are Foreclosing. -/
def linkReset (s : State) (w : Nat) : State :=
  let x := s.wicket w
  if x.resetting.any (fun a => (s.agent a.toNat).state == .foreclosing) then s else
    let l := (s.bound w).map (BitVec.ofNat 10)
    let s1 := s.modWicket w (fun x => { x with resetting := l })
    returnLoans (l.foldl (fun s a => declareDead s a 5) s1) w

/-- Does a link reset pause admission (R305). -/
def State.paused (s : State) (w : Nat) : Bool :=
  (s.wicket w).resetting.any (fun a => (s.agent a.toNat).state == .foreclosing)

/-! ## Grace (R292, R295) -/

/-- A link-down report for an agent in service (R284, R291, R292). -/
def startGrace (s : State) (a : Aid) : State :=
  let n := a.toNat
  if (s.agent n).kind == 2 then declareDead s a 6
  else if s.rawN 0x2080 0 == 0 then declareDead s a 1
  else s.modAgent n (fun g => { g with grace := true, graceStart := s.time.tick, graceLen := s.rawN 0x2080 0 })

/-- Readmission (R229, R295): bind again, the held messages, and the outstanding snoops sent again with their SIDs. -/
def readmit (s : State) (a : Aid) : State :=
  let n := a.toNat
  let ag := s.agent n
  let w := ag.wicket.toNat
  let s1 := (s.setAgent n { ag with grace := false }).send (.bind w true a ag.inc)
  let s2 := ((s.wicket w).graceOut.filter (fun p => p.1 == a)).foldl (fun s p => s.send p.2) s1
  let snp := List.filter (fun p => p.2.aid == a) (s.wicket w).sids
  let s3 := snp.foldl (fun s p => s.send (.snp w p.2.opc a ag.inc p.1 p.2.laddr p.2.blk)) s2
  let s4 := s3.modWicket w (fun x => { x with
    graceOut := x.graceOut.filter (fun p => p.1 != a)
    sids := x.sids.map (fun p => if p.2.aid == a then
      (p.1, { p.2 with resent := !p.2.heldOut, heldOut := false, startTick := s.time.tick, timeout := s.rawN 0x2080 1 }) else p) })
  (s4.note .agentReadmitted (.wicket w) [n] (some a)).bump ⟨0x2080, 0xA, 32⟩

/-- A link-up report within Grace (R295). -/
def linkBack (s : State) (a : Aid) (resetSeen : Bool) (identity : Word) : State :=
  let ag := s.agent a.toNat
  if resetSeen then declareDead s a 6
  else if identity != ag.identity then declareDead s a 7
  else if !ag.readmit then declareDead s a 8
  else readmit s a

end Sys2Proof.Machine
end

