-- ==== Sys2Proof/Machine/Life.lean ====
section
/-! DEFINITION. The life of an agent: joins, leaves, the end of a foreclosure, Grace and its timers, link reports (R279 to
R305), escrow and tenant writes (R127, R165) and the slot block (R309, R310). -/

namespace Sys2Proof.Machine

/-! ## Joining (R284 to R286) -/

/-- Is a configuration valid (R284). -/
def State.cfgValid (s : State) (a : Agent) : Bool :=
  (a.kind == 2 && a.wicket.toNat == Build.ws) || ((a.kind == 0 || a.kind == 1) && decide (a.wicket.toNat < s.build.wickets))

/-- The answer to a JOIN for an Absent entry (R284): 0 OK, 1 BUSY, 2 DENIED, 3 INVALID. -/
def joinResult (s : State) (n : Nat) : Nat :=
  let a := s.agent n
  if s.fuses.lifecycle == 3 then 2
  else if s.global == 1 then 1
  else if !s.cfgValid a then 3
  else if (s.wicket a.wicket.toNat).fn.st != .on then 1 else 0

/-- The Tills that commit escrow: active and spare ones, and both ends of a transfer (R135). -/
def State.joinTills (s : State) : List Nat :=
  s.build.tillList.filter (fun t => match (s.till t).role with
    | .active | .spare | .source | .destination => true | _ => false)

/-- The Tills commit the agent's escrow as their pools allow, once no Folio of the earlier incarnation is open (R135,
R136, R285). -/
def joinProgress (s : State) (n : Nat) : State :=
  if (s.agent n).state != .joining || s.foliosOpen n != 0 then s else
    s.joinTills.foldl (fun s t =>
      let a := s.agent n
      let u := s.till t
      if a.committed.contains t || u.poolF < a.escrowF || u.poolD < a.escrowD then s
      else (s.modTill t (fun u => { u with escrow := KV.put u.escrow n { folios := a.escrowF, data := a.escrowD } })).modAgent n
        (fun a => { a with committed := a.committed ++ [t] })) s

/-- The entry enters Joining with the escrow in force now (R127, R135). -/
def startJoin (s : State) (n : Nat) : State :=
  joinProgress (s.setAgent n { s.agent n with
    state := .joining, escrowF := s.escrowF n, escrowD := s.escrowD n, committed := [] }) n

/-- Every Till's commitment to the agent goes back to its pool (R135). -/
def releaseEscrow (s : State) (n : Nat) : State :=
  { s with tills := s.tills.map (fun u => { u with escrow := KV.del u.escrow n }) }

/-- A join is cancelled: escrow released, INC unchanged (R284). -/
def cancelJoin (s : State) (n : Nat) : State :=
  releaseEscrow (s.modAgent n (fun a => { a with state := .absent, committed := [] })) n

/-- Have all Tills committed the agent's escrow. -/
def State.joined (s : State) (n : Nat) : Bool :=
  (s.agent n).state == .joining && s.joinTills.all (s.agent n).committed.contains

/-- The credits an agent starts with at a Till: its escrow, of which one Folio and one data credit are kept (R125,
R128, R135). -/
def startCred (f d : Nat) : Cred := { folios := f - 1, data := d - 1, keptF := min 1 f, keptD := min 1 d }

/-- Steps 3 to 5 of R285: identity, bind, Active, record; the agent's ON shapers load (R356). -/
def finishJoin (s : State) (n : Nat) : State :=
  let a := s.agent n
  let w := a.wicket.toNat
  let aid : Aid := BitVec.ofNat 10 n
  let s1 := s.setAgent n { a with state := .active, identity := a.remembered, committed := [] }
  let s2 := s1.modWicket w (fun x => { x with
    creds := s1.joinTills.foldl (fun m t => KV.put m (ckey n t) (startCred a.escrowF a.escrowD)) x.creds
    entCred := KV.del x.entCred n })
  let s3 := { s2 with ws := { s2.ws with agents := KV.del s2.ws.agents n } }
  let s4 := (s3.modShaper (.subShaper n) (fun x => if x.fn.st == .on then x.load else x)).modShape n (fun g =>
    { g with svc := g.svc.map (fun x => if x.fn.st == .on then x.load else x) })
  let s5 := ((s4.send (.bind w true aid a.inc)).note .agentJoined (.wicket w) [n, a.inc.toNat] (some aid))
  regrant s5 w n

/-- AGENT_JOINED: the join ends if every wait of R285 is over. -/
def execAgentJoined (n : Nat) (s : State) : Host.Outcome State Fault Refusal :=
  let s1 := joinProgress s n
  .next (if s1.joined n then finishJoin s1 n else s1)

/-- A join that the Home starts itself, if a JOIN would be answered OK (R286). -/
def autoJoin (s : State) (n : Nat) : State :=
  if (s.agent n).state == .absent && (s.agent n).autoRejoin && joinResult s n == 0 then startJoin s n else s

/-! ## Leaving (R289) -/

/-- LEAVE of an Active agent: what follows by its kind (R289). -/
def startLeave (s : State) (n : Nat) : State :=
  let aid : Aid := BitVec.ofNat 10 n
  let s1 := s.modAgent n (fun a => { a with state := .leaving })
  match (s.agent n).kind.toNat with
  | 2 =>
    let s2 := drainWhere s1 (fun p => p.aid == aid)
    let s3 := s2.build.tillList.foldl (fun s t => clearMons (endClaims s t aid) t (fun m => m.aid == aid) false) s2
    { s3 with ws := { s3.ws with mirror := s3.ws.mirror.filter (fun p => p.1 != aid) } }
  | 0 => { s1 with au := { s1.au with leave := s1.au.leave ++ [walkAll s1 aid] } }
  | _ => s1

/-- May a Till's Vault be walked: it is active, or the source of a transfer (R290, R300). -/
def State.walked (s : State) (t : Nat) : Bool := (s.till t).role == .active || (s.till t).role == .source

/-- Has a walk covered an agent: every set and group visited, and no sector of the walk's in progress (R290, R300). -/
def State.covered (s : State) (l : List WalkAgent) (a : Aid) (kind : SecKind) : Bool :=
  l.all (fun x => x.aid != a || (x.vaultLeft.all (fun p => p.2 == 0 || !s.walked p.1)
    && (x.groupsLeft == 0 || s.cellarState != 2)))
    && (!(l.any (·.aid == a)) || s.tills.all (fun u => !(u.secOps.any (fun p => p.2.kind == kind))
          && !(u.groups.any (fun g => g.kind == .scan (kind == .leave)))))

/-- Is a message of the agent, or about it, still on the Exchange or due at a Till. -/
def State.inFlight (s : State) (a : Aid) : Bool :=
  s.net.q.any (·.aid == a) || s.net.s.any (·.aid == a)
    || s.net.p.any (fun x => match x.2.2 with
        | .cmp _ b _ _ _ _ _ _ _ _ => b == a | .chained b _ _ => b == a | .credit _ b _ _ _ _ => b == a | _ => false)
    || s.net.d.any (fun x => x.2.2.aid == a)
    || s.net.pw.any (fun x => match x.2.2 with | .foreclosed _ b _ _ => b == a | _ => false)
    || s.tills.any (fun u => u.folios.any (fun p => p.2.due.any (fun q => q.1 == a)))

/-- The agent's counts and entry credits go at its Wicket. -/
def dropCreds (s : State) (w n : Nat) : State :=
  s.modWicket w (fun x => { x with
    creds := List.filter (fun p => p.1 / 32 != n) x.creds, entCred := KV.del x.entCred n })

/-- Do the conditions of R289 for the end of a leave hold. -/
def State.hasLeft (s : State) (n : Nat) : Bool :=
  let aid : Aid := BitVec.ofNat 10 n
  let x := s.wicket (s.agent n).wicket.toNat
  (s.agent n).state == .leaving && s.covered s.au.leave aid .leave && !(x.entries.any (·.aid == aid))
    && !(s.ws.post.any (fun p => p.2.aid == aid)) && s.foliosOpen n == 0
    && !(x.sids.any (fun p => p.2.aid == aid)) && !(x.sWait.any (·.aid == aid)) && !s.inFlight aid

/-- The leave ends (R288, R289). -/
def finishLeave (s : State) (n : Nat) : State :=
  let a := s.agent n
  let w := a.wicket.toNat
  let aid : Aid := BitVec.ofNat 10 n
  let s1 := s.setAgent n { a with state := .absent, inc := a.inc + 1, grace := false }
  let s2 := { releaseEscrow (dropCreds s1 w n) n with
    au := { s1.au with leave := s1.au.leave.filter (·.aid != aid) }
    ws := { s1.ws with agents := KV.del s1.ws.agents n } }
  (s2.send (.bind w false aid a.inc)).note .agentLeft (.wicket w) [n, a.inc.toNat] (some aid)

/-- AGENT_LEFT (R289). -/
def execAgentLeft (n : Nat) (s : State) : Host.Outcome State Fault Refusal :=
  .next (if s.hasLeft n then finishLeave s n else s)

/-! ## The end of a foreclosure (R301, R302) -/

/-- Do the three conditions of R301 hold. -/
def State.foreclosed (s : State) (n : Nat) : Bool :=
  let aid : Aid := BitVec.ofNat 10 n
  (s.agent n).state == .foreclosing && s.covered s.au.fore aid .foreclose && s.foliosOpen n == 0 && !s.inFlight aid

/-- A Wicket that FAILED goes to OFF when every agent bound to it has left Foreclosing (R342). -/
def recoverWicket (s : State) (w : Nat) : State :=
  if (s.wicket w).fn.st == .failed && !s.paused w then
    s.modWicket w (fun x => { x with fn := ⟨.off, false, false, x.fn.last⟩, resetting := [] })
  else s

/-- The foreclosure completes. -/
def finishForeclosure (s : State) (n : Nat) : State :=
  let a := s.agent n
  let w := a.wicket.toNat
  let aid : Aid := BitVec.ofNat 10 n
  let bad := a.cause == 4 || decide (s.rawN 0x2080 4 ≤ a.windowCount.toNat)
  let took := s.time.tick - a.deathTick.getD s.time.tick
  let s1 := s.setAgent n { a with
    state := if bad then .quarantined else .absent, inc := a.inc + 1, deadMark := false }
  let s2 := { releaseEscrow s1 n with au := { s1.au with fore := s1.au.fore.filter (·.aid != aid) } }
  let s3 := (s2.note .foreclosureDone .au [n, a.inc.toNat, a.cause.toNat, took] (some aid)).bumpMax ⟨0x2080, 0xB, 32⟩ took
  let s4 := if bad then s3.note .agentQuarantined .au [n, a.inc.toNat, a.cause.toNat, a.windowCount.toNat] (some aid) else s3
  let s5 := recoverWicket s4 w
  if a.link && a.resetSeen then autoJoin s5 n else s5

/-! ## AGENT_CMD (R283, R284) -/

/-- Sets AGENT_RESULT. -/
def result (s : State) (n r : Nat) : State := s.modAgent n (fun a => { a with result := r })

/-- AGENT_CMD (R283, R284). -/
def agentCmd (s : State) (n v : Nat) : State :=
  let st := (s.agent n).state
  match v with
  | 1 =>
    (match st with
     | .absent =>
       let r := joinResult s n
       if r == 0 then startJoin (result s n 0) n else result s n r
     | .joining | .active => result s n 0
     | .leaving | .foreclosing => result s n 1
     | .quarantined => result s n 2)
  | 2 =>
    (match st with
     | .joining => cancelJoin (result s n 0) n
     | .active => startLeave (result s n 0) n
     | _ => result s n 0)
  | 3 =>
    (match st with
     | .joining => cancelJoin (result s n 0) n
     | .active | .leaving => declareDead (result s n 0) (BitVec.ofNat 10 n) 3
     | _ => result s n 0)
  | 4 =>
    if st == .quarantined then (result s n 0).modAgent n (fun a => { a with state := .absent }) else result s n 3
  | _ => result s n 3

/-- AGENT_CFG (R280): only while Absent; the reserved field is ignored (R24). -/
def cfgWrite (s : State) (n : Nat) (v : BitVec 32) : State × Bool :=
  let a := s.agent n
  if a.state != .absent then (result s n 1, false)
  else (s.setAgent n { a with
    kind := BitVec.ofNat 2 (bits v 31 30), wicket := BitVec.ofNat 4 (bits v 29 26), strm := bits v 25 25 == 1
    readmit := bits v 24 24 == 1, autoRejoin := bits v 23 23 == 1 }, true)

/-! ## Link reports (R284, R292, R295) -/

/-- PRESENT of a Wicket's slot (R309): the link of an agent configured on it is up. -/
def State.presence (s : State) (w : Nat) : Bool :=
  s.agents.any (fun p => p.2.link && p.2.wicket.toNat == w && p.2.kind != 2)

/-- Sets PRESENCE_CHANGED where PRESENT differs from before (R309). -/
def presenceNote (before s : State) (w : Nat) : State :=
  if w < s.build.wickets && before.presence w != s.presence w then
    s.setRawN (0xC800 + w) 0 (s.rawN (0xC800 + w) 0 ||| 8) else s

/-- A link-down report. -/
def linkDown (s : State) (a : Aid) : State :=
  let n := a.toNat
  let s1 := s.modAgent n (fun g => { g with link := false })
  match (s.agent n).state with
  | .joining => cancelJoin s1 n
  | .active | .leaving => if (s.agent n).grace then s1 else startGrace s1 a
  | _ => s1

/-- A link-up report (R284, R286, R295). -/
def linkUp (s : State) (a : Aid) (resetSeen : Bool) (identity : Word) : State :=
  let n := a.toNat
  let s1 := s.modAgent n (fun g => { g with link := true, remembered := identity })
  match (s.agent n).state with
  | .absent => if resetSeen then autoJoin (s1.modAgent n (fun g => { g with resetSeen := true })) n else s1
  | .active | .leaving =>
    if (s.agent n).grace then linkBack s1 a resetSeen identity
    else if resetSeen then declareDead s1 a 6 else s1
  | .foreclosing | .quarantined => s1.modAgent n (fun g => { g with resetSeen := g.resetSeen || resetSeen })
  | .joining => s1

/-- A reported reset of an agent (R284, R291). -/
def agentReset (s : State) (a : Aid) : State :=
  let n := a.toNat
  match (s.agent n).state with
  | .joining => cancelJoin s n
  | .active | .leaving => declareDead s a 6
  | _ => s.modAgent n (fun g => { g with resetSeen := true })

/-- Does a report of the port logic of Wicket `w` concern the agent: it is bound there. -/
def State.homed (s : State) (w : Nat) (a : Aid) : Bool := (s.agent a.toNat).wicket.toNat == w

/-! ## Timers (R292, R293, R302) -/

/-- GRACE: the Grace timer of an agent expires if it is due (R292); in Hold it expires after the exit (R427). -/
def execGrace (n : Nat) (s : State) : Host.Outcome State Fault Refusal :=
  let a := s.agent n
  .next (if a.grace && s.due a.graceStart a.graceLen && !s.inHold then declareDead s (BitVec.ofNat 10 n) 1 else s)

/-- SNOOP_TIMEOUT: a snoop reaches its timeout while its agent's link is up (R231, R293). -/
def execSnoopTimeout (w sid : Nat) (s : State) : Host.Outcome State Fault Refusal :=
  if !s.build.hasWicket w then .fault .unbuiltPart else
    .next (match KV.find? (s.wicket w).sids sid with
      | some p =>
        if !p.heldOut && !(s.agent p.aid.toNat).grace && s.due p.startTick p.timeout then declareDead s p.aid 2 else s
      | none => s)

/-- QUARANTINE_WINDOW: the count returns to 0 if the period has passed (R302). -/
def execQuarantineWindow (n : Nat) (s : State) : Host.Outcome State Fault Refusal :=
  let a := s.agent n
  .next (if a.state != .foreclosing && (a.deathTick.map (fun k => s.due k (s.rawN 0x2080 5))).getD false then
    s.setAgent n { a with windowCount := 0, deathTick := none } else s)

/-! ## Escrow and tenant lists (R127, R165) -/

/-- Is a value in the legal range of an escrow entry: 0 selects the default for an agent (R126). -/
def escrowRange (agentEntry data : Bool) (v : Nat) : Bool :=
  (agentEntry && v == 0) || (decide (2 ≤ v) && decide (v ≤ if data then 64 else 1024))

/-- A write of an escrow entry or default (R127): refused where it is out of range or the sums would be exceeded. -/
def escrowWrite (s : State) (i j v : Nat) : State × Bool :=
  let n := i - 0x4400
  let agentEntry := i != 0x4010
  let s1 := if !agentEntry then s.setRawN i j v
    else if j == 0 then s.modAgent n (fun a => { a with folioEscrow := BitVec.ofNat 16 v })
    else s.modAgent n (fun a => { a with dataEscrow := BitVec.ofNat 16 v })
  let sums := s1.escrowSums
  if !(escrowRange agentEntry (j == 1) v) || 16128 < sums.1 || 6080 < sums.2 then (s.setRawN 0x4010 4 3, false)
  else (s1.setRawN 0x4010 4 0, true)

/-- A write of one slice of a tenant list (R165): refused BUSY where it removes a member that is not Absent or has an
open Folio. -/
def tenantWrite (s : State) (t i : Nat) (v : Word) : State × Bool :=
  let old := s.rawN (0x2040 + t) i
  let gone := (List.range 64).filter (fun b => old / 2 ^ b % 2 == 1 && v.toNat / 2 ^ b % 2 == 0)
  if gone.any (fun b => (s.agent (64 * i + b)).state != .absent || s.foliosOpen (64 * i + b) != 0) then (s, false)
  else (s.setRaw (0x2040 + t) i v, true)

/-! ## The slot block (R309, R310) -/

/-- SLOT_STATUS (R309). -/
def State.slotStatus (s : State) (w : Nat) : Nat :=
  let f := (s.wicket w).fn.st
  s.rawN (0xC800 + w) 0 % 32 / 8 * 8 + place (bit (s.presence w)) 1 2 + place (bit (f == .on)) 1 1
    + place (bit (f == .enabling || f == .draining)) 1 0

/-- SLOT_ATTENTION: the attention button is pressed (R309, R310). -/
def execSlotAttention (w : Nat) (s : State) : Host.Outcome State Fault Refusal :=
  if s.build.wickets ≤ w then .fault .unbuiltPart else
    let s1 := (s.setRawN (0xC800 + w) 0 (s.rawN (0xC800 + w) 0 ||| 16)).note .slotAttention (.wicket w) [w]
    let l := List.filter (fun p => p.2.wicket.toNat == w && p.2.state == .active) s1.agents
    .next (if s1.rawN (0xC800 + w) 1 / 2 ^ 7 % 2 == 1 then l.foldl (fun s p => agentCmd s p.1 2) s1 else s1)

end Sys2Proof.Machine
end

