-- ==== Sys2Proof/Machine/Integrity.lean ====
section
/-! DEFINITION. Errors in a Till's stores: correction and counting, page rebuilds, lost entries and their resolution, row
retirement and scrubbing (R366 to R377). -/

namespace Sys2Proof.Machine

/-- Does a Till's pipeline run: it is built and not OFF, FAILED, in Till reset or halted (R384, R393, R479). -/
def State.alive (s : State) (t : Nat) : Bool :=
  let u := s.till t
  s.build.hasTill t && u.fn.st != .off && u.fn.st != .enabling && u.fn.st != .failed && u.role != .reset
    && u.halted.isNone && !s.fatal && !s.inHold

/-- A debug halt ends for a cause other than TILL_RESUME (R479): 1 lowered level, 2 HALT_MAX_TICKS, 3 transfer
destination, 4 failure. The messages that waited are processed with the Till's next work. -/
def endHalt (s : State) (t cause : Nat) : State :=
  if (s.till t).halted.isNone then s
  else (s.modTill t (fun u => { u with halted := none })).note .debugHaltEnded .ch [t, cause]

/-! ## Correctable errors (R374) -/

/-- Orders the retirement of a row (R375). -/
def orderRetire (s : State) (t bank row : Nat) : State :=
  if s.au.retire.contains (t, bank, row) then s
  else { s with au := { s.au with retire := s.au.retire ++ [(t, bank, row)] } }

/-- The entry of CE_TABLE that a new location takes: a free one, else the one with COUNT 1 and the oldest FIRST_TICK. -/
def ceSlot (u : Till) : Option Nat :=
  match KV.lowest u.ce 32 with
  | some i => some i
  | none => ((sortBy (fun p => p.2.firstTick) (List.filter (fun p => p.2.count == 1) u.ce)).head?).map (·.1)

/-- A correctable error at a location: store, bank and row of R374. -/
def correctable (s : State) (t store bank row : Nat) : State :=
  let s1 := s.bump ⟨0x3030 + 0x80 * t, if store ≤ 1 then 0 else 1, 64⟩
  let now := s.time.tick % 2 ^ 32
  let full := fun (s : State) (n : Nat) => if store ≤ 1 && s.rawN 0x7000 5 ≤ n then orderRetire s t bank row else s
  match List.find? (fun p => p.2.store == store && p.2.bank == bank && p.2.row == row) (s.till t).ce with
  | some (i, e) =>
    let old := decide (s.rawN 0x7000 6 < (now + 2 ^ 32 - e.firstTick) % 2 ^ 32)
    let e1 : CeEntry := if old then { e with count := 1, firstTick := now } else { e with count := min 255 (e.count + 1) }
    full (s1.modTill t (fun u => { u with ce := KV.put u.ce i e1 })) e1.count
  | none =>
    match ceSlot (s.till t) with
    | some i => full (s1.modTill t (fun u => { u with ce := KV.put u.ce i ⟨store, bank, row, 1, now⟩ })) 1
    | none => s1.bump ⟨0x3030 + 0x80 * t, 4, 32⟩

/-! ## Page rebuild (R369) -/

/-- Key of entry `e` of page `j` of a bank: set 4j + e / 16, way e mod 16 (R367). -/
def pageKey (bank j e : Nat) : Nat := vkey bank (4 * j + e / 16) (e % 16)

/-- Is the way's stored word uncorrectable. -/
def Till.bad (u : Till) (k : Nat) : Bool := (decVault (u.vraw k)).1 == .bad
/-- Has the way's stored word a correctable error. -/
def Till.flawed (u : Till) (k : Nat) : Bool := (decVault (u.vraw k)).1 == .corrected

/-- The XOR and the weighted sum of the readable entries of a page (R368). -/
def pageSums (u : Till) (bank j : Nat) (skip : List Nat) : VBits × VBits :=
  ((List.range 64).filter (fun e => !skip.contains e && u.vraw (pageKey bank j e) != 0)).foldl
    (fun m e =>
      let v := eccFix (u.vraw (pageKey bank j e))
      (m.1 ^^^ v, m.2 ^^^ symMul (gfPow e) v)) (0, 0)

/-- The values of at most two erased entries, from the parity of the page and the other entries (R368). -/
def recover (u : Till) (bank j : Nat) (lost : List Nat) : List (Nat × VBits) :=
  let p := KV.get u.parity (pageKey bank j 0 / 64) (0, 0)
  let m := pageSums u bank j lost
  let s0 := p.1 ^^^ m.1
  let s1 := p.2 ^^^ m.2
  match lost with
  | [a] => [(a, s0)]
  | [a, b] =>
    let wa := gfPow a
    let db := symMul (gfInv (wa ^^^ gfPow b)) (s1 ^^^ symMul wa s0)
    [(a, s0 ^^^ db), (b, db)]
  | _ => []

/-- Writes stored bits without a parity update. -/
def Till.vforce (u : Till) (k : Nat) (v : VBits) : Till := { u with vault := KV.set u.vault k v 0 }

/-- Recomputes the parity of a page from its entries (R369, R370). -/
def Till.reparity (u : Till) (bank j : Nat) : Till :=
  { u with parity := KV.set u.parity (pageKey bank j 0 / 64) (pageSums u bank j []) (0, 0) }

/-- Enters a bank and set in the resolution table (R370); a full table fails the Till (R373). -/
def enterSet (s : State) (t bank set : Nat) : State :=
  if (s.till t).resolve.any (fun y => !y.2.cellar && y.2.bank == bank && y.2.set == set) then
    s.modTill t (fun u => { u with resolve := u.resolve.map (fun y =>
      if !y.2.cellar && y.2.bank == bank && y.2.set == set then (y.1, { y.2 with cursor := 0 }) else y) })
  else
    match KV.lowest (s.till t).resolve 64 with
    | some i => s.modTill t (fun u => { u with resolve := KV.put u.resolve i ⟨false, bank, set, 0, 0, 0⟩ })
    | none => s.modTill t (fun u => { u with failDue := u.failDue.orElse fun _ => some 4 })

/-- The Folios that looked the set up before a loss repeat their lookup (R370). -/
def relook (s : State) (t bank set : Nat) : State :=
  s.modTill t (fun u => { u with folios := u.folios.map (fun p =>
    let x := p.2
    if x.job == .request && x.head && !x.sent && !x.applied && bankOf (sectorOf x.laddr) == bank
        && setOf (sectorOf x.laddr) == set && (x.looked || x.way.isSome || x.phase == .blocked) then
      (p.1, { x with
        phase := if x.phase == .snoop then .snoop else .lookup, looked := false, way := none, waits := false, consulted := false })
    else p) })

/-- One entry is lost: its way is empty, and its set is resolved (R370). -/
def loseEntry (s : State) (t bank set : Nat) : State :=
  let s1 := (s.note .vaultEntryLost (.till t) [bank, set]).bump ⟨0x3030 + 0x80 * t, 3, 32⟩
  relook (enterSet s1 t bank set) t bank set

/-- Rebuilds page `j` of a bank if any of its entries is erased (R369). -/
def rebuildPage (s : State) (t bank j : Nat) : State :=
  let u := s.till t
  let lost := (List.range 64).filter (fun e => u.bad (pageKey bank j e))
  if lost.isEmpty then s
  else
    let got := recover u bank j lost
    let s1 := if !got.isEmpty && got.all (fun p => (decVault p.2).1 == .good) then
        ((s.modTill t (fun u => got.foldl (fun u p => u.vforce (pageKey bank j p.1) p.2) u)).bump
          ⟨0x3030 + 0x80 * t, 2, 32⟩).note .pageRebuilt (.till t) [bank, j]
      else
        lost.foldl (fun s e => loseEntry s t bank (4 * j + e / 16))
          (s.modTill t (fun u => (lost.foldl (fun u e => u.vforce (pageKey bank j e) 0) u).reparity bank j))
    lost.foldl (fun s e => orderRetire s t bank (4 * j + e / 16)) s1

/-- Reads a set: each correctable error is counted, and a page with an erased entry is rebuilt (R366). -/
def readSet (s : State) (t bank set : Nat) : State :=
  let u := s.till t
  let s1 := ((List.range 16).filter (fun w => u.flawed (vkey bank set w))).foldl
    (fun s _ => correctable s t 0 bank set) s
  if (List.range 16).any (fun w => u.bad (vkey bank set w)) then rebuildPage s1 t bank (set / 4) else s1

/-- Flips stored bits of a way. -/
def flipBits (s : State) (t k : Nat) (mask : VBits) : State := s.modTill t (fun u => u.vforce k (u.vraw k ^^^ mask))

/-- A silicon fault at the Till as a Folio is looked up (R366; DESIGN CHOICE, log entry 11). -/
def upsetAt (s : State) (t f bank set : Nat) : Upset → State
  | .none => s
  | .vault way mask => if way < 16 then flipBits s t (vkey bank set way) mask else s
  | .ledger => s.modTill t (fun u => { u with failDue := u.failDue.orElse fun _ => some 2 })
  | .dataBuffer =>
    (match s.folio? t f with
     | some x =>
       if x.rdata.isNone && x.wdata.isNone then s else
         (s.modFolio t f (fun x => { x with
           rdata := x.rdata.map (fun d => { d with poison := true })
           wdata := x.wdata.map (fun d => { d with poison := true }) })).note .dataBufferUe (.till t) [x.laddr.toNat] (some x.aid)
     | none => s)
  | .summary word =>
    if word < 65536 then
      correctable (s.modTill t (fun u => { u with
        summary := (List.range 64).foldl (fun r i => Runs.insert (word * 64 + i) r) u.summary })) t 2 0 (word % 4096)
    else s
  | .monitor i => s.modTill t (fun u => { u with monitors := KV.del u.monitors i })

/-! ## Resolution (R371 to R373) -/

/-- REBUILD_TOP in sectors. -/
def State.topSector (s : State) : Nat := s.rawN 0x7000 4 / 256

/-- The next candidate of a VAULT_SET entry at or above a sector, tag by tag. -/
def nextInSet (s : State) (t bank set : Nat) : Nat → Nat → Nat → Option Nat
  | 0, _, _ => none
  | n + 1, tag, from_ =>
    let sec := sectorFrom bank set tag
    if s.topSector ≤ sec then none
    else if from_ ≤ sec && setOf sec == set && s.liveTill (bucketOfSector sec) == t && ((s.till t).find sec).isNone then some sec
    else nextInSet s t bank set n (tag + 1) from_

/-- The page of bucket `p` whose bits above the lowest twelve are `hi` (R44). -/
def pageIn (p hi : Nat) : Nat := hi * 4096 + ((p ^^^ (hi % 4096) ^^^ ((hi / 4096 % 256) * 16)) % 4096)

/-- The next candidate of a CELLAR_GROUP entry at or above a sector, page by page. -/
def nextInGroup (s : State) (t p g : Nat) : Nat → Nat → Nat → Option Nat
  | 0, _, _ => none
  | n + 1, hi, from_ =>
    let first := pageIn p hi * 16
    if s.topSector ≤ hi * 65536 then none
    else
      match (List.range 16).find? (fun i => decide (from_ ≤ first + i) && decide (first + i < s.topSector)
          && s.groupOf (first + i) == g && ((s.till t).find (first + i)).isNone) with
      | some i => some (first + i)
      | none => nextInGroup s t p g n (hi + 1) from_

/-- The next candidate of a resolution entry (R371). -/
def nextCandidate (s : State) (t : Nat) (r : Resolve) : Option Nat :=
  if r.cellar then nextInGroup s t r.p r.g (2 ^ 20) (r.cursor / 65536) r.cursor
  else nextInSet s t r.bank r.set (2 ^ 22) (r.cursor / 2 ^ 14) r.cursor

/-- Takes one order of a walk's rate for this Tick, at key `k` (R379). -/
def takeOrder (s : State) (k : Nat) : Option State :=
  let n := KV.get s.au.orderCred k 0
  if n == 0 then none else some { s with au := { s.au with orderCred := KV.set s.au.orderCred k (n - 1) 0 } }

/-- Keys of the walks' credits for this Tick: per Till, and across the Home. -/
def ordKey (t walk : Nat) : Nat := t * 16 + walk
def ordGroup (walk : Nat) : Nat := 512 + walk

/-- One step of the resolution walk: the next candidate is resolved, or the entry frees (R371, R372). -/
def resolveStep (s : State) (t i : Nat) : State :=
  match KV.find? (s.till t).resolve i with
  | none => s
  | some r =>
    match nextCandidate s t r with
    | none => (s.modTill t (fun u => { u with resolve := KV.del u.resolve i })).note .resolveDone (.till t)
        [bit r.cellar, r.bank, r.set, r.p, r.g]
    | some sec =>
      if (s.till t).internalFree < 4 then s
      else
        match takeOrder s (ordKey t 2) with
        | none => s
        | some s1 =>
          let s2 := s1.modTill t (fun u => { u with resolve := KV.put u.resolve i { r with cursor := sec + 1 } })
          (startSecOp s2 t sec (.resolve r.cellar) {} false (s.regionOf s.maps.rGen sec)).1

/-! ## Row retirement (R375, R376) -/

/-- Rewrites a row corrected, as its copy in the spare row holds it. -/
def copyRow (u : Till) (bank row : Nat) : Till :=
  if row < 2048 then (List.range 16).foldl (fun u w => u.vforce (vkey bank row w) (eccFix (u.vraw (vkey bank row w)))) u
  else u

/-- Retires a row to the lowest unused spare row of its bank, or counts it where none is left. -/
def retireRow (s : State) (t bank row : Nat) : State :=
  let n := KV.get (s.till t).rowsRetired bank 0
  let s1 := { s with au := { s.au with retire := s.au.retire.filter (· != (t, bank, row)) } }
  let s2 := s1.modTill t (fun u => { u with
    rowsRetired := KV.put u.rowsRetired bank (min 255 (n + 1))
    ce := List.filter (fun p => !(p.2.store ≤ 1 && p.2.bank == bank && p.2.row == row)) u.ce })
  if n < 32 then
    let s3 := (s2.modTill t (fun u => { copyRow u bank row with remap := KV.put u.remap (bank * 4096 + row) n })).note
      .rowRetired (.till t) [t, bank, row, n]
    let s4 := { s3 with fuses := { s3.fuses with remaps := s3.fuses.remaps ++ [(t, bank, row, n)] } }
    if n == 31 then s4.note .rowSparesExhausted (.till t) [t, bank] else s4
  else s2

/-- RETIRE_ROW: the Auditor carries an ordered retirement out (R375). -/
def execRetireRow (t bank row : Nat) (s : State) : Host.Outcome State Fault Refusal :=
  if !s.build.hasTill t then .fault .unbuiltPart
  else .next (if s.au.retire.contains (t, bank, row) && s.alive t then retireRow s t bank row else s)

/-! ## Scrubbing (R377) -/

/-- Scrubs one page: corrected entries are counted and written back; an erasure rebuilds the page. -/
def scrubPage (s : State) (t bank j : Nat) : State :=
  let u := s.till t
  let fl := (List.range 64).filter (fun e => u.flawed (pageKey bank j e))
  let s1 := fl.foldl (fun s e => (correctable s t 0 bank (4 * j + e / 16)).modTill t (fun u =>
    u.vforce (pageKey bank j e) (eccFix (u.vraw (pageKey bank j e))))) s
  rebuildPage s1 t bank j

/-- The pages of a run that list an entry. -/
def runPages (u : Till) (bank first : Nat) : List Nat :=
  (List.range 16).map (first + ·) |>.filter (fun j =>
    u.vault.any (fun p => p.1 / 64 == pageKey bank j 0 / 64))

/-- One run, and the position of the next: banks rotate, pages ascend, and a pass ends after the last page of bank 15. -/
def scrubRun (s : State) (t bank : Nat) (upsets : List (Nat × VBits)) : State :=
  let u := s.till t
  let s1 := upsets.foldl (fun s p => if p.1 < 2048 * 16 then flipBits s t (bank * 2048 * 16 + p.1) p.2 else s) s
  let s2 := (runPages (s1.till t) bank u.scrubPage).foldl (fun s j => scrubPage s t bank j) s1
  let lastBank := u.scrubBank == 15
  let pass := lastBank && u.scrubPage == 496
  let s3 := s2.modTill t (fun v => { v with
    scrubBank := if lastBank then 0 else u.scrubBank + 1
    scrubPage := if pass then 0 else if lastBank then u.scrubPage + 16 else u.scrubPage
    scrubCredit := u.scrubCredit - 1024 })
  if pass then s3.bump ⟨0x3030 + 0x80 * t, 6, 32⟩ else s3

end Sys2Proof.Machine
end

