-- ==== Sys2Proof/Machine/Maps.lean ====
section
/-! DEFINITION. The commits of the Bucket Map and of the Region table, and the switch of each replica (R46 to R49, R203,
R206, R401 to R403). -/

namespace Sys2Proof.Machine

/-! ## The Bucket Map (R47 to R49) -/

/-- The default Till of a bucket (R47). -/
def State.bucketDefault (s : State) (b : Nat) : Nat := b % s.build.activeTills
/-- The Till of a bucket in the shadow. -/
def State.shadowTill (s : State) (b : Nat) : Nat := KV.get s.maps.bShadow b (s.bucketDefault b)
/-- Writes a bucket of a map; the default is not listed. -/
def State.setBucket (s : State) (m : KV Nat) (b t : Nat) : KV Nat := KV.set m b t (s.bucketDefault b)

/-- Is a Folio of an agent open under a generation other than the current one. -/
def State.oldBGen (s : State) : Bool :=
  s.tills.any (fun u => u.folios.any (fun p => p.2.opc != .internal && p.2.bgen != s.maps.bGen))
/-- The same for the Region table. -/
def State.oldRGen (s : State) : Bool :=
  s.tills.any (fun u => u.folios.any (fun p => p.2.opc != .internal && p.2.rgen != s.maps.rGen))

/-- Is any caching agent Active (R48, R401). -/
def State.cachingActive (s : State) : Bool := s.agents.any (fun p => p.2.kind == 0 && p.2.state == .active)

/-- Is any Folio open. -/
def State.anyFolio (s : State) : Bool := s.tills.any (fun u => !u.folios.isEmpty)

/-- The nodes that apply a committed table: the built Wickets and the Auditor, node 9 (R49). -/
def switchNodes (b : Build) : List Nat := b.wicketList ++ [9]

/-- Does a node's number name a replica of the build. -/
def hasReplica (b : Build) (n : Nat) : Bool := n == 9 || b.hasWicket n

/-- CH accepts a commit that switches the map to `m` (R49); the commit of a transfer updates the shadow too (R386). -/
def startMapCommit (s : State) (m : KV Nat) (byTransfer : Bool) : State :=
  { s with maps := { s.maps with
    bPrev := s.maps.bLive, bLive := m, bShadow := m, bPend := switchNodes s.build, bByTransfer := byTransfer, bResult := 0 } }

/-- Does a shadow entry name no Till that is ACTIVE (R48). -/
def State.badBucket (s : State) (b : Nat) : Bool :=
  !s.build.hasTill (s.shadowTill b) || (s.till (s.shadowTill b)).role != .active

/-- BUCKET_MAP_COMMIT by firmware: the rows of R48 in order. -/
def mapCommit (s : State) : State :=
  let set := fun (r : Nat) => { s with maps := { s.maps with bResult := r } }
  if !s.maps.bPend.isEmpty then s
  else if !s.transfers.isEmpty || s.oldBGen then set 1
  else if (List.range 4096).any s.badBucket then set 3
  else if s.maps.bShadow == s.maps.bLive then set 0
  else if s.cachingActive || s.anyFolio then set 2
  else startMapCommit s s.maps.bShadow false

/-- BUCKET_MAP_RESULT: BUSY while a commit runs (R49). -/
def State.mapResult (s : State) : Nat := if s.maps.bPend.isEmpty then s.maps.bResult else 1

/-- The last replica has switched: the commit is complete (R49). -/
def mapSwitched (s : State) : State :=
  if s.maps.bPend.isEmpty then
    { s with maps := { s.maps with bGen := (s.maps.bGen + 1) % 2 ^ 32, bResult := 0, bPrev := [] } }
  else s

/-! ## The Region table (R203, R401, R402) -/

/-- A region of the shadow. -/
def State.shadowRegion (s : State) (n : Nat) : Region := KV.get s.maps.rShadow n (regionDefault n)

/-- Writes a region of a table; the default is not listed. -/
def setRegion (m : KV Region) (n : Nat) (r : Region) : KV Region := KV.set m n r (regionDefault n)

/-- Is an enabled region illegal: LIMIT below BASE, STREAM 3, or a reserved field that is not 0 (R401). -/
def Region.illegal (n : Nat) (r : Region) : Bool :=
  r.en && ((n != 0 && decide (r.limit.toNat < r.base.toNat)) || r.stream == 3 || bits r.attr 15 0 != 0
    || bits r.base 63 44 != 0 || bits r.base 20 0 != 0 || bits r.limit 63 44 != 0 || bits r.limit 20 0 != 0)

/-- The region of a sector in a table (R203). -/
def regionIn (f : Nat → Region) (sec : Nat) : Region :=
  f ((((List.range 64).drop 1).find? (fun n => (f n).covers sec)).getD 0)

/-- The sectors at which the attributes of two tables can change: 0, and the edges of their enabled regions. -/
def regionEdges (f g : Nat → Region) : List Nat :=
  0 :: ((List.range 64).drop 1).flatMap (fun n => [f n, g n].flatMap (fun r =>
    if r.en then [bits r.base 43 21 * 2 ^ 13, (bits r.limit 43 21 + 1) * 2 ^ 13] else []))

/-- Does the commit change UNTRACKED for any address (R401). -/
def untrackedChanges (s : State) : Bool :=
  (regionEdges s.region s.shadowRegion).any (fun sec => decide (sec < 2 ^ 36)
    && (regionIn s.region sec).untracked != (regionIn s.shadowRegion sec).untracked)

/-- The regions that a commit makes Retentive (R206). -/
def State.madeRetentive (s : State) : List Nat :=
  (List.range 64).filter (fun n => (s.shadowRegion n).en && (s.shadowRegion n).retentive
    && !((s.region n).en && (s.region n).retentive))

/-- CH accepts a commit that switches the Region table (R402); a region made Retentive has its clean walk pending
(R206). -/
def startRegionCommit (s : State) : State :=
  let kept := List.filter (fun p => (s.shadowRegion p.1).en && (s.shadowRegion p.1).retentive) s.au.clean
  { s with
    maps := { s.maps with
      rPrev := s.maps.rLive, rLive := s.maps.rShadow, rPend := switchNodes s.build, rResult := 0 }
    au := { s.au with clean := s.madeRetentive.foldl (fun m n => KV.put m n 0) kept } }

/-- REGION_COMMIT: the rows of R401 in order. -/
def regionCommit (s : State) : State :=
  let set := fun (r : Nat) => { s with maps := { s.maps with rResult := r } }
  if !s.maps.rPend.isEmpty then s
  else if !s.maps.bPend.isEmpty || !s.transfers.isEmpty || s.oldRGen then set 1
  else
    match (List.range 64).find? (fun n => (s.shadowRegion n).illegal n) with
    | some n => { s with maps := { s.maps with rResult := 3, rFail := n } }
    | none =>
      if untrackedChanges s && s.cachingActive then set 2
      else if s.maps.rShadow == s.maps.rLive then set 0
      else startRegionCommit s

/-- REGION_RESULT: BUSY while a commit runs (R402). -/
def State.regionResult (s : State) : Nat := if s.maps.rPend.isEmpty then s.maps.rResult else 1

/-- A node applies the committed Region table; the last one completes the commit (R402). -/
def regionSwitch (s : State) (n : Nat) : State :=
  if !s.maps.rPend.contains n then s
  else
    let s1 := { s with maps := { s.maps with rPend := s.maps.rPend.filter (· != n) } }
    let s2 := if n == 9 then s1 else retarget s1 n
    if s2.maps.rPend.isEmpty then
      { s2 with maps := { s2.maps with rGen := (s2.maps.rGen + 1) % 2 ^ 32, rResult := 0, rPrev := [] } }
    else s2

/-- REGION_TABLE_SWITCH (R402). -/
def execRegionTableSwitch (n : Nat) (s : State) : Host.Outcome State Fault Refusal :=
  if !hasReplica s.build n then .fault .unbuiltPart else .next (regionSwitch s n)

end Sys2Proof.Machine
end

