-- ==== Sys2Proof/Machine/Transfer.lean ====
section
/-! DEFINITION. Till resets and Till transfers, planned and forced (R384 to R400), and the switch of a Bucket Map replica
(R49, R388, R394). -/

namespace Sys2Proof.Machine

/-! ## Till reset (R385) -/

/-- The Till that a Chart index stands behind (R308). -/
def behindTill (i : Nat) : Option Nat :=
  if 0x3000 ≤ i && i < 0x3900 then some ((i - 0x3000) / 0x80)
  else if 0x4020 ≤ i && i < 0x4032 then some (i - 0x4020)
  else if 0x4110 ≤ i && i < 0x4122 then some (i - 0x4110)
  else if 0x4210 ≤ i && i < 0x4222 then some (i - 0x4210)
  else if 0x8010 ≤ i && i < 0x8022 then some (i - 0x8010)
  else if 0xB600 ≤ i && i < 0xB612 then some (i - 0xB600)
  else none

/-- Resets the V entries that stand behind a Till (R306, R385). -/
def resetEntries (s : State) (t : Nat) : State :=
  { s with chart := List.filter (fun p =>
      !(behindTill (p.1 / 256) == some t && (entryAt s.build (p.1 / 256) (p.1 % 256)).any (fun e => e.cls == .v))) s.chart }

/-- The escrow that a reset Till commits: of every agent in service or Foreclosing; a join commits its own (R135,
R385). -/
def recommit (s : State) : KV Commit :=
  (List.filter (fun p => s.serving p.1 || p.2.state == .foreclosing) s.agents).map
    (fun p => (p.1, { folios := p.2.escrowF, data := p.2.escrowD }))

/-- A Till reset (R151, R385): storage refilled; CE_TABLE, the remaps and ROWS_RETIRED are kept; the agents in service
hold its full escrow at their Wickets. -/
def resetTill (s : State) (t : Nat) : State :=
  let u := s.till t
  let v : Till :=
    { fn := u.fn, role := u.role, failCause := u.failCause, ce := u.ce, remap := u.remap, rowsRetired := u.rowsRetired
      escrow := recommit s, memCred := u.memCred, div2 := u.div2, divBefore := u.divBefore }
  let s1 := resetEntries (s.modTill t (fun _ => v)) t
  let ags := fun (w : Nat) => List.filter (fun p => p.2.wicket.toNat == w && s1.serving p.1) s1.agents
  { s1 with
    agents := s1.agents.map (fun p => (p.1, { p.2 with committed := p.2.committed.filter (· != t) }))
    wickets := s1.wickets.mapIdx (fun w x => { x with
      loans := KV.del x.loans t
      creds := (ags w).foldl (fun m p => KV.put m (ckey p.1 t) (startCred p.2.escrowF p.2.escrowD))
        (List.filter (fun p => p.1 % 32 != t) x.creds) }) }

/-- A Till becomes ACTIVE: the walks that run have its sets to visit (R290, R300). -/
def makeActive (s : State) (t : Nat) : State :=
  let add := fun (l : List WalkAgent) => l.map (fun (x : WalkAgent) => { x with vaultLeft := KV.put x.vaultLeft t (16 * 2048) })
  { s.modTill t (fun u => { u with role := .active }) with
    au := { s.au with fore := add s.au.fore, leave := add s.au.leave } }

/-! ## The transfers -/

/-- No Till, as TRANSFER_DST reports it. -/
def noTill : Nat := 255

/-- Changes the transfer of a source. -/
def State.modXfer (s : State) (src : Nat) (f : Transfer → Transfer) : State :=
  { s with transfers := s.transfers.map (fun x => if x.src == src then f x else x) }
/-- The transfer of a source. -/
def State.xfer? (s : State) (src : Nat) : Option Transfer := s.transfers.find? (fun x => x.src == src)
/-- Removes the transfer of a source. -/
def State.dropXfer (s : State) (src : Nat) : State := { s with transfers := s.transfers.filter (fun x => x.src != src) }

/-- The buckets that a Till owns, ascending. -/
def State.bucketsOf (s : State) (t : Nat) : List Nat := (List.range 4096).filter (fun b => s.liveTill b == t)

/-- The lowest SPARE that no other transfer has as destination (R386). -/
def State.freeSpare (s : State) : Option Nat :=
  s.build.tillList.find? (fun t => (s.till t).role == .spare && !(s.transfers.any (·.dst == t)))

/-- The destination of a forced transfer: the lowest SPARE, else the ACTIVE Till with the fewest buckets (R394). -/
def State.forcedDst (s : State) : Option Nat :=
  (s.build.tillList.find? (fun t => (s.till t).role == .spare)).orElse fun _ =>
    (sortBy (fun t => (s.bucketsOf t).length) (s.build.tillList.filter (fun t => (s.till t).role == .active))).head?

/-- A commit moves buckets to a Till (R388, R394). -/
def moveBuckets (s : State) (l : List Nat) (d : Nat) : State :=
  let m := l.foldl (fun m b => s.setBucket m b d) s.maps.bLive
  (startMapCommit s m true).modTill d (fun u => { u with gated := u.gated ++ l.filter (fun b => !u.gated.contains b) })

/-- A forced transfer starts: its commit moves every bucket of the failed Till (R394). -/
def startForced (s : State) (x : Transfer) : State :=
  match (if x.dst != noTill then some x.dst else s.forcedDst) with
  | none => s
  | some d =>
    let l := x.batch ++ (s.bucketsOf x.src).filter (fun b => !x.batch.contains b)
    let s1 : State := { s with transfers := s.transfers.map (fun (y : Transfer) =>
      if y.src == x.src then { y with
        state := 3, dst := d, batch := l, gateCclk := s.time.cclk, served := x.served || (s.till d).servedSince }
      else if y.planned && y.dst == d then { y with dst := noTill }
      else if y.planned && y.dst == x.src then { y with dst := if y.batch.isEmpty then noTill else d, state := 4 } else y) }
    let s2 := (endHalt s1 d 3).modTill d (fun u => { u with role := if u.role == .spare then .destination else u.role })
    moveBuckets s2 l d

/-- A planned transfer starts its copy phase, or waits for a SPARE (R386). -/
def startPlanned (s : State) (x : Transfer) : State :=
  match (if x.dst != noTill && (s.till x.dst).role == .spare then some x.dst else s.freeSpare) with
  | none => s.modXfer x.src (fun y => { y with state := 4 })
  | some d =>
    (((endHalt s d 3).modXfer x.src (fun y => { y with state := 1, dst := d })).modTill x.src (fun u => { u with
      role := .source, copyBank := [] })).modTill d (fun u => { u with role := .destination })

/-- Starts the transfer whose turn it is: a forced one first, at a batch boundary of a planned one; one at a time (R386,
R400). -/
def nextTransfer (s : State) : State :=
  if !s.maps.bPend.isEmpty then s
  else if s.transfers.any (fun x => !x.planned && x.state == 3) then s
  else
    match s.transfers.find? (fun x => !x.planned) with
    | some x => if s.transfers.any (fun y => y.planned && y.state == 2 && !y.batch.isEmpty) then s else startForced s x
    | none =>
      if s.transfers.any (fun x => x.planned && (x.state == 1 || x.state == 2)) then s
      else
        match s.transfers.find? (fun x => x.planned && x.batch.isEmpty) with
        | some x => startPlanned s x
        | none => s

/-- DISABLE of an ACTIVE Till: a planned transfer of all its buckets (R384, R386). -/
def planTransfer (s : State) (t : Nat) : State :=
  nextTransfer { s with transfers := s.transfers ++
    [⟨true, t, s.freeSpare.getD noTill, 0, [], false, false, 0, false, false, 0⟩] }

/-! ## Failure of a Till (R393) -/

/-- What a failure does to the transfers (R394, R400). -/
def failTransfers (s : State) (t : Nat) (role : Role) : State :=
  let forced := fun (dst : Nat) (batch : List Nat) (served : Bool) =>
    ({ planned := false, src := t, dst := dst, state := 0, batch := batch, notice := false, copySent := false
       gateCclk := 0, served := served, salvaged := false, done := 0 } : Transfer)
  match s.xfer? t with
  | some x =>
    let s1 := s.dropXfer t
    if x.state == 0 || x.state == 4 && x.batch.isEmpty then { s1 with transfers := s1.transfers ++ [forced noTill [] false] }
    else
      { s1 with
        transfers := s1.transfers ++ [forced x.dst x.batch true]
        net := { s1.net with copyEnd := s1.net.copyEnd.filter (· != t) } }
  | none =>
    let s1 : State := { s with transfers := s.transfers.map (fun (y : Transfer) =>
      if y.planned && y.dst == t then
        (if y.state == 0 then { y with dst := noTill } else { y with state := 4, dst := if y.batch.isEmpty then noTill else t })
      else y) }
    if role == .spare || role == .none then s1.modTill t (fun u => { u with role := .reset })
    else { s1 with transfers := s1.transfers ++ [forced noTill [] false] }

/-- A Till is failed: FAILED, the record, TILL_DOWN to every Wicket, and its forced transfer (R393). -/
def failTill (s : State) (t cause : Nat) : State :=
  let u := s.till t
  if u.fn.st == .failed || u.fn.st == .off then s.modTill t (fun u => { u with failDue := none })
  else
    let s1 := ((endHalt s t 4).modTill t (fun u => { u with
      fn := u.fn.fault, failCause := cause, failDue := none, role := .none, ni := [], marks := [] })).note .tillFailed
        (.till t) [t, cause]
    let s2 := s1.build.wicketList.foldl (fun s w => s.sendP t w .tillDown) s1
    nextTransfer (failTransfers s2 t u.role)

/-- Fails every Till that has met a cause of R393 in this command. -/
def settleFails (s : State) : State :=
  s.build.tillList.foldl (fun s t =>
    match (s.till t).failDue with
    | some c => failTill s t c
    | none => s) s

/-! ## The switch of a replica (R49, R388, R394) -/

/-- A Wicket that has both switched and received TILL_DOWN sends its MARKs and its acknowledgement (R394). -/
def sendMarks (s : State) (w : Nat) : State :=
  if s.maps.bPend.contains w then s else
    (s.transfers.filter (fun x => !x.planned && x.state == 3 && (s.wicket w).down.contains x.src)).foldl (fun s x =>
      let s1 := (s.packet (.wicket w) 0 1 (.till x.src)).packet (.wicket w) 4 1 (.till x.src)
      let s2 := { s1 with net := { s1.net with marks := s1.net.marks ++ [(x.src, w)] } }
      (s2.modWicket w (fun y => { y with down := y.down.filter (· != x.src) })).sendW w x.dst (.handoverAck x.src)) s

/-- A Wicket puts a batch into its switch-over table, or takes the buckets of a failed Till out of it. -/
def switchTable (s : State) (w : Nat) : State :=
  if !s.maps.bByTransfer then s else
    s.transfers.foldl (fun s x =>
      if x.planned && x.state == 2 && !x.copySent then
        s.modWicket w (fun y =>
          let kept := y.swTable.filter (fun e => !x.batch.contains e.bucket)
          { y with swTable := kept ++ x.batch.map (fun b => ⟨b, x.src⟩) })
      else if !x.planned && x.state == 3 then
        s.modWicket w (fun y => { y with swTable := y.swTable.filter (fun e => e.old != x.src) })
      else s) s

/-- A node applies the committed Bucket Map at its admission boundary (R49). -/
def mapSwitch (s : State) (n : Nat) : State :=
  if !s.maps.bPend.contains n then s
  else
    let s1 := { s with maps := { s.maps with bPend := s.maps.bPend.filter (· != n) } }
    let s2 := if n == 9 then s1 else sendMarks (retarget (switchTable s1 n) n) n
    let s3 := mapSwitched s2
    if s3.maps.bPend.isEmpty then nextTransfer s3 else s3

/-- BUCKET_MAP_SWITCH (R49). -/
def execBucketMapSwitch (n : Nat) (s : State) : Host.Outcome State Fault Refusal :=
  if !hasReplica s.build n then .fault .unbuiltPart else .next (mapSwitch s n)

/-! ## The copy (R387) -/

/-- Copies one run of 64 sets of a bank to the destination: the same bank, set and way (DESIGN CHOICE, log entry 25). -/
def copyRun (s : State) (x : Transfer) (bank run : Nat) : State :=
  let lo := vkey bank (run * 64) 0
  let l := List.filter (fun p => decide (lo ≤ p.1) && decide (p.1 < lo + 1024)) (s.till x.src).vault
  let s1 := if l.isEmpty then s else s.packet (.till x.src) 4 ((l.length + 7) / 8) (.till x.dst)
  (s1.modTill x.dst (fun u => l.foldl (fun u p => u.vwrite p.1 (eccFix p.2)) u)).modTill x.src (fun u => { u with
    copyBank := KV.put u.copyBank bank (run + 1) })

/-- COPY_RUN: the next run of a bank, within the rate of the Tick (R387). -/
def execCopyRun (t bank : Nat) (s : State) : Host.Outcome State Fault Refusal :=
  if !s.build.hasTill t then .fault .unbuiltPart else
    .next (match s.xfer? t with
      | some x =>
        let run := KV.get (s.till t).copyBank bank 0
        if !x.planned || x.state != 1 || 16 ≤ bank || 32 ≤ run || !s.alive t || s.transfers.any (fun y => !y.planned) then s
        else
          (match takeOrder s (1024 + bank) with
           | some s1 => copyRun s1 x bank run
           | none => s)
      | none => s)

/-- Is the copy complete: 32 runs in each bank. -/
def Till.copied (u : Till) : Bool := (List.range 16).all (fun b => KV.get u.copyBank b 0 == 32)

/-- SWITCH: the switch-over of the next batch, up to 16 buckets in ascending order (R388). -/
def execSwitch (batch : Nat) (s : State) : Host.Outcome State Fault Refusal :=
  .next (match s.transfers.find? (fun x => x.planned && (x.state == 1 || x.state == 2) && x.batch.isEmpty) with
    | some x =>
      if x.done != batch || !(s.till x.src).copied || !s.maps.bPend.isEmpty || s.oldBGen || s.transfers.any (fun y => !y.planned)
      then s
      else
        let l := (s.bucketsOf x.src).take 16
        let s1 := s.modXfer x.src (fun y => { y with
          state := 2, batch := l, notice := false, copySent := false, gateCclk := s.time.cclk })
        moveBuckets s1 l x.dst
    | none => s)

/-! ## Hand-over (R390, R392) -/

/-- Is a Folio's line in the batch. -/
def inBatch (x : Transfer) (y : Folio) : Bool := x.batch.contains (bucketOfLine y.laddr)

/-- Is a chain of the batch open at the source. -/
def State.chainOpen (s : State) (x : Transfer) : Bool :=
  (s.till x.src).chains.any (fun c => x.batch.contains (bucketOfLine c.laddr))

/-- HANDOVER_SEND: with no chain of the batch open, the monitors on its lines clear and HANDOVER goes to every Wicket
(R390). -/
def execHandoverSend (t : Nat) (s : State) : Host.Outcome State Fault Refusal :=
  if !s.build.hasTill t then .fault .unbuiltPart else
    .next (match s.xfer? t with
      | some x =>
        if !x.planned || x.batch.isEmpty || x.notice || !s.maps.bPend.isEmpty || s.chainOpen x || !s.alive t then s
        else
          let s1 := clearMons s t (fun m => x.batch.contains (bucketOfLine m.laddr)) false
          s1.build.wicketList.foldl (fun s w => s.sendP t w (.handover x.batch)) (s1.modXfer t (fun y => { y with notice := true }))
      | none => s)

/-- The Vault's share of a batch goes to the destination for good: each entry in its own way, in another empty way where
that way is taken, else as an eviction of the way's entry (DESIGN CHOICE, log entry 25). -/
def handEntries (s : State) (x : Transfer) : State :=
  let mine := fun (p : Nat × VBits) =>
    let e := decVault p.2
    !e.2.2.empty && x.batch.contains (bucketOfSector (sectorFrom (p.1 / 32768) (p.1 / 16 % 2048) e.2.1))
  let l := List.filter mine (s.till x.src).vault
  let old := List.filter mine (s.till x.dst).vault
  let s1 := s.modTill x.dst (fun u => old.foldl (fun u p => u.vwrite p.1 0) u)
  let s2 := l.foldl (fun s p =>
    let u := s.till x.dst
    let base := p.1 / 16 * 16
    let way := if u.vraw p.1 == 0 then some (p.1 % 16) else (List.range 16).find? (fun w => u.vraw (base + w) == 0)
    let s := match way with | some _ => s | none => evictWay s x.dst (p.1 / 32768) (p.1 / 16 % 2048) (p.1 % 16)
    s.modTill x.dst (fun u => u.vwrite (base + way.getD (p.1 % 16)) (eccFix p.2))) s1
  s2.modTill x.src (fun u => l.foldl (fun u p => u.vwrite p.1 0) u)

/-- The claim-table entries of the batch's pages go to the destination (R257, R390). -/
def handClaims (s : State) (x : Transfer) : State :=
  let l := List.filter (fun p => x.batch.contains (bucketOf p.2.page)) (s.till x.src).claims
  l.foldl (fun s p => (s.modTill x.src (fun u => { u with claims := KV.del u.claims p.1 })).modTill x.dst (fun u =>
    match KV.lowest u.claims 128 with
    | some i => { u with claims := KV.put u.claims i p.2 }
    | none => u)) s

/-- Does work of the source for the batch remain: a Folio other than in RETRY, a release or a gathering (R390). -/
def State.batchOpen (s : State) (x : Transfer) : Bool :=
  (s.till x.src).folios.any (fun p => inBatch x p.2 && p.2.phase != .retry)
    || (s.till x.src).releases.any (fun r => x.batch.contains (bucketOf r.page))

/-- COPY_END_SEND: with every Folio of the batch retired, the batch's claims and COPY_END go to the destination (R390). -/
def execCopyEndSend (t : Nat) (s : State) : Host.Outcome State Fault Refusal :=
  if !s.build.hasTill t then .fault .unbuiltPart else
    .next (match s.xfer? t with
      | some x =>
        if !x.planned || x.batch.isEmpty || !x.notice || x.copySent || s.batchOpen x || !s.alive t then s
        else
          let s1 := handClaims (handEntries s x) x
          let s2 := (s1.packet (.till t) 4 1 (.till x.dst)).modXfer t (fun y => { y with copySent := true })
          { s2 with net := { s2.net with copyEnd := s2.net.copyEnd ++ [t] } }
      | none => s)

/-- Sets every Summary bit of a bucket at a Till (R180). -/
def setBucketSummary (s : State) (t b : Nat) : State :=
  let n := 2 ^ (s.cellarK - 2 + s.sumW)
  s.modTill t (fun u => { u with summary := Runs.insertRange (s.sumIndex b 0 0 / n * n) n u.summary })

/-- The requests that a Till has kept for buckets now ungated take their places in acceptance order (R389). -/
def placeDeferred (s : State) (t : Nat) : State :=
  let u := s.till t
  let go := u.deferred.filter (fun f => (s.folio? t f).all (fun x => !u.gated.contains (bucketOfLine x.laddr)))
  go.foldl (fun s f =>
    match s.folio? t f with
    | some x => if x.dead && wouldChain s t x then dropFolio s t f else place' (s.modFolio t f (fun y => { y with phase := .lookup })) t f x
    | none => s) (s.modTill t (fun u => { u with deferred := u.deferred.filter (fun f => !go.contains f) }))

/-- Does the destination hold an acknowledgement of `src` from every built Wicket. -/
def State.allAcked (s : State) (d src : Nat) : Bool :=
  s.build.wicketList.all (fun w => (s.till d).acks.contains (src * 16 + w))

/-- Ungates buckets, but for those that another hand-over still holds (R390, R400). -/
def ungate (s : State) (d : Nat) (l : List Nat) (src : Nat) : State :=
  let hold := s.transfers.any (fun y => y.src != src && y.dst == d && !y.batch.isEmpty)
  let kept := fun (b : Nat) => hold && s.transfers.any (fun y => y.src != src && y.dst == d && y.batch.contains b)
  placeDeferred (s.modTill d (fun u => { u with
    gated := u.gated.filter (fun b => !l.contains b || kept b)
    acks := u.acks.filter (fun a => a / 16 != src) })) d

/-- The last batch is handed over: the source enters its Till reset, the destination is ACTIVE (R392). -/
def finishPlanned (s : State) (x : Transfer) : State :=
  let s1 := makeActive ((s.dropXfer x.src).modTill x.src (fun u => { u with role := .reset })) x.dst
  nextTransfer ((s1.bump ⟨0x7010, 5, 32⟩).note .transferDone (.till x.dst) [x.src, x.dst, x.done + 1])

/-- The destination ungates a batch that holds COPY_END and every acknowledgement (R390). -/
def tryUngate (s : State) (src : Nat) : State :=
  match s.xfer? src with
  | none => s
  | some x =>
    if !x.planned || x.batch.isEmpty || !(s.till x.dst).copyEnd || !s.allAcked x.dst src then s
    else
      let s1 := (s.modXfer src (fun y => { y with batch := [], notice := false, copySent := false, done := y.done + 1 })).modTill
        x.dst (fun u => { u with copyEnd := false })
      let s2 := (ungate s1 x.dst x.batch src).bumpMax ⟨0x7010, 4, 32⟩ (s.time.cclk - x.gateCclk)
      if x.state == 4 then nextTransfer (s2.modXfer src (fun y => { y with dst := noTill }))
      else if (s2.bucketsOf src).isEmpty then finishPlanned s2 x
      else nextTransfer s2

/-- COPY_END: the destination sets the batch's Summary bits (R180, R390). -/
def execCopyEnd (t : Nat) (s : State) : Host.Outcome State Fault Refusal :=
  if !s.build.hasTill t then .fault .unbuiltPart else
    .next (match s.transfers.find? (fun x => x.planned && x.dst == t && s.net.copyEnd.contains x.src) with
      | some x =>
        let s1 := { s with net := { s.net with copyEnd := s.net.copyEnd.filter (· != x.src) } }
        let s2 := x.batch.foldl (fun s b => setBucketSummary s t b) (s1.modTill t (fun u => { u with copyEnd := true }))
        tryUngate s2 x.src
      | none => s)

/-- Does a Wicket still hold a completion from a Till for its data (R390, R394). -/
def State.owes (s : State) (w t : Nat) : Bool := (s.wicket w).heldCmp.any (fun c => c.till == t && c.needData)

/-- HANDOVER: with the source's earlier completions delivered, the batch leaves the Wicket's switch-over table and the
destination has its acknowledgement (R390). -/
def execHandover (w t : Nat) (s : State) : Host.Outcome State Fault Refusal :=
  if !s.build.hasTill t || !s.build.hasWicket w then .fault .unbuiltPart else
    .next (match s.frontP t w with
      | some (.handover l) =>
        if s.owes w t then s
        else
          let s1 := retarget ((s.popP t w).modWicket w (fun y => { y with
            swTable := y.swTable.filter (fun e => !l.contains e.bucket) })) w
          (match s.xfer? t with
           | some x => if x.planned then s1.sendW w x.dst (.handoverAck t) else s1
           | none => s1)
      | _ => s)

/-! ## Salvage (R395 to R399) -/

/-- The Folios of a chain from a head on. -/
def chainFrom (u : Till) : Nat → Option Nat → List Nat
  | 0, _ => []
  | _ + 1, none => []
  | n + 1, some f => f :: chainFrom u n ((KV.find? u.folios f).bind (·.next))

/-- The Folios whose completion a failed Till had not sent, in its chain order, the others behind in number order. -/
def salvageList (u : Till) : List Nat :=
  let ok := fun (f : Nat) => (KV.find? u.folios f).any (fun x =>
    x.job == .request && x.opc != .internal && !x.sent && !x.dead && x.phase != .reserved)
  let chained := u.chains.flatMap (fun c => chainFrom u u.folios.length (some c.head))
  ((chained ++ u.deferred ++ KV.keys u.folios).eraseDups).filter ok

/-- A Folio as a request entered anew. -/
def freshFolio (s : State) (x : Folio) : Folio :=
  { blankFolio with
    phase := .waiting, laddr := x.laddr, opc := x.opc, aid := x.aid, inc := x.inc, tag := x.tag, src := x.src
    credit := x.credit, bgen := x.bgen, rgen := x.rgen, strm := x.strm, param := x.param, wicket := x.wicket
    origin := x.origin, epoch := x.epoch, wdata := x.wdata, acceptCclk := s.time.cclk, headCclk := s.time.cclk }

/-- A Q flit of the failed Till's ingress as a Folio; the credit of a resend is that of its reserved Folio. -/
def flitFolio (s : State) (src : Nat) (q : QFlit) : Folio :=
  let x := folioOf s q
  if q.crd == .receipt then { x with credit := ((s.folio? src q.rcpt).map (·.credit)).getD .internal } else x

/-- The requests salvaged, each with its data (R395). -/
def salvaged (s : State) (src : Nat) : List Folio :=
  let u := s.till src
  (salvageList u).filterMap (fun f => (KV.find? u.folios f).map (freshFolio s))
    ++ (s.net.q.filter (fun q => q.till == src && !(s.agent q.aid.toNat).deadMark)).map (fun q => { flitFolio s src q with phase := .waiting })

/-- An entry of a Till's table of credits moves to another Till. -/
def moveKey (src d : Nat) (m : KV Cred) : KV Cred :=
  (List.filter (fun p => p.1 % 32 == src) m).foldl (fun m p => KV.put m (p.1 - src + d) p.2)
    (List.filter (fun p => p.1 % 32 != src && p.1 % 32 != d) m)

/-- D takes over S's accounting (R395). -/
def takeOver (s : State) (src d : Nat) : State :=
  let s1 : State := { s with wickets := s.wickets.map (fun (x : Wicket) => { x with
    creds := moveKey src d x.creds
    loans := match KV.find? x.loans src with
      | some l => KV.put (KV.del x.loans src) d l
      | none => KV.del x.loans d }) }
  let f := (s1.wickets.map (fun x => (x.loan d).folios + (x.loan d).inUseF)).sum
  let n := (s1.wickets.map (fun x => (x.loan d).data + (x.loan d).inUseD)).sum
  s1.modTill d (fun u => { u with lentF := f, lentD := n, loanReqs := (s.till src).loanReqs })

/-- Enters a salvaged request at the destination; the numbers of the Folios entered so far. -/
def enterSalvaged (d : Nat) (r : State × List Nat) (x : Folio) : State × List Nat :=
  match r.1.freeFolio d with
  | some f => (r.1.setFolio d f x, r.2 ++ [f])
  | none => r

/-- Receipts of the failed Till are held by the destination: each under a Folio of its own. -/
def moveReceipt (src d : Nat) (s : State) (r : Receipt) : State :=
  match s.folio? src r.folio, s.freeFolio d with
  | some x, some g =>
    let map := fun (t f : Nat) => if t == src && f == r.folio then (d, g) else (t, f)
    let s1 := (s.setFolio d g { freshFolio s x with phase := .reserved }).modTill d (fun u => { u with
      receipts := u.receipts ++ [{ r with folio := g }] })
    { s1 with
      wickets := s1.wickets.map (fun y => { y with
        entries := y.entries.map (fun e => match e.rcpt with
          | some f => { e with till := (map e.till f).1, rcpt := some (map e.till f).2 }
          | none => e)
        heldCmp := y.heldCmp.map (fun c => if c.status == .retry then
          { c with till := (map c.till c.rcpt).1, rcpt := (map c.till c.rcpt).2 } else c) })
      ws := { s1.ws with
        handles := s1.ws.handles.map (fun p => (p.1, { p.2 with till := (map p.2.till p.2.folio).1, folio := (map p.2.till p.2.folio).2 }))
        handleWait := s1.ws.handleWait.map (fun p => ((map p.1 p.2.rcpt).1,
          { p.2 with till := (map p.2.till p.2.rcpt).1, rcpt := (map p.2.till p.2.rcpt).2 })) } }
  | _, _ => s

/-- The credits of Folios whose completion had been sent go back from the destination (R133; DESIGN CHOICE, log entry 26). -/
def returnSent (s : State) (src via : Nat) : State :=
  (List.filter (fun p => p.2.job == .request && p.2.opc != .internal && p.2.sent && !p.2.dead && p.2.phase != .reserved)
    (s.till src).folios).foldl (fun s p =>
      let x := p.2
      s.sendP via x.wicket (.credit x.credit x.aid x.inc x.opc.hasData
        (if x.opc.isWrite then some (x.outcome, x.epoch) else none) x.origin)) s

/-- The STATUS of a request that is not re-run and neither reads nor writes (DESIGN CHOICE, log entry 26). -/
def discardStatus (o : Opc) : CStat := if o.isDrop || o == .release || o == .conflict then .ok else .fail

/-- A salvaged request that is not re-run completes (R397). -/
def discard (src d : Nat) (s : State) (x : Folio) : State :=
  let cmp := fun (s : State) (st : CStat) =>
    s.sendP d x.wicket (.cmp .cmp x.aid x.inc x.tag st 0 x.opc.reads x.laddr x.opc x.origin)
  let s1 :=
    if x.opc.reads then
      let s1 := (cmp s .fail).packet (.till d) 3 1 (.wicket x.wicket)
      { s1 with
        net := { s1.net with d := s1.net.d ++ [(d, x.wicket, ⟨x.aid, x.inc, x.tag, s.free, true, x.origin⟩)] }
        freeCtr := s1.freeCtr + 1 }
    else if x.opc.hasData then
      let (s1, f) := takeInternal s d x.laddr .access
      let s2 := writeMemo (s1.modFolio d f (fun y => { y with phase := .done })) d f (sectorOf x.laddr) (maskOf [lineIx x.laddr]) true true
      cmp ((enterLost s2 (s.portOf x.laddr.toNat) (x.opc == .ncwPtl) x.aid x.laddr).note .lostWrite (.till d) [x.laddr.toNat]
        (some x.aid)) .lost
    else cmp s (discardStatus x.opc)
  { s1 with net := { s1.net with p := s1.net.p ++ [(src, x.wicket,
      .credit x.credit x.aid x.inc x.opc.hasData (if x.opc.isWrite then some (.lost, x.epoch) else none) x.origin)] } }

/-- The agents whose count of open requests at the failed Till exceeds what could be read (R396). -/
def shortAgents (s : State) (src : Nat) : List Nat :=
  s.wickets.flatMap (fun x => (List.filter (fun p => p.1 % 32 == src
    && decide ((List.filter (fun q => q.2.aid.toNat == p.1 / 32 && q.2.job == .request && q.2.credit != .internal)
        (s.till src).folios).length + (s.net.q.filter (fun q => q.till == src && q.aid.toNat == p.1 / 32 && q.crd != .receipt)).length
      < p.2.open_)) x.creds).map (fun p => p.1 / 32))

/-- The EXPIRED records for the Claims on the lost buckets that the claim mirror of WS lists (R257). -/
def mirrorClaims (s : State) (d : Nat) (l : List Nat) : State :=
  let pages := ((s.ws.mirror.map (·.2)).eraseDups).filter (fun p => l.contains (bucketOf p))
  pages.foldl (fun s p => s.modTill d (fun u =>
    match KV.lowest u.claims 128 with
    | some i =>
      let c : Claim := ⟨.expired, false, p, (s.ws.mirror.filter (fun m => m.2 == p)).map (·.1), none, 0, 0, [], [], s.time.tick⟩
      { u with claims := KV.put u.claims i c }
    | none => u)) s

/-- Do the Home's regions hold a rebuilt sector anywhere. -/
def State.someRebuilt (s : State) : Bool :=
  (regionEdges s.region s.region).any (fun sec => decide (sec < s.topSector) && s.rebuilt sec)

/-- The acquired buckets: their Summary bits are set, and those with rebuilt sectors are REBUILDING (R180, R398). -/
def startRebuild (s : State) (d : Nat) (l : List Nat) : State :=
  let s1 := l.foldl (fun s b => setBucketSummary s d b) s
  if s.someRebuilt then s1.modTill d (fun u => { u with rebuild := l.foldl (fun m b => KV.put m b ⟨0, 0⟩) u.rebuild }) else s1

/-- The failed Till is empty of work: its NI and stores have been read. -/
def emptyFailed (s : State) (src : Nat) : State :=
  { s.modTill src (fun u => { u with
      role := .reset, folios := [], chains := [], receipts := [], secOps := [], groups := [], fetch := [], resident := []
      claims := [], gathers := [], releases := [], monitors := [], memQ := [], deferred := [], gated := [], loanReqs := [] }) with
    net := { s.net with q := s.net.q.filter (fun q => q.till != src), pw := s.net.pw.filter (fun m => m.2.1 != src) } }

/-- A forced transfer ends when its salvage is complete and every Wicket has acknowledged (R395). -/
def tryForcedEnd (s : State) (src : Nat) : State :=
  match s.xfer? src with
  | none => s
  | some x =>
    if x.planned || !x.salvaged || !s.allAcked x.dst src then s
    else
      let s1 := s.dropXfer src
      let s2 := if (s1.till x.dst).role == .destination && !(s1.transfers.any (fun y => y.planned && y.dst == x.dst && y.state ≤ 2))
        then makeActive s1 x.dst else s1
      nextTransfer ((ungate s2 x.dst x.batch src).bump ⟨0x7010, 6, 32⟩)

/-- The salvage of a failed Till (R395 to R399). -/
def salvage (s : State) (x : Transfer) : State :=
  let d := x.dst
  let l := salvaged s x.src
  let short := shortAgents s x.src
  let s1 := (s.till x.src).receipts.foldl (moveReceipt x.src d) s
  let s2 := if x.served then l.foldl (discard x.src d) (returnSent s1 x.src x.src)
    else
      let s2 := returnSent (takeOver s1 x.src d) x.src d
      let r := l.foldl (enterSalvaged d) (s2, [])
      r.1.modTill d (fun u => { u with deferred := r.2 ++ u.deferred })
  let s3 := startRebuild (mirrorClaims (emptyFailed s2 x.src) d x.batch) d x.batch
  let s4 := short.foldl (fun s n =>
    declareDead ((s.note .tillSalvageIncomplete (.till d) [x.src, n] (some (BitVec.ofNat 10 n))).bump ⟨0x7010, 8, 32⟩)
      (BitVec.ofNat 10 n) 3) s3
  tryForcedEnd ((s4.bumpBy ⟨0x7010, 7, 32⟩ l.length).modXfer x.src (fun y => { y with salvaged := true })) x.src

/-- SALVAGE: the salvage begins when the failed Till's NI holds a MARK from every Wicket (R395). -/
def execSalvage (t : Nat) (s : State) : Host.Outcome State Fault Refusal :=
  if !s.build.hasTill t then .fault .unbuiltPart else
    .next (match s.xfer? t with
      | some x =>
        if x.planned || x.state != 3 || x.salvaged || !(s.build.wicketList.all (s.till t).marks.contains) then s
        else settleFails (salvage s x)
      | none => s)

/-- SALVAGE_MARK: the failed Till's NI receives a Wicket's MARK (R395). -/
def execSalvageMark (t w : Nat) (s : State) : Host.Outcome State Fault Refusal :=
  if !s.build.hasTill t || !s.build.hasWicket w then .fault .unbuiltPart else
    .next (if s.net.marks.contains (t, w) then
      { s with net := { s.net with marks := dropFirst (· == (t, w)) s.net.marks } }.modTill t (fun u => { u with marks := u.marks ++ [w] })
      else s)

/-- TILL_DOWN: with the failed Till's earlier completions delivered, the Wicket may send its MARKs (R394). -/
def execTillDown (w t : Nat) (s : State) : Host.Outcome State Fault Refusal :=
  if !s.build.hasTill t || !s.build.hasWicket w then .fault .unbuiltPart else
    .next (match s.frontP t w with
      | some .tillDown =>
        if s.owes w t then s
        else sendMarks ((s.popP t w).modWicket w (fun y => { y with down := y.down ++ [t] })) w
      | _ => s)

/-- HANDOVER_ACK: the destination receives a Wicket's acknowledgement (R390, R394). -/
def execHandoverAck (t w : Nat) (s : State) : Host.Outcome State Fault Refusal :=
  if !s.build.hasTill t || !s.build.hasWicket w then .fault .unbuiltPart else
    .next (match s.frontW w t with
      | some (.handoverAck src) =>
        let s1 := (s.popW w t).modTill t (fun u => { u with acks := u.acks ++ [src * 16 + w] })
        tryForcedEnd (tryUngate s1 src) src
      | _ => s)

/-! ## Rebuilding (R398) -/

/-- The next sector of a bucket to resolve, page by page. -/
def nextInBucket (s : State) (t b : Nat) : Nat → Nat → Nat → Option Nat
  | 0, _, _ => none
  | n + 1, hi, from_ =>
    let first := pageIn b hi * 16
    if s.topSector ≤ hi * 65536 then none
    else
      match (List.range 16).find? (fun i => decide (from_ ≤ first + i) && decide (first + i < s.topSector)
          && s.rebuilt (first + i) && ((s.till t).find (first + i)).isNone) with
      | some i => some (first + i)
      | none => nextInBucket s t b n (hi + 1) from_

/-- A bucket leaves REBUILDING when its walk and its segment visit are done. -/
def rebuildDone (s : State) (t b : Nat) : State :=
  match KV.find? (s.till t).rebuild b with
  | some r =>
    if s.topSector ≤ r.cursor && (s.cellarState != 2 || s.groupCount ≤ r.visited) then
      s.modTill t (fun u => { u with rebuild := KV.del u.rebuild b })
    else s
  | none => s

/-- One step of the rebuild of a Till's lowest bucket whose walk is not done. -/
def rebuildStep (s : State) (t b : Nat) : State :=
  match KV.find? (s.till t).rebuild b with
  | none => s
  | some r =>
    if (s.till t).rebuild.any (fun p => p.1 < b && p.2.cursor < s.topSector) then s
    else
      match nextInBucket s t b (2 ^ 20) (r.cursor / 65536) r.cursor with
      | none => rebuildDone (s.modTill t (fun u => { u with rebuild := KV.put u.rebuild b { r with cursor := s.topSector } })) t b
      | some sec =>
        if (s.till t).internalFree < 4 then s
        else
          match takeOrder s (ordKey t 3) with
          | none => s
          | some s1 =>
            (startSecOp (s1.modTill t (fun u => { u with rebuild := KV.put u.rebuild b { r with cursor := sec + 1 } }))
              t sec (.resolve false) {} false (s.regionOf s.maps.rGen sec)).1

/-- REBUILD_STEP (R398). -/
def execRebuildStep (t b : Nat) (s : State) : Host.Outcome State Fault Refusal :=
  if !s.build.hasTill t then .fault .unbuiltPart else .next (if s.alive t then rebuildStep s t b else s)

/-- TILL_RESET: the Till reset of a FAILED Till ends; the fill check passes or fails (R385). -/
def execTillReset (t : Nat) (fillOk : Bool) (s : State) : Host.Outcome State Fault Refusal :=
  if !s.build.hasTill t then .fault .unbuiltPart else
    .next (if (s.till t).fn.st != .failed || (s.till t).role != .reset || (s.xfer? t).isSome then s
      else
        let s1 := resetTill s t
        if fillOk then s1.modTill t (fun u => { u with fn := ⟨.off, false, false, u.fn.last⟩, role := .none, failCause := 0 })
        else (s1.modTill t (fun u => { u with role := .none, failCause := 5 })).note .tillRetired (.till t) [t])

end Sys2Proof.Machine
end

