-- ==== Sys2Proof/Machine/Walks.lean ====
section
/-! DEFINITION. The Auditor's walks over Vault sets and Cellar groups, the Cellar header and preloads (R170 to R176, R201,
R202, R206, R211, R290, R300, R378, R379). -/

namespace Sys2Proof.Machine

/-! ## The rates (R379) -/

/-- The credits of the walks for one Tick. -/
def refillOrders (s : State) : State :=
  let put := fun (m : KV Nat) (k n : Nat) => KV.set m k n 0
  let per := fun (m : KV Nat) (busy : Bool) (walk rate : Nat) =>
    if busy then s.build.tillList.foldl (fun m t => put m (ordKey t walk) rate) m else m
  let rv := s.rawN 0x2080 3
  let m := per [] (!s.au.fore.isEmpty) 0 rv
  let m := per m (!s.au.leave.isEmpty) 1 rv
  let m := per m (s.tills.any (fun u => !u.resolve.isEmpty)) 2 (s.rawN 0x7000 2)
  let m := per m (s.tills.any (fun u => !u.rebuild.isEmpty)) 3 (s.rawN 0x7000 3)
  let m := if s.au.fore.isEmpty then m else put m (ordGroup 0) (s.rawN 0x2080 2)
  let m := if s.au.leave.isEmpty then m else put m (ordGroup 1) (s.rawN 0x2080 2)
  let m := if s.cellarState == 2 then put m (ordGroup 2) (s.rawN 0x7000 1) else m
  let m := if s.au.preload.isSome then put m (ordGroup 3) (s.rawN 0x3F10 7) else m
  let m := if s.transfers.any (fun x => x.planned && x.state == 1) then
      (List.range 16).foldl (fun m b => put m (1024 + b) (s.rawN 0x7000 9)) m else m
  let r := s.rawN 0x7000 0
  let more := fun (c : Nat) => if r == 0 then c else min (c + r) 524288
  { s with
    au := { s.au with orderCred := m }
    tills := s.tills.map (fun u => { u with scrubCredit := more u.scrubCredit }) }

/-! ## The foreclosure walk and the leave walk (R290, R300) -/

/-- The agents of a walk. -/
def Auditor.walkers (a : Auditor) (leave : Bool) : List WalkAgent := if leave then a.leave else a.fore
/-- The Vault cursors of a walk. -/
def Auditor.sets (a : Auditor) (leave : Bool) : KV Nat := if leave then a.leaveSet else a.foreSet
/-- The group cursor of a walk. -/
def Auditor.group (a : Auditor) (leave : Bool) : Nat := if leave then a.leaveGroup else a.foreGroup
/-- Changes a walk. -/
def Auditor.setWalk (a : Auditor) (leave : Bool) (l : List WalkAgent) (m : KV Nat) (g : Nat) : Auditor :=
  if leave then { a with leave := l, leaveSet := m, leaveGroup := g } else { a with fore := l, foreSet := m, foreGroup := g }

/-- Sets of one Till's Vault. -/
def vaultSets : Nat := 16 * 2048
/-- Groups of the whole Cellar. -/
def State.allGroups (s : State) : Nat := 4096 * s.groupCount

/-- Has the Vault phase of the pass ended at every Till. -/
def State.vaultPhaseDone (s : State) (leave : Bool) : Bool :=
  s.build.tillList.all (fun t => !s.walked t || KV.get (s.au.sets leave) t 0 == vaultSets)

/-- Starts the next pass where this one has ended: after the Cellar phase, which is empty while the Cellar is not ON. -/
def nextPass (s : State) (leave : Bool) : State :=
  if s.vaultPhaseDone leave && (s.cellarState != 2 || s.allGroups ≤ s.au.group leave) then
    { s with au := s.au.setWalk leave (s.au.walkers leave) [] 0 }
  else s

/-- Does a walk act on an entry: it names an agent of the walk, for a leave with a line in S or X. -/
def State.walkHits (s : State) (leave : Bool) (e : Ent) : Bool :=
  if leave then e.lines.any (fun y => y == .s || y == .x) && s.au.leave.any (fun a => (s.named e).contains a.aid.toNat)
  else !(s.deadIn e).isEmpty

/-- The kind of a walk's operations. -/
def walkKind (leave : Bool) : SecKind := if leave then .leave else .foreclose

/-- The sectors of a set that a walk must take. -/
def State.walkSectors (s : State) (leave : Bool) (t bank set : Nat) : List Nat :=
  (((s.till t).set bank set).filter (fun x => !x.2.2.empty && s.walkHits leave x.2.2)).map (fun x => sectorFrom bank set x.2.1)
    |>.filter (fun sec => !((s.till t).secOps.any (fun q => q.2.sector == sec && q.2.kind == walkKind leave)))

/-- One set of the Vault phase. -/
def walkSet (s : State) (leave : Bool) (t bank set : Nat) : State :=
  let pos := bank * 2048 + set
  if !s.walked t || 2048 ≤ set || 16 ≤ bank || KV.get (s.au.sets leave) t 0 != pos || (s.au.walkers leave).isEmpty then s
  else
    let s0 := readSet s t bank set
    let l := s0.walkSectors leave t bank set
    if (s0.till t).internalFree < 4 * l.length then s
    else
      match takeOrder s0 (ordKey t (bit leave)) with
      | none => s
      | some s1 =>
        let s2 := l.foldl (fun s sec => (startSecOp s t sec (walkKind leave) {} false (s.regionOf s.maps.rGen sec)).1) s1
        let w := (s2.au.walkers leave).map (fun (x : WalkAgent) =>
          { x with vaultLeft := x.vaultLeft.map (fun p => if p.1 == t then (p.1, p.2 - 1) else p) })
        nextPass { s2 with au := s2.au.setWalk leave w (KV.put (s2.au.sets leave) t (pos + 1)) (s2.au.group leave) } leave

/-- Starts a group operation on a group given by its segment and number (R177). -/
def startGroupAt (s : State) (t p g : Nat) (k : GroupKind) : State :=
  let (s1, f) := takeInternal s t (BitVec.ofNat 38 (s.groupLine p g)) (.group 0)
  runGroups (s1.modTill t (fun u => { u with
    groups := (u.groups.map (fun h => if h.p == p && h.g == g then { h with disturbed := true } else h))
      ++ [⟨p, g, k, f, false, false⟩] })) t

/-- One group of the Cellar phase. -/
def walkGroup (s : State) (leave : Bool) (t p g : Nat) : State :=
  if s.cellarState != 2 || !s.vaultPhaseDone leave || p * s.groupCount + g != s.au.group leave || s.groupCount ≤ g
      || s.liveTill p != t || (s.au.walkers leave).isEmpty || (s.till t).internalFree == 0 then s
  else
    match takeOrder s (ordGroup (bit leave)) with
    | none => s
    | some s1 =>
      let s2 := startGroupAt s1 t p g (.scan leave)
      let w := (s2.au.walkers leave).map (fun (x : WalkAgent) => { x with groupsLeft := x.groupsLeft - 1 })
      nextPass { s2 with au := s2.au.setWalk leave w (s2.au.sets leave) (s2.au.group leave + 1) } leave

/-- One visit of a walk. -/
def walkVisit (s : State) (leave : Bool) (t : Nat) (pos : WalkAt) : State :=
  if !s.alive t then s else
    match pos with
    | .vault bank set => walkSet s leave t bank set
    | .cellar p g => walkGroup s leave t p g

/-- FORECLOSURE_WALK (R300). -/
def execForeclosureWalk (t : Nat) (pos : WalkAt) (s : State) : Host.Outcome State Fault Refusal :=
  if !s.build.hasTill t then .fault .unbuiltPart else .next (settleFails (walkVisit s false t pos))

/-- LEAVE_WALK (R290). -/
def execLeaveWalk (t : Nat) (pos : WalkAt) (s : State) : Host.Outcome State Fault Refusal :=
  if !s.build.hasTill t then .fault .unbuiltPart else .next (settleFails (walkVisit s true t pos))

/-! ## The Retentive clean walk (R206) -/

/-- Does a Till's Vault hold an entry of the region. -/
def State.holdsRegion (s : State) (n : Nat) : Bool :=
  s.tills.any (fun u => u.vault.any (fun p =>
    let e := decVault p.2
    !e.2.2.empty && s.regionOf s.maps.rGen (sectorFrom (p.1 / 32768) (p.1 / 16 % 2048) e.2.1) == n))

/-- The Tills that the walk goes through, in order. -/
def State.walkTills (s : State) : List Nat := s.build.tillList.filter s.walked

/-- One set of the clean walk of the lowest pending region; its dirty entries are written through (R206). A region that
holds no entry is clean at once. -/
def cleanVisit (s : State) (t bank set : Nat) : State :=
  match s.au.clean with
  | [] => s
  | (n, k) :: _ =>
    let total := s.walkTills.length * vaultSets
    if !(s.holdsRegion n) then { s with au := { s.au with clean := KV.del s.au.clean n } }
    else if s.cellarState != 2 || s.walkTills.getD (k / vaultSets) 99 != t || k % vaultSets != bank * 2048 + set then s
    else
      let l := (((s.till t).set bank set).filter (fun x => !x.2.2.empty && !x.2.2.idle && x.2.2.dirty)).map
          (fun x => sectorFrom bank set x.2.1) |>.filter (fun sec => s.regionOf s.maps.rGen sec == n)
      if (s.till t).internalFree < 4 * l.length then s
      else
        let s1 := l.foldl (fun s sec => (startSecOp s t sec .retentive {} false n).1) s
        if k + 1 < total then { s1 with au := { s1.au with clean := KV.put s1.au.clean n (k + 1) } }
        else { s1 with au := { s1.au with clean := KV.del s1.au.clean n } }

/-- RETENTIVE_CLEAN_WALK (R206). -/
def execRetentiveCleanWalk (t : Nat) (pos : WalkAt) (s : State) : Host.Outcome State Fault Refusal :=
  if !s.build.hasTill t then .fault .unbuiltPart else
    .next (if !s.alive t then s else
      match pos with
      | .vault bank set => settleFails (cleanVisit s t bank set)
      | .cellar _ _ => s)

/-! ## The Cellar header (R175, R176) -/

/-- One byte of CRC-32 (R175). -/
def crcByte (c : Nat) (b : Nat) : Nat :=
  (List.range 8).foldl (fun c _ => if c % 2 == 1 then (c / 2) ^^^ 0xEDB88320 else c / 2) (c ^^^ b)

/-- CRC-32 of IEEE 802.3 (R175). -/
def crc32 (l : List Nat) : Nat := (l.foldl crcByte 0xFFFFFFFF) ^^^ 0xFFFFFFFF

/-- The bytes of a line, byte 0 first. -/
def lineBytes (d : LineData) (n : Nat) : List Nat := (List.range n).map (fun i => d.toNat / 2 ^ (8 * i) % 256)

/-- A number from bytes, the first the least significant. -/
def ofBytes (l : List Nat) : Nat := l.foldr (fun b n => b + 256 * n) 0

/-- The header line of a current generation and a floor. -/
def headerLine (cur floor : Nat) : LineData :=
  let body := [0x52, 0x4C, 0x43, 0x44, cur, floor] ++ List.replicate 54 0
  BitVec.ofNat 512 (ofBytes body + crc32 body * 2 ^ 480)

/-- CUR and FLOOR of a header whose MAGIC and CRC are right. -/
def readHeader (d : LineData) : Option (Nat × Nat) :=
  if d.toNat % 2 ^ 32 == 0x44434C52 && d.toNat / 2 ^ 480 == crc32 (lineBytes d 60) then
    some (d.toNat / 2 ^ 32 % 256, d.toNat / 2 ^ 40 % 256)
  else none

/-- The generation after one, with 0 skipped. -/
def nextGen (c : Nat) : Nat := if (c + 1) % 256 == 0 then 1 else (c + 1) % 256

/-- Writes the header through the Till that owns segment 0. -/
def writeHeader (s : State) (cur floor : Nat) : State :=
  let t := s.liveTill 0
  let a := s.groupLine 0 0
  let (s1, f) := takeInternal s t (BitVec.ofNat 38 a) .access
  writeBucket (s1.modFolio t f (fun x => { x with phase := .done })) t f a (headerLine cur floor)

/-- The bytes of the Cellar's size (R170). -/
def State.cellarBytes (s : State) : Nat := 2 ^ (30 + s.rawN 0x3F00 1)

/-- Does the save area overlap the carve-out (R171). -/
def State.saveOverlaps (s : State) : Bool :=
  let b := s.rawN 0x3F00 0
  let a := s.rawN 0x8051 0
  decide (a < b + s.cellarBytes) && decide (b < a + 2 ^ 20)

/-- The checks of R171. -/
def State.cellarConfigOk (s : State) : Bool :=
  s.rawN 0x3F00 0 % s.cellarBytes == 0 && decide (s.rawN 0x3F00 0 + s.cellarBytes ≤ 2 ^ 44)
    && !(s.rawN 0x8051 1 == 1 && s.saveOverlaps)

/-- A write of 1 to CELLAR_ENABLE, with the header that the Home reads (R171, R176). -/
def cellarEnable (s : State) (header : LineData) : State :=
  if s.cellarState != 0 then s
  else if !s.cellarConfigOk then (s.setRawN 0x3F00 0xE 3).note .cellarConfigBad .ch []
  else
    let s1 := { s.setRawN 0x3F00 0xE 0 with cellarLocked := true }
    match readHeader header with
    | none => { s1 with cellarState := 1, cellarFloor := 1 }
    | some (cur, floor) =>
      if nextGen cur == floor then { s1 with cellarState := 1, cellarFloor := nextGen cur }
      else writeHeader { s1 with cellarState := 2, cellarGen := nextGen cur, cellarFloor := floor } (nextGen cur) floor

/-- CELLAR_CLEARING_DONE: the walk has written every slot to zero; CUR = FLOOR = the new generation, and the Cellar is ON (R176). -/
def execCellarClearingDone (s : State) : Host.Outcome State Fault Refusal :=
  .next (if s.cellarState != 1 then s
    else
      let s1 := s.send (.cellarZeroed (s.rawN 0x3F00 0) (2 ^ (30 + s.rawN 0x3F00 1)))
      writeHeader { s1 with cellarState := 2, cellarGen := s.cellarFloor } s.cellarFloor s.cellarFloor)

/-! ## The Cellar walk (R201, R202, R378) -/

/-- The Cellar walk of every group, and the segment visit of a bucket that is REBUILDING (R201, R398). -/
def cellarVisit (s : State) (t p g : Nat) : State :=
  if s.cellarState != 2 || s.groupCount ≤ g || 4096 ≤ p || s.liveTill p != t || (s.till t).internalFree == 0 then s
  else
    let r := KV.find? (s.till t).rebuild p
    let again := r.any (fun r => r.visited == g)
    let walk := p * s.groupCount + g == s.au.cellarCursor
    if !again && !walk then s
    else
      match takeOrder s (ordGroup 2) with
      | none => s
      | some s1 =>
        let s2 := startGroupAt s1 t p g (.visit again)
        let s3 := if again then
            rebuildDone (s2.modTill t (fun u => { u with rebuild := KV.mod u.rebuild p (fun r => { r with visited := r.visited + 1 }) })) t p
          else s2
        if !walk then s3
        else if p * s.groupCount + g + 1 < s.allGroups then
          { s3 with au := { s3.au with cellarCursor := s3.au.cellarCursor + 1 } }
        else
          let same := s3.au.passGen == s3.cellarGen
          let s4 := { s3 with au := { s3.au with cellarCursor := 0, passGen := s3.cellarGen } }
          if same && s4.cellarFloor != s4.cellarGen then writeHeader { s4 with cellarFloor := s4.cellarGen } s4.cellarGen s4.cellarGen
          else s4

/-- CELLAR_VISIT (R201). -/
def execCellarVisit (t p g : Nat) (s : State) : Host.Outcome State Fault Refusal :=
  if !s.build.hasTill t then .fault .unbuiltPart else .next (if s.alive t then settleFails (cellarVisit s t p g) else s)

/-! ## Preloads (R211) -/

/-- A write to PRELOAD (R211; DESIGN CHOICE, log entry 28). -/
def preload (s : State) (mode : Nat) : State :=
  let a := s.rawN 0x3F10 1
  let b := s.rawN 0x3F10 2
  if s.au.preload.isSome then s.setRawN 0x3F10 8 1
  else if mode == 0 || 3 < mode || (mode != 1 && s.build != .h1L) || a % 4096 != 0 || b % 4096 != 0 || b ≤ a || 2 ^ 44 < b then
    s.setRawN 0x3F10 8 3
  else { (s.setRawN 0x3F10 8 0).setRawN 0x3F10 3 1 with au := { s.au with preload := some (mode, a / 256, b / 256) } }

/-- PRELOAD_SECTOR: the next sector of the range at its owning Till (R211). -/
def preloadSector (s : State) (t sec : Nat) : State :=
  match s.au.preload with
  | none => s
  | some (m, next, last) =>
    if sec != next || s.liveTill (bucketOfSector sec) != t || (s.till t).internalFree < 4 then s
    else
      match takeOrder s (ordGroup 3) with
      | none => s
      | some s1 =>
        let s2 := (startSecOp s1 t sec (.preload m) {} false (s.regionOf s.maps.rGen sec)).1
        if next + 1 < last then { s2 with au := { s2.au with preload := some (m, next + 1, last) } }
        else { s2.setRawN 0x3F10 3 2 with au := { s2.au with preload := none } }

/-- PRELOAD_SECTOR (R211). -/
def execPreloadSector (t : Nat) (sec : BitVec 36) (s : State) : Host.Outcome State Fault Refusal :=
  if !s.build.hasTill t then .fault .unbuiltPart else .next (if s.alive t then settleFails (preloadSector s t sec.toNat) else s)

end Sys2Proof.Machine
end

