-- ==== Sys2Proof/Machine/Ports.lean ====
section
/-! DEFINITION. The commands at a Till: the answers of the memory ports, acceptance, lookups, retirements, loans, and the
timers of receipts, leases and monitors (R114, R121, R130, R141, R233, R256, R261, R265, R381, R518 to R522). -/

namespace Sys2Proof.Machine

/-! ## What ends every command at a Till -/

/-- The RELEASEs that wait for earlier claim-holder writes of their agent try again (R255). -/
def kickReleases (s : State) (t : Nat) : State :=
  (List.filter (fun p => p.2.opc == .release && p.2.phase == .data && p.2.waits && !p.2.sent) (s.till t).folios).foldl
    (fun s p => match s.folio? t p.1 with | some x => releaseAccess s t p.1 x | none => s) s


/-- The Till takes one answer to a read. -/
def takeRead (s : State) (m t f line : Nat) (cancelled error : Bool) (d : RData) : State :=
  readAnswer (if error then s else portSample s m t f) m t f line cancelled error d

/-- The Till processes a message that waited while it was halted (R479). -/
def niAct (t : Nat) (s : State) (m : NiMsg) : State :=
  match m with
  | .read m f line c e d => takeRead s m t f line c e d
  | .written m f mop lost => writeAnswer s m t f mop lost
  | .response f o a lines => respond s t f o a lines false

/-- A Till that is no longer halted processes the messages that waited. -/
def drainNi (s : State) (t : Nat) : State :=
  if (s.till t).halted.isSome || (s.till t).ni.isEmpty then s
  else (s.till t).ni.foldl (niAct t) (s.modTill t (fun u => { u with ni := [] }))

/-- A Till has processed a message or accepted a flit (R381): what waited for it goes on, and a Till that met a cause of
R393 fails. -/
def worked (s : State) (t : Nat) : State :=
  settleFails (kickReleases ((drainNi s t).modTill t (fun u => { u with idleTicks := 0 })) t)

/-! ## Memory answers (R518, R519, R522) -/

/-- The Till of a message at its NI: it discards at a FAILED Till, keeps the message at a halted one, and otherwise the
Till processes it (R393, R479). -/
def atTill (s : State) (t : Nat) (keep : NiMsg) (act : State → State) : State :=
  if (s.till t).fn.st == .failed || (s.till t).fn.st == .off || s.fatal then s
  else if (s.till t).halted.isSome then s.modTill t (fun u => { u with ni := u.ni ++ [keep] })
  else worked (act (drainNi s t)) t

/-- A read answer with its silicon fault (R366): the bank and set of the Folio's sector are read as its lookup goes on. -/
def readArrives (s : State) (m t f line : Nat) (cancelled error : Bool) (d : RData) (u : Upset) : State :=
  match s.folio? t f with
  | none => s
  | some x =>
    let sec := sectorOf x.laddr
    let s1 := match u with
      | .dataBuffer => s.note .dataBufferUe (.till t) [x.laddr.toNat] (some x.aid)
      | _ => upsetAt s t f (bankOf sec) (setOf sec) u
    let s2 := if x.phase == .lookup then readSet s1 t (bankOf sec) (setOf sec) else s1
    takeRead s2 m t f line cancelled error (if u == .dataBuffer then { d with poison := true } else d)

/-- MRDATA: one line, CANCELLED or ERROR comes back (R518). -/
def execMrdata (m t f line : Nat) (cancelled error poison writtenOff cellared : Bool) (data : LineData) (u : Upset)
    (s : State) : Host.Outcome State Fault Refusal :=
  if !s.build.hasPort m || !s.build.hasTill t then .fault .unbuiltPart else
    let d : RData := ⟨data, poison, writtenOff, cellared, true⟩
    let s1 := s.packet (.port m) (if cancelled then 2 else 3) 1 (.till t)
    .next (atTill s1 t (.read m f line cancelled error d) (fun s => readArrives s m t f line cancelled error d u))

/-- MCMP: a write is acknowledged OK or LOST (R519, R270). -/
def execMcmp (m : Nat) (lost : Bool) (mop : Mop) (t f : Nat) (s : State) : Host.Outcome State Fault Refusal :=
  if !s.build.hasPort m || !s.build.hasTill t then .fault .unbuiltPart else
    .next (atTill (s.packet (.port m) 2 1 (.till t)) t (.written m f mop lost) (fun s => writeAnswer s m t f mop lost))

/-- MCRED: credits come back to a Till (R520). -/
def execMcred (m t : Nat) (dataKind : Bool) (count : Nat) (s : State) : Host.Outcome State Fault Refusal :=
  if !s.build.hasPort m || !s.build.hasTill t then .fault .unbuiltPart else
    .next (if (s.till t).fn.st == .failed || s.boot == .off then s
      else
        let s1 := s.packet (.port m) 2 1 (.till t)
        if s1.alive t then worked (credReturn s1 m t dataKind count) t else credReturn s1 m t dataKind count)

/-- CHSTAT_CHANGE: the status of the channels of a port (R516, R521). -/
def execChstatChange (m : Nat) (level : BitVec 16) (s : State) : Host.Outcome State Fault Refusal :=
  if !s.build.hasPort m then .fault .unbuiltPart else .next { s with chstat := KV.set s.chstat m level 0 }

/-- MEM_WRITE_TIMEOUT: a write that is due is handled as lost (R522). -/
def execMemWriteTimeout (m t f : Nat) (mop : Mop) (s : State) : Host.Outcome State Fault Refusal :=
  if !s.build.hasPort m || !s.build.hasTill t then .fault .unbuiltPart else
    .next (match s.openWrite? m t f mop with
      | some w =>
        if s.alive t && s.due w.tick (s.rawN 0x2090 0) then
          worked (writeAnswer (s.bump ⟨0x2091 + m, 3, 32⟩) m t f mop true) t
        else s
      | none => s)

/-- MEM_READ_TIMEOUT: a read that is due is handled as an ERROR read (R522). The data is a free value (DESIGN CHOICE, log entry 6). -/
def execMemReadTimeout (m t f line : Nat) (s : State) : Host.Outcome State Fault Refusal :=
  if !s.build.hasPort m || !s.build.hasTill t then .fault .unbuiltPart else
    .next (match (s.folio? t f).bind (·.read) with
      | some r =>
        if s.alive t && r.port == m && r.lines.contains line && s.due r.tick (s.rawN 0x2090 1)
            && !((s.till t).memQ.any (fun a => a.folio == f && (a.mop == .mrd || a.mop == .crd))) then
          worked (takeRead (s.bump ⟨0x2091 + m, 3, 32⟩) m t f line false true ⟨s.free, true, false, true, true⟩).freeUsed t
        else s
      | none => s)

/-! ## Acceptance and lookup (R114, R121) -/

/-- Q_FLIT_ACCEPTED: the Till accepts the oldest Q flit of a Wicket (R121). -/
def execQFlitAccepted (t w : Nat) (s : State) : Host.Outcome State Fault Refusal :=
  if !s.build.hasTill t || !s.build.hasWicket w then .fault .unbuiltPart else
    .next (match s.net.q.find? (fun q => q.till == t && q.w == w) with
      | some q =>
        if s.alive t then
          worked (accept { s with net := { s.net with q := dropFirst (fun p => p.till == t && p.w == w) s.net.q } } q) t
        else s
      | none => s)

/-- The lookup of a Folio in LOOKUP: a head's request, a coordinator, or the operation that the head belongs to. -/
def lookedUp (s : State) (t f : Nat) : State :=
  match s.folio? t f with
  | none => s
  | some x =>
    match x.job with
    | .sector k _ => opAct s t k
    | .request =>
      if x.phase != .lookup then s
      else if x.opc.isClaim then (if (s.till t).releases.any (fun r => r.folio == some f) then s else claimLookup s t f x)
      else if x.head then lookup s t f
      else s
    | _ => s

/-- Has a lookup left the Folio, the operations and the Claims of a Till as they were: it still waits, and the Till has made
no progress (R381). -/
def State.sameWork (s s1 : State) (t f : Nat) : Bool :=
  s1.folio? t f == s.folio? t f && (s1.till t).secOps == (s.till t).secOps && (s1.till t).gathers == (s.till t).gathers

/-- VAULT_LOOKUP_DONE: a lookup completes, with the silicon fault that it meets; none completes in a bank that a locked
sequence holds (R114, R361, R362, R366). -/
def execVaultLookupDone (t f : Nat) (u : Upset) (s : State) : Host.Outcome State Fault Refusal :=
  if !s.build.hasTill t then .fault .unbuiltPart else
    .next (match s.folio? t f with
      | some x =>
        if s.alive t && x.phase == .lookup && !(x.read.any (·.crd)) && !(KV.get (s.till t).banks (bankOf (sectorOf x.laddr)) {}).locked then
          let sec := sectorOf x.laddr
          let s1 := lookedUp (readSet (upsetAt s t f (bankOf sec) (setOf sec) u) t (bankOf sec) (setOf sec)) t f
          if s.sameWork s1 t f then s1 else worked s1 t
        else s
      | none => s)

/-- FOLIO_READ_OUT_DONE: a DONE Folio's data has left, and the Folio may retire (R114). -/
def execFolioReadOutDone (t f : Nat) (s : State) : Host.Outcome State Fault Refusal :=
  if !s.build.hasTill t then .fault .unbuiltPart else
    .next (match s.folio? t f with
      | some x =>
        if s.alive t && x.phase == .done && x.readOut then
          worked (kickData (tryRetire (s.modFolio t f (fun y => { y with readOut := false })) t f) t) t
        else s
      | none => s)

/-- FORECLOSED_RESPONSE (R233). -/
def execForeclosedResponse (t w : Nat) (s : State) : Host.Outcome State Fault Refusal :=
  if !s.build.hasTill t || !s.build.hasWicket w then .fault .unbuiltPart
  else .next (if s.alive t then worked (takeForeclosed s t w) t else s)

/-- LOAN_REQUEST: the Till keeps the request and grants what it can (R130). -/
def execLoanRequest (t w : Nat) (s : State) : Host.Outcome State Fault Refusal :=
  if !s.build.hasTill t || !s.build.hasWicket w then .fault .unbuiltPart else
    .next (match s.frontW w t with
      | some (.loanReq d) =>
        if s.alive t then
          worked (serveLoans ((s.popW w t).modTill t (fun u => { u with loanReqs := u.loanReqs ++ [(w, d)] })) t) t
        else s
      | _ => s)

/-! ## Timers -/

/-- Is a resend on its way for a receipt: it has been redeemed. -/
def State.resending (s : State) (t f : Nat) : Bool :=
  s.net.q.any (fun q => q.till == t && q.crd == .receipt && q.rcpt == f)
    || s.wickets.any (fun x => x.entries.any (fun e => e.till == t && e.rcpt == some f))

/-- RECEIPT_TIMEOUT: an unredeemed receipt that is due expires: its Folio frees and its credit goes back (R141). -/
def execReceiptTimeout (t f : Nat) (s : State) : Host.Outcome State Fault Refusal :=
  if !s.build.hasTill t then .fault .unbuiltPart else
    .next (match (s.till t).receipts.find? (fun r => r.folio == f) with
      | some r =>
        if s.alive t && s.due r.tick (s.rawN 0x4012 0) && !s.resending t f then
          let s1 := (s.modTill t (fun u => { u with receipts := dropFirst (· == r) u.receipts })).modFolio t f
            (fun y => { y with outcome := .fail })
          let s2 := retire ((s1.bump ⟨0x4012, 3, 32⟩).note .receiptExpired (.till t) [r.folio] (some r.aid)) t f
          let s3 : State := { s2 with ws := { s2.ws with
            handles := List.filter (fun p => !(p.2.till == t && p.2.folio == f)) s2.ws.handles } }
          worked (s3.build.tillList.foldl retryHeld s3) t
        else s
      | none => s)

/-- LEASE_EXPIRY: a lease that is due ends (R250, R256). -/
def execLeaseExpiry (t i : Nat) (s : State) : Host.Outcome State Fault Refusal :=
  if !s.build.hasTill t then .fault .unbuiltPart else
    .next (match KV.find? (s.till t).claims i with
      | some c => if s.alive t && c.expiry.any (· ≤ s.time.tick) then worked (expire s t i c) t else s
      | none => s)

/-- EXPIRED_HOLD: an EXPIRED record that is due is deleted (R256). -/
def execExpiredHold (t i : Nat) (s : State) : Host.Outcome State Fault Refusal :=
  if !s.build.hasTill t then .fault .unbuiltPart else
    .next (match KV.find? (s.till t).claims i with
      | some c =>
        if s.alive t && c.state == .expired && s.due c.expiredTick (s.rawN 0x4101 1) then worked (deleteRecord s t i c) t else s
      | none => s)

/-- CLAIM_RELEASE_DONE: the rewrite of a page is complete (R254). -/
def execClaimReleaseDone (t : Nat) (page : BitVec 32) (s : State) : Host.Outcome State Fault Refusal :=
  if !s.build.hasTill t then .fault .unbuiltPart
  else .next (if s.alive t then worked (releaseDone s t page.toNat) t else s)

/-- RSV_TIMEOUT: a monitor that is due is cleared (R261). -/
def execRsvTimeout (t i : Nat) (s : State) : Host.Outcome State Fault Refusal :=
  if !s.build.hasTill t then .fault .unbuiltPart else
    .next (match KV.find? (s.till t).monitors i with
      | some m =>
        if s.alive t && s.due m.armTick (s.rawN 0x4200 0) then
          (s.modTill t (fun u => { u with monitors := KV.del u.monitors i })).bump ⟨0x4200, 2, 32⟩
        else s
      | none => s)

/-- POST_DRAIN_DELAY: an entry that has waited its delay drains (R265). -/
def execPostDrainDelay (e : Nat) (s : State) : Host.Outcome State Fault Refusal :=
  .next (match KV.find? s.ws.post e with
    | some p => if p.cclk + s.rawN 0x4300 0 ≤ s.time.cclk then drainPost s e else s
    | none => s)

/-- TILL_WATCHDOG: it bites after TILL_WD_TICKS Ticks without progress (R381). -/
def execTillWatchdog (t : Nat) (s : State) : Host.Outcome State Fault Refusal :=
  if !s.build.hasTill t then .fault .unbuiltPart else
    .next (if s.alive t && s.rawN 0x7000 7 ≤ (s.till t).idleTicks then failTill s t 1 else s)

/-! ## Orders of the Auditor -/

/-- RESOLUTION_WALK (R371). -/
def execResolutionWalk (t i : Nat) (s : State) : Host.Outcome State Fault Refusal :=
  if !s.build.hasTill t then .fault .unbuiltPart else .next (if s.alive t then worked (resolveStep s t i) t else s)

/-- SCRUB_RUN: one run, if the Till's credit allows it and the rotation stands at the bank (R377). -/
def execScrubRun (t bank : Nat) (upsets : List (Nat × VBits)) (s : State) : Host.Outcome State Fault Refusal :=
  if !s.build.hasTill t then .fault .unbuiltPart
  else .next (if s.alive t && (s.till t).scrubBank == bank && 1024 ≤ (s.till t).scrubCredit then
    worked (scrubRun s t bank upsets) t else s)

end Sys2Proof.Machine
end

