-- ==== Sys2Proof/Machine/Exchange.lean ====
section
/-! DEFINITION. The Exchange: routes and their commit, links, the stall watchdog and the Vault bank arbiters (R313 to R339,
R358 to R363). -/

namespace Sys2Proof.Machine

/-! ## Positions and routes (R314, R322, R323) -/

/-- The node ID at the far end of the link that leaves a position by hop code `d`: 0 +X, 1 −X, 2 +Y, 3 −Y (R314). -/
def stepPos (n p d : Nat) : Nat :=
  let x := p % 8
  let y := p / 8
  match d with
  | 0 => 8 * y + (x + 1) % n
  | 1 => 8 * y + (x + n - 1) % n
  | 2 => 8 * ((y + 1) % n) + x
  | _ => 8 * ((y + n - 1) % n) + x

/-- The link of a hop: 2N for the +X link of node N, and 2N + 1 for its +Y link (R339). -/
def linkOf (n p d : Nat) : Nat :=
  match d with
  | 0 => 2 * p
  | 1 => 2 * stepPos n p 1
  | 2 => 2 * p + 1
  | _ => 2 * stepPos n p 3 + 1

/-- The hops of one ring from coordinate `a` to `b`: the shorter way, + where the two are equal; each hop with its
direction and whether it or an earlier one crosses the dateline (R323). -/
def ringHops (n plus a b : Nat) : List (Nat × Nat) :=
  let up := (b + n - a) % n
  if up == 0 then []
  else if 2 * up ≤ n then (List.range up).map (fun k => (plus, bit (decide (n ≤ a + k + 1))))
  else (List.range (n - up)).map (fun k => (plus + 1, bit (decide (a ≤ k))))

/-- A route entry (R322) from its hops. -/
def routeWord (l : List (Nat × Nat)) : Nat :=
  2 ^ 31 + place l.length 3 28 + (l.mapIdx (fun i h => h.2 * 2 ^ (22 + i) + h.1 * 2 ^ (4 + 3 * i))).sum

/-- The default route of R323; 0 for the owner itself and for a destination that is not built. -/
def defaultRoute (b : Build) (src dst : Nat) : Nat :=
  if src == dst || (b.nodeAt src).isNone || (b.nodeAt dst).isNone then 0
  else routeWord (ringHops b.side 0 (src % 8) (dst % 8) ++ ringHops b.side 2 (src / 8) (dst / 8))

/-- The live route entry. -/
def State.routeLive (s : State) (src dst : Nat) : Nat :=
  ((KV.find? s.chart (ekey (0x5100 + src) dst)).map (·.toNat)).getD (defaultRoute s.build src dst)
/-- The shadow route entry. -/
def State.routeShadow (s : State) (src dst : Nat) : Nat :=
  ((KV.find? s.chart (ekey (0x5100 + src) (0x40 + dst))).map (·.toNat)).getD (defaultRoute s.build src dst)
/-- Stores a route entry: live at subindex `dst`, shadow at 0x40 + `dst`. -/
def setRoute (s : State) (src j v : Nat) : State :=
  { s with chart := KV.set s.chart (ekey (0x5100 + src) j) (BitVec.ofNat 64 v) (BitVec.ofNat 64 (defaultRoute s.build src (j % 64))) }

/-- HOPS, hop code and VC of an entry. -/
def routeHops (v : Nat) : Nat := v / 2 ^ 28 % 8
def hopCode (v i : Nat) : Nat := v / 2 ^ (4 + 3 * i) % 8
def hopVc (v i : Nat) : Nat := v / 2 ^ (22 + i) % 2

/-- The positions that a route leaves, with hop code and VC, and the position it ends at (R317). -/
def walkRoute (n : Nat) (src v : Nat) : List (Nat × Nat × Nat) × Nat :=
  (List.range (routeHops v)).foldl (fun m i =>
    (m.1 ++ [(m.2, hopCode v i, hopVc v i)], stepPos n m.2 (hopCode v i))) ([], src)

/-- The links that a route crosses. -/
def routeLinks (n src v : Nat) : List Nat := (walkRoute n src v).1.map (fun h => linkOf n h.1 h.2.1)

/-- The pairs of built nodes that a table routes between. -/
def routePairs (b : Build) : List (Nat × Nat) :=
  b.nodeIds.flatMap (fun x => (b.nodeIds.filter (· != x)).map (fun d => (x, d)))

/-- IN_USE: some live route crosses the link (R333). -/
def State.linkUsed (s : State) (l : Nat) : Bool :=
  (routePairs s.build).any (fun p => (routeLinks s.build.side p.1 (s.routeLive p.1 p.2)).contains l)

/-! ## Route commits (R330, R335, R336) -/

/-- The edges of the channel dependency graph of one route. -/
def routeEdges (n src v : Nat) : List (Nat × Nat) :=
  let l := (walkRoute n src v).1.map (fun h => (h.1 * 4 + h.2.1) * 2 + h.2.2)
  l.zip (l.drop 1)

/-- Removes the edges that lie on no cycle's way in or out, over and over. -/
def trimEdges : Nat → List (Nat × Nat) → List (Nat × Nat)
  | 0, l => l
  | n + 1, l =>
    let l1 := l.filter (fun e => l.any (fun g => g.1 == e.2) && l.any (fun g => g.2 == e.1))
    if l1.length == l.length then l else trimEdges n l1

/-- The channels that can be reached. -/
def reachable (l : List (Nat × Nat)) : Nat → List Nat → List Nat
  | 0, r => r
  | n + 1, r =>
    let more := ((l.filter (fun e => r.contains e.1 && !r.contains e.2)).map (·.2)).eraseDups
    if more.isEmpty then r else reachable l n (r ++ more)

/-- The failure of a check over the shadow tables, lowest source and destination first. -/
def findRoute (b : Build) (all : Bool) (bad : Nat → Nat → Bool) : Option (Nat × Nat) :=
  if all then
    (b.nodeIds.flatMap (fun x => (List.range 64).map (fun d => (x, d)))).find? (fun p => bad p.1 p.2)
  else (routePairs b).find? (fun p => bad p.1 p.2)

/-- The first failure of R335: check, source and destination. -/
def routeFailure (s : State) : Option (Nat × Nat × Nat) :=
  let b := s.build
  let n := b.side
  let w := s.routeShadow
  let at_ := fun (k : Nat) (all : Bool) (bad : Nat → Nat → Bool) => (findRoute b all bad).map (fun p => (k, p.1, p.2))
  let c1 := at_ 1 true (fun x d => (w x d / 2 ^ 31 == 1) != ((b.nodeAt d).isSome && x != d))
  let c2 := at_ 2 false (fun x d => routeHops (w x d) == 0 || routeHops (w x d) == 7
    || (List.range (routeHops (w x d))).any (fun i => decide (3 < hopCode (w x d) i)))
  let c3 := at_ 3 false (fun x d => (walkRoute n x (w x d)).2 != d)
  let c4 := at_ 4 false (fun x d => (List.range (routeHops (w x d) - 1)).any (fun i =>
    hopCode (w x d) i != hopCode (w x d) (i + 1) && hopCode (w x d) i / 2 == hopCode (w x d) (i + 1) / 2))
  let c5 := at_ 5 false (fun x d => (routeLinks n x (w x d)).any (fun l => decide (2 ≤ (KV.get s.exch.links l {}).state)))
  let edges := fun (x d : Nat) => routeEdges n x (w x d)
  let c6 := fun (_ : Unit) =>
    let core := trimEdges 600 ((routePairs b).flatMap (fun p => edges p.1 p.2)).eraseDups
    let cyc := core.filter (fun e => (reachable core 600 [e.2]).contains e.1)
    if cyc.isEmpty then none else at_ 6 false (fun x d => (edges x d).any cyc.contains)
  c1.orElse fun _ => c2.orElse fun _ => c3.orElse fun _ => c4.orElse fun _ => c5.orElse c6

/-- ROUTE_COMMIT (R335, R336): BUSY, INVALID with ROUTE_FAIL, OK at once, or the fenced switch of the changed entries. -/
def routeCommit (s : State) : State :=
  if s.exch.routeBusy then s.setRawN 0x5000 1 1
  else
    match routeFailure s with
    | some (k, x, d) => (s.setRawN 0x5000 3 (k * 2 ^ 12 + x * 64 + d)).setRawN 0x5000 1 3
    | none =>
      let l := (routePairs s.build).filter (fun p => s.routeLive p.1 p.2 != s.routeShadow p.1 p.2)
      let s0 := s.setRawN 0x5000 3 0
      if l.isEmpty then s0.setRawN 0x5000 1 0
      else
        let s1 := l.foldl (fun s p => (List.range 5).foldl (fun s c => s.flit p.1 c 1 p.2) s) s0
        { s1.setRawN 0x5000 1 1 with exch := { s1.exch with
            routeBusy := true, routeSteps := l.map (fun p => ⟨p.1, p.2, [0, 1, 2, 3, 4], [], []⟩) } }

/-- Changes the step of an entry. -/
def State.modStep (s : State) (src dst : Nat) (f : RouteStep → RouteStep) : State :=
  { s with exch := { s.exch with routeSteps := s.exch.routeSteps.map (fun r => if r.src == src && r.dst == dst then f r else r) } }

/-- ROUTE_MARK: the destination answers a MARK (R336, step 2). -/
def execRouteMark (src dst cls : Nat) (s : State) : Host.Outcome State Fault Refusal :=
  if (s.build.nodeAt src).isNone || (s.build.nodeAt dst).isNone then .fault .unbuiltPart else
    .next (if s.exch.routeSteps.any (fun r => r.src == src && r.dst == dst && r.marks.contains cls) then
      (s.flit dst 2 1 src).modStep src dst (fun r => { r with marks := r.marks.filter (· != cls), acking := r.acking ++ [cls] })
      else s)

/-- An acknowledgement arrives: with the fifth the entry switches, and the last entry ends the commit (R336). -/
def routeAck (s : State) (src dst cls : Nat) : State :=
  let s1 := s.modStep src dst (fun r => { r with acking := r.acking.filter (· != cls), acked := r.acked ++ [cls] })
  match s1.exch.routeSteps.find? (fun r => r.src == src && r.dst == dst) with
  | some r =>
    if r.acked.length < 5 then s1
    else
      let s2 := setRoute s1 src dst (s1.routeShadow src dst)
      let rest := s2.exch.routeSteps.filter (fun q => !(q.src == src && q.dst == dst))
      let s3 := { s2 with exch := { s2.exch with routeSteps := rest } }
      if !rest.isEmpty then s3
      else ({ s3 with exch := { s3.exch with routeBusy := false } }.setRawN 0x5000 1 0).bump ⟨0x5000, 2, 32⟩
  | none => s1

/-- ROUTE_MARK_ACK (R336, step 3). -/
def execRouteMarkAck (src dst cls : Nat) (s : State) : Host.Outcome State Fault Refusal :=
  if (s.build.nodeAt src).isNone || (s.build.nodeAt dst).isNone then .fault .unbuiltPart else
    .next (if s.exch.routeSteps.any (fun r => r.src == src && r.dst == dst && r.acking.contains cls) then
      routeAck s src dst cls else s)

/-! ## Links (R331 to R333) -/

/-- A link. -/
def State.link (s : State) (l : Nat) : Link := KV.get s.exch.links l {}
/-- Changes a link. -/
def State.modLink (s : State) (l : Nat) (f : Link → Link) : State :=
  { s with exch := { s.exch with links := KV.set s.exch.links l (f (s.link l)) {} } }

/-- LINK_STATUS (R333). -/
def State.linkStatus (s : State) (l : Nat) : Nat :=
  let x := s.link l
  place x.state 2 30 + place (bit x.half1) 1 29 + place (bit x.half0) 1 28 + place (bit (s.linkUsed l)) 1 27
    + place x.last 3 24

/-- The first data message in flight whose live route crosses a link goes on with POISON set (R332; DESIGN CHOICE, log entry 29). -/
def poisonOnLink (s : State) (l : Nat) : State :=
  let b := s.build
  let hit := fun (x y : NodeKind) => (routeLinks b.side (b.nodeId x) (s.routeLive (b.nodeId x) (b.nodeId y))).contains l
  if s.net.d.any (fun m => hit (.till m.1) (.wicket m.2.1)) then
    let pre := s.net.d.takeWhile (fun m => !hit (.till m.1) (.wicket m.2.1))
    let rest := s.net.d.drop pre.length
    { s with net := { s.net with d := pre ++ (rest.take 1).map (fun m => (m.1, m.2.1, { m.2.2 with poison := true })) ++ rest.drop 1 } }
  else
    let on := fun (q : QFlit) => q.wdata.isSome && hit (.wicket q.w) (.till q.till)
    let pre := s.net.q.takeWhile (fun q => !on q)
    let rest := s.net.q.drop pre.length
    { s with net := { s.net with q := pre ++ (rest.take 1).map (fun q =>
        { q with wdata := q.wdata.map (fun d => { d with poison := true }) }) ++ rest.drop 1 } }

/-- A half has met LINK_RETRY_LIMIT consecutive replays: it fails (R332). -/
def failHalf (s : State) (l half : Nat) : State :=
  let x := s.link l
  if x.state == 0 then
    (s.modLink l (fun y => { y with
      state := 1, half0 := half != 0, half1 := half == 0, replay0 := 0, replay1 := 0 })).emitAs J.exchLinkHalf.code (l / 2) none [l, half]
  else
    let s1 := s.modLink l (fun y => { y with state := 2, half0 := false, half1 := false, replay0 := 0, replay1 := 0 })
    if s.linkUsed l then
      { (s1.emitAs J.exchLinkLost.code (l / 2) none [l]).emitAs J.exchFatal.code (l / 2) none [l] with fatal := true, global := 3 }
    else s1.emitAs J.exchLinkDown.code (l / 2) none [l]

/-- An error at a link or in the router buffer behind it (R332). -/
def linkError (s : State) (l half : Nat) (e : LinkEvent) : State :=
  let x := s.link l
  let works := if half == 0 then x.half0 else x.half1
  let set := fun (n : Nat) => s.modLink l (fun y => if half == 0 then { y with replay0 := n } else { y with replay1 := n })
  match e with
  | .correctable => if works then (set 0).bump ⟨0x5400 + l, 2, 32⟩ else s
  | .uncorrectable =>
    if !works then s
    else
      let n := (if half == 0 then x.replay0 else x.replay1) + 1
      let s1 := (set n).bump ⟨0x5400 + l, 3, 32⟩
      if n < s.rawN 0x5000 6 then s1 else failHalf s1 l half
  | .bufferCorrected => s.bump ⟨0x5000, 9, 64⟩
  | .bufferPayload => (poisonOnLink s l).emitAs J.exchDataUe.code (l / 2) none [l]
  | .bufferControl | .chkMismatch => { s.emitAs J.exchFatal.code (l / 2) none [l] with fatal := true, global := 3 }

/-- LINK_FLIT_ERROR (R332): a link that is DOWN or in RETRAIN carries no flit. -/
def execLinkFlitError (l half : Nat) (e : LinkEvent) (s : State) : Host.Outcome State Fault Refusal :=
  if !hasLink s.build l || 2 ≤ half then .fault .unbuiltPart
  else .next (if 2 ≤ (s.link l).state then s else linkError s l half e)

/-- LINK_CMD (R333). -/
def linkCmd (s : State) (l v : Nat) : State :=
  if v != 3 then s.modLink l (fun x => { x with last := 3 })
  else if s.linkUsed l || s.exch.routeBusy then s.modLink l (fun x => { x with last := 1 })
  else s.modLink l (fun x => { x with state := 3, last := 0 })

/-- RETRAIN_DONE: both halves have been tested again (R333). -/
def execRetrainDone (l : Nat) (pass0 pass1 : Bool) (s : State) : Host.Outcome State Fault Refusal :=
  if !hasLink s.build l then .fault .unbuiltPart else
    .next (if (s.link l).state != 3 then s
      else s.modLink l (fun x => { x with
        state := if pass0 && pass1 then 0 else if pass0 || pass1 then 1 else 2
        half0 := pass0, half1 := pass1, replay0 := 0, replay1 := 0 }))

/-! ## The stall watchdog (R334) -/

/-- The watchdog bites at an output VC. A bite elsewhere in the Tick of a bite at a local port is not acted on. -/
def stallBite (s : State) (node port vc : Nat) : State :=
  let s1 := s.emitAs J.exchStall.code node none [node, port, vc]
  let mark : State := { s1 with exch := { s1.exch with localBite := some s.time.tick } }
  let fatal := fun (s : State) => { s.emitAs J.exchFatal.code node none [node, port, vc] with fatal := true, global := 3 }
  if port == 0 then
    match s.build.nodeAt node with
    | some (.till t) =>
      if (s.till t).fn.st == .failed || (s.till t).halted.isSome then s
      else if s.walked t || (s.till t).role == .destination then failTill mark t 3
      else fatal mark
    | some (.wicket w) => linkReset mark w
    | _ => fatal mark
  else if s.exch.localBite == some s.time.tick then s
  else fatal s1

/-- EXCH_STALL (R334). -/
def execExchStall (node port vc : Nat) (s : State) : Host.Outcome State Fault Refusal :=
  if s.build.side ≤ node % 8 || s.build.side ≤ node / 8 || 5 ≤ port || 4 ≤ vc then .fault .unbuiltPart
  else .next (stallBite s node port vc)

/-! ## Vault bank arbiters (R358 to R362) -/

/-- One CCLK of a bank's LFSR, x^16 + x^14 + x^13 + x^11 + 1 (R359; DEDUCED, log entry 30). -/
def lfsrStep (v : BitVec 16) : BitVec 16 :=
  let b := v ^^^ (v >>> 2) ^^^ (v >>> 3) ^^^ (v >>> 5)
  (v >>> 1) ||| (b <<< 15)

/-- Runs the LFSR. -/
def lfsrRun : Nat → BitVec 16 → BitVec 16
  | 0, v => v
  | n + 1, v => lfsrRun n (lfsrStep v)

/-- The seed of a bank at the cold reset; 0 is replaced by 1 (R359). -/
def State.bankSeed (s : State) (t bank : Nat) : BitVec 16 :=
  let v := Config.lfsrSeed s.coldDraw t bank
  if v == 0 then 1 else v

/-- The LFSR of a bank now. -/
def State.bankLfsr (s : State) (t bank : Nat) : BitVec 16 :=
  let a := KV.get (s.till t).banks bank {}
  match a.lfsr with
  | some v => lfsrRun ((s.time.cclk - a.lfsrCclk) % 65535) v
  | none => lfsrRun (s.time.cclk % 65535) (s.bankSeed t bank)

/-- Byte `r` of a word: the tickets or the limit of a requester (R365). -/
def byteOf (v r : Nat) : Nat := v / 2 ^ (8 * r) % 256

/-- The draw among the raised requesters by their tickets. -/
def drawTicket (tickets : Nat) : Nat → List Nat → Nat
  | _, [] => 0
  | d, r :: l => if d < byteOf tickets r || l.isEmpty then r else drawTicket tickets (d - byteOf tickets r) l

/-- The winner of a decision, and whether a wait counter forced it (R359). -/
def bankWinner (tickets limits : Nat) (v : BitVec 16) (wait raised : List Nat) : Nat × Bool :=
  match raised.find? (fun r => wait.getD r 0 == byteOf limits r) with
  | some r => (r, true)
  | none =>
    let t := (raised.map (byteOf tickets)).sum
    if t == 0 then (raised.headD 0, false)
    else (drawTicket tickets (v.toNat % 256 * t / 256) raised, false)

/-- A decision of a bank's arbiter (R359 to R361). -/
def arbitrate (s : State) (t bank : Nat) (raised : BitVec 4) (lockStart lockEnd : Bool) : State :=
  let a := KV.get (s.till t).banks bank {}
  let put := fun (s : State) (x : Arb) => s.modTill t (fun u => { u with banks := KV.put u.banks bank x })
  if a.locked && (a.debugLock || !lockEnd) then s
  else
    let l := (List.range 4).filter (fun r => raised.getLsbD r)
    let v := s.bankLfsr t bank
    let limits := s.rawN 0x6800 1
    let base : Arb := { a with lfsr := some v, lfsrCclk := s.time.cclk, locked := false, grant := none }
    if l.isEmpty then put s { base with wait := [0, 0, 0, 0] }
    else
      let (win, forced) := bankWinner (s.rawN 0x6800 0) limits v a.wait l
      let lock := lockStart && (win == 1 || win == 3)
      let wait := (List.range 4).map (fun r =>
        if r == win || !l.contains r then 0 else min (a.wait.getD r 0 + 1) (byteOf limits r))
      let s1 := put s { base with wait := wait, grant := some win, grantTick := s.time.tick, locked := lock }
      let s2 := if forced then s1.bump ⟨0x3020 + 0x80 * t, 0, 64⟩ else s1
      if lock then s2.bump ⟨0x3020 + 0x80 * t, 1, 64⟩ else s2

/-- BANK_ARBITRATION: `dt` CCLK after the last command, the arbiter of a bank decides (R359). -/
def execBankArbitration (t bank dt : Nat) (raised : BitVec 4) (lockStart lockEnd : Bool) (s : State) :
    Host.Outcome State Fault Refusal :=
  if !s.build.hasTill t || 16 ≤ bank then .fault .unbuiltPart
  else .next (arbitrate (advance s dt) t bank raised lockStart lockEnd)

/-- BANK_WATCHDOG: a grant has lasted BANK_WD_TICKS Ticks (R362). -/
def execBankWatchdog (t bank : Nat) (s : State) : Host.Outcome State Fault Refusal :=
  if !s.build.hasTill t || 16 ≤ bank then .fault .unbuiltPart else
    let a := KV.get (s.till t).banks bank {}
    .next (if !s.alive t || !a.locked || a.stuck || !s.due a.grantTick (s.rawN 0x6800 2) then s
      else
        let r := a.grant.getD 0
        let s1 := s.modTill t (fun u => { u with banks := KV.put u.banks bank { a with stuck := true } })
        let s2 := (s1.setRawN (0x3020 + 0x80 * t) 2 (s1.rawN (0x3020 + 0x80 * t) 2 ||| 2 ^ bank)).setRawN (0x3020 + 0x80 * t) 3 r
        s2.note .bankStuck (.till t) [t, bank, r])

end Sys2Proof.Machine
end

