-- ==== Sys2Proof/Machine/Control.lean ====
section
/-! DEFINITION. The common control of the functions: what enabling and draining mean for a Wicket, a way, a Journal stream,
a shaper and a Till (R60 to R65, R207 to R209, R341, R356, R384, R502), and POWER_EN (R310). -/

namespace Sys2Proof.Machine

/-! ## Enabling -/

/-- The step that an ENABLE starts: a Wicket grants entry credits, a stream's banks empty. -/
def startEnabling (s : State) (f : Func) : State :=
  match f with
  | .wicket w => (s.bound w).foldl (fun s n => regrant s w n) s
  | .stream k => s.modStream k Stream.emptied
  | _ => s

/-- What the end of enabling does: an enabled Till has its storage filled and is SPARE (R384); a way serves again. -/
def endEnabling (s : State) (f : Func) : State :=
  match f with
  | .till t => (resetTill s t).modTill t (fun u => { u with role := .spare })
  | _ => s

/-! ## Draining -/

/-- The entries of a way are disposed of as their pins end and as internal Folios allow (R193, R207). -/
def drainWay (s : State) (w : Nat) : State :=
  s.build.tillList.foldl (fun s t =>
    if !s.alive t then s else
      (List.filter (fun p => p.1 % 16 == w) (s.till t).vault).foldl (fun s p =>
        let bank := p.1 / 32768
        let set := p.1 / 16 % 2048
        let e := (s.till t).vread p.1
        if e.2.empty then s.modTill t (fun u => u.vwrite p.1 0)
        else if wayBusy s t bank set w || (s.till t).internalFree < 4 then s
        else evictWay s t bank set w) s) s

/-- The step that a DISABLE starts. -/
def startDrain (s : State) (f : Func) : State :=
  match f with
  | .wicket w => returnLoans (if w == Build.ws then drainWhere s (fun _ => true) else s) w
  | .way w => drainWay s w
  | .till t =>
    if (s.till t).role == .active then planTransfer s t
    else if (s.till t).role == .spare then s.modTill t (fun u => { u with role := .reset }) else s
  | _ => s

/-- Does a way hold no entry at any Till in use. -/
def State.wayEmpty (s : State) (w : Nat) : Bool :=
  s.build.tillList.all (fun t => (s.till t).fn.st == .off || (s.till t).fn.st == .failed
    || (s.till t).vault.all (fun p => p.1 % 16 != w))

/-- Is the way the last that is ON (R208). -/
def State.lastWay (s : State) (w : Nat) : Bool :=
  (List.range 16).all (fun v => v == w || (s.fn (.way v)).st != .on)

/-- Has a drain met its condition. -/
def State.drainMet (s : State) (f : Func) : Bool :=
  match f with
  | .wicket w =>
    let x := s.wicket w
    x.entries.isEmpty && (s.bound w).all (fun n => s.foliosOpen n == 0) && !(s.net.q.any (·.w == w))
      && x.loans.all (fun p => p.2.folios == 0 && p.2.data == 0 && p.2.inUseF == 0) && (w != Build.ws || s.ws.post.isEmpty)
  | .way w => s.wayEmpty w && (!s.lastWay w || s.cellarState == 2)
  | .stream k => (s.stream k).fill.isEmpty && (s.stream k).drain.isEmpty
  | .till t => (s.till t).role == .reset
  | _ => false

/-- What goes on while a drain runs. -/
def goOnDraining (s : State) (f : Func) : State :=
  match f with
  | .wicket w => returnLoans s w
  | .way w => drainWay s w
  | _ => s

/-- What the end of a drain does: a Till has been reset. -/
def endDrain (s : State) (f : Func) : State :=
  match f with
  | .till t => (resetTill s t).modTill t (fun u => { u with role := .none })
  | _ => s

/-! ## The commands (R60, R62) -/

/-- The exceptions of a function to the table of R62: the result of a refused command. -/
def State.refusal (s : State) (f : Func) (enable : Bool) : Option Nat :=
  match f with
  | .till t =>
    let u := s.till t
    if enable then
      (if s.transfers.any (fun x => x.planned && x.state == 1 && (x.src == t || x.dst == t)) then some 1 else none)
    else if u.role == .destination || s.transfers.any (fun x => x.dst == t) then some 1
    else if u.fn.st == .on && u.role == .active && s.freeSpare.isNone then some 1
    else none
  | .stream 0 => if enable then none else some 3
  | _ => none

/-- Carries on with the step that a transition starts. -/
def goOn (s : State) (f : Func) (r : Fn × Start) : State :=
  let s1 := s.setFn f r.1
  match r.2 with
  | .nothing => s1
  | .enabling => startEnabling s1 f
  | .drain => startDrain s1 f

/-- A write of a common control entry (R60, R62, R65). -/
def funcCmd (s : State) (f : Func) (v : Nat) : State :=
  let x := s.fn f
  match v with
  | 1 => (match s.refusal f true with | some c => s.setFn f (x.refuse c) | none => goOn s f x.enable)
  | 2 => (match s.refusal f false with | some c => s.setFn f (x.refuse c) | none => goOn s f x.disable)
  | _ => s.setFn f (x.refuse 3)

/-- Enabling ends (R62). A shaper's enabling ends in the Tick (R356). -/
def enablingEnds (s : State) (f : Func) : State :=
  if isShaper f || (s.fn f).st != .enabling then s
  else
    let s1 := endEnabling s f
    nextTransfer (goOn s1 f (s1.fn f).enabled)

/-- A drain ends if its condition is met (R62). A shaper's drain ends in the Tick (R356). -/
def drainEnds (s : State) (f : Func) : State :=
  if isShaper f || (s.fn f).st != .draining then s
  else
    let s1 := goOnDraining s f
    if !s1.drainMet f then s1
    else
      let s2 := endDrain s1 f
      goOn s2 f (s2.fn f).drained

/-! ## SLOT_CTRL (R310) -/

/-- A write of SLOT_CTRL: POWER_EN commands the Wicket. -/
def slotCtrl (s : State) (w v : Nat) : State × Bool :=
  let old := s.rawN (0xC800 + w) 1
  if v / 4 % 4 == 3 || v % 4 == 3 then (s, false)
  else
    let s1 := s.setRawN (0xC800 + w) 1 (place (v / 64) 2 6 + v % 16)
    let was := old / 64 % 2
    let now := v / 64 % 2
    (if was == now then s1 else funcCmd s1 (.wicket w) (if now == 1 then 1 else 2), true)

end Sys2Proof.Machine
end

