-- ==== Sys2Proof/Machine/Levels.lean ====
section
/-! DEFINITION. The debug level, halts, session ends and the management Quarantine (R459, R464, R470 to R480). -/

namespace Sys2Proof.Machine

/-! ## Sessions -/

/-- A session slot. -/
def State.session (s : State) (k : Nat) : Session := (s.sec.sessions[k]?).getD {}
/-- Changes a session slot. -/
def State.modSession (s : State) (k : Nat) (f : Session → Session) : State :=
  { s with sec := { s.sec with sessions := s.sec.sessions.modify k f } }
/-- Is the session open: OPEN or RESTRICTED (R466). -/
def Session.live (x : Session) : Bool := x.state == .open_ || x.state == .restricted

/-! ## The debug level (R475, R477) -/

/-- Every debug locked sequence ends (R477). -/
def closeLocks (s : State) : State :=
  let s1 := s.sec.locks.foldl (fun s p => s.modTill p.1 (fun u => { u with banks := KV.mod u.banks p.2 (fun a =>
    if a.debugLock then { a with locked := false, debugLock := false, grant := none, stuck := false } else a) })) s
  { s1 with sec := { s1.sec with locks := [] } }

/-- Every halted Till resumes (R477). -/
def endHalts (s : State) : State :=
  s.build.tillList.foldl (fun s t => if (s.till t).halted.isSome then worked (endHalt s t 1) t else s) s

/-- The debug level changes: its record, and what a fall from Intrude ends (R475, R477). -/
def setLevel (s : State) (number role v : Nat) : State :=
  if s.sec.level == v then s
  else
    let s1 := s.note .debugLevel .ch [number, role, s.sec.level, v]
    let s2 : State := { s1 with sec := { s1.sec with level := v } }
    if s.sec.level == 2 then { closeLocks (endHalts s2) with sec := { (closeLocks (endHalts s2)).sec with injects := [] } }
    else s2

/-- The level falls to Off. -/
def levelOff (s : State) : State :=
  match s.sec.sessions.find? (·.debug) with
  | some x =>
    let s1 := setLevel s x.number x.role 0
    { s1 with sec := { s1.sec with sessions := s1.sec.sessions.map (fun y => { y with debug := false }) } }
  | none => setLevel s 0 0 0

/-! ## Ends of sessions (R470) -/

/-- A session ends: its record, and the level if it holds it. -/
def closeSession (s : State) (k : Nat) : State :=
  let x := s.session k
  let s1 := if x.debug then levelOff s else s
  let s2 := if x.live then s1.note .sessionClosed .ch [x.number, x.role, x.slot] else s1
  s2.modSession k (fun _ => {})

/-- Ends every session that `p` selects. -/
def closeWhere (s : State) (p : Session → Bool) : State :=
  (List.range 4).foldl (fun s k => if (s.session k).state != .free && p (s.session k) then closeSession s k else s) s

/-! ## Failed proofs and Quarantine (R471, R472) -/

/-- The management Quarantine begins (R472). -/
def enterQuarantine (s : State) : State :=
  let s1 := closeWhere { s with sec := { s.sec with quarantine := true, quarantines := s.sec.quarantines + 1 } } (·.role != 0)
  (levelOff s1).note .quarantineEntered .ch []

/-- A failed proof (R471). -/
def failedProof (s : State) (role slot : Nat) : State :=
  let s1 := s.note .proofFailed .ch [role, slot]
  let s2 : State := { s1 with sec := { s1.sec with proofFails := min 255 (s1.sec.proofFails + 1) } }
  if s2.sec.proofFails ≥ 5 && !s2.sec.quarantine then enterQuarantine s2 else s2

/-! ## Authority (R459, R464) -/

/-- The role that the window acts with (R464). -/
def State.windowRole (s : State) : Nat :=
  match s.fuses.lifecycle with
  | 0 => 3
  | 3 => 0
  | _ => 1

/-- The role of a path; a Teller request in Blank has Vendor authority (R465). -/
def State.roleOf (s : State) : Path → Nat
  | .window => s.windowRole
  | .session k => if k == 4 then 3 else (s.session k).role

/-- May a role write an entry (R459): Operator and above 0x1000 to 0xCFFF outside 0x9000 to 0x9FFF, LIFECYCLE_CMD and the
key entries, whose own checks follow; Vendor the rest of 0x9000 to 0x9FFF, for which R459 names no role (DEDUCED, log entry 31), and
0xF000 to 0xFFFF. -/
def mayWrite (role i j : Nat) : Bool :=
  if i < 0x1000 || (0xD000 ≤ i && i < 0xF000) then false
  else if 0xF000 ≤ i then role == 3
  else if 0x9000 ≤ i && i < 0xA000 then (if (i == 0x9000 && j == 1) || i == 0x9011 then role != 0 else role == 3)
  else role != 0

/-- May a role read an index (R459). -/
def mayRead (role i : Nat) : Bool := i < 0xF000 || role == 3

end Sys2Proof.Machine
end

