-- ==== Sys2Proof/Machine/Power.lean ====
section
/-! DEFINITION. The power states and their transitions, margin acknowledgements and timeouts, and the scheduled measurements
(R408 to R432). -/

namespace Sys2Proof.Machine

/-- Changes the power machine. -/
def State.modPower (s : State) (f : Power → Power) : State := { s with power := f s.power }

/-! ## Lean (R425) -/

/-- The ways of LEAN_WAYS that are ON. -/
def State.leanWays (s : State) : List Nat :=
  (List.range 16).filter (fun w => s.rawN 0x8050 5 / 2 ^ w % 2 == 1 && (s.fn (.way w)).st == .on)

/-- Would Lean leave no way ON. -/
def State.leanEmpty (s : State) : Bool :=
  (List.range 16).all (fun w => (s.fn (.way w)).st != .on || s.rawN 0x8050 5 / 2 ^ w % 2 == 1)

/-- The divider of a Till, under the throttle that holds it at CCLK/2 (R422, R425). -/
def Till.divide (u : Till) (throttled v : Bool) : Till :=
  if throttled then { u with divBefore := v } else { u with div2 := v }

/-- Lean entry starts. -/
def startLean (s : State) : State :=
  let l := s.leanWays
  let s1 := s.modPower (fun p => { p with state := 4, parked := l })
  let s2 := l.foldl (fun s w => funcCmd s (.way w) 2) s1
  { s2 with tills := s2.tills.mapIdx (fun t u =>
      if u.role == .active && s.rawN 0x8050 6 / 2 ^ t % 2 == 1 then u.divide s.power.throttled true else u) }

/-- Lean exit starts. -/
def leaveLean (s : State) : State :=
  let s1 := s.modPower (fun p => { p with state := 5 })
  let s2 := s.power.parked.foldl (fun s w => funcCmd s (.way w) 1) s1
  { s2 with tills := s2.tills.map (fun u => u.divide s.power.throttled false) }

/-! ## Hold and Off (R426 to R430) -/

/-- A transfer is in its copy phase, a Till is halted, or a debug lock is open (R426, R480). -/
def State.holdBusy (s : State) : Bool :=
  s.transfers.any (fun x => x.planned && x.state == 1) || s.tills.any (fun u => u.halted.isSome) || !s.sec.locks.isEmpty

/-- Hold entry, or the Hold part of Off entry, starts; sessions end at the start of TO_OFF (R470, R480). -/
def startHold (s : State) (off : Bool) : State :=
  let s1 := if off then levelOff (closeWhere s (fun _ => true)) else s
  s1.modPower (fun p => { p with state := if off then 7 else 6, from_ := p.state })

/-- The answer to POWER_TARGET Off: 0 OK, 1 BUSY, 2 DENIED, 3 INVALID (R426, R429). -/
def State.offResult (s : State) : Nat :=
  let hosts := s.agents.any (fun p => p.2.kind == 0 && (p.2.state == .joining || p.2.state == .active || p.2.state == .leaving))
  let kept := (List.range 64).all (fun n => !(s.region n).en || (s.region n).untracked || (s.region n).retentive)
    && s.au.clean.isEmpty && s.cellarState == 2
  if hosts && !kept then 2
  else if s.tills.any (fun u => !u.claims.isEmpty) || s.agents.any (fun p => p.2.state == .foreclosing) then 2
  else if s.rawN 0x8051 1 != 1 then 3
  else if s.holdBusy then 1 else 0

/-- Hold exit starts: a SERVICE request for the plan's voltage and CCLK (R428). -/
def leaveHold (s : State) (cause : Nat) : State :=
  if s.power.state != 2 then s
  else
    askMargin (s.modPower (fun p => { p with state := if p.from_ == 1 then 4 else 5, wake := cause })) 0 s.assay.vdd s.assay.mhz 3

/-! ## POWER_TARGET (R424) -/

/-- A target is applied in a state that is no transition. -/
def applyTarget (s : State) (v : Nat) : State :=
  let ok := fun (s : State) => s.modPower (fun p => { p with result := 0 })
  let res := fun (s : State) (r : Nat) => s.modPower (fun p => { p with result := r })
  match s.power.state, v with
  | 0, 1 | 2, 1 | 1, 0 | 2, 0 =>
    if s.power.state == 0 then (if s.leanEmpty then res s 1 else startLean (ok s))
    else if s.power.state == 1 then leaveLean (ok s)
    else
      let s1 := leaveHold (ok s) 1
      s1.modPower (fun p => { p with pending := if v == p.from_ then none else some v })
  | 0, 2 | 1, 2 => if s.holdBusy then res s 1 else startHold (ok s) false
  | 0, 3 | 1, 3 => if s.offResult == 0 then startHold (ok s) true else res s s.offResult
  | 2, 3 =>
    if s.offResult == 0 then
      (levelOff (closeWhere (ok s) (fun _ => true))).modPower (fun p => { p with state := 7, saving := true })
    else res s s.offResult
  | _, _ => ok s

/-- The pending target starts, unless it is the state reached (R424). -/
def startPending (s : State) : State :=
  match s.power.pending with
  | none => s
  | some v =>
    let s1 := s.modPower (fun p => { p with pending := none })
    if v == s.power.state then s1 else applyTarget s1 v

/-- A transition whose ways have all reached their state ends (R425). -/
def powerProgress (s : State) : State :=
  if s.assay.req.any (·.why == 3) then s
  else if s.power.state == 4 && s.power.parked.all (fun w => (s.fn (.way w)).st == .off) then
    startPending (s.modPower (fun p => { p with state := 1 }))
  else if s.power.state == 5 && s.power.parked.all (fun w => (s.fn (.way w)).st == .on) then
    startPending (s.modPower (fun p => { p with state := 0, parked := [] }))
  else s

/-- A write of POWER_TARGET. -/
def powerTarget (s : State) (v : Nat) : State :=
  if 3 < v then s.modPower (fun p => { p with result := 3 })
  else if 4 ≤ s.power.state then s.modPower (fun p => { p with pending := some v, result := 0 })
  else powerProgress (applyTarget s v)

/-- A write of a common control entry; a way that firmware enables is no longer recorded by Lean (R425). -/
def funcWrite (s : State) (f : Func) (v : Nat) : State :=
  let s1 := funcCmd s f v
  match f with
  | .way w => powerProgress (if v == 1 then s1.modPower (fun p => { p with parked := p.parked.filter (· != w) }) else s1)
  | _ => s1

/-- ENABLING_COMPLETE (R62). A shaper's enabling completes in the Tick (R356). -/
def execEnablingComplete (f : Func) (s : State) : Host.Outcome State Fault Refusal :=
  if !funcBuilt s.build f then .fault .unbuiltPart else .next (powerProgress (enablingEnds s f))

/-- DRAIN_COMPLETE (R62). A shaper's drain completes in the Tick (R356). -/
def execDrainComplete (f : Func) (s : State) : Host.Outcome State Fault Refusal :=
  if !funcBuilt s.build f then .fault .unbuiltPart else .next (powerProgress (drainEnds s f))

/-! ## Hold entry goes on (R426) -/

/-- Are the conditions of steps 2 and 3 of R426 met. -/
def State.holdQuiet (s : State) : Bool :=
  s.au.fore.isEmpty && s.au.leave.isEmpty && s.au.clean.isEmpty && s.au.preload.isNone && s.transfers.isEmpty
    && s.maps.bPend.isEmpty && s.maps.rPend.isEmpty && s.ws.post.isEmpty && !s.anyFolio && s.net.q.isEmpty
    && s.tills.all (fun u => u.resolve.isEmpty && u.rebuild.isEmpty && u.receipts.isEmpty
        && u.claims.all (fun c => c.2.state != .gathering))

/-- HOLD_QUIESCED: the pipelines are gated and the RETENTION request is sent (R426). -/
def execHoldQuiesced (s : State) : Host.Outcome State Fault Refusal :=
  .next (if (s.power.state == 6 || (s.power.state == 7 && !s.power.saving && !s.power.offReady)) && s.assay.req.isNone && s.holdQuiet
    then askMargin s 1 (s.rawN 0x8050 8) 0 1 else s)

/-- The save image of R430. -/
def State.toImage (s : State) : Image :=
  { lot := s.fuses.lot, wafer := s.fuses.wafer, dieX := s.fuses.dieX, dieY := s.fuses.dieY
    tick := s.time.tick, ptm := s.time.ptm, ptmValid := s.time.ptmValid, cellarGen := s.cellarGen, consumed := false
    chart := List.filter (fun p => (entryAt s.build (p.1 / 256) (p.1 % 256)).any (fun e => e.cls == .k)
      && !(0x5100 ≤ p.1 / 256 && p.1 / 256 < 0x5140)) s.chart
    agents := s.agents, maps := s.maps
    sec := (s.sec.proofFails, s.sec.quarantine, s.sec.quarantines)
    tills := s.tills.map (fun u => (u.fn, u.role, u.failCause, u.ce))
    wickets := s.wickets.map (fun x => (x.fn, { x.shaper with credit := 0 }))
    ways := s.ways.mapIdx (fun w f => if s.power.parked.contains w then ⟨.on, false, false, f.last⟩ else f)
    streams := s.journal.streams.map (·.fn)
    shapes := s.shapes.map (fun p => (p.1, { p.2 with
      sub := { p.2.sub with credit := 0 }, svc := p.2.svc.map (fun x => { x with credit := 0 }), lastCls := 3 }))
    chanCfg := (List.filter (fun p => (p.2.pending.getD p.2.cfg) != 0x80000000) s.tally.chans).map
      (fun p => (p.1, p.2.pending.getD p.2.cfg))
    lost := s.lost, cellarOn := s.cellarState != 0, cellarFloor := s.cellarFloor }

/-- SAVE_IMAGE_WRITTEN: the POWER_OFF request is sent and OFF_READY asserted (R430). -/
def execSaveImageWritten (s : State) : Host.Outcome State Fault Refusal :=
  .next (if s.power.state == 7 && s.power.saving then
    let s1 := { s.send .saveImage with image := some s.toImage }
    askMargin (s1.modPower (fun p => { p with saving := false, offReady := true })) 2 0 0 2
  else s)

/-! ## Margin acknowledgements (R419, R420) -/

/-- What a granted plan request does: the granted values stand, the second request of the plan follows, or the plan is
applied (R410, R419, R420). -/
def planGranted (s : State) (r : MarginReq) (mv mhz : Nat) (short : Bool) : State :=
  let before := planWord s 0
  let s1 := { s with assay := { s.assay with vdd := mv, mhz := mhz } }
  match s.assay.plan with
  | none => s1
  | some (step, undone) =>
    match (if short then none else s.assay.second) with
    | some (v, f) => askMargin { s1 with assay := { s1.assay with second := none } } 0 v f 0
    | none =>
      let s2 := { s1 with assay := { s1.assay with second := none, plan := none } }
      let same := mv == s.assay.vdd && mhz == s.assay.mhz && r.mv == mv && r.mhz == mhz
      if short && mv == s.assay.vdd && mhz == s.assay.mhz && !same then s2
      else
        planApplied (if undone then s2 else { s2 with assay := { s2.assay with steps := step :: s2.assay.steps } }) before
          (planWord s2 0)

/-- A margin request is granted. -/
def granted (s : State) (r : MarginReq) (mv mhz : Nat) : State :=
  let short := decide (mv < r.mv) || decide (mhz < r.mhz)
  let s1 := { s.setRaw 0x8060 1 (marginWord r.id r.kind mv mhz) with assay := { s.assay with req := none } }
  let s2 := if short then s1.note .marginShort .as_ [(marginWord r.id r.kind r.mv r.mhz).toNat, (marginWord r.id r.kind mv mhz).toNat]
    else s1
  match r.why with
  | 1 =>
    if s.power.state == 7 then s2.modPower (fun p => { p with saving := true, heldMv := mv })
    else startPending ({ s2 with tally := { s2.tally with held := true } }.modPower (fun p => { p with state := 2, heldMv := mv }))
  | 2 => s2.modPower (fun p => { p with state := 3, heldMv := mv })
  | 3 =>
    let s3 := { s2 with assay := { s2.assay with vdd := mv, mhz := mhz } }
    startPending (s3.modPower (fun p => { p with state := p.from_ }))
  | 4 => { s2 with assay := { s2.assay with vdd := mv, mhz := mhz } }
  | _ => planGranted s2 r mv mhz short

/-- MARGIN_TIMEOUT: the plan is abandoned; a transition asks again (R419; DESIGN CHOICE, log entry 32). -/
def execMarginTimeout (s : State) : Host.Outcome State Fault Refusal :=
  .next (match s.assay.req with
    | some r =>
      if !s.due r.tick (s.rawN 0x8060 0) then s
      else
        let s1 := (s.note .marginNoAck .as_ [(marginWord r.id r.kind r.mv r.mhz).toNat]).bump ⟨0x8060, 2, 32⟩
        let s2 := { s1 with assay := { s1.assay with req := none, second := none, plan := none } }
        if r.why == 0 || r.why == 4 then s2 else askMargin s2 r.kind r.mv r.mhz r.why
    | none => s)

/-! ## Scheduled measurements (R414, R415, R422) -/

/-- QUICK_CHECK: the check that is due (R414); none is made in Hold or Off. -/
def execQuickCheck (m : Measure) (s : State) : Host.Outcome State Fault Refusal :=
  .next (if s.assay.quickDue && !s.assay.fullDue && !s.inHold && s.power.state != 3 then check s m false else s)

/-- FULL_SWEEP: the sweep that is due (R414). -/
def execFullSweep (m : Measure) (s : State) : Host.Outcome State Fault Refusal :=
  .next (if s.assay.fullDue && !s.inHold && s.power.state != 3 then check s m true else s)

/-- TJ_SAMPLE: the sensors are read every 16 Ticks; a high reading wakes from Hold (R422, R427). -/
def execTjSample (tj : List (Nat × Int)) (s : State) : Host.Outcome State Fault Refusal :=
  .next (if !s.assay.tjDue then s
    else
      let s1 := readTjs { s with assay := { s.assay with tjDue := false } } tj
      if tj.any (fun p => s.build.hasTill p.1 && decide (s.rawI 0x8070 0 ≤ p.2)) then leaveHold s1 6 else s1)

/-- The Ticks of 128 hours at TICK_NOMINAL (R415). -/
def State.ageTicks (s : State) : Nat := 128 * 3600 * 10 ^ 9 / max 1 (s.rawN 0x8040 1)

/-- AGE_HOURS: a bit of the thermometer is blown for each 128 powered hours (R415). -/
def execAgeHours (s : State) : Host.Outcome State Fault Refusal :=
  .next (if s.assay.ageTick + s.ageTicks ≤ s.time.tick && s.fuses.ageBits < 1024 then
    { s with fuses := { s.fuses with ageBits := s.fuses.ageBits + 1 }, assay := { s.assay with ageTick := s.assay.ageTick + s.ageTicks } }
  else s)

end Sys2Proof.Machine
end

