-- ==== Sys2Proof/Machine/Views.lean ====
section
/-! DEFINITION. What the Chart entries read: the live views of the state and the stored entries (R26, R306 to R311, R435 to
R438, R445, R457). -/

namespace Sys2Proof.Machine

/-! ## Long entries (R436) -/

/-- The bytes of an ASCII string, padded with 0x00. -/
def asciiPad (l : List Char) (n : Nat) : List Byte :=
  (List.range n).map (fun i => BitVec.ofNat 8 ((l[i]?).map (·.toNat) |>.getD 0))

/-- The 22 Hallmark bytes of 0x1001.00 to 0x1001.06 (R453). -/
def Fuses.hallmark (f : Fuses) : List Byte :=
  (List.range 12).map (fun i => (f.lot[i]?).getD 0) ++ [f.wafer, f.dieX, f.dieY] ++ leBytes 4 f.testDate.toNat
    ++ leBytes 2 f.fuseMap.toNat ++ [f.stepping]

/-- JTAG_IDCODE (R533). -/
def State.idcode (s : State) : Nat :=
  place (s.fuses.stepping.toNat / 16) 4 28 + place s.build.part 16 12 + place s.fuses.jtagMaker.toNat 11 1 + 1

/-- The value of a long entry; KEY_STAGE is write-only and reads 0 (R437, R461). -/
def State.longVal (s : State) (i j : Nat) : List Byte :=
  match i, j with
  | 0x1000, 7 => asciiPad "DECESK H1".toList 16
  | 0x1001, 0 => s.fuses.hallmark.take 12
  | _, _ => List.replicate 48 0

/-! ## Live views, chapter by chapter -/

/-- SIGNATURE (R27). -/
def signature : Nat := 0x44454345534B4831

/-- Identity and Hallmark (R27, R29, R453, R533). -/
def State.viewIdentity (s : State) (i j : Nat) : Option Nat :=
  match i, j with
  | 0x1000, 1 => some signature
  | 0x1000, 2 => some s.build.code
  | 0x1000, 3 => some s.build.tills
  | 0x1000, 4 => some s.build.wickets
  | 0x1000, 5 => some s.build.ports
  | 0x1000, 6 => some (leVal (asciiPad "IKIHOLT".toList 8))
  | 0x1000, 8 => some s.fuses.iana.toNat
  | 0x1001, 1 => some s.fuses.wafer.toNat
  | 0x1001, 2 => some s.fuses.dieX.toNat
  | 0x1001, 3 => some s.fuses.dieY.toNat
  | 0x1001, 4 => some s.fuses.testDate.toNat
  | 0x1001, 5 => some s.fuses.fuseMap.toNat
  | 0x1001, 6 => some s.fuses.stepping.toNat
  | 0x1001, 7 => some s.fuses.hallmarkCrc.toNat
  | 0x1002, 0 => some s.idcode
  | _, _ => none

/-- Does a link stand in HALF, or in DOWN (R331). -/
def State.linksIn (s : State) (st : Nat) : Nat := ((linkList s.build).filter (fun l => (s.link l).state == st)).length

/-- Undrained records of a stream (R495). -/
def Stream.ready (x : Stream) : Nat := x.fill.length + x.drain.length

/-- The state of the transfer that runs (R407). -/
def State.transferState (s : State) : Nat := (s.transfers.head?.map (·.state)).getD 0

/-- STATUS_SUMMARY (R457). -/
def State.statusSummary (s : State) : Nat :=
  place (bit s.fatal) 1 0 + place (bit (s.build.tillList.any (fun t => (s.till t).fn.st == .failed))) 1 1
    + place (bit (s.transferState != 0)) 1 2 + place (bit (s.linksIn 1 != 0 || s.linksIn 2 != 0)) 1 3
    + place (bit s.time.substitute) 1 4 + place (bit (s.cellarState != 2)) 1 5
    + place (bit (s.agents.any (fun p => p.2.state == .quarantined))) 1 6 + place (bit s.sec.quarantine) 1 7
    + place (bit ((s.stream 0).ready != 0)) 1 8
    + place (bit (s.build.tillList.any (fun t => decide (s.rawI 0x8070 0 ≤ s.rawI (0x8010 + t) 2)))) 1 9
    + place (bit (decide (4 ≤ s.power.state))) 1 10

/-- The ATTENTION output (R457). -/
def State.attention (s : State) : Bool := s.statusSummary &&& s.rawN 0x1100 0xB != 0

/-- Global state, the segment context and the walks (R445, R454, R458, R312). -/
def State.viewGlobal (s : State) (i j : Nat) : Option Nat :=
  match i, j with
  | 0x1100, 0 => some s.global
  | 0x1100, 3 => some (bit s.fuses.autoStart)
  | 0x1100, 4 => some s.resetCause
  | 0x1100, 9 => some s.statusSummary
  | 0x1110, 0 => some s.seg.target
  | 0x1110, 1 => some s.seg.number
  | 0x1110, 2 => some (leVal ((s.seg.snap.drop (8 * s.seg.number)).take 8))
  | 0x1110, 3 => some s.seg.length
  | 0x1110, 4 => some s.seg.result
  | 0x2010, 1 => some s.maps.bGen
  | 0x2010, 2 => some s.mapResult
  | 0x2012, 1 => some s.maps.rGen
  | 0x2012, 2 => some s.regionResult
  | 0x2012, 3 => some s.maps.rFail
  | 0x2080, 6 => some (if s.au.fore.isEmpty then 0 else if s.vaultPhaseDone false then 2 else 1)
  | 0x2080, 7 => some s.au.fore.length
  | _, _ => none

/-- A region's words, their reserved fields 0 (R203, R24). -/
def Region.word (r : Region) (j : Nat) : Nat :=
  match j with
  | 0 => place (bits r.base 43 21) 23 21
  | 1 => place (bits r.limit 43 21) 23 21
  | _ => place (bits r.attr 31 16) 16 16

/-- Regions, buckets and memory ports (R47, R203, R535). -/
def State.viewMaps (s : State) (i j : Nat) : Option Nat :=
  if 0x2091 ≤ i && i < 0x2095 then
    (if j == 0 then some (KV.get s.chstat (i - 0x2091) 0).toNat else none)
  else if 0x2100 ≤ i && i < 0x2140 then
    some (if j < 0x10 then (s.region (i - 0x2100)).word j else (s.shadowRegion (i - 0x2100)).word (j - 0x10))
  else if 0x2200 ≤ i && i < 0x2300 then
    some (if j < 16 then s.liveTill ((i - 0x2200) * 16 + j) else s.shadowTill ((i - 0x2200) * 16 + (j - 16)))
  else none

/-- A CE_TABLE entry (R374). -/
def CeEntry.word (c : CeEntry) : Nat :=
  2 ^ 63 + place c.store 3 60 + place c.bank 4 56 + place c.row 12 44 + place c.count 8 36 + place c.firstTick 32 0

/-- RESOLVE_ENTRY (R407). -/
def Resolve.word (r : Resolve) : Nat :=
  2 ^ 63 + place (bit r.cellar) 1 62 + r.cursor % 2 ^ 36
    + (if r.cellar then place r.p 12 50 + place r.g 13 37 else place r.bank 4 58 + place r.set 11 47)

/-- The Till blocks (R215, R365, R407). -/
def State.viewTillBlock (s : State) (t o j : Nat) : Option Nat :=
  let u := s.till t
  let live := fun (p : Ent → Bool) => (List.filter (fun x => p (u.vread x.1).2) u.vault).length
  match o with
  | 0x10 =>
    (match j with
     | 0 => some (live (fun e => !e.empty))
     | 1 => some (live (fun e => e.dirty))
     | 2 => some u.summary.count
     | 3 => some u.fetch.length
     | 4 => some u.groups.length
     | _ => none)
  | 0x30 =>
    if j == 5 then some u.resolve.length
    else if 0x10 ≤ j && j ≤ 0x2F then some (((KV.find? u.ce (j - 0x10)).map CeEntry.word).getD 0)
    else if 0x40 ≤ j && j ≤ 0x7F then some (((KV.find? u.resolve (j - 0x40)).map Resolve.word).getD 0)
    else none
  | 0x40 => if j < 16 then some (KV.get u.rowsRetired j 0) else none
  | _ => none

/-- Locked entries of every Till (R215). -/
def State.lockedEntries (s : State) : Nat :=
  (s.tills.map (fun u => (List.filter (fun x => (u.vread x.1).2.lock) u.vault).length)).sum

/-- Vault and Cellar (R215). -/
def State.viewCellar (s : State) (i j : Nat) : Option Nat :=
  match i, j with
  | 0x3F00, 3 => some s.cellarState
  | 0x3F00, 4 => some s.cellarGen
  | 0x3F00, 6 => some ((s.au.clean.map (fun p => 2 ^ p.1)).sum)
  | 0x3F10, 6 => some s.lockedEntries
  | _, _ =>
    if 0x3F20 ≤ i && i < 0x3F30 then (if j == 1 then some (s.fn (.way (i - 0x3F20))).word else none)
    else if 0x3000 ≤ i && i < 0x3900 then s.viewTillBlock ((i - 0x3000) / 0x80) ((i - 0x3000) % 0x80) j
    else none

/-- The Ledger views of a Till (R152). -/
def State.viewLedger (s : State) (t j : Nat) : Option Nat :=
  let u := s.till t
  match j with
  | 0 => some u.foliosFree
  | 1 => some (16128 - s.escrowSums.1 - u.lentF)
  | 2 => some u.lentF
  | 3 => some u.chains.length
  | 4 => some (u.chains.filter (fun c => c.place == .store)).length
  | 5 => some (u.chains.filter (fun c => c.place == .list)).length
  | 6 => some (2048 - u.readBufsUsed)
  | 7 => some u.receipts.length
  | _ => none

/-- Ledger, Claims, monitors, posting and Settle (R152, R277). -/
def State.viewClaims (s : State) (i j : Nat) : Option Nat :=
  if i == 0x4010 then (if j == 3 then some s.escrowSums.1 else if j == 5 then some s.escrowSums.2 else none)
  else if 0x4020 ≤ i && i < 0x4032 then s.viewLedger (i - 0x4020) j
  else if 0x4110 ≤ i && i < 0x4122 then
    (let c := (s.till (i - 0x4110)).claims
     some (if j == 0 then c.length else (List.filter (fun p => p.2.state == .expired) c).length))
  else if 0x4210 ≤ i && i < 0x4222 then some (s.till (i - 0x4210)).monitors.length
  else if i == 0x4300 then (if j == 2 then some s.ws.post.length else none)
  else if i == 0x4310 then (if j == 0 then some s.lost.length else none)
  else if 0x4311 ≤ i && i < 0x4351 then
    some ((s.lost[i - 0x4311]?).map (fun p => if j == 0 then p.1.toNat else p.2.toNat) |>.getD 0)
  else if 0x4400 ≤ i && i < 0x4800 then
    some (match j with
      | 0 => (s.agent (i - 0x4400)).folioEscrow.toNat
      | 1 => (s.agent (i - 0x4400)).dataEscrow.toNat
      | _ => s.foliosOpen (i - 0x4400))
  else if 0x4800 ≤ i && i < 0x4C00 then
    some (if (s.agent (i - 0x4800)).kind != 2 then 0 else if j == 0 then bit (s.agent (i - 0x4800)).postEn
      else (s.wsAgent (i - 0x4800)).settles.length)
  else none

/-- The Exchange (R339). -/
def State.viewExchange (s : State) (i j : Nat) : Option Nat :=
  if i == 0x5000 then (match j with | 7 => some (s.linksIn 1) | 8 => some (s.linksIn 2) | _ => none)
  else if 0x5100 ≤ i && i < 0x5140 then
    some (if j < 64 then s.routeLive (i - 0x5100) j else s.routeShadow (i - 0x5100) (j - 64))
  else if 0x5200 ≤ i && i < 0x5240 then
    (if (s.build.nodeAt (i - 0x5200)).isSome then some (s.regWord (i - 0x5200) j) else none)
  else if 0x5400 ≤ i && i < 0x5480 then
    (if j == 0 && hasLink s.build (i - 0x5400) then some (s.linkStatus (i - 0x5400)) else none)
  else none

/-- A shaper's three readable entries: configuration, status, credit. -/
def Shaper.view (x : Shaper) (k : Nat) : Nat :=
  match k with | 0 => x.cfg.toNat | 1 => x.fn.word | _ => s32Of x.credit

/-- Admission and shaping (R365). -/
def State.viewShaping (s : State) (i j : Nat) : Option Nat :=
  if 0x6000 ≤ i && i ≤ 0x6008 then
    (let x := s.wicket (i - 0x6000)
     match j with
     | 1 => some x.fn.word
     | 3 => some (x.shaper.view 0)
     | 5 => some (x.shaper.view 1)
     | 6 => some (x.shaper.view 2)
     | 7 => some x.entries.length
     | _ => none)
  else if 0x6100 ≤ i && i < 0x6500 then
    (let n := i - 0x6100
     let g := s.shape n
     let c := fun (k : Nat) => (g.svc[j % 4]?).getD {} |>.view k
     if j == 0 then some (g.sub.view 0) else if j == 2 then some (g.sub.view 1) else if j == 3 then some (g.sub.view 2)
     else if 0x10 ≤ j && j < 0x14 then some (c 0) else if 0x18 ≤ j && j < 0x1C then some (c 1)
     else if 0x1C ≤ j && j < 0x20 then some (c 2)
     else if 0x20 ≤ j && j < 0x24 then some ((s.wicket (s.agent n).wicket.toNat).depth n (j - 0x20))
     else if j == 0x24 then some (bit g.bulk) else none)
  else none

/-- Sectors that a Till's rebuild still has to visit (R398). -/
def State.rebuildLeft (s : State) (t : Nat) : Nat :=
  ((s.till t).rebuild.map (fun p =>
    ((List.range (2 ^ 20)).map (fun hi =>
      ((List.range 16).filter (fun k =>
        let sec := pageIn p.1 hi * 16 + k
        decide (p.2.cursor ≤ sec) && decide (sec < s.topSector) && s.rebuilt sec)).length)).sum)).sum

/-- Buckets of a Till (R407). -/
def State.bucketCount (s : State) (t : Nat) : Nat := ((List.range 4096).filter (fun b => s.liveTill b == t)).length

/-- Integrity and repair (R407). -/
def State.viewRepair (s : State) (i j : Nat) : Option Nat :=
  if i == 0x7000 then (if j == 8 then some (bit s.fatal) else none)
  else if i == 0x7010 then
    (match j with
     | 0 => some s.transferState
     | 1 => some ((s.transfers.head?.map (·.src)).getD noTill)
     | 2 => some ((s.transfers.head?.map (·.dst)).getD noTill)
     | 3 => some ((s.transfers.head?.map (fun x => s.bucketCount x.src)).getD 0)
     | _ => none)
  else if 0x7100 ≤ i && i < 0x7112 then
    (let t := i - 0x7100
     let u := s.till t
     match j with
     | 1 => some u.fn.word
     | 2 => some u.role.code
     | 3 => some (s.bucketCount t)
     | 4 => some u.failCause
     | 5 => some (s.rebuildLeft t)
     | _ => none)
  else none

/-- VDD_MV: the granted supply (R410, R419). -/
def State.vddMv (s : State) : Nat :=
  if s.power.state == 2 || s.power.state == 3 then s.power.heldMv else s.assay.vdd

/-- Assay, power and timebase (R66, R434, R535). -/
def State.viewPower (s : State) (i j : Nat) : Option Nat :=
  match i, j with
  | 0x8000, 0xA => some s.assay.mhz
  | 0x8000, 0xB => some s.vddMv
  | 0x8001, 9 => some (s32Of (s.fuses.tempCoef.getD 0 0))
  | 0x8001, 0xA => some (s32Of (s.fuses.tempCoef.getD 1 0))
  | 0x8001, 0xB => some (s32Of (s.fuses.tempCoef.getD 2 0))
  | 0x8001, 0xC => some s.fuses.vGain
  | 0x8001, 0xF => some s.ageHours
  | 0x8001, k => if k < 9 then some (s.fuses.model.getD k 0) else none
  | 0x8040, 2 => some s.time.tick
  | 0x8040, 3 => some (bit s.time.substitute)
  | 0x8040, 7 => some s.time.ptm.toNat
  | 0x8040, 8 => some (bit s.time.ptmValid)
  | 0x8050, 1 => some s.power.state
  | 0x8050, 2 => some (s.power.pending.getD 0xFF)
  | 0x8050, 3 => some s.power.result
  | 0x8050, 4 => some s.power.wake
  | 0x8080, 1 => some s.pins.quiesceState
  | _, _ => none

/-- The state codes of a session (R481). -/
def SesState.code : SesState → Nat | .free => 0 | .opening => 1 | .open_ => 2 | .restricted => 3

/-- SESSION_INFO (R481). -/
def Session.word (x : Session) : Nat :=
  place x.number 16 48 + place x.role 2 46 + place x.slot 2 44 + place x.state.code 2 42 + place (bit x.debug) 1 41
    + place x.seq 32 0

/-- The state of a key slot (R461). -/
def State.keyState (s : State) (k : Nat) : Nat := ((KV.find? s.fuses.keys k).map (·.1)).getD 0

/-- Sessions, keys and debug (R481). -/
def State.viewSecurity (s : State) (i j : Nat) : Option Nat :=
  match i, j with
  | 0x9000, 0 => some s.fuses.lifecycle
  | 0x9000, 2 => some (if s.sec.lifeBlow.isSome then 1 else s.sec.lifeResult)
  | 0x9000, 3 => some (bit s.sec.quarantine)
  | 0x9000, 4 => some s.sec.proofFails
  | 0x9000, 5 => some s.sec.quarantines
  | 0x9001, 3 => some (s.sec.sessions.filter Session.live).length
  | 0x9011, 2 => some s.sec.keyTarget
  | 0x9011, 3 => some (if s.sec.keyBlow.isSome then 1 else s.sec.keyResult)
  | 0x9020, 0 => some s.sec.level
  | 0x9020, 1 => some ((s.sec.sessions.find? (·.debug)).map (·.number) |>.getD 0)
  | 0x9020, 2 => some (((s.build.tillList.filter (fun t => (s.till t).halted.isSome)).map (2 ^ ·)).sum)
  | 0x9020, 4 => some s.sec.locks.length
  | _, _ =>
    if 0x9002 ≤ i && i < 0x9006 then some (s.session (i - 0x9002)).word
    else if 0x9010 ≤ i && i < 0x9014 && 0x10 ≤ j && j < 0x14 then some (s.keyState ((i - 0x9010) * 4 + (j - 0x10)))
    else none

/-- The Agent Table (R280 to R283, R312). -/
def State.viewAgent (s : State) (n j : Nat) : Option Nat :=
  let a := s.agent n
  match j with
  | 0 => some a.cfgWord
  | 1 => some a.stateWord
  | 2 => some a.identity.toNat
  | 4 => some a.result
  | 5 => some (if a.grace then a.graceStart + a.graceLen - s.time.tick else 0)
  | 6 => some a.foreCount.toNat
  | _ => none

/-- The Reckoner and the slot counters (R484, R489, R506). -/
def State.viewTally (s : State) (i j : Nat) : Option Nat :=
  if 0xB000 ≤ i && i < 0xB600 then
    (let c := s.chan (i - 0xB000)
     match j with
     | 0 => some (c.pending.getD c.cfg).toNat
     | 1 => some (if c.cleared then 0 else s.tally.lastNum)
     | 2 => some c.last.min
     | 3 => some c.last.max
     | 4 => some c.last.sum
     | 5 => some c.last.count
     | 6 => some c.last.flags
     | _ => some (KV.get c.last.hist (j - 0x10) 0))
  else if 0xB600 ≤ i && i < 0xB612 && 0x80 ≤ j then
    (let u := s.till (i - 0xB600)
     match j with
     | 0x80 => some u.slotsRetired
     | 0x81 => some u.slotsWasted
     | 0x82 => some u.slotsFront
     | 0x83 => some u.slotsBack
     | _ => some (u.slotsRetired + u.slotsWasted + u.slotsFront + u.slotsBack))
  else none

/-- FF_INFO and FF_ARG (R503). -/
def State.viewFf (s : State) (t j : Nat) : Option Nat :=
  if j < 16 then
    some (((s.ffOf t)[j % 8]?).map (fun r => if j < 8 then 2 ^ 63 + place r.code 12 48 + r.tick % 2 ^ 48 else r.arg)
      |>.getD 0)
  else none

/-- The Journal and the slot block (R309, R506). -/
def State.viewJournal (s : State) (i j : Nat) : Option Nat :=
  if 0xC000 ≤ i && i < 0xC004 then
    (let x := s.stream (i - 0xC000)
     match j with
     | 2 => some x.fn.word
     | 3 => some x.ready
     | 4 => some (bit x.underrun)
     | _ => none)
  else if 0xC040 ≤ i && i < 0xC052 then s.viewFf (i - 0xC040) j
  else if 0xC800 ≤ i && i < 0xC808 then (if j == 0 then some (s.slotStatus (i - 0xC800)) else none)
  else none

/-- The live view of an entry, or none where the entry is stored. -/
def State.view (s : State) (i j : Nat) : Option Nat :=
  match i / 0x1000 with
  | 1 => if i < 0x1100 then s.viewIdentity i j else s.viewGlobal i j
  | 2 => (s.viewGlobal i j).orElse (fun _ => s.viewMaps i j)
  | 3 => s.viewCellar i j
  | 4 => s.viewClaims i j
  | 5 => s.viewExchange i j
  | 6 => s.viewShaping i j
  | 7 => s.viewRepair i j
  | 8 => s.viewPower i j
  | 9 => s.viewSecurity i j
  | 0xA => s.viewAgent (i - 0xA000) j
  | 0xB => s.viewTally i j
  | 0xC => s.viewJournal i j
  | _ => none

/-! ## Reading (R26, R307, R308, R311, R437) -/

/-- Is a Till unavailable: FAILED, or in Till reset (R308). -/
def State.tillGone (s : State) (t : Nat) : Bool := (s.till t).fn.st == .failed || (s.till t).role == .reset

/-- Does an entry stand behind a Till that is unavailable (R308). -/
def State.gone (s : State) (i : Nat) : Bool := (behindTill i).any (fun t => s.build.hasTill t && s.tillGone t)

/-- Is an index of the H0 slot block (R309, R311). -/
def slotBlock (i : Nat) : Bool := decide (0xC800 ≤ i) && decide (i < 0xC900)

/-- The slot of an entry as a read returns it, with no side effect of a read (R435 to R437). -/
def State.slotOf (s : State) (i j : Nat) : Word :=
  if !s.chartUp then (if slotBlock i then 0 else BitVec.allOnes 64)
  else
    match entryAt s.build i j with
    | none => 0
    | some e =>
      if s.gone i then BitVec.allOnes 64
      else if e.acc == .cmd || e.acc == .wo then 0
      else if e.ty.long then BitVec.ofNat 64 (leVal ((s.longVal i j).take 8))
      else
        let v := (s.view i j).getD (s.rawN i j)
        if e.ty == .s32 && 2 ^ 31 ≤ v % 2 ^ 32 then BitVec.ofNat 64 (v % 2 ^ 32 + (2 ^ 64 - 2 ^ 32)) else BitVec.ofNat 64 v

end Sys2Proof.Machine
end

