-- ==== Sys2Proof/Machine/Reset.lean ====
section
/-! DEFINITION. The function reset (R306, R446, R456, R470, R504). -/

namespace Sys2Proof.Machine

/-- Is a plain entry kept by a function reset: every entry but those of class V, and FF_MISSED (R306, R438, R504). -/
def keptByReset (b : Build) (k : Nat) : Bool :=
  let i := k / 256
  !(entryAt b i (k % 256)).any (fun e => e.cls == .v) || (0xC040 ≤ i && i < 0xC052)

/-- A stream after a function reset (R504). -/
def Stream.cleared (x : Stream) (burst : Nat) : Stream :=
  { x.emptied with seq := 0, tokens := burst, drops := {}, underrun := false, lastWord := 0 }

/-- The Journal after a function reset: first-fault registers stay (R504). -/
def clearJournal (s : State) : State :=
  { s with journal := { s.journal with
    streams := s.journal.streams.mapIdx (fun k x => x.cleared (s.rawN (0xC000 + k) 6)), causes := [] } }

/-- The Reckoner and the slot counters after a function reset: CHAN_CFG stays (R504). -/
def clearTally (s : State) : State :=
  { s with
    tally := { s.tally with
      chans := s.tally.chans.foldl (fun m p => KV.set m p.1 { cfg := p.2.cfg, pending := p.2.pending } {}) [], lastNum := 0 }
    tills := s.tills.map (fun u => { u with slotsRetired := 0, slotsWasted := 0, slotsFront := 0, slotsBack := 0 }) }

/-- The V entries that the state holds beside the plain ones (R438). -/
def clearResults (s : State) : State :=
  { s with
    seg := {}
    maps := { s.maps with rFail := 0 }
    agents := s.agents.foldl (fun m p => KV.set m p.1 { p.2 with result := 0 } {}) []
    power := { s.power with result := 0, wake := 0 }
    sec := { s.sec with keyTarget := 0, keyResult := 0, keyStage := [], lifeResult := 0 } }

/-- The function reset begins: the Chart is unavailable until it ends; sessions close and the debug level falls; V entries,
the Tally and the Journal streams are cleared (R306, R307, R456, R470). -/
def startReset (s : State) : State :=
  if s.boot != .released || s.inReset then s
  else
    let s1 := levelOff (closeWhere { s with inReset := true } (fun _ => true))
    let s2 := clearResults (clearTally (clearJournal s1))
    ({ s2 with chart := List.filter (fun p => keptByReset s.build p.1) s2.chart } : State).bump ⟨0x1100, 5, 32⟩

end Sys2Proof.Machine
end

