-- ==== Sys2Proof/Machine/Chart.lean ====
section
/-! DEFINITION. Writes to the Chart (R437, R439 to R446, R459, R464): the checks in their order, the owners' checks, what each
write does, and the reads that have an effect of their own. -/

namespace Sys2Proof.Machine

/-! ## Status codes (R449) -/

/-- The status codes of R449. -/
inductive Code where
  | ok | busy | denied | invalid | unavailable | readOnly | locked | unimplemented | width | auth | sequence | tooLong
  | unknownCommand
  deriving DecidableEq, Repr

/-- The number of a status code. -/
def Code.num : Code → Nat
  | .ok => 0 | .busy => 1 | .denied => 2 | .invalid => 3 | .unavailable => 4 | .readOnly => 5 | .locked => 6
  | .unimplemented => 7 | .width => 8 | .auth => 9 | .sequence => 10 | .tooLong => 11 | .unknownCommand => 12

/-- A write's author: its path, its role, and the header that the Home reads if the write enables the Cellar. -/
structure Author where
  teller : Bool
  role : Nat
  header : Option LineData := none
  deriving DecidableEq, Repr

/-- A write's outcome. -/
abbrev Wrote := State × Code

/-! ## Keys and the lifecycle (R461, R462) -/

/-- The VALID slots of a role. -/
def State.validSlots (s : State) (role : Nat) : Nat := ((List.range 4).filter (fun i => s.keyState (role * 4 + i) == 1)).length

/-- KEY_PROGRAM (R461). KEY_STAGE is cleared. -/
def keyProgram (s : State) (role v : Nat) : State :=
  let k := s.sec.keyTarget
  let answer := fun (r : Nat) => { s with sec := { s.sec with keyResult := r, keyStage := [] } }
  if s.sec.keyBlow.isSome then { s with sec := { s.sec with keyStage := [] } }
  else if v != 1 && v != 2 then answer 3
  else if v == 1 && s.keyState k != 0 then answer 3
  else if v == 2 && s.keyState k == 1 && (k / 4 == 1 || k / 4 == 3) && s.validSlots (k / 4) ≤ 1 then answer 2
  else if role == 0 || (k / 4 == 3 && role != 3) then answer 2
  else { s with sec := { s.sec with
    keyResult := 0, keyBlow := some (k, v == 2), keyImage := s.sec.keyStage, keyStage := [] } }

/-- Is a caching host or internal agent neither Absent nor Quarantined (R462). -/
def State.agentsPresent (s : State) : Bool :=
  s.agents.any (fun p => (p.2.kind == 0 || p.2.kind == 2) && p.2.state != .absent && p.2.state != .quarantined)

/-- LIFECYCLE_CMD (R462). -/
def lifecycleCmd (s : State) (role v : Nat) : State :=
  let answer := fun (r : Nat) => { s with sec := { s.sec with lifeResult := r } }
  let blow := fun (n : Nat) => { s with sec := { s.sec with lifeResult := 0, lifeBlow := some n } }
  let now := s.fuses.lifecycle
  if s.sec.lifeBlow.isSome then s
  else if s.sec.level == 2 then answer 1
  else
    match v with
    | 1 => if now != 0 then answer 3 else if s.validSlots 1 == 0 || s.validSlots 3 == 0 then answer 2 else blow 1
    | 2 => if now != 1 then answer 3 else if role == 0 then answer 2 else blow 2
    | 3 => if now != 1 && now != 2 then answer 3 else if role != 3 || s.agentsPresent then answer 2 else blow 3
    | _ => answer 3

/-! ## GLOBAL_CMD (R455, R456) -/

/-- GLOBAL_CMD (R455, R456). -/
def globalCmd (s : State) (v : Nat) : State :=
  match v with
  | 1 => { s.setRawN 0x1100 2 0 with startSeen := s.startSeen || s.global == 1 }
  | 2 => startReset (s.setRawN 0x1100 2 0)
  | _ => s.setRawN 0x1100 2 3

/-! ## The owners' checks and effects -/

/-- Does a write to an RWL entry come after its lock event: READY, CELLAR_ENABLE or SAVE_EN (R40, R171, R434). -/
def State.lockedEntry (s : State) (i : Nat) : Bool :=
  match i with
  | 0x2011 => s.interleaveLocked
  | 0x3F00 => s.cellarLocked
  | 0x8051 => s.saveLocked
  | _ => false

/-- A range that R436's single interval does not express. -/
def ownerRange (i j v : Nat) : Bool :=
  match i, j with
  | 0x8000, 9 => v % 25 == 0
  | 0x7000, 4 => v % 4096 == 0
  | 0x6800, 0 => v != 0
  | 0x6800, 1 => (List.range 4).all (fun k => v / 2 ^ (8 * k) % 256 != 0)
  | _, _ =>
    if 0x5200 ≤ i && i < 0x5240 then
      decide (1 ≤ v / 2 ^ 16 % 512) && decide (v / 2 ^ 16 % 512 ≤ 256) && v % 256 != 0
    else true

/-- A value with the reserved fields of its entry 0 (R24). -/
def ownerMask (i j v : Nat) : Nat :=
  if 0x5200 ≤ i && i < 0x5240 then place (v / 2 ^ 16) 9 16 + v % 256
  else if 0x5100 ≤ i && i < 0x5140 then v / 16 * 16
  else if (0xB600 ≤ i && i < 0xB612) || i == 0xB700 then
    (if j < 0x40 then v % 2 ^ 48 else place (v / 2 ^ 29) 3 29 + place (v / 2 ^ 12) 8 12 + v % 1024)
  else v

/-- Is a CHAN_CFG value legal for its channel (R483). -/
def chanLegal (b : Build) (c : Nat) (v : BitVec 32) : Bool :=
  let init := decide (chanCount b - b.nodeIds.length ≤ c)
  chanMeasure v ≤ (if init then 0 else 1)
    && chanFilter v ≤ (if c < 1024 then 4 else if init then 5 else 0)

/-- A write of the value or selector of a programmable counter (R487, R488). -/
def counterWrite (s : State) (i j v : Nat) : Wrote :=
  if j < 0x40 then (s.setRawN i j v, .ok)
  else
    let code := v % 1024
    if code != 0 && (decide (code < 0x100) != (i != 0xB700)) then (s, .invalid)
    else
      let ovf := if v / 2 ^ 29 % 2 == 1 then 0 else s.rawN i j / 2 ^ 29 % 2
      let keep := place (v / 2 ^ 30) 2 30 + place ovf 1 29 + v % 2 ^ 29
      let s1 := s.setRawN i j keep
      (if i == 0xB700 then { s1 with cond := s1.signals }
       else s1.modTill (i - 0xB600) (fun u => { u with cond := u.signals }), .ok)

/-- COUNTERS_CLEAR: every programmable counter value and every OVF bit (R487). -/
def countersClear (s : State) : State :=
  let isCtr := fun (k : Nat) => (0xB600 ≤ k / 256 && k / 256 < 0xB612) || k / 256 == 0xB700
  { s with chart := (List.filter (fun p => !(isCtr p.1 && p.1 % 256 < 0x40)) s.chart).map (fun p =>
      if isCtr p.1 && p.1 % 256 < 0x80 then (p.1, p.2 &&& ~~~(BitVec.ofNat 64 (2 ^ 29))) else p) |>.filter (fun p =>
        !(isCtr p.1 && p.2 == 0)) }

/-- FF_CLEAR (R503). -/
def ffClear (s : State) (t : Nat) : State :=
  { s with journal := { s.journal with ff := KV.del s.journal.ff t } }.setRawN (0xC040 + t) 0x11 0

/-- The common control entry that an index and subindex name. -/
def controlOf (i j : Nat) : Option Func :=
  if 0x3F20 ≤ i && i < 0x3F30 && j == 0 then some (.way (i - 0x3F20))
  else if 0x6000 ≤ i && i ≤ 0x6008 && j == 0 then some (.wicket (i - 0x6000))
  else if 0x6000 ≤ i && i ≤ 0x6008 && j == 4 then some (.portShaper (i - 0x6000))
  else if 0x6100 ≤ i && i < 0x6500 && j == 1 then some (.subShaper (i - 0x6100))
  else if 0x6100 ≤ i && i < 0x6500 && 0x14 ≤ j && j < 0x18 then some (.svcShaper (i - 0x6100) (j - 0x14))
  else if 0x7100 ≤ i && i < 0x7112 && j == 0 then some (.till (i - 0x7100))
  else if 0xC000 ≤ i && i < 0xC004 && j == 1 then some (.stream (i - 0xC000))
  else none

/-- The shaper whose configuration entry an index and subindex name. -/
def shaperAt (i j : Nat) : Option Func :=
  if 0x6000 ≤ i && i ≤ 0x6008 && j == 3 then some (.portShaper (i - 0x6000))
  else if 0x6100 ≤ i && i < 0x6500 && j == 0 then some (.subShaper (i - 0x6100))
  else if 0x6100 ≤ i && i < 0x6500 && 0x10 ≤ j && j < 0x14 then some (.svcShaper (i - 0x6100) (j - 0x10))
  else none

/-- The commands of CMD entries (R437): the outcome stands in the owner's result or status entry. -/
def command (s : State) (a : Author) (i j v : Nat) : State :=
  match controlOf i j with
  | some f => funcWrite s f v
  | none =>
    match i, j with
    | 0x1100, 1 => globalCmd s v
    | 0x2010, 0 => if v == 1 then mapCommit s else s
    | 0x2012, 0 => if v == 1 then regionCommit s else s
    | 0x3F00, 2 =>
      if v != 1 then s
      else (match a.header with | some h => cellarEnable s h | none => cellarEnable s.freeUsed s.free)
    | 0x3F10, 0 => preload s v
    | 0x4310, 2 => if v == 1 then { s with lost := [] } else s
    | 0x5000, 0 => if v == 1 then routeCommit s else s
    | 0x8050, 0 => powerTarget s v
    | 0x9000, 1 => lifecycleCmd s a.role v
    | 0x9011, 0 => keyProgram s a.role v
    | 0xB800, 4 => if v == 1 then countersClear s else s
    | _, _ =>
      if 0x5400 ≤ i && i < 0x5480 then linkCmd s (i - 0x5400) v
      else if 0x6000 ≤ i && i ≤ 0x6008 && j == 2 then (if v == 1 then linkReset s (i - 0x6000) else s)
      else if 0xA000 ≤ i && i < 0xA400 then agentCmd s (i - 0xA000) v
      else if 0xC040 ≤ i && i < 0xC052 then (if v == 1 then ffClear s (i - 0xC040) else s)
      else s

/-- Selects a long entry for segment access (R445). -/
def segSelect (s : State) (v : Nat) : State :=
  let i := v / 2 ^ 16 % 2 ^ 16
  let j := v / 2 ^ 8 % 2 ^ 8
  let target := place i 16 16 + place j 8 8
  match entryAt s.build i j with
  | some e =>
    if e.ty.long then
      { s with seg := { target := target, number := 0, length := e.ty.bytes, snap := s.longVal i j, stage := s.longVal i j, result := 0 } }
    else { s with seg := { target := target, result := 3 } }
  | none => { s with seg := { target := target, result := 3 } }

/-- Replaces bytes of a list from a position on. -/
def patch (l : List Byte) (at_ : Nat) (b : List Byte) : List Byte := (l.take at_ ++ b ++ l.drop (at_ + b.length)).take l.length

/-- A write to an entry that is no command, after the checks of its class and range. -/
def store (s : State) (i j v : Nat) : Wrote :=
  let agent := fun (base : Nat) => i - base
  if i == 0x1110 && j == 1 then ({ s with seg := { s.seg with number := v } }, .ok)
  else if 0x2041 ≤ i && i < 0x2080 then
    (let r := tenantWrite s (agent 0x2040) j (BitVec.ofNat 64 v)
     (r.1, if r.2 then .ok else .busy))
  else if 0x2100 ≤ i && i < 0x2140 then
    (let n := agent 0x2100
     let r := s.shadowRegion n
     let w := BitVec.ofNat 64 v
     let r1 : Region := match j with
       | 0x10 => { r with base := w }
       | 0x11 => { r with limit := w }
       | _ => { r with attr := BitVec.ofNat 32 (if n == 0 then v % 2 ^ 31 + 2 ^ 31 else v) }
     ({ s with maps := { s.maps with rShadow := setRegion s.maps.rShadow n r1 } }, .ok))
  else if 0x2200 ≤ i && i < 0x2300 then
    ({ s with maps := { s.maps with bShadow := s.setBucket s.maps.bShadow (agent 0x2200 * 16 + (j - 16)) (v % 32) } }, .ok)
  else if i == 0x4010 || (0x4400 ≤ i && i < 0x4800) then
    (let r := escrowWrite s i j v
     (r.1, if r.2 then .ok else .invalid))
  else if 0x4800 ≤ i && i < 0x4C00 then
    (s.modAgent (agent 0x4800) (fun a => if a.kind == 2 then { a with postEn := v == 1 } else a), .ok)
  else if 0x5100 ≤ i && i < 0x5140 then (setRoute s (agent 0x5100) j v, .ok)
  else if i == 0x7000 && j == 0 then ({ s.setRawN i j v with assay := { s.assay with userScrub := v } }, .ok)
  else if i == 0x8051 && j == 1 then
    (if v == 1 && s.cellarState != 0 && s.saveOverlaps then (s, .invalid)
     else ({ s.setRawN i j v with saveLocked := s.saveLocked || v == 1 }, .ok))
  else if i == 0x9011 && j == 2 then ({ s with sec := { s.sec with keyTarget := v } }, .ok)
  else if 0x6100 ≤ i && i < 0x6500 && j == 0x24 then
    (if (s.agent (agent 0x6100)).state != .absent then (s, .busy)
     else (s.modShape (agent 0x6100) (fun g => { g with bulk := v == 1 }), .ok))
  else if 0xA000 ≤ i && i < 0xA400 then
    (let r := cfgWrite s (agent 0xA000) (BitVec.ofNat 32 v)
     (r.1, if r.2 then .ok else .busy))
  else if 0xB000 ≤ i && i < 0xB600 then
    (let c := BitVec.ofNat 32 (v / 2 ^ 20 * 2 ^ 20)
     if chanLegal s.build (agent 0xB000) c then (s.modChan (agent 0xB000) (fun x => { x with pending := some c }), .ok)
     else (s, .invalid))
  else if (0xB600 ≤ i && i < 0xB612) || i == 0xB700 then counterWrite s i j v
  else if 0xC800 ≤ i && i < 0xC808 then
    (let r := slotCtrl s (agent 0xC800) v
     (r.1, if r.2 then .ok else .invalid))
  else (s.setRawN i j v, .ok)

/-- A write of ones to a W1C entry clears the bits (R437): UNDERRUN, and ATTN_PRESSED and PRESENCE_CHANGED. -/
def clearBits (s : State) (i j v : Nat) : State :=
  if 0xC000 ≤ i && i < 0xC004 then
    (if v == 1 then s.modStream (i - 0xC000) (fun x => { x with underrun := false }) else s)
  else
    let old := s.rawN i j
    s.setRawN i j (place (bit (old / 16 % 2 == 1 && v / 16 % 2 == 0)) 1 4 + place (bit (old / 8 % 2 == 1 && v / 8 % 2 == 0)) 1 3)

/-- A value of an entry, cut to the width of its type (R436). -/
def cutTo (t : Ty) (v : Nat) : Nat := v % 2 ^ (min 64 t.width)

/-- Is a value inside the owner's range (R436); an S32 range here lies above 0. -/
def inRange (e : Entry) (i j v : Nat) : Bool := decide (e.lo ≤ v) && decide (v ≤ e.hi) && ownerRange i j v

/-- What an accepted access class does with the value: the owner's checks and the effect. -/
def applyOwner (s : State) (a : Author) (i j : Nat) (e : Entry) (v0 : Nat) : Wrote :=
  let v := ownerMask i j (cutTo e.ty v0)
  match e.acc with
  | .cmd => (command s a i j v, .ok)
  | .w1c => (clearBits s i j v, .ok)
  | _ =>
    if !inRange e i j v then (s, .invalid)
    else
      match shaperAt i j with
      | some f =>
        if cfgLegal (BitVec.ofNat 64 v) then (s.modShaper f (fun x => x.configure (BitVec.ofNat 64 v)), .ok) else (s, .invalid)
      | none => store s i j v

/-! ## The checks before the owner's (R308, R437, R441, R445, R459, R473) -/

/-- The refusal that a write meets before its owner's checks, in the order of R459. `size` is the width in bytes, 0 for a
whole long value. -/
def firstCheck (s : State) (a : Author) (i j size : Nat) : Code :=
  if s.sec.quarantine || !mayWrite a.role i j then .denied
  else
    match entryAt s.build i j with
    | none => .unimplemented
    | some e =>
      if e.acc == .ro || e.cls == .f then .readOnly
      else if e.acc == .rwl && s.lockedEntry i then .locked
      else if s.gone i then .unavailable
      else if (e.ty.long && size != 0) || (size == 4 && 32 < e.ty.width) || (size != 4 && size != 8 && size != 0) then .width
      else .ok

/-- Counts and records a refused write (R444); a refused KEY_PROGRAM or LIFECYCLE_CMD shows in its result entry too (R461,
R462). -/
def refused (s : State) (a : Author) (i j : Nat) (c : Code) : State :=
  let s1 := (s.bump ⟨0x1100, 6, 32⟩).setRawN 0x1100 7
    (place i 16 48 + place j 8 40 + place c.num 4 36 + place (bit a.teller) 1 35)
  if c == .denied && i == 0x9000 && j == 1 then { s1 with sec := { s1.sec with lifeResult := 2 } }
  else if c == .denied && i == 0x9011 && j == 0 then { s1 with sec := { s1.sec with keyResult := 2 } }
  else s1

/-- Counts an applied write (R457). -/
def applied (s : State) : State := s.bump ⟨0x1100, 0xA, 64⟩

/-- A write of a long entry as a whole (R446, R450): KEY_STAGE is the only one that may be written. -/
def writeLong (s : State) (a : Author) (i j : Nat) (b : List Byte) : Wrote :=
  match firstCheck s a i j 0 with
  | .ok => (applied { s with sec := { s.sec with keyStage := b } }, .ok)
  | c => (refused s a i j c, c)

/-- A write to SEG_DATA: the segment is staged; the last one applies the whole entry (R445, R446). -/
def segWrite (s : State) (a : Author) (v : Nat) : Wrote :=
  let x := s.seg
  if x.length ≤ 8 * x.number then (s, .invalid)
  else
    let b := (leBytes 8 v).take (x.length - 8 * x.number)
    let stage := patch x.stage (8 * x.number) b
    let s1 := { s with seg := { x with stage := stage, number := x.number + 1 } }
    if x.number == (x.length - 1) / 8 then
      let r := writeLong s1 a (x.target / 2 ^ 16) (x.target / 2 ^ 8 % 2 ^ 8) stage
      ({ r.1 with seg := { r.1.seg with result := r.2.num } }, .ok)
    else (s1, .ok)

/-- One write of one slot (R437 to R446, R459). -/
def writeEntry (s : State) (a : Author) (i j v size : Nat) : Wrote :=
  match firstCheck s a i j size with
  | .ok =>
    let e := (entryAt s.build i j).getD cmdV
    let r := if i == 0x1110 && j == 0 then (segSelect s (v % 2 ^ 32), Code.ok)
      else if i == 0x1110 && j == 2 then segWrite s a (v % 2 ^ 64)
      else applyOwner s a i j e v
    if r.2 == .ok then (applied r.1, .ok) else (refused r.1 a i j r.2, r.2)
  | c => (refused s a i j c, c)

/-! ## Reads with an effect (R445, R499) -/

/-- A read of one slot, with what it advances: JN_DATA and SEG_DATA. `debug` is whether the reader holds a debug level. -/
def readSlot (s : State) (debug : Bool) (i j : Nat) : State × Word :=
  if !s.chartUp then (s, s.slotOf i j)
  else if 0xC000 ≤ i && i < 0xC004 && j == 0 then jnRead s (i - 0xC000) debug
  else if i == 0x1110 && j == 2 then ({ s with seg := { s.seg with number := (s.seg.number + 1) % 2 ^ 16 } }, s.slotOf i j)
  else (s, s.slotOf i j)

/-! ## The window (R440 to R444, R427) -/

/-- Does a Chart write wake the Home from Hold (R427). -/
def wakes (i : Nat) : Bool := !(i / 0x1000 == 8 || i / 0x1000 == 9 || i / 0x100 == 0xC0)

/-- Acts on an event in Hold: it wakes the Home, and is kept until the exit (R427). -/
def deferTo (s : State) (cause : Nat) (c : Instr) : State :=
  (leaveHold s cause).modPower (fun p => { p with deferred := p.deferred ++ [c] })

/-- The author of a window write (R464). -/
def State.window (s : State) (header : Option LineData) : Author := ⟨false, s.windowRole, header⟩

/-- A window write of `size` bytes that is aligned (R441). While the Chart is unavailable it is discarded (R444). -/
def windowWrite (s : State) (header : Option LineData) (i j v size : Nat) : State :=
  if !s.chartUp || s.power.offReady then s
  else (writeEntry (s.gev 0x10C) (s.window header) i j v size).1

/-- A window write that a command stands for: in Hold it may wake the Home (R427). -/
def windowCmd (s : State) (c : Instr) (header : Option LineData) (i j v size : Nat) : State :=
  if s.inHold && s.chartUp && !s.power.offReady && wakes i then deferTo s 5 c
  else windowWrite s header i j v size

/-- The control entry of a function. -/
def controlAt : Func → Nat × Nat
  | .wicket w => (0x6000 + w, 0)
  | .way w => (0x3F20 + w, 0)
  | .stream k => (0xC000 + k, 1)
  | .portShaper w => (0x6000 + w, 4)
  | .subShaper n => (0x6100 + n, 1)
  | .svcShaper n c => (0x6100 + n, 0x14 + c)
  | .till t => (0x7100 + t, 0)

/-- The configuration entry of a shaper. -/
def configAt : Func → Nat × Nat
  | .portShaper w => (0x6000 + w, 3)
  | .subShaper n => (0x6100 + n, 0)
  | .svcShaper n c => (0x6100 + n, 0x10 + c)
  | f => controlAt f

/-- The window write that a command stands for: index, subindex, value, width and the Cellar header. -/
def chartOp : Instr → Option (Nat × Nat × Nat × Nat × Option LineData)
  | .bucketMapCommit v => some (0x2010, 0, v.toNat, 8, none)
  | .regionCommit v => some (0x2012, 0, v.toNat, 8, none)
  | .enable f => some ((controlAt f).1, (controlAt f).2, 1, 8, none)
  | .disable f => some ((controlAt f).1, (controlAt f).2, 2, 8, none)
  | .cellarEnable h => some (0x3F00, 2, 1, 8, some h)
  | .preload => some (0x3F10, 0, 1, 8, none)
  | .preloadAndLock => some (0x3F10, 0, 2, 8, none)
  | .unlock => some (0x3F10, 0, 3, 8, none)
  | .routeCommit => some (0x5000, 0, 1, 8, none)
  | .retrain l => some (0x5400 + l, 1, 3, 8, none)
  | .start => some (0x1100, 1, 1, 8, none)
  | .functionReset => some (0x1100, 1, 2, 8, none)
  | .ffClear t => some (0xC040 + t, 0x10, 1, 8, none)
  | .countersClear => some (0xB800, 4, 1, 8, none)
  | .lostWritesClear => some (0x4310, 2, 1, 8, none)
  | .join n => some (0xA000 + n, 3, 1, 8, none)
  | .leave n => some (0xA000 + n, 3, 2, 8, none)
  | .foreclose n => some (0xA000 + n, 3, 3, 8, none)
  | .agentRelease n => some (0xA000 + n, 3, 4, 8, none)
  | .agentCfgWrite n v => some (0xA000 + n, 0, v.toNat, 8, none)
  | .escrowWrite i j v => some (i, j, v.toNat, 8, none)
  | .tenantMembersWrite t i v => some (0x2040 + t, i, v.toNat, 8, none)
  | .slotCtrlWrite w v => some (0xC800 + w, 1, v.toNat, 8, none)
  | .wicketLinkReset w v => some (0x6000 + w, 2, v.toNat, 8, none)
  | .shaperConfigWrite f v => some ((configAt f).1, (configAt f).2, v.toNat, 8, none)
  | .powerTargetRun => some (0x8050, 0, 0, 8, none)
  | .powerTargetLean => some (0x8050, 0, 1, 8, none)
  | .powerTargetHold => some (0x8050, 0, 2, 8, none)
  | .powerTargetOff => some (0x8050, 0, 3, 8, none)
  | .program => some (0x9011, 0, 1, 8, none)
  | .revoke => some (0x9011, 0, 2, 8, none)
  | .provision => some (0x9000, 1, 1, 8, none)
  | .deploy => some (0x9000, 1, 2, 8, none)
  | .retire => some (0x9000, 1, 3, 8, none)
  | .segTarget v => some (0x1110, 0, v.toNat, 8, none)
  | .segDataWrite v => some (0x1110, 2, v.toNat, 8, none)
  | .chartWrite off size v =>
    some (off.toNat / 2 ^ 11, off.toNat / 8 % 256, if size == 4 then v.toNat % 2 ^ 32 else v.toNat,
      if off.toNat % 8 != 0 then 1 else size, none)
  | _ => none

/-- A command that is a window write, at once. -/
def writeNow (s : State) (c : Instr) : State :=
  match chartOp c with
  | some (i, j, v, size, h) => windowWrite s h i j v size
  | none => s

/-- A command that is a window write. -/
def writeCmd (c : Instr) (s : State) : State :=
  match chartOp c with
  | some (i, j, v, size, h) => windowCmd s c h i j v size
  | none => s

end Sys2Proof.Machine
end

