-- ==== Sys2Proof/Machine/Admission.lean ====
section
/-! DEFINITION. The requests of the agents: what a Wicket discards, refuses, holds and admits (R35, R36, R67 to R69, R140,
R141, R232, R245, R268, R282, R305, R341, R344, R404, R427). -/

namespace Sys2Proof.Machine

/-! ## Messages that a Wicket discards (R35, R36, R232, R282) -/

/-- The state of an agent whose messages a Wicket takes: bound, or dying. -/
def AState.lives : AState → Bool | .active | .leaving | .foreclosing => true | _ => false

/-- Where a message is discarded, the state after it; `late` is the counter of messages behind a death mark. -/
def discardMsg (s : State) (w : Nat) (aid : Aid) (inc : Inc) (late : Ctr) : Option State :=
  let a := s.agent aid.toNat
  if !a.state.lives then some (s.bump ⟨0x6000 + w, 0xB, 64⟩)
  else if a.wicket.toNat != w then
    some ((s.bump ⟨0x6000 + w, 0xA, 64⟩).note .wrongWicket (.wicket w) [aid.toNat, a.wicket.toNat] (some aid))
  else if a.deadMark then some (s.bump late)
  else if a.inc != inc then some (s.bump ⟨0x6000 + w, 0xB, 64⟩)
  else none

/-! ## Requests that a Wicket refuses (R69, R141, R282, R341) -/

/-- Does the kind of an agent permit an opcode (R67). -/
def kindAdmits (kind : Nat) (o : Opc) : Bool :=
  match kind with
  | 0 =>
    (match o with
     | .rdS | .rdX | .rdAny | .rdNc | .own | .drop | .down | .wbI | .wbS | .wbX | .evc | .conflict | .ncwFull | .ncwPtl => true
     | _ => false)
  | 1 => o == .rdNc || o == .ncwFull || o == .ncwPtl
  | _ =>
    (match o with
     | .rdNc | .ncwFull | .ncwPtl | .claimX | .claimS | .release | .rsv | .cwr | .settle => true
     | _ => false)

/-- The entry credit that a request spends: an injected one spends none (R476). -/
def payEntry (s : State) (w a : Nat) (o : Opc) (origin : Origin) : State × Bool :=
  if origin == .agent then spendEntry s w a o else (s, false)

/-- A request answered CMP, STATUS FAIL without being admitted: its entry credit comes back, and a refused write of an
internal agent has the outcome FAIL in its epoch (R268). -/
def refuseReq (s : State) (w : Nat) (o : Opc) (q : Req) (origin : Origin) : State :=
  let a := q.aid.toNat
  let s1 := wicketFail (payEntry s w a o origin).1 w o q.aid q.inc q.tag origin
  let s2 := if w == Build.ws && o.isWrite then
      (let e := (s1.wsAgent a).epoch
       noteOutcome (addWrite s1 a e) a e .fail true)
    else s1
  regrant s2 w a

/-- Does a Wicket admit only what qualifies for a kept credit: OFF, DRAINING and FAILED (R341). -/
def State.shut (s : State) (w : Nat) : Bool :=
  match (s.wicket w).fn.st with
  | .off | .draining | .failed => true
  | _ => false

/-! ## Receipt handles (R140, R141) -/

/-- Gives a RETRY the handle `h`, and delivers its completion to the internal agent. -/
def giveHandle (s : State) (h t : Nat) (c : HeldCmp) : State :=
  let x := s.folio? t c.rcpt
  let g : Handle := ⟨c.aid, c.req, c.laddr, c.tag, (x.map (·.param)).getD 0, t, c.rcpt, (x.map (·.epoch)).getD 0⟩
  let s1 : State := { s with ws := { s.ws with handles := KV.put s.ws.handles h g } }
  sendCmp s1 Build.ws c.origin .cmp c.aid c.inc c.tag .retry h none

/-- A RETRY for an internal agent takes the lowest free handle, or waits for one (R140; DESIGN CHOICE, log entry 3). -/
def takeHandle (s : State) (t : Nat) (c : HeldCmp) : State :=
  match KV.lowest s.ws.handles 256 with
  | some h => giveHandle s h t c
  | none => { s with ws := { s.ws with handleWait := s.ws.handleWait ++ [(t, c)] } }

/-- A handle frees, and the RETRY that has waited longest takes it. -/
def freeHandle (s : State) (h : Nat) : State :=
  let s1 : State := { s with ws := { s.ws with handles := KV.del s.ws.handles h } }
  match s1.ws.handleWait with
  | [] => s1
  | (t, c) :: rest => takeHandle { s1 with ws := { s1.ws with handleWait := rest } } t c

/-- The handle that a resend redeems (R141). -/
def State.redeems (s : State) (w : Nat) (o : Opc) (q : Req) : Option Handle :=
  if w != Build.ws then none else
    (KV.find? s.ws.handles q.rcpt.toNat).filter (fun h =>
      h.aid == q.aid && h.opc == o && h.laddr == q.laddr && h.tag == q.tag && h.param == q.param)

/-! ## Admission (R245, R268, R344) -/

/-- A Wicket has put a request in its place: the agent's credits are made up, the request may enter the bypass, and the
loan that it lacks is asked for. -/
def afterAdmit (s : State) (w a : Nat) : State := askLoans (markBypass (regrant s w a) w) w

/-- The Wicket admits a request on one of the agent's entry credits. -/
def takeReq (s : State) (w : Nat) (o : Opc) (q : Req) (origin : Origin) : State :=
  let a := q.aid.toNat
  let (s1, kept) := payEntry s w a o origin
  let e := admOf s1 w o q kept origin none
  if w == Build.ws then
    afterAdmit (wsTake (if o.isWrite then addWrite s1 a e.epoch else s1) e) w a
  else afterAdmit (pushAdm s1 w e) w a

/-- The Wicket admits a resend under a receipt; a retried write keeps its epoch (R141, R268). -/
def takeResend (s : State) (w : Nat) (o : Opc) (q : Req) (h : Handle) (origin : Origin) : State :=
  let (s1, kept) := payEntry (freeHandle s q.rcpt.toNat) w q.aid.toNat o origin
  afterAdmit (wsTake s1 { admOf s1 w o q kept origin (some (h.till, h.folio)) with epoch := h.epoch }) w q.aid.toNat

/-- The Wicket decides on a request that it has not discarded (R67, R141, R282, R341). -/
def decideReq (s : State) (w : Nat) (o : Opc) (q : Req) (origin : Origin) : State :=
  let a := s.agent q.aid.toNat
  if !kindAdmits a.kind.toNat o then
    (refuseReq (s.bump ⟨0x2020, 4, 32⟩) w o q origin).note .opcodeRefused (.wicket w) [q.aid.toNat, o.code] (some q.aid)
  else if a.state == .leaving && !o.keptKind then refuseReq s w o q origin
  else if s.shut w && !(s.wicket w).qualifies o q.aid (s.routeTill w o q.aid q.laddr) q.laddr then
    refuseReq (s.bump ⟨0x6000 + w, 8, 64⟩) w o q origin
  else if q.rsnd then
    (match s.redeems w o q with
     | some h => takeResend s w o q h origin
     | none => refuseReq s w o q origin)
  else takeReq s w o q origin

/-- Does a Wicket admit nothing like the request now, so that it waits at the boundary: a link reset
pauses the Wicket (R305), FATAL stands (R404), WS takes no further write (R426, R529). -/
def State.withheld (s : State) (w : Nat) (o : Opc) : Bool :=
  s.fatal || s.global != 2 || s.paused w || (w == Build.ws && o.isWrite && s.quiescing)

/-- A request waits at the boundary; it is decided when its Wicket admits again (R305, R426, R529). -/
def State.atPort (s : State) (c : Instr) : State := s.modPower (fun p => { p with deferred := p.deferred ++ [c] })

/-- A request message reaches a Wicket. In Hold it wakes the Home if WAKE_ON_REQUEST allows it, and is decided after the
exit (R427). -/
def request (c : Instr) (w : Nat) (o : Opc) (q : Req) (s : State) : State :=
  match discardMsg s w q.aid q.inc ⟨0x2030, 6, 32⟩ with
  | some s1 => s1
  | none =>
    if s.power.state == 3 then s
    else if s.inHold then (if s.rawN 0x8050 7 == 1 then deferTo s 4 c else s.atPort c)
    else if s.withheld w o then (if s.fatal || s.global != 2 then s else s.atPort c)
    else decideReq s w o q .agent

/-- A request at once, for a command kept in Hold. -/
def requestOf : Instr → Option (Nat × Opc × Req)
  | .rdS w q => some (w, .rdS, q) | .rdX w q => some (w, .rdX, q) | .rdAny w q => some (w, .rdAny, q)
  | .rdNc w q => some (w, .rdNc, q) | .own w q => some (w, .own, q) | .drop w q => some (w, .drop, q)
  | .down w q => some (w, .down, q) | .wbI w q => some (w, .wbI, q) | .wbS w q => some (w, .wbS, q)
  | .wbX w q => some (w, .wbX, q) | .evc w q => some (w, .evc, q) | .conflict w q => some (w, .conflict, q)
  | .ncwFull w q => some (w, .ncwFull, q) | .ncwPtl w q => some (w, .ncwPtl, q) | .claimX w q => some (w, .claimX, q)
  | .claimS w q => some (w, .claimS, q) | .release w q => some (w, .release, q) | .rsv w q => some (w, .rsv, q)
  | .cwr w q => some (w, .cwr, q) | .settle w q => some (w, .settle, q)
  | _ => none

/-- A request command: of an unbuilt Wicket, no message comes. -/
def requestCmd (c : Instr) (w : Nat) (o : Opc) (q : Req) (s : State) : Host.Outcome State Fault Refusal :=
  if !s.build.hasWicket w then .fault .unbuiltPart else .next (request c w o q s)

/-! ## The commands -/

/-- RD_S (R99). -/
def execRdS (w : Nat) (q : Req) (s : State) : Host.Outcome State Fault Refusal := requestCmd (.rdS w q) w .rdS q s
/-- RD_X (R99). -/
def execRdX (w : Nat) (q : Req) (s : State) : Host.Outcome State Fault Refusal := requestCmd (.rdX w q) w .rdX q s
/-- RD_ANY (R99). -/
def execRdAny (w : Nat) (q : Req) (s : State) : Host.Outcome State Fault Refusal := requestCmd (.rdAny w q) w .rdAny q s
/-- RD_NC (R99, R266). -/
def execRdNc (w : Nat) (q : Req) (s : State) : Host.Outcome State Fault Refusal := requestCmd (.rdNc w q) w .rdNc q s
/-- OWN (R99). -/
def execOwn (w : Nat) (q : Req) (s : State) : Host.Outcome State Fault Refusal := requestCmd (.own w q) w .own q s
/-- DROP (R100). -/
def execDrop (w : Nat) (q : Req) (s : State) : Host.Outcome State Fault Refusal := requestCmd (.drop w q) w .drop q s
/-- DOWN (R100). -/
def execDown (w : Nat) (q : Req) (s : State) : Host.Outcome State Fault Refusal := requestCmd (.down w q) w .down q s
/-- WB_I (R100). -/
def execWbI (w : Nat) (q : Req) (s : State) : Host.Outcome State Fault Refusal := requestCmd (.wbI w q) w .wbI q s
/-- WB_S (R100). -/
def execWbS (w : Nat) (q : Req) (s : State) : Host.Outcome State Fault Refusal := requestCmd (.wbS w q) w .wbS q s
/-- WB_X (R100). -/
def execWbX (w : Nat) (q : Req) (s : State) : Host.Outcome State Fault Refusal := requestCmd (.wbX w q) w .wbX q s
/-- EVC (R100). -/
def execEvc (w : Nat) (q : Req) (s : State) : Host.Outcome State Fault Refusal := requestCmd (.evc w q) w .evc q s
/-- CONFLICT (R98). -/
def execConflict (w : Nat) (q : Req) (s : State) : Host.Outcome State Fault Refusal :=
  requestCmd (.conflict w q) w .conflict q s
/-- NCW_FULL (R100, R263). -/
def execNcwFull (w : Nat) (q : Req) (s : State) : Host.Outcome State Fault Refusal := requestCmd (.ncwFull w q) w .ncwFull q s
/-- NCW_PTL (R100, R263). -/
def execNcwPtl (w : Nat) (q : Req) (s : State) : Host.Outcome State Fault Refusal := requestCmd (.ncwPtl w q) w .ncwPtl q s
/-- CLAIM_X (R247). -/
def execClaimX (w : Nat) (q : Req) (s : State) : Host.Outcome State Fault Refusal := requestCmd (.claimX w q) w .claimX q s
/-- CLAIM_S (R247). -/
def execClaimS (w : Nat) (q : Req) (s : State) : Host.Outcome State Fault Refusal := requestCmd (.claimS w q) w .claimS q s
/-- RELEASE (R254). -/
def execRelease (w : Nat) (q : Req) (s : State) : Host.Outcome State Fault Refusal := requestCmd (.release w q) w .release q s
/-- RSV (R259). -/
def execRsv (w : Nat) (q : Req) (s : State) : Host.Outcome State Fault Refusal := requestCmd (.rsv w q) w .rsv q s
/-- CWR (R260). -/
def execCwr (w : Nat) (q : Req) (s : State) : Host.Outcome State Fault Refusal := requestCmd (.cwr w q) w .cwr q s
/-- SETTLE (R268). -/
def execSettle (w : Nat) (q : Req) (s : State) : Host.Outcome State Fault Refusal := requestCmd (.settle w q) w .settle q s

end Sys2Proof.Machine
end

