-- ==== Sys2Proof/Machine/Debug.lean ====
section
/-! DEFINITION. What the debug commands do (R361, R475 to R479): the level, halts, raw reads and writes of a Till's stores,
debug locked sequences and injected requests. -/

namespace Sys2Proof.Machine

/-- Who sends a Teller request: a session slot, or 4 in Blank (R465), its role and the key of its session. -/
structure Caller where
  slot : Nat
  role : Nat
  key : Option (List Byte)
  deriving DecidableEq, Repr

/-- The outcome of a Teller command: the status and payload of its response, or none where the response comes later. -/
abbrev Answer := State × Option (Code × List Byte)

/-- A response with no payload. -/
def tells (s : State) (c : Code) : Answer := (s, some (c, []))

/-- A field of a payload. -/
def arg (h : Teller) (at_ n : Nat) : Nat := leVal ((h.payload.drop at_).take n)

/-! ## The level (R475, R478) -/

/-- Does the sender hold a debug level. In Blank every requester does, unless a session holds it. -/
def State.holds (s : State) (c : Caller) : Bool :=
  s.sec.level != 0 && (if c.slot == 4 then !(s.sec.sessions.any (·.debug)) else (s.session c.slot).debug)

/-- May a role raise the level to `v` in the lifecycle (R478). -/
def mayRaise (life role v : Nat) : Bool :=
  match life with
  | 0 => true
  | 1 => decide (2 ≤ role)
  | 2 => if v == 2 then role == 3 else decide (2 ≤ role)
  | _ => role == 3

/-- DEBUG_SET (R475). -/
def debugSet (s : State) (c : Caller) (v : Nat) : Answer :=
  if 2 < v then tells s .invalid
  else if 4 ≤ s.power.state then tells s .busy
  else if s.sec.level != 0 && !s.holds c then tells s .denied
  else if s.sec.level < v && !mayRaise s.fuses.lifecycle c.role v then tells s .denied
  else
    let s1 := setLevel s ((s.session c.slot).number) c.role v
    tells (if c.slot == 4 then s1 else s1.modSession c.slot (fun x => { x with debug := v != 0 })) .ok

/-- The refusal that an Intrude command meets first (R476, R478): the level, the Till, the Deployed limits, Hold. -/
def intrudeCheck (s : State) (c : Caller) (till : Option Nat) (spareOnly inHold : Bool) : Code :=
  if s.sec.level != 2 || !s.holds c then .denied
  else if till.any (fun t => !s.build.hasTill t) then .invalid
  else if spareOnly && s.fuses.lifecycle == 2 && till.all (fun t => (s.till t).role != .spare) then .denied
  else if inHold && s.inHold then .busy
  else .ok

/-! ## Halts (R479) -/

/-- TILL_HALT: BUSY for a Till in a transfer or in Till reset, UNAVAILABLE for a FAILED one; else the Till halts. -/
def tillHalt (s : State) (t : Nat) : Answer :=
  match (s.till t).role with
  | .source | .destination | .reset => tells s .busy
  | _ =>
    if (s.till t).fn.st == .failed then tells s .unavailable
    else if (s.till t).halted.isSome then tells s .ok
    else tells (s.modTill t (fun u => { u with halted := some (s.time.tick + s.rawN 0x9020 3) })) .ok

/-- TILL_RESUME: the Till processes what waited. -/
def tillResume (s : State) (t : Nat) : Answer :=
  if (s.till t).halted.isNone then tells s .ok
  else tells (worked (s.modTill t (fun u => { u with halted := none })) t) .ok

/-! ## Debug locked sequences (R361, R476, R477) -/

/-- LOCK_OPEN: BUSY while another locked sequence holds the bank. -/
def lockOpen (s : State) (t bank : Nat) : Answer :=
  if 16 ≤ bank then tells s .invalid
  else if (KV.get (s.till t).banks bank {}).locked then tells s .busy
  else
    let a := KV.get (s.till t).banks bank {}
    let s1 := (s.modTill t (fun u => { u with banks := KV.put u.banks bank { a with
      grant := some 3, grantTick := s.time.tick, locked := true, debugLock := true } })).bump ⟨0x3020 + 0x80 * t, 1, 64⟩
    tells { s1 with sec := { s1.sec with locks := s1.sec.locks ++ [(t, bank)] } } .ok

/-- LOCK_CLOSE: the end of the sequence, or nothing where none is open. -/
def lockClose (s : State) (t bank : Nat) : Answer :=
  if 16 ≤ bank then tells s .invalid
  else if !(s.sec.locks.contains (t, bank)) then tells s .ok
  else
    let s1 := s.modTill t (fun u => { u with banks := KV.mod u.banks bank (fun a =>
      { a with locked := false, debugLock := false, grant := none, stuck := false }) })
    tells { s1 with sec := { s1.sec with locks := s1.sec.locks.filter (· != (t, bank)) } } .ok

/-! ## Raw records (R112, R116, R157, R246, R259, R367; DESIGN CHOICE, log entry 35) -/

/-- Words of 64 bits with the check bits of each above the words. -/
def withChecks (data words : Nat) : Nat :=
  data + ((List.range words).map (fun i =>
    (Config.checkBits (BitVec.ofNat 64 (data / 2 ^ (64 * i)))).toNat * 2 ^ (64 * words + 8 * i))).sum

/-- The 192 data bits of a Folio (R112); `dbuf` is the data buffer's number, which the manual leaves open. -/
def folioWord (x : Folio) (dbuf : Nat) : Nat :=
  place x.laddr.toNat 38 154 + place x.opc.code 6 148 + place x.aid.toNat 10 138 + place x.inc.toNat 4 134
    + place x.tag.toNat 16 118 + place x.phase.code 4 114 + place (x.next.getD 0) 14 100 + place x.src.code 3 97
    + place x.bgen 1 96 + place x.rgen 1 95 + place (if x.wdata.isSome then dbuf else 0) 13 82 + place (bit x.wdata.isSome) 1 81
    + place x.due.length 13 68 + place (bit (!x.gotS.isEmpty)) 1 67 + place (bit x.gotE.isSome) 1 66 + place (bit x.woff) 1 65
    + place (match x.spec with | .none => 0 | .issued => 1 | .cancelled => 2 | .held => 3) 2 63 + place x.lst.code 3 60
    + place (x.way.getD 0) 4 56 + place (bit x.way.isSome) 1 55 + place x.region 6 49 + place (bit x.strm) 1 48
    + place (bit x.nb) 1 47 + place (bit x.head) 1 46 + place ((x.gotE.map BitVec.toNat).getD 0) 10 36
    + place (x.acceptCclk / 16) 16 20

/-- The 144 bits of a claim-table entry (R246). -/
def claimWord (c : Claim) : Nat :=
  2 ^ 143 + place (match c.state with | .gathering => 0 | .held => 1 | .expired => 2 | .releasing => 3) 2 141
    + place (bit c.exclusive) 1 140 + place c.claimants.length 3 137 + place c.page 32 105
    + ((List.range 6).map (fun i => place ((c.claimants[i]?).map BitVec.toNat |>.getD 0) 10 (95 - 10 * i))).sum
    + place (c.expiry.getD 0) 24 21 + place c.coord 14 7
    + ((List.range 6).map (fun i => place (bit ((c.claimants[i]?).any c.joining.contains)) 1 (1 + i))).sum

/-- The 80 bits of a reservation monitor (R259). -/
def monitorWord (m : Monitor) : Nat :=
  2 ^ 79 + place m.aid.toNat 10 69 + place m.inc.toNat 4 65 + place m.laddr.toNat 38 27 + place (bit m.ownerE) 1 26
    + place m.ownerAid.toNat 10 16 + place m.armTick 16 0

/-- The 67 bits of a chain descriptor (R116). -/
def chainWord (c : Chain) : Nat := 2 ^ 66 + place c.laddr.toNat 38 28 + place c.head 14 14 + place c.tail 14 0

/-- The descriptors in a bucket of the head table, in the order they were opened. -/
def Till.bucketChains (u : Till) (draw b : Nat) : List Chain :=
  u.chains.filter (fun c => (c.place == .bucket1 && hash1 draw c.laddr == b) || (c.place == .bucket2 && hash2 draw c.laddr == b))

/-- The set row whose content a spare row holds. -/
def Till.spareOf (u : Till) (bank k : Nat) : Option Nat :=
  (List.find? (fun p => p.1 / 4096 == bank && p.2 == k) u.remap).map (fun p => p.1 % 4096)

/-- The stored bits of an entry of a Vault row: set rows, parity rows and spare rows in that order. -/
def Till.rowEntry (u : Till) (bank row e : Nat) : Nat :=
  let one := fun (row : Nat) =>
    if row < 2048 then (u.vraw (vkey bank row e)).toNat
    else
      (let k := (row - 2048) * 16 + e
       let p := KV.get u.parity (bank * 512 + k / 2) (0, 0)
       if k % 2 == 0 then p.1.toNat else p.2.toNat)
  if row < 2112 then one row else ((u.spareOf bank (row - 2112)).map one).getD 0

/-- How many entries a store has. -/
def storeSize : Nat → Nat
  | 0 => 2144 * 16
  | 1 => 64 * 16
  | 2 => 16384
  | 3 => 128
  | 4 => 64
  | _ => 32768 * 4 + 64

/-- One record of RAW_READ. -/
def rawRecord (s : State) (t store bank k : Nat) : Nat :=
  let u := s.till t
  match store with
  | 0 => u.rowEntry bank (k / 16) (k % 16)
  | 1 => u.rowEntry bank (2048 + k / 16) (k % 16)
  | 2 => (KV.find? u.folios k).map (fun x => withChecks (folioWord x (s.free.toNat % 8192)) 3) |>.getD 0
  | 3 => (KV.find? u.claims k).map (fun x => withChecks (claimWord x) 3) |>.getD 0
  | 4 =>
    (KV.find? u.monitors k).map (fun x =>
      monitorWord x + (Config.parityCheck (BitVec.ofNat 120 (monitorWord x))).toNat * 2 ^ 80) |>.getD 0
  | _ =>
    let c := if k < 32768 * 4 then (u.bucketChains s.coldDraw (k / 4))[k % 4]?
      else (u.chains.filter (·.place == .store))[k - 32768 * 4]?
    (c.map (fun x => withChecks (chainWord x) 2)).getD 0

/-- RAW_READ: COUNT records of 32 bytes. -/
def rawRead (s : State) (h : Teller) : Answer :=
  let t := arg h 0 1
  let store := arg h 1 1
  let bank := arg h 2 1
  let k := arg h 4 4
  let n := arg h 8 2
  if 5 < store || (store ≤ 1 && 16 ≤ bank) || n == 0 || 32 < n || storeSize store < k + n then tells s .invalid
  else (s.freeUsed, some (.ok, (List.range n).flatMap (fun i => leBytes 32 (rawRecord s t store bank (k + i)))))

/-- RAW_WRITE: an entry of a set row, as given. -/
def rawWrite (s : State) (h : Teller) : Answer :=
  let k := arg h 4 4
  if arg h 1 1 != 0 || 16 ≤ arg h 2 1 || 2048 * 16 ≤ k then tells s .invalid
  else tells (s.modTill (arg h 0 1) (fun u =>
    u.vwrite (vkey (arg h 2 1) (k / 16) (k % 16)) (BitVec.ofNat 120 (arg h 8 16)))) .ok

/-! ## INJECT (R476) -/

/-- The request message of an INJECT, with its data message (R82). -/
def injectReq (s : State) (a : Nat) (r d : Nat) : Req :=
  { aid := BitVec.ofNat 10 a, inc := (s.agent a).inc, tag := BitVec.ofNat 16 (r / 2 ^ 92), laddr := BitVec.ofNat 38 (r / 2 ^ 54)
    strm := r / 2 ^ 53 % 2 == 1, param := BitVec.ofNat 8 (r / 2 ^ 45), rcpt := BitVec.ofNat 8 (r / 2 ^ 37)
    rsnd := r / 2 ^ 36 % 2 == 1, data := BitVec.ofNat 512 d, be := BitVec.ofNat 64 (d / 2 ^ 512)
    poison := d / 2 ^ 607 % 2 == 1 }

/-- INJECT: WS admits the request of an Active internal agent; its completion is the response. -/
def inject' (s : State) (c : Caller) (h : Teller) : Answer :=
  let a := arg h 0 2
  let r := arg h 4 16
  match opcOf (r / 2 ^ 122 % 64) with
  | none => tells s .invalid
  | some o =>
    if 1024 ≤ a || (s.agent a).kind != 2 || (s.agent a).state != .active
        || h.payload.length != (if o.hasData then 100 else 20) then tells s .invalid
    else if s.withheld Build.ws o then tells s .busy
    else
      let id := s.sec.injectCtr
      let s1 : State := { s with sec := { s.sec with
        injects := KV.put s.sec.injects id ⟨h.eid, c.key.isSome, h.session.toNat, h.seq.toNat, c.slot⟩
        injectCtr := id + 1 } }
      (decideReq s1 Build.ws o (injectReq s a r (arg h 20 80)) (.injected id), none)

end Sys2Proof.Machine
end

