-- ==== Sys2Proof/Machine/Messages.lean ====
section
/-! DEFINITION. The Teller commands (R446 to R452, R465 to R475, R499): the checks of a message in their order, sessions,
reads, writes and the answers. -/

namespace Sys2Proof.Machine

/-! ## Reads -/

/-- IDENTIFY (R450). -/
def identify (s : State) : Answer :=
  let f := s.fuses
  (s, some (.ok, leBytes 8 signature ++ leBytes 1 s.build.code ++ [f.stepping] ++ leBytes 2 (s.rawN 0x1000 0)
    ++ f.hallmark.take 12 ++ [f.wafer, f.dieX, f.dieY] ++ [0]))

/-- READ (R450). -/
def readOne (s : State) (c : Caller) (h : Teller) : Answer :=
  let i := arg h 0 2
  let j := arg h 2 1
  if h.payload.length < 4 then tells s .invalid
  else if !mayRead c.role i then tells s .denied
  else
    match entryAt s.build i j with
    | none => (s, some (.ok, leBytes 2 0 ++ leBytes 2 8 ++ leBytes 8 0))
    | some e =>
      let head := leBytes 1 e.ty.code ++ leBytes 1 0 ++ leBytes 2 e.ty.bytes
      if e.ty.long then (s, some (.ok, head ++ s.longVal i j))
      else
        let r := readSlot s (s.holds c) i j
        (r.1, some (if s.gone i then .unavailable else .ok, head ++ leBytes e.ty.bytes r.2.toNat))

/-- Reads `n` slots from subindex `j` on. -/
def readSlots (c : Caller) (i : Nat) : Nat → Nat → State → State × List Byte
  | 0, _, s => (s, [])
  | n + 1, j, s =>
    let r := readSlot s (s.holds c) i j
    let q := readSlots c i n (j + 1) r.1
    (q.1, leBytes 8 r.2.toNat ++ q.2)

/-- READ_RANGE (R450). -/
def readRange (s : State) (c : Caller) (h : Teller) : Answer :=
  let i := arg h 0 2
  let j := arg h 2 1
  let n := arg h 3 1
  if h.payload.length < 4 || n == 0 || 64 < n || 256 < j + n then tells s .invalid
  else if !mayRead c.role i then tells s .denied
  else
    let r := readSlots c i n j s
    (r.1, some (.ok, r.2))

/-! ## Writes -/

/-- The author of a Teller write. -/
def Caller.author (c : Caller) : Author := ⟨true, c.role, none⟩

/-- WRITE (R446, R450): a longer value is refused TOO_LONG, a shorter one is taken with 0 bytes above it. -/
def writeOne (s : State) (c : Caller) (h : Teller) : Answer :=
  let i := arg h 0 2
  let j := arg h 2 1
  let n := arg h 4 2
  if h.payload.length < 6 || h.payload.length < 6 + n then tells s .invalid
  else
    let v := (h.payload.drop 6).take n
    match entryAt s.build i j with
    | none => let r := writeEntry s c.author i j 0 8; tells r.1 r.2
    | some e =>
      match firstCheck s c.author i j (if e.ty.long then 0 else 8) with
      | .ok =>
        if e.ty.bytes < n then tells (refused s c.author i j .tooLong) .tooLong
        else if e.ty.long then
          (let r := writeLong s c.author i j (v ++ List.replicate (e.ty.bytes - n) 0); tells r.1 r.2)
        else (let r := writeEntry s c.author i j (leVal v) 8; tells r.1 r.2)
      | k => tells (refused s c.author i j k) k

/-- The records of a WRITE_MULTI in their order, up to the first refusal: how many were applied, and the one that failed. -/
def writeRecords (c : Caller) (h : Teller) : Nat → Nat → State → State × Nat × Option (Nat × Nat × Code)
  | 0, k, s => (s, k, none)
  | n + 1, k, s =>
    let at_ := 2 + 12 * k
    let r := writeEntry s c.author (arg h at_ 2) (arg h (at_ + 2) 1) (arg h (at_ + 4) 8) 8
    if r.2 == .ok then writeRecords c h n (k + 1) r.1 else (r.1, k, some (arg h at_ 2, arg h (at_ + 2) 1, r.2))

/-- WRITE_MULTI (R450). -/
def writeMulti (s : State) (c : Caller) (h : Teller) : Answer :=
  let n := arg h 0 2
  if h.payload.length < 2 || n == 0 || 64 < n || h.payload.length < 2 + 12 * n then tells s .invalid
  else
    match writeRecords c h n 0 s with
    | (s1, k, none) => (s1, some (.ok, leBytes 2 k ++ leBytes 4 0))
    | (s1, k, some (i, j, code)) => (s1, some (code, leBytes 2 k ++ leBytes 2 i ++ leBytes 1 j ++ leBytes 1 0))

/-! ## The Journal and the Tally (R499) -/

/-- JOURNAL_READ (R499, R500). -/
def journalRead (s : State) (c : Caller) (h : Teller) : Answer :=
  let k := arg h 0 1
  if h.payload.length < 4 || 4 ≤ k then tells s .invalid
  else if k == 3 && !s.holds c then tells s .denied
  else if (s.stream k).word != 0 then tells s .busy
  else
    let (x, l) := (s.stream k).takeRecs 33 1024
    (s.modStream k (fun _ => if l.isEmpty then { x with underrun := true } else x),
      some (.ok, l.flatMap (fun r => r.words.flatMap (fun v => leBytes 8 v.toNat))))

/-- TALLY_READ (R499). -/
def tallyRead (s : State) (c : Caller) (h : Teller) : Answer :=
  let k := arg h 0 2
  let open_ := arg h 2 1 % 2 == 1
  if h.payload.length < 4 || chanCount s.build ≤ k then tells s .invalid
  else if open_ && !s.holds c then tells s .denied
  else
    let x := if open_ then (s.chan k).cur else (s.chan k).last
    let n := if open_ then s.tally.curNum else if (s.chan k).cleared then 0 else s.tally.lastNum
    (s, some (.ok, leBytes 8 n ++ leBytes 4 x.min ++ leBytes 4 x.max ++ leBytes 8 x.sum ++ leBytes 4 x.count
      ++ leBytes 4 x.flags ++ (List.range 32).flatMap (fun b => leBytes 4 (KV.get x.hist b 0))))

/-- The subindices of COUNTER_READ in their order: the counters, then the slot counters of a Till. -/
def counterSubs (till : Bool) : List Nat := List.range 64 ++ (if till then [0x80, 0x81, 0x82, 0x83, 0x84] else [])

/-- COUNTER_READ (R499). -/
def counterRead (s : State) (h : Teller) : Answer :=
  let t := arg h 0 1
  let n := arg h 2 1
  let l := (counterSubs (t != 0xFF)).drop ((counterSubs (t != 0xFF)).findIdx (· == arg h 1 1))
  if h.payload.length < 4 || !(t == 0xFF || s.build.hasTill t) || n == 0 || l.length < n then tells s .invalid
  else (s, some (.ok, (l.take n).flatMap (fun j => leBytes 8 (s.slotOf (if t == 0xFF then 0xB700 else 0xB600 + t) j).toNat)))

/-! ## Opening a session (R466 to R468, R474) -/

/-- The next session number: not 0 and not in use (R466). -/
def nextNumber (s : State) : Nat → Nat → Nat
  | 0, k => k
  | n + 1, k =>
    if k == 0 || s.sec.sessions.any (fun x => x.state != .free && x.number == k) then nextNumber s n ((k + 1) % 2 ^ 16) else k

/-- OPEN (R467, R474). -/
def openSession (s : State) (h : Teller) : Answer :=
  let role := arg h 0 1
  let slot := arg h 1 1
  let k := s.sec.sessions.findIdx (·.state == .free)
  if h.payload.length < 4 || 3 < role || 3 < slot then tells s .invalid
  else if s.sec.quarantine && 1 < role then tells s .denied
  else if s.power.state == 7 || 4 ≤ k then tells s .busy
  else
    let number := nextNumber s 5 s.sec.nextSession
    let nonce := Config.nonce s.sec.draws
    let s1 : State := { s with sec := { s.sec with draws := s.sec.draws + 1, nextSession := (number + 1) % 2 ^ 16 } }
    (s1.modSession k (fun _ => {
        state := .opening, number := number, role := role, slot := slot, nonce := nonce, opened := s.time.tick
        idle := s.rawN 0x9001 0, window := s.rawN 0x9001 1 }),
      some (.ok, leBytes 2 number ++ leBytes 2 0 ++ leBytes 32 nonce.toNat))

/-- P of R468. -/
def proofTail (x : Session) : List Byte := leBytes 2 x.number ++ leBytes 1 x.role ++ leBytes 1 x.slot ++ leBytes 1 1
/-- The bytes of an ASCII string. -/
def ascii (l : List Char) : List Byte := asciiPad l l.length
/-- What a proof is computed over, behind its label. -/
def proofText (label : List Char) (x : Session) : List Byte := ascii label ++ leBytes 32 x.nonce.toNat ++ proofTail x
/-- The verifier of a session's key slot. -/
def State.verifier (s : State) (x : Session) : List Byte := ((KV.find? s.fuses.keys (x.role * 4 + x.slot)).map (·.2)).getD []

/-- Does a proof match, with the slot VALID (R468). -/
def State.proves (s : State) (x : Session) (proof : List Byte) : Bool :=
  s.keyState (x.role * 4 + x.slot) == 1 && proof == hmac384 (s.verifier x) (proofText "DECESK-PROVE".toList x)
/-- K_s (R468). -/
def State.sessionKey (s : State) (x : Session) : List Byte :=
  (hmac384 (s.verifier x) (proofText "DECESK-SESSION".toList x)).take 32

/-- A session opens; in Quarantine an Operator's is RESTRICTED (R468, R471, R474). -/
def opened (s : State) (k : Nat) (x : Session) : State :=
  let s1 := if x.role == 0 then s else { s with sec := { s.sec with proofFails := 0 } }
  (s1.modSession k (fun y => { y with
    state := if s.sec.quarantine && x.role == 1 then .restricted else .open_
    key := s.sessionKey x, seq := 0, lastTick := s.time.tick })).note .sessionOpened .ch [x.number, x.role, x.slot]

/-- PROVE (R468, R474): the state, the status, and for a success the key and the payload of the response. -/
def proveSession (s : State) (h : Teller) : State × Code × Option (List Byte × List Byte) :=
  let k := s.sec.sessions.findIdx (fun x => x.state == .opening && x.number == h.session.toNat)
  let x := s.session k
  let free := fun (s : State) => s.modSession k (fun _ => {})
  if 4 ≤ k then
    (let y := ((s.sec.sessions.find? (fun x => x.state != .free && x.number == h.session.toNat))).getD {}
     (failedProof s y.role y.slot, .auth, none))
  else if s.sec.quarantine && x.role == 1
      && s.sec.lastOpProve.any (fun t => decide (s.time.tick < t + s.rawN 0x9001 2)) then (free s, .busy, none)
  else
    let s1 : State := if x.role == 1 then { s with sec := { s.sec with lastOpProve := some s.time.tick } } else s
    if s1.proves x h.payload then (opened s1 k x, .ok, some (s1.sessionKey x, leBytes 4 x.idle))
    else (failedProof (free s1) x.role x.slot, .auth, none)

/-- UNQUARANTINE (R474). -/
def unquarantine (s : State) (c : Caller) : Answer :=
  if !s.sec.quarantine || (c.slot != 4 && (s.session c.slot).state != .restricted) then tells s .denied
  else
    let s1 : State := { s with sec := { s.sec with quarantine := false, proofFails := 0 } }
    let s2 := s1.modSession c.slot (fun x => { x with state := .open_ })
    tells (s2.note .quarantineReleased .ch [(s.session c.slot).number]) .ok

/-! ## A command within a session (R450, R459, R469, R473, R474, R478) -/

/-- The commands that are defined (R450, R476, R499). -/
def knownCmd (cmd : Nat) : Bool :=
  (1 ≤ cmd && cmd ≤ 5) || (0x10 ≤ cmd && cmd ≤ 0x13) || (0x20 ≤ cmd && cmd ≤ 0x22) || (0x30 ≤ cmd && cmd ≤ 0x37)

/-- Is a command a read that Observer may send, or CLOSE. -/
def plainRead (cmd : Nat) : Bool :=
  cmd == 1 || cmd == 4 || cmd == 0x10 || cmd == 0x12 || (0x20 ≤ cmd && cmd ≤ 0x22)

/-- Is the command within the sender's role and the Quarantine (R459, R473, R474). A write's own check refuses it. -/
def State.permits (s : State) (c : Caller) (cmd : Nat) : Bool :=
  plainRead cmd || cmd == 0x11 || cmd == 0x13
    || (cmd == 5 && 1 ≤ c.role)
    || (0x30 ≤ cmd && 2 ≤ c.role && !s.sec.quarantine)

/-- An Intrude command behind its check: the refusal, or what it does. -/
def intrude (s : State) (c : Caller) (h : Teller) (need : Nat) (spareOnly inHold : Bool) (act : State → Answer) : Answer :=
  if h.payload.length < need then tells s .invalid
  else
    match intrudeCheck s c (some (arg h 0 1)) spareOnly inHold with
    | .ok => act s
    | k => tells s k

/-- What a command does. -/
def perform (s : State) (c : Caller) (cmd : Nat) (h : Teller) : Answer :=
  match cmd with
  | 0x01 => identify s
  | 0x04 => tells (if c.slot == 4 then s else closeSession s c.slot) .ok
  | 0x05 => unquarantine s c
  | 0x10 => readOne s c h
  | 0x11 => writeOne s c h
  | 0x12 => readRange s c h
  | 0x13 => writeMulti s c h
  | 0x20 => journalRead s c h
  | 0x21 => tallyRead s c h
  | 0x22 => counterRead s h
  | 0x30 => if h.payload.length < 4 then tells s .invalid else debugSet s c (arg h 0 1)
  | 0x31 => intrude s c h 4 true true (fun s => tillHalt s (arg h 0 1))
  | 0x32 => intrude s c h 4 false false (fun s => tillResume s (arg h 0 1))
  | 0x33 => intrude s c h 12 false true (fun s => rawRead s h)
  | 0x34 => intrude s c h 24 true true (fun s => rawWrite s h)
  | 0x35 => intrude s c h 4 true true (fun s => lockOpen s (arg h 0 1) (arg h 1 1))
  | 0x36 => intrude s c h 4 false false (fun s => lockClose s (arg h 0 1) (arg h 1 1))
  | 0x37 =>
    if h.payload.length < 20 then tells s .invalid
    else
      (match intrudeCheck s c none true true with
       | .ok => inject' s c h
       | k => tells s k)
  | _ => tells s .unknownCommand

/-! ## A message (R447 to R452, R465, R469) -/

/-- Sends a response; with a key it carries a MAC. -/
def reply (s : State) (h : Teller) (cmd : Nat) (key : Option (List Byte)) (c : Code) (p : List Byte) : State :=
  s.send (.teller h.eid (tellerBody key cmd c.num h.session.toNat h.seq.toNat p))

/-- Performs a command and sends its response. -/
def answer (s : State) (c : Caller) (cmd : Nat) (h : Teller) : State :=
  if knownCmd cmd && !s.permits c cmd then reply s h cmd c.key .denied []
  else
    match perform s c cmd h with
    | (s1, some (code, p)) => reply s1 h cmd c.key code p
    | (s1, none) => s1

/-- The MAC that a request must carry (R469). -/
def macOver (h : Teller) (cmd : Nat) (key : List Byte) : List Byte :=
  tellerMac key (tellerHead h.tver.toNat cmd 2 0 h.session.toNat h.seq.toNat h.payload)

/-- A request with AUTH 1 whose MAC is wrong (R469): the eighth in a row closes the session as a failed proof. -/
def macFailed (s : State) (k cmd : Nat) (h : Teller) : State :=
  let x := s.session k
  let s1 := reply ((s.bump ⟨0x9001, 4, 32⟩).modSession k (fun y => { y with macFails := y.macFails + 1 })) h cmd (some x.key) .auth []
  if x.macFails + 1 < 8 then s1 else failedProof (closeSession s1 k) x.role x.slot

/-- A request with AUTH 1 (R469, R470). -/
def authRequest (s : State) (cmd : Nat) (h : Teller) : State :=
  let k := s.sec.sessions.findIdx (fun x => x.live && x.number == h.session.toNat)
  let x := s.session k
  if 4 ≤ k then reply s h cmd none .auth []
  else if macOver h cmd x.key != leBytes 16 h.mac.toNat then macFailed s k cmd h
  else
    let s1 := s.modSession k (fun y => { y with macFails := 0 })
    if h.seq.toNat != x.seq + 1 then reply s1 h cmd (some x.key) .sequence []
    else if cmd == 2 || cmd == 3 then reply s1 h cmd (some x.key) .invalid []
    else
      let s2 := s1.modSession k (fun y => { y with seq := h.seq.toNat, lastTick := s.time.tick })
      let s3 := answer s2 ⟨k, x.role, some x.key⟩ cmd h
      if h.seq == BitVec.allOnes 32 && (s3.session k).number == x.number && (s3.session k).live then closeSession s3 k else s3

/-- A request with AUTH 0 (R450, R465, R467). -/
def plainRequest (s : State) (cmd : Nat) (h : Teller) : State :=
  let blank := s.fuses.lifecycle == 0
  match cmd with
  | 1 => answer s ⟨4, 0, none⟩ 1 h
  | 2 =>
    if blank then reply s h 2 none .denied []
    else (match openSession s h with
      | (s1, some (code, p)) => reply s1 h 2 none code p
      | (s1, none) => s1)
  | 3 =>
    if blank then reply s h 3 none .denied []
    else (match proveSession s h with
      | (s1, code, none) => reply s1 h 3 none code []
      | (s1, code, some (key, p)) => reply s1 { h with seq := 0 } 3 (some key) code p)
  | _ =>
    if blank then answer s ⟨4, 3, none⟩ cmd h
    else reply s h cmd none (if knownCmd cmd then .auth else .unknownCommand) []

/-- A message that CH takes up. -/
def tellerNow (s : State) (cmd : Nat) (h : Teller) : State :=
  if h.tver != 1 then reply s h cmd none .invalid []
  else if 1024 < h.length then reply s h cmd none .tooLong []
  else if h.auth then
    (if s.fuses.lifecycle == 0 then reply s h cmd none .auth [] else authRequest s cmd h)
  else plainRequest s cmd h

/-- The answer of the front end while the Chart is unavailable (R311, R452). -/
def unavailable (s : State) (cmd : Nat) (h : Teller) : State :=
  let i := arg h 0 2
  let ones := fun (n : Nat) => List.replicate n (if slotBlock i then (0 : Byte) else 0xFF)
  let p := match cmd with
    | 0x01 => List.replicate 28 0xFF
    | 0x10 =>
      (match entryAt s.build i (arg h 2 1) with
       | some e => leBytes 1 e.ty.code ++ leBytes 1 0 ++ leBytes 2 e.ty.bytes ++ ones e.ty.bytes
       | none => leBytes 2 0 ++ leBytes 2 8 ++ ones 8)
    | 0x12 => ones (8 * arg h 3 1)
    | _ => []
  reply s h cmd none .unavailable p

/-- Does a Teller write that passes its checks wake the Home from Hold (R427). -/
def wakingWrite (cmd : Nat) (h : Teller) : Bool :=
  match cmd with
  | 0x11 => wakes (arg h 0 2)
  | 0x13 => (List.range (min 64 (arg h 0 2))).any (fun k => wakes (arg h (2 + 12 * k) 2))
  | _ => false

/-- Would a message pass the checks of R465 and R469. -/
def State.accepts (s : State) (cmd : Nat) (h : Teller) : Bool :=
  h.tver == 1 && h.length ≤ 1024 &&
    (if s.fuses.lifecycle == 0 then !h.auth
     else h.auth && s.sec.sessions.any (fun x => x.live && x.number == h.session.toNat
       && macOver h cmd x.key == leBytes 16 h.mac.toNat && h.seq.toNat == x.seq + 1))

/-- Is a command a Teller Message. -/
def isTeller : Instr → Bool
  | .identify _ | .open_ _ | .prove _ | .close _ | .read _ | .write _ | .readRange _ | .writeMulti _ | .journalRead _
  | .tallyRead _ | .counterRead _ | .debugSet _ | .tillHalt _ | .tillResume _ | .rawRead _ | .rawWrite _ | .lockOpen _
  | .lockClose _ | .inject _ | .unquarantine _ | .unknownCommand _ _ => true
  | _ => false

/-- The CMD byte and the message of a Teller command. -/
def tellerOf : Instr → Option (Nat × Teller)
  | .identify h => some (0x01, h) | .open_ h => some (0x02, h) | .prove h => some (0x03, h) | .close h => some (0x04, h)
  | .unquarantine h => some (0x05, h) | .read h => some (0x10, h) | .write h => some (0x11, h)
  | .readRange h => some (0x12, h) | .writeMulti h => some (0x13, h) | .journalRead h => some (0x20, h)
  | .tallyRead h => some (0x21, h) | .counterRead h => some (0x22, h) | .debugSet h => some (0x30, h)
  | .tillHalt h => some (0x31, h) | .tillResume h => some (0x32, h) | .rawRead h => some (0x33, h)
  | .rawWrite h => some (0x34, h) | .lockOpen h => some (0x35, h) | .lockClose h => some (0x36, h)
  | .inject h => some (0x37, h) | .unknownCommand c h => some (c.toNat, h)
  | _ => none

/-- A Teller Message arrives (R427, R451, R452): nothing answers in Off; in Hold a waking write, and every message behind
one, waits for the exit, and a message that finds four waiting is answered BUSY. -/
def teller (c : Instr) (s : State) : State :=
  match tellerOf c with
  | none => s
  | some (cmd, h) =>
    if s.boot == .off || s.power.state == 3 then s
    else
      let s1 := (s.bump ⟨0x1100, 8, 64⟩).gev 0x10D
      let waiting := (s.power.deferred.filter isTeller).length
      if !s.chartUp then unavailable s cmd h
      else if !s.inHold then tellerNow s1 cmd h
      else if 4 ≤ waiting then reply s1 h cmd none .busy []
      else if waiting != 0 || (wakingWrite cmd h && s.accepts cmd h) then deferTo s1 5 c
      else tellerNow s1 cmd h

/-! ## Timers, keys and the lifecycle (R461 to R463, R468, R470, R479) -/

/-- PROVE_WINDOW: an OPENING session that is due frees without a failed proof (R468). -/
def execProveWindow (k : Nat) (s : State) : Host.Outcome State Fault Refusal :=
  .next (if (s.session k).state == .opening && s.due (s.session k).opened (s.session k).window then s.modSession k (fun _ => {})
    else s)

/-- SESSION_IDLE: a session without an accepted request closes (R470). -/
def execSessionIdle (k : Nat) (s : State) : Host.Outcome State Fault Refusal :=
  .next (if (s.session k).live && s.due (s.session k).lastTick (s.session k).idle then closeSession s k else s)

/-- HALT_MAX_TICKS: a halt that is due ends (R479). -/
def execHaltMaxTicks (t : Nat) (s : State) : Host.Outcome State Fault Refusal :=
  if !s.build.hasTill t then .fault .unbuiltPart
  else .next (if (s.till t).halted.any (· ≤ s.time.tick) then worked (endHalt s t 2) t else s)

/-- KEY_BLOW_DONE: the slot is VALID with the verifier staged, or REVOKED with its sessions closed (R461). -/
def execKeyBlowDone (s : State) : Host.Outcome State Fault Refusal :=
  .next (match s.sec.keyBlow with
    | none => s
    | some (k, revoke) =>
      let v := if revoke then (2, ((KV.find? s.fuses.keys k).map (·.2)).getD []) else (1, s.sec.keyImage)
      let s1 : State := { s with
        fuses := { s.fuses with keys := KV.put s.fuses.keys k v }
        sec := { s.sec with keyBlow := none, keyImage := [], keyResult := 0 } }
      if revoke then closeWhere s1 (fun x => x.live && x.role * 4 + x.slot == k) else s1)

/-- LIFECYCLE_CHANGED: the blow completes and the new state applies (R462, R463). A debug level that no session holds ends
with Blank (DESIGN CHOICE, log entry 36). -/
def execLifecycleChanged (s : State) : Host.Outcome State Fault Refusal :=
  .next (match s.sec.lifeBlow with
    | none => s
    | some n =>
      let old := s.fuses.lifecycle
      let s0 := if old == 0 then levelOff s else s
      let s1 : State := { s0 with
        fuses := { s0.fuses with lifecycle := n }, sec := { s0.sec with lifeBlow := none, lifeResult := 0 } }
      let s2 := s1.note .lifecycleChanged .ch [old, n]
      if n != 3 then s2
      else
        let keys := (List.range 8).foldl (fun m i => KV.put m (4 + i) (2, ((KV.find? m (4 + i)).map (·.2)).getD [])) s2.fuses.keys
        closeWhere { s2 with fuses := { s2.fuses with keys := keys } } (fun x => x.role == 1 || x.role == 2))

/-! ## The commands -/

/-- IDENTIFY (R450). -/
def execIdentify (h : Teller) (s : State) : Host.Outcome State Fault Refusal := .next (teller (.identify h) s)
/-- OPEN (R467). -/
def execOpen (h : Teller) (s : State) : Host.Outcome State Fault Refusal := .next (teller (.open_ h) s)
/-- PROVE (R468). -/
def execProve (h : Teller) (s : State) : Host.Outcome State Fault Refusal := .next (teller (.prove h) s)
/-- CLOSE (R470). -/
def execClose (h : Teller) (s : State) : Host.Outcome State Fault Refusal := .next (teller (.close h) s)
/-- READ (R450). -/
def execRead (h : Teller) (s : State) : Host.Outcome State Fault Refusal := .next (teller (.read h) s)
/-- WRITE (R450). -/
def execWrite (h : Teller) (s : State) : Host.Outcome State Fault Refusal := .next (teller (.write h) s)
/-- READ_RANGE (R450). -/
def execReadRange (h : Teller) (s : State) : Host.Outcome State Fault Refusal := .next (teller (.readRange h) s)
/-- WRITE_MULTI (R450). -/
def execWriteMulti (h : Teller) (s : State) : Host.Outcome State Fault Refusal := .next (teller (.writeMulti h) s)
/-- JOURNAL_READ (R499). -/
def execJournalRead (h : Teller) (s : State) : Host.Outcome State Fault Refusal := .next (teller (.journalRead h) s)
/-- TALLY_READ (R499). -/
def execTallyRead (h : Teller) (s : State) : Host.Outcome State Fault Refusal := .next (teller (.tallyRead h) s)
/-- COUNTER_READ (R499). -/
def execCounterRead (h : Teller) (s : State) : Host.Outcome State Fault Refusal := .next (teller (.counterRead h) s)
/-- DEBUG_SET (R475). -/
def execDebugSet (h : Teller) (s : State) : Host.Outcome State Fault Refusal := .next (teller (.debugSet h) s)
/-- TILL_HALT (R479). -/
def execTillHalt (h : Teller) (s : State) : Host.Outcome State Fault Refusal := .next (teller (.tillHalt h) s)
/-- TILL_RESUME (R479). -/
def execTillResume (h : Teller) (s : State) : Host.Outcome State Fault Refusal := .next (teller (.tillResume h) s)
/-- RAW_READ (R476). -/
def execRawRead (h : Teller) (s : State) : Host.Outcome State Fault Refusal := .next (teller (.rawRead h) s)
/-- RAW_WRITE (R476). -/
def execRawWrite (h : Teller) (s : State) : Host.Outcome State Fault Refusal := .next (teller (.rawWrite h) s)
/-- LOCK_OPEN (R476). -/
def execLockOpen (h : Teller) (s : State) : Host.Outcome State Fault Refusal := .next (teller (.lockOpen h) s)
/-- LOCK_CLOSE (R476). -/
def execLockClose (h : Teller) (s : State) : Host.Outcome State Fault Refusal := .next (teller (.lockClose h) s)
/-- INJECT (R476). -/
def execInject (h : Teller) (s : State) : Host.Outcome State Fault Refusal := .next (teller (.inject h) s)
/-- UNQUARANTINE (R474). -/
def execUnquarantine (h : Teller) (s : State) : Host.Outcome State Fault Refusal := .next (teller (.unquarantine h) s)
/-- A command that is not defined (R450). -/
def execUnknownCommand (cmd : BitVec 8) (h : Teller) (s : State) : Host.Outcome State Fault Refusal :=
  .next (teller (.unknownCommand cmd h) s)

end Sys2Proof.Machine
end

