-- ==== Sys2Proof/Machine/Delivery.lean ====
section
/-! DEFINITION. What arrives at a Wicket: completions with their data, CHAINED notices, snoops, credits, loans, the snoop
responses of the agents and the link events (R79, R84, R85, R92 to R95, R130 to R134, R140, R149, R221, R229 to R233, R267,
R292, R427, R512). -/

namespace Sys2Proof.Machine

/-! ## Snoop responses (R79, R92 to R95, R230, R233) -/

/-- Does a snoop permit a response (R92). -/
def permitted (o : SnpOpc) (r : RspOpc) : Bool :=
  match o, r with
  | _, .i => true
  | .cur, _ => true
  | .data, .s => true
  | _, _ => false

/-- The snoop response opcodes of R83. -/
def RspOpc.code : RspOpc → Nat | .i => 0x38 | .s => 0x39 | .e => 0x3A

/-- Is a response's BLK and LOWADDR an encoding: one line, an aligned pair or the whole sector (R82). -/
def blockOk (low blk : Nat) : Bool := blk == 0 || (blk == 1 && low % 2 == 0) || (blk == 3 && low == 0)

/-- A Wicket passes a response to its Till (R146, R479). -/
def forwardRsp (s : State) (w : Nat) (p : Snoop) (o : RspOpc) (a : Aid) (lines : List Nat) : State :=
  atTill (s.packet (.wicket w) 2 1 (.till p.till)) p.till (.response p.folio o a lines)
    (fun s => respond s p.till p.folio o a lines false)

/-- The SID of a snoop frees when no line of it is undone and no response for it is held (R84). -/
def freeIfDone (s : State) (w sid : Nat) : State :=
  match KV.find? (s.wicket w).sids sid with
  | some p =>
    if p.undone.isEmpty && !((s.wicket w).heldRsp.any (fun h => h.r.sid.toNat == sid)) then freeSid s w sid else s
  | none => s

/-- Must a response wait for a writeback of its agent (R79). -/
def Wicket.behindWb (x : Wicket) (p : Snoop) (lines : List Nat) : Bool :=
  x.wbs.any (fun b => b.aid == p.aid && sectorOf b.laddr == sectorOf p.laddr && lines.contains (lineIx b.laddr))

/-- The held responses whose writebacks have their CMP or CHAINED notice go on. -/
def pumpRsp (s : State) (w : Nat) : State :=
  (s.wicket w).heldRsp.foldl (fun s h =>
    let x := s.wicket w
    let lines := covered h.r.low.toNat h.r.blk.toNat
    match KV.find? x.sids h.r.sid.toNat with
    | some p =>
      if x.behindWb p lines then s
      else
        let s1 := s.modWicket w (fun x => { x with heldRsp := dropFirst (· == h) x.heldRsp })
        freeIfDone (forwardRsp s1 w p h.opc p.aid lines) w h.r.sid.toNat
    | none => s) s

/-- A writeback has its CMP or CHAINED notice (R79). -/
def wbAnswered (s : State) (w : Nat) (a : Aid) (tag : Tag) (l : Line) : State :=
  pumpRsp (s.modWicket w (fun x => { x with
    wbs := dropFirst (fun b => b.aid == a && b.tag == tag && b.laddr == l) x.wbs })) w

/-- A response that matches its snoop: it is held, or passed on. -/
def takeRsp (s : State) (w : Nat) (o : RspOpc) (r : Rsp) (p : Snoop) (lines : List Nat) : State :=
  let sid := r.sid.toNat
  let s1 := s.modWicket w (fun x => { x with sids := KV.mod x.sids sid (fun q =>
    { q with undone := q.undone.filter (fun i => !lines.contains i) }) })
  if (s.wicket w).behindWb p lines then s1.modWicket w (fun x => { x with heldRsp := x.heldRsp ++ [⟨o, r⟩] })
  else freeIfDone (forwardRsp s1 w p o r.aid lines) w sid

/-- A response that the Wicket has not discarded (R92, R93, R95, R230). -/
def decideRsp (s : State) (w : Nat) (o : RspOpc) (r : Rsp) : State :=
  let sid := r.sid.toNat
  let lines := covered r.low.toNat r.blk.toNat
  let err := fun (s : State) => protocolError s w r.aid (place o.code 6 58 + sid)
  let dup := fun (s : State) => s.bump ⟨0x2030, 5, 32⟩
  if !blockOk r.low.toNat r.blk.toNat then err s
  else
    match KV.find? (s.wicket w).sids sid, KV.find? (s.wicket w).dups sid with
    | some p, _ =>
      let mine := covered (lineIx p.laddr) p.blk
      let fresh := lines.filter p.undone.contains
      if p.aid != r.aid || p.heldOut || !lines.all mine.contains || !permitted p.opc o then err s
      else if p.resent then (if fresh.isEmpty then dup s else takeRsp s w o r p fresh)
      else if fresh.length == lines.length then takeRsp s w o r p fresh
      else err s
    | none, some (a, mine) => if a == r.aid && lines.all mine.contains then dup s else err s
    | none, none => err s

/-- A snoop response reaches a Wicket. -/
def response (w : Nat) (o : RspOpc) (r : Rsp) (s : State) : Host.Outcome State Fault Refusal :=
  if !s.build.hasWicket w then .fault .unbuiltPart else
    .next (if s.fatal then s
      else match discardMsg s w r.aid r.inc ⟨0x2030, 0, 32⟩ with
        | some s1 => s1
        | none => decideRsp s w o r)

/-- RSP_I (R92). -/
def execRspI (w : Nat) (r : Rsp) (s : State) : Host.Outcome State Fault Refusal := response w .i r s
/-- RSP_S (R92). -/
def execRspS (w : Nat) (r : Rsp) (s : State) : Host.Outcome State Fault Refusal := response w .s r s
/-- RSP_E (R92). -/
def execRspE (w : Nat) (r : Rsp) (s : State) : Host.Outcome State Fault Refusal := response w .e r s

/-! ## Completions and data (R85, R140, R149, R221, R257, R267) -/

/-- Does a Wicket take a message for an agent: the agent is bound and lives under the incarnation (R232). -/
def State.takes (s : State) (a : Aid) (i : Inc) : Bool := s.serving a.toNat && (s.agent a.toNat).inc == i

/-- A Wicket delivers a completion with its data; toward an agent in Grace it holds them (R292). -/
def handOver (s : State) (w : Nat) (c : HeldCmp) (data : Option (LineData × Bool)) : State :=
  if c.origin == .agent && (s.agent c.aid.toNat).grace then
    let l := (match data with | some d => [Out.dataOut w c.aid c.inc c.tag d.1 d.2] | none => [])
      ++ [Out.cmp w c.opc c.aid c.inc c.tag c.status 0]
    s.modWicket w (fun x => { x with graceOut := x.graceOut ++ l.map (fun o => (c.aid, o)) })
  else sendCmp s w c.origin c.opc c.aid c.inc c.tag c.status 0 data

/-- The Till that holds the receipt of a RETRY: the one that sent it, or the bucket's new owner (R139). -/
def State.receiptTill (s : State) (t : Nat) (c : HeldCmp) : Nat :=
  ((t :: s.build.tillList).find? (fun d => (s.folio? d c.rcpt).any (fun x =>
    x.phase == .reserved && x.aid == c.aid && x.tag == c.tag && x.laddr == c.laddr))).getD t

/-- A Wicket resends a request with its receipt (R140, R245). -/
def resend (s : State) (w t : Nat) (c : HeldCmp) : State :=
  let x := (s.folio? t c.rcpt).getD blankFolio
  sendQ s { w := w, till := t, opc := c.req, aid := c.aid, inc := c.inc, tag := c.tag, laddr := c.laddr, strm := x.strm
            param := x.param, crd := .receipt, bgen := s.replicaGen w, rgen := s.replicaRGen w, rcpt := c.rcpt
            cls := s.classOf c.aid.toNat c.req, wdata := x.wdata, origin := c.origin, epoch := x.epoch }

/-- WS consumes the completion of a drained write (R267). -/
def postDone (s : State) (c : HeldCmp) (e : Nat) : State :=
  match List.find? (fun p => p.1 == e && p.2.aid == c.aid) s.ws.post with
  | none => s
  | some (_, p) =>
    let o := match c.status with | .writtenOff => Outc.writtenOff | .lost => .lost | _ => .fail
    let s1 := if c.status == .ok then s else
      (noteOutcome s c.aid.toNat p.epoch o false).note .postedWriteFailed (.wicket Build.ws) [c.laddr.toNat, c.status.code]
        (some c.aid)
    freePost s1 e

/-- WS keeps the claim mirror (R257). -/
def mirrorNote (s : State) (c : HeldCmp) : State :=
  let k := (c.aid, pageOf c.laddr)
  if c.req.isClaim && c.status == .ok then
    (if s.ws.mirror.contains k then s else { s with ws := { s.ws with mirror := s.ws.mirror ++ [k] } })
  else if c.req == .release then { s with ws := { s.ws with mirror := s.ws.mirror.filter (· != k) } }
  else s

/-- A completion leaves the Wicket. -/
def finishCmp (s : State) (w : Nat) (c : HeldCmp) (data : Option (LineData × Bool)) : State :=
  if c.status == .retry then
    let t := s.receiptTill c.till c
    if w == Build.ws then takeHandle s t c else resend s w t c
  else handOver (mirrorNote s c) w c data

/-- The completions of one Till to one agent leave in their order, each with its data (R149, R221). -/
def flushCmps : Nat → State → Nat → Nat → Aid → State
  | 0, s, _, _, _ => s
  | n + 1, s, w, t, a =>
    match (s.wicket w).heldCmp.find? (fun c => c.till == t && c.aid == a) with
    | none => s
    | some c =>
      let d := (s.wicket w).heldData.find? (fun d => d.till == t && d.d.aid == a && d.d.tag == c.tag && d.d.inc == c.inc
        && d.d.origin == c.origin)
      if c.needData && d.isNone then s
      else
        let s1 := s.modWicket w (fun x => { x with
          heldCmp := dropFirst (fun y => y.till == t && y.aid == a) x.heldCmp
          heldData := if c.needData then dropFirst (fun y => some y == d) x.heldData else x.heldData })
        flushCmps n (finishCmp s1 w c (if c.needData then d.map (fun y => (y.d.data, y.d.poison)) else none)) w t a

/-- Everything that one Till sent to one agent and that can leave. -/
def flush (s : State) (w t : Nat) (a : Aid) : State := flushCmps ((s.wicket w).heldCmp.length + 1) s w t a

/-- A completion reaches its Wicket. -/
def cmpArrives (s : State) (w : Nat) (c : HeldCmp) : State :=
  if !s.takes c.aid c.inc then s
  else
    let s1 := if c.req.isWb then wbAnswered s w c.aid c.tag c.laddr else s
    match c.origin with
    | .post e => if c.status == .retry then resend s1 w (s1.receiptTill c.till c) c else postDone s1 c e
    | _ => flush (s1.modWicket w (fun x => { x with heldCmp := x.heldCmp ++ [c] })) w c.till c.aid

/-- Data reaches its Wicket. -/
def dataArrives (s : State) (w t : Nat) (d : DMsg) : State :=
  if !s.takes d.aid d.inc then s
  else flush (s.modWicket w (fun x => { x with heldData := x.heldData ++ [⟨t, d⟩] })) w t d.aid

/-- COMPLETION_DELIVERY: the oldest data message, or the completion at the front, of a Till reaches a Wicket (R149). -/
def execCompletionDelivery (w t : Nat) (dataPlane : Bool) (s : State) : Host.Outcome State Fault Refusal :=
  if !s.build.hasWicket w || !s.build.hasTill t then .fault .unbuiltPart else
    .next (if dataPlane then
      (match s.net.d.find? (fun x => x.1 == t && x.2.1 == w) with
       | some x =>
         dataArrives { s with net := { s.net with d := dropFirst (fun x => x.1 == t && x.2.1 == w) s.net.d } } w t x.2.2
       | none => s)
    else
      (match s.frontP t w with
       | some (.cmp opc a i tag st rcpt isRead l req origin) =>
         cmpArrives (s.popP t w) w ⟨t, opc, a, i, tag, st, rcpt, isRead && st != .retry, l, req, origin⟩
       | _ => s))

/-- CHAINED_NOTICE: the notice at the front reaches its Wicket (R79). -/
def execChainedNotice (w t : Nat) (s : State) : Host.Outcome State Fault Refusal :=
  if !s.build.hasWicket w || !s.build.hasTill t then .fault .unbuiltPart else
    .next (match s.frontP t w with
      | some (.chained a tag l) => wbAnswered (s.popP t w) w a tag l
      | _ => s)

/-! ## Snoops (R84, R232, R292) -/

/-- SNOOP_DELIVERY: the oldest snoop of a Till reaches its Wicket (R84, R232). Requests that wait may enter the bypass
(R129). -/
def execSnoopDelivery (w t : Nat) (s : State) : Host.Outcome State Fault Refusal :=
  if !s.build.hasWicket w || !s.build.hasTill t then .fault .unbuiltPart else
    .next (match s.net.s.find? (fun q => q.till == t && q.w == w) with
      | none => s
      | some q =>
        let s1 : State := { s with net := { s.net with s := dropFirst (fun q => q.till == t && q.w == w) s.net.s } }
        if s1.serving q.aid.toNat then
          markBypass (takeSids 1 (s1.modWicket w (fun x => { x with sWait := x.sWait ++ [q] })) w) w
        else forecloseSnoop s1 w t q.folio q.aid q.laddr (covered (lineIx q.laddr) q.blk))

/-! ## Credits and loans (R130, R131, R133) -/

/-- A credit comes back to an agent's counts, or to what its death released (R133, R137). -/
def creditBack (s : State) (w t : Nat) (src : Src) (a : Aid) (i : Inc) (data : Bool) : State :=
  let n := a.toNat
  let d := if data then 1 else 0
  let live := s.takes a i
  let s1 := match src with
    | .escrow =>
      if live then s.modWicket w (fun x => x.modCred n t (fun c => { c with folios := c.folios + 1, data := c.data + d }))
      else s.modTill t (fun u => { u with escrow := KV.mod u.escrow n (fun c =>
        { c with xFolios := c.xFolios + 1, xData := c.xData + d }) })
    | .kept =>
      if live then s.modWicket w (fun x => x.modCred n t (fun c => { c with keptF := c.keptF + 1, keptD := c.keptD + d }))
      else s.modTill t (fun u => { u with escrow := KV.mod u.escrow n (fun c =>
        { c with xFolios := c.xFolios + 1, xData := c.xData + d }) })
    | .loan => s.modWicket w (fun x => x.modLoan t (fun l => { l with inUseF := l.inUseF - 1, inUseD := l.inUseD - d }))
    | _ => s
  if live && src != .receipt && src != .internal then
    s1.modWicket w (fun x => x.modCred n t (fun c => { c with open_ := c.open_ - 1 }))
  else s1

/-- CREDIT_RETURN: the credit at the front of a Till reaches its Wicket, with a write's outcome for WS (R133, R269). -/
def execCreditReturn (w t : Nat) (s : State) : Host.Outcome State Fault Refusal :=
  if !s.build.hasWicket w || !s.build.hasTill t then .fault .unbuiltPart else
    .next (match s.frontP t w with
      | some (.credit src a i data outcome _) =>
        let s1 := creditBack (s.popP t w) w t src a i data
        let s2 := match outcome with
          | some (o, e) => if w == Build.ws && s1.takes a i then writeEnded s1 a.toNat e o else s1
          | none => s1
        serveLoans s2 t
      | _ => s)

/-- LOAN_GRANT: the loan at the front of a Till reaches its Wicket (R130). -/
def execLoanGrant (w t : Nat) (s : State) : Host.Outcome State Fault Refusal :=
  if !s.build.hasWicket w || !s.build.hasTill t then .fault .unbuiltPart else
    .next (match s.frontP t w with
      | some (.loan f d) =>
        (s.popP t w).modWicket w (fun x => x.modLoan t (fun l => { l with
          folios := l.folios + f, data := l.data + d, asked := false, idleTick := s.time.tick }))
      | _ => s)

/-- LOAN_IDLE: unused loan credits that are due go back (R131). -/
def execLoanIdle (w t : Nat) (s : State) : Host.Outcome State Fault Refusal :=
  if !s.build.hasWicket w || !s.build.hasTill t then .fault .unbuiltPart else
    .next (if s.due ((s.wicket w).loan t).idleTick (s.rawN 0x4011 3) && !s.inHold then serveLoans (returnLoan s w t) t else s)

/-! ## Link events (R284, R291, R292, R295, R305, R427, R512) -/

/-- A link event at once. -/
def linkEvent : Instr → State → State
  | .linkDown w a, s => if s.homed w a then presenceNote s (linkDown s a) w else s
  | .linkUp w a r i, s => if s.homed w a then presenceNote s (linkUp s a r i) w else s
  | .agentReset w a, s => if s.homed w a then agentReset s a else s
  | .linkReset w, s => linkReset s w
  | _, s => s

/-- A link event: in Hold it wakes the Home and is acted on after the exit. -/
def linkReport (c : Instr) (w : Nat) (s : State) : Host.Outcome State Fault Refusal :=
  if !s.build.hasWicket w then .fault .unbuiltPart
  else .next (if s.power.state == 3 || s.boot == .off then s else if s.inHold then deferTo s 3 c else linkEvent c s)

/-- LINK_DOWN (R292). -/
def execLinkDown (w : Nat) (a : Aid) (s : State) : Host.Outcome State Fault Refusal := linkReport (.linkDown w a) w s
/-- LINK_UP (R295). -/
def execLinkUp (w : Nat) (a : Aid) (resetSeen : Bool) (identity : Word) (s : State) : Host.Outcome State Fault Refusal :=
  linkReport (.linkUp w a resetSeen identity) w s
/-- AGENT_RESET (R291). -/
def execAgentReset (w : Nat) (a : Aid) (s : State) : Host.Outcome State Fault Refusal := linkReport (.agentReset w a) w s
/-- LINK_RESET (R305). -/
def execLinkReset (w : Nat) (s : State) : Host.Outcome State Fault Refusal := linkReport (.linkReset w) w s

end Sys2Proof.Machine
end

