-- ==== Sys2Proof/Machine/Tick.lean ====
section
/-! DEFINITION. The Tick: strobes, loss and substitute Ticks, and what every maintenance activity does at a Tick (R54 to
R59, R352, R356, R411, R427, R485, R496, R497). -/

namespace Sys2Proof.Machine

/-- 0.9 µs and 7.8 µs in ps (R56). -/
def tickMin : Nat := 900000
def tickMax : Nat := 7800000

/-- TICK_NOMINAL in ps (R57). -/
def State.nominal (s : State) : Nat := s.rawN 0x8040 1 * 1000

/-! ## What a Tick does -/

/-- Does no request that satisfies `f` wait in a service queue of the Wicket (R353). -/
def Wicket.noneWaits (x : Wicket) (f : Adm → Bool) : Bool := !x.entries.any (fun e => !e.held && f e)

/-- The shapers of one agent at a Tick. -/
def AgShape.tick (g : AgShape) (x : Wicket) (n : Nat) : AgShape :=
  { g with
    sub := g.sub.tick (x.noneWaits (fun e => e.aid.toNat == n))
    svc := g.svc.mapIdx (fun c u => u.tick (x.noneWaits (fun e => e.aid.toNat == n && e.cls == c))) }

/-- Every shaper at a Tick (R352, R356). -/
def shaperTicks (s : State) : State :=
  let s1 := s.build.wicketList.foldl (fun s w =>
    s.modWicket w (fun x => { x with shaper := x.shaper.tick (x.noneWaits (fun _ => true)) })) s
  s1.shapes.foldl (fun s p => s.modShape p.1 (fun g => g.tick (s.wicket (s.agent p.1).wicket.toNat) p.1)) s1

/-- Does a flit or a message wait to be processed at a Till that works (R381). -/
def State.waitsAt (s : State) (t : Nat) : Bool :=
  s.alive t && (s.net.q.any (fun q => q.till == t) || s.net.pw.any (fun m => m.2.1 == t))

/-- The Ticks without progress of every Till (R381). -/
def watchTick (s : State) : State :=
  s.build.tillList.foldl (fun s t =>
    let busy := s.waitsAt t
    s.modTill t (fun u => { u with idleTicks := if busy then u.idleTicks + 1 else 0 })) s

/-- A Grace, Claim-lease, reservation or loan-idle timer is due (R427). -/
def State.timerDue (s : State) : Bool :=
  s.agents.any (fun p => p.2.grace && s.due p.2.graceStart p.2.graceLen)
    || s.tills.any (fun u => u.claims.any (fun c => c.2.state == .held && c.2.expiry.any (· ≤ s.time.tick))
        || u.monitors.any (fun m => s.due m.2.armTick (s.rawN 0x4200 0)))
    || s.wickets.any (fun x => x.loans.any (fun l => (l.2.folios != 0 || l.2.data != 0) && s.due l.2.idleTick (s.rawN 0x4011 3)))

/-- Does a period of `n` Ticks end at this count. -/
def State.every (s : State) (n : Nat) : Bool := s.time.tick % max 1 n == 0

/-- The window boundary of R485; no sweep is made in Hold (R505). The exempt pairs of a stream start anew (R496). -/
def windowBoundary (s : State) : State :=
  if !s.every (s.rawN 0xB800 0) then s else
    let s1 : State := { s with journal := { s.journal with
      streams := s.journal.streams.map (fun x => { x with exempt := [] }) } }
    if s.power.state == 2 then s1
    else { s1 with tally := { s1.tally with due := s1.tally.due ++ [s.time.tick] } }

/-- The boundary of an alarm period (R497). -/
def alarmBoundary (s : State) : State :=
  if !s.every (s.rawN 0xC010 0) then s
  else { s with journal := { s.journal with alarmDue := s.journal.alarmDue ++ [s.time.tick] } }

/-- The measurements that fall due (R414, R422). -/
def measureBoundary (s : State) : State :=
  { s with assay := { s.assay with
    quickDue := s.assay.quickDue || s.every 65536
    fullDue := s.assay.fullDue || s.every (2 ^ 28)
    tjDue := s.assay.tjDue || s.every 16 } }

/-- In Hold the open Tally window is marked, and a timer that is due wakes the Home (R427, R505). -/
def holdTick (s : State) : State :=
  if s.power.state != 2 then s else
    let s1 : State := { s with tally := { s.tally with held := true } }
    if s1.timerDue then leaveHold s1 2 else s1

/-- What follows an increment of TICK_COUNT. -/
def counted (s : State) : State :=
  let s1 := measureBoundary (alarmBoundary (windowBoundary s))
  holdTick (watchTick (if s1.inHold then s1 else refillOrders s1))

/-- The work of one Tick: TICK_COUNT increments where `count` is set; the shapers and policers work (R55, R352, R496). -/
def tickStep (s : State) (count : Bool) : State :=
  let s1 : State := { s with time := { s.time with tick := if count then s.time.tick + 1 else s.time.tick } }
  let s2 := policeTick (shaperTicks s1)
  if count then counted s2 else s2

/-- PTM time is latched (R411). -/
def latchPtm (s : State) (ptm : Word) (v : Bool) : State :=
  { s with time := { s.time with ptm := ptm, ptmValid := v, tickPs := s.time.ps } }

/-- Do Ticks reach the Home: power is good and the Home is not in Off. -/
def State.ticking (s : State) : Bool := s.boot != .off && s.power.state != 3

/-! ## Strobes -/

/-- A strobe while the external Tick is the source (R56). -/
def strobe (s : State) (ptm : Word) (v : Bool) : State :=
  let d := s.time.ps - s.time.lastTick
  if d < tickMin then s.bump ⟨0x8040, 4, 32⟩
  else
    let s1 := if tickMax < d then s.bump ⟨0x8040, 5, 32⟩ else s
    let s2 : State := { s1 with time := { s1.time with lastTick := s1.time.ps } }
    tickStep (latchPtm s2 ptm v) true

/-- The length of the run that a strobe on substitute Ticks makes (R59). -/
def Time.nextRun (t : Time) : Nat :=
  match t.lastExt with
  | none => 1
  | some e => if tickMin ≤ t.ps - e && t.ps - e ≤ tickMax then t.run + 1 else 1

/-- A strobe while substitute Ticks are the source; the eighth of a run returns to the external Tick (R59). -/
def strobeOnSubstitute (s : State) (ptm : Word) (v : Bool) : State :=
  let t := s.time
  let n := t.nextRun
  if n < 8 then { s with time := { t with run := n, lastExt := some t.ps } }
  else
    let s1 : State := { s with time := { t with run := 0, lastExt := none, substitute := false, lastTick := t.ps } }
    tickStep (latchPtm (s1.note .tickRestored .ch []) ptm v) (tickMin ≤ t.ps - t.lastSub)

/-- The Tick is declared lost (R58). -/
def loseTick (s : State) : State :=
  let s1 := ((List.range 16).foldl (fun s _ => tickStep s true) s).bump ⟨0x8040, 6, 32⟩
  let s2 : State := { s1 with time := { s1.time with substitute := true, run := 0, lastExt := none, lastSub := s1.time.ps } }
  s2.note .tickLost .ch []

/-- TICK_STROBE, `dt` CCLK after the last command (R56, R59). -/
def execTickStrobe (dt : Nat) (ptm : Word) (v : Bool) (s : State) : Host.Outcome State Fault Refusal :=
  .next (if !s.ticking then s else
    let s1 := advance s dt
    if s1.time.substitute then strobeOnSubstitute s1 ptm v else strobe s1 ptm v)

/-- TICK_LOST: no Tick has been accepted for 16 × TICK_NOMINAL (R58). -/
def execTickLost (dt : Nat) (s : State) : Host.Outcome State Fault Refusal :=
  .next (if !s.ticking then s else
    let s1 := advance s dt
    if !s1.time.substitute && 16 * s1.nominal ≤ s1.time.ps - s1.time.lastTick then loseTick s1 else s1)

/-- SUBSTITUTE_TICK: the generator's period is within 1 % of TICK_NOMINAL (R58). -/
def execSubstituteTick (dt : Nat) (ptm : Word) (v : Bool) (s : State) : Host.Outcome State Fault Refusal :=
  .next (if !s.ticking then s else
    let s1 := advance s dt
    if s1.time.substitute && 99 * s1.nominal ≤ 100 * (s1.time.ps - s1.time.lastSub) then
      let s2 : State := { s1 with time := { s1.time with lastSub := s1.time.ps } }
      tickStep (latchPtm s2 ptm v) true
    else s1)

end Sys2Proof.Machine
end

