-- ==== Sys2Proof/Machine/Bringup.lean ====
section
/-! DEFINITION. Power, cold reset, bring-up, resume and the power-fail warning (R9, R32, R306, R307, R380, R431, R432,
R454 to R456, R528 to R533). -/

namespace Sys2Proof.Machine

/-! ## Cold reset (R306, R528) -/

/-- The row remaps of a Till in OTP, as its table holds them (R375). -/
def Fuses.remapOf (f : Fuses) (t : Nat) : KV Nat :=
  (f.remaps.filter (fun r => r.1 == t)).foldl (fun m r => KV.put m (r.2.1 * 4096 + r.2.2.1) r.2.2.2) []

/-- The rows of a Till retired so far, by bank (R375). -/
def Fuses.retiredOf (f : Fuses) (t : Nat) : KV Nat :=
  (f.remaps.filter (fun r => r.1 == t)).foldl (fun m r => KV.put m r.2.1 (min 255 (KV.get m r.2.1 0 + 1))) []

/-- A Till after a cold reset: the first Tills are active, the others of the build spare (R32). -/
def freshTill (f : Fuses) (t : Nat) : Till :=
  { role := if t < f.build.activeTills then .active else if t < f.build.tills then .spare else .none
    remap := f.remapOf t, rowsRetired := f.retiredOf t }

/-- The Home after a cold reset. OTP, the save image outside the block,
the input levels (CHSTAT among them) and the model's own counters stay. -/
def coldReset (s : State) (b : Boot) (cause : Nat) (resume : Bool) : State :=
  { pending := s.pending, out := s.out, freeCtr := s.freeCtr, boot := b, resetCause := cause, resuming := resume
    startSeen := false
    pins := { s.pins with quiesceState := bit s.pins.warn }
    fuses := s.fuses
    time := { cclk := s.time.cclk, ps := s.time.ps, lastTick := s.time.ps, lastSub := s.time.ps, tickPs := s.time.ps }
    tills := (List.range 18).map (freshTill s.fuses)
    sec := { draws := s.sec.draws }
    chstat := s.chstat, image := s.image, coldDraw := s.coldDraw + 1, tap := s.tap }

/-- Power falls: every state and any bring-up in progress is abandoned (R528). -/
def powerDown (s : State) : State := coldReset s .off s.resetCause false

/-- A bring-up starts if PWR_GOOD is 1 and BROWNOUT 0 (R528, R531). -/
def bringUp (s : State) (cause : Nat) (resume : Bool) : State :=
  if s.pins.pwrGood && !s.pins.brownout then coldReset s .filling cause resume else powerDown s

/-- PWR_GOOD_RISE: cold bring-up; RESUME is sampled (R431, R528). -/
def execPwrGoodRise (resume : Bool) (s : State) : Host.Outcome State Fault Refusal :=
  .next (if s.pins.pwrGood then s else bringUp { s with pins := { s.pins with pwrGood := true } } 0 resume)

/-- PWR_GOOD_FALL (R528). -/
def execPwrGoodFall (s : State) : Host.Outcome State Fault Refusal :=
  .next (if s.pins.pwrGood then powerDown { s with pins := { s.pins with pwrGood := false } } else s)

/-- BROWNOUT_RISE: as a fall of PWR_GOOD (R528). -/
def execBrownoutRise (s : State) : Host.Outcome State Fault Refusal :=
  .next (if s.pins.brownout then s else powerDown { s with pins := { s.pins with brownout := true } })

/-- BROWNOUT_FALL: with PWR_GOOD at 1, a cold bring-up with RESET_CAUSE 0 (R528). -/
def execBrownoutFall (s : State) : Host.Outcome State Fault Refusal :=
  .next (if s.pins.brownout then bringUp { s with pins := { s.pins with brownout := false } } 0 false else s)

/-- COLD_RST: the pulse ends in a bring-up with RESET_CAUSE 1 (R528). -/
def execColdRst (s : State) : Host.Outcome State Fault Refusal := .next (bringUp s 1 false)

/-- FLR: a function reset (R456, R528). -/
def execFlr (s : State) : Host.Outcome State Fault Refusal := .next (startReset s)

/-- FUNCTION_RESET_DONE: the Chart is available again (R307, R456). -/
def execFunctionResetDone (s : State) : Host.Outcome State Fault Refusal := .next { s with inReset := false }

/-! ## The power-fail warning (R529) -/

/-- Sets QUIESCE_STATE. -/
def setQuiesce (s : State) (v : Nat) : State := { s with pins := { s.pins with quiesceState := v } }

/-- PWR_FAIL_WARN_RISE. -/
def execPwrFailWarnRise (s : State) : Host.Outcome State Fault Refusal :=
  .next (if s.pins.warn then s
    else
      let s1 := setQuiesce { s with pins := { s.pins with warn := true } } 1
      if s.boot == .off || s.power.state == 3 then s1 else s1.bump ⟨0x8080, 0, 32⟩)

/-- QUIESCED: the posting buffer is empty and every Folio has retired. -/
def execQuiesced (s : State) : Host.Outcome State Fault Refusal :=
  .next (if s.pins.warn && s.ws.post.isEmpty && !s.anyFolio then setQuiesce s 2 else s)

/-! ## The bring-up fill (R380) -/

/-- A Till fails its fill check: FAILED; the lowest spare takes its buckets before READY, with nothing to salvage, and the
Till goes to its Till reset (R380, R385). -/
def fillFailed (s : State) (t : Nat) : State :=
  let role := (s.till t).role
  let s1 := (s.modTill t (fun u => { u with fn := u.fn.fault, role := .reset, failCause := 5 })).note .tillFailed (.till t) [t, 5]
  if role != .active then s1
  else
    match s1.forcedDst with
    | none => s1
    | some d =>
      let l := s1.bucketsOf t
      let move := fun (m : KV Nat) => l.foldl (fun m b => s1.setBucket m b d) m
      let s2 : State := { s1 with maps := { s1.maps with
        bLive := move s1.maps.bLive, bShadow := move s1.maps.bShadow, bGen := s1.maps.bGen + 1 } }
      (s2.modTill d (fun u => { u with role := .active })).bump ⟨0x7010, 6, 32⟩

/-! ## Resume (R431, R432) -/

/-- Does the image pass the checks of R431: present, every CRC holds, not consumed, and of this die. -/
def State.imageGood (s : State) (crcOk : Bool) : Bool :=
  crcOk && s.image.any (fun i => !i.consumed && i.lot == s.fuses.lot && i.wafer == s.fuses.wafer && i.dieX == s.fuses.dieX
    && i.dieY == s.fuses.dieY)

/-- The agents of the image; LINK is what the port logic has reported since the reset. -/
def mergeAgents (saved now : KV Agent) : KV Agent :=
  let clean := saved.foldl (fun m p => KV.set m p.1 { p.2 with link := false, resetSeen := false, committed := [] } {}) []
  now.foldl (fun m p =>
    let a := KV.get m p.1 {}
    KV.set m p.1 { a with
      link := p.2.link, resetSeen := p.2.resetSeen, remembered := if p.2.link then p.2.remembered else a.remembered } {}) clean

/-- Ticks that passed while the Home was off (R431). -/
def elapsedTicks (i : Image) (nominal : Nat) (ptm : Word) (v : Bool) : Nat :=
  if v && i.ptmValid then (ptm.toNat - i.ptm.toNat + (nominal - 1)) / max 1 nominal else 0

/-- What a restored Till takes from the image; every Summary bit is set (R431). -/
def restoreTill (u : Till) (x : Fn × Role × Nat × KV CeEntry) : Till :=
  { u with fn := x.1, role := x.2.1, failCause := x.2.2.1, ce := x.2.2.2, summary := [(0, 2 ^ 22)] }

/-- The body of the image comes back (R431). -/
def restore (s : State) (i : Image) (ptm : Word) (v : Bool) : State :=
  let s0 : State := { s with chart := i.chart }
  let tick := i.tick + elapsedTicks i (s0.rawN 0x8040 1) ptm v
  { s0 with
    resetCause := 2
    agents := mergeAgents i.agents s.agents
    maps := i.maps
    time := { s.time with tick := tick }
    cellarState := if i.cellarOn then 2 else 0
    cellarGen := i.cellarGen, cellarFloor := i.cellarFloor, cellarLocked := i.cellarOn
    saveLocked := s0.rawN 0x8051 1 == 1
    lost := i.lost
    ways := i.ways
    shapes := i.shapes
    tills := s.tills.mapIdx (fun t u => match i.tills[t]? with | some x => restoreTill u x | none => u)
    wickets := s.wickets.mapIdx (fun w x => match i.wickets[w]? with
      | some y => { x with fn := y.1, shaper := y.2 }
      | none => x)
    journal := { s.journal with streams := s.journal.streams.mapIdx (fun k x => { x with fn := (i.streams[k]?).getD x.fn }) }
    tally := { s.tally with chans := i.chanCfg.foldl (fun m p => KV.set m p.1 { cfg := p.2 } {}) [] }
    assay := { s.assay with userScrub := s0.rawN 0x7000 0, ageTick := tick }
    sec := { s.sec with proofFails := i.sec.1, quarantine := i.sec.2.1, quarantines := i.sec.2.2 } }

/-- The Tills commit the escrow of the agents in service, and their Wickets hold the credits (R135, R431). -/
def commitAll (s : State) : State :=
  let serving := List.filter (fun p => s.serving p.1) s.agents
  { s with
    tills := s.tills.map (fun u => { u with escrow := recommit s })
    wickets := s.wickets.mapIdx (fun w x => { x with
      creds := (List.filter (fun p => p.2.wicket.toNat == w) serving).foldl (fun m p =>
        s.joinTills.foldl (fun m t => KV.put m (ckey p.1 t) (startCred p.2.escrowF p.2.escrowD)) m) x.creds }) }

/-- RESUME_RESULT: 0 OK, 1 COLD, 2 IMAGE_BAD (R434). -/
def resumeResult (s : State) (v : Nat) : State := s.setRawN 0x8051 3 v

/-- The fill ends: the image is checked and restored where RESUME was sampled, failed Tills are replaced, and CH is
released (R380, R431, R432, R454, R455). -/
def fillDone (s : State) (failed : List Nat) (crcOk : Bool) (ptm : Word) (v : Bool) : State :=
  let s1 : State := { s with boot := .released, global := 1, startSeen := s.fuses.autoStart }
  let s2 := if !s.resuming then resumeResult s1 1
    else if !s.imageGood crcOk then resumeResult { s1 with resuming := false } 2
    else
      match s.image with
      | some i => restore s1 i ptm v
      | none => s1
  let s3 := (failed.filter s.build.hasTill).foldl (fun s t => if (s.till t).fn.st == .failed then s else fillFailed s t) s2
  if s3.resuming then commitAll s3 else s3

/-- BRINGUP_FILL (R380, R531). -/
def execBringupFill (failed : List Nat) (crcOk : Bool) (ptm : Word) (v : Bool) (s : State) :
    Host.Outcome State Fault Refusal :=
  .next (if s.boot == .filling then fillDone s failed crcOk ptm v else s)

/-! ## The baseline and READY (R414, R455, R531) -/

/-- The baseline is measured, and its margin request is answered or not (R531, step 6). -/
def baseline (s : State) (m : Measure) (mhz : Nat) (acked : Bool) : State :=
  let s1 := askMargin (report (readTjs s m.tj) m true) 0 s.assay.vdd mhz 4
  let w := marginWord s1.assay.reqId 0 s.assay.vdd mhz
  let s2 : State := { s1 with assay := { s1.assay with req := none, baselineDone := true } }
  if acked then { s2.setRaw 0x8060 1 w with assay := { s2.assay with mhz := mhz } }
  else (s2.note .marginNoAck .as_ [w.toNat]).bump ⟨0x8060, 2, 32⟩

/-- May the baseline choose this CCLK: a step of 25 MHz from 1,200 MHz to CCLK_MAX_MHZ (R408). -/
def State.mhzLegal (s : State) (mhz : Nat) : Bool :=
  decide (1200 ≤ mhz) && decide (mhz ≤ s.rawN 0x8000 9) && mhz % 25 == 0

/-- ASSAY_BASELINE. -/
def execAssayBaseline (m : Measure) (mhz : Nat) (acked : Bool) (s : State) : Host.Outcome State Fault Refusal :=
  .next (if s.boot == .released && !s.assay.baselineDone && s.mhzLegal mhz then baseline s m mhz acked else s)

/-- At READY after a resume, each present agent's LINK is taken (R431). -/
def resumeAgent (s : State) (n : Nat) : State :=
  let a := s.agent n
  let aid : Aid := BitVec.ofNat 10 n
  if !s.serving n then s
  else if a.resetSeen then declareDead s aid 6
  else if !a.link then startGrace (s.modAgent n (fun x => { x with grace := false })) aid
  else
    let s1 := (s.modAgent n (fun x => { x with grace := false })).send (.bind a.wicket.toNat true aid a.inc)
    regrant s1 a.wicket.toNat n

/-- The resume ends: CONSUMED is written, RESUME_RESULT is OK, and the agents' links count (R431). -/
def endResume (s : State) : State :=
  if !s.resuming then s
  else
    let s1 := resumeResult { s with resuming := false, image := s.image.map (fun i => { i with consumed := true }) } 0
    s1.agents.foldl (fun s p => resumeAgent s p.1) s1

/-- Are both events of R455 past. -/
def State.readyNow (s : State) : Bool :=
  s.boot == .released && s.global == 1 && s.assay.baselineDone && s.startSeen

/-- HOME_READY: READY locks the RWL entries, and the record is written (R40, R455). -/
def execHomeReady (s : State) : Host.Outcome State Fault Refusal :=
  .next (if s.readyNow then
    endResume (({ s with global := 2, interleaveLocked := true } : State).note .homeReady .ch [])
  else s)

/-! ## Test access (R533) -/

/-- TAP_INSTRUCTION: 0 BYPASS, 1 IDCODE, 2 SAMPLE/PRELOAD, 3 EXTEST, and above it the IEEE 1500 wrapper instructions, which
outside Blank select BYPASS. -/
def execTapInstruction (ir : Nat) (s : State) : Host.Outcome State Fault Refusal :=
  .next { s with tap := if ir ≤ 2 || s.fuses.lifecycle == 0 then ir else 0 }

end Sys2Proof.Machine
end

