-- ==== Sys2Proof/Machine/Commands.lean ====
section
/-! DEFINITION. The commands that are Chart accesses of the window, and the ends of the waits of requests at the
boundary (R60, R301, R529, R427, R428, R437 to R446, R461, R462, R499). -/

namespace Sys2Proof.Machine

/-! ## The exit from Hold (R427, R428) -/

/-- An event that waited in Hold is acted on. -/
def replay (s : State) (c : Instr) : State :=
  match requestOf c with
  | some (w, o, q) => request c w o q s
  | none =>
    match tellerOf c with
    | some (n, h) => tellerNow s n h
    | none => if (chartOp c).isSome then writeNow s c else linkEvent c s

/-- The events that waited are acted on in their order; a request that must still wait does. -/
def replayAll (s : State) : State :=
  if s.inHold || s.power.deferred.isEmpty then s
  else s.power.deferred.foldl replay (s.modPower (fun p => { p with deferred := [] }))

/-- MARGIN_ACK: the acknowledgement of the request that waits (R419). -/
def execMarginAck (id : BitVec 8) (mv : BitVec 14) (mhz : BitVec 12) (s : State) : Host.Outcome State Fault Refusal :=
  .next (match s.assay.req with
    | some r => if r.id == id.toNat then replayAll (granted s r mv.toNat mhz.toNat) else s
    | none => s)

/-- FORECLOSURE_DONE (R301); requests that a link reset made wait go on (R305). -/
def execForeclosureDone (n : Nat) (s : State) : Host.Outcome State Fault Refusal :=
  .next (if s.foreclosed n then replayAll (finishForeclosure s n) else s)

/-- PWR_FAIL_WARN_FALL: writes that waited at WS go on (R529). -/
def execPwrFailWarnFall (s : State) : Host.Outcome State Fault Refusal :=
  .next (replayAll (setQuiesce { s with pins := { s.pins with warn := false } } 0))

/-! ## Ranges of the operands -/

/-- Is the number of a function inside the range of its kind. -/
def funcInRange : Func → Bool
  | .wicket w | .portShaper w => decide (w ≤ 8)
  | .way w => decide (w < 16)
  | .stream k => decide (k < 4)
  | .subShaper n => decide (n < 1024)
  | .svcShaper n c => decide (n < 1024) && decide (c < 4)
  | .till t => decide (t < 18)

/-- Is an entry one of those that ESCROW_WRITE writes (R127, R152). -/
def escrowEntry (i j : Nat) : Bool := (i == 0x4010 || (decide (0x4400 ≤ i) && decide (i < 0x4800))) && decide (j < 2)

/-- Do the numbers of a Chart command lie in their ranges. -/
def chartRange : Instr → Bool
  | .enable f | .disable f => funcInRange f
  | .retrain l => decide (l < 128)
  | .ffClear t => decide (t < 18)
  | .join n | .leave n | .foreclose n | .agentRelease n | .agentCfgWrite n _ => decide (n < 1024)
  | .escrowWrite i j _ => escrowEntry i j
  | .tenantMembersWrite t i _ => decide (t < 64) && decide (i < 16)
  | .slotCtrlWrite w _ => decide (w < 8)
  | .wicketLinkReset w _ => decide (w ≤ 8)
  | .shaperConfigWrite f _ => isShaper f && funcInRange f
  | _ => true

/-- A command that is a window write. -/
def chartCmd (c : Instr) (s : State) : Host.Outcome State Fault Refusal :=
  if chartRange c then .next (writeCmd c s) else .fault .unbuiltPart

/-! ## The window writes -/

/-- BUCKET_MAP_COMMIT (R48). -/
def execBucketMapCommit (v : BitVec 8) (s : State) : Host.Outcome State Fault Refusal := chartCmd (.bucketMapCommit v) s
/-- REGION_COMMIT (R401). -/
def execRegionCommit (v : BitVec 8) (s : State) : Host.Outcome State Fault Refusal := chartCmd (.regionCommit v) s
/-- ENABLE (R60, R62). -/
def execEnable (f : Func) (s : State) : Host.Outcome State Fault Refusal := chartCmd (.enable f) s
/-- DISABLE (R60, R62). -/
def execDisable (f : Func) (s : State) : Host.Outcome State Fault Refusal := chartCmd (.disable f) s
/-- CELLAR_ENABLE, with the header line that CH reads (R171, R176). -/
def execCellarEnable (header : LineData) (s : State) : Host.Outcome State Fault Refusal := chartCmd (.cellarEnable header) s
/-- PRELOAD (R211). -/
def execPreload (s : State) : Host.Outcome State Fault Refusal := chartCmd .preload s
/-- PRELOAD_AND_LOCK (R211). -/
def execPreloadAndLock (s : State) : Host.Outcome State Fault Refusal := chartCmd .preloadAndLock s
/-- UNLOCK (R211). -/
def execUnlock (s : State) : Host.Outcome State Fault Refusal := chartCmd .unlock s
/-- ROUTE_COMMIT (R336). -/
def execRouteCommit (s : State) : Host.Outcome State Fault Refusal := chartCmd .routeCommit s
/-- RETRAIN: LINK_CMD 0x03 (R333). -/
def execRetrain (l : Nat) (s : State) : Host.Outcome State Fault Refusal := chartCmd (.retrain l) s
/-- START (R455). -/
def execStart (s : State) : Host.Outcome State Fault Refusal := chartCmd .start s
/-- FUNCTION_RESET (R456). -/
def execFunctionReset (s : State) : Host.Outcome State Fault Refusal := chartCmd .functionReset s
/-- FF_CLEAR (R503). -/
def execFfClear (t : Nat) (s : State) : Host.Outcome State Fault Refusal := chartCmd (.ffClear t) s
/-- COUNTERS_CLEAR (R487). -/
def execCountersClear (s : State) : Host.Outcome State Fault Refusal := chartCmd .countersClear s
/-- LOST_WRITES_CLEAR (R272). -/
def execLostWritesClear (s : State) : Host.Outcome State Fault Refusal := chartCmd .lostWritesClear s
/-- JOIN (R283 to R285). -/
def execJoin (n : Nat) (s : State) : Host.Outcome State Fault Refusal := chartCmd (.join n) s
/-- LEAVE (R283, R289). -/
def execLeave (n : Nat) (s : State) : Host.Outcome State Fault Refusal := chartCmd (.leave n) s
/-- FORECLOSE (R283, R291). -/
def execForeclose (n : Nat) (s : State) : Host.Outcome State Fault Refusal := chartCmd (.foreclose n) s
/-- RELEASE of a Quarantined agent (R283, R303). -/
def execAgentRelease (n : Nat) (s : State) : Host.Outcome State Fault Refusal := chartCmd (.agentRelease n) s
/-- AGENT_CFG_WRITE (R280). -/
def execAgentCfgWrite (n : Nat) (v : BitVec 32) (s : State) : Host.Outcome State Fault Refusal := chartCmd (.agentCfgWrite n v) s
/-- ESCROW_WRITE (R127). -/
def execEscrowWrite (i j : Nat) (v : BitVec 16) (s : State) : Host.Outcome State Fault Refusal := chartCmd (.escrowWrite i j v) s
/-- TENANT_MEMBERS_WRITE (R165). -/
def execTenantMembersWrite (t i : Nat) (v : Word) (s : State) : Host.Outcome State Fault Refusal := chartCmd (.tenantMembersWrite t i v) s
/-- SLOT_CTRL_WRITE (R310). -/
def execSlotCtrlWrite (w : Nat) (v : BitVec 16) (s : State) : Host.Outcome State Fault Refusal := chartCmd (.slotCtrlWrite w v) s
/-- WICKET_LINK_RESET (R305, R343). -/
def execWicketLinkReset (w : Nat) (v : BitVec 8) (s : State) : Host.Outcome State Fault Refusal := chartCmd (.wicketLinkReset w v) s
/-- SHAPER_CONFIG_WRITE (R351, R355). -/
def execShaperConfigWrite (f : Func) (v : Word) (s : State) : Host.Outcome State Fault Refusal := chartCmd (.shaperConfigWrite f v) s
/-- POWER_TARGET Run (R424). -/
def execPowerTargetRun (s : State) : Host.Outcome State Fault Refusal := chartCmd .powerTargetRun s
/-- POWER_TARGET Lean (R424, R425). -/
def execPowerTargetLean (s : State) : Host.Outcome State Fault Refusal := chartCmd .powerTargetLean s
/-- POWER_TARGET Hold (R424, R426). -/
def execPowerTargetHold (s : State) : Host.Outcome State Fault Refusal := chartCmd .powerTargetHold s
/-- POWER_TARGET Off (R424, R429). -/
def execPowerTargetOff (s : State) : Host.Outcome State Fault Refusal := chartCmd .powerTargetOff s
/-- PROGRAM of a key slot (R461). -/
def execProgram (s : State) : Host.Outcome State Fault Refusal := chartCmd .program s
/-- REVOKE of a key slot (R461). -/
def execRevoke (s : State) : Host.Outcome State Fault Refusal := chartCmd .revoke s
/-- LIFECYCLE_CMD Provision (R462). -/
def execProvision (s : State) : Host.Outcome State Fault Refusal := chartCmd .provision s
/-- LIFECYCLE_CMD Deploy (R462). -/
def execDeploy (s : State) : Host.Outcome State Fault Refusal := chartCmd .deploy s
/-- LIFECYCLE_CMD Retire (R462, R463). -/
def execRetire (s : State) : Host.Outcome State Fault Refusal := chartCmd .retire s
/-- SEG_TARGET (R445). -/
def execSegTarget (v : BitVec 32) (s : State) : Host.Outcome State Fault Refusal := chartCmd (.segTarget v) s
/-- SEG_DATA write (R445, R446). -/
def execSegDataWrite (v : Word) (s : State) : Host.Outcome State Fault Refusal := chartCmd (.segDataWrite v) s
/-- CHART_WRITE (R440 to R444). -/
def execChartWrite (off : BitVec 27) (size : Nat) (v : Word) (s : State) : Host.Outcome State Fault Refusal := chartCmd (.chartWrite off size v) s

/-! ## The window reads with an effect (R445, R499) -/

/-- A window read (R440, R443): while power is off nothing answers. -/
def windowRead (s : State) (i j : Nat) : State :=
  if s.boot == .off then s
  else
    let r := readSlot s false i j
    (if s.chartUp then r.1.gev 0x10C else r.1).send (.windowRead r.2)

/-- JN_DATA_READ: the next word of a stream (R499). -/
def execJnDataRead (k : Nat) (s : State) : Host.Outcome State Fault Refusal :=
  if k < 4 then .next (windowRead s (0xC000 + k) 0) else .fault .unbuiltPart

/-- SEG_DATA_READ: the segment, and the next segment number (R445). -/
def execSegDataRead (s : State) : Host.Outcome State Fault Refusal := .next (windowRead s 0x1110 2)

end Sys2Proof.Machine
end

