-- ==== Sys2Proof/Machine/Dispatch.lean ====
section
/-! DEFINITION. The dispatch of a command to its meaning: one arm per row of the opcode table. -/

namespace Sys2Proof.Machine

def exec (i : Instr) (s : State) : Host.Outcome State Fault Refusal :=
  match i with
  | .pwrGoodRise resume => Sys2Proof.Machine.execPwrGoodRise resume s
  | .pwrGoodFall => Sys2Proof.Machine.execPwrGoodFall s
  | .brownoutRise => Sys2Proof.Machine.execBrownoutRise s
  | .brownoutFall => Sys2Proof.Machine.execBrownoutFall s
  | .coldRst => Sys2Proof.Machine.execColdRst s
  | .flr => Sys2Proof.Machine.execFlr s
  | .pwrFailWarnRise => Sys2Proof.Machine.execPwrFailWarnRise s
  | .pwrFailWarnFall => Sys2Proof.Machine.execPwrFailWarnFall s
  | .quiesced => Sys2Proof.Machine.execQuiesced s
  | .bringupFill failed imageCrcOk ptm ptmValid => Sys2Proof.Machine.execBringupFill failed imageCrcOk ptm ptmValid s
  | .assayBaseline m mhz acked => Sys2Proof.Machine.execAssayBaseline m mhz acked s
  | .homeReady => Sys2Proof.Machine.execHomeReady s
  | .start => Sys2Proof.Machine.execStart s
  | .functionReset => Sys2Proof.Machine.execFunctionReset s
  | .functionResetDone => Sys2Proof.Machine.execFunctionResetDone s
  | .slotAttention w => Sys2Proof.Machine.execSlotAttention w s
  | .tickStrobe dt ptm ptmValid => Sys2Proof.Machine.execTickStrobe dt ptm ptmValid s
  | .tickLost dt => Sys2Proof.Machine.execTickLost dt s
  | .substituteTick dt ptm ptmValid => Sys2Proof.Machine.execSubstituteTick dt ptm ptmValid s
  | .marginAck id mv mhz => Sys2Proof.Machine.execMarginAck id mv mhz s
  | .marginTimeout => Sys2Proof.Machine.execMarginTimeout s
  | .mrdata port till folio line cancelled error poison writtenOff cellared data upset => Sys2Proof.Machine.execMrdata port till folio line cancelled error poison writtenOff cellared data upset s
  | .mcmp port lost mop till folio => Sys2Proof.Machine.execMcmp port lost mop till folio s
  | .mcred port till dataKind count => Sys2Proof.Machine.execMcred port till dataKind count s
  | .chstatChange port level => Sys2Proof.Machine.execChstatChange port level s
  | .memWriteTimeout port till folio mop => Sys2Proof.Machine.execMemWriteTimeout port till folio mop s
  | .memReadTimeout port till folio line => Sys2Proof.Machine.execMemReadTimeout port till folio line s
  | .linkDown w aid => Sys2Proof.Machine.execLinkDown w aid s
  | .linkUp w aid resetSeen identity => Sys2Proof.Machine.execLinkUp w aid resetSeen identity s
  | .agentReset w aid => Sys2Proof.Machine.execAgentReset w aid s
  | .linkReset w => Sys2Proof.Machine.execLinkReset w s
  | .rdS w q => Sys2Proof.Machine.execRdS w q s
  | .rdX w q => Sys2Proof.Machine.execRdX w q s
  | .rdAny w q => Sys2Proof.Machine.execRdAny w q s
  | .rdNc w q => Sys2Proof.Machine.execRdNc w q s
  | .own w q => Sys2Proof.Machine.execOwn w q s
  | .drop w q => Sys2Proof.Machine.execDrop w q s
  | .down w q => Sys2Proof.Machine.execDown w q s
  | .wbI w q => Sys2Proof.Machine.execWbI w q s
  | .wbS w q => Sys2Proof.Machine.execWbS w q s
  | .wbX w q => Sys2Proof.Machine.execWbX w q s
  | .evc w q => Sys2Proof.Machine.execEvc w q s
  | .conflict w q => Sys2Proof.Machine.execConflict w q s
  | .ncwFull w q => Sys2Proof.Machine.execNcwFull w q s
  | .ncwPtl w q => Sys2Proof.Machine.execNcwPtl w q s
  | .claimX w q => Sys2Proof.Machine.execClaimX w q s
  | .claimS w q => Sys2Proof.Machine.execClaimS w q s
  | .release w q => Sys2Proof.Machine.execRelease w q s
  | .rsv w q => Sys2Proof.Machine.execRsv w q s
  | .cwr w q => Sys2Proof.Machine.execCwr w q s
  | .settle w q => Sys2Proof.Machine.execSettle w q s
  | .rspI w r => Sys2Proof.Machine.execRspI w r s
  | .rspS w r => Sys2Proof.Machine.execRspS w r s
  | .rspE w r => Sys2Proof.Machine.execRspE w r s
  | .requestInjection w dt => Sys2Proof.Machine.execRequestInjection w dt s
  | .qFlitAccepted till w => Sys2Proof.Machine.execQFlitAccepted till w s
  | .vaultLookupDone till folio upset => Sys2Proof.Machine.execVaultLookupDone till folio upset s
  | .folioReadOutDone till folio => Sys2Proof.Machine.execFolioReadOutDone till folio s
  | .chainedNotice w till => Sys2Proof.Machine.execChainedNotice w till s
  | .completionDelivery w till dataPlane => Sys2Proof.Machine.execCompletionDelivery w till dataPlane s
  | .snoopDelivery w till => Sys2Proof.Machine.execSnoopDelivery w till s
  | .foreclosedResponse till w => Sys2Proof.Machine.execForeclosedResponse till w s
  | .loanRequest till w => Sys2Proof.Machine.execLoanRequest till w s
  | .loanGrant w till => Sys2Proof.Machine.execLoanGrant w till s
  | .loanIdle w till => Sys2Proof.Machine.execLoanIdle w till s
  | .creditReturn w till => Sys2Proof.Machine.execCreditReturn w till s
  | .receiptTimeout till folio => Sys2Proof.Machine.execReceiptTimeout till folio s
  | .bucketMapCommit v => Sys2Proof.Machine.execBucketMapCommit v s
  | .bucketMapSwitch node => Sys2Proof.Machine.execBucketMapSwitch node s
  | .regionCommit v => Sys2Proof.Machine.execRegionCommit v s
  | .regionTableSwitch node => Sys2Proof.Machine.execRegionTableSwitch node s
  | .enable f => Sys2Proof.Machine.execEnable f s
  | .disable f => Sys2Proof.Machine.execDisable f s
  | .enablingComplete f => Sys2Proof.Machine.execEnablingComplete f s
  | .drainComplete f => Sys2Proof.Machine.execDrainComplete f s
  | .cellarEnable header => Sys2Proof.Machine.execCellarEnable header s
  | .cellarClearingDone => Sys2Proof.Machine.execCellarClearingDone s
  | .preload => Sys2Proof.Machine.execPreload s
  | .preloadAndLock => Sys2Proof.Machine.execPreloadAndLock s
  | .unlock => Sys2Proof.Machine.execUnlock s
  | .preloadSector till sector => Sys2Proof.Machine.execPreloadSector till sector s
  | .cellarVisit till p g => Sys2Proof.Machine.execCellarVisit till p g s
  | .scrubRun till bank upsets => Sys2Proof.Machine.execScrubRun till bank upsets s
  | .foreclosureWalk till pos => Sys2Proof.Machine.execForeclosureWalk till pos s
  | .leaveWalk till pos => Sys2Proof.Machine.execLeaveWalk till pos s
  | .retentiveCleanWalk till pos => Sys2Proof.Machine.execRetentiveCleanWalk till pos s
  | .resolutionWalk till entry => Sys2Proof.Machine.execResolutionWalk till entry s
  | .rebuildStep till bucket => Sys2Proof.Machine.execRebuildStep till bucket s
  | .copyRun till bank => Sys2Proof.Machine.execCopyRun till bank s
  | .switch batch => Sys2Proof.Machine.execSwitch batch s
  | .salvage till => Sys2Proof.Machine.execSalvage till s
  | .retireRow till bank row => Sys2Proof.Machine.execRetireRow till bank row s
  | .handoverSend till => Sys2Proof.Machine.execHandoverSend till s
  | .copyEndSend till => Sys2Proof.Machine.execCopyEndSend till s
  | .handover w till => Sys2Proof.Machine.execHandover w till s
  | .handoverAck till w => Sys2Proof.Machine.execHandoverAck till w s
  | .copyEnd till => Sys2Proof.Machine.execCopyEnd till s
  | .tillDown w till => Sys2Proof.Machine.execTillDown w till s
  | .salvageMark till w => Sys2Proof.Machine.execSalvageMark till w s
  | .tillWatchdog till => Sys2Proof.Machine.execTillWatchdog till s
  | .bankWatchdog till bank => Sys2Proof.Machine.execBankWatchdog till bank s
  | .exchStall node port vc => Sys2Proof.Machine.execExchStall node port vc s
  | .bankArbitration till bank dt raised lockStart lockEnd => Sys2Proof.Machine.execBankArbitration till bank dt raised lockStart lockEnd s
  | .linkFlitError link half e => Sys2Proof.Machine.execLinkFlitError link half e s
  | .routeCommit => Sys2Proof.Machine.execRouteCommit s
  | .routeMark src dst cls => Sys2Proof.Machine.execRouteMark src dst cls s
  | .routeMarkAck src dst cls => Sys2Proof.Machine.execRouteMarkAck src dst cls s
  | .retrain link => Sys2Proof.Machine.execRetrain link s
  | .retrainDone link pass0 pass1 => Sys2Proof.Machine.execRetrainDone link pass0 pass1 s
  | .tallySample latency full => Sys2Proof.Machine.execTallySample latency full s
  | .tallyWindow => Sys2Proof.Machine.execTallyWindow s
  | .journalRecord => Sys2Proof.Machine.execJournalRecord s
  | .alarmWindow => Sys2Proof.Machine.execAlarmWindow s
  | .journalPointer k => Sys2Proof.Machine.execJournalPointer k s
  | .jnDataRead k => Sys2Proof.Machine.execJnDataRead k s
  | .ffClear till => Sys2Proof.Machine.execFfClear till s
  | .countersClear => Sys2Proof.Machine.execCountersClear s
  | .lostWritesClear => Sys2Proof.Machine.execLostWritesClear s
  | .snoopTimeout w sid => Sys2Proof.Machine.execSnoopTimeout w sid s
  | .grace n => Sys2Proof.Machine.execGrace n s
  | .foreclosureDone n => Sys2Proof.Machine.execForeclosureDone n s
  | .quarantineWindow n => Sys2Proof.Machine.execQuarantineWindow n s
  | .join n => Sys2Proof.Machine.execJoin n s
  | .leave n => Sys2Proof.Machine.execLeave n s
  | .foreclose n => Sys2Proof.Machine.execForeclose n s
  | .agentRelease n => Sys2Proof.Machine.execAgentRelease n s
  | .agentJoined n => Sys2Proof.Machine.execAgentJoined n s
  | .agentLeft n => Sys2Proof.Machine.execAgentLeft n s
  | .agentCfgWrite n v => Sys2Proof.Machine.execAgentCfgWrite n v s
  | .escrowWrite index sub v => Sys2Proof.Machine.execEscrowWrite index sub v s
  | .tenantMembersWrite t j v => Sys2Proof.Machine.execTenantMembersWrite t j v s
  | .slotCtrlWrite w v => Sys2Proof.Machine.execSlotCtrlWrite w v s
  | .wicketLinkReset w v => Sys2Proof.Machine.execWicketLinkReset w v s
  | .shaperConfigWrite f v => Sys2Proof.Machine.execShaperConfigWrite f v s
  | .leaseExpiry till entry => Sys2Proof.Machine.execLeaseExpiry till entry s
  | .expiredHold till entry => Sys2Proof.Machine.execExpiredHold till entry s
  | .claimReleaseDone till page => Sys2Proof.Machine.execClaimReleaseDone till page s
  | .rsvTimeout till j => Sys2Proof.Machine.execRsvTimeout till j s
  | .postDrainDelay entry => Sys2Proof.Machine.execPostDrainDelay entry s
  | .holdQuiesced => Sys2Proof.Machine.execHoldQuiesced s
  | .saveImageWritten => Sys2Proof.Machine.execSaveImageWritten s
  | .powerTargetRun => Sys2Proof.Machine.execPowerTargetRun s
  | .powerTargetLean => Sys2Proof.Machine.execPowerTargetLean s
  | .powerTargetHold => Sys2Proof.Machine.execPowerTargetHold s
  | .powerTargetOff => Sys2Proof.Machine.execPowerTargetOff s
  | .quickCheck m => Sys2Proof.Machine.execQuickCheck m s
  | .fullSweep m => Sys2Proof.Machine.execFullSweep m s
  | .tjSample tj => Sys2Proof.Machine.execTjSample tj s
  | .ageHours => Sys2Proof.Machine.execAgeHours s
  | .identify h => Sys2Proof.Machine.execIdentify h s
  | .open_ h => Sys2Proof.Machine.execOpen h s
  | .prove h => Sys2Proof.Machine.execProve h s
  | .close h => Sys2Proof.Machine.execClose h s
  | .read h => Sys2Proof.Machine.execRead h s
  | .write h => Sys2Proof.Machine.execWrite h s
  | .readRange h => Sys2Proof.Machine.execReadRange h s
  | .writeMulti h => Sys2Proof.Machine.execWriteMulti h s
  | .journalRead h => Sys2Proof.Machine.execJournalRead h s
  | .tallyRead h => Sys2Proof.Machine.execTallyRead h s
  | .counterRead h => Sys2Proof.Machine.execCounterRead h s
  | .debugSet h => Sys2Proof.Machine.execDebugSet h s
  | .tillHalt h => Sys2Proof.Machine.execTillHalt h s
  | .tillResume h => Sys2Proof.Machine.execTillResume h s
  | .rawRead h => Sys2Proof.Machine.execRawRead h s
  | .rawWrite h => Sys2Proof.Machine.execRawWrite h s
  | .lockOpen h => Sys2Proof.Machine.execLockOpen h s
  | .lockClose h => Sys2Proof.Machine.execLockClose h s
  | .inject h => Sys2Proof.Machine.execInject h s
  | .unquarantine h => Sys2Proof.Machine.execUnquarantine h s
  | .proveWindow slot => Sys2Proof.Machine.execProveWindow slot s
  | .sessionIdle slot => Sys2Proof.Machine.execSessionIdle slot s
  | .haltMaxTicks till => Sys2Proof.Machine.execHaltMaxTicks till s
  | .program => Sys2Proof.Machine.execProgram s
  | .revoke => Sys2Proof.Machine.execRevoke s
  | .keyBlowDone => Sys2Proof.Machine.execKeyBlowDone s
  | .provision => Sys2Proof.Machine.execProvision s
  | .deploy => Sys2Proof.Machine.execDeploy s
  | .retire => Sys2Proof.Machine.execRetire s
  | .lifecycleChanged => Sys2Proof.Machine.execLifecycleChanged s
  | .segTarget v => Sys2Proof.Machine.execSegTarget v s
  | .segDataRead => Sys2Proof.Machine.execSegDataRead s
  | .segDataWrite v => Sys2Proof.Machine.execSegDataWrite v s
  | .chartWrite offset size v => Sys2Proof.Machine.execChartWrite offset size v s
  | .tillReset till fillOk => Sys2Proof.Machine.execTillReset till fillOk s
  | .tapInstruction ir => Sys2Proof.Machine.execTapInstruction ir s
  | .unknownCommand cmd h => Sys2Proof.Machine.execUnknownCommand cmd h s

end Sys2Proof.Machine
end

