-- ==== Sys2Proof/Machine/Step.lean ====
section
/-! DEFINITION. One step of the block: the command at the front of the queue acts, or one CCLK passes (DESIGN CHOICE, log entry 1). -/

namespace Sys2Proof.Machine

/-- Nothing is commanded: one CCLK passes where CCLK runs (DESIGN CHOICE, log entry 1). -/
def idle (s : State) : State := if s.boot == .off || s.power.state == 3 then s else advance s 1

/-- Takes the command at the front of the queue; on an empty queue the block idles. -/
def step (s : State) : Host.Outcome State Fault Refusal :=
  match s.pending with
  | [] => .next (idle s)
  | c :: rest => exec c { s with pending := rest }

/-- Puts the command that a word of the opcode table spells at the front of the queue. -/
def State.withFetchWord (s : State) (nbits w : Nat) : State :=
  match decodeTableWord nbits w with
  | some c => { s with pending := c :: s.pending }
  | none => s

end Sys2Proof.Machine
end

