-- ==== Sys2Proof/Safety.lean ====
section
/-! DEFINITION. The terms that statements use: a command that completes, a record on its way to JN, the window open to a
writer, and the invariant of the Home. -/

namespace Sys2Proof.Machine

/-- The command completes at `s`: exec answers a next state, and it satisfies `P`. -/
def Completes (c : Instr) (s : State) (P : State → Prop) : Prop := ∃ t, exec c s = .next t ∧ P t

/-- The records made between two states: one with code `code` is on its way to JN, behind those that were (R493). -/
def Reports (s t : State) (code : Nat) : Prop :=
  ∃ l, t.journal.inbox = s.journal.inbox ++ l ∧ ∃ r ∈ l, r.code = code ∧ r.tick = s.time.tick

/-- Messages leave the Home in the order sent: those of `t` are those of `s`, and then `o` (R507). -/
def Sends (s t : State) (o : Out) : Prop := ∃ l, t.out = s.out ++ l ∧ o ∈ l

/-- Power fell or a cold reset came: nothing of the service state stays, and OTP, the save image and what was sent stay
(R306, R528, R532). -/
def Erased (s t : State) : Prop :=
  t.agents = [] ∧ t.chart = [] ∧ t.time.tick = 0 ∧ t.cellarState = 0 ∧ t.lost = [] ∧ t.transfers = [] ∧ t.ws = {}
    ∧ (∀ u ∈ t.tills, u.folios = [] ∧ u.claims = [] ∧ u.vault = []) ∧ (∀ x ∈ t.sec.sessions, x.live = false)
    ∧ t.fuses = s.fuses ∧ t.image = s.image ∧ t.out = s.out

/-- Till `t` works (R381) and holds nothing back: no message waits at its NI (R479), no RELEASE waits for writes (R255),
and no Till has met a cause of failure (R393). -/
def State.calm (s : State) (t : Nat) : Prop :=
  s.alive t = true ∧ (s.till t).ni = [] ∧ (∀ p ∈ (s.till t).folios, p.2.opc ≠ .release) ∧ (∀ u ∈ s.tills, u.failDue = none)

/-- A window write reaches its owner: the Chart is available (R307), the Home is neither in Hold (R427) nor past the
grant of Off, Quarantine is not entered (R473), and the window has authority (R464). -/
def State.windowOpen (s : State) : Prop :=
  s.chartUp = true ∧ s.inHold = false ∧ s.power.offReady = false ∧ s.sec.quarantine = false ∧ s.windowRole ≠ 0

/-- The invariant of the Home: the parts have the numbers the model gives them, the plain Chart entries and the Agent
Table stand in their canonical form, and the lifecycle, the power state and GLOBAL_STATE have codes of R460, R423 and R454. -/
def State.Inv (s : State) : Prop :=
  s.tills.length = 18 ∧ s.wickets.length = 9 ∧ s.ways.length = 16 ∧ s.journal.streams.length = 4
    ∧ s.sec.sessions.length = 4 ∧ KV.wf s.chart = true ∧ KV.wf s.agents = true ∧ s.fuses.lifecycle ≤ 3
    ∧ s.sec.lifeBlow.all (· ≤ 3) = true ∧ s.power.state ≤ 7 ∧ s.power.from_ ≤ 7 ∧ 1 ≤ s.global ∧ s.global ≤ 3
    ∧ s.image.all (fun i => KV.wf i.chart && i.ways.length == 16) = true

end Sys2Proof.Machine
end

