-- ==== Sys2Proof/WellFormed.lean ====
section
/-! DEFINITION. Which commands are well formed for a build: every number names a part that the build has, or lies in the
range of its kind (R10, R29, R313, R534). The other operands are bits, and every value of them is a message. -/

namespace Sys2Proof

/-- The number of a function lies in the range of its kind (R60). -/
def Func.inRange : Func → Bool
  | .wicket w | .portShaper w => decide (w ≤ 8)
  | .way w => decide (w < 16)
  | .stream s => decide (s < 4)
  | .subShaper n => decide (n < 1024)
  | .svcShaper n c => decide (n < 1024) && decide (c < 4)
  | .till t => decide (t < 18)

/-- The build has the function. -/
def Func.built (b : Build) : Func → Bool
  | .wicket w | .portShaper w => b.hasWicket w
  | .way w => decide (w < 16)
  | .stream s => decide (s < 4)
  | .subShaper n => decide (n < 1024)
  | .svcShaper n c => decide (n < 1024) && decide (c < 4)
  | .till t => b.hasTill t

/-- The function is a shaper (R351). -/
def Func.shapes : Func → Bool
  | .portShaper _ | .subShaper _ | .svcShaper _ _ => true
  | _ => false

namespace Build

/-- A node position of this build's Exchange (R313). -/
def hasPosition (b : Build) (n : Nat) : Bool := decide (n % 8 < b.side) && decide (n / 8 < b.side)
/-- An Exchange link of this build: an outgoing link of a position (R331). -/
def hasLinkAt (b : Build) (l : Nat) : Bool := decide (l / 2 % 8 < b.side) && decide (l / 16 < b.side)
/-- A replica of the Bucket Map and the Region table: a Wicket, or 9 for the Auditor (R49, R402). -/
def hasReplicaAt (b : Build) (n : Nat) : Bool := b.hasWicket n || n == 9

end Build

/-- A command is well formed for a build. -/
def wellFormed (b : Build) : Instr → Bool
  | .pwrGoodRise _ | .pwrGoodFall | .brownoutRise | .brownoutFall | .coldRst | .flr | .pwrFailWarnRise | .pwrFailWarnFall
  | .quiesced | .bringupFill _ _ _ _ | .assayBaseline _ _ _ | .homeReady | .start | .functionReset | .functionResetDone
  | .tickStrobe _ _ _ | .tickLost _ | .substituteTick _ _ _ | .marginAck _ _ _ | .marginTimeout => true
  | .slotAttention w => decide (w < b.wickets)
  | .mrdata m t _ _ _ _ _ _ _ _ _ | .mcmp m _ _ t _ | .mcred m t _ _ | .memWriteTimeout m t _ _
  | .memReadTimeout m t _ _ => b.hasPort m && b.hasTill t
  | .chstatChange m _ => b.hasPort m
  | .linkDown w _ | .linkUp w _ _ _ | .agentReset w _ | .linkReset w => b.hasWicket w
  | .rdS w _ | .rdX w _ | .rdAny w _ | .rdNc w _ | .own w _ | .drop w _ | .down w _ | .wbI w _ | .wbS w _ | .wbX w _
  | .evc w _ | .conflict w _ | .ncwFull w _ | .ncwPtl w _ | .claimX w _ | .claimS w _ | .release w _ | .rsv w _
  | .cwr w _ | .settle w _ => b.hasWicket w
  | .rspI w _ | .rspS w _ | .rspE w _ | .requestInjection w _ => b.hasWicket w
  | .qFlitAccepted t w | .foreclosedResponse t w | .loanRequest t w => b.hasTill t && b.hasWicket w
  | .vaultLookupDone t _ _ | .folioReadOutDone t _ | .receiptTimeout t _ => b.hasTill t
  | .chainedNotice w t | .completionDelivery w t _ | .snoopDelivery w t | .loanGrant w t | .loanIdle w t
  | .creditReturn w t => b.hasWicket w && b.hasTill t
  | .bucketMapCommit _ | .regionCommit _ => true
  | .bucketMapSwitch n | .regionTableSwitch n => b.hasReplicaAt n
  | .enable f | .disable f => f.inRange
  | .enablingComplete f | .drainComplete f => f.built b
  | .cellarEnable _ | .cellarClearingDone | .preload | .preloadAndLock | .unlock => true
  | .preloadSector t _ | .cellarVisit t _ _ | .scrubRun t _ _ | .foreclosureWalk t _ | .leaveWalk t _
  | .retentiveCleanWalk t _ | .resolutionWalk t _ | .rebuildStep t _ | .copyRun t _ | .salvage t | .retireRow t _ _
  | .handoverSend t | .copyEndSend t | .copyEnd t | .tillWatchdog t => b.hasTill t
  | .switch _ => true
  | .handover w t | .tillDown w t => b.hasWicket w && b.hasTill t
  | .handoverAck t w | .salvageMark t w => b.hasTill t && b.hasWicket w
  | .bankWatchdog t k | .bankArbitration t k _ _ _ _ => b.hasTill t && decide (k < 16)
  | .exchStall n p v => b.hasPosition n && decide (p < 5) && decide (v < 4)
  | .linkFlitError l h _ => b.hasLinkAt l && decide (h < 2)
  | .routeCommit => true
  | .routeMark x y c | .routeMarkAck x y c => (b.nodeAt x).isSome && (b.nodeAt y).isSome && decide (c < 5)
  | .retrain l => decide (l < 128)
  | .retrainDone l _ _ => b.hasLinkAt l
  | .tallySample _ _ | .tallyWindow | .journalRecord | .alarmWindow => true
  | .journalPointer s | .jnDataRead s => decide (s < 4)
  | .ffClear t => decide (t < 18)
  | .countersClear | .lostWritesClear => true
  | .snoopTimeout w _ => b.hasWicket w
  | .grace n | .foreclosureDone n | .quarantineWindow n | .join n | .leave n | .foreclose n | .agentRelease n
  | .agentJoined n | .agentLeft n | .agentCfgWrite n _ => decide (n < 1024)
  | .escrowWrite i j _ => (i == 0x4010 || (decide (0x4400 ≤ i) && decide (i < 0x4800))) && decide (j < 2)
  | .tenantMembersWrite t i _ => decide (t < 64) && decide (i < 16)
  | .slotCtrlWrite w _ => decide (w < 8)
  | .wicketLinkReset w _ => decide (w ≤ 8)
  | .shaperConfigWrite f _ => f.shapes && f.inRange
  | .leaseExpiry t _ | .expiredHold t _ | .claimReleaseDone t _ | .rsvTimeout t _ => b.hasTill t
  | .postDrainDelay e => decide (e < 512)
  | .holdQuiesced | .saveImageWritten | .powerTargetRun | .powerTargetLean | .powerTargetHold | .powerTargetOff
  | .quickCheck _ | .fullSweep _ | .tjSample _ | .ageHours => true
  | .identify _ | .open_ _ | .prove _ | .close _ | .read _ | .write _ | .readRange _ | .writeMulti _ | .journalRead _
  | .tallyRead _ | .counterRead _ | .debugSet _ | .tillHalt _ | .tillResume _ | .rawRead _ | .rawWrite _ | .lockOpen _
  | .lockClose _ | .inject _ | .unquarantine _ | .unknownCommand _ _ => true
  | .proveWindow k | .sessionIdle k => decide (k < 4)
  | .haltMaxTicks t => b.hasTill t
  | .program | .revoke | .keyBlowDone | .provision | .deploy | .retire | .lifecycleChanged => true
  | .segTarget _ | .segDataRead | .segDataWrite _ | .chartWrite _ _ _ => true
  | .tillReset t _ => b.hasTill t
  | .tapInstruction _ => true

end Sys2Proof
end

