-- ==== Sys2Proof/Certificates/Slice0/Obligations.lean ====
section
/-! DEFINITION. The statements for the provers. Each names the rules it formalises; what rests on a choice of the model says
so and names the log entry. -/

open Sys2Proof Sys2Proof.Machine

/-! ## The machine as a whole -/

/-- A command at the front of the queue acts as exec says, on the rest of the queue. -/
def Obligations.FrontCommandActs : Prop :=
  ∀ (c : Instr) (rest : List Instr) (s : State), step { s with pending := c :: rest } = exec c { s with pending := rest }

/-- Every command that is well formed for the build completes; the only stop is a command that names a part the build does
not have (R10, R29, R534). -/
def Obligations.WellFormedCommandsComplete : Prop :=
  ∀ (c : Instr) (s : State),
    (∃ t, exec c s = .next t) ∨ (wellFormed s.build c = false ∧ exec c s = .fault .unbuiltPart)

/-- With no command waiting, one CCLK passes, unless power is down or the Home is Off (the model's choice: log entry 1). -/
def Obligations.IdleStepPassesOneCycle : Prop :=
  ∀ s : State, s.pending = [] →
    ((s.boot = .off ∨ s.power.state = 3) → step s = .next s) ∧
    ((s.boot ≠ .off ∧ s.power.state ≠ 3) →
      ∃ t, step s = .next t ∧ t.time.cclk = s.time.cclk + 1 ∧ t.time.tick = s.time.tick ∧ t.agents = s.agents)

/-- What a cold reset leaves (R32, R306, R307, R423, R454): no agent, no Folio, no Cellar, Tick count 0, the first Tills of
the build active and the others spare, every way on, no session, and a Chart that is unavailable. -/
def Obligations.ColdResetState : Prop :=
  let s := State.reset
  s.agents = [] ∧ s.time.tick = 0 ∧ s.cellarState = 0 ∧ s.lost = [] ∧ s.fatal = false ∧ s.interleaveLocked = false
    ∧ (∀ t, t < 16 → (s.till t).role = .active) ∧ (s.till 16).role = .spare ∧ (s.till 17).role = .spare
    ∧ (∀ t, t < 18 → (s.till t).folios = [] ∧ (s.till t).claims = [])
    ∧ s.sec.level = 0 ∧ (∀ x ∈ s.sec.sessions, x.live = false) ∧ s.power.state = 0 ∧ s.chartUp = false ∧ s.out = []

/-- The invariant holds after a cold reset. -/
def Obligations.ResetMeetsInvariant : Prop := State.reset.Inv

/-- Every step keeps the invariant: the parts keep their numbers, the plain Chart entries their canonical form, and the
lifecycle (R462), the power state (R423) and GLOBAL_STATE (R454) a code of their tables. -/
def Obligations.StepKeepsInvariant : Prop := ∀ s t : State, s.Inv → step s = .next t → t.Inv
/-- The commands that may change the Tick count, GLOBAL_STATE, FATAL or READY's lock. -/
def movesGlobal : Instr → Bool
  | .pwrGoodRise _ | .pwrGoodFall | .brownoutRise | .brownoutFall | .coldRst | .bringupFill _ _ _ _ | .homeReady
  | .exchStall _ _ _ | .linkFlitError _ _ _ | .tickStrobe _ _ _ | .tickLost _ | .substituteTick _ _ _ => true
  | _ => false
/-- No command changes the queue; OTP and the lifecycle change only under R375, R415, R461 and R462 (R532); GLOBAL_STATE, FATAL
and the Tick count only at their events (R53 to R55, R404, R454, R455); and the input levels and the save image only at the
events of R430, R431, R516, R528, R529 and R533. -/
def Obligations.OnlyTheirEventsMove : Prop :=
  (∀ (c : Instr) (s t : State), exec c s = .next t → t.pending = s.pending) ∧
  (∀ (c : Instr) (s t : State), exec c s = .next t →
      (t.fuses ≠ s.fuses → (∃ a b r, c = .retireRow a b r) ∨ c = .ageHours ∨ c = .keyBlowDone ∨ c = .lifecycleChanged)
        ∧ (t.fuses.lifecycle ≠ s.fuses.lifecycle → c = .lifecycleChanged ∧ s.sec.lifeBlow = some t.fuses.lifecycle)) ∧
  (∀ (c : Instr) (s t : State), exec c s = .next t → movesGlobal c = false →
      t.global = s.global ∧ t.fatal = s.fatal ∧ t.time.tick = s.time.tick ∧ t.interleaveLocked = s.interleaveLocked) ∧
  (∀ (c : Instr) (s t : State), exec c s = .next t →
      (t.pins ≠ s.pins → (∃ r, c = .pwrGoodRise r) ∨ c = .pwrGoodFall ∨ c = .brownoutRise ∨ c = .brownoutFall ∨ c = .coldRst
          ∨ c = .pwrFailWarnRise ∨ c = .pwrFailWarnFall ∨ c = .quiesced)
        ∧ (t.chstat ≠ s.chstat → ∃ m l, c = .chstatChange m l)
        ∧ (t.image ≠ s.image → c = .saveImageWritten ∨ c = .homeReady)
        ∧ (t.tap ≠ s.tap → ∃ n, c = .tapInstruction n))

/-- The commands that change neither the Agent Table, nor the ways, nor the state and locks of the Cellar, nor the record of
START and of a function reset. -/
def leavesRegistry : Instr → Bool
  | .pwrFailWarnRise | .quiesced | .assayBaseline _ _ _ | .tickStrobe _ _ _ | .tickLost _ | .substituteTick _ _ _
    | .marginTimeout | .mrdata _ _ _ _ _ _ _ _ _ _ _ | .mcmp _ _ _ _ _ | .mcred _ _ _ _ | .chstatChange _ _
    | .memWriteTimeout _ _ _ _ | .memReadTimeout _ _ _ _ | .rdS _ _ | .rdX _ _ | .rdAny _ _ | .rdNc _ _ | .own _ _
    | .drop _ _ | .down _ _ | .wbI _ _ | .wbS _ _ | .wbX _ _ | .evc _ _ | .conflict _ _ | .ncwFull _ _ | .ncwPtl _ _
    | .claimX _ _ | .claimS _ _ | .release _ _ | .rsv _ _ | .cwr _ _ | .settle _ _ | .requestInjection _ _
    | .qFlitAccepted _ _ | .vaultLookupDone _ _ _ | .folioReadOutDone _ _ | .chainedNotice _ _
    | .completionDelivery _ _ _ | .snoopDelivery _ _ | .foreclosedResponse _ _ | .loanRequest _ _ | .loanGrant _ _
    | .loanIdle _ _ | .creditReturn _ _ | .receiptTimeout _ _ | .bucketMapSwitch _ | .regionTableSwitch _
    | .preloadSector _ _ | .cellarVisit _ _ _ | .scrubRun _ _ _ | .foreclosureWalk _ _ | .leaveWalk _ _
    | .retentiveCleanWalk _ _ | .resolutionWalk _ _ | .rebuildStep _ _ | .copyRun _ _ | .switch _ | .retireRow _ _ _
    | .handoverSend _ | .copyEndSend _ | .handover _ _ | .handoverAck _ _ | .copyEnd _ | .tillDown _ _
    | .salvageMark _ _ | .tillWatchdog _ | .bankWatchdog _ _ | .bankArbitration _ _ _ _ _ _ | .linkFlitError _ _ _
    | .routeMark _ _ _ | .routeMarkAck _ _ _ | .retrainDone _ _ _ | .tallySample _ _ | .tallyWindow | .journalRecord
    | .alarmWindow | .journalPointer _ | .leaseExpiry _ _ | .expiredHold _ _ | .claimReleaseDone _ _ | .rsvTimeout _ _
    | .postDrainDelay _ | .holdQuiesced | .saveImageWritten | .quickCheck _ | .fullSweep _ | .tjSample _ | .ageHours
    | .proveWindow _ | .sessionIdle _ | .haltMaxTicks _ | .keyBlowDone | .lifecycleChanged | .tapInstruction _ => true
  | _ => false

/-- The commands that change none of those, nor the Bucket Map and Region table, the shapers of the agents, the lost-write
table, the Auditor's work or the transfers. -/
def leavesMaps : Instr → Bool
  | .pwrFailWarnRise | .quiesced | .assayBaseline _ _ _ | .marginTimeout | .chstatChange _ _ | .rdS _ _ | .rdX _ _
    | .rdAny _ _ | .rdNc _ _ | .own _ _ | .drop _ _ | .down _ _ | .wbI _ _ | .wbS _ _ | .wbX _ _ | .evc _ _
    | .conflict _ _ | .ncwFull _ _ | .ncwPtl _ _ | .claimX _ _ | .claimS _ _ | .release _ _ | .rsv _ _ | .cwr _ _
    | .settle _ _ | .snoopDelivery _ _ | .loanGrant _ _ | .loanIdle _ _ | .creditReturn _ _ | .handover _ _
    | .tillDown _ _ | .salvageMark _ _ | .bankWatchdog _ _ | .bankArbitration _ _ _ _ _ _ | .linkFlitError _ _ _
    | .routeMark _ _ _ | .routeMarkAck _ _ _ | .retrainDone _ _ _ | .tallySample _ _ | .tallyWindow | .journalRecord
    | .alarmWindow | .journalPointer _ | .rsvTimeout _ _ | .postDrainDelay _ | .holdQuiesced | .saveImageWritten
    | .tjSample _ | .ageHours | .proveWindow _ | .tapInstruction _ => true
  | _ => false
/-- A request, a response, a port answer, a walk, a boundary of the strobe and an Exchange event leave the Agent Table (R280),
the ways (R207), CELLAR_STATE and CELLAR_GENERATION (R215), the RWL locks (R434), the segment in SEG_TARGET (R445), the
function reset (R456) and the seen START (R455) as they are. The admission of a request, the Tally and Journal commands, the
credits and the loans leave the live and shadow Bucket Map and Region table (R47, R49), the agents' shapers (R351), the
lost-write table (R272), the Auditor's walks and the transfers (R386) as they are. -/
def Obligations.TrafficLeavesTables : Prop :=
  (∀ (c : Instr) (s t : State), leavesRegistry c = true → exec c s = .next t →
      t.agents = s.agents ∧ t.ways = s.ways ∧ t.cellarState = s.cellarState ∧ t.cellarGen = s.cellarGen
        ∧ t.cellarLocked = s.cellarLocked ∧ t.saveLocked = s.saveLocked ∧ t.seg = s.seg ∧ t.inReset = s.inReset
        ∧ t.startSeen = s.startSeen) ∧
  (∀ (c : Instr) (s t : State), leavesMaps c = true → exec c s = .next t →
      t.maps = s.maps ∧ t.shapes = s.shapes ∧ t.lost = s.lost ∧ t.au = s.au ∧ t.transfers = s.transfers
        ∧ t.cellarFloor = s.cellarFloor ∧ t.agents = s.agents ∧ t.ways = s.ways)

/-! ## Power, resets and the warning -/
/-- PWR_GOOD and BROWNOUT (R528, R306): a rise with the other supply good starts a cold bring-up with RESET_CAUSE 0, and RESUME
is sampled at the rise of PWR_GOOD; a fall, or a rise of BROWNOUT, abandons every state. COLD_RST_N (R528): the pulse ends in a
cold bring-up with RESET_CAUSE 1. The power-fail warning (R529): a rise counts in PWR_FAIL_WARNINGS, and QUIESCE_STATE reads
QUIESCING; with the posting buffer empty and every Folio retired it reads QUIESCED; the fall returns it to NONE. That a warning
in Off counts nothing is the model's reading. -/
def Obligations.PowerEventsAndWarning : Prop :=
  (∀ (s : State) (resume : Bool),
      (s.pins.pwrGood = false → s.pins.brownout = false →
        Completes (.pwrGoodRise resume) s (fun t => t.boot = .filling ∧ t.resetCause = 0 ∧ t.resuming = resume
          ∧ t.pins.pwrGood = true ∧ t.chartUp = false ∧ Erased s t)) ∧
      (s.pins.pwrGood = false → s.pins.brownout = true →
        Completes (.pwrGoodRise resume) s (fun t => t.boot = .off ∧ t.pins.pwrGood = true ∧ Erased s t)) ∧
      (s.pins.pwrGood = true →
        Completes .pwrGoodFall s (fun t => t.boot = .off ∧ t.pins.pwrGood = false ∧ t.chartUp = false ∧ Erased s t)) ∧
      (s.pins.brownout = false →
        Completes .brownoutRise s (fun t => t.boot = .off ∧ t.pins.brownout = true ∧ t.chartUp = false ∧ Erased s t)) ∧
      (s.pins.brownout = true → s.pins.pwrGood = true →
        Completes .brownoutFall s (fun t => t.boot = .filling ∧ t.resetCause = 0 ∧ t.resuming = false
          ∧ t.pins.brownout = false ∧ Erased s t)) ∧
      (s.pins.brownout = true → s.pins.pwrGood = false →
        Completes .brownoutFall s (fun t => t.boot = .off ∧ t.pins.brownout = false ∧ Erased s t))) ∧
  (∀ s : State, s.pins.pwrGood = true → s.pins.brownout = false →
      Completes .coldRst s (fun t => t.boot = .filling ∧ t.resetCause = 1 ∧ t.resuming = false ∧ t.chartUp = false
        ∧ t.pins.pwrGood = true ∧ t.pins.brownout = false ∧ Erased s t)) ∧
  (∀ s : State,
      (s.Inv → s.pins.warn = false → s.boot ≠ .off → s.power.state ≠ 3 →
        Completes .pwrFailWarnRise s (fun t => t.pins.warn = true ∧ t.pins.quiesceState = 1
          ∧ t.rawN 0x8080 0 = (s.rawN 0x8080 0 + 1) % 2 ^ 32 ∧ t.tills = s.tills ∧ t.ws = s.ws ∧ t.power = s.power)) ∧
      (s.pins.warn = true → s.ws.post = [] → s.anyFolio = false →
        Completes .quiesced s (fun t => t = { s with pins := { s.pins with quiesceState := 2 } })) ∧
      (s.power.deferred = [] →
        Completes .pwrFailWarnFall s (fun t => t = { s with pins := { s.pins with warn := false, quiesceState := 0 } })))
/-- The end of the bring-up fill (R380, R454, R455, R531): CH is released, GLOBAL_STATE reads CONFIG, and AUTO_START counts as
START; a bring-up without RESUME, or with an image that fails its checks, goes on cold. The Assay baseline (R414, R531): an
answered margin request sets the service CCLK, an unanswered one leaves 1,200 MHz and writes the Alarm MARGIN_NO_ACK; either
way the baseline is complete. READY (R455): at the later of the baseline and START, GLOBAL_STATE reads READY, the RWL entries
lock, and a record HOME_READY is written; a START in CONFIG counts, and one in READY or FATAL does nothing to that. -/
def Obligations.BringUpReachesReady : Prop :=
  (∀ (s : State) (crcOk v : Bool) (ptm : Word), s.Inv → s.boot = .filling →
      (s.resuming = false →
        Completes (.bringupFill [] crcOk ptm v) s (fun t => t.boot = .released ∧ t.global = 1 ∧ t.startSeen = s.fuses.autoStart
          ∧ t.rawN 0x8051 3 = 1 ∧ t.agents = s.agents ∧ t.tills = s.tills ∧ t.resetCause = s.resetCause)) ∧
      (s.resuming = true → s.imageGood crcOk = false →
        Completes (.bringupFill [] crcOk ptm v) s (fun t => t.boot = .released ∧ t.global = 1 ∧ t.resuming = false
          ∧ t.rawN 0x8051 3 = 2 ∧ t.agents = s.agents ∧ t.tills = s.tills ∧ t.resetCause = s.resetCause)) ∧
      (∀ i, s.resuming = true → s.imageGood crcOk = true → s.image = some i →
        Completes (.bringupFill [] crcOk ptm v) s (fun t => t.boot = .released ∧ t.global = 1 ∧ t.resuming = true
          ∧ t.resetCause = 2 ∧ t.maps = i.maps ∧ t.ways = i.ways ∧ t.lost = i.lost ∧ t.chart = i.chart
          ∧ t.sec.quarantine = i.sec.2.1))) ∧
  (∀ (s : State) (m : Measure) (mhz : Nat), s.boot = .released → s.assay.baselineDone = false → s.mhzLegal mhz = true →
      Completes (.assayBaseline m mhz true) s (fun t => t.assay.baselineDone = true ∧ t.assay.mhz = mhz ∧ t.assay.req = none) ∧
      Completes (.assayBaseline m mhz false) s (fun t => t.assay.baselineDone = true ∧ t.assay.mhz = s.assay.mhz
        ∧ t.assay.req = none ∧ Reports s t 0x10D)) ∧
  (∀ s : State,
      (s.boot = .released → s.global = 1 → s.assay.baselineDone = true → s.startSeen = true →
        Completes .homeReady s (fun t => t.global = 2 ∧ t.interleaveLocked = true ∧ Reports s t 0x202 ∧ t.boot = .released)) ∧
      (s.windowOpen → s.global = 1 → Completes .start s (fun t => t.startSeen = true ∧ t.global = 1)) ∧
      (s.windowOpen → s.global ≠ 1 → Completes .start s (fun t => t.startSeen = s.startSeen ∧ t.global = s.global)))

/-- A function reset (R306, R307, R456, R470), from FLR or GLOBAL_CMD: the Chart is unavailable until it ends; sessions and
the debug level end; what coherence holds stays; FUNCTION_RESETS counts it. With the debug level at Intrude, halted Tills
resume at once, so what they hold may go on. -/
def Obligations.FunctionResetKeepsService : Prop :=
  ∀ s : State, s.Inv → s.boot = .released → s.inReset = false →
    Completes .flr s (fun t => t.inReset = true ∧ t.chartUp = false ∧ t.global = s.global ∧ t.time.tick = s.time.tick
      ∧ t.fuses = s.fuses) ∧
    (s.sec.level ≠ 2 →
      Completes .flr s (fun t => t.inReset = true ∧ t.sec.level = 0 ∧ (∀ x ∈ t.sec.sessions, x.live = false)
        ∧ t.rawN 0x1100 5 = (s.rawN 0x1100 5 + 1) % 2 ^ 32 ∧ t.maps.bLive = s.maps.bLive ∧ t.maps.rLive = s.maps.rLive
        ∧ t.lost = s.lost ∧ t.cellarState = s.cellarState ∧ t.ws = s.ws ∧ t.out = s.out
        ∧ t.journal.ff = s.journal.ff ∧ t.sec.quarantine = s.sec.quarantine
        ∧ (∀ k, (t.till k).folios = (s.till k).folios ∧ (t.till k).vault = (s.till k).vault
          ∧ (t.till k).claims = (s.till k).claims))) ∧
    (s.windowOpen → Completes .functionReset s (fun t => t.inReset = true ∧ t.chartUp = false ∧ t.global = s.global
      ∧ t.time.tick = s.time.tick)) ∧
    (s.power.state ≠ 3 → Completes .functionResetDone { s with inReset := true } (fun t => t = s ∧ t.chartUp = true))

/-! ## The Tally and the Journal -/
/-- TY takes the oldest sample (R482, R484): an open window gains it with saturating MIN, MAX, SUM and COUNT; a sample that
finds the FIFO full is dropped and counted. A sweep (R485): every channel is swept for the oldest boundary not yet swept,
WIN_NUMBER follows, and TALLY_WINDOWS counts the sweep. -/
def Obligations.TallyTakesSamplesAndSweeps : Prop :=
  (∀ (s : State) (x : Sample) (rest : List Sample) (lat : Nat), s.tally.inbox = x :: rest →
      (chanTakes (s.chan x.chan).cfg x.measure x.filter = true →
        Completes (.tallySample lat false) s (fun t =>
          let v := x.value.getD lat
          let o := (s.chan x.chan).cur
          let n := (t.chan x.chan).cur
          t.tally.inbox = rest ∧ n.count = min (o.count + 1) (2 ^ 32 - 1) ∧ n.sum = min (o.sum + v) (2 ^ 64 - 1)
            ∧ n.max = max o.max (min v (2 ^ 32 - 1))
            ∧ n.min = (if o.count = 0 then min v (2 ^ 32 - 1) else min o.min (min v (2 ^ 32 - 1)))
            ∧ (∀ b, KV.wf o.hist = true → KV.get n.hist b 0 =
                if b = binOf (v >>> chanShift (s.chan x.chan).cfg) then min (KV.get o.hist b 0 + 1) (2 ^ 32 - 1)
                else KV.get o.hist b 0)
            ∧ t.chart = s.chart ∧ t.journal = s.journal ∧ t.out = s.out)) ∧
      (s.Inv → Completes (.tallySample lat true) s (fun t => t.tally.inbox = rest
        ∧ t.rawN 0xB800 1 = (s.rawN 0xB800 1 + 1) % 2 ^ 64 ∧ t.journal = s.journal ∧ t.out = s.out))) ∧
  (∀ (s : State) (k : Nat) (rest : List Nat), s.Inv → s.tally.due = k :: rest →
      Completes .tallyWindow s (fun t => t.tally.due = rest ∧ t.tally.lastNum = s.tally.curNum
        ∧ t.tally.curNum = k / max 1 (s.rawN 0xB800 0) ∧ t.rawN 0xB800 2 = (s.rawN 0xB800 2 + 1) % 2 ^ 64
        ∧ t.tally.chans = sweepChans s.build s.tally.held s.tally.chans
        ∧ (∀ c x, s.tally.held = false → s.tally.chans = [(c, x)] →
            (t.chan c).last = x.cur ∧ (t.chan c).cur.count = 0 ∧ (t.chan c).cfg = x.pending.getD x.cfg)
        ∧ t.tally.inbox = s.tally.inbox ∧ t.journal = s.journal ∧ t.out = s.out))
/-- JN receives an Event record (R493, R495, R496, R502): it is stored whole behind the others with the next SEQ, takes one
token, and pulses the notice output; without a token, or where the stream is not ON, it is dropped as policed and the banks
stay as they are. An alarm period ends (R497): each cause with a repeat count begins the new period with a count of 0, and the
others are forgotten; without a repeated cause nothing is offered. -/
def Obligations.JournalStoresAndPolices : Prop :=
  (∀ (s : State) (r : JRec) (rest : List JRec), s.Inv → s.inReset = false → s.journal.inbox = r :: rest → r.stream = 2 →
      let x := s.stream 2
      (x.fn.st = .on → x.tokens ≠ 0 → x.drops.policed + x.drops.full = 0 → bankBytes x.fill + r.bytes ≤ 16384 - 64 →
        Completes .journalRecord s (fun t => t.journal.inbox = rest ∧ (t.stream 2).fill = x.fill ++ [{ r with seq := x.seq }]
          ∧ (t.stream 2).seq = (x.seq + 1) % 2 ^ 32 ∧ (t.stream 2).tokens = x.tokens - 1 ∧ t.out = s.out ++ [.notice 2]
          ∧ t.tally = s.tally)) ∧
      (x.fn.st ≠ .on ∨ x.tokens = 0 →
        Completes .journalRecord s (fun t => t.journal.inbox = rest ∧ (t.stream 2).fill = x.fill ∧ (t.stream 2).drain = x.drain
          ∧ (t.stream 2).seq = x.seq ∧ (t.stream 2).drops.policed = x.drops.policed + 1 ∧ t.out = s.out))) ∧
  (∀ (s : State) (k : Nat) (rest : List Nat), s.journal.alarmDue = k :: rest →
      Completes .alarmWindow s (fun t => t.journal.alarmDue = rest
        ∧ t.journal.causes.map (fun c => (c.code, c.src)) =
            (s.journal.causes.filter (fun c => c.count != 0)).map (fun c => (c.last.code, c.last.src))
        ∧ (∀ c ∈ t.journal.causes, c.count = 0)
        ∧ ((∀ c ∈ s.journal.causes, c.count = 0) → t.journal.streams = s.journal.streams ∧ t.out = s.out)))
/-- Duplicated stream pointers that differ (R501): the stream's banks are empty, its pointers 0, its records counted as full
drops, and SEQ goes on. Stated for the streams other than Fault, which JOURNAL_POINTER itself enters. A read of JN_DATA while
the stream is empty returns the last word returned on either path and sets UNDERRUN (R500). -/
def Obligations.JournalPointersAndEmptyReads : Prop :=
  (∀ (s : State) (k : Nat), s.Inv → 0 < k → k < 4 →
      Completes (.journalPointer k) s (fun t => (t.stream k).fill = [] ∧ (t.stream k).drain = [] ∧ (t.stream k).wptr = 0
        ∧ (t.stream k).rptr = 0 ∧ (t.stream k).seq = (s.stream k).seq
        ∧ (t.stream k).drops.full = (s.stream k).drops.full + ((s.stream k).fill ++ (s.stream k).drain).length
        ∧ t.rawN (0xC000 + k) 0xA = (s.rawN (0xC000 + k) 0xA + 1) % 2 ^ 32)) ∧
  (∀ (s : State) (k : Nat), s.Inv → s.chartUp = true → k < 3 → (s.stream k).fill = [] → (s.stream k).drain = [] →
      Completes (.jnDataRead k) s (fun t => Sends s t (.windowRead (s.stream k).lastWord) ∧ (t.stream k).underrun = true
        ∧ (t.stream k).fill = [] ∧ (t.stream k).drain = [] ∧ (t.stream k).lastWord = (s.stream k).lastWord))

/-- The clears by firmware: FF_CLEAR frees a Till's first-fault registers and its FF_MISSED (R503), COUNTERS_CLEAR zeroes
every programmable counter value (R487), and LOST_WRITES_CLEAR the lost-write table (R272). -/
def Obligations.FirmwareClears : Prop :=
  ∀ s : State, s.Inv → s.windowOpen →
    (∀ n, s.build.hasTill n = true →
      Completes (.ffClear n) s (fun t => t.journal = { s.journal with ff := KV.del s.journal.ff n }
        ∧ t.rawN (0xC040 + n) 0x11 = 0)) ∧
    Completes .countersClear s (fun t =>
      (∀ i j, ((0xB600 ≤ i ∧ i < 0xB612) ∨ i = 0xB700) → j < 0x40 → t.rawN i j = 0) ∧ t.tally = s.tally
        ∧ t.journal = s.journal) ∧
    Completes .lostWritesClear s (fun t => t.lost = [] ∧ t.tills = s.tills ∧ t.out = s.out ∧ t.journal = s.journal)

/-! ## The common control -/

/-- The table of R62: what ENABLE, DISABLE, the end of enabling, the end of a drain and a fault make of a function's state,
its pending flags and LAST_RESULT (R61), and whether a step starts. -/
def Obligations.CommonControlTable : Prop :=
  ∀ x : Fn,
    (x.st = .off → x.enable = ({ x with st := .enabling, last := 0 }, .enabling) ∧ x.disable = ({ x with last := 0 }, .nothing)) ∧
    (x.st = .enabling → x.enable = ({ x with pendDis := false, last := 0 }, .nothing)
      ∧ x.disable = ({ x with pendDis := true, last := 0 }, .nothing)
      ∧ (x.pendDis = true → x.enabled = ({ x with st := .draining, pendDis := false }, .drain))
      ∧ (x.pendDis = false → x.enabled = ({ x with st := .on }, .nothing))) ∧
    (x.st = .on → x.enable = ({ x with last := 0 }, .nothing) ∧ x.disable = ({ x with st := .draining, last := 0 }, .drain)) ∧
    (x.st = .draining → x.enable = ({ x with pendEn := true, last := 0 }, .nothing)
      ∧ x.disable = ({ x with pendEn := false, last := 0 }, .nothing)
      ∧ (x.pendEn = true → x.drained = ({ x with st := .enabling, pendEn := false }, .enabling))
      ∧ (x.pendEn = false → x.drained = ({ x with st := .off }, .nothing))) ∧
    (x.st = .failed → x.enable = ({ x with last := 2 }, .nothing) ∧ x.disable = ({ x with last := 0 }, .nothing)) ∧
    x.fault = { x with st := .failed, pendDis := false, pendEn := false }
/-- ENABLE and DISABLE through the Chart window (R60, R62): the function's state follows the table of R62, for every function
of the build; a Till in the copy phase and the other exceptions of R64, R384 and R502 have their own statements. The state is
read where the write starts no drain of a Till or a Wicket; those drains are the shared operation the statement names. The
control of a shaper (R60, R62, R351): the window writes it as the table gives; its steps end in the Tick (R356). -/
def Obligations.FunctionsFollowControlTable : Prop :=
  (∀ (s : State) (f : Func), s.Inv → s.windowOpen → funcBuilt s.build f = true → s.power.state < 4 → isShaper f = false →
      (s.refusal f true = none →
        Completes (.enable f) s (fun t => t.fn f = (s.fn f).enable.1 ∧ t.transfers = s.transfers ∧ t.lost = s.lost)) ∧
      (s.refusal f false = none → (s.fn f).st ≠ .on →
        Completes (.disable f) s (fun t => t.fn f = (s.fn f).disable.1 ∧ t.transfers = s.transfers ∧ t.out = s.out)) ∧
      (s.refusal f false = none → (s.fn f).st = .on → (∀ w, f ≠ .way w) →
        exec (.disable f) s =
          .next (applied (startDrain ((s.gev 0x10C).setFn f { s.fn f with st := .draining, last := 0 }) f))) ∧
      (∀ w, f = .way w → (s.fn f).st = .on →
        exec (.disable f) s = .next (applied (powerProgress
          (startDrain ((s.gev 0x10C).setFn f { s.fn f with st := .draining, last := 0 }) f))))) ∧
  (∀ (s : State) (f : Func), s.windowOpen → funcBuilt s.build f = true → isShaper f = true →
      exec (.enable f) s = .next (applied ((s.gev 0x10C).setFn f (s.fn f).enable.1)) ∧
      exec (.disable f) s = .next (applied ((s.gev 0x10C).setFn f (s.fn f).disable.1)) ∧
      (s.power.state < 4 → exec (.enablingComplete f) s = .next s ∧ exec (.drainComplete f) s = .next s))

/-- An ENABLE aimed at a Till in the copy phase of a transfer is refused: LAST_RESULT reads BUSY, the state does not change,
and no pending flag is set (R64). -/
def Obligations.EnableInCopyPhaseIsBusy : Prop :=
  ∀ (s : State) (n : Nat) (x : Transfer), s.Inv → s.windowOpen → s.build.hasTill n = true → x ∈ s.transfers →
    x.planned = true → x.state = 1 → (x.src = n ∨ x.dst = n) →
    Completes (.enable (.till n)) s (fun t => t.fn (.till n) = { s.fn (.till n) with last := 1 } ∧ t.transfers = s.transfers
      ∧ t.maps = s.maps ∧ t.out = s.out)

/-- The ends of enabling and of a drain (R62, R384, R502): a way, a stream or a Wicket that was enabling is ON, or drains where
a DISABLE waited; an enabled Till is SPARE with its storage filled; a stream whose banks are empty ends its drain OFF, and so
does a way that holds no entry. -/
def Obligations.StepEndsFollowTable : Prop :=
  ∀ s : State, s.Inv → s.transfers = [] → s.power.state < 4 →
    (∀ w, w < 16 → (s.fn (.way w)).st = .enabling → (s.fn (.way w)).pendDis = false →
      Completes (.enablingComplete (.way w)) s (fun t => t.fn (.way w) = { s.fn (.way w) with st := .on })) ∧
    (∀ k, k < 4 → (s.fn (.stream k)).st = .enabling → (s.fn (.stream k)).pendDis = false →
      Completes (.enablingComplete (.stream k)) s (fun t => t.fn (.stream k) = { s.fn (.stream k) with st := .on })) ∧
    (∀ w, s.build.hasWicket w = true → (s.fn (.wicket w)).st = .enabling → (s.fn (.wicket w)).pendDis = false →
      Completes (.enablingComplete (.wicket w)) s (fun t => t.fn (.wicket w) = { s.fn (.wicket w) with st := .on }
        ∧ t.agents = s.agents)) ∧
    (∀ n, s.build.hasTill n = true → (s.till n).fn.st = .enabling → (s.till n).fn.pendDis = false →
      Completes (.enablingComplete (.till n)) s (fun t => (t.till n).fn.st = .on ∧ (t.till n).role = .spare
        ∧ (t.till n).vault = [] ∧ (t.till n).folios = [])) ∧
    (∀ k, 0 < k → k < 4 → (s.fn (.stream k)).st = .draining → (s.fn (.stream k)).pendEn = false →
      (s.stream k).fill = [] → (s.stream k).drain = [] →
      Completes (.drainComplete (.stream k)) s (fun t => t.fn (.stream k) = { s.fn (.stream k) with st := .off })) ∧
    (∀ k, 0 < k → k < 4 → (s.fn (.stream k)).st = .draining → ((s.stream k).fill ≠ [] ∨ (s.stream k).drain ≠ []) →
      Completes (.drainComplete (.stream k)) s (fun t => t = s))

/-! ## Power states, margin requests, measurements -/
/-- The answer to a margin request (R419, R426, R428, R430): the granted values stand, MARGIN_LAST reports them, and the
transition that waited goes on; an answer with another REQ_ID is ignored. A margin request without an answer in MARGIN_TIMEOUT
(R419): MARGIN_NO_ACK, MARGIN_NACKS, the plan is abandoned and the previous values stand. That a transition sends its request
again is the model's choice (log entry 32). -/
def Obligations.MarginRequestsEnd : Prop :=
  (∀ (s : State) (r : MarginReq) (id : BitVec 8) (mv : BitVec 14) (mhz : BitVec 12), s.Inv → s.assay.req = some r →
      s.power.pending = none → s.power.deferred = [] →
      (r.id ≠ id.toNat → exec (.marginAck id mv mhz) s = .next s) ∧
      (r.id = id.toNat → r.why = 1 → s.power.state = 6 →
        Completes (.marginAck id mv mhz) s (fun t => t.power.state = 2 ∧ t.power.heldMv = mv.toNat ∧ t.assay.req = none
          ∧ t.assay.vdd = s.assay.vdd ∧ t.agents = s.agents ∧ t.ways = s.ways ∧ t.cellarState = s.cellarState)) ∧
      (r.id = id.toNat → r.why = 1 → s.power.state = 7 →
        Completes (.marginAck id mv mhz) s (fun t => t.power.state = 7 ∧ t.power.saving = true ∧ t.assay.req = none)) ∧
      (r.id = id.toNat → r.why = 2 →
        Completes (.marginAck id mv mhz) s (fun t => t.power.state = 3 ∧ t.chartUp = false ∧ t.assay.req = none)) ∧
      (r.id = id.toNat → r.why = 3 →
        Completes (.marginAck id mv mhz) s (fun t => t.power.state = s.power.from_ ∧ t.assay.vdd = mv.toNat
          ∧ t.assay.mhz = mhz.toNat ∧ t.assay.req = none)) ∧
      (r.id = id.toNat → r.why = 0 → s.assay.plan = none →
        Completes (.marginAck id mv mhz) s (fun t => t.assay.vdd = mv.toNat ∧ t.assay.mhz = mhz.toNat ∧ t.assay.req = none
          ∧ (mv.toNat < r.mv ∨ mhz.toNat < r.mhz → Reports s t 0x10C)))) ∧
  (∀ (s : State) (r : MarginReq), s.Inv → s.assay.req = some r →
      (s.due r.tick (s.rawN 0x8060 0) = false → exec .marginTimeout s = .next s) ∧
      (s.due r.tick (s.rawN 0x8060 0) = true →
        Completes .marginTimeout s (fun t => Reports s t 0x10D ∧ t.rawN 0x8060 2 = (s.rawN 0x8060 2 + 1) % 2 ^ 32
          ∧ t.assay.plan = none ∧ t.assay.vdd = s.assay.vdd ∧ t.assay.mhz = s.assay.mhz ∧ t.power = s.power
          ∧ (r.why = 0 → t.assay.req = none))))

/-- POWER_TARGET (R424 to R426, R429): the target starts its transition, is refused with the result of its condition, or is
recorded while a transition runs. -/
def Obligations.PowerTargetStartsTransition : Prop :=
  ∀ s : State, s.Inv → s.windowOpen →
    (4 ≤ s.power.state →
      (∀ c v, (c, v) ∈ [(Instr.powerTargetRun, 0), (.powerTargetLean, 1), (.powerTargetHold, 2), (.powerTargetOff, 3)] →
        Completes c s (fun t => t.power.pending = some v ∧ t.power.result = 0 ∧ t.power.state = s.power.state))) ∧
    (s.power.state = 0 → s.leanEmpty = true →
      Completes .powerTargetLean s (fun t => t.power.result = 1 ∧ t.power.state = 0 ∧ t.ways = s.ways)) ∧
    (s.power.state = 0 → s.leanEmpty = false → s.leanWays ≠ [] →
      Completes .powerTargetLean s (fun t => t.power.result = 0 ∧ t.power.state = 4 ∧ t.power.parked = s.leanWays
        ∧ ∀ w ∈ s.leanWays, (t.fn (.way w)).st = .draining)) ∧
    (s.power.state = 1 → s.power.parked ≠ [] → (∀ w ∈ s.power.parked, w < 16 ∧ (s.fn (.way w)).st = .off) →
      Completes .powerTargetRun s (fun t => t.power.result = 0 ∧ t.power.state = 5
        ∧ ∀ w ∈ s.power.parked, (t.fn (.way w)).st = .enabling)) ∧
    (s.power.state ≤ 1 → s.holdBusy = true →
      Completes .powerTargetHold s (fun t => t.power.result = 1 ∧ t.power.state = s.power.state)) ∧
    (s.power.state ≤ 1 → s.holdBusy = false →
      Completes .powerTargetHold s (fun t => t.power.result = 0 ∧ t.power.state = 6 ∧ t.power.from_ = s.power.state
        ∧ t.power.parked = s.power.parked ∧ t.ways = s.ways ∧ t.out = s.out)) ∧
    (s.power.state ≤ 1 → s.offResult ≠ 0 →
      Completes .powerTargetOff s (fun t => t.power.result = s.offResult ∧ t.power.state = s.power.state)) ∧
    (s.power.state ≤ 1 → s.offResult = 0 → s.sec.level ≠ 2 →
      Completes .powerTargetOff s (fun t => t.power.result = 0 ∧ t.power.state = 7
        ∧ (∀ x ∈ t.sec.sessions, x.live = false) ∧ t.sec.level = 0))
/-- Off is accepted only with the save area enabled, no claim-table entry in use and no agent Foreclosing (R429): POWER_RESULT
is INVALID without SAVE_EN and DENIED with a Claim in use. Hold entry goes on once nothing runs (R426), and Off entry once the
save image is written (R430): a RETENTION request with RET_MV, and a POWER_OFF request with OFF_READY. -/
def Obligations.HoldAndOffEntry : Prop :=
  (∀ s : State,
      (s.offResult = 0 → s.rawN 0x8051 1 = 1 ∧ (∀ u ∈ s.tills, u.claims = []) ∧ (∀ p ∈ s.agents, p.2.state ≠ .foreclosing)) ∧
      ((∃ u ∈ s.tills, u.claims ≠ []) → s.offResult = 2) ∧
      ((∃ p ∈ s.agents, p.2.state = .foreclosing) → s.offResult = 2) ∧
      ((∀ p ∈ s.agents, p.2.state = .absent ∨ p.2.state = .quarantined) → (∀ u ∈ s.tills, u.claims = []) →
        s.rawN 0x8051 1 ≠ 1 → s.offResult = 3)) ∧
  (∀ s : State,
      (s.power.state = 6 → s.assay.req = none → s.holdQuiet = true →
        Completes .holdQuiesced s (fun t =>
          t.out = s.out ++ [.margin (marginWord ((s.assay.reqId + 1) % 256) 1 (s.rawN 0x8050 8) 0)]
            ∧ t.power = s.power ∧ t.tills = s.tills)) ∧
      (s.power.state = 6 → s.holdQuiet = false → exec .holdQuiesced s = .next s) ∧
      (s.power.state = 7 → s.power.saving = true →
        Completes .saveImageWritten s (fun t => t.image = some s.toImage ∧ t.power.offReady = true ∧ t.power.saving = false
          ∧ t.out = s.out ++ [.saveImage, .margin (marginWord ((s.assay.reqId + 1) % 256) 2 0 0)])))
/-- The scheduled measurements (R414, R415): a check that is due is made and no longer due, and leaves agents and ways alone;
one bit of the age thermometer is blown for each 128 powered hours. A sensor reading (R422): TJ reports it; at 110.0 °C or
above every active Till goes to CCLK/2, THERMAL_LIMIT is written and THROTTLES counts it. -/
def Obligations.MeasurementsAndReadings : Prop :=
  (∀ (s : State) (m : Measure), s.inHold = false → s.power.state ≠ 3 →
      (s.assay.quickDue = true → s.assay.fullDue = false → s.rawN 0x8000 0 ≠ 2 →
        Completes (.quickCheck m) s (fun t => t.assay.quickDue = false ∧ t.assay.fullDue = false ∧ t.agents = s.agents
          ∧ t.assay.vdd = s.assay.vdd ∧ t.assay.mhz = s.assay.mhz
          ∧ t.freeCtr = s.freeCtr + (if s.rawN 0x8000 0 = 0 then 0 else 1))) ∧
      (s.assay.fullDue = true → s.rawN 0x8000 0 ≠ 2 →
        Completes (.fullSweep m) s (fun t => t.assay.quickDue = false ∧ t.assay.fullDue = false ∧ t.agents = s.agents
          ∧ t.assay.vdd = s.assay.vdd ∧ t.assay.mhz = s.assay.mhz)) ∧
      (s.assay.ageTick + s.ageTicks ≤ s.time.tick → s.fuses.ageBits < 1024 →
        exec .ageHours s = .next { s with fuses := { s.fuses with ageBits := s.fuses.ageBits + 1 },
                                          assay := { s.assay with ageTick := s.assay.ageTick + s.ageTicks } }) ∧
      (s.time.tick < s.assay.ageTick + s.ageTicks → exec .ageHours s = .next s)) ∧
  (∀ (s : State) (n : Nat) (x : Int), s.Inv → s.assay.tjDue = true → s.build.hasTill n = true → -400 ≤ x → x ≤ 2000 →
      s.rawI 0x8070 0 ≤ 1090 →
      (x < s.rawI 0x8070 0 → s.power.throttled = false →
        Completes (.tjSample [(n, x)]) s (fun t => t.rawI (0x8010 + n) 2 = x ∧ t.assay.tjDue = false ∧ t.tills = s.tills
          ∧ t.rawI 0x8070 1 = max x (s.rawI 0x8070 1) ∧ t.power = s.power)) ∧
      (1100 ≤ x → s.power.throttled = false → s.inHold = false →
        Completes (.tjSample [(n, x)]) s (fun t => t.power.throttled = true ∧ Reports s t 0x10F
          ∧ t.rawN 0x8070 2 = (s.rawN 0x8070 2 + 1) % 2 ^ 32
          ∧ (∀ k, k < 18 → (s.till k).role = .active → (t.till k).div2 = true ∧ (t.till k).divBefore = (s.till k).div2))))

/-! ## The Tick -/

/-- TICK_COUNT never decreases (R55): only a cold reset, or the fill of a bring-up, sets it. -/
def Obligations.TickCountNeverDecreases : Prop :=
  ∀ (c : Instr) (s t : State), exec c s = .next t →
    (∀ r, c ≠ .pwrGoodRise r) → c ≠ .pwrGoodFall → c ≠ .brownoutRise → c ≠ .brownoutFall → c ≠ .coldRst →
    (∀ l k p v, c ≠ .bringupFill l k p v) → s.time.tick ≤ t.time.tick

/-- A strobe while the external Tick is the source (R56, R411): too early, it is ignored and counted; otherwise TICK_COUNT
increments by 1, the interval is measured from here, and PTM is latched. -/
def Obligations.StrobeCountsOrIsEarly : Prop :=
  ∀ (s : State) (dt : Nat) (ptm : Word) (v : Bool), s.Inv → s.boot ≠ .off → s.power.state ≠ 3 →
    let u := advance s dt
    u.time.substitute = false →
    (u.time.ps - u.time.lastTick < tickMin →
      Completes (.tickStrobe dt ptm v) s (fun t => t.time.tick = s.time.tick
        ∧ t.rawN 0x8040 4 = (u.rawN 0x8040 4 + 1) % 2 ^ 32 ∧ t.time.lastTick = u.time.lastTick)) ∧
    (tickMin ≤ u.time.ps - u.time.lastTick →
      Completes (.tickStrobe dt ptm v) s (fun t => t.time.tick = s.time.tick + 1 ∧ t.time.lastTick = u.time.ps
        ∧ t.time.ptm = ptm ∧ t.time.ptmValid = v ∧ t.time.substitute = false ∧ t.agents = s.agents ∧ t.ways = s.ways))
/-- The loss of the Tick (R58): TICK_COUNT advances by 16, substitute Ticks begin, and TICK_LOST is raised; before the loss is
due nothing of it happens. Substitute Ticks (R58, R59): a substitute Tick counts one; an external strobe only extends the run;
the eighth of a run returns to the external Tick, counts only 0.9 µs after the last substitute Tick, and writes TICK_RESTORED.
That a substitute Tick may come 1 % early is R58's tolerance, read so by the model (log entry 22). -/
def Obligations.TickLossAndReturn : Prop :=
  (∀ (s : State) (dt : Nat), s.boot ≠ .off → s.power.state ≠ 3 →
      let u := advance s dt
      u.time.substitute = false →
      (16 * u.nominal ≤ u.time.ps - u.time.lastTick →
        Completes (.tickLost dt) s (fun t => t.time.tick = s.time.tick + 16 ∧ t.time.substitute = true ∧ t.time.run = 0
          ∧ t.time.lastExt = none ∧ (∃ l, t.journal.inbox = u.journal.inbox ++ l ∧ ∃ r ∈ l, r.code = 0x101))) ∧
      (u.time.ps - u.time.lastTick < 16 * u.nominal → exec (.tickLost dt) s = .next u)) ∧
  (∀ (s : State) (dt : Nat) (ptm : Word) (v : Bool), s.boot ≠ .off → s.power.state ≠ 3 →
      let u := advance s dt
      u.time.substitute = true →
      (99 * u.nominal ≤ 100 * (u.time.ps - u.time.lastSub) →
        Completes (.substituteTick dt ptm v) s (fun t => t.time.tick = s.time.tick + 1 ∧ t.time.substitute = true
          ∧ t.time.lastSub = u.time.ps ∧ t.time.ptm = ptm ∧ t.time.run = u.time.run)) ∧
      (u.time.nextRun < 8 →
        Completes (.tickStrobe dt ptm v) s (fun t => t = { u with time := { u.time with run := u.time.nextRun,
                                                                                         lastExt := some u.time.ps } })) ∧
      (8 ≤ u.time.nextRun →
        Completes (.tickStrobe dt ptm v) s (fun t => t.time.substitute = false ∧ t.time.lastTick = u.time.ps ∧ t.time.run = 0
          ∧ t.time.tick = (if tickMin ≤ u.time.ps - u.time.lastSub then s.time.tick + 1 else s.time.tick)
          ∧ (∃ l, t.journal.inbox = u.journal.inbox ++ l ∧ ∃ r ∈ l, r.code = 0x201))))

/-! ## The memory ports -/
/-- MCMP acknowledges one of several writes of a Folio (R269, R270, R272, R519, R522): the write is no longer open; a LOST
answer gives the Folio the outcome LOST, enters the lost-write table while it has room, writes LOST_WRITE and counts. -/
def Obligations.WriteAcknowledgedOrLost : Prop :=
  ∀ (s : State) (m t f : Nat) (x : Folio) (w : OpenWrite),
    s.Inv → s.build.hasPort m = true → s.build.hasTill t = true → s.calm t → s.folio? t f = some x → x.job = .request →
    s.openWrite? m t f .mwr = some w → 2 ≤ x.writes.length →
    Completes (.mcmp m false .mwr t f) s (fun u =>
      u.folio? t f = some { x with writes := dropFirst (fun v => v.mop == .mwr && v.port == m) x.writes }
        ∧ u.lost = s.lost ∧ u.out = s.out) ∧
    Completes (.mcmp m true .mwr t f) s (fun u =>
      u.folio? t f = some { x with writes := dropFirst (fun v => v.mop == .mwr && v.port == m) x.writes
                                   outcome := x.outcome.worse .lost }
        ∧ Reports s u 0x005 ∧ u.rawN (0x2091 + m) 1 = (s.rawN (0x2091 + m) 1 + 1) % 2 ^ 32
        ∧ (s.lost.length < 64 → u.lost = s.lost ++ [(BitVec.ofNat 64 (2 ^ 63 + place m 2 61 + place x.aid.toNat 10 50
            + w.addr.toNat), BitVec.ofNat 64 s.time.tick)])
        ∧ (64 ≤ s.lost.length → u.lost = s.lost)) ∧
    (s.due w.tick (s.rawN 0x2090 0) = true →
      Completes (.memWriteTimeout m t f .mwr) s (fun u =>
        u.folio? t f = some { x with
          writes := dropFirst (fun v => v.mop == .mwr && v.port == m) x.writes
          outcome := x.outcome.worse .lost }
        ∧ Reports s u 0x005 ∧ u.rawN (0x2091 + m) 3 = (s.rawN (0x2091 + m) 3 + 1) % 2 ^ 32
        ∧ (s.lost.length < 64 → u.lost.length = s.lost.length + 1))) ∧
    (s.due w.tick (s.rawN 0x2090 0) = false → exec (.memWriteTimeout m t f .mwr) s = .next s)

/-- A line returns on MRDATA to a Folio whose snoops are out (R518, R522, R144): the Folio holds it; with ERROR it is taken
poisoned, CELLARED and not written off, and MEM_READ_ERRORS counts it. A halted Till keeps the message at its NI (R479). A read
that times out (R522) is handled as an ERROR read; its data is a free value (log entry 6). -/
def Obligations.ReadsReachTheirFolio : Prop :=
  (∀ (s : State) (m t f line : Nat) (error poison woff cell : Bool) (data : LineData) (x : Folio) (r : OpenRead),
      s.Inv → s.build.hasPort m = true → s.build.hasTill t = true → s.calm t → s.folio? t f = some x → x.phase = .snoop →
      x.job = .request → x.read = some r → r.crd = false → r.cancel = false → r.port = m → line ∈ r.lines →
      (∀ a ∈ (s.till t).memQ, a.folio ≠ f) →
      Completes (.mrdata m t f line false error poison woff cell data .none) s (fun u =>
        u.folio? t f = some { x with
            read := none, spec := .held
            rdata := some (if error then ⟨data, true, false, true, true⟩ else ⟨data, poison, woff, cell, true⟩) }
          ∧ u.rawN (0x2091 + m) 2 = (if error then (s.rawN (0x2091 + m) 2 + 1) % 2 ^ 32 else s.rawN (0x2091 + m) 2)
          ∧ u.agents = s.agents ∧ u.lost = s.lost ∧ u.out = s.out)) ∧
  (∀ (s : State) (m t f line : Nat) (x : Folio) (r : OpenRead),
      s.Inv → s.build.hasPort m = true → s.build.hasTill t = true → s.calm t → s.folio? t f = some x → x.phase = .snoop →
      x.job = .request → x.read = some r → r.crd = false → r.cancel = false → r.port = m → line ∈ r.lines →
      (∀ a ∈ (s.till t).memQ, a.folio ≠ f) →
      (s.due r.tick (s.rawN 0x2090 1) = true →
        Completes (.memReadTimeout m t f line) s (fun u =>
          u.folio? t f = some { x with read := none, spec := .held, rdata := some ⟨s.free, true, false, true, true⟩ }
            ∧ u.freeCtr = s.freeCtr + 1 ∧ u.rawN (0x2091 + m) 3 = (s.rawN (0x2091 + m) 3 + 1) % 2 ^ 32)) ∧
      (s.due r.tick (s.rawN 0x2090 1) = false → exec (.memReadTimeout m t f line) s = .next s))

/-- MCRED (R520): credits return to the Till up to the grant of 64 and 32; the excess is ignored and counted. CHSTAT is a
level of the port (R516). -/
def Obligations.CreditsReturnUpToGrant : Prop :=
  ∀ (s : State) (m t n : Nat), s.Inv → s.build.hasPort m = true → s.build.hasTill t = true → s.calm t →
    s.boot ≠ .off → (s.till t).memQ = [] → (∀ p ∈ (s.till t).folios, p.2.phase ≠ .data) → 0 < n →
    Completes (.mcred m t false n) s (fun u => (u.till t).cred m = (min 64 (((s.till t).cred m).1 + n), ((s.till t).cred m).2)
      ∧ u.rawN (0x2091 + m) 4 = (if 64 < ((s.till t).cred m).1 + n then (s.rawN (0x2091 + m) 4 + 1) % 2 ^ 32
          else s.rawN (0x2091 + m) 4) ∧ u.out = s.out ∧ u.lost = s.lost) ∧
    Completes (.mcred m t true n) s (fun u => (u.till t).cred m = (((s.till t).cred m).1, min 32 (((s.till t).cred m).2 + n))
      ∧ u.out = s.out ∧ u.lost = s.lost) ∧
    (∀ level : BitVec 16, exec (.chstatChange m level) s = .next { s with chstat := KV.set s.chstat m level 0 })

/-! ## Requests -/

/-- The Wicket may take the request: the agent is bound to it, alive, and under its incarnation (R36, R232), its kind permits
the opcode (R67), nothing holds requests back (R305, R404, R426, R529), and the Wicket admits (R341). -/
def mayTake (s : State) (w : Nat) (o : Opc) (q : Req) : Prop :=
  s.build.hasWicket w = true ∧ (s.agent q.aid.toNat).state = .active ∧ (s.agent q.aid.toNat).wicket.toNat = w
    ∧ (s.agent q.aid.toNat).deadMark = false ∧ (s.agent q.aid.toNat).inc = q.inc ∧ s.power.state ≠ 3 ∧ s.inHold = false
    ∧ s.global = 2 ∧ s.fatal = false ∧ s.paused w = false ∧ s.quiescing = false
    ∧ kindAdmits (s.agent q.aid.toNat).kind.toNat o = true ∧ s.shut w = false ∧ q.rsnd = false

/-- The request waits in an admission entry of the Wicket, routed by the replica of the Bucket Map (R46, R344, R346, R388). -/
def waitsAt (s t : State) (w : Nat) (o : Opc) (q : Req) : Prop :=
  ∃ e ∈ (t.wicket w).entries, e.opc = o ∧ e.aid = q.aid ∧ e.inc = q.inc ∧ e.tag = q.tag ∧ e.laddr = q.laddr
    ∧ e.param = q.param ∧ e.wdata = dataOf o q ∧ e.rcpt = none ∧ e.origin = .agent
    ∧ e.cls = s.classOf q.aid.toNat o ∧ e.till = s.routeTill w o q.aid q.laddr ∧ e.cclk = s.time.cclk

/-- A request that its Wicket may take is admitted (R344); at WS a SETTLE closes the open epoch (R268), a posted store is
completed OK (R263), a claim, a release and an RSV are admitted behind their drains, as are a CWR and a store that is not
posted while the buffer has an entry, and a read that the buffer does not serve (R265, R266). -/
def Obligations.RequestEntersAdmission : Prop :=
  ∀ (s : State) (c : Instr) (w : Nat) (o : Opc) (q : Req), s.Inv → requestOf c = some (w, o, q) → mayTake s w o q →
    (w ≠ Build.ws → Completes c s (fun t => waitsAt s t w o q ∧ t.tills = s.tills)) ∧
    (w = Build.ws → (s.wicket w).holds q.aid.toNat = true →
      Completes c s (fun t => waitsAt s t w o q ∧ t.tills = s.tills)) ∧
    (w = Build.ws → (s.wicket w).holds q.aid.toNat = false →
      ((o = .claimX ∨ o = .claimS ∨ o = .release ∨ o = .rsv ∨ (o = .cwr ∧ s.ws.post.length < 512)
          ∨ (o = .rdNc ∧ s.posted q.aid q.laddr = [])
          ∨ ((o = .ncwFull ∨ o = .ncwPtl) ∧ s.ws.post.length < 512 ∧ (s.agent q.aid.toNat).postEn = false)) →
        Completes c s (fun t => waitsAt s t w o q ∧ t.tills = s.tills)) ∧
      ((o = .ncwFull ∨ o = .ncwPtl) → s.ws.post.length < 512 → (s.agent q.aid.toNat).postEn = true →
        Completes c s (fun t => Sends s t (.cmp w .cmp q.aid q.inc q.tag .ok 0) ∧ t.tills = s.tills)) ∧
      (o = .settle → (s.wsAgent q.aid.toNat).settles.length < 4 →
        Completes c s (fun t => (t.wsAgent q.aid.toNat).epoch = (s.wsAgent q.aid.toNat).epoch + 1 ∧ t.tills = s.tills)))

/-- What a Wicket discards, in the order of its checks (R35, R36, R232, R282), and how it counts it; what it answers STATUS
FAIL (R67, R69, R282, R341); and what waits at the boundary or wakes the Home in Hold (R427). -/
def Obligations.RequestDiscardedOrRefused : Prop :=
  ∀ (s : State) (c : Instr) (w : Nat) (o : Opc) (q : Req), s.Inv → requestOf c = some (w, o, q) → s.build.hasWicket w = true →
    let a := s.agent q.aid.toNat
    (a.state.lives = false → exec c s = .next (s.bump ⟨0x6000 + w, 0xB, 64⟩)) ∧
    (a.state.lives = true → a.wicket.toNat ≠ w →
      Completes c s (fun t => t.rawN (0x6000 + w) 0xA = (s.rawN (0x6000 + w) 0xA + 1) % 2 ^ 64
        ∧ t.wickets = s.wickets ∧ t.out = s.out)) ∧
    (a.state.lives = true → a.wicket.toNat = w →
      (a.deadMark = true → exec c s = .next (s.bump ⟨0x2030, 6, 32⟩)) ∧
      (a.deadMark = false → a.inc ≠ q.inc → exec c s = .next (s.bump ⟨0x6000 + w, 0xB, 64⟩)) ∧
      (a.deadMark = false → a.inc = q.inc → s.power.state ≠ 3 →
        (s.inHold = true → s.rawN 0x8050 7 ≠ 1 → exec c s = .next (s.atPort c)) ∧
        (s.inHold = true → s.rawN 0x8050 7 = 1 → exec c s = .next (deferTo s 4 c)) ∧
        (s.inHold = false → s.global = 2 → s.fatal = false → s.paused w = false → s.quiescing = false →
          (kindAdmits a.kind.toNat o = false →
            Completes c s (fun t => Sends s t (.cmp w .cmp q.aid q.inc q.tag .fail 0)
              ∧ t.rawN 0x2020 4 = (s.rawN 0x2020 4 + 1) % 2 ^ 32 ∧ t.tills = s.tills ∧ t.net = s.net)) ∧
          (kindAdmits a.kind.toNat o = true → a.state = .leaving → o.keptKind = false →
            Completes c s (fun t => Sends s t (.cmp w .cmp q.aid q.inc q.tag .fail 0) ∧ t.tills = s.tills ∧ t.net = s.net)) ∧
          (kindAdmits a.kind.toNat o = true → a.state = .active → s.shut w = true →
            (s.wicket w).qualifies o q.aid (s.routeTill w o q.aid q.laddr) q.laddr = false →
            Completes c s (fun t => Sends s t (.cmp w .cmp q.aid q.inc q.tag .fail 0)
              ∧ t.rawN (0x6000 + w) 8 = (s.rawN (0x6000 + w) 8 + 1) % 2 ^ 64 ∧ t.tills = s.tills ∧ t.net = s.net)))))

/-! ## Snoop responses -/

/-- The command of a snoop response. -/
def rspOf : RspOpc → Nat → Rsp → Instr
  | .i, w, r => .rspI w r | .s, w, r => .rspS w r | .e, w, r => .rspE w r

/-- The Wicket takes messages of the agent: it is bound here, alive and under its incarnation (R36, R232). -/
def heard (s : State) (w : Nat) (aid : Aid) (inc : Inc) : Prop :=
  s.build.hasWicket w = true ∧ s.fatal = false ∧ (s.agent aid.toNat).state = .active ∧ (s.agent aid.toNat).wicket.toNat = w
    ∧ (s.agent aid.toNat).deadMark = false ∧ (s.agent aid.toNat).inc = inc

/-- A response that its snoop permits (R92), for lines still undone: behind a writeback of its agent it is held (R79); at the
Till it is recorded for each line and kind while other line-responses are due (R146); a response that no snoop permits is a
protocol error that declares the agent dead (R93), one to a SID of a resent snoop is counted (R230). -/
def Obligations.SnoopResponsesCollected : Prop :=
  ∀ (s : State) (w : Nat) (o : RspOpc) (r : Rsp), s.Inv → heard s w r.aid r.inc → blockOk r.low.toNat r.blk.toNat = true →
    let lines := covered r.low.toNat r.blk.toNat
    (∀ p : Snoop, KV.find? (s.wicket w).sids r.sid.toNat = some p → p.aid = r.aid → p.heldOut = false → p.resent = false →
      permitted p.opc o = true → (∀ i ∈ lines, i ∈ p.undone ∧ i ∈ covered (lineIx p.laddr) p.blk) →
      ((s.wicket w).behindWb p lines = true →
        Completes (rspOf o w r) s (fun t => (t.wicket w).heldRsp = (s.wicket w).heldRsp ++ [⟨o, r⟩]
          ∧ KV.find? (t.wicket w).sids r.sid.toNat
              = some { p with undone := p.undone.filter (fun i => !lines.contains i) }
          ∧ t.tills = s.tills ∧ t.net = s.net ∧ t.out = s.out)) ∧
      (∀ x : Folio, (s.wicket w).behindWb p lines = false → s.calm p.till → s.folio? p.till p.folio = some x →
        x.crossed = [] → (∀ i ∈ lines, (r.aid, i) ∈ x.due) → (∃ d ∈ x.due, ∀ i ∈ lines, d ≠ (r.aid, i)) →
        Completes (rspOf o w r) s (fun t => t.folio? p.till p.folio = some { x with
            due := x.due.filter (fun d => !(lines.map (fun i => (r.aid, i))).contains d)
            gotI := if o = .i then x.gotI ++ lines.map (fun i => (r.aid, i)) else x.gotI
            gotS := if o = .s then x.gotS ++ lines.map (fun i => (r.aid, i)) else x.gotS
            gotE := if o = .e then some r.aid else x.gotE } ∧ t.agents = s.agents))) ∧
    (∀ p : Snoop, KV.find? (s.wicket w).sids r.sid.toNat = some p → (p.aid ≠ r.aid ∨ permitted p.opc o = false) →
      Completes (rspOf o w r) s (fun t => (t.agent r.aid.toNat).state = .foreclosing ∧ (t.agent r.aid.toNat).cause = 4
        ∧ (t.agent r.aid.toNat).deadMark = true ∧ Reports s t 0x006)) ∧
    (KV.find? (s.wicket w).sids r.sid.toNat = none →
      (KV.find? (s.wicket w).dups r.sid.toNat = none →
        Completes (rspOf o w r) s (fun t => (t.agent r.aid.toNat).state = .foreclosing ∧ (t.agent r.aid.toNat).cause = 4
          ∧ Reports s t 0x006)) ∧
      (∀ mine, KV.find? (s.wicket w).dups r.sid.toNat = some (r.aid, mine) → (∀ i ∈ lines, i ∈ mine) →
        exec (rspOf o w r) s = .next (s.bump ⟨0x2030, 5, 32⟩)))

/-! ## At the Tills, and on the way back -/

/-- A Till's ingress accepts a flit on a credit (R112, R121): a cacheable request or an OWN for a line that no chain has heads a
new chain in LOOKUP; behind an open chain it waits as the tail's successor (R115). A lookup that misses waits for the line's
read (R182); a DONE Folio whose data has left and whose answers have come retires, and its credit follows (R114, R133). -/
def Obligations.FoliosAcceptLookUpRetire : Prop :=
  ∀ (s : State) (t : Nat), s.Inv → s.calm t → s.transfers = [] → (s.till t).gated = [] →
    (∀ (w f : Nat) (q : QFlit), s.build.hasWicket w = true → s.net.q.find? (fun q => q.till == t && q.w == w) = some q →
      q.crd ≠ .receipt → (s.agent q.aid.toNat).deadMark = false → (s.agent q.aid.toNat).inc = q.inc →
      s.liveTill (bucketOfLine q.laddr) = t → s.freeFolio t = some f →
      (q.opc = .rdS ∨ q.opc = .rdX ∨ q.opc = .rdAny ∨ q.opc = .own) →
      ((∀ c ∈ (s.till t).chains, c.laddr ≠ q.laddr) →
        Completes (.qFlitAccepted t w) s (fun u => ∃ x, u.folio? t f = some x ∧ x.head = true ∧ x.phase = .lookup
          ∧ x.opc = q.opc ∧ x.aid = q.aid ∧ x.inc = q.inc ∧ x.tag = q.tag ∧ x.laddr = q.laddr ∧ x.src = q.crd
          ∧ (u.till t).headOf q.laddr = some f)) ∧
      (∀ c, (s.till t).chains.find? (fun c => c.laddr == q.laddr) = some c → c.tail ≠ f →
        Completes (.qFlitAccepted t w) s (fun u =>
          u.folio? t f = some { folioOf s q with phase := .waiting }
          ∧ u.folio? t c.tail = (s.folio? t c.tail).map (fun y => { y with next := some f })
          ∧ (u.till t).headOf q.laddr = some c.head ∧ u.out = s.out))) ∧
    (∀ (f : Nat) (x : Folio), s.folio? t f = some x → x.phase = .lookup → x.job = .request → x.head = true → x.waits = false →
      (x.opc = .rdS ∨ x.opc = .rdX ∨ x.opc = .rdAny ∨ x.opc = .rdNc) → x.rdata = none →
      (∀ r, x.read = some r → r.crd = false) → x.read.isSome = true →
      (KV.get (s.till t).banks (bankOf (sectorOf x.laddr)) {}).locked = false → (s.till t).vault = [] →
      (s.till t).find (sectorOf x.laddr) = none →
      (s.regionAt x.rgen (s.regionOf x.rgen (sectorOf x.laddr))).untracked = false →
      Completes (.vaultLookupDone t f .none) s (fun u =>
        u.folio? t f = some { x with region := s.regionOf x.rgen (sectorOf x.laddr), waits := true } ∧ u.out = s.out)) ∧
    (∀ (f : Nat) (x : Folio), s.folio? t f = some x → x.phase = .done → x.readOut = true → x.job = .request →
      x.writes = [] → x.read = none → x.dead = false → x.credit ≠ .loan → (∀ a ∈ (s.till t).memQ, a.folio ≠ f) →
      (∀ g ∈ (s.till t).groups, g.folio ≠ f) → (∀ p ∈ (s.till t).folios, p.2.phase ≠ .data) →
      Completes (.folioReadOutDone t f) s (fun u => (u.till t).folios = KV.del (KV.mod (s.till t).folios f
          (fun y => { y with readOut := false })) f
        ∧ u.net.p = s.net.p ++ [(t, x.wicket, .credit x.credit x.aid x.inc x.opc.hasData
            (if x.opc.isWrite = true then some (x.outcome, x.epoch) else none) x.origin)])) ∧
    (∀ f, (∀ x, s.folio? t f = some x → x.phase ≠ .lookup) → exec (.vaultLookupDone t f .none) s = .next s) ∧
    (∀ f, (∀ x, s.folio? t f = some x → x.readOut = false) → exec (.folioReadOutDone t f) s = .next s)

/-- What reaches a Wicket from a Till: a completion leaves for its agent (R85, R149), data waits for its completion (R149), a
CHAINED notice frees its writeback (R79), a snoop takes the lowest free SID and leaves (R84), a credit comes back to the
agent's counts (R133), a loan is added (R130). -/
def Obligations.MessagesReachTheWicket : Prop :=
  ∀ (s : State) (w t : Nat), s.Inv → s.build.hasWicket w = true → s.build.hasTill t = true → s.fatal = false →
    (∀ opc a i tag st rcpt isRead l req, s.frontP t w = some (.cmp opc a i tag st rcpt isRead l req .agent) →
      s.takes a i = true → (s.agent a.toNat).grace = false → req.isWb = false → st ≠ .retry → isRead = false →
      (∀ c ∈ (s.wicket w).heldCmp, c.till ≠ t ∨ c.aid ≠ a) →
      Completes (.completionDelivery w t false) s (fun u => u.out = s.out ++ [.cmp w opc a i tag st 0]
        ∧ u.net.p = dropFirst (fun x => x.1 == t && x.2.1 == w) s.net.p ∧ u.tills = s.tills)) ∧
    (∀ x, s.net.d.find? (fun x => x.1 == t && x.2.1 == w) = some x → s.takes x.2.2.aid x.2.2.inc = true →
      (∀ c ∈ (s.wicket w).heldCmp, c.till ≠ t ∨ c.aid ≠ x.2.2.aid) →
      Completes (.completionDelivery w t true) s (fun u => (u.wicket w).heldData = (s.wicket w).heldData ++ [⟨t, x.2.2⟩]
        ∧ u.net.d = dropFirst (fun x => x.1 == t && x.2.1 == w) s.net.d ∧ u.out = s.out)) ∧
    (∀ x c, s.net.d.find? (fun x => x.1 == t && x.2.1 == w) = some x → s.takes x.2.2.aid x.2.2.inc = true →
      (s.wicket w).heldCmp = [c] → (s.wicket w).heldData = [] → c.till = t → c.aid = x.2.2.aid → c.tag = x.2.2.tag →
      c.inc = x.2.2.inc → c.origin = .agent → x.2.2.origin = .agent → c.needData = true → c.status ≠ .retry →
      (s.agent c.aid.toNat).grace = false →
      Completes (.completionDelivery w t true) s (fun u => u.out = s.out ++ [.dataOut w c.aid c.inc c.tag x.2.2.data
          x.2.2.poison, .cmp w c.opc c.aid c.inc c.tag c.status 0]
        ∧ (u.wicket w).heldCmp = [] ∧ (u.wicket w).heldData = [] ∧ u.tills = s.tills)) ∧
    (∀ a tag l, s.frontP t w = some (.chained a tag l) → (s.wicket w).heldRsp = [] →
      Completes (.chainedNotice w t) s (fun u =>
        (u.wicket w).wbs = dropFirst (fun b => b.aid == a && b.tag == tag && b.laddr == l) (s.wicket w).wbs
        ∧ u.tills = s.tills ∧ u.out = s.out)) ∧
    (∀ q sid, s.net.s.find? (fun q => q.till == t && q.w == w) = some q → s.serving q.aid.toNat = true →
      (s.agent q.aid.toNat).grace = false → (s.wicket w).sWait = [] → KV.lowest (s.wicket w).sids 4096 = some sid →
      Completes (.snoopDelivery w t) s (fun u =>
        u.out = s.out ++ [.snp w q.opc q.aid (s.agent q.aid.toNat).inc sid q.laddr q.blk]
        ∧ (∃ p, KV.find? (u.wicket w).sids sid = some p ∧ p.till = t ∧ p.folio = q.folio ∧ p.aid = q.aid ∧ p.opc = q.opc
            ∧ p.undone = covered (lineIx q.laddr) q.blk ∧ p.startTick = s.time.tick) ∧ u.tills = s.tills)) ∧
    (∀ q, s.net.s.find? (fun q => q.till == t && q.w == w) = some q → s.serving q.aid.toNat = false →
      Completes (.snoopDelivery w t) s (fun u =>
        u.net.pw = s.net.pw ++ [(w, t, .foreclosed q.folio q.aid q.laddr (covered (lineIx q.laddr) q.blk))]
        ∧ u.out = s.out ∧ u.wickets = s.wickets)) ∧
    (∀ a i data origin, s.frontP t w = some (.credit .escrow a i data none origin) → s.takes a i = true →
      (s.till t).loanReqs = [] →
      Completes (.creditReturn w t) s (fun u =>
        (u.wicket w).cred a.toNat t = { (s.wicket w).cred a.toNat t with
          folios := ((s.wicket w).cred a.toNat t).folios + 1
          data := ((s.wicket w).cred a.toNat t).data + (if data then 1 else 0)
          open_ := ((s.wicket w).cred a.toNat t).open_ - 1 }
        ∧ u.tills = s.tills ∧ u.out = s.out)) ∧
    (∀ n d, s.frontP t w = some (.loan n d) → 0 < n →
      Completes (.loanGrant w t) s (fun u => (u.wicket w).loan t = { (s.wicket w).loan t with
          folios := ((s.wicket w).loan t).folios + n
          data := ((s.wicket w).loan t).data + d
          asked := false, idleTick := s.time.tick } ∧ u.tills = s.tills ∧ u.out = s.out))

/-- Loans (R130, R131): a Till grants within the pool and the caps, keeps the request where it cannot, and gets unused loan
credits back after their idle time. A foreclosed response counts as RSP_I (R232, R233). An unredeemed receipt that is due
expires (R141). -/
def Obligations.LoansReceiptsForeclosedResponses : Prop :=
  ∀ (s : State) (t w : Nat), s.Inv → s.build.hasWicket w = true → s.calm t →
    (s.frontW w t = some (.loanReq false) → (s.till t).loanReqs = [] → s.recalls t = false →
      let l := (s.wicket w).loan t
      let n := min (min (s.rawN 0x4011 0) (s.till t).poolF) (s.rawN 0x4011 1 - (l.folios + l.inUseF))
      Completes (.loanRequest t w) s (fun u =>
        (0 < n → (u.till t).lentF = (s.till t).lentF + n ∧ (u.till t).loanReqs = []
          ∧ u.net.p = s.net.p ++ [(t, w, .loan n 0)]) ∧
        (n = 0 → (u.till t).lentF = (s.till t).lentF ∧ (u.till t).loanReqs = [(w, false)] ∧ u.net.p = s.net.p))) ∧
    (s.due ((s.wicket w).loan t).idleTick (s.rawN 0x4011 3) = true → (s.till t).loanReqs = [] →
      (0 < ((s.wicket w).loan t).folios ∨ 0 < ((s.wicket w).loan t).data) →
      Completes (.loanIdle w t) s (fun u =>
        (u.wicket w).loans = KV.set (s.wicket w).loans t { (s.wicket w).loan t with folios := 0, data := 0 } {}
        ∧ (u.till t).lentF = (s.till t).lentF - ((s.wicket w).loan t).folios
        ∧ (u.till t).lentD = (s.till t).lentD - ((s.wicket w).loan t).data ∧ u.out = s.out)) ∧
    (s.due ((s.wicket w).loan t).idleTick (s.rawN 0x4011 3) = false → exec (.loanIdle w t) s = .next s) ∧
    (∀ f a l lines x, s.frontW w t = some (.foreclosed f a l lines) → s.folio? t f = some x → x.crossed = [] →
      (∀ i ∈ lines, (a, i) ∈ x.due) → (∃ d ∈ x.due, ∀ i ∈ lines, d ≠ (a, i)) →
      Completes (.foreclosedResponse t w) s (fun u => ∃ y, u.folio? t f = some y
        ∧ y.due = x.due.filter (fun d => !(lines.map (fun i => (a, i))).contains d)
        ∧ y.gotI = x.gotI ++ lines.map (fun i => (a, i)) ∧ y.gotS = x.gotS ∧ y.gotE = x.gotE
        ∧ (∀ i, i ∈ y.woffLines ↔ i ∈ x.woffLines ∨ (i ∈ lines ∧ i ∈ x.foundX ∧ a ∈ x.owners ∧ (a, i) ∉ x.folds))
        ∧ u.rawN 0x2030 4 = (s.rawN 0x2030 4 + 1) % 2 ^ 32)) ∧
    (∀ f r x, (s.till t).receipts.find? (fun r => r.folio == f) = some r → s.folio? t f = some x → x.job = .request →
      x.dead = false → x.credit ≠ .loan → (∀ u ∈ s.tills, ∀ p ∈ u.folios, p.2.phase ≠ .retry) →
      (s.due r.tick (s.rawN 0x4012 0) = true → s.resending t f = false →
        Completes (.receiptTimeout t f) s (fun u => (u.till t).receipts = dropFirst (· == r) (s.till t).receipts
          ∧ u.net.p = s.net.p ++ [(t, x.wicket, .credit x.credit x.aid x.inc x.opc.hasData
              (if x.opc.isWrite = true then some (.fail, x.epoch) else none) x.origin)]
          ∧ Reports s u 0x20B ∧ u.rawN 0x4012 3 = (s.rawN 0x4012 3 + 1) % 2 ^ 32 ∧ u.out = s.out)) ∧
      (s.due r.tick (s.rawN 0x4012 0) = false → exec (.receiptTimeout t f) s = .next s))

/-! ## The Bucket Map and the Region table -/
/-- BUCKET_MAP_COMMIT and REGION_COMMIT of 0x01: the rows of R48 and R401 in their order, and what an accepted commit starts
(R49, R402, R206); another value has no effect. A replica switches at its own boundary (R49, R402): it leaves the list of those
that have not; requests of its Wicket not yet injected take their Till anew; with the last one the generation counts up and the
old table is gone. -/
def Obligations.MapCommitsAndReplicas : Prop :=
  (∀ s : State, s.Inv → s.windowOpen →
      (∀ v, v ≠ 1 → Completes (.bucketMapCommit v) s (fun u => u.maps = s.maps ∧ u.au = s.au)
        ∧ Completes (.regionCommit v) s (fun u => u.maps = s.maps ∧ u.au = s.au)) ∧
      (s.maps.bPend ≠ [] → Completes (.bucketMapCommit 1) s (fun u => u.maps = s.maps)) ∧
      (s.maps.bPend = [] → (s.transfers ≠ [] ∨ s.oldBGen = true) →
        Completes (.bucketMapCommit 1) s (fun u => u.maps = { s.maps with bResult := 1 })) ∧
      (s.maps.bPend = [] → s.transfers = [] → s.oldBGen = false →
        ((∃ b, b < 4096 ∧ s.badBucket b = true) →
          Completes (.bucketMapCommit 1) s (fun u => u.maps = { s.maps with bResult := 3 })) ∧
        ((∀ b, b < 4096 → s.badBucket b = false) →
          (s.maps.bShadow = s.maps.bLive → Completes (.bucketMapCommit 1) s (fun u => u.maps = { s.maps with bResult := 0 })) ∧
          (s.maps.bShadow ≠ s.maps.bLive → (s.cachingActive = true ∨ s.anyFolio = true) →
            Completes (.bucketMapCommit 1) s (fun u => u.maps = { s.maps with bResult := 2 })) ∧
          (s.maps.bShadow ≠ s.maps.bLive → s.cachingActive = false → s.anyFolio = false →
            Completes (.bucketMapCommit 1) s (fun u => u.maps = { s.maps with
              bPrev := s.maps.bLive, bLive := s.maps.bShadow, bPend := switchNodes s.build, bByTransfer := false, bResult := 0 })))) ∧
      (s.maps.rPend ≠ [] → Completes (.regionCommit 1) s (fun u => u.maps = s.maps)) ∧
      (s.maps.rPend = [] → (s.maps.bPend ≠ [] ∨ s.transfers ≠ [] ∨ s.oldRGen = true) →
        Completes (.regionCommit 1) s (fun u => u.maps = { s.maps with rResult := 1 })) ∧
      (s.maps.rPend = [] → s.maps.bPend = [] → s.transfers = [] → s.oldRGen = false →
        (∀ n, n < 64 → (∀ m, m < n → (s.shadowRegion m).illegal m = false) → (s.shadowRegion n).illegal n = true →
          Completes (.regionCommit 1) s (fun u => u.maps = { s.maps with rResult := 3, rFail := n })) ∧
        ((∀ n, n < 64 → (s.shadowRegion n).illegal n = false) →
          (untrackedChanges s = true → s.cachingActive = true →
            Completes (.regionCommit 1) s (fun u => u.maps = { s.maps with rResult := 2 })) ∧
          ((untrackedChanges s = false ∨ s.cachingActive = false) →
            (s.maps.rShadow = s.maps.rLive → Completes (.regionCommit 1) s (fun u => u.maps = { s.maps with rResult := 0 })) ∧
            (s.maps.rShadow ≠ s.maps.rLive → Completes (.regionCommit 1) s (fun u => u.maps = { s.maps with
                rPrev := s.maps.rLive, rLive := s.maps.rShadow, rPend := switchNodes s.build, rResult := 0 }
              ∧ (∀ n, n ∈ s.madeRetentive → (KV.find? u.au.clean n).isSome = true))))))) ∧
  (∀ (s : State) (n : Nat), s.Inv → hasReplica s.build n = true →
      (n ∉ s.maps.bPend → exec (.bucketMapSwitch n) s = .next s) ∧
      (n ∉ s.maps.rPend → exec (.regionTableSwitch n) s = .next s) ∧
      (n ∈ s.maps.bPend → s.transfers = [] → Completes (.bucketMapSwitch n) s (fun u =>
        u.maps.bPend = s.maps.bPend.filter (· != n) ∧ u.maps.bLive = s.maps.bLive
          ∧ ((∃ m ∈ s.maps.bPend, m ≠ n) → u.maps.bGen = s.maps.bGen ∧ u.maps.bPrev = s.maps.bPrev)
          ∧ ((∀ m ∈ s.maps.bPend, m = n) → u.maps.bGen = (s.maps.bGen + 1) % 2 ^ 32 ∧ u.maps.bPrev = [] ∧ u.mapResult = 0)
          ∧ (n ≠ 9 → ∀ e ∈ (u.wicket n).entries, e.rcpt = none → e.till = u.routeTill n e.opc e.aid e.laddr)
          ∧ u.tills = s.tills ∧ u.out = s.out)) ∧
      (n ∈ s.maps.rPend → Completes (.regionTableSwitch n) s (fun u =>
        u.maps.rPend = s.maps.rPend.filter (· != n) ∧ u.maps.rLive = s.maps.rLive
          ∧ ((∃ m ∈ s.maps.rPend, m ≠ n) → u.maps.rGen = s.maps.rGen ∧ u.maps.rPrev = s.maps.rPrev)
          ∧ ((∀ m ∈ s.maps.rPend, m = n) → u.maps.rGen = (s.maps.rGen + 1) % 2 ^ 32 ∧ u.maps.rPrev = []
              ∧ u.regionResult = 0)
          ∧ u.tills = s.tills ∧ u.out = s.out)))

/-! ## The Cellar and the Auditor -/

/-- The command of a write to PRELOAD: PRELOAD, PRELOAD_AND_LOCK or UNLOCK (R211). -/
def preloadCmd (mode : Nat) : Instr := if mode = 1 then .preload else if mode = 2 then .preloadAndLock else .unlock

/-- CELLAR_ENABLE, the end of clearing and the three preload commands (R171, R175, R176, R211): the checks, the
generations that a good header gives, the clearing of a bad or exhausted one, and the range that a preload takes. -/
def Obligations.CellarComesUp : Prop :=
  ∀ s : State, s.Inv →
    (s.windowOpen → ∀ h : LineData,
      (s.cellarState ≠ 0 → Completes (.cellarEnable h) s (fun u => u.cellarState = s.cellarState ∧ u.cellarGen = s.cellarGen
        ∧ u.cellarFloor = s.cellarFloor ∧ u.cellarLocked = s.cellarLocked ∧ u.out = s.out)) ∧
      (s.cellarState = 0 → s.cellarConfigOk = false → Completes (.cellarEnable h) s (fun u => u.cellarState = 0
        ∧ u.cellarLocked = s.cellarLocked ∧ u.rawN 0x3F00 0xE = 3 ∧ Reports s u 0x21B)) ∧
      (s.cellarState = 0 → s.cellarConfigOk = true →
        (readHeader h = none → Completes (.cellarEnable h) s (fun u => u.cellarState = 1 ∧ u.cellarFloor = 1
          ∧ u.cellarLocked = true ∧ u.rawN 0x3F00 0xE = 0)) ∧
        (∀ cur floor, readHeader h = some (cur, floor) → nextGen cur = floor → Completes (.cellarEnable h) s (fun u =>
          u.cellarState = 1 ∧ u.cellarFloor = nextGen cur ∧ u.cellarLocked = true)) ∧
        (∀ cur floor, readHeader h = some (cur, floor) → nextGen cur ≠ floor → Completes (.cellarEnable h) s (fun u =>
          u.cellarState = 2 ∧ u.cellarGen = nextGen cur ∧ u.cellarFloor = floor ∧ u.cellarLocked = true)))) ∧
    (s.cellarState ≠ 1 → exec .cellarClearingDone s = .next s) ∧
    (s.cellarState = 1 → Completes .cellarClearingDone s (fun u => u.cellarState = 2 ∧ u.cellarGen = s.cellarFloor
      ∧ u.cellarFloor = s.cellarFloor ∧ Sends s u (.cellarZeroed (s.rawN 0x3F00 0) (2 ^ (30 + s.rawN 0x3F00 1))))) ∧
    (s.windowOpen → ∀ mode, 1 ≤ mode → mode ≤ 3 →
      let a := s.rawN 0x3F10 1
      let b := s.rawN 0x3F10 2
      let bad := (mode ≠ 1 ∧ s.build ≠ .h1L) ∨ a % 4096 ≠ 0 ∨ b % 4096 ≠ 0 ∨ b ≤ a ∨ 2 ^ 44 < b
      (s.au.preload.isSome = true → Completes (preloadCmd mode) s (fun u => u.rawN 0x3F10 8 = 1 ∧ u.au = s.au)) ∧
      (s.au.preload = none → bad → Completes (preloadCmd mode) s (fun u => u.rawN 0x3F10 8 = 3 ∧ u.au = s.au)) ∧
      (s.au.preload = none → ¬ bad → Completes (preloadCmd mode) s (fun u => u.rawN 0x3F10 8 = 0 ∧ u.rawN 0x3F10 3 = 1
        ∧ u.au = { s.au with preload := some (mode, a / 256, b / 256) } ∧ u.tills = s.tills))) ∧
    (∀ t, s.calm t →
      (s.au.preload = none → ∀ sec, exec (.preloadSector t sec) s = .next s) ∧
      (s.cellarState ≠ 2 → ∀ p g, exec (.cellarVisit t p g) s = .next s) ∧
      (∀ m last (sec : BitVec 36), s.au.preload = some (m, sec.toNat, last) → s.liveTill (bucketOfSector sec.toNat) = t →
        4 ≤ (s.till t).internalFree → 0 < KV.get s.au.orderCred (ordGroup 3) 0 →
        Completes (.preloadSector t sec) s (fun u =>
          (sec.toNat + 1 < last → u.au.preload = some (m, sec.toNat + 1, last)) ∧
          (last ≤ sec.toNat + 1 → u.au.preload = none ∧ u.rawN 0x3F10 3 = 2))) ∧
      (∀ p g, s.cellarState = 2 → g < s.groupCount → p < 4096 → s.liveTill p = t → 0 < (s.till t).internalFree →
        KV.find? (s.till t).rebuild p = none → p * s.groupCount + g = s.au.cellarCursor →
        p * s.groupCount + g + 1 < s.allGroups → 0 < KV.get s.au.orderCred (ordGroup 2) 0 →
        Completes (.cellarVisit t p g) s (fun u => u.au.cellarCursor = s.au.cellarCursor + 1
          ∧ (∃ o ∈ (u.till t).groups, o.p = p ∧ o.g = g ∧ o.kind = .visit false))))

/-- The walk of a leave or of a foreclosure. -/
def walkCmd (leave : Bool) (t : Nat) (pos : WalkAt) : Instr := if leave then .leaveWalk t pos else .foreclosureWalk t pos

/-- The Auditor's walks (R206, R290, R300, R371, R398): one set of the Vault phase starts an operation on each sector that names
an agent of the walk and moves the cursor on; a pending region that holds no entry is clean; a resolution entry without a
further candidate frees; a bucket of which every sector has been resolved leaves REBUILDING. -/
def Obligations.WalksAdvance : Prop :=
  ∀ (s : State) (t : Nat), s.Inv → s.calm t →
    (∀ (leave : Bool) (bank set : Nat), s.walked t = true → set < 2048 → bank < 16 →
      KV.get (s.au.sets leave) t 0 = bank * 2048 + set → s.au.walkers leave ≠ [] → readSet s t bank set = s →
      4 * (s.walkSectors leave t bank set).length ≤ (s.till t).internalFree →
      0 < KV.get s.au.orderCred (ordKey t (bit leave)) 0 → bank * 2048 + set + 1 < vaultSets →
      Completes (walkCmd leave t (.vault bank set)) s (fun u =>
        KV.get (u.au.sets leave) t 0 = bank * 2048 + set + 1
          ∧ (u.au.walkers leave).map (·.aid) = (s.au.walkers leave).map (·.aid)
          ∧ (∀ sec ∈ s.walkSectors leave t bank set, ∃ p ∈ (u.till t).secOps, p.2.sector = sec ∧ p.2.kind = walkKind leave))) ∧
    (∀ (leave : Bool) (pos : WalkAt), s.au.walkers leave = [] → exec (walkCmd leave t pos) s = .next s) ∧
    (s.au.clean = [] → ∀ bank set, exec (.retentiveCleanWalk t (.vault bank set)) s = .next s) ∧
    (∀ n k rest, s.au.clean = (n, k) :: rest → s.holdsRegion n = false → ∀ bank set,
      Completes (.retentiveCleanWalk t (.vault bank set)) s (fun u => u.au.clean = rest ∧ u.tills = s.tills)) ∧
    (∀ i r, KV.find? (s.till t).resolve i = some r → nextCandidate s t r = none →
      Completes (.resolutionWalk t i) s (fun u => (u.till t).resolve = KV.del (s.till t).resolve i ∧ Reports s u 0x211)) ∧
    (∀ i r sec, KV.find? (s.till t).resolve i = some r → nextCandidate s t r = some sec → 4 ≤ (s.till t).internalFree →
      0 < KV.get s.au.orderCred (ordKey t 2) 0 →
      Completes (.resolutionWalk t i) s (fun u => KV.find? (u.till t).resolve i = some { r with cursor := sec + 1 }
        ∧ (∃ p ∈ (u.till t).secOps, p.2.sector = sec ∧ p.2.kind = .resolve r.cellar))) ∧
    (∀ b r, KV.find? (s.till t).rebuild b = some r → (∀ p ∈ (s.till t).rebuild, b ≤ p.1) →
      (nextInBucket s t b (2 ^ 20) (r.cursor / 65536) r.cursor = none → s.cellarState ≠ 2 →
        Completes (.rebuildStep t b) s (fun u => (u.till t).rebuild
          = KV.del (KV.put (s.till t).rebuild b { r with cursor := s.topSector }) b)) ∧
      (∀ sec, nextInBucket s t b (2 ^ 20) (r.cursor / 65536) r.cursor = some sec → 4 ≤ (s.till t).internalFree →
        0 < KV.get s.au.orderCred (ordKey t 3) 0 →
        Completes (.rebuildStep t b) s (fun u => KV.find? (u.till t).rebuild b = some { r with cursor := sec + 1 }
          ∧ (∃ p ∈ (u.till t).secOps, p.2.sector = sec ∧ p.2.kind = .resolve false))))

/-- Scrubbing, row retirement and the two watchdogs (R362, R375, R377, R381): a run over pages that hold no entry moves to the
next bank, and a pass counts; an ordered row takes the lowest spare row of its bank, and OTP keeps the remap; a Till that has
made no progress fails with cause 1; a bank held too long is reported and marked. -/
def Obligations.StorageCareAndWatchdogs : Prop :=
  ∀ (s : State) (t : Nat), s.Inv → s.calm t →
    (∀ bank, ((s.till t).scrubBank ≠ bank ∨ (s.till t).scrubCredit < 1024) → exec (.scrubRun t bank []) s = .next s) ∧
    ((s.till t).scrubBank < 16 → 1024 ≤ (s.till t).scrubCredit →
      runPages (s.till t) (s.till t).scrubBank (s.till t).scrubPage = [] →
      Completes (.scrubRun t (s.till t).scrubBank []) s (fun u =>
        (u.till t).scrubCredit = (s.till t).scrubCredit - 1024
          ∧ (u.till t).scrubBank = ((s.till t).scrubBank + 1) % 16
          ∧ (u.till t).scrubPage = (if (s.till t).scrubBank = 15 then
              (if (s.till t).scrubPage = 496 then 0 else (s.till t).scrubPage + 16) else (s.till t).scrubPage)
          ∧ u.rawN (0x3030 + 0x80 * t) 6 = (if (s.till t).scrubBank = 15 ∧ (s.till t).scrubPage = 496 then
              (s.rawN (0x3030 + 0x80 * t) 6 + 1) % 2 ^ 32 else s.rawN (0x3030 + 0x80 * t) 6)
          ∧ (u.till t).vault = (s.till t).vault ∧ (u.till t).folios = (s.till t).folios ∧ u.out = s.out)) ∧
    (∀ bank row, (t, bank, row) ∉ s.au.retire → exec (.retireRow t bank row) s = .next s) ∧
    (∀ bank row, (t, bank, row) ∈ s.au.retire →
      let n := KV.get (s.till t).rowsRetired bank 0
      Completes (.retireRow t bank row) s (fun u => (t, bank, row) ∉ u.au.retire
        ∧ KV.get (u.till t).rowsRetired bank 0 = min 255 (n + 1)
        ∧ (n < 32 → u.fuses = { s.fuses with remaps := s.fuses.remaps ++ [(t, bank, row, n)] }
            ∧ KV.find? (u.till t).remap (bank * 4096 + row) = some n ∧ Reports s u 0x212)
        ∧ (n = 31 → Reports s u 0x108) ∧ (32 ≤ n → u.fuses = s.fuses))) ∧
    ((s.till t).idleTicks < s.rawN 0x7000 7 → exec (.tillWatchdog t) s = .next s) ∧
    (s.rawN 0x7000 7 ≤ (s.till t).idleTicks → Completes (.tillWatchdog t) s (fun u => (u.till t).fn.st = .failed
      ∧ (u.till t).failCause = 1 ∧ Reports s u 0x001
      ∧ (∀ w, s.build.hasWicket w = true → (t, w, .tillDown) ∈ u.net.p))) ∧
    (∀ bank, bank < 16 →
      let a := KV.get (s.till t).banks bank {}
      ((a.locked = false ∨ a.stuck = true ∨ s.due a.grantTick (s.rawN 0x6800 2) = false) →
        exec (.bankWatchdog t bank) s = .next s) ∧
      (a.locked = true → a.stuck = false → s.due a.grantTick (s.rawN 0x6800 2) = true →
        Completes (.bankWatchdog t bank) s (fun u =>
          KV.find? (u.till t).banks bank = some { a with stuck := true }
            ∧ u.rawN (0x3020 + 0x80 * t) 2 = (s.rawN (0x3020 + 0x80 * t) 2 ||| 2 ^ bank)
            ∧ u.rawN (0x3020 + 0x80 * t) 3 = a.grant.getD 0 % 2 ^ 64 ∧ Reports s u 0x105 ∧ u.out = s.out)))

/-! ## Transfers -/

/-- The steps of a planned transfer (R386 to R392): a run copies its entries to the same places at the destination, SWITCH moves
the next batch in the map and gates it there, HANDOVER goes to every Wicket, COPY_END to the destination, and each Wicket that
has had the source's completions acknowledges; with COPY_END and every acknowledgement the batch is handed over. -/
def Obligations.PlannedTransferSteps : Prop :=
  ∀ (s : State) (x : Transfer), s.Inv → s.transfers = [x] → x.planned = true → s.calm x.src → s.build.hasTill x.dst = true →
    x.src ≠ x.dst →
    (x.state = 1 → ∀ bank, bank < 16 → KV.get (s.till x.src).copyBank bank 0 < 32 → 0 < KV.get s.au.orderCred (1024 + bank) 0 →
      let run := KV.get (s.till x.src).copyBank bank 0
      let lo := vkey bank (run * 64) 0
      Completes (.copyRun x.src bank) s (fun u => KV.get (u.till x.src).copyBank bank 0 = run + 1
        ∧ u.till x.dst = ((s.till x.src).vault.filter (fun p => decide (lo ≤ p.1) && decide (p.1 < lo + 1024))).foldl
            (fun v p => v.vwrite p.1 (eccFix p.2)) (s.till x.dst)
        ∧ u.transfers = s.transfers ∧ u.maps = s.maps)) ∧
    ((x.state = 1 ∨ x.state = 2) → x.batch = [] → (s.till x.src).copied = true → s.maps.bPend = [] → s.oldBGen = false →
      let l := (s.bucketsOf x.src).take 16
      Completes (.switch x.done) s (fun u => u.maps.bPend = switchNodes s.build ∧ u.maps.bByTransfer = true
        ∧ u.maps.bLive = l.foldl (fun m b => s.setBucket m b x.dst) s.maps.bLive ∧ u.maps.bPrev = s.maps.bLive
        ∧ (∀ b ∈ l, b ∈ (u.till x.dst).gated)
        ∧ u.transfers = [{ x with state := 2, batch := l, notice := false, copySent := false, gateCclk := s.time.cclk }])) ∧
    (∀ n, n ≠ x.done → exec (.switch n) s = .next s) ∧
    (x.batch ≠ [] → x.notice = false → s.maps.bPend = [] → s.chainOpen x = false →
      Completes (.handoverSend x.src) s (fun u => u.transfers = [{ x with notice := true }]
        ∧ u.net.p = s.net.p ++ s.build.wicketList.map (fun w => (x.src, w, .handover x.batch)) ∧ u.maps = s.maps)) ∧
    (x.batch ≠ [] → x.notice = true → x.copySent = false → s.batchOpen x = false → (s.till x.src).vault = [] →
      (s.till x.dst).vault = [] → (s.till x.src).claims = [] →
      Completes (.copyEndSend x.src) s (fun u => u.transfers = [{ x with copySent := true }]
        ∧ u.net.copyEnd = s.net.copyEnd ++ [x.src])) ∧
    (x.src ∈ s.net.copyEnd → s.allAcked x.dst x.src = false →
      Completes (.copyEnd x.dst) s (fun u => (u.till x.dst).copyEnd = true ∧ u.transfers = s.transfers
        ∧ u.net.copyEnd = s.net.copyEnd.filter (· != x.src))) ∧
    (∀ w l, s.build.hasWicket w = true → s.frontP x.src w = some (.handover l) → s.owes w x.src = false →
      Completes (.handover w x.src) s (fun u => (u.wicket w).swTable = (s.wicket w).swTable.filter (fun e => !l.contains e.bucket)
        ∧ u.net.pw = s.net.pw ++ [(w, x.dst, .handoverAck x.src)])) ∧
    (∀ w l, s.build.hasWicket w = true → s.frontP x.src w = some (.handover l) → s.owes w x.src = true →
      exec (.handover w x.src) s = .next s) ∧
    (∀ w, s.build.hasWicket w = true → s.frontW w x.dst = some (.handoverAck x.src) →
      ((s.till x.dst).copyEnd = false →
        Completes (.handoverAck x.dst w) s (fun u => (u.till x.dst).acks = (s.till x.dst).acks ++ [x.src * 16 + w]
          ∧ u.transfers = s.transfers ∧ u.net.pw = dropFirst (fun y => y.1 == w && y.2.1 == x.dst) s.net.pw)) ∧
      ((s.till x.dst).copyEnd = true → x.batch ≠ [] → x.state = 2 → (s.till x.dst).deferred = [] → s.bucketsOf x.src ≠ [] →
        (∀ v, s.build.hasWicket v = true → v ≠ w → x.src * 16 + v ∈ (s.till x.dst).acks) →
        Completes (.handoverAck x.dst w) s (fun u =>
          u.transfers = [{ x with batch := [], notice := false, copySent := false, done := x.done + 1 }]
            ∧ (∀ b ∈ x.batch, b ∉ (u.till x.dst).gated))))

/-- A failed Till (R385, R393 to R397): TILL_DOWN reaches a Wicket, which sends its MARK and acknowledgement once it has
switched; the NI keeps the MARKs; with all of them the salvage empties the Till for its Till reset; the reset ends OFF, or
retires the Till. -/
def Obligations.FailedTillIsSalvagedAndReset : Prop :=
  ∀ (s : State) (t : Nat), s.Inv → s.build.hasTill t = true →
    (∀ w, s.build.hasWicket w = true → s.frontP t w = some .tillDown → s.owes w t = true → exec (.tillDown w t) s = .next s) ∧
    (∀ w, s.build.hasWicket w = true → s.frontP t w = some .tillDown → s.owes w t = false →
      (w ∈ s.maps.bPend → Completes (.tillDown w t) s (fun u => (u.wicket w).down = (s.wicket w).down ++ [t]
        ∧ u.net.marks = s.net.marks)) ∧
      (∀ x, w ∉ s.maps.bPend → (s.wicket w).down = [] → s.transfers = [x] → x.planned = false → x.state = 3 → x.src = t →
        Completes (.tillDown w t) s (fun u => (u.wicket w).down = [] ∧ u.net.marks = s.net.marks ++ [(t, w)]
          ∧ u.net.pw = s.net.pw ++ [(w, x.dst, .handoverAck t)]))) ∧
    (∀ w, s.build.hasWicket w = true →
      ((t, w) ∈ s.net.marks → Completes (.salvageMark t w) s (fun u => (u.till t).marks = (s.till t).marks ++ [w]
        ∧ u.net.marks = dropFirst (· == (t, w)) s.net.marks ∧ u.transfers = s.transfers)) ∧
      ((t, w) ∉ s.net.marks → exec (.salvageMark t w) s = .next s)) ∧
    (∀ x, s.xfer? t = some x → x.planned = false → x.state = 3 → x.salvaged = false →
      ((∃ w, s.build.hasWicket w = true ∧ w ∉ (s.till t).marks) → exec (.salvage t) s = .next s) ∧
      ((∀ w, s.build.hasWicket w = true → w ∈ (s.till t).marks) → s.transfers = [x] → x.dst ≠ t → x.served = true →
        (s.till t).folios = [] → (s.till t).receipts = [] → (∀ q ∈ s.net.q, q.till ≠ t) → shortAgents s t = [] →
        s.allAcked x.dst t = false → (∀ u ∈ s.tills, u.failDue = none) →
        Completes (.salvage t) s (fun u => (u.till t).role = .reset ∧ (u.till t).claims = [] ∧ (u.till t).monitors = []
          ∧ u.transfers = [{ x with salvaged := true }] ∧ u.rawN 0x7010 7 = s.rawN 0x7010 7 % 2 ^ 32))) ∧
    (((s.till t).fn.st ≠ .failed ∨ (s.till t).role ≠ .reset ∨ (s.xfer? t).isSome = true) →
      ∀ ok, exec (.tillReset t ok) s = .next s) ∧
    ((s.till t).fn.st = .failed → (s.till t).role = .reset → s.xfer? t = none →
      Completes (.tillReset t true) s (fun u => (u.till t).fn.st = .off ∧ (u.till t).role = .none ∧ (u.till t).failCause = 0
        ∧ (u.till t).folios = [] ∧ (u.till t).vault = [] ∧ (u.till t).claims = [] ∧ (u.till t).ce = (s.till t).ce
        ∧ (u.till t).remap = (s.till t).remap) ∧
      Completes (.tillReset t false) s (fun u => (u.till t).fn.st = .failed ∧ (u.till t).role = .none
        ∧ (u.till t).failCause = 5 ∧ Reports s u 0x109))

/-! ## The port and the Exchange -/

/-- A decision of the port (R128, R349, R352, R354), `dt` CCLK on: the request of the bypass on a kept credit, else the request the
shapers choose on the credit its lane has; it leaves its entry as a Q flit and its credit is spent. A decision of a bank's
arbiter (R359 to R361): nothing while a locked sequence holds the bank, zero wait counters where none asks, else the winner,
the wait counters of the others, and the two counts. -/
def Obligations.PortAndBankDecide : Prop :=
  ∀ s : State, s.Inv →
    (∀ w dt, s.build.hasWicket w = true →
      let a := advance s dt
      let sent := fun (e : Adm) (src : Src) (u : State) =>
        u.net.q = a.net.q ++ [{ w := w, till := e.till, opc := e.opc, aid := e.aid, inc := e.inc, tag := e.tag
                                laddr := e.laddr, strm := e.strm, param := e.param, crd := src, bgen := e.bgen
                                rgen := e.rgen, rcpt := e.rcpt.getD 0, cls := e.cls, wdata := e.wdata
                                origin := e.origin, epoch := e.epoch }]
          ∧ (u.wicket w).creds = ((a.wicket w).take e src).creds ∧ (∀ y ∈ (u.wicket w).entries, y.seq ≠ e.seq)
          ∧ u.tills = a.tills
      (∀ e, a.pickBypass w = some e → Completes (.requestInjection w dt) s (fun u => sent e .kept u
        ∧ u.rawN (0x6000 + w) 9 = (a.rawN (0x6000 + w) 9 + 1) % 2 ^ 64)) ∧
      (∀ e src, a.pickBypass w = none → a.pickShaped w = some e → (a.wicket w).creditFor e = some src →
        Completes (.requestInjection w dt) s (fun u => sent e src u)) ∧
      (a.pickBypass w = none → a.pickShaped w = none →
        Completes (.requestInjection w dt) s (fun u => u.net.q = a.net.q
          ∧ (u.wicket w).entries = (a.wicket w).entries ∧ u.tills = a.tills ∧ u.out = a.out))) ∧
    (∀ t bank dt (raised : BitVec 4) (lockStart lockEnd : Bool), s.build.hasTill t = true → bank < 16 →
      let b := advance s dt
      let a := KV.get (b.till t).banks bank {}
      let l := (List.range 4).filter (fun r => raised.getLsbD r)
      let win := bankWinner (b.rawN 0x6800 0) (b.rawN 0x6800 1) (b.bankLfsr t bank) a.wait l
      (a.locked = true → (a.debugLock = true ∨ lockEnd = false) →
        exec (.bankArbitration t bank dt raised lockStart lockEnd) s = .next b) ∧
      ((a.locked = false ∨ (a.debugLock = false ∧ lockEnd = true)) →
        (l = [] → Completes (.bankArbitration t bank dt raised lockStart lockEnd) s (fun u =>
          ∃ x, KV.find? (u.till t).banks bank = some x ∧ x.wait = [0, 0, 0, 0] ∧ x.grant = none ∧ x.locked = false)) ∧
        (l ≠ [] → Completes (.bankArbitration t bank dt raised lockStart lockEnd) s (fun u =>
          (∃ x, KV.find? (u.till t).banks bank = some x ∧ x.grant = some win.1 ∧ x.grantTick = b.time.tick
            ∧ x.locked = (lockStart && (win.1 == 1 || win.1 == 3))
            ∧ x.wait = (List.range 4).map (fun r => if r = win.1 ∨ r ∉ l then 0
                else min (a.wait.getD r 0 + 1) (byteOf (b.rawN 0x6800 1) r)))
            ∧ u.rawN (0x3020 + 0x80 * t) 0 = (if win.2 = true then (b.rawN (0x3020 + 0x80 * t) 0 + 1) % 2 ^ 64
                else b.rawN (0x3020 + 0x80 * t) 0)
            ∧ u.rawN (0x3020 + 0x80 * t) 1 = (if lockStart = true ∧ (win.1 = 1 ∨ win.1 = 3) then
                (b.rawN (0x3020 + 0x80 * t) 1 + 1) % 2 ^ 64 else b.rawN (0x3020 + 0x80 * t) 1)))))

/-- The links and the stall watchdog (R332 to R334): what a correctable and an uncorrectable flit, a half at its limit, a lost
link, a buffer error and a stall do, and what RETRAIN answers. -/
def Obligations.LinksAndStalls : Prop :=
  ∀ s : State, s.Inv →
    (∀ l half e, hasLink s.build l = true → half < 2 →
      let x := s.link l
      let works := if half = 0 then x.half0 else x.half1
      let n := (if half = 0 then x.replay0 else x.replay1) + 1
      let c : LinkEvent → Instr := fun e => .linkFlitError l half e
      (2 ≤ x.state → exec (c e) s = .next s) ∧
      (x.state < 2 →
        exec (c .bufferCorrected) s = .next (s.bump ⟨0x5000, 9, 64⟩) ∧
        Completes (c .bufferPayload) s (fun u => Reports s u 0x009 ∧ u.fatal = s.fatal ∧ u.tills = s.tills) ∧
        ((e = .bufferControl ∨ e = .chkMismatch) →
          Completes (c e) s (fun u => u.fatal = true ∧ u.global = 3 ∧ Reports s u 0x00A ∧ u.net = s.net)) ∧
        (works = false → exec (c .correctable) s = .next s ∧ exec (c .uncorrectable) s = .next s) ∧
        (works = true → Completes (c .correctable) s (fun u =>
          u.exch.links = KV.set s.exch.links l (if half = 0 then { x with replay0 := 0 } else { x with replay1 := 0 }) {}
            ∧ u.rawN (0x5400 + l) 2 = (s.rawN (0x5400 + l) 2 + 1) % 2 ^ 32 ∧ u.fatal = s.fatal)) ∧
        (works = true → n < s.rawN 0x5000 6 → Completes (c .uncorrectable) s (fun u =>
          u.link l = (if half = 0 then { x with replay0 := n } else { x with replay1 := n })
            ∧ u.rawN (0x5400 + l) 3 = (s.rawN (0x5400 + l) 3 + 1) % 2 ^ 32 ∧ u.fatal = s.fatal)) ∧
        (works = true → s.rawN 0x5000 6 ≤ n →
          (x.state = 0 → Completes (c .uncorrectable) s (fun u => (u.link l).state = 1
            ∧ (u.link l).half0 = decide (half ≠ 0) ∧ (u.link l).half1 = decide (half = 0) ∧ Reports s u 0x103
            ∧ u.fatal = s.fatal)) ∧
          (x.state = 1 → s.linkUsed l = false → Completes (c .uncorrectable) s (fun u => (u.link l).state = 2
            ∧ Reports s u 0x104 ∧ u.fatal = s.fatal)) ∧
          (x.state = 1 → s.linkUsed l = true → Completes (c .uncorrectable) s (fun u => (u.link l).state = 2
            ∧ Reports s u 0x008 ∧ Reports s u 0x00A ∧ u.fatal = true ∧ u.global = 3))))) ∧
    (∀ l, l < 128 → hasLink s.build l = true →
      ((s.link l).state ≠ 3 → ∀ a b, exec (.retrainDone l a b) s = .next s) ∧
      ((s.link l).state = 3 → ∀ a b, Completes (.retrainDone l a b) s (fun u => u.exch.links = KV.set s.exch.links l
        { s.link l with
          state := if a && b then 0 else if a || b then 1 else 2
          half0 := a, half1 := b, replay0 := 0, replay1 := 0 } {} ∧ u.out = s.out)) ∧
      (s.windowOpen → (s.linkUsed l = true ∨ s.exch.routeBusy = true) →
        Completes (.retrain l) s (fun u => u.link l = { s.link l with last := 1 })) ∧
      (s.windowOpen → s.linkUsed l = false → s.exch.routeBusy = false →
        Completes (.retrain l) s (fun u => u.link l = { s.link l with state := 3, last := 0 }))) ∧
    (∀ node port vc, node % 8 < s.build.side → node / 8 < s.build.side → port < 5 → vc < 4 →
      (port ≠ 0 → s.exch.localBite = some s.time.tick → exec (.exchStall node port vc) s = .next s) ∧
      (port ≠ 0 → s.exch.localBite ≠ some s.time.tick → Completes (.exchStall node port vc) s (fun u =>
        u.fatal = true ∧ u.global = 3 ∧ Reports s u 0x007 ∧ Reports s u 0x00A ∧ u.agents = s.agents)) ∧
      (port = 0 → (s.build.nodeAt node = none ∨ s.build.nodeAt node = some .au ∨ s.build.nodeAt node = some .ch) →
        Completes (.exchStall node port vc) s (fun u => u.fatal = true ∧ u.global = 3 ∧ Reports s u 0x007
          ∧ Reports s u 0x00A)) ∧
      (∀ t, port = 0 → s.build.nodeAt node = some (.till t) → s.calm t → s.walked t = true →
        Completes (.exchStall node port vc) s (fun u => (u.till t).fn.st = .failed ∧ (u.till t).failCause = 3
          ∧ Reports s u 0x007 ∧ Reports s u 0x001 ∧ u.fatal = s.fatal)) ∧
      (∀ w, port = 0 → s.build.nodeAt node = some (.wicket w) →
        (∀ a ∈ (s.wicket w).resetting, (s.agent a.toNat).state ≠ .foreclosing) →
        Completes (.exchStall node port vc) s (fun u => Reports s u 0x007 ∧ u.fatal = s.fatal
          ∧ (∀ n ∈ s.bound w, n < 1024 → (u.agent n).state = .foreclosing ∧ (u.agent n).cause = 5))))

/-- ROUTE_COMMIT (R335, R336): BUSY, the first failed check, OK at once where nothing changes, else MARKs for every changed
entry in each class; the destination answers each MARK, and the fifth acknowledgement switches the entry; the last entry ends
the commit. -/
def Obligations.RouteCommitIsFenced : Prop :=
  ∀ s : State, s.Inv →
    (s.windowOpen →
      (s.exch.routeBusy = true → Completes .routeCommit s (fun u => u.rawN 0x5000 1 = 1
        ∧ u.exch.routeSteps = s.exch.routeSteps)) ∧
      (∀ k x d, s.exch.routeBusy = false → routeFailure s = some (k, x, d) → Completes .routeCommit s (fun u =>
        u.rawN 0x5000 1 = 3 ∧ u.rawN 0x5000 3 = (k * 2 ^ 12 + x * 64 + d) % 2 ^ 64 ∧ u.exch.routeBusy = false)) ∧
      (s.exch.routeBusy = false → routeFailure s = none →
        let l := (routePairs s.build).filter (fun p => s.routeLive p.1 p.2 != s.routeShadow p.1 p.2)
        (l = [] → Completes .routeCommit s (fun u => u.rawN 0x5000 1 = 0 ∧ u.rawN 0x5000 3 = 0 ∧ u.exch.routeBusy = false)) ∧
        (l ≠ [] → Completes .routeCommit s (fun u => u.rawN 0x5000 1 = 1 ∧ u.rawN 0x5000 3 = 0 ∧ u.exch.routeBusy = true
          ∧ u.exch.routeSteps = l.map (fun p => ⟨p.1, p.2, [0, 1, 2, 3, 4], [], []⟩))))) ∧
    (∀ src dst cls, (s.build.nodeAt src).isSome = true → (s.build.nodeAt dst).isSome = true →
      ((∀ r ∈ s.exch.routeSteps, r.src = src → r.dst = dst → cls ∉ r.marks) → exec (.routeMark src dst cls) s = .next s) ∧
      ((∃ r ∈ s.exch.routeSteps, r.src = src ∧ r.dst = dst ∧ cls ∈ r.marks) →
        Completes (.routeMark src dst cls) s (fun u => u.exch.routeSteps = s.exch.routeSteps.map (fun r =>
          if r.src == src && r.dst == dst then
            { r with marks := r.marks.filter (· != cls), acking := r.acking ++ [cls] } else r) ∧ u.out = s.out)) ∧
      ((∀ r ∈ s.exch.routeSteps, r.src = src → r.dst = dst → cls ∉ r.acking) →
        exec (.routeMarkAck src dst cls) s = .next s) ∧
      (∀ r, s.exch.routeSteps = [r] → r.src = src → r.dst = dst → cls ∈ r.acking →
        (r.acked.length < 4 → Completes (.routeMarkAck src dst cls) s (fun u => u.exch.routeBusy = s.exch.routeBusy
          ∧ u.exch.routeSteps = [{ r with acking := r.acking.filter (· != cls), acked := r.acked ++ [cls] }])) ∧
        (4 ≤ r.acked.length → s.routeShadow src dst < 2 ^ 64 → Completes (.routeMarkAck src dst cls) s (fun u =>
          u.exch.routeSteps = [] ∧ u.exch.routeBusy = false ∧ u.routeLive src dst = s.routeShadow src dst
            ∧ u.rawN 0x5000 1 = 0 ∧ u.rawN 0x5000 2 = (s.rawN 0x5000 2 + 1) % 2 ^ 32))))

/-! ## The life of an agent -/

/-- Agent `n` dies with a cause (R291, R296): the entry as the death leaves it. -/
def diesOf (s t : State) (n cause : Nat) : Prop :=
  (t.agent n).state = .foreclosing ∧ (t.agent n).cause.toNat = cause ∧ (t.agent n).deadMark = true ∧ (t.agent n).grace = false
    ∧ (t.agent n).inc = (s.agent n).inc ∧ (t.agent n).foreCount = (s.agent n).foreCount + 1
    ∧ (t.agent n).deathTick = some s.time.tick

/-- AGENT_CMD (R283, R284): JOIN, LEAVE, FORECLOSE and RELEASE in every state of the entry: the next state, AGENT_RESULT, and
the incarnation, which no command changes (R288). In Retired the window has the authority of an Observer, and its JOIN is refused (R464). -/
def Obligations.AgentCommandsFollowTable : Prop :=
  (∀ (s : State) (n : Nat), s.Inv → s.windowOpen → n < 1024 →
      let a := s.agent n
      (a.state = .absent →
        (s.global = 1 → Completes (.join n) s (fun t => t.agent n = { a with result := 1 })) ∧
        (s.global ≠ 1 →
          (¬ (a.kind = 2 ∧ a.wicket = 8) → ¬ ((a.kind = 0 ∨ a.kind = 1) ∧ a.wicket.toNat < s.build.wickets) →
            Completes (.join n) s (fun t => t.agent n = { a with result := 3 })) ∧
          ((a.kind = 2 ∧ a.wicket = 8) ∨ ((a.kind = 0 ∨ a.kind = 1) ∧ a.wicket.toNat < s.build.wickets) →
            ((s.wicket a.wicket.toNat).fn.st ≠ .on →
              Completes (.join n) s (fun t => t.agent n = { a with result := 1 })) ∧
            ((s.wicket a.wicket.toNat).fn.st = .on →
              Completes (.join n) s (fun t => (t.agent n).state = .joining ∧ (t.agent n).result = 0 ∧ (t.agent n).inc = a.inc
                ∧ (t.agent n).escrowF = s.escrowF n ∧ (t.agent n).escrowD = s.escrowD n ∧ t.out = s.out))))) ∧
      (a.state = .joining ∨ a.state = .active → Completes (.join n) s (fun t => t.agent n = { a with result := 0 })) ∧
      (a.state = .leaving ∨ a.state = .foreclosing → Completes (.join n) s (fun t => t.agent n = { a with result := 1 })) ∧
      (a.state = .quarantined → Completes (.join n) s (fun t => t.agent n = { a with result := 2 })) ∧
      (a.state = .joining →
        (∀ c ∈ [Instr.leave n, .foreclose n], Completes c s (fun t =>
          t.agent n = { a with state := .absent, result := 0, committed := [] }
            ∧ t.tills = s.tills.map (fun u => { u with escrow := KV.del u.escrow n })))) ∧
      (a.state = .active → Completes (.leave n) s (fun t => t.agent n = { a with state := .leaving, result := 0 }
        ∧ (a.kind = 0 → ∃ x, t.au.leave = s.au.leave ++ [x] ∧ x.aid.toNat = n))) ∧
      (a.state = .active ∨ a.state = .leaving → Completes (.foreclose n) s (fun t => diesOf s t n 3 ∧ (t.agent n).result = 0)) ∧
      (a.state ≠ .joining → a.state ≠ .active → Completes (.leave n) s (fun t => t.agent n = { a with result := 0 })) ∧
      (a.state ≠ .joining → a.state ≠ .active → a.state ≠ .leaving →
        Completes (.foreclose n) s (fun t => t.agent n = { a with result := 0 })) ∧
      (a.state = .quarantined → Completes (.agentRelease n) s (fun t => t.agent n = { a with state := .absent, result := 0 })) ∧
      (a.state ≠ .quarantined → Completes (.agentRelease n) s (fun t => t.agent n = { a with result := 3 }))) ∧
  (∀ (s : State) (n : Nat), s.Inv → s.chartUp = true → s.inHold = false → s.power.offReady = false → s.fuses.lifecycle = 3 →
      n < 1024 → Completes (.join n) s (fun t => t.agents = s.agents
        ∧ t.rawN 0x1100 6 = (s.rawN 0x1100 6 + 1) % 2 ^ 32))

/-- The ends of a join (R285), a leave (R288, R289) and a foreclosure (R288, R301, R302), and the quarantine window (R302):
the entry, INC, the bind and unbind indications, the records, and the credits that a join gives (R135); before its conditions
hold, nothing ends. -/
def Obligations.AgentStepsEnd : Prop :=
  ∀ (s : State) (n : Nat), s.Inv → n < 1024 →
    let a := s.agent n
    let w := a.wicket.toNat
    (a.state = .joining → (∀ t ∈ s.joinTills, t ∈ a.committed) →
      Completes (.agentJoined n) s (fun t =>
        t.agent n = { a with state := .active, identity := a.remembered, committed := [] }
          ∧ Sends s t (.bind w true (BitVec.ofNat 10 n) a.inc) ∧ Reports s t 0x203
          ∧ (w < 9 → (t.wicket w).creds = s.joinTills.foldl (fun m k => KV.put m (ckey n k)
              { folios := a.escrowF - 1, data := a.escrowD - 1, keptF := min 1 a.escrowF, keptD := min 1 a.escrowD })
              (s.wicket w).creds))) ∧
    (a.state = .joining → s.foliosOpen n ≠ 0 → (∃ t ∈ s.joinTills, t ∉ a.committed) → exec (.agentJoined n) s = .next s) ∧
    (a.state ≠ .joining → exec (.agentJoined n) s = .next s) ∧
    (s.hasLeft n = true →
      Completes (.agentLeft n) s (fun t => t.agent n = { a with state := .absent, inc := a.inc + 1, grace := false }
        ∧ Sends s t (.bind w false (BitVec.ofNat 10 n) a.inc) ∧ Reports s t 0x204
        ∧ t.tills = s.tills.map (fun u => { u with escrow := KV.del u.escrow n }))) ∧
    (s.hasLeft n = false → exec (.agentLeft n) s = .next s) ∧
    (s.foreclosed n = true → s.power.deferred = [] → (a.link = false ∨ a.resetSeen = false) →
      ((a.cause = 4 ∨ s.rawN 0x2080 4 ≤ a.windowCount.toNat) →
        Completes (.foreclosureDone n) s (fun t =>
          t.agent n = { a with state := .quarantined, inc := a.inc + 1, deadMark := false }
            ∧ Reports s t 0x206 ∧ Reports s t 0x107 ∧ t.au.fore = s.au.fore.filter (fun x => x.aid.toNat != n))) ∧
      (a.cause ≠ 4 → a.windowCount.toNat < s.rawN 0x2080 4 →
        Completes (.foreclosureDone n) s (fun t =>
          t.agent n = { a with state := .absent, inc := a.inc + 1, deadMark := false }
            ∧ Reports s t 0x206 ∧ t.au.fore = s.au.fore.filter (fun x => x.aid.toNat != n)))) ∧
    (s.foreclosed n = false → exec (.foreclosureDone n) s = .next s) ∧
    (∀ k, a.state ≠ .foreclosing → a.deathTick = some k → k + s.rawN 0x2080 5 ≤ s.time.tick →
      exec (.quarantineWindow n) s = .next (s.setAgent n { a with windowCount := 0, deathTick := none })) ∧
    (a.state = .foreclosing ∨ a.deathTick = none ∨ (∃ k, a.deathTick = some k ∧ s.time.tick < k + s.rawN 0x2080 5) →
      exec (.quarantineWindow n) s = .next s)

/-! ## Link reports, Grace and death -/
/-- The reports of the port logic for an agent of its Wicket (R284, R286, R291, R292, R295): link down, link up and reset in
every state of the entry. That a link-up report with a reset outside Grace counts as AGENT_RESET is the model's reading. A link
reset (R305), reported or commanded through the Chart (R343): every agent bound to the Wicket dies with cause LINK_RESET. In
Hold a report wakes the Home and waits for the exit (R427). -/
def Obligations.LinkReportsAndResets : Prop :=
  (∀ (s : State) (w n : Nat) (identity : Word), s.Inv → s.build.hasWicket w = true → n < 1024 → s.boot ≠ .off →
      s.power.state ≠ 3 → s.inHold = false → (s.agent n).wicket.toNat = w →
      let a := s.agent n
      let aid : Aid := BitVec.ofNat 10 n
      (a.state = .absent ∨ a.state = .foreclosing ∨ a.state = .quarantined →
        Completes (.linkDown w aid) s (fun t => t.agent n = { a with link := false } ∧ t.out = s.out) ∧
        Completes (.agentReset w aid) s (fun t => t.agent n = { a with resetSeen := true } ∧ t.out = s.out) ∧
        Completes (.linkUp w aid false identity) s (fun t => t.agent n = { a with link := true, remembered := identity }
          ∧ t.out = s.out)) ∧
      (a.state = .absent → a.autoRejoin = true → joinResult s n = 0 →
        Completes (.linkUp w aid true identity) s (fun t => (t.agent n).state = .joining ∧ (t.agent n).remembered = identity
          ∧ (t.agent n).inc = a.inc)) ∧
      (a.state = .absent → (a.autoRejoin = false ∨ joinResult s n ≠ 0) →
        Completes (.linkUp w aid true identity) s (fun t =>
          t.agent n = { a with link := true, remembered := identity, resetSeen := true })) ∧
      (a.state = .joining →
        Completes (.linkDown w aid) s (fun t => t.agent n = { a with state := .absent, link := false, committed := [] }) ∧
        Completes (.agentReset w aid) s (fun t => t.agent n = { a with state := .absent, committed := [] })) ∧
      (a.state = .active ∨ a.state = .leaving →
        (a.grace = false → a.kind ≠ 2 → s.rawN 0x2080 0 ≠ 0 →
          Completes (.linkDown w aid) s (fun t => t.agent n = { a with
              link := false, grace := true, graceStart := s.time.tick, graceLen := s.rawN 0x2080 0 } ∧ t.out = s.out)) ∧
        (a.grace = false → a.kind ≠ 2 → s.rawN 0x2080 0 = 0 →
          Completes (.linkDown w aid) s (fun t => diesOf s t n 1 ∧ (t.agent n).link = false)) ∧
        (a.grace = false → a.kind = 2 → Completes (.linkDown w aid) s (fun t => diesOf s t n 6)) ∧
        (a.grace = true → Completes (.linkDown w aid) s (fun t => t.agent n = { a with link := false })) ∧
        Completes (.agentReset w aid) s (fun t => diesOf s t n 6 ∧ (t.agent n).resetSeen = true) ∧
        (a.grace = true →
          Completes (.linkUp w aid true identity) s (fun t => diesOf s t n 6) ∧
          (identity ≠ a.identity → Completes (.linkUp w aid false identity) s (fun t => diesOf s t n 7)) ∧
          (identity = a.identity → a.readmit = false → Completes (.linkUp w aid false identity) s (fun t => diesOf s t n 8)) ∧
          (identity = a.identity → a.readmit = true →
            Completes (.linkUp w aid false identity) s (fun t =>
              t.agent n = { a with link := true, remembered := identity, grace := false }
                ∧ Sends s t (.bind w true aid a.inc) ∧ Reports s t 0x205
                ∧ (∀ p ∈ (t.wicket w).graceOut, p.1 ≠ aid)
                ∧ (∀ p ∈ (t.wicket w).sids, p.2.aid = aid → p.2.heldOut = false ∧ p.2.startTick = s.time.tick)))) ∧
        (a.grace = false →
          Completes (.linkUp w aid false identity) s (fun t => t.agent n = { a with link := true, remembered := identity }) ∧
          Completes (.linkUp w aid true identity) s (fun t => diesOf s t n 6)))) ∧
  (∀ (s : State) (w : Nat), s.Inv → s.build.hasWicket w = true → (∀ p ∈ s.agents, p.1 < 1024) →
      (∀ a ∈ (s.wicket w).resetting, (s.agent a.toNat).state ≠ .foreclosing) →
      (∀ n ∈ s.bound w,
        (s.boot ≠ .off → s.power.state ≠ 3 → s.inHold = false → Completes (.linkReset w) s (fun t => diesOf s t n 5)) ∧
        (s.windowOpen → Completes (.wicketLinkReset w 1) s (fun t => diesOf s t n 5))) ∧
      (∀ n, n ∉ s.bound w →
        (s.boot ≠ .off → s.power.state ≠ 3 → s.inHold = false → Completes (.linkReset w) s (fun t => t.agent n = s.agent n)) ∧
        (s.windowOpen → Completes (.wicketLinkReset w 1) s (fun t => t.agent n = s.agent n))) ∧
      (∀ v : BitVec 8, v ≠ 1 → s.windowOpen → exec (.wicketLinkReset w v) s = .next (applied (s.gev 0x10C))) ∧
      (s.boot ≠ .off → s.power.state = 2 → ∀ (aid : Aid) (r : Bool) (i : Word),
        ∀ c ∈ [Instr.linkReset w, .linkDown w aid, .linkUp w aid r i, .agentReset w aid],
          exec c s = .next ((leaveHold s 3).modPower (fun p => { p with deferred := p.deferred ++ [c] }))))

/-- The timers of an agent (R292, R293, R427) and its death (R296): Grace that is due, and a snoop at its timeout while the
agent's link is up, kill it; a death sends the unbind indication, writes AGENT_DEAD, counts in FORECLOSURES, drops the agent's
admission entries, and puts a caching host into the walk set. The whole effect is stated for an agent of an external Wicket
with no snoop, credit, Folio, Claim or monitor of anyone outstanding. -/
def Obligations.AgentTimersAndDeath : Prop :=
  ∀ (s : State) (n : Nat), s.Inv → n < 1024 →
    let a := s.agent n
    let w := a.wicket.toNat
    let aid : Aid := BitVec.ofNat 10 n
    let expired := a.grace = true ∧ a.graceStart + a.graceLen ≤ s.time.tick ∧ s.inHold = false
    (expired → a.state = .active ∨ a.state = .leaving → Completes (.grace n) s (fun t => diesOf s t n 1)) ∧
    (¬ expired → exec (.grace n) s = .next s) ∧
    (∀ v sid, s.build.hasWicket v = true →
      (KV.find? (s.wicket v).sids sid = none → exec (.snoopTimeout v sid) s = .next s) ∧
      (∀ p : Snoop, KV.find? (s.wicket v).sids sid = some p →
        (p.heldOut = false → (s.agent p.aid.toNat).grace = false → p.startTick + p.timeout ≤ s.time.tick →
          s.serving p.aid.toNat = true → Completes (.snoopTimeout v sid) s (fun t => diesOf s t p.aid.toNat 2)) ∧
        (p.heldOut = true ∨ (s.agent p.aid.toNat).grace = true ∨ s.time.tick < p.startTick + p.timeout →
          exec (.snoopTimeout v sid) s = .next s))) ∧
    (expired → a.state = .active → w < 8 → (s.wicket w).sids = [] → (s.wicket w).sWait = [] → (s.wicket w).creds = [] →
      (∀ u ∈ s.tills, u.folios = [] ∧ u.claims = [] ∧ u.gathers = [] ∧ u.monitors = []) →
      Completes (.grace n) s (fun t => diesOf s t n 1 ∧ Sends s t (.bind w false aid 0) ∧ Reports s t 0x106
        ∧ t.rawN 0x2080 8 = (s.rawN 0x2080 8 + 1) % 2 ^ 32
        ∧ (t.wicket w).entries = (s.wicket w).entries.filter (fun e => e.aid != aid)
        ∧ (t.wicket w).graceOut = (s.wicket w).graceOut.filter (fun p => p.1 != aid)
        ∧ (a.kind = 0 → ∃ x, t.au.fore = s.au.fore ++ [x] ∧ x.aid = aid)
        ∧ (a.kind ≠ 0 → t.au.fore = s.au.fore) ∧ t.tills = s.tills))

/-! ## Writes of configuration -/
/-- AGENT_CFG (R280): while the entry is Absent the fields take the written bits, and the reserved bits are ignored; in any
other state the write is refused and AGENT_RESULT reads BUSY. TENANT_MEMBERS (R165): a slice takes the written value at once; a
write that removes a member that is not Absent or has an open Folio changes nothing. Escrow (R125, R127): a value of the legal
range that keeps both sums over the 1,024 entries within 16,128 Folios and 6,080 data buffers is stored, and ESCROW_RESULT
reads OK; any other is refused, and ESCROW_RESULT reads INVALID. -/
def Obligations.AgentTenantAndEscrowWrites : Prop :=
  (∀ s : State, s.Inv → s.windowOpen →
      (∀ (n : Nat) (v : BitVec 32), n < 1024 →
        ((s.agent n).state = .absent →
          Completes (.agentCfgWrite n v) s (fun t =>
            (t.agent n).kind.toNat = v.toNat / 2 ^ 30 ∧ (t.agent n).wicket.toNat = v.toNat / 2 ^ 26 % 16
              ∧ (t.agent n).strm = v.getLsbD 25 ∧ (t.agent n).readmit = v.getLsbD 24 ∧ (t.agent n).autoRejoin = v.getLsbD 23
              ∧ (t.agent n).state = .absent ∧ (t.agent n).inc = (s.agent n).inc ∧ (t.agent n).identity = (s.agent n).identity
              ∧ t.tills = s.tills ∧ t.out = s.out)) ∧
        ((s.agent n).state ≠ .absent →
          Completes (.agentCfgWrite n v) s (fun t => t.agent n = { s.agent n with result := 1 }
            ∧ t.rawN 0x1100 6 = (s.rawN 0x1100 6 + 1) % 2 ^ 32 ∧ t.tills = s.tills ∧ t.out = s.out))) ∧
      (∀ (k i : Nat) (v : Word), 0 < k → k < 64 → i < 16 →
        ((∀ b, b < 64 → (s.raw (0x2040 + k) i).getLsbD b = true → v.getLsbD b = false →
            (s.agent (64 * i + b)).state = .absent ∧ s.foliosOpen (64 * i + b) = 0) →
          Completes (.tenantMembersWrite k i v) s (fun t => t.raw (0x2040 + k) i = v ∧ t.agents = s.agents ∧ t.tills = s.tills)) ∧
        ((∃ b, b < 64 ∧ (s.raw (0x2040 + k) i).getLsbD b = true ∧ v.getLsbD b = false
            ∧ ((s.agent (64 * i + b)).state ≠ .absent ∨ s.foliosOpen (64 * i + b) ≠ 0)) →
          Completes (.tenantMembersWrite k i v) s (fun t => t.raw (0x2040 + k) i = s.raw (0x2040 + k) i
            ∧ t.rawN 0x1100 6 = (s.rawN 0x1100 6 + 1) % 2 ^ 32 ∧ t.agents = s.agents)))) ∧
  (∀ (s : State) (n j : Nat) (v : BitVec 16), s.Inv → s.windowOpen → n < 1024 → j < 2 →
      let top := if j = 1 then 64 else 1024
      let u := s.modAgent n (fun a => if j = 1 then { a with dataEscrow := v } else { a with folioEscrow := v })
      let d := s.setRawN 0x4010 j v.toNat
      (v = 0 ∨ (2 ≤ v.toNat ∧ v.toNat ≤ top) → u.escrowSums.1 ≤ 16128 → u.escrowSums.2 ≤ 6080 →
        Completes (.escrowWrite (0x4400 + n) j v) s (fun t => t.agents = u.agents ∧ t.rawN 0x4010 4 = 0 ∧ t.tills = s.tills)) ∧
      ((v ≠ 0 ∧ (v.toNat < 2 ∨ top < v.toNat)) ∨ 16128 < u.escrowSums.1 ∨ 6080 < u.escrowSums.2 →
        Completes (.escrowWrite (0x4400 + n) j v) s (fun t => t.agents = s.agents ∧ t.rawN 0x4010 4 = 3
          ∧ t.rawN 0x1100 6 = (s.rawN 0x1100 6 + 1) % 2 ^ 32)) ∧
      (2 ≤ v.toNat → v.toNat ≤ top → d.escrowSums.1 ≤ 16128 → d.escrowSums.2 ≤ 6080 →
        Completes (.escrowWrite 0x4010 j v) s (fun t => t.rawN 0x4010 j = v.toNat ∧ t.rawN 0x4010 4 = 0 ∧ t.agents = s.agents)) ∧
      (v.toNat < 2 ∨ top < v.toNat ∨ 16128 < d.escrowSums.1 ∨ 6080 < d.escrowSums.2 →
        Completes (.escrowWrite 0x4010 j v) s (fun t => t.rawN 0x4010 j = s.rawN 0x4010 j ∧ t.rawN 0x4010 4 = 3
          ∧ t.agents = s.agents)))
/-- The slot block (R309, R310): a press of the attention button sets ATTN_PRESSED and writes SLOT_ATTENTION, and with
DETACH_ON_ATTN every Active agent bound to the Wicket leaves; SLOT_CTRL stores its fields, an indicator value of 3 refuses the
whole write, and a change of POWER_EN enables or disables the Wicket. A shaper's configuration entry (R351, R355): a legal
value is stored with its reserved bits 0; while the shaper is ON or DRAINING it applies as APPLY says, and otherwise the next
enable uses it; an illegal value is refused. -/
def Obligations.SlotAndShaperWrites : Prop :=
  (∀ (s : State) (w : Nat) (v : BitVec 16), s.Inv → w < s.build.wickets →
      let old := s.rawN (0xC800 + w) 1
      let x := s.fn (.wicket w)
      (old / 2 ^ 7 % 2 = 0 →
        Completes (.slotAttention w) s (fun t => t.rawN (0xC800 + w) 0 = s.rawN (0xC800 + w) 0 ||| 16 ∧ Reports s t 0x219
          ∧ t.agents = s.agents ∧ t.tills = s.tills ∧ t.out = s.out)) ∧
      (old / 2 ^ 7 % 2 = 1 → ∀ n, (s.agent n).state = .active → (s.agent n).wicket.toNat = w →
        Completes (.slotAttention w) s (fun t => (t.agent n).state = .leaving ∧ (t.agent n).inc = (s.agent n).inc)) ∧
      (s.windowOpen → v.toNat / 4 % 4 ≠ 3 → v.toNat % 4 ≠ 3 →
        (old / 64 % 2 = v.toNat / 64 % 2 →
          Completes (.slotCtrlWrite w v) s (fun t =>
            t.rawN (0xC800 + w) 1 = v.toNat / 64 % 4 * 64 + v.toNat % 16 ∧ t.wickets = s.wickets ∧ t.agents = s.agents)) ∧
        (old / 64 % 2 = 0 → v.toNat / 64 % 2 = 1 →
          Completes (.slotCtrlWrite w v) s (fun t => t.fn (.wicket w) = x.enable.1 ∧ t.agents = s.agents)) ∧
        (old / 64 % 2 = 1 → v.toNat / 64 % 2 = 0 → x.st ≠ .on →
          Completes (.slotCtrlWrite w v) s (fun t => t.fn (.wicket w) = x.disable.1 ∧ t.agents = s.agents)) ∧
        (old / 64 % 2 = 1 → v.toNat / 64 % 2 = 0 → x.st = .on →
          Completes (.slotCtrlWrite w v) s (fun t => (t.fn (.wicket w)).st = .draining ∧ t.agents = s.agents))) ∧
      (s.windowOpen → v.toNat / 4 % 4 = 3 ∨ v.toNat % 4 = 3 →
        Completes (.slotCtrlWrite w v) s (fun t => t.rawN (0xC800 + w) 1 = old ∧ t.wickets = s.wickets
          ∧ t.rawN 0x1100 6 = (s.rawN 0x1100 6 + 1) % 2 ^ 32))) ∧
  (∀ (s : State) (f : Func) (v : Word), s.windowOpen → isShaper f = true → funcBuilt s.build f = true →
      (cfgApply v ≠ 3 → 1 ≤ cfgRate v → cfgRate v ≤ cfgBurst v →
        exec (.shaperConfigWrite f v) s = .next (applied ((s.gev 0x10C).modShaper f (fun x => x.configure v)))) ∧
      (cfgApply v = 3 ∨ cfgRate v = 0 ∨ cfgBurst v = 0 ∨ cfgBurst v < cfgRate v →
        Completes (.shaperConfigWrite f v) s (fun t => t.shapes = s.shapes ∧ t.wickets = s.wickets)) ∧
      (∀ x : Shaper, (x.configure v).fn = x.fn ∧ cfgRate (x.configure v).cfg = cfgRate v ∧ cfgBurst (x.configure v).cfg = cfgBurst v
        ∧ (x.fn.st = .on ∨ x.fn.st = .draining →
            (cfgApply v = 0 → (x.configure v).credit = cfgBurst v ∧ (x.configure v).rate = cfgRate v
              ∧ (x.configure v).burst = cfgBurst v) ∧
            (cfgApply v = 1 → (x.configure v).credit = 0 ∧ (x.configure v).rate = cfgRate v
              ∧ (x.configure v).burst = cfgBurst v) ∧
            (cfgApply v = 2 → (x.configure v).credit = x.credit ∧ (x.configure v).rate = x.rate
              ∧ (x.configure v).burst = x.burst ∧ (x.configure v).next = true)) ∧
        (x.fn.st ≠ .on → x.fn.st ≠ .draining → (x.configure v).credit = x.credit ∧ (x.configure v).rate = x.rate)))

/-! ## Leases, monitors and the posting buffer -/
/-- A monitor armed for RSV_TIMEOUT Ticks, counted from its arming, is cleared, and RSV_TIMEOUTS increments (R261); one armed for
less stays. -/
def Obligations.MonitorTimeoutClears : Prop :=
  ∀ (s : State) (t i : Nat) (m : Monitor), s.Inv → s.build.hasTill t = true → s.alive t = true →
    KV.find? (s.till t).monitors i = some m →
    (m.armTick + s.rawN 0x4200 0 ≤ s.time.tick →
      Completes (.rsvTimeout t i) s (fun u =>
        (KV.wf (s.till t).monitors = true → KV.find? (u.till t).monitors i = none)
          ∧ (u.till t).monitors = KV.del (s.till t).monitors i
          ∧ u.rawN 0x4200 2 = (s.rawN 0x4200 2 + 1) % 2 ^ 32 ∧ (u.till t).folios = (s.till t).folios
          ∧ (∀ k, k ≠ t → u.till k = s.till k) ∧ u.out = s.out ∧ u.journal = s.journal)) ∧
    (s.time.tick < m.armTick + s.rawN 0x4200 0 → exec (.rsvTimeout t i) s = .next s)

/-- The end of a lease (R256): a HELD entry with no joiner becomes EXPIRED, its page is rewritten without its claimants, the
expiry is counted and recorded; the record is deleted after EXPIRED_HOLD Ticks with a second record; before their Ticks,
nothing happens. The rewrite is complete in every bank (R254): every BLOCKED head on the page repeats its lookup (R114) and the
monitors of the claimants on the page are cleared (R262). Stated for a page that neither Vault nor Cellar holds elsewhere. A
posting-buffer entry that has waited POST_DRAIN_DELAY CCLK drains (R265): as NCW_FULL if its mask is all ones and as NCW_PTL
otherwise, it joins WS's service queues behind the requests there; an entry that drains already, or has not waited, stays. -/
def Obligations.LeasesAndPostedEntriesEnd : Prop :=
  (∀ (s : State) (t i : Nat), s.Inv → s.build.hasTill t = true → s.calm t →
      (∀ c : Claim, KV.find? (s.till t).claims i = some c →
        (∀ k, c.expiry = some k → k ≤ s.time.tick → c.state = .held → c.joining = [] → c.claimants ≠ [] →
          (∀ p ∈ (s.till t).gathers, p.2.entry ≠ i) → (s.till t).summary = [] →
          Completes (.leaseExpiry t i) s (fun u =>
            KV.find? (u.till t).claims i = some { c with state := .expired, expiredTick := s.time.tick }
              ∧ (u.till t).releases = (s.till t).releases ++ [⟨c.page, c.claimants, none, true, none⟩]
              ∧ Reports s u 0x20D ∧ u.rawN 0x4101 3 = (s.rawN 0x4101 3 + 1) % 2 ^ 32 ∧ u.out = s.out ∧ u.agents = s.agents)) ∧
        ((∀ k, c.expiry = some k → s.time.tick < k) → exec (.leaseExpiry t i) s = .next s) ∧
        (c.state = .expired → c.expiredTick + s.rawN 0x4101 1 ≤ s.time.tick →
          Completes (.expiredHold t i) s (fun u => (u.till t).claims = KV.del (s.till t).claims i ∧ Reports s u 0x20E
            ∧ u.out = s.out ∧ u.agents = s.agents)) ∧
        (c.state ≠ .expired ∨ s.time.tick < c.expiredTick + s.rawN 0x4101 1 → exec (.expiredHold t i) s = .next s)) ∧
      (∀ (page : BitVec 32) (r : Rel), (s.till t).releases.find? (fun r => r.page == page.toNat) = some r → r.folio = none →
        (∀ g ∈ (s.till t).groups, ∀ sec, g.kind ≠ .unclaim sec) → (s.till t).vault = [] →
        Completes (.claimReleaseDone t page) s (fun u =>
          (u.till t).releases = dropFirst (fun q => q == r) (s.till t).releases
            ∧ (u.till t).claims = (match r.entry with | some k => KV.del (s.till t).claims k | none => (s.till t).claims)
            ∧ (u.till t).monitors = (s.till t).monitors.filter
                (fun m => !(pageOf m.2.laddr == page.toNat && r.aids.contains m.2.aid))
            ∧ (∀ f x, s.folio? t f = some x → x.phase = .blocked → pageOf x.laddr = page.toNat →
                u.folio? t f = some { x with
                  phase := .lookup, blockedTick := none, looked := false, waits := false, consulted := false })
            ∧ u.agents = s.agents ∧ u.out = s.out)) ∧
      (∀ page : BitVec 32, (∀ r ∈ (s.till t).releases, r.page ≠ page.toNat) →
        exec (.claimReleaseDone t page) s = .next (s.modTill t (fun u => { u with idleTicks := 0 })))) ∧
  (∀ (s : State) (k : Nat) (p : Post), s.Inv → KV.find? s.ws.post k = some p →
      (p.draining = false → p.cclk + s.rawN 0x4300 0 ≤ s.time.cclk →
        Completes (.postDrainDelay k) s (fun t => KV.find? t.ws.post k = some { p with draining := true }
          ∧ (∃ e, (t.wicket Build.ws).entries = (s.wicket Build.ws).entries ++ [e]
              ∧ e.opc = (if p.mask = BitVec.allOnes 64 then .ncwFull else .ncwPtl) ∧ e.aid = p.aid ∧ e.laddr = p.laddr
              ∧ e.wdata = some ⟨p.data, p.mask, p.poison⟩ ∧ e.origin = .post k ∧ e.epoch = p.epoch ∧ e.rcpt = none
              ∧ e.till = s.routeTill Build.ws e.opc p.aid p.laddr)
          ∧ t.tills = s.tills ∧ t.agents = s.agents ∧ t.out = s.out)) ∧
      (p.draining = true ∨ s.time.cclk < p.cclk + s.rawN 0x4300 0 → exec (.postDrainDelay k) s = .next s))

/-! ## Teller Messages -/

/-- A message with command byte `cmd` passes the checks before its command (R448, R465, R469), with the Chart available and the
Home not in Hold: it acts for the caller `c` at the state `u`, in which it is counted and, in a session, its SEQ is accepted. In
Blank every requester acts as Vendor, and IDENTIFY needs no session. The last SEQ of a session is left to R470. -/
def actsAt (s : State) (cmd : Nat) (h : Teller) (c : Caller) (u : State) : Prop :=
  s.chartUp = true ∧ s.inHold = false ∧ h.tver = 1 ∧ h.length ≤ 1024 ∧ cmd ≠ 2 ∧ cmd ≠ 3 ∧
    ((h.auth = false ∧ (s.fuses.lifecycle = 0 ∨ cmd = 1) ∧ c = ⟨4, if cmd = 1 then 0 else 3, none⟩
        ∧ u = (s.bump ⟨0x1100, 8, 64⟩).gev 0x10D) ∨
      (h.auth = true ∧ s.fuses.lifecycle ≠ 0 ∧ ∃ k, k < 4 ∧ c = ⟨k, (s.session k).role, some (s.session k).key⟩
        ∧ (s.session k).live = true ∧ (s.session k).number = h.session.toNat
        ∧ (∀ j, j < k → ¬ ((s.session j).live = true ∧ (s.session j).number = h.session.toNat))
        ∧ tellerMac (s.session k).key (tellerHead h.tver.toNat cmd 2 0 h.session.toNat h.seq.toNat h.payload)
            = leBytes 16 h.mac.toNat
        ∧ h.seq.toNat = (s.session k).seq + 1 ∧ h.seq ≠ BitVec.allOnes 32
        ∧ u = ((s.bump ⟨0x1100, 8, 64⟩).gev 0x10D).modSession k
            (fun y => { y with macFails := 0, seq := h.seq.toNat, lastTick := s.time.tick })))

/-- The state `v` with the response sent (R448). -/
def replied (v : State) (h : Teller) (cmd : Nat) (key : Option (List Byte)) (status : Nat) (payload : List Byte) : State :=
  { v with out := v.out ++ [.teller h.eid (tellerBody key cmd status h.session.toNat h.seq.toNat payload)] }

/-- The reads (R450, R499, R500): IDENTIFY, READ, READ_RANGE, JOURNAL_READ, TALLY_READ and COUNTER_READ answer with the layout of
their tables and change nothing but the Journal's reader; CLOSE frees the session and writes SESSION_CLOSED (R470). -/
def Obligations.TellerReadsAnswer : Prop :=
  ∀ (s : State) (h : Teller) (c : Caller) (u : State), s.Inv →
    let i := arg h 0 2
    let j := arg h 2 1
    let n := arg h 3 1
    (actsAt s 1 h c u →
      exec (.identify h) s = .next (replied u h 1 c.key 0 (leBytes 8 0x44454345534B4831 ++ leBytes 1 s.build.code
        ++ [s.fuses.stepping] ++ leBytes 2 (u.rawN 0x1000 0) ++ s.fuses.hallmark.take 12
        ++ [s.fuses.wafer, s.fuses.dieX, s.fuses.dieY] ++ [0]))) ∧
    (actsAt s 0x10 h c u →
      (h.payload.length < 4 → exec (.read h) s = .next (replied u h 0x10 c.key 3 [])) ∧
      (4 ≤ h.payload.length → 0xF000 ≤ i → c.role ≠ 3 → exec (.read h) s = .next (replied u h 0x10 c.key 2 [])) ∧
      (4 ≤ h.payload.length → (i < 0xF000 ∨ c.role = 3) →
        (entryAt s.build i j = none →
          exec (.read h) s = .next (replied u h 0x10 c.key 0 (leBytes 2 0 ++ leBytes 2 8 ++ leBytes 8 0))) ∧
        (∀ e, entryAt s.build i j = some e → e.ty.long = false → u.gone i = false → (i < 0xC000 ∨ 0xC004 ≤ i) → i ≠ 0x1110 →
          exec (.read h) s = .next (replied u h 0x10 c.key 0 (leBytes 1 e.ty.code ++ leBytes 1 0 ++ leBytes 2 e.ty.bytes
            ++ leBytes e.ty.bytes (u.slotOf i j).toNat))) ∧
        (∀ e, entryAt s.build i j = some e → e.ty.long = true →
          exec (.read h) s = .next (replied u h 0x10 c.key 0 (leBytes 1 e.ty.code ++ leBytes 1 0 ++ leBytes 2 e.ty.bytes
            ++ u.longVal i j))))) ∧
    (actsAt s 0x12 h c u → 4 ≤ h.payload.length →
      (n = 0 ∨ 64 < n → exec (.readRange h) s = .next (replied u h 0x12 c.key 3 [])) ∧
      (0 < n → n ≤ 64 → j + n ≤ 256 → (i < 0xF000 ∨ c.role = 3) → (i < 0xC000 ∨ 0xC004 ≤ i) → i ≠ 0x1110 →
        exec (.readRange h) s = .next (replied u h 0x12 c.key 0
          ((List.range n).flatMap (fun k => leBytes 8 (u.slotOf i (j + k)).toNat))))) ∧
    (actsAt s 0x20 h c u → 4 ≤ h.payload.length → arg h 0 1 < 3 →
      let k := arg h 0 1
      ((s.stream k).word ≠ 0 → exec (.journalRead h) s = .next (replied u h 0x20 c.key 1 [])) ∧
      ((s.stream k).word = 0 → (s.stream k).fill = [] → (s.stream k).drain = [] →
        Completes (.journalRead h) s (fun t => Sends s t (.teller h.eid (tellerBody c.key 0x20 0 h.session.toNat h.seq.toNat []))
          ∧ (t.stream k).underrun = true ∧ (t.stream k).fill = [] ∧ (t.stream k).drain = [])) ∧
      (∀ r, (s.stream k).word = 0 → (s.stream k).fill = [r] → (s.stream k).drain = [] → r.bytes ≤ 1024 →
        Completes (.journalRead h) s (fun t =>
          Sends s t (.teller h.eid (tellerBody c.key 0x20 0 h.session.toNat h.seq.toNat
            (r.words.flatMap (fun v => leBytes 8 v.toNat))))
            ∧ (t.stream k).fill = [] ∧ (t.stream k).drain = [] ∧ (t.stream k).underrun = (s.stream k).underrun))) ∧
    (actsAt s 0x21 h c u → 4 ≤ h.payload.length → i < chanCount s.build → arg h 2 1 % 2 = 0 →
      let x := (s.chan i).last
      exec (.tallyRead h) s = .next (replied u h 0x21 c.key 0
        (leBytes 8 (if (s.chan i).cleared = true then 0 else s.tally.lastNum) ++ leBytes 4 x.min ++ leBytes 4 x.max ++ leBytes 8 x.sum
          ++ leBytes 4 x.count ++ leBytes 4 x.flags ++ (List.range 32).flatMap (fun b => leBytes 4 (KV.get x.hist b 0))))) ∧
    (actsAt s 0x22 h c u → 4 ≤ h.payload.length → (arg h 0 1 = 0xFF ∨ s.build.hasTill (arg h 0 1) = true) → 0 < j →
      arg h 1 1 + j ≤ 64 →
      exec (.counterRead h) s = .next (replied u h 0x22 c.key 0 ((List.range j).flatMap (fun k =>
        leBytes 8 (u.slotOf (if arg h 0 1 = 0xFF then 0xB700 else 0xB600 + arg h 0 1) (arg h 1 1 + k)).toNat)))) ∧
    (actsAt s 0x04 h c u →
      (h.auth = false → exec (.close h) s = .next (replied u h 0x04 c.key 0 [])) ∧
      (h.auth = true → (s.session c.slot).debug = false →
        Completes (.close h) s (fun t => Reports s t 0x216 ∧ (t.session c.slot).state = .free
          ∧ Sends s t (.teller h.eid (tellerBody c.key 0x04 0 h.session.toNat h.seq.toNat []))
          ∧ (∀ k, k ≠ c.slot → t.session k = s.session k))))

/-- The writes (R446, R450, R474): WRITE and WRITE_MULTI apply each value by the rules of a Chart write and answer its status;
UNQUARANTINE, from the RESTRICTED session, ends the Quarantine. -/
def Obligations.TellerWritesAnswer : Prop :=
  ∀ (s : State) (h : Teller) (c : Caller) (u : State), s.Inv →
    let i := arg h 0 2
    let j := arg h 2 1
    let n := arg h 4 2
    let v := (h.payload.drop 6).take n
    (actsAt s 0x11 h c u →
      (h.payload.length < 6 + n → exec (.write h) s = .next (replied u h 0x11 c.key 3 [])) ∧
      (∀ e, 6 + n ≤ h.payload.length → entryAt s.build i j = some e → e.ty.long = false →
        (firstCheck u c.author i j 8 = .ok → n ≤ e.ty.bytes →
          exec (.write h) s = .next (let r := writeEntry u c.author i j (leVal v) 8
            replied r.1 h 0x11 c.key r.2.num [])) ∧
        (firstCheck u c.author i j 8 = .ok → e.ty.bytes < n →
          exec (.write h) s = .next (replied (refused u c.author i j .tooLong) h 0x11 c.key 11 [])) ∧
        (∀ k, firstCheck u c.author i j 8 = k → k ≠ .ok →
          exec (.write h) s = .next (replied (refused u c.author i j k) h 0x11 c.key k.num []))) ∧
      (6 + n ≤ h.payload.length → i = 0x9011 → j = 1 → n ≤ 48 → c.role ≠ 0 → s.sec.quarantine = false →
        Completes (.write h) s (fun t => t.sec.keyStage = v ++ List.replicate (48 - n) 0
          ∧ Sends s t (.teller h.eid (tellerBody c.key 0x11 0 h.session.toNat h.seq.toNat []))))) ∧
    (actsAt s 0x13 h c u →
      (h.payload.length < 2 ∨ i = 0 ∨ 64 < i ∨ h.payload.length < 2 + 12 * i →
        exec (.writeMulti h) s = .next (replied u h 0x13 c.key 3 [])) ∧
      (i = 1 → 14 ≤ h.payload.length →
        let a := arg h 2 2
        let b := arg h 4 1
        let r := writeEntry u c.author a b (arg h 6 8) 8
        (r.2 = .ok → exec (.writeMulti h) s = .next (replied r.1 h 0x13 c.key 0 (leBytes 2 1 ++ leBytes 4 0))) ∧
        (r.2 ≠ .ok → exec (.writeMulti h) s = .next (replied r.1 h 0x13 c.key r.2.num
          (leBytes 2 0 ++ leBytes 2 a ++ leBytes 1 b ++ leBytes 1 0)))) ∧
      (i = 2 → 26 ≤ h.payload.length →
        let r := writeEntry u c.author (arg h 2 2) (arg h 4 1) (arg h 6 8) 8
        let q := writeEntry r.1 c.author (arg h 14 2) (arg h 16 1) (arg h 18 8) 8
        (r.2 = .ok → q.2 = .ok →
          exec (.writeMulti h) s = .next (replied q.1 h 0x13 c.key 0 (leBytes 2 2 ++ leBytes 4 0))) ∧
        (r.2 = .ok → q.2 ≠ .ok →
          exec (.writeMulti h) s = .next (replied q.1 h 0x13 c.key q.2.num
            (leBytes 2 1 ++ leBytes 2 (arg h 14 2) ++ leBytes 1 (arg h 16 1) ++ leBytes 1 0))))) ∧
    (actsAt s 0x05 h c u →
      (s.sec.quarantine = true → h.auth = true → (s.session c.slot).state = .restricted → c.role = 1 →
        Completes (.unquarantine h) s (fun t => t.sec.quarantine = false ∧ t.sec.proofFails = 0
          ∧ (t.session c.slot).state = .open_ ∧ Reports s t 0x112
          ∧ Sends s t (.teller h.eid (tellerBody c.key 0x05 0 h.session.toNat h.seq.toNat [])))) ∧
      (s.sec.quarantine = false → exec (.unquarantine h) s = .next (replied u h 0x05 c.key 2 [])))

/-- The debug commands (R475, R476, R478, R479): DEBUG_SET raises the level within the lifecycle's roles; at Intrude, held by the
sender and outside Deployed, TILL_HALT, TILL_RESUME, RAW_READ, RAW_WRITE, LOCK_OPEN, LOCK_CLOSE and INJECT act; without it they
are DENIED. -/
def Obligations.DebugCommandsAct : Prop :=
  ∀ (s : State) (h : Teller) (c : Caller) (u : State) (cmd : Nat), s.Inv → s.sec.quarantine = false → 2 ≤ c.role →
    actsAt s cmd h c u →
    let t := arg h 0 1
    let b := arg h 1 1
    (cmd = 0x30 → 4 ≤ h.payload.length →
      (4 ≤ s.power.state → t ≤ 2 → exec (.debugSet h) s = .next (replied u h 0x30 c.key 1 [])) ∧
      (2 < t → exec (.debugSet h) s = .next (replied u h 0x30 c.key 3 [])) ∧
      (s.power.state < 4 → s.sec.level = 0 → (t = 1 ∨ t = 2) →
        ((s.fuses.lifecycle = 2 ∧ t = 2 ∧ c.role ≠ 3) ∨ (s.fuses.lifecycle = 3 ∧ c.role ≠ 3) →
          exec (.debugSet h) s = .next (replied u h 0x30 c.key 2 [])) ∧
        (¬ (s.fuses.lifecycle = 2 ∧ t = 2 ∧ c.role ≠ 3) → ¬ (s.fuses.lifecycle = 3 ∧ c.role ≠ 3) →
          Completes (.debugSet h) s (fun v => v.sec.level = t ∧ Reports s v 0x218
            ∧ (h.auth = true → (v.session c.slot).debug = true)
            ∧ Sends s v (.teller h.eid (tellerBody c.key 0x30 0 h.session.toNat h.seq.toNat [])))))) ∧
    (s.sec.level ≠ 2 →
      (cmd = 0x31 → 4 ≤ h.payload.length → exec (.tillHalt h) s = .next (replied u h 0x31 c.key 2 [])) ∧
      (cmd = 0x33 → 12 ≤ h.payload.length → exec (.rawRead h) s = .next (replied u h 0x33 c.key 2 [])) ∧
      (cmd = 0x37 → 20 ≤ h.payload.length → exec (.inject h) s = .next (replied u h 0x37 c.key 2 []))) ∧
    (s.sec.level = 2 → u.holds c = true → s.fuses.lifecycle ≠ 2 →
      (s.build.hasTill t = true → 4 ≤ h.payload.length →
        (cmd = 0x31 →
          ((s.till t).role = .source ∨ (s.till t).role = .destination ∨ (s.till t).role = .reset →
            exec (.tillHalt h) s = .next (replied u h 0x31 c.key 1 [])) ∧
          (((s.till t).role = .active ∨ (s.till t).role = .spare) → (s.till t).fn.st ≠ .failed → (s.till t).halted = none →
            exec (.tillHalt h) s = .next (replied
              (u.modTill t (fun x => { x with halted := some (s.time.tick + s.rawN 0x9020 3) })) h 0x31 c.key 0 []))) ∧
        (cmd = 0x32 →
          ((s.till t).halted = none → exec (.tillResume h) s = .next (replied u h 0x32 c.key 0 [])) ∧
          ((s.till t).halted ≠ none → (s.till t).ni = [] → (∀ p ∈ (s.till t).folios, p.2.opc ≠ .release) →
            (∀ x ∈ s.tills, x.failDue = none) →
            exec (.tillResume h) s = .next (replied
              (u.modTill t (fun x => { x with halted := none, idleTicks := 0 })) h 0x32 c.key 0 []))) ∧
        (cmd = 0x35 → b < 16 →
          ((KV.get (s.till t).banks b {}).locked = true → exec (.lockOpen h) s = .next (replied u h 0x35 c.key 1 [])) ∧
          ((KV.get (s.till t).banks b {}).locked = false →
            Completes (.lockOpen h) s (fun v => KV.find? (v.till t).banks b = some { KV.get (s.till t).banks b {} with
                grant := some 3, grantTick := s.time.tick, locked := true, debugLock := true }
              ∧ v.sec.locks = s.sec.locks ++ [(t, b)]
              ∧ Sends s v (.teller h.eid (tellerBody c.key 0x35 0 h.session.toNat h.seq.toNat []))))) ∧
        (cmd = 0x36 → b < 16 →
          ((t, b) ∉ s.sec.locks → exec (.lockClose h) s = .next (replied u h 0x36 c.key 0 [])) ∧
          ((t, b) ∈ s.sec.locks →
            Completes (.lockClose h) s (fun v => (t, b) ∉ v.sec.locks
              ∧ (∀ x, KV.find? (s.till t).banks b = some x → KV.find? (v.till t).banks b
                  = some { x with locked := false, debugLock := false, grant := none, stuck := false })
              ∧ Sends s v (.teller h.eid (tellerBody c.key 0x36 0 h.session.toNat h.seq.toNat [])))))) ∧
      (cmd = 0x33 → s.build.hasTill t = true → 12 ≤ h.payload.length → 0 < arg h 8 2 → arg h 8 2 ≤ 32 → b = 0 → arg h 2 1 < 16 →
        arg h 4 4 + arg h 8 2 ≤ 2144 * 16 →
        exec (.rawRead h) s = .next (replied u.freeUsed h 0x33 c.key 0 ((List.range (arg h 8 2)).flatMap (fun k =>
          leBytes 32 ((s.till t).rowEntry (arg h 2 1) ((arg h 4 4 + k) / 16) ((arg h 4 4 + k) % 16)))))) ∧
      (cmd = 0x34 → s.build.hasTill t = true → 24 ≤ h.payload.length → b = 0 → arg h 2 1 < 16 → arg h 4 4 < 2048 * 16 →
        exec (.rawWrite h) s = .next (replied (u.modTill t (fun x =>
          x.vwrite (vkey (arg h 2 1) (arg h 4 4 / 16) (arg h 4 4 % 16)) (BitVec.ofNat 120 (arg h 8 16)))) h 0x34 c.key 0 [])) ∧
      (cmd = 0x37 → 20 ≤ h.payload.length →
        let a := arg h 0 2
        let r := arg h 4 16
        (opcOf (r / 2 ^ 122 % 64) = none → exec (.inject h) s = .next (replied u h 0x37 c.key 3 [])) ∧
        (∀ o, opcOf (r / 2 ^ 122 % 64) = some o →
          (1024 ≤ a ∨ (s.agent a).kind ≠ 2 ∨ (s.agent a).state ≠ .active →
            exec (.inject h) s = .next (replied u h 0x37 c.key 3 [])) ∧
          (a < 1024 → (s.agent a).kind = 2 → (s.agent a).state = .active →
            h.payload.length = (if o.hasData = true then 100 else 20) → u.withheld Build.ws o = false →
            exec (.inject h) s = .next (decideReq { u with sec := { u.sec with
                injects := KV.put u.sec.injects u.sec.injectCtr
                  ⟨h.eid, c.key.isSome, h.session.toNat, h.seq.toNat, c.slot⟩
                injectCtr := u.sec.injectCtr + 1 } } Build.ws o (injectReq u a r (arg h 20 80)) (.injected u.sec.injectCtr))))))

/-- The checks of a Teller Message in their order (R448, R449, R450, R451, R452, R465, R469), for every command: no answer while
power is off or in Off; UNAVAILABLE while the Chart is; INVALID, TOO_LONG, AUTH, SEQUENCE and UNKNOWN_COMMAND. -/
def Obligations.TellerChecksInOrder : Prop :=
  ∀ (s : State) (i : Instr) (cmd : Nat) (h : Teller), s.Inv → tellerOf i = some (cmd, h) →
    let u := (s.bump ⟨0x1100, 8, 64⟩).gev 0x10D
    (s.boot = .off ∨ s.power.state = 3 → exec i s = .next s) ∧
    (s.boot ≠ .off → s.power.state ≠ 3 → s.chartUp = false → cmd ≠ 1 → cmd ≠ 0x10 → cmd ≠ 0x12 →
      exec i s = .next (replied s h cmd none 4 [])) ∧
    (s.boot ≠ .off → s.power.state ≠ 3 → s.chartUp = false → cmd = 1 →
      exec i s = .next (replied s h cmd none 4 (List.replicate 28 0xFF))) ∧
    (s.chartUp = true → s.inHold = false →
      (h.tver ≠ 1 → exec i s = .next (replied u h cmd none 3 [])) ∧
      (h.tver = 1 → 1024 < h.length → exec i s = .next (replied u h cmd none 11 [])) ∧
      (h.tver = 1 → h.length ≤ 1024 →
        (h.auth = true → s.fuses.lifecycle = 0 → exec i s = .next (replied u h cmd none 9 [])) ∧
        (h.auth = false → s.fuses.lifecycle ≠ 0 → cmd ≠ 1 → cmd ≠ 2 → cmd ≠ 3 →
          exec i s = .next (replied u h cmd none (if knownCmd cmd = true then 9 else 12) [])) ∧
        (h.auth = true → s.fuses.lifecycle ≠ 0 →
          ((∀ x ∈ s.sec.sessions, ¬ (x.live = true ∧ x.number = h.session.toNat)) →
            exec i s = .next (replied u h cmd none 9 [])) ∧
          (∀ k, k < 4 → (s.session k).live = true → (s.session k).number = h.session.toNat →
            (∀ j, j < k → ¬ ((s.session j).live = true ∧ (s.session j).number = h.session.toNat)) →
            let m := tellerMac (s.session k).key (tellerHead h.tver.toNat cmd 2 0 h.session.toNat h.seq.toNat h.payload)
            (m ≠ leBytes 16 h.mac.toNat → (s.session k).macFails < 7 →
              Completes i s (fun t => (t.session k).macFails = (s.session k).macFails + 1
                ∧ (t.session k).seq = (s.session k).seq ∧ t.rawN 0x9001 4 = (s.rawN 0x9001 4 + 1) % 2 ^ 32
                ∧ Sends s t (.teller h.eid (tellerBody (some (s.session k).key) cmd 9 h.session.toNat h.seq.toNat [])))) ∧
            (m = leBytes 16 h.mac.toNat → h.seq.toNat ≠ (s.session k).seq + 1 →
              exec i s = .next (replied (u.modSession k (fun y => { y with macFails := 0 })) h cmd
                (some (s.session k).key) 10 [])))))) ∧
    (∀ c v, actsAt s cmd h c v → knownCmd cmd = false → exec i s = .next (replied v h cmd c.key 12 []))

/-- What a proof of session `x` is computed over, behind its label (R468). -/
def proofOver (label : List Char) (x : Session) : List Byte :=
  asciiPad label label.length ++ leBytes 32 x.nonce.toNat ++ (leBytes 2 x.number ++ leBytes 1 x.role ++ leBytes 1 x.slot ++ leBytes 1 1)

/-- Sessions (R466 to R471, R474): OPEN takes a free slot with the next number and a fresh nonce, which is a free value (log entry
6); a PROVE that matches opens the session with its key, and any other is a failed proof; an OPENING session that is due frees, and
an idle one closes; a halt that is due ends (R479). -/
def Obligations.SessionsOpenProveAndEnd : Prop :=
  ∀ (s : State) (h : Teller) (k : Nat), s.Inv → k < 4 →
    let role := arg h 0 1
    let slot := arg h 1 1
    let x := s.session k
    (s.chartUp = true → s.inHold = false → h.tver = 1 → h.length ≤ 1024 → h.auth = false →
      (s.fuses.lifecycle = 0 →
        Completes (.open_ h) s (fun t => Sends s t (.teller h.eid (tellerBody none 2 2 h.session.toNat h.seq.toNat []))
          ∧ t.sec = s.sec) ∧
        Completes (.prove h) s (fun t => Sends s t (.teller h.eid (tellerBody none 3 2 h.session.toNat h.seq.toNat []))
          ∧ t.sec = s.sec)) ∧
      (s.fuses.lifecycle ≠ 0 → 4 ≤ h.payload.length → role ≤ 3 → slot ≤ 3 →
        (s.sec.quarantine = true → 1 < role →
          Completes (.open_ h) s (fun t => Sends s t (.teller h.eid (tellerBody none 2 2 h.session.toNat h.seq.toNat []))
            ∧ t.sec = s.sec)) ∧
        (s.sec.quarantine = false ∨ role ≤ 1 → s.power.state = 7 ∨ (∀ y ∈ s.sec.sessions, y.state ≠ .free) →
          Completes (.open_ h) s (fun t => Sends s t (.teller h.eid (tellerBody none 2 1 h.session.toNat h.seq.toNat []))
            ∧ t.sec = s.sec)) ∧
        (s.sec.quarantine = false ∨ role ≤ 1 → s.power.state ≠ 7 → x.state = .free →
          (∀ j, j < k → (s.session j).state ≠ .free) → s.sec.nextSession ≠ 0 →
          (∀ y ∈ s.sec.sessions, y.state ≠ .free → y.number ≠ s.sec.nextSession) →
          Completes (.open_ h) s (fun t =>
            t.session k = { state := .opening, number := s.sec.nextSession, role := role, slot := slot
                            nonce := Config.nonce s.sec.draws, opened := s.time.tick
                            idle := s.rawN 0x9001 0, window := s.rawN 0x9001 1 }
              ∧ t.sec.draws = s.sec.draws + 1 ∧ t.sec.nextSession = (s.sec.nextSession + 1) % 2 ^ 16
              ∧ Sends s t (.teller h.eid (tellerBody none 2 0 h.session.toNat h.seq.toNat
                  (leBytes 2 s.sec.nextSession ++ leBytes 2 0 ++ leBytes 32 (Config.nonce s.sec.draws).toNat)))))) ∧
      (s.fuses.lifecycle ≠ 0 → s.sec.quarantine = false → x.state = .opening → x.number = h.session.toNat →
        (∀ j, j < k → ¬ ((s.session j).state = .opening ∧ (s.session j).number = h.session.toNat)) →
        let v := ((KV.find? s.fuses.keys (x.role * 4 + x.slot)).map (·.2)).getD []
        let good := (KV.find? s.fuses.keys (x.role * 4 + x.slot)).map (·.1) = some 1
          ∧ h.payload = hmac384 v (proofOver "DECESK-PROVE".toList x)
        let key := (hmac384 v (proofOver "DECESK-SESSION".toList x)).take 32
        (good → Completes (.prove h) s (fun t => (t.session k).state = .open_ ∧ (t.session k).key = key ∧ (t.session k).seq = 0
          ∧ Reports s t 0x215 ∧ t.sec.proofFails = (if x.role = 0 then s.sec.proofFails else 0)
          ∧ Sends s t (.teller h.eid (tellerBody (some key) 3 0 h.session.toNat 0 (leBytes 4 x.idle))))) ∧
        (¬ good → s.sec.proofFails < 4 →
          Completes (.prove h) s (fun t => (t.session k).state = .free ∧ Reports s t 0x217
            ∧ t.sec.proofFails = s.sec.proofFails + 1 ∧ t.sec.quarantine = false
            ∧ Sends s t (.teller h.eid (tellerBody none 3 9 h.session.toNat h.seq.toNat [])))) ∧
        (¬ good → s.sec.proofFails = 4 → s.sec.level = 0 → (∀ y ∈ s.sec.sessions, y.debug = false) →
          Completes (.prove h) s (fun t => t.sec.quarantine = true ∧ t.sec.quarantines = s.sec.quarantines + 1
            ∧ Reports s t 0x111 ∧ (∀ y ∈ t.sec.sessions, y.state ≠ .free → y.role = 0))))) ∧
    (x.state = .opening → x.opened + x.window ≤ s.time.tick →
      exec (.proveWindow k) s = .next (s.modSession k (fun _ => {}))) ∧
    (x.state ≠ .opening ∨ s.time.tick < x.opened + x.window → exec (.proveWindow k) s = .next s) ∧
    (x.live = true → x.debug = false → x.lastTick + x.idle ≤ s.time.tick →
      Completes (.sessionIdle k) s (fun t => t.session k = {} ∧ Reports s t 0x216 ∧ t.out = s.out
        ∧ (∀ j, j ≠ k → t.session j = s.session j))) ∧
    (x.live = false ∨ s.time.tick < x.lastTick + x.idle → exec (.sessionIdle k) s = .next s) ∧
    (∀ n d, s.build.hasTill n = true → (s.till n).halted = some d →
      (s.time.tick < d → exec (.haltMaxTicks n) s = .next s) ∧
      (d ≤ s.time.tick → (s.till n).ni = [] → (∀ p ∈ (s.till n).folios, p.2.opc ≠ .release) →
        (∀ u ∈ s.tills, u.failDue = none) →
        Completes (.haltMaxTicks n) s (fun t => t.till n = { s.till n with halted := none, idleTicks := 0 } ∧ Reports s t 0x113
          ∧ t.out = s.out))) ∧
    (∀ n, s.build.hasTill n = true → (s.till n).halted = none → exec (.haltMaxTicks n) s = .next s)

/-! ## Keys, the lifecycle, segments and the window -/

/-- Keys (R461) and the lifecycle (R462, R463): what each command answers and blows, in the order of the conditions, and what the
completed blows leave. That a refusal by role comes last, and that a slot's verifier stays where it is revoked, is the model's
reading. -/
def Obligations.KeysAndLifecycleMoveForward : Prop :=
  ∀ s : State, s.Inv →
    let k := s.sec.keyTarget
    let now := s.fuses.lifecycle
    (s.windowOpen → s.sec.keyBlow = none →
      (s.keyState k ≠ 0 → Completes .program s (fun t => t.sec = { s.sec with keyResult := 3, keyStage := [] }
        ∧ t.fuses = s.fuses)) ∧
      (s.keyState k = 0 → k / 4 = 3 → s.windowRole ≠ 3 →
        Completes .program s (fun t => t.sec = { s.sec with keyResult := 2, keyStage := [] } ∧ t.fuses = s.fuses)) ∧
      (s.keyState k = 0 → (k / 4 ≠ 3 ∨ s.windowRole = 3) →
        Completes .program s (fun t => t.fuses = s.fuses
          ∧ t.sec = { s.sec with keyResult := 0, keyBlow := some (k, false), keyImage := s.sec.keyStage, keyStage := [] })) ∧
      (s.keyState k = 1 → (k / 4 = 1 ∨ k / 4 = 3) → s.validSlots (k / 4) ≤ 1 →
        Completes .revoke s (fun t => t.sec = { s.sec with keyResult := 2, keyStage := [] } ∧ t.fuses = s.fuses)) ∧
      ((k / 4 = 0 ∨ k / 4 = 2) →
        Completes .revoke s (fun t => t.fuses = s.fuses
          ∧ t.sec = { s.sec with keyResult := 0, keyBlow := some (k, true), keyImage := s.sec.keyStage, keyStage := [] }))) ∧
    (∀ k, s.sec.keyBlow = some (k, false) →
      Completes .keyBlowDone s (fun t => t.keyState k = 1 ∧ KV.find? t.fuses.keys k = some (1, s.sec.keyImage)
        ∧ t.sec.keyBlow = none ∧ t.sec.keyResult = 0 ∧ t.sec.sessions = s.sec.sessions)) ∧
    (∀ k, s.sec.keyBlow = some (k, true) → (∀ x ∈ s.sec.sessions, x.debug = false) →
      Completes .keyBlowDone s (fun t => t.keyState k = 2 ∧ t.sec.keyBlow = none
        ∧ (∀ x ∈ t.sec.sessions, x.live = true → x.role * 4 + x.slot ≠ k))) ∧
    (s.sec.keyBlow = none → exec .keyBlowDone s = .next s) ∧
    (s.windowOpen → s.sec.lifeBlow = none →
      (s.sec.level = 2 → ∀ c ∈ [Instr.provision, .deploy, .retire], Completes c s (fun t =>
        t.sec = { s.sec with lifeResult := 1 } ∧ t.fuses = s.fuses)) ∧
      (s.sec.level ≠ 2 →
        (now ≠ 0 → Completes .provision s (fun t => t.sec = { s.sec with lifeResult := 3 })) ∧
        (now = 0 → (s.validSlots 1 = 0 ∨ s.validSlots 3 = 0) →
          Completes .provision s (fun t => t.sec = { s.sec with lifeResult := 2 })) ∧
        (now = 0 → s.validSlots 1 ≠ 0 → s.validSlots 3 ≠ 0 →
          Completes .provision s (fun t => t.sec = { s.sec with lifeResult := 0, lifeBlow := some 1 } ∧ t.fuses = s.fuses)) ∧
        (now ≠ 1 → Completes .deploy s (fun t => t.sec = { s.sec with lifeResult := 3 })) ∧
        (now = 1 → Completes .deploy s (fun t => t.sec = { s.sec with lifeResult := 0, lifeBlow := some 2 }
          ∧ t.fuses = s.fuses)) ∧
        (now = 0 → Completes .retire s (fun t => t.sec = { s.sec with lifeResult := 3 })) ∧
        (now = 1 ∨ now = 2 → Completes .retire s (fun t => t.sec = { s.sec with lifeResult := 2 } ∧ t.fuses = s.fuses)))) ∧
    (∀ (h : Teller) (c : Caller) (u : State), actsAt s 0x11 h c u → c.role = 3 → s.sec.quarantine = false → s.sec.lifeBlow = none →
      s.sec.level ≠ 2 → (now = 1 ∨ now = 2) → h.payload.length = 7 → arg h 0 2 = 0x9000 → arg h 2 1 = 1 → arg h 4 2 = 1 →
      arg h 6 1 = 3 →
      (∀ p ∈ s.agents, (p.2.kind = 0 ∨ p.2.kind = 2) → p.2.state = .absent ∨ p.2.state = .quarantined) →
      Completes (.write h) s (fun t => t.sec.lifeBlow = some 3 ∧ t.sec.lifeResult = 0 ∧ t.fuses = s.fuses)) ∧
    (∀ n, s.sec.lifeBlow = some n → (now ≠ 0 ∨ (s.sec.level = 0 ∧ ∀ x ∈ s.sec.sessions, x.debug = false)) → n ≠ 3 →
      Completes .lifecycleChanged s (fun t => t.fuses.lifecycle = n ∧ t.sec.lifeBlow = none ∧ t.sec.lifeResult = 0
        ∧ Reports s t 0x110 ∧ t.sec.sessions = s.sec.sessions ∧ t.fuses.keys = s.fuses.keys)) ∧
    (s.sec.lifeBlow = some 3 → now ≠ 0 → (∀ x ∈ s.sec.sessions, x.debug = false) →
      Completes .lifecycleChanged s (fun t => t.fuses.lifecycle = 3 ∧ t.sec.lifeBlow = none ∧ Reports s t 0x110
        ∧ t.fuses.keys = (List.range 8).foldl (fun m i => KV.put m (4 + i) (2, ((KV.find? m (4 + i)).map (·.2)).getD []))
            s.fuses.keys
        ∧ (∀ x ∈ t.sec.sessions, x.state ≠ .free → x.role ≠ 1 ∧ x.role ≠ 2))) ∧
    (s.sec.lifeBlow = none → exec .lifecycleChanged s = .next s)

/-- The segment context (R445, R446) and a Chart write from the window (R441, R444, R457): a selection snapshots a long entry; a
write of the last segment applies the whole, and any other is staged; a read returns a segment and advances; a plain control takes
its value, a read-only entry, an entry that does not exist and a wrong width are refused, counted and recorded. TAP instructions
select a register of the TAP and touch nothing else (R533); their numbers are the model's. -/
def Obligations.SegmentsAndWindowWrites : Prop :=
  ∀ s : State, s.Inv →
    (s.windowOpen →
      (∀ (v : BitVec 32) (e : Entry), entryAt s.build (v.toNat / 2 ^ 16) (v.toNat / 2 ^ 8 % 2 ^ 8) = some e → e.ty.long = true →
        Completes (.segTarget v) s (fun t => t.seg.target = v.toNat / 2 ^ 8 * 2 ^ 8 ∧ t.seg.number = 0
          ∧ t.seg.length = e.ty.bytes ∧ t.seg.result = 0
          ∧ t.seg.snap = s.longVal (v.toNat / 2 ^ 16) (v.toNat / 2 ^ 8 % 2 ^ 8) ∧ t.seg.stage = t.seg.snap)) ∧
      (∀ v : BitVec 32, (∀ e, entryAt s.build (v.toNat / 2 ^ 16) (v.toNat / 2 ^ 8 % 2 ^ 8) = some e → e.ty.long = false) →
        Completes (.segTarget v) s (fun t => t.seg.result = 3 ∧ t.seg.length = 0)) ∧
      (∀ v : Word, 8 * s.seg.number + 8 < s.seg.length →
        Completes (.segDataWrite v) s (fun t => t.seg = { s.seg with
          stage := patch s.seg.stage (8 * s.seg.number) (leBytes 8 v.toNat), number := s.seg.number + 1 } ∧ t.sec = s.sec)) ∧
      (∀ v : Word, s.seg.target = 0x90110100 → s.seg.length = 48 → s.seg.number = 5 →
        Completes (.segDataWrite v) s (fun t => t.sec.keyStage = patch s.seg.stage 40 (leBytes 8 v.toNat) ∧ t.seg.result = 0
          ∧ t.seg.number = 6)) ∧
      (∀ v : Word, s.seg.length ≤ 8 * s.seg.number →
        Completes (.segDataWrite v) s (fun t => t.seg = s.seg ∧ t.sec = s.sec
          ∧ t.rawN 0x1100 6 = (s.rawN 0x1100 6 + 1) % 2 ^ 32)) ∧
      (∀ v : Word, v.toNat ≤ 16777215 →
        Completes (.chartWrite 0x1040000 8 v) s (fun t => t.rawN 0x2080 0 = v.toNat
          ∧ t.rawN 0x1100 0xA = (s.rawN 0x1100 0xA + 1) % 2 ^ 64 ∧ t.agents = s.agents ∧ t.tills = s.tills)) ∧
      (∀ v : Word, 16777215 < v.toNat % 2 ^ 32 →
        Completes (.chartWrite 0x1040000 8 v) s (fun t => t.rawN 0x2080 0 = s.rawN 0x2080 0
          ∧ t.rawN 0x1100 7 = 0x2080 * 2 ^ 48 + 3 * 2 ^ 36)) ∧
      (∀ (off : BitVec 27) (size : Nat) (v : Word) (e : Entry),
        entryAt s.build (off.toNat / 2 ^ 11) (off.toNat / 8 % 256) = some e → e.acc = .ro → off.toNat % 8 = 0 →
        mayWrite s.windowRole (off.toNat / 2 ^ 11) (off.toNat / 8 % 256) = true →
        Completes (.chartWrite off size v) s (fun t => t.rawN 0x1100 6 = (s.rawN 0x1100 6 + 1) % 2 ^ 32
          ∧ t.rawN 0x1100 7 = off.toNat / 2 ^ 11 * 2 ^ 48 + off.toNat / 8 % 256 * 2 ^ 40 + 5 * 2 ^ 36
          ∧ t.agents = s.agents ∧ t.tills = s.tills ∧ t.sec = s.sec ∧ t.out = s.out)) ∧
      (∀ (off : BitVec 27) (size : Nat) (v : Word),
        entryAt s.build (off.toNat / 2 ^ 11) (off.toNat / 8 % 256) = none → off.toNat % 8 = 0 →
        mayWrite s.windowRole (off.toNat / 2 ^ 11) (off.toNat / 8 % 256) = true →
        Completes (.chartWrite off size v) s (fun t =>
          t.rawN 0x1100 7 = off.toNat / 2 ^ 11 * 2 ^ 48 + off.toNat / 8 % 256 * 2 ^ 40 + 7 * 2 ^ 36
            ∧ t.sec = s.sec ∧ t.out = s.out))) ∧
    (s.boot ≠ .off → s.chartUp = true →
      Completes .segDataRead s (fun t => Sends s t (.windowRead (s.slotOf 0x1110 2))
        ∧ t.seg = { s.seg with number := (s.seg.number + 1) % 2 ^ 16 })) ∧
    (s.boot ≠ .off → s.chartUp = false → Completes .segDataRead s (fun t => Sends s t (.windowRead (BitVec.allOnes 64))
      ∧ t.seg = s.seg)) ∧
    (∀ n, (n ≤ 2 ∨ s.fuses.lifecycle = 0 → exec (.tapInstruction n) s = .next { s with tap := n }) ∧
      (2 < n → s.fuses.lifecycle ≠ 0 → exec (.tapInstruction n) s = .next { s with tap := 0 }))

/-- 0x1000.01 SIGNATURE reads 0x4445_4345_534B_4831 whenever the Chart is available (R27): in every state and build, on both
paths, since a Teller READ and a window read return the slot. -/
def Obligations.SignatureReads : Prop :=
  ∀ s : State, s.chartUp = true →
    s.slotOf 0x1000 1 = 0x44454345534B4831 ∧ (∀ debug, readSlot s debug 0x1000 1 = (s, 0x44454345534B4831))
end

