-- ==== Sys2Proof/Laws/Events.lean ====
section
/-! SUPPORT. What an event, a counter, a flit, a record and a message change: the state after each, as the state before with
only the parts it writes replaced. A proof rewrites with these, and every other part reads as before by rfl. -/

namespace Sys2Proof.Machine

theorem foldl_chart {α : Type} (g : State → α → State) (hg : ∀ s x, ∃ c, g s x = { s with chart := c }) (l : List α) :
    ∀ s, ∃ c, l.foldl g s = { s with chart := c } := by
  induction l with
  | nil => intro s; exact ⟨s.chart, rfl⟩
  | cons x t ih =>
    intro s
    obtain ⟨c, hc⟩ := hg s x
    obtain ⟨d, hd⟩ := ih (g s x)
    exact ⟨d, by rw [List.foldl_cons, hd, hc]⟩

theorem pcAdd_eq (s : State) (i j n : Nat) : ∃ c, s.pcAdd i j n = { s with chart := c } := by
  unfold State.pcAdd
  dsimp only
  split
  · exact ⟨_, rfl⟩
  · exact ⟨_, rfl⟩

theorem pcEvent_eq (s : State) (i code unit n : Nat) : ∃ c, s.pcEvent i code unit n = { s with chart := c } := by
  unfold State.pcEvent
  split
  · exact ⟨_, rfl⟩
  · exact foldl_chart _ (fun s (x : Nat × Nat) => pcAdd_eq s i x.1 n) _ s

theorem gev_eq (s : State) (code unit : Nat) : ∃ c, s.gev code unit = { s with chart := c } := pcEvent_eq s 0xB700 code unit 1

theorem tev_eq (s : State) (t code unit : Nat) : ∃ c, s.tev t code unit = { s with chart := c } :=
  pcEvent_eq s (0xB600 + t) code unit 1

theorem bumpMax_eq (s : State) (k : Ctr) (n : Nat) : ∃ c, s.bumpMax k n = { s with chart := c } := by
  unfold State.bumpMax; split
  · exact ⟨_, rfl⟩
  · exact ⟨_, rfl⟩

theorem regulate_eq (s : State) (n c len : Nat) : ∃ ch e, s.regulate n c len = { s with chart := ch, exch := e } := by
  unfold State.regulate
  extract_lets v rate r full now next held src s1
  split
  · exact ⟨_, _, rfl⟩
  · split
    · exact ⟨_, _, rfl⟩
    · obtain ⟨c, hc⟩ := pcEvent_eq (s1.bumpBy ⟨0x5300 + n, 5, 64⟩ held) 0xB700 0x106 n held
      exact ⟨c, s1.exch, hc.trans rfl⟩

theorem flitPlain_eq (s : State) (n c len : Nat) : ∃ ch e, s.flitPlain n c len = { s with chart := ch, exch := e } := by
  unfold State.flitPlain
  obtain ⟨c1, h1⟩ := pcEvent_eq (s.bumpBy ⟨0x5300 + n, c, 64⟩ len) 0xB700 0x105 n len
  rw [h1]
  obtain ⟨c2, e2, h2⟩ := regulate_eq { s.bumpBy ⟨0x5300 + n, c, 64⟩ len with chart := c1 } n c len
  exact ⟨c2, e2, h2.trans rfl⟩

theorem timed_eq (s : State) (n c : Nat) : ∃ e, (s.timed n c).1 = { s with exch := e } := by
  unfold State.timed
  dsimp only
  split
  · exact ⟨_, rfl⟩
  · exact ⟨_, rfl⟩

theorem sample_eq (s : State) (c measure filter : Nat) (v : Option Nat) :
    ∃ ta, s.sample c measure filter v = { s with tally := ta } := by
  unfold State.sample; split
  · exact ⟨_, rfl⟩
  · exact ⟨_, rfl⟩

theorem flit_eq (s : State) (n c len d : Nat) :
    ∃ ch e ta, s.flit n c len d = { s with chart := ch, exch := e, tally := ta } := by
  unfold State.flit
  obtain ⟨c1, e1, h1⟩ := flitPlain_eq s n c len
  obtain ⟨e2, h2⟩ := timed_eq (s.flitPlain n c len) n c
  rcases hx : (s.flitPlain n c len).timed n c with ⟨s1, hit⟩
  rw [hx, h1] at h2
  dsimp only at h2 ⊢
  subst h2
  split
  · obtain ⟨c3, e3, h3⟩ := flitPlain_eq (({ { s with chart := c1, exch := e1 } with exch := e2 } : State).bump ⟨0x5300 + n, 6, 64⟩) d 2 1
    rw [h3]
    obtain ⟨ta, h4⟩ := sample_eq { ({ { s with chart := c1, exch := e1 } with exch := e2 } : State).bump ⟨0x5300 + n, 6, 64⟩ with
      chart := c3, exch := e3 } (nodeChan s.build (s.build.nodeIds.findIdx (· == n))) 0 (1 + c) none
    exact ⟨c3, e3, ta, h4.trans rfl⟩
  · exact ⟨c1, e2, s.tally, rfl⟩

theorem packet_eq (s : State) (a : NodeKind) (c len : Nat) (b : NodeKind) :
    ∃ ch e ta, s.packet a c len b = { s with chart := ch, exch := e, tally := ta } := flit_eq s _ c len _

/-- A record is on its way to JN; the P plane carries it (R490, R493). -/
theorem emitAs_eq (s : State) (code src : Nat) (aid : Option Aid) (args : List Nat) :
    ∃ ch e ta r, s.emitAs code src aid args = { s with
      chart := ch, exch := e, tally := ta, journal := { s.journal with inbox := s.journal.inbox ++ [r] } }
      ∧ r.code = code ∧ r.tick = s.time.tick ∧ r.args = args ∧ r.aid = aid ∧ r.src = src := by
  unfold State.emitAs
  dsimp only
  obtain ⟨ch, e, ta, h⟩ := flit_eq s src 4 1 (s.build.nodeId .jn)
  rw [h]
  exact ⟨ch, e, ta, _, rfl, rfl, rfl, rfl, rfl, rfl⟩

theorem note_eq (s : State) (c : J) (k : NodeKind) (args : List Nat) (aid : Option Aid) :
    ∃ ch e ta r, s.note c k args aid = { s with
      chart := ch, exch := e, tally := ta, journal := { s.journal with inbox := s.journal.inbox ++ [r] } }
      ∧ r.code = c.code ∧ r.tick = s.time.tick ∧ r.args = args ∧ r.aid = aid ∧ r.src = s.build.nodeId k :=
  emitAs_eq s c.code (s.build.nodeId k) aid args

theorem bump_eq (s : State) (k : Ctr) : ∃ c, s.bump k = { s with chart := c } := ⟨_, rfl⟩

theorem send_eq (s : State) (o : Out) : ∃ l, s.send o = { s with out := s.out ++ l } ∧ (s.fatal = false → l = [o]) := by
  unfold State.send
  split
  · rename_i h
    refine ⟨[], by simp, fun hf => ?_⟩
    rw [hf] at h; simp at h
  · exact ⟨[o], rfl, fun _ => rfl⟩

end Sys2Proof.Machine
end

