-- ==== Sys2Proof/Laws/Keeps.lean ====
section
/-! SUPPORT. What nearly every operation keeps: the queue, the OTP, the pins, the save image, the sizes of the lists, the
canonical form of the Chart's store and of the Agent Table, the messages sent and the records made, and the legal codes of
the power state and of GLOBAL_STATE. -/

namespace Sys2Proof.Machine

/-- `b` comes from `a` by an operation that touches none of the parts below, or keeps their form; with `m` set, it leaves
the Tick count, GLOBAL_STATE, FATAL and the lock of READY alone too. -/
structure Keeps (m : Bool) (a b : State) : Prop where
  pending : b.pending = a.pending
  boot : b.boot = a.boot
  resetCause : b.resetCause = a.resetCause
  resuming : b.resuming = a.resuming
  pins : b.pins = a.pins
  fuses : b.fuses = a.fuses
  chstat : b.chstat = a.chstat
  image : b.image = a.image
  coldDraw : b.coldDraw = a.coldDraw
  tap : b.tap = a.tap
  lifeBlow : a.sec.lifeBlow.all (· ≤ 3) = true → b.sec.lifeBlow.all (· ≤ 3) = true
  tills : b.tills.length = a.tills.length
  wickets : b.wickets.length = a.wickets.length
  ways : b.ways.length = a.ways.length
  streams : b.journal.streams.length = a.journal.streams.length
  sessions : b.sec.sessions.length = a.sec.sessions.length
  chart : KV.wf a.chart = true → KV.wf b.chart = true
  power : a.power.state ≤ 7 ∧ a.power.from_ ≤ 7 → b.power.state ≤ 7 ∧ b.power.from_ ≤ 7
  steady : m = true → b.time.tick = a.time.tick ∧ b.global = a.global ∧ b.fatal = a.fatal ∧ b.interleaveLocked = a.interleaveLocked
  global : 1 ≤ a.global ∧ a.global ≤ 3 → 1 ≤ b.global ∧ b.global ≤ 3
  out : a.out <+: b.out
  inbox : a.journal.inbox <+: b.journal.inbox
  agents : KV.wf a.agents = true → KV.wf b.agents = true

theorem Keeps.refl {m : Bool} (a : State) : Keeps m a a :=
  ⟨rfl, rfl, rfl, rfl, rfl, rfl, rfl, rfl, rfl, rfl, id, rfl, rfl, rfl, rfl, rfl, id, id, fun _ => ⟨rfl, rfl, rfl, rfl⟩, id, List.prefix_rfl, List.prefix_rfl, id⟩

theorem Keeps.trans {m : Bool} {a b c : State} (h : Keeps m a b) (g : Keeps m b c) : Keeps m a c :=
  ⟨g.pending.trans h.pending, g.boot.trans h.boot, g.resetCause.trans h.resetCause, g.resuming.trans h.resuming, g.pins.trans h.pins, g.fuses.trans h.fuses, g.chstat.trans h.chstat, g.image.trans h.image, g.coldDraw.trans h.coldDraw, g.tap.trans h.tap, fun x => g.lifeBlow (h.lifeBlow x), g.tills.trans h.tills, g.wickets.trans h.wickets, g.ways.trans h.ways, g.streams.trans h.streams, g.sessions.trans h.sessions,
    fun x => g.chart (h.chart x), fun x => g.power (h.power x),
    fun x => ⟨(g.steady x).1.trans (h.steady x).1, (g.steady x).2.1.trans (h.steady x).2.1,
      (g.steady x).2.2.1.trans (h.steady x).2.2.1, (g.steady x).2.2.2.trans (h.steady x).2.2.2⟩, fun x => g.global (h.global x), h.out.trans g.out, h.inbox.trans g.inbox, fun x => g.agents (h.agents x)⟩

theorem Keeps.ite {m : Bool} {a u v : State} {c : Prop} [Decidable c] (h : Keeps m a u) (g : Keeps m a v) : Keeps m a (if c then u else v) := by
  split <;> assumption

theorem Keeps.ite1 {β : Type} {m : Bool} {a : State} {u v : State × β} {c : Prop} [Decidable c] (h : Keeps m a u.1) (g : Keeps m a v.1) :
    Keeps m a (if c then u else v).1 := by
  split <;> assumption

theorem Keeps.foldl {α : Type} {m : Bool} {a u : State} {f : State → α → State} (hf : ∀ s x, Keeps m s (f s x)) (l : List α)
    (h : Keeps m a u) : Keeps m a (l.foldl f u) := by
  induction l generalizing u with
  | nil => exact h
  | cons x t ih => exact ih (h.trans (hf u x))

theorem Keeps.foldl1 {α β : Type} {m : Bool} {a : State} {u : State × β} {f : State × β → α → State × β}
    (hf : ∀ s x, Keeps m s.1 (f s x).1) (l : List α) (h : Keeps m a u.1) : Keeps m a (l.foldl f u).1 := by
  induction l generalizing u with
  | nil => exact h
  | cons x t ih => exact ih (h.trans (hf u x))

/-! ## The sparse stores -/

theorem KV.rising_mono {α : Type} {lo hi : Nat} (h : lo ≤ hi) {m : KV α} (g : KV.rising hi m = true) :
    KV.rising lo m = true := by
  cases m with
  | nil => rfl
  | cons p t => simp only [KV.rising, Bool.and_eq_true, decide_eq_true_eq] at g ⊢; exact ⟨Nat.le_trans h g.1, g.2⟩

theorem KV.put_rising {α : Type} {k : Nat} {v : α} : ∀ {lo : Nat} {m : KV α}, lo ≤ k → KV.rising lo m = true →
    KV.rising lo (KV.put m k v) = true
  | lo, [], h, _ => by simp [KV.put, KV.rising, h]
  | lo, (k', w) :: t, h, g => by
    simp only [KV.rising, Bool.and_eq_true, decide_eq_true_eq] at g
    unfold KV.put
    split
    · rename_i e; subst e; simp [KV.rising, h, g.2]
    · split
      · simp only [KV.rising, Bool.and_eq_true, decide_eq_true_eq]; exact ⟨h, by omega, g.2⟩
      · simp only [KV.rising, Bool.and_eq_true, decide_eq_true_eq]
        exact ⟨g.1, KV.put_rising (by omega) g.2⟩

theorem KV.del_rising {α : Type} {k : Nat} : ∀ {lo : Nat} {m : KV α}, KV.rising lo m = true →
    KV.rising lo (KV.del m k) = true
  | lo, [], _ => by simp [KV.del, KV.rising]
  | lo, (k', w) :: t, g => by
    have g' := g
    simp only [KV.rising, Bool.and_eq_true, decide_eq_true_eq] at g
    unfold KV.del
    split
    · exact KV.rising_mono (by omega) g.2
    · split
      · exact g'
      · simp only [KV.rising, Bool.and_eq_true, decide_eq_true_eq]; exact ⟨g.1, KV.del_rising g.2⟩

theorem KV.filter_rising {α : Type} {p : Nat × α → Bool} : ∀ {lo : Nat} {m : KV α}, KV.rising lo m = true →
    KV.rising lo (List.filter p m) = true
  | lo, [], _ => by simp [KV.rising]
  | lo, (k', w) :: t, g => by
    simp only [KV.rising, Bool.and_eq_true, decide_eq_true_eq] at g
    rw [List.filter_cons]
    split
    · simp only [KV.rising, Bool.and_eq_true, decide_eq_true_eq]; exact ⟨g.1, KV.filter_rising g.2⟩
    · exact KV.rising_mono (by omega) (KV.filter_rising (p := p) g.2)

theorem KV.map_rising {α β : Type} {f : Nat × α → Nat × β} (hf : ∀ p, (f p).1 = p.1) : ∀ {lo : Nat} {m : KV α},
    KV.rising lo m = true → KV.rising lo (m.map f) = true
  | lo, [], _ => by simp [KV.rising]
  | lo, (k', w) :: t, g => by
    simp only [KV.rising, Bool.and_eq_true, decide_eq_true_eq] at g
    simp only [List.map_cons]
    have e := hf (k', w)
    cases h : f (k', w) with
    | mk x y =>
      rw [h] at e; subst e
      simp only [KV.rising, Bool.and_eq_true, decide_eq_true_eq]; exact ⟨g.1, KV.map_rising hf g.2⟩

theorem KV.put_wf {α : Type} {m : KV α} (k : Nat) (v : α) (h : KV.wf m = true) : KV.wf (KV.put m k v) = true :=
  KV.put_rising (Nat.zero_le k) h
theorem KV.del_wf {α : Type} {m : KV α} (k : Nat) (h : KV.wf m = true) : KV.wf (KV.del m k) = true := KV.del_rising h
theorem KV.filter_wf {α : Type} {m : KV α} (p : Nat × α → Bool) (h : KV.wf m = true) : KV.wf (List.filter p m) = true :=
  KV.filter_rising h
theorem KV.map_wf {α β : Type} {m : KV α} {f : Nat × α → Nat × β} (hf : ∀ p, (f p).1 = p.1) (h : KV.wf m = true) :
    KV.wf (m.map f) = true := KV.map_rising hf h
theorem KV.set_wf {α : Type} [DecidableEq α] {m : KV α} (k : Nat) (v d : α) (h : KV.wf m = true) :
    KV.wf (KV.set m k v d) = true := by
  unfold KV.set; split
  · exact KV.del_wf k h
  · exact KV.put_wf k v h

theorem KV.foldl_set_wf {α β : Type} [DecidableEq α] (f : Nat × β → α) (d : α) (l : List (Nat × β)) :
    ∀ {m : KV α}, KV.wf m = true → KV.wf (l.foldl (fun m p => KV.set m p.1 (f p) d) m) = true := by
  induction l with
  | nil => intro m h; exact h
  | cons p t ih => intro m h; exact ih (KV.set_wf _ _ _ h)

/-- An update of the other fields. -/
theorem Keeps.upd {m : Bool} {a u : State} (h : Keeps m a u)
    {out' freeCtr' global' startSeen' inReset' fatal' time' chart' seg' agents' maps' net' wickets' ws' shapes' tills' cond' portReads' cellarState' cellarGen' cellarFloor' cellarLocked' saveLocked' interleaveLocked' ways' lost' au' transfers' exch' assay' power' sec' tally' journal'}
    (hb : u.sec.lifeBlow.all (· ≤ 3) = true → sec'.lifeBlow.all (· ≤ 3) = true)
    (ht : tills'.length = u.tills.length)
    (hw : wickets'.length = u.wickets.length)
    (hy : ways'.length = u.ways.length)
    (hs : journal'.streams.length = u.journal.streams.length)
    (he : sec'.sessions.length = u.sec.sessions.length)
    (hc : KV.wf u.chart = true → KV.wf chart' = true)
    (hp : u.power.state ≤ 7 ∧ u.power.from_ ≤ 7 → power'.state ≤ 7 ∧ power'.from_ ≤ 7)
    (hk : m = true → time'.tick = u.time.tick ∧ global' = u.global ∧ fatal' = u.fatal ∧ interleaveLocked' = u.interleaveLocked)
    (hg : 1 ≤ u.global ∧ u.global ≤ 3 → 1 ≤ global' ∧ global' ≤ 3)
    (ho : u.out <+: out')
    (hi : u.journal.inbox <+: journal'.inbox)
    (ha : KV.wf u.agents = true → KV.wf agents' = true) :
    Keeps m a (State.mk u.pending out' freeCtr' u.boot global' startSeen' u.resetCause u.resuming inReset' fatal' u.pins u.fuses time' chart' seg' agents' maps' net' wickets' ws' shapes' tills' cond' portReads' u.chstat cellarState' cellarGen' cellarFloor' cellarLocked' saveLocked' interleaveLocked' ways' lost' au' transfers' exch' assay' power' sec' tally' journal' u.image u.coldDraw u.tap) :=
  h.trans ⟨rfl, rfl, rfl, rfl, rfl, rfl, rfl, rfl, rfl, rfl, hb, ht, hw, hy, hs, he, hc, hp, hk, hg, ho, hi, ha⟩

end Sys2Proof.Machine
end

