-- ==== Sys2Proof/Laws/Store.lean ====
section
/-! SUPPORT. Reading back what the named operations write: the sparse stores, the Tills and Wickets, the Agent Table and the
plain Chart entries. -/

namespace Sys2Proof.Machine

/-! ## The sparse stores -/

theorem KV.find_put {α : Type} (k : Nat) (v : α) : ∀ m : KV α, KV.find? (KV.put m k v) k = some v
  | [] => by simp [KV.put, KV.find?]
  | (k', w) :: t => by
    unfold KV.put
    split
    · simp [KV.find?]
    · split
      · simp [KV.find?]
      · rename_i h g; simp only [KV.find?, if_neg h, if_neg g]; exact KV.find_put k v t

theorem KV.find_below {α : Type} {k lo : Nat} (h : k < lo) : ∀ m : KV α, KV.rising lo m = true → KV.find? m k = none
  | [], _ => rfl
  | (k', w) :: t, g => by
    simp only [KV.rising, Bool.and_eq_true, decide_eq_true_eq] at g
    have a : ¬ k' = k := by omega
    have b : k < k' := by omega
    simp [KV.find?, a, b]

theorem KV.find_del_rising {α : Type} (k : Nat) : ∀ (lo : Nat) (m : KV α), KV.rising lo m = true → KV.find? (KV.del m k) k = none
  | _, [], _ => rfl
  | lo, (k', w) :: t, g => by
    simp only [KV.rising, Bool.and_eq_true, decide_eq_true_eq] at g
    unfold KV.del
    split
    · rename_i h; subst h; exact KV.find_below (Nat.lt_succ_self _) t g.2
    · split
      · rename_i h g'; simp [KV.find?, h, g']
      · rename_i h g'; simp only [KV.find?, if_neg h, if_neg g']; exact KV.find_del_rising k _ t g.2

theorem KV.find_del {α : Type} (k : Nat) {m : KV α} (h : KV.wf m = true) : KV.find? (KV.del m k) k = none :=
  KV.find_del_rising k 0 m h

theorem KV.get_set {α : Type} [DecidableEq α] (k : Nat) (v d : α) {m : KV α} (h : KV.wf m = true) :
    KV.get (KV.set m k v d) k d = v := by
  unfold KV.get KV.set
  split
  · rename_i e; subst e; rw [KV.find_del k h]; rfl
  · rw [KV.find_put]; rfl

theorem KV.get_set_ne_default {α : Type} [DecidableEq α] (k : Nat) {v d : α} (m : KV α) (h : v ≠ d) :
    KV.get (KV.set m k v d) k d = v := by
  unfold KV.get KV.set
  rw [if_neg h, KV.find_put]; rfl

theorem KV.find_put_ne {α : Type} {k j : Nat} (h : j ≠ k) (v : α) : ∀ (lo : Nat) (m : KV α), KV.rising lo m = true →
    KV.find? (KV.put m k v) j = KV.find? m j
  | _, [], _ => by
    simp only [KV.put, KV.find?, if_neg (Ne.symm h)]; split <;> rfl
  | lo, (k', w) :: t, g => by
    simp only [KV.rising, Bool.and_eq_true, decide_eq_true_eq] at g
    unfold KV.put
    split
    · rename_i e; subst e; simp only [KV.find?, if_neg (Ne.symm h)]
    · split
      · rename_i e e'
        have hk : ¬ k = j := Ne.symm h
        simp only [KV.find?, hk, if_false]
        by_cases a : k' = j
        · subst a; simp only [if_true]; rw [if_neg (by omega)]
        · simp only [a, if_false]
          by_cases b : j < k
          · rw [if_pos b, if_pos (by omega)]
          · rw [if_neg b]
      · simp only [KV.find?]
        rw [KV.find_put_ne h v _ t g.2]

theorem KV.find_del_ne {α : Type} {k j : Nat} (h : j ≠ k) : ∀ (lo : Nat) (m : KV α), KV.rising lo m = true →
    KV.find? (KV.del m k) j = KV.find? m j
  | _, [], _ => rfl
  | lo, (k', w) :: t, g => by
    simp only [KV.rising, Bool.and_eq_true, decide_eq_true_eq] at g
    unfold KV.del
    split
    · rename_i e; subst e
      simp only [KV.find?, if_neg (Ne.symm h)]
      split
      · rename_i b; exact KV.find_below (by omega) t g.2
      · rfl
    · split
      · rfl
      · simp only [KV.find?]; rw [KV.find_del_ne h _ t g.2]

theorem KV.find_set_ne {α : Type} [DecidableEq α] {k j : Nat} (h : j ≠ k) (v d : α) {m : KV α} (g : KV.wf m = true) :
    KV.find? (KV.set m k v d) j = KV.find? m j := by
  unfold KV.set; split
  · exact KV.find_del_ne h 0 m g
  · exact KV.find_put_ne h v 0 m g

/-! ## Parts of the Home -/

@[simp] theorem till_modTill (s : State) {t : Nat} (f : Till → Till) (h : t < s.tills.length) :
    (s.modTill t f).till t = f (s.till t) := by
  simp [State.till, State.modTill, h]

@[simp] theorem till_modTill_ne (s : State) {t u : Nat} (f : Till → Till) (h : u ≠ t) : (s.modTill t f).till u = s.till u := by
  simp [State.till, State.modTill, Ne.symm h]

@[simp] theorem wicket_modWicket (s : State) {w : Nat} (f : Wicket → Wicket) (h : w < s.wickets.length) :
    (s.modWicket w f).wicket w = f (s.wicket w) := by
  simp [State.wicket, State.modWicket, h]

@[simp] theorem wicket_modWicket_ne (s : State) {w v : Nat} (f : Wicket → Wicket) (h : v ≠ w) :
    (s.modWicket w f).wicket v = s.wicket v := by
  simp [State.wicket, State.modWicket, Ne.symm h]

@[simp] theorem stream_modStream (s : State) {k : Nat} (f : Stream → Stream) (h : k < s.journal.streams.length) :
    (s.modStream k f).stream k = f (s.stream k) := by
  simp [State.stream, State.modStream, h]

theorem agent_setAgent (s : State) (n : Nat) (a : Agent) (h : KV.wf s.agents = true) : (s.setAgent n a).agent n = a :=
  KV.get_set n a {} h

theorem agent_setAgent_ne (s : State) {n m : Nat} (a : Agent) (h : KV.wf s.agents = true) (g : m ≠ n) :
    (s.setAgent n a).agent m = s.agent m := by
  simp only [State.agent, State.setAgent, KV.get, KV.find_set_ne g _ _ h]

theorem agent_modAgent (s : State) (n : Nat) (f : Agent → Agent) (h : KV.wf s.agents = true) :
    (s.modAgent n f).agent n = f (s.agent n) := agent_setAgent s n _ h

/-! ## Plain Chart entries -/

theorem raw_setRaw (s : State) (i j : Nat) (v : Word) (h : KV.wf s.chart = true) : (s.setRaw i j v).raw i j = v :=
  KV.get_set (ekey i j) v _ h

theorem rawN_setRawN (s : State) (i j v : Nat) (h : KV.wf s.chart = true) (hv : v < 2 ^ 64) : (s.setRawN i j v).rawN i j = v := by
  unfold State.rawN State.setRawN
  rw [raw_setRaw s i j _ h, BitVec.toNat_ofNat, Nat.mod_eq_of_lt hv]

theorem raw_setRaw_ne (s : State) {i j i' j' : Nat} (v : Word) (h : KV.wf s.chart = true) (g : ekey i' j' ≠ ekey i j) :
    (s.setRaw i j v).raw i' j' = s.raw i' j' := by
  show (KV.find? (KV.set s.chart (ekey i j) v _) (ekey i' j')).getD _ = _
  rw [KV.find_set_ne g _ _ h]; rfl

theorem rawN_setRawN_ne (s : State) {i j i' j' : Nat} (v : Nat) (h : KV.wf s.chart = true) (g : ekey i' j' ≠ ekey i j) :
    (s.setRawN i j v).rawN i' j' = s.rawN i' j' := by
  unfold State.rawN State.setRawN
  rw [raw_setRaw_ne s _ h g]

/-- A counter counts one event, and wraps at its width. -/
theorem rawN_bump (s : State) (i j w : Nat) (h : KV.wf s.chart = true) (hw : w ≤ 64) :
    (s.bump ⟨i, j, w⟩).rawN i j = (s.rawN i j + 1) % 2 ^ w :=
  rawN_setRawN s i j _ h (Nat.lt_of_lt_of_le (Nat.mod_lt _ (Nat.two_pow_pos w)) (Nat.pow_le_pow_right (by decide) hw))

end Sys2Proof.Machine
end

