-- ==== Sys2Proof/Laws/Counters.lean ====
section
/-! SUPPORT. The statistics that events, flits and records count stay apart from every other plain entry: those others read
after as before. -/

namespace Sys2Proof.Machine

/-- A key outside the Exchange statistics of the nodes and the programmable counters. -/
def Apart (k : Nat) : Prop := (k < ekey 0x5300 0 ∨ ekey 0x5340 0 ≤ k) ∧ (k < ekey 0xB600 0 ∨ ekey 0xB800 0 ≤ k)

/-- `b` holds a canonical Chart store if `a` does, and then every entry apart from the statistics reads alike. -/
def SameEntries (a b : State) : Prop :=
  a.fuses = b.fuses ∧ (KV.wf a.chart = true → KV.wf b.chart = true ∧ ∀ k, Apart k → KV.find? b.chart k = KV.find? a.chart k)

theorem SameEntries.refl (a : State) : SameEntries a a := ⟨rfl, fun h => ⟨h, fun _ _ => rfl⟩⟩
theorem SameEntries.trans {a b c : State} (h : SameEntries a b) (g : SameEntries b c) : SameEntries a c :=
  ⟨h.1.trans g.1, fun w => ⟨(g.2 (h.2 w).1).1, fun k hk => ((g.2 (h.2 w).1).2 k hk).trans ((h.2 w).2 k hk)⟩⟩

theorem SameEntries.raw {a b : State} (h : SameEntries a b) (w : KV.wf a.chart = true) {i j : Nat} (hk : Apart (ekey i j)) :
    b.raw i j = a.raw i j := by
  unfold State.raw State.edefault State.build
  rw [(h.2 w).2 _ hk, h.1]

theorem SameEntries.rawN {a b : State} (h : SameEntries a b) (w : KV.wf a.chart = true) {i j : Nat} (hk : Apart (ekey i j)) :
    b.rawN i j = a.rawN i j := by unfold State.rawN; rw [h.raw w hk]

/-- A state with the same Chart store and OTP. -/
theorem SameEntries.of_eq {a b : State} (h : b.chart = a.chart) (g : b.fuses = a.fuses) : SameEntries a b :=
  ⟨g.symm, fun w => ⟨h ▸ w, fun _ _ => by rw [h]⟩⟩

theorem same_setRaw (s : State) (i j : Nat) (v : Word) (h : ¬ Apart (ekey i j)) : SameEntries s (s.setRaw i j v) :=
  ⟨rfl, fun w => ⟨KV.set_wf _ _ _ w, fun k hk => KV.find_set_ne (by rintro rfl; exact h hk) _ _ w⟩⟩

theorem same_foldl {α : Type} {f : State → α → State} (l : List α) (hf : ∀ s, ∀ x ∈ l, SameEntries s (f s x)) (s : State) :
    SameEntries s (l.foldl f s) := by
  induction l generalizing s with
  | nil => exact SameEntries.refl s
  | cons x t ih =>
    exact (hf s x (by simp)).trans (ih (fun s y hy => hf s y (by simp [hy])) _)

theorem same_pcAdd (s : State) {i j : Nat} (n : Nat) (h : ¬ Apart (ekey i j)) (g : ¬ Apart (ekey i (0x40 + j))) :
    SameEntries s (s.pcAdd i j n) := by
  unfold State.pcAdd
  extract_lets v s1
  split
  · exact same_setRaw s i j _ h
  · exact (same_setRaw s i j _ h).trans (same_setRaw s1 i (0x40 + j) _ g)

theorem selectors_bound {s : State} {i : Nat} {p : Nat × Nat} (h : p ∈ s.selectors i) : p.1 < 0x40 := by
  unfold State.selectors at h
  simp only [List.mem_map, List.mem_filter, Bool.and_eq_true, decide_eq_true_eq] at h
  obtain ⟨q, ⟨-, h1, h2⟩, rfl⟩ := h
  simp only [ekey] at *; omega

theorem same_pcEvent (s : State) {i : Nat} (code unit n : Nat) (h : 0xB600 ≤ i ∧ i < 0xB800) :
    SameEntries s (s.pcEvent i code unit n) := by
  unfold State.pcEvent
  split
  · exact SameEntries.refl s
  · refine same_foldl _ (fun s x hx => ?_) s
    have := selectors_bound (List.mem_filter.mp hx).1
    refine same_pcAdd s n ?_ ?_ <;> simp only [Apart, ekey] <;> omega

theorem same_gev (s : State) (code unit : Nat) : SameEntries s (s.gev code unit) := same_pcEvent s code unit 1 (by omega)

theorem same_tev (s : State) {t : Nat} (ht : t < 32) (code unit : Nat) : SameEntries s (s.tev t code unit) :=
  same_pcEvent s code unit 1 (by omega)

theorem same_regulate (s : State) {n : Nat} (hn : n < 64) (c len : Nat) : SameEntries s (s.regulate n c len) := by
  unfold State.regulate
  extract_lets v rate r full now next held src s1
  split
  · exact SameEntries.refl s
  · have h1 : SameEntries s s1 := SameEntries.of_eq rfl rfl
    split
    · exact h1
    · refine h1.trans (SameEntries.trans (b := s1.bumpBy ⟨0x5300 + n, 5, 64⟩ held) ?_ (same_pcEvent _ _ _ _ (by omega)))
      exact same_setRaw s1 _ _ _ (by simp only [Apart, ekey]; omega)

theorem same_flitPlain (s : State) {n c : Nat} (hn : n < 64) (hc : c < 256) (len : Nat) : SameEntries s (s.flitPlain n c len) := by
  unfold State.flitPlain
  refine SameEntries.trans (b := s.bumpBy ⟨0x5300 + n, c, 64⟩ len) ?_
    (SameEntries.trans (same_pcEvent _ _ _ _ (by omega)) (same_regulate _ hn _ _))
  exact same_setRaw s _ _ _ (by simp only [Apart, ekey]; omega)

theorem same_flit (s : State) {n c d : Nat} (hn : n < 64) (hc : c < 256) (hd : d < 64) (len : Nat) :
    SameEntries s (s.flit n c len d) := by
  unfold State.flit
  obtain ⟨e2, h2⟩ := timed_eq (s.flitPlain n c len) n c
  rcases hx : (s.flitPlain n c len).timed n c with ⟨s1, hit⟩
  rw [hx] at h2
  dsimp only at h2 ⊢
  have h1 : SameEntries s s1 := (same_flitPlain s hn hc len).trans (h2 ▸ SameEntries.of_eq rfl rfl)
  split
  · obtain ⟨ta, h4⟩ := sample_eq ((s1.bump ⟨0x5300 + n, 6, 64⟩).flitPlain d 2 1) (nodeChan s.build (s.build.nodeIds.findIdx (· == n))) 0 (1 + c) none
    rw [h4]
    refine h1.trans (SameEntries.trans (b := s1.bump ⟨0x5300 + n, 6, 64⟩) ?_ ((same_flitPlain _ hd (by omega) 1).trans (SameEntries.of_eq rfl rfl)))
    exact same_setRaw s1 _ _ _ (by simp only [Apart, ekey]; omega)
  · exact h1

theorem nodeId_bound (b : Build) (k : NodeKind) : b.nodeId k < 64 := by
  unfold Build.nodeId
  cases h : b.nodeIds.find? (fun n => b.nodeAt n == some k) with
  | none => exact (by decide : (0 : Nat) < 64)
  | some n =>
    have := List.mem_of_find?_eq_some h
    unfold Build.nodeIds at this
    exact List.mem_range.mp (List.mem_filter.mp this).1

theorem same_packet (s : State) (a b : NodeKind) {c : Nat} (hc : c < 256) (len : Nat) : SameEntries s (s.packet a c len b) :=
  same_flit s (nodeId_bound _ _) hc (nodeId_bound _ _) len

theorem same_note (s : State) (c : J) (k : NodeKind) (args : List Nat) (aid : Option Aid) : SameEntries s (s.note c k args aid) := by
  unfold State.note State.emit State.emitAs
  exact (same_flit s (nodeId_bound _ _) (by omega) (nodeId_bound _ _) 1).trans (SameEntries.of_eq rfl rfl)

end Sys2Proof.Machine
end

