-- ==== Sys2Proof/Laws/KeepsX0.lean ====
section
/-! SUPPORT. What `Keeps` says of each operation, in the order of the callees. -/

namespace Sys2Proof.Machine
set_option linter.all false

theorem keeps_State_modTill {m₀ : Bool} {a₀ s₀ : State} (h₀ : Keeps m₀ a₀ s₀) {t : Nat} {f : Till → Till} :
    Keeps m₀ a₀ (State.modTill s₀ t f) := by
  unfold State.modTill
  try extract_lets
  repeat' (first | with_reducible assumption | (fail_if_no_progress (with_reducible apply Keeps.upd) <;> first | with_reducible rfl | with_reducible exact fun x => x | with_reducible exact fun _ => ⟨rfl, rfl, rfl, rfl⟩ | with_reducible exact fun x => absurd x Bool.false_ne_true | with_reducible exact KV.set_wf _ _ _ | with_reducible exact KV.put_wf _ _ | with_reducible exact KV.filter_wf _ | with_reducible exact List.prefix_rfl | with_reducible exact List.prefix_append _ _ | with_reducible exact KV.map_wf (fun _ => rfl) | with_reducible exact fun _ => KV.foldl_set_wf _ _ _ rfl | (simp; done) | skip) | with_reducible apply Keeps.ite | with_reducible apply Keeps.ite1 | (with_reducible apply Keeps.foldl; intro s₁ x₁; have h₁ : Keeps m₀ s₁ s₁ := Keeps.refl s₁; try dsimp +zetaDelta only) | (with_reducible apply Keeps.foldl1; intro s₁ x₁; have h₁ : Keeps m₀ s₁.1 s₁.1 := Keeps.refl s₁.1; try dsimp +zetaDelta only) | extract_lets | split | dsimp +zetaDelta only)

theorem keeps_closeChain {m₀ : Bool} {a₀ s₀ : State} (h₀ : Keeps m₀ a₀ s₀) {t : Nat} {l : Sys2Proof.Line} :
    Keeps m₀ a₀ (closeChain s₀ t l) := by
  unfold closeChain
  try extract_lets
  repeat' (first | with_reducible assumption | with_reducible apply keeps_State_modTill | (fail_if_no_progress (with_reducible apply Keeps.upd) <;> first | with_reducible rfl | with_reducible exact fun x => x | with_reducible exact fun _ => ⟨rfl, rfl, rfl, rfl⟩ | with_reducible exact fun x => absurd x Bool.false_ne_true | with_reducible exact KV.set_wf _ _ _ | with_reducible exact KV.put_wf _ _ | with_reducible exact KV.filter_wf _ | with_reducible exact List.prefix_rfl | with_reducible exact List.prefix_append _ _ | with_reducible exact KV.map_wf (fun _ => rfl) | with_reducible exact fun _ => KV.foldl_set_wf _ _ _ rfl | (simp; done) | skip) | with_reducible apply Keeps.ite | with_reducible apply Keeps.ite1 | (with_reducible apply Keeps.foldl; intro s₁ x₁; have h₁ : Keeps m₀ s₁ s₁ := Keeps.refl s₁; try dsimp +zetaDelta only) | (with_reducible apply Keeps.foldl1; intro s₁ x₁; have h₁ : Keeps m₀ s₁.1 s₁.1 := Keeps.refl s₁.1; try dsimp +zetaDelta only) | extract_lets | split | dsimp +zetaDelta only)

theorem keeps_State_modSession {m₀ : Bool} {a₀ s₀ : State} (h₀ : Keeps m₀ a₀ s₀) {k : Nat} {f : Session → Session} :
    Keeps m₀ a₀ (State.modSession s₀ k f) := by
  unfold State.modSession
  try extract_lets
  repeat' (first | with_reducible assumption | (fail_if_no_progress (with_reducible apply Keeps.upd) <;> first | with_reducible rfl | with_reducible exact fun x => x | with_reducible exact fun _ => ⟨rfl, rfl, rfl, rfl⟩ | with_reducible exact fun x => absurd x Bool.false_ne_true | with_reducible exact KV.set_wf _ _ _ | with_reducible exact KV.put_wf _ _ | with_reducible exact KV.filter_wf _ | with_reducible exact List.prefix_rfl | with_reducible exact List.prefix_append _ _ | with_reducible exact KV.map_wf (fun _ => rfl) | with_reducible exact fun _ => KV.foldl_set_wf _ _ _ rfl | (simp; done) | skip) | with_reducible apply Keeps.ite | with_reducible apply Keeps.ite1 | (with_reducible apply Keeps.foldl; intro s₁ x₁; have h₁ : Keeps m₀ s₁ s₁ := Keeps.refl s₁; try dsimp +zetaDelta only) | (with_reducible apply Keeps.foldl1; intro s₁ x₁; have h₁ : Keeps m₀ s₁.1 s₁.1 := Keeps.refl s₁.1; try dsimp +zetaDelta only) | extract_lets | split | dsimp +zetaDelta only)

theorem keeps_State_setRaw {m₀ : Bool} {a₀ s₀ : State} (h₀ : Keeps m₀ a₀ s₀) {i : Nat} {j : Nat} {v : Sys2Proof.Word} :
    Keeps m₀ a₀ (State.setRaw s₀ i j v) := by
  unfold State.setRaw
  try extract_lets
  repeat' (first | with_reducible assumption | (fail_if_no_progress (with_reducible apply Keeps.upd) <;> first | with_reducible rfl | with_reducible exact fun x => x | with_reducible exact fun _ => ⟨rfl, rfl, rfl, rfl⟩ | with_reducible exact fun x => absurd x Bool.false_ne_true | with_reducible exact KV.set_wf _ _ _ | with_reducible exact KV.put_wf _ _ | with_reducible exact KV.filter_wf _ | with_reducible exact List.prefix_rfl | with_reducible exact List.prefix_append _ _ | with_reducible exact KV.map_wf (fun _ => rfl) | with_reducible exact fun _ => KV.foldl_set_wf _ _ _ rfl | (simp; done) | skip) | with_reducible apply Keeps.ite | with_reducible apply Keeps.ite1 | (with_reducible apply Keeps.foldl; intro s₁ x₁; have h₁ : Keeps m₀ s₁ s₁ := Keeps.refl s₁; try dsimp +zetaDelta only) | (with_reducible apply Keeps.foldl1; intro s₁ x₁; have h₁ : Keeps m₀ s₁.1 s₁.1 := Keeps.refl s₁.1; try dsimp +zetaDelta only) | extract_lets | split | dsimp +zetaDelta only)

theorem keeps_State_setRawN {m₀ : Bool} {a₀ s₀ : State} (h₀ : Keeps m₀ a₀ s₀) {i : Nat} {j : Nat} {v : Nat} :
    Keeps m₀ a₀ (State.setRawN s₀ i j v) := by
  unfold State.setRawN
  try extract_lets
  repeat' (first | with_reducible assumption | with_reducible apply keeps_State_setRaw | (fail_if_no_progress (with_reducible apply Keeps.upd) <;> first | with_reducible rfl | with_reducible exact fun x => x | with_reducible exact fun _ => ⟨rfl, rfl, rfl, rfl⟩ | with_reducible exact fun x => absurd x Bool.false_ne_true | with_reducible exact KV.set_wf _ _ _ | with_reducible exact KV.put_wf _ _ | with_reducible exact KV.filter_wf _ | with_reducible exact List.prefix_rfl | with_reducible exact List.prefix_append _ _ | with_reducible exact KV.map_wf (fun _ => rfl) | with_reducible exact fun _ => KV.foldl_set_wf _ _ _ rfl | (simp; done) | skip) | with_reducible apply Keeps.ite | with_reducible apply Keeps.ite1 | (with_reducible apply Keeps.foldl; intro s₁ x₁; have h₁ : Keeps m₀ s₁ s₁ := Keeps.refl s₁; try dsimp +zetaDelta only) | (with_reducible apply Keeps.foldl1; intro s₁ x₁; have h₁ : Keeps m₀ s₁.1 s₁.1 := Keeps.refl s₁.1; try dsimp +zetaDelta only) | extract_lets | split | dsimp +zetaDelta only)

theorem keeps_State_bumpBy {m₀ : Bool} {a₀ s₀ : State} (h₀ : Keeps m₀ a₀ s₀) {c : Ctr} {n : Nat} :
    Keeps m₀ a₀ (State.bumpBy s₀ c n) := by
  unfold State.bumpBy
  try extract_lets
  repeat' (first | with_reducible assumption | with_reducible apply keeps_State_setRawN | (fail_if_no_progress (with_reducible apply Keeps.upd) <;> first | with_reducible rfl | with_reducible exact fun x => x | with_reducible exact fun _ => ⟨rfl, rfl, rfl, rfl⟩ | with_reducible exact fun x => absurd x Bool.false_ne_true | with_reducible exact KV.set_wf _ _ _ | with_reducible exact KV.put_wf _ _ | with_reducible exact KV.filter_wf _ | with_reducible exact List.prefix_rfl | with_reducible exact List.prefix_append _ _ | with_reducible exact KV.map_wf (fun _ => rfl) | with_reducible exact fun _ => KV.foldl_set_wf _ _ _ rfl | (simp; done) | skip) | with_reducible apply Keeps.ite | with_reducible apply Keeps.ite1 | (with_reducible apply Keeps.foldl; intro s₁ x₁; have h₁ : Keeps m₀ s₁ s₁ := Keeps.refl s₁; try dsimp +zetaDelta only) | (with_reducible apply Keeps.foldl1; intro s₁ x₁; have h₁ : Keeps m₀ s₁.1 s₁.1 := Keeps.refl s₁.1; try dsimp +zetaDelta only) | extract_lets | split | dsimp +zetaDelta only)

theorem keeps_State_bump {m₀ : Bool} {a₀ s₀ : State} (h₀ : Keeps m₀ a₀ s₀) {c : Ctr} :
    Keeps m₀ a₀ (State.bump s₀ c) := by
  unfold State.bump
  try extract_lets
  repeat' (first | with_reducible assumption | with_reducible apply keeps_State_bumpBy | (fail_if_no_progress (with_reducible apply Keeps.upd) <;> first | with_reducible rfl | with_reducible exact fun x => x | with_reducible exact fun _ => ⟨rfl, rfl, rfl, rfl⟩ | with_reducible exact fun x => absurd x Bool.false_ne_true | with_reducible exact KV.set_wf _ _ _ | with_reducible exact KV.put_wf _ _ | with_reducible exact KV.filter_wf _ | with_reducible exact List.prefix_rfl | with_reducible exact List.prefix_append _ _ | with_reducible exact KV.map_wf (fun _ => rfl) | with_reducible exact fun _ => KV.foldl_set_wf _ _ _ rfl | (simp; done) | skip) | with_reducible apply Keeps.ite | with_reducible apply Keeps.ite1 | (with_reducible apply Keeps.foldl; intro s₁ x₁; have h₁ : Keeps m₀ s₁ s₁ := Keeps.refl s₁; try dsimp +zetaDelta only) | (with_reducible apply Keeps.foldl1; intro s₁ x₁; have h₁ : Keeps m₀ s₁.1 s₁.1 := Keeps.refl s₁.1; try dsimp +zetaDelta only) | extract_lets | split | dsimp +zetaDelta only)

theorem keeps_State_pcAdd {m₀ : Bool} {a₀ s₀ : State} (h₀ : Keeps m₀ a₀ s₀) {i : Nat} {j : Nat} {n : Nat} :
    Keeps m₀ a₀ (State.pcAdd s₀ i j n) := by
  unfold State.pcAdd
  try extract_lets
  repeat' (first | with_reducible assumption | with_reducible apply keeps_State_setRawN | (fail_if_no_progress (with_reducible apply Keeps.upd) <;> first | with_reducible rfl | with_reducible exact fun x => x | with_reducible exact fun _ => ⟨rfl, rfl, rfl, rfl⟩ | with_reducible exact fun x => absurd x Bool.false_ne_true | with_reducible exact KV.set_wf _ _ _ | with_reducible exact KV.put_wf _ _ | with_reducible exact KV.filter_wf _ | with_reducible exact List.prefix_rfl | with_reducible exact List.prefix_append _ _ | with_reducible exact KV.map_wf (fun _ => rfl) | with_reducible exact fun _ => KV.foldl_set_wf _ _ _ rfl | (simp; done) | skip) | with_reducible apply Keeps.ite | with_reducible apply Keeps.ite1 | (with_reducible apply Keeps.foldl; intro s₁ x₁; have h₁ : Keeps m₀ s₁ s₁ := Keeps.refl s₁; try dsimp +zetaDelta only) | (with_reducible apply Keeps.foldl1; intro s₁ x₁; have h₁ : Keeps m₀ s₁.1 s₁.1 := Keeps.refl s₁.1; try dsimp +zetaDelta only) | extract_lets | split | dsimp +zetaDelta only)

theorem keeps_State_pcEvent {m₀ : Bool} {a₀ s₀ : State} (h₀ : Keeps m₀ a₀ s₀) {i : Nat} {code : Nat} {unit : Nat} {n : Nat} :
    Keeps m₀ a₀ (State.pcEvent s₀ i code unit n) := by
  unfold State.pcEvent
  try extract_lets
  repeat' (first | with_reducible assumption | with_reducible apply keeps_State_pcAdd | (fail_if_no_progress (with_reducible apply Keeps.upd) <;> first | with_reducible rfl | with_reducible exact fun x => x | with_reducible exact fun _ => ⟨rfl, rfl, rfl, rfl⟩ | with_reducible exact fun x => absurd x Bool.false_ne_true | with_reducible exact KV.set_wf _ _ _ | with_reducible exact KV.put_wf _ _ | with_reducible exact KV.filter_wf _ | with_reducible exact List.prefix_rfl | with_reducible exact List.prefix_append _ _ | with_reducible exact KV.map_wf (fun _ => rfl) | with_reducible exact fun _ => KV.foldl_set_wf _ _ _ rfl | (simp; done) | skip) | with_reducible apply Keeps.ite | with_reducible apply Keeps.ite1 | (with_reducible apply Keeps.foldl; intro s₁ x₁; have h₁ : Keeps m₀ s₁ s₁ := Keeps.refl s₁; try dsimp +zetaDelta only) | (with_reducible apply Keeps.foldl1; intro s₁ x₁; have h₁ : Keeps m₀ s₁.1 s₁.1 := Keeps.refl s₁.1; try dsimp +zetaDelta only) | extract_lets | split | dsimp +zetaDelta only)

theorem keeps_State_regulate {m₀ : Bool} {a₀ s₀ : State} (h₀ : Keeps m₀ a₀ s₀) {n : Nat} {c : Nat} {len : Nat} :
    Keeps m₀ a₀ (State.regulate s₀ n c len) := by
  unfold State.regulate
  try extract_lets
  repeat' (first | with_reducible assumption | with_reducible apply keeps_State_bumpBy | with_reducible apply keeps_State_pcEvent | (fail_if_no_progress (with_reducible apply Keeps.upd) <;> first | with_reducible rfl | with_reducible exact fun x => x | with_reducible exact fun _ => ⟨rfl, rfl, rfl, rfl⟩ | with_reducible exact fun x => absurd x Bool.false_ne_true | with_reducible exact KV.set_wf _ _ _ | with_reducible exact KV.put_wf _ _ | with_reducible exact KV.filter_wf _ | with_reducible exact List.prefix_rfl | with_reducible exact List.prefix_append _ _ | with_reducible exact KV.map_wf (fun _ => rfl) | with_reducible exact fun _ => KV.foldl_set_wf _ _ _ rfl | (simp; done) | skip) | with_reducible apply Keeps.ite | with_reducible apply Keeps.ite1 | (with_reducible apply Keeps.foldl; intro s₁ x₁; have h₁ : Keeps m₀ s₁ s₁ := Keeps.refl s₁; try dsimp +zetaDelta only) | (with_reducible apply Keeps.foldl1; intro s₁ x₁; have h₁ : Keeps m₀ s₁.1 s₁.1 := Keeps.refl s₁.1; try dsimp +zetaDelta only) | extract_lets | split | dsimp +zetaDelta only)

theorem keeps_State_flitPlain {m₀ : Bool} {a₀ s₀ : State} (h₀ : Keeps m₀ a₀ s₀) {n : Nat} {c : Nat} {len : Nat} :
    Keeps m₀ a₀ (State.flitPlain s₀ n c len) := by
  unfold State.flitPlain
  try extract_lets
  repeat' (first | with_reducible assumption | with_reducible apply keeps_State_bumpBy | with_reducible apply keeps_State_pcEvent | with_reducible apply keeps_State_regulate | (fail_if_no_progress (with_reducible apply Keeps.upd) <;> first | with_reducible rfl | with_reducible exact fun x => x | with_reducible exact fun _ => ⟨rfl, rfl, rfl, rfl⟩ | with_reducible exact fun x => absurd x Bool.false_ne_true | with_reducible exact KV.set_wf _ _ _ | with_reducible exact KV.put_wf _ _ | with_reducible exact KV.filter_wf _ | with_reducible exact List.prefix_rfl | with_reducible exact List.prefix_append _ _ | with_reducible exact KV.map_wf (fun _ => rfl) | with_reducible exact fun _ => KV.foldl_set_wf _ _ _ rfl | (simp; done) | skip) | with_reducible apply Keeps.ite | with_reducible apply Keeps.ite1 | (with_reducible apply Keeps.foldl; intro s₁ x₁; have h₁ : Keeps m₀ s₁ s₁ := Keeps.refl s₁; try dsimp +zetaDelta only) | (with_reducible apply Keeps.foldl1; intro s₁ x₁; have h₁ : Keeps m₀ s₁.1 s₁.1 := Keeps.refl s₁.1; try dsimp +zetaDelta only) | extract_lets | split | dsimp +zetaDelta only)

theorem keeps_State_sample {m₀ : Bool} {a₀ s₀ : State} (h₀ : Keeps m₀ a₀ s₀) {c : Nat} {measure : Nat} {filter : Nat} {v : Option Nat} :
    Keeps m₀ a₀ (State.sample s₀ c measure filter v) := by
  unfold State.sample
  try extract_lets
  repeat' (first | with_reducible assumption | (fail_if_no_progress (with_reducible apply Keeps.upd) <;> first | with_reducible rfl | with_reducible exact fun x => x | with_reducible exact fun _ => ⟨rfl, rfl, rfl, rfl⟩ | with_reducible exact fun x => absurd x Bool.false_ne_true | with_reducible exact KV.set_wf _ _ _ | with_reducible exact KV.put_wf _ _ | with_reducible exact KV.filter_wf _ | with_reducible exact List.prefix_rfl | with_reducible exact List.prefix_append _ _ | with_reducible exact KV.map_wf (fun _ => rfl) | with_reducible exact fun _ => KV.foldl_set_wf _ _ _ rfl | (simp; done) | skip) | with_reducible apply Keeps.ite | with_reducible apply Keeps.ite1 | (with_reducible apply Keeps.foldl; intro s₁ x₁; have h₁ : Keeps m₀ s₁ s₁ := Keeps.refl s₁; try dsimp +zetaDelta only) | (with_reducible apply Keeps.foldl1; intro s₁ x₁; have h₁ : Keeps m₀ s₁.1 s₁.1 := Keeps.refl s₁.1; try dsimp +zetaDelta only) | extract_lets | split | dsimp +zetaDelta only)

theorem keeps_State_timed {m₀ : Bool} {a₀ s₀ : State} (h₀ : Keeps m₀ a₀ s₀) {n : Nat} {c : Nat} :
    Keeps m₀ a₀ (State.timed s₀ n c).1 := by
  unfold State.timed
  try extract_lets
  repeat' (first | with_reducible assumption | (fail_if_no_progress (with_reducible apply Keeps.upd) <;> first | with_reducible rfl | with_reducible exact fun x => x | with_reducible exact fun _ => ⟨rfl, rfl, rfl, rfl⟩ | with_reducible exact fun x => absurd x Bool.false_ne_true | with_reducible exact KV.set_wf _ _ _ | with_reducible exact KV.put_wf _ _ | with_reducible exact KV.filter_wf _ | with_reducible exact List.prefix_rfl | with_reducible exact List.prefix_append _ _ | with_reducible exact KV.map_wf (fun _ => rfl) | with_reducible exact fun _ => KV.foldl_set_wf _ _ _ rfl | (simp; done) | skip) | with_reducible apply Keeps.ite | with_reducible apply Keeps.ite1 | (with_reducible apply Keeps.foldl; intro s₁ x₁; have h₁ : Keeps m₀ s₁ s₁ := Keeps.refl s₁; try dsimp +zetaDelta only) | (with_reducible apply Keeps.foldl1; intro s₁ x₁; have h₁ : Keeps m₀ s₁.1 s₁.1 := Keeps.refl s₁.1; try dsimp +zetaDelta only) | extract_lets | split | dsimp +zetaDelta only)

theorem keeps_State_timed_eq {m₀ : Bool} {a₀ s₀ u₀ : State} {y₀ : Bool} {n : Nat} {c : Nat} (e₀ : State.timed s₀ n c = (u₀, y₀)) (h₀ : Keeps m₀ a₀ s₀) :
    Keeps m₀ a₀ u₀ := by
  have k := @keeps_State_timed m₀ a₀ s₀ h₀ n c
  rw [e₀] at k; exact k

theorem keeps_State_flit {m₀ : Bool} {a₀ s₀ : State} (h₀ : Keeps m₀ a₀ s₀) {n : Nat} {c : Nat} {len : Nat} {d : Nat} :
    Keeps m₀ a₀ (State.flit s₀ n c len d) := by
  unfold State.flit
  try extract_lets
  repeat' (first | with_reducible assumption | with_reducible refine keeps_State_timed_eq (by assumption) ?_ | with_reducible apply keeps_State_bump | with_reducible apply keeps_State_flitPlain | with_reducible apply keeps_State_sample | with_reducible apply keeps_State_timed | (fail_if_no_progress (with_reducible apply Keeps.upd) <;> first | with_reducible rfl | with_reducible exact fun x => x | with_reducible exact fun _ => ⟨rfl, rfl, rfl, rfl⟩ | with_reducible exact fun x => absurd x Bool.false_ne_true | with_reducible exact KV.set_wf _ _ _ | with_reducible exact KV.put_wf _ _ | with_reducible exact KV.filter_wf _ | with_reducible exact List.prefix_rfl | with_reducible exact List.prefix_append _ _ | with_reducible exact KV.map_wf (fun _ => rfl) | with_reducible exact fun _ => KV.foldl_set_wf _ _ _ rfl | (simp; done) | skip) | with_reducible apply Keeps.ite | with_reducible apply Keeps.ite1 | (with_reducible apply Keeps.foldl; intro s₁ x₁; have h₁ : Keeps m₀ s₁ s₁ := Keeps.refl s₁; try dsimp +zetaDelta only) | (with_reducible apply Keeps.foldl1; intro s₁ x₁; have h₁ : Keeps m₀ s₁.1 s₁.1 := Keeps.refl s₁.1; try dsimp +zetaDelta only) | extract_lets | split | dsimp +zetaDelta only)

theorem keeps_State_emitAs {m₀ : Bool} {a₀ s₀ : State} (h₀ : Keeps m₀ a₀ s₀) {code : Nat} {src : Nat} {aid : Option Sys2Proof.Aid} {args : List Nat} :
    Keeps m₀ a₀ (State.emitAs s₀ code src aid args) := by
  unfold State.emitAs
  try extract_lets
  repeat' (first | with_reducible assumption | with_reducible apply keeps_State_flit | (fail_if_no_progress (with_reducible apply Keeps.upd) <;> first | with_reducible rfl | with_reducible exact fun x => x | with_reducible exact fun _ => ⟨rfl, rfl, rfl, rfl⟩ | with_reducible exact fun x => absurd x Bool.false_ne_true | with_reducible exact KV.set_wf _ _ _ | with_reducible exact KV.put_wf _ _ | with_reducible exact KV.filter_wf _ | with_reducible exact List.prefix_rfl | with_reducible exact List.prefix_append _ _ | with_reducible exact KV.map_wf (fun _ => rfl) | with_reducible exact fun _ => KV.foldl_set_wf _ _ _ rfl | (simp; done) | skip) | with_reducible apply Keeps.ite | with_reducible apply Keeps.ite1 | (with_reducible apply Keeps.foldl; intro s₁ x₁; have h₁ : Keeps m₀ s₁ s₁ := Keeps.refl s₁; try dsimp +zetaDelta only) | (with_reducible apply Keeps.foldl1; intro s₁ x₁; have h₁ : Keeps m₀ s₁.1 s₁.1 := Keeps.refl s₁.1; try dsimp +zetaDelta only) | extract_lets | split | dsimp +zetaDelta only)

theorem keeps_State_emit {m₀ : Bool} {a₀ s₀ : State} (h₀ : Keeps m₀ a₀ s₀) {code : Nat} {k : Sys2Proof.NodeKind} {args : List Nat} {aid : optParam (Option Sys2Proof.Aid) none} :
    Keeps m₀ a₀ (State.emit s₀ code k args aid) := by
  unfold State.emit
  try extract_lets
  repeat' (first | with_reducible assumption | with_reducible apply keeps_State_emitAs | (fail_if_no_progress (with_reducible apply Keeps.upd) <;> first | with_reducible rfl | with_reducible exact fun x => x | with_reducible exact fun _ => ⟨rfl, rfl, rfl, rfl⟩ | with_reducible exact fun x => absurd x Bool.false_ne_true | with_reducible exact KV.set_wf _ _ _ | with_reducible exact KV.put_wf _ _ | with_reducible exact KV.filter_wf _ | with_reducible exact List.prefix_rfl | with_reducible exact List.prefix_append _ _ | with_reducible exact KV.map_wf (fun _ => rfl) | with_reducible exact fun _ => KV.foldl_set_wf _ _ _ rfl | (simp; done) | skip) | with_reducible apply Keeps.ite | with_reducible apply Keeps.ite1 | (with_reducible apply Keeps.foldl; intro s₁ x₁; have h₁ : Keeps m₀ s₁ s₁ := Keeps.refl s₁; try dsimp +zetaDelta only) | (with_reducible apply Keeps.foldl1; intro s₁ x₁; have h₁ : Keeps m₀ s₁.1 s₁.1 := Keeps.refl s₁.1; try dsimp +zetaDelta only) | extract_lets | split | dsimp +zetaDelta only)

theorem keeps_State_note {m₀ : Bool} {a₀ s₀ : State} (h₀ : Keeps m₀ a₀ s₀) {c : J} {k : Sys2Proof.NodeKind} {args : List Nat} {aid : optParam (Option Sys2Proof.Aid) none} :
    Keeps m₀ a₀ (State.note s₀ c k args aid) := by
  unfold State.note
  try extract_lets
  repeat' (first | with_reducible assumption | with_reducible apply keeps_State_emit | (fail_if_no_progress (with_reducible apply Keeps.upd) <;> first | with_reducible rfl | with_reducible exact fun x => x | with_reducible exact fun _ => ⟨rfl, rfl, rfl, rfl⟩ | with_reducible exact fun x => absurd x Bool.false_ne_true | with_reducible exact KV.set_wf _ _ _ | with_reducible exact KV.put_wf _ _ | with_reducible exact KV.filter_wf _ | with_reducible exact List.prefix_rfl | with_reducible exact List.prefix_append _ _ | with_reducible exact KV.map_wf (fun _ => rfl) | with_reducible exact fun _ => KV.foldl_set_wf _ _ _ rfl | (simp; done) | skip) | with_reducible apply Keeps.ite | with_reducible apply Keeps.ite1 | (with_reducible apply Keeps.foldl; intro s₁ x₁; have h₁ : Keeps m₀ s₁ s₁ := Keeps.refl s₁; try dsimp +zetaDelta only) | (with_reducible apply Keeps.foldl1; intro s₁ x₁; have h₁ : Keeps m₀ s₁.1 s₁.1 := Keeps.refl s₁.1; try dsimp +zetaDelta only) | extract_lets | split | dsimp +zetaDelta only)

theorem keeps_opened {m₀ : Bool} {a₀ s₀ : State} (h₀ : Keeps m₀ a₀ s₀) {k : Nat} {x : Session} :
    Keeps m₀ a₀ (opened s₀ k x) := by
  unfold opened
  try extract_lets
  repeat' (first | with_reducible assumption | with_reducible apply keeps_State_modSession | with_reducible apply keeps_State_note | (fail_if_no_progress (with_reducible apply Keeps.upd) <;> first | with_reducible rfl | with_reducible exact fun x => x | with_reducible exact fun _ => ⟨rfl, rfl, rfl, rfl⟩ | with_reducible exact fun x => absurd x Bool.false_ne_true | with_reducible exact KV.set_wf _ _ _ | with_reducible exact KV.put_wf _ _ | with_reducible exact KV.filter_wf _ | with_reducible exact List.prefix_rfl | with_reducible exact List.prefix_append _ _ | with_reducible exact KV.map_wf (fun _ => rfl) | with_reducible exact fun _ => KV.foldl_set_wf _ _ _ rfl | (simp; done) | skip) | with_reducible apply Keeps.ite | with_reducible apply Keeps.ite1 | (with_reducible apply Keeps.foldl; intro s₁ x₁; have h₁ : Keeps m₀ s₁ s₁ := Keeps.refl s₁; try dsimp +zetaDelta only) | (with_reducible apply Keeps.foldl1; intro s₁ x₁; have h₁ : Keeps m₀ s₁.1 s₁.1 := Keeps.refl s₁.1; try dsimp +zetaDelta only) | extract_lets | split | dsimp +zetaDelta only)

theorem keeps_endHalt {m₀ : Bool} {a₀ s₀ : State} (h₀ : Keeps m₀ a₀ s₀) {t : Nat} {cause : Nat} :
    Keeps m₀ a₀ (endHalt s₀ t cause) := by
  unfold endHalt
  try extract_lets
  repeat' (first | with_reducible assumption | with_reducible apply keeps_State_modTill | with_reducible apply keeps_State_note | (fail_if_no_progress (with_reducible apply Keeps.upd) <;> first | with_reducible rfl | with_reducible exact fun x => x | with_reducible exact fun _ => ⟨rfl, rfl, rfl, rfl⟩ | with_reducible exact fun x => absurd x Bool.false_ne_true | with_reducible exact KV.set_wf _ _ _ | with_reducible exact KV.put_wf _ _ | with_reducible exact KV.filter_wf _ | with_reducible exact List.prefix_rfl | with_reducible exact List.prefix_append _ _ | with_reducible exact KV.map_wf (fun _ => rfl) | with_reducible exact fun _ => KV.foldl_set_wf _ _ _ rfl | (simp; done) | skip) | with_reducible apply Keeps.ite | with_reducible apply Keeps.ite1 | (with_reducible apply Keeps.foldl; intro s₁ x₁; have h₁ : Keeps m₀ s₁ s₁ := Keeps.refl s₁; try dsimp +zetaDelta only) | (with_reducible apply Keeps.foldl1; intro s₁ x₁; have h₁ : Keeps m₀ s₁.1 s₁.1 := Keeps.refl s₁.1; try dsimp +zetaDelta only) | extract_lets | split | dsimp +zetaDelta only)

theorem keeps_State_modFolio {m₀ : Bool} {a₀ s₀ : State} (h₀ : Keeps m₀ a₀ s₀) {t : Nat} {f : Nat} {g : Folio → Folio} :
    Keeps m₀ a₀ (State.modFolio s₀ t f g) := by
  unfold State.modFolio
  try extract_lets
  repeat' (first | with_reducible assumption | with_reducible apply keeps_State_modTill | (fail_if_no_progress (with_reducible apply Keeps.upd) <;> first | with_reducible rfl | with_reducible exact fun x => x | with_reducible exact fun _ => ⟨rfl, rfl, rfl, rfl⟩ | with_reducible exact fun x => absurd x Bool.false_ne_true | with_reducible exact KV.set_wf _ _ _ | with_reducible exact KV.put_wf _ _ | with_reducible exact KV.filter_wf _ | with_reducible exact List.prefix_rfl | with_reducible exact List.prefix_append _ _ | with_reducible exact KV.map_wf (fun _ => rfl) | with_reducible exact fun _ => KV.foldl_set_wf _ _ _ rfl | (simp; done) | skip) | with_reducible apply Keeps.ite | with_reducible apply Keeps.ite1 | (with_reducible apply Keeps.foldl; intro s₁ x₁; have h₁ : Keeps m₀ s₁ s₁ := Keeps.refl s₁; try dsimp +zetaDelta only) | (with_reducible apply Keeps.foldl1; intro s₁ x₁; have h₁ : Keeps m₀ s₁.1 s₁.1 := Keeps.refl s₁.1; try dsimp +zetaDelta only) | extract_lets | split | dsimp +zetaDelta only)

theorem keeps_State_tev {m₀ : Bool} {a₀ s₀ : State} (h₀ : Keeps m₀ a₀ s₀) {t : Nat} {code : Nat} {unit : optParam Nat 255} :
    Keeps m₀ a₀ (State.tev s₀ t code unit) := by
  unfold State.tev
  try extract_lets
  repeat' (first | with_reducible assumption | with_reducible apply keeps_State_pcEvent | (fail_if_no_progress (with_reducible apply Keeps.upd) <;> first | with_reducible rfl | with_reducible exact fun x => x | with_reducible exact fun _ => ⟨rfl, rfl, rfl, rfl⟩ | with_reducible exact fun x => absurd x Bool.false_ne_true | with_reducible exact KV.set_wf _ _ _ | with_reducible exact KV.put_wf _ _ | with_reducible exact KV.filter_wf _ | with_reducible exact List.prefix_rfl | with_reducible exact List.prefix_append _ _ | with_reducible exact KV.map_wf (fun _ => rfl) | with_reducible exact fun _ => KV.foldl_set_wf _ _ _ rfl | (simp; done) | skip) | with_reducible apply Keeps.ite | with_reducible apply Keeps.ite1 | (with_reducible apply Keeps.foldl; intro s₁ x₁; have h₁ : Keeps m₀ s₁ s₁ := Keeps.refl s₁; try dsimp +zetaDelta only) | (with_reducible apply Keeps.foldl1; intro s₁ x₁; have h₁ : Keeps m₀ s₁.1 s₁.1 := Keeps.refl s₁.1; try dsimp +zetaDelta only) | extract_lets | split | dsimp +zetaDelta only)

theorem keeps_countCancel {m₀ : Bool} {a₀ s₀ : State} (h₀ : Keeps m₀ a₀ s₀) {t : Nat} {x : Folio} :
    Keeps m₀ a₀ (countCancel s₀ t x) := by
  unfold countCancel
  try extract_lets
  repeat' (first | with_reducible assumption | with_reducible apply keeps_State_bump | with_reducible apply keeps_State_tev | (fail_if_no_progress (with_reducible apply Keeps.upd) <;> first | with_reducible rfl | with_reducible exact fun x => x | with_reducible exact fun _ => ⟨rfl, rfl, rfl, rfl⟩ | with_reducible exact fun x => absurd x Bool.false_ne_true | with_reducible exact KV.set_wf _ _ _ | with_reducible exact KV.put_wf _ _ | with_reducible exact KV.filter_wf _ | with_reducible exact List.prefix_rfl | with_reducible exact List.prefix_append _ _ | with_reducible exact KV.map_wf (fun _ => rfl) | with_reducible exact fun _ => KV.foldl_set_wf _ _ _ rfl | (simp; done) | skip) | with_reducible apply Keeps.ite | with_reducible apply Keeps.ite1 | (with_reducible apply Keeps.foldl; intro s₁ x₁; have h₁ : Keeps m₀ s₁ s₁ := Keeps.refl s₁; try dsimp +zetaDelta only) | (with_reducible apply Keeps.foldl1; intro s₁ x₁; have h₁ : Keeps m₀ s₁.1 s₁.1 := Keeps.refl s₁.1; try dsimp +zetaDelta only) | extract_lets | split | dsimp +zetaDelta only)

theorem keeps_State_gev {m₀ : Bool} {a₀ s₀ : State} (h₀ : Keeps m₀ a₀ s₀) {code : Nat} {unit : optParam Nat 255} :
    Keeps m₀ a₀ (State.gev s₀ code unit) := by
  unfold State.gev
  try extract_lets
  repeat' (first | with_reducible assumption | with_reducible apply keeps_State_pcEvent | (fail_if_no_progress (with_reducible apply Keeps.upd) <;> first | with_reducible rfl | with_reducible exact fun x => x | with_reducible exact fun _ => ⟨rfl, rfl, rfl, rfl⟩ | with_reducible exact fun x => absurd x Bool.false_ne_true | with_reducible exact KV.set_wf _ _ _ | with_reducible exact KV.put_wf _ _ | with_reducible exact KV.filter_wf _ | with_reducible exact List.prefix_rfl | with_reducible exact List.prefix_append _ _ | with_reducible exact KV.map_wf (fun _ => rfl) | with_reducible exact fun _ => KV.foldl_set_wf _ _ _ rfl | (simp; done) | skip) | with_reducible apply Keeps.ite | with_reducible apply Keeps.ite1 | (with_reducible apply Keeps.foldl; intro s₁ x₁; have h₁ : Keeps m₀ s₁ s₁ := Keeps.refl s₁; try dsimp +zetaDelta only) | (with_reducible apply Keeps.foldl1; intro s₁ x₁; have h₁ : Keeps m₀ s₁.1 s₁.1 := Keeps.refl s₁.1; try dsimp +zetaDelta only) | extract_lets | split | dsimp +zetaDelta only)

theorem keeps_State_packet {m₀ : Bool} {a₀ s₀ : State} (h₀ : Keeps m₀ a₀ s₀) {a : Sys2Proof.NodeKind} {c : Nat} {len : Nat} {b : Sys2Proof.NodeKind} :
    Keeps m₀ a₀ (State.packet s₀ a c len b) := by
  unfold State.packet
  try extract_lets
  repeat' (first | with_reducible assumption | with_reducible apply keeps_State_flit | (fail_if_no_progress (with_reducible apply Keeps.upd) <;> first | with_reducible rfl | with_reducible exact fun x => x | with_reducible exact fun _ => ⟨rfl, rfl, rfl, rfl⟩ | with_reducible exact fun x => absurd x Bool.false_ne_true | with_reducible exact KV.set_wf _ _ _ | with_reducible exact KV.put_wf _ _ | with_reducible exact KV.filter_wf _ | with_reducible exact List.prefix_rfl | with_reducible exact List.prefix_append _ _ | with_reducible exact KV.map_wf (fun _ => rfl) | with_reducible exact fun _ => KV.foldl_set_wf _ _ _ rfl | (simp; done) | skip) | with_reducible apply Keeps.ite | with_reducible apply Keeps.ite1 | (with_reducible apply Keeps.foldl; intro s₁ x₁; have h₁ : Keeps m₀ s₁ s₁ := Keeps.refl s₁; try dsimp +zetaDelta only) | (with_reducible apply Keeps.foldl1; intro s₁ x₁; have h₁ : Keeps m₀ s₁.1 s₁.1 := Keeps.refl s₁.1; try dsimp +zetaDelta only) | extract_lets | split | dsimp +zetaDelta only)

theorem keeps_State_send {m₀ : Bool} {a₀ s₀ : State} (h₀ : Keeps m₀ a₀ s₀) {o : Out} :
    Keeps m₀ a₀ (State.send s₀ o) := by
  unfold State.send
  try extract_lets
  repeat' (first | with_reducible assumption | (fail_if_no_progress (with_reducible apply Keeps.upd) <;> first | with_reducible rfl | with_reducible exact fun x => x | with_reducible exact fun _ => ⟨rfl, rfl, rfl, rfl⟩ | with_reducible exact fun x => absurd x Bool.false_ne_true | with_reducible exact KV.set_wf _ _ _ | with_reducible exact KV.put_wf _ _ | with_reducible exact KV.filter_wf _ | with_reducible exact List.prefix_rfl | with_reducible exact List.prefix_append _ _ | with_reducible exact KV.map_wf (fun _ => rfl) | with_reducible exact fun _ => KV.foldl_set_wf _ _ _ rfl | (simp; done) | skip) | with_reducible apply Keeps.ite | with_reducible apply Keeps.ite1 | (with_reducible apply Keeps.foldl; intro s₁ x₁; have h₁ : Keeps m₀ s₁ s₁ := Keeps.refl s₁; try dsimp +zetaDelta only) | (with_reducible apply Keeps.foldl1; intro s₁ x₁; have h₁ : Keeps m₀ s₁.1 s₁.1 := Keeps.refl s₁.1; try dsimp +zetaDelta only) | extract_lets | split | dsimp +zetaDelta only)

theorem keeps_issueAcc {m₀ : Bool} {a₀ s₀ : State} (h₀ : Keeps m₀ a₀ s₀) {t : Nat} {a : MemAcc} :
    Keeps m₀ a₀ (issueAcc s₀ t a) := by
  unfold issueAcc
  try extract_lets
  repeat' (first | with_reducible assumption | with_reducible apply keeps_State_gev | with_reducible apply keeps_State_modFolio | with_reducible apply keeps_State_modTill | with_reducible apply keeps_State_packet | with_reducible apply keeps_State_send | (fail_if_no_progress (with_reducible apply Keeps.upd) <;> first | with_reducible rfl | with_reducible exact fun x => x | with_reducible exact fun _ => ⟨rfl, rfl, rfl, rfl⟩ | with_reducible exact fun x => absurd x Bool.false_ne_true | with_reducible exact KV.set_wf _ _ _ | with_reducible exact KV.put_wf _ _ | with_reducible exact KV.filter_wf _ | with_reducible exact List.prefix_rfl | with_reducible exact List.prefix_append _ _ | with_reducible exact KV.map_wf (fun _ => rfl) | with_reducible exact fun _ => KV.foldl_set_wf _ _ _ rfl | (simp; done) | skip) | with_reducible apply Keeps.ite | with_reducible apply Keeps.ite1 | (with_reducible apply Keeps.foldl; intro s₁ x₁; have h₁ : Keeps m₀ s₁ s₁ := Keeps.refl s₁; try dsimp +zetaDelta only) | (with_reducible apply Keeps.foldl1; intro s₁ x₁; have h₁ : Keeps m₀ s₁.1 s₁.1 := Keeps.refl s₁.1; try dsimp +zetaDelta only) | extract_lets | split | dsimp +zetaDelta only)

theorem keeps_drainMem {m₀ : Bool} {a₀ s₀ : State} (h₀ : Keeps m₀ a₀ s₀) {t : Nat} :
    Keeps m₀ a₀ (drainMem s₀ t) := by
  unfold drainMem
  try extract_lets
  repeat' (first | with_reducible assumption | with_reducible apply keeps_State_modTill | with_reducible apply keeps_issueAcc | (fail_if_no_progress (with_reducible apply Keeps.upd) <;> first | with_reducible rfl | with_reducible exact fun x => x | with_reducible exact fun _ => ⟨rfl, rfl, rfl, rfl⟩ | with_reducible exact fun x => absurd x Bool.false_ne_true | with_reducible exact KV.set_wf _ _ _ | with_reducible exact KV.put_wf _ _ | with_reducible exact KV.filter_wf _ | with_reducible exact List.prefix_rfl | with_reducible exact List.prefix_append _ _ | with_reducible exact KV.map_wf (fun _ => rfl) | with_reducible exact fun _ => KV.foldl_set_wf _ _ _ rfl | (simp; done) | skip) | with_reducible apply Keeps.ite | with_reducible apply Keeps.ite1 | (with_reducible apply Keeps.foldl; intro s₁ x₁; have h₁ : Keeps m₀ s₁ s₁ := Keeps.refl s₁; try dsimp +zetaDelta only) | (with_reducible apply Keeps.foldl1; intro s₁ x₁; have h₁ : Keeps m₀ s₁.1 s₁.1 := Keeps.refl s₁.1; try dsimp +zetaDelta only) | extract_lets | split | dsimp +zetaDelta only)

theorem keeps_pushAcc {m₀ : Bool} {a₀ s₀ : State} (h₀ : Keeps m₀ a₀ s₀) {t : Nat} {a : MemAcc} :
    Keeps m₀ a₀ (pushAcc s₀ t a) := by
  unfold pushAcc
  try extract_lets
  repeat' (first | with_reducible assumption | with_reducible apply keeps_State_modTill | with_reducible apply keeps_drainMem | (fail_if_no_progress (with_reducible apply Keeps.upd) <;> first | with_reducible rfl | with_reducible exact fun x => x | with_reducible exact fun _ => ⟨rfl, rfl, rfl, rfl⟩ | with_reducible exact fun x => absurd x Bool.false_ne_true | with_reducible exact KV.set_wf _ _ _ | with_reducible exact KV.put_wf _ _ | with_reducible exact KV.filter_wf _ | with_reducible exact List.prefix_rfl | with_reducible exact List.prefix_append _ _ | with_reducible exact KV.map_wf (fun _ => rfl) | with_reducible exact fun _ => KV.foldl_set_wf _ _ _ rfl | (simp; done) | skip) | with_reducible apply Keeps.ite | with_reducible apply Keeps.ite1 | (with_reducible apply Keeps.foldl; intro s₁ x₁; have h₁ : Keeps m₀ s₁ s₁ := Keeps.refl s₁; try dsimp +zetaDelta only) | (with_reducible apply Keeps.foldl1; intro s₁ x₁; have h₁ : Keeps m₀ s₁.1 s₁.1 := Keeps.refl s₁.1; try dsimp +zetaDelta only) | extract_lets | split | dsimp +zetaDelta only)

theorem keeps_cancelRead {m₀ : Bool} {a₀ s₀ : State} (h₀ : Keeps m₀ a₀ s₀) {t : Nat} {f : Nat} :
    Keeps m₀ a₀ (cancelRead s₀ t f) := by
  unfold cancelRead
  try extract_lets
  repeat' (first | with_reducible assumption | with_reducible apply keeps_State_modFolio | with_reducible apply keeps_State_modTill | with_reducible apply keeps_countCancel | with_reducible apply keeps_pushAcc | (fail_if_no_progress (with_reducible apply Keeps.upd) <;> first | with_reducible rfl | with_reducible exact fun x => x | with_reducible exact fun _ => ⟨rfl, rfl, rfl, rfl⟩ | with_reducible exact fun x => absurd x Bool.false_ne_true | with_reducible exact KV.set_wf _ _ _ | with_reducible exact KV.put_wf _ _ | with_reducible exact KV.filter_wf _ | with_reducible exact List.prefix_rfl | with_reducible exact List.prefix_append _ _ | with_reducible exact KV.map_wf (fun _ => rfl) | with_reducible exact fun _ => KV.foldl_set_wf _ _ _ rfl | (simp; done) | skip) | with_reducible apply Keeps.ite | with_reducible apply Keeps.ite1 | (with_reducible apply Keeps.foldl; intro s₁ x₁; have h₁ : Keeps m₀ s₁ s₁ := Keeps.refl s₁; try dsimp +zetaDelta only) | (with_reducible apply Keeps.foldl1; intro s₁ x₁; have h₁ : Keeps m₀ s₁.1 s₁.1 := Keeps.refl s₁.1; try dsimp +zetaDelta only) | extract_lets | split | dsimp +zetaDelta only)

theorem keeps_handOn {m₀ : Bool} {a₀ s₀ : State} (h₀ : Keeps m₀ a₀ s₀) {t : Nat} {f : Nat} :
    Keeps m₀ a₀ (handOn s₀ t f) := by
  unfold handOn
  try extract_lets
  repeat' (first | with_reducible assumption | with_reducible apply keeps_State_modFolio | with_reducible apply keeps_State_modTill | with_reducible apply keeps_closeChain | (fail_if_no_progress (with_reducible apply Keeps.upd) <;> first | with_reducible rfl | with_reducible exact fun x => x | with_reducible exact fun _ => ⟨rfl, rfl, rfl, rfl⟩ | with_reducible exact fun x => absurd x Bool.false_ne_true | with_reducible exact KV.set_wf _ _ _ | with_reducible exact KV.put_wf _ _ | with_reducible exact KV.filter_wf _ | with_reducible exact List.prefix_rfl | with_reducible exact List.prefix_append _ _ | with_reducible exact KV.map_wf (fun _ => rfl) | with_reducible exact fun _ => KV.foldl_set_wf _ _ _ rfl | (simp; done) | skip) | with_reducible apply Keeps.ite | with_reducible apply Keeps.ite1 | (with_reducible apply Keeps.foldl; intro s₁ x₁; have h₁ : Keeps m₀ s₁ s₁ := Keeps.refl s₁; try dsimp +zetaDelta only) | (with_reducible apply Keeps.foldl1; intro s₁ x₁; have h₁ : Keeps m₀ s₁.1 s₁.1 := Keeps.refl s₁.1; try dsimp +zetaDelta only) | extract_lets | split | dsimp +zetaDelta only)

theorem keeps_readGroup {m₀ : Bool} {a₀ s₀ : State} (h₀ : Keeps m₀ a₀ s₀) {t : Nat} {f : Nat} {p : Nat} {g : Nat} :
    Keeps m₀ a₀ (readGroup s₀ t f p g) := by
  unfold readGroup
  try extract_lets
  repeat' (first | with_reducible assumption | with_reducible apply keeps_State_modFolio | with_reducible apply keeps_pushAcc | (fail_if_no_progress (with_reducible apply Keeps.upd) <;> first | with_reducible rfl | with_reducible exact fun x => x | with_reducible exact fun _ => ⟨rfl, rfl, rfl, rfl⟩ | with_reducible exact fun x => absurd x Bool.false_ne_true | with_reducible exact KV.set_wf _ _ _ | with_reducible exact KV.put_wf _ _ | with_reducible exact KV.filter_wf _ | with_reducible exact List.prefix_rfl | with_reducible exact List.prefix_append _ _ | with_reducible exact KV.map_wf (fun _ => rfl) | with_reducible exact fun _ => KV.foldl_set_wf _ _ _ rfl | (simp; done) | skip) | with_reducible apply Keeps.ite | with_reducible apply Keeps.ite1 | (with_reducible apply Keeps.foldl; intro s₁ x₁; have h₁ : Keeps m₀ s₁ s₁ := Keeps.refl s₁; try dsimp +zetaDelta only) | (with_reducible apply Keeps.foldl1; intro s₁ x₁; have h₁ : Keeps m₀ s₁.1 s₁.1 := Keeps.refl s₁.1; try dsimp +zetaDelta only) | extract_lets | split | dsimp +zetaDelta only)

theorem keeps_runGroups {m₀ : Bool} {a₀ s₀ : State} (h₀ : Keeps m₀ a₀ s₀) {t : Nat} :
    Keeps m₀ a₀ (runGroups s₀ t) := by
  unfold runGroups
  try extract_lets
  repeat' (first | with_reducible assumption | with_reducible apply keeps_State_modTill | with_reducible apply keeps_readGroup | (fail_if_no_progress (with_reducible apply Keeps.upd) <;> first | with_reducible rfl | with_reducible exact fun x => x | with_reducible exact fun _ => ⟨rfl, rfl, rfl, rfl⟩ | with_reducible exact fun x => absurd x Bool.false_ne_true | with_reducible exact KV.set_wf _ _ _ | with_reducible exact KV.put_wf _ _ | with_reducible exact KV.filter_wf _ | with_reducible exact List.prefix_rfl | with_reducible exact List.prefix_append _ _ | with_reducible exact KV.map_wf (fun _ => rfl) | with_reducible exact fun _ => KV.foldl_set_wf _ _ _ rfl | (simp; done) | skip) | with_reducible apply Keeps.ite | with_reducible apply Keeps.ite1 | (with_reducible apply Keeps.foldl; intro s₁ x₁; have h₁ : Keeps m₀ s₁ s₁ := Keeps.refl s₁; try dsimp +zetaDelta only) | (with_reducible apply Keeps.foldl1; intro s₁ x₁; have h₁ : Keeps m₀ s₁.1 s₁.1 := Keeps.refl s₁.1; try dsimp +zetaDelta only) | extract_lets | split | dsimp +zetaDelta only)

theorem keeps_startGroup {m₀ : Bool} {a₀ s₀ : State} (h₀ : Keeps m₀ a₀ s₀) {t : Nat} {sec : Nat} {k : GroupKind} {f : Nat} :
    Keeps m₀ a₀ (startGroup s₀ t sec k f) := by
  unfold startGroup
  try extract_lets
  repeat' (first | with_reducible assumption | with_reducible apply keeps_State_modTill | with_reducible apply keeps_runGroups | (fail_if_no_progress (with_reducible apply Keeps.upd) <;> first | with_reducible rfl | with_reducible exact fun x => x | with_reducible exact fun _ => ⟨rfl, rfl, rfl, rfl⟩ | with_reducible exact fun x => absurd x Bool.false_ne_true | with_reducible exact KV.set_wf _ _ _ | with_reducible exact KV.put_wf _ _ | with_reducible exact KV.filter_wf _ | with_reducible exact List.prefix_rfl | with_reducible exact List.prefix_append _ _ | with_reducible exact KV.map_wf (fun _ => rfl) | with_reducible exact fun _ => KV.foldl_set_wf _ _ _ rfl | (simp; done) | skip) | with_reducible apply Keeps.ite | with_reducible apply Keeps.ite1 | (with_reducible apply Keeps.foldl; intro s₁ x₁; have h₁ : Keeps m₀ s₁ s₁ := Keeps.refl s₁; try dsimp +zetaDelta only) | (with_reducible apply Keeps.foldl1; intro s₁ x₁; have h₁ : Keeps m₀ s₁.1 s₁.1 := Keeps.refl s₁.1; try dsimp +zetaDelta only) | extract_lets | split | dsimp +zetaDelta only)

theorem keeps_leaveResident {m₀ : Bool} {a₀ s₀ : State} (h₀ : Keeps m₀ a₀ s₀) {t : Nat} {f : Nat} :
    Keeps m₀ a₀ (leaveResident s₀ t f) := by
  unfold leaveResident
  try extract_lets
  repeat' (first | with_reducible assumption | with_reducible apply keeps_State_modTill | with_reducible apply keeps_startGroup | (fail_if_no_progress (with_reducible apply Keeps.upd) <;> first | with_reducible rfl | with_reducible exact fun x => x | with_reducible exact fun _ => ⟨rfl, rfl, rfl, rfl⟩ | with_reducible exact fun x => absurd x Bool.false_ne_true | with_reducible exact KV.set_wf _ _ _ | with_reducible exact KV.put_wf _ _ | with_reducible exact KV.filter_wf _ | with_reducible exact List.prefix_rfl | with_reducible exact List.prefix_append _ _ | with_reducible exact KV.map_wf (fun _ => rfl) | with_reducible exact fun _ => KV.foldl_set_wf _ _ _ rfl | (simp; done) | skip) | with_reducible apply Keeps.ite | with_reducible apply Keeps.ite1 | (with_reducible apply Keeps.foldl; intro s₁ x₁; have h₁ : Keeps m₀ s₁ s₁ := Keeps.refl s₁; try dsimp +zetaDelta only) | (with_reducible apply Keeps.foldl1; intro s₁ x₁; have h₁ : Keeps m₀ s₁.1 s₁.1 := Keeps.refl s₁.1; try dsimp +zetaDelta only) | extract_lets | split | dsimp +zetaDelta only)

theorem keeps_State_sendP {m₀ : Bool} {a₀ s₀ : State} (h₀ : Keeps m₀ a₀ s₀) {t : Nat} {w : Nat} {m : PMsg} :
    Keeps m₀ a₀ (State.sendP s₀ t w m) := by
  unfold State.sendP
  try extract_lets
  repeat' (first | with_reducible assumption | with_reducible apply keeps_State_packet | (fail_if_no_progress (with_reducible apply Keeps.upd) <;> first | with_reducible rfl | with_reducible exact fun x => x | with_reducible exact fun _ => ⟨rfl, rfl, rfl, rfl⟩ | with_reducible exact fun x => absurd x Bool.false_ne_true | with_reducible exact KV.set_wf _ _ _ | with_reducible exact KV.put_wf _ _ | with_reducible exact KV.filter_wf _ | with_reducible exact List.prefix_rfl | with_reducible exact List.prefix_append _ _ | with_reducible exact KV.map_wf (fun _ => rfl) | with_reducible exact fun _ => KV.foldl_set_wf _ _ _ rfl | (simp; done) | skip) | with_reducible apply Keeps.ite | with_reducible apply Keeps.ite1 | (with_reducible apply Keeps.foldl; intro s₁ x₁; have h₁ : Keeps m₀ s₁ s₁ := Keeps.refl s₁; try dsimp +zetaDelta only) | (with_reducible apply Keeps.foldl1; intro s₁ x₁; have h₁ : Keeps m₀ s₁.1 s₁.1 := Keeps.refl s₁.1; try dsimp +zetaDelta only) | extract_lets | split | dsimp +zetaDelta only)

theorem keeps_traceFolio {m₀ : Bool} {a₀ s₀ : State} (h₀ : Keeps m₀ a₀ s₀) {t : Nat} {x : Folio} :
    Keeps m₀ a₀ (traceFolio s₀ t x) := by
  unfold traceFolio
  try extract_lets
  repeat' (first | with_reducible assumption | with_reducible apply keeps_State_note | (fail_if_no_progress (with_reducible apply Keeps.upd) <;> first | with_reducible rfl | with_reducible exact fun x => x | with_reducible exact fun _ => ⟨rfl, rfl, rfl, rfl⟩ | with_reducible exact fun x => absurd x Bool.false_ne_true | with_reducible exact KV.set_wf _ _ _ | with_reducible exact KV.put_wf _ _ | with_reducible exact KV.filter_wf _ | with_reducible exact List.prefix_rfl | with_reducible exact List.prefix_append _ _ | with_reducible exact KV.map_wf (fun _ => rfl) | with_reducible exact fun _ => KV.foldl_set_wf _ _ _ rfl | (simp; done) | skip) | with_reducible apply Keeps.ite | with_reducible apply Keeps.ite1 | (with_reducible apply Keeps.foldl; intro s₁ x₁; have h₁ : Keeps m₀ s₁ s₁ := Keeps.refl s₁; try dsimp +zetaDelta only) | (with_reducible apply Keeps.foldl1; intro s₁ x₁; have h₁ : Keeps m₀ s₁.1 s₁.1 := Keeps.refl s₁.1; try dsimp +zetaDelta only) | extract_lets | split | dsimp +zetaDelta only)

theorem keeps_retire {m₀ : Bool} {a₀ s₀ : State} (h₀ : Keeps m₀ a₀ s₀) {t : Nat} {f : Nat} :
    Keeps m₀ a₀ (retire s₀ t f) := by
  unfold retire
  try extract_lets
  repeat' (first | with_reducible assumption | with_reducible apply keeps_State_modTill | with_reducible apply keeps_State_sample | with_reducible apply keeps_State_sendP | with_reducible apply keeps_traceFolio | (fail_if_no_progress (with_reducible apply Keeps.upd) <;> first | with_reducible rfl | with_reducible exact fun x => x | with_reducible exact fun _ => ⟨rfl, rfl, rfl, rfl⟩ | with_reducible exact fun x => absurd x Bool.false_ne_true | with_reducible exact KV.set_wf _ _ _ | with_reducible exact KV.put_wf _ _ | with_reducible exact KV.filter_wf _ | with_reducible exact List.prefix_rfl | with_reducible exact List.prefix_append _ _ | with_reducible exact KV.map_wf (fun _ => rfl) | with_reducible exact fun _ => KV.foldl_set_wf _ _ _ rfl | (simp; done) | skip) | with_reducible apply Keeps.ite | with_reducible apply Keeps.ite1 | (with_reducible apply Keeps.foldl; intro s₁ x₁; have h₁ : Keeps m₀ s₁ s₁ := Keeps.refl s₁; try dsimp +zetaDelta only) | (with_reducible apply Keeps.foldl1; intro s₁ x₁; have h₁ : Keeps m₀ s₁.1 s₁.1 := Keeps.refl s₁.1; try dsimp +zetaDelta only) | extract_lets | split | dsimp +zetaDelta only)

theorem keeps_tryRetire {m₀ : Bool} {a₀ s₀ : State} (h₀ : Keeps m₀ a₀ s₀) {t : Nat} {f : Nat} :
    Keeps m₀ a₀ (tryRetire s₀ t f) := by
  unfold tryRetire
  try extract_lets
  repeat' (first | with_reducible assumption | with_reducible apply keeps_retire | (fail_if_no_progress (with_reducible apply Keeps.upd) <;> first | with_reducible rfl | with_reducible exact fun x => x | with_reducible exact fun _ => ⟨rfl, rfl, rfl, rfl⟩ | with_reducible exact fun x => absurd x Bool.false_ne_true | with_reducible exact KV.set_wf _ _ _ | with_reducible exact KV.put_wf _ _ | with_reducible exact KV.filter_wf _ | with_reducible exact List.prefix_rfl | with_reducible exact List.prefix_append _ _ | with_reducible exact KV.map_wf (fun _ => rfl) | with_reducible exact fun _ => KV.foldl_set_wf _ _ _ rfl | (simp; done) | skip) | with_reducible apply Keeps.ite | with_reducible apply Keeps.ite1 | (with_reducible apply Keeps.foldl; intro s₁ x₁; have h₁ : Keeps m₀ s₁ s₁ := Keeps.refl s₁; try dsimp +zetaDelta only) | (with_reducible apply Keeps.foldl1; intro s₁ x₁; have h₁ : Keeps m₀ s₁.1 s₁.1 := Keeps.refl s₁.1; try dsimp +zetaDelta only) | extract_lets | split | dsimp +zetaDelta only)

theorem keeps_unlink {m₀ : Bool} {a₀ s₀ : State} (h₀ : Keeps m₀ a₀ s₀) {t : Nat} {f : Nat} :
    Keeps m₀ a₀ (unlink s₀ t f) := by
  unfold unlink
  try extract_lets
  repeat' (first | with_reducible assumption | with_reducible apply keeps_State_modTill | (fail_if_no_progress (with_reducible apply Keeps.upd) <;> first | with_reducible rfl | with_reducible exact fun x => x | with_reducible exact fun _ => ⟨rfl, rfl, rfl, rfl⟩ | with_reducible exact fun x => absurd x Bool.false_ne_true | with_reducible exact KV.set_wf _ _ _ | with_reducible exact KV.put_wf _ _ | with_reducible exact KV.filter_wf _ | with_reducible exact List.prefix_rfl | with_reducible exact List.prefix_append _ _ | with_reducible exact KV.map_wf (fun _ => rfl) | with_reducible exact fun _ => KV.foldl_set_wf _ _ _ rfl | (simp; done) | skip) | with_reducible apply Keeps.ite | with_reducible apply Keeps.ite1 | (with_reducible apply Keeps.foldl; intro s₁ x₁; have h₁ : Keeps m₀ s₁ s₁ := Keeps.refl s₁; try dsimp +zetaDelta only) | (with_reducible apply Keeps.foldl1; intro s₁ x₁; have h₁ : Keeps m₀ s₁.1 s₁.1 := Keeps.refl s₁.1; try dsimp +zetaDelta only) | extract_lets | split | dsimp +zetaDelta only)

theorem keeps_dropFolio {m₀ : Bool} {a₀ s₀ : State} (h₀ : Keeps m₀ a₀ s₀) {t : Nat} {f : Nat} :
    Keeps m₀ a₀ (dropFolio s₀ t f) := by
  unfold dropFolio
  try extract_lets
  repeat' (first | with_reducible assumption | with_reducible apply keeps_State_modFolio | with_reducible apply keeps_State_modTill | with_reducible apply keeps_cancelRead | with_reducible apply keeps_handOn | with_reducible apply keeps_leaveResident | with_reducible apply keeps_tryRetire | with_reducible apply keeps_unlink | (fail_if_no_progress (with_reducible apply Keeps.upd) <;> first | with_reducible rfl | with_reducible exact fun x => x | with_reducible exact fun _ => ⟨rfl, rfl, rfl, rfl⟩ | with_reducible exact fun x => absurd x Bool.false_ne_true | with_reducible exact KV.set_wf _ _ _ | with_reducible exact KV.put_wf _ _ | with_reducible exact KV.filter_wf _ | with_reducible exact List.prefix_rfl | with_reducible exact List.prefix_append _ _ | with_reducible exact KV.map_wf (fun _ => rfl) | with_reducible exact fun _ => KV.foldl_set_wf _ _ _ rfl | (simp; done) | skip) | with_reducible apply Keeps.ite | with_reducible apply Keeps.ite1 | (with_reducible apply Keeps.foldl; intro s₁ x₁; have h₁ : Keeps m₀ s₁ s₁ := Keeps.refl s₁; try dsimp +zetaDelta only) | (with_reducible apply Keeps.foldl1; intro s₁ x₁; have h₁ : Keeps m₀ s₁.1 s₁.1 := Keeps.refl s₁.1; try dsimp +zetaDelta only) | extract_lets | split | dsimp +zetaDelta only)

theorem keeps_openChain {m₀ : Bool} {a₀ s₀ : State} (h₀ : Keeps m₀ a₀ s₀) {t : Nat} {l : Sys2Proof.Line} {f : Nat} :
    Keeps m₀ a₀ (openChain s₀ t l f) := by
  unfold openChain
  try extract_lets
  repeat' (first | with_reducible assumption | with_reducible apply keeps_State_bump | with_reducible apply keeps_State_modTill | with_reducible apply keeps_State_note | (fail_if_no_progress (with_reducible apply Keeps.upd) <;> first | with_reducible rfl | with_reducible exact fun x => x | with_reducible exact fun _ => ⟨rfl, rfl, rfl, rfl⟩ | with_reducible exact fun x => absurd x Bool.false_ne_true | with_reducible exact KV.set_wf _ _ _ | with_reducible exact KV.put_wf _ _ | with_reducible exact KV.filter_wf _ | with_reducible exact List.prefix_rfl | with_reducible exact List.prefix_append _ _ | with_reducible exact KV.map_wf (fun _ => rfl) | with_reducible exact fun _ => KV.foldl_set_wf _ _ _ rfl | (simp; done) | skip) | with_reducible apply Keeps.ite | with_reducible apply Keeps.ite1 | (with_reducible apply Keeps.foldl; intro s₁ x₁; have h₁ : Keeps m₀ s₁ s₁ := Keeps.refl s₁; try dsimp +zetaDelta only) | (with_reducible apply Keeps.foldl1; intro s₁ x₁; have h₁ : Keeps m₀ s₁.1 s₁.1 := Keeps.refl s₁.1; try dsimp +zetaDelta only) | extract_lets | split | dsimp +zetaDelta only)

theorem keeps_joinChain {m₀ : Bool} {a₀ s₀ : State} (h₀ : Keeps m₀ a₀ s₀) {t : Nat} {f : Nat} {l : Sys2Proof.Line} :
    Keeps m₀ a₀ (joinChain s₀ t f l) := by
  unfold joinChain
  try extract_lets
  repeat' (first | with_reducible assumption | with_reducible apply keeps_State_modFolio | with_reducible apply keeps_State_modTill | with_reducible apply keeps_openChain | (fail_if_no_progress (with_reducible apply Keeps.upd) <;> first | with_reducible rfl | with_reducible exact fun x => x | with_reducible exact fun _ => ⟨rfl, rfl, rfl, rfl⟩ | with_reducible exact fun x => absurd x Bool.false_ne_true | with_reducible exact KV.set_wf _ _ _ | with_reducible exact KV.put_wf _ _ | with_reducible exact KV.filter_wf _ | with_reducible exact List.prefix_rfl | with_reducible exact List.prefix_append _ _ | with_reducible exact KV.map_wf (fun _ => rfl) | with_reducible exact fun _ => KV.foldl_set_wf _ _ _ rfl | (simp; done) | skip) | with_reducible apply Keeps.ite | with_reducible apply Keeps.ite1 | (with_reducible apply Keeps.foldl; intro s₁ x₁; have h₁ : Keeps m₀ s₁ s₁ := Keeps.refl s₁; try dsimp +zetaDelta only) | (with_reducible apply Keeps.foldl1; intro s₁ x₁; have h₁ : Keeps m₀ s₁.1 s₁.1 := Keeps.refl s₁.1; try dsimp +zetaDelta only) | extract_lets | split | dsimp +zetaDelta only)

theorem keeps_readLine {m₀ : Bool} {a₀ s₀ : State} (h₀ : Keeps m₀ a₀ s₀) {t : Nat} {f : Nat} {l : Sys2Proof.Line} {spec : Bool} :
    Keeps m₀ a₀ (readLine s₀ t f l spec) := by
  unfold readLine
  try extract_lets
  repeat' (first | with_reducible assumption | with_reducible apply keeps_State_modFolio | with_reducible apply keeps_State_tev | with_reducible apply keeps_pushAcc | (fail_if_no_progress (with_reducible apply Keeps.upd) <;> first | with_reducible rfl | with_reducible exact fun x => x | with_reducible exact fun _ => ⟨rfl, rfl, rfl, rfl⟩ | with_reducible exact fun x => absurd x Bool.false_ne_true | with_reducible exact KV.set_wf _ _ _ | with_reducible exact KV.put_wf _ _ | with_reducible exact KV.filter_wf _ | with_reducible exact List.prefix_rfl | with_reducible exact List.prefix_append _ _ | with_reducible exact KV.map_wf (fun _ => rfl) | with_reducible exact fun _ => KV.foldl_set_wf _ _ _ rfl | (simp; done) | skip) | with_reducible apply Keeps.ite | with_reducible apply Keeps.ite1 | (with_reducible apply Keeps.foldl; intro s₁ x₁; have h₁ : Keeps m₀ s₁ s₁ := Keeps.refl s₁; try dsimp +zetaDelta only) | (with_reducible apply Keeps.foldl1; intro s₁ x₁; have h₁ : Keeps m₀ s₁.1 s₁.1 := Keeps.refl s₁.1; try dsimp +zetaDelta only) | extract_lets | split | dsimp +zetaDelta only)

theorem keeps_chainIn {m₀ : Bool} {a₀ s₀ : State} (h₀ : Keeps m₀ a₀ s₀) {t : Nat} {f : Nat} {x : Folio} :
    Keeps m₀ a₀ (chainIn s₀ t f x) := by
  unfold chainIn
  try extract_lets
  repeat' (first | with_reducible assumption | with_reducible apply keeps_State_sendP | with_reducible apply keeps_joinChain | with_reducible apply keeps_readLine | (fail_if_no_progress (with_reducible apply Keeps.upd) <;> first | with_reducible rfl | with_reducible exact fun x => x | with_reducible exact fun _ => ⟨rfl, rfl, rfl, rfl⟩ | with_reducible exact fun x => absurd x Bool.false_ne_true | with_reducible exact KV.set_wf _ _ _ | with_reducible exact KV.put_wf _ _ | with_reducible exact KV.filter_wf _ | with_reducible exact List.prefix_rfl | with_reducible exact List.prefix_append _ _ | with_reducible exact KV.map_wf (fun _ => rfl) | with_reducible exact fun _ => KV.foldl_set_wf _ _ _ rfl | (simp; done) | skip) | with_reducible apply Keeps.ite | with_reducible apply Keeps.ite1 | (with_reducible apply Keeps.foldl; intro s₁ x₁; have h₁ : Keeps m₀ s₁ s₁ := Keeps.refl s₁; try dsimp +zetaDelta only) | (with_reducible apply Keeps.foldl1; intro s₁ x₁; have h₁ : Keeps m₀ s₁.1 s₁.1 := Keeps.refl s₁.1; try dsimp +zetaDelta only) | extract_lets | split | dsimp +zetaDelta only)

theorem keeps_State_slot {m₀ : Bool} {a₀ s₀ : State} (h₀ : Keeps m₀ a₀ s₀) {t : Nat} {cls : Nat} {n : Nat} :
    Keeps m₀ a₀ (State.slot s₀ t cls n) := by
  unfold State.slot
  try extract_lets
  repeat' (first | with_reducible assumption | with_reducible apply keeps_State_modTill | (fail_if_no_progress (with_reducible apply Keeps.upd) <;> first | with_reducible rfl | with_reducible exact fun x => x | with_reducible exact fun _ => ⟨rfl, rfl, rfl, rfl⟩ | with_reducible exact fun x => absurd x Bool.false_ne_true | with_reducible exact KV.set_wf _ _ _ | with_reducible exact KV.put_wf _ _ | with_reducible exact KV.filter_wf _ | with_reducible exact List.prefix_rfl | with_reducible exact List.prefix_append _ _ | with_reducible exact KV.map_wf (fun _ => rfl) | with_reducible exact fun _ => KV.foldl_set_wf _ _ _ rfl | (simp; done) | skip) | with_reducible apply Keeps.ite | with_reducible apply Keeps.ite1 | (with_reducible apply Keeps.foldl; intro s₁ x₁; have h₁ : Keeps m₀ s₁ s₁ := Keeps.refl s₁; try dsimp +zetaDelta only) | (with_reducible apply Keeps.foldl1; intro s₁ x₁; have h₁ : Keeps m₀ s₁.1 s₁.1 := Keeps.refl s₁.1; try dsimp +zetaDelta only) | extract_lets | split | dsimp +zetaDelta only)

theorem keeps_State_slotRetired {m₀ : Bool} {a₀ s₀ : State} (h₀ : Keeps m₀ a₀ s₀) {t : Nat} :
    Keeps m₀ a₀ (State.slotRetired s₀ t) := by
  unfold State.slotRetired
  try extract_lets
  repeat' (first | with_reducible assumption | with_reducible apply keeps_State_slot | with_reducible apply keeps_State_tev | (fail_if_no_progress (with_reducible apply Keeps.upd) <;> first | with_reducible rfl | with_reducible exact fun x => x | with_reducible exact fun _ => ⟨rfl, rfl, rfl, rfl⟩ | with_reducible exact fun x => absurd x Bool.false_ne_true | with_reducible exact KV.set_wf _ _ _ | with_reducible exact KV.put_wf _ _ | with_reducible exact KV.filter_wf _ | with_reducible exact List.prefix_rfl | with_reducible exact List.prefix_append _ _ | with_reducible exact KV.map_wf (fun _ => rfl) | with_reducible exact fun _ => KV.foldl_set_wf _ _ _ rfl | (simp; done) | skip) | with_reducible apply Keeps.ite | with_reducible apply Keeps.ite1 | (with_reducible apply Keeps.foldl; intro s₁ x₁; have h₁ : Keeps m₀ s₁ s₁ := Keeps.refl s₁; try dsimp +zetaDelta only) | (with_reducible apply Keeps.foldl1; intro s₁ x₁; have h₁ : Keeps m₀ s₁.1 s₁.1 := Keeps.refl s₁.1; try dsimp +zetaDelta only) | extract_lets | split | dsimp +zetaDelta only)

theorem keeps_complete {m₀ : Bool} {a₀ s₀ : State} (h₀ : Keeps m₀ a₀ s₀) {t : Nat} {f : Nat} {x : Folio} {opc : CmpOpc} {st : CStat} {data : Sys2Proof.LineData} {poison : Bool} :
    Keeps m₀ a₀ (complete s₀ t f x opc st data poison) := by
  unfold complete
  try extract_lets
  repeat' (first | with_reducible assumption | with_reducible apply keeps_State_modFolio | with_reducible apply keeps_State_modTill | with_reducible apply keeps_State_packet | with_reducible apply keeps_State_sendP | with_reducible apply keeps_State_slotRetired | with_reducible apply keeps_handOn | with_reducible apply keeps_leaveResident | with_reducible apply keeps_tryRetire | (fail_if_no_progress (with_reducible apply Keeps.upd) <;> first | with_reducible rfl | with_reducible exact fun x => x | with_reducible exact fun _ => ⟨rfl, rfl, rfl, rfl⟩ | with_reducible exact fun x => absurd x Bool.false_ne_true | with_reducible exact KV.set_wf _ _ _ | with_reducible exact KV.put_wf _ _ | with_reducible exact KV.filter_wf _ | with_reducible exact List.prefix_rfl | with_reducible exact List.prefix_append _ _ | with_reducible exact KV.map_wf (fun _ => rfl) | with_reducible exact fun _ => KV.foldl_set_wf _ _ _ rfl | (simp; done) | skip) | with_reducible apply Keeps.ite | with_reducible apply Keeps.ite1 | (with_reducible apply Keeps.foldl; intro s₁ x₁; have h₁ : Keeps m₀ s₁ s₁ := Keeps.refl s₁; try dsimp +zetaDelta only) | (with_reducible apply Keeps.foldl1; intro s₁ x₁; have h₁ : Keeps m₀ s₁.1 s₁.1 := Keeps.refl s₁.1; try dsimp +zetaDelta only) | extract_lets | split | dsimp +zetaDelta only)

theorem keeps_nbDone {m₀ : Bool} {a₀ s₀ : State} (h₀ : Keeps m₀ a₀ s₀) {t : Nat} {f : Nat} :
    Keeps m₀ a₀ (nbDone s₀ t f) := by
  unfold nbDone
  try extract_lets
  repeat' (first | with_reducible assumption | with_reducible apply keeps_complete | (fail_if_no_progress (with_reducible apply Keeps.upd) <;> first | with_reducible rfl | with_reducible exact fun x => x | with_reducible exact fun _ => ⟨rfl, rfl, rfl, rfl⟩ | with_reducible exact fun x => absurd x Bool.false_ne_true | with_reducible exact KV.set_wf _ _ _ | with_reducible exact KV.put_wf _ _ | with_reducible exact KV.filter_wf _ | with_reducible exact List.prefix_rfl | with_reducible exact List.prefix_append _ _ | with_reducible exact KV.map_wf (fun _ => rfl) | with_reducible exact fun _ => KV.foldl_set_wf _ _ _ rfl | (simp; done) | skip) | with_reducible apply Keeps.ite | with_reducible apply Keeps.ite1 | (with_reducible apply Keeps.foldl; intro s₁ x₁; have h₁ : Keeps m₀ s₁ s₁ := Keeps.refl s₁; try dsimp +zetaDelta only) | (with_reducible apply Keeps.foldl1; intro s₁ x₁; have h₁ : Keeps m₀ s₁.1 s₁.1 := Keeps.refl s₁.1; try dsimp +zetaDelta only) | extract_lets | split | dsimp +zetaDelta only)

theorem keeps_foldDrop {m₀ : Bool} {a₀ s₀ : State} (h₀ : Keeps m₀ a₀ s₀) {t : Nat} {f : Nat} {x : Folio} :
    Keeps m₀ a₀ (foldDrop s₀ t f x) := by
  unfold foldDrop
  try extract_lets
  repeat' (first | with_reducible assumption | with_reducible apply keeps_State_modTill | with_reducible apply keeps_State_tev | with_reducible apply keeps_nbDone | (fail_if_no_progress (with_reducible apply Keeps.upd) <;> first | with_reducible rfl | with_reducible exact fun x => x | with_reducible exact fun _ => ⟨rfl, rfl, rfl, rfl⟩ | with_reducible exact fun x => absurd x Bool.false_ne_true | with_reducible exact KV.set_wf _ _ _ | with_reducible exact KV.put_wf _ _ | with_reducible exact KV.filter_wf _ | with_reducible exact List.prefix_rfl | with_reducible exact List.prefix_append _ _ | with_reducible exact KV.map_wf (fun _ => rfl) | with_reducible exact fun _ => KV.foldl_set_wf _ _ _ rfl | (simp; done) | skip) | with_reducible apply Keeps.ite | with_reducible apply Keeps.ite1 | (with_reducible apply Keeps.foldl; intro s₁ x₁; have h₁ : Keeps m₀ s₁ s₁ := Keeps.refl s₁; try dsimp +zetaDelta only) | (with_reducible apply Keeps.foldl1; intro s₁ x₁; have h₁ : Keeps m₀ s₁.1 s₁.1 := Keeps.refl s₁.1; try dsimp +zetaDelta only) | extract_lets | split | dsimp +zetaDelta only)

theorem keeps_clearMons {m₀ : Bool} {a₀ s₀ : State} (h₀ : Keeps m₀ a₀ s₀) {t : Nat} {p : Monitor → Bool} {lost : Bool} :
    Keeps m₀ a₀ (clearMons s₀ t p lost) := by
  unfold clearMons
  try extract_lets
  repeat' (first | with_reducible assumption | with_reducible apply keeps_State_bumpBy | with_reducible apply keeps_State_modTill | (fail_if_no_progress (with_reducible apply Keeps.upd) <;> first | with_reducible rfl | with_reducible exact fun x => x | with_reducible exact fun _ => ⟨rfl, rfl, rfl, rfl⟩ | with_reducible exact fun x => absurd x Bool.false_ne_true | with_reducible exact KV.set_wf _ _ _ | with_reducible exact KV.put_wf _ _ | with_reducible exact KV.filter_wf _ | with_reducible exact List.prefix_rfl | with_reducible exact List.prefix_append _ _ | with_reducible exact KV.map_wf (fun _ => rfl) | with_reducible exact fun _ => KV.foldl_set_wf _ _ _ rfl | (simp; done) | skip) | with_reducible apply Keeps.ite | with_reducible apply Keeps.ite1 | (with_reducible apply Keeps.foldl; intro s₁ x₁; have h₁ : Keeps m₀ s₁ s₁ := Keeps.refl s₁; try dsimp +zetaDelta only) | (with_reducible apply Keeps.foldl1; intro s₁ x₁; have h₁ : Keeps m₀ s₁.1 s₁.1 := Keeps.refl s₁.1; try dsimp +zetaDelta only) | extract_lets | split | dsimp +zetaDelta only)

theorem keeps_clearOthers {m₀ : Bool} {a₀ s₀ : State} (h₀ : Keeps m₀ a₀ s₀) {t : Nat} {l : Sys2Proof.Line} {r : Sys2Proof.Aid} :
    Keeps m₀ a₀ (clearOthers s₀ t l r) := by
  unfold clearOthers
  try extract_lets
  repeat' (first | with_reducible assumption | with_reducible apply keeps_clearMons | (fail_if_no_progress (with_reducible apply Keeps.upd) <;> first | with_reducible rfl | with_reducible exact fun x => x | with_reducible exact fun _ => ⟨rfl, rfl, rfl, rfl⟩ | with_reducible exact fun x => absurd x Bool.false_ne_true | with_reducible exact KV.set_wf _ _ _ | with_reducible exact KV.put_wf _ _ | with_reducible exact KV.filter_wf _ | with_reducible exact List.prefix_rfl | with_reducible exact List.prefix_append _ _ | with_reducible exact KV.map_wf (fun _ => rfl) | with_reducible exact fun _ => KV.foldl_set_wf _ _ _ rfl | (simp; done) | skip) | with_reducible apply Keeps.ite | with_reducible apply Keeps.ite1 | (with_reducible apply Keeps.foldl; intro s₁ x₁; have h₁ : Keeps m₀ s₁ s₁ := Keeps.refl s₁; try dsimp +zetaDelta only) | (with_reducible apply Keeps.foldl1; intro s₁ x₁; have h₁ : Keeps m₀ s₁.1 s₁.1 := Keeps.refl s₁.1; try dsimp +zetaDelta only) | extract_lets | split | dsimp +zetaDelta only)

theorem keeps_awaitData {m₀ : Bool} {a₀ s₀ : State} (h₀ : Keeps m₀ a₀ s₀) {t : Nat} {f : Nat} {x : Folio} :
    Keeps m₀ a₀ (awaitData s₀ t f x) := by
  unfold awaitData
  try extract_lets
  repeat' (first | with_reducible assumption | with_reducible apply keeps_State_modFolio | with_reducible apply keeps_readLine | (fail_if_no_progress (with_reducible apply Keeps.upd) <;> first | with_reducible rfl | with_reducible exact fun x => x | with_reducible exact fun _ => ⟨rfl, rfl, rfl, rfl⟩ | with_reducible exact fun x => absurd x Bool.false_ne_true | with_reducible exact KV.set_wf _ _ _ | with_reducible exact KV.put_wf _ _ | with_reducible exact KV.filter_wf _ | with_reducible exact List.prefix_rfl | with_reducible exact List.prefix_append _ _ | with_reducible exact KV.map_wf (fun _ => rfl) | with_reducible exact fun _ => KV.foldl_set_wf _ _ _ rfl | (simp; done) | skip) | with_reducible apply Keeps.ite | with_reducible apply Keeps.ite1 | (with_reducible apply Keeps.foldl; intro s₁ x₁; have h₁ : Keeps m₀ s₁ s₁ := Keeps.refl s₁; try dsimp +zetaDelta only) | (with_reducible apply Keeps.foldl1; intro s₁ x₁; have h₁ : Keeps m₀ s₁.1 s₁.1 := Keeps.refl s₁.1; try dsimp +zetaDelta only) | extract_lets | split | dsimp +zetaDelta only)

theorem keeps_State_freeUsed {m₀ : Bool} {a₀ s₀ : State} (h₀ : Keeps m₀ a₀ s₀)  :
    Keeps m₀ a₀ (State.freeUsed s₀) := by
  unfold State.freeUsed
  try extract_lets
  repeat' (first | with_reducible assumption | (fail_if_no_progress (with_reducible apply Keeps.upd) <;> first | with_reducible rfl | with_reducible exact fun x => x | with_reducible exact fun _ => ⟨rfl, rfl, rfl, rfl⟩ | with_reducible exact fun x => absurd x Bool.false_ne_true | with_reducible exact KV.set_wf _ _ _ | with_reducible exact KV.put_wf _ _ | with_reducible exact KV.filter_wf _ | with_reducible exact List.prefix_rfl | with_reducible exact List.prefix_append _ _ | with_reducible exact KV.map_wf (fun _ => rfl) | with_reducible exact fun _ => KV.foldl_set_wf _ _ _ rfl | (simp; done) | skip) | with_reducible apply Keeps.ite | with_reducible apply Keeps.ite1 | (with_reducible apply Keeps.foldl; intro s₁ x₁; have h₁ : Keeps m₀ s₁ s₁ := Keeps.refl s₁; try dsimp +zetaDelta only) | (with_reducible apply Keeps.foldl1; intro s₁ x₁; have h₁ : Keeps m₀ s₁.1 s₁.1 := Keeps.refl s₁.1; try dsimp +zetaDelta only) | extract_lets | split | dsimp +zetaDelta only)

theorem keeps_completeOff {m₀ : Bool} {a₀ s₀ : State} (h₀ : Keeps m₀ a₀ s₀) {t : Nat} {f : Nat} {x : Folio} :
    Keeps m₀ a₀ (completeOff s₀ t f x) := by
  unfold completeOff
  try extract_lets
  repeat' (first | with_reducible assumption | with_reducible apply keeps_State_bump | with_reducible apply keeps_State_freeUsed | with_reducible apply keeps_State_note | with_reducible apply keeps_complete | (fail_if_no_progress (with_reducible apply Keeps.upd) <;> first | with_reducible rfl | with_reducible exact fun x => x | with_reducible exact fun _ => ⟨rfl, rfl, rfl, rfl⟩ | with_reducible exact fun x => absurd x Bool.false_ne_true | with_reducible exact KV.set_wf _ _ _ | with_reducible exact KV.put_wf _ _ | with_reducible exact KV.filter_wf _ | with_reducible exact List.prefix_rfl | with_reducible exact List.prefix_append _ _ | with_reducible exact KV.map_wf (fun _ => rfl) | with_reducible exact fun _ => KV.foldl_set_wf _ _ _ rfl | (simp; done) | skip) | with_reducible apply Keeps.ite | with_reducible apply Keeps.ite1 | (with_reducible apply Keeps.foldl; intro s₁ x₁; have h₁ : Keeps m₀ s₁ s₁ := Keeps.refl s₁; try dsimp +zetaDelta only) | (with_reducible apply Keeps.foldl1; intro s₁ x₁; have h₁ : Keeps m₀ s₁.1 s₁.1 := Keeps.refl s₁.1; try dsimp +zetaDelta only) | extract_lets | split | dsimp +zetaDelta only)

theorem keeps_armMon {m₀ : Bool} {a₀ s₀ : State} (h₀ : Keeps m₀ a₀ s₀) {t : Nat} {x : Folio} {owner : Option Sys2Proof.Aid} :
    Keeps m₀ a₀ (armMon s₀ t x owner).1 := by
  unfold armMon
  try extract_lets
  repeat' (first | with_reducible assumption | with_reducible apply keeps_State_bump | with_reducible apply keeps_State_modTill | with_reducible apply keeps_clearMons | (fail_if_no_progress (with_reducible apply Keeps.upd) <;> first | with_reducible rfl | with_reducible exact fun x => x | with_reducible exact fun _ => ⟨rfl, rfl, rfl, rfl⟩ | with_reducible exact fun x => absurd x Bool.false_ne_true | with_reducible exact KV.set_wf _ _ _ | with_reducible exact KV.put_wf _ _ | with_reducible exact KV.filter_wf _ | with_reducible exact List.prefix_rfl | with_reducible exact List.prefix_append _ _ | with_reducible exact KV.map_wf (fun _ => rfl) | with_reducible exact fun _ => KV.foldl_set_wf _ _ _ rfl | (simp; done) | skip) | with_reducible apply Keeps.ite | with_reducible apply Keeps.ite1 | (with_reducible apply Keeps.foldl; intro s₁ x₁; have h₁ : Keeps m₀ s₁ s₁ := Keeps.refl s₁; try dsimp +zetaDelta only) | (with_reducible apply Keeps.foldl1; intro s₁ x₁; have h₁ : Keeps m₀ s₁.1 s₁.1 := Keeps.refl s₁.1; try dsimp +zetaDelta only) | extract_lets | split | dsimp +zetaDelta only)

theorem keeps_armMon_eq {m₀ : Bool} {a₀ s₀ u₀ : State} {y₀ : Bool} {t : Nat} {x : Folio} {owner : Option Sys2Proof.Aid} (e₀ : armMon s₀ t x owner = (u₀, y₀)) (h₀ : Keeps m₀ a₀ s₀) :
    Keeps m₀ a₀ u₀ := by
  have k := @keeps_armMon m₀ a₀ s₀ h₀ t x owner
  rw [e₀] at k; exact k

theorem keeps_clearOwn {m₀ : Bool} {a₀ s₀ : State} (h₀ : Keeps m₀ a₀ s₀) {t : Nat} {l : Sys2Proof.Line} {r : Sys2Proof.Aid} :
    Keeps m₀ a₀ (clearOwn s₀ t l r) := by
  unfold clearOwn
  try extract_lets
  repeat' (first | with_reducible assumption | with_reducible apply keeps_clearMons | (fail_if_no_progress (with_reducible apply Keeps.upd) <;> first | with_reducible rfl | with_reducible exact fun x => x | with_reducible exact fun _ => ⟨rfl, rfl, rfl, rfl⟩ | with_reducible exact fun x => absurd x Bool.false_ne_true | with_reducible exact KV.set_wf _ _ _ | with_reducible exact KV.put_wf _ _ | with_reducible exact KV.filter_wf _ | with_reducible exact List.prefix_rfl | with_reducible exact List.prefix_append _ _ | with_reducible exact KV.map_wf (fun _ => rfl) | with_reducible exact fun _ => KV.foldl_set_wf _ _ _ rfl | (simp; done) | skip) | with_reducible apply Keeps.ite | with_reducible apply Keeps.ite1 | (with_reducible apply Keeps.foldl; intro s₁ x₁; have h₁ : Keeps m₀ s₁ s₁ := Keeps.refl s₁; try dsimp +zetaDelta only) | (with_reducible apply Keeps.foldl1; intro s₁ x₁; have h₁ : Keeps m₀ s₁.1 s₁.1 := Keeps.refl s₁.1; try dsimp +zetaDelta only) | extract_lets | split | dsimp +zetaDelta only)

theorem keeps_writeLine {m₀ : Bool} {a₀ s₀ : State} (h₀ : Keeps m₀ a₀ s₀) {t : Nat} {f : Nat} {l : Sys2Proof.Line} {d : WData} {partly : Bool} :
    Keeps m₀ a₀ (writeLine s₀ t f l d partly) := by
  unfold writeLine
  try extract_lets
  repeat' (first | with_reducible assumption | with_reducible apply keeps_pushAcc | (fail_if_no_progress (with_reducible apply Keeps.upd) <;> first | with_reducible rfl | with_reducible exact fun x => x | with_reducible exact fun _ => ⟨rfl, rfl, rfl, rfl⟩ | with_reducible exact fun x => absurd x Bool.false_ne_true | with_reducible exact KV.set_wf _ _ _ | with_reducible exact KV.put_wf _ _ | with_reducible exact KV.filter_wf _ | with_reducible exact List.prefix_rfl | with_reducible exact List.prefix_append _ _ | with_reducible exact KV.map_wf (fun _ => rfl) | with_reducible exact fun _ => KV.foldl_set_wf _ _ _ rfl | (simp; done) | skip) | with_reducible apply Keeps.ite | with_reducible apply Keeps.ite1 | (with_reducible apply Keeps.foldl; intro s₁ x₁; have h₁ : Keeps m₀ s₁ s₁ := Keeps.refl s₁; try dsimp +zetaDelta only) | (with_reducible apply Keeps.foldl1; intro s₁ x₁; have h₁ : Keeps m₀ s₁.1 s₁.1 := Keeps.refl s₁.1; try dsimp +zetaDelta only) | extract_lets | split | dsimp +zetaDelta only)

theorem keeps_putWrite {m₀ : Bool} {a₀ s₀ : State} (h₀ : Keeps m₀ a₀ s₀) {t : Nat} {f : Nat} {x : Folio} :
    Keeps m₀ a₀ (putWrite s₀ t f x) := by
  unfold putWrite
  try extract_lets
  repeat' (first | with_reducible assumption | with_reducible apply keeps_State_modFolio | with_reducible apply keeps_writeLine | (fail_if_no_progress (with_reducible apply Keeps.upd) <;> first | with_reducible rfl | with_reducible exact fun x => x | with_reducible exact fun _ => ⟨rfl, rfl, rfl, rfl⟩ | with_reducible exact fun x => absurd x Bool.false_ne_true | with_reducible exact KV.set_wf _ _ _ | with_reducible exact KV.put_wf _ _ | with_reducible exact KV.filter_wf _ | with_reducible exact List.prefix_rfl | with_reducible exact List.prefix_append _ _ | with_reducible exact KV.map_wf (fun _ => rfl) | with_reducible exact fun _ => KV.foldl_set_wf _ _ _ rfl | (simp; done) | skip) | with_reducible apply Keeps.ite | with_reducible apply Keeps.ite1 | (with_reducible apply Keeps.foldl; intro s₁ x₁; have h₁ : Keeps m₀ s₁ s₁ := Keeps.refl s₁; try dsimp +zetaDelta only) | (with_reducible apply Keeps.foldl1; intro s₁ x₁; have h₁ : Keeps m₀ s₁.1 s₁.1 := Keeps.refl s₁.1; try dsimp +zetaDelta only) | extract_lets | split | dsimp +zetaDelta only)

theorem keeps_conclude {m₀ : Bool} {a₀ s₀ : State} (h₀ : Keeps m₀ a₀ s₀) {t : Nat} {f : Nat} {opc : CmpOpc} :
    Keeps m₀ a₀ (conclude s₀ t f opc) := by
  unfold conclude
  try extract_lets
  repeat' (first | with_reducible assumption | with_reducible refine keeps_armMon_eq (by assumption) ?_ | with_reducible apply keeps_State_bump | with_reducible apply keeps_State_modFolio | with_reducible apply keeps_armMon | with_reducible apply keeps_clearOthers | with_reducible apply keeps_clearOwn | with_reducible apply keeps_complete | with_reducible apply keeps_putWrite | (fail_if_no_progress (with_reducible apply Keeps.upd) <;> first | with_reducible rfl | with_reducible exact fun x => x | with_reducible exact fun _ => ⟨rfl, rfl, rfl, rfl⟩ | with_reducible exact fun x => absurd x Bool.false_ne_true | with_reducible exact KV.set_wf _ _ _ | with_reducible exact KV.put_wf _ _ | with_reducible exact KV.filter_wf _ | with_reducible exact List.prefix_rfl | with_reducible exact List.prefix_append _ _ | with_reducible exact KV.map_wf (fun _ => rfl) | with_reducible exact fun _ => KV.foldl_set_wf _ _ _ rfl | (simp; done) | skip) | with_reducible apply Keeps.ite | with_reducible apply Keeps.ite1 | (with_reducible apply Keeps.foldl; intro s₁ x₁; have h₁ : Keeps m₀ s₁ s₁ := Keeps.refl s₁; try dsimp +zetaDelta only) | (with_reducible apply Keeps.foldl1; intro s₁ x₁; have h₁ : Keeps m₀ s₁.1 s₁.1 := Keeps.refl s₁.1; try dsimp +zetaDelta only) | extract_lets | split | dsimp +zetaDelta only)

theorem keeps_State_chooseWay {m₀ : Bool} {a₀ s₀ : State} (h₀ : Keeps m₀ a₀ s₀) {t : Nat} {region : Nat} {sec : Nat} :
    ∀ t₀, (State.chooseWay s₀ t region sec) = some t₀ → Keeps m₀ a₀ t₀.1 := by
  intro t₀ e₀
  unfold State.chooseWay at e₀
  dsimp only at e₀
  repeat' (split at e₀)
  · simp only [Option.some.injEq] at e₀; subst e₀; exact h₀
  · cases e₀
  · rw [Option.map_eq_some_iff] at e₀
    obtain ⟨x, -, rfl⟩ := e₀
    exact keeps_State_modTill h₀

theorem keeps_State_chooseWay_eq {m₀ : Bool} {a₀ s₀ u₀ : State} {y₀ : Nat} {t : Nat} {region : Nat} {sec : Nat} (e₀ : State.chooseWay s₀ t region sec = some (u₀, y₀)) (h₀ : Keeps m₀ a₀ s₀) : Keeps m₀ a₀ u₀ :=
  keeps_State_chooseWay h₀ (u₀, y₀) e₀

end Sys2Proof.Machine
end

