-- ==== Sys2Proof/Laws/KeepsX1.lean ====
section
/-! SUPPORT. What `Keeps` says of each operation, in the order of the callees. -/

namespace Sys2Proof.Machine
set_option linter.all false

theorem keeps_State_modOp {m₀ : Bool} {a₀ s₀ : State} (h₀ : Keeps m₀ a₀ s₀) {t : Nat} {k : Nat} {g : SecOp → SecOp} :
    Keeps m₀ a₀ (State.modOp s₀ t k g) := by
  unfold State.modOp
  try extract_lets
  repeat' (first | with_reducible assumption | with_reducible apply keeps_State_modTill | (fail_if_no_progress (with_reducible apply Keeps.upd) <;> first | with_reducible rfl | with_reducible exact fun x => x | with_reducible exact fun _ => ⟨rfl, rfl, rfl, rfl⟩ | with_reducible exact fun x => absurd x Bool.false_ne_true | with_reducible exact KV.set_wf _ _ _ | with_reducible exact KV.put_wf _ _ | with_reducible exact KV.filter_wf _ | with_reducible exact List.prefix_rfl | with_reducible exact List.prefix_append _ _ | with_reducible exact KV.map_wf (fun _ => rfl) | with_reducible exact fun _ => KV.foldl_set_wf _ _ _ rfl | (simp; done) | skip) | with_reducible apply Keeps.ite | with_reducible apply Keeps.ite1 | (with_reducible apply Keeps.foldl; intro s₁ x₁; have h₁ : Keeps m₀ s₁ s₁ := Keeps.refl s₁; try dsimp +zetaDelta only) | (with_reducible apply Keeps.foldl1; intro s₁ x₁; have h₁ : Keeps m₀ s₁.1 s₁.1 := Keeps.refl s₁.1; try dsimp +zetaDelta only) | extract_lets | split | dsimp +zetaDelta only)

theorem keeps_opClose {m₀ : Bool} {a₀ s₀ : State} (h₀ : Keeps m₀ a₀ s₀) {t : Nat} {k : Nat} :
    Keeps m₀ a₀ (opClose s₀ t k) := by
  unfold opClose
  try extract_lets
  repeat' (first | with_reducible assumption | with_reducible apply keeps_State_modTill | with_reducible apply keeps_retire | (fail_if_no_progress (with_reducible apply Keeps.upd) <;> first | with_reducible rfl | with_reducible exact fun x => x | with_reducible exact fun _ => ⟨rfl, rfl, rfl, rfl⟩ | with_reducible exact fun x => absurd x Bool.false_ne_true | with_reducible exact KV.set_wf _ _ _ | with_reducible exact KV.put_wf _ _ | with_reducible exact KV.filter_wf _ | with_reducible exact List.prefix_rfl | with_reducible exact List.prefix_append _ _ | with_reducible exact KV.map_wf (fun _ => rfl) | with_reducible exact fun _ => KV.foldl_set_wf _ _ _ rfl | (simp; done) | skip) | with_reducible apply Keeps.ite | with_reducible apply Keeps.ite1 | (with_reducible apply Keeps.foldl; intro s₁ x₁; have h₁ : Keeps m₀ s₁ s₁ := Keeps.refl s₁; try dsimp +zetaDelta only) | (with_reducible apply Keeps.foldl1; intro s₁ x₁; have h₁ : Keeps m₀ s₁.1 s₁.1 := Keeps.refl s₁.1; try dsimp +zetaDelta only) | extract_lets | split | dsimp +zetaDelta only)

theorem keeps_opHandOn {m₀ : Bool} {a₀ s₀ : State} (h₀ : Keeps m₀ a₀ s₀) {t : Nat} {k : Nat} :
    Keeps m₀ a₀ (opHandOn s₀ t k) := by
  unfold opHandOn
  try extract_lets
  repeat' (first | with_reducible assumption | with_reducible apply keeps_State_modFolio | with_reducible apply keeps_State_modOp | with_reducible apply keeps_handOn | (fail_if_no_progress (with_reducible apply Keeps.upd) <;> first | with_reducible rfl | with_reducible exact fun x => x | with_reducible exact fun _ => ⟨rfl, rfl, rfl, rfl⟩ | with_reducible exact fun x => absurd x Bool.false_ne_true | with_reducible exact KV.set_wf _ _ _ | with_reducible exact KV.put_wf _ _ | with_reducible exact KV.filter_wf _ | with_reducible exact List.prefix_rfl | with_reducible exact List.prefix_append _ _ | with_reducible exact KV.map_wf (fun _ => rfl) | with_reducible exact fun _ => KV.foldl_set_wf _ _ _ rfl | (simp; done) | skip) | with_reducible apply Keeps.ite | with_reducible apply Keeps.ite1 | (with_reducible apply Keeps.foldl; intro s₁ x₁; have h₁ : Keeps m₀ s₁ s₁ := Keeps.refl s₁; try dsimp +zetaDelta only) | (with_reducible apply Keeps.foldl1; intro s₁ x₁; have h₁ : Keeps m₀ s₁.1 s₁.1 := Keeps.refl s₁.1; try dsimp +zetaDelta only) | extract_lets | split | dsimp +zetaDelta only)

theorem keeps_writeMemo {m₀ : Bool} {a₀ s₀ : State} (h₀ : Keeps m₀ a₀ s₀) {t : Nat} {f : Nat} {sec : Nat} {mask : Nat} {off : Bool} {value : Bool} :
    Keeps m₀ a₀ (writeMemo s₀ t f sec mask off value) := by
  unfold writeMemo
  try extract_lets
  repeat' (first | with_reducible assumption | with_reducible apply keeps_pushAcc | (fail_if_no_progress (with_reducible apply Keeps.upd) <;> first | with_reducible rfl | with_reducible exact fun x => x | with_reducible exact fun _ => ⟨rfl, rfl, rfl, rfl⟩ | with_reducible exact fun x => absurd x Bool.false_ne_true | with_reducible exact KV.set_wf _ _ _ | with_reducible exact KV.put_wf _ _ | with_reducible exact KV.filter_wf _ | with_reducible exact List.prefix_rfl | with_reducible exact List.prefix_append _ _ | with_reducible exact KV.map_wf (fun _ => rfl) | with_reducible exact fun _ => KV.foldl_set_wf _ _ _ rfl | (simp; done) | skip) | with_reducible apply Keeps.ite | with_reducible apply Keeps.ite1 | (with_reducible apply Keeps.foldl; intro s₁ x₁; have h₁ : Keeps m₀ s₁ s₁ := Keeps.refl s₁; try dsimp +zetaDelta only) | (with_reducible apply Keeps.foldl1; intro s₁ x₁; have h₁ : Keeps m₀ s₁.1 s₁.1 := Keeps.refl s₁.1; try dsimp +zetaDelta only) | extract_lets | split | dsimp +zetaDelta only)

theorem keeps_reclaimEnd {m₀ : Bool} {a₀ s₀ : State} (h₀ : Keeps m₀ a₀ s₀) {t : Nat} {k : Nat} :
    Keeps m₀ a₀ (reclaimEnd s₀ t k) := by
  unfold reclaimEnd
  try extract_lets
  repeat' (first | with_reducible assumption | with_reducible apply keeps_State_modOp | with_reducible apply keeps_opClose | with_reducible apply keeps_opHandOn | with_reducible apply keeps_startGroup | with_reducible apply keeps_writeMemo | (fail_if_no_progress (with_reducible apply Keeps.upd) <;> first | with_reducible rfl | with_reducible exact fun x => x | with_reducible exact fun _ => ⟨rfl, rfl, rfl, rfl⟩ | with_reducible exact fun x => absurd x Bool.false_ne_true | with_reducible exact KV.set_wf _ _ _ | with_reducible exact KV.put_wf _ _ | with_reducible exact KV.filter_wf _ | with_reducible exact List.prefix_rfl | with_reducible exact List.prefix_append _ _ | with_reducible exact KV.map_wf (fun _ => rfl) | with_reducible exact fun _ => KV.foldl_set_wf _ _ _ rfl | (simp; done) | skip) | with_reducible apply Keeps.ite | with_reducible apply Keeps.ite1 | (with_reducible apply Keeps.foldl; intro s₁ x₁; have h₁ : Keeps m₀ s₁ s₁ := Keeps.refl s₁; try dsimp +zetaDelta only) | (with_reducible apply Keeps.foldl1; intro s₁ x₁; have h₁ : Keeps m₀ s₁.1 s₁.1 := Keeps.refl s₁.1; try dsimp +zetaDelta only) | extract_lets | split | dsimp +zetaDelta only)

theorem keeps_sendSnoops {m₀ : Bool} {a₀ s₀ : State} (h₀ : Keeps m₀ a₀ s₀) {t : Nat} {f : Nat} {sec : Nat} {e : Ent} {l0 : List Target} :
    Keeps m₀ a₀ (sendSnoops s₀ t f sec e l0) := by
  unfold sendSnoops
  try extract_lets
  repeat' (first | with_reducible assumption | with_reducible apply keeps_State_bump | with_reducible apply keeps_State_bumpBy | with_reducible apply keeps_State_modFolio | with_reducible apply keeps_State_packet | with_reducible apply keeps_State_tev | (fail_if_no_progress (with_reducible apply Keeps.upd) <;> first | with_reducible rfl | with_reducible exact fun x => x | with_reducible exact fun _ => ⟨rfl, rfl, rfl, rfl⟩ | with_reducible exact fun x => absurd x Bool.false_ne_true | with_reducible exact KV.set_wf _ _ _ | with_reducible exact KV.put_wf _ _ | with_reducible exact KV.filter_wf _ | with_reducible exact List.prefix_rfl | with_reducible exact List.prefix_append _ _ | with_reducible exact KV.map_wf (fun _ => rfl) | with_reducible exact fun _ => KV.foldl_set_wf _ _ _ rfl | (simp; done) | skip) | with_reducible apply Keeps.ite | with_reducible apply Keeps.ite1 | (with_reducible apply Keeps.foldl; intro s₁ x₁; have h₁ : Keeps m₀ s₁ s₁ := Keeps.refl s₁; try dsimp +zetaDelta only) | (with_reducible apply Keeps.foldl1; intro s₁ x₁; have h₁ : Keeps m₀ s₁.1 s₁.1 := Keeps.refl s₁.1; try dsimp +zetaDelta only) | extract_lets | split | dsimp +zetaDelta only)

theorem keeps_reclaimSnoop {m₀ : Bool} {a₀ s₀ : State} (h₀ : Keeps m₀ a₀ s₀) {t : Nat} {k : Nat} {o : SecOp} {e : Ent} {l : List Target} :
    Keeps m₀ a₀ (reclaimSnoop s₀ t k o e l) := by
  unfold reclaimSnoop
  try extract_lets
  repeat' (first | with_reducible assumption | with_reducible apply keeps_reclaimEnd | with_reducible apply keeps_sendSnoops | (fail_if_no_progress (with_reducible apply Keeps.upd) <;> first | with_reducible rfl | with_reducible exact fun x => x | with_reducible exact fun _ => ⟨rfl, rfl, rfl, rfl⟩ | with_reducible exact fun x => absurd x Bool.false_ne_true | with_reducible exact KV.set_wf _ _ _ | with_reducible exact KV.put_wf _ _ | with_reducible exact KV.filter_wf _ | with_reducible exact List.prefix_rfl | with_reducible exact List.prefix_append _ _ | with_reducible exact KV.map_wf (fun _ => rfl) | with_reducible exact fun _ => KV.foldl_set_wf _ _ _ rfl | (simp; done) | skip) | with_reducible apply Keeps.ite | with_reducible apply Keeps.ite1 | (with_reducible apply Keeps.foldl; intro s₁ x₁; have h₁ : Keeps m₀ s₁ s₁ := Keeps.refl s₁; try dsimp +zetaDelta only) | (with_reducible apply Keeps.foldl1; intro s₁ x₁; have h₁ : Keeps m₀ s₁.1 s₁.1 := Keeps.refl s₁.1; try dsimp +zetaDelta only) | extract_lets | split | dsimp +zetaDelta only)

theorem keeps_dispose {m₀ : Bool} {a₀ s₀ : State} (h₀ : Keeps m₀ a₀ s₀) {t : Nat} {k : Nat} :
    Keeps m₀ a₀ (dispose s₀ t k) := by
  unfold dispose
  try extract_lets
  repeat' (first | with_reducible assumption | with_reducible apply keeps_State_bump | with_reducible apply keeps_State_modOp | with_reducible apply keeps_State_tev | with_reducible apply keeps_opClose | with_reducible apply keeps_opHandOn | with_reducible apply keeps_reclaimSnoop | with_reducible apply keeps_startGroup | (fail_if_no_progress (with_reducible apply Keeps.upd) <;> first | with_reducible rfl | with_reducible exact fun x => x | with_reducible exact fun _ => ⟨rfl, rfl, rfl, rfl⟩ | with_reducible exact fun x => absurd x Bool.false_ne_true | with_reducible exact KV.set_wf _ _ _ | with_reducible exact KV.put_wf _ _ | with_reducible exact KV.filter_wf _ | with_reducible exact List.prefix_rfl | with_reducible exact List.prefix_append _ _ | with_reducible exact KV.map_wf (fun _ => rfl) | with_reducible exact fun _ => KV.foldl_set_wf _ _ _ rfl | (simp; done) | skip) | with_reducible apply Keeps.ite | with_reducible apply Keeps.ite1 | (with_reducible apply Keeps.foldl; intro s₁ x₁; have h₁ : Keeps m₀ s₁ s₁ := Keeps.refl s₁; try dsimp +zetaDelta only) | (with_reducible apply Keeps.foldl1; intro s₁ x₁; have h₁ : Keeps m₀ s₁.1 s₁.1 := Keeps.refl s₁.1; try dsimp +zetaDelta only) | extract_lets | split | dsimp +zetaDelta only)

theorem keeps_State_setFolio {m₀ : Bool} {a₀ s₀ : State} (h₀ : Keeps m₀ a₀ s₀) {t : Nat} {f : Nat} {x : Folio} :
    Keeps m₀ a₀ (State.setFolio s₀ t f x) := by
  unfold State.setFolio
  try extract_lets
  repeat' (first | with_reducible assumption | with_reducible apply keeps_State_modTill | (fail_if_no_progress (with_reducible apply Keeps.upd) <;> first | with_reducible rfl | with_reducible exact fun x => x | with_reducible exact fun _ => ⟨rfl, rfl, rfl, rfl⟩ | with_reducible exact fun x => absurd x Bool.false_ne_true | with_reducible exact KV.set_wf _ _ _ | with_reducible exact KV.put_wf _ _ | with_reducible exact KV.filter_wf _ | with_reducible exact List.prefix_rfl | with_reducible exact List.prefix_append _ _ | with_reducible exact KV.map_wf (fun _ => rfl) | with_reducible exact fun _ => KV.foldl_set_wf _ _ _ rfl | (simp; done) | skip) | with_reducible apply Keeps.ite | with_reducible apply Keeps.ite1 | (with_reducible apply Keeps.foldl; intro s₁ x₁; have h₁ : Keeps m₀ s₁ s₁ := Keeps.refl s₁; try dsimp +zetaDelta only) | (with_reducible apply Keeps.foldl1; intro s₁ x₁; have h₁ : Keeps m₀ s₁.1 s₁.1 := Keeps.refl s₁.1; try dsimp +zetaDelta only) | extract_lets | split | dsimp +zetaDelta only)

theorem keeps_takeInternal {m₀ : Bool} {a₀ s₀ : State} (h₀ : Keeps m₀ a₀ s₀) {t : Nat} {l : Sys2Proof.Line} {job : Job} :
    Keeps m₀ a₀ (takeInternal s₀ t l job).1 := by
  unfold takeInternal
  try extract_lets
  repeat' (first | with_reducible assumption | with_reducible apply keeps_State_setFolio | (fail_if_no_progress (with_reducible apply Keeps.upd) <;> first | with_reducible rfl | with_reducible exact fun x => x | with_reducible exact fun _ => ⟨rfl, rfl, rfl, rfl⟩ | with_reducible exact fun x => absurd x Bool.false_ne_true | with_reducible exact KV.set_wf _ _ _ | with_reducible exact KV.put_wf _ _ | with_reducible exact KV.filter_wf _ | with_reducible exact List.prefix_rfl | with_reducible exact List.prefix_append _ _ | with_reducible exact KV.map_wf (fun _ => rfl) | with_reducible exact fun _ => KV.foldl_set_wf _ _ _ rfl | (simp; done) | skip) | with_reducible apply Keeps.ite | with_reducible apply Keeps.ite1 | (with_reducible apply Keeps.foldl; intro s₁ x₁; have h₁ : Keeps m₀ s₁ s₁ := Keeps.refl s₁; try dsimp +zetaDelta only) | (with_reducible apply Keeps.foldl1; intro s₁ x₁; have h₁ : Keeps m₀ s₁.1 s₁.1 := Keeps.refl s₁.1; try dsimp +zetaDelta only) | extract_lets | split | dsimp +zetaDelta only)

theorem keeps_takeInternal_eq {m₀ : Bool} {a₀ s₀ u₀ : State} {y₀ : Nat} {t : Nat} {l : Sys2Proof.Line} {job : Job} (e₀ : takeInternal s₀ t l job = (u₀, y₀)) (h₀ : Keeps m₀ a₀ s₀) :
    Keeps m₀ a₀ u₀ := by
  have k := @keeps_takeInternal m₀ a₀ s₀ h₀ t l job
  rw [e₀] at k; exact k

theorem keeps_startSecOp {m₀ : Bool} {a₀ s₀ : State} (h₀ : Keeps m₀ a₀ s₀) {t : Nat} {sec : Nat} {kind : SecKind} {e : Ent} {buffered : Bool} {region : Nat} :
    Keeps m₀ a₀ (startSecOp s₀ t sec kind e buffered region).1 := by
  unfold startSecOp
  try extract_lets
  repeat' (first | with_reducible assumption | with_reducible refine keeps_takeInternal_eq (by assumption) ?_ | with_reducible apply keeps_State_modTill | with_reducible apply keeps_joinChain | with_reducible apply keeps_takeInternal | (fail_if_no_progress (with_reducible apply Keeps.upd) <;> first | with_reducible rfl | with_reducible exact fun x => x | with_reducible exact fun _ => ⟨rfl, rfl, rfl, rfl⟩ | with_reducible exact fun x => absurd x Bool.false_ne_true | with_reducible exact KV.set_wf _ _ _ | with_reducible exact KV.put_wf _ _ | with_reducible exact KV.filter_wf _ | with_reducible exact List.prefix_rfl | with_reducible exact List.prefix_append _ _ | with_reducible exact KV.map_wf (fun _ => rfl) | with_reducible exact fun _ => KV.foldl_set_wf _ _ _ rfl | (simp; done) | skip) | with_reducible apply Keeps.ite | with_reducible apply Keeps.ite1 | (with_reducible apply Keeps.foldl; intro s₁ x₁; have h₁ : Keeps m₀ s₁ s₁ := Keeps.refl s₁; try dsimp +zetaDelta only) | (with_reducible apply Keeps.foldl1; intro s₁ x₁; have h₁ : Keeps m₀ s₁.1 s₁.1 := Keeps.refl s₁.1; try dsimp +zetaDelta only) | extract_lets | split | dsimp +zetaDelta only)

theorem keeps_startSecOp_eq {m₀ : Bool} {a₀ s₀ u₀ : State} {y₀ : Nat} {t : Nat} {sec : Nat} {kind : SecKind} {e : Ent} {buffered : Bool} {region : Nat} (e₀ : startSecOp s₀ t sec kind e buffered region = (u₀, y₀)) (h₀ : Keeps m₀ a₀ s₀) :
    Keeps m₀ a₀ u₀ := by
  have k := @keeps_startSecOp m₀ a₀ s₀ h₀ t sec kind e buffered region
  rw [e₀] at k; exact k

theorem keeps_evictWay {m₀ : Bool} {a₀ s₀ : State} (h₀ : Keeps m₀ a₀ s₀) {t : Nat} {bank : Nat} {set : Nat} {way : Nat} :
    Keeps m₀ a₀ (evictWay s₀ t bank set way) := by
  unfold evictWay
  try extract_lets
  repeat' (first | with_reducible assumption | with_reducible refine keeps_startSecOp_eq (by assumption) ?_ | with_reducible apply keeps_State_modTill | with_reducible apply keeps_dispose | with_reducible apply keeps_startSecOp | (fail_if_no_progress (with_reducible apply Keeps.upd) <;> first | with_reducible rfl | with_reducible exact fun x => x | with_reducible exact fun _ => ⟨rfl, rfl, rfl, rfl⟩ | with_reducible exact fun x => absurd x Bool.false_ne_true | with_reducible exact KV.set_wf _ _ _ | with_reducible exact KV.put_wf _ _ | with_reducible exact KV.filter_wf _ | with_reducible exact List.prefix_rfl | with_reducible exact List.prefix_append _ _ | with_reducible exact KV.map_wf (fun _ => rfl) | with_reducible exact fun _ => KV.foldl_set_wf _ _ _ rfl | (simp; done) | skip) | with_reducible apply Keeps.ite | with_reducible apply Keeps.ite1 | (with_reducible apply Keeps.foldl; intro s₁ x₁; have h₁ : Keeps m₀ s₁ s₁ := Keeps.refl s₁; try dsimp +zetaDelta only) | (with_reducible apply Keeps.foldl1; intro s₁ x₁; have h₁ : Keeps m₀ s₁.1 s₁.1 := Keeps.refl s₁.1; try dsimp +zetaDelta only) | extract_lets | split | dsimp +zetaDelta only)

theorem keeps_findRoom {m₀ : Bool} {a₀ s₀ : State} (h₀ : Keeps m₀ a₀ s₀) {t : Nat} {f : Nat} {region : Nat} {sec : Nat} :
    Keeps m₀ a₀ (findRoom s₀ t f region sec).1 := by
  unfold findRoom
  try extract_lets
  repeat' (first | with_reducible assumption | with_reducible refine keeps_State_chooseWay_eq (by assumption) ?_ | with_reducible apply keeps_State_modFolio | with_reducible apply keeps_evictWay | (fail_if_no_progress (with_reducible apply Keeps.upd) <;> first | with_reducible rfl | with_reducible exact fun x => x | with_reducible exact fun _ => ⟨rfl, rfl, rfl, rfl⟩ | with_reducible exact fun x => absurd x Bool.false_ne_true | with_reducible exact KV.set_wf _ _ _ | with_reducible exact KV.put_wf _ _ | with_reducible exact KV.filter_wf _ | with_reducible exact List.prefix_rfl | with_reducible exact List.prefix_append _ _ | with_reducible exact KV.map_wf (fun _ => rfl) | with_reducible exact fun _ => KV.foldl_set_wf _ _ _ rfl | (simp; done) | skip) | with_reducible apply Keeps.ite | with_reducible apply Keeps.ite1 | (with_reducible apply Keeps.foldl; intro s₁ x₁; have h₁ : Keeps m₀ s₁ s₁ := Keeps.refl s₁; try dsimp +zetaDelta only) | (with_reducible apply Keeps.foldl1; intro s₁ x₁; have h₁ : Keeps m₀ s₁.1 s₁.1 := Keeps.refl s₁.1; try dsimp +zetaDelta only) | extract_lets | split | dsimp +zetaDelta only)

theorem keeps_findRoom_eq {m₀ : Bool} {a₀ s₀ u₀ : State} {y₀ : Room} {t : Nat} {f : Nat} {region : Nat} {sec : Nat} (e₀ : findRoom s₀ t f region sec = (u₀, y₀)) (h₀ : Keeps m₀ a₀ s₀) :
    Keeps m₀ a₀ u₀ := by
  have k := @keeps_findRoom m₀ a₀ s₀ h₀ t f region sec
  rw [e₀] at k; exact k

theorem keeps_storeEnt {m₀ : Bool} {a₀ s₀ : State} (h₀ : Keeps m₀ a₀ s₀) {t : Nat} {f : Nat} {x : Folio} {loc : Option Loc} {e : Ent} {e' : Ent} {retentive : Bool} :
    Keeps m₀ a₀ (storeEnt s₀ t f x loc e e' retentive) := by
  unfold storeEnt
  try extract_lets
  repeat' (first | with_reducible assumption | with_reducible apply keeps_State_modFolio | with_reducible apply keeps_State_modTill | (fail_if_no_progress (with_reducible apply Keeps.upd) <;> first | with_reducible rfl | with_reducible exact fun x => x | with_reducible exact fun _ => ⟨rfl, rfl, rfl, rfl⟩ | with_reducible exact fun x => absurd x Bool.false_ne_true | with_reducible exact KV.set_wf _ _ _ | with_reducible exact KV.put_wf _ _ | with_reducible exact KV.filter_wf _ | with_reducible exact List.prefix_rfl | with_reducible exact List.prefix_append _ _ | with_reducible exact KV.map_wf (fun _ => rfl) | with_reducible exact fun _ => KV.foldl_set_wf _ _ _ rfl | (simp; done) | skip) | with_reducible apply Keeps.ite | with_reducible apply Keeps.ite1 | (with_reducible apply Keeps.foldl; intro s₁ x₁; have h₁ : Keeps m₀ s₁ s₁ := Keeps.refl s₁; try dsimp +zetaDelta only) | (with_reducible apply Keeps.foldl1; intro s₁ x₁; have h₁ : Keeps m₀ s₁.1 s₁.1 := Keeps.refl s₁.1; try dsimp +zetaDelta only) | extract_lets | split | dsimp +zetaDelta only)

theorem keeps_recordP {m₀ : Bool} {a₀ s₀ : State} (h₀ : Keeps m₀ a₀ s₀) {t : Nat} {f : Nat} {x : Folio} {loc : Option Loc} {e : Ent} {e1 : Ent} :
    Keeps m₀ a₀ (recordP s₀ t f x loc e e1) := by
  unfold recordP
  try extract_lets
  repeat' (first | with_reducible assumption | with_reducible refine keeps_findRoom_eq (by assumption) ?_ | with_reducible apply keeps_findRoom | with_reducible apply keeps_storeEnt | (fail_if_no_progress (with_reducible apply Keeps.upd) <;> first | with_reducible rfl | with_reducible exact fun x => x | with_reducible exact fun _ => ⟨rfl, rfl, rfl, rfl⟩ | with_reducible exact fun x => absurd x Bool.false_ne_true | with_reducible exact KV.set_wf _ _ _ | with_reducible exact KV.put_wf _ _ | with_reducible exact KV.filter_wf _ | with_reducible exact List.prefix_rfl | with_reducible exact List.prefix_append _ _ | with_reducible exact KV.map_wf (fun _ => rfl) | with_reducible exact fun _ => KV.foldl_set_wf _ _ _ rfl | (simp; done) | skip) | with_reducible apply Keeps.ite | with_reducible apply Keeps.ite1 | (with_reducible apply Keeps.foldl; intro s₁ x₁; have h₁ : Keeps m₀ s₁ s₁ := Keeps.refl s₁; try dsimp +zetaDelta only) | (with_reducible apply Keeps.foldl1; intro s₁ x₁; have h₁ : Keeps m₀ s₁.1 s₁.1 := Keeps.refl s₁.1; try dsimp +zetaDelta only) | extract_lets | split | dsimp +zetaDelta only)

theorem keeps_serve {m₀ : Bool} {a₀ s₀ : State} (h₀ : Keeps m₀ a₀ s₀) {t : Nat} {f : Nat} {x : Folio} :
    Keeps m₀ a₀ (serve s₀ t f x) := by
  unfold serve
  try extract_lets
  repeat' (first | with_reducible assumption | with_reducible apply keeps_State_modFolio | with_reducible apply keeps_State_note | with_reducible apply keeps_awaitData | with_reducible apply keeps_complete | with_reducible apply keeps_completeOff | with_reducible apply keeps_conclude | with_reducible apply keeps_recordP | with_reducible apply keeps_startGroup | with_reducible apply keeps_storeEnt | (fail_if_no_progress (with_reducible apply Keeps.upd) <;> first | with_reducible rfl | with_reducible exact fun x => x | with_reducible exact fun _ => ⟨rfl, rfl, rfl, rfl⟩ | with_reducible exact fun x => absurd x Bool.false_ne_true | with_reducible exact KV.set_wf _ _ _ | with_reducible exact KV.put_wf _ _ | with_reducible exact KV.filter_wf _ | with_reducible exact List.prefix_rfl | with_reducible exact List.prefix_append _ _ | with_reducible exact KV.map_wf (fun _ => rfl) | with_reducible exact fun _ => KV.foldl_set_wf _ _ _ rfl | (simp; done) | skip) | with_reducible apply Keeps.ite | with_reducible apply Keeps.ite1 | (with_reducible apply Keeps.foldl; intro s₁ x₁; have h₁ : Keeps m₀ s₁ s₁ := Keeps.refl s₁; try dsimp +zetaDelta only) | (with_reducible apply Keeps.foldl1; intro s₁ x₁; have h₁ : Keeps m₀ s₁.1 s₁.1 := Keeps.refl s₁.1; try dsimp +zetaDelta only) | extract_lets | split | dsimp +zetaDelta only)

theorem keeps_finish {m₀ : Bool} {a₀ s₀ : State} (h₀ : Keeps m₀ a₀ s₀) {t : Nat} {f : Nat} :
    Keeps m₀ a₀ (finish s₀ t f) := by
  unfold finish
  try extract_lets
  repeat' (first | with_reducible assumption | with_reducible apply keeps_State_modFolio | with_reducible apply keeps_serve | with_reducible apply keeps_startGroup | with_reducible apply keeps_storeEnt | with_reducible apply keeps_writeMemo | (fail_if_no_progress (with_reducible apply Keeps.upd) <;> first | with_reducible rfl | with_reducible exact fun x => x | with_reducible exact fun _ => ⟨rfl, rfl, rfl, rfl⟩ | with_reducible exact fun x => absurd x Bool.false_ne_true | with_reducible exact KV.set_wf _ _ _ | with_reducible exact KV.put_wf _ _ | with_reducible exact KV.filter_wf _ | with_reducible exact List.prefix_rfl | with_reducible exact List.prefix_append _ _ | with_reducible exact KV.map_wf (fun _ => rfl) | with_reducible exact fun _ => KV.foldl_set_wf _ _ _ rfl | (simp; done) | skip) | with_reducible apply Keeps.ite | with_reducible apply Keeps.ite1 | (with_reducible apply Keeps.foldl; intro s₁ x₁; have h₁ : Keeps m₀ s₁ s₁ := Keeps.refl s₁; try dsimp +zetaDelta only) | (with_reducible apply Keeps.foldl1; intro s₁ x₁; have h₁ : Keeps m₀ s₁.1 s₁.1 := Keeps.refl s₁.1; try dsimp +zetaDelta only) | extract_lets | split | dsimp +zetaDelta only)

theorem keeps_State_slotWasted {m₀ : Bool} {a₀ s₀ : State} (h₀ : Keeps m₀ a₀ s₀) {t : Nat} :
    Keeps m₀ a₀ (State.slotWasted s₀ t) := by
  unfold State.slotWasted
  try extract_lets
  repeat' (first | with_reducible assumption | with_reducible apply keeps_State_slot | with_reducible apply keeps_State_tev | (fail_if_no_progress (with_reducible apply Keeps.upd) <;> first | with_reducible rfl | with_reducible exact fun x => x | with_reducible exact fun _ => ⟨rfl, rfl, rfl, rfl⟩ | with_reducible exact fun x => absurd x Bool.false_ne_true | with_reducible exact KV.set_wf _ _ _ | with_reducible exact KV.put_wf _ _ | with_reducible exact KV.filter_wf _ | with_reducible exact List.prefix_rfl | with_reducible exact List.prefix_append _ _ | with_reducible exact KV.map_wf (fun _ => rfl) | with_reducible exact fun _ => KV.foldl_set_wf _ _ _ rfl | (simp; done) | skip) | with_reducible apply Keeps.ite | with_reducible apply Keeps.ite1 | (with_reducible apply Keeps.foldl; intro s₁ x₁; have h₁ : Keeps m₀ s₁ s₁ := Keeps.refl s₁; try dsimp +zetaDelta only) | (with_reducible apply Keeps.foldl1; intro s₁ x₁; have h₁ : Keeps m₀ s₁.1 s₁.1 := Keeps.refl s₁.1; try dsimp +zetaDelta only) | extract_lets | split | dsimp +zetaDelta only)

theorem keeps_block {m₀ : Bool} {a₀ s₀ : State} (h₀ : Keeps m₀ a₀ s₀) {t : Nat} {f : Nat} :
    Keeps m₀ a₀ (block s₀ t f) := by
  unfold block
  try extract_lets
  repeat' (first | with_reducible assumption | with_reducible apply keeps_State_modFolio | with_reducible apply keeps_cancelRead | (fail_if_no_progress (with_reducible apply Keeps.upd) <;> first | with_reducible rfl | with_reducible exact fun x => x | with_reducible exact fun _ => ⟨rfl, rfl, rfl, rfl⟩ | with_reducible exact fun x => absurd x Bool.false_ne_true | with_reducible exact KV.set_wf _ _ _ | with_reducible exact KV.put_wf _ _ | with_reducible exact KV.filter_wf _ | with_reducible exact List.prefix_rfl | with_reducible exact List.prefix_append _ _ | with_reducible exact KV.map_wf (fun _ => rfl) | with_reducible exact fun _ => KV.foldl_set_wf _ _ _ rfl | (simp; done) | skip) | with_reducible apply Keeps.ite | with_reducible apply Keeps.ite1 | (with_reducible apply Keeps.foldl; intro s₁ x₁; have h₁ : Keeps m₀ s₁ s₁ := Keeps.refl s₁; try dsimp +zetaDelta only) | (with_reducible apply Keeps.foldl1; intro s₁ x₁; have h₁ : Keeps m₀ s₁.1 s₁.1 := Keeps.refl s₁.1; try dsimp +zetaDelta only) | extract_lets | split | dsimp +zetaDelta only)

theorem keeps_decideKnown {m₀ : Bool} {a₀ s₀ : State} (h₀ : Keeps m₀ a₀ s₀) {t : Nat} {f : Nat} {e : Ent} {fresh : Bool} :
    Keeps m₀ a₀ (decideKnown s₀ t f e fresh) := by
  unfold decideKnown
  try extract_lets
  repeat' (first | with_reducible assumption | with_reducible apply keeps_State_modFolio | with_reducible apply keeps_State_slotWasted | with_reducible apply keeps_block | with_reducible apply keeps_conclude | with_reducible apply keeps_finish | with_reducible apply keeps_sendSnoops | (fail_if_no_progress (with_reducible apply Keeps.upd) <;> first | with_reducible rfl | with_reducible exact fun x => x | with_reducible exact fun _ => ⟨rfl, rfl, rfl, rfl⟩ | with_reducible exact fun x => absurd x Bool.false_ne_true | with_reducible exact KV.set_wf _ _ _ | with_reducible exact KV.put_wf _ _ | with_reducible exact KV.filter_wf _ | with_reducible exact List.prefix_rfl | with_reducible exact List.prefix_append _ _ | with_reducible exact KV.map_wf (fun _ => rfl) | with_reducible exact fun _ => KV.foldl_set_wf _ _ _ rfl | (simp; done) | skip) | with_reducible apply Keeps.ite | with_reducible apply Keeps.ite1 | (with_reducible apply Keeps.foldl; intro s₁ x₁; have h₁ : Keeps m₀ s₁ s₁ := Keeps.refl s₁; try dsimp +zetaDelta only) | (with_reducible apply Keeps.foldl1; intro s₁ x₁; have h₁ : Keeps m₀ s₁.1 s₁.1 := Keeps.refl s₁.1; try dsimp +zetaDelta only) | extract_lets | split | dsimp +zetaDelta only)

theorem keeps_decideFresh {m₀ : Bool} {a₀ s₀ : State} (h₀ : Keeps m₀ a₀ s₀) {t : Nat} {f : Nat} :
    Keeps m₀ a₀ (decideFresh s₀ t f) := by
  unfold decideFresh
  try extract_lets
  repeat' (first | with_reducible assumption | with_reducible refine keeps_findRoom_eq (by assumption) ?_ | with_reducible apply keeps_State_modFolio | with_reducible apply keeps_decideKnown | with_reducible apply keeps_findRoom | (fail_if_no_progress (with_reducible apply Keeps.upd) <;> first | with_reducible rfl | with_reducible exact fun x => x | with_reducible exact fun _ => ⟨rfl, rfl, rfl, rfl⟩ | with_reducible exact fun x => absurd x Bool.false_ne_true | with_reducible exact KV.set_wf _ _ _ | with_reducible exact KV.put_wf _ _ | with_reducible exact KV.filter_wf _ | with_reducible exact List.prefix_rfl | with_reducible exact List.prefix_append _ _ | with_reducible exact KV.map_wf (fun _ => rfl) | with_reducible exact fun _ => KV.foldl_set_wf _ _ _ rfl | (simp; done) | skip) | with_reducible apply Keeps.ite | with_reducible apply Keeps.ite1 | (with_reducible apply Keeps.foldl; intro s₁ x₁; have h₁ : Keeps m₀ s₁ s₁ := Keeps.refl s₁; try dsimp +zetaDelta only) | (with_reducible apply Keeps.foldl1; intro s₁ x₁; have h₁ : Keeps m₀ s₁.1 s₁.1 := Keeps.refl s₁.1; try dsimp +zetaDelta only) | extract_lets | split | dsimp +zetaDelta only)

theorem keeps_writeOff {m₀ : Bool} {a₀ s₀ : State} (h₀ : Keeps m₀ a₀ s₀) {t : Nat} {f : Nat} {sec : Nat} {l : List Nat} :
    Keeps m₀ a₀ (writeOff s₀ t f sec l) := by
  unfold writeOff
  try extract_lets
  repeat' (first | with_reducible assumption | with_reducible apply keeps_State_bumpBy | with_reducible apply keeps_writeMemo | (fail_if_no_progress (with_reducible apply Keeps.upd) <;> first | with_reducible rfl | with_reducible exact fun x => x | with_reducible exact fun _ => ⟨rfl, rfl, rfl, rfl⟩ | with_reducible exact fun x => absurd x Bool.false_ne_true | with_reducible exact KV.set_wf _ _ _ | with_reducible exact KV.put_wf _ _ | with_reducible exact KV.filter_wf _ | with_reducible exact List.prefix_rfl | with_reducible exact List.prefix_append _ _ | with_reducible exact KV.map_wf (fun _ => rfl) | with_reducible exact fun _ => KV.foldl_set_wf _ _ _ rfl | (simp; done) | skip) | with_reducible apply Keeps.ite | with_reducible apply Keeps.ite1 | (with_reducible apply Keeps.foldl; intro s₁ x₁; have h₁ : Keeps m₀ s₁ s₁ := Keeps.refl s₁; try dsimp +zetaDelta only) | (with_reducible apply Keeps.foldl1; intro s₁ x₁; have h₁ : Keeps m₀ s₁.1 s₁.1 := Keeps.refl s₁.1; try dsimp +zetaDelta only) | extract_lets | split | dsimp +zetaDelta only)

theorem keeps_heal {m₀ : Bool} {a₀ s₀ : State} (h₀ : Keeps m₀ a₀ s₀) {t : Nat} {f : Nat} {sec : Nat} {e : Ent} :
    Keeps m₀ a₀ (heal s₀ t f sec e).1 := by
  unfold heal
  try extract_lets
  repeat' (first | with_reducible assumption | with_reducible apply keeps_State_modTill | with_reducible apply keeps_writeOff | (fail_if_no_progress (with_reducible apply Keeps.upd) <;> first | with_reducible rfl | with_reducible exact fun x => x | with_reducible exact fun _ => ⟨rfl, rfl, rfl, rfl⟩ | with_reducible exact fun x => absurd x Bool.false_ne_true | with_reducible exact KV.set_wf _ _ _ | with_reducible exact KV.put_wf _ _ | with_reducible exact KV.filter_wf _ | with_reducible exact List.prefix_rfl | with_reducible exact List.prefix_append _ _ | with_reducible exact KV.map_wf (fun _ => rfl) | with_reducible exact fun _ => KV.foldl_set_wf _ _ _ rfl | (simp; done) | skip) | with_reducible apply Keeps.ite | with_reducible apply Keeps.ite1 | (with_reducible apply Keeps.foldl; intro s₁ x₁; have h₁ : Keeps m₀ s₁ s₁ := Keeps.refl s₁; try dsimp +zetaDelta only) | (with_reducible apply Keeps.foldl1; intro s₁ x₁; have h₁ : Keeps m₀ s₁.1 s₁.1 := Keeps.refl s₁.1; try dsimp +zetaDelta only) | extract_lets | split | dsimp +zetaDelta only)

theorem keeps_heal_eq {m₀ : Bool} {a₀ s₀ u₀ : State} {y₀ : Ent} {t : Nat} {f : Nat} {sec : Nat} {e : Ent} (e₀ : heal s₀ t f sec e = (u₀, y₀)) (h₀ : Keeps m₀ a₀ s₀) :
    Keeps m₀ a₀ u₀ := by
  have k := @keeps_heal m₀ a₀ s₀ h₀ t f sec e
  rw [e₀] at k; exact k

theorem keeps_resolved {m₀ : Bool} {a₀ s₀ : State} (h₀ : Keeps m₀ a₀ s₀) {t : Nat} {f : Nat} :
    Keeps m₀ a₀ (resolved s₀ t f) := by
  unfold resolved
  try extract_lets
  repeat' (first | with_reducible assumption | with_reducible apply keeps_State_modFolio | with_reducible apply keeps_State_modTill | with_reducible apply keeps_decideKnown | with_reducible apply keeps_writeOff | (fail_if_no_progress (with_reducible apply Keeps.upd) <;> first | with_reducible rfl | with_reducible exact fun x => x | with_reducible exact fun _ => ⟨rfl, rfl, rfl, rfl⟩ | with_reducible exact fun x => absurd x Bool.false_ne_true | with_reducible exact KV.set_wf _ _ _ | with_reducible exact KV.put_wf _ _ | with_reducible exact KV.filter_wf _ | with_reducible exact List.prefix_rfl | with_reducible exact List.prefix_append _ _ | with_reducible exact KV.map_wf (fun _ => rfl) | with_reducible exact fun _ => KV.foldl_set_wf _ _ _ rfl | (simp; done) | skip) | with_reducible apply Keeps.ite | with_reducible apply Keeps.ite1 | (with_reducible apply Keeps.foldl; intro s₁ x₁; have h₁ : Keeps m₀ s₁ s₁ := Keeps.refl s₁; try dsimp +zetaDelta only) | (with_reducible apply Keeps.foldl1; intro s₁ x₁; have h₁ : Keeps m₀ s₁.1 s₁.1 := Keeps.refl s₁.1; try dsimp +zetaDelta only) | extract_lets | split | dsimp +zetaDelta only)

theorem keeps_decide' {m₀ : Bool} {a₀ s₀ : State} (h₀ : Keeps m₀ a₀ s₀) {t : Nat} {f : Nat} {e0 : Ent} {fresh : Bool} :
    Keeps m₀ a₀ (decide' s₀ t f e0 fresh) := by
  unfold decide'
  try extract_lets
  repeat' (first | with_reducible assumption | with_reducible refine keeps_heal_eq (by assumption) ?_ | with_reducible apply keeps_State_modFolio | with_reducible apply keeps_State_modTill | with_reducible apply keeps_decideKnown | with_reducible apply keeps_finish | with_reducible apply keeps_heal | with_reducible apply keeps_resolved | with_reducible apply keeps_sendSnoops | with_reducible apply keeps_startGroup | (fail_if_no_progress (with_reducible apply Keeps.upd) <;> first | with_reducible rfl | with_reducible exact fun x => x | with_reducible exact fun _ => ⟨rfl, rfl, rfl, rfl⟩ | with_reducible exact fun x => absurd x Bool.false_ne_true | with_reducible exact KV.set_wf _ _ _ | with_reducible exact KV.put_wf _ _ | with_reducible exact KV.filter_wf _ | with_reducible exact List.prefix_rfl | with_reducible exact List.prefix_append _ _ | with_reducible exact KV.map_wf (fun _ => rfl) | with_reducible exact fun _ => KV.foldl_set_wf _ _ _ rfl | (simp; done) | skip) | with_reducible apply Keeps.ite | with_reducible apply Keeps.ite1 | (with_reducible apply Keeps.foldl; intro s₁ x₁; have h₁ : Keeps m₀ s₁ s₁ := Keeps.refl s₁; try dsimp +zetaDelta only) | (with_reducible apply Keeps.foldl1; intro s₁ x₁; have h₁ : Keeps m₀ s₁.1 s₁.1 := Keeps.refl s₁.1; try dsimp +zetaDelta only) | extract_lets | split | dsimp +zetaDelta only)

theorem keeps_decideUnknown {m₀ : Bool} {a₀ s₀ : State} (h₀ : Keeps m₀ a₀ s₀) {t : Nat} {f : Nat} :
    Keeps m₀ a₀ (decideUnknown s₀ t f) := by
  unfold decideUnknown
  try extract_lets
  repeat' (first | with_reducible assumption | with_reducible refine keeps_findRoom_eq (by assumption) ?_ | with_reducible apply keeps_State_modFolio | with_reducible apply keeps_decide' | with_reducible apply keeps_findRoom | (fail_if_no_progress (with_reducible apply Keeps.upd) <;> first | with_reducible rfl | with_reducible exact fun x => x | with_reducible exact fun _ => ⟨rfl, rfl, rfl, rfl⟩ | with_reducible exact fun x => absurd x Bool.false_ne_true | with_reducible exact KV.set_wf _ _ _ | with_reducible exact KV.put_wf _ _ | with_reducible exact KV.filter_wf _ | with_reducible exact List.prefix_rfl | with_reducible exact List.prefix_append _ _ | with_reducible exact KV.map_wf (fun _ => rfl) | with_reducible exact fun _ => KV.foldl_set_wf _ _ _ rfl | (simp; done) | skip) | with_reducible apply Keeps.ite | with_reducible apply Keeps.ite1 | (with_reducible apply Keeps.foldl; intro s₁ x₁; have h₁ : Keeps m₀ s₁ s₁ := Keeps.refl s₁; try dsimp +zetaDelta only) | (with_reducible apply Keeps.foldl1; intro s₁ x₁; have h₁ : Keeps m₀ s₁.1 s₁.1 := Keeps.refl s₁.1; try dsimp +zetaDelta only) | extract_lets | split | dsimp +zetaDelta only)

theorem keeps_absent {m₀ : Bool} {a₀ s₀ : State} (h₀ : Keeps m₀ a₀ s₀) {t : Nat} {f : Nat} {sec : Nat} {consulted : Bool} :
    Keeps m₀ a₀ (absent s₀ t f sec consulted) := by
  unfold absent
  try extract_lets
  repeat' (first | with_reducible assumption | with_reducible apply keeps_decideFresh | with_reducible apply keeps_decideUnknown | (fail_if_no_progress (with_reducible apply Keeps.upd) <;> first | with_reducible rfl | with_reducible exact fun x => x | with_reducible exact fun _ => ⟨rfl, rfl, rfl, rfl⟩ | with_reducible exact fun x => absurd x Bool.false_ne_true | with_reducible exact KV.set_wf _ _ _ | with_reducible exact KV.put_wf _ _ | with_reducible exact KV.filter_wf _ | with_reducible exact List.prefix_rfl | with_reducible exact List.prefix_append _ _ | with_reducible exact KV.map_wf (fun _ => rfl) | with_reducible exact fun _ => KV.foldl_set_wf _ _ _ rfl | (simp; done) | skip) | with_reducible apply Keeps.ite | with_reducible apply Keeps.ite1 | (with_reducible apply Keeps.foldl; intro s₁ x₁; have h₁ : Keeps m₀ s₁ s₁ := Keeps.refl s₁; try dsimp +zetaDelta only) | (with_reducible apply Keeps.foldl1; intro s₁ x₁; have h₁ : Keeps m₀ s₁.1 s₁.1 := Keeps.refl s₁.1; try dsimp +zetaDelta only) | extract_lets | split | dsimp +zetaDelta only)

theorem keeps_lookupUntracked {m₀ : Bool} {a₀ s₀ : State} (h₀ : Keeps m₀ a₀ s₀) {t : Nat} {f : Nat} {x : Folio} :
    Keeps m₀ a₀ (lookupUntracked s₀ t f x) := by
  unfold lookupUntracked
  try extract_lets
  repeat' (first | with_reducible assumption | with_reducible apply keeps_State_modFolio | with_reducible apply keeps_State_note | with_reducible apply keeps_cancelRead | with_reducible apply keeps_complete | with_reducible apply keeps_finish | (fail_if_no_progress (with_reducible apply Keeps.upd) <;> first | with_reducible rfl | with_reducible exact fun x => x | with_reducible exact fun _ => ⟨rfl, rfl, rfl, rfl⟩ | with_reducible exact fun x => absurd x Bool.false_ne_true | with_reducible exact KV.set_wf _ _ _ | with_reducible exact KV.put_wf _ _ | with_reducible exact KV.filter_wf _ | with_reducible exact List.prefix_rfl | with_reducible exact List.prefix_append _ _ | with_reducible exact KV.map_wf (fun _ => rfl) | with_reducible exact fun _ => KV.foldl_set_wf _ _ _ rfl | (simp; done) | skip) | with_reducible apply Keeps.ite | with_reducible apply Keeps.ite1 | (with_reducible apply Keeps.foldl; intro s₁ x₁; have h₁ : Keeps m₀ s₁ s₁ := Keeps.refl s₁; try dsimp +zetaDelta only) | (with_reducible apply Keeps.foldl1; intro s₁ x₁; have h₁ : Keeps m₀ s₁.1 s₁.1 := Keeps.refl s₁.1; try dsimp +zetaDelta only) | extract_lets | split | dsimp +zetaDelta only)

theorem keeps_promote {m₀ : Bool} {a₀ s₀ : State} (h₀ : Keeps m₀ a₀ s₀) {t : Nat} {f : Nat} {e : Ent} {fromCellar : Bool} :
    Keeps m₀ a₀ (promote s₀ t f e fromCellar) := by
  unfold promote
  try extract_lets
  repeat' (first | with_reducible assumption | with_reducible refine keeps_findRoom_eq (by assumption) ?_ | with_reducible apply keeps_State_bump | with_reducible apply keeps_State_modFolio | with_reducible apply keeps_State_modTill | with_reducible apply keeps_State_tev | with_reducible apply keeps_decide' | with_reducible apply keeps_findRoom | (fail_if_no_progress (with_reducible apply Keeps.upd) <;> first | with_reducible rfl | with_reducible exact fun x => x | with_reducible exact fun _ => ⟨rfl, rfl, rfl, rfl⟩ | with_reducible exact fun x => absurd x Bool.false_ne_true | with_reducible exact KV.set_wf _ _ _ | with_reducible exact KV.put_wf _ _ | with_reducible exact KV.filter_wf _ | with_reducible exact List.prefix_rfl | with_reducible exact List.prefix_append _ _ | with_reducible exact KV.map_wf (fun _ => rfl) | with_reducible exact fun _ => KV.foldl_set_wf _ _ _ rfl | (simp; done) | skip) | with_reducible apply Keeps.ite | with_reducible apply Keeps.ite1 | (with_reducible apply Keeps.foldl; intro s₁ x₁; have h₁ : Keeps m₀ s₁ s₁ := Keeps.refl s₁; try dsimp +zetaDelta only) | (with_reducible apply Keeps.foldl1; intro s₁ x₁; have h₁ : Keeps m₀ s₁.1 s₁.1 := Keeps.refl s₁.1; try dsimp +zetaDelta only) | extract_lets | split | dsimp +zetaDelta only)

theorem keeps_lookup {m₀ : Bool} {a₀ s₀ : State} (h₀ : Keeps m₀ a₀ s₀) {t : Nat} {f : Nat} :
    Keeps m₀ a₀ (lookup s₀ t f) := by
  unfold lookup
  try extract_lets
  repeat' (first | with_reducible assumption | with_reducible apply keeps_State_modFolio | with_reducible apply keeps_State_modOp | with_reducible apply keeps_State_modTill | with_reducible apply keeps_State_tev | with_reducible apply keeps_absent | with_reducible apply keeps_decide' | with_reducible apply keeps_decideFresh | with_reducible apply keeps_lookupUntracked | with_reducible apply keeps_promote | with_reducible apply keeps_readGroup | with_reducible apply keeps_readLine | (fail_if_no_progress (with_reducible apply Keeps.upd) <;> first | with_reducible rfl | with_reducible exact fun x => x | with_reducible exact fun _ => ⟨rfl, rfl, rfl, rfl⟩ | with_reducible exact fun x => absurd x Bool.false_ne_true | with_reducible exact KV.set_wf _ _ _ | with_reducible exact KV.put_wf _ _ | with_reducible exact KV.filter_wf _ | with_reducible exact List.prefix_rfl | with_reducible exact List.prefix_append _ _ | with_reducible exact KV.map_wf (fun _ => rfl) | with_reducible exact fun _ => KV.foldl_set_wf _ _ _ rfl | (simp; done) | skip) | with_reducible apply Keeps.ite | with_reducible apply Keeps.ite1 | (with_reducible apply Keeps.foldl; intro s₁ x₁; have h₁ : Keeps m₀ s₁ s₁ := Keeps.refl s₁; try dsimp +zetaDelta only) | (with_reducible apply Keeps.foldl1; intro s₁ x₁; have h₁ : Keeps m₀ s₁.1 s₁.1 := Keeps.refl s₁.1; try dsimp +zetaDelta only) | extract_lets | split | dsimp +zetaDelta only)

theorem keeps_foldInto {m₀ : Bool} {a₀ s₀ : State} (h₀ : Keeps m₀ a₀ s₀) {t : Nat} {l : Sys2Proof.Line} {a : Sys2Proof.Aid} {d : WData} :
    Keeps m₀ a₀ (foldInto s₀ t l a d) := by
  unfold foldInto
  try extract_lets
  repeat' (first | with_reducible assumption | with_reducible apply keeps_State_bump | with_reducible apply keeps_State_modFolio | with_reducible apply keeps_cancelRead | with_reducible apply keeps_finish | with_reducible apply keeps_lookup | (fail_if_no_progress (with_reducible apply Keeps.upd) <;> first | with_reducible rfl | with_reducible exact fun x => x | with_reducible exact fun _ => ⟨rfl, rfl, rfl, rfl⟩ | with_reducible exact fun x => absurd x Bool.false_ne_true | with_reducible exact KV.set_wf _ _ _ | with_reducible exact KV.put_wf _ _ | with_reducible exact KV.filter_wf _ | with_reducible exact List.prefix_rfl | with_reducible exact List.prefix_append _ _ | with_reducible exact KV.map_wf (fun _ => rfl) | with_reducible exact fun _ => KV.foldl_set_wf _ _ _ rfl | (simp; done) | skip) | with_reducible apply Keeps.ite | with_reducible apply Keeps.ite1 | (with_reducible apply Keeps.foldl; intro s₁ x₁; have h₁ : Keeps m₀ s₁ s₁ := Keeps.refl s₁; try dsimp +zetaDelta only) | (with_reducible apply Keeps.foldl1; intro s₁ x₁; have h₁ : Keeps m₀ s₁.1 s₁.1 := Keeps.refl s₁.1; try dsimp +zetaDelta only) | extract_lets | split | dsimp +zetaDelta only)

theorem keeps_foldWb {m₀ : Bool} {a₀ s₀ : State} (h₀ : Keeps m₀ a₀ s₀) {t : Nat} {f : Nat} {x : Folio} {d : WData} {owner : Bool} :
    Keeps m₀ a₀ (foldWb s₀ t f x d owner) := by
  unfold foldWb
  try extract_lets
  repeat' (first | with_reducible assumption | with_reducible apply keeps_State_modFolio | with_reducible apply keeps_State_modTill | with_reducible apply keeps_State_tev | with_reducible apply keeps_clearOthers | with_reducible apply keeps_foldInto | with_reducible apply keeps_nbDone | with_reducible apply keeps_writeLine | (fail_if_no_progress (with_reducible apply Keeps.upd) <;> first | with_reducible rfl | with_reducible exact fun x => x | with_reducible exact fun _ => ⟨rfl, rfl, rfl, rfl⟩ | with_reducible exact fun x => absurd x Bool.false_ne_true | with_reducible exact KV.set_wf _ _ _ | with_reducible exact KV.put_wf _ _ | with_reducible exact KV.filter_wf _ | with_reducible exact List.prefix_rfl | with_reducible exact List.prefix_append _ _ | with_reducible exact KV.map_wf (fun _ => rfl) | with_reducible exact fun _ => KV.foldl_set_wf _ _ _ rfl | (simp; done) | skip) | with_reducible apply Keeps.ite | with_reducible apply Keeps.ite1 | (with_reducible apply Keeps.foldl; intro s₁ x₁; have h₁ : Keeps m₀ s₁ s₁ := Keeps.refl s₁; try dsimp +zetaDelta only) | (with_reducible apply Keeps.foldl1; intro s₁ x₁; have h₁ : Keeps m₀ s₁.1 s₁.1 := Keeps.refl s₁.1; try dsimp +zetaDelta only) | extract_lets | split | dsimp +zetaDelta only)

theorem keeps_holderAccess {m₀ : Bool} {a₀ s₀ : State} (h₀ : Keeps m₀ a₀ s₀) {t : Nat} {f : Nat} {x : Folio} {c : Claim} :
    Keeps m₀ a₀ (holderAccess s₀ t f x c) := by
  unfold holderAccess
  try extract_lets
  repeat' (first | with_reducible assumption | with_reducible apply keeps_State_bump | with_reducible apply keeps_State_modFolio | with_reducible apply keeps_clearOwn | with_reducible apply keeps_complete | with_reducible apply keeps_finish | (fail_if_no_progress (with_reducible apply Keeps.upd) <;> first | with_reducible rfl | with_reducible exact fun x => x | with_reducible exact fun _ => ⟨rfl, rfl, rfl, rfl⟩ | with_reducible exact fun x => absurd x Bool.false_ne_true | with_reducible exact KV.set_wf _ _ _ | with_reducible exact KV.put_wf _ _ | with_reducible exact KV.filter_wf _ | with_reducible exact List.prefix_rfl | with_reducible exact List.prefix_append _ _ | with_reducible exact KV.map_wf (fun _ => rfl) | with_reducible exact fun _ => KV.foldl_set_wf _ _ _ rfl | (simp; done) | skip) | with_reducible apply Keeps.ite | with_reducible apply Keeps.ite1 | (with_reducible apply Keeps.foldl; intro s₁ x₁; have h₁ : Keeps m₀ s₁ s₁ := Keeps.refl s₁; try dsimp +zetaDelta only) | (with_reducible apply Keeps.foldl1; intro s₁ x₁; have h₁ : Keeps m₀ s₁.1 s₁.1 := Keeps.refl s₁.1; try dsimp +zetaDelta only) | extract_lets | split | dsimp +zetaDelta only)

theorem keeps_State_modClaim {m₀ : Bool} {a₀ s₀ : State} (h₀ : Keeps m₀ a₀ s₀) {t : Nat} {i : Nat} {g : Claim → Claim} :
    Keeps m₀ a₀ (State.modClaim s₀ t i g) := by
  unfold State.modClaim
  try extract_lets
  repeat' (first | with_reducible assumption | with_reducible apply keeps_State_modTill | (fail_if_no_progress (with_reducible apply Keeps.upd) <;> first | with_reducible rfl | with_reducible exact fun x => x | with_reducible exact fun _ => ⟨rfl, rfl, rfl, rfl⟩ | with_reducible exact fun x => absurd x Bool.false_ne_true | with_reducible exact KV.set_wf _ _ _ | with_reducible exact KV.put_wf _ _ | with_reducible exact KV.filter_wf _ | with_reducible exact List.prefix_rfl | with_reducible exact List.prefix_append _ _ | with_reducible exact KV.map_wf (fun _ => rfl) | with_reducible exact fun _ => KV.foldl_set_wf _ _ _ rfl | (simp; done) | skip) | with_reducible apply Keeps.ite | with_reducible apply Keeps.ite1 | (with_reducible apply Keeps.foldl; intro s₁ x₁; have h₁ : Keeps m₀ s₁ s₁ := Keeps.refl s₁; try dsimp +zetaDelta only) | (with_reducible apply Keeps.foldl1; intro s₁ x₁; have h₁ : Keeps m₀ s₁.1 s₁.1 := Keeps.refl s₁.1; try dsimp +zetaDelta only) | extract_lets | split | dsimp +zetaDelta only)

theorem keeps_deleteRecord {m₀ : Bool} {a₀ s₀ : State} (h₀ : Keeps m₀ a₀ s₀) {t : Nat} {i : Nat} {c : Claim} :
    Keeps m₀ a₀ (deleteRecord s₀ t i c) := by
  unfold deleteRecord
  try extract_lets
  repeat' (first | with_reducible assumption | with_reducible apply keeps_State_modTill | with_reducible apply keeps_State_note | (fail_if_no_progress (with_reducible apply Keeps.upd) <;> first | with_reducible rfl | with_reducible exact fun x => x | with_reducible exact fun _ => ⟨rfl, rfl, rfl, rfl⟩ | with_reducible exact fun x => absurd x Bool.false_ne_true | with_reducible exact KV.set_wf _ _ _ | with_reducible exact KV.put_wf _ _ | with_reducible exact KV.filter_wf _ | with_reducible exact List.prefix_rfl | with_reducible exact List.prefix_append _ _ | with_reducible exact KV.map_wf (fun _ => rfl) | with_reducible exact fun _ => KV.foldl_set_wf _ _ _ rfl | (simp; done) | skip) | with_reducible apply Keeps.ite | with_reducible apply Keeps.ite1 | (with_reducible apply Keeps.foldl; intro s₁ x₁; have h₁ : Keeps m₀ s₁ s₁ := Keeps.refl s₁; try dsimp +zetaDelta only) | (with_reducible apply Keeps.foldl1; intro s₁ x₁; have h₁ : Keeps m₀ s₁.1 s₁.1 := Keeps.refl s₁.1; try dsimp +zetaDelta only) | extract_lets | split | dsimp +zetaDelta only)

theorem keeps_countReleased {m₀ : Bool} {a₀ s₀ : State} (h₀ : Keeps m₀ a₀ s₀) {t : Nat} {i : Nat} {c : Claim} {a : Sys2Proof.Aid} :
    Keeps m₀ a₀ (countReleased s₀ t i c a) := by
  unfold countReleased
  try extract_lets
  repeat' (first | with_reducible assumption | with_reducible apply keeps_State_modClaim | with_reducible apply keeps_deleteRecord | (fail_if_no_progress (with_reducible apply Keeps.upd) <;> first | with_reducible rfl | with_reducible exact fun x => x | with_reducible exact fun _ => ⟨rfl, rfl, rfl, rfl⟩ | with_reducible exact fun x => absurd x Bool.false_ne_true | with_reducible exact KV.set_wf _ _ _ | with_reducible exact KV.put_wf _ _ | with_reducible exact KV.filter_wf _ | with_reducible exact List.prefix_rfl | with_reducible exact List.prefix_append _ _ | with_reducible exact KV.map_wf (fun _ => rfl) | with_reducible exact fun _ => KV.foldl_set_wf _ _ _ rfl | (simp; done) | skip) | with_reducible apply Keeps.ite | with_reducible apply Keeps.ite1 | (with_reducible apply Keeps.foldl; intro s₁ x₁; have h₁ : Keeps m₀ s₁ s₁ := Keeps.refl s₁; try dsimp +zetaDelta only) | (with_reducible apply Keeps.foldl1; intro s₁ x₁; have h₁ : Keeps m₀ s₁.1 s₁.1 := Keeps.refl s₁.1; try dsimp +zetaDelta only) | extract_lets | split | dsimp +zetaDelta only)

theorem keeps_startRelease {m₀ : Bool} {a₀ s₀ : State} (h₀ : Keeps m₀ a₀ s₀) {t : Nat} {r : Rel} :
    Keeps m₀ a₀ (startRelease s₀ t r) := by
  unfold startRelease
  try extract_lets
  repeat' (first | with_reducible assumption | with_reducible refine keeps_takeInternal_eq (by assumption) ?_ | with_reducible apply keeps_State_modTill | with_reducible apply keeps_startGroup | with_reducible apply keeps_takeInternal | (fail_if_no_progress (with_reducible apply Keeps.upd) <;> first | with_reducible rfl | with_reducible exact fun x => x | with_reducible exact fun _ => ⟨rfl, rfl, rfl, rfl⟩ | with_reducible exact fun x => absurd x Bool.false_ne_true | with_reducible exact KV.set_wf _ _ _ | with_reducible exact KV.put_wf _ _ | with_reducible exact KV.filter_wf _ | with_reducible exact List.prefix_rfl | with_reducible exact List.prefix_append _ _ | with_reducible exact KV.map_wf (fun _ => rfl) | with_reducible exact fun _ => KV.foldl_set_wf _ _ _ rfl | (simp; done) | skip) | with_reducible apply Keeps.ite | with_reducible apply Keeps.ite1 | (with_reducible apply Keeps.foldl; intro s₁ x₁; have h₁ : Keeps m₀ s₁ s₁ := Keeps.refl s₁; try dsimp +zetaDelta only) | (with_reducible apply Keeps.foldl1; intro s₁ x₁; have h₁ : Keeps m₀ s₁.1 s₁.1 := Keeps.refl s₁.1; try dsimp +zetaDelta only) | extract_lets | split | dsimp +zetaDelta only)

theorem keeps_dropClaimant {m₀ : Bool} {a₀ s₀ : State} (h₀ : Keeps m₀ a₀ s₀) {t : Nat} {i : Nat} {c : Claim} {a : Sys2Proof.Aid} {folio : Option Nat} {ok : Bool} :
    Keeps m₀ a₀ (dropClaimant s₀ t i c a folio ok) := by
  unfold dropClaimant
  try extract_lets
  repeat' (first | with_reducible assumption | with_reducible apply keeps_State_modClaim | with_reducible apply keeps_startRelease | (fail_if_no_progress (with_reducible apply Keeps.upd) <;> first | with_reducible rfl | with_reducible exact fun x => x | with_reducible exact fun _ => ⟨rfl, rfl, rfl, rfl⟩ | with_reducible exact fun x => absurd x Bool.false_ne_true | with_reducible exact KV.set_wf _ _ _ | with_reducible exact KV.put_wf _ _ | with_reducible exact KV.filter_wf _ | with_reducible exact List.prefix_rfl | with_reducible exact List.prefix_append _ _ | with_reducible exact KV.map_wf (fun _ => rfl) | with_reducible exact fun _ => KV.foldl_set_wf _ _ _ rfl | (simp; done) | skip) | with_reducible apply Keeps.ite | with_reducible apply Keeps.ite1 | (with_reducible apply Keeps.foldl; intro s₁ x₁; have h₁ : Keeps m₀ s₁ s₁ := Keeps.refl s₁; try dsimp +zetaDelta only) | (with_reducible apply Keeps.foldl1; intro s₁ x₁; have h₁ : Keeps m₀ s₁.1 s₁.1 := Keeps.refl s₁.1; try dsimp +zetaDelta only) | extract_lets | split | dsimp +zetaDelta only)

theorem keeps_releaseAccess {m₀ : Bool} {a₀ s₀ : State} (h₀ : Keeps m₀ a₀ s₀) {t : Nat} {f : Nat} {x : Folio} :
    Keeps m₀ a₀ (releaseAccess s₀ t f x) := by
  unfold releaseAccess
  try extract_lets
  repeat' (first | with_reducible assumption | with_reducible apply keeps_State_modFolio | with_reducible apply keeps_complete | with_reducible apply keeps_countReleased | with_reducible apply keeps_dropClaimant | (fail_if_no_progress (with_reducible apply Keeps.upd) <;> first | with_reducible rfl | with_reducible exact fun x => x | with_reducible exact fun _ => ⟨rfl, rfl, rfl, rfl⟩ | with_reducible exact fun x => absurd x Bool.false_ne_true | with_reducible exact KV.set_wf _ _ _ | with_reducible exact KV.put_wf _ _ | with_reducible exact KV.filter_wf _ | with_reducible exact List.prefix_rfl | with_reducible exact List.prefix_append _ _ | with_reducible exact KV.map_wf (fun _ => rfl) | with_reducible exact fun _ => KV.foldl_set_wf _ _ _ rfl | (simp; done) | skip) | with_reducible apply Keeps.ite | with_reducible apply Keeps.ite1 | (with_reducible apply Keeps.foldl; intro s₁ x₁; have h₁ : Keeps m₀ s₁ s₁ := Keeps.refl s₁; try dsimp +zetaDelta only) | (with_reducible apply Keeps.foldl1; intro s₁ x₁; have h₁ : Keeps m₀ s₁.1 s₁.1 := Keeps.refl s₁.1; try dsimp +zetaDelta only) | extract_lets | split | dsimp +zetaDelta only)

theorem keeps_place' {m₀ : Bool} {a₀ s₀ : State} (h₀ : Keeps m₀ a₀ s₀) {t : Nat} {f : Nat} {x : Folio} :
    Keeps m₀ a₀ (place' s₀ t f x) := by
  unfold place'
  try extract_lets
  repeat' (first | with_reducible assumption | with_reducible apply keeps_State_bump | with_reducible apply keeps_State_modFolio | with_reducible apply keeps_chainIn | with_reducible apply keeps_complete | with_reducible apply keeps_foldDrop | with_reducible apply keeps_foldWb | with_reducible apply keeps_holderAccess | with_reducible apply keeps_nbDone | with_reducible apply keeps_releaseAccess | (fail_if_no_progress (with_reducible apply Keeps.upd) <;> first | with_reducible rfl | with_reducible exact fun x => x | with_reducible exact fun _ => ⟨rfl, rfl, rfl, rfl⟩ | with_reducible exact fun x => absurd x Bool.false_ne_true | with_reducible exact KV.set_wf _ _ _ | with_reducible exact KV.put_wf _ _ | with_reducible exact KV.filter_wf _ | with_reducible exact List.prefix_rfl | with_reducible exact List.prefix_append _ _ | with_reducible exact KV.map_wf (fun _ => rfl) | with_reducible exact fun _ => KV.foldl_set_wf _ _ _ rfl | (simp; done) | skip) | with_reducible apply Keeps.ite | with_reducible apply Keeps.ite1 | (with_reducible apply Keeps.foldl; intro s₁ x₁; have h₁ : Keeps m₀ s₁ s₁ := Keeps.refl s₁; try dsimp +zetaDelta only) | (with_reducible apply Keeps.foldl1; intro s₁ x₁; have h₁ : Keeps m₀ s₁.1 s₁.1 := Keeps.refl s₁.1; try dsimp +zetaDelta only) | extract_lets | split | dsimp +zetaDelta only)

theorem keeps_placeDeferred {m₀ : Bool} {a₀ s₀ : State} (h₀ : Keeps m₀ a₀ s₀) {t : Nat} :
    Keeps m₀ a₀ (placeDeferred s₀ t) := by
  unfold placeDeferred
  try extract_lets
  repeat' (first | with_reducible assumption | with_reducible apply keeps_State_modFolio | with_reducible apply keeps_State_modTill | with_reducible apply keeps_dropFolio | with_reducible apply keeps_place' | (fail_if_no_progress (with_reducible apply Keeps.upd) <;> first | with_reducible rfl | with_reducible exact fun x => x | with_reducible exact fun _ => ⟨rfl, rfl, rfl, rfl⟩ | with_reducible exact fun x => absurd x Bool.false_ne_true | with_reducible exact KV.set_wf _ _ _ | with_reducible exact KV.put_wf _ _ | with_reducible exact KV.filter_wf _ | with_reducible exact List.prefix_rfl | with_reducible exact List.prefix_append _ _ | with_reducible exact KV.map_wf (fun _ => rfl) | with_reducible exact fun _ => KV.foldl_set_wf _ _ _ rfl | (simp; done) | skip) | with_reducible apply Keeps.ite | with_reducible apply Keeps.ite1 | (with_reducible apply Keeps.foldl; intro s₁ x₁; have h₁ : Keeps m₀ s₁ s₁ := Keeps.refl s₁; try dsimp +zetaDelta only) | (with_reducible apply Keeps.foldl1; intro s₁ x₁; have h₁ : Keeps m₀ s₁.1 s₁.1 := Keeps.refl s₁.1; try dsimp +zetaDelta only) | extract_lets | split | dsimp +zetaDelta only)

theorem keeps_State_modWicket {m₀ : Bool} {a₀ s₀ : State} (h₀ : Keeps m₀ a₀ s₀) {w : Nat} {f : Wicket → Wicket} :
    Keeps m₀ a₀ (State.modWicket s₀ w f) := by
  unfold State.modWicket
  try extract_lets
  repeat' (first | with_reducible assumption | (fail_if_no_progress (with_reducible apply Keeps.upd) <;> first | with_reducible rfl | with_reducible exact fun x => x | with_reducible exact fun _ => ⟨rfl, rfl, rfl, rfl⟩ | with_reducible exact fun x => absurd x Bool.false_ne_true | with_reducible exact KV.set_wf _ _ _ | with_reducible exact KV.put_wf _ _ | with_reducible exact KV.filter_wf _ | with_reducible exact List.prefix_rfl | with_reducible exact List.prefix_append _ _ | with_reducible exact KV.map_wf (fun _ => rfl) | with_reducible exact fun _ => KV.foldl_set_wf _ _ _ rfl | (simp; done) | skip) | with_reducible apply Keeps.ite | with_reducible apply Keeps.ite1 | (with_reducible apply Keeps.foldl; intro s₁ x₁; have h₁ : Keeps m₀ s₁ s₁ := Keeps.refl s₁; try dsimp +zetaDelta only) | (with_reducible apply Keeps.foldl1; intro s₁ x₁; have h₁ : Keeps m₀ s₁.1 s₁.1 := Keeps.refl s₁.1; try dsimp +zetaDelta only) | extract_lets | split | dsimp +zetaDelta only)

theorem keeps_State_setAgent {m₀ : Bool} {a₀ s₀ : State} (h₀ : Keeps m₀ a₀ s₀) {n : Nat} {a : Agent} :
    Keeps m₀ a₀ (State.setAgent s₀ n a) := by
  unfold State.setAgent
  try extract_lets
  repeat' (first | with_reducible assumption | (fail_if_no_progress (with_reducible apply Keeps.upd) <;> first | with_reducible rfl | with_reducible exact fun x => x | with_reducible exact fun _ => ⟨rfl, rfl, rfl, rfl⟩ | with_reducible exact fun x => absurd x Bool.false_ne_true | with_reducible exact KV.set_wf _ _ _ | with_reducible exact KV.put_wf _ _ | with_reducible exact KV.filter_wf _ | with_reducible exact List.prefix_rfl | with_reducible exact List.prefix_append _ _ | with_reducible exact KV.map_wf (fun _ => rfl) | with_reducible exact fun _ => KV.foldl_set_wf _ _ _ rfl | (simp; done) | skip) | with_reducible apply Keeps.ite | with_reducible apply Keeps.ite1 | (with_reducible apply Keeps.foldl; intro s₁ x₁; have h₁ : Keeps m₀ s₁ s₁ := Keeps.refl s₁; try dsimp +zetaDelta only) | (with_reducible apply Keeps.foldl1; intro s₁ x₁; have h₁ : Keeps m₀ s₁.1 s₁.1 := Keeps.refl s₁.1; try dsimp +zetaDelta only) | extract_lets | split | dsimp +zetaDelta only)

theorem keeps_State_sendW {m₀ : Bool} {a₀ s₀ : State} (h₀ : Keeps m₀ a₀ s₀) {w : Nat} {t : Nat} {m : WMsg} :
    Keeps m₀ a₀ (State.sendW s₀ w t m) := by
  unfold State.sendW
  try extract_lets
  repeat' (first | with_reducible assumption | with_reducible apply keeps_State_packet | (fail_if_no_progress (with_reducible apply Keeps.upd) <;> first | with_reducible rfl | with_reducible exact fun x => x | with_reducible exact fun _ => ⟨rfl, rfl, rfl, rfl⟩ | with_reducible exact fun x => absurd x Bool.false_ne_true | with_reducible exact KV.set_wf _ _ _ | with_reducible exact KV.put_wf _ _ | with_reducible exact KV.filter_wf _ | with_reducible exact List.prefix_rfl | with_reducible exact List.prefix_append _ _ | with_reducible exact KV.map_wf (fun _ => rfl) | with_reducible exact fun _ => KV.foldl_set_wf _ _ _ rfl | (simp; done) | skip) | with_reducible apply Keeps.ite | with_reducible apply Keeps.ite1 | (with_reducible apply Keeps.foldl; intro s₁ x₁; have h₁ : Keeps m₀ s₁ s₁ := Keeps.refl s₁; try dsimp +zetaDelta only) | (with_reducible apply Keeps.foldl1; intro s₁ x₁; have h₁ : Keeps m₀ s₁.1 s₁.1 := Keeps.refl s₁.1; try dsimp +zetaDelta only) | extract_lets | split | dsimp +zetaDelta only)

theorem keeps_forecloseSnoop {m₀ : Bool} {a₀ s₀ : State} (h₀ : Keeps m₀ a₀ s₀) {w : Nat} {t : Nat} {f : Nat} {a : Sys2Proof.Aid} {l : Sys2Proof.Line} {lines : List Nat} :
    Keeps m₀ a₀ (forecloseSnoop s₀ w t f a l lines) := by
  unfold forecloseSnoop
  try extract_lets
  repeat' (first | with_reducible assumption | with_reducible apply keeps_State_sendW | (fail_if_no_progress (with_reducible apply Keeps.upd) <;> first | with_reducible rfl | with_reducible exact fun x => x | with_reducible exact fun _ => ⟨rfl, rfl, rfl, rfl⟩ | with_reducible exact fun x => absurd x Bool.false_ne_true | with_reducible exact KV.set_wf _ _ _ | with_reducible exact KV.put_wf _ _ | with_reducible exact KV.filter_wf _ | with_reducible exact List.prefix_rfl | with_reducible exact List.prefix_append _ _ | with_reducible exact KV.map_wf (fun _ => rfl) | with_reducible exact fun _ => KV.foldl_set_wf _ _ _ rfl | (simp; done) | skip) | with_reducible apply Keeps.ite | with_reducible apply Keeps.ite1 | (with_reducible apply Keeps.foldl; intro s₁ x₁; have h₁ : Keeps m₀ s₁ s₁ := Keeps.refl s₁; try dsimp +zetaDelta only) | (with_reducible apply Keeps.foldl1; intro s₁ x₁; have h₁ : Keeps m₀ s₁.1 s₁.1 := Keeps.refl s₁.1; try dsimp +zetaDelta only) | extract_lets | split | dsimp +zetaDelta only)

theorem keeps_takeSids {m₀ : Bool} {a₀ s₀ : State} (h₀ : Keeps m₀ a₀ s₀) {x0 : Nat} {x2 : Nat} :
    Keeps m₀ a₀ (takeSids x0 s₀ x2) := by
  induction x0 generalizing s₀ with
  | zero => exact h₀
  | succ n ih =>
    unfold takeSids
    split
    · extract_lets
      apply ih
      repeat' (first | with_reducible assumption | with_reducible apply keeps_State_send | with_reducible apply keeps_State_modWicket | with_reducible apply Keeps.ite)
    · exact h₀

theorem keeps_answerSnoops {m₀ : Bool} {a₀ s₀ : State} (h₀ : Keeps m₀ a₀ s₀) {w : Nat} {a : Sys2Proof.Aid} :
    Keeps m₀ a₀ (answerSnoops s₀ w a) := by
  unfold answerSnoops
  try extract_lets
  repeat' (first | with_reducible assumption | with_reducible apply keeps_State_modWicket | with_reducible apply keeps_forecloseSnoop | with_reducible apply keeps_takeSids | (fail_if_no_progress (with_reducible apply Keeps.upd) <;> first | with_reducible rfl | with_reducible exact fun x => x | with_reducible exact fun _ => ⟨rfl, rfl, rfl, rfl⟩ | with_reducible exact fun x => absurd x Bool.false_ne_true | with_reducible exact KV.set_wf _ _ _ | with_reducible exact KV.put_wf _ _ | with_reducible exact KV.filter_wf _ | with_reducible exact List.prefix_rfl | with_reducible exact List.prefix_append _ _ | with_reducible exact KV.map_wf (fun _ => rfl) | with_reducible exact fun _ => KV.foldl_set_wf _ _ _ rfl | (simp; done) | skip) | with_reducible apply Keeps.ite | with_reducible apply Keeps.ite1 | (with_reducible apply Keeps.foldl; intro s₁ x₁; have h₁ : Keeps m₀ s₁ s₁ := Keeps.refl s₁; try dsimp +zetaDelta only) | (with_reducible apply Keeps.foldl1; intro s₁ x₁; have h₁ : Keeps m₀ s₁.1 s₁.1 := Keeps.refl s₁.1; try dsimp +zetaDelta only) | extract_lets | split | dsimp +zetaDelta only)

theorem keeps_disposeFolio {m₀ : Bool} {a₀ s₀ : State} (h₀ : Keeps m₀ a₀ s₀) {t : Nat} {f : Nat} :
    Keeps m₀ a₀ (disposeFolio s₀ t f) := by
  unfold disposeFolio
  try extract_lets
  repeat' (first | with_reducible assumption | with_reducible apply keeps_State_modFolio | with_reducible apply keeps_dropFolio | (fail_if_no_progress (with_reducible apply Keeps.upd) <;> first | with_reducible rfl | with_reducible exact fun x => x | with_reducible exact fun _ => ⟨rfl, rfl, rfl, rfl⟩ | with_reducible exact fun x => absurd x Bool.false_ne_true | with_reducible exact KV.set_wf _ _ _ | with_reducible exact KV.put_wf _ _ | with_reducible exact KV.filter_wf _ | with_reducible exact List.prefix_rfl | with_reducible exact List.prefix_append _ _ | with_reducible exact KV.map_wf (fun _ => rfl) | with_reducible exact fun _ => KV.foldl_set_wf _ _ _ rfl | (simp; done) | skip) | with_reducible apply Keeps.ite | with_reducible apply Keeps.ite1 | (with_reducible apply Keeps.foldl; intro s₁ x₁; have h₁ : Keeps m₀ s₁ s₁ := Keeps.refl s₁; try dsimp +zetaDelta only) | (with_reducible apply Keeps.foldl1; intro s₁ x₁; have h₁ : Keeps m₀ s₁.1 s₁.1 := Keeps.refl s₁.1; try dsimp +zetaDelta only) | extract_lets | split | dsimp +zetaDelta only)

theorem keeps_State_modGather {m₀ : Bool} {a₀ s₀ : State} (h₀ : Keeps m₀ a₀ s₀) {t : Nat} {c : Nat} {g : Gather → Gather} :
    Keeps m₀ a₀ (State.modGather s₀ t c g) := by
  unfold State.modGather
  try extract_lets
  repeat' (first | with_reducible assumption | with_reducible apply keeps_State_modTill | (fail_if_no_progress (with_reducible apply Keeps.upd) <;> first | with_reducible rfl | with_reducible exact fun x => x | with_reducible exact fun _ => ⟨rfl, rfl, rfl, rfl⟩ | with_reducible exact fun x => absurd x Bool.false_ne_true | with_reducible exact KV.set_wf _ _ _ | with_reducible exact KV.put_wf _ _ | with_reducible exact KV.filter_wf _ | with_reducible exact List.prefix_rfl | with_reducible exact List.prefix_append _ _ | with_reducible exact KV.map_wf (fun _ => rfl) | with_reducible exact fun _ => KV.foldl_set_wf _ _ _ rfl | (simp; done) | skip) | with_reducible apply Keeps.ite | with_reducible apply Keeps.ite1 | (with_reducible apply Keeps.foldl; intro s₁ x₁; have h₁ : Keeps m₀ s₁ s₁ := Keeps.refl s₁; try dsimp +zetaDelta only) | (with_reducible apply Keeps.foldl1; intro s₁ x₁; have h₁ : Keeps m₀ s₁.1 s₁.1 := Keeps.refl s₁.1; try dsimp +zetaDelta only) | extract_lets | split | dsimp +zetaDelta only)

theorem keeps_failEnd {m₀ : Bool} {a₀ s₀ : State} (h₀ : Keeps m₀ a₀ s₀) {t : Nat} {c : Nat} :
    Keeps m₀ a₀ (failEnd s₀ t c) := by
  unfold failEnd
  try extract_lets
  repeat' (first | with_reducible assumption | with_reducible apply keeps_State_modClaim | with_reducible apply keeps_State_modTill | with_reducible apply keeps_complete | with_reducible apply keeps_startRelease | (fail_if_no_progress (with_reducible apply Keeps.upd) <;> first | with_reducible rfl | with_reducible exact fun x => x | with_reducible exact fun _ => ⟨rfl, rfl, rfl, rfl⟩ | with_reducible exact fun x => absurd x Bool.false_ne_true | with_reducible exact KV.set_wf _ _ _ | with_reducible exact KV.put_wf _ _ | with_reducible exact KV.filter_wf _ | with_reducible exact List.prefix_rfl | with_reducible exact List.prefix_append _ _ | with_reducible exact KV.map_wf (fun _ => rfl) | with_reducible exact fun _ => KV.foldl_set_wf _ _ _ rfl | (simp; done) | skip) | with_reducible apply Keeps.ite | with_reducible apply Keeps.ite1 | (with_reducible apply Keeps.foldl; intro s₁ x₁; have h₁ : Keeps m₀ s₁ s₁ := Keeps.refl s₁; try dsimp +zetaDelta only) | (with_reducible apply Keeps.foldl1; intro s₁ x₁; have h₁ : Keeps m₀ s₁.1 s₁.1 := Keeps.refl s₁.1; try dsimp +zetaDelta only) | extract_lets | split | dsimp +zetaDelta only)

theorem keeps_opEnd {m₀ : Bool} {a₀ s₀ : State} (h₀ : Keeps m₀ a₀ s₀) {t : Nat} {k : Nat} :
    Keeps m₀ a₀ (opEnd s₀ t k) := by
  unfold opEnd
  try extract_lets
  repeat' (first | with_reducible assumption | with_reducible apply keeps_opClose | with_reducible apply keeps_opHandOn | (fail_if_no_progress (with_reducible apply Keeps.upd) <;> first | with_reducible rfl | with_reducible exact fun x => x | with_reducible exact fun _ => ⟨rfl, rfl, rfl, rfl⟩ | with_reducible exact fun x => absurd x Bool.false_ne_true | with_reducible exact KV.set_wf _ _ _ | with_reducible exact KV.put_wf _ _ | with_reducible exact KV.filter_wf _ | with_reducible exact List.prefix_rfl | with_reducible exact List.prefix_append _ _ | with_reducible exact KV.map_wf (fun _ => rfl) | with_reducible exact fun _ => KV.foldl_set_wf _ _ _ rfl | (simp; done) | skip) | with_reducible apply Keeps.ite | with_reducible apply Keeps.ite1 | (with_reducible apply Keeps.foldl; intro s₁ x₁; have h₁ : Keeps m₀ s₁ s₁ := Keeps.refl s₁; try dsimp +zetaDelta only) | (with_reducible apply Keeps.foldl1; intro s₁ x₁; have h₁ : Keeps m₀ s₁.1 s₁.1 := Keeps.refl s₁.1; try dsimp +zetaDelta only) | extract_lets | split | dsimp +zetaDelta only)

theorem keeps_failGather {m₀ : Bool} {a₀ s₀ : State} (h₀ : Keeps m₀ a₀ s₀) {t : Nat} {c : Nat} :
    Keeps m₀ a₀ (failGather s₀ t c) := by
  unfold failGather
  try extract_lets
  repeat' (first | with_reducible assumption | with_reducible apply keeps_State_modGather | with_reducible apply keeps_failEnd | with_reducible apply keeps_opEnd | with_reducible apply keeps_unlink | (fail_if_no_progress (with_reducible apply Keeps.upd) <;> first | with_reducible rfl | with_reducible exact fun x => x | with_reducible exact fun _ => ⟨rfl, rfl, rfl, rfl⟩ | with_reducible exact fun x => absurd x Bool.false_ne_true | with_reducible exact KV.set_wf _ _ _ | with_reducible exact KV.put_wf _ _ | with_reducible exact KV.filter_wf _ | with_reducible exact List.prefix_rfl | with_reducible exact List.prefix_append _ _ | with_reducible exact KV.map_wf (fun _ => rfl) | with_reducible exact fun _ => KV.foldl_set_wf _ _ _ rfl | (simp; done) | skip) | with_reducible apply Keeps.ite | with_reducible apply Keeps.ite1 | (with_reducible apply Keeps.foldl; intro s₁ x₁; have h₁ : Keeps m₀ s₁ s₁ := Keeps.refl s₁; try dsimp +zetaDelta only) | (with_reducible apply Keeps.foldl1; intro s₁ x₁; have h₁ : Keeps m₀ s₁.1 s₁.1 := Keeps.refl s₁.1; try dsimp +zetaDelta only) | extract_lets | split | dsimp +zetaDelta only)

theorem keeps_endClaims {m₀ : Bool} {a₀ s₀ : State} (h₀ : Keeps m₀ a₀ s₀) {t : Nat} {a : Sys2Proof.Aid} :
    Keeps m₀ a₀ (endClaims s₀ t a) := by
  unfold endClaims
  try extract_lets
  repeat' (first | with_reducible assumption | with_reducible apply keeps_State_modClaim | with_reducible apply keeps_countReleased | with_reducible apply keeps_dropClaimant | with_reducible apply keeps_failGather | (fail_if_no_progress (with_reducible apply Keeps.upd) <;> first | with_reducible rfl | with_reducible exact fun x => x | with_reducible exact fun _ => ⟨rfl, rfl, rfl, rfl⟩ | with_reducible exact fun x => absurd x Bool.false_ne_true | with_reducible exact KV.set_wf _ _ _ | with_reducible exact KV.put_wf _ _ | with_reducible exact KV.filter_wf _ | with_reducible exact List.prefix_rfl | with_reducible exact List.prefix_append _ _ | with_reducible exact KV.map_wf (fun _ => rfl) | with_reducible exact fun _ => KV.foldl_set_wf _ _ _ rfl | (simp; done) | skip) | with_reducible apply Keeps.ite | with_reducible apply Keeps.ite1 | (with_reducible apply Keeps.foldl; intro s₁ x₁; have h₁ : Keeps m₀ s₁ s₁ := Keeps.refl s₁; try dsimp +zetaDelta only) | (with_reducible apply Keeps.foldl1; intro s₁ x₁; have h₁ : Keeps m₀ s₁.1 s₁.1 := Keeps.refl s₁.1; try dsimp +zetaDelta only) | extract_lets | split | dsimp +zetaDelta only)

theorem keeps_dropAtTills {m₀ : Bool} {a₀ s₀ : State} (h₀ : Keeps m₀ a₀ s₀) {a : Sys2Proof.Aid} :
    Keeps m₀ a₀ (dropAtTills s₀ a) := by
  unfold dropAtTills
  try extract_lets
  repeat' (first | with_reducible assumption | with_reducible apply keeps_clearMons | with_reducible apply keeps_disposeFolio | with_reducible apply keeps_endClaims | (fail_if_no_progress (with_reducible apply Keeps.upd) <;> first | with_reducible rfl | with_reducible exact fun x => x | with_reducible exact fun _ => ⟨rfl, rfl, rfl, rfl⟩ | with_reducible exact fun x => absurd x Bool.false_ne_true | with_reducible exact KV.set_wf _ _ _ | with_reducible exact KV.put_wf _ _ | with_reducible exact KV.filter_wf _ | with_reducible exact List.prefix_rfl | with_reducible exact List.prefix_append _ _ | with_reducible exact KV.map_wf (fun _ => rfl) | with_reducible exact fun _ => KV.foldl_set_wf _ _ _ rfl | (simp; done) | skip) | with_reducible apply Keeps.ite | with_reducible apply Keeps.ite1 | (with_reducible apply Keeps.foldl; intro s₁ x₁; have h₁ : Keeps m₀ s₁ s₁ := Keeps.refl s₁; try dsimp +zetaDelta only) | (with_reducible apply Keeps.foldl1; intro s₁ x₁; have h₁ : Keeps m₀ s₁.1 s₁.1 := Keeps.refl s₁.1; try dsimp +zetaDelta only) | extract_lets | split | dsimp +zetaDelta only)

theorem keeps_appendAdm {m₀ : Bool} {a₀ s₀ : State} (h₀ : Keeps m₀ a₀ s₀) {w : Nat} {e : Adm} :
    Keeps m₀ a₀ (appendAdm s₀ w e) := by
  unfold appendAdm
  try extract_lets
  repeat' (first | with_reducible assumption | with_reducible apply keeps_State_modWicket | (fail_if_no_progress (with_reducible apply Keeps.upd) <;> first | with_reducible rfl | with_reducible exact fun x => x | with_reducible exact fun _ => ⟨rfl, rfl, rfl, rfl⟩ | with_reducible exact fun x => absurd x Bool.false_ne_true | with_reducible exact KV.set_wf _ _ _ | with_reducible exact KV.put_wf _ _ | with_reducible exact KV.filter_wf _ | with_reducible exact List.prefix_rfl | with_reducible exact List.prefix_append _ _ | with_reducible exact KV.map_wf (fun _ => rfl) | with_reducible exact fun _ => KV.foldl_set_wf _ _ _ rfl | (simp; done) | skip) | with_reducible apply Keeps.ite | with_reducible apply Keeps.ite1 | (with_reducible apply Keeps.foldl; intro s₁ x₁; have h₁ : Keeps m₀ s₁ s₁ := Keeps.refl s₁; try dsimp +zetaDelta only) | (with_reducible apply Keeps.foldl1; intro s₁ x₁; have h₁ : Keeps m₀ s₁.1 s₁.1 := Keeps.refl s₁.1; try dsimp +zetaDelta only) | extract_lets | split | dsimp +zetaDelta only)

theorem keeps_grantEntries {m₀ : Bool} {a₀ s₀ : State} (h₀ : Keeps m₀ a₀ s₀) {w : Nat} {a : Nat} {kept : Bool} {n : Nat} :
    Keeps m₀ a₀ (grantEntries s₀ w a kept n) := by
  unfold grantEntries
  try extract_lets
  repeat' (first | with_reducible assumption | with_reducible apply keeps_State_modWicket | with_reducible apply keeps_State_send | (fail_if_no_progress (with_reducible apply Keeps.upd) <;> first | with_reducible rfl | with_reducible exact fun x => x | with_reducible exact fun _ => ⟨rfl, rfl, rfl, rfl⟩ | with_reducible exact fun x => absurd x Bool.false_ne_true | with_reducible exact KV.set_wf _ _ _ | with_reducible exact KV.put_wf _ _ | with_reducible exact KV.filter_wf _ | with_reducible exact List.prefix_rfl | with_reducible exact List.prefix_append _ _ | with_reducible exact KV.map_wf (fun _ => rfl) | with_reducible exact fun _ => KV.foldl_set_wf _ _ _ rfl | (simp; done) | skip) | with_reducible apply Keeps.ite | with_reducible apply Keeps.ite1 | (with_reducible apply Keeps.foldl; intro s₁ x₁; have h₁ : Keeps m₀ s₁ s₁ := Keeps.refl s₁; try dsimp +zetaDelta only) | (with_reducible apply Keeps.foldl1; intro s₁ x₁; have h₁ : Keeps m₀ s₁.1 s₁.1 := Keeps.refl s₁.1; try dsimp +zetaDelta only) | extract_lets | split | dsimp +zetaDelta only)

theorem keeps_regrant {m₀ : Bool} {a₀ s₀ : State} (h₀ : Keeps m₀ a₀ s₀) {w : Nat} {a : Nat} :
    Keeps m₀ a₀ (regrant s₀ w a) := by
  unfold regrant
  try extract_lets
  repeat' (first | with_reducible assumption | with_reducible apply keeps_grantEntries | (fail_if_no_progress (with_reducible apply Keeps.upd) <;> first | with_reducible rfl | with_reducible exact fun x => x | with_reducible exact fun _ => ⟨rfl, rfl, rfl, rfl⟩ | with_reducible exact fun x => absurd x Bool.false_ne_true | with_reducible exact KV.set_wf _ _ _ | with_reducible exact KV.put_wf _ _ | with_reducible exact KV.filter_wf _ | with_reducible exact List.prefix_rfl | with_reducible exact List.prefix_append _ _ | with_reducible exact KV.map_wf (fun _ => rfl) | with_reducible exact fun _ => KV.foldl_set_wf _ _ _ rfl | (simp; done) | skip) | with_reducible apply Keeps.ite | with_reducible apply Keeps.ite1 | (with_reducible apply Keeps.foldl; intro s₁ x₁; have h₁ : Keeps m₀ s₁ s₁ := Keeps.refl s₁; try dsimp +zetaDelta only) | (with_reducible apply Keeps.foldl1; intro s₁ x₁; have h₁ : Keeps m₀ s₁.1 s₁.1 := Keeps.refl s₁.1; try dsimp +zetaDelta only) | extract_lets | split | dsimp +zetaDelta only)

theorem keeps_regrantAll {m₀ : Bool} {a₀ s₀ : State} (h₀ : Keeps m₀ a₀ s₀) {w : Nat} {a : Nat} :
    Keeps m₀ a₀ (regrantAll s₀ w a) := by
  unfold regrantAll
  try extract_lets
  repeat' (first | with_reducible assumption | with_reducible apply keeps_regrant | (fail_if_no_progress (with_reducible apply Keeps.upd) <;> first | with_reducible rfl | with_reducible exact fun x => x | with_reducible exact fun _ => ⟨rfl, rfl, rfl, rfl⟩ | with_reducible exact fun x => absurd x Bool.false_ne_true | with_reducible exact KV.set_wf _ _ _ | with_reducible exact KV.put_wf _ _ | with_reducible exact KV.filter_wf _ | with_reducible exact List.prefix_rfl | with_reducible exact List.prefix_append _ _ | with_reducible exact KV.map_wf (fun _ => rfl) | with_reducible exact fun _ => KV.foldl_set_wf _ _ _ rfl | (simp; done) | skip) | with_reducible apply Keeps.ite | with_reducible apply Keeps.ite1 | (with_reducible apply Keeps.foldl; intro s₁ x₁; have h₁ : Keeps m₀ s₁ s₁ := Keeps.refl s₁; try dsimp +zetaDelta only) | (with_reducible apply Keeps.foldl1; intro s₁ x₁; have h₁ : Keeps m₀ s₁.1 s₁.1 := Keeps.refl s₁.1; try dsimp +zetaDelta only) | extract_lets | split | dsimp +zetaDelta only)

theorem keeps_State_modWsAgent {m₀ : Bool} {a₀ s₀ : State} (h₀ : Keeps m₀ a₀ s₀) {a : Nat} {g : WsAgent → WsAgent} :
    Keeps m₀ a₀ (State.modWsAgent s₀ a g) := by
  unfold State.modWsAgent
  try extract_lets
  repeat' (first | with_reducible assumption | (fail_if_no_progress (with_reducible apply Keeps.upd) <;> first | with_reducible rfl | with_reducible exact fun x => x | with_reducible exact fun _ => ⟨rfl, rfl, rfl, rfl⟩ | with_reducible exact fun x => absurd x Bool.false_ne_true | with_reducible exact KV.set_wf _ _ _ | with_reducible exact KV.put_wf _ _ | with_reducible exact KV.filter_wf _ | with_reducible exact List.prefix_rfl | with_reducible exact List.prefix_append _ _ | with_reducible exact KV.map_wf (fun _ => rfl) | with_reducible exact fun _ => KV.foldl_set_wf _ _ _ rfl | (simp; done) | skip) | with_reducible apply Keeps.ite | with_reducible apply Keeps.ite1 | (with_reducible apply Keeps.foldl; intro s₁ x₁; have h₁ : Keeps m₀ s₁ s₁ := Keeps.refl s₁; try dsimp +zetaDelta only) | (with_reducible apply Keeps.foldl1; intro s₁ x₁; have h₁ : Keeps m₀ s₁.1 s₁.1 := Keeps.refl s₁.1; try dsimp +zetaDelta only) | extract_lets | split | dsimp +zetaDelta only)

theorem keeps_injectDone {m₀ : Bool} {a₀ s₀ : State} (h₀ : Keeps m₀ a₀ s₀) {id : Nat} {payload : List Sys2Proof.Byte} :
    Keeps m₀ a₀ (injectDone s₀ id payload) := by
  unfold injectDone
  try extract_lets
  repeat' (first | with_reducible assumption | with_reducible apply keeps_State_send | (fail_if_no_progress (with_reducible apply Keeps.upd) <;> first | with_reducible rfl | with_reducible exact fun x => x | with_reducible exact fun _ => ⟨rfl, rfl, rfl, rfl⟩ | with_reducible exact fun x => absurd x Bool.false_ne_true | with_reducible exact KV.set_wf _ _ _ | with_reducible exact KV.put_wf _ _ | with_reducible exact KV.filter_wf _ | with_reducible exact List.prefix_rfl | with_reducible exact List.prefix_append _ _ | with_reducible exact KV.map_wf (fun _ => rfl) | with_reducible exact fun _ => KV.foldl_set_wf _ _ _ rfl | (simp; done) | skip) | with_reducible apply Keeps.ite | with_reducible apply Keeps.ite1 | (with_reducible apply Keeps.foldl; intro s₁ x₁; have h₁ : Keeps m₀ s₁ s₁ := Keeps.refl s₁; try dsimp +zetaDelta only) | (with_reducible apply Keeps.foldl1; intro s₁ x₁; have h₁ : Keeps m₀ s₁.1 s₁.1 := Keeps.refl s₁.1; try dsimp +zetaDelta only) | extract_lets | split | dsimp +zetaDelta only)

end Sys2Proof.Machine
end

