-- ==== Sys2Proof/Laws/KeepsX2.lean ====
section
/-! SUPPORT. What `Keeps` says of each operation, in the order of the callees. -/

namespace Sys2Proof.Machine
set_option linter.all false

theorem keeps_sendCmp {m₀ : Bool} {a₀ s₀ : State} (h₀ : Keeps m₀ a₀ s₀) {w : Nat} {origin : Origin} {o : CmpOpc} {a : Sys2Proof.Aid} {i : Sys2Proof.Inc} {t : Sys2Proof.Tag} {st : CStat} {rcpt : Nat} {data : Option (Sys2Proof.LineData × Bool)} :
    Keeps m₀ a₀ (sendCmp s₀ w origin o a i t st rcpt data) := by
  unfold sendCmp
  try extract_lets
  repeat' (first | with_reducible assumption | with_reducible apply keeps_State_send | with_reducible apply keeps_injectDone | (fail_if_no_progress (with_reducible apply Keeps.upd) <;> first | with_reducible rfl | with_reducible exact fun x => x | with_reducible exact fun _ => ⟨rfl, rfl, rfl, rfl⟩ | with_reducible exact fun x => absurd x Bool.false_ne_true | with_reducible exact KV.set_wf _ _ _ | with_reducible exact KV.put_wf _ _ | with_reducible exact KV.filter_wf _ | with_reducible exact List.prefix_rfl | with_reducible exact List.prefix_append _ _ | with_reducible exact KV.map_wf (fun _ => rfl) | with_reducible exact fun _ => KV.foldl_set_wf _ _ _ rfl | (simp; done) | skip) | with_reducible apply Keeps.ite | with_reducible apply Keeps.ite1 | (with_reducible apply Keeps.foldl; intro s₁ x₁; have h₁ : Keeps m₀ s₁ s₁ := Keeps.refl s₁; try dsimp +zetaDelta only) | (with_reducible apply Keeps.foldl1; intro s₁ x₁; have h₁ : Keeps m₀ s₁.1 s₁.1 := Keeps.refl s₁.1; try dsimp +zetaDelta only) | extract_lets | split | dsimp +zetaDelta only)

theorem keeps_settleDone {m₀ : Bool} {a₀ s₀ : State} (h₀ : Keeps m₀ a₀ s₀) {a : Nat} :
    ∀ t₀, (settleDone s₀ a) = some t₀ → Keeps m₀ a₀ t₀ := by
  intro t₀ e₀
  unfold settleDone at e₀
  try dsimp only at e₀
  repeat' (split at e₀)
  all_goals first | (simp only [Option.some.injEq, reduceCtorEq] at e₀; done) | (simp only [Option.some.injEq] at e₀; subst e₀)
  all_goals repeat' (first | with_reducible assumption | with_reducible apply keeps_State_bump | with_reducible apply keeps_State_modWsAgent | with_reducible apply keeps_sendCmp | (fail_if_no_progress (with_reducible apply Keeps.upd) <;> first | with_reducible rfl | with_reducible exact fun x => x | with_reducible exact fun _ => ⟨rfl, rfl, rfl, rfl⟩ | with_reducible exact fun x => absurd x Bool.false_ne_true | with_reducible exact KV.set_wf _ _ _ | with_reducible exact KV.put_wf _ _ | with_reducible exact KV.filter_wf _ | with_reducible exact List.prefix_rfl | with_reducible exact List.prefix_append _ _ | with_reducible exact KV.map_wf (fun _ => rfl) | with_reducible exact fun _ => KV.foldl_set_wf _ _ _ rfl | (simp; done) | skip) | with_reducible apply Keeps.ite | with_reducible apply Keeps.ite1 | (with_reducible apply Keeps.foldl; intro s₁ x₁; have h₁ : Keeps m₀ s₁ s₁ := Keeps.refl s₁; try dsimp +zetaDelta only) | (with_reducible apply Keeps.foldl1; intro s₁ x₁; have h₁ : Keeps m₀ s₁.1 s₁.1 := Keeps.refl s₁.1; try dsimp +zetaDelta only) | extract_lets | split | dsimp +zetaDelta only)

theorem keeps_settleDone_eq {m₀ : Bool} {a₀ s₀ u₀ : State} {a : Nat} (e₀ : settleDone s₀ a = some u₀) (h₀ : Keeps m₀ a₀ s₀) : Keeps m₀ a₀ u₀ :=
  keeps_settleDone h₀ u₀ e₀

theorem keeps_checkSettles {m₀ : Bool} {a₀ s₀ : State} (h₀ : Keeps m₀ a₀ s₀) {x0 : Nat} {x2 : Nat} :
    Keeps m₀ a₀ (checkSettles x0 s₀ x2) := by
  induction x0 generalizing s₀ with
  | zero => unfold checkSettles; exact h₀
  | succ n ih =>
    unfold checkSettles
    try extract_lets
    repeat' (first | with_reducible assumption | with_reducible apply ih | with_reducible refine keeps_settleDone_eq (by assumption) ?_ | (fail_if_no_progress (with_reducible apply Keeps.upd) <;> first | with_reducible rfl | with_reducible exact fun x => x | with_reducible exact fun _ => ⟨rfl, rfl, rfl, rfl⟩ | with_reducible exact fun x => absurd x Bool.false_ne_true | with_reducible exact KV.set_wf _ _ _ | with_reducible exact KV.put_wf _ _ | with_reducible exact KV.filter_wf _ | with_reducible exact List.prefix_rfl | with_reducible exact List.prefix_append _ _ | with_reducible exact KV.map_wf (fun _ => rfl) | with_reducible exact fun _ => KV.foldl_set_wf _ _ _ rfl | (simp; done) | skip) | with_reducible apply Keeps.ite | with_reducible apply Keeps.ite1 | (with_reducible apply Keeps.foldl; intro s₁ x₁; have h₁ : Keeps m₀ s₁ s₁ := Keeps.refl s₁; try dsimp +zetaDelta only) | (with_reducible apply Keeps.foldl1; intro s₁ x₁; have h₁ : Keeps m₀ s₁.1 s₁.1 := Keeps.refl s₁.1; try dsimp +zetaDelta only) | extract_lets | split | dsimp +zetaDelta only)

theorem keeps_pushAdm {m₀ : Bool} {a₀ s₀ : State} (h₀ : Keeps m₀ a₀ s₀) {w : Nat} {e : Adm} :
    Keeps m₀ a₀ (pushAdm s₀ w e) := by
  unfold pushAdm
  try extract_lets
  repeat' (first | with_reducible assumption | with_reducible apply keeps_State_gev | with_reducible apply keeps_State_modWicket | with_reducible apply keeps_appendAdm | (fail_if_no_progress (with_reducible apply Keeps.upd) <;> first | with_reducible rfl | with_reducible exact fun x => x | with_reducible exact fun _ => ⟨rfl, rfl, rfl, rfl⟩ | with_reducible exact fun x => absurd x Bool.false_ne_true | with_reducible exact KV.set_wf _ _ _ | with_reducible exact KV.put_wf _ _ | with_reducible exact KV.filter_wf _ | with_reducible exact List.prefix_rfl | with_reducible exact List.prefix_append _ _ | with_reducible exact KV.map_wf (fun _ => rfl) | with_reducible exact fun _ => KV.foldl_set_wf _ _ _ rfl | (simp; done) | skip) | with_reducible apply Keeps.ite | with_reducible apply Keeps.ite1 | (with_reducible apply Keeps.foldl; intro s₁ x₁; have h₁ : Keeps m₀ s₁ s₁ := Keeps.refl s₁; try dsimp +zetaDelta only) | (with_reducible apply Keeps.foldl1; intro s₁ x₁; have h₁ : Keeps m₀ s₁.1 s₁.1 := Keeps.refl s₁.1; try dsimp +zetaDelta only) | extract_lets | split | dsimp +zetaDelta only)

theorem keeps_drainPost {m₀ : Bool} {a₀ s₀ : State} (h₀ : Keeps m₀ a₀ s₀) {e : Nat} :
    Keeps m₀ a₀ (drainPost s₀ e) := by
  unfold drainPost
  try extract_lets
  repeat' (first | with_reducible assumption | with_reducible apply keeps_pushAdm | (fail_if_no_progress (with_reducible apply Keeps.upd) <;> first | with_reducible rfl | with_reducible exact fun x => x | with_reducible exact fun _ => ⟨rfl, rfl, rfl, rfl⟩ | with_reducible exact fun x => absurd x Bool.false_ne_true | with_reducible exact KV.set_wf _ _ _ | with_reducible exact KV.put_wf _ _ | with_reducible exact KV.filter_wf _ | with_reducible exact List.prefix_rfl | with_reducible exact List.prefix_append _ _ | with_reducible exact KV.map_wf (fun _ => rfl) | with_reducible exact fun _ => KV.foldl_set_wf _ _ _ rfl | (simp; done) | skip) | with_reducible apply Keeps.ite | with_reducible apply Keeps.ite1 | (with_reducible apply Keeps.foldl; intro s₁ x₁; have h₁ : Keeps m₀ s₁ s₁ := Keeps.refl s₁; try dsimp +zetaDelta only) | (with_reducible apply Keeps.foldl1; intro s₁ x₁; have h₁ : Keeps m₀ s₁.1 s₁.1 := Keeps.refl s₁.1; try dsimp +zetaDelta only) | extract_lets | split | dsimp +zetaDelta only)

theorem keeps_drainWhere {m₀ : Bool} {a₀ s₀ : State} (h₀ : Keeps m₀ a₀ s₀) {p : Post → Bool} :
    Keeps m₀ a₀ (drainWhere s₀ p) := by
  unfold drainWhere
  try extract_lets
  repeat' (first | with_reducible assumption | with_reducible apply keeps_drainPost | (fail_if_no_progress (with_reducible apply Keeps.upd) <;> first | with_reducible rfl | with_reducible exact fun x => x | with_reducible exact fun _ => ⟨rfl, rfl, rfl, rfl⟩ | with_reducible exact fun x => absurd x Bool.false_ne_true | with_reducible exact KV.set_wf _ _ _ | with_reducible exact KV.put_wf _ _ | with_reducible exact KV.filter_wf _ | with_reducible exact List.prefix_rfl | with_reducible exact List.prefix_append _ _ | with_reducible exact KV.map_wf (fun _ => rfl) | with_reducible exact fun _ => KV.foldl_set_wf _ _ _ rfl | (simp; done) | skip) | with_reducible apply Keeps.ite | with_reducible apply Keeps.ite1 | (with_reducible apply Keeps.foldl; intro s₁ x₁; have h₁ : Keeps m₀ s₁ s₁ := Keeps.refl s₁; try dsimp +zetaDelta only) | (with_reducible apply Keeps.foldl1; intro s₁ x₁; have h₁ : Keeps m₀ s₁.1 s₁.1 := Keeps.refl s₁.1; try dsimp +zetaDelta only) | extract_lets | split | dsimp +zetaDelta only)

theorem keeps_closeEpoch {m₀ : Bool} {a₀ s₀ : State} (h₀ : Keeps m₀ a₀ s₀) {e : Adm} :
    Keeps m₀ a₀ (closeEpoch s₀ e) := by
  unfold closeEpoch
  try extract_lets
  repeat' (first | with_reducible assumption | with_reducible apply keeps_State_modWsAgent | with_reducible apply keeps_checkSettles | with_reducible apply keeps_drainWhere | (fail_if_no_progress (with_reducible apply Keeps.upd) <;> first | with_reducible rfl | with_reducible exact fun x => x | with_reducible exact fun _ => ⟨rfl, rfl, rfl, rfl⟩ | with_reducible exact fun x => absurd x Bool.false_ne_true | with_reducible exact KV.set_wf _ _ _ | with_reducible exact KV.put_wf _ _ | with_reducible exact KV.filter_wf _ | with_reducible exact List.prefix_rfl | with_reducible exact List.prefix_append _ _ | with_reducible exact KV.map_wf (fun _ => rfl) | with_reducible exact fun _ => KV.foldl_set_wf _ _ _ rfl | (simp; done) | skip) | with_reducible apply Keeps.ite | with_reducible apply Keeps.ite1 | (with_reducible apply Keeps.foldl; intro s₁ x₁; have h₁ : Keeps m₀ s₁ s₁ := Keeps.refl s₁; try dsimp +zetaDelta only) | (with_reducible apply Keeps.foldl1; intro s₁ x₁; have h₁ : Keeps m₀ s₁.1 s₁.1 := Keeps.refl s₁.1; try dsimp +zetaDelta only) | extract_lets | split | dsimp +zetaDelta only)

theorem keeps_highWater {m₀ : Bool} {a₀ s₀ : State} (h₀ : Keeps m₀ a₀ s₀)  :
    Keeps m₀ a₀ (highWater s₀) := by
  unfold highWater
  try extract_lets
  repeat' (first | with_reducible assumption | with_reducible apply keeps_drainPost | (fail_if_no_progress (with_reducible apply Keeps.upd) <;> first | with_reducible rfl | with_reducible exact fun x => x | with_reducible exact fun _ => ⟨rfl, rfl, rfl, rfl⟩ | with_reducible exact fun x => absurd x Bool.false_ne_true | with_reducible exact KV.set_wf _ _ _ | with_reducible exact KV.put_wf _ _ | with_reducible exact KV.filter_wf _ | with_reducible exact List.prefix_rfl | with_reducible exact List.prefix_append _ _ | with_reducible exact KV.map_wf (fun _ => rfl) | with_reducible exact fun _ => KV.foldl_set_wf _ _ _ rfl | (simp; done) | skip) | with_reducible apply Keeps.ite | with_reducible apply Keeps.ite1 | (with_reducible apply Keeps.foldl; intro s₁ x₁; have h₁ : Keeps m₀ s₁ s₁ := Keeps.refl s₁; try dsimp +zetaDelta only) | (with_reducible apply Keeps.foldl1; intro s₁ x₁; have h₁ : Keeps m₀ s₁.1 s₁.1 := Keeps.refl s₁.1; try dsimp +zetaDelta only) | extract_lets | split | dsimp +zetaDelta only)

theorem keeps_postStore {m₀ : Bool} {a₀ s₀ : State} (h₀ : Keeps m₀ a₀ s₀) {a : Sys2Proof.Aid} {l : Sys2Proof.Line} {d : WData} {epoch : Nat} :
    Keeps m₀ a₀ (postStore s₀ a l d epoch) := by
  unfold postStore
  try extract_lets
  repeat' (first | with_reducible assumption | with_reducible apply keeps_State_bump | with_reducible apply keeps_State_modWsAgent | with_reducible apply keeps_highWater | (fail_if_no_progress (with_reducible apply Keeps.upd) <;> first | with_reducible rfl | with_reducible exact fun x => x | with_reducible exact fun _ => ⟨rfl, rfl, rfl, rfl⟩ | with_reducible exact fun x => absurd x Bool.false_ne_true | with_reducible exact KV.set_wf _ _ _ | with_reducible exact KV.put_wf _ _ | with_reducible exact KV.filter_wf _ | with_reducible exact List.prefix_rfl | with_reducible exact List.prefix_append _ _ | with_reducible exact KV.map_wf (fun _ => rfl) | with_reducible exact fun _ => KV.foldl_set_wf _ _ _ rfl | (simp; done) | skip) | with_reducible apply Keeps.ite | with_reducible apply Keeps.ite1 | (with_reducible apply Keeps.foldl; intro s₁ x₁; have h₁ : Keeps m₀ s₁ s₁ := Keeps.refl s₁; try dsimp +zetaDelta only) | (with_reducible apply Keeps.foldl1; intro s₁ x₁; have h₁ : Keeps m₀ s₁.1 s₁.1 := Keeps.refl s₁.1; try dsimp +zetaDelta only) | extract_lets | split | dsimp +zetaDelta only)

theorem keeps_postWrite {m₀ : Bool} {a₀ s₀ : State} (h₀ : Keeps m₀ a₀ s₀) {e : Adm} :
    Keeps m₀ a₀ (postWrite s₀ e) := by
  unfold postWrite
  try extract_lets
  repeat' (first | with_reducible assumption | with_reducible apply keeps_checkSettles | with_reducible apply keeps_postStore | with_reducible apply keeps_sendCmp | (fail_if_no_progress (with_reducible apply Keeps.upd) <;> first | with_reducible rfl | with_reducible exact fun x => x | with_reducible exact fun _ => ⟨rfl, rfl, rfl, rfl⟩ | with_reducible exact fun x => absurd x Bool.false_ne_true | with_reducible exact KV.set_wf _ _ _ | with_reducible exact KV.put_wf _ _ | with_reducible exact KV.filter_wf _ | with_reducible exact List.prefix_rfl | with_reducible exact List.prefix_append _ _ | with_reducible exact KV.map_wf (fun _ => rfl) | with_reducible exact fun _ => KV.foldl_set_wf _ _ _ rfl | (simp; done) | skip) | with_reducible apply Keeps.ite | with_reducible apply Keeps.ite1 | (with_reducible apply Keeps.foldl; intro s₁ x₁; have h₁ : Keeps m₀ s₁ s₁ := Keeps.refl s₁; try dsimp +zetaDelta only) | (with_reducible apply Keeps.foldl1; intro s₁ x₁; have h₁ : Keeps m₀ s₁.1 s₁.1 := Keeps.refl s₁.1; try dsimp +zetaDelta only) | extract_lets | split | dsimp +zetaDelta only)

theorem keeps_wsServe {m₀ : Bool} {a₀ s₀ : State} (h₀ : Keeps m₀ a₀ s₀) {e : Adm} :
    ∀ t₀, (wsServe s₀ e) = some t₀ → Keeps m₀ a₀ t₀.1 := by
  intro t₀ e₀
  unfold wsServe at e₀
  try dsimp only at e₀
  repeat' (split at e₀)
  all_goals first | (simp only [Option.some.injEq, reduceCtorEq] at e₀; done) | (simp only [Option.some.injEq] at e₀; subst e₀)
  all_goals repeat' (first | with_reducible assumption | with_reducible apply keeps_State_bump | with_reducible apply keeps_closeEpoch | with_reducible apply keeps_drainWhere | with_reducible apply keeps_postWrite | with_reducible apply keeps_sendCmp | (fail_if_no_progress (with_reducible apply Keeps.upd) <;> first | with_reducible rfl | with_reducible exact fun x => x | with_reducible exact fun _ => ⟨rfl, rfl, rfl, rfl⟩ | with_reducible exact fun x => absurd x Bool.false_ne_true | with_reducible exact KV.set_wf _ _ _ | with_reducible exact KV.put_wf _ _ | with_reducible exact KV.filter_wf _ | with_reducible exact List.prefix_rfl | with_reducible exact List.prefix_append _ _ | with_reducible exact KV.map_wf (fun _ => rfl) | with_reducible exact fun _ => KV.foldl_set_wf _ _ _ rfl | (simp; done) | skip) | with_reducible apply Keeps.ite | with_reducible apply Keeps.ite1 | (with_reducible apply Keeps.foldl; intro s₁ x₁; have h₁ : Keeps m₀ s₁ s₁ := Keeps.refl s₁; try dsimp +zetaDelta only) | (with_reducible apply Keeps.foldl1; intro s₁ x₁; have h₁ : Keeps m₀ s₁.1 s₁.1 := Keeps.refl s₁.1; try dsimp +zetaDelta only) | extract_lets | split | dsimp +zetaDelta only)

theorem keeps_wsServe_eq {m₀ : Bool} {a₀ s₀ u₀ : State} {y₀ : Bool} {e : Adm} (e₀ : wsServe s₀ e = some (u₀, y₀)) (h₀ : Keeps m₀ a₀ s₀) : Keeps m₀ a₀ u₀ :=
  keeps_wsServe h₀ (u₀, y₀) e₀

theorem keeps_pumpHeld {m₀ : Bool} {a₀ s₀ : State} (h₀ : Keeps m₀ a₀ s₀) {x0 : Nat} {x2 : Nat} :
    Keeps m₀ a₀ (pumpHeld x0 s₀ x2) := by
  induction x0 generalizing s₀ with
  | zero => unfold pumpHeld; exact h₀
  | succ n ih =>
    unfold pumpHeld
    try extract_lets
    repeat' (first | with_reducible assumption | with_reducible apply ih | with_reducible refine keeps_wsServe_eq (by assumption) ?_ | with_reducible apply keeps_State_modWicket | with_reducible apply keeps_appendAdm | with_reducible apply keeps_regrantAll | (fail_if_no_progress (with_reducible apply Keeps.upd) <;> first | with_reducible rfl | with_reducible exact fun x => x | with_reducible exact fun _ => ⟨rfl, rfl, rfl, rfl⟩ | with_reducible exact fun x => absurd x Bool.false_ne_true | with_reducible exact KV.set_wf _ _ _ | with_reducible exact KV.put_wf _ _ | with_reducible exact KV.filter_wf _ | with_reducible exact List.prefix_rfl | with_reducible exact List.prefix_append _ _ | with_reducible exact KV.map_wf (fun _ => rfl) | with_reducible exact fun _ => KV.foldl_set_wf _ _ _ rfl | (simp; done) | skip) | with_reducible apply Keeps.ite | with_reducible apply Keeps.ite1 | (with_reducible apply Keeps.foldl; intro s₁ x₁; have h₁ : Keeps m₀ s₁ s₁ := Keeps.refl s₁; try dsimp +zetaDelta only) | (with_reducible apply Keeps.foldl1; intro s₁ x₁; have h₁ : Keeps m₀ s₁.1 s₁.1 := Keeps.refl s₁.1; try dsimp +zetaDelta only) | extract_lets | split | dsimp +zetaDelta only)

theorem keeps_pumpAll {m₀ : Bool} {a₀ s₀ : State} (h₀ : Keeps m₀ a₀ s₀)  :
    Keeps m₀ a₀ (pumpAll s₀) := by
  unfold pumpAll
  try extract_lets
  repeat' (first | with_reducible assumption | with_reducible apply keeps_pumpHeld | (fail_if_no_progress (with_reducible apply Keeps.upd) <;> first | with_reducible rfl | with_reducible exact fun x => x | with_reducible exact fun _ => ⟨rfl, rfl, rfl, rfl⟩ | with_reducible exact fun x => absurd x Bool.false_ne_true | with_reducible exact KV.set_wf _ _ _ | with_reducible exact KV.put_wf _ _ | with_reducible exact KV.filter_wf _ | with_reducible exact List.prefix_rfl | with_reducible exact List.prefix_append _ _ | with_reducible exact KV.map_wf (fun _ => rfl) | with_reducible exact fun _ => KV.foldl_set_wf _ _ _ rfl | (simp; done) | skip) | with_reducible apply Keeps.ite | with_reducible apply Keeps.ite1 | (with_reducible apply Keeps.foldl; intro s₁ x₁; have h₁ : Keeps m₀ s₁ s₁ := Keeps.refl s₁; try dsimp +zetaDelta only) | (with_reducible apply Keeps.foldl1; intro s₁ x₁; have h₁ : Keeps m₀ s₁.1 s₁.1 := Keeps.refl s₁.1; try dsimp +zetaDelta only) | extract_lets | split | dsimp +zetaDelta only)

theorem keeps_dropAtWicket {m₀ : Bool} {a₀ s₀ : State} (h₀ : Keeps m₀ a₀ s₀) {w : Nat} {a : Sys2Proof.Aid} :
    Keeps m₀ a₀ (dropAtWicket s₀ w a) := by
  unfold dropAtWicket
  try extract_lets
  repeat' (first | with_reducible assumption | with_reducible apply keeps_State_modTill | with_reducible apply keeps_State_modWicket | with_reducible apply keeps_pumpAll | (fail_if_no_progress (with_reducible apply Keeps.upd) <;> first | with_reducible rfl | with_reducible exact fun x => x | with_reducible exact fun _ => ⟨rfl, rfl, rfl, rfl⟩ | with_reducible exact fun x => absurd x Bool.false_ne_true | with_reducible exact KV.set_wf _ _ _ | with_reducible exact KV.put_wf _ _ | with_reducible exact KV.filter_wf _ | with_reducible exact List.prefix_rfl | with_reducible exact List.prefix_append _ _ | with_reducible exact KV.map_wf (fun _ => rfl) | with_reducible exact fun _ => KV.foldl_set_wf _ _ _ rfl | (simp; done) | skip) | with_reducible apply Keeps.ite | with_reducible apply Keeps.ite1 | (with_reducible apply Keeps.foldl; intro s₁ x₁; have h₁ : Keeps m₀ s₁ s₁ := Keeps.refl s₁; try dsimp +zetaDelta only) | (with_reducible apply Keeps.foldl1; intro s₁ x₁; have h₁ : Keeps m₀ s₁.1 s₁.1 := Keeps.refl s₁.1; try dsimp +zetaDelta only) | extract_lets | split | dsimp +zetaDelta only)

theorem keeps_declareDead {m₀ : Bool} {a₀ s₀ : State} (h₀ : Keeps m₀ a₀ s₀) {a : Sys2Proof.Aid} {cause : Nat} :
    Keeps m₀ a₀ (declareDead s₀ a cause) := by
  unfold declareDead
  try extract_lets
  repeat' (first | with_reducible assumption | with_reducible apply keeps_State_bump | with_reducible apply keeps_State_note | with_reducible apply keeps_State_send | with_reducible apply keeps_State_setAgent | with_reducible apply keeps_answerSnoops | with_reducible apply keeps_dropAtTills | with_reducible apply keeps_dropAtWicket | (fail_if_no_progress (with_reducible apply Keeps.upd) <;> first | with_reducible rfl | with_reducible exact fun x => x | with_reducible exact fun _ => ⟨rfl, rfl, rfl, rfl⟩ | with_reducible exact fun x => absurd x Bool.false_ne_true | with_reducible exact KV.set_wf _ _ _ | with_reducible exact KV.put_wf _ _ | with_reducible exact KV.filter_wf _ | with_reducible exact List.prefix_rfl | with_reducible exact List.prefix_append _ _ | with_reducible exact KV.map_wf (fun _ => rfl) | with_reducible exact fun _ => KV.foldl_set_wf _ _ _ rfl | (simp; done) | skip) | with_reducible apply Keeps.ite | with_reducible apply Keeps.ite1 | (with_reducible apply Keeps.foldl; intro s₁ x₁; have h₁ : Keeps m₀ s₁ s₁ := Keeps.refl s₁; try dsimp +zetaDelta only) | (with_reducible apply Keeps.foldl1; intro s₁ x₁; have h₁ : Keeps m₀ s₁.1 s₁.1 := Keeps.refl s₁.1; try dsimp +zetaDelta only) | extract_lets | split | dsimp +zetaDelta only)

theorem keeps_returnLoan {m₀ : Bool} {a₀ s₀ : State} (h₀ : Keeps m₀ a₀ s₀) {w : Nat} {t : Nat} :
    Keeps m₀ a₀ (returnLoan s₀ w t) := by
  unfold returnLoan
  try extract_lets
  repeat' (first | with_reducible assumption | with_reducible apply keeps_State_modTill | with_reducible apply keeps_State_modWicket | with_reducible apply keeps_State_packet | (fail_if_no_progress (with_reducible apply Keeps.upd) <;> first | with_reducible rfl | with_reducible exact fun x => x | with_reducible exact fun _ => ⟨rfl, rfl, rfl, rfl⟩ | with_reducible exact fun x => absurd x Bool.false_ne_true | with_reducible exact KV.set_wf _ _ _ | with_reducible exact KV.put_wf _ _ | with_reducible exact KV.filter_wf _ | with_reducible exact List.prefix_rfl | with_reducible exact List.prefix_append _ _ | with_reducible exact KV.map_wf (fun _ => rfl) | with_reducible exact fun _ => KV.foldl_set_wf _ _ _ rfl | (simp; done) | skip) | with_reducible apply Keeps.ite | with_reducible apply Keeps.ite1 | (with_reducible apply Keeps.foldl; intro s₁ x₁; have h₁ : Keeps m₀ s₁ s₁ := Keeps.refl s₁; try dsimp +zetaDelta only) | (with_reducible apply Keeps.foldl1; intro s₁ x₁; have h₁ : Keeps m₀ s₁.1 s₁.1 := Keeps.refl s₁.1; try dsimp +zetaDelta only) | extract_lets | split | dsimp +zetaDelta only)

theorem keeps_returnLoans {m₀ : Bool} {a₀ s₀ : State} (h₀ : Keeps m₀ a₀ s₀) {w : Nat} :
    Keeps m₀ a₀ (returnLoans s₀ w) := by
  unfold returnLoans
  try extract_lets
  repeat' (first | with_reducible assumption | with_reducible apply keeps_returnLoan | (fail_if_no_progress (with_reducible apply Keeps.upd) <;> first | with_reducible rfl | with_reducible exact fun x => x | with_reducible exact fun _ => ⟨rfl, rfl, rfl, rfl⟩ | with_reducible exact fun x => absurd x Bool.false_ne_true | with_reducible exact KV.set_wf _ _ _ | with_reducible exact KV.put_wf _ _ | with_reducible exact KV.filter_wf _ | with_reducible exact List.prefix_rfl | with_reducible exact List.prefix_append _ _ | with_reducible exact KV.map_wf (fun _ => rfl) | with_reducible exact fun _ => KV.foldl_set_wf _ _ _ rfl | (simp; done) | skip) | with_reducible apply Keeps.ite | with_reducible apply Keeps.ite1 | (with_reducible apply Keeps.foldl; intro s₁ x₁; have h₁ : Keeps m₀ s₁ s₁ := Keeps.refl s₁; try dsimp +zetaDelta only) | (with_reducible apply Keeps.foldl1; intro s₁ x₁; have h₁ : Keeps m₀ s₁.1 s₁.1 := Keeps.refl s₁.1; try dsimp +zetaDelta only) | extract_lets | split | dsimp +zetaDelta only)

theorem keeps_linkReset {m₀ : Bool} {a₀ s₀ : State} (h₀ : Keeps m₀ a₀ s₀) {w : Nat} :
    Keeps m₀ a₀ (linkReset s₀ w) := by
  unfold linkReset
  try extract_lets
  repeat' (first | with_reducible assumption | with_reducible apply keeps_State_modWicket | with_reducible apply keeps_declareDead | with_reducible apply keeps_returnLoans | (fail_if_no_progress (with_reducible apply Keeps.upd) <;> first | with_reducible rfl | with_reducible exact fun x => x | with_reducible exact fun _ => ⟨rfl, rfl, rfl, rfl⟩ | with_reducible exact fun x => absurd x Bool.false_ne_true | with_reducible exact KV.set_wf _ _ _ | with_reducible exact KV.put_wf _ _ | with_reducible exact KV.filter_wf _ | with_reducible exact List.prefix_rfl | with_reducible exact List.prefix_append _ _ | with_reducible exact KV.map_wf (fun _ => rfl) | with_reducible exact fun _ => KV.foldl_set_wf _ _ _ rfl | (simp; done) | skip) | with_reducible apply Keeps.ite | with_reducible apply Keeps.ite1 | (with_reducible apply Keeps.foldl; intro s₁ x₁; have h₁ : Keeps m₀ s₁ s₁ := Keeps.refl s₁; try dsimp +zetaDelta only) | (with_reducible apply Keeps.foldl1; intro s₁ x₁; have h₁ : Keeps m₀ s₁.1 s₁.1 := Keeps.refl s₁.1; try dsimp +zetaDelta only) | extract_lets | split | dsimp +zetaDelta only)

theorem keeps_State_modPower {m₀ : Bool} {a₀ s₀ : State} (h₀ : Keeps m₀ a₀ s₀) {f : Power → Power} (hf : s₀.power.state ≤ 7 ∧ s₀.power.from_ ≤ 7 → (f s₀.power).state ≤ 7 ∧ (f s₀.power).from_ ≤ 7) :
    Keeps m₀ a₀ (State.modPower s₀ f) := by
  unfold State.modPower
  try extract_lets
  repeat' (first | with_reducible assumption | (fail_if_no_progress (with_reducible apply Keeps.upd) <;> first | with_reducible rfl | with_reducible exact fun x => x | with_reducible exact fun _ => ⟨rfl, rfl, rfl, rfl⟩ | with_reducible exact fun x => absurd x Bool.false_ne_true | with_reducible exact KV.set_wf _ _ _ | with_reducible exact KV.put_wf _ _ | with_reducible exact KV.filter_wf _ | with_reducible exact List.prefix_rfl | with_reducible exact List.prefix_append _ _ | with_reducible exact KV.map_wf (fun _ => rfl) | with_reducible exact fun _ => KV.foldl_set_wf _ _ _ rfl | (simp; done) | skip) | with_reducible apply Keeps.ite | with_reducible apply Keeps.ite1 | (with_reducible apply Keeps.foldl; intro s₁ x₁; have h₁ : Keeps m₀ s₁ s₁ := Keeps.refl s₁; try dsimp +zetaDelta only) | (with_reducible apply Keeps.foldl1; intro s₁ x₁; have h₁ : Keeps m₀ s₁.1 s₁.1 := Keeps.refl s₁.1; try dsimp +zetaDelta only) | extract_lets | split | dsimp +zetaDelta only)

theorem keeps_State_modShape {m₀ : Bool} {a₀ s₀ : State} (h₀ : Keeps m₀ a₀ s₀) {n : Nat} {g : AgShape → AgShape} :
    Keeps m₀ a₀ (State.modShape s₀ n g) := by
  unfold State.modShape
  try extract_lets
  repeat' (first | with_reducible assumption | (fail_if_no_progress (with_reducible apply Keeps.upd) <;> first | with_reducible rfl | with_reducible exact fun x => x | with_reducible exact fun _ => ⟨rfl, rfl, rfl, rfl⟩ | with_reducible exact fun x => absurd x Bool.false_ne_true | with_reducible exact KV.set_wf _ _ _ | with_reducible exact KV.put_wf _ _ | with_reducible exact KV.filter_wf _ | with_reducible exact List.prefix_rfl | with_reducible exact List.prefix_append _ _ | with_reducible exact KV.map_wf (fun _ => rfl) | with_reducible exact fun _ => KV.foldl_set_wf _ _ _ rfl | (simp; done) | skip) | with_reducible apply Keeps.ite | with_reducible apply Keeps.ite1 | (with_reducible apply Keeps.foldl; intro s₁ x₁; have h₁ : Keeps m₀ s₁ s₁ := Keeps.refl s₁; try dsimp +zetaDelta only) | (with_reducible apply Keeps.foldl1; intro s₁ x₁; have h₁ : Keeps m₀ s₁.1 s₁.1 := Keeps.refl s₁.1; try dsimp +zetaDelta only) | extract_lets | split | dsimp +zetaDelta only)

theorem keeps_State_modShaper {m₀ : Bool} {a₀ s₀ : State} (h₀ : Keeps m₀ a₀ s₀) {f : Sys2Proof.Func} {g : Shaper → Shaper} :
    Keeps m₀ a₀ (State.modShaper s₀ f g) := by
  unfold State.modShaper
  try extract_lets
  repeat' (first | with_reducible assumption | with_reducible apply keeps_State_modShape | with_reducible apply keeps_State_modWicket | (fail_if_no_progress (with_reducible apply Keeps.upd) <;> first | with_reducible rfl | with_reducible exact fun x => x | with_reducible exact fun _ => ⟨rfl, rfl, rfl, rfl⟩ | with_reducible exact fun x => absurd x Bool.false_ne_true | with_reducible exact KV.set_wf _ _ _ | with_reducible exact KV.put_wf _ _ | with_reducible exact KV.filter_wf _ | with_reducible exact List.prefix_rfl | with_reducible exact List.prefix_append _ _ | with_reducible exact KV.map_wf (fun _ => rfl) | with_reducible exact fun _ => KV.foldl_set_wf _ _ _ rfl | (simp; done) | skip) | with_reducible apply Keeps.ite | with_reducible apply Keeps.ite1 | (with_reducible apply Keeps.foldl; intro s₁ x₁; have h₁ : Keeps m₀ s₁ s₁ := Keeps.refl s₁; try dsimp +zetaDelta only) | (with_reducible apply Keeps.foldl1; intro s₁ x₁; have h₁ : Keeps m₀ s₁.1 s₁.1 := Keeps.refl s₁.1; try dsimp +zetaDelta only) | extract_lets | split | dsimp +zetaDelta only)

theorem keeps_State_modStream {m₀ : Bool} {a₀ s₀ : State} (h₀ : Keeps m₀ a₀ s₀) {k : Nat} {f : Stream → Stream} :
    Keeps m₀ a₀ (State.modStream s₀ k f) := by
  unfold State.modStream
  try extract_lets
  repeat' (first | with_reducible assumption | (fail_if_no_progress (with_reducible apply Keeps.upd) <;> first | with_reducible rfl | with_reducible exact fun x => x | with_reducible exact fun _ => ⟨rfl, rfl, rfl, rfl⟩ | with_reducible exact fun x => absurd x Bool.false_ne_true | with_reducible exact KV.set_wf _ _ _ | with_reducible exact KV.put_wf _ _ | with_reducible exact KV.filter_wf _ | with_reducible exact List.prefix_rfl | with_reducible exact List.prefix_append _ _ | with_reducible exact KV.map_wf (fun _ => rfl) | with_reducible exact fun _ => KV.foldl_set_wf _ _ _ rfl | (simp; done) | skip) | with_reducible apply Keeps.ite | with_reducible apply Keeps.ite1 | (with_reducible apply Keeps.foldl; intro s₁ x₁; have h₁ : Keeps m₀ s₁ s₁ := Keeps.refl s₁; try dsimp +zetaDelta only) | (with_reducible apply Keeps.foldl1; intro s₁ x₁; have h₁ : Keeps m₀ s₁.1 s₁.1 := Keeps.refl s₁.1; try dsimp +zetaDelta only) | extract_lets | split | dsimp +zetaDelta only)

theorem keeps_State_setFn {m₀ : Bool} {a₀ s₀ : State} (h₀ : Keeps m₀ a₀ s₀) {f : Sys2Proof.Func} {x : Fn} :
    Keeps m₀ a₀ (State.setFn s₀ f x) := by
  unfold State.setFn
  try extract_lets
  repeat' (first | with_reducible assumption | with_reducible apply keeps_State_modShaper | with_reducible apply keeps_State_modStream | with_reducible apply keeps_State_modTill | with_reducible apply keeps_State_modWicket | (fail_if_no_progress (with_reducible apply Keeps.upd) <;> first | with_reducible rfl | with_reducible exact fun x => x | with_reducible exact fun _ => ⟨rfl, rfl, rfl, rfl⟩ | with_reducible exact fun x => absurd x Bool.false_ne_true | with_reducible exact KV.set_wf _ _ _ | with_reducible exact KV.put_wf _ _ | with_reducible exact KV.filter_wf _ | with_reducible exact List.prefix_rfl | with_reducible exact List.prefix_append _ _ | with_reducible exact KV.map_wf (fun _ => rfl) | with_reducible exact fun _ => KV.foldl_set_wf _ _ _ rfl | (simp; done) | skip) | with_reducible apply Keeps.ite | with_reducible apply Keeps.ite1 | (with_reducible apply Keeps.foldl; intro s₁ x₁; have h₁ : Keeps m₀ s₁ s₁ := Keeps.refl s₁; try dsimp +zetaDelta only) | (with_reducible apply Keeps.foldl1; intro s₁ x₁; have h₁ : Keeps m₀ s₁.1 s₁.1 := Keeps.refl s₁.1; try dsimp +zetaDelta only) | extract_lets | split | dsimp +zetaDelta only)

theorem keeps_drainWay {m₀ : Bool} {a₀ s₀ : State} (h₀ : Keeps m₀ a₀ s₀) {w : Nat} :
    Keeps m₀ a₀ (drainWay s₀ w) := by
  unfold drainWay
  try extract_lets
  repeat' (first | with_reducible assumption | with_reducible apply keeps_State_modTill | with_reducible apply keeps_evictWay | (fail_if_no_progress (with_reducible apply Keeps.upd) <;> first | with_reducible rfl | with_reducible exact fun x => x | with_reducible exact fun _ => ⟨rfl, rfl, rfl, rfl⟩ | with_reducible exact fun x => absurd x Bool.false_ne_true | with_reducible exact KV.set_wf _ _ _ | with_reducible exact KV.put_wf _ _ | with_reducible exact KV.filter_wf _ | with_reducible exact List.prefix_rfl | with_reducible exact List.prefix_append _ _ | with_reducible exact KV.map_wf (fun _ => rfl) | with_reducible exact fun _ => KV.foldl_set_wf _ _ _ rfl | (simp; done) | skip) | with_reducible apply Keeps.ite | with_reducible apply Keeps.ite1 | (with_reducible apply Keeps.foldl; intro s₁ x₁; have h₁ : Keeps m₀ s₁ s₁ := Keeps.refl s₁; try dsimp +zetaDelta only) | (with_reducible apply Keeps.foldl1; intro s₁ x₁; have h₁ : Keeps m₀ s₁.1 s₁.1 := Keeps.refl s₁.1; try dsimp +zetaDelta only) | extract_lets | split | dsimp +zetaDelta only)

theorem keeps_startMapCommit {m₀ : Bool} {a₀ s₀ : State} (h₀ : Keeps m₀ a₀ s₀) {m : KV Nat} {byTransfer : Bool} :
    Keeps m₀ a₀ (startMapCommit s₀ m byTransfer) := by
  unfold startMapCommit
  try extract_lets
  repeat' (first | with_reducible assumption | (fail_if_no_progress (with_reducible apply Keeps.upd) <;> first | with_reducible rfl | with_reducible exact fun x => x | with_reducible exact fun _ => ⟨rfl, rfl, rfl, rfl⟩ | with_reducible exact fun x => absurd x Bool.false_ne_true | with_reducible exact KV.set_wf _ _ _ | with_reducible exact KV.put_wf _ _ | with_reducible exact KV.filter_wf _ | with_reducible exact List.prefix_rfl | with_reducible exact List.prefix_append _ _ | with_reducible exact KV.map_wf (fun _ => rfl) | with_reducible exact fun _ => KV.foldl_set_wf _ _ _ rfl | (simp; done) | skip) | with_reducible apply Keeps.ite | with_reducible apply Keeps.ite1 | (with_reducible apply Keeps.foldl; intro s₁ x₁; have h₁ : Keeps m₀ s₁ s₁ := Keeps.refl s₁; try dsimp +zetaDelta only) | (with_reducible apply Keeps.foldl1; intro s₁ x₁; have h₁ : Keeps m₀ s₁.1 s₁.1 := Keeps.refl s₁.1; try dsimp +zetaDelta only) | extract_lets | split | dsimp +zetaDelta only)

theorem keeps_moveBuckets {m₀ : Bool} {a₀ s₀ : State} (h₀ : Keeps m₀ a₀ s₀) {l : List Nat} {d : Nat} :
    Keeps m₀ a₀ (moveBuckets s₀ l d) := by
  unfold moveBuckets
  try extract_lets
  repeat' (first | with_reducible assumption | with_reducible apply keeps_State_modTill | with_reducible apply keeps_startMapCommit | (fail_if_no_progress (with_reducible apply Keeps.upd) <;> first | with_reducible rfl | with_reducible exact fun x => x | with_reducible exact fun _ => ⟨rfl, rfl, rfl, rfl⟩ | with_reducible exact fun x => absurd x Bool.false_ne_true | with_reducible exact KV.set_wf _ _ _ | with_reducible exact KV.put_wf _ _ | with_reducible exact KV.filter_wf _ | with_reducible exact List.prefix_rfl | with_reducible exact List.prefix_append _ _ | with_reducible exact KV.map_wf (fun _ => rfl) | with_reducible exact fun _ => KV.foldl_set_wf _ _ _ rfl | (simp; done) | skip) | with_reducible apply Keeps.ite | with_reducible apply Keeps.ite1 | (with_reducible apply Keeps.foldl; intro s₁ x₁; have h₁ : Keeps m₀ s₁ s₁ := Keeps.refl s₁; try dsimp +zetaDelta only) | (with_reducible apply Keeps.foldl1; intro s₁ x₁; have h₁ : Keeps m₀ s₁.1 s₁.1 := Keeps.refl s₁.1; try dsimp +zetaDelta only) | extract_lets | split | dsimp +zetaDelta only)

theorem keeps_startForced {m₀ : Bool} {a₀ s₀ : State} (h₀ : Keeps m₀ a₀ s₀) {x : Transfer} :
    Keeps m₀ a₀ (startForced s₀ x) := by
  unfold startForced
  try extract_lets
  repeat' (first | with_reducible assumption | with_reducible apply keeps_State_modTill | with_reducible apply keeps_endHalt | with_reducible apply keeps_moveBuckets | (fail_if_no_progress (with_reducible apply Keeps.upd) <;> first | with_reducible rfl | with_reducible exact fun x => x | with_reducible exact fun _ => ⟨rfl, rfl, rfl, rfl⟩ | with_reducible exact fun x => absurd x Bool.false_ne_true | with_reducible exact KV.set_wf _ _ _ | with_reducible exact KV.put_wf _ _ | with_reducible exact KV.filter_wf _ | with_reducible exact List.prefix_rfl | with_reducible exact List.prefix_append _ _ | with_reducible exact KV.map_wf (fun _ => rfl) | with_reducible exact fun _ => KV.foldl_set_wf _ _ _ rfl | (simp; done) | skip) | with_reducible apply Keeps.ite | with_reducible apply Keeps.ite1 | (with_reducible apply Keeps.foldl; intro s₁ x₁; have h₁ : Keeps m₀ s₁ s₁ := Keeps.refl s₁; try dsimp +zetaDelta only) | (with_reducible apply Keeps.foldl1; intro s₁ x₁; have h₁ : Keeps m₀ s₁.1 s₁.1 := Keeps.refl s₁.1; try dsimp +zetaDelta only) | extract_lets | split | dsimp +zetaDelta only)

theorem keeps_State_modXfer {m₀ : Bool} {a₀ s₀ : State} (h₀ : Keeps m₀ a₀ s₀) {src : Nat} {f : Transfer → Transfer} :
    Keeps m₀ a₀ (State.modXfer s₀ src f) := by
  unfold State.modXfer
  try extract_lets
  repeat' (first | with_reducible assumption | (fail_if_no_progress (with_reducible apply Keeps.upd) <;> first | with_reducible rfl | with_reducible exact fun x => x | with_reducible exact fun _ => ⟨rfl, rfl, rfl, rfl⟩ | with_reducible exact fun x => absurd x Bool.false_ne_true | with_reducible exact KV.set_wf _ _ _ | with_reducible exact KV.put_wf _ _ | with_reducible exact KV.filter_wf _ | with_reducible exact List.prefix_rfl | with_reducible exact List.prefix_append _ _ | with_reducible exact KV.map_wf (fun _ => rfl) | with_reducible exact fun _ => KV.foldl_set_wf _ _ _ rfl | (simp; done) | skip) | with_reducible apply Keeps.ite | with_reducible apply Keeps.ite1 | (with_reducible apply Keeps.foldl; intro s₁ x₁; have h₁ : Keeps m₀ s₁ s₁ := Keeps.refl s₁; try dsimp +zetaDelta only) | (with_reducible apply Keeps.foldl1; intro s₁ x₁; have h₁ : Keeps m₀ s₁.1 s₁.1 := Keeps.refl s₁.1; try dsimp +zetaDelta only) | extract_lets | split | dsimp +zetaDelta only)

theorem keeps_startPlanned {m₀ : Bool} {a₀ s₀ : State} (h₀ : Keeps m₀ a₀ s₀) {x : Transfer} :
    Keeps m₀ a₀ (startPlanned s₀ x) := by
  unfold startPlanned
  try extract_lets
  repeat' (first | with_reducible assumption | with_reducible apply keeps_State_modTill | with_reducible apply keeps_State_modXfer | with_reducible apply keeps_endHalt | (fail_if_no_progress (with_reducible apply Keeps.upd) <;> first | with_reducible rfl | with_reducible exact fun x => x | with_reducible exact fun _ => ⟨rfl, rfl, rfl, rfl⟩ | with_reducible exact fun x => absurd x Bool.false_ne_true | with_reducible exact KV.set_wf _ _ _ | with_reducible exact KV.put_wf _ _ | with_reducible exact KV.filter_wf _ | with_reducible exact List.prefix_rfl | with_reducible exact List.prefix_append _ _ | with_reducible exact KV.map_wf (fun _ => rfl) | with_reducible exact fun _ => KV.foldl_set_wf _ _ _ rfl | (simp; done) | skip) | with_reducible apply Keeps.ite | with_reducible apply Keeps.ite1 | (with_reducible apply Keeps.foldl; intro s₁ x₁; have h₁ : Keeps m₀ s₁ s₁ := Keeps.refl s₁; try dsimp +zetaDelta only) | (with_reducible apply Keeps.foldl1; intro s₁ x₁; have h₁ : Keeps m₀ s₁.1 s₁.1 := Keeps.refl s₁.1; try dsimp +zetaDelta only) | extract_lets | split | dsimp +zetaDelta only)

theorem keeps_nextTransfer {m₀ : Bool} {a₀ s₀ : State} (h₀ : Keeps m₀ a₀ s₀)  :
    Keeps m₀ a₀ (nextTransfer s₀) := by
  unfold nextTransfer
  try extract_lets
  repeat' (first | with_reducible assumption | with_reducible apply keeps_startForced | with_reducible apply keeps_startPlanned | (fail_if_no_progress (with_reducible apply Keeps.upd) <;> first | with_reducible rfl | with_reducible exact fun x => x | with_reducible exact fun _ => ⟨rfl, rfl, rfl, rfl⟩ | with_reducible exact fun x => absurd x Bool.false_ne_true | with_reducible exact KV.set_wf _ _ _ | with_reducible exact KV.put_wf _ _ | with_reducible exact KV.filter_wf _ | with_reducible exact List.prefix_rfl | with_reducible exact List.prefix_append _ _ | with_reducible exact KV.map_wf (fun _ => rfl) | with_reducible exact fun _ => KV.foldl_set_wf _ _ _ rfl | (simp; done) | skip) | with_reducible apply Keeps.ite | with_reducible apply Keeps.ite1 | (with_reducible apply Keeps.foldl; intro s₁ x₁; have h₁ : Keeps m₀ s₁ s₁ := Keeps.refl s₁; try dsimp +zetaDelta only) | (with_reducible apply Keeps.foldl1; intro s₁ x₁; have h₁ : Keeps m₀ s₁.1 s₁.1 := Keeps.refl s₁.1; try dsimp +zetaDelta only) | extract_lets | split | dsimp +zetaDelta only)

theorem keeps_planTransfer {m₀ : Bool} {a₀ s₀ : State} (h₀ : Keeps m₀ a₀ s₀) {t : Nat} :
    Keeps m₀ a₀ (planTransfer s₀ t) := by
  unfold planTransfer
  try extract_lets
  repeat' (first | with_reducible assumption | with_reducible apply keeps_nextTransfer | (fail_if_no_progress (with_reducible apply Keeps.upd) <;> first | with_reducible rfl | with_reducible exact fun x => x | with_reducible exact fun _ => ⟨rfl, rfl, rfl, rfl⟩ | with_reducible exact fun x => absurd x Bool.false_ne_true | with_reducible exact KV.set_wf _ _ _ | with_reducible exact KV.put_wf _ _ | with_reducible exact KV.filter_wf _ | with_reducible exact List.prefix_rfl | with_reducible exact List.prefix_append _ _ | with_reducible exact KV.map_wf (fun _ => rfl) | with_reducible exact fun _ => KV.foldl_set_wf _ _ _ rfl | (simp; done) | skip) | with_reducible apply Keeps.ite | with_reducible apply Keeps.ite1 | (with_reducible apply Keeps.foldl; intro s₁ x₁; have h₁ : Keeps m₀ s₁ s₁ := Keeps.refl s₁; try dsimp +zetaDelta only) | (with_reducible apply Keeps.foldl1; intro s₁ x₁; have h₁ : Keeps m₀ s₁.1 s₁.1 := Keeps.refl s₁.1; try dsimp +zetaDelta only) | extract_lets | split | dsimp +zetaDelta only)

theorem keeps_startDrain {m₀ : Bool} {a₀ s₀ : State} (h₀ : Keeps m₀ a₀ s₀) {f : Sys2Proof.Func} :
    Keeps m₀ a₀ (startDrain s₀ f) := by
  unfold startDrain
  try extract_lets
  repeat' (first | with_reducible assumption | with_reducible apply keeps_State_modTill | with_reducible apply keeps_drainWay | with_reducible apply keeps_drainWhere | with_reducible apply keeps_planTransfer | with_reducible apply keeps_returnLoans | (fail_if_no_progress (with_reducible apply Keeps.upd) <;> first | with_reducible rfl | with_reducible exact fun x => x | with_reducible exact fun _ => ⟨rfl, rfl, rfl, rfl⟩ | with_reducible exact fun x => absurd x Bool.false_ne_true | with_reducible exact KV.set_wf _ _ _ | with_reducible exact KV.put_wf _ _ | with_reducible exact KV.filter_wf _ | with_reducible exact List.prefix_rfl | with_reducible exact List.prefix_append _ _ | with_reducible exact KV.map_wf (fun _ => rfl) | with_reducible exact fun _ => KV.foldl_set_wf _ _ _ rfl | (simp; done) | skip) | with_reducible apply Keeps.ite | with_reducible apply Keeps.ite1 | (with_reducible apply Keeps.foldl; intro s₁ x₁; have h₁ : Keeps m₀ s₁ s₁ := Keeps.refl s₁; try dsimp +zetaDelta only) | (with_reducible apply Keeps.foldl1; intro s₁ x₁; have h₁ : Keeps m₀ s₁.1 s₁.1 := Keeps.refl s₁.1; try dsimp +zetaDelta only) | extract_lets | split | dsimp +zetaDelta only)

theorem keeps_startEnabling {m₀ : Bool} {a₀ s₀ : State} (h₀ : Keeps m₀ a₀ s₀) {f : Sys2Proof.Func} :
    Keeps m₀ a₀ (startEnabling s₀ f) := by
  unfold startEnabling
  try extract_lets
  repeat' (first | with_reducible assumption | with_reducible apply keeps_State_modStream | with_reducible apply keeps_regrant | (fail_if_no_progress (with_reducible apply Keeps.upd) <;> first | with_reducible rfl | with_reducible exact fun x => x | with_reducible exact fun _ => ⟨rfl, rfl, rfl, rfl⟩ | with_reducible exact fun x => absurd x Bool.false_ne_true | with_reducible exact KV.set_wf _ _ _ | with_reducible exact KV.put_wf _ _ | with_reducible exact KV.filter_wf _ | with_reducible exact List.prefix_rfl | with_reducible exact List.prefix_append _ _ | with_reducible exact KV.map_wf (fun _ => rfl) | with_reducible exact fun _ => KV.foldl_set_wf _ _ _ rfl | (simp; done) | skip) | with_reducible apply Keeps.ite | with_reducible apply Keeps.ite1 | (with_reducible apply Keeps.foldl; intro s₁ x₁; have h₁ : Keeps m₀ s₁ s₁ := Keeps.refl s₁; try dsimp +zetaDelta only) | (with_reducible apply Keeps.foldl1; intro s₁ x₁; have h₁ : Keeps m₀ s₁.1 s₁.1 := Keeps.refl s₁.1; try dsimp +zetaDelta only) | extract_lets | split | dsimp +zetaDelta only)

theorem keeps_goOn {m₀ : Bool} {a₀ s₀ : State} (h₀ : Keeps m₀ a₀ s₀) {f : Sys2Proof.Func} {r : Fn × Start} :
    Keeps m₀ a₀ (goOn s₀ f r) := by
  unfold goOn
  try extract_lets
  repeat' (first | with_reducible assumption | with_reducible apply keeps_State_setFn | with_reducible apply keeps_startDrain | with_reducible apply keeps_startEnabling | (fail_if_no_progress (with_reducible apply Keeps.upd) <;> first | with_reducible rfl | with_reducible exact fun x => x | with_reducible exact fun _ => ⟨rfl, rfl, rfl, rfl⟩ | with_reducible exact fun x => absurd x Bool.false_ne_true | with_reducible exact KV.set_wf _ _ _ | with_reducible exact KV.put_wf _ _ | with_reducible exact KV.filter_wf _ | with_reducible exact List.prefix_rfl | with_reducible exact List.prefix_append _ _ | with_reducible exact KV.map_wf (fun _ => rfl) | with_reducible exact fun _ => KV.foldl_set_wf _ _ _ rfl | (simp; done) | skip) | with_reducible apply Keeps.ite | with_reducible apply Keeps.ite1 | (with_reducible apply Keeps.foldl; intro s₁ x₁; have h₁ : Keeps m₀ s₁ s₁ := Keeps.refl s₁; try dsimp +zetaDelta only) | (with_reducible apply Keeps.foldl1; intro s₁ x₁; have h₁ : Keeps m₀ s₁.1 s₁.1 := Keeps.refl s₁.1; try dsimp +zetaDelta only) | extract_lets | split | dsimp +zetaDelta only)

theorem keeps_funcCmd {m₀ : Bool} {a₀ s₀ : State} (h₀ : Keeps m₀ a₀ s₀) {f : Sys2Proof.Func} {v : Nat} :
    Keeps m₀ a₀ (funcCmd s₀ f v) := by
  unfold funcCmd
  try extract_lets
  repeat' (first | with_reducible assumption | with_reducible apply keeps_State_setFn | with_reducible apply keeps_goOn | (fail_if_no_progress (with_reducible apply Keeps.upd) <;> first | with_reducible rfl | with_reducible exact fun x => x | with_reducible exact fun _ => ⟨rfl, rfl, rfl, rfl⟩ | with_reducible exact fun x => absurd x Bool.false_ne_true | with_reducible exact KV.set_wf _ _ _ | with_reducible exact KV.put_wf _ _ | with_reducible exact KV.filter_wf _ | with_reducible exact List.prefix_rfl | with_reducible exact List.prefix_append _ _ | with_reducible exact KV.map_wf (fun _ => rfl) | with_reducible exact fun _ => KV.foldl_set_wf _ _ _ rfl | (simp; done) | skip) | with_reducible apply Keeps.ite | with_reducible apply Keeps.ite1 | (with_reducible apply Keeps.foldl; intro s₁ x₁; have h₁ : Keeps m₀ s₁ s₁ := Keeps.refl s₁; try dsimp +zetaDelta only) | (with_reducible apply Keeps.foldl1; intro s₁ x₁; have h₁ : Keeps m₀ s₁.1 s₁.1 := Keeps.refl s₁.1; try dsimp +zetaDelta only) | extract_lets | split | dsimp +zetaDelta only)

theorem keeps_leaveLean {m₀ : Bool} {a₀ s₀ : State} (h₀ : Keeps m₀ a₀ s₀)  :
    Keeps m₀ a₀ (leaveLean s₀) := by
  unfold leaveLean
  try extract_lets
  repeat' (first | with_reducible assumption | with_reducible apply keeps_State_modPower | with_reducible apply keeps_funcCmd | (fail_if_no_progress (with_reducible apply Keeps.upd) <;> first | with_reducible rfl | with_reducible exact fun x => x | with_reducible exact fun _ => ⟨rfl, rfl, rfl, rfl⟩ | with_reducible exact fun x => absurd x Bool.false_ne_true | with_reducible exact KV.set_wf _ _ _ | with_reducible exact KV.put_wf _ _ | with_reducible exact KV.filter_wf _ | with_reducible exact List.prefix_rfl | with_reducible exact List.prefix_append _ _ | with_reducible exact KV.map_wf (fun _ => rfl) | with_reducible exact fun _ => KV.foldl_set_wf _ _ _ rfl | (simp; done) | skip) | with_reducible apply Keeps.ite | with_reducible apply Keeps.ite1 | (with_reducible apply Keeps.foldl; intro s₁ x₁; have h₁ : Keeps m₀ s₁ s₁ := Keeps.refl s₁; try dsimp +zetaDelta only) | (with_reducible apply Keeps.foldl1; intro s₁ x₁; have h₁ : Keeps m₀ s₁.1 s₁.1 := Keeps.refl s₁.1; try dsimp +zetaDelta only) | extract_lets | split | dsimp +zetaDelta only | with_reducible exact fun x => x | (intro hp₀; obtain ⟨hp₁, hp₂⟩ := hp₀; constructor <;> first | with_reducible assumption | omega | (dsimp only; omega) | (dsimp only; split <;> omega)))

theorem keeps_alarmBoundary {m₀ : Bool} {a₀ s₀ : State} (h₀ : Keeps m₀ a₀ s₀)  :
    Keeps m₀ a₀ (alarmBoundary s₀) := by
  unfold alarmBoundary
  try extract_lets
  repeat' (first | with_reducible assumption | (fail_if_no_progress (with_reducible apply Keeps.upd) <;> first | with_reducible rfl | with_reducible exact fun x => x | with_reducible exact fun _ => ⟨rfl, rfl, rfl, rfl⟩ | with_reducible exact fun x => absurd x Bool.false_ne_true | with_reducible exact KV.set_wf _ _ _ | with_reducible exact KV.put_wf _ _ | with_reducible exact KV.filter_wf _ | with_reducible exact List.prefix_rfl | with_reducible exact List.prefix_append _ _ | with_reducible exact KV.map_wf (fun _ => rfl) | with_reducible exact fun _ => KV.foldl_set_wf _ _ _ rfl | (simp; done) | skip) | with_reducible apply Keeps.ite | with_reducible apply Keeps.ite1 | (with_reducible apply Keeps.foldl; intro s₁ x₁; have h₁ : Keeps m₀ s₁ s₁ := Keeps.refl s₁; try dsimp +zetaDelta only) | (with_reducible apply Keeps.foldl1; intro s₁ x₁; have h₁ : Keeps m₀ s₁.1 s₁.1 := Keeps.refl s₁.1; try dsimp +zetaDelta only) | extract_lets | split | dsimp +zetaDelta only)

theorem keeps_readmit {m₀ : Bool} {a₀ s₀ : State} (h₀ : Keeps m₀ a₀ s₀) {a : Sys2Proof.Aid} :
    Keeps m₀ a₀ (readmit s₀ a) := by
  unfold readmit
  try extract_lets
  repeat' (first | with_reducible assumption | with_reducible apply keeps_State_bump | with_reducible apply keeps_State_modWicket | with_reducible apply keeps_State_note | with_reducible apply keeps_State_send | with_reducible apply keeps_State_setAgent | (fail_if_no_progress (with_reducible apply Keeps.upd) <;> first | with_reducible rfl | with_reducible exact fun x => x | with_reducible exact fun _ => ⟨rfl, rfl, rfl, rfl⟩ | with_reducible exact fun x => absurd x Bool.false_ne_true | with_reducible exact KV.set_wf _ _ _ | with_reducible exact KV.put_wf _ _ | with_reducible exact KV.filter_wf _ | with_reducible exact List.prefix_rfl | with_reducible exact List.prefix_append _ _ | with_reducible exact KV.map_wf (fun _ => rfl) | with_reducible exact fun _ => KV.foldl_set_wf _ _ _ rfl | (simp; done) | skip) | with_reducible apply Keeps.ite | with_reducible apply Keeps.ite1 | (with_reducible apply Keeps.foldl; intro s₁ x₁; have h₁ : Keeps m₀ s₁ s₁ := Keeps.refl s₁; try dsimp +zetaDelta only) | (with_reducible apply Keeps.foldl1; intro s₁ x₁; have h₁ : Keeps m₀ s₁.1 s₁.1 := Keeps.refl s₁.1; try dsimp +zetaDelta only) | extract_lets | split | dsimp +zetaDelta only)

theorem keeps_State_modLink {m₀ : Bool} {a₀ s₀ : State} (h₀ : Keeps m₀ a₀ s₀) {l : Nat} {f : Link → Link} :
    Keeps m₀ a₀ (State.modLink s₀ l f) := by
  unfold State.modLink
  try extract_lets
  repeat' (first | with_reducible assumption | (fail_if_no_progress (with_reducible apply Keeps.upd) <;> first | with_reducible rfl | with_reducible exact fun x => x | with_reducible exact fun _ => ⟨rfl, rfl, rfl, rfl⟩ | with_reducible exact fun x => absurd x Bool.false_ne_true | with_reducible exact KV.set_wf _ _ _ | with_reducible exact KV.put_wf _ _ | with_reducible exact KV.filter_wf _ | with_reducible exact List.prefix_rfl | with_reducible exact List.prefix_append _ _ | with_reducible exact KV.map_wf (fun _ => rfl) | with_reducible exact fun _ => KV.foldl_set_wf _ _ _ rfl | (simp; done) | skip) | with_reducible apply Keeps.ite | with_reducible apply Keeps.ite1 | (with_reducible apply Keeps.foldl; intro s₁ x₁; have h₁ : Keeps m₀ s₁ s₁ := Keeps.refl s₁; try dsimp +zetaDelta only) | (with_reducible apply Keeps.foldl1; intro s₁ x₁; have h₁ : Keeps m₀ s₁.1 s₁.1 := Keeps.refl s₁.1; try dsimp +zetaDelta only) | extract_lets | split | dsimp +zetaDelta only)

theorem keeps_failHalf {a₀ s₀ : State} (h₀ : Keeps false a₀ s₀) {l : Nat} {half : Nat} :
    Keeps false a₀ (failHalf s₀ l half) := by
  unfold failHalf
  try extract_lets
  repeat' (first | with_reducible assumption | with_reducible apply keeps_State_emitAs | with_reducible apply keeps_State_modLink | (fail_if_no_progress (with_reducible apply Keeps.upd) <;> first | with_reducible rfl | with_reducible exact fun x => x | with_reducible exact fun _ => ⟨rfl, rfl, rfl, rfl⟩ | with_reducible exact fun x => absurd x Bool.false_ne_true | with_reducible exact KV.set_wf _ _ _ | with_reducible exact KV.put_wf _ _ | with_reducible exact KV.filter_wf _ | with_reducible exact List.prefix_rfl | with_reducible exact List.prefix_append _ _ | with_reducible exact KV.map_wf (fun _ => rfl) | with_reducible exact fun _ => KV.foldl_set_wf _ _ _ rfl | (simp; done) | skip) | with_reducible apply Keeps.ite | with_reducible apply Keeps.ite1 | (with_reducible apply Keeps.foldl; intro s₁ x₁; have h₁ : Keeps false s₁ s₁ := Keeps.refl s₁; try dsimp +zetaDelta only) | (with_reducible apply Keeps.foldl1; intro s₁ x₁; have h₁ : Keeps false s₁.1 s₁.1 := Keeps.refl s₁.1; try dsimp +zetaDelta only) | extract_lets | split | dsimp +zetaDelta only)

theorem keeps_poisonOnLink {m₀ : Bool} {a₀ s₀ : State} (h₀ : Keeps m₀ a₀ s₀) {l : Nat} :
    Keeps m₀ a₀ (poisonOnLink s₀ l) := by
  unfold poisonOnLink
  try extract_lets
  repeat' (first | with_reducible assumption | (fail_if_no_progress (with_reducible apply Keeps.upd) <;> first | with_reducible rfl | with_reducible exact fun x => x | with_reducible exact fun _ => ⟨rfl, rfl, rfl, rfl⟩ | with_reducible exact fun x => absurd x Bool.false_ne_true | with_reducible exact KV.set_wf _ _ _ | with_reducible exact KV.put_wf _ _ | with_reducible exact KV.filter_wf _ | with_reducible exact List.prefix_rfl | with_reducible exact List.prefix_append _ _ | with_reducible exact KV.map_wf (fun _ => rfl) | with_reducible exact fun _ => KV.foldl_set_wf _ _ _ rfl | (simp; done) | skip) | with_reducible apply Keeps.ite | with_reducible apply Keeps.ite1 | (with_reducible apply Keeps.foldl; intro s₁ x₁; have h₁ : Keeps m₀ s₁ s₁ := Keeps.refl s₁; try dsimp +zetaDelta only) | (with_reducible apply Keeps.foldl1; intro s₁ x₁; have h₁ : Keeps m₀ s₁.1 s₁.1 := Keeps.refl s₁.1; try dsimp +zetaDelta only) | extract_lets | split | dsimp +zetaDelta only)

theorem keeps_linkError {a₀ s₀ : State} (h₀ : Keeps false a₀ s₀) {l : Nat} {half : Nat} {e : Sys2Proof.LinkEvent} :
    Keeps false a₀ (linkError s₀ l half e) := by
  unfold linkError
  try extract_lets
  repeat' (first | with_reducible assumption | with_reducible apply keeps_State_bump | with_reducible apply keeps_State_emitAs | with_reducible apply keeps_State_modLink | with_reducible apply keeps_failHalf | with_reducible apply keeps_poisonOnLink | (fail_if_no_progress (with_reducible apply Keeps.upd) <;> first | with_reducible rfl | with_reducible exact fun x => x | with_reducible exact fun _ => ⟨rfl, rfl, rfl, rfl⟩ | with_reducible exact fun x => absurd x Bool.false_ne_true | with_reducible exact KV.set_wf _ _ _ | with_reducible exact KV.put_wf _ _ | with_reducible exact KV.filter_wf _ | with_reducible exact List.prefix_rfl | with_reducible exact List.prefix_append _ _ | with_reducible exact KV.map_wf (fun _ => rfl) | with_reducible exact fun _ => KV.foldl_set_wf _ _ _ rfl | (simp; done) | skip) | with_reducible apply Keeps.ite | with_reducible apply Keeps.ite1 | (with_reducible apply Keeps.foldl; intro s₁ x₁; have h₁ : Keeps false s₁ s₁ := Keeps.refl s₁; try dsimp +zetaDelta only) | (with_reducible apply Keeps.foldl1; intro s₁ x₁; have h₁ : Keeps false s₁.1 s₁.1 := Keeps.refl s₁.1; try dsimp +zetaDelta only) | extract_lets | split | dsimp +zetaDelta only)

theorem keeps_enterSet {m₀ : Bool} {a₀ s₀ : State} (h₀ : Keeps m₀ a₀ s₀) {t : Nat} {bank : Nat} {set : Nat} :
    Keeps m₀ a₀ (enterSet s₀ t bank set) := by
  unfold enterSet
  try extract_lets
  repeat' (first | with_reducible assumption | with_reducible apply keeps_State_modTill | (fail_if_no_progress (with_reducible apply Keeps.upd) <;> first | with_reducible rfl | with_reducible exact fun x => x | with_reducible exact fun _ => ⟨rfl, rfl, rfl, rfl⟩ | with_reducible exact fun x => absurd x Bool.false_ne_true | with_reducible exact KV.set_wf _ _ _ | with_reducible exact KV.put_wf _ _ | with_reducible exact KV.filter_wf _ | with_reducible exact List.prefix_rfl | with_reducible exact List.prefix_append _ _ | with_reducible exact KV.map_wf (fun _ => rfl) | with_reducible exact fun _ => KV.foldl_set_wf _ _ _ rfl | (simp; done) | skip) | with_reducible apply Keeps.ite | with_reducible apply Keeps.ite1 | (with_reducible apply Keeps.foldl; intro s₁ x₁; have h₁ : Keeps m₀ s₁ s₁ := Keeps.refl s₁; try dsimp +zetaDelta only) | (with_reducible apply Keeps.foldl1; intro s₁ x₁; have h₁ : Keeps m₀ s₁.1 s₁.1 := Keeps.refl s₁.1; try dsimp +zetaDelta only) | extract_lets | split | dsimp +zetaDelta only)

theorem keeps_moveReceipt {m₀ : Bool} {a₀ s₀ : State} (h₀ : Keeps m₀ a₀ s₀) {src : Nat} {d : Nat} {r : Receipt} :
    Keeps m₀ a₀ (moveReceipt src d s₀ r) := by
  unfold moveReceipt
  try extract_lets
  repeat' (first | with_reducible assumption | with_reducible apply keeps_State_modTill | with_reducible apply keeps_State_setFolio | (fail_if_no_progress (with_reducible apply Keeps.upd) <;> first | with_reducible rfl | with_reducible exact fun x => x | with_reducible exact fun _ => ⟨rfl, rfl, rfl, rfl⟩ | with_reducible exact fun x => absurd x Bool.false_ne_true | with_reducible exact KV.set_wf _ _ _ | with_reducible exact KV.put_wf _ _ | with_reducible exact KV.filter_wf _ | with_reducible exact List.prefix_rfl | with_reducible exact List.prefix_append _ _ | with_reducible exact KV.map_wf (fun _ => rfl) | with_reducible exact fun _ => KV.foldl_set_wf _ _ _ rfl | (simp; done) | skip) | with_reducible apply Keeps.ite | with_reducible apply Keeps.ite1 | (with_reducible apply Keeps.foldl; intro s₁ x₁; have h₁ : Keeps m₀ s₁ s₁ := Keeps.refl s₁; try dsimp +zetaDelta only) | (with_reducible apply Keeps.foldl1; intro s₁ x₁; have h₁ : Keeps m₀ s₁.1 s₁.1 := Keeps.refl s₁.1; try dsimp +zetaDelta only) | extract_lets | split | dsimp +zetaDelta only)

theorem keeps_policeTick {m₀ : Bool} {a₀ s₀ : State} (h₀ : Keeps m₀ a₀ s₀)  :
    Keeps m₀ a₀ (policeTick s₀) := by
  unfold policeTick
  try extract_lets
  repeat' (first | with_reducible assumption | with_reducible apply keeps_State_modStream | (fail_if_no_progress (with_reducible apply Keeps.upd) <;> first | with_reducible rfl | with_reducible exact fun x => x | with_reducible exact fun _ => ⟨rfl, rfl, rfl, rfl⟩ | with_reducible exact fun x => absurd x Bool.false_ne_true | with_reducible exact KV.set_wf _ _ _ | with_reducible exact KV.put_wf _ _ | with_reducible exact KV.filter_wf _ | with_reducible exact List.prefix_rfl | with_reducible exact List.prefix_append _ _ | with_reducible exact KV.map_wf (fun _ => rfl) | with_reducible exact fun _ => KV.foldl_set_wf _ _ _ rfl | (simp; done) | skip) | with_reducible apply Keeps.ite | with_reducible apply Keeps.ite1 | (with_reducible apply Keeps.foldl; intro s₁ x₁; have h₁ : Keeps m₀ s₁ s₁ := Keeps.refl s₁; try dsimp +zetaDelta only) | (with_reducible apply Keeps.foldl1; intro s₁ x₁; have h₁ : Keeps m₀ s₁.1 s₁.1 := Keeps.refl s₁.1; try dsimp +zetaDelta only) | extract_lets | split | dsimp +zetaDelta only)

theorem keeps_gatherNext {m₀ : Bool} {a₀ s₀ : State} (h₀ : Keeps m₀ a₀ s₀) {x0 : Nat} {x2 : Nat} {x3 : Nat} :
    Keeps m₀ a₀ (gatherNext x0 s₀ x2 x3) := by
  induction x0 generalizing s₀ with
  | zero => unfold gatherNext; exact h₀
  | succ n ih =>
    unfold gatherNext
    try extract_lets
    repeat' (first | with_reducible assumption | with_reducible apply ih | with_reducible refine keeps_startSecOp_eq (by assumption) ?_ | with_reducible apply keeps_State_bump | with_reducible apply keeps_State_modClaim | with_reducible apply keeps_State_modGather | with_reducible apply keeps_State_modTill | with_reducible apply keeps_complete | with_reducible apply keeps_failEnd | with_reducible apply keeps_startSecOp | (fail_if_no_progress (with_reducible apply Keeps.upd) <;> first | with_reducible rfl | with_reducible exact fun x => x | with_reducible exact fun _ => ⟨rfl, rfl, rfl, rfl⟩ | with_reducible exact fun x => absurd x Bool.false_ne_true | with_reducible exact KV.set_wf _ _ _ | with_reducible exact KV.put_wf _ _ | with_reducible exact KV.filter_wf _ | with_reducible exact List.prefix_rfl | with_reducible exact List.prefix_append _ _ | with_reducible exact KV.map_wf (fun _ => rfl) | with_reducible exact fun _ => KV.foldl_set_wf _ _ _ rfl | (simp; done) | skip) | with_reducible apply Keeps.ite | with_reducible apply Keeps.ite1 | (with_reducible apply Keeps.foldl; intro s₁ x₁; have h₁ : Keeps m₀ s₁ s₁ := Keeps.refl s₁; try dsimp +zetaDelta only) | (with_reducible apply Keeps.foldl1; intro s₁ x₁; have h₁ : Keeps m₀ s₁.1 s₁.1 := Keeps.refl s₁.1; try dsimp +zetaDelta only) | extract_lets | split | dsimp +zetaDelta only)

theorem keeps_sectorTaken {m₀ : Bool} {a₀ s₀ : State} (h₀ : Keeps m₀ a₀ s₀) {t : Nat} {c : Nat} {sec : Nat} {taken : Bool} :
    Keeps m₀ a₀ (sectorTaken s₀ t c sec taken) := by
  unfold sectorTaken
  try extract_lets
  repeat' (first | with_reducible assumption | with_reducible apply keeps_State_modClaim | with_reducible apply keeps_State_modGather | with_reducible apply keeps_gatherNext | (fail_if_no_progress (with_reducible apply Keeps.upd) <;> first | with_reducible rfl | with_reducible exact fun x => x | with_reducible exact fun _ => ⟨rfl, rfl, rfl, rfl⟩ | with_reducible exact fun x => absurd x Bool.false_ne_true | with_reducible exact KV.set_wf _ _ _ | with_reducible exact KV.put_wf _ _ | with_reducible exact KV.filter_wf _ | with_reducible exact List.prefix_rfl | with_reducible exact List.prefix_append _ _ | with_reducible exact KV.map_wf (fun _ => rfl) | with_reducible exact fun _ => KV.foldl_set_wf _ _ _ rfl | (simp; done) | skip) | with_reducible apply Keeps.ite | with_reducible apply Keeps.ite1 | (with_reducible apply Keeps.foldl; intro s₁ x₁; have h₁ : Keeps m₀ s₁ s₁ := Keeps.refl s₁; try dsimp +zetaDelta only) | (with_reducible apply Keeps.foldl1; intro s₁ x₁; have h₁ : Keeps m₀ s₁.1 s₁.1 := Keeps.refl s₁.1; try dsimp +zetaDelta only) | extract_lets | split | dsimp +zetaDelta only)

theorem keeps_claimWrite {m₀ : Bool} {a₀ s₀ : State} (h₀ : Keeps m₀ a₀ s₀) {t : Nat} {k : Nat} {c : Nat} {o : SecOp} {e : Ent} {add : Bool} :
    Keeps m₀ a₀ (claimWrite s₀ t k c o e add) := by
  unfold claimWrite
  try extract_lets
  repeat' (first | with_reducible assumption | with_reducible refine keeps_findRoom_eq (by assumption) ?_ | with_reducible apply keeps_State_modOp | with_reducible apply keeps_State_modTill | with_reducible apply keeps_clearMons | with_reducible apply keeps_findRoom | with_reducible apply keeps_opEnd | with_reducible apply keeps_sectorTaken | with_reducible apply keeps_startGroup | (fail_if_no_progress (with_reducible apply Keeps.upd) <;> first | with_reducible rfl | with_reducible exact fun x => x | with_reducible exact fun _ => ⟨rfl, rfl, rfl, rfl⟩ | with_reducible exact fun x => absurd x Bool.false_ne_true | with_reducible exact KV.set_wf _ _ _ | with_reducible exact KV.put_wf _ _ | with_reducible exact KV.filter_wf _ | with_reducible exact List.prefix_rfl | with_reducible exact List.prefix_append _ _ | with_reducible exact KV.map_wf (fun _ => rfl) | with_reducible exact fun _ => KV.foldl_set_wf _ _ _ rfl | (simp; done) | skip) | with_reducible apply Keeps.ite | with_reducible apply Keeps.ite1 | (with_reducible apply Keeps.foldl; intro s₁ x₁; have h₁ : Keeps m₀ s₁ s₁ := Keeps.refl s₁; try dsimp +zetaDelta only) | (with_reducible apply Keeps.foldl1; intro s₁ x₁; have h₁ : Keeps m₀ s₁.1 s₁.1 := Keeps.refl s₁.1; try dsimp +zetaDelta only) | extract_lets | split | dsimp +zetaDelta only)

theorem keeps_rebuildDone {m₀ : Bool} {a₀ s₀ : State} (h₀ : Keeps m₀ a₀ s₀) {t : Nat} {b : Nat} :
    Keeps m₀ a₀ (rebuildDone s₀ t b) := by
  unfold rebuildDone
  try extract_lets
  repeat' (first | with_reducible assumption | with_reducible apply keeps_State_modTill | (fail_if_no_progress (with_reducible apply Keeps.upd) <;> first | with_reducible rfl | with_reducible exact fun x => x | with_reducible exact fun _ => ⟨rfl, rfl, rfl, rfl⟩ | with_reducible exact fun x => absurd x Bool.false_ne_true | with_reducible exact KV.set_wf _ _ _ | with_reducible exact KV.put_wf _ _ | with_reducible exact KV.filter_wf _ | with_reducible exact List.prefix_rfl | with_reducible exact List.prefix_append _ _ | with_reducible exact KV.map_wf (fun _ => rfl) | with_reducible exact fun _ => KV.foldl_set_wf _ _ _ rfl | (simp; done) | skip) | with_reducible apply Keeps.ite | with_reducible apply Keeps.ite1 | (with_reducible apply Keeps.foldl; intro s₁ x₁; have h₁ : Keeps m₀ s₁ s₁ := Keeps.refl s₁; try dsimp +zetaDelta only) | (with_reducible apply Keeps.foldl1; intro s₁ x₁; have h₁ : Keeps m₀ s₁.1 s₁.1 := Keeps.refl s₁.1; try dsimp +zetaDelta only) | extract_lets | split | dsimp +zetaDelta only)

theorem keeps_startGroupAt {m₀ : Bool} {a₀ s₀ : State} (h₀ : Keeps m₀ a₀ s₀) {t : Nat} {p : Nat} {g : Nat} {k : GroupKind} :
    Keeps m₀ a₀ (startGroupAt s₀ t p g k) := by
  unfold startGroupAt
  try extract_lets
  repeat' (first | with_reducible assumption | with_reducible refine keeps_takeInternal_eq (by assumption) ?_ | with_reducible apply keeps_State_modTill | with_reducible apply keeps_runGroups | with_reducible apply keeps_takeInternal | (fail_if_no_progress (with_reducible apply Keeps.upd) <;> first | with_reducible rfl | with_reducible exact fun x => x | with_reducible exact fun _ => ⟨rfl, rfl, rfl, rfl⟩ | with_reducible exact fun x => absurd x Bool.false_ne_true | with_reducible exact KV.set_wf _ _ _ | with_reducible exact KV.put_wf _ _ | with_reducible exact KV.filter_wf _ | with_reducible exact List.prefix_rfl | with_reducible exact List.prefix_append _ _ | with_reducible exact KV.map_wf (fun _ => rfl) | with_reducible exact fun _ => KV.foldl_set_wf _ _ _ rfl | (simp; done) | skip) | with_reducible apply Keeps.ite | with_reducible apply Keeps.ite1 | (with_reducible apply Keeps.foldl; intro s₁ x₁; have h₁ : Keeps m₀ s₁ s₁ := Keeps.refl s₁; try dsimp +zetaDelta only) | (with_reducible apply Keeps.foldl1; intro s₁ x₁; have h₁ : Keeps m₀ s₁.1 s₁.1 := Keeps.refl s₁.1; try dsimp +zetaDelta only) | extract_lets | split | dsimp +zetaDelta only)

theorem keeps_takeOrder {m₀ : Bool} {a₀ s₀ : State} (h₀ : Keeps m₀ a₀ s₀) {k : Nat} :
    ∀ t₀, (takeOrder s₀ k) = some t₀ → Keeps m₀ a₀ t₀ := by
  intro t₀ e₀
  unfold takeOrder at e₀
  try dsimp only at e₀
  repeat' (split at e₀)
  all_goals first | (simp only [Option.some.injEq, reduceCtorEq] at e₀; done) | (simp only [Option.some.injEq] at e₀; subst e₀)
  all_goals repeat' (first | with_reducible assumption | (fail_if_no_progress (with_reducible apply Keeps.upd) <;> first | with_reducible rfl | with_reducible exact fun x => x | with_reducible exact fun _ => ⟨rfl, rfl, rfl, rfl⟩ | with_reducible exact fun x => absurd x Bool.false_ne_true | with_reducible exact KV.set_wf _ _ _ | with_reducible exact KV.put_wf _ _ | with_reducible exact KV.filter_wf _ | with_reducible exact List.prefix_rfl | with_reducible exact List.prefix_append _ _ | with_reducible exact KV.map_wf (fun _ => rfl) | with_reducible exact fun _ => KV.foldl_set_wf _ _ _ rfl | (simp; done) | skip) | with_reducible apply Keeps.ite | with_reducible apply Keeps.ite1 | (with_reducible apply Keeps.foldl; intro s₁ x₁; have h₁ : Keeps m₀ s₁ s₁ := Keeps.refl s₁; try dsimp +zetaDelta only) | (with_reducible apply Keeps.foldl1; intro s₁ x₁; have h₁ : Keeps m₀ s₁.1 s₁.1 := Keeps.refl s₁.1; try dsimp +zetaDelta only) | extract_lets | split | dsimp +zetaDelta only)

theorem keeps_takeOrder_eq {m₀ : Bool} {a₀ s₀ u₀ : State} {k : Nat} (e₀ : takeOrder s₀ k = some u₀) (h₀ : Keeps m₀ a₀ s₀) : Keeps m₀ a₀ u₀ :=
  keeps_takeOrder h₀ u₀ e₀

theorem keeps_writeBucket {m₀ : Bool} {a₀ s₀ : State} (h₀ : Keeps m₀ a₀ s₀) {t : Nat} {f : Nat} {addr : Nat} {d : Sys2Proof.LineData} :
    Keeps m₀ a₀ (writeBucket s₀ t f addr d) := by
  unfold writeBucket
  try extract_lets
  repeat' (first | with_reducible assumption | with_reducible apply keeps_pushAcc | (fail_if_no_progress (with_reducible apply Keeps.upd) <;> first | with_reducible rfl | with_reducible exact fun x => x | with_reducible exact fun _ => ⟨rfl, rfl, rfl, rfl⟩ | with_reducible exact fun x => absurd x Bool.false_ne_true | with_reducible exact KV.set_wf _ _ _ | with_reducible exact KV.put_wf _ _ | with_reducible exact KV.filter_wf _ | with_reducible exact List.prefix_rfl | with_reducible exact List.prefix_append _ _ | with_reducible exact KV.map_wf (fun _ => rfl) | with_reducible exact fun _ => KV.foldl_set_wf _ _ _ rfl | (simp; done) | skip) | with_reducible apply Keeps.ite | with_reducible apply Keeps.ite1 | (with_reducible apply Keeps.foldl; intro s₁ x₁; have h₁ : Keeps m₀ s₁ s₁ := Keeps.refl s₁; try dsimp +zetaDelta only) | (with_reducible apply Keeps.foldl1; intro s₁ x₁; have h₁ : Keeps m₀ s₁.1 s₁.1 := Keeps.refl s₁.1; try dsimp +zetaDelta only) | extract_lets | split | dsimp +zetaDelta only)

theorem keeps_writeHeader {m₀ : Bool} {a₀ s₀ : State} (h₀ : Keeps m₀ a₀ s₀) {cur : Nat} {floor : Nat} :
    Keeps m₀ a₀ (writeHeader s₀ cur floor) := by
  unfold writeHeader
  try extract_lets
  repeat' (first | with_reducible assumption | with_reducible refine keeps_takeInternal_eq (by assumption) ?_ | with_reducible apply keeps_State_modFolio | with_reducible apply keeps_takeInternal | with_reducible apply keeps_writeBucket | (fail_if_no_progress (with_reducible apply Keeps.upd) <;> first | with_reducible rfl | with_reducible exact fun x => x | with_reducible exact fun _ => ⟨rfl, rfl, rfl, rfl⟩ | with_reducible exact fun x => absurd x Bool.false_ne_true | with_reducible exact KV.set_wf _ _ _ | with_reducible exact KV.put_wf _ _ | with_reducible exact KV.filter_wf _ | with_reducible exact List.prefix_rfl | with_reducible exact List.prefix_append _ _ | with_reducible exact KV.map_wf (fun _ => rfl) | with_reducible exact fun _ => KV.foldl_set_wf _ _ _ rfl | (simp; done) | skip) | with_reducible apply Keeps.ite | with_reducible apply Keeps.ite1 | (with_reducible apply Keeps.foldl; intro s₁ x₁; have h₁ : Keeps m₀ s₁ s₁ := Keeps.refl s₁; try dsimp +zetaDelta only) | (with_reducible apply Keeps.foldl1; intro s₁ x₁; have h₁ : Keeps m₀ s₁.1 s₁.1 := Keeps.refl s₁.1; try dsimp +zetaDelta only) | extract_lets | split | dsimp +zetaDelta only)

theorem keeps_cellarVisit {m₀ : Bool} {a₀ s₀ : State} (h₀ : Keeps m₀ a₀ s₀) {t : Nat} {p : Nat} {g : Nat} :
    Keeps m₀ a₀ (cellarVisit s₀ t p g) := by
  unfold cellarVisit
  try extract_lets
  repeat' (first | with_reducible assumption | with_reducible refine keeps_takeOrder_eq (by assumption) ?_ | with_reducible apply keeps_State_modTill | with_reducible apply keeps_rebuildDone | with_reducible apply keeps_startGroupAt | with_reducible apply keeps_writeHeader | (fail_if_no_progress (with_reducible apply Keeps.upd) <;> first | with_reducible rfl | with_reducible exact fun x => x | with_reducible exact fun _ => ⟨rfl, rfl, rfl, rfl⟩ | with_reducible exact fun x => absurd x Bool.false_ne_true | with_reducible exact KV.set_wf _ _ _ | with_reducible exact KV.put_wf _ _ | with_reducible exact KV.filter_wf _ | with_reducible exact List.prefix_rfl | with_reducible exact List.prefix_append _ _ | with_reducible exact KV.map_wf (fun _ => rfl) | with_reducible exact fun _ => KV.foldl_set_wf _ _ _ rfl | (simp; done) | skip) | with_reducible apply Keeps.ite | with_reducible apply Keeps.ite1 | (with_reducible apply Keeps.foldl; intro s₁ x₁; have h₁ : Keeps m₀ s₁ s₁ := Keeps.refl s₁; try dsimp +zetaDelta only) | (with_reducible apply Keeps.foldl1; intro s₁ x₁; have h₁ : Keeps m₀ s₁.1 s₁.1 := Keeps.refl s₁.1; try dsimp +zetaDelta only) | extract_lets | split | dsimp +zetaDelta only)

theorem keeps_handOver {m₀ : Bool} {a₀ s₀ : State} (h₀ : Keeps m₀ a₀ s₀) {w : Nat} {c : HeldCmp} {data : Option (Sys2Proof.LineData × Bool)} :
    Keeps m₀ a₀ (handOver s₀ w c data) := by
  unfold handOver
  try extract_lets
  repeat' (first | with_reducible assumption | with_reducible apply keeps_State_modWicket | with_reducible apply keeps_sendCmp | (fail_if_no_progress (with_reducible apply Keeps.upd) <;> first | with_reducible rfl | with_reducible exact fun x => x | with_reducible exact fun _ => ⟨rfl, rfl, rfl, rfl⟩ | with_reducible exact fun x => absurd x Bool.false_ne_true | with_reducible exact KV.set_wf _ _ _ | with_reducible exact KV.put_wf _ _ | with_reducible exact KV.filter_wf _ | with_reducible exact List.prefix_rfl | with_reducible exact List.prefix_append _ _ | with_reducible exact KV.map_wf (fun _ => rfl) | with_reducible exact fun _ => KV.foldl_set_wf _ _ _ rfl | (simp; done) | skip) | with_reducible apply Keeps.ite | with_reducible apply Keeps.ite1 | (with_reducible apply Keeps.foldl; intro s₁ x₁; have h₁ : Keeps m₀ s₁ s₁ := Keeps.refl s₁; try dsimp +zetaDelta only) | (with_reducible apply Keeps.foldl1; intro s₁ x₁; have h₁ : Keeps m₀ s₁.1 s₁.1 := Keeps.refl s₁.1; try dsimp +zetaDelta only) | extract_lets | split | dsimp +zetaDelta only)

theorem keeps_mirrorNote {m₀ : Bool} {a₀ s₀ : State} (h₀ : Keeps m₀ a₀ s₀) {c : HeldCmp} :
    Keeps m₀ a₀ (mirrorNote s₀ c) := by
  unfold mirrorNote
  try extract_lets
  repeat' (first | with_reducible assumption | (fail_if_no_progress (with_reducible apply Keeps.upd) <;> first | with_reducible rfl | with_reducible exact fun x => x | with_reducible exact fun _ => ⟨rfl, rfl, rfl, rfl⟩ | with_reducible exact fun x => absurd x Bool.false_ne_true | with_reducible exact KV.set_wf _ _ _ | with_reducible exact KV.put_wf _ _ | with_reducible exact KV.filter_wf _ | with_reducible exact List.prefix_rfl | with_reducible exact List.prefix_append _ _ | with_reducible exact KV.map_wf (fun _ => rfl) | with_reducible exact fun _ => KV.foldl_set_wf _ _ _ rfl | (simp; done) | skip) | with_reducible apply Keeps.ite | with_reducible apply Keeps.ite1 | (with_reducible apply Keeps.foldl; intro s₁ x₁; have h₁ : Keeps m₀ s₁ s₁ := Keeps.refl s₁; try dsimp +zetaDelta only) | (with_reducible apply Keeps.foldl1; intro s₁ x₁; have h₁ : Keeps m₀ s₁.1 s₁.1 := Keeps.refl s₁.1; try dsimp +zetaDelta only) | extract_lets | split | dsimp +zetaDelta only)

theorem keeps_sendQ {m₀ : Bool} {a₀ s₀ : State} (h₀ : Keeps m₀ a₀ s₀) {q : QFlit} :
    Keeps m₀ a₀ (sendQ s₀ q) := by
  unfold sendQ
  try extract_lets
  repeat' (first | with_reducible assumption | with_reducible apply keeps_State_packet | (fail_if_no_progress (with_reducible apply Keeps.upd) <;> first | with_reducible rfl | with_reducible exact fun x => x | with_reducible exact fun _ => ⟨rfl, rfl, rfl, rfl⟩ | with_reducible exact fun x => absurd x Bool.false_ne_true | with_reducible exact KV.set_wf _ _ _ | with_reducible exact KV.put_wf _ _ | with_reducible exact KV.filter_wf _ | with_reducible exact List.prefix_rfl | with_reducible exact List.prefix_append _ _ | with_reducible exact KV.map_wf (fun _ => rfl) | with_reducible exact fun _ => KV.foldl_set_wf _ _ _ rfl | (simp; done) | skip) | with_reducible apply Keeps.ite | with_reducible apply Keeps.ite1 | (with_reducible apply Keeps.foldl; intro s₁ x₁; have h₁ : Keeps m₀ s₁ s₁ := Keeps.refl s₁; try dsimp +zetaDelta only) | (with_reducible apply Keeps.foldl1; intro s₁ x₁; have h₁ : Keeps m₀ s₁.1 s₁.1 := Keeps.refl s₁.1; try dsimp +zetaDelta only) | extract_lets | split | dsimp +zetaDelta only)

theorem keeps_resend {m₀ : Bool} {a₀ s₀ : State} (h₀ : Keeps m₀ a₀ s₀) {w : Nat} {t : Nat} {c : HeldCmp} :
    Keeps m₀ a₀ (resend s₀ w t c) := by
  unfold resend
  try extract_lets
  repeat' (first | with_reducible assumption | with_reducible apply keeps_sendQ | (fail_if_no_progress (with_reducible apply Keeps.upd) <;> first | with_reducible rfl | with_reducible exact fun x => x | with_reducible exact fun _ => ⟨rfl, rfl, rfl, rfl⟩ | with_reducible exact fun x => absurd x Bool.false_ne_true | with_reducible exact KV.set_wf _ _ _ | with_reducible exact KV.put_wf _ _ | with_reducible exact KV.filter_wf _ | with_reducible exact List.prefix_rfl | with_reducible exact List.prefix_append _ _ | with_reducible exact KV.map_wf (fun _ => rfl) | with_reducible exact fun _ => KV.foldl_set_wf _ _ _ rfl | (simp; done) | skip) | with_reducible apply Keeps.ite | with_reducible apply Keeps.ite1 | (with_reducible apply Keeps.foldl; intro s₁ x₁; have h₁ : Keeps m₀ s₁ s₁ := Keeps.refl s₁; try dsimp +zetaDelta only) | (with_reducible apply Keeps.foldl1; intro s₁ x₁; have h₁ : Keeps m₀ s₁.1 s₁.1 := Keeps.refl s₁.1; try dsimp +zetaDelta only) | extract_lets | split | dsimp +zetaDelta only)

theorem keeps_giveHandle {m₀ : Bool} {a₀ s₀ : State} (h₀ : Keeps m₀ a₀ s₀) {h : Nat} {t : Nat} {c : HeldCmp} :
    Keeps m₀ a₀ (giveHandle s₀ h t c) := by
  unfold giveHandle
  try extract_lets
  repeat' (first | with_reducible assumption | with_reducible apply keeps_sendCmp | (fail_if_no_progress (with_reducible apply Keeps.upd) <;> first | with_reducible rfl | with_reducible exact fun x => x | with_reducible exact fun _ => ⟨rfl, rfl, rfl, rfl⟩ | with_reducible exact fun x => absurd x Bool.false_ne_true | with_reducible exact KV.set_wf _ _ _ | with_reducible exact KV.put_wf _ _ | with_reducible exact KV.filter_wf _ | with_reducible exact List.prefix_rfl | with_reducible exact List.prefix_append _ _ | with_reducible exact KV.map_wf (fun _ => rfl) | with_reducible exact fun _ => KV.foldl_set_wf _ _ _ rfl | (simp; done) | skip) | with_reducible apply Keeps.ite | with_reducible apply Keeps.ite1 | (with_reducible apply Keeps.foldl; intro s₁ x₁; have h₁ : Keeps m₀ s₁ s₁ := Keeps.refl s₁; try dsimp +zetaDelta only) | (with_reducible apply Keeps.foldl1; intro s₁ x₁; have h₁ : Keeps m₀ s₁.1 s₁.1 := Keeps.refl s₁.1; try dsimp +zetaDelta only) | extract_lets | split | dsimp +zetaDelta only)

theorem keeps_takeHandle {m₀ : Bool} {a₀ s₀ : State} (h₀ : Keeps m₀ a₀ s₀) {t : Nat} {c : HeldCmp} :
    Keeps m₀ a₀ (takeHandle s₀ t c) := by
  unfold takeHandle
  try extract_lets
  repeat' (first | with_reducible assumption | with_reducible apply keeps_giveHandle | (fail_if_no_progress (with_reducible apply Keeps.upd) <;> first | with_reducible rfl | with_reducible exact fun x => x | with_reducible exact fun _ => ⟨rfl, rfl, rfl, rfl⟩ | with_reducible exact fun x => absurd x Bool.false_ne_true | with_reducible exact KV.set_wf _ _ _ | with_reducible exact KV.put_wf _ _ | with_reducible exact KV.filter_wf _ | with_reducible exact List.prefix_rfl | with_reducible exact List.prefix_append _ _ | with_reducible exact KV.map_wf (fun _ => rfl) | with_reducible exact fun _ => KV.foldl_set_wf _ _ _ rfl | (simp; done) | skip) | with_reducible apply Keeps.ite | with_reducible apply Keeps.ite1 | (with_reducible apply Keeps.foldl; intro s₁ x₁; have h₁ : Keeps m₀ s₁ s₁ := Keeps.refl s₁; try dsimp +zetaDelta only) | (with_reducible apply Keeps.foldl1; intro s₁ x₁; have h₁ : Keeps m₀ s₁.1 s₁.1 := Keeps.refl s₁.1; try dsimp +zetaDelta only) | extract_lets | split | dsimp +zetaDelta only)

end Sys2Proof.Machine
end

