-- ==== Sys2Proof/Laws/KeepsX3.lean ====
section
/-! SUPPORT. What `Keeps` says of each operation, in the order of the callees. -/

namespace Sys2Proof.Machine
set_option linter.all false

theorem keeps_finishCmp {m₀ : Bool} {a₀ s₀ : State} (h₀ : Keeps m₀ a₀ s₀) {w : Nat} {c : HeldCmp} {data : Option (Sys2Proof.LineData × Bool)} :
    Keeps m₀ a₀ (finishCmp s₀ w c data) := by
  unfold finishCmp
  try extract_lets
  repeat' (first | with_reducible assumption | with_reducible apply keeps_handOver | with_reducible apply keeps_mirrorNote | with_reducible apply keeps_resend | with_reducible apply keeps_takeHandle | (fail_if_no_progress (with_reducible apply Keeps.upd) <;> first | with_reducible rfl | with_reducible exact fun x => x | with_reducible exact fun _ => ⟨rfl, rfl, rfl, rfl⟩ | with_reducible exact fun x => absurd x Bool.false_ne_true | with_reducible exact KV.set_wf _ _ _ | with_reducible exact KV.put_wf _ _ | with_reducible exact KV.filter_wf _ | with_reducible exact List.prefix_rfl | with_reducible exact List.prefix_append _ _ | with_reducible exact KV.map_wf (fun _ => rfl) | with_reducible exact fun _ => KV.foldl_set_wf _ _ _ rfl | (simp; done) | skip) | with_reducible apply Keeps.ite | with_reducible apply Keeps.ite1 | (with_reducible apply Keeps.foldl; intro s₁ x₁; have h₁ : Keeps m₀ s₁ s₁ := Keeps.refl s₁; try dsimp +zetaDelta only) | (with_reducible apply Keeps.foldl1; intro s₁ x₁; have h₁ : Keeps m₀ s₁.1 s₁.1 := Keeps.refl s₁.1; try dsimp +zetaDelta only) | extract_lets | split | dsimp +zetaDelta only)

theorem keeps_flushCmps {m₀ : Bool} {a₀ s₀ : State} (h₀ : Keeps m₀ a₀ s₀) {x0 : Nat} {x2 : Nat} {x3 : Nat} {x4 : Sys2Proof.Aid} :
    Keeps m₀ a₀ (flushCmps x0 s₀ x2 x3 x4) := by
  induction x0 generalizing s₀ with
  | zero => unfold flushCmps; exact h₀
  | succ n ih =>
    unfold flushCmps
    try extract_lets
    repeat' (first | with_reducible assumption | with_reducible apply ih | with_reducible apply keeps_State_modWicket | with_reducible apply keeps_finishCmp | (fail_if_no_progress (with_reducible apply Keeps.upd) <;> first | with_reducible rfl | with_reducible exact fun x => x | with_reducible exact fun _ => ⟨rfl, rfl, rfl, rfl⟩ | with_reducible exact fun x => absurd x Bool.false_ne_true | with_reducible exact KV.set_wf _ _ _ | with_reducible exact KV.put_wf _ _ | with_reducible exact KV.filter_wf _ | with_reducible exact List.prefix_rfl | with_reducible exact List.prefix_append _ _ | with_reducible exact KV.map_wf (fun _ => rfl) | with_reducible exact fun _ => KV.foldl_set_wf _ _ _ rfl | (simp; done) | skip) | with_reducible apply Keeps.ite | with_reducible apply Keeps.ite1 | (with_reducible apply Keeps.foldl; intro s₁ x₁; have h₁ : Keeps m₀ s₁ s₁ := Keeps.refl s₁; try dsimp +zetaDelta only) | (with_reducible apply Keeps.foldl1; intro s₁ x₁; have h₁ : Keeps m₀ s₁.1 s₁.1 := Keeps.refl s₁.1; try dsimp +zetaDelta only) | extract_lets | split | dsimp +zetaDelta only)

theorem keeps_flush {m₀ : Bool} {a₀ s₀ : State} (h₀ : Keeps m₀ a₀ s₀) {w : Nat} {t : Nat} {a : Sys2Proof.Aid} :
    Keeps m₀ a₀ (flush s₀ w t a) := by
  unfold flush
  try extract_lets
  repeat' (first | with_reducible assumption | with_reducible apply keeps_flushCmps | (fail_if_no_progress (with_reducible apply Keeps.upd) <;> first | with_reducible rfl | with_reducible exact fun x => x | with_reducible exact fun _ => ⟨rfl, rfl, rfl, rfl⟩ | with_reducible exact fun x => absurd x Bool.false_ne_true | with_reducible exact KV.set_wf _ _ _ | with_reducible exact KV.put_wf _ _ | with_reducible exact KV.filter_wf _ | with_reducible exact List.prefix_rfl | with_reducible exact List.prefix_append _ _ | with_reducible exact KV.map_wf (fun _ => rfl) | with_reducible exact fun _ => KV.foldl_set_wf _ _ _ rfl | (simp; done) | skip) | with_reducible apply Keeps.ite | with_reducible apply Keeps.ite1 | (with_reducible apply Keeps.foldl; intro s₁ x₁; have h₁ : Keeps m₀ s₁ s₁ := Keeps.refl s₁; try dsimp +zetaDelta only) | (with_reducible apply Keeps.foldl1; intro s₁ x₁; have h₁ : Keeps m₀ s₁.1 s₁.1 := Keeps.refl s₁.1; try dsimp +zetaDelta only) | extract_lets | split | dsimp +zetaDelta only)

theorem keeps_askMargin {m₀ : Bool} {a₀ s₀ : State} (h₀ : Keeps m₀ a₀ s₀) {kind : Nat} {mv : Nat} {mhz : Nat} {why : Nat} :
    Keeps m₀ a₀ (askMargin s₀ kind mv mhz why) := by
  unfold askMargin
  try extract_lets
  repeat' (first | with_reducible assumption | (fail_if_no_progress (with_reducible apply Keeps.upd) <;> first | with_reducible rfl | with_reducible exact fun x => x | with_reducible exact fun _ => ⟨rfl, rfl, rfl, rfl⟩ | with_reducible exact fun x => absurd x Bool.false_ne_true | with_reducible exact KV.set_wf _ _ _ | with_reducible exact KV.put_wf _ _ | with_reducible exact KV.filter_wf _ | with_reducible exact List.prefix_rfl | with_reducible exact List.prefix_append _ _ | with_reducible exact KV.map_wf (fun _ => rfl) | with_reducible exact fun _ => KV.foldl_set_wf _ _ _ rfl | (simp; done) | skip) | with_reducible apply Keeps.ite | with_reducible apply Keeps.ite1 | (with_reducible apply Keeps.foldl; intro s₁ x₁; have h₁ : Keeps m₀ s₁ s₁ := Keeps.refl s₁; try dsimp +zetaDelta only) | (with_reducible apply Keeps.foldl1; intro s₁ x₁; have h₁ : Keeps m₀ s₁.1 s₁.1 := Keeps.refl s₁.1; try dsimp +zetaDelta only) | extract_lets | split | dsimp +zetaDelta only)

theorem keeps_leaveHold {m₀ : Bool} {a₀ s₀ : State} (h₀ : Keeps m₀ a₀ s₀) {cause : Nat} :
    Keeps m₀ a₀ (leaveHold s₀ cause) := by
  unfold leaveHold
  try extract_lets
  repeat' (first | with_reducible assumption | with_reducible apply keeps_State_modPower | with_reducible apply keeps_askMargin | (fail_if_no_progress (with_reducible apply Keeps.upd) <;> first | with_reducible rfl | with_reducible exact fun x => x | with_reducible exact fun _ => ⟨rfl, rfl, rfl, rfl⟩ | with_reducible exact fun x => absurd x Bool.false_ne_true | with_reducible exact KV.set_wf _ _ _ | with_reducible exact KV.put_wf _ _ | with_reducible exact KV.filter_wf _ | with_reducible exact List.prefix_rfl | with_reducible exact List.prefix_append _ _ | with_reducible exact KV.map_wf (fun _ => rfl) | with_reducible exact fun _ => KV.foldl_set_wf _ _ _ rfl | (simp; done) | skip) | with_reducible apply Keeps.ite | with_reducible apply Keeps.ite1 | (with_reducible apply Keeps.foldl; intro s₁ x₁; have h₁ : Keeps m₀ s₁ s₁ := Keeps.refl s₁; try dsimp +zetaDelta only) | (with_reducible apply Keeps.foldl1; intro s₁ x₁; have h₁ : Keeps m₀ s₁.1 s₁.1 := Keeps.refl s₁.1; try dsimp +zetaDelta only) | extract_lets | split | dsimp +zetaDelta only | with_reducible exact fun x => x | (intro hp₀; obtain ⟨hp₁, hp₂⟩ := hp₀; constructor <;> first | with_reducible assumption | omega | (dsimp only; omega) | (dsimp only; split <;> omega)))

theorem keeps_opStore {m₀ : Bool} {a₀ s₀ : State} (h₀ : Keeps m₀ a₀ s₀) {t : Nat} {k : Nat} {o : SecOp} {e : Ent} :
    Keeps m₀ a₀ (opStore s₀ t k o e) := by
  unfold opStore
  try extract_lets
  repeat' (first | with_reducible assumption | with_reducible apply keeps_State_modOp | with_reducible apply keeps_State_modTill | with_reducible apply keeps_opEnd | with_reducible apply keeps_startGroup | (fail_if_no_progress (with_reducible apply Keeps.upd) <;> first | with_reducible rfl | with_reducible exact fun x => x | with_reducible exact fun _ => ⟨rfl, rfl, rfl, rfl⟩ | with_reducible exact fun x => absurd x Bool.false_ne_true | with_reducible exact KV.set_wf _ _ _ | with_reducible exact KV.put_wf _ _ | with_reducible exact KV.filter_wf _ | with_reducible exact List.prefix_rfl | with_reducible exact List.prefix_append _ _ | with_reducible exact KV.map_wf (fun _ => rfl) | with_reducible exact fun _ => KV.foldl_set_wf _ _ _ rfl | (simp; done) | skip) | with_reducible apply Keeps.ite | with_reducible apply Keeps.ite1 | (with_reducible apply Keeps.foldl; intro s₁ x₁; have h₁ : Keeps m₀ s₁ s₁ := Keeps.refl s₁; try dsimp +zetaDelta only) | (with_reducible apply Keeps.foldl1; intro s₁ x₁; have h₁ : Keeps m₀ s₁.1 s₁.1 := Keeps.refl s₁.1; try dsimp +zetaDelta only) | extract_lets | split | dsimp +zetaDelta only)

theorem keeps_opSnooped {m₀ : Bool} {a₀ s₀ : State} (h₀ : Keeps m₀ a₀ s₀) {t : Nat} {k : Nat} :
    Keeps m₀ a₀ (opSnooped s₀ t k) := by
  unfold opSnooped
  try extract_lets
  repeat' (first | with_reducible assumption | with_reducible apply keeps_State_modOp | with_reducible apply keeps_claimWrite | with_reducible apply keeps_opEnd | with_reducible apply keeps_opStore | with_reducible apply keeps_reclaimEnd | with_reducible apply keeps_sectorTaken | with_reducible apply keeps_startGroup | with_reducible apply keeps_writeMemo | with_reducible apply keeps_writeOff | (fail_if_no_progress (with_reducible apply Keeps.upd) <;> first | with_reducible rfl | with_reducible exact fun x => x | with_reducible exact fun _ => ⟨rfl, rfl, rfl, rfl⟩ | with_reducible exact fun x => absurd x Bool.false_ne_true | with_reducible exact KV.set_wf _ _ _ | with_reducible exact KV.put_wf _ _ | with_reducible exact KV.filter_wf _ | with_reducible exact List.prefix_rfl | with_reducible exact List.prefix_append _ _ | with_reducible exact KV.map_wf (fun _ => rfl) | with_reducible exact fun _ => KV.foldl_set_wf _ _ _ rfl | (simp; done) | skip) | with_reducible apply Keeps.ite | with_reducible apply Keeps.ite1 | (with_reducible apply Keeps.foldl; intro s₁ x₁; have h₁ : Keeps m₀ s₁ s₁ := Keeps.refl s₁; try dsimp +zetaDelta only) | (with_reducible apply Keeps.foldl1; intro s₁ x₁; have h₁ : Keeps m₀ s₁.1 s₁.1 := Keeps.refl s₁.1; try dsimp +zetaDelta only) | extract_lets | split | dsimp +zetaDelta only)

theorem keeps_cleared {m₀ : Bool} {a₀ s₀ : State} (h₀ : Keeps m₀ a₀ s₀) {t : Nat} {f : Nat} :
    Keeps m₀ a₀ (cleared s₀ t f) := by
  unfold cleared
  try extract_lets
  repeat' (first | with_reducible assumption | with_reducible apply keeps_State_modFolio | with_reducible apply keeps_finish | with_reducible apply keeps_lookup | with_reducible apply keeps_opSnooped | with_reducible apply keeps_resolved | (fail_if_no_progress (with_reducible apply Keeps.upd) <;> first | with_reducible rfl | with_reducible exact fun x => x | with_reducible exact fun _ => ⟨rfl, rfl, rfl, rfl⟩ | with_reducible exact fun x => absurd x Bool.false_ne_true | with_reducible exact KV.set_wf _ _ _ | with_reducible exact KV.put_wf _ _ | with_reducible exact KV.filter_wf _ | with_reducible exact List.prefix_rfl | with_reducible exact List.prefix_append _ _ | with_reducible exact KV.map_wf (fun _ => rfl) | with_reducible exact fun _ => KV.foldl_set_wf _ _ _ rfl | (simp; done) | skip) | with_reducible apply Keeps.ite | with_reducible apply Keeps.ite1 | (with_reducible apply Keeps.foldl; intro s₁ x₁; have h₁ : Keeps m₀ s₁ s₁ := Keeps.refl s₁; try dsimp +zetaDelta only) | (with_reducible apply Keeps.foldl1; intro s₁ x₁; have h₁ : Keeps m₀ s₁.1 s₁.1 := Keeps.refl s₁.1; try dsimp +zetaDelta only) | extract_lets | split | dsimp +zetaDelta only)

theorem keeps_crossedDone {m₀ : Bool} {a₀ s₀ : State} (h₀ : Keeps m₀ a₀ s₀) {t : Nat} {f : Nat} {a : Sys2Proof.Aid} {sec : Nat} {lines : List Nat} :
    Keeps m₀ a₀ (crossedDone s₀ t f a sec lines) := by
  unfold crossedDone
  try extract_lets
  repeat' (first | with_reducible assumption | with_reducible apply keeps_State_modFolio | with_reducible apply keeps_complete | (fail_if_no_progress (with_reducible apply Keeps.upd) <;> first | with_reducible rfl | with_reducible exact fun x => x | with_reducible exact fun _ => ⟨rfl, rfl, rfl, rfl⟩ | with_reducible exact fun x => absurd x Bool.false_ne_true | with_reducible exact KV.set_wf _ _ _ | with_reducible exact KV.put_wf _ _ | with_reducible exact KV.filter_wf _ | with_reducible exact List.prefix_rfl | with_reducible exact List.prefix_append _ _ | with_reducible exact KV.map_wf (fun _ => rfl) | with_reducible exact fun _ => KV.foldl_set_wf _ _ _ rfl | (simp; done) | skip) | with_reducible apply Keeps.ite | with_reducible apply Keeps.ite1 | (with_reducible apply Keeps.foldl; intro s₁ x₁; have h₁ : Keeps m₀ s₁ s₁ := Keeps.refl s₁; try dsimp +zetaDelta only) | (with_reducible apply Keeps.foldl1; intro s₁ x₁; have h₁ : Keeps m₀ s₁.1 s₁.1 := Keeps.refl s₁.1; try dsimp +zetaDelta only) | extract_lets | split | dsimp +zetaDelta only)

theorem keeps_respond {m₀ : Bool} {a₀ s₀ : State} (h₀ : Keeps m₀ a₀ s₀) {t : Nat} {f : Nat} {o : RspOpc} {a : Sys2Proof.Aid} {lines : List Nat} {dead : Bool} :
    Keeps m₀ a₀ (respond s₀ t f o a lines dead) := by
  unfold respond
  try extract_lets
  repeat' (first | with_reducible assumption | with_reducible apply keeps_State_modFolio | with_reducible apply keeps_cleared | with_reducible apply keeps_crossedDone | (fail_if_no_progress (with_reducible apply Keeps.upd) <;> first | with_reducible rfl | with_reducible exact fun x => x | with_reducible exact fun _ => ⟨rfl, rfl, rfl, rfl⟩ | with_reducible exact fun x => absurd x Bool.false_ne_true | with_reducible exact KV.set_wf _ _ _ | with_reducible exact KV.put_wf _ _ | with_reducible exact KV.filter_wf _ | with_reducible exact List.prefix_rfl | with_reducible exact List.prefix_append _ _ | with_reducible exact KV.map_wf (fun _ => rfl) | with_reducible exact fun _ => KV.foldl_set_wf _ _ _ rfl | (simp; done) | skip) | with_reducible apply Keeps.ite | with_reducible apply Keeps.ite1 | (with_reducible apply Keeps.foldl; intro s₁ x₁; have h₁ : Keeps m₀ s₁ s₁ := Keeps.refl s₁; try dsimp +zetaDelta only) | (with_reducible apply Keeps.foldl1; intro s₁ x₁; have h₁ : Keeps m₀ s₁.1 s₁.1 := Keeps.refl s₁.1; try dsimp +zetaDelta only) | extract_lets | split | dsimp +zetaDelta only)

theorem keeps_portSample {m₀ : Bool} {a₀ s₀ : State} (h₀ : Keeps m₀ a₀ s₀) {m : Nat} {t : Nat} {f : Nat} :
    Keeps m₀ a₀ (portSample s₀ m t f) := by
  unfold portSample
  try extract_lets
  repeat' (first | with_reducible assumption | with_reducible apply keeps_State_sample | (fail_if_no_progress (with_reducible apply Keeps.upd) <;> first | with_reducible rfl | with_reducible exact fun x => x | with_reducible exact fun _ => ⟨rfl, rfl, rfl, rfl⟩ | with_reducible exact fun x => absurd x Bool.false_ne_true | with_reducible exact KV.set_wf _ _ _ | with_reducible exact KV.put_wf _ _ | with_reducible exact KV.filter_wf _ | with_reducible exact List.prefix_rfl | with_reducible exact List.prefix_append _ _ | with_reducible exact KV.map_wf (fun _ => rfl) | with_reducible exact fun _ => KV.foldl_set_wf _ _ _ rfl | (simp; done) | skip) | with_reducible apply Keeps.ite | with_reducible apply Keeps.ite1 | (with_reducible apply Keeps.foldl; intro s₁ x₁; have h₁ : Keeps m₀ s₁ s₁ := Keeps.refl s₁; try dsimp +zetaDelta only) | (with_reducible apply Keeps.foldl1; intro s₁ x₁; have h₁ : Keeps m₀ s₁.1 s₁.1 := Keeps.refl s₁.1; try dsimp +zetaDelta only) | extract_lets | split | dsimp +zetaDelta only)

theorem keeps_enterGroup {m₀ : Bool} {a₀ s₀ : State} (h₀ : Keeps m₀ a₀ s₀) {t : Nat} {p : Nat} {g : Nat} :
    Keeps m₀ a₀ (enterGroup s₀ t p g) := by
  unfold enterGroup
  try extract_lets
  repeat' (first | with_reducible assumption | with_reducible apply keeps_State_modTill | (fail_if_no_progress (with_reducible apply Keeps.upd) <;> first | with_reducible rfl | with_reducible exact fun x => x | with_reducible exact fun _ => ⟨rfl, rfl, rfl, rfl⟩ | with_reducible exact fun x => absurd x Bool.false_ne_true | with_reducible exact KV.set_wf _ _ _ | with_reducible exact KV.put_wf _ _ | with_reducible exact KV.filter_wf _ | with_reducible exact List.prefix_rfl | with_reducible exact List.prefix_append _ _ | with_reducible exact KV.map_wf (fun _ => rfl) | with_reducible exact fun _ => KV.foldl_set_wf _ _ _ rfl | (simp; done) | skip) | with_reducible apply Keeps.ite | with_reducible apply Keeps.ite1 | (with_reducible apply Keeps.foldl; intro s₁ x₁; have h₁ : Keeps m₀ s₁ s₁ := Keeps.refl s₁; try dsimp +zetaDelta only) | (with_reducible apply Keeps.foldl1; intro s₁ x₁; have h₁ : Keeps m₀ s₁.1 s₁.1 := Keeps.refl s₁.1; try dsimp +zetaDelta only) | extract_lets | split | dsimp +zetaDelta only)

theorem keeps_lostSlots {m₀ : Bool} {a₀ s₀ : State} (h₀ : Keeps m₀ a₀ s₀) {t : Nat} {p : Nat} {g : Nat} {l : GLines} :
    Keeps m₀ a₀ (lostSlots s₀ t p g l) := by
  unfold lostSlots
  try extract_lets
  repeat' (first | with_reducible assumption | with_reducible apply keeps_State_bump | with_reducible apply keeps_State_note | with_reducible apply keeps_enterGroup | (fail_if_no_progress (with_reducible apply Keeps.upd) <;> first | with_reducible rfl | with_reducible exact fun x => x | with_reducible exact fun _ => ⟨rfl, rfl, rfl, rfl⟩ | with_reducible exact fun x => absurd x Bool.false_ne_true | with_reducible exact KV.set_wf _ _ _ | with_reducible exact KV.put_wf _ _ | with_reducible exact KV.filter_wf _ | with_reducible exact List.prefix_rfl | with_reducible exact List.prefix_append _ _ | with_reducible exact KV.map_wf (fun _ => rfl) | with_reducible exact fun _ => KV.foldl_set_wf _ _ _ rfl | (simp; done) | skip) | with_reducible apply Keeps.ite | with_reducible apply Keeps.ite1 | (with_reducible apply Keeps.foldl; intro s₁ x₁; have h₁ : Keeps m₀ s₁ s₁ := Keeps.refl s₁; try dsimp +zetaDelta only) | (with_reducible apply Keeps.foldl1; intro s₁ x₁; have h₁ : Keeps m₀ s₁.1 s₁.1 := Keeps.refl s₁.1; try dsimp +zetaDelta only) | extract_lets | split | dsimp +zetaDelta only)

theorem keeps_consultDone {m₀ : Bool} {a₀ s₀ : State} (h₀ : Keeps m₀ a₀ s₀) {t : Nat} {f : Nat} {x : Folio} {l : GLines} {bad : Bool} :
    Keeps m₀ a₀ (consultDone s₀ t f x l bad) := by
  unfold consultDone
  try extract_lets
  repeat' (first | with_reducible assumption | with_reducible apply keeps_State_bump | with_reducible apply keeps_State_modFolio | with_reducible apply keeps_State_modTill | with_reducible apply keeps_State_tev | with_reducible apply keeps_absent | with_reducible apply keeps_decideUnknown | with_reducible apply keeps_enterGroup | with_reducible apply keeps_lostSlots | with_reducible apply keeps_promote | (fail_if_no_progress (with_reducible apply Keeps.upd) <;> first | with_reducible rfl | with_reducible exact fun x => x | with_reducible exact fun _ => ⟨rfl, rfl, rfl, rfl⟩ | with_reducible exact fun x => absurd x Bool.false_ne_true | with_reducible exact KV.set_wf _ _ _ | with_reducible exact KV.put_wf _ _ | with_reducible exact KV.filter_wf _ | with_reducible exact List.prefix_rfl | with_reducible exact List.prefix_append _ _ | with_reducible exact KV.map_wf (fun _ => rfl) | with_reducible exact fun _ => KV.foldl_set_wf _ _ _ rfl | (simp; done) | skip) | with_reducible apply Keeps.ite | with_reducible apply Keeps.ite1 | (with_reducible apply Keeps.foldl; intro s₁ x₁; have h₁ : Keeps m₀ s₁ s₁ := Keeps.refl s₁; try dsimp +zetaDelta only) | (with_reducible apply Keeps.foldl1; intro s₁ x₁; have h₁ : Keeps m₀ s₁.1 s₁.1 := Keeps.refl s₁.1; try dsimp +zetaDelta only) | extract_lets | split | dsimp +zetaDelta only)

theorem keeps_cellarCount {m₀ : Bool} {a₀ s₀ : State} (h₀ : Keeps m₀ a₀ s₀) {more : Nat} {less : Nat} :
    Keeps m₀ a₀ (cellarCount s₀ more less) := by
  unfold cellarCount
  try extract_lets
  repeat' (first | with_reducible assumption | with_reducible apply keeps_State_setRawN | (fail_if_no_progress (with_reducible apply Keeps.upd) <;> first | with_reducible rfl | with_reducible exact fun x => x | with_reducible exact fun _ => ⟨rfl, rfl, rfl, rfl⟩ | with_reducible exact fun x => absurd x Bool.false_ne_true | with_reducible exact KV.set_wf _ _ _ | with_reducible exact KV.put_wf _ _ | with_reducible exact KV.filter_wf _ | with_reducible exact List.prefix_rfl | with_reducible exact List.prefix_append _ _ | with_reducible exact KV.map_wf (fun _ => rfl) | with_reducible exact fun _ => KV.foldl_set_wf _ _ _ rfl | (simp; done) | skip) | with_reducible apply Keeps.ite | with_reducible apply Keeps.ite1 | (with_reducible apply Keeps.foldl; intro s₁ x₁; have h₁ : Keeps m₀ s₁ s₁ := Keeps.refl s₁; try dsimp +zetaDelta only) | (with_reducible apply Keeps.foldl1; intro s₁ x₁; have h₁ : Keeps m₀ s₁.1 s₁.1 := Keeps.refl s₁.1; try dsimp +zetaDelta only) | extract_lets | split | dsimp +zetaDelta only)

theorem keeps_endGroup {m₀ : Bool} {a₀ s₀ : State} (h₀ : Keeps m₀ a₀ s₀) {t : Nat} {o : GroupOp} :
    Keeps m₀ a₀ (endGroup s₀ t o) := by
  unfold endGroup
  try extract_lets
  repeat' (first | with_reducible assumption | with_reducible apply keeps_State_modTill | with_reducible apply keeps_runGroups | (fail_if_no_progress (with_reducible apply Keeps.upd) <;> first | with_reducible rfl | with_reducible exact fun x => x | with_reducible exact fun _ => ⟨rfl, rfl, rfl, rfl⟩ | with_reducible exact fun x => absurd x Bool.false_ne_true | with_reducible exact KV.set_wf _ _ _ | with_reducible exact KV.put_wf _ _ | with_reducible exact KV.filter_wf _ | with_reducible exact List.prefix_rfl | with_reducible exact List.prefix_append _ _ | with_reducible exact KV.map_wf (fun _ => rfl) | with_reducible exact fun _ => KV.foldl_set_wf _ _ _ rfl | (simp; done) | skip) | with_reducible apply Keeps.ite | with_reducible apply Keeps.ite1 | (with_reducible apply Keeps.foldl; intro s₁ x₁; have h₁ : Keeps m₀ s₁ s₁ := Keeps.refl s₁; try dsimp +zetaDelta only) | (with_reducible apply Keeps.foldl1; intro s₁ x₁; have h₁ : Keeps m₀ s₁.1 s₁.1 := Keeps.refl s₁.1; try dsimp +zetaDelta only) | extract_lets | split | dsimp +zetaDelta only)

theorem keeps_writeSlot {m₀ : Bool} {a₀ s₀ : State} (h₀ : Keeps m₀ a₀ s₀) {t : Nat} {f : Nat} {p : Nat} {g : Nat} {l : GLines} {n : Nat} {v : Nat} :
    Keeps m₀ a₀ (writeSlot s₀ t f p g l n v) := by
  unfold writeSlot
  try extract_lets
  repeat' (first | with_reducible assumption | with_reducible apply keeps_writeBucket | (fail_if_no_progress (with_reducible apply Keeps.upd) <;> first | with_reducible rfl | with_reducible exact fun x => x | with_reducible exact fun _ => ⟨rfl, rfl, rfl, rfl⟩ | with_reducible exact fun x => absurd x Bool.false_ne_true | with_reducible exact KV.set_wf _ _ _ | with_reducible exact KV.put_wf _ _ | with_reducible exact KV.filter_wf _ | with_reducible exact List.prefix_rfl | with_reducible exact List.prefix_append _ _ | with_reducible exact KV.map_wf (fun _ => rfl) | with_reducible exact fun _ => KV.foldl_set_wf _ _ _ rfl | (simp; done) | skip) | with_reducible apply Keeps.ite | with_reducible apply Keeps.ite1 | (with_reducible apply Keeps.foldl; intro s₁ x₁; have h₁ : Keeps m₀ s₁ s₁ := Keeps.refl s₁; try dsimp +zetaDelta only) | (with_reducible apply Keeps.foldl1; intro s₁ x₁; have h₁ : Keeps m₀ s₁.1 s₁.1 := Keeps.refl s₁.1; try dsimp +zetaDelta only) | extract_lets | split | dsimp +zetaDelta only)

theorem keeps_deleteDone {m₀ : Bool} {a₀ s₀ : State} (h₀ : Keeps m₀ a₀ s₀) {t : Nat} {o : GroupOp} {sec : Nat} {k : Option Nat} {l : GLines} :
    Keeps m₀ a₀ (deleteDone s₀ t o sec k l) := by
  unfold deleteDone
  try extract_lets
  repeat' (first | with_reducible assumption | with_reducible apply keeps_cellarCount | with_reducible apply keeps_endGroup | with_reducible apply keeps_opClose | with_reducible apply keeps_opHandOn | with_reducible apply keeps_tryRetire | with_reducible apply keeps_writeMemo | with_reducible apply keeps_writeSlot | (fail_if_no_progress (with_reducible apply Keeps.upd) <;> first | with_reducible rfl | with_reducible exact fun x => x | with_reducible exact fun _ => ⟨rfl, rfl, rfl, rfl⟩ | with_reducible exact fun x => absurd x Bool.false_ne_true | with_reducible exact KV.set_wf _ _ _ | with_reducible exact KV.put_wf _ _ | with_reducible exact KV.filter_wf _ | with_reducible exact List.prefix_rfl | with_reducible exact List.prefix_append _ _ | with_reducible exact KV.map_wf (fun _ => rfl) | with_reducible exact fun _ => KV.foldl_set_wf _ _ _ rfl | (simp; done) | skip) | with_reducible apply Keeps.ite | with_reducible apply Keeps.ite1 | (with_reducible apply Keeps.foldl; intro s₁ x₁; have h₁ : Keeps m₀ s₁ s₁ := Keeps.refl s₁; try dsimp +zetaDelta only) | (with_reducible apply Keeps.foldl1; intro s₁ x₁; have h₁ : Keeps m₀ s₁.1 s₁.1 := Keeps.refl s₁.1; try dsimp +zetaDelta only) | extract_lets | split | dsimp +zetaDelta only)

theorem keeps_reclaimSlot {m₀ : Bool} {a₀ s₀ : State} (h₀ : Keeps m₀ a₀ s₀) {t : Nat} {p : Nat} {g : Nat} {l : GLines} :
    Keeps m₀ a₀ (reclaimSlot s₀ t p g l) := by
  unfold reclaimSlot
  try extract_lets
  repeat' (first | with_reducible assumption | with_reducible refine keeps_startSecOp_eq (by assumption) ?_ | with_reducible apply keeps_State_bump | with_reducible apply keeps_State_modOp | with_reducible apply keeps_State_tev | with_reducible apply keeps_reclaimSnoop | with_reducible apply keeps_startGroup | with_reducible apply keeps_startSecOp | (fail_if_no_progress (with_reducible apply Keeps.upd) <;> first | with_reducible rfl | with_reducible exact fun x => x | with_reducible exact fun _ => ⟨rfl, rfl, rfl, rfl⟩ | with_reducible exact fun x => absurd x Bool.false_ne_true | with_reducible exact KV.set_wf _ _ _ | with_reducible exact KV.put_wf _ _ | with_reducible exact KV.filter_wf _ | with_reducible exact List.prefix_rfl | with_reducible exact List.prefix_append _ _ | with_reducible exact KV.map_wf (fun _ => rfl) | with_reducible exact fun _ => KV.foldl_set_wf _ _ _ rfl | (simp; done) | skip) | with_reducible apply Keeps.ite | with_reducible apply Keeps.ite1 | (with_reducible apply Keeps.foldl; intro s₁ x₁; have h₁ : Keeps m₀ s₁ s₁ := Keeps.refl s₁; try dsimp +zetaDelta only) | (with_reducible apply Keeps.foldl1; intro s₁ x₁; have h₁ : Keeps m₀ s₁.1 s₁.1 := Keeps.refl s₁.1; try dsimp +zetaDelta only) | extract_lets | split | dsimp +zetaDelta only)

theorem keeps_setSummary {m₀ : Bool} {a₀ s₀ : State} (h₀ : Keeps m₀ a₀ s₀) {t : Nat} {sec : Nat} :
    Keeps m₀ a₀ (setSummary s₀ t sec) := by
  unfold setSummary
  try extract_lets
  repeat' (first | with_reducible assumption | with_reducible apply keeps_State_modTill | (fail_if_no_progress (with_reducible apply Keeps.upd) <;> first | with_reducible rfl | with_reducible exact fun x => x | with_reducible exact fun _ => ⟨rfl, rfl, rfl, rfl⟩ | with_reducible exact fun x => absurd x Bool.false_ne_true | with_reducible exact KV.set_wf _ _ _ | with_reducible exact KV.put_wf _ _ | with_reducible exact KV.filter_wf _ | with_reducible exact List.prefix_rfl | with_reducible exact List.prefix_append _ _ | with_reducible exact KV.map_wf (fun _ => rfl) | with_reducible exact fun _ => KV.foldl_set_wf _ _ _ rfl | (simp; done) | skip) | with_reducible apply Keeps.ite | with_reducible apply Keeps.ite1 | (with_reducible apply Keeps.foldl; intro s₁ x₁; have h₁ : Keeps m₀ s₁ s₁ := Keeps.refl s₁; try dsimp +zetaDelta only) | (with_reducible apply Keeps.foldl1; intro s₁ x₁; have h₁ : Keeps m₀ s₁.1 s₁.1 := Keeps.refl s₁.1; try dsimp +zetaDelta only) | extract_lets | split | dsimp +zetaDelta only)

theorem keeps_slotWrite {m₀ : Bool} {a₀ s₀ : State} (h₀ : Keeps m₀ a₀ s₀) {t : Nat} {f : Nat} {p : Nat} {g : Nat} {sec : Nat} {l : GLines} {e : Ent} :
    ∀ t₀, (slotWrite s₀ t f p g sec l e) = some t₀ → Keeps m₀ a₀ t₀ := by
  intro t₀ e₀
  unfold slotWrite at e₀
  try dsimp only at e₀
  repeat' (split at e₀)
  all_goals first | (simp only [Option.some.injEq, reduceCtorEq] at e₀; done) | (simp only [Option.some.injEq] at e₀; subst e₀)
  all_goals repeat' (first | with_reducible assumption | with_reducible apply keeps_State_bump | with_reducible apply keeps_State_modTill | with_reducible apply keeps_cellarCount | with_reducible apply keeps_setSummary | with_reducible apply keeps_writeMemo | with_reducible apply keeps_writeSlot | (fail_if_no_progress (with_reducible apply Keeps.upd) <;> first | with_reducible rfl | with_reducible exact fun x => x | with_reducible exact fun _ => ⟨rfl, rfl, rfl, rfl⟩ | with_reducible exact fun x => absurd x Bool.false_ne_true | with_reducible exact KV.set_wf _ _ _ | with_reducible exact KV.put_wf _ _ | with_reducible exact KV.filter_wf _ | with_reducible exact List.prefix_rfl | with_reducible exact List.prefix_append _ _ | with_reducible exact KV.map_wf (fun _ => rfl) | with_reducible exact fun _ => KV.foldl_set_wf _ _ _ rfl | (simp; done) | skip) | with_reducible apply Keeps.ite | with_reducible apply Keeps.ite1 | (with_reducible apply Keeps.foldl; intro s₁ x₁; have h₁ : Keeps m₀ s₁ s₁ := Keeps.refl s₁; try dsimp +zetaDelta only) | (with_reducible apply Keeps.foldl1; intro s₁ x₁; have h₁ : Keeps m₀ s₁.1 s₁.1 := Keeps.refl s₁.1; try dsimp +zetaDelta only) | extract_lets | split | dsimp +zetaDelta only)

theorem keeps_slotWrite_eq {m₀ : Bool} {a₀ s₀ u₀ : State} {t : Nat} {f : Nat} {p : Nat} {g : Nat} {sec : Nat} {l : GLines} {e : Ent} (e₀ : slotWrite s₀ t f p g sec l e = some u₀) (h₀ : Keeps m₀ a₀ s₀) : Keeps m₀ a₀ u₀ :=
  keeps_slotWrite h₀ u₀ e₀

theorem keeps_editDone {m₀ : Bool} {a₀ s₀ : State} (h₀ : Keeps m₀ a₀ s₀) {t : Nat} {g : GroupOp} {k : Nat} {l : GLines} :
    Keeps m₀ a₀ (editDone s₀ t g k l) := by
  unfold editDone
  try extract_lets
  repeat' (first | with_reducible assumption | with_reducible refine keeps_slotWrite_eq (by assumption) ?_ | with_reducible apply keeps_State_bump | with_reducible apply keeps_State_modOp | with_reducible apply keeps_State_modTill | with_reducible apply keeps_endGroup | with_reducible apply keeps_opEnd | with_reducible apply keeps_reclaimSlot | with_reducible apply keeps_startGroup | (fail_if_no_progress (with_reducible apply Keeps.upd) <;> first | with_reducible rfl | with_reducible exact fun x => x | with_reducible exact fun _ => ⟨rfl, rfl, rfl, rfl⟩ | with_reducible exact fun x => absurd x Bool.false_ne_true | with_reducible exact KV.set_wf _ _ _ | with_reducible exact KV.put_wf _ _ | with_reducible exact KV.filter_wf _ | with_reducible exact List.prefix_rfl | with_reducible exact List.prefix_append _ _ | with_reducible exact KV.map_wf (fun _ => rfl) | with_reducible exact fun _ => KV.foldl_set_wf _ _ _ rfl | (simp; done) | skip) | with_reducible apply Keeps.ite | with_reducible apply Keeps.ite1 | (with_reducible apply Keeps.foldl; intro s₁ x₁; have h₁ : Keeps m₀ s₁ s₁ := Keeps.refl s₁; try dsimp +zetaDelta only) | (with_reducible apply Keeps.foldl1; intro s₁ x₁; have h₁ : Keeps m₀ s₁.1 s₁.1 := Keeps.refl s₁.1; try dsimp +zetaDelta only) | extract_lets | split | dsimp +zetaDelta only)

theorem keeps_opBlock {m₀ : Bool} {a₀ s₀ : State} (h₀ : Keeps m₀ a₀ s₀) {t : Nat} {o : SecOp} :
    Keeps m₀ a₀ (opBlock s₀ t o) := by
  unfold opBlock
  try extract_lets
  repeat' (first | with_reducible assumption | with_reducible apply keeps_State_modFolio | (fail_if_no_progress (with_reducible apply Keeps.upd) <;> first | with_reducible rfl | with_reducible exact fun x => x | with_reducible exact fun _ => ⟨rfl, rfl, rfl, rfl⟩ | with_reducible exact fun x => absurd x Bool.false_ne_true | with_reducible exact KV.set_wf _ _ _ | with_reducible exact KV.put_wf _ _ | with_reducible exact KV.filter_wf _ | with_reducible exact List.prefix_rfl | with_reducible exact List.prefix_append _ _ | with_reducible exact KV.map_wf (fun _ => rfl) | with_reducible exact fun _ => KV.foldl_set_wf _ _ _ rfl | (simp; done) | skip) | with_reducible apply Keeps.ite | with_reducible apply Keeps.ite1 | (with_reducible apply Keeps.foldl; intro s₁ x₁; have h₁ : Keeps m₀ s₁ s₁ := Keeps.refl s₁; try dsimp +zetaDelta only) | (with_reducible apply Keeps.foldl1; intro s₁ x₁; have h₁ : Keeps m₀ s₁.1 s₁.1 := Keeps.refl s₁.1; try dsimp +zetaDelta only) | extract_lets | split | dsimp +zetaDelta only)

theorem keeps_opSnoop {m₀ : Bool} {a₀ s₀ : State} (h₀ : Keeps m₀ a₀ s₀) {t : Nat} {k : Nat} {o : SecOp} {e : Ent} {l : List Target} :
    Keeps m₀ a₀ (opSnoop s₀ t k o e l) := by
  unfold opSnoop
  try extract_lets
  repeat' (first | with_reducible assumption | with_reducible apply keeps_State_modOp | with_reducible apply keeps_opSnooped | with_reducible apply keeps_sendSnoops | (fail_if_no_progress (with_reducible apply Keeps.upd) <;> first | with_reducible rfl | with_reducible exact fun x => x | with_reducible exact fun _ => ⟨rfl, rfl, rfl, rfl⟩ | with_reducible exact fun x => absurd x Bool.false_ne_true | with_reducible exact KV.set_wf _ _ _ | with_reducible exact KV.put_wf _ _ | with_reducible exact KV.filter_wf _ | with_reducible exact List.prefix_rfl | with_reducible exact List.prefix_append _ _ | with_reducible exact KV.map_wf (fun _ => rfl) | with_reducible exact fun _ => KV.foldl_set_wf _ _ _ rfl | (simp; done) | skip) | with_reducible apply Keeps.ite | with_reducible apply Keeps.ite1 | (with_reducible apply Keeps.foldl; intro s₁ x₁; have h₁ : Keeps m₀ s₁ s₁ := Keeps.refl s₁; try dsimp +zetaDelta only) | (with_reducible apply Keeps.foldl1; intro s₁ x₁; have h₁ : Keeps m₀ s₁.1 s₁.1 := Keeps.refl s₁.1; try dsimp +zetaDelta only) | extract_lets | split | dsimp +zetaDelta only)

theorem keeps_preloadAct {m₀ : Bool} {a₀ s₀ : State} (h₀ : Keeps m₀ a₀ s₀) {t : Nat} {k : Nat} {o : SecOp} {mode : Nat} {found : Bool} :
    Keeps m₀ a₀ (preloadAct s₀ t k o mode found) := by
  unfold preloadAct
  try extract_lets
  repeat' (first | with_reducible assumption | with_reducible refine keeps_findRoom_eq (by assumption) ?_ | with_reducible apply keeps_State_bump | with_reducible apply keeps_State_modOp | with_reducible apply keeps_State_modTill | with_reducible apply keeps_State_tev | with_reducible apply keeps_findRoom | with_reducible apply keeps_opEnd | with_reducible apply keeps_opStore | with_reducible apply keeps_startGroup | (fail_if_no_progress (with_reducible apply Keeps.upd) <;> first | with_reducible rfl | with_reducible exact fun x => x | with_reducible exact fun _ => ⟨rfl, rfl, rfl, rfl⟩ | with_reducible exact fun x => absurd x Bool.false_ne_true | with_reducible exact KV.set_wf _ _ _ | with_reducible exact KV.put_wf _ _ | with_reducible exact KV.filter_wf _ | with_reducible exact List.prefix_rfl | with_reducible exact List.prefix_append _ _ | with_reducible exact KV.map_wf (fun _ => rfl) | with_reducible exact fun _ => KV.foldl_set_wf _ _ _ rfl | (simp; done) | skip) | with_reducible apply Keeps.ite | with_reducible apply Keeps.ite1 | (with_reducible apply Keeps.foldl; intro s₁ x₁; have h₁ : Keeps m₀ s₁ s₁ := Keeps.refl s₁; try dsimp +zetaDelta only) | (with_reducible apply Keeps.foldl1; intro s₁ x₁; have h₁ : Keeps m₀ s₁.1 s₁.1 := Keeps.refl s₁.1; try dsimp +zetaDelta only) | extract_lets | split | dsimp +zetaDelta only)

theorem keeps_opDo {m₀ : Bool} {a₀ s₀ : State} (h₀ : Keeps m₀ a₀ s₀) {t : Nat} {k : Nat} {o : SecOp} {found : Bool} :
    Keeps m₀ a₀ (opDo s₀ t k o found) := by
  unfold opDo
  try extract_lets
  repeat' (first | with_reducible assumption | with_reducible refine keeps_heal_eq (by assumption) ?_ | with_reducible apply keeps_State_modOp | with_reducible apply keeps_claimWrite | with_reducible apply keeps_heal | with_reducible apply keeps_opBlock | with_reducible apply keeps_opEnd | with_reducible apply keeps_opSnoop | with_reducible apply keeps_opStore | with_reducible apply keeps_preloadAct | with_reducible apply keeps_sectorTaken | with_reducible apply keeps_startGroup | (fail_if_no_progress (with_reducible apply Keeps.upd) <;> first | with_reducible rfl | with_reducible exact fun x => x | with_reducible exact fun _ => ⟨rfl, rfl, rfl, rfl⟩ | with_reducible exact fun x => absurd x Bool.false_ne_true | with_reducible exact KV.set_wf _ _ _ | with_reducible exact KV.put_wf _ _ | with_reducible exact KV.filter_wf _ | with_reducible exact List.prefix_rfl | with_reducible exact List.prefix_append _ _ | with_reducible exact KV.map_wf (fun _ => rfl) | with_reducible exact fun _ => KV.foldl_set_wf _ _ _ rfl | (simp; done) | skip) | with_reducible apply Keeps.ite | with_reducible apply Keeps.ite1 | (with_reducible apply Keeps.foldl; intro s₁ x₁; have h₁ : Keeps m₀ s₁ s₁ := Keeps.refl s₁; try dsimp +zetaDelta only) | (with_reducible apply Keeps.foldl1; intro s₁ x₁; have h₁ : Keeps m₀ s₁.1 s₁.1 := Keeps.refl s₁.1; try dsimp +zetaDelta only) | extract_lets | split | dsimp +zetaDelta only)

theorem keeps_scanDone {m₀ : Bool} {a₀ s₀ : State} (h₀ : Keeps m₀ a₀ s₀) {t : Nat} {o : GroupOp} {leave : Bool} {l : GLines} :
    Keeps m₀ a₀ (scanDone s₀ t o leave l) := by
  unfold scanDone
  try extract_lets
  repeat' (first | with_reducible assumption | with_reducible refine keeps_startSecOp_eq (by assumption) ?_ | with_reducible apply keeps_State_modFolio | with_reducible apply keeps_State_modOp | with_reducible apply keeps_endGroup | with_reducible apply keeps_lostSlots | with_reducible apply keeps_opDo | with_reducible apply keeps_startSecOp | with_reducible apply keeps_tryRetire | (fail_if_no_progress (with_reducible apply Keeps.upd) <;> first | with_reducible rfl | with_reducible exact fun x => x | with_reducible exact fun _ => ⟨rfl, rfl, rfl, rfl⟩ | with_reducible exact fun x => absurd x Bool.false_ne_true | with_reducible exact KV.set_wf _ _ _ | with_reducible exact KV.put_wf _ _ | with_reducible exact KV.filter_wf _ | with_reducible exact List.prefix_rfl | with_reducible exact List.prefix_append _ _ | with_reducible exact KV.map_wf (fun _ => rfl) | with_reducible exact fun _ => KV.foldl_set_wf _ _ _ rfl | (simp; done) | skip) | with_reducible apply Keeps.ite | with_reducible apply Keeps.ite1 | (with_reducible apply Keeps.foldl; intro s₁ x₁; have h₁ : Keeps m₀ s₁ s₁ := Keeps.refl s₁; try dsimp +zetaDelta only) | (with_reducible apply Keeps.foldl1; intro s₁ x₁; have h₁ : Keeps m₀ s₁.1 s₁.1 := Keeps.refl s₁.1; try dsimp +zetaDelta only) | extract_lets | split | dsimp +zetaDelta only)

theorem keeps_retryCellar {m₀ : Bool} {a₀ s₀ : State} (h₀ : Keeps m₀ a₀ s₀) {t : Nat} {f : Nat} :
    Keeps m₀ a₀ (retryCellar s₀ t f) := by
  unfold retryCellar
  try extract_lets
  repeat' (first | with_reducible assumption | with_reducible apply keeps_State_bump | with_reducible apply keeps_State_modFolio | with_reducible apply keeps_State_modTill | with_reducible apply keeps_State_sendP | with_reducible apply keeps_State_slotWasted | with_reducible apply keeps_State_tev | with_reducible apply keeps_cancelRead | with_reducible apply keeps_handOn | (fail_if_no_progress (with_reducible apply Keeps.upd) <;> first | with_reducible rfl | with_reducible exact fun x => x | with_reducible exact fun _ => ⟨rfl, rfl, rfl, rfl⟩ | with_reducible exact fun x => absurd x Bool.false_ne_true | with_reducible exact KV.set_wf _ _ _ | with_reducible exact KV.put_wf _ _ | with_reducible exact KV.filter_wf _ | with_reducible exact List.prefix_rfl | with_reducible exact List.prefix_append _ _ | with_reducible exact KV.map_wf (fun _ => rfl) | with_reducible exact fun _ => KV.foldl_set_wf _ _ _ rfl | (simp; done) | skip) | with_reducible apply Keeps.ite | with_reducible apply Keeps.ite1 | (with_reducible apply Keeps.foldl; intro s₁ x₁; have h₁ : Keeps m₀ s₁ s₁ := Keeps.refl s₁; try dsimp +zetaDelta only) | (with_reducible apply Keeps.foldl1; intro s₁ x₁; have h₁ : Keeps m₀ s₁.1 s₁.1 := Keeps.refl s₁.1; try dsimp +zetaDelta only) | extract_lets | split | dsimp +zetaDelta only)

theorem keeps_slotDone {m₀ : Bool} {a₀ s₀ : State} (h₀ : Keeps m₀ a₀ s₀) {t : Nat} {o : GroupOp} {f : Nat} {direct : Bool} {l : GLines} :
    Keeps m₀ a₀ (slotDone s₀ t o f direct l) := by
  unfold slotDone
  try extract_lets
  repeat' (first | with_reducible assumption | with_reducible refine keeps_slotWrite_eq (by assumption) ?_ | with_reducible apply keeps_State_bump | with_reducible apply keeps_State_modFolio | with_reducible apply keeps_State_modTill | with_reducible apply keeps_endGroup | with_reducible apply keeps_finish | with_reducible apply keeps_lookup | with_reducible apply keeps_reclaimSlot | with_reducible apply keeps_retryCellar | with_reducible apply keeps_startGroup | with_reducible apply keeps_tryRetire | (fail_if_no_progress (with_reducible apply Keeps.upd) <;> first | with_reducible rfl | with_reducible exact fun x => x | with_reducible exact fun _ => ⟨rfl, rfl, rfl, rfl⟩ | with_reducible exact fun x => absurd x Bool.false_ne_true | with_reducible exact KV.set_wf _ _ _ | with_reducible exact KV.put_wf _ _ | with_reducible exact KV.filter_wf _ | with_reducible exact List.prefix_rfl | with_reducible exact List.prefix_append _ _ | with_reducible exact KV.map_wf (fun _ => rfl) | with_reducible exact fun _ => KV.foldl_set_wf _ _ _ rfl | (simp; done) | skip) | with_reducible apply Keeps.ite | with_reducible apply Keeps.ite1 | (with_reducible apply Keeps.foldl; intro s₁ x₁; have h₁ : Keeps m₀ s₁ s₁ := Keeps.refl s₁; try dsimp +zetaDelta only) | (with_reducible apply Keeps.foldl1; intro s₁ x₁; have h₁ : Keeps m₀ s₁.1 s₁.1 := Keeps.refl s₁.1; try dsimp +zetaDelta only) | extract_lets | split | dsimp +zetaDelta only)

theorem keeps_spillDone {m₀ : Bool} {a₀ s₀ : State} (h₀ : Keeps m₀ a₀ s₀) {t : Nat} {o : GroupOp} {k : Nat} {l : GLines} :
    Keeps m₀ a₀ (spillDone s₀ t o k l) := by
  unfold spillDone
  try extract_lets
  repeat' (first | with_reducible assumption | with_reducible refine keeps_slotWrite_eq (by assumption) ?_ | with_reducible apply keeps_State_bump | with_reducible apply keeps_State_modOp | with_reducible apply keeps_State_tev | with_reducible apply keeps_endGroup | with_reducible apply keeps_opClose | with_reducible apply keeps_opHandOn | with_reducible apply keeps_reclaimSnoop | (fail_if_no_progress (with_reducible apply Keeps.upd) <;> first | with_reducible rfl | with_reducible exact fun x => x | with_reducible exact fun _ => ⟨rfl, rfl, rfl, rfl⟩ | with_reducible exact fun x => absurd x Bool.false_ne_true | with_reducible exact KV.set_wf _ _ _ | with_reducible exact KV.put_wf _ _ | with_reducible exact KV.filter_wf _ | with_reducible exact List.prefix_rfl | with_reducible exact List.prefix_append _ _ | with_reducible exact KV.map_wf (fun _ => rfl) | with_reducible exact fun _ => KV.foldl_set_wf _ _ _ rfl | (simp; done) | skip) | with_reducible apply Keeps.ite | with_reducible apply Keeps.ite1 | (with_reducible apply Keeps.foldl; intro s₁ x₁; have h₁ : Keeps m₀ s₁ s₁ := Keeps.refl s₁; try dsimp +zetaDelta only) | (with_reducible apply Keeps.foldl1; intro s₁ x₁; have h₁ : Keeps m₀ s₁.1 s₁.1 := Keeps.refl s₁.1; try dsimp +zetaDelta only) | extract_lets | split | dsimp +zetaDelta only)

theorem keeps_unclaimDone {m₀ : Bool} {a₀ s₀ : State} (h₀ : Keeps m₀ a₀ s₀) {t : Nat} {o : GroupOp} {sec : Nat} {l : GLines} :
    Keeps m₀ a₀ (unclaimDone s₀ t o sec l) := by
  unfold unclaimDone
  try extract_lets
  repeat' (first | with_reducible assumption | with_reducible apply keeps_State_modFolio | with_reducible apply keeps_cellarCount | with_reducible apply keeps_endGroup | with_reducible apply keeps_tryRetire | with_reducible apply keeps_writeSlot | (fail_if_no_progress (with_reducible apply Keeps.upd) <;> first | with_reducible rfl | with_reducible exact fun x => x | with_reducible exact fun _ => ⟨rfl, rfl, rfl, rfl⟩ | with_reducible exact fun x => absurd x Bool.false_ne_true | with_reducible exact KV.set_wf _ _ _ | with_reducible exact KV.put_wf _ _ | with_reducible exact KV.filter_wf _ | with_reducible exact List.prefix_rfl | with_reducible exact List.prefix_append _ _ | with_reducible exact KV.map_wf (fun _ => rfl) | with_reducible exact fun _ => KV.foldl_set_wf _ _ _ rfl | (simp; done) | skip) | with_reducible apply Keeps.ite | with_reducible apply Keeps.ite1 | (with_reducible apply Keeps.foldl; intro s₁ x₁; have h₁ : Keeps m₀ s₁ s₁ := Keeps.refl s₁; try dsimp +zetaDelta only) | (with_reducible apply Keeps.foldl1; intro s₁ x₁; have h₁ : Keeps m₀ s₁.1 s₁.1 := Keeps.refl s₁.1; try dsimp +zetaDelta only) | extract_lets | split | dsimp +zetaDelta only)

theorem keeps_visitDone {m₀ : Bool} {a₀ s₀ : State} (h₀ : Keeps m₀ a₀ s₀) {t : Nat} {o : GroupOp} {l : GLines} :
    Keeps m₀ a₀ (visitDone s₀ t o l) := by
  unfold visitDone
  try extract_lets
  repeat' (first | with_reducible assumption | with_reducible apply keeps_State_modTill | with_reducible apply keeps_cellarCount | with_reducible apply keeps_endGroup | with_reducible apply keeps_lostSlots | with_reducible apply keeps_tryRetire | with_reducible apply keeps_writeBucket | (fail_if_no_progress (with_reducible apply Keeps.upd) <;> first | with_reducible rfl | with_reducible exact fun x => x | with_reducible exact fun _ => ⟨rfl, rfl, rfl, rfl⟩ | with_reducible exact fun x => absurd x Bool.false_ne_true | with_reducible exact KV.set_wf _ _ _ | with_reducible exact KV.put_wf _ _ | with_reducible exact KV.filter_wf _ | with_reducible exact List.prefix_rfl | with_reducible exact List.prefix_append _ _ | with_reducible exact KV.map_wf (fun _ => rfl) | with_reducible exact fun _ => KV.foldl_set_wf _ _ _ rfl | (simp; done) | skip) | with_reducible apply Keeps.ite | with_reducible apply Keeps.ite1 | (with_reducible apply Keeps.foldl; intro s₁ x₁; have h₁ : Keeps m₀ s₁ s₁ := Keeps.refl s₁; try dsimp +zetaDelta only) | (with_reducible apply Keeps.foldl1; intro s₁ x₁; have h₁ : Keeps m₀ s₁.1 s₁.1 := Keeps.refl s₁.1; try dsimp +zetaDelta only) | extract_lets | split | dsimp +zetaDelta only)

theorem keeps_groupDone {m₀ : Bool} {a₀ s₀ : State} (h₀ : Keeps m₀ a₀ s₀) {t : Nat} {f : Nat} {l : GLines} :
    Keeps m₀ a₀ (groupDone s₀ t f l) := by
  unfold groupDone
  try extract_lets
  repeat' (first | with_reducible assumption | with_reducible apply keeps_deleteDone | with_reducible apply keeps_editDone | with_reducible apply keeps_scanDone | with_reducible apply keeps_slotDone | with_reducible apply keeps_spillDone | with_reducible apply keeps_unclaimDone | with_reducible apply keeps_visitDone | (fail_if_no_progress (with_reducible apply Keeps.upd) <;> first | with_reducible rfl | with_reducible exact fun x => x | with_reducible exact fun _ => ⟨rfl, rfl, rfl, rfl⟩ | with_reducible exact fun x => absurd x Bool.false_ne_true | with_reducible exact KV.set_wf _ _ _ | with_reducible exact KV.put_wf _ _ | with_reducible exact KV.filter_wf _ | with_reducible exact List.prefix_rfl | with_reducible exact List.prefix_append _ _ | with_reducible exact KV.map_wf (fun _ => rfl) | with_reducible exact fun _ => KV.foldl_set_wf _ _ _ rfl | (simp; done) | skip) | with_reducible apply Keeps.ite | with_reducible apply Keeps.ite1 | (with_reducible apply Keeps.foldl; intro s₁ x₁; have h₁ : Keeps m₀ s₁ s₁ := Keeps.refl s₁; try dsimp +zetaDelta only) | (with_reducible apply Keeps.foldl1; intro s₁ x₁; have h₁ : Keeps m₀ s₁.1 s₁.1 := Keeps.refl s₁.1; try dsimp +zetaDelta only) | extract_lets | split | dsimp +zetaDelta only)

theorem keeps_opConsulted {m₀ : Bool} {a₀ s₀ : State} (h₀ : Keeps m₀ a₀ s₀) {t : Nat} {k : Nat} {l : GLines} {bad : Bool} :
    Keeps m₀ a₀ (opConsulted s₀ t k l bad) := by
  unfold opConsulted
  try extract_lets
  repeat' (first | with_reducible assumption | with_reducible apply keeps_State_bump | with_reducible apply keeps_State_modFolio | with_reducible apply keeps_State_modOp | with_reducible apply keeps_State_modTill | with_reducible apply keeps_State_tev | with_reducible apply keeps_enterGroup | with_reducible apply keeps_lostSlots | with_reducible apply keeps_opClose | with_reducible apply keeps_opDo | (fail_if_no_progress (with_reducible apply Keeps.upd) <;> first | with_reducible rfl | with_reducible exact fun x => x | with_reducible exact fun _ => ⟨rfl, rfl, rfl, rfl⟩ | with_reducible exact fun x => absurd x Bool.false_ne_true | with_reducible exact KV.set_wf _ _ _ | with_reducible exact KV.put_wf _ _ | with_reducible exact KV.filter_wf _ | with_reducible exact List.prefix_rfl | with_reducible exact List.prefix_append _ _ | with_reducible exact KV.map_wf (fun _ => rfl) | with_reducible exact fun _ => KV.foldl_set_wf _ _ _ rfl | (simp; done) | skip) | with_reducible apply Keeps.ite | with_reducible apply Keeps.ite1 | (with_reducible apply Keeps.foldl; intro s₁ x₁; have h₁ : Keeps m₀ s₁ s₁ := Keeps.refl s₁; try dsimp +zetaDelta only) | (with_reducible apply Keeps.foldl1; intro s₁ x₁; have h₁ : Keeps m₀ s₁.1 s₁.1 := Keeps.refl s₁.1; try dsimp +zetaDelta only) | extract_lets | split | dsimp +zetaDelta only)

theorem keeps_groupBack {m₀ : Bool} {a₀ s₀ : State} (h₀ : Keeps m₀ a₀ s₀) {t : Nat} {f : Nat} {x : Folio} {r : OpenRead} {line : Nat} {data : Sys2Proof.LineData} {bad : Bool} :
    Keeps m₀ a₀ (groupBack s₀ t f x r line data bad) := by
  unfold groupBack
  try extract_lets
  repeat' (first | with_reducible assumption | with_reducible apply keeps_State_modFolio | with_reducible apply keeps_State_modTill | with_reducible apply keeps_consultDone | with_reducible apply keeps_enterGroup | with_reducible apply keeps_groupDone | with_reducible apply keeps_opConsulted | with_reducible apply keeps_tryRetire | (fail_if_no_progress (with_reducible apply Keeps.upd) <;> first | with_reducible rfl | with_reducible exact fun x => x | with_reducible exact fun _ => ⟨rfl, rfl, rfl, rfl⟩ | with_reducible exact fun x => absurd x Bool.false_ne_true | with_reducible exact KV.set_wf _ _ _ | with_reducible exact KV.put_wf _ _ | with_reducible exact KV.filter_wf _ | with_reducible exact List.prefix_rfl | with_reducible exact List.prefix_append _ _ | with_reducible exact KV.map_wf (fun _ => rfl) | with_reducible exact fun _ => KV.foldl_set_wf _ _ _ rfl | (simp; done) | skip) | with_reducible apply Keeps.ite | with_reducible apply Keeps.ite1 | (with_reducible apply Keeps.foldl; intro s₁ x₁; have h₁ : Keeps m₀ s₁ s₁ := Keeps.refl s₁; try dsimp +zetaDelta only) | (with_reducible apply Keeps.foldl1; intro s₁ x₁; have h₁ : Keeps m₀ s₁.1 s₁.1 := Keeps.refl s₁.1; try dsimp +zetaDelta only) | extract_lets | split | dsimp +zetaDelta only)

theorem keeps_readBack {m₀ : Bool} {a₀ s₀ : State} (h₀ : Keeps m₀ a₀ s₀) {t : Nat} {f : Nat} :
    Keeps m₀ a₀ (readBack s₀ t f) := by
  unfold readBack
  try extract_lets
  repeat' (first | with_reducible assumption | with_reducible apply keeps_finish | with_reducible apply keeps_lookup | with_reducible apply keeps_opClose | with_reducible apply keeps_tryRetire | (fail_if_no_progress (with_reducible apply Keeps.upd) <;> first | with_reducible rfl | with_reducible exact fun x => x | with_reducible exact fun _ => ⟨rfl, rfl, rfl, rfl⟩ | with_reducible exact fun x => absurd x Bool.false_ne_true | with_reducible exact KV.set_wf _ _ _ | with_reducible exact KV.put_wf _ _ | with_reducible exact KV.filter_wf _ | with_reducible exact List.prefix_rfl | with_reducible exact List.prefix_append _ _ | with_reducible exact KV.map_wf (fun _ => rfl) | with_reducible exact fun _ => KV.foldl_set_wf _ _ _ rfl | (simp; done) | skip) | with_reducible apply Keeps.ite | with_reducible apply Keeps.ite1 | (with_reducible apply Keeps.foldl; intro s₁ x₁; have h₁ : Keeps m₀ s₁ s₁ := Keeps.refl s₁; try dsimp +zetaDelta only) | (with_reducible apply Keeps.foldl1; intro s₁ x₁; have h₁ : Keeps m₀ s₁.1 s₁.1 := Keeps.refl s₁.1; try dsimp +zetaDelta only) | extract_lets | split | dsimp +zetaDelta only)

theorem keeps_lineBack {m₀ : Bool} {a₀ s₀ : State} (h₀ : Keeps m₀ a₀ s₀) {t : Nat} {f : Nat} {x : Folio} {r : OpenRead} {cancelled : Bool} {d : RData} :
    Keeps m₀ a₀ (lineBack s₀ t f x r cancelled d) := by
  unfold lineBack
  try extract_lets
  repeat' (first | with_reducible assumption | with_reducible apply keeps_State_modFolio | with_reducible apply keeps_readBack | (fail_if_no_progress (with_reducible apply Keeps.upd) <;> first | with_reducible rfl | with_reducible exact fun x => x | with_reducible exact fun _ => ⟨rfl, rfl, rfl, rfl⟩ | with_reducible exact fun x => absurd x Bool.false_ne_true | with_reducible exact KV.set_wf _ _ _ | with_reducible exact KV.put_wf _ _ | with_reducible exact KV.filter_wf _ | with_reducible exact List.prefix_rfl | with_reducible exact List.prefix_append _ _ | with_reducible exact KV.map_wf (fun _ => rfl) | with_reducible exact fun _ => KV.foldl_set_wf _ _ _ rfl | (simp; done) | skip) | with_reducible apply Keeps.ite | with_reducible apply Keeps.ite1 | (with_reducible apply Keeps.foldl; intro s₁ x₁; have h₁ : Keeps m₀ s₁ s₁ := Keeps.refl s₁; try dsimp +zetaDelta only) | (with_reducible apply Keeps.foldl1; intro s₁ x₁; have h₁ : Keeps m₀ s₁.1 s₁.1 := Keeps.refl s₁.1; try dsimp +zetaDelta only) | extract_lets | split | dsimp +zetaDelta only)

theorem keeps_readAnswer {m₀ : Bool} {a₀ s₀ : State} (h₀ : Keeps m₀ a₀ s₀) {m : Nat} {t : Nat} {f : Nat} {line : Nat} {cancelled : Bool} {error : Bool} {d : RData} :
    Keeps m₀ a₀ (readAnswer s₀ m t f line cancelled error d) := by
  unfold readAnswer
  try extract_lets
  repeat' (first | with_reducible assumption | with_reducible apply keeps_State_bump | with_reducible apply keeps_groupBack | with_reducible apply keeps_lineBack | (fail_if_no_progress (with_reducible apply Keeps.upd) <;> first | with_reducible rfl | with_reducible exact fun x => x | with_reducible exact fun _ => ⟨rfl, rfl, rfl, rfl⟩ | with_reducible exact fun x => absurd x Bool.false_ne_true | with_reducible exact KV.set_wf _ _ _ | with_reducible exact KV.put_wf _ _ | with_reducible exact KV.filter_wf _ | with_reducible exact List.prefix_rfl | with_reducible exact List.prefix_append _ _ | with_reducible exact KV.map_wf (fun _ => rfl) | with_reducible exact fun _ => KV.foldl_set_wf _ _ _ rfl | (simp; done) | skip) | with_reducible apply Keeps.ite | with_reducible apply Keeps.ite1 | (with_reducible apply Keeps.foldl; intro s₁ x₁; have h₁ : Keeps m₀ s₁ s₁ := Keeps.refl s₁; try dsimp +zetaDelta only) | (with_reducible apply Keeps.foldl1; intro s₁ x₁; have h₁ : Keeps m₀ s₁.1 s₁.1 := Keeps.refl s₁.1; try dsimp +zetaDelta only) | extract_lets | split | dsimp +zetaDelta only)

theorem keeps_takeRead {m₀ : Bool} {a₀ s₀ : State} (h₀ : Keeps m₀ a₀ s₀) {m : Nat} {t : Nat} {f : Nat} {line : Nat} {cancelled : Bool} {error : Bool} {d : RData} :
    Keeps m₀ a₀ (takeRead s₀ m t f line cancelled error d) := by
  unfold takeRead
  try extract_lets
  repeat' (first | with_reducible assumption | with_reducible apply keeps_portSample | with_reducible apply keeps_readAnswer | (fail_if_no_progress (with_reducible apply Keeps.upd) <;> first | with_reducible rfl | with_reducible exact fun x => x | with_reducible exact fun _ => ⟨rfl, rfl, rfl, rfl⟩ | with_reducible exact fun x => absurd x Bool.false_ne_true | with_reducible exact KV.set_wf _ _ _ | with_reducible exact KV.put_wf _ _ | with_reducible exact KV.filter_wf _ | with_reducible exact List.prefix_rfl | with_reducible exact List.prefix_append _ _ | with_reducible exact KV.map_wf (fun _ => rfl) | with_reducible exact fun _ => KV.foldl_set_wf _ _ _ rfl | (simp; done) | skip) | with_reducible apply Keeps.ite | with_reducible apply Keeps.ite1 | (with_reducible apply Keeps.foldl; intro s₁ x₁; have h₁ : Keeps m₀ s₁ s₁ := Keeps.refl s₁; try dsimp +zetaDelta only) | (with_reducible apply Keeps.foldl1; intro s₁ x₁; have h₁ : Keeps m₀ s₁.1 s₁.1 := Keeps.refl s₁.1; try dsimp +zetaDelta only) | extract_lets | split | dsimp +zetaDelta only)

theorem keeps_enterLost {m₀ : Bool} {a₀ s₀ : State} (h₀ : Keeps m₀ a₀ s₀) {m : Nat} {ptl : Bool} {a : Sys2Proof.Aid} {l : Sys2Proof.Line} :
    Keeps m₀ a₀ (enterLost s₀ m ptl a l) := by
  unfold enterLost
  try extract_lets
  repeat' (first | with_reducible assumption | with_reducible apply keeps_State_bump | (fail_if_no_progress (with_reducible apply Keeps.upd) <;> first | with_reducible rfl | with_reducible exact fun x => x | with_reducible exact fun _ => ⟨rfl, rfl, rfl, rfl⟩ | with_reducible exact fun x => absurd x Bool.false_ne_true | with_reducible exact KV.set_wf _ _ _ | with_reducible exact KV.put_wf _ _ | with_reducible exact KV.filter_wf _ | with_reducible exact List.prefix_rfl | with_reducible exact List.prefix_append _ _ | with_reducible exact KV.map_wf (fun _ => rfl) | with_reducible exact fun _ => KV.foldl_set_wf _ _ _ rfl | (simp; done) | skip) | with_reducible apply Keeps.ite | with_reducible apply Keeps.ite1 | (with_reducible apply Keeps.foldl; intro s₁ x₁; have h₁ : Keeps m₀ s₁ s₁ := Keeps.refl s₁; try dsimp +zetaDelta only) | (with_reducible apply Keeps.foldl1; intro s₁ x₁; have h₁ : Keeps m₀ s₁.1 s₁.1 := Keeps.refl s₁.1; try dsimp +zetaDelta only) | extract_lets | split | dsimp +zetaDelta only)

theorem keeps_writeAnswer {m₀ : Bool} {a₀ s₀ : State} (h₀ : Keeps m₀ a₀ s₀) {m : Nat} {t : Nat} {f : Nat} {mop : Sys2Proof.Mop} {lost : Bool} :
    Keeps m₀ a₀ (writeAnswer s₀ m t f mop lost) := by
  unfold writeAnswer
  try extract_lets
  repeat' (first | with_reducible assumption | with_reducible apply keeps_State_bump | with_reducible apply keeps_State_modFolio | with_reducible apply keeps_State_note | with_reducible apply keeps_enterGroup | with_reducible apply keeps_enterLost | with_reducible apply keeps_opClose | with_reducible apply keeps_tryRetire | (fail_if_no_progress (with_reducible apply Keeps.upd) <;> first | with_reducible rfl | with_reducible exact fun x => x | with_reducible exact fun _ => ⟨rfl, rfl, rfl, rfl⟩ | with_reducible exact fun x => absurd x Bool.false_ne_true | with_reducible exact KV.set_wf _ _ _ | with_reducible exact KV.put_wf _ _ | with_reducible exact KV.filter_wf _ | with_reducible exact List.prefix_rfl | with_reducible exact List.prefix_append _ _ | with_reducible exact KV.map_wf (fun _ => rfl) | with_reducible exact fun _ => KV.foldl_set_wf _ _ _ rfl | (simp; done) | skip) | with_reducible apply Keeps.ite | with_reducible apply Keeps.ite1 | (with_reducible apply Keeps.foldl; intro s₁ x₁; have h₁ : Keeps m₀ s₁ s₁ := Keeps.refl s₁; try dsimp +zetaDelta only) | (with_reducible apply Keeps.foldl1; intro s₁ x₁; have h₁ : Keeps m₀ s₁.1 s₁.1 := Keeps.refl s₁.1; try dsimp +zetaDelta only) | extract_lets | split | dsimp +zetaDelta only)

theorem keeps_niAct {m₀ : Bool} {a₀ s₀ : State} (h₀ : Keeps m₀ a₀ s₀) {t : Nat} {m : NiMsg} :
    Keeps m₀ a₀ (niAct t s₀ m) := by
  unfold niAct
  try extract_lets
  repeat' (first | with_reducible assumption | with_reducible apply keeps_respond | with_reducible apply keeps_takeRead | with_reducible apply keeps_writeAnswer | (fail_if_no_progress (with_reducible apply Keeps.upd) <;> first | with_reducible rfl | with_reducible exact fun x => x | with_reducible exact fun _ => ⟨rfl, rfl, rfl, rfl⟩ | with_reducible exact fun x => absurd x Bool.false_ne_true | with_reducible exact KV.set_wf _ _ _ | with_reducible exact KV.put_wf _ _ | with_reducible exact KV.filter_wf _ | with_reducible exact List.prefix_rfl | with_reducible exact List.prefix_append _ _ | with_reducible exact KV.map_wf (fun _ => rfl) | with_reducible exact fun _ => KV.foldl_set_wf _ _ _ rfl | (simp; done) | skip) | with_reducible apply Keeps.ite | with_reducible apply Keeps.ite1 | (with_reducible apply Keeps.foldl; intro s₁ x₁; have h₁ : Keeps m₀ s₁ s₁ := Keeps.refl s₁; try dsimp +zetaDelta only) | (with_reducible apply Keeps.foldl1; intro s₁ x₁; have h₁ : Keeps m₀ s₁.1 s₁.1 := Keeps.refl s₁.1; try dsimp +zetaDelta only) | extract_lets | split | dsimp +zetaDelta only)

theorem keeps_drainNi {m₀ : Bool} {a₀ s₀ : State} (h₀ : Keeps m₀ a₀ s₀) {t : Nat} :
    Keeps m₀ a₀ (drainNi s₀ t) := by
  unfold drainNi
  try extract_lets
  repeat' (first | with_reducible assumption | with_reducible apply keeps_State_modTill | with_reducible apply keeps_niAct | (fail_if_no_progress (with_reducible apply Keeps.upd) <;> first | with_reducible rfl | with_reducible exact fun x => x | with_reducible exact fun _ => ⟨rfl, rfl, rfl, rfl⟩ | with_reducible exact fun x => absurd x Bool.false_ne_true | with_reducible exact KV.set_wf _ _ _ | with_reducible exact KV.put_wf _ _ | with_reducible exact KV.filter_wf _ | with_reducible exact List.prefix_rfl | with_reducible exact List.prefix_append _ _ | with_reducible exact KV.map_wf (fun _ => rfl) | with_reducible exact fun _ => KV.foldl_set_wf _ _ _ rfl | (simp; done) | skip) | with_reducible apply Keeps.ite | with_reducible apply Keeps.ite1 | (with_reducible apply Keeps.foldl; intro s₁ x₁; have h₁ : Keeps m₀ s₁ s₁ := Keeps.refl s₁; try dsimp +zetaDelta only) | (with_reducible apply Keeps.foldl1; intro s₁ x₁; have h₁ : Keeps m₀ s₁.1 s₁.1 := Keeps.refl s₁.1; try dsimp +zetaDelta only) | extract_lets | split | dsimp +zetaDelta only)

theorem keeps_kickReleases {m₀ : Bool} {a₀ s₀ : State} (h₀ : Keeps m₀ a₀ s₀) {t : Nat} :
    Keeps m₀ a₀ (kickReleases s₀ t) := by
  unfold kickReleases
  try extract_lets
  repeat' (first | with_reducible assumption | with_reducible apply keeps_releaseAccess | (fail_if_no_progress (with_reducible apply Keeps.upd) <;> first | with_reducible rfl | with_reducible exact fun x => x | with_reducible exact fun _ => ⟨rfl, rfl, rfl, rfl⟩ | with_reducible exact fun x => absurd x Bool.false_ne_true | with_reducible exact KV.set_wf _ _ _ | with_reducible exact KV.put_wf _ _ | with_reducible exact KV.filter_wf _ | with_reducible exact List.prefix_rfl | with_reducible exact List.prefix_append _ _ | with_reducible exact KV.map_wf (fun _ => rfl) | with_reducible exact fun _ => KV.foldl_set_wf _ _ _ rfl | (simp; done) | skip) | with_reducible apply Keeps.ite | with_reducible apply Keeps.ite1 | (with_reducible apply Keeps.foldl; intro s₁ x₁; have h₁ : Keeps m₀ s₁ s₁ := Keeps.refl s₁; try dsimp +zetaDelta only) | (with_reducible apply Keeps.foldl1; intro s₁ x₁; have h₁ : Keeps m₀ s₁.1 s₁.1 := Keeps.refl s₁.1; try dsimp +zetaDelta only) | extract_lets | split | dsimp +zetaDelta only)

theorem keeps_State_dropXfer {m₀ : Bool} {a₀ s₀ : State} (h₀ : Keeps m₀ a₀ s₀) {src : Nat} :
    Keeps m₀ a₀ (State.dropXfer s₀ src) := by
  unfold State.dropXfer
  try extract_lets
  repeat' (first | with_reducible assumption | (fail_if_no_progress (with_reducible apply Keeps.upd) <;> first | with_reducible rfl | with_reducible exact fun x => x | with_reducible exact fun _ => ⟨rfl, rfl, rfl, rfl⟩ | with_reducible exact fun x => absurd x Bool.false_ne_true | with_reducible exact KV.set_wf _ _ _ | with_reducible exact KV.put_wf _ _ | with_reducible exact KV.filter_wf _ | with_reducible exact List.prefix_rfl | with_reducible exact List.prefix_append _ _ | with_reducible exact KV.map_wf (fun _ => rfl) | with_reducible exact fun _ => KV.foldl_set_wf _ _ _ rfl | (simp; done) | skip) | with_reducible apply Keeps.ite | with_reducible apply Keeps.ite1 | (with_reducible apply Keeps.foldl; intro s₁ x₁; have h₁ : Keeps m₀ s₁ s₁ := Keeps.refl s₁; try dsimp +zetaDelta only) | (with_reducible apply Keeps.foldl1; intro s₁ x₁; have h₁ : Keeps m₀ s₁.1 s₁.1 := Keeps.refl s₁.1; try dsimp +zetaDelta only) | extract_lets | split | dsimp +zetaDelta only)

theorem keeps_failTransfers {m₀ : Bool} {a₀ s₀ : State} (h₀ : Keeps m₀ a₀ s₀) {t : Nat} {role : Role} :
    Keeps m₀ a₀ (failTransfers s₀ t role) := by
  unfold failTransfers
  try extract_lets
  repeat' (first | with_reducible assumption | with_reducible apply keeps_State_dropXfer | with_reducible apply keeps_State_modTill | (fail_if_no_progress (with_reducible apply Keeps.upd) <;> first | with_reducible rfl | with_reducible exact fun x => x | with_reducible exact fun _ => ⟨rfl, rfl, rfl, rfl⟩ | with_reducible exact fun x => absurd x Bool.false_ne_true | with_reducible exact KV.set_wf _ _ _ | with_reducible exact KV.put_wf _ _ | with_reducible exact KV.filter_wf _ | with_reducible exact List.prefix_rfl | with_reducible exact List.prefix_append _ _ | with_reducible exact KV.map_wf (fun _ => rfl) | with_reducible exact fun _ => KV.foldl_set_wf _ _ _ rfl | (simp; done) | skip) | with_reducible apply Keeps.ite | with_reducible apply Keeps.ite1 | (with_reducible apply Keeps.foldl; intro s₁ x₁; have h₁ : Keeps m₀ s₁ s₁ := Keeps.refl s₁; try dsimp +zetaDelta only) | (with_reducible apply Keeps.foldl1; intro s₁ x₁; have h₁ : Keeps m₀ s₁.1 s₁.1 := Keeps.refl s₁.1; try dsimp +zetaDelta only) | extract_lets | split | dsimp +zetaDelta only)

theorem keeps_failTill {m₀ : Bool} {a₀ s₀ : State} (h₀ : Keeps m₀ a₀ s₀) {t : Nat} {cause : Nat} :
    Keeps m₀ a₀ (failTill s₀ t cause) := by
  unfold failTill
  try extract_lets
  repeat' (first | with_reducible assumption | with_reducible apply keeps_State_modTill | with_reducible apply keeps_State_note | with_reducible apply keeps_State_sendP | with_reducible apply keeps_endHalt | with_reducible apply keeps_failTransfers | with_reducible apply keeps_nextTransfer | (fail_if_no_progress (with_reducible apply Keeps.upd) <;> first | with_reducible rfl | with_reducible exact fun x => x | with_reducible exact fun _ => ⟨rfl, rfl, rfl, rfl⟩ | with_reducible exact fun x => absurd x Bool.false_ne_true | with_reducible exact KV.set_wf _ _ _ | with_reducible exact KV.put_wf _ _ | with_reducible exact KV.filter_wf _ | with_reducible exact List.prefix_rfl | with_reducible exact List.prefix_append _ _ | with_reducible exact KV.map_wf (fun _ => rfl) | with_reducible exact fun _ => KV.foldl_set_wf _ _ _ rfl | (simp; done) | skip) | with_reducible apply Keeps.ite | with_reducible apply Keeps.ite1 | (with_reducible apply Keeps.foldl; intro s₁ x₁; have h₁ : Keeps m₀ s₁ s₁ := Keeps.refl s₁; try dsimp +zetaDelta only) | (with_reducible apply Keeps.foldl1; intro s₁ x₁; have h₁ : Keeps m₀ s₁.1 s₁.1 := Keeps.refl s₁.1; try dsimp +zetaDelta only) | extract_lets | split | dsimp +zetaDelta only)

theorem keeps_settleFails {m₀ : Bool} {a₀ s₀ : State} (h₀ : Keeps m₀ a₀ s₀)  :
    Keeps m₀ a₀ (settleFails s₀) := by
  unfold settleFails
  try extract_lets
  repeat' (first | with_reducible assumption | with_reducible apply keeps_failTill | (fail_if_no_progress (with_reducible apply Keeps.upd) <;> first | with_reducible rfl | with_reducible exact fun x => x | with_reducible exact fun _ => ⟨rfl, rfl, rfl, rfl⟩ | with_reducible exact fun x => absurd x Bool.false_ne_true | with_reducible exact KV.set_wf _ _ _ | with_reducible exact KV.put_wf _ _ | with_reducible exact KV.filter_wf _ | with_reducible exact List.prefix_rfl | with_reducible exact List.prefix_append _ _ | with_reducible exact KV.map_wf (fun _ => rfl) | with_reducible exact fun _ => KV.foldl_set_wf _ _ _ rfl | (simp; done) | skip) | with_reducible apply Keeps.ite | with_reducible apply Keeps.ite1 | (with_reducible apply Keeps.foldl; intro s₁ x₁; have h₁ : Keeps m₀ s₁ s₁ := Keeps.refl s₁; try dsimp +zetaDelta only) | (with_reducible apply Keeps.foldl1; intro s₁ x₁; have h₁ : Keeps m₀ s₁.1 s₁.1 := Keeps.refl s₁.1; try dsimp +zetaDelta only) | extract_lets | split | dsimp +zetaDelta only)

theorem keeps_worked {m₀ : Bool} {a₀ s₀ : State} (h₀ : Keeps m₀ a₀ s₀) {t : Nat} :
    Keeps m₀ a₀ (worked s₀ t) := by
  unfold worked
  try extract_lets
  repeat' (first | with_reducible assumption | with_reducible apply keeps_State_modTill | with_reducible apply keeps_drainNi | with_reducible apply keeps_kickReleases | with_reducible apply keeps_settleFails | (fail_if_no_progress (with_reducible apply Keeps.upd) <;> first | with_reducible rfl | with_reducible exact fun x => x | with_reducible exact fun _ => ⟨rfl, rfl, rfl, rfl⟩ | with_reducible exact fun x => absurd x Bool.false_ne_true | with_reducible exact KV.set_wf _ _ _ | with_reducible exact KV.put_wf _ _ | with_reducible exact KV.filter_wf _ | with_reducible exact List.prefix_rfl | with_reducible exact List.prefix_append _ _ | with_reducible exact KV.map_wf (fun _ => rfl) | with_reducible exact fun _ => KV.foldl_set_wf _ _ _ rfl | (simp; done) | skip) | with_reducible apply Keeps.ite | with_reducible apply Keeps.ite1 | (with_reducible apply Keeps.foldl; intro s₁ x₁; have h₁ : Keeps m₀ s₁ s₁ := Keeps.refl s₁; try dsimp +zetaDelta only) | (with_reducible apply Keeps.foldl1; intro s₁ x₁; have h₁ : Keeps m₀ s₁.1 s₁.1 := Keeps.refl s₁.1; try dsimp +zetaDelta only) | extract_lets | split | dsimp +zetaDelta only)

theorem keeps_atTill {m₀ : Bool} {a₀ s₀ : State} (h₀ : Keeps m₀ a₀ s₀) {t : Nat} {keep : NiMsg} {act : State → State} (hact : ∀ s, Keeps m₀ s (act s)) :
    Keeps m₀ a₀ (atTill s₀ t keep act) := by
  unfold atTill
  try extract_lets
  repeat' (first | with_reducible assumption | exact (by assumption : Keeps _ _ _).trans (hact _) | (refine Keeps.trans ?_ (hact _)) | with_reducible apply keeps_State_modTill | with_reducible apply keeps_drainNi | with_reducible apply keeps_worked | (fail_if_no_progress (with_reducible apply Keeps.upd) <;> first | with_reducible rfl | with_reducible exact fun x => x | with_reducible exact fun _ => ⟨rfl, rfl, rfl, rfl⟩ | with_reducible exact fun x => absurd x Bool.false_ne_true | with_reducible exact KV.set_wf _ _ _ | with_reducible exact KV.put_wf _ _ | with_reducible exact KV.filter_wf _ | with_reducible exact List.prefix_rfl | with_reducible exact List.prefix_append _ _ | with_reducible exact KV.map_wf (fun _ => rfl) | with_reducible exact fun _ => KV.foldl_set_wf _ _ _ rfl | (simp; done) | skip) | with_reducible apply Keeps.ite | with_reducible apply Keeps.ite1 | (with_reducible apply Keeps.foldl; intro s₁ x₁; have h₁ : Keeps m₀ s₁ s₁ := Keeps.refl s₁; try dsimp +zetaDelta only) | (with_reducible apply Keeps.foldl1; intro s₁ x₁; have h₁ : Keeps m₀ s₁.1 s₁.1 := Keeps.refl s₁.1; try dsimp +zetaDelta only) | extract_lets | split | dsimp +zetaDelta only)

theorem keeps_forwardRsp {m₀ : Bool} {a₀ s₀ : State} (h₀ : Keeps m₀ a₀ s₀) {w : Nat} {p : Snoop} {o : RspOpc} {a : Sys2Proof.Aid} {lines : List Nat} :
    Keeps m₀ a₀ (forwardRsp s₀ w p o a lines) := by
  unfold forwardRsp
  try extract_lets
  repeat' (first | with_reducible assumption | (intro s₂; have h₂ : Keeps m₀ s₂ s₂ := Keeps.refl s₂; try dsimp +zetaDelta only) | with_reducible apply keeps_State_packet | with_reducible apply keeps_atTill | with_reducible apply keeps_respond | (fail_if_no_progress (with_reducible apply Keeps.upd) <;> first | with_reducible rfl | with_reducible exact fun x => x | with_reducible exact fun _ => ⟨rfl, rfl, rfl, rfl⟩ | with_reducible exact fun x => absurd x Bool.false_ne_true | with_reducible exact KV.set_wf _ _ _ | with_reducible exact KV.put_wf _ _ | with_reducible exact KV.filter_wf _ | with_reducible exact List.prefix_rfl | with_reducible exact List.prefix_append _ _ | with_reducible exact KV.map_wf (fun _ => rfl) | with_reducible exact fun _ => KV.foldl_set_wf _ _ _ rfl | (simp; done) | skip) | with_reducible apply Keeps.ite | with_reducible apply Keeps.ite1 | (with_reducible apply Keeps.foldl; intro s₁ x₁; have h₁ : Keeps m₀ s₁ s₁ := Keeps.refl s₁; try dsimp +zetaDelta only) | (with_reducible apply Keeps.foldl1; intro s₁ x₁; have h₁ : Keeps m₀ s₁.1 s₁.1 := Keeps.refl s₁.1; try dsimp +zetaDelta only) | extract_lets | split | dsimp +zetaDelta only)

theorem keeps_freeSid {m₀ : Bool} {a₀ s₀ : State} (h₀ : Keeps m₀ a₀ s₀) {w : Nat} {sid : Nat} :
    Keeps m₀ a₀ (freeSid s₀ w sid) := by
  unfold freeSid
  try extract_lets
  repeat' (first | with_reducible assumption | with_reducible apply keeps_State_modWicket | with_reducible apply keeps_takeSids | (fail_if_no_progress (with_reducible apply Keeps.upd) <;> first | with_reducible rfl | with_reducible exact fun x => x | with_reducible exact fun _ => ⟨rfl, rfl, rfl, rfl⟩ | with_reducible exact fun x => absurd x Bool.false_ne_true | with_reducible exact KV.set_wf _ _ _ | with_reducible exact KV.put_wf _ _ | with_reducible exact KV.filter_wf _ | with_reducible exact List.prefix_rfl | with_reducible exact List.prefix_append _ _ | with_reducible exact KV.map_wf (fun _ => rfl) | with_reducible exact fun _ => KV.foldl_set_wf _ _ _ rfl | (simp; done) | skip) | with_reducible apply Keeps.ite | with_reducible apply Keeps.ite1 | (with_reducible apply Keeps.foldl; intro s₁ x₁; have h₁ : Keeps m₀ s₁ s₁ := Keeps.refl s₁; try dsimp +zetaDelta only) | (with_reducible apply Keeps.foldl1; intro s₁ x₁; have h₁ : Keeps m₀ s₁.1 s₁.1 := Keeps.refl s₁.1; try dsimp +zetaDelta only) | extract_lets | split | dsimp +zetaDelta only)

theorem keeps_freeIfDone {m₀ : Bool} {a₀ s₀ : State} (h₀ : Keeps m₀ a₀ s₀) {w : Nat} {sid : Nat} :
    Keeps m₀ a₀ (freeIfDone s₀ w sid) := by
  unfold freeIfDone
  try extract_lets
  repeat' (first | with_reducible assumption | with_reducible apply keeps_freeSid | (fail_if_no_progress (with_reducible apply Keeps.upd) <;> first | with_reducible rfl | with_reducible exact fun x => x | with_reducible exact fun _ => ⟨rfl, rfl, rfl, rfl⟩ | with_reducible exact fun x => absurd x Bool.false_ne_true | with_reducible exact KV.set_wf _ _ _ | with_reducible exact KV.put_wf _ _ | with_reducible exact KV.filter_wf _ | with_reducible exact List.prefix_rfl | with_reducible exact List.prefix_append _ _ | with_reducible exact KV.map_wf (fun _ => rfl) | with_reducible exact fun _ => KV.foldl_set_wf _ _ _ rfl | (simp; done) | skip) | with_reducible apply Keeps.ite | with_reducible apply Keeps.ite1 | (with_reducible apply Keeps.foldl; intro s₁ x₁; have h₁ : Keeps m₀ s₁ s₁ := Keeps.refl s₁; try dsimp +zetaDelta only) | (with_reducible apply Keeps.foldl1; intro s₁ x₁; have h₁ : Keeps m₀ s₁.1 s₁.1 := Keeps.refl s₁.1; try dsimp +zetaDelta only) | extract_lets | split | dsimp +zetaDelta only)

theorem keeps_pumpRsp {m₀ : Bool} {a₀ s₀ : State} (h₀ : Keeps m₀ a₀ s₀) {w : Nat} :
    Keeps m₀ a₀ (pumpRsp s₀ w) := by
  unfold pumpRsp
  try extract_lets
  repeat' (first | with_reducible assumption | with_reducible apply keeps_State_modWicket | with_reducible apply keeps_forwardRsp | with_reducible apply keeps_freeIfDone | (fail_if_no_progress (with_reducible apply Keeps.upd) <;> first | with_reducible rfl | with_reducible exact fun x => x | with_reducible exact fun _ => ⟨rfl, rfl, rfl, rfl⟩ | with_reducible exact fun x => absurd x Bool.false_ne_true | with_reducible exact KV.set_wf _ _ _ | with_reducible exact KV.put_wf _ _ | with_reducible exact KV.filter_wf _ | with_reducible exact List.prefix_rfl | with_reducible exact List.prefix_append _ _ | with_reducible exact KV.map_wf (fun _ => rfl) | with_reducible exact fun _ => KV.foldl_set_wf _ _ _ rfl | (simp; done) | skip) | with_reducible apply Keeps.ite | with_reducible apply Keeps.ite1 | (with_reducible apply Keeps.foldl; intro s₁ x₁; have h₁ : Keeps m₀ s₁ s₁ := Keeps.refl s₁; try dsimp +zetaDelta only) | (with_reducible apply Keeps.foldl1; intro s₁ x₁; have h₁ : Keeps m₀ s₁.1 s₁.1 := Keeps.refl s₁.1; try dsimp +zetaDelta only) | extract_lets | split | dsimp +zetaDelta only)

theorem keeps_wbAnswered {m₀ : Bool} {a₀ s₀ : State} (h₀ : Keeps m₀ a₀ s₀) {w : Nat} {a : Sys2Proof.Aid} {tag : Sys2Proof.Tag} {l : Sys2Proof.Line} :
    Keeps m₀ a₀ (wbAnswered s₀ w a tag l) := by
  unfold wbAnswered
  try extract_lets
  repeat' (first | with_reducible assumption | with_reducible apply keeps_State_modWicket | with_reducible apply keeps_pumpRsp | (fail_if_no_progress (with_reducible apply Keeps.upd) <;> first | with_reducible rfl | with_reducible exact fun x => x | with_reducible exact fun _ => ⟨rfl, rfl, rfl, rfl⟩ | with_reducible exact fun x => absurd x Bool.false_ne_true | with_reducible exact KV.set_wf _ _ _ | with_reducible exact KV.put_wf _ _ | with_reducible exact KV.filter_wf _ | with_reducible exact List.prefix_rfl | with_reducible exact List.prefix_append _ _ | with_reducible exact KV.map_wf (fun _ => rfl) | with_reducible exact fun _ => KV.foldl_set_wf _ _ _ rfl | (simp; done) | skip) | with_reducible apply Keeps.ite | with_reducible apply Keeps.ite1 | (with_reducible apply Keeps.foldl; intro s₁ x₁; have h₁ : Keeps m₀ s₁ s₁ := Keeps.refl s₁; try dsimp +zetaDelta only) | (with_reducible apply Keeps.foldl1; intro s₁ x₁; have h₁ : Keeps m₀ s₁.1 s₁.1 := Keeps.refl s₁.1; try dsimp +zetaDelta only) | extract_lets | split | dsimp +zetaDelta only)

theorem keeps_identify {m₀ : Bool} {a₀ s₀ : State} (h₀ : Keeps m₀ a₀ s₀)  :
    Keeps m₀ a₀ (identify s₀).1 := by
  unfold identify
  try extract_lets
  repeat' (first | with_reducible assumption | (fail_if_no_progress (with_reducible apply Keeps.upd) <;> first | with_reducible rfl | with_reducible exact fun x => x | with_reducible exact fun _ => ⟨rfl, rfl, rfl, rfl⟩ | with_reducible exact fun x => absurd x Bool.false_ne_true | with_reducible exact KV.set_wf _ _ _ | with_reducible exact KV.put_wf _ _ | with_reducible exact KV.filter_wf _ | with_reducible exact List.prefix_rfl | with_reducible exact List.prefix_append _ _ | with_reducible exact KV.map_wf (fun _ => rfl) | with_reducible exact fun _ => KV.foldl_set_wf _ _ _ rfl | (simp; done) | skip) | with_reducible apply Keeps.ite | with_reducible apply Keeps.ite1 | (with_reducible apply Keeps.foldl; intro s₁ x₁; have h₁ : Keeps m₀ s₁ s₁ := Keeps.refl s₁; try dsimp +zetaDelta only) | (with_reducible apply Keeps.foldl1; intro s₁ x₁; have h₁ : Keeps m₀ s₁.1 s₁.1 := Keeps.refl s₁.1; try dsimp +zetaDelta only) | extract_lets | split | dsimp +zetaDelta only)

theorem keeps_identify_eq {m₀ : Bool} {a₀ s₀ u₀ : State} {y₀ : Option (Code × List Sys2Proof.Byte)}  (e₀ : identify s₀ = (u₀, y₀)) (h₀ : Keeps m₀ a₀ s₀) :
    Keeps m₀ a₀ u₀ := by
  have k := @keeps_identify m₀ a₀ s₀ h₀ 
  rw [e₀] at k; exact k

theorem keeps_State_modStep {m₀ : Bool} {a₀ s₀ : State} (h₀ : Keeps m₀ a₀ s₀) {src : Nat} {dst : Nat} {f : RouteStep → RouteStep} :
    Keeps m₀ a₀ (State.modStep s₀ src dst f) := by
  unfold State.modStep
  try extract_lets
  repeat' (first | with_reducible assumption | (fail_if_no_progress (with_reducible apply Keeps.upd) <;> first | with_reducible rfl | with_reducible exact fun x => x | with_reducible exact fun _ => ⟨rfl, rfl, rfl, rfl⟩ | with_reducible exact fun x => absurd x Bool.false_ne_true | with_reducible exact KV.set_wf _ _ _ | with_reducible exact KV.put_wf _ _ | with_reducible exact KV.filter_wf _ | with_reducible exact List.prefix_rfl | with_reducible exact List.prefix_append _ _ | with_reducible exact KV.map_wf (fun _ => rfl) | with_reducible exact fun _ => KV.foldl_set_wf _ _ _ rfl | (simp; done) | skip) | with_reducible apply Keeps.ite | with_reducible apply Keeps.ite1 | (with_reducible apply Keeps.foldl; intro s₁ x₁; have h₁ : Keeps m₀ s₁ s₁ := Keeps.refl s₁; try dsimp +zetaDelta only) | (with_reducible apply Keeps.foldl1; intro s₁ x₁; have h₁ : Keeps m₀ s₁.1 s₁.1 := Keeps.refl s₁.1; try dsimp +zetaDelta only) | extract_lets | split | dsimp +zetaDelta only)

theorem keeps_setRoute {m₀ : Bool} {a₀ s₀ : State} (h₀ : Keeps m₀ a₀ s₀) {src : Nat} {j : Nat} {v : Nat} :
    Keeps m₀ a₀ (setRoute s₀ src j v) := by
  unfold setRoute
  try extract_lets
  repeat' (first | with_reducible assumption | (fail_if_no_progress (with_reducible apply Keeps.upd) <;> first | with_reducible rfl | with_reducible exact fun x => x | with_reducible exact fun _ => ⟨rfl, rfl, rfl, rfl⟩ | with_reducible exact fun x => absurd x Bool.false_ne_true | with_reducible exact KV.set_wf _ _ _ | with_reducible exact KV.put_wf _ _ | with_reducible exact KV.filter_wf _ | with_reducible exact List.prefix_rfl | with_reducible exact List.prefix_append _ _ | with_reducible exact KV.map_wf (fun _ => rfl) | with_reducible exact fun _ => KV.foldl_set_wf _ _ _ rfl | (simp; done) | skip) | with_reducible apply Keeps.ite | with_reducible apply Keeps.ite1 | (with_reducible apply Keeps.foldl; intro s₁ x₁; have h₁ : Keeps m₀ s₁ s₁ := Keeps.refl s₁; try dsimp +zetaDelta only) | (with_reducible apply Keeps.foldl1; intro s₁ x₁; have h₁ : Keeps m₀ s₁.1 s₁.1 := Keeps.refl s₁.1; try dsimp +zetaDelta only) | extract_lets | split | dsimp +zetaDelta only)

theorem keeps_routeAck {m₀ : Bool} {a₀ s₀ : State} (h₀ : Keeps m₀ a₀ s₀) {src : Nat} {dst : Nat} {cls : Nat} :
    Keeps m₀ a₀ (routeAck s₀ src dst cls) := by
  unfold routeAck
  try extract_lets
  repeat' (first | with_reducible assumption | with_reducible apply keeps_State_bump | with_reducible apply keeps_State_modStep | with_reducible apply keeps_State_setRawN | with_reducible apply keeps_setRoute | (fail_if_no_progress (with_reducible apply Keeps.upd) <;> first | with_reducible rfl | with_reducible exact fun x => x | with_reducible exact fun _ => ⟨rfl, rfl, rfl, rfl⟩ | with_reducible exact fun x => absurd x Bool.false_ne_true | with_reducible exact KV.set_wf _ _ _ | with_reducible exact KV.put_wf _ _ | with_reducible exact KV.filter_wf _ | with_reducible exact List.prefix_rfl | with_reducible exact List.prefix_append _ _ | with_reducible exact KV.map_wf (fun _ => rfl) | with_reducible exact fun _ => KV.foldl_set_wf _ _ _ rfl | (simp; done) | skip) | with_reducible apply Keeps.ite | with_reducible apply Keeps.ite1 | (with_reducible apply Keeps.foldl; intro s₁ x₁; have h₁ : Keeps m₀ s₁ s₁ := Keeps.refl s₁; try dsimp +zetaDelta only) | (with_reducible apply Keeps.foldl1; intro s₁ x₁; have h₁ : Keeps m₀ s₁.1 s₁.1 := Keeps.refl s₁.1; try dsimp +zetaDelta only) | extract_lets | split | dsimp +zetaDelta only)

theorem keeps_deferTo {m₀ : Bool} {a₀ s₀ : State} (h₀ : Keeps m₀ a₀ s₀) {cause : Nat} {c : Sys2Proof.Instr} :
    Keeps m₀ a₀ (deferTo s₀ cause c) := by
  unfold deferTo
  try extract_lets
  repeat' (first | with_reducible assumption | with_reducible apply keeps_State_modPower | with_reducible apply keeps_leaveHold | (fail_if_no_progress (with_reducible apply Keeps.upd) <;> first | with_reducible rfl | with_reducible exact fun x => x | with_reducible exact fun _ => ⟨rfl, rfl, rfl, rfl⟩ | with_reducible exact fun x => absurd x Bool.false_ne_true | with_reducible exact KV.set_wf _ _ _ | with_reducible exact KV.put_wf _ _ | with_reducible exact KV.filter_wf _ | with_reducible exact List.prefix_rfl | with_reducible exact List.prefix_append _ _ | with_reducible exact KV.map_wf (fun _ => rfl) | with_reducible exact fun _ => KV.foldl_set_wf _ _ _ rfl | (simp; done) | skip) | with_reducible apply Keeps.ite | with_reducible apply Keeps.ite1 | (with_reducible apply Keeps.foldl; intro s₁ x₁; have h₁ : Keeps m₀ s₁ s₁ := Keeps.refl s₁; try dsimp +zetaDelta only) | (with_reducible apply Keeps.foldl1; intro s₁ x₁; have h₁ : Keeps m₀ s₁.1 s₁.1 := Keeps.refl s₁.1; try dsimp +zetaDelta only) | extract_lets | split | dsimp +zetaDelta only | with_reducible exact fun x => x | (intro hp₀; obtain ⟨hp₁, hp₂⟩ := hp₀; constructor <;> first | with_reducible assumption | omega | (dsimp only; omega) | (dsimp only; split <;> omega)))

end Sys2Proof.Machine
end

