-- ==== Sys2Proof/Laws/KeepsX4.lean ====
section
/-! SUPPORT. What `Keeps` says of each operation, in the order of the callees. -/

namespace Sys2Proof.Machine
set_option linter.all false

theorem keeps_applied {m₀ : Bool} {a₀ s₀ : State} (h₀ : Keeps m₀ a₀ s₀)  :
    Keeps m₀ a₀ (applied s₀) := by
  unfold applied
  try extract_lets
  repeat' (first | with_reducible assumption | with_reducible apply keeps_State_bump | (fail_if_no_progress (with_reducible apply Keeps.upd) <;> first | with_reducible rfl | with_reducible exact fun x => x | with_reducible exact fun _ => ⟨rfl, rfl, rfl, rfl⟩ | with_reducible exact fun x => absurd x Bool.false_ne_true | with_reducible exact KV.set_wf _ _ _ | with_reducible exact KV.put_wf _ _ | with_reducible exact KV.filter_wf _ | with_reducible exact List.prefix_rfl | with_reducible exact List.prefix_append _ _ | with_reducible exact KV.map_wf (fun _ => rfl) | with_reducible exact fun _ => KV.foldl_set_wf _ _ _ rfl | (simp; done) | skip) | with_reducible apply Keeps.ite | with_reducible apply Keeps.ite1 | (with_reducible apply Keeps.foldl; intro s₁ x₁; have h₁ : Keeps m₀ s₁ s₁ := Keeps.refl s₁; try dsimp +zetaDelta only) | (with_reducible apply Keeps.foldl1; intro s₁ x₁; have h₁ : Keeps m₀ s₁.1 s₁.1 := Keeps.refl s₁.1; try dsimp +zetaDelta only) | extract_lets | split | dsimp +zetaDelta only)

theorem keeps_clearBits {m₀ : Bool} {a₀ s₀ : State} (h₀ : Keeps m₀ a₀ s₀) {i : Nat} {j : Nat} {v : Nat} :
    Keeps m₀ a₀ (clearBits s₀ i j v) := by
  unfold clearBits
  try extract_lets
  repeat' (first | with_reducible assumption | with_reducible apply keeps_State_modStream | with_reducible apply keeps_State_setRawN | (fail_if_no_progress (with_reducible apply Keeps.upd) <;> first | with_reducible rfl | with_reducible exact fun x => x | with_reducible exact fun _ => ⟨rfl, rfl, rfl, rfl⟩ | with_reducible exact fun x => absurd x Bool.false_ne_true | with_reducible exact KV.set_wf _ _ _ | with_reducible exact KV.put_wf _ _ | with_reducible exact KV.filter_wf _ | with_reducible exact List.prefix_rfl | with_reducible exact List.prefix_append _ _ | with_reducible exact KV.map_wf (fun _ => rfl) | with_reducible exact fun _ => KV.foldl_set_wf _ _ _ rfl | (simp; done) | skip) | with_reducible apply Keeps.ite | with_reducible apply Keeps.ite1 | (with_reducible apply Keeps.foldl; intro s₁ x₁; have h₁ : Keeps m₀ s₁ s₁ := Keeps.refl s₁; try dsimp +zetaDelta only) | (with_reducible apply Keeps.foldl1; intro s₁ x₁; have h₁ : Keeps m₀ s₁.1 s₁.1 := Keeps.refl s₁.1; try dsimp +zetaDelta only) | extract_lets | split | dsimp +zetaDelta only)

theorem keeps_State_modAgent {m₀ : Bool} {a₀ s₀ : State} (h₀ : Keeps m₀ a₀ s₀) {n : Nat} {f : Agent → Agent} :
    Keeps m₀ a₀ (State.modAgent s₀ n f) := by
  unfold State.modAgent
  try extract_lets
  repeat' (first | with_reducible assumption | with_reducible apply keeps_State_setAgent | (fail_if_no_progress (with_reducible apply Keeps.upd) <;> first | with_reducible rfl | with_reducible exact fun x => x | with_reducible exact fun _ => ⟨rfl, rfl, rfl, rfl⟩ | with_reducible exact fun x => absurd x Bool.false_ne_true | with_reducible exact KV.set_wf _ _ _ | with_reducible exact KV.put_wf _ _ | with_reducible exact KV.filter_wf _ | with_reducible exact List.prefix_rfl | with_reducible exact List.prefix_append _ _ | with_reducible exact KV.map_wf (fun _ => rfl) | with_reducible exact fun _ => KV.foldl_set_wf _ _ _ rfl | (simp; done) | skip) | with_reducible apply Keeps.ite | with_reducible apply Keeps.ite1 | (with_reducible apply Keeps.foldl; intro s₁ x₁; have h₁ : Keeps m₀ s₁ s₁ := Keeps.refl s₁; try dsimp +zetaDelta only) | (with_reducible apply Keeps.foldl1; intro s₁ x₁; have h₁ : Keeps m₀ s₁.1 s₁.1 := Keeps.refl s₁.1; try dsimp +zetaDelta only) | extract_lets | split | dsimp +zetaDelta only)

theorem keeps_releaseEscrow {m₀ : Bool} {a₀ s₀ : State} (h₀ : Keeps m₀ a₀ s₀) {n : Nat} :
    Keeps m₀ a₀ (releaseEscrow s₀ n) := by
  unfold releaseEscrow
  try extract_lets
  repeat' (first | with_reducible assumption | (fail_if_no_progress (with_reducible apply Keeps.upd) <;> first | with_reducible rfl | with_reducible exact fun x => x | with_reducible exact fun _ => ⟨rfl, rfl, rfl, rfl⟩ | with_reducible exact fun x => absurd x Bool.false_ne_true | with_reducible exact KV.set_wf _ _ _ | with_reducible exact KV.put_wf _ _ | with_reducible exact KV.filter_wf _ | with_reducible exact List.prefix_rfl | with_reducible exact List.prefix_append _ _ | with_reducible exact KV.map_wf (fun _ => rfl) | with_reducible exact fun _ => KV.foldl_set_wf _ _ _ rfl | (simp; done) | skip) | with_reducible apply Keeps.ite | with_reducible apply Keeps.ite1 | (with_reducible apply Keeps.foldl; intro s₁ x₁; have h₁ : Keeps m₀ s₁ s₁ := Keeps.refl s₁; try dsimp +zetaDelta only) | (with_reducible apply Keeps.foldl1; intro s₁ x₁; have h₁ : Keeps m₀ s₁.1 s₁.1 := Keeps.refl s₁.1; try dsimp +zetaDelta only) | extract_lets | split | dsimp +zetaDelta only)

theorem keeps_cancelJoin {m₀ : Bool} {a₀ s₀ : State} (h₀ : Keeps m₀ a₀ s₀) {n : Nat} :
    Keeps m₀ a₀ (cancelJoin s₀ n) := by
  unfold cancelJoin
  try extract_lets
  repeat' (first | with_reducible assumption | with_reducible apply keeps_State_modAgent | with_reducible apply keeps_releaseEscrow | (fail_if_no_progress (with_reducible apply Keeps.upd) <;> first | with_reducible rfl | with_reducible exact fun x => x | with_reducible exact fun _ => ⟨rfl, rfl, rfl, rfl⟩ | with_reducible exact fun x => absurd x Bool.false_ne_true | with_reducible exact KV.set_wf _ _ _ | with_reducible exact KV.put_wf _ _ | with_reducible exact KV.filter_wf _ | with_reducible exact List.prefix_rfl | with_reducible exact List.prefix_append _ _ | with_reducible exact KV.map_wf (fun _ => rfl) | with_reducible exact fun _ => KV.foldl_set_wf _ _ _ rfl | (simp; done) | skip) | with_reducible apply Keeps.ite | with_reducible apply Keeps.ite1 | (with_reducible apply Keeps.foldl; intro s₁ x₁; have h₁ : Keeps m₀ s₁ s₁ := Keeps.refl s₁; try dsimp +zetaDelta only) | (with_reducible apply Keeps.foldl1; intro s₁ x₁; have h₁ : Keeps m₀ s₁.1 s₁.1 := Keeps.refl s₁.1; try dsimp +zetaDelta only) | extract_lets | split | dsimp +zetaDelta only)

theorem keeps_result {m₀ : Bool} {a₀ s₀ : State} (h₀ : Keeps m₀ a₀ s₀) {n : Nat} {r : Nat} :
    Keeps m₀ a₀ (result s₀ n r) := by
  unfold result
  try extract_lets
  repeat' (first | with_reducible assumption | with_reducible apply keeps_State_modAgent | (fail_if_no_progress (with_reducible apply Keeps.upd) <;> first | with_reducible rfl | with_reducible exact fun x => x | with_reducible exact fun _ => ⟨rfl, rfl, rfl, rfl⟩ | with_reducible exact fun x => absurd x Bool.false_ne_true | with_reducible exact KV.set_wf _ _ _ | with_reducible exact KV.put_wf _ _ | with_reducible exact KV.filter_wf _ | with_reducible exact List.prefix_rfl | with_reducible exact List.prefix_append _ _ | with_reducible exact KV.map_wf (fun _ => rfl) | with_reducible exact fun _ => KV.foldl_set_wf _ _ _ rfl | (simp; done) | skip) | with_reducible apply Keeps.ite | with_reducible apply Keeps.ite1 | (with_reducible apply Keeps.foldl; intro s₁ x₁; have h₁ : Keeps m₀ s₁ s₁ := Keeps.refl s₁; try dsimp +zetaDelta only) | (with_reducible apply Keeps.foldl1; intro s₁ x₁; have h₁ : Keeps m₀ s₁.1 s₁.1 := Keeps.refl s₁.1; try dsimp +zetaDelta only) | extract_lets | split | dsimp +zetaDelta only)

theorem keeps_joinProgress {m₀ : Bool} {a₀ s₀ : State} (h₀ : Keeps m₀ a₀ s₀) {n : Nat} :
    Keeps m₀ a₀ (joinProgress s₀ n) := by
  unfold joinProgress
  try extract_lets
  repeat' (first | with_reducible assumption | with_reducible apply keeps_State_modAgent | with_reducible apply keeps_State_modTill | (fail_if_no_progress (with_reducible apply Keeps.upd) <;> first | with_reducible rfl | with_reducible exact fun x => x | with_reducible exact fun _ => ⟨rfl, rfl, rfl, rfl⟩ | with_reducible exact fun x => absurd x Bool.false_ne_true | with_reducible exact KV.set_wf _ _ _ | with_reducible exact KV.put_wf _ _ | with_reducible exact KV.filter_wf _ | with_reducible exact List.prefix_rfl | with_reducible exact List.prefix_append _ _ | with_reducible exact KV.map_wf (fun _ => rfl) | with_reducible exact fun _ => KV.foldl_set_wf _ _ _ rfl | (simp; done) | skip) | with_reducible apply Keeps.ite | with_reducible apply Keeps.ite1 | (with_reducible apply Keeps.foldl; intro s₁ x₁; have h₁ : Keeps m₀ s₁ s₁ := Keeps.refl s₁; try dsimp +zetaDelta only) | (with_reducible apply Keeps.foldl1; intro s₁ x₁; have h₁ : Keeps m₀ s₁.1 s₁.1 := Keeps.refl s₁.1; try dsimp +zetaDelta only) | extract_lets | split | dsimp +zetaDelta only)

theorem keeps_startJoin {m₀ : Bool} {a₀ s₀ : State} (h₀ : Keeps m₀ a₀ s₀) {n : Nat} :
    Keeps m₀ a₀ (startJoin s₀ n) := by
  unfold startJoin
  try extract_lets
  repeat' (first | with_reducible assumption | with_reducible apply keeps_State_setAgent | with_reducible apply keeps_joinProgress | (fail_if_no_progress (with_reducible apply Keeps.upd) <;> first | with_reducible rfl | with_reducible exact fun x => x | with_reducible exact fun _ => ⟨rfl, rfl, rfl, rfl⟩ | with_reducible exact fun x => absurd x Bool.false_ne_true | with_reducible exact KV.set_wf _ _ _ | with_reducible exact KV.put_wf _ _ | with_reducible exact KV.filter_wf _ | with_reducible exact List.prefix_rfl | with_reducible exact List.prefix_append _ _ | with_reducible exact KV.map_wf (fun _ => rfl) | with_reducible exact fun _ => KV.foldl_set_wf _ _ _ rfl | (simp; done) | skip) | with_reducible apply Keeps.ite | with_reducible apply Keeps.ite1 | (with_reducible apply Keeps.foldl; intro s₁ x₁; have h₁ : Keeps m₀ s₁ s₁ := Keeps.refl s₁; try dsimp +zetaDelta only) | (with_reducible apply Keeps.foldl1; intro s₁ x₁; have h₁ : Keeps m₀ s₁.1 s₁.1 := Keeps.refl s₁.1; try dsimp +zetaDelta only) | extract_lets | split | dsimp +zetaDelta only)

theorem keeps_startLeave {m₀ : Bool} {a₀ s₀ : State} (h₀ : Keeps m₀ a₀ s₀) {n : Nat} :
    Keeps m₀ a₀ (startLeave s₀ n) := by
  unfold startLeave
  try extract_lets
  repeat' (first | with_reducible assumption | with_reducible apply keeps_State_modAgent | with_reducible apply keeps_clearMons | with_reducible apply keeps_drainWhere | with_reducible apply keeps_endClaims | (fail_if_no_progress (with_reducible apply Keeps.upd) <;> first | with_reducible rfl | with_reducible exact fun x => x | with_reducible exact fun _ => ⟨rfl, rfl, rfl, rfl⟩ | with_reducible exact fun x => absurd x Bool.false_ne_true | with_reducible exact KV.set_wf _ _ _ | with_reducible exact KV.put_wf _ _ | with_reducible exact KV.filter_wf _ | with_reducible exact List.prefix_rfl | with_reducible exact List.prefix_append _ _ | with_reducible exact KV.map_wf (fun _ => rfl) | with_reducible exact fun _ => KV.foldl_set_wf _ _ _ rfl | (simp; done) | skip) | with_reducible apply Keeps.ite | with_reducible apply Keeps.ite1 | (with_reducible apply Keeps.foldl; intro s₁ x₁; have h₁ : Keeps m₀ s₁ s₁ := Keeps.refl s₁; try dsimp +zetaDelta only) | (with_reducible apply Keeps.foldl1; intro s₁ x₁; have h₁ : Keeps m₀ s₁.1 s₁.1 := Keeps.refl s₁.1; try dsimp +zetaDelta only) | extract_lets | split | dsimp +zetaDelta only)

theorem keeps_agentCmd {m₀ : Bool} {a₀ s₀ : State} (h₀ : Keeps m₀ a₀ s₀) {n : Nat} {v : Nat} :
    Keeps m₀ a₀ (agentCmd s₀ n v) := by
  unfold agentCmd
  try extract_lets
  repeat' (first | with_reducible assumption | with_reducible apply keeps_State_modAgent | with_reducible apply keeps_cancelJoin | with_reducible apply keeps_declareDead | with_reducible apply keeps_result | with_reducible apply keeps_startJoin | with_reducible apply keeps_startLeave | (fail_if_no_progress (with_reducible apply Keeps.upd) <;> first | with_reducible rfl | with_reducible exact fun x => x | with_reducible exact fun _ => ⟨rfl, rfl, rfl, rfl⟩ | with_reducible exact fun x => absurd x Bool.false_ne_true | with_reducible exact KV.set_wf _ _ _ | with_reducible exact KV.put_wf _ _ | with_reducible exact KV.filter_wf _ | with_reducible exact List.prefix_rfl | with_reducible exact List.prefix_append _ _ | with_reducible exact KV.map_wf (fun _ => rfl) | with_reducible exact fun _ => KV.foldl_set_wf _ _ _ rfl | (simp; done) | skip) | with_reducible apply Keeps.ite | with_reducible apply Keeps.ite1 | (with_reducible apply Keeps.foldl; intro s₁ x₁; have h₁ : Keeps m₀ s₁ s₁ := Keeps.refl s₁; try dsimp +zetaDelta only) | (with_reducible apply Keeps.foldl1; intro s₁ x₁; have h₁ : Keeps m₀ s₁.1 s₁.1 := Keeps.refl s₁.1; try dsimp +zetaDelta only) | extract_lets | split | dsimp +zetaDelta only)

theorem keeps_cellarEnable {m₀ : Bool} {a₀ s₀ : State} (h₀ : Keeps m₀ a₀ s₀) {header : Sys2Proof.LineData} :
    Keeps m₀ a₀ (cellarEnable s₀ header) := by
  unfold cellarEnable
  try extract_lets
  repeat' (first | with_reducible assumption | with_reducible apply keeps_State_note | with_reducible apply keeps_State_setRawN | with_reducible apply keeps_writeHeader | (fail_if_no_progress (with_reducible apply Keeps.upd) <;> first | with_reducible rfl | with_reducible exact fun x => x | with_reducible exact fun _ => ⟨rfl, rfl, rfl, rfl⟩ | with_reducible exact fun x => absurd x Bool.false_ne_true | with_reducible exact KV.set_wf _ _ _ | with_reducible exact KV.put_wf _ _ | with_reducible exact KV.filter_wf _ | with_reducible exact List.prefix_rfl | with_reducible exact List.prefix_append _ _ | with_reducible exact KV.map_wf (fun _ => rfl) | with_reducible exact fun _ => KV.foldl_set_wf _ _ _ rfl | (simp; done) | skip) | with_reducible apply Keeps.ite | with_reducible apply Keeps.ite1 | (with_reducible apply Keeps.foldl; intro s₁ x₁; have h₁ : Keeps m₀ s₁ s₁ := Keeps.refl s₁; try dsimp +zetaDelta only) | (with_reducible apply Keeps.foldl1; intro s₁ x₁; have h₁ : Keeps m₀ s₁.1 s₁.1 := Keeps.refl s₁.1; try dsimp +zetaDelta only) | extract_lets | split | dsimp +zetaDelta only)

theorem keeps_countersClear {m₀ : Bool} {a₀ s₀ : State} (h₀ : Keeps m₀ a₀ s₀)  :
    Keeps m₀ a₀ (countersClear s₀) := by
  unfold countersClear
  apply Keeps.upd h₀ <;> first | rfl | exact id | exact fun _ => ⟨rfl, rfl, rfl, rfl⟩ | exact List.prefix_rfl | skip
  intro h
  refine KV.filter_wf _ (KV.map_wf ?_ (KV.filter_wf _ h))
  intro p; dsimp only; split <;> rfl

theorem keeps_ffClear {m₀ : Bool} {a₀ s₀ : State} (h₀ : Keeps m₀ a₀ s₀) {t : Nat} :
    Keeps m₀ a₀ (ffClear s₀ t) := by
  unfold ffClear
  try extract_lets
  repeat' (first | with_reducible assumption | with_reducible apply keeps_State_setRawN | (fail_if_no_progress (with_reducible apply Keeps.upd) <;> first | with_reducible rfl | with_reducible exact fun x => x | with_reducible exact fun _ => ⟨rfl, rfl, rfl, rfl⟩ | with_reducible exact fun x => absurd x Bool.false_ne_true | with_reducible exact KV.set_wf _ _ _ | with_reducible exact KV.put_wf _ _ | with_reducible exact KV.filter_wf _ | with_reducible exact List.prefix_rfl | with_reducible exact List.prefix_append _ _ | with_reducible exact KV.map_wf (fun _ => rfl) | with_reducible exact fun _ => KV.foldl_set_wf _ _ _ rfl | (simp; done) | skip) | with_reducible apply Keeps.ite | with_reducible apply Keeps.ite1 | (with_reducible apply Keeps.foldl; intro s₁ x₁; have h₁ : Keeps m₀ s₁ s₁ := Keeps.refl s₁; try dsimp +zetaDelta only) | (with_reducible apply Keeps.foldl1; intro s₁ x₁; have h₁ : Keeps m₀ s₁.1 s₁.1 := Keeps.refl s₁.1; try dsimp +zetaDelta only) | extract_lets | split | dsimp +zetaDelta only)

theorem keeps_closeLocks {m₀ : Bool} {a₀ s₀ : State} (h₀ : Keeps m₀ a₀ s₀)  :
    Keeps m₀ a₀ (closeLocks s₀) := by
  unfold closeLocks
  try extract_lets
  repeat' (first | with_reducible assumption | with_reducible apply keeps_State_modTill | (fail_if_no_progress (with_reducible apply Keeps.upd) <;> first | with_reducible rfl | with_reducible exact fun x => x | with_reducible exact fun _ => ⟨rfl, rfl, rfl, rfl⟩ | with_reducible exact fun x => absurd x Bool.false_ne_true | with_reducible exact KV.set_wf _ _ _ | with_reducible exact KV.put_wf _ _ | with_reducible exact KV.filter_wf _ | with_reducible exact List.prefix_rfl | with_reducible exact List.prefix_append _ _ | with_reducible exact KV.map_wf (fun _ => rfl) | with_reducible exact fun _ => KV.foldl_set_wf _ _ _ rfl | (simp; done) | skip) | with_reducible apply Keeps.ite | with_reducible apply Keeps.ite1 | (with_reducible apply Keeps.foldl; intro s₁ x₁; have h₁ : Keeps m₀ s₁ s₁ := Keeps.refl s₁; try dsimp +zetaDelta only) | (with_reducible apply Keeps.foldl1; intro s₁ x₁; have h₁ : Keeps m₀ s₁.1 s₁.1 := Keeps.refl s₁.1; try dsimp +zetaDelta only) | extract_lets | split | dsimp +zetaDelta only)

theorem keeps_endHalts {m₀ : Bool} {a₀ s₀ : State} (h₀ : Keeps m₀ a₀ s₀)  :
    Keeps m₀ a₀ (endHalts s₀) := by
  unfold endHalts
  try extract_lets
  repeat' (first | with_reducible assumption | with_reducible apply keeps_endHalt | with_reducible apply keeps_worked | (fail_if_no_progress (with_reducible apply Keeps.upd) <;> first | with_reducible rfl | with_reducible exact fun x => x | with_reducible exact fun _ => ⟨rfl, rfl, rfl, rfl⟩ | with_reducible exact fun x => absurd x Bool.false_ne_true | with_reducible exact KV.set_wf _ _ _ | with_reducible exact KV.put_wf _ _ | with_reducible exact KV.filter_wf _ | with_reducible exact List.prefix_rfl | with_reducible exact List.prefix_append _ _ | with_reducible exact KV.map_wf (fun _ => rfl) | with_reducible exact fun _ => KV.foldl_set_wf _ _ _ rfl | (simp; done) | skip) | with_reducible apply Keeps.ite | with_reducible apply Keeps.ite1 | (with_reducible apply Keeps.foldl; intro s₁ x₁; have h₁ : Keeps m₀ s₁ s₁ := Keeps.refl s₁; try dsimp +zetaDelta only) | (with_reducible apply Keeps.foldl1; intro s₁ x₁; have h₁ : Keeps m₀ s₁.1 s₁.1 := Keeps.refl s₁.1; try dsimp +zetaDelta only) | extract_lets | split | dsimp +zetaDelta only)

theorem keeps_setLevel {m₀ : Bool} {a₀ s₀ : State} (h₀ : Keeps m₀ a₀ s₀) {number : Nat} {role : Nat} {v : Nat} :
    Keeps m₀ a₀ (setLevel s₀ number role v) := by
  unfold setLevel
  try extract_lets
  repeat' (first | with_reducible assumption | with_reducible apply keeps_State_note | with_reducible apply keeps_closeLocks | with_reducible apply keeps_endHalts | (fail_if_no_progress (with_reducible apply Keeps.upd) <;> first | with_reducible rfl | with_reducible exact fun x => x | with_reducible exact fun _ => ⟨rfl, rfl, rfl, rfl⟩ | with_reducible exact fun x => absurd x Bool.false_ne_true | with_reducible exact KV.set_wf _ _ _ | with_reducible exact KV.put_wf _ _ | with_reducible exact KV.filter_wf _ | with_reducible exact List.prefix_rfl | with_reducible exact List.prefix_append _ _ | with_reducible exact KV.map_wf (fun _ => rfl) | with_reducible exact fun _ => KV.foldl_set_wf _ _ _ rfl | (simp; done) | skip) | with_reducible apply Keeps.ite | with_reducible apply Keeps.ite1 | (with_reducible apply Keeps.foldl; intro s₁ x₁; have h₁ : Keeps m₀ s₁ s₁ := Keeps.refl s₁; try dsimp +zetaDelta only) | (with_reducible apply Keeps.foldl1; intro s₁ x₁; have h₁ : Keeps m₀ s₁.1 s₁.1 := Keeps.refl s₁.1; try dsimp +zetaDelta only) | extract_lets | split | dsimp +zetaDelta only)

theorem keeps_levelOff {m₀ : Bool} {a₀ s₀ : State} (h₀ : Keeps m₀ a₀ s₀)  :
    Keeps m₀ a₀ (levelOff s₀) := by
  unfold levelOff
  try extract_lets
  repeat' (first | with_reducible assumption | with_reducible apply keeps_setLevel | (fail_if_no_progress (with_reducible apply Keeps.upd) <;> first | with_reducible rfl | with_reducible exact fun x => x | with_reducible exact fun _ => ⟨rfl, rfl, rfl, rfl⟩ | with_reducible exact fun x => absurd x Bool.false_ne_true | with_reducible exact KV.set_wf _ _ _ | with_reducible exact KV.put_wf _ _ | with_reducible exact KV.filter_wf _ | with_reducible exact List.prefix_rfl | with_reducible exact List.prefix_append _ _ | with_reducible exact KV.map_wf (fun _ => rfl) | with_reducible exact fun _ => KV.foldl_set_wf _ _ _ rfl | (simp; done) | skip) | with_reducible apply Keeps.ite | with_reducible apply Keeps.ite1 | (with_reducible apply Keeps.foldl; intro s₁ x₁; have h₁ : Keeps m₀ s₁ s₁ := Keeps.refl s₁; try dsimp +zetaDelta only) | (with_reducible apply Keeps.foldl1; intro s₁ x₁; have h₁ : Keeps m₀ s₁.1 s₁.1 := Keeps.refl s₁.1; try dsimp +zetaDelta only) | extract_lets | split | dsimp +zetaDelta only)

theorem keeps_closeSession {m₀ : Bool} {a₀ s₀ : State} (h₀ : Keeps m₀ a₀ s₀) {k : Nat} :
    Keeps m₀ a₀ (closeSession s₀ k) := by
  unfold closeSession
  try extract_lets
  repeat' (first | with_reducible assumption | with_reducible apply keeps_State_modSession | with_reducible apply keeps_State_note | with_reducible apply keeps_levelOff | (fail_if_no_progress (with_reducible apply Keeps.upd) <;> first | with_reducible rfl | with_reducible exact fun x => x | with_reducible exact fun _ => ⟨rfl, rfl, rfl, rfl⟩ | with_reducible exact fun x => absurd x Bool.false_ne_true | with_reducible exact KV.set_wf _ _ _ | with_reducible exact KV.put_wf _ _ | with_reducible exact KV.filter_wf _ | with_reducible exact List.prefix_rfl | with_reducible exact List.prefix_append _ _ | with_reducible exact KV.map_wf (fun _ => rfl) | with_reducible exact fun _ => KV.foldl_set_wf _ _ _ rfl | (simp; done) | skip) | with_reducible apply Keeps.ite | with_reducible apply Keeps.ite1 | (with_reducible apply Keeps.foldl; intro s₁ x₁; have h₁ : Keeps m₀ s₁ s₁ := Keeps.refl s₁; try dsimp +zetaDelta only) | (with_reducible apply Keeps.foldl1; intro s₁ x₁; have h₁ : Keeps m₀ s₁.1 s₁.1 := Keeps.refl s₁.1; try dsimp +zetaDelta only) | extract_lets | split | dsimp +zetaDelta only)

theorem keeps_closeWhere {m₀ : Bool} {a₀ s₀ : State} (h₀ : Keeps m₀ a₀ s₀) {p : Session → Bool} :
    Keeps m₀ a₀ (closeWhere s₀ p) := by
  unfold closeWhere
  try extract_lets
  repeat' (first | with_reducible assumption | with_reducible apply keeps_closeSession | (fail_if_no_progress (with_reducible apply Keeps.upd) <;> first | with_reducible rfl | with_reducible exact fun x => x | with_reducible exact fun _ => ⟨rfl, rfl, rfl, rfl⟩ | with_reducible exact fun x => absurd x Bool.false_ne_true | with_reducible exact KV.set_wf _ _ _ | with_reducible exact KV.put_wf _ _ | with_reducible exact KV.filter_wf _ | with_reducible exact List.prefix_rfl | with_reducible exact List.prefix_append _ _ | with_reducible exact KV.map_wf (fun _ => rfl) | with_reducible exact fun _ => KV.foldl_set_wf _ _ _ rfl | (simp; done) | skip) | with_reducible apply Keeps.ite | with_reducible apply Keeps.ite1 | (with_reducible apply Keeps.foldl; intro s₁ x₁; have h₁ : Keeps m₀ s₁ s₁ := Keeps.refl s₁; try dsimp +zetaDelta only) | (with_reducible apply Keeps.foldl1; intro s₁ x₁; have h₁ : Keeps m₀ s₁.1 s₁.1 := Keeps.refl s₁.1; try dsimp +zetaDelta only) | extract_lets | split | dsimp +zetaDelta only)

theorem keeps_startHold {m₀ : Bool} {a₀ s₀ : State} (h₀ : Keeps m₀ a₀ s₀) {off : Bool} :
    Keeps m₀ a₀ (startHold s₀ off) := by
  unfold startHold
  try extract_lets
  repeat' (first | with_reducible assumption | with_reducible apply keeps_State_modPower | with_reducible apply keeps_closeWhere | with_reducible apply keeps_levelOff | (fail_if_no_progress (with_reducible apply Keeps.upd) <;> first | with_reducible rfl | with_reducible exact fun x => x | with_reducible exact fun _ => ⟨rfl, rfl, rfl, rfl⟩ | with_reducible exact fun x => absurd x Bool.false_ne_true | with_reducible exact KV.set_wf _ _ _ | with_reducible exact KV.put_wf _ _ | with_reducible exact KV.filter_wf _ | with_reducible exact List.prefix_rfl | with_reducible exact List.prefix_append _ _ | with_reducible exact KV.map_wf (fun _ => rfl) | with_reducible exact fun _ => KV.foldl_set_wf _ _ _ rfl | (simp; done) | skip) | with_reducible apply Keeps.ite | with_reducible apply Keeps.ite1 | (with_reducible apply Keeps.foldl; intro s₁ x₁; have h₁ : Keeps m₀ s₁ s₁ := Keeps.refl s₁; try dsimp +zetaDelta only) | (with_reducible apply Keeps.foldl1; intro s₁ x₁; have h₁ : Keeps m₀ s₁.1 s₁.1 := Keeps.refl s₁.1; try dsimp +zetaDelta only) | extract_lets | split | dsimp +zetaDelta only | with_reducible exact fun x => x | (intro hp₀; obtain ⟨hp₁, hp₂⟩ := hp₀; constructor <;> first | with_reducible assumption | omega | (dsimp only; omega) | (dsimp only; split <;> omega)))

theorem keeps_startLean {m₀ : Bool} {a₀ s₀ : State} (h₀ : Keeps m₀ a₀ s₀)  :
    Keeps m₀ a₀ (startLean s₀) := by
  unfold startLean
  try extract_lets
  repeat' (first | with_reducible assumption | with_reducible apply keeps_State_modPower | with_reducible apply keeps_funcCmd | (fail_if_no_progress (with_reducible apply Keeps.upd) <;> first | with_reducible rfl | with_reducible exact fun x => x | with_reducible exact fun _ => ⟨rfl, rfl, rfl, rfl⟩ | with_reducible exact fun x => absurd x Bool.false_ne_true | with_reducible exact KV.set_wf _ _ _ | with_reducible exact KV.put_wf _ _ | with_reducible exact KV.filter_wf _ | with_reducible exact List.prefix_rfl | with_reducible exact List.prefix_append _ _ | with_reducible exact KV.map_wf (fun _ => rfl) | with_reducible exact fun _ => KV.foldl_set_wf _ _ _ rfl | (simp; done) | skip) | with_reducible apply Keeps.ite | with_reducible apply Keeps.ite1 | (with_reducible apply Keeps.foldl; intro s₁ x₁; have h₁ : Keeps m₀ s₁ s₁ := Keeps.refl s₁; try dsimp +zetaDelta only) | (with_reducible apply Keeps.foldl1; intro s₁ x₁; have h₁ : Keeps m₀ s₁.1 s₁.1 := Keeps.refl s₁.1; try dsimp +zetaDelta only) | extract_lets | split | dsimp +zetaDelta only | with_reducible exact fun x => x | (intro hp₀; obtain ⟨hp₁, hp₂⟩ := hp₀; constructor <;> first | with_reducible assumption | omega | (dsimp only; omega) | (dsimp only; split <;> omega)))

theorem keeps_applyTarget {m₀ : Bool} {a₀ s₀ : State} (h₀ : Keeps m₀ a₀ s₀) {v : Nat} :
    Keeps m₀ a₀ (applyTarget s₀ v) := by
  unfold applyTarget
  try extract_lets
  repeat' (first | with_reducible assumption | with_reducible apply keeps_State_modPower | with_reducible apply keeps_closeWhere | with_reducible apply keeps_leaveHold | with_reducible apply keeps_leaveLean | with_reducible apply keeps_levelOff | with_reducible apply keeps_startHold | with_reducible apply keeps_startLean | (fail_if_no_progress (with_reducible apply Keeps.upd) <;> first | with_reducible rfl | with_reducible exact fun x => x | with_reducible exact fun _ => ⟨rfl, rfl, rfl, rfl⟩ | with_reducible exact fun x => absurd x Bool.false_ne_true | with_reducible exact KV.set_wf _ _ _ | with_reducible exact KV.put_wf _ _ | with_reducible exact KV.filter_wf _ | with_reducible exact List.prefix_rfl | with_reducible exact List.prefix_append _ _ | with_reducible exact KV.map_wf (fun _ => rfl) | with_reducible exact fun _ => KV.foldl_set_wf _ _ _ rfl | (simp; done) | skip) | with_reducible apply Keeps.ite | with_reducible apply Keeps.ite1 | (with_reducible apply Keeps.foldl; intro s₁ x₁; have h₁ : Keeps m₀ s₁ s₁ := Keeps.refl s₁; try dsimp +zetaDelta only) | (with_reducible apply Keeps.foldl1; intro s₁ x₁; have h₁ : Keeps m₀ s₁.1 s₁.1 := Keeps.refl s₁.1; try dsimp +zetaDelta only) | extract_lets | split | dsimp +zetaDelta only | with_reducible exact fun x => x | (intro hp₀; obtain ⟨hp₁, hp₂⟩ := hp₀; constructor <;> first | with_reducible assumption | omega | (dsimp only; omega) | (dsimp only; split <;> omega)))

theorem keeps_startPending {m₀ : Bool} {a₀ s₀ : State} (h₀ : Keeps m₀ a₀ s₀)  :
    Keeps m₀ a₀ (startPending s₀) := by
  unfold startPending
  try extract_lets
  repeat' (first | with_reducible assumption | with_reducible apply keeps_State_modPower | with_reducible apply keeps_applyTarget | (fail_if_no_progress (with_reducible apply Keeps.upd) <;> first | with_reducible rfl | with_reducible exact fun x => x | with_reducible exact fun _ => ⟨rfl, rfl, rfl, rfl⟩ | with_reducible exact fun x => absurd x Bool.false_ne_true | with_reducible exact KV.set_wf _ _ _ | with_reducible exact KV.put_wf _ _ | with_reducible exact KV.filter_wf _ | with_reducible exact List.prefix_rfl | with_reducible exact List.prefix_append _ _ | with_reducible exact KV.map_wf (fun _ => rfl) | with_reducible exact fun _ => KV.foldl_set_wf _ _ _ rfl | (simp; done) | skip) | with_reducible apply Keeps.ite | with_reducible apply Keeps.ite1 | (with_reducible apply Keeps.foldl; intro s₁ x₁; have h₁ : Keeps m₀ s₁ s₁ := Keeps.refl s₁; try dsimp +zetaDelta only) | (with_reducible apply Keeps.foldl1; intro s₁ x₁; have h₁ : Keeps m₀ s₁.1 s₁.1 := Keeps.refl s₁.1; try dsimp +zetaDelta only) | extract_lets | split | dsimp +zetaDelta only | with_reducible exact fun x => x | (intro hp₀; obtain ⟨hp₁, hp₂⟩ := hp₀; constructor <;> first | with_reducible assumption | omega | (dsimp only; omega) | (dsimp only; split <;> omega)))

theorem keeps_powerProgress {m₀ : Bool} {a₀ s₀ : State} (h₀ : Keeps m₀ a₀ s₀)  :
    Keeps m₀ a₀ (powerProgress s₀) := by
  unfold powerProgress
  try extract_lets
  repeat' (first | with_reducible assumption | with_reducible apply keeps_State_modPower | with_reducible apply keeps_startPending | (fail_if_no_progress (with_reducible apply Keeps.upd) <;> first | with_reducible rfl | with_reducible exact fun x => x | with_reducible exact fun _ => ⟨rfl, rfl, rfl, rfl⟩ | with_reducible exact fun x => absurd x Bool.false_ne_true | with_reducible exact KV.set_wf _ _ _ | with_reducible exact KV.put_wf _ _ | with_reducible exact KV.filter_wf _ | with_reducible exact List.prefix_rfl | with_reducible exact List.prefix_append _ _ | with_reducible exact KV.map_wf (fun _ => rfl) | with_reducible exact fun _ => KV.foldl_set_wf _ _ _ rfl | (simp; done) | skip) | with_reducible apply Keeps.ite | with_reducible apply Keeps.ite1 | (with_reducible apply Keeps.foldl; intro s₁ x₁; have h₁ : Keeps m₀ s₁ s₁ := Keeps.refl s₁; try dsimp +zetaDelta only) | (with_reducible apply Keeps.foldl1; intro s₁ x₁; have h₁ : Keeps m₀ s₁.1 s₁.1 := Keeps.refl s₁.1; try dsimp +zetaDelta only) | extract_lets | split | dsimp +zetaDelta only | with_reducible exact fun x => x | (intro hp₀; obtain ⟨hp₁, hp₂⟩ := hp₀; constructor <;> first | with_reducible assumption | omega | (dsimp only; omega) | (dsimp only; split <;> omega)))

theorem keeps_funcWrite {m₀ : Bool} {a₀ s₀ : State} (h₀ : Keeps m₀ a₀ s₀) {f : Sys2Proof.Func} {v : Nat} :
    Keeps m₀ a₀ (funcWrite s₀ f v) := by
  unfold funcWrite
  try extract_lets
  repeat' (first | with_reducible assumption | with_reducible apply keeps_State_modPower | with_reducible apply keeps_funcCmd | with_reducible apply keeps_powerProgress | (fail_if_no_progress (with_reducible apply Keeps.upd) <;> first | with_reducible rfl | with_reducible exact fun x => x | with_reducible exact fun _ => ⟨rfl, rfl, rfl, rfl⟩ | with_reducible exact fun x => absurd x Bool.false_ne_true | with_reducible exact KV.set_wf _ _ _ | with_reducible exact KV.put_wf _ _ | with_reducible exact KV.filter_wf _ | with_reducible exact List.prefix_rfl | with_reducible exact List.prefix_append _ _ | with_reducible exact KV.map_wf (fun _ => rfl) | with_reducible exact fun _ => KV.foldl_set_wf _ _ _ rfl | (simp; done) | skip) | with_reducible apply Keeps.ite | with_reducible apply Keeps.ite1 | (with_reducible apply Keeps.foldl; intro s₁ x₁; have h₁ : Keeps m₀ s₁ s₁ := Keeps.refl s₁; try dsimp +zetaDelta only) | (with_reducible apply Keeps.foldl1; intro s₁ x₁; have h₁ : Keeps m₀ s₁.1 s₁.1 := Keeps.refl s₁.1; try dsimp +zetaDelta only) | extract_lets | split | dsimp +zetaDelta only | with_reducible exact fun x => x | (intro hp₀; obtain ⟨hp₁, hp₂⟩ := hp₀; constructor <;> first | with_reducible assumption | omega | (dsimp only; omega) | (dsimp only; split <;> omega)))

theorem keeps_clearJournal {m₀ : Bool} {a₀ s₀ : State} (h₀ : Keeps m₀ a₀ s₀)  :
    Keeps m₀ a₀ (clearJournal s₀) := by
  unfold clearJournal
  try extract_lets
  repeat' (first | with_reducible assumption | (fail_if_no_progress (with_reducible apply Keeps.upd) <;> first | with_reducible rfl | with_reducible exact fun x => x | with_reducible exact fun _ => ⟨rfl, rfl, rfl, rfl⟩ | with_reducible exact fun x => absurd x Bool.false_ne_true | with_reducible exact KV.set_wf _ _ _ | with_reducible exact KV.put_wf _ _ | with_reducible exact KV.filter_wf _ | with_reducible exact List.prefix_rfl | with_reducible exact List.prefix_append _ _ | with_reducible exact KV.map_wf (fun _ => rfl) | with_reducible exact fun _ => KV.foldl_set_wf _ _ _ rfl | (simp; done) | skip) | with_reducible apply Keeps.ite | with_reducible apply Keeps.ite1 | (with_reducible apply Keeps.foldl; intro s₁ x₁; have h₁ : Keeps m₀ s₁ s₁ := Keeps.refl s₁; try dsimp +zetaDelta only) | (with_reducible apply Keeps.foldl1; intro s₁ x₁; have h₁ : Keeps m₀ s₁.1 s₁.1 := Keeps.refl s₁.1; try dsimp +zetaDelta only) | extract_lets | split | dsimp +zetaDelta only)

theorem keeps_clearResults {m₀ : Bool} {a₀ s₀ : State} (h₀ : Keeps m₀ a₀ s₀)  :
    Keeps m₀ a₀ (clearResults s₀) := by
  unfold clearResults
  try extract_lets
  repeat' (first | with_reducible assumption | (fail_if_no_progress (with_reducible apply Keeps.upd) <;> first | with_reducible rfl | with_reducible exact fun x => x | with_reducible exact fun _ => ⟨rfl, rfl, rfl, rfl⟩ | with_reducible exact fun x => absurd x Bool.false_ne_true | with_reducible exact KV.set_wf _ _ _ | with_reducible exact KV.put_wf _ _ | with_reducible exact KV.filter_wf _ | with_reducible exact List.prefix_rfl | with_reducible exact List.prefix_append _ _ | with_reducible exact KV.map_wf (fun _ => rfl) | with_reducible exact fun _ => KV.foldl_set_wf _ _ _ rfl | (simp; done) | skip) | with_reducible apply Keeps.ite | with_reducible apply Keeps.ite1 | (with_reducible apply Keeps.foldl; intro s₁ x₁; have h₁ : Keeps m₀ s₁ s₁ := Keeps.refl s₁; try dsimp +zetaDelta only) | (with_reducible apply Keeps.foldl1; intro s₁ x₁; have h₁ : Keeps m₀ s₁.1 s₁.1 := Keeps.refl s₁.1; try dsimp +zetaDelta only) | extract_lets | split | dsimp +zetaDelta only)

theorem keeps_clearTally {m₀ : Bool} {a₀ s₀ : State} (h₀ : Keeps m₀ a₀ s₀)  :
    Keeps m₀ a₀ (clearTally s₀) := by
  unfold clearTally
  try extract_lets
  repeat' (first | with_reducible assumption | (fail_if_no_progress (with_reducible apply Keeps.upd) <;> first | with_reducible rfl | with_reducible exact fun x => x | with_reducible exact fun _ => ⟨rfl, rfl, rfl, rfl⟩ | with_reducible exact fun x => absurd x Bool.false_ne_true | with_reducible exact KV.set_wf _ _ _ | with_reducible exact KV.put_wf _ _ | with_reducible exact KV.filter_wf _ | with_reducible exact List.prefix_rfl | with_reducible exact List.prefix_append _ _ | with_reducible exact KV.map_wf (fun _ => rfl) | with_reducible exact fun _ => KV.foldl_set_wf _ _ _ rfl | (simp; done) | skip) | with_reducible apply Keeps.ite | with_reducible apply Keeps.ite1 | (with_reducible apply Keeps.foldl; intro s₁ x₁; have h₁ : Keeps m₀ s₁ s₁ := Keeps.refl s₁; try dsimp +zetaDelta only) | (with_reducible apply Keeps.foldl1; intro s₁ x₁; have h₁ : Keeps m₀ s₁.1 s₁.1 := Keeps.refl s₁.1; try dsimp +zetaDelta only) | extract_lets | split | dsimp +zetaDelta only)

theorem keeps_startReset {m₀ : Bool} {a₀ s₀ : State} (h₀ : Keeps m₀ a₀ s₀)  :
    Keeps m₀ a₀ (startReset s₀) := by
  unfold startReset
  try extract_lets
  repeat' (first | with_reducible assumption | with_reducible apply keeps_State_bump | with_reducible apply keeps_clearJournal | with_reducible apply keeps_clearResults | with_reducible apply keeps_clearTally | with_reducible apply keeps_closeWhere | with_reducible apply keeps_levelOff | (fail_if_no_progress (with_reducible apply Keeps.upd) <;> first | with_reducible rfl | with_reducible exact fun x => x | with_reducible exact fun _ => ⟨rfl, rfl, rfl, rfl⟩ | with_reducible exact fun x => absurd x Bool.false_ne_true | with_reducible exact KV.set_wf _ _ _ | with_reducible exact KV.put_wf _ _ | with_reducible exact KV.filter_wf _ | with_reducible exact List.prefix_rfl | with_reducible exact List.prefix_append _ _ | with_reducible exact KV.map_wf (fun _ => rfl) | with_reducible exact fun _ => KV.foldl_set_wf _ _ _ rfl | (simp; done) | skip) | with_reducible apply Keeps.ite | with_reducible apply Keeps.ite1 | (with_reducible apply Keeps.foldl; intro s₁ x₁; have h₁ : Keeps m₀ s₁ s₁ := Keeps.refl s₁; try dsimp +zetaDelta only) | (with_reducible apply Keeps.foldl1; intro s₁ x₁; have h₁ : Keeps m₀ s₁.1 s₁.1 := Keeps.refl s₁.1; try dsimp +zetaDelta only) | extract_lets | split | dsimp +zetaDelta only)

theorem keeps_globalCmd {m₀ : Bool} {a₀ s₀ : State} (h₀ : Keeps m₀ a₀ s₀) {v : Nat} :
    Keeps m₀ a₀ (globalCmd s₀ v) := by
  unfold globalCmd
  try extract_lets
  repeat' (first | with_reducible assumption | with_reducible apply keeps_State_setRawN | with_reducible apply keeps_startReset | (fail_if_no_progress (with_reducible apply Keeps.upd) <;> first | with_reducible rfl | with_reducible exact fun x => x | with_reducible exact fun _ => ⟨rfl, rfl, rfl, rfl⟩ | with_reducible exact fun x => absurd x Bool.false_ne_true | with_reducible exact KV.set_wf _ _ _ | with_reducible exact KV.put_wf _ _ | with_reducible exact KV.filter_wf _ | with_reducible exact List.prefix_rfl | with_reducible exact List.prefix_append _ _ | with_reducible exact KV.map_wf (fun _ => rfl) | with_reducible exact fun _ => KV.foldl_set_wf _ _ _ rfl | (simp; done) | skip) | with_reducible apply Keeps.ite | with_reducible apply Keeps.ite1 | (with_reducible apply Keeps.foldl; intro s₁ x₁; have h₁ : Keeps m₀ s₁ s₁ := Keeps.refl s₁; try dsimp +zetaDelta only) | (with_reducible apply Keeps.foldl1; intro s₁ x₁; have h₁ : Keeps m₀ s₁.1 s₁.1 := Keeps.refl s₁.1; try dsimp +zetaDelta only) | extract_lets | split | dsimp +zetaDelta only)

theorem keeps_keyProgram {m₀ : Bool} {a₀ s₀ : State} (h₀ : Keeps m₀ a₀ s₀) {role : Nat} {v : Nat} :
    Keeps m₀ a₀ (keyProgram s₀ role v) := by
  unfold keyProgram
  try extract_lets
  repeat' (first | with_reducible assumption | (fail_if_no_progress (with_reducible apply Keeps.upd) <;> first | with_reducible rfl | with_reducible exact fun x => x | with_reducible exact fun _ => ⟨rfl, rfl, rfl, rfl⟩ | with_reducible exact fun x => absurd x Bool.false_ne_true | with_reducible exact KV.set_wf _ _ _ | with_reducible exact KV.put_wf _ _ | with_reducible exact KV.filter_wf _ | with_reducible exact List.prefix_rfl | with_reducible exact List.prefix_append _ _ | with_reducible exact KV.map_wf (fun _ => rfl) | with_reducible exact fun _ => KV.foldl_set_wf _ _ _ rfl | (simp; done) | skip) | with_reducible apply Keeps.ite | with_reducible apply Keeps.ite1 | (with_reducible apply Keeps.foldl; intro s₁ x₁; have h₁ : Keeps m₀ s₁ s₁ := Keeps.refl s₁; try dsimp +zetaDelta only) | (with_reducible apply Keeps.foldl1; intro s₁ x₁; have h₁ : Keeps m₀ s₁.1 s₁.1 := Keeps.refl s₁.1; try dsimp +zetaDelta only) | extract_lets | split | dsimp +zetaDelta only)

theorem keeps_lifecycleCmd {m₀ : Bool} {a₀ s₀ : State} (h₀ : Keeps m₀ a₀ s₀) {role : Nat} {v : Nat} :
    Keeps m₀ a₀ (lifecycleCmd s₀ role v) := by
  unfold lifecycleCmd
  try extract_lets
  repeat' (first | with_reducible assumption | (fail_if_no_progress (with_reducible apply Keeps.upd) <;> first | with_reducible rfl | with_reducible exact fun x => x | with_reducible exact fun _ => ⟨rfl, rfl, rfl, rfl⟩ | with_reducible exact fun x => absurd x Bool.false_ne_true | with_reducible exact KV.set_wf _ _ _ | with_reducible exact KV.put_wf _ _ | with_reducible exact KV.filter_wf _ | with_reducible exact List.prefix_rfl | with_reducible exact List.prefix_append _ _ | with_reducible exact KV.map_wf (fun _ => rfl) | with_reducible exact fun _ => KV.foldl_set_wf _ _ _ rfl | (simp; done) | skip) | with_reducible apply Keeps.ite | with_reducible apply Keeps.ite1 | (with_reducible apply Keeps.foldl; intro s₁ x₁; have h₁ : Keeps m₀ s₁ s₁ := Keeps.refl s₁; try dsimp +zetaDelta only) | (with_reducible apply Keeps.foldl1; intro s₁ x₁; have h₁ : Keeps m₀ s₁.1 s₁.1 := Keeps.refl s₁.1; try dsimp +zetaDelta only) | extract_lets | split | dsimp +zetaDelta only)

theorem keeps_linkCmd {m₀ : Bool} {a₀ s₀ : State} (h₀ : Keeps m₀ a₀ s₀) {l : Nat} {v : Nat} :
    Keeps m₀ a₀ (linkCmd s₀ l v) := by
  unfold linkCmd
  try extract_lets
  repeat' (first | with_reducible assumption | with_reducible apply keeps_State_modLink | (fail_if_no_progress (with_reducible apply Keeps.upd) <;> first | with_reducible rfl | with_reducible exact fun x => x | with_reducible exact fun _ => ⟨rfl, rfl, rfl, rfl⟩ | with_reducible exact fun x => absurd x Bool.false_ne_true | with_reducible exact KV.set_wf _ _ _ | with_reducible exact KV.put_wf _ _ | with_reducible exact KV.filter_wf _ | with_reducible exact List.prefix_rfl | with_reducible exact List.prefix_append _ _ | with_reducible exact KV.map_wf (fun _ => rfl) | with_reducible exact fun _ => KV.foldl_set_wf _ _ _ rfl | (simp; done) | skip) | with_reducible apply Keeps.ite | with_reducible apply Keeps.ite1 | (with_reducible apply Keeps.foldl; intro s₁ x₁; have h₁ : Keeps m₀ s₁ s₁ := Keeps.refl s₁; try dsimp +zetaDelta only) | (with_reducible apply Keeps.foldl1; intro s₁ x₁; have h₁ : Keeps m₀ s₁.1 s₁.1 := Keeps.refl s₁.1; try dsimp +zetaDelta only) | extract_lets | split | dsimp +zetaDelta only)

theorem keeps_mapCommit {m₀ : Bool} {a₀ s₀ : State} (h₀ : Keeps m₀ a₀ s₀)  :
    Keeps m₀ a₀ (mapCommit s₀) := by
  unfold mapCommit
  try extract_lets
  repeat' (first | with_reducible assumption | with_reducible apply keeps_startMapCommit | (fail_if_no_progress (with_reducible apply Keeps.upd) <;> first | with_reducible rfl | with_reducible exact fun x => x | with_reducible exact fun _ => ⟨rfl, rfl, rfl, rfl⟩ | with_reducible exact fun x => absurd x Bool.false_ne_true | with_reducible exact KV.set_wf _ _ _ | with_reducible exact KV.put_wf _ _ | with_reducible exact KV.filter_wf _ | with_reducible exact List.prefix_rfl | with_reducible exact List.prefix_append _ _ | with_reducible exact KV.map_wf (fun _ => rfl) | with_reducible exact fun _ => KV.foldl_set_wf _ _ _ rfl | (simp; done) | skip) | with_reducible apply Keeps.ite | with_reducible apply Keeps.ite1 | (with_reducible apply Keeps.foldl; intro s₁ x₁; have h₁ : Keeps m₀ s₁ s₁ := Keeps.refl s₁; try dsimp +zetaDelta only) | (with_reducible apply Keeps.foldl1; intro s₁ x₁; have h₁ : Keeps m₀ s₁.1 s₁.1 := Keeps.refl s₁.1; try dsimp +zetaDelta only) | extract_lets | split | dsimp +zetaDelta only)

theorem keeps_powerTarget {m₀ : Bool} {a₀ s₀ : State} (h₀ : Keeps m₀ a₀ s₀) {v : Nat} :
    Keeps m₀ a₀ (powerTarget s₀ v) := by
  unfold powerTarget
  try extract_lets
  repeat' (first | with_reducible assumption | with_reducible apply keeps_State_modPower | with_reducible apply keeps_applyTarget | with_reducible apply keeps_powerProgress | (fail_if_no_progress (with_reducible apply Keeps.upd) <;> first | with_reducible rfl | with_reducible exact fun x => x | with_reducible exact fun _ => ⟨rfl, rfl, rfl, rfl⟩ | with_reducible exact fun x => absurd x Bool.false_ne_true | with_reducible exact KV.set_wf _ _ _ | with_reducible exact KV.put_wf _ _ | with_reducible exact KV.filter_wf _ | with_reducible exact List.prefix_rfl | with_reducible exact List.prefix_append _ _ | with_reducible exact KV.map_wf (fun _ => rfl) | with_reducible exact fun _ => KV.foldl_set_wf _ _ _ rfl | (simp; done) | skip) | with_reducible apply Keeps.ite | with_reducible apply Keeps.ite1 | (with_reducible apply Keeps.foldl; intro s₁ x₁; have h₁ : Keeps m₀ s₁ s₁ := Keeps.refl s₁; try dsimp +zetaDelta only) | (with_reducible apply Keeps.foldl1; intro s₁ x₁; have h₁ : Keeps m₀ s₁.1 s₁.1 := Keeps.refl s₁.1; try dsimp +zetaDelta only) | extract_lets | split | dsimp +zetaDelta only | with_reducible exact fun x => x | (intro hp₀; obtain ⟨hp₁, hp₂⟩ := hp₀; constructor <;> first | with_reducible assumption | omega | (dsimp only; omega) | (dsimp only; split <;> omega)))

theorem keeps_preload {m₀ : Bool} {a₀ s₀ : State} (h₀ : Keeps m₀ a₀ s₀) {mode : Nat} :
    Keeps m₀ a₀ (preload s₀ mode) := by
  unfold preload
  try extract_lets
  repeat' (first | with_reducible assumption | with_reducible apply keeps_State_setRawN | (fail_if_no_progress (with_reducible apply Keeps.upd) <;> first | with_reducible rfl | with_reducible exact fun x => x | with_reducible exact fun _ => ⟨rfl, rfl, rfl, rfl⟩ | with_reducible exact fun x => absurd x Bool.false_ne_true | with_reducible exact KV.set_wf _ _ _ | with_reducible exact KV.put_wf _ _ | with_reducible exact KV.filter_wf _ | with_reducible exact List.prefix_rfl | with_reducible exact List.prefix_append _ _ | with_reducible exact KV.map_wf (fun _ => rfl) | with_reducible exact fun _ => KV.foldl_set_wf _ _ _ rfl | (simp; done) | skip) | with_reducible apply Keeps.ite | with_reducible apply Keeps.ite1 | (with_reducible apply Keeps.foldl; intro s₁ x₁; have h₁ : Keeps m₀ s₁ s₁ := Keeps.refl s₁; try dsimp +zetaDelta only) | (with_reducible apply Keeps.foldl1; intro s₁ x₁; have h₁ : Keeps m₀ s₁.1 s₁.1 := Keeps.refl s₁.1; try dsimp +zetaDelta only) | extract_lets | split | dsimp +zetaDelta only)

theorem keeps_startRegionCommit {m₀ : Bool} {a₀ s₀ : State} (h₀ : Keeps m₀ a₀ s₀)  :
    Keeps m₀ a₀ (startRegionCommit s₀) := by
  unfold startRegionCommit
  try extract_lets
  repeat' (first | with_reducible assumption | (fail_if_no_progress (with_reducible apply Keeps.upd) <;> first | with_reducible rfl | with_reducible exact fun x => x | with_reducible exact fun _ => ⟨rfl, rfl, rfl, rfl⟩ | with_reducible exact fun x => absurd x Bool.false_ne_true | with_reducible exact KV.set_wf _ _ _ | with_reducible exact KV.put_wf _ _ | with_reducible exact KV.filter_wf _ | with_reducible exact List.prefix_rfl | with_reducible exact List.prefix_append _ _ | with_reducible exact KV.map_wf (fun _ => rfl) | with_reducible exact fun _ => KV.foldl_set_wf _ _ _ rfl | (simp; done) | skip) | with_reducible apply Keeps.ite | with_reducible apply Keeps.ite1 | (with_reducible apply Keeps.foldl; intro s₁ x₁; have h₁ : Keeps m₀ s₁ s₁ := Keeps.refl s₁; try dsimp +zetaDelta only) | (with_reducible apply Keeps.foldl1; intro s₁ x₁; have h₁ : Keeps m₀ s₁.1 s₁.1 := Keeps.refl s₁.1; try dsimp +zetaDelta only) | extract_lets | split | dsimp +zetaDelta only)

theorem keeps_regionCommit {m₀ : Bool} {a₀ s₀ : State} (h₀ : Keeps m₀ a₀ s₀)  :
    Keeps m₀ a₀ (regionCommit s₀) := by
  unfold regionCommit
  try extract_lets
  repeat' (first | with_reducible assumption | with_reducible apply keeps_startRegionCommit | (fail_if_no_progress (with_reducible apply Keeps.upd) <;> first | with_reducible rfl | with_reducible exact fun x => x | with_reducible exact fun _ => ⟨rfl, rfl, rfl, rfl⟩ | with_reducible exact fun x => absurd x Bool.false_ne_true | with_reducible exact KV.set_wf _ _ _ | with_reducible exact KV.put_wf _ _ | with_reducible exact KV.filter_wf _ | with_reducible exact List.prefix_rfl | with_reducible exact List.prefix_append _ _ | with_reducible exact KV.map_wf (fun _ => rfl) | with_reducible exact fun _ => KV.foldl_set_wf _ _ _ rfl | (simp; done) | skip) | with_reducible apply Keeps.ite | with_reducible apply Keeps.ite1 | (with_reducible apply Keeps.foldl; intro s₁ x₁; have h₁ : Keeps m₀ s₁ s₁ := Keeps.refl s₁; try dsimp +zetaDelta only) | (with_reducible apply Keeps.foldl1; intro s₁ x₁; have h₁ : Keeps m₀ s₁.1 s₁.1 := Keeps.refl s₁.1; try dsimp +zetaDelta only) | extract_lets | split | dsimp +zetaDelta only)

theorem keeps_routeCommit {m₀ : Bool} {a₀ s₀ : State} (h₀ : Keeps m₀ a₀ s₀)  :
    Keeps m₀ a₀ (routeCommit s₀) := by
  unfold routeCommit
  try extract_lets
  repeat' (first | with_reducible assumption | with_reducible apply keeps_State_flit | with_reducible apply keeps_State_setRawN | (fail_if_no_progress (with_reducible apply Keeps.upd) <;> first | with_reducible rfl | with_reducible exact fun x => x | with_reducible exact fun _ => ⟨rfl, rfl, rfl, rfl⟩ | with_reducible exact fun x => absurd x Bool.false_ne_true | with_reducible exact KV.set_wf _ _ _ | with_reducible exact KV.put_wf _ _ | with_reducible exact KV.filter_wf _ | with_reducible exact List.prefix_rfl | with_reducible exact List.prefix_append _ _ | with_reducible exact KV.map_wf (fun _ => rfl) | with_reducible exact fun _ => KV.foldl_set_wf _ _ _ rfl | (simp; done) | skip) | with_reducible apply Keeps.ite | with_reducible apply Keeps.ite1 | (with_reducible apply Keeps.foldl; intro s₁ x₁; have h₁ : Keeps m₀ s₁ s₁ := Keeps.refl s₁; try dsimp +zetaDelta only) | (with_reducible apply Keeps.foldl1; intro s₁ x₁; have h₁ : Keeps m₀ s₁.1 s₁.1 := Keeps.refl s₁.1; try dsimp +zetaDelta only) | extract_lets | split | dsimp +zetaDelta only)

theorem keeps_command {m₀ : Bool} {a₀ s₀ : State} (h₀ : Keeps m₀ a₀ s₀) {a : Author} {i : Nat} {j : Nat} {v : Nat} :
    Keeps m₀ a₀ (command s₀ a i j v) := by
  unfold command
  try extract_lets
  repeat' (first | with_reducible assumption | with_reducible apply keeps_State_freeUsed | with_reducible apply keeps_agentCmd | with_reducible apply keeps_cellarEnable | with_reducible apply keeps_countersClear | with_reducible apply keeps_ffClear | with_reducible apply keeps_funcWrite | with_reducible apply keeps_globalCmd | with_reducible apply keeps_keyProgram | with_reducible apply keeps_lifecycleCmd | with_reducible apply keeps_linkCmd | with_reducible apply keeps_linkReset | with_reducible apply keeps_mapCommit | with_reducible apply keeps_powerTarget | with_reducible apply keeps_preload | with_reducible apply keeps_regionCommit | with_reducible apply keeps_routeCommit | (fail_if_no_progress (with_reducible apply Keeps.upd) <;> first | with_reducible rfl | with_reducible exact fun x => x | with_reducible exact fun _ => ⟨rfl, rfl, rfl, rfl⟩ | with_reducible exact fun x => absurd x Bool.false_ne_true | with_reducible exact KV.set_wf _ _ _ | with_reducible exact KV.put_wf _ _ | with_reducible exact KV.filter_wf _ | with_reducible exact List.prefix_rfl | with_reducible exact List.prefix_append _ _ | with_reducible exact KV.map_wf (fun _ => rfl) | with_reducible exact fun _ => KV.foldl_set_wf _ _ _ rfl | (simp; done) | skip) | with_reducible apply Keeps.ite | with_reducible apply Keeps.ite1 | (with_reducible apply Keeps.foldl; intro s₁ x₁; have h₁ : Keeps m₀ s₁ s₁ := Keeps.refl s₁; try dsimp +zetaDelta only) | (with_reducible apply Keeps.foldl1; intro s₁ x₁; have h₁ : Keeps m₀ s₁.1 s₁.1 := Keeps.refl s₁.1; try dsimp +zetaDelta only) | extract_lets | split | dsimp +zetaDelta only)

theorem keeps_State_modChan {m₀ : Bool} {a₀ s₀ : State} (h₀ : Keeps m₀ a₀ s₀) {c : Nat} {f : Chan → Chan} :
    Keeps m₀ a₀ (State.modChan s₀ c f) := by
  unfold State.modChan
  try extract_lets
  repeat' (first | with_reducible assumption | (fail_if_no_progress (with_reducible apply Keeps.upd) <;> first | with_reducible rfl | with_reducible exact fun x => x | with_reducible exact fun _ => ⟨rfl, rfl, rfl, rfl⟩ | with_reducible exact fun x => absurd x Bool.false_ne_true | with_reducible exact KV.set_wf _ _ _ | with_reducible exact KV.put_wf _ _ | with_reducible exact KV.filter_wf _ | with_reducible exact List.prefix_rfl | with_reducible exact List.prefix_append _ _ | with_reducible exact KV.map_wf (fun _ => rfl) | with_reducible exact fun _ => KV.foldl_set_wf _ _ _ rfl | (simp; done) | skip) | with_reducible apply Keeps.ite | with_reducible apply Keeps.ite1 | (with_reducible apply Keeps.foldl; intro s₁ x₁; have h₁ : Keeps m₀ s₁ s₁ := Keeps.refl s₁; try dsimp +zetaDelta only) | (with_reducible apply Keeps.foldl1; intro s₁ x₁; have h₁ : Keeps m₀ s₁.1 s₁.1 := Keeps.refl s₁.1; try dsimp +zetaDelta only) | extract_lets | split | dsimp +zetaDelta only)

theorem keeps_cfgWrite {m₀ : Bool} {a₀ s₀ : State} (h₀ : Keeps m₀ a₀ s₀) {n : Nat} {v : BitVec 32} :
    Keeps m₀ a₀ (cfgWrite s₀ n v).1 := by
  unfold cfgWrite
  try extract_lets
  repeat' (first | with_reducible assumption | with_reducible apply keeps_State_setAgent | with_reducible apply keeps_result | (fail_if_no_progress (with_reducible apply Keeps.upd) <;> first | with_reducible rfl | with_reducible exact fun x => x | with_reducible exact fun _ => ⟨rfl, rfl, rfl, rfl⟩ | with_reducible exact fun x => absurd x Bool.false_ne_true | with_reducible exact KV.set_wf _ _ _ | with_reducible exact KV.put_wf _ _ | with_reducible exact KV.filter_wf _ | with_reducible exact List.prefix_rfl | with_reducible exact List.prefix_append _ _ | with_reducible exact KV.map_wf (fun _ => rfl) | with_reducible exact fun _ => KV.foldl_set_wf _ _ _ rfl | (simp; done) | skip) | with_reducible apply Keeps.ite | with_reducible apply Keeps.ite1 | (with_reducible apply Keeps.foldl; intro s₁ x₁; have h₁ : Keeps m₀ s₁ s₁ := Keeps.refl s₁; try dsimp +zetaDelta only) | (with_reducible apply Keeps.foldl1; intro s₁ x₁; have h₁ : Keeps m₀ s₁.1 s₁.1 := Keeps.refl s₁.1; try dsimp +zetaDelta only) | extract_lets | split | dsimp +zetaDelta only)

theorem keeps_cfgWrite_eq {m₀ : Bool} {a₀ s₀ u₀ : State} {y₀ : Bool} {n : Nat} {v : BitVec 32} (e₀ : cfgWrite s₀ n v = (u₀, y₀)) (h₀ : Keeps m₀ a₀ s₀) :
    Keeps m₀ a₀ u₀ := by
  have k := @keeps_cfgWrite m₀ a₀ s₀ h₀ n v
  rw [e₀] at k; exact k

theorem keeps_counterWrite {m₀ : Bool} {a₀ s₀ : State} (h₀ : Keeps m₀ a₀ s₀) {i : Nat} {j : Nat} {v : Nat} :
    Keeps m₀ a₀ (counterWrite s₀ i j v).1 := by
  unfold counterWrite
  try extract_lets
  repeat' (first | with_reducible assumption | with_reducible apply keeps_State_modTill | with_reducible apply keeps_State_setRawN | (fail_if_no_progress (with_reducible apply Keeps.upd) <;> first | with_reducible rfl | with_reducible exact fun x => x | with_reducible exact fun _ => ⟨rfl, rfl, rfl, rfl⟩ | with_reducible exact fun x => absurd x Bool.false_ne_true | with_reducible exact KV.set_wf _ _ _ | with_reducible exact KV.put_wf _ _ | with_reducible exact KV.filter_wf _ | with_reducible exact List.prefix_rfl | with_reducible exact List.prefix_append _ _ | with_reducible exact KV.map_wf (fun _ => rfl) | with_reducible exact fun _ => KV.foldl_set_wf _ _ _ rfl | (simp; done) | skip) | with_reducible apply Keeps.ite | with_reducible apply Keeps.ite1 | (with_reducible apply Keeps.foldl; intro s₁ x₁; have h₁ : Keeps m₀ s₁ s₁ := Keeps.refl s₁; try dsimp +zetaDelta only) | (with_reducible apply Keeps.foldl1; intro s₁ x₁; have h₁ : Keeps m₀ s₁.1 s₁.1 := Keeps.refl s₁.1; try dsimp +zetaDelta only) | extract_lets | split | dsimp +zetaDelta only)

theorem keeps_counterWrite_eq {m₀ : Bool} {a₀ s₀ u₀ : State} {y₀ : Code} {i : Nat} {j : Nat} {v : Nat} (e₀ : counterWrite s₀ i j v = (u₀, y₀)) (h₀ : Keeps m₀ a₀ s₀) :
    Keeps m₀ a₀ u₀ := by
  have k := @keeps_counterWrite m₀ a₀ s₀ h₀ i j v
  rw [e₀] at k; exact k

theorem keeps_escrowWrite {m₀ : Bool} {a₀ s₀ : State} (h₀ : Keeps m₀ a₀ s₀) {i : Nat} {j : Nat} {v : Nat} :
    Keeps m₀ a₀ (escrowWrite s₀ i j v).1 := by
  unfold escrowWrite
  try extract_lets
  repeat' (first | with_reducible assumption | with_reducible apply keeps_State_modAgent | with_reducible apply keeps_State_setRawN | (fail_if_no_progress (with_reducible apply Keeps.upd) <;> first | with_reducible rfl | with_reducible exact fun x => x | with_reducible exact fun _ => ⟨rfl, rfl, rfl, rfl⟩ | with_reducible exact fun x => absurd x Bool.false_ne_true | with_reducible exact KV.set_wf _ _ _ | with_reducible exact KV.put_wf _ _ | with_reducible exact KV.filter_wf _ | with_reducible exact List.prefix_rfl | with_reducible exact List.prefix_append _ _ | with_reducible exact KV.map_wf (fun _ => rfl) | with_reducible exact fun _ => KV.foldl_set_wf _ _ _ rfl | (simp; done) | skip) | with_reducible apply Keeps.ite | with_reducible apply Keeps.ite1 | (with_reducible apply Keeps.foldl; intro s₁ x₁; have h₁ : Keeps m₀ s₁ s₁ := Keeps.refl s₁; try dsimp +zetaDelta only) | (with_reducible apply Keeps.foldl1; intro s₁ x₁; have h₁ : Keeps m₀ s₁.1 s₁.1 := Keeps.refl s₁.1; try dsimp +zetaDelta only) | extract_lets | split | dsimp +zetaDelta only)

theorem keeps_escrowWrite_eq {m₀ : Bool} {a₀ s₀ u₀ : State} {y₀ : Bool} {i : Nat} {j : Nat} {v : Nat} (e₀ : escrowWrite s₀ i j v = (u₀, y₀)) (h₀ : Keeps m₀ a₀ s₀) :
    Keeps m₀ a₀ u₀ := by
  have k := @keeps_escrowWrite m₀ a₀ s₀ h₀ i j v
  rw [e₀] at k; exact k

theorem keeps_slotCtrl {m₀ : Bool} {a₀ s₀ : State} (h₀ : Keeps m₀ a₀ s₀) {w : Nat} {v : Nat} :
    Keeps m₀ a₀ (slotCtrl s₀ w v).1 := by
  unfold slotCtrl
  try extract_lets
  repeat' (first | with_reducible assumption | with_reducible apply keeps_State_setRawN | with_reducible apply keeps_funcCmd | (fail_if_no_progress (with_reducible apply Keeps.upd) <;> first | with_reducible rfl | with_reducible exact fun x => x | with_reducible exact fun _ => ⟨rfl, rfl, rfl, rfl⟩ | with_reducible exact fun x => absurd x Bool.false_ne_true | with_reducible exact KV.set_wf _ _ _ | with_reducible exact KV.put_wf _ _ | with_reducible exact KV.filter_wf _ | with_reducible exact List.prefix_rfl | with_reducible exact List.prefix_append _ _ | with_reducible exact KV.map_wf (fun _ => rfl) | with_reducible exact fun _ => KV.foldl_set_wf _ _ _ rfl | (simp; done) | skip) | with_reducible apply Keeps.ite | with_reducible apply Keeps.ite1 | (with_reducible apply Keeps.foldl; intro s₁ x₁; have h₁ : Keeps m₀ s₁ s₁ := Keeps.refl s₁; try dsimp +zetaDelta only) | (with_reducible apply Keeps.foldl1; intro s₁ x₁; have h₁ : Keeps m₀ s₁.1 s₁.1 := Keeps.refl s₁.1; try dsimp +zetaDelta only) | extract_lets | split | dsimp +zetaDelta only)

theorem keeps_slotCtrl_eq {m₀ : Bool} {a₀ s₀ u₀ : State} {y₀ : Bool} {w : Nat} {v : Nat} (e₀ : slotCtrl s₀ w v = (u₀, y₀)) (h₀ : Keeps m₀ a₀ s₀) :
    Keeps m₀ a₀ u₀ := by
  have k := @keeps_slotCtrl m₀ a₀ s₀ h₀ w v
  rw [e₀] at k; exact k

theorem keeps_tenantWrite {m₀ : Bool} {a₀ s₀ : State} (h₀ : Keeps m₀ a₀ s₀) {t : Nat} {i : Nat} {v : Sys2Proof.Word} :
    Keeps m₀ a₀ (tenantWrite s₀ t i v).1 := by
  unfold tenantWrite
  try extract_lets
  repeat' (first | with_reducible assumption | with_reducible apply keeps_State_setRaw | (fail_if_no_progress (with_reducible apply Keeps.upd) <;> first | with_reducible rfl | with_reducible exact fun x => x | with_reducible exact fun _ => ⟨rfl, rfl, rfl, rfl⟩ | with_reducible exact fun x => absurd x Bool.false_ne_true | with_reducible exact KV.set_wf _ _ _ | with_reducible exact KV.put_wf _ _ | with_reducible exact KV.filter_wf _ | with_reducible exact List.prefix_rfl | with_reducible exact List.prefix_append _ _ | with_reducible exact KV.map_wf (fun _ => rfl) | with_reducible exact fun _ => KV.foldl_set_wf _ _ _ rfl | (simp; done) | skip) | with_reducible apply Keeps.ite | with_reducible apply Keeps.ite1 | (with_reducible apply Keeps.foldl; intro s₁ x₁; have h₁ : Keeps m₀ s₁ s₁ := Keeps.refl s₁; try dsimp +zetaDelta only) | (with_reducible apply Keeps.foldl1; intro s₁ x₁; have h₁ : Keeps m₀ s₁.1 s₁.1 := Keeps.refl s₁.1; try dsimp +zetaDelta only) | extract_lets | split | dsimp +zetaDelta only)

theorem keeps_tenantWrite_eq {m₀ : Bool} {a₀ s₀ u₀ : State} {y₀ : Bool} {t : Nat} {i : Nat} {v : Sys2Proof.Word} (e₀ : tenantWrite s₀ t i v = (u₀, y₀)) (h₀ : Keeps m₀ a₀ s₀) :
    Keeps m₀ a₀ u₀ := by
  have k := @keeps_tenantWrite m₀ a₀ s₀ h₀ t i v
  rw [e₀] at k; exact k

theorem keeps_store {m₀ : Bool} {a₀ s₀ : State} (h₀ : Keeps m₀ a₀ s₀) {i : Nat} {j : Nat} {v : Nat} :
    Keeps m₀ a₀ (store s₀ i j v).1 := by
  unfold store
  try extract_lets
  repeat' (first | with_reducible assumption | with_reducible refine keeps_cfgWrite_eq (by assumption) ?_ | with_reducible refine keeps_counterWrite_eq (by assumption) ?_ | with_reducible refine keeps_escrowWrite_eq (by assumption) ?_ | with_reducible refine keeps_slotCtrl_eq (by assumption) ?_ | with_reducible refine keeps_tenantWrite_eq (by assumption) ?_ | with_reducible apply keeps_State_modAgent | with_reducible apply keeps_State_modChan | with_reducible apply keeps_State_modShape | with_reducible apply keeps_State_setRawN | with_reducible apply keeps_cfgWrite | with_reducible apply keeps_counterWrite | with_reducible apply keeps_escrowWrite | with_reducible apply keeps_setRoute | with_reducible apply keeps_slotCtrl | with_reducible apply keeps_tenantWrite | (fail_if_no_progress (with_reducible apply Keeps.upd) <;> first | with_reducible rfl | with_reducible exact fun x => x | with_reducible exact fun _ => ⟨rfl, rfl, rfl, rfl⟩ | with_reducible exact fun x => absurd x Bool.false_ne_true | with_reducible exact KV.set_wf _ _ _ | with_reducible exact KV.put_wf _ _ | with_reducible exact KV.filter_wf _ | with_reducible exact List.prefix_rfl | with_reducible exact List.prefix_append _ _ | with_reducible exact KV.map_wf (fun _ => rfl) | with_reducible exact fun _ => KV.foldl_set_wf _ _ _ rfl | (simp; done) | skip) | with_reducible apply Keeps.ite | with_reducible apply Keeps.ite1 | (with_reducible apply Keeps.foldl; intro s₁ x₁; have h₁ : Keeps m₀ s₁ s₁ := Keeps.refl s₁; try dsimp +zetaDelta only) | (with_reducible apply Keeps.foldl1; intro s₁ x₁; have h₁ : Keeps m₀ s₁.1 s₁.1 := Keeps.refl s₁.1; try dsimp +zetaDelta only) | extract_lets | split | dsimp +zetaDelta only)

theorem keeps_store_eq {m₀ : Bool} {a₀ s₀ u₀ : State} {y₀ : Code} {i : Nat} {j : Nat} {v : Nat} (e₀ : store s₀ i j v = (u₀, y₀)) (h₀ : Keeps m₀ a₀ s₀) :
    Keeps m₀ a₀ u₀ := by
  have k := @keeps_store m₀ a₀ s₀ h₀ i j v
  rw [e₀] at k; exact k

theorem keeps_applyOwner {m₀ : Bool} {a₀ s₀ : State} (h₀ : Keeps m₀ a₀ s₀) {a : Author} {i : Nat} {j : Nat} {e : Entry} {v0 : Nat} :
    Keeps m₀ a₀ (applyOwner s₀ a i j e v0).1 := by
  unfold applyOwner
  try extract_lets
  repeat' (first | with_reducible assumption | with_reducible refine keeps_store_eq (by assumption) ?_ | with_reducible apply keeps_State_modShaper | with_reducible apply keeps_clearBits | with_reducible apply keeps_command | with_reducible apply keeps_store | (fail_if_no_progress (with_reducible apply Keeps.upd) <;> first | with_reducible rfl | with_reducible exact fun x => x | with_reducible exact fun _ => ⟨rfl, rfl, rfl, rfl⟩ | with_reducible exact fun x => absurd x Bool.false_ne_true | with_reducible exact KV.set_wf _ _ _ | with_reducible exact KV.put_wf _ _ | with_reducible exact KV.filter_wf _ | with_reducible exact List.prefix_rfl | with_reducible exact List.prefix_append _ _ | with_reducible exact KV.map_wf (fun _ => rfl) | with_reducible exact fun _ => KV.foldl_set_wf _ _ _ rfl | (simp; done) | skip) | with_reducible apply Keeps.ite | with_reducible apply Keeps.ite1 | (with_reducible apply Keeps.foldl; intro s₁ x₁; have h₁ : Keeps m₀ s₁ s₁ := Keeps.refl s₁; try dsimp +zetaDelta only) | (with_reducible apply Keeps.foldl1; intro s₁ x₁; have h₁ : Keeps m₀ s₁.1 s₁.1 := Keeps.refl s₁.1; try dsimp +zetaDelta only) | extract_lets | split | dsimp +zetaDelta only)

theorem keeps_applyOwner_eq {m₀ : Bool} {a₀ s₀ u₀ : State} {y₀ : Code} {a : Author} {i : Nat} {j : Nat} {e : Entry} {v0 : Nat} (e₀ : applyOwner s₀ a i j e v0 = (u₀, y₀)) (h₀ : Keeps m₀ a₀ s₀) :
    Keeps m₀ a₀ u₀ := by
  have k := @keeps_applyOwner m₀ a₀ s₀ h₀ a i j e v0
  rw [e₀] at k; exact k

theorem keeps_refused {m₀ : Bool} {a₀ s₀ : State} (h₀ : Keeps m₀ a₀ s₀) {a : Author} {i : Nat} {j : Nat} {c : Code} :
    Keeps m₀ a₀ (refused s₀ a i j c) := by
  unfold refused
  try extract_lets
  repeat' (first | with_reducible assumption | with_reducible apply keeps_State_bump | with_reducible apply keeps_State_setRawN | (fail_if_no_progress (with_reducible apply Keeps.upd) <;> first | with_reducible rfl | with_reducible exact fun x => x | with_reducible exact fun _ => ⟨rfl, rfl, rfl, rfl⟩ | with_reducible exact fun x => absurd x Bool.false_ne_true | with_reducible exact KV.set_wf _ _ _ | with_reducible exact KV.put_wf _ _ | with_reducible exact KV.filter_wf _ | with_reducible exact List.prefix_rfl | with_reducible exact List.prefix_append _ _ | with_reducible exact KV.map_wf (fun _ => rfl) | with_reducible exact fun _ => KV.foldl_set_wf _ _ _ rfl | (simp; done) | skip) | with_reducible apply Keeps.ite | with_reducible apply Keeps.ite1 | (with_reducible apply Keeps.foldl; intro s₁ x₁; have h₁ : Keeps m₀ s₁ s₁ := Keeps.refl s₁; try dsimp +zetaDelta only) | (with_reducible apply Keeps.foldl1; intro s₁ x₁; have h₁ : Keeps m₀ s₁.1 s₁.1 := Keeps.refl s₁.1; try dsimp +zetaDelta only) | extract_lets | split | dsimp +zetaDelta only)

theorem keeps_segSelect {m₀ : Bool} {a₀ s₀ : State} (h₀ : Keeps m₀ a₀ s₀) {v : Nat} :
    Keeps m₀ a₀ (segSelect s₀ v) := by
  unfold segSelect
  try extract_lets
  repeat' (first | with_reducible assumption | (fail_if_no_progress (with_reducible apply Keeps.upd) <;> first | with_reducible rfl | with_reducible exact fun x => x | with_reducible exact fun _ => ⟨rfl, rfl, rfl, rfl⟩ | with_reducible exact fun x => absurd x Bool.false_ne_true | with_reducible exact KV.set_wf _ _ _ | with_reducible exact KV.put_wf _ _ | with_reducible exact KV.filter_wf _ | with_reducible exact List.prefix_rfl | with_reducible exact List.prefix_append _ _ | with_reducible exact KV.map_wf (fun _ => rfl) | with_reducible exact fun _ => KV.foldl_set_wf _ _ _ rfl | (simp; done) | skip) | with_reducible apply Keeps.ite | with_reducible apply Keeps.ite1 | (with_reducible apply Keeps.foldl; intro s₁ x₁; have h₁ : Keeps m₀ s₁ s₁ := Keeps.refl s₁; try dsimp +zetaDelta only) | (with_reducible apply Keeps.foldl1; intro s₁ x₁; have h₁ : Keeps m₀ s₁.1 s₁.1 := Keeps.refl s₁.1; try dsimp +zetaDelta only) | extract_lets | split | dsimp +zetaDelta only)

theorem keeps_writeLong {m₀ : Bool} {a₀ s₀ : State} (h₀ : Keeps m₀ a₀ s₀) {a : Author} {i : Nat} {j : Nat} {b : List Sys2Proof.Byte} :
    Keeps m₀ a₀ (writeLong s₀ a i j b).1 := by
  unfold writeLong
  try extract_lets
  repeat' (first | with_reducible assumption | with_reducible apply keeps_applied | with_reducible apply keeps_refused | (fail_if_no_progress (with_reducible apply Keeps.upd) <;> first | with_reducible rfl | with_reducible exact fun x => x | with_reducible exact fun _ => ⟨rfl, rfl, rfl, rfl⟩ | with_reducible exact fun x => absurd x Bool.false_ne_true | with_reducible exact KV.set_wf _ _ _ | with_reducible exact KV.put_wf _ _ | with_reducible exact KV.filter_wf _ | with_reducible exact List.prefix_rfl | with_reducible exact List.prefix_append _ _ | with_reducible exact KV.map_wf (fun _ => rfl) | with_reducible exact fun _ => KV.foldl_set_wf _ _ _ rfl | (simp; done) | skip) | with_reducible apply Keeps.ite | with_reducible apply Keeps.ite1 | (with_reducible apply Keeps.foldl; intro s₁ x₁; have h₁ : Keeps m₀ s₁ s₁ := Keeps.refl s₁; try dsimp +zetaDelta only) | (with_reducible apply Keeps.foldl1; intro s₁ x₁; have h₁ : Keeps m₀ s₁.1 s₁.1 := Keeps.refl s₁.1; try dsimp +zetaDelta only) | extract_lets | split | dsimp +zetaDelta only)

theorem keeps_writeLong_eq {m₀ : Bool} {a₀ s₀ u₀ : State} {y₀ : Code} {a : Author} {i : Nat} {j : Nat} {b : List Sys2Proof.Byte} (e₀ : writeLong s₀ a i j b = (u₀, y₀)) (h₀ : Keeps m₀ a₀ s₀) :
    Keeps m₀ a₀ u₀ := by
  have k := @keeps_writeLong m₀ a₀ s₀ h₀ a i j b
  rw [e₀] at k; exact k

theorem keeps_segWrite {m₀ : Bool} {a₀ s₀ : State} (h₀ : Keeps m₀ a₀ s₀) {a : Author} {v : Nat} :
    Keeps m₀ a₀ (segWrite s₀ a v).1 := by
  unfold segWrite
  try extract_lets
  repeat' (first | with_reducible assumption | with_reducible refine keeps_writeLong_eq (by assumption) ?_ | with_reducible apply keeps_writeLong | (fail_if_no_progress (with_reducible apply Keeps.upd) <;> first | with_reducible rfl | with_reducible exact fun x => x | with_reducible exact fun _ => ⟨rfl, rfl, rfl, rfl⟩ | with_reducible exact fun x => absurd x Bool.false_ne_true | with_reducible exact KV.set_wf _ _ _ | with_reducible exact KV.put_wf _ _ | with_reducible exact KV.filter_wf _ | with_reducible exact List.prefix_rfl | with_reducible exact List.prefix_append _ _ | with_reducible exact KV.map_wf (fun _ => rfl) | with_reducible exact fun _ => KV.foldl_set_wf _ _ _ rfl | (simp; done) | skip) | with_reducible apply Keeps.ite | with_reducible apply Keeps.ite1 | (with_reducible apply Keeps.foldl; intro s₁ x₁; have h₁ : Keeps m₀ s₁ s₁ := Keeps.refl s₁; try dsimp +zetaDelta only) | (with_reducible apply Keeps.foldl1; intro s₁ x₁; have h₁ : Keeps m₀ s₁.1 s₁.1 := Keeps.refl s₁.1; try dsimp +zetaDelta only) | extract_lets | split | dsimp +zetaDelta only)

theorem keeps_segWrite_eq {m₀ : Bool} {a₀ s₀ u₀ : State} {y₀ : Code} {a : Author} {v : Nat} (e₀ : segWrite s₀ a v = (u₀, y₀)) (h₀ : Keeps m₀ a₀ s₀) :
    Keeps m₀ a₀ u₀ := by
  have k := @keeps_segWrite m₀ a₀ s₀ h₀ a v
  rw [e₀] at k; exact k

theorem keeps_writeEntry {m₀ : Bool} {a₀ s₀ : State} (h₀ : Keeps m₀ a₀ s₀) {a : Author} {i : Nat} {j : Nat} {v : Nat} {size : Nat} :
    Keeps m₀ a₀ (writeEntry s₀ a i j v size).1 := by
  unfold writeEntry
  try extract_lets
  repeat' (first | with_reducible assumption | with_reducible refine keeps_applyOwner_eq (by assumption) ?_ | with_reducible refine keeps_segWrite_eq (by assumption) ?_ | with_reducible apply keeps_applied | with_reducible apply keeps_applyOwner | with_reducible apply keeps_refused | with_reducible apply keeps_segSelect | with_reducible apply keeps_segWrite | (fail_if_no_progress (with_reducible apply Keeps.upd) <;> first | with_reducible rfl | with_reducible exact fun x => x | with_reducible exact fun _ => ⟨rfl, rfl, rfl, rfl⟩ | with_reducible exact fun x => absurd x Bool.false_ne_true | with_reducible exact KV.set_wf _ _ _ | with_reducible exact KV.put_wf _ _ | with_reducible exact KV.filter_wf _ | with_reducible exact List.prefix_rfl | with_reducible exact List.prefix_append _ _ | with_reducible exact KV.map_wf (fun _ => rfl) | with_reducible exact fun _ => KV.foldl_set_wf _ _ _ rfl | (simp; done) | skip) | with_reducible apply Keeps.ite | with_reducible apply Keeps.ite1 | (with_reducible apply Keeps.foldl; intro s₁ x₁; have h₁ : Keeps m₀ s₁ s₁ := Keeps.refl s₁; try dsimp +zetaDelta only) | (with_reducible apply Keeps.foldl1; intro s₁ x₁; have h₁ : Keeps m₀ s₁.1 s₁.1 := Keeps.refl s₁.1; try dsimp +zetaDelta only) | extract_lets | split | dsimp +zetaDelta only)

theorem keeps_writeEntry_eq {m₀ : Bool} {a₀ s₀ u₀ : State} {y₀ : Code} {a : Author} {i : Nat} {j : Nat} {v : Nat} {size : Nat} (e₀ : writeEntry s₀ a i j v size = (u₀, y₀)) (h₀ : Keeps m₀ a₀ s₀) :
    Keeps m₀ a₀ u₀ := by
  have k := @keeps_writeEntry m₀ a₀ s₀ h₀ a i j v size
  rw [e₀] at k; exact k

theorem keeps_windowWrite {m₀ : Bool} {a₀ s₀ : State} (h₀ : Keeps m₀ a₀ s₀) {header : Option Sys2Proof.LineData} {i : Nat} {j : Nat} {v : Nat} {size : Nat} :
    Keeps m₀ a₀ (windowWrite s₀ header i j v size) := by
  unfold windowWrite
  try extract_lets
  repeat' (first | with_reducible assumption | with_reducible refine keeps_writeEntry_eq (by assumption) ?_ | with_reducible apply keeps_State_gev | with_reducible apply keeps_writeEntry | (fail_if_no_progress (with_reducible apply Keeps.upd) <;> first | with_reducible rfl | with_reducible exact fun x => x | with_reducible exact fun _ => ⟨rfl, rfl, rfl, rfl⟩ | with_reducible exact fun x => absurd x Bool.false_ne_true | with_reducible exact KV.set_wf _ _ _ | with_reducible exact KV.put_wf _ _ | with_reducible exact KV.filter_wf _ | with_reducible exact List.prefix_rfl | with_reducible exact List.prefix_append _ _ | with_reducible exact KV.map_wf (fun _ => rfl) | with_reducible exact fun _ => KV.foldl_set_wf _ _ _ rfl | (simp; done) | skip) | with_reducible apply Keeps.ite | with_reducible apply Keeps.ite1 | (with_reducible apply Keeps.foldl; intro s₁ x₁; have h₁ : Keeps m₀ s₁ s₁ := Keeps.refl s₁; try dsimp +zetaDelta only) | (with_reducible apply Keeps.foldl1; intro s₁ x₁; have h₁ : Keeps m₀ s₁.1 s₁.1 := Keeps.refl s₁.1; try dsimp +zetaDelta only) | extract_lets | split | dsimp +zetaDelta only)

theorem keeps_windowCmd {m₀ : Bool} {a₀ s₀ : State} (h₀ : Keeps m₀ a₀ s₀) {c : Sys2Proof.Instr} {header : Option Sys2Proof.LineData} {i : Nat} {j : Nat} {v : Nat} {size : Nat} :
    Keeps m₀ a₀ (windowCmd s₀ c header i j v size) := by
  unfold windowCmd
  try extract_lets
  repeat' (first | with_reducible assumption | with_reducible apply keeps_deferTo | with_reducible apply keeps_windowWrite | (fail_if_no_progress (with_reducible apply Keeps.upd) <;> first | with_reducible rfl | with_reducible exact fun x => x | with_reducible exact fun _ => ⟨rfl, rfl, rfl, rfl⟩ | with_reducible exact fun x => absurd x Bool.false_ne_true | with_reducible exact KV.set_wf _ _ _ | with_reducible exact KV.put_wf _ _ | with_reducible exact KV.filter_wf _ | with_reducible exact List.prefix_rfl | with_reducible exact List.prefix_append _ _ | with_reducible exact KV.map_wf (fun _ => rfl) | with_reducible exact fun _ => KV.foldl_set_wf _ _ _ rfl | (simp; done) | skip) | with_reducible apply Keeps.ite | with_reducible apply Keeps.ite1 | (with_reducible apply Keeps.foldl; intro s₁ x₁; have h₁ : Keeps m₀ s₁ s₁ := Keeps.refl s₁; try dsimp +zetaDelta only) | (with_reducible apply Keeps.foldl1; intro s₁ x₁; have h₁ : Keeps m₀ s₁.1 s₁.1 := Keeps.refl s₁.1; try dsimp +zetaDelta only) | extract_lets | split | dsimp +zetaDelta only)

theorem keeps_discardMsg {m₀ : Bool} {a₀ s₀ : State} (h₀ : Keeps m₀ a₀ s₀) {w : Nat} {aid : Sys2Proof.Aid} {inc : Sys2Proof.Inc} {late : Ctr} :
    ∀ t₀, (discardMsg s₀ w aid inc late) = some t₀ → Keeps m₀ a₀ t₀ := by
  intro t₀ e₀
  unfold discardMsg at e₀
  try dsimp only at e₀
  repeat' (split at e₀)
  all_goals first | (simp only [Option.some.injEq, reduceCtorEq] at e₀; done) | (simp only [Option.some.injEq] at e₀; subst e₀)
  all_goals repeat' (first | with_reducible assumption | with_reducible apply keeps_State_bump | with_reducible apply keeps_State_note | (fail_if_no_progress (with_reducible apply Keeps.upd) <;> first | with_reducible rfl | with_reducible exact fun x => x | with_reducible exact fun _ => ⟨rfl, rfl, rfl, rfl⟩ | with_reducible exact fun x => absurd x Bool.false_ne_true | with_reducible exact KV.set_wf _ _ _ | with_reducible exact KV.put_wf _ _ | with_reducible exact KV.filter_wf _ | with_reducible exact List.prefix_rfl | with_reducible exact List.prefix_append _ _ | with_reducible exact KV.map_wf (fun _ => rfl) | with_reducible exact fun _ => KV.foldl_set_wf _ _ _ rfl | (simp; done) | skip) | with_reducible apply Keeps.ite | with_reducible apply Keeps.ite1 | (with_reducible apply Keeps.foldl; intro s₁ x₁; have h₁ : Keeps m₀ s₁ s₁ := Keeps.refl s₁; try dsimp +zetaDelta only) | (with_reducible apply Keeps.foldl1; intro s₁ x₁; have h₁ : Keeps m₀ s₁.1 s₁.1 := Keeps.refl s₁.1; try dsimp +zetaDelta only) | extract_lets | split | dsimp +zetaDelta only)

theorem keeps_discardMsg_eq {m₀ : Bool} {a₀ s₀ u₀ : State} {w : Nat} {aid : Sys2Proof.Aid} {inc : Sys2Proof.Inc} {late : Ctr} (e₀ : discardMsg s₀ w aid inc late = some u₀) (h₀ : Keeps m₀ a₀ s₀) : Keeps m₀ a₀ u₀ :=
  keeps_discardMsg h₀ u₀ e₀

theorem keeps_relook {m₀ : Bool} {a₀ s₀ : State} (h₀ : Keeps m₀ a₀ s₀) {t : Nat} {bank : Nat} {set : Nat} :
    Keeps m₀ a₀ (relook s₀ t bank set) := by
  unfold relook
  try extract_lets
  repeat' (first | with_reducible assumption | with_reducible apply keeps_State_modTill | (fail_if_no_progress (with_reducible apply Keeps.upd) <;> first | with_reducible rfl | with_reducible exact fun x => x | with_reducible exact fun _ => ⟨rfl, rfl, rfl, rfl⟩ | with_reducible exact fun x => absurd x Bool.false_ne_true | with_reducible exact KV.set_wf _ _ _ | with_reducible exact KV.put_wf _ _ | with_reducible exact KV.filter_wf _ | with_reducible exact List.prefix_rfl | with_reducible exact List.prefix_append _ _ | with_reducible exact KV.map_wf (fun _ => rfl) | with_reducible exact fun _ => KV.foldl_set_wf _ _ _ rfl | (simp; done) | skip) | with_reducible apply Keeps.ite | with_reducible apply Keeps.ite1 | (with_reducible apply Keeps.foldl; intro s₁ x₁; have h₁ : Keeps m₀ s₁ s₁ := Keeps.refl s₁; try dsimp +zetaDelta only) | (with_reducible apply Keeps.foldl1; intro s₁ x₁; have h₁ : Keeps m₀ s₁.1 s₁.1 := Keeps.refl s₁.1; try dsimp +zetaDelta only) | extract_lets | split | dsimp +zetaDelta only)

theorem keeps_loseEntry {m₀ : Bool} {a₀ s₀ : State} (h₀ : Keeps m₀ a₀ s₀) {t : Nat} {bank : Nat} {set : Nat} :
    Keeps m₀ a₀ (loseEntry s₀ t bank set) := by
  unfold loseEntry
  try extract_lets
  repeat' (first | with_reducible assumption | with_reducible apply keeps_State_bump | with_reducible apply keeps_State_note | with_reducible apply keeps_enterSet | with_reducible apply keeps_relook | (fail_if_no_progress (with_reducible apply Keeps.upd) <;> first | with_reducible rfl | with_reducible exact fun x => x | with_reducible exact fun _ => ⟨rfl, rfl, rfl, rfl⟩ | with_reducible exact fun x => absurd x Bool.false_ne_true | with_reducible exact KV.set_wf _ _ _ | with_reducible exact KV.put_wf _ _ | with_reducible exact KV.filter_wf _ | with_reducible exact List.prefix_rfl | with_reducible exact List.prefix_append _ _ | with_reducible exact KV.map_wf (fun _ => rfl) | with_reducible exact fun _ => KV.foldl_set_wf _ _ _ rfl | (simp; done) | skip) | with_reducible apply Keeps.ite | with_reducible apply Keeps.ite1 | (with_reducible apply Keeps.foldl; intro s₁ x₁; have h₁ : Keeps m₀ s₁ s₁ := Keeps.refl s₁; try dsimp +zetaDelta only) | (with_reducible apply Keeps.foldl1; intro s₁ x₁; have h₁ : Keeps m₀ s₁.1 s₁.1 := Keeps.refl s₁.1; try dsimp +zetaDelta only) | extract_lets | split | dsimp +zetaDelta only)

theorem keeps_State_bumpMax {m₀ : Bool} {a₀ s₀ : State} (h₀ : Keeps m₀ a₀ s₀) {c : Ctr} {n : Nat} :
    Keeps m₀ a₀ (State.bumpMax s₀ c n) := by
  unfold State.bumpMax
  try extract_lets
  repeat' (first | with_reducible assumption | with_reducible apply keeps_State_setRawN | (fail_if_no_progress (with_reducible apply Keeps.upd) <;> first | with_reducible rfl | with_reducible exact fun x => x | with_reducible exact fun _ => ⟨rfl, rfl, rfl, rfl⟩ | with_reducible exact fun x => absurd x Bool.false_ne_true | with_reducible exact KV.set_wf _ _ _ | with_reducible exact KV.put_wf _ _ | with_reducible exact KV.filter_wf _ | with_reducible exact List.prefix_rfl | with_reducible exact List.prefix_append _ _ | with_reducible exact KV.map_wf (fun _ => rfl) | with_reducible exact fun _ => KV.foldl_set_wf _ _ _ rfl | (simp; done) | skip) | with_reducible apply Keeps.ite | with_reducible apply Keeps.ite1 | (with_reducible apply Keeps.foldl; intro s₁ x₁; have h₁ : Keeps m₀ s₁ s₁ := Keeps.refl s₁; try dsimp +zetaDelta only) | (with_reducible apply Keeps.foldl1; intro s₁ x₁; have h₁ : Keeps m₀ s₁.1 s₁.1 := Keeps.refl s₁.1; try dsimp +zetaDelta only) | extract_lets | split | dsimp +zetaDelta only)

theorem keeps_autoJoin {m₀ : Bool} {a₀ s₀ : State} (h₀ : Keeps m₀ a₀ s₀) {n : Nat} :
    Keeps m₀ a₀ (autoJoin s₀ n) := by
  unfold autoJoin
  try extract_lets
  repeat' (first | with_reducible assumption | with_reducible apply keeps_startJoin | (fail_if_no_progress (with_reducible apply Keeps.upd) <;> first | with_reducible rfl | with_reducible exact fun x => x | with_reducible exact fun _ => ⟨rfl, rfl, rfl, rfl⟩ | with_reducible exact fun x => absurd x Bool.false_ne_true | with_reducible exact KV.set_wf _ _ _ | with_reducible exact KV.put_wf _ _ | with_reducible exact KV.filter_wf _ | with_reducible exact List.prefix_rfl | with_reducible exact List.prefix_append _ _ | with_reducible exact KV.map_wf (fun _ => rfl) | with_reducible exact fun _ => KV.foldl_set_wf _ _ _ rfl | (simp; done) | skip) | with_reducible apply Keeps.ite | with_reducible apply Keeps.ite1 | (with_reducible apply Keeps.foldl; intro s₁ x₁; have h₁ : Keeps m₀ s₁ s₁ := Keeps.refl s₁; try dsimp +zetaDelta only) | (with_reducible apply Keeps.foldl1; intro s₁ x₁; have h₁ : Keeps m₀ s₁.1 s₁.1 := Keeps.refl s₁.1; try dsimp +zetaDelta only) | extract_lets | split | dsimp +zetaDelta only)

end Sys2Proof.Machine
end

