-- ==== Sys2Proof/Laws/KeepsE.lean ====
section
/-! SUPPORT. What `Keeps` says of each meaning that answers a next state. -/

namespace Sys2Proof.Machine
set_option linter.all false

/-- A meaning that keeps the parts of `Keeps` where it answers a next state. -/
def KeepsNext (m : Bool) (o : Host.Outcome State Fault Refusal) (s : State) : Prop := ∀ t, o = .next t → Keeps m s t
theorem KeepsNext.next {m : Bool} {s u : State} (h : Keeps m s u) : KeepsNext m (.next u) s := by
  intro t e; injection e with e; exact e ▸ h
theorem KeepsNext.fault {m : Bool} {s : State} {r : Fault} : KeepsNext m (.fault r) s := by intro t e; cases e
theorem KeepsNext.ite {m : Bool} {s : State} {c : Prop} [Decidable c] {u v : Host.Outcome State Fault Refusal} (h : KeepsNext m u s) (g : KeepsNext m v s) :
    KeepsNext m (if c then u else v) s := by split <;> assumption

theorem keeps_chartCmd {m₀ : Bool} {s₀ : State} {c : Sys2Proof.Instr} : KeepsNext m₀ (chartCmd c s₀) s₀ := by
  have h₀ : Keeps m₀ s₀ s₀ := Keeps.refl s₀
  unfold chartCmd
  try extract_lets
  repeat' (first | with_reducible apply KeepsNext.next | with_reducible apply KeepsNext.fault | with_reducible apply KeepsNext.ite | with_reducible assumption | with_reducible apply keeps_writeCmd | (fail_if_no_progress (with_reducible apply Keeps.upd) <;> first | with_reducible rfl | with_reducible exact fun x => x | with_reducible exact fun _ => ⟨rfl, rfl, rfl, rfl⟩ | with_reducible exact fun x => absurd x Bool.false_ne_true | with_reducible exact KV.set_wf _ _ _ | with_reducible exact KV.put_wf _ _ | with_reducible exact KV.filter_wf _ | with_reducible exact List.prefix_rfl | with_reducible exact List.prefix_append _ _ | with_reducible exact KV.map_wf (fun _ => rfl) | with_reducible exact fun _ => KV.foldl_set_wf _ _ _ rfl | (simp; done) | skip) | with_reducible apply Keeps.ite | with_reducible apply Keeps.ite1 | (with_reducible apply Keeps.foldl; intro s₁ x₁; have h₁ : Keeps m₀ s₁ s₁ := Keeps.refl s₁; try dsimp +zetaDelta only) | (with_reducible apply Keeps.foldl1; intro s₁ x₁; have h₁ : Keeps m₀ s₁.1 s₁.1 := Keeps.refl s₁.1; try dsimp +zetaDelta only) | extract_lets | split | dsimp +zetaDelta only)

theorem keeps_linkReport {m₀ : Bool} {s₀ : State} {c : Sys2Proof.Instr} {w : Nat} : KeepsNext m₀ (linkReport c w s₀) s₀ := by
  have h₀ : Keeps m₀ s₀ s₀ := Keeps.refl s₀
  unfold linkReport
  try extract_lets
  repeat' (first | with_reducible apply KeepsNext.next | with_reducible apply KeepsNext.fault | with_reducible apply KeepsNext.ite | with_reducible assumption | with_reducible apply keeps_deferTo | with_reducible apply keeps_linkEvent | (fail_if_no_progress (with_reducible apply Keeps.upd) <;> first | with_reducible rfl | with_reducible exact fun x => x | with_reducible exact fun _ => ⟨rfl, rfl, rfl, rfl⟩ | with_reducible exact fun x => absurd x Bool.false_ne_true | with_reducible exact KV.set_wf _ _ _ | with_reducible exact KV.put_wf _ _ | with_reducible exact KV.filter_wf _ | with_reducible exact List.prefix_rfl | with_reducible exact List.prefix_append _ _ | with_reducible exact KV.map_wf (fun _ => rfl) | with_reducible exact fun _ => KV.foldl_set_wf _ _ _ rfl | (simp; done) | skip) | with_reducible apply Keeps.ite | with_reducible apply Keeps.ite1 | (with_reducible apply Keeps.foldl; intro s₁ x₁; have h₁ : Keeps m₀ s₁ s₁ := Keeps.refl s₁; try dsimp +zetaDelta only) | (with_reducible apply Keeps.foldl1; intro s₁ x₁; have h₁ : Keeps m₀ s₁.1 s₁.1 := Keeps.refl s₁.1; try dsimp +zetaDelta only) | extract_lets | split | dsimp +zetaDelta only)

theorem keeps_requestCmd {m₀ : Bool} {s₀ : State} {c : Sys2Proof.Instr} {w : Nat} {o : Sys2Proof.Machine.Opc} {q : Sys2Proof.Req} : KeepsNext m₀ (requestCmd c w o q s₀) s₀ := by
  have h₀ : Keeps m₀ s₀ s₀ := Keeps.refl s₀
  unfold requestCmd
  try extract_lets
  repeat' (first | with_reducible apply KeepsNext.next | with_reducible apply KeepsNext.fault | with_reducible apply KeepsNext.ite | with_reducible assumption | with_reducible apply keeps_request | (fail_if_no_progress (with_reducible apply Keeps.upd) <;> first | with_reducible rfl | with_reducible exact fun x => x | with_reducible exact fun _ => ⟨rfl, rfl, rfl, rfl⟩ | with_reducible exact fun x => absurd x Bool.false_ne_true | with_reducible exact KV.set_wf _ _ _ | with_reducible exact KV.put_wf _ _ | with_reducible exact KV.filter_wf _ | with_reducible exact List.prefix_rfl | with_reducible exact List.prefix_append _ _ | with_reducible exact KV.map_wf (fun _ => rfl) | with_reducible exact fun _ => KV.foldl_set_wf _ _ _ rfl | (simp; done) | skip) | with_reducible apply Keeps.ite | with_reducible apply Keeps.ite1 | (with_reducible apply Keeps.foldl; intro s₁ x₁; have h₁ : Keeps m₀ s₁ s₁ := Keeps.refl s₁; try dsimp +zetaDelta only) | (with_reducible apply Keeps.foldl1; intro s₁ x₁; have h₁ : Keeps m₀ s₁.1 s₁.1 := Keeps.refl s₁.1; try dsimp +zetaDelta only) | extract_lets | split | dsimp +zetaDelta only)

theorem keeps_response {m₀ : Bool} {s₀ : State} {w : Nat} {o : Sys2Proof.Machine.RspOpc} {r : Sys2Proof.Rsp} : KeepsNext m₀ (response w o r s₀) s₀ := by
  have h₀ : Keeps m₀ s₀ s₀ := Keeps.refl s₀
  unfold response
  try extract_lets
  repeat' (first | with_reducible apply KeepsNext.next | with_reducible apply KeepsNext.fault | with_reducible apply KeepsNext.ite | with_reducible assumption | with_reducible refine keeps_discardMsg_eq (by assumption) ?_ | with_reducible apply keeps_decideRsp | (fail_if_no_progress (with_reducible apply Keeps.upd) <;> first | with_reducible rfl | with_reducible exact fun x => x | with_reducible exact fun _ => ⟨rfl, rfl, rfl, rfl⟩ | with_reducible exact fun x => absurd x Bool.false_ne_true | with_reducible exact KV.set_wf _ _ _ | with_reducible exact KV.put_wf _ _ | with_reducible exact KV.filter_wf _ | with_reducible exact List.prefix_rfl | with_reducible exact List.prefix_append _ _ | with_reducible exact KV.map_wf (fun _ => rfl) | with_reducible exact fun _ => KV.foldl_set_wf _ _ _ rfl | (simp; done) | skip) | with_reducible apply Keeps.ite | with_reducible apply Keeps.ite1 | (with_reducible apply Keeps.foldl; intro s₁ x₁; have h₁ : Keeps m₀ s₁ s₁ := Keeps.refl s₁; try dsimp +zetaDelta only) | (with_reducible apply Keeps.foldl1; intro s₁ x₁; have h₁ : Keeps m₀ s₁.1 s₁.1 := Keeps.refl s₁.1; try dsimp +zetaDelta only) | extract_lets | split | dsimp +zetaDelta only)

theorem keeps_execAgentCfgWrite {m₀ : Bool} {s₀ : State} {n : Nat} {v : BitVec 32} : KeepsNext m₀ (execAgentCfgWrite n v s₀) s₀ := by
  have h₀ : Keeps m₀ s₀ s₀ := Keeps.refl s₀
  unfold execAgentCfgWrite
  try extract_lets
  repeat' (first | with_reducible apply KeepsNext.next | with_reducible apply KeepsNext.fault | with_reducible apply KeepsNext.ite | with_reducible assumption | with_reducible apply keeps_chartCmd | with_reducible apply keeps_chartCmd | (fail_if_no_progress (with_reducible apply Keeps.upd) <;> first | with_reducible rfl | with_reducible exact fun x => x | with_reducible exact fun _ => ⟨rfl, rfl, rfl, rfl⟩ | with_reducible exact fun x => absurd x Bool.false_ne_true | with_reducible exact KV.set_wf _ _ _ | with_reducible exact KV.put_wf _ _ | with_reducible exact KV.filter_wf _ | with_reducible exact List.prefix_rfl | with_reducible exact List.prefix_append _ _ | with_reducible exact KV.map_wf (fun _ => rfl) | with_reducible exact fun _ => KV.foldl_set_wf _ _ _ rfl | (simp; done) | skip) | with_reducible apply Keeps.ite | with_reducible apply Keeps.ite1 | (with_reducible apply Keeps.foldl; intro s₁ x₁; have h₁ : Keeps m₀ s₁ s₁ := Keeps.refl s₁; try dsimp +zetaDelta only) | (with_reducible apply Keeps.foldl1; intro s₁ x₁; have h₁ : Keeps m₀ s₁.1 s₁.1 := Keeps.refl s₁.1; try dsimp +zetaDelta only) | extract_lets | split | dsimp +zetaDelta only)

theorem keeps_execAgentJoined {m₀ : Bool} {s₀ : State} {n : Nat} : KeepsNext m₀ (execAgentJoined n s₀) s₀ := by
  have h₀ : Keeps m₀ s₀ s₀ := Keeps.refl s₀
  unfold execAgentJoined
  try extract_lets
  repeat' (first | with_reducible apply KeepsNext.next | with_reducible apply KeepsNext.fault | with_reducible apply KeepsNext.ite | with_reducible assumption | with_reducible apply keeps_finishJoin | with_reducible apply keeps_joinProgress | (fail_if_no_progress (with_reducible apply Keeps.upd) <;> first | with_reducible rfl | with_reducible exact fun x => x | with_reducible exact fun _ => ⟨rfl, rfl, rfl, rfl⟩ | with_reducible exact fun x => absurd x Bool.false_ne_true | with_reducible exact KV.set_wf _ _ _ | with_reducible exact KV.put_wf _ _ | with_reducible exact KV.filter_wf _ | with_reducible exact List.prefix_rfl | with_reducible exact List.prefix_append _ _ | with_reducible exact KV.map_wf (fun _ => rfl) | with_reducible exact fun _ => KV.foldl_set_wf _ _ _ rfl | (simp; done) | skip) | with_reducible apply Keeps.ite | with_reducible apply Keeps.ite1 | (with_reducible apply Keeps.foldl; intro s₁ x₁; have h₁ : Keeps m₀ s₁ s₁ := Keeps.refl s₁; try dsimp +zetaDelta only) | (with_reducible apply Keeps.foldl1; intro s₁ x₁; have h₁ : Keeps m₀ s₁.1 s₁.1 := Keeps.refl s₁.1; try dsimp +zetaDelta only) | extract_lets | split | dsimp +zetaDelta only)

theorem keeps_execAgentLeft {m₀ : Bool} {s₀ : State} {n : Nat} : KeepsNext m₀ (execAgentLeft n s₀) s₀ := by
  have h₀ : Keeps m₀ s₀ s₀ := Keeps.refl s₀
  unfold execAgentLeft
  try extract_lets
  repeat' (first | with_reducible apply KeepsNext.next | with_reducible apply KeepsNext.fault | with_reducible apply KeepsNext.ite | with_reducible assumption | with_reducible apply keeps_finishLeave | (fail_if_no_progress (with_reducible apply Keeps.upd) <;> first | with_reducible rfl | with_reducible exact fun x => x | with_reducible exact fun _ => ⟨rfl, rfl, rfl, rfl⟩ | with_reducible exact fun x => absurd x Bool.false_ne_true | with_reducible exact KV.set_wf _ _ _ | with_reducible exact KV.put_wf _ _ | with_reducible exact KV.filter_wf _ | with_reducible exact List.prefix_rfl | with_reducible exact List.prefix_append _ _ | with_reducible exact KV.map_wf (fun _ => rfl) | with_reducible exact fun _ => KV.foldl_set_wf _ _ _ rfl | (simp; done) | skip) | with_reducible apply Keeps.ite | with_reducible apply Keeps.ite1 | (with_reducible apply Keeps.foldl; intro s₁ x₁; have h₁ : Keeps m₀ s₁ s₁ := Keeps.refl s₁; try dsimp +zetaDelta only) | (with_reducible apply Keeps.foldl1; intro s₁ x₁; have h₁ : Keeps m₀ s₁.1 s₁.1 := Keeps.refl s₁.1; try dsimp +zetaDelta only) | extract_lets | split | dsimp +zetaDelta only)

theorem keeps_execAgentRelease {m₀ : Bool} {s₀ : State} {n : Nat} : KeepsNext m₀ (execAgentRelease n s₀) s₀ := by
  have h₀ : Keeps m₀ s₀ s₀ := Keeps.refl s₀
  unfold execAgentRelease
  try extract_lets
  repeat' (first | with_reducible apply KeepsNext.next | with_reducible apply KeepsNext.fault | with_reducible apply KeepsNext.ite | with_reducible assumption | with_reducible apply keeps_chartCmd | with_reducible apply keeps_chartCmd | (fail_if_no_progress (with_reducible apply Keeps.upd) <;> first | with_reducible rfl | with_reducible exact fun x => x | with_reducible exact fun _ => ⟨rfl, rfl, rfl, rfl⟩ | with_reducible exact fun x => absurd x Bool.false_ne_true | with_reducible exact KV.set_wf _ _ _ | with_reducible exact KV.put_wf _ _ | with_reducible exact KV.filter_wf _ | with_reducible exact List.prefix_rfl | with_reducible exact List.prefix_append _ _ | with_reducible exact KV.map_wf (fun _ => rfl) | with_reducible exact fun _ => KV.foldl_set_wf _ _ _ rfl | (simp; done) | skip) | with_reducible apply Keeps.ite | with_reducible apply Keeps.ite1 | (with_reducible apply Keeps.foldl; intro s₁ x₁; have h₁ : Keeps m₀ s₁ s₁ := Keeps.refl s₁; try dsimp +zetaDelta only) | (with_reducible apply Keeps.foldl1; intro s₁ x₁; have h₁ : Keeps m₀ s₁.1 s₁.1 := Keeps.refl s₁.1; try dsimp +zetaDelta only) | extract_lets | split | dsimp +zetaDelta only)

theorem keeps_execAgentReset {m₀ : Bool} {s₀ : State} {w : Nat} {a : Sys2Proof.Aid} : KeepsNext m₀ (execAgentReset w a s₀) s₀ := by
  have h₀ : Keeps m₀ s₀ s₀ := Keeps.refl s₀
  unfold execAgentReset
  try extract_lets
  repeat' (first | with_reducible apply KeepsNext.next | with_reducible apply KeepsNext.fault | with_reducible apply KeepsNext.ite | with_reducible assumption | with_reducible apply keeps_linkReport | with_reducible apply keeps_linkReport | (fail_if_no_progress (with_reducible apply Keeps.upd) <;> first | with_reducible rfl | with_reducible exact fun x => x | with_reducible exact fun _ => ⟨rfl, rfl, rfl, rfl⟩ | with_reducible exact fun x => absurd x Bool.false_ne_true | with_reducible exact KV.set_wf _ _ _ | with_reducible exact KV.put_wf _ _ | with_reducible exact KV.filter_wf _ | with_reducible exact List.prefix_rfl | with_reducible exact List.prefix_append _ _ | with_reducible exact KV.map_wf (fun _ => rfl) | with_reducible exact fun _ => KV.foldl_set_wf _ _ _ rfl | (simp; done) | skip) | with_reducible apply Keeps.ite | with_reducible apply Keeps.ite1 | (with_reducible apply Keeps.foldl; intro s₁ x₁; have h₁ : Keeps m₀ s₁ s₁ := Keeps.refl s₁; try dsimp +zetaDelta only) | (with_reducible apply Keeps.foldl1; intro s₁ x₁; have h₁ : Keeps m₀ s₁.1 s₁.1 := Keeps.refl s₁.1; try dsimp +zetaDelta only) | extract_lets | split | dsimp +zetaDelta only)

theorem keeps_execAlarmWindow {m₀ : Bool} {s₀ : State}  : KeepsNext m₀ (execAlarmWindow s₀) s₀ := by
  have h₀ : Keeps m₀ s₀ s₀ := Keeps.refl s₀
  unfold execAlarmWindow
  try extract_lets
  repeat' (first | with_reducible apply KeepsNext.next | with_reducible apply KeepsNext.fault | with_reducible apply KeepsNext.ite | with_reducible assumption | with_reducible apply keeps_alarmPeriod | (fail_if_no_progress (with_reducible apply Keeps.upd) <;> first | with_reducible rfl | with_reducible exact fun x => x | with_reducible exact fun _ => ⟨rfl, rfl, rfl, rfl⟩ | with_reducible exact fun x => absurd x Bool.false_ne_true | with_reducible exact KV.set_wf _ _ _ | with_reducible exact KV.put_wf _ _ | with_reducible exact KV.filter_wf _ | with_reducible exact List.prefix_rfl | with_reducible exact List.prefix_append _ _ | with_reducible exact KV.map_wf (fun _ => rfl) | with_reducible exact fun _ => KV.foldl_set_wf _ _ _ rfl | (simp; done) | skip) | with_reducible apply Keeps.ite | with_reducible apply Keeps.ite1 | (with_reducible apply Keeps.foldl; intro s₁ x₁; have h₁ : Keeps m₀ s₁ s₁ := Keeps.refl s₁; try dsimp +zetaDelta only) | (with_reducible apply Keeps.foldl1; intro s₁ x₁; have h₁ : Keeps m₀ s₁.1 s₁.1 := Keeps.refl s₁.1; try dsimp +zetaDelta only) | extract_lets | split | dsimp +zetaDelta only)

theorem keeps_execAssayBaseline {m₀ : Bool} {s₀ : State} {m : Sys2Proof.Measure} {mhz : Nat} {acked : Bool} : KeepsNext m₀ (execAssayBaseline m mhz acked s₀) s₀ := by
  have h₀ : Keeps m₀ s₀ s₀ := Keeps.refl s₀
  unfold execAssayBaseline
  try extract_lets
  repeat' (first | with_reducible apply KeepsNext.next | with_reducible apply KeepsNext.fault | with_reducible apply KeepsNext.ite | with_reducible assumption | with_reducible apply keeps_baseline | (fail_if_no_progress (with_reducible apply Keeps.upd) <;> first | with_reducible rfl | with_reducible exact fun x => x | with_reducible exact fun _ => ⟨rfl, rfl, rfl, rfl⟩ | with_reducible exact fun x => absurd x Bool.false_ne_true | with_reducible exact KV.set_wf _ _ _ | with_reducible exact KV.put_wf _ _ | with_reducible exact KV.filter_wf _ | with_reducible exact List.prefix_rfl | with_reducible exact List.prefix_append _ _ | with_reducible exact KV.map_wf (fun _ => rfl) | with_reducible exact fun _ => KV.foldl_set_wf _ _ _ rfl | (simp; done) | skip) | with_reducible apply Keeps.ite | with_reducible apply Keeps.ite1 | (with_reducible apply Keeps.foldl; intro s₁ x₁; have h₁ : Keeps m₀ s₁ s₁ := Keeps.refl s₁; try dsimp +zetaDelta only) | (with_reducible apply Keeps.foldl1; intro s₁ x₁; have h₁ : Keeps m₀ s₁.1 s₁.1 := Keeps.refl s₁.1; try dsimp +zetaDelta only) | extract_lets | split | dsimp +zetaDelta only)

theorem keeps_execBankArbitration {m₀ : Bool} {s₀ : State} {t : Nat} {bank : Nat} {dt : Nat} {raised : BitVec 4} {lockStart : Bool} {lockEnd : Bool} : KeepsNext m₀ (execBankArbitration t bank dt raised lockStart lockEnd s₀) s₀ := by
  have h₀ : Keeps m₀ s₀ s₀ := Keeps.refl s₀
  unfold execBankArbitration
  try extract_lets
  repeat' (first | with_reducible apply KeepsNext.next | with_reducible apply KeepsNext.fault | with_reducible apply KeepsNext.ite | with_reducible assumption | with_reducible apply keeps_advance | with_reducible apply keeps_arbitrate | (fail_if_no_progress (with_reducible apply Keeps.upd) <;> first | with_reducible rfl | with_reducible exact fun x => x | with_reducible exact fun _ => ⟨rfl, rfl, rfl, rfl⟩ | with_reducible exact fun x => absurd x Bool.false_ne_true | with_reducible exact KV.set_wf _ _ _ | with_reducible exact KV.put_wf _ _ | with_reducible exact KV.filter_wf _ | with_reducible exact List.prefix_rfl | with_reducible exact List.prefix_append _ _ | with_reducible exact KV.map_wf (fun _ => rfl) | with_reducible exact fun _ => KV.foldl_set_wf _ _ _ rfl | (simp; done) | skip) | with_reducible apply Keeps.ite | with_reducible apply Keeps.ite1 | (with_reducible apply Keeps.foldl; intro s₁ x₁; have h₁ : Keeps m₀ s₁ s₁ := Keeps.refl s₁; try dsimp +zetaDelta only) | (with_reducible apply Keeps.foldl1; intro s₁ x₁; have h₁ : Keeps m₀ s₁.1 s₁.1 := Keeps.refl s₁.1; try dsimp +zetaDelta only) | extract_lets | split | dsimp +zetaDelta only)

theorem keeps_execBankWatchdog {m₀ : Bool} {s₀ : State} {t : Nat} {bank : Nat} : KeepsNext m₀ (execBankWatchdog t bank s₀) s₀ := by
  have h₀ : Keeps m₀ s₀ s₀ := Keeps.refl s₀
  unfold execBankWatchdog
  try extract_lets
  repeat' (first | with_reducible apply KeepsNext.next | with_reducible apply KeepsNext.fault | with_reducible apply KeepsNext.ite | with_reducible assumption | with_reducible apply keeps_State_modTill | with_reducible apply keeps_State_note | with_reducible apply keeps_State_setRawN | (fail_if_no_progress (with_reducible apply Keeps.upd) <;> first | with_reducible rfl | with_reducible exact fun x => x | with_reducible exact fun _ => ⟨rfl, rfl, rfl, rfl⟩ | with_reducible exact fun x => absurd x Bool.false_ne_true | with_reducible exact KV.set_wf _ _ _ | with_reducible exact KV.put_wf _ _ | with_reducible exact KV.filter_wf _ | with_reducible exact List.prefix_rfl | with_reducible exact List.prefix_append _ _ | with_reducible exact KV.map_wf (fun _ => rfl) | with_reducible exact fun _ => KV.foldl_set_wf _ _ _ rfl | (simp; done) | skip) | with_reducible apply Keeps.ite | with_reducible apply Keeps.ite1 | (with_reducible apply Keeps.foldl; intro s₁ x₁; have h₁ : Keeps m₀ s₁ s₁ := Keeps.refl s₁; try dsimp +zetaDelta only) | (with_reducible apply Keeps.foldl1; intro s₁ x₁; have h₁ : Keeps m₀ s₁.1 s₁.1 := Keeps.refl s₁.1; try dsimp +zetaDelta only) | extract_lets | split | dsimp +zetaDelta only)

theorem keeps_execBucketMapCommit {m₀ : Bool} {s₀ : State} {v : BitVec 8} : KeepsNext m₀ (execBucketMapCommit v s₀) s₀ := by
  have h₀ : Keeps m₀ s₀ s₀ := Keeps.refl s₀
  unfold execBucketMapCommit
  try extract_lets
  repeat' (first | with_reducible apply KeepsNext.next | with_reducible apply KeepsNext.fault | with_reducible apply KeepsNext.ite | with_reducible assumption | with_reducible apply keeps_chartCmd | with_reducible apply keeps_chartCmd | (fail_if_no_progress (with_reducible apply Keeps.upd) <;> first | with_reducible rfl | with_reducible exact fun x => x | with_reducible exact fun _ => ⟨rfl, rfl, rfl, rfl⟩ | with_reducible exact fun x => absurd x Bool.false_ne_true | with_reducible exact KV.set_wf _ _ _ | with_reducible exact KV.put_wf _ _ | with_reducible exact KV.filter_wf _ | with_reducible exact List.prefix_rfl | with_reducible exact List.prefix_append _ _ | with_reducible exact KV.map_wf (fun _ => rfl) | with_reducible exact fun _ => KV.foldl_set_wf _ _ _ rfl | (simp; done) | skip) | with_reducible apply Keeps.ite | with_reducible apply Keeps.ite1 | (with_reducible apply Keeps.foldl; intro s₁ x₁; have h₁ : Keeps m₀ s₁ s₁ := Keeps.refl s₁; try dsimp +zetaDelta only) | (with_reducible apply Keeps.foldl1; intro s₁ x₁; have h₁ : Keeps m₀ s₁.1 s₁.1 := Keeps.refl s₁.1; try dsimp +zetaDelta only) | extract_lets | split | dsimp +zetaDelta only)

theorem keeps_execBucketMapSwitch {m₀ : Bool} {s₀ : State} {n : Nat} : KeepsNext m₀ (execBucketMapSwitch n s₀) s₀ := by
  have h₀ : Keeps m₀ s₀ s₀ := Keeps.refl s₀
  unfold execBucketMapSwitch
  try extract_lets
  repeat' (first | with_reducible apply KeepsNext.next | with_reducible apply KeepsNext.fault | with_reducible apply KeepsNext.ite | with_reducible assumption | with_reducible apply keeps_mapSwitch | (fail_if_no_progress (with_reducible apply Keeps.upd) <;> first | with_reducible rfl | with_reducible exact fun x => x | with_reducible exact fun _ => ⟨rfl, rfl, rfl, rfl⟩ | with_reducible exact fun x => absurd x Bool.false_ne_true | with_reducible exact KV.set_wf _ _ _ | with_reducible exact KV.put_wf _ _ | with_reducible exact KV.filter_wf _ | with_reducible exact List.prefix_rfl | with_reducible exact List.prefix_append _ _ | with_reducible exact KV.map_wf (fun _ => rfl) | with_reducible exact fun _ => KV.foldl_set_wf _ _ _ rfl | (simp; done) | skip) | with_reducible apply Keeps.ite | with_reducible apply Keeps.ite1 | (with_reducible apply Keeps.foldl; intro s₁ x₁; have h₁ : Keeps m₀ s₁ s₁ := Keeps.refl s₁; try dsimp +zetaDelta only) | (with_reducible apply Keeps.foldl1; intro s₁ x₁; have h₁ : Keeps m₀ s₁.1 s₁.1 := Keeps.refl s₁.1; try dsimp +zetaDelta only) | extract_lets | split | dsimp +zetaDelta only)

theorem keeps_execCellarClearingDone {m₀ : Bool} {s₀ : State}  : KeepsNext m₀ (execCellarClearingDone s₀) s₀ := by
  have h₀ : Keeps m₀ s₀ s₀ := Keeps.refl s₀
  unfold execCellarClearingDone
  try extract_lets
  repeat' (first | with_reducible apply KeepsNext.next | with_reducible apply KeepsNext.fault | with_reducible apply KeepsNext.ite | with_reducible assumption | with_reducible apply keeps_State_send | with_reducible apply keeps_writeHeader | (fail_if_no_progress (with_reducible apply Keeps.upd) <;> first | with_reducible rfl | with_reducible exact fun x => x | with_reducible exact fun _ => ⟨rfl, rfl, rfl, rfl⟩ | with_reducible exact fun x => absurd x Bool.false_ne_true | with_reducible exact KV.set_wf _ _ _ | with_reducible exact KV.put_wf _ _ | with_reducible exact KV.filter_wf _ | with_reducible exact List.prefix_rfl | with_reducible exact List.prefix_append _ _ | with_reducible exact KV.map_wf (fun _ => rfl) | with_reducible exact fun _ => KV.foldl_set_wf _ _ _ rfl | (simp; done) | skip) | with_reducible apply Keeps.ite | with_reducible apply Keeps.ite1 | (with_reducible apply Keeps.foldl; intro s₁ x₁; have h₁ : Keeps m₀ s₁ s₁ := Keeps.refl s₁; try dsimp +zetaDelta only) | (with_reducible apply Keeps.foldl1; intro s₁ x₁; have h₁ : Keeps m₀ s₁.1 s₁.1 := Keeps.refl s₁.1; try dsimp +zetaDelta only) | extract_lets | split | dsimp +zetaDelta only)

theorem keeps_execCellarEnable {m₀ : Bool} {s₀ : State} {header : Sys2Proof.LineData} : KeepsNext m₀ (execCellarEnable header s₀) s₀ := by
  have h₀ : Keeps m₀ s₀ s₀ := Keeps.refl s₀
  unfold execCellarEnable
  try extract_lets
  repeat' (first | with_reducible apply KeepsNext.next | with_reducible apply KeepsNext.fault | with_reducible apply KeepsNext.ite | with_reducible assumption | with_reducible apply keeps_chartCmd | with_reducible apply keeps_chartCmd | (fail_if_no_progress (with_reducible apply Keeps.upd) <;> first | with_reducible rfl | with_reducible exact fun x => x | with_reducible exact fun _ => ⟨rfl, rfl, rfl, rfl⟩ | with_reducible exact fun x => absurd x Bool.false_ne_true | with_reducible exact KV.set_wf _ _ _ | with_reducible exact KV.put_wf _ _ | with_reducible exact KV.filter_wf _ | with_reducible exact List.prefix_rfl | with_reducible exact List.prefix_append _ _ | with_reducible exact KV.map_wf (fun _ => rfl) | with_reducible exact fun _ => KV.foldl_set_wf _ _ _ rfl | (simp; done) | skip) | with_reducible apply Keeps.ite | with_reducible apply Keeps.ite1 | (with_reducible apply Keeps.foldl; intro s₁ x₁; have h₁ : Keeps m₀ s₁ s₁ := Keeps.refl s₁; try dsimp +zetaDelta only) | (with_reducible apply Keeps.foldl1; intro s₁ x₁; have h₁ : Keeps m₀ s₁.1 s₁.1 := Keeps.refl s₁.1; try dsimp +zetaDelta only) | extract_lets | split | dsimp +zetaDelta only)

theorem keeps_execCellarVisit {m₀ : Bool} {s₀ : State} {t : Nat} {p : Nat} {g : Nat} : KeepsNext m₀ (execCellarVisit t p g s₀) s₀ := by
  have h₀ : Keeps m₀ s₀ s₀ := Keeps.refl s₀
  unfold execCellarVisit
  try extract_lets
  repeat' (first | with_reducible apply KeepsNext.next | with_reducible apply KeepsNext.fault | with_reducible apply KeepsNext.ite | with_reducible assumption | with_reducible apply keeps_cellarVisit | with_reducible apply keeps_settleFails | (fail_if_no_progress (with_reducible apply Keeps.upd) <;> first | with_reducible rfl | with_reducible exact fun x => x | with_reducible exact fun _ => ⟨rfl, rfl, rfl, rfl⟩ | with_reducible exact fun x => absurd x Bool.false_ne_true | with_reducible exact KV.set_wf _ _ _ | with_reducible exact KV.put_wf _ _ | with_reducible exact KV.filter_wf _ | with_reducible exact List.prefix_rfl | with_reducible exact List.prefix_append _ _ | with_reducible exact KV.map_wf (fun _ => rfl) | with_reducible exact fun _ => KV.foldl_set_wf _ _ _ rfl | (simp; done) | skip) | with_reducible apply Keeps.ite | with_reducible apply Keeps.ite1 | (with_reducible apply Keeps.foldl; intro s₁ x₁; have h₁ : Keeps m₀ s₁ s₁ := Keeps.refl s₁; try dsimp +zetaDelta only) | (with_reducible apply Keeps.foldl1; intro s₁ x₁; have h₁ : Keeps m₀ s₁.1 s₁.1 := Keeps.refl s₁.1; try dsimp +zetaDelta only) | extract_lets | split | dsimp +zetaDelta only)

theorem keeps_execChainedNotice {m₀ : Bool} {s₀ : State} {w : Nat} {t : Nat} : KeepsNext m₀ (execChainedNotice w t s₀) s₀ := by
  have h₀ : Keeps m₀ s₀ s₀ := Keeps.refl s₀
  unfold execChainedNotice
  try extract_lets
  repeat' (first | with_reducible apply KeepsNext.next | with_reducible apply KeepsNext.fault | with_reducible apply KeepsNext.ite | with_reducible assumption | with_reducible apply keeps_State_popP | with_reducible apply keeps_wbAnswered | (fail_if_no_progress (with_reducible apply Keeps.upd) <;> first | with_reducible rfl | with_reducible exact fun x => x | with_reducible exact fun _ => ⟨rfl, rfl, rfl, rfl⟩ | with_reducible exact fun x => absurd x Bool.false_ne_true | with_reducible exact KV.set_wf _ _ _ | with_reducible exact KV.put_wf _ _ | with_reducible exact KV.filter_wf _ | with_reducible exact List.prefix_rfl | with_reducible exact List.prefix_append _ _ | with_reducible exact KV.map_wf (fun _ => rfl) | with_reducible exact fun _ => KV.foldl_set_wf _ _ _ rfl | (simp; done) | skip) | with_reducible apply Keeps.ite | with_reducible apply Keeps.ite1 | (with_reducible apply Keeps.foldl; intro s₁ x₁; have h₁ : Keeps m₀ s₁ s₁ := Keeps.refl s₁; try dsimp +zetaDelta only) | (with_reducible apply Keeps.foldl1; intro s₁ x₁; have h₁ : Keeps m₀ s₁.1 s₁.1 := Keeps.refl s₁.1; try dsimp +zetaDelta only) | extract_lets | split | dsimp +zetaDelta only)

theorem keeps_execChartWrite {m₀ : Bool} {s₀ : State} {off : BitVec 27} {size : Nat} {v : Sys2Proof.Word} : KeepsNext m₀ (execChartWrite off size v s₀) s₀ := by
  have h₀ : Keeps m₀ s₀ s₀ := Keeps.refl s₀
  unfold execChartWrite
  try extract_lets
  repeat' (first | with_reducible apply KeepsNext.next | with_reducible apply KeepsNext.fault | with_reducible apply KeepsNext.ite | with_reducible assumption | with_reducible apply keeps_chartCmd | with_reducible apply keeps_chartCmd | (fail_if_no_progress (with_reducible apply Keeps.upd) <;> first | with_reducible rfl | with_reducible exact fun x => x | with_reducible exact fun _ => ⟨rfl, rfl, rfl, rfl⟩ | with_reducible exact fun x => absurd x Bool.false_ne_true | with_reducible exact KV.set_wf _ _ _ | with_reducible exact KV.put_wf _ _ | with_reducible exact KV.filter_wf _ | with_reducible exact List.prefix_rfl | with_reducible exact List.prefix_append _ _ | with_reducible exact KV.map_wf (fun _ => rfl) | with_reducible exact fun _ => KV.foldl_set_wf _ _ _ rfl | (simp; done) | skip) | with_reducible apply Keeps.ite | with_reducible apply Keeps.ite1 | (with_reducible apply Keeps.foldl; intro s₁ x₁; have h₁ : Keeps m₀ s₁ s₁ := Keeps.refl s₁; try dsimp +zetaDelta only) | (with_reducible apply Keeps.foldl1; intro s₁ x₁; have h₁ : Keeps m₀ s₁.1 s₁.1 := Keeps.refl s₁.1; try dsimp +zetaDelta only) | extract_lets | split | dsimp +zetaDelta only)

theorem keeps_execClaimReleaseDone {m₀ : Bool} {s₀ : State} {t : Nat} {page : BitVec 32} : KeepsNext m₀ (execClaimReleaseDone t page s₀) s₀ := by
  have h₀ : Keeps m₀ s₀ s₀ := Keeps.refl s₀
  unfold execClaimReleaseDone
  try extract_lets
  repeat' (first | with_reducible apply KeepsNext.next | with_reducible apply KeepsNext.fault | with_reducible apply KeepsNext.ite | with_reducible assumption | with_reducible apply keeps_releaseDone | with_reducible apply keeps_worked | (fail_if_no_progress (with_reducible apply Keeps.upd) <;> first | with_reducible rfl | with_reducible exact fun x => x | with_reducible exact fun _ => ⟨rfl, rfl, rfl, rfl⟩ | with_reducible exact fun x => absurd x Bool.false_ne_true | with_reducible exact KV.set_wf _ _ _ | with_reducible exact KV.put_wf _ _ | with_reducible exact KV.filter_wf _ | with_reducible exact List.prefix_rfl | with_reducible exact List.prefix_append _ _ | with_reducible exact KV.map_wf (fun _ => rfl) | with_reducible exact fun _ => KV.foldl_set_wf _ _ _ rfl | (simp; done) | skip) | with_reducible apply Keeps.ite | with_reducible apply Keeps.ite1 | (with_reducible apply Keeps.foldl; intro s₁ x₁; have h₁ : Keeps m₀ s₁ s₁ := Keeps.refl s₁; try dsimp +zetaDelta only) | (with_reducible apply Keeps.foldl1; intro s₁ x₁; have h₁ : Keeps m₀ s₁.1 s₁.1 := Keeps.refl s₁.1; try dsimp +zetaDelta only) | extract_lets | split | dsimp +zetaDelta only)

theorem keeps_execClaimS {m₀ : Bool} {s₀ : State} {w : Nat} {q : Sys2Proof.Req} : KeepsNext m₀ (execClaimS w q s₀) s₀ := by
  have h₀ : Keeps m₀ s₀ s₀ := Keeps.refl s₀
  unfold execClaimS
  try extract_lets
  repeat' (first | with_reducible apply KeepsNext.next | with_reducible apply KeepsNext.fault | with_reducible apply KeepsNext.ite | with_reducible assumption | with_reducible apply keeps_requestCmd | with_reducible apply keeps_requestCmd | (fail_if_no_progress (with_reducible apply Keeps.upd) <;> first | with_reducible rfl | with_reducible exact fun x => x | with_reducible exact fun _ => ⟨rfl, rfl, rfl, rfl⟩ | with_reducible exact fun x => absurd x Bool.false_ne_true | with_reducible exact KV.set_wf _ _ _ | with_reducible exact KV.put_wf _ _ | with_reducible exact KV.filter_wf _ | with_reducible exact List.prefix_rfl | with_reducible exact List.prefix_append _ _ | with_reducible exact KV.map_wf (fun _ => rfl) | with_reducible exact fun _ => KV.foldl_set_wf _ _ _ rfl | (simp; done) | skip) | with_reducible apply Keeps.ite | with_reducible apply Keeps.ite1 | (with_reducible apply Keeps.foldl; intro s₁ x₁; have h₁ : Keeps m₀ s₁ s₁ := Keeps.refl s₁; try dsimp +zetaDelta only) | (with_reducible apply Keeps.foldl1; intro s₁ x₁; have h₁ : Keeps m₀ s₁.1 s₁.1 := Keeps.refl s₁.1; try dsimp +zetaDelta only) | extract_lets | split | dsimp +zetaDelta only)

theorem keeps_execClaimX {m₀ : Bool} {s₀ : State} {w : Nat} {q : Sys2Proof.Req} : KeepsNext m₀ (execClaimX w q s₀) s₀ := by
  have h₀ : Keeps m₀ s₀ s₀ := Keeps.refl s₀
  unfold execClaimX
  try extract_lets
  repeat' (first | with_reducible apply KeepsNext.next | with_reducible apply KeepsNext.fault | with_reducible apply KeepsNext.ite | with_reducible assumption | with_reducible apply keeps_requestCmd | with_reducible apply keeps_requestCmd | (fail_if_no_progress (with_reducible apply Keeps.upd) <;> first | with_reducible rfl | with_reducible exact fun x => x | with_reducible exact fun _ => ⟨rfl, rfl, rfl, rfl⟩ | with_reducible exact fun x => absurd x Bool.false_ne_true | with_reducible exact KV.set_wf _ _ _ | with_reducible exact KV.put_wf _ _ | with_reducible exact KV.filter_wf _ | with_reducible exact List.prefix_rfl | with_reducible exact List.prefix_append _ _ | with_reducible exact KV.map_wf (fun _ => rfl) | with_reducible exact fun _ => KV.foldl_set_wf _ _ _ rfl | (simp; done) | skip) | with_reducible apply Keeps.ite | with_reducible apply Keeps.ite1 | (with_reducible apply Keeps.foldl; intro s₁ x₁; have h₁ : Keeps m₀ s₁ s₁ := Keeps.refl s₁; try dsimp +zetaDelta only) | (with_reducible apply Keeps.foldl1; intro s₁ x₁; have h₁ : Keeps m₀ s₁.1 s₁.1 := Keeps.refl s₁.1; try dsimp +zetaDelta only) | extract_lets | split | dsimp +zetaDelta only)

theorem keeps_execClose {m₀ : Bool} {s₀ : State} {h : Sys2Proof.Teller} : KeepsNext m₀ (execClose h s₀) s₀ := by
  have h₀ : Keeps m₀ s₀ s₀ := Keeps.refl s₀
  unfold execClose
  try extract_lets
  repeat' (first | with_reducible apply KeepsNext.next | with_reducible apply KeepsNext.fault | with_reducible apply KeepsNext.ite | with_reducible assumption | with_reducible apply keeps_teller | (fail_if_no_progress (with_reducible apply Keeps.upd) <;> first | with_reducible rfl | with_reducible exact fun x => x | with_reducible exact fun _ => ⟨rfl, rfl, rfl, rfl⟩ | with_reducible exact fun x => absurd x Bool.false_ne_true | with_reducible exact KV.set_wf _ _ _ | with_reducible exact KV.put_wf _ _ | with_reducible exact KV.filter_wf _ | with_reducible exact List.prefix_rfl | with_reducible exact List.prefix_append _ _ | with_reducible exact KV.map_wf (fun _ => rfl) | with_reducible exact fun _ => KV.foldl_set_wf _ _ _ rfl | (simp; done) | skip) | with_reducible apply Keeps.ite | with_reducible apply Keeps.ite1 | (with_reducible apply Keeps.foldl; intro s₁ x₁; have h₁ : Keeps m₀ s₁ s₁ := Keeps.refl s₁; try dsimp +zetaDelta only) | (with_reducible apply Keeps.foldl1; intro s₁ x₁; have h₁ : Keeps m₀ s₁.1 s₁.1 := Keeps.refl s₁.1; try dsimp +zetaDelta only) | extract_lets | split | dsimp +zetaDelta only)

theorem keeps_execCompletionDelivery {m₀ : Bool} {s₀ : State} {w : Nat} {t : Nat} {dataPlane : Bool} : KeepsNext m₀ (execCompletionDelivery w t dataPlane s₀) s₀ := by
  have h₀ : Keeps m₀ s₀ s₀ := Keeps.refl s₀
  unfold execCompletionDelivery
  try extract_lets
  repeat' (first | with_reducible apply KeepsNext.next | with_reducible apply KeepsNext.fault | with_reducible apply KeepsNext.ite | with_reducible assumption | with_reducible apply keeps_State_popP | with_reducible apply keeps_cmpArrives | with_reducible apply keeps_dataArrives | (fail_if_no_progress (with_reducible apply Keeps.upd) <;> first | with_reducible rfl | with_reducible exact fun x => x | with_reducible exact fun _ => ⟨rfl, rfl, rfl, rfl⟩ | with_reducible exact fun x => absurd x Bool.false_ne_true | with_reducible exact KV.set_wf _ _ _ | with_reducible exact KV.put_wf _ _ | with_reducible exact KV.filter_wf _ | with_reducible exact List.prefix_rfl | with_reducible exact List.prefix_append _ _ | with_reducible exact KV.map_wf (fun _ => rfl) | with_reducible exact fun _ => KV.foldl_set_wf _ _ _ rfl | (simp; done) | skip) | with_reducible apply Keeps.ite | with_reducible apply Keeps.ite1 | (with_reducible apply Keeps.foldl; intro s₁ x₁; have h₁ : Keeps m₀ s₁ s₁ := Keeps.refl s₁; try dsimp +zetaDelta only) | (with_reducible apply Keeps.foldl1; intro s₁ x₁; have h₁ : Keeps m₀ s₁.1 s₁.1 := Keeps.refl s₁.1; try dsimp +zetaDelta only) | extract_lets | split | dsimp +zetaDelta only)

theorem keeps_execConflict {m₀ : Bool} {s₀ : State} {w : Nat} {q : Sys2Proof.Req} : KeepsNext m₀ (execConflict w q s₀) s₀ := by
  have h₀ : Keeps m₀ s₀ s₀ := Keeps.refl s₀
  unfold execConflict
  try extract_lets
  repeat' (first | with_reducible apply KeepsNext.next | with_reducible apply KeepsNext.fault | with_reducible apply KeepsNext.ite | with_reducible assumption | with_reducible apply keeps_requestCmd | with_reducible apply keeps_requestCmd | (fail_if_no_progress (with_reducible apply Keeps.upd) <;> first | with_reducible rfl | with_reducible exact fun x => x | with_reducible exact fun _ => ⟨rfl, rfl, rfl, rfl⟩ | with_reducible exact fun x => absurd x Bool.false_ne_true | with_reducible exact KV.set_wf _ _ _ | with_reducible exact KV.put_wf _ _ | with_reducible exact KV.filter_wf _ | with_reducible exact List.prefix_rfl | with_reducible exact List.prefix_append _ _ | with_reducible exact KV.map_wf (fun _ => rfl) | with_reducible exact fun _ => KV.foldl_set_wf _ _ _ rfl | (simp; done) | skip) | with_reducible apply Keeps.ite | with_reducible apply Keeps.ite1 | (with_reducible apply Keeps.foldl; intro s₁ x₁; have h₁ : Keeps m₀ s₁ s₁ := Keeps.refl s₁; try dsimp +zetaDelta only) | (with_reducible apply Keeps.foldl1; intro s₁ x₁; have h₁ : Keeps m₀ s₁.1 s₁.1 := Keeps.refl s₁.1; try dsimp +zetaDelta only) | extract_lets | split | dsimp +zetaDelta only)

theorem keeps_execCopyEnd {m₀ : Bool} {s₀ : State} {t : Nat} : KeepsNext m₀ (execCopyEnd t s₀) s₀ := by
  have h₀ : Keeps m₀ s₀ s₀ := Keeps.refl s₀
  unfold execCopyEnd
  try extract_lets
  repeat' (first | with_reducible apply KeepsNext.next | with_reducible apply KeepsNext.fault | with_reducible apply KeepsNext.ite | with_reducible assumption | with_reducible apply keeps_State_modTill | with_reducible apply keeps_setBucketSummary | with_reducible apply keeps_tryUngate | (fail_if_no_progress (with_reducible apply Keeps.upd) <;> first | with_reducible rfl | with_reducible exact fun x => x | with_reducible exact fun _ => ⟨rfl, rfl, rfl, rfl⟩ | with_reducible exact fun x => absurd x Bool.false_ne_true | with_reducible exact KV.set_wf _ _ _ | with_reducible exact KV.put_wf _ _ | with_reducible exact KV.filter_wf _ | with_reducible exact List.prefix_rfl | with_reducible exact List.prefix_append _ _ | with_reducible exact KV.map_wf (fun _ => rfl) | with_reducible exact fun _ => KV.foldl_set_wf _ _ _ rfl | (simp; done) | skip) | with_reducible apply Keeps.ite | with_reducible apply Keeps.ite1 | (with_reducible apply Keeps.foldl; intro s₁ x₁; have h₁ : Keeps m₀ s₁ s₁ := Keeps.refl s₁; try dsimp +zetaDelta only) | (with_reducible apply Keeps.foldl1; intro s₁ x₁; have h₁ : Keeps m₀ s₁.1 s₁.1 := Keeps.refl s₁.1; try dsimp +zetaDelta only) | extract_lets | split | dsimp +zetaDelta only)

theorem keeps_execCopyEndSend {m₀ : Bool} {s₀ : State} {t : Nat} : KeepsNext m₀ (execCopyEndSend t s₀) s₀ := by
  have h₀ : Keeps m₀ s₀ s₀ := Keeps.refl s₀
  unfold execCopyEndSend
  try extract_lets
  repeat' (first | with_reducible apply KeepsNext.next | with_reducible apply KeepsNext.fault | with_reducible apply KeepsNext.ite | with_reducible assumption | with_reducible apply keeps_State_modXfer | with_reducible apply keeps_State_packet | with_reducible apply keeps_handClaims | with_reducible apply keeps_handEntries | (fail_if_no_progress (with_reducible apply Keeps.upd) <;> first | with_reducible rfl | with_reducible exact fun x => x | with_reducible exact fun _ => ⟨rfl, rfl, rfl, rfl⟩ | with_reducible exact fun x => absurd x Bool.false_ne_true | with_reducible exact KV.set_wf _ _ _ | with_reducible exact KV.put_wf _ _ | with_reducible exact KV.filter_wf _ | with_reducible exact List.prefix_rfl | with_reducible exact List.prefix_append _ _ | with_reducible exact KV.map_wf (fun _ => rfl) | with_reducible exact fun _ => KV.foldl_set_wf _ _ _ rfl | (simp; done) | skip) | with_reducible apply Keeps.ite | with_reducible apply Keeps.ite1 | (with_reducible apply Keeps.foldl; intro s₁ x₁; have h₁ : Keeps m₀ s₁ s₁ := Keeps.refl s₁; try dsimp +zetaDelta only) | (with_reducible apply Keeps.foldl1; intro s₁ x₁; have h₁ : Keeps m₀ s₁.1 s₁.1 := Keeps.refl s₁.1; try dsimp +zetaDelta only) | extract_lets | split | dsimp +zetaDelta only)

theorem keeps_execCopyRun {m₀ : Bool} {s₀ : State} {t : Nat} {bank : Nat} : KeepsNext m₀ (execCopyRun t bank s₀) s₀ := by
  have h₀ : Keeps m₀ s₀ s₀ := Keeps.refl s₀
  unfold execCopyRun
  try extract_lets
  repeat' (first | with_reducible apply KeepsNext.next | with_reducible apply KeepsNext.fault | with_reducible apply KeepsNext.ite | with_reducible assumption | with_reducible refine keeps_takeOrder_eq (by assumption) ?_ | with_reducible apply keeps_copyRun | (fail_if_no_progress (with_reducible apply Keeps.upd) <;> first | with_reducible rfl | with_reducible exact fun x => x | with_reducible exact fun _ => ⟨rfl, rfl, rfl, rfl⟩ | with_reducible exact fun x => absurd x Bool.false_ne_true | with_reducible exact KV.set_wf _ _ _ | with_reducible exact KV.put_wf _ _ | with_reducible exact KV.filter_wf _ | with_reducible exact List.prefix_rfl | with_reducible exact List.prefix_append _ _ | with_reducible exact KV.map_wf (fun _ => rfl) | with_reducible exact fun _ => KV.foldl_set_wf _ _ _ rfl | (simp; done) | skip) | with_reducible apply Keeps.ite | with_reducible apply Keeps.ite1 | (with_reducible apply Keeps.foldl; intro s₁ x₁; have h₁ : Keeps m₀ s₁ s₁ := Keeps.refl s₁; try dsimp +zetaDelta only) | (with_reducible apply Keeps.foldl1; intro s₁ x₁; have h₁ : Keeps m₀ s₁.1 s₁.1 := Keeps.refl s₁.1; try dsimp +zetaDelta only) | extract_lets | split | dsimp +zetaDelta only)

theorem keeps_execCounterRead {m₀ : Bool} {s₀ : State} {h : Sys2Proof.Teller} : KeepsNext m₀ (execCounterRead h s₀) s₀ := by
  have h₀ : Keeps m₀ s₀ s₀ := Keeps.refl s₀
  unfold execCounterRead
  try extract_lets
  repeat' (first | with_reducible apply KeepsNext.next | with_reducible apply KeepsNext.fault | with_reducible apply KeepsNext.ite | with_reducible assumption | with_reducible apply keeps_teller | (fail_if_no_progress (with_reducible apply Keeps.upd) <;> first | with_reducible rfl | with_reducible exact fun x => x | with_reducible exact fun _ => ⟨rfl, rfl, rfl, rfl⟩ | with_reducible exact fun x => absurd x Bool.false_ne_true | with_reducible exact KV.set_wf _ _ _ | with_reducible exact KV.put_wf _ _ | with_reducible exact KV.filter_wf _ | with_reducible exact List.prefix_rfl | with_reducible exact List.prefix_append _ _ | with_reducible exact KV.map_wf (fun _ => rfl) | with_reducible exact fun _ => KV.foldl_set_wf _ _ _ rfl | (simp; done) | skip) | with_reducible apply Keeps.ite | with_reducible apply Keeps.ite1 | (with_reducible apply Keeps.foldl; intro s₁ x₁; have h₁ : Keeps m₀ s₁ s₁ := Keeps.refl s₁; try dsimp +zetaDelta only) | (with_reducible apply Keeps.foldl1; intro s₁ x₁; have h₁ : Keeps m₀ s₁.1 s₁.1 := Keeps.refl s₁.1; try dsimp +zetaDelta only) | extract_lets | split | dsimp +zetaDelta only)

theorem keeps_execCountersClear {m₀ : Bool} {s₀ : State}  : KeepsNext m₀ (execCountersClear s₀) s₀ := by
  have h₀ : Keeps m₀ s₀ s₀ := Keeps.refl s₀
  unfold execCountersClear
  try extract_lets
  repeat' (first | with_reducible apply KeepsNext.next | with_reducible apply KeepsNext.fault | with_reducible apply KeepsNext.ite | with_reducible assumption | with_reducible apply keeps_chartCmd | with_reducible apply keeps_chartCmd | (fail_if_no_progress (with_reducible apply Keeps.upd) <;> first | with_reducible rfl | with_reducible exact fun x => x | with_reducible exact fun _ => ⟨rfl, rfl, rfl, rfl⟩ | with_reducible exact fun x => absurd x Bool.false_ne_true | with_reducible exact KV.set_wf _ _ _ | with_reducible exact KV.put_wf _ _ | with_reducible exact KV.filter_wf _ | with_reducible exact List.prefix_rfl | with_reducible exact List.prefix_append _ _ | with_reducible exact KV.map_wf (fun _ => rfl) | with_reducible exact fun _ => KV.foldl_set_wf _ _ _ rfl | (simp; done) | skip) | with_reducible apply Keeps.ite | with_reducible apply Keeps.ite1 | (with_reducible apply Keeps.foldl; intro s₁ x₁; have h₁ : Keeps m₀ s₁ s₁ := Keeps.refl s₁; try dsimp +zetaDelta only) | (with_reducible apply Keeps.foldl1; intro s₁ x₁; have h₁ : Keeps m₀ s₁.1 s₁.1 := Keeps.refl s₁.1; try dsimp +zetaDelta only) | extract_lets | split | dsimp +zetaDelta only)

theorem keeps_execCreditReturn {m₀ : Bool} {s₀ : State} {w : Nat} {t : Nat} : KeepsNext m₀ (execCreditReturn w t s₀) s₀ := by
  have h₀ : Keeps m₀ s₀ s₀ := Keeps.refl s₀
  unfold execCreditReturn
  try extract_lets
  repeat' (first | with_reducible apply KeepsNext.next | with_reducible apply KeepsNext.fault | with_reducible apply KeepsNext.ite | with_reducible assumption | with_reducible apply keeps_State_popP | with_reducible apply keeps_creditBack | with_reducible apply keeps_serveLoans | with_reducible apply keeps_writeEnded | (fail_if_no_progress (with_reducible apply Keeps.upd) <;> first | with_reducible rfl | with_reducible exact fun x => x | with_reducible exact fun _ => ⟨rfl, rfl, rfl, rfl⟩ | with_reducible exact fun x => absurd x Bool.false_ne_true | with_reducible exact KV.set_wf _ _ _ | with_reducible exact KV.put_wf _ _ | with_reducible exact KV.filter_wf _ | with_reducible exact List.prefix_rfl | with_reducible exact List.prefix_append _ _ | with_reducible exact KV.map_wf (fun _ => rfl) | with_reducible exact fun _ => KV.foldl_set_wf _ _ _ rfl | (simp; done) | skip) | with_reducible apply Keeps.ite | with_reducible apply Keeps.ite1 | (with_reducible apply Keeps.foldl; intro s₁ x₁; have h₁ : Keeps m₀ s₁ s₁ := Keeps.refl s₁; try dsimp +zetaDelta only) | (with_reducible apply Keeps.foldl1; intro s₁ x₁; have h₁ : Keeps m₀ s₁.1 s₁.1 := Keeps.refl s₁.1; try dsimp +zetaDelta only) | extract_lets | split | dsimp +zetaDelta only)

theorem keeps_execCwr {m₀ : Bool} {s₀ : State} {w : Nat} {q : Sys2Proof.Req} : KeepsNext m₀ (execCwr w q s₀) s₀ := by
  have h₀ : Keeps m₀ s₀ s₀ := Keeps.refl s₀
  unfold execCwr
  try extract_lets
  repeat' (first | with_reducible apply KeepsNext.next | with_reducible apply KeepsNext.fault | with_reducible apply KeepsNext.ite | with_reducible assumption | with_reducible apply keeps_requestCmd | with_reducible apply keeps_requestCmd | (fail_if_no_progress (with_reducible apply Keeps.upd) <;> first | with_reducible rfl | with_reducible exact fun x => x | with_reducible exact fun _ => ⟨rfl, rfl, rfl, rfl⟩ | with_reducible exact fun x => absurd x Bool.false_ne_true | with_reducible exact KV.set_wf _ _ _ | with_reducible exact KV.put_wf _ _ | with_reducible exact KV.filter_wf _ | with_reducible exact List.prefix_rfl | with_reducible exact List.prefix_append _ _ | with_reducible exact KV.map_wf (fun _ => rfl) | with_reducible exact fun _ => KV.foldl_set_wf _ _ _ rfl | (simp; done) | skip) | with_reducible apply Keeps.ite | with_reducible apply Keeps.ite1 | (with_reducible apply Keeps.foldl; intro s₁ x₁; have h₁ : Keeps m₀ s₁ s₁ := Keeps.refl s₁; try dsimp +zetaDelta only) | (with_reducible apply Keeps.foldl1; intro s₁ x₁; have h₁ : Keeps m₀ s₁.1 s₁.1 := Keeps.refl s₁.1; try dsimp +zetaDelta only) | extract_lets | split | dsimp +zetaDelta only)

theorem keeps_execDebugSet {m₀ : Bool} {s₀ : State} {h : Sys2Proof.Teller} : KeepsNext m₀ (execDebugSet h s₀) s₀ := by
  have h₀ : Keeps m₀ s₀ s₀ := Keeps.refl s₀
  unfold execDebugSet
  try extract_lets
  repeat' (first | with_reducible apply KeepsNext.next | with_reducible apply KeepsNext.fault | with_reducible apply KeepsNext.ite | with_reducible assumption | with_reducible apply keeps_teller | (fail_if_no_progress (with_reducible apply Keeps.upd) <;> first | with_reducible rfl | with_reducible exact fun x => x | with_reducible exact fun _ => ⟨rfl, rfl, rfl, rfl⟩ | with_reducible exact fun x => absurd x Bool.false_ne_true | with_reducible exact KV.set_wf _ _ _ | with_reducible exact KV.put_wf _ _ | with_reducible exact KV.filter_wf _ | with_reducible exact List.prefix_rfl | with_reducible exact List.prefix_append _ _ | with_reducible exact KV.map_wf (fun _ => rfl) | with_reducible exact fun _ => KV.foldl_set_wf _ _ _ rfl | (simp; done) | skip) | with_reducible apply Keeps.ite | with_reducible apply Keeps.ite1 | (with_reducible apply Keeps.foldl; intro s₁ x₁; have h₁ : Keeps m₀ s₁ s₁ := Keeps.refl s₁; try dsimp +zetaDelta only) | (with_reducible apply Keeps.foldl1; intro s₁ x₁; have h₁ : Keeps m₀ s₁.1 s₁.1 := Keeps.refl s₁.1; try dsimp +zetaDelta only) | extract_lets | split | dsimp +zetaDelta only)

theorem keeps_execDeploy {m₀ : Bool} {s₀ : State}  : KeepsNext m₀ (execDeploy s₀) s₀ := by
  have h₀ : Keeps m₀ s₀ s₀ := Keeps.refl s₀
  unfold execDeploy
  try extract_lets
  repeat' (first | with_reducible apply KeepsNext.next | with_reducible apply KeepsNext.fault | with_reducible apply KeepsNext.ite | with_reducible assumption | with_reducible apply keeps_chartCmd | with_reducible apply keeps_chartCmd | (fail_if_no_progress (with_reducible apply Keeps.upd) <;> first | with_reducible rfl | with_reducible exact fun x => x | with_reducible exact fun _ => ⟨rfl, rfl, rfl, rfl⟩ | with_reducible exact fun x => absurd x Bool.false_ne_true | with_reducible exact KV.set_wf _ _ _ | with_reducible exact KV.put_wf _ _ | with_reducible exact KV.filter_wf _ | with_reducible exact List.prefix_rfl | with_reducible exact List.prefix_append _ _ | with_reducible exact KV.map_wf (fun _ => rfl) | with_reducible exact fun _ => KV.foldl_set_wf _ _ _ rfl | (simp; done) | skip) | with_reducible apply Keeps.ite | with_reducible apply Keeps.ite1 | (with_reducible apply Keeps.foldl; intro s₁ x₁; have h₁ : Keeps m₀ s₁ s₁ := Keeps.refl s₁; try dsimp +zetaDelta only) | (with_reducible apply Keeps.foldl1; intro s₁ x₁; have h₁ : Keeps m₀ s₁.1 s₁.1 := Keeps.refl s₁.1; try dsimp +zetaDelta only) | extract_lets | split | dsimp +zetaDelta only)

theorem keeps_execDisable {m₀ : Bool} {s₀ : State} {f : Sys2Proof.Func} : KeepsNext m₀ (execDisable f s₀) s₀ := by
  have h₀ : Keeps m₀ s₀ s₀ := Keeps.refl s₀
  unfold execDisable
  try extract_lets
  repeat' (first | with_reducible apply KeepsNext.next | with_reducible apply KeepsNext.fault | with_reducible apply KeepsNext.ite | with_reducible assumption | with_reducible apply keeps_chartCmd | with_reducible apply keeps_chartCmd | (fail_if_no_progress (with_reducible apply Keeps.upd) <;> first | with_reducible rfl | with_reducible exact fun x => x | with_reducible exact fun _ => ⟨rfl, rfl, rfl, rfl⟩ | with_reducible exact fun x => absurd x Bool.false_ne_true | with_reducible exact KV.set_wf _ _ _ | with_reducible exact KV.put_wf _ _ | with_reducible exact KV.filter_wf _ | with_reducible exact List.prefix_rfl | with_reducible exact List.prefix_append _ _ | with_reducible exact KV.map_wf (fun _ => rfl) | with_reducible exact fun _ => KV.foldl_set_wf _ _ _ rfl | (simp; done) | skip) | with_reducible apply Keeps.ite | with_reducible apply Keeps.ite1 | (with_reducible apply Keeps.foldl; intro s₁ x₁; have h₁ : Keeps m₀ s₁ s₁ := Keeps.refl s₁; try dsimp +zetaDelta only) | (with_reducible apply Keeps.foldl1; intro s₁ x₁; have h₁ : Keeps m₀ s₁.1 s₁.1 := Keeps.refl s₁.1; try dsimp +zetaDelta only) | extract_lets | split | dsimp +zetaDelta only)

theorem keeps_execDown {m₀ : Bool} {s₀ : State} {w : Nat} {q : Sys2Proof.Req} : KeepsNext m₀ (execDown w q s₀) s₀ := by
  have h₀ : Keeps m₀ s₀ s₀ := Keeps.refl s₀
  unfold execDown
  try extract_lets
  repeat' (first | with_reducible apply KeepsNext.next | with_reducible apply KeepsNext.fault | with_reducible apply KeepsNext.ite | with_reducible assumption | with_reducible apply keeps_requestCmd | with_reducible apply keeps_requestCmd | (fail_if_no_progress (with_reducible apply Keeps.upd) <;> first | with_reducible rfl | with_reducible exact fun x => x | with_reducible exact fun _ => ⟨rfl, rfl, rfl, rfl⟩ | with_reducible exact fun x => absurd x Bool.false_ne_true | with_reducible exact KV.set_wf _ _ _ | with_reducible exact KV.put_wf _ _ | with_reducible exact KV.filter_wf _ | with_reducible exact List.prefix_rfl | with_reducible exact List.prefix_append _ _ | with_reducible exact KV.map_wf (fun _ => rfl) | with_reducible exact fun _ => KV.foldl_set_wf _ _ _ rfl | (simp; done) | skip) | with_reducible apply Keeps.ite | with_reducible apply Keeps.ite1 | (with_reducible apply Keeps.foldl; intro s₁ x₁; have h₁ : Keeps m₀ s₁ s₁ := Keeps.refl s₁; try dsimp +zetaDelta only) | (with_reducible apply Keeps.foldl1; intro s₁ x₁; have h₁ : Keeps m₀ s₁.1 s₁.1 := Keeps.refl s₁.1; try dsimp +zetaDelta only) | extract_lets | split | dsimp +zetaDelta only)

theorem keeps_execDrainComplete {m₀ : Bool} {s₀ : State} {f : Sys2Proof.Func} : KeepsNext m₀ (execDrainComplete f s₀) s₀ := by
  have h₀ : Keeps m₀ s₀ s₀ := Keeps.refl s₀
  unfold execDrainComplete
  try extract_lets
  repeat' (first | with_reducible apply KeepsNext.next | with_reducible apply KeepsNext.fault | with_reducible apply KeepsNext.ite | with_reducible assumption | with_reducible apply keeps_drainEnds | with_reducible apply keeps_powerProgress | (fail_if_no_progress (with_reducible apply Keeps.upd) <;> first | with_reducible rfl | with_reducible exact fun x => x | with_reducible exact fun _ => ⟨rfl, rfl, rfl, rfl⟩ | with_reducible exact fun x => absurd x Bool.false_ne_true | with_reducible exact KV.set_wf _ _ _ | with_reducible exact KV.put_wf _ _ | with_reducible exact KV.filter_wf _ | with_reducible exact List.prefix_rfl | with_reducible exact List.prefix_append _ _ | with_reducible exact KV.map_wf (fun _ => rfl) | with_reducible exact fun _ => KV.foldl_set_wf _ _ _ rfl | (simp; done) | skip) | with_reducible apply Keeps.ite | with_reducible apply Keeps.ite1 | (with_reducible apply Keeps.foldl; intro s₁ x₁; have h₁ : Keeps m₀ s₁ s₁ := Keeps.refl s₁; try dsimp +zetaDelta only) | (with_reducible apply Keeps.foldl1; intro s₁ x₁; have h₁ : Keeps m₀ s₁.1 s₁.1 := Keeps.refl s₁.1; try dsimp +zetaDelta only) | extract_lets | split | dsimp +zetaDelta only)

theorem keeps_execDrop {m₀ : Bool} {s₀ : State} {w : Nat} {q : Sys2Proof.Req} : KeepsNext m₀ (execDrop w q s₀) s₀ := by
  have h₀ : Keeps m₀ s₀ s₀ := Keeps.refl s₀
  unfold execDrop
  try extract_lets
  repeat' (first | with_reducible apply KeepsNext.next | with_reducible apply KeepsNext.fault | with_reducible apply KeepsNext.ite | with_reducible assumption | with_reducible apply keeps_requestCmd | with_reducible apply keeps_requestCmd | (fail_if_no_progress (with_reducible apply Keeps.upd) <;> first | with_reducible rfl | with_reducible exact fun x => x | with_reducible exact fun _ => ⟨rfl, rfl, rfl, rfl⟩ | with_reducible exact fun x => absurd x Bool.false_ne_true | with_reducible exact KV.set_wf _ _ _ | with_reducible exact KV.put_wf _ _ | with_reducible exact KV.filter_wf _ | with_reducible exact List.prefix_rfl | with_reducible exact List.prefix_append _ _ | with_reducible exact KV.map_wf (fun _ => rfl) | with_reducible exact fun _ => KV.foldl_set_wf _ _ _ rfl | (simp; done) | skip) | with_reducible apply Keeps.ite | with_reducible apply Keeps.ite1 | (with_reducible apply Keeps.foldl; intro s₁ x₁; have h₁ : Keeps m₀ s₁ s₁ := Keeps.refl s₁; try dsimp +zetaDelta only) | (with_reducible apply Keeps.foldl1; intro s₁ x₁; have h₁ : Keeps m₀ s₁.1 s₁.1 := Keeps.refl s₁.1; try dsimp +zetaDelta only) | extract_lets | split | dsimp +zetaDelta only)

theorem keeps_execEnable {m₀ : Bool} {s₀ : State} {f : Sys2Proof.Func} : KeepsNext m₀ (execEnable f s₀) s₀ := by
  have h₀ : Keeps m₀ s₀ s₀ := Keeps.refl s₀
  unfold execEnable
  try extract_lets
  repeat' (first | with_reducible apply KeepsNext.next | with_reducible apply KeepsNext.fault | with_reducible apply KeepsNext.ite | with_reducible assumption | with_reducible apply keeps_chartCmd | with_reducible apply keeps_chartCmd | (fail_if_no_progress (with_reducible apply Keeps.upd) <;> first | with_reducible rfl | with_reducible exact fun x => x | with_reducible exact fun _ => ⟨rfl, rfl, rfl, rfl⟩ | with_reducible exact fun x => absurd x Bool.false_ne_true | with_reducible exact KV.set_wf _ _ _ | with_reducible exact KV.put_wf _ _ | with_reducible exact KV.filter_wf _ | with_reducible exact List.prefix_rfl | with_reducible exact List.prefix_append _ _ | with_reducible exact KV.map_wf (fun _ => rfl) | with_reducible exact fun _ => KV.foldl_set_wf _ _ _ rfl | (simp; done) | skip) | with_reducible apply Keeps.ite | with_reducible apply Keeps.ite1 | (with_reducible apply Keeps.foldl; intro s₁ x₁; have h₁ : Keeps m₀ s₁ s₁ := Keeps.refl s₁; try dsimp +zetaDelta only) | (with_reducible apply Keeps.foldl1; intro s₁ x₁; have h₁ : Keeps m₀ s₁.1 s₁.1 := Keeps.refl s₁.1; try dsimp +zetaDelta only) | extract_lets | split | dsimp +zetaDelta only)

theorem keeps_execEnablingComplete {m₀ : Bool} {s₀ : State} {f : Sys2Proof.Func} : KeepsNext m₀ (execEnablingComplete f s₀) s₀ := by
  have h₀ : Keeps m₀ s₀ s₀ := Keeps.refl s₀
  unfold execEnablingComplete
  try extract_lets
  repeat' (first | with_reducible apply KeepsNext.next | with_reducible apply KeepsNext.fault | with_reducible apply KeepsNext.ite | with_reducible assumption | with_reducible apply keeps_enablingEnds | with_reducible apply keeps_powerProgress | (fail_if_no_progress (with_reducible apply Keeps.upd) <;> first | with_reducible rfl | with_reducible exact fun x => x | with_reducible exact fun _ => ⟨rfl, rfl, rfl, rfl⟩ | with_reducible exact fun x => absurd x Bool.false_ne_true | with_reducible exact KV.set_wf _ _ _ | with_reducible exact KV.put_wf _ _ | with_reducible exact KV.filter_wf _ | with_reducible exact List.prefix_rfl | with_reducible exact List.prefix_append _ _ | with_reducible exact KV.map_wf (fun _ => rfl) | with_reducible exact fun _ => KV.foldl_set_wf _ _ _ rfl | (simp; done) | skip) | with_reducible apply Keeps.ite | with_reducible apply Keeps.ite1 | (with_reducible apply Keeps.foldl; intro s₁ x₁; have h₁ : Keeps m₀ s₁ s₁ := Keeps.refl s₁; try dsimp +zetaDelta only) | (with_reducible apply Keeps.foldl1; intro s₁ x₁; have h₁ : Keeps m₀ s₁.1 s₁.1 := Keeps.refl s₁.1; try dsimp +zetaDelta only) | extract_lets | split | dsimp +zetaDelta only)

theorem keeps_execEscrowWrite {m₀ : Bool} {s₀ : State} {i : Nat} {j : Nat} {v : BitVec 16} : KeepsNext m₀ (execEscrowWrite i j v s₀) s₀ := by
  have h₀ : Keeps m₀ s₀ s₀ := Keeps.refl s₀
  unfold execEscrowWrite
  try extract_lets
  repeat' (first | with_reducible apply KeepsNext.next | with_reducible apply KeepsNext.fault | with_reducible apply KeepsNext.ite | with_reducible assumption | with_reducible apply keeps_chartCmd | with_reducible apply keeps_chartCmd | (fail_if_no_progress (with_reducible apply Keeps.upd) <;> first | with_reducible rfl | with_reducible exact fun x => x | with_reducible exact fun _ => ⟨rfl, rfl, rfl, rfl⟩ | with_reducible exact fun x => absurd x Bool.false_ne_true | with_reducible exact KV.set_wf _ _ _ | with_reducible exact KV.put_wf _ _ | with_reducible exact KV.filter_wf _ | with_reducible exact List.prefix_rfl | with_reducible exact List.prefix_append _ _ | with_reducible exact KV.map_wf (fun _ => rfl) | with_reducible exact fun _ => KV.foldl_set_wf _ _ _ rfl | (simp; done) | skip) | with_reducible apply Keeps.ite | with_reducible apply Keeps.ite1 | (with_reducible apply Keeps.foldl; intro s₁ x₁; have h₁ : Keeps m₀ s₁ s₁ := Keeps.refl s₁; try dsimp +zetaDelta only) | (with_reducible apply Keeps.foldl1; intro s₁ x₁; have h₁ : Keeps m₀ s₁.1 s₁.1 := Keeps.refl s₁.1; try dsimp +zetaDelta only) | extract_lets | split | dsimp +zetaDelta only)

theorem keeps_execEvc {m₀ : Bool} {s₀ : State} {w : Nat} {q : Sys2Proof.Req} : KeepsNext m₀ (execEvc w q s₀) s₀ := by
  have h₀ : Keeps m₀ s₀ s₀ := Keeps.refl s₀
  unfold execEvc
  try extract_lets
  repeat' (first | with_reducible apply KeepsNext.next | with_reducible apply KeepsNext.fault | with_reducible apply KeepsNext.ite | with_reducible assumption | with_reducible apply keeps_requestCmd | with_reducible apply keeps_requestCmd | (fail_if_no_progress (with_reducible apply Keeps.upd) <;> first | with_reducible rfl | with_reducible exact fun x => x | with_reducible exact fun _ => ⟨rfl, rfl, rfl, rfl⟩ | with_reducible exact fun x => absurd x Bool.false_ne_true | with_reducible exact KV.set_wf _ _ _ | with_reducible exact KV.put_wf _ _ | with_reducible exact KV.filter_wf _ | with_reducible exact List.prefix_rfl | with_reducible exact List.prefix_append _ _ | with_reducible exact KV.map_wf (fun _ => rfl) | with_reducible exact fun _ => KV.foldl_set_wf _ _ _ rfl | (simp; done) | skip) | with_reducible apply Keeps.ite | with_reducible apply Keeps.ite1 | (with_reducible apply Keeps.foldl; intro s₁ x₁; have h₁ : Keeps m₀ s₁ s₁ := Keeps.refl s₁; try dsimp +zetaDelta only) | (with_reducible apply Keeps.foldl1; intro s₁ x₁; have h₁ : Keeps m₀ s₁.1 s₁.1 := Keeps.refl s₁.1; try dsimp +zetaDelta only) | extract_lets | split | dsimp +zetaDelta only)

theorem keeps_execExchStall {s₀ : State} {node : Nat} {port : Nat} {vc : Nat} : KeepsNext false (execExchStall node port vc s₀) s₀ := by
  have h₀ : Keeps false s₀ s₀ := Keeps.refl s₀
  unfold execExchStall
  try extract_lets
  repeat' (first | with_reducible apply KeepsNext.next | with_reducible apply KeepsNext.fault | with_reducible apply KeepsNext.ite | with_reducible assumption | with_reducible apply keeps_stallBite | (fail_if_no_progress (with_reducible apply Keeps.upd) <;> first | with_reducible rfl | with_reducible exact fun x => x | with_reducible exact fun _ => ⟨rfl, rfl, rfl, rfl⟩ | with_reducible exact fun x => absurd x Bool.false_ne_true | with_reducible exact KV.set_wf _ _ _ | with_reducible exact KV.put_wf _ _ | with_reducible exact KV.filter_wf _ | with_reducible exact List.prefix_rfl | with_reducible exact List.prefix_append _ _ | with_reducible exact KV.map_wf (fun _ => rfl) | with_reducible exact fun _ => KV.foldl_set_wf _ _ _ rfl | (simp; done) | skip) | with_reducible apply Keeps.ite | with_reducible apply Keeps.ite1 | (with_reducible apply Keeps.foldl; intro s₁ x₁; have h₁ : Keeps false s₁ s₁ := Keeps.refl s₁; try dsimp +zetaDelta only) | (with_reducible apply Keeps.foldl1; intro s₁ x₁; have h₁ : Keeps false s₁.1 s₁.1 := Keeps.refl s₁.1; try dsimp +zetaDelta only) | extract_lets | split | dsimp +zetaDelta only)

theorem keeps_execExpiredHold {m₀ : Bool} {s₀ : State} {t : Nat} {i : Nat} : KeepsNext m₀ (execExpiredHold t i s₀) s₀ := by
  have h₀ : Keeps m₀ s₀ s₀ := Keeps.refl s₀
  unfold execExpiredHold
  try extract_lets
  repeat' (first | with_reducible apply KeepsNext.next | with_reducible apply KeepsNext.fault | with_reducible apply KeepsNext.ite | with_reducible assumption | with_reducible apply keeps_deleteRecord | with_reducible apply keeps_worked | (fail_if_no_progress (with_reducible apply Keeps.upd) <;> first | with_reducible rfl | with_reducible exact fun x => x | with_reducible exact fun _ => ⟨rfl, rfl, rfl, rfl⟩ | with_reducible exact fun x => absurd x Bool.false_ne_true | with_reducible exact KV.set_wf _ _ _ | with_reducible exact KV.put_wf _ _ | with_reducible exact KV.filter_wf _ | with_reducible exact List.prefix_rfl | with_reducible exact List.prefix_append _ _ | with_reducible exact KV.map_wf (fun _ => rfl) | with_reducible exact fun _ => KV.foldl_set_wf _ _ _ rfl | (simp; done) | skip) | with_reducible apply Keeps.ite | with_reducible apply Keeps.ite1 | (with_reducible apply Keeps.foldl; intro s₁ x₁; have h₁ : Keeps m₀ s₁ s₁ := Keeps.refl s₁; try dsimp +zetaDelta only) | (with_reducible apply Keeps.foldl1; intro s₁ x₁; have h₁ : Keeps m₀ s₁.1 s₁.1 := Keeps.refl s₁.1; try dsimp +zetaDelta only) | extract_lets | split | dsimp +zetaDelta only)

theorem keeps_execFfClear {m₀ : Bool} {s₀ : State} {t : Nat} : KeepsNext m₀ (execFfClear t s₀) s₀ := by
  have h₀ : Keeps m₀ s₀ s₀ := Keeps.refl s₀
  unfold execFfClear
  try extract_lets
  repeat' (first | with_reducible apply KeepsNext.next | with_reducible apply KeepsNext.fault | with_reducible apply KeepsNext.ite | with_reducible assumption | with_reducible apply keeps_chartCmd | with_reducible apply keeps_chartCmd | (fail_if_no_progress (with_reducible apply Keeps.upd) <;> first | with_reducible rfl | with_reducible exact fun x => x | with_reducible exact fun _ => ⟨rfl, rfl, rfl, rfl⟩ | with_reducible exact fun x => absurd x Bool.false_ne_true | with_reducible exact KV.set_wf _ _ _ | with_reducible exact KV.put_wf _ _ | with_reducible exact KV.filter_wf _ | with_reducible exact List.prefix_rfl | with_reducible exact List.prefix_append _ _ | with_reducible exact KV.map_wf (fun _ => rfl) | with_reducible exact fun _ => KV.foldl_set_wf _ _ _ rfl | (simp; done) | skip) | with_reducible apply Keeps.ite | with_reducible apply Keeps.ite1 | (with_reducible apply Keeps.foldl; intro s₁ x₁; have h₁ : Keeps m₀ s₁ s₁ := Keeps.refl s₁; try dsimp +zetaDelta only) | (with_reducible apply Keeps.foldl1; intro s₁ x₁; have h₁ : Keeps m₀ s₁.1 s₁.1 := Keeps.refl s₁.1; try dsimp +zetaDelta only) | extract_lets | split | dsimp +zetaDelta only)

theorem keeps_execFlr {m₀ : Bool} {s₀ : State}  : KeepsNext m₀ (execFlr s₀) s₀ := by
  have h₀ : Keeps m₀ s₀ s₀ := Keeps.refl s₀
  unfold execFlr
  try extract_lets
  repeat' (first | with_reducible apply KeepsNext.next | with_reducible apply KeepsNext.fault | with_reducible apply KeepsNext.ite | with_reducible assumption | with_reducible apply keeps_startReset | (fail_if_no_progress (with_reducible apply Keeps.upd) <;> first | with_reducible rfl | with_reducible exact fun x => x | with_reducible exact fun _ => ⟨rfl, rfl, rfl, rfl⟩ | with_reducible exact fun x => absurd x Bool.false_ne_true | with_reducible exact KV.set_wf _ _ _ | with_reducible exact KV.put_wf _ _ | with_reducible exact KV.filter_wf _ | with_reducible exact List.prefix_rfl | with_reducible exact List.prefix_append _ _ | with_reducible exact KV.map_wf (fun _ => rfl) | with_reducible exact fun _ => KV.foldl_set_wf _ _ _ rfl | (simp; done) | skip) | with_reducible apply Keeps.ite | with_reducible apply Keeps.ite1 | (with_reducible apply Keeps.foldl; intro s₁ x₁; have h₁ : Keeps m₀ s₁ s₁ := Keeps.refl s₁; try dsimp +zetaDelta only) | (with_reducible apply Keeps.foldl1; intro s₁ x₁; have h₁ : Keeps m₀ s₁.1 s₁.1 := Keeps.refl s₁.1; try dsimp +zetaDelta only) | extract_lets | split | dsimp +zetaDelta only)

theorem keeps_execFolioReadOutDone {m₀ : Bool} {s₀ : State} {t : Nat} {f : Nat} : KeepsNext m₀ (execFolioReadOutDone t f s₀) s₀ := by
  have h₀ : Keeps m₀ s₀ s₀ := Keeps.refl s₀
  unfold execFolioReadOutDone
  try extract_lets
  repeat' (first | with_reducible apply KeepsNext.next | with_reducible apply KeepsNext.fault | with_reducible apply KeepsNext.ite | with_reducible assumption | with_reducible apply keeps_State_modFolio | with_reducible apply keeps_kickData | with_reducible apply keeps_tryRetire | with_reducible apply keeps_worked | (fail_if_no_progress (with_reducible apply Keeps.upd) <;> first | with_reducible rfl | with_reducible exact fun x => x | with_reducible exact fun _ => ⟨rfl, rfl, rfl, rfl⟩ | with_reducible exact fun x => absurd x Bool.false_ne_true | with_reducible exact KV.set_wf _ _ _ | with_reducible exact KV.put_wf _ _ | with_reducible exact KV.filter_wf _ | with_reducible exact List.prefix_rfl | with_reducible exact List.prefix_append _ _ | with_reducible exact KV.map_wf (fun _ => rfl) | with_reducible exact fun _ => KV.foldl_set_wf _ _ _ rfl | (simp; done) | skip) | with_reducible apply Keeps.ite | with_reducible apply Keeps.ite1 | (with_reducible apply Keeps.foldl; intro s₁ x₁; have h₁ : Keeps m₀ s₁ s₁ := Keeps.refl s₁; try dsimp +zetaDelta only) | (with_reducible apply Keeps.foldl1; intro s₁ x₁; have h₁ : Keeps m₀ s₁.1 s₁.1 := Keeps.refl s₁.1; try dsimp +zetaDelta only) | extract_lets | split | dsimp +zetaDelta only)

theorem keeps_execForeclose {m₀ : Bool} {s₀ : State} {n : Nat} : KeepsNext m₀ (execForeclose n s₀) s₀ := by
  have h₀ : Keeps m₀ s₀ s₀ := Keeps.refl s₀
  unfold execForeclose
  try extract_lets
  repeat' (first | with_reducible apply KeepsNext.next | with_reducible apply KeepsNext.fault | with_reducible apply KeepsNext.ite | with_reducible assumption | with_reducible apply keeps_chartCmd | with_reducible apply keeps_chartCmd | (fail_if_no_progress (with_reducible apply Keeps.upd) <;> first | with_reducible rfl | with_reducible exact fun x => x | with_reducible exact fun _ => ⟨rfl, rfl, rfl, rfl⟩ | with_reducible exact fun x => absurd x Bool.false_ne_true | with_reducible exact KV.set_wf _ _ _ | with_reducible exact KV.put_wf _ _ | with_reducible exact KV.filter_wf _ | with_reducible exact List.prefix_rfl | with_reducible exact List.prefix_append _ _ | with_reducible exact KV.map_wf (fun _ => rfl) | with_reducible exact fun _ => KV.foldl_set_wf _ _ _ rfl | (simp; done) | skip) | with_reducible apply Keeps.ite | with_reducible apply Keeps.ite1 | (with_reducible apply Keeps.foldl; intro s₁ x₁; have h₁ : Keeps m₀ s₁ s₁ := Keeps.refl s₁; try dsimp +zetaDelta only) | (with_reducible apply Keeps.foldl1; intro s₁ x₁; have h₁ : Keeps m₀ s₁.1 s₁.1 := Keeps.refl s₁.1; try dsimp +zetaDelta only) | extract_lets | split | dsimp +zetaDelta only)

theorem keeps_execForeclosedResponse {m₀ : Bool} {s₀ : State} {t : Nat} {w : Nat} : KeepsNext m₀ (execForeclosedResponse t w s₀) s₀ := by
  have h₀ : Keeps m₀ s₀ s₀ := Keeps.refl s₀
  unfold execForeclosedResponse
  try extract_lets
  repeat' (first | with_reducible apply KeepsNext.next | with_reducible apply KeepsNext.fault | with_reducible apply KeepsNext.ite | with_reducible assumption | with_reducible apply keeps_takeForeclosed | with_reducible apply keeps_worked | (fail_if_no_progress (with_reducible apply Keeps.upd) <;> first | with_reducible rfl | with_reducible exact fun x => x | with_reducible exact fun _ => ⟨rfl, rfl, rfl, rfl⟩ | with_reducible exact fun x => absurd x Bool.false_ne_true | with_reducible exact KV.set_wf _ _ _ | with_reducible exact KV.put_wf _ _ | with_reducible exact KV.filter_wf _ | with_reducible exact List.prefix_rfl | with_reducible exact List.prefix_append _ _ | with_reducible exact KV.map_wf (fun _ => rfl) | with_reducible exact fun _ => KV.foldl_set_wf _ _ _ rfl | (simp; done) | skip) | with_reducible apply Keeps.ite | with_reducible apply Keeps.ite1 | (with_reducible apply Keeps.foldl; intro s₁ x₁; have h₁ : Keeps m₀ s₁ s₁ := Keeps.refl s₁; try dsimp +zetaDelta only) | (with_reducible apply Keeps.foldl1; intro s₁ x₁; have h₁ : Keeps m₀ s₁.1 s₁.1 := Keeps.refl s₁.1; try dsimp +zetaDelta only) | extract_lets | split | dsimp +zetaDelta only)

theorem keeps_execForeclosureDone {m₀ : Bool} {s₀ : State} {n : Nat} : KeepsNext m₀ (execForeclosureDone n s₀) s₀ := by
  have h₀ : Keeps m₀ s₀ s₀ := Keeps.refl s₀
  unfold execForeclosureDone
  try extract_lets
  repeat' (first | with_reducible apply KeepsNext.next | with_reducible apply KeepsNext.fault | with_reducible apply KeepsNext.ite | with_reducible assumption | with_reducible apply keeps_finishForeclosure | with_reducible apply keeps_replayAll | (fail_if_no_progress (with_reducible apply Keeps.upd) <;> first | with_reducible rfl | with_reducible exact fun x => x | with_reducible exact fun _ => ⟨rfl, rfl, rfl, rfl⟩ | with_reducible exact fun x => absurd x Bool.false_ne_true | with_reducible exact KV.set_wf _ _ _ | with_reducible exact KV.put_wf _ _ | with_reducible exact KV.filter_wf _ | with_reducible exact List.prefix_rfl | with_reducible exact List.prefix_append _ _ | with_reducible exact KV.map_wf (fun _ => rfl) | with_reducible exact fun _ => KV.foldl_set_wf _ _ _ rfl | (simp; done) | skip) | with_reducible apply Keeps.ite | with_reducible apply Keeps.ite1 | (with_reducible apply Keeps.foldl; intro s₁ x₁; have h₁ : Keeps m₀ s₁ s₁ := Keeps.refl s₁; try dsimp +zetaDelta only) | (with_reducible apply Keeps.foldl1; intro s₁ x₁; have h₁ : Keeps m₀ s₁.1 s₁.1 := Keeps.refl s₁.1; try dsimp +zetaDelta only) | extract_lets | split | dsimp +zetaDelta only)

theorem keeps_execForeclosureWalk {m₀ : Bool} {s₀ : State} {t : Nat} {pos : Sys2Proof.WalkAt} : KeepsNext m₀ (execForeclosureWalk t pos s₀) s₀ := by
  have h₀ : Keeps m₀ s₀ s₀ := Keeps.refl s₀
  unfold execForeclosureWalk
  try extract_lets
  repeat' (first | with_reducible apply KeepsNext.next | with_reducible apply KeepsNext.fault | with_reducible apply KeepsNext.ite | with_reducible assumption | with_reducible apply keeps_settleFails | with_reducible apply keeps_walkVisit | (fail_if_no_progress (with_reducible apply Keeps.upd) <;> first | with_reducible rfl | with_reducible exact fun x => x | with_reducible exact fun _ => ⟨rfl, rfl, rfl, rfl⟩ | with_reducible exact fun x => absurd x Bool.false_ne_true | with_reducible exact KV.set_wf _ _ _ | with_reducible exact KV.put_wf _ _ | with_reducible exact KV.filter_wf _ | with_reducible exact List.prefix_rfl | with_reducible exact List.prefix_append _ _ | with_reducible exact KV.map_wf (fun _ => rfl) | with_reducible exact fun _ => KV.foldl_set_wf _ _ _ rfl | (simp; done) | skip) | with_reducible apply Keeps.ite | with_reducible apply Keeps.ite1 | (with_reducible apply Keeps.foldl; intro s₁ x₁; have h₁ : Keeps m₀ s₁ s₁ := Keeps.refl s₁; try dsimp +zetaDelta only) | (with_reducible apply Keeps.foldl1; intro s₁ x₁; have h₁ : Keeps m₀ s₁.1 s₁.1 := Keeps.refl s₁.1; try dsimp +zetaDelta only) | extract_lets | split | dsimp +zetaDelta only)

theorem keeps_execFullSweep {m₀ : Bool} {s₀ : State} {m : Sys2Proof.Measure} : KeepsNext m₀ (execFullSweep m s₀) s₀ := by
  have h₀ : Keeps m₀ s₀ s₀ := Keeps.refl s₀
  unfold execFullSweep
  try extract_lets
  repeat' (first | with_reducible apply KeepsNext.next | with_reducible apply KeepsNext.fault | with_reducible apply KeepsNext.ite | with_reducible assumption | with_reducible apply keeps_check | (fail_if_no_progress (with_reducible apply Keeps.upd) <;> first | with_reducible rfl | with_reducible exact fun x => x | with_reducible exact fun _ => ⟨rfl, rfl, rfl, rfl⟩ | with_reducible exact fun x => absurd x Bool.false_ne_true | with_reducible exact KV.set_wf _ _ _ | with_reducible exact KV.put_wf _ _ | with_reducible exact KV.filter_wf _ | with_reducible exact List.prefix_rfl | with_reducible exact List.prefix_append _ _ | with_reducible exact KV.map_wf (fun _ => rfl) | with_reducible exact fun _ => KV.foldl_set_wf _ _ _ rfl | (simp; done) | skip) | with_reducible apply Keeps.ite | with_reducible apply Keeps.ite1 | (with_reducible apply Keeps.foldl; intro s₁ x₁; have h₁ : Keeps m₀ s₁ s₁ := Keeps.refl s₁; try dsimp +zetaDelta only) | (with_reducible apply Keeps.foldl1; intro s₁ x₁; have h₁ : Keeps m₀ s₁.1 s₁.1 := Keeps.refl s₁.1; try dsimp +zetaDelta only) | extract_lets | split | dsimp +zetaDelta only)

theorem keeps_execFunctionReset {m₀ : Bool} {s₀ : State}  : KeepsNext m₀ (execFunctionReset s₀) s₀ := by
  have h₀ : Keeps m₀ s₀ s₀ := Keeps.refl s₀
  unfold execFunctionReset
  try extract_lets
  repeat' (first | with_reducible apply KeepsNext.next | with_reducible apply KeepsNext.fault | with_reducible apply KeepsNext.ite | with_reducible assumption | with_reducible apply keeps_chartCmd | with_reducible apply keeps_chartCmd | (fail_if_no_progress (with_reducible apply Keeps.upd) <;> first | with_reducible rfl | with_reducible exact fun x => x | with_reducible exact fun _ => ⟨rfl, rfl, rfl, rfl⟩ | with_reducible exact fun x => absurd x Bool.false_ne_true | with_reducible exact KV.set_wf _ _ _ | with_reducible exact KV.put_wf _ _ | with_reducible exact KV.filter_wf _ | with_reducible exact List.prefix_rfl | with_reducible exact List.prefix_append _ _ | with_reducible exact KV.map_wf (fun _ => rfl) | with_reducible exact fun _ => KV.foldl_set_wf _ _ _ rfl | (simp; done) | skip) | with_reducible apply Keeps.ite | with_reducible apply Keeps.ite1 | (with_reducible apply Keeps.foldl; intro s₁ x₁; have h₁ : Keeps m₀ s₁ s₁ := Keeps.refl s₁; try dsimp +zetaDelta only) | (with_reducible apply Keeps.foldl1; intro s₁ x₁; have h₁ : Keeps m₀ s₁.1 s₁.1 := Keeps.refl s₁.1; try dsimp +zetaDelta only) | extract_lets | split | dsimp +zetaDelta only)

theorem keeps_execFunctionResetDone {m₀ : Bool} {s₀ : State}  : KeepsNext m₀ (execFunctionResetDone s₀) s₀ := by
  have h₀ : Keeps m₀ s₀ s₀ := Keeps.refl s₀
  unfold execFunctionResetDone
  try extract_lets
  repeat' (first | with_reducible apply KeepsNext.next | with_reducible apply KeepsNext.fault | with_reducible apply KeepsNext.ite | with_reducible assumption | (fail_if_no_progress (with_reducible apply Keeps.upd) <;> first | with_reducible rfl | with_reducible exact fun x => x | with_reducible exact fun _ => ⟨rfl, rfl, rfl, rfl⟩ | with_reducible exact fun x => absurd x Bool.false_ne_true | with_reducible exact KV.set_wf _ _ _ | with_reducible exact KV.put_wf _ _ | with_reducible exact KV.filter_wf _ | with_reducible exact List.prefix_rfl | with_reducible exact List.prefix_append _ _ | with_reducible exact KV.map_wf (fun _ => rfl) | with_reducible exact fun _ => KV.foldl_set_wf _ _ _ rfl | (simp; done) | skip) | with_reducible apply Keeps.ite | with_reducible apply Keeps.ite1 | (with_reducible apply Keeps.foldl; intro s₁ x₁; have h₁ : Keeps m₀ s₁ s₁ := Keeps.refl s₁; try dsimp +zetaDelta only) | (with_reducible apply Keeps.foldl1; intro s₁ x₁; have h₁ : Keeps m₀ s₁.1 s₁.1 := Keeps.refl s₁.1; try dsimp +zetaDelta only) | extract_lets | split | dsimp +zetaDelta only)

theorem keeps_execGrace {m₀ : Bool} {s₀ : State} {n : Nat} : KeepsNext m₀ (execGrace n s₀) s₀ := by
  have h₀ : Keeps m₀ s₀ s₀ := Keeps.refl s₀
  unfold execGrace
  try extract_lets
  repeat' (first | with_reducible apply KeepsNext.next | with_reducible apply KeepsNext.fault | with_reducible apply KeepsNext.ite | with_reducible assumption | with_reducible apply keeps_declareDead | (fail_if_no_progress (with_reducible apply Keeps.upd) <;> first | with_reducible rfl | with_reducible exact fun x => x | with_reducible exact fun _ => ⟨rfl, rfl, rfl, rfl⟩ | with_reducible exact fun x => absurd x Bool.false_ne_true | with_reducible exact KV.set_wf _ _ _ | with_reducible exact KV.put_wf _ _ | with_reducible exact KV.filter_wf _ | with_reducible exact List.prefix_rfl | with_reducible exact List.prefix_append _ _ | with_reducible exact KV.map_wf (fun _ => rfl) | with_reducible exact fun _ => KV.foldl_set_wf _ _ _ rfl | (simp; done) | skip) | with_reducible apply Keeps.ite | with_reducible apply Keeps.ite1 | (with_reducible apply Keeps.foldl; intro s₁ x₁; have h₁ : Keeps m₀ s₁ s₁ := Keeps.refl s₁; try dsimp +zetaDelta only) | (with_reducible apply Keeps.foldl1; intro s₁ x₁; have h₁ : Keeps m₀ s₁.1 s₁.1 := Keeps.refl s₁.1; try dsimp +zetaDelta only) | extract_lets | split | dsimp +zetaDelta only)

theorem keeps_execHaltMaxTicks {m₀ : Bool} {s₀ : State} {t : Nat} : KeepsNext m₀ (execHaltMaxTicks t s₀) s₀ := by
  have h₀ : Keeps m₀ s₀ s₀ := Keeps.refl s₀
  unfold execHaltMaxTicks
  try extract_lets
  repeat' (first | with_reducible apply KeepsNext.next | with_reducible apply KeepsNext.fault | with_reducible apply KeepsNext.ite | with_reducible assumption | with_reducible apply keeps_endHalt | with_reducible apply keeps_worked | (fail_if_no_progress (with_reducible apply Keeps.upd) <;> first | with_reducible rfl | with_reducible exact fun x => x | with_reducible exact fun _ => ⟨rfl, rfl, rfl, rfl⟩ | with_reducible exact fun x => absurd x Bool.false_ne_true | with_reducible exact KV.set_wf _ _ _ | with_reducible exact KV.put_wf _ _ | with_reducible exact KV.filter_wf _ | with_reducible exact List.prefix_rfl | with_reducible exact List.prefix_append _ _ | with_reducible exact KV.map_wf (fun _ => rfl) | with_reducible exact fun _ => KV.foldl_set_wf _ _ _ rfl | (simp; done) | skip) | with_reducible apply Keeps.ite | with_reducible apply Keeps.ite1 | (with_reducible apply Keeps.foldl; intro s₁ x₁; have h₁ : Keeps m₀ s₁ s₁ := Keeps.refl s₁; try dsimp +zetaDelta only) | (with_reducible apply Keeps.foldl1; intro s₁ x₁; have h₁ : Keeps m₀ s₁.1 s₁.1 := Keeps.refl s₁.1; try dsimp +zetaDelta only) | extract_lets | split | dsimp +zetaDelta only)

theorem keeps_execHandover {m₀ : Bool} {s₀ : State} {w : Nat} {t : Nat} : KeepsNext m₀ (execHandover w t s₀) s₀ := by
  have h₀ : Keeps m₀ s₀ s₀ := Keeps.refl s₀
  unfold execHandover
  try extract_lets
  repeat' (first | with_reducible apply KeepsNext.next | with_reducible apply KeepsNext.fault | with_reducible apply KeepsNext.ite | with_reducible assumption | with_reducible apply keeps_State_modWicket | with_reducible apply keeps_State_popP | with_reducible apply keeps_State_sendW | with_reducible apply keeps_retarget | (fail_if_no_progress (with_reducible apply Keeps.upd) <;> first | with_reducible rfl | with_reducible exact fun x => x | with_reducible exact fun _ => ⟨rfl, rfl, rfl, rfl⟩ | with_reducible exact fun x => absurd x Bool.false_ne_true | with_reducible exact KV.set_wf _ _ _ | with_reducible exact KV.put_wf _ _ | with_reducible exact KV.filter_wf _ | with_reducible exact List.prefix_rfl | with_reducible exact List.prefix_append _ _ | with_reducible exact KV.map_wf (fun _ => rfl) | with_reducible exact fun _ => KV.foldl_set_wf _ _ _ rfl | (simp; done) | skip) | with_reducible apply Keeps.ite | with_reducible apply Keeps.ite1 | (with_reducible apply Keeps.foldl; intro s₁ x₁; have h₁ : Keeps m₀ s₁ s₁ := Keeps.refl s₁; try dsimp +zetaDelta only) | (with_reducible apply Keeps.foldl1; intro s₁ x₁; have h₁ : Keeps m₀ s₁.1 s₁.1 := Keeps.refl s₁.1; try dsimp +zetaDelta only) | extract_lets | split | dsimp +zetaDelta only)

theorem keeps_execHandoverAck {m₀ : Bool} {s₀ : State} {t : Nat} {w : Nat} : KeepsNext m₀ (execHandoverAck t w s₀) s₀ := by
  have h₀ : Keeps m₀ s₀ s₀ := Keeps.refl s₀
  unfold execHandoverAck
  try extract_lets
  repeat' (first | with_reducible apply KeepsNext.next | with_reducible apply KeepsNext.fault | with_reducible apply KeepsNext.ite | with_reducible assumption | with_reducible apply keeps_State_modTill | with_reducible apply keeps_State_popW | with_reducible apply keeps_tryForcedEnd | with_reducible apply keeps_tryUngate | (fail_if_no_progress (with_reducible apply Keeps.upd) <;> first | with_reducible rfl | with_reducible exact fun x => x | with_reducible exact fun _ => ⟨rfl, rfl, rfl, rfl⟩ | with_reducible exact fun x => absurd x Bool.false_ne_true | with_reducible exact KV.set_wf _ _ _ | with_reducible exact KV.put_wf _ _ | with_reducible exact KV.filter_wf _ | with_reducible exact List.prefix_rfl | with_reducible exact List.prefix_append _ _ | with_reducible exact KV.map_wf (fun _ => rfl) | with_reducible exact fun _ => KV.foldl_set_wf _ _ _ rfl | (simp; done) | skip) | with_reducible apply Keeps.ite | with_reducible apply Keeps.ite1 | (with_reducible apply Keeps.foldl; intro s₁ x₁; have h₁ : Keeps m₀ s₁ s₁ := Keeps.refl s₁; try dsimp +zetaDelta only) | (with_reducible apply Keeps.foldl1; intro s₁ x₁; have h₁ : Keeps m₀ s₁.1 s₁.1 := Keeps.refl s₁.1; try dsimp +zetaDelta only) | extract_lets | split | dsimp +zetaDelta only)

theorem keeps_execHandoverSend {m₀ : Bool} {s₀ : State} {t : Nat} : KeepsNext m₀ (execHandoverSend t s₀) s₀ := by
  have h₀ : Keeps m₀ s₀ s₀ := Keeps.refl s₀
  unfold execHandoverSend
  try extract_lets
  repeat' (first | with_reducible apply KeepsNext.next | with_reducible apply KeepsNext.fault | with_reducible apply KeepsNext.ite | with_reducible assumption | with_reducible apply keeps_State_modXfer | with_reducible apply keeps_State_sendP | with_reducible apply keeps_clearMons | (fail_if_no_progress (with_reducible apply Keeps.upd) <;> first | with_reducible rfl | with_reducible exact fun x => x | with_reducible exact fun _ => ⟨rfl, rfl, rfl, rfl⟩ | with_reducible exact fun x => absurd x Bool.false_ne_true | with_reducible exact KV.set_wf _ _ _ | with_reducible exact KV.put_wf _ _ | with_reducible exact KV.filter_wf _ | with_reducible exact List.prefix_rfl | with_reducible exact List.prefix_append _ _ | with_reducible exact KV.map_wf (fun _ => rfl) | with_reducible exact fun _ => KV.foldl_set_wf _ _ _ rfl | (simp; done) | skip) | with_reducible apply Keeps.ite | with_reducible apply Keeps.ite1 | (with_reducible apply Keeps.foldl; intro s₁ x₁; have h₁ : Keeps m₀ s₁ s₁ := Keeps.refl s₁; try dsimp +zetaDelta only) | (with_reducible apply Keeps.foldl1; intro s₁ x₁; have h₁ : Keeps m₀ s₁.1 s₁.1 := Keeps.refl s₁.1; try dsimp +zetaDelta only) | extract_lets | split | dsimp +zetaDelta only)

theorem keeps_execHoldQuiesced {m₀ : Bool} {s₀ : State}  : KeepsNext m₀ (execHoldQuiesced s₀) s₀ := by
  have h₀ : Keeps m₀ s₀ s₀ := Keeps.refl s₀
  unfold execHoldQuiesced
  try extract_lets
  repeat' (first | with_reducible apply KeepsNext.next | with_reducible apply KeepsNext.fault | with_reducible apply KeepsNext.ite | with_reducible assumption | with_reducible apply keeps_askMargin | (fail_if_no_progress (with_reducible apply Keeps.upd) <;> first | with_reducible rfl | with_reducible exact fun x => x | with_reducible exact fun _ => ⟨rfl, rfl, rfl, rfl⟩ | with_reducible exact fun x => absurd x Bool.false_ne_true | with_reducible exact KV.set_wf _ _ _ | with_reducible exact KV.put_wf _ _ | with_reducible exact KV.filter_wf _ | with_reducible exact List.prefix_rfl | with_reducible exact List.prefix_append _ _ | with_reducible exact KV.map_wf (fun _ => rfl) | with_reducible exact fun _ => KV.foldl_set_wf _ _ _ rfl | (simp; done) | skip) | with_reducible apply Keeps.ite | with_reducible apply Keeps.ite1 | (with_reducible apply Keeps.foldl; intro s₁ x₁; have h₁ : Keeps m₀ s₁ s₁ := Keeps.refl s₁; try dsimp +zetaDelta only) | (with_reducible apply Keeps.foldl1; intro s₁ x₁; have h₁ : Keeps m₀ s₁.1 s₁.1 := Keeps.refl s₁.1; try dsimp +zetaDelta only) | extract_lets | split | dsimp +zetaDelta only)

theorem keeps_execIdentify {m₀ : Bool} {s₀ : State} {h : Sys2Proof.Teller} : KeepsNext m₀ (execIdentify h s₀) s₀ := by
  have h₀ : Keeps m₀ s₀ s₀ := Keeps.refl s₀
  unfold execIdentify
  try extract_lets
  repeat' (first | with_reducible apply KeepsNext.next | with_reducible apply KeepsNext.fault | with_reducible apply KeepsNext.ite | with_reducible assumption | with_reducible apply keeps_teller | (fail_if_no_progress (with_reducible apply Keeps.upd) <;> first | with_reducible rfl | with_reducible exact fun x => x | with_reducible exact fun _ => ⟨rfl, rfl, rfl, rfl⟩ | with_reducible exact fun x => absurd x Bool.false_ne_true | with_reducible exact KV.set_wf _ _ _ | with_reducible exact KV.put_wf _ _ | with_reducible exact KV.filter_wf _ | with_reducible exact List.prefix_rfl | with_reducible exact List.prefix_append _ _ | with_reducible exact KV.map_wf (fun _ => rfl) | with_reducible exact fun _ => KV.foldl_set_wf _ _ _ rfl | (simp; done) | skip) | with_reducible apply Keeps.ite | with_reducible apply Keeps.ite1 | (with_reducible apply Keeps.foldl; intro s₁ x₁; have h₁ : Keeps m₀ s₁ s₁ := Keeps.refl s₁; try dsimp +zetaDelta only) | (with_reducible apply Keeps.foldl1; intro s₁ x₁; have h₁ : Keeps m₀ s₁.1 s₁.1 := Keeps.refl s₁.1; try dsimp +zetaDelta only) | extract_lets | split | dsimp +zetaDelta only)

theorem keeps_execInject {m₀ : Bool} {s₀ : State} {h : Sys2Proof.Teller} : KeepsNext m₀ (execInject h s₀) s₀ := by
  have h₀ : Keeps m₀ s₀ s₀ := Keeps.refl s₀
  unfold execInject
  try extract_lets
  repeat' (first | with_reducible apply KeepsNext.next | with_reducible apply KeepsNext.fault | with_reducible apply KeepsNext.ite | with_reducible assumption | with_reducible apply keeps_teller | (fail_if_no_progress (with_reducible apply Keeps.upd) <;> first | with_reducible rfl | with_reducible exact fun x => x | with_reducible exact fun _ => ⟨rfl, rfl, rfl, rfl⟩ | with_reducible exact fun x => absurd x Bool.false_ne_true | with_reducible exact KV.set_wf _ _ _ | with_reducible exact KV.put_wf _ _ | with_reducible exact KV.filter_wf _ | with_reducible exact List.prefix_rfl | with_reducible exact List.prefix_append _ _ | with_reducible exact KV.map_wf (fun _ => rfl) | with_reducible exact fun _ => KV.foldl_set_wf _ _ _ rfl | (simp; done) | skip) | with_reducible apply Keeps.ite | with_reducible apply Keeps.ite1 | (with_reducible apply Keeps.foldl; intro s₁ x₁; have h₁ : Keeps m₀ s₁ s₁ := Keeps.refl s₁; try dsimp +zetaDelta only) | (with_reducible apply Keeps.foldl1; intro s₁ x₁; have h₁ : Keeps m₀ s₁.1 s₁.1 := Keeps.refl s₁.1; try dsimp +zetaDelta only) | extract_lets | split | dsimp +zetaDelta only)

theorem keeps_execJnDataRead {m₀ : Bool} {s₀ : State} {k : Nat} : KeepsNext m₀ (execJnDataRead k s₀) s₀ := by
  have h₀ : Keeps m₀ s₀ s₀ := Keeps.refl s₀
  unfold execJnDataRead
  try extract_lets
  repeat' (first | with_reducible apply KeepsNext.next | with_reducible apply KeepsNext.fault | with_reducible apply KeepsNext.ite | with_reducible assumption | with_reducible apply keeps_windowRead | (fail_if_no_progress (with_reducible apply Keeps.upd) <;> first | with_reducible rfl | with_reducible exact fun x => x | with_reducible exact fun _ => ⟨rfl, rfl, rfl, rfl⟩ | with_reducible exact fun x => absurd x Bool.false_ne_true | with_reducible exact KV.set_wf _ _ _ | with_reducible exact KV.put_wf _ _ | with_reducible exact KV.filter_wf _ | with_reducible exact List.prefix_rfl | with_reducible exact List.prefix_append _ _ | with_reducible exact KV.map_wf (fun _ => rfl) | with_reducible exact fun _ => KV.foldl_set_wf _ _ _ rfl | (simp; done) | skip) | with_reducible apply Keeps.ite | with_reducible apply Keeps.ite1 | (with_reducible apply Keeps.foldl; intro s₁ x₁; have h₁ : Keeps m₀ s₁ s₁ := Keeps.refl s₁; try dsimp +zetaDelta only) | (with_reducible apply Keeps.foldl1; intro s₁ x₁; have h₁ : Keeps m₀ s₁.1 s₁.1 := Keeps.refl s₁.1; try dsimp +zetaDelta only) | extract_lets | split | dsimp +zetaDelta only)

theorem keeps_execJoin {m₀ : Bool} {s₀ : State} {n : Nat} : KeepsNext m₀ (execJoin n s₀) s₀ := by
  have h₀ : Keeps m₀ s₀ s₀ := Keeps.refl s₀
  unfold execJoin
  try extract_lets
  repeat' (first | with_reducible apply KeepsNext.next | with_reducible apply KeepsNext.fault | with_reducible apply KeepsNext.ite | with_reducible assumption | with_reducible apply keeps_chartCmd | with_reducible apply keeps_chartCmd | (fail_if_no_progress (with_reducible apply Keeps.upd) <;> first | with_reducible rfl | with_reducible exact fun x => x | with_reducible exact fun _ => ⟨rfl, rfl, rfl, rfl⟩ | with_reducible exact fun x => absurd x Bool.false_ne_true | with_reducible exact KV.set_wf _ _ _ | with_reducible exact KV.put_wf _ _ | with_reducible exact KV.filter_wf _ | with_reducible exact List.prefix_rfl | with_reducible exact List.prefix_append _ _ | with_reducible exact KV.map_wf (fun _ => rfl) | with_reducible exact fun _ => KV.foldl_set_wf _ _ _ rfl | (simp; done) | skip) | with_reducible apply Keeps.ite | with_reducible apply Keeps.ite1 | (with_reducible apply Keeps.foldl; intro s₁ x₁; have h₁ : Keeps m₀ s₁ s₁ := Keeps.refl s₁; try dsimp +zetaDelta only) | (with_reducible apply Keeps.foldl1; intro s₁ x₁; have h₁ : Keeps m₀ s₁.1 s₁.1 := Keeps.refl s₁.1; try dsimp +zetaDelta only) | extract_lets | split | dsimp +zetaDelta only)

theorem keeps_execJournalPointer {m₀ : Bool} {s₀ : State} {k : Nat} : KeepsNext m₀ (execJournalPointer k s₀) s₀ := by
  have h₀ : Keeps m₀ s₀ s₀ := Keeps.refl s₀
  unfold execJournalPointer
  try extract_lets
  repeat' (first | with_reducible apply KeepsNext.next | with_reducible apply KeepsNext.fault | with_reducible apply KeepsNext.ite | with_reducible assumption | with_reducible apply keeps_resetPointers | (fail_if_no_progress (with_reducible apply Keeps.upd) <;> first | with_reducible rfl | with_reducible exact fun x => x | with_reducible exact fun _ => ⟨rfl, rfl, rfl, rfl⟩ | with_reducible exact fun x => absurd x Bool.false_ne_true | with_reducible exact KV.set_wf _ _ _ | with_reducible exact KV.put_wf _ _ | with_reducible exact KV.filter_wf _ | with_reducible exact List.prefix_rfl | with_reducible exact List.prefix_append _ _ | with_reducible exact KV.map_wf (fun _ => rfl) | with_reducible exact fun _ => KV.foldl_set_wf _ _ _ rfl | (simp; done) | skip) | with_reducible apply Keeps.ite | with_reducible apply Keeps.ite1 | (with_reducible apply Keeps.foldl; intro s₁ x₁; have h₁ : Keeps m₀ s₁ s₁ := Keeps.refl s₁; try dsimp +zetaDelta only) | (with_reducible apply Keeps.foldl1; intro s₁ x₁; have h₁ : Keeps m₀ s₁.1 s₁.1 := Keeps.refl s₁.1; try dsimp +zetaDelta only) | extract_lets | split | dsimp +zetaDelta only)

theorem keeps_execJournalRead {m₀ : Bool} {s₀ : State} {h : Sys2Proof.Teller} : KeepsNext m₀ (execJournalRead h s₀) s₀ := by
  have h₀ : Keeps m₀ s₀ s₀ := Keeps.refl s₀
  unfold execJournalRead
  try extract_lets
  repeat' (first | with_reducible apply KeepsNext.next | with_reducible apply KeepsNext.fault | with_reducible apply KeepsNext.ite | with_reducible assumption | with_reducible apply keeps_teller | (fail_if_no_progress (with_reducible apply Keeps.upd) <;> first | with_reducible rfl | with_reducible exact fun x => x | with_reducible exact fun _ => ⟨rfl, rfl, rfl, rfl⟩ | with_reducible exact fun x => absurd x Bool.false_ne_true | with_reducible exact KV.set_wf _ _ _ | with_reducible exact KV.put_wf _ _ | with_reducible exact KV.filter_wf _ | with_reducible exact List.prefix_rfl | with_reducible exact List.prefix_append _ _ | with_reducible exact KV.map_wf (fun _ => rfl) | with_reducible exact fun _ => KV.foldl_set_wf _ _ _ rfl | (simp; done) | skip) | with_reducible apply Keeps.ite | with_reducible apply Keeps.ite1 | (with_reducible apply Keeps.foldl; intro s₁ x₁; have h₁ : Keeps m₀ s₁ s₁ := Keeps.refl s₁; try dsimp +zetaDelta only) | (with_reducible apply Keeps.foldl1; intro s₁ x₁; have h₁ : Keeps m₀ s₁.1 s₁.1 := Keeps.refl s₁.1; try dsimp +zetaDelta only) | extract_lets | split | dsimp +zetaDelta only)

theorem keeps_execLeaseExpiry {m₀ : Bool} {s₀ : State} {t : Nat} {i : Nat} : KeepsNext m₀ (execLeaseExpiry t i s₀) s₀ := by
  have h₀ : Keeps m₀ s₀ s₀ := Keeps.refl s₀
  unfold execLeaseExpiry
  try extract_lets
  repeat' (first | with_reducible apply KeepsNext.next | with_reducible apply KeepsNext.fault | with_reducible apply KeepsNext.ite | with_reducible assumption | with_reducible apply keeps_expire | with_reducible apply keeps_worked | (fail_if_no_progress (with_reducible apply Keeps.upd) <;> first | with_reducible rfl | with_reducible exact fun x => x | with_reducible exact fun _ => ⟨rfl, rfl, rfl, rfl⟩ | with_reducible exact fun x => absurd x Bool.false_ne_true | with_reducible exact KV.set_wf _ _ _ | with_reducible exact KV.put_wf _ _ | with_reducible exact KV.filter_wf _ | with_reducible exact List.prefix_rfl | with_reducible exact List.prefix_append _ _ | with_reducible exact KV.map_wf (fun _ => rfl) | with_reducible exact fun _ => KV.foldl_set_wf _ _ _ rfl | (simp; done) | skip) | with_reducible apply Keeps.ite | with_reducible apply Keeps.ite1 | (with_reducible apply Keeps.foldl; intro s₁ x₁; have h₁ : Keeps m₀ s₁ s₁ := Keeps.refl s₁; try dsimp +zetaDelta only) | (with_reducible apply Keeps.foldl1; intro s₁ x₁; have h₁ : Keeps m₀ s₁.1 s₁.1 := Keeps.refl s₁.1; try dsimp +zetaDelta only) | extract_lets | split | dsimp +zetaDelta only)

theorem keeps_execLeave {m₀ : Bool} {s₀ : State} {n : Nat} : KeepsNext m₀ (execLeave n s₀) s₀ := by
  have h₀ : Keeps m₀ s₀ s₀ := Keeps.refl s₀
  unfold execLeave
  try extract_lets
  repeat' (first | with_reducible apply KeepsNext.next | with_reducible apply KeepsNext.fault | with_reducible apply KeepsNext.ite | with_reducible assumption | with_reducible apply keeps_chartCmd | with_reducible apply keeps_chartCmd | (fail_if_no_progress (with_reducible apply Keeps.upd) <;> first | with_reducible rfl | with_reducible exact fun x => x | with_reducible exact fun _ => ⟨rfl, rfl, rfl, rfl⟩ | with_reducible exact fun x => absurd x Bool.false_ne_true | with_reducible exact KV.set_wf _ _ _ | with_reducible exact KV.put_wf _ _ | with_reducible exact KV.filter_wf _ | with_reducible exact List.prefix_rfl | with_reducible exact List.prefix_append _ _ | with_reducible exact KV.map_wf (fun _ => rfl) | with_reducible exact fun _ => KV.foldl_set_wf _ _ _ rfl | (simp; done) | skip) | with_reducible apply Keeps.ite | with_reducible apply Keeps.ite1 | (with_reducible apply Keeps.foldl; intro s₁ x₁; have h₁ : Keeps m₀ s₁ s₁ := Keeps.refl s₁; try dsimp +zetaDelta only) | (with_reducible apply Keeps.foldl1; intro s₁ x₁; have h₁ : Keeps m₀ s₁.1 s₁.1 := Keeps.refl s₁.1; try dsimp +zetaDelta only) | extract_lets | split | dsimp +zetaDelta only)

theorem keeps_execLeaveWalk {m₀ : Bool} {s₀ : State} {t : Nat} {pos : Sys2Proof.WalkAt} : KeepsNext m₀ (execLeaveWalk t pos s₀) s₀ := by
  have h₀ : Keeps m₀ s₀ s₀ := Keeps.refl s₀
  unfold execLeaveWalk
  try extract_lets
  repeat' (first | with_reducible apply KeepsNext.next | with_reducible apply KeepsNext.fault | with_reducible apply KeepsNext.ite | with_reducible assumption | with_reducible apply keeps_settleFails | with_reducible apply keeps_walkVisit | (fail_if_no_progress (with_reducible apply Keeps.upd) <;> first | with_reducible rfl | with_reducible exact fun x => x | with_reducible exact fun _ => ⟨rfl, rfl, rfl, rfl⟩ | with_reducible exact fun x => absurd x Bool.false_ne_true | with_reducible exact KV.set_wf _ _ _ | with_reducible exact KV.put_wf _ _ | with_reducible exact KV.filter_wf _ | with_reducible exact List.prefix_rfl | with_reducible exact List.prefix_append _ _ | with_reducible exact KV.map_wf (fun _ => rfl) | with_reducible exact fun _ => KV.foldl_set_wf _ _ _ rfl | (simp; done) | skip) | with_reducible apply Keeps.ite | with_reducible apply Keeps.ite1 | (with_reducible apply Keeps.foldl; intro s₁ x₁; have h₁ : Keeps m₀ s₁ s₁ := Keeps.refl s₁; try dsimp +zetaDelta only) | (with_reducible apply Keeps.foldl1; intro s₁ x₁; have h₁ : Keeps m₀ s₁.1 s₁.1 := Keeps.refl s₁.1; try dsimp +zetaDelta only) | extract_lets | split | dsimp +zetaDelta only)

theorem keeps_execLinkDown {m₀ : Bool} {s₀ : State} {w : Nat} {a : Sys2Proof.Aid} : KeepsNext m₀ (execLinkDown w a s₀) s₀ := by
  have h₀ : Keeps m₀ s₀ s₀ := Keeps.refl s₀
  unfold execLinkDown
  try extract_lets
  repeat' (first | with_reducible apply KeepsNext.next | with_reducible apply KeepsNext.fault | with_reducible apply KeepsNext.ite | with_reducible assumption | with_reducible apply keeps_linkReport | with_reducible apply keeps_linkReport | (fail_if_no_progress (with_reducible apply Keeps.upd) <;> first | with_reducible rfl | with_reducible exact fun x => x | with_reducible exact fun _ => ⟨rfl, rfl, rfl, rfl⟩ | with_reducible exact fun x => absurd x Bool.false_ne_true | with_reducible exact KV.set_wf _ _ _ | with_reducible exact KV.put_wf _ _ | with_reducible exact KV.filter_wf _ | with_reducible exact List.prefix_rfl | with_reducible exact List.prefix_append _ _ | with_reducible exact KV.map_wf (fun _ => rfl) | with_reducible exact fun _ => KV.foldl_set_wf _ _ _ rfl | (simp; done) | skip) | with_reducible apply Keeps.ite | with_reducible apply Keeps.ite1 | (with_reducible apply Keeps.foldl; intro s₁ x₁; have h₁ : Keeps m₀ s₁ s₁ := Keeps.refl s₁; try dsimp +zetaDelta only) | (with_reducible apply Keeps.foldl1; intro s₁ x₁; have h₁ : Keeps m₀ s₁.1 s₁.1 := Keeps.refl s₁.1; try dsimp +zetaDelta only) | extract_lets | split | dsimp +zetaDelta only)

theorem keeps_execLinkFlitError {s₀ : State} {l : Nat} {half : Nat} {e : Sys2Proof.LinkEvent} : KeepsNext false (execLinkFlitError l half e s₀) s₀ := by
  have h₀ : Keeps false s₀ s₀ := Keeps.refl s₀
  unfold execLinkFlitError
  try extract_lets
  repeat' (first | with_reducible apply KeepsNext.next | with_reducible apply KeepsNext.fault | with_reducible apply KeepsNext.ite | with_reducible assumption | with_reducible apply keeps_linkError | (fail_if_no_progress (with_reducible apply Keeps.upd) <;> first | with_reducible rfl | with_reducible exact fun x => x | with_reducible exact fun _ => ⟨rfl, rfl, rfl, rfl⟩ | with_reducible exact fun x => absurd x Bool.false_ne_true | with_reducible exact KV.set_wf _ _ _ | with_reducible exact KV.put_wf _ _ | with_reducible exact KV.filter_wf _ | with_reducible exact List.prefix_rfl | with_reducible exact List.prefix_append _ _ | with_reducible exact KV.map_wf (fun _ => rfl) | with_reducible exact fun _ => KV.foldl_set_wf _ _ _ rfl | (simp; done) | skip) | with_reducible apply Keeps.ite | with_reducible apply Keeps.ite1 | (with_reducible apply Keeps.foldl; intro s₁ x₁; have h₁ : Keeps false s₁ s₁ := Keeps.refl s₁; try dsimp +zetaDelta only) | (with_reducible apply Keeps.foldl1; intro s₁ x₁; have h₁ : Keeps false s₁.1 s₁.1 := Keeps.refl s₁.1; try dsimp +zetaDelta only) | extract_lets | split | dsimp +zetaDelta only)

theorem keeps_execLinkReset {m₀ : Bool} {s₀ : State} {w : Nat} : KeepsNext m₀ (execLinkReset w s₀) s₀ := by
  have h₀ : Keeps m₀ s₀ s₀ := Keeps.refl s₀
  unfold execLinkReset
  try extract_lets
  repeat' (first | with_reducible apply KeepsNext.next | with_reducible apply KeepsNext.fault | with_reducible apply KeepsNext.ite | with_reducible assumption | with_reducible apply keeps_linkReport | with_reducible apply keeps_linkReport | (fail_if_no_progress (with_reducible apply Keeps.upd) <;> first | with_reducible rfl | with_reducible exact fun x => x | with_reducible exact fun _ => ⟨rfl, rfl, rfl, rfl⟩ | with_reducible exact fun x => absurd x Bool.false_ne_true | with_reducible exact KV.set_wf _ _ _ | with_reducible exact KV.put_wf _ _ | with_reducible exact KV.filter_wf _ | with_reducible exact List.prefix_rfl | with_reducible exact List.prefix_append _ _ | with_reducible exact KV.map_wf (fun _ => rfl) | with_reducible exact fun _ => KV.foldl_set_wf _ _ _ rfl | (simp; done) | skip) | with_reducible apply Keeps.ite | with_reducible apply Keeps.ite1 | (with_reducible apply Keeps.foldl; intro s₁ x₁; have h₁ : Keeps m₀ s₁ s₁ := Keeps.refl s₁; try dsimp +zetaDelta only) | (with_reducible apply Keeps.foldl1; intro s₁ x₁; have h₁ : Keeps m₀ s₁.1 s₁.1 := Keeps.refl s₁.1; try dsimp +zetaDelta only) | extract_lets | split | dsimp +zetaDelta only)

theorem keeps_execLinkUp {m₀ : Bool} {s₀ : State} {w : Nat} {a : Sys2Proof.Aid} {resetSeen : Bool} {identity : Sys2Proof.Word} : KeepsNext m₀ (execLinkUp w a resetSeen identity s₀) s₀ := by
  have h₀ : Keeps m₀ s₀ s₀ := Keeps.refl s₀
  unfold execLinkUp
  try extract_lets
  repeat' (first | with_reducible apply KeepsNext.next | with_reducible apply KeepsNext.fault | with_reducible apply KeepsNext.ite | with_reducible assumption | with_reducible apply keeps_linkReport | with_reducible apply keeps_linkReport | (fail_if_no_progress (with_reducible apply Keeps.upd) <;> first | with_reducible rfl | with_reducible exact fun x => x | with_reducible exact fun _ => ⟨rfl, rfl, rfl, rfl⟩ | with_reducible exact fun x => absurd x Bool.false_ne_true | with_reducible exact KV.set_wf _ _ _ | with_reducible exact KV.put_wf _ _ | with_reducible exact KV.filter_wf _ | with_reducible exact List.prefix_rfl | with_reducible exact List.prefix_append _ _ | with_reducible exact KV.map_wf (fun _ => rfl) | with_reducible exact fun _ => KV.foldl_set_wf _ _ _ rfl | (simp; done) | skip) | with_reducible apply Keeps.ite | with_reducible apply Keeps.ite1 | (with_reducible apply Keeps.foldl; intro s₁ x₁; have h₁ : Keeps m₀ s₁ s₁ := Keeps.refl s₁; try dsimp +zetaDelta only) | (with_reducible apply Keeps.foldl1; intro s₁ x₁; have h₁ : Keeps m₀ s₁.1 s₁.1 := Keeps.refl s₁.1; try dsimp +zetaDelta only) | extract_lets | split | dsimp +zetaDelta only)

theorem keeps_execLoanGrant {m₀ : Bool} {s₀ : State} {w : Nat} {t : Nat} : KeepsNext m₀ (execLoanGrant w t s₀) s₀ := by
  have h₀ : Keeps m₀ s₀ s₀ := Keeps.refl s₀
  unfold execLoanGrant
  try extract_lets
  repeat' (first | with_reducible apply KeepsNext.next | with_reducible apply KeepsNext.fault | with_reducible apply KeepsNext.ite | with_reducible assumption | with_reducible apply keeps_State_modWicket | with_reducible apply keeps_State_popP | (fail_if_no_progress (with_reducible apply Keeps.upd) <;> first | with_reducible rfl | with_reducible exact fun x => x | with_reducible exact fun _ => ⟨rfl, rfl, rfl, rfl⟩ | with_reducible exact fun x => absurd x Bool.false_ne_true | with_reducible exact KV.set_wf _ _ _ | with_reducible exact KV.put_wf _ _ | with_reducible exact KV.filter_wf _ | with_reducible exact List.prefix_rfl | with_reducible exact List.prefix_append _ _ | with_reducible exact KV.map_wf (fun _ => rfl) | with_reducible exact fun _ => KV.foldl_set_wf _ _ _ rfl | (simp; done) | skip) | with_reducible apply Keeps.ite | with_reducible apply Keeps.ite1 | (with_reducible apply Keeps.foldl; intro s₁ x₁; have h₁ : Keeps m₀ s₁ s₁ := Keeps.refl s₁; try dsimp +zetaDelta only) | (with_reducible apply Keeps.foldl1; intro s₁ x₁; have h₁ : Keeps m₀ s₁.1 s₁.1 := Keeps.refl s₁.1; try dsimp +zetaDelta only) | extract_lets | split | dsimp +zetaDelta only)

theorem keeps_execLoanIdle {m₀ : Bool} {s₀ : State} {w : Nat} {t : Nat} : KeepsNext m₀ (execLoanIdle w t s₀) s₀ := by
  have h₀ : Keeps m₀ s₀ s₀ := Keeps.refl s₀
  unfold execLoanIdle
  try extract_lets
  repeat' (first | with_reducible apply KeepsNext.next | with_reducible apply KeepsNext.fault | with_reducible apply KeepsNext.ite | with_reducible assumption | with_reducible apply keeps_returnLoan | with_reducible apply keeps_serveLoans | (fail_if_no_progress (with_reducible apply Keeps.upd) <;> first | with_reducible rfl | with_reducible exact fun x => x | with_reducible exact fun _ => ⟨rfl, rfl, rfl, rfl⟩ | with_reducible exact fun x => absurd x Bool.false_ne_true | with_reducible exact KV.set_wf _ _ _ | with_reducible exact KV.put_wf _ _ | with_reducible exact KV.filter_wf _ | with_reducible exact List.prefix_rfl | with_reducible exact List.prefix_append _ _ | with_reducible exact KV.map_wf (fun _ => rfl) | with_reducible exact fun _ => KV.foldl_set_wf _ _ _ rfl | (simp; done) | skip) | with_reducible apply Keeps.ite | with_reducible apply Keeps.ite1 | (with_reducible apply Keeps.foldl; intro s₁ x₁; have h₁ : Keeps m₀ s₁ s₁ := Keeps.refl s₁; try dsimp +zetaDelta only) | (with_reducible apply Keeps.foldl1; intro s₁ x₁; have h₁ : Keeps m₀ s₁.1 s₁.1 := Keeps.refl s₁.1; try dsimp +zetaDelta only) | extract_lets | split | dsimp +zetaDelta only)

theorem keeps_execLoanRequest {m₀ : Bool} {s₀ : State} {t : Nat} {w : Nat} : KeepsNext m₀ (execLoanRequest t w s₀) s₀ := by
  have h₀ : Keeps m₀ s₀ s₀ := Keeps.refl s₀
  unfold execLoanRequest
  try extract_lets
  repeat' (first | with_reducible apply KeepsNext.next | with_reducible apply KeepsNext.fault | with_reducible apply KeepsNext.ite | with_reducible assumption | with_reducible apply keeps_State_modTill | with_reducible apply keeps_State_popW | with_reducible apply keeps_serveLoans | with_reducible apply keeps_worked | (fail_if_no_progress (with_reducible apply Keeps.upd) <;> first | with_reducible rfl | with_reducible exact fun x => x | with_reducible exact fun _ => ⟨rfl, rfl, rfl, rfl⟩ | with_reducible exact fun x => absurd x Bool.false_ne_true | with_reducible exact KV.set_wf _ _ _ | with_reducible exact KV.put_wf _ _ | with_reducible exact KV.filter_wf _ | with_reducible exact List.prefix_rfl | with_reducible exact List.prefix_append _ _ | with_reducible exact KV.map_wf (fun _ => rfl) | with_reducible exact fun _ => KV.foldl_set_wf _ _ _ rfl | (simp; done) | skip) | with_reducible apply Keeps.ite | with_reducible apply Keeps.ite1 | (with_reducible apply Keeps.foldl; intro s₁ x₁; have h₁ : Keeps m₀ s₁ s₁ := Keeps.refl s₁; try dsimp +zetaDelta only) | (with_reducible apply Keeps.foldl1; intro s₁ x₁; have h₁ : Keeps m₀ s₁.1 s₁.1 := Keeps.refl s₁.1; try dsimp +zetaDelta only) | extract_lets | split | dsimp +zetaDelta only)

theorem keeps_execLockClose {m₀ : Bool} {s₀ : State} {h : Sys2Proof.Teller} : KeepsNext m₀ (execLockClose h s₀) s₀ := by
  have h₀ : Keeps m₀ s₀ s₀ := Keeps.refl s₀
  unfold execLockClose
  try extract_lets
  repeat' (first | with_reducible apply KeepsNext.next | with_reducible apply KeepsNext.fault | with_reducible apply KeepsNext.ite | with_reducible assumption | with_reducible apply keeps_teller | (fail_if_no_progress (with_reducible apply Keeps.upd) <;> first | with_reducible rfl | with_reducible exact fun x => x | with_reducible exact fun _ => ⟨rfl, rfl, rfl, rfl⟩ | with_reducible exact fun x => absurd x Bool.false_ne_true | with_reducible exact KV.set_wf _ _ _ | with_reducible exact KV.put_wf _ _ | with_reducible exact KV.filter_wf _ | with_reducible exact List.prefix_rfl | with_reducible exact List.prefix_append _ _ | with_reducible exact KV.map_wf (fun _ => rfl) | with_reducible exact fun _ => KV.foldl_set_wf _ _ _ rfl | (simp; done) | skip) | with_reducible apply Keeps.ite | with_reducible apply Keeps.ite1 | (with_reducible apply Keeps.foldl; intro s₁ x₁; have h₁ : Keeps m₀ s₁ s₁ := Keeps.refl s₁; try dsimp +zetaDelta only) | (with_reducible apply Keeps.foldl1; intro s₁ x₁; have h₁ : Keeps m₀ s₁.1 s₁.1 := Keeps.refl s₁.1; try dsimp +zetaDelta only) | extract_lets | split | dsimp +zetaDelta only)

theorem keeps_execLockOpen {m₀ : Bool} {s₀ : State} {h : Sys2Proof.Teller} : KeepsNext m₀ (execLockOpen h s₀) s₀ := by
  have h₀ : Keeps m₀ s₀ s₀ := Keeps.refl s₀
  unfold execLockOpen
  try extract_lets
  repeat' (first | with_reducible apply KeepsNext.next | with_reducible apply KeepsNext.fault | with_reducible apply KeepsNext.ite | with_reducible assumption | with_reducible apply keeps_teller | (fail_if_no_progress (with_reducible apply Keeps.upd) <;> first | with_reducible rfl | with_reducible exact fun x => x | with_reducible exact fun _ => ⟨rfl, rfl, rfl, rfl⟩ | with_reducible exact fun x => absurd x Bool.false_ne_true | with_reducible exact KV.set_wf _ _ _ | with_reducible exact KV.put_wf _ _ | with_reducible exact KV.filter_wf _ | with_reducible exact List.prefix_rfl | with_reducible exact List.prefix_append _ _ | with_reducible exact KV.map_wf (fun _ => rfl) | with_reducible exact fun _ => KV.foldl_set_wf _ _ _ rfl | (simp; done) | skip) | with_reducible apply Keeps.ite | with_reducible apply Keeps.ite1 | (with_reducible apply Keeps.foldl; intro s₁ x₁; have h₁ : Keeps m₀ s₁ s₁ := Keeps.refl s₁; try dsimp +zetaDelta only) | (with_reducible apply Keeps.foldl1; intro s₁ x₁; have h₁ : Keeps m₀ s₁.1 s₁.1 := Keeps.refl s₁.1; try dsimp +zetaDelta only) | extract_lets | split | dsimp +zetaDelta only)

theorem keeps_execLostWritesClear {m₀ : Bool} {s₀ : State}  : KeepsNext m₀ (execLostWritesClear s₀) s₀ := by
  have h₀ : Keeps m₀ s₀ s₀ := Keeps.refl s₀
  unfold execLostWritesClear
  try extract_lets
  repeat' (first | with_reducible apply KeepsNext.next | with_reducible apply KeepsNext.fault | with_reducible apply KeepsNext.ite | with_reducible assumption | with_reducible apply keeps_chartCmd | with_reducible apply keeps_chartCmd | (fail_if_no_progress (with_reducible apply Keeps.upd) <;> first | with_reducible rfl | with_reducible exact fun x => x | with_reducible exact fun _ => ⟨rfl, rfl, rfl, rfl⟩ | with_reducible exact fun x => absurd x Bool.false_ne_true | with_reducible exact KV.set_wf _ _ _ | with_reducible exact KV.put_wf _ _ | with_reducible exact KV.filter_wf _ | with_reducible exact List.prefix_rfl | with_reducible exact List.prefix_append _ _ | with_reducible exact KV.map_wf (fun _ => rfl) | with_reducible exact fun _ => KV.foldl_set_wf _ _ _ rfl | (simp; done) | skip) | with_reducible apply Keeps.ite | with_reducible apply Keeps.ite1 | (with_reducible apply Keeps.foldl; intro s₁ x₁; have h₁ : Keeps m₀ s₁ s₁ := Keeps.refl s₁; try dsimp +zetaDelta only) | (with_reducible apply Keeps.foldl1; intro s₁ x₁; have h₁ : Keeps m₀ s₁.1 s₁.1 := Keeps.refl s₁.1; try dsimp +zetaDelta only) | extract_lets | split | dsimp +zetaDelta only)

theorem keeps_execMarginAck {m₀ : Bool} {s₀ : State} {id : BitVec 8} {mv : BitVec 14} {mhz : BitVec 12} : KeepsNext m₀ (execMarginAck id mv mhz s₀) s₀ := by
  have h₀ : Keeps m₀ s₀ s₀ := Keeps.refl s₀
  unfold execMarginAck
  try extract_lets
  repeat' (first | with_reducible apply KeepsNext.next | with_reducible apply KeepsNext.fault | with_reducible apply KeepsNext.ite | with_reducible assumption | with_reducible apply keeps_granted | with_reducible apply keeps_replayAll | (fail_if_no_progress (with_reducible apply Keeps.upd) <;> first | with_reducible rfl | with_reducible exact fun x => x | with_reducible exact fun _ => ⟨rfl, rfl, rfl, rfl⟩ | with_reducible exact fun x => absurd x Bool.false_ne_true | with_reducible exact KV.set_wf _ _ _ | with_reducible exact KV.put_wf _ _ | with_reducible exact KV.filter_wf _ | with_reducible exact List.prefix_rfl | with_reducible exact List.prefix_append _ _ | with_reducible exact KV.map_wf (fun _ => rfl) | with_reducible exact fun _ => KV.foldl_set_wf _ _ _ rfl | (simp; done) | skip) | with_reducible apply Keeps.ite | with_reducible apply Keeps.ite1 | (with_reducible apply Keeps.foldl; intro s₁ x₁; have h₁ : Keeps m₀ s₁ s₁ := Keeps.refl s₁; try dsimp +zetaDelta only) | (with_reducible apply Keeps.foldl1; intro s₁ x₁; have h₁ : Keeps m₀ s₁.1 s₁.1 := Keeps.refl s₁.1; try dsimp +zetaDelta only) | extract_lets | split | dsimp +zetaDelta only)

theorem keeps_execMarginTimeout {m₀ : Bool} {s₀ : State}  : KeepsNext m₀ (execMarginTimeout s₀) s₀ := by
  have h₀ : Keeps m₀ s₀ s₀ := Keeps.refl s₀
  unfold execMarginTimeout
  try extract_lets
  repeat' (first | with_reducible apply KeepsNext.next | with_reducible apply KeepsNext.fault | with_reducible apply KeepsNext.ite | with_reducible assumption | with_reducible apply keeps_State_bump | with_reducible apply keeps_State_note | with_reducible apply keeps_askMargin | (fail_if_no_progress (with_reducible apply Keeps.upd) <;> first | with_reducible rfl | with_reducible exact fun x => x | with_reducible exact fun _ => ⟨rfl, rfl, rfl, rfl⟩ | with_reducible exact fun x => absurd x Bool.false_ne_true | with_reducible exact KV.set_wf _ _ _ | with_reducible exact KV.put_wf _ _ | with_reducible exact KV.filter_wf _ | with_reducible exact List.prefix_rfl | with_reducible exact List.prefix_append _ _ | with_reducible exact KV.map_wf (fun _ => rfl) | with_reducible exact fun _ => KV.foldl_set_wf _ _ _ rfl | (simp; done) | skip) | with_reducible apply Keeps.ite | with_reducible apply Keeps.ite1 | (with_reducible apply Keeps.foldl; intro s₁ x₁; have h₁ : Keeps m₀ s₁ s₁ := Keeps.refl s₁; try dsimp +zetaDelta only) | (with_reducible apply Keeps.foldl1; intro s₁ x₁; have h₁ : Keeps m₀ s₁.1 s₁.1 := Keeps.refl s₁.1; try dsimp +zetaDelta only) | extract_lets | split | dsimp +zetaDelta only)

theorem keeps_execMcmp {m₀ : Bool} {s₀ : State} {m : Nat} {lost : Bool} {mop : Sys2Proof.Mop} {t : Nat} {f : Nat} : KeepsNext m₀ (execMcmp m lost mop t f s₀) s₀ := by
  have h₀ : Keeps m₀ s₀ s₀ := Keeps.refl s₀
  unfold execMcmp
  try extract_lets
  repeat' (first | with_reducible apply KeepsNext.next | with_reducible apply KeepsNext.fault | with_reducible apply KeepsNext.ite | with_reducible assumption | (intro s₂; have h₂ : Keeps m₀ s₂ s₂ := Keeps.refl s₂; try dsimp +zetaDelta only) | with_reducible apply keeps_State_packet | with_reducible apply keeps_atTill | with_reducible apply keeps_writeAnswer | (fail_if_no_progress (with_reducible apply Keeps.upd) <;> first | with_reducible rfl | with_reducible exact fun x => x | with_reducible exact fun _ => ⟨rfl, rfl, rfl, rfl⟩ | with_reducible exact fun x => absurd x Bool.false_ne_true | with_reducible exact KV.set_wf _ _ _ | with_reducible exact KV.put_wf _ _ | with_reducible exact KV.filter_wf _ | with_reducible exact List.prefix_rfl | with_reducible exact List.prefix_append _ _ | with_reducible exact KV.map_wf (fun _ => rfl) | with_reducible exact fun _ => KV.foldl_set_wf _ _ _ rfl | (simp; done) | skip) | with_reducible apply Keeps.ite | with_reducible apply Keeps.ite1 | (with_reducible apply Keeps.foldl; intro s₁ x₁; have h₁ : Keeps m₀ s₁ s₁ := Keeps.refl s₁; try dsimp +zetaDelta only) | (with_reducible apply Keeps.foldl1; intro s₁ x₁; have h₁ : Keeps m₀ s₁.1 s₁.1 := Keeps.refl s₁.1; try dsimp +zetaDelta only) | extract_lets | split | dsimp +zetaDelta only)

theorem keeps_execMcred {m₀ : Bool} {s₀ : State} {m : Nat} {t : Nat} {dataKind : Bool} {count : Nat} : KeepsNext m₀ (execMcred m t dataKind count s₀) s₀ := by
  have h₀ : Keeps m₀ s₀ s₀ := Keeps.refl s₀
  unfold execMcred
  try extract_lets
  repeat' (first | with_reducible apply KeepsNext.next | with_reducible apply KeepsNext.fault | with_reducible apply KeepsNext.ite | with_reducible assumption | with_reducible apply keeps_State_packet | with_reducible apply keeps_credReturn | with_reducible apply keeps_worked | (fail_if_no_progress (with_reducible apply Keeps.upd) <;> first | with_reducible rfl | with_reducible exact fun x => x | with_reducible exact fun _ => ⟨rfl, rfl, rfl, rfl⟩ | with_reducible exact fun x => absurd x Bool.false_ne_true | with_reducible exact KV.set_wf _ _ _ | with_reducible exact KV.put_wf _ _ | with_reducible exact KV.filter_wf _ | with_reducible exact List.prefix_rfl | with_reducible exact List.prefix_append _ _ | with_reducible exact KV.map_wf (fun _ => rfl) | with_reducible exact fun _ => KV.foldl_set_wf _ _ _ rfl | (simp; done) | skip) | with_reducible apply Keeps.ite | with_reducible apply Keeps.ite1 | (with_reducible apply Keeps.foldl; intro s₁ x₁; have h₁ : Keeps m₀ s₁ s₁ := Keeps.refl s₁; try dsimp +zetaDelta only) | (with_reducible apply Keeps.foldl1; intro s₁ x₁; have h₁ : Keeps m₀ s₁.1 s₁.1 := Keeps.refl s₁.1; try dsimp +zetaDelta only) | extract_lets | split | dsimp +zetaDelta only)

theorem keeps_execMemReadTimeout {m₀ : Bool} {s₀ : State} {m : Nat} {t : Nat} {f : Nat} {line : Nat} : KeepsNext m₀ (execMemReadTimeout m t f line s₀) s₀ := by
  have h₀ : Keeps m₀ s₀ s₀ := Keeps.refl s₀
  unfold execMemReadTimeout
  try extract_lets
  repeat' (first | with_reducible apply KeepsNext.next | with_reducible apply KeepsNext.fault | with_reducible apply KeepsNext.ite | with_reducible assumption | with_reducible apply keeps_State_bump | with_reducible apply keeps_State_freeUsed | with_reducible apply keeps_takeRead | with_reducible apply keeps_worked | (fail_if_no_progress (with_reducible apply Keeps.upd) <;> first | with_reducible rfl | with_reducible exact fun x => x | with_reducible exact fun _ => ⟨rfl, rfl, rfl, rfl⟩ | with_reducible exact fun x => absurd x Bool.false_ne_true | with_reducible exact KV.set_wf _ _ _ | with_reducible exact KV.put_wf _ _ | with_reducible exact KV.filter_wf _ | with_reducible exact List.prefix_rfl | with_reducible exact List.prefix_append _ _ | with_reducible exact KV.map_wf (fun _ => rfl) | with_reducible exact fun _ => KV.foldl_set_wf _ _ _ rfl | (simp; done) | skip) | with_reducible apply Keeps.ite | with_reducible apply Keeps.ite1 | (with_reducible apply Keeps.foldl; intro s₁ x₁; have h₁ : Keeps m₀ s₁ s₁ := Keeps.refl s₁; try dsimp +zetaDelta only) | (with_reducible apply Keeps.foldl1; intro s₁ x₁; have h₁ : Keeps m₀ s₁.1 s₁.1 := Keeps.refl s₁.1; try dsimp +zetaDelta only) | extract_lets | split | dsimp +zetaDelta only)

theorem keeps_execMemWriteTimeout {m₀ : Bool} {s₀ : State} {m : Nat} {t : Nat} {f : Nat} {mop : Sys2Proof.Mop} : KeepsNext m₀ (execMemWriteTimeout m t f mop s₀) s₀ := by
  have h₀ : Keeps m₀ s₀ s₀ := Keeps.refl s₀
  unfold execMemWriteTimeout
  try extract_lets
  repeat' (first | with_reducible apply KeepsNext.next | with_reducible apply KeepsNext.fault | with_reducible apply KeepsNext.ite | with_reducible assumption | with_reducible apply keeps_State_bump | with_reducible apply keeps_worked | with_reducible apply keeps_writeAnswer | (fail_if_no_progress (with_reducible apply Keeps.upd) <;> first | with_reducible rfl | with_reducible exact fun x => x | with_reducible exact fun _ => ⟨rfl, rfl, rfl, rfl⟩ | with_reducible exact fun x => absurd x Bool.false_ne_true | with_reducible exact KV.set_wf _ _ _ | with_reducible exact KV.put_wf _ _ | with_reducible exact KV.filter_wf _ | with_reducible exact List.prefix_rfl | with_reducible exact List.prefix_append _ _ | with_reducible exact KV.map_wf (fun _ => rfl) | with_reducible exact fun _ => KV.foldl_set_wf _ _ _ rfl | (simp; done) | skip) | with_reducible apply Keeps.ite | with_reducible apply Keeps.ite1 | (with_reducible apply Keeps.foldl; intro s₁ x₁; have h₁ : Keeps m₀ s₁ s₁ := Keeps.refl s₁; try dsimp +zetaDelta only) | (with_reducible apply Keeps.foldl1; intro s₁ x₁; have h₁ : Keeps m₀ s₁.1 s₁.1 := Keeps.refl s₁.1; try dsimp +zetaDelta only) | extract_lets | split | dsimp +zetaDelta only)

theorem keeps_execMrdata {m₀ : Bool} {s₀ : State} {m : Nat} {t : Nat} {f : Nat} {line : Nat} {cancelled : Bool} {error : Bool} {poison : Bool} {writtenOff : Bool} {cellared : Bool} {data : Sys2Proof.LineData} {u : Sys2Proof.Upset} : KeepsNext m₀ (execMrdata m t f line cancelled error poison writtenOff cellared data u s₀) s₀ := by
  have h₀ : Keeps m₀ s₀ s₀ := Keeps.refl s₀
  unfold execMrdata
  try extract_lets
  repeat' (first | with_reducible apply KeepsNext.next | with_reducible apply KeepsNext.fault | with_reducible apply KeepsNext.ite | with_reducible assumption | (intro s₂; have h₂ : Keeps m₀ s₂ s₂ := Keeps.refl s₂; try dsimp +zetaDelta only) | with_reducible apply keeps_State_packet | with_reducible apply keeps_atTill | with_reducible apply keeps_readArrives | (fail_if_no_progress (with_reducible apply Keeps.upd) <;> first | with_reducible rfl | with_reducible exact fun x => x | with_reducible exact fun _ => ⟨rfl, rfl, rfl, rfl⟩ | with_reducible exact fun x => absurd x Bool.false_ne_true | with_reducible exact KV.set_wf _ _ _ | with_reducible exact KV.put_wf _ _ | with_reducible exact KV.filter_wf _ | with_reducible exact List.prefix_rfl | with_reducible exact List.prefix_append _ _ | with_reducible exact KV.map_wf (fun _ => rfl) | with_reducible exact fun _ => KV.foldl_set_wf _ _ _ rfl | (simp; done) | skip) | with_reducible apply Keeps.ite | with_reducible apply Keeps.ite1 | (with_reducible apply Keeps.foldl; intro s₁ x₁; have h₁ : Keeps m₀ s₁ s₁ := Keeps.refl s₁; try dsimp +zetaDelta only) | (with_reducible apply Keeps.foldl1; intro s₁ x₁; have h₁ : Keeps m₀ s₁.1 s₁.1 := Keeps.refl s₁.1; try dsimp +zetaDelta only) | extract_lets | split | dsimp +zetaDelta only)

theorem keeps_execNcwFull {m₀ : Bool} {s₀ : State} {w : Nat} {q : Sys2Proof.Req} : KeepsNext m₀ (execNcwFull w q s₀) s₀ := by
  have h₀ : Keeps m₀ s₀ s₀ := Keeps.refl s₀
  unfold execNcwFull
  try extract_lets
  repeat' (first | with_reducible apply KeepsNext.next | with_reducible apply KeepsNext.fault | with_reducible apply KeepsNext.ite | with_reducible assumption | with_reducible apply keeps_requestCmd | with_reducible apply keeps_requestCmd | (fail_if_no_progress (with_reducible apply Keeps.upd) <;> first | with_reducible rfl | with_reducible exact fun x => x | with_reducible exact fun _ => ⟨rfl, rfl, rfl, rfl⟩ | with_reducible exact fun x => absurd x Bool.false_ne_true | with_reducible exact KV.set_wf _ _ _ | with_reducible exact KV.put_wf _ _ | with_reducible exact KV.filter_wf _ | with_reducible exact List.prefix_rfl | with_reducible exact List.prefix_append _ _ | with_reducible exact KV.map_wf (fun _ => rfl) | with_reducible exact fun _ => KV.foldl_set_wf _ _ _ rfl | (simp; done) | skip) | with_reducible apply Keeps.ite | with_reducible apply Keeps.ite1 | (with_reducible apply Keeps.foldl; intro s₁ x₁; have h₁ : Keeps m₀ s₁ s₁ := Keeps.refl s₁; try dsimp +zetaDelta only) | (with_reducible apply Keeps.foldl1; intro s₁ x₁; have h₁ : Keeps m₀ s₁.1 s₁.1 := Keeps.refl s₁.1; try dsimp +zetaDelta only) | extract_lets | split | dsimp +zetaDelta only)

theorem keeps_execNcwPtl {m₀ : Bool} {s₀ : State} {w : Nat} {q : Sys2Proof.Req} : KeepsNext m₀ (execNcwPtl w q s₀) s₀ := by
  have h₀ : Keeps m₀ s₀ s₀ := Keeps.refl s₀
  unfold execNcwPtl
  try extract_lets
  repeat' (first | with_reducible apply KeepsNext.next | with_reducible apply KeepsNext.fault | with_reducible apply KeepsNext.ite | with_reducible assumption | with_reducible apply keeps_requestCmd | with_reducible apply keeps_requestCmd | (fail_if_no_progress (with_reducible apply Keeps.upd) <;> first | with_reducible rfl | with_reducible exact fun x => x | with_reducible exact fun _ => ⟨rfl, rfl, rfl, rfl⟩ | with_reducible exact fun x => absurd x Bool.false_ne_true | with_reducible exact KV.set_wf _ _ _ | with_reducible exact KV.put_wf _ _ | with_reducible exact KV.filter_wf _ | with_reducible exact List.prefix_rfl | with_reducible exact List.prefix_append _ _ | with_reducible exact KV.map_wf (fun _ => rfl) | with_reducible exact fun _ => KV.foldl_set_wf _ _ _ rfl | (simp; done) | skip) | with_reducible apply Keeps.ite | with_reducible apply Keeps.ite1 | (with_reducible apply Keeps.foldl; intro s₁ x₁; have h₁ : Keeps m₀ s₁ s₁ := Keeps.refl s₁; try dsimp +zetaDelta only) | (with_reducible apply Keeps.foldl1; intro s₁ x₁; have h₁ : Keeps m₀ s₁.1 s₁.1 := Keeps.refl s₁.1; try dsimp +zetaDelta only) | extract_lets | split | dsimp +zetaDelta only)

theorem keeps_execOpen {m₀ : Bool} {s₀ : State} {h : Sys2Proof.Teller} : KeepsNext m₀ (execOpen h s₀) s₀ := by
  have h₀ : Keeps m₀ s₀ s₀ := Keeps.refl s₀
  unfold execOpen
  try extract_lets
  repeat' (first | with_reducible apply KeepsNext.next | with_reducible apply KeepsNext.fault | with_reducible apply KeepsNext.ite | with_reducible assumption | with_reducible apply keeps_teller | (fail_if_no_progress (with_reducible apply Keeps.upd) <;> first | with_reducible rfl | with_reducible exact fun x => x | with_reducible exact fun _ => ⟨rfl, rfl, rfl, rfl⟩ | with_reducible exact fun x => absurd x Bool.false_ne_true | with_reducible exact KV.set_wf _ _ _ | with_reducible exact KV.put_wf _ _ | with_reducible exact KV.filter_wf _ | with_reducible exact List.prefix_rfl | with_reducible exact List.prefix_append _ _ | with_reducible exact KV.map_wf (fun _ => rfl) | with_reducible exact fun _ => KV.foldl_set_wf _ _ _ rfl | (simp; done) | skip) | with_reducible apply Keeps.ite | with_reducible apply Keeps.ite1 | (with_reducible apply Keeps.foldl; intro s₁ x₁; have h₁ : Keeps m₀ s₁ s₁ := Keeps.refl s₁; try dsimp +zetaDelta only) | (with_reducible apply Keeps.foldl1; intro s₁ x₁; have h₁ : Keeps m₀ s₁.1 s₁.1 := Keeps.refl s₁.1; try dsimp +zetaDelta only) | extract_lets | split | dsimp +zetaDelta only)

theorem keeps_execOwn {m₀ : Bool} {s₀ : State} {w : Nat} {q : Sys2Proof.Req} : KeepsNext m₀ (execOwn w q s₀) s₀ := by
  have h₀ : Keeps m₀ s₀ s₀ := Keeps.refl s₀
  unfold execOwn
  try extract_lets
  repeat' (first | with_reducible apply KeepsNext.next | with_reducible apply KeepsNext.fault | with_reducible apply KeepsNext.ite | with_reducible assumption | with_reducible apply keeps_requestCmd | with_reducible apply keeps_requestCmd | (fail_if_no_progress (with_reducible apply Keeps.upd) <;> first | with_reducible rfl | with_reducible exact fun x => x | with_reducible exact fun _ => ⟨rfl, rfl, rfl, rfl⟩ | with_reducible exact fun x => absurd x Bool.false_ne_true | with_reducible exact KV.set_wf _ _ _ | with_reducible exact KV.put_wf _ _ | with_reducible exact KV.filter_wf _ | with_reducible exact List.prefix_rfl | with_reducible exact List.prefix_append _ _ | with_reducible exact KV.map_wf (fun _ => rfl) | with_reducible exact fun _ => KV.foldl_set_wf _ _ _ rfl | (simp; done) | skip) | with_reducible apply Keeps.ite | with_reducible apply Keeps.ite1 | (with_reducible apply Keeps.foldl; intro s₁ x₁; have h₁ : Keeps m₀ s₁ s₁ := Keeps.refl s₁; try dsimp +zetaDelta only) | (with_reducible apply Keeps.foldl1; intro s₁ x₁; have h₁ : Keeps m₀ s₁.1 s₁.1 := Keeps.refl s₁.1; try dsimp +zetaDelta only) | extract_lets | split | dsimp +zetaDelta only)

theorem keeps_execPostDrainDelay {m₀ : Bool} {s₀ : State} {e : Nat} : KeepsNext m₀ (execPostDrainDelay e s₀) s₀ := by
  have h₀ : Keeps m₀ s₀ s₀ := Keeps.refl s₀
  unfold execPostDrainDelay
  try extract_lets
  repeat' (first | with_reducible apply KeepsNext.next | with_reducible apply KeepsNext.fault | with_reducible apply KeepsNext.ite | with_reducible assumption | with_reducible apply keeps_drainPost | (fail_if_no_progress (with_reducible apply Keeps.upd) <;> first | with_reducible rfl | with_reducible exact fun x => x | with_reducible exact fun _ => ⟨rfl, rfl, rfl, rfl⟩ | with_reducible exact fun x => absurd x Bool.false_ne_true | with_reducible exact KV.set_wf _ _ _ | with_reducible exact KV.put_wf _ _ | with_reducible exact KV.filter_wf _ | with_reducible exact List.prefix_rfl | with_reducible exact List.prefix_append _ _ | with_reducible exact KV.map_wf (fun _ => rfl) | with_reducible exact fun _ => KV.foldl_set_wf _ _ _ rfl | (simp; done) | skip) | with_reducible apply Keeps.ite | with_reducible apply Keeps.ite1 | (with_reducible apply Keeps.foldl; intro s₁ x₁; have h₁ : Keeps m₀ s₁ s₁ := Keeps.refl s₁; try dsimp +zetaDelta only) | (with_reducible apply Keeps.foldl1; intro s₁ x₁; have h₁ : Keeps m₀ s₁.1 s₁.1 := Keeps.refl s₁.1; try dsimp +zetaDelta only) | extract_lets | split | dsimp +zetaDelta only)

theorem keeps_execPowerTargetHold {m₀ : Bool} {s₀ : State}  : KeepsNext m₀ (execPowerTargetHold s₀) s₀ := by
  have h₀ : Keeps m₀ s₀ s₀ := Keeps.refl s₀
  unfold execPowerTargetHold
  try extract_lets
  repeat' (first | with_reducible apply KeepsNext.next | with_reducible apply KeepsNext.fault | with_reducible apply KeepsNext.ite | with_reducible assumption | with_reducible apply keeps_chartCmd | with_reducible apply keeps_chartCmd | (fail_if_no_progress (with_reducible apply Keeps.upd) <;> first | with_reducible rfl | with_reducible exact fun x => x | with_reducible exact fun _ => ⟨rfl, rfl, rfl, rfl⟩ | with_reducible exact fun x => absurd x Bool.false_ne_true | with_reducible exact KV.set_wf _ _ _ | with_reducible exact KV.put_wf _ _ | with_reducible exact KV.filter_wf _ | with_reducible exact List.prefix_rfl | with_reducible exact List.prefix_append _ _ | with_reducible exact KV.map_wf (fun _ => rfl) | with_reducible exact fun _ => KV.foldl_set_wf _ _ _ rfl | (simp; done) | skip) | with_reducible apply Keeps.ite | with_reducible apply Keeps.ite1 | (with_reducible apply Keeps.foldl; intro s₁ x₁; have h₁ : Keeps m₀ s₁ s₁ := Keeps.refl s₁; try dsimp +zetaDelta only) | (with_reducible apply Keeps.foldl1; intro s₁ x₁; have h₁ : Keeps m₀ s₁.1 s₁.1 := Keeps.refl s₁.1; try dsimp +zetaDelta only) | extract_lets | split | dsimp +zetaDelta only)

theorem keeps_execPowerTargetLean {m₀ : Bool} {s₀ : State}  : KeepsNext m₀ (execPowerTargetLean s₀) s₀ := by
  have h₀ : Keeps m₀ s₀ s₀ := Keeps.refl s₀
  unfold execPowerTargetLean
  try extract_lets
  repeat' (first | with_reducible apply KeepsNext.next | with_reducible apply KeepsNext.fault | with_reducible apply KeepsNext.ite | with_reducible assumption | with_reducible apply keeps_chartCmd | with_reducible apply keeps_chartCmd | (fail_if_no_progress (with_reducible apply Keeps.upd) <;> first | with_reducible rfl | with_reducible exact fun x => x | with_reducible exact fun _ => ⟨rfl, rfl, rfl, rfl⟩ | with_reducible exact fun x => absurd x Bool.false_ne_true | with_reducible exact KV.set_wf _ _ _ | with_reducible exact KV.put_wf _ _ | with_reducible exact KV.filter_wf _ | with_reducible exact List.prefix_rfl | with_reducible exact List.prefix_append _ _ | with_reducible exact KV.map_wf (fun _ => rfl) | with_reducible exact fun _ => KV.foldl_set_wf _ _ _ rfl | (simp; done) | skip) | with_reducible apply Keeps.ite | with_reducible apply Keeps.ite1 | (with_reducible apply Keeps.foldl; intro s₁ x₁; have h₁ : Keeps m₀ s₁ s₁ := Keeps.refl s₁; try dsimp +zetaDelta only) | (with_reducible apply Keeps.foldl1; intro s₁ x₁; have h₁ : Keeps m₀ s₁.1 s₁.1 := Keeps.refl s₁.1; try dsimp +zetaDelta only) | extract_lets | split | dsimp +zetaDelta only)

theorem keeps_execPowerTargetOff {m₀ : Bool} {s₀ : State}  : KeepsNext m₀ (execPowerTargetOff s₀) s₀ := by
  have h₀ : Keeps m₀ s₀ s₀ := Keeps.refl s₀
  unfold execPowerTargetOff
  try extract_lets
  repeat' (first | with_reducible apply KeepsNext.next | with_reducible apply KeepsNext.fault | with_reducible apply KeepsNext.ite | with_reducible assumption | with_reducible apply keeps_chartCmd | with_reducible apply keeps_chartCmd | (fail_if_no_progress (with_reducible apply Keeps.upd) <;> first | with_reducible rfl | with_reducible exact fun x => x | with_reducible exact fun _ => ⟨rfl, rfl, rfl, rfl⟩ | with_reducible exact fun x => absurd x Bool.false_ne_true | with_reducible exact KV.set_wf _ _ _ | with_reducible exact KV.put_wf _ _ | with_reducible exact KV.filter_wf _ | with_reducible exact List.prefix_rfl | with_reducible exact List.prefix_append _ _ | with_reducible exact KV.map_wf (fun _ => rfl) | with_reducible exact fun _ => KV.foldl_set_wf _ _ _ rfl | (simp; done) | skip) | with_reducible apply Keeps.ite | with_reducible apply Keeps.ite1 | (with_reducible apply Keeps.foldl; intro s₁ x₁; have h₁ : Keeps m₀ s₁ s₁ := Keeps.refl s₁; try dsimp +zetaDelta only) | (with_reducible apply Keeps.foldl1; intro s₁ x₁; have h₁ : Keeps m₀ s₁.1 s₁.1 := Keeps.refl s₁.1; try dsimp +zetaDelta only) | extract_lets | split | dsimp +zetaDelta only)

theorem keeps_execPowerTargetRun {m₀ : Bool} {s₀ : State}  : KeepsNext m₀ (execPowerTargetRun s₀) s₀ := by
  have h₀ : Keeps m₀ s₀ s₀ := Keeps.refl s₀
  unfold execPowerTargetRun
  try extract_lets
  repeat' (first | with_reducible apply KeepsNext.next | with_reducible apply KeepsNext.fault | with_reducible apply KeepsNext.ite | with_reducible assumption | with_reducible apply keeps_chartCmd | with_reducible apply keeps_chartCmd | (fail_if_no_progress (with_reducible apply Keeps.upd) <;> first | with_reducible rfl | with_reducible exact fun x => x | with_reducible exact fun _ => ⟨rfl, rfl, rfl, rfl⟩ | with_reducible exact fun x => absurd x Bool.false_ne_true | with_reducible exact KV.set_wf _ _ _ | with_reducible exact KV.put_wf _ _ | with_reducible exact KV.filter_wf _ | with_reducible exact List.prefix_rfl | with_reducible exact List.prefix_append _ _ | with_reducible exact KV.map_wf (fun _ => rfl) | with_reducible exact fun _ => KV.foldl_set_wf _ _ _ rfl | (simp; done) | skip) | with_reducible apply Keeps.ite | with_reducible apply Keeps.ite1 | (with_reducible apply Keeps.foldl; intro s₁ x₁; have h₁ : Keeps m₀ s₁ s₁ := Keeps.refl s₁; try dsimp +zetaDelta only) | (with_reducible apply Keeps.foldl1; intro s₁ x₁; have h₁ : Keeps m₀ s₁.1 s₁.1 := Keeps.refl s₁.1; try dsimp +zetaDelta only) | extract_lets | split | dsimp +zetaDelta only)

theorem keeps_execPreload {m₀ : Bool} {s₀ : State}  : KeepsNext m₀ (execPreload s₀) s₀ := by
  have h₀ : Keeps m₀ s₀ s₀ := Keeps.refl s₀
  unfold execPreload
  try extract_lets
  repeat' (first | with_reducible apply KeepsNext.next | with_reducible apply KeepsNext.fault | with_reducible apply KeepsNext.ite | with_reducible assumption | with_reducible apply keeps_chartCmd | with_reducible apply keeps_chartCmd | (fail_if_no_progress (with_reducible apply Keeps.upd) <;> first | with_reducible rfl | with_reducible exact fun x => x | with_reducible exact fun _ => ⟨rfl, rfl, rfl, rfl⟩ | with_reducible exact fun x => absurd x Bool.false_ne_true | with_reducible exact KV.set_wf _ _ _ | with_reducible exact KV.put_wf _ _ | with_reducible exact KV.filter_wf _ | with_reducible exact List.prefix_rfl | with_reducible exact List.prefix_append _ _ | with_reducible exact KV.map_wf (fun _ => rfl) | with_reducible exact fun _ => KV.foldl_set_wf _ _ _ rfl | (simp; done) | skip) | with_reducible apply Keeps.ite | with_reducible apply Keeps.ite1 | (with_reducible apply Keeps.foldl; intro s₁ x₁; have h₁ : Keeps m₀ s₁ s₁ := Keeps.refl s₁; try dsimp +zetaDelta only) | (with_reducible apply Keeps.foldl1; intro s₁ x₁; have h₁ : Keeps m₀ s₁.1 s₁.1 := Keeps.refl s₁.1; try dsimp +zetaDelta only) | extract_lets | split | dsimp +zetaDelta only)

theorem keeps_execPreloadAndLock {m₀ : Bool} {s₀ : State}  : KeepsNext m₀ (execPreloadAndLock s₀) s₀ := by
  have h₀ : Keeps m₀ s₀ s₀ := Keeps.refl s₀
  unfold execPreloadAndLock
  try extract_lets
  repeat' (first | with_reducible apply KeepsNext.next | with_reducible apply KeepsNext.fault | with_reducible apply KeepsNext.ite | with_reducible assumption | with_reducible apply keeps_chartCmd | with_reducible apply keeps_chartCmd | (fail_if_no_progress (with_reducible apply Keeps.upd) <;> first | with_reducible rfl | with_reducible exact fun x => x | with_reducible exact fun _ => ⟨rfl, rfl, rfl, rfl⟩ | with_reducible exact fun x => absurd x Bool.false_ne_true | with_reducible exact KV.set_wf _ _ _ | with_reducible exact KV.put_wf _ _ | with_reducible exact KV.filter_wf _ | with_reducible exact List.prefix_rfl | with_reducible exact List.prefix_append _ _ | with_reducible exact KV.map_wf (fun _ => rfl) | with_reducible exact fun _ => KV.foldl_set_wf _ _ _ rfl | (simp; done) | skip) | with_reducible apply Keeps.ite | with_reducible apply Keeps.ite1 | (with_reducible apply Keeps.foldl; intro s₁ x₁; have h₁ : Keeps m₀ s₁ s₁ := Keeps.refl s₁; try dsimp +zetaDelta only) | (with_reducible apply Keeps.foldl1; intro s₁ x₁; have h₁ : Keeps m₀ s₁.1 s₁.1 := Keeps.refl s₁.1; try dsimp +zetaDelta only) | extract_lets | split | dsimp +zetaDelta only)

theorem keeps_execPreloadSector {m₀ : Bool} {s₀ : State} {t : Nat} {sec : BitVec 36} : KeepsNext m₀ (execPreloadSector t sec s₀) s₀ := by
  have h₀ : Keeps m₀ s₀ s₀ := Keeps.refl s₀
  unfold execPreloadSector
  try extract_lets
  repeat' (first | with_reducible apply KeepsNext.next | with_reducible apply KeepsNext.fault | with_reducible apply KeepsNext.ite | with_reducible assumption | with_reducible apply keeps_preloadSector | with_reducible apply keeps_settleFails | (fail_if_no_progress (with_reducible apply Keeps.upd) <;> first | with_reducible rfl | with_reducible exact fun x => x | with_reducible exact fun _ => ⟨rfl, rfl, rfl, rfl⟩ | with_reducible exact fun x => absurd x Bool.false_ne_true | with_reducible exact KV.set_wf _ _ _ | with_reducible exact KV.put_wf _ _ | with_reducible exact KV.filter_wf _ | with_reducible exact List.prefix_rfl | with_reducible exact List.prefix_append _ _ | with_reducible exact KV.map_wf (fun _ => rfl) | with_reducible exact fun _ => KV.foldl_set_wf _ _ _ rfl | (simp; done) | skip) | with_reducible apply Keeps.ite | with_reducible apply Keeps.ite1 | (with_reducible apply Keeps.foldl; intro s₁ x₁; have h₁ : Keeps m₀ s₁ s₁ := Keeps.refl s₁; try dsimp +zetaDelta only) | (with_reducible apply Keeps.foldl1; intro s₁ x₁; have h₁ : Keeps m₀ s₁.1 s₁.1 := Keeps.refl s₁.1; try dsimp +zetaDelta only) | extract_lets | split | dsimp +zetaDelta only)

theorem keeps_execProgram {m₀ : Bool} {s₀ : State}  : KeepsNext m₀ (execProgram s₀) s₀ := by
  have h₀ : Keeps m₀ s₀ s₀ := Keeps.refl s₀
  unfold execProgram
  try extract_lets
  repeat' (first | with_reducible apply KeepsNext.next | with_reducible apply KeepsNext.fault | with_reducible apply KeepsNext.ite | with_reducible assumption | with_reducible apply keeps_chartCmd | with_reducible apply keeps_chartCmd | (fail_if_no_progress (with_reducible apply Keeps.upd) <;> first | with_reducible rfl | with_reducible exact fun x => x | with_reducible exact fun _ => ⟨rfl, rfl, rfl, rfl⟩ | with_reducible exact fun x => absurd x Bool.false_ne_true | with_reducible exact KV.set_wf _ _ _ | with_reducible exact KV.put_wf _ _ | with_reducible exact KV.filter_wf _ | with_reducible exact List.prefix_rfl | with_reducible exact List.prefix_append _ _ | with_reducible exact KV.map_wf (fun _ => rfl) | with_reducible exact fun _ => KV.foldl_set_wf _ _ _ rfl | (simp; done) | skip) | with_reducible apply Keeps.ite | with_reducible apply Keeps.ite1 | (with_reducible apply Keeps.foldl; intro s₁ x₁; have h₁ : Keeps m₀ s₁ s₁ := Keeps.refl s₁; try dsimp +zetaDelta only) | (with_reducible apply Keeps.foldl1; intro s₁ x₁; have h₁ : Keeps m₀ s₁.1 s₁.1 := Keeps.refl s₁.1; try dsimp +zetaDelta only) | extract_lets | split | dsimp +zetaDelta only)

theorem keeps_execProve {m₀ : Bool} {s₀ : State} {h : Sys2Proof.Teller} : KeepsNext m₀ (execProve h s₀) s₀ := by
  have h₀ : Keeps m₀ s₀ s₀ := Keeps.refl s₀
  unfold execProve
  try extract_lets
  repeat' (first | with_reducible apply KeepsNext.next | with_reducible apply KeepsNext.fault | with_reducible apply KeepsNext.ite | with_reducible assumption | with_reducible apply keeps_teller | (fail_if_no_progress (with_reducible apply Keeps.upd) <;> first | with_reducible rfl | with_reducible exact fun x => x | with_reducible exact fun _ => ⟨rfl, rfl, rfl, rfl⟩ | with_reducible exact fun x => absurd x Bool.false_ne_true | with_reducible exact KV.set_wf _ _ _ | with_reducible exact KV.put_wf _ _ | with_reducible exact KV.filter_wf _ | with_reducible exact List.prefix_rfl | with_reducible exact List.prefix_append _ _ | with_reducible exact KV.map_wf (fun _ => rfl) | with_reducible exact fun _ => KV.foldl_set_wf _ _ _ rfl | (simp; done) | skip) | with_reducible apply Keeps.ite | with_reducible apply Keeps.ite1 | (with_reducible apply Keeps.foldl; intro s₁ x₁; have h₁ : Keeps m₀ s₁ s₁ := Keeps.refl s₁; try dsimp +zetaDelta only) | (with_reducible apply Keeps.foldl1; intro s₁ x₁; have h₁ : Keeps m₀ s₁.1 s₁.1 := Keeps.refl s₁.1; try dsimp +zetaDelta only) | extract_lets | split | dsimp +zetaDelta only)

theorem keeps_execProveWindow {m₀ : Bool} {s₀ : State} {k : Nat} : KeepsNext m₀ (execProveWindow k s₀) s₀ := by
  have h₀ : Keeps m₀ s₀ s₀ := Keeps.refl s₀
  unfold execProveWindow
  try extract_lets
  repeat' (first | with_reducible apply KeepsNext.next | with_reducible apply KeepsNext.fault | with_reducible apply KeepsNext.ite | with_reducible assumption | with_reducible apply keeps_State_modSession | (fail_if_no_progress (with_reducible apply Keeps.upd) <;> first | with_reducible rfl | with_reducible exact fun x => x | with_reducible exact fun _ => ⟨rfl, rfl, rfl, rfl⟩ | with_reducible exact fun x => absurd x Bool.false_ne_true | with_reducible exact KV.set_wf _ _ _ | with_reducible exact KV.put_wf _ _ | with_reducible exact KV.filter_wf _ | with_reducible exact List.prefix_rfl | with_reducible exact List.prefix_append _ _ | with_reducible exact KV.map_wf (fun _ => rfl) | with_reducible exact fun _ => KV.foldl_set_wf _ _ _ rfl | (simp; done) | skip) | with_reducible apply Keeps.ite | with_reducible apply Keeps.ite1 | (with_reducible apply Keeps.foldl; intro s₁ x₁; have h₁ : Keeps m₀ s₁ s₁ := Keeps.refl s₁; try dsimp +zetaDelta only) | (with_reducible apply Keeps.foldl1; intro s₁ x₁; have h₁ : Keeps m₀ s₁.1 s₁.1 := Keeps.refl s₁.1; try dsimp +zetaDelta only) | extract_lets | split | dsimp +zetaDelta only)

theorem keeps_execProvision {m₀ : Bool} {s₀ : State}  : KeepsNext m₀ (execProvision s₀) s₀ := by
  have h₀ : Keeps m₀ s₀ s₀ := Keeps.refl s₀
  unfold execProvision
  try extract_lets
  repeat' (first | with_reducible apply KeepsNext.next | with_reducible apply KeepsNext.fault | with_reducible apply KeepsNext.ite | with_reducible assumption | with_reducible apply keeps_chartCmd | with_reducible apply keeps_chartCmd | (fail_if_no_progress (with_reducible apply Keeps.upd) <;> first | with_reducible rfl | with_reducible exact fun x => x | with_reducible exact fun _ => ⟨rfl, rfl, rfl, rfl⟩ | with_reducible exact fun x => absurd x Bool.false_ne_true | with_reducible exact KV.set_wf _ _ _ | with_reducible exact KV.put_wf _ _ | with_reducible exact KV.filter_wf _ | with_reducible exact List.prefix_rfl | with_reducible exact List.prefix_append _ _ | with_reducible exact KV.map_wf (fun _ => rfl) | with_reducible exact fun _ => KV.foldl_set_wf _ _ _ rfl | (simp; done) | skip) | with_reducible apply Keeps.ite | with_reducible apply Keeps.ite1 | (with_reducible apply Keeps.foldl; intro s₁ x₁; have h₁ : Keeps m₀ s₁ s₁ := Keeps.refl s₁; try dsimp +zetaDelta only) | (with_reducible apply Keeps.foldl1; intro s₁ x₁; have h₁ : Keeps m₀ s₁.1 s₁.1 := Keeps.refl s₁.1; try dsimp +zetaDelta only) | extract_lets | split | dsimp +zetaDelta only)

theorem keeps_execQFlitAccepted {m₀ : Bool} {s₀ : State} {t : Nat} {w : Nat} : KeepsNext m₀ (execQFlitAccepted t w s₀) s₀ := by
  have h₀ : Keeps m₀ s₀ s₀ := Keeps.refl s₀
  unfold execQFlitAccepted
  try extract_lets
  repeat' (first | with_reducible apply KeepsNext.next | with_reducible apply KeepsNext.fault | with_reducible apply KeepsNext.ite | with_reducible assumption | with_reducible apply keeps_accept | with_reducible apply keeps_worked | (fail_if_no_progress (with_reducible apply Keeps.upd) <;> first | with_reducible rfl | with_reducible exact fun x => x | with_reducible exact fun _ => ⟨rfl, rfl, rfl, rfl⟩ | with_reducible exact fun x => absurd x Bool.false_ne_true | with_reducible exact KV.set_wf _ _ _ | with_reducible exact KV.put_wf _ _ | with_reducible exact KV.filter_wf _ | with_reducible exact List.prefix_rfl | with_reducible exact List.prefix_append _ _ | with_reducible exact KV.map_wf (fun _ => rfl) | with_reducible exact fun _ => KV.foldl_set_wf _ _ _ rfl | (simp; done) | skip) | with_reducible apply Keeps.ite | with_reducible apply Keeps.ite1 | (with_reducible apply Keeps.foldl; intro s₁ x₁; have h₁ : Keeps m₀ s₁ s₁ := Keeps.refl s₁; try dsimp +zetaDelta only) | (with_reducible apply Keeps.foldl1; intro s₁ x₁; have h₁ : Keeps m₀ s₁.1 s₁.1 := Keeps.refl s₁.1; try dsimp +zetaDelta only) | extract_lets | split | dsimp +zetaDelta only)

theorem keeps_execQuarantineWindow {m₀ : Bool} {s₀ : State} {n : Nat} : KeepsNext m₀ (execQuarantineWindow n s₀) s₀ := by
  have h₀ : Keeps m₀ s₀ s₀ := Keeps.refl s₀
  unfold execQuarantineWindow
  try extract_lets
  repeat' (first | with_reducible apply KeepsNext.next | with_reducible apply KeepsNext.fault | with_reducible apply KeepsNext.ite | with_reducible assumption | with_reducible apply keeps_State_setAgent | (fail_if_no_progress (with_reducible apply Keeps.upd) <;> first | with_reducible rfl | with_reducible exact fun x => x | with_reducible exact fun _ => ⟨rfl, rfl, rfl, rfl⟩ | with_reducible exact fun x => absurd x Bool.false_ne_true | with_reducible exact KV.set_wf _ _ _ | with_reducible exact KV.put_wf _ _ | with_reducible exact KV.filter_wf _ | with_reducible exact List.prefix_rfl | with_reducible exact List.prefix_append _ _ | with_reducible exact KV.map_wf (fun _ => rfl) | with_reducible exact fun _ => KV.foldl_set_wf _ _ _ rfl | (simp; done) | skip) | with_reducible apply Keeps.ite | with_reducible apply Keeps.ite1 | (with_reducible apply Keeps.foldl; intro s₁ x₁; have h₁ : Keeps m₀ s₁ s₁ := Keeps.refl s₁; try dsimp +zetaDelta only) | (with_reducible apply Keeps.foldl1; intro s₁ x₁; have h₁ : Keeps m₀ s₁.1 s₁.1 := Keeps.refl s₁.1; try dsimp +zetaDelta only) | extract_lets | split | dsimp +zetaDelta only)

theorem keeps_execQuickCheck {m₀ : Bool} {s₀ : State} {m : Sys2Proof.Measure} : KeepsNext m₀ (execQuickCheck m s₀) s₀ := by
  have h₀ : Keeps m₀ s₀ s₀ := Keeps.refl s₀
  unfold execQuickCheck
  try extract_lets
  repeat' (first | with_reducible apply KeepsNext.next | with_reducible apply KeepsNext.fault | with_reducible apply KeepsNext.ite | with_reducible assumption | with_reducible apply keeps_check | (fail_if_no_progress (with_reducible apply Keeps.upd) <;> first | with_reducible rfl | with_reducible exact fun x => x | with_reducible exact fun _ => ⟨rfl, rfl, rfl, rfl⟩ | with_reducible exact fun x => absurd x Bool.false_ne_true | with_reducible exact KV.set_wf _ _ _ | with_reducible exact KV.put_wf _ _ | with_reducible exact KV.filter_wf _ | with_reducible exact List.prefix_rfl | with_reducible exact List.prefix_append _ _ | with_reducible exact KV.map_wf (fun _ => rfl) | with_reducible exact fun _ => KV.foldl_set_wf _ _ _ rfl | (simp; done) | skip) | with_reducible apply Keeps.ite | with_reducible apply Keeps.ite1 | (with_reducible apply Keeps.foldl; intro s₁ x₁; have h₁ : Keeps m₀ s₁ s₁ := Keeps.refl s₁; try dsimp +zetaDelta only) | (with_reducible apply Keeps.foldl1; intro s₁ x₁; have h₁ : Keeps m₀ s₁.1 s₁.1 := Keeps.refl s₁.1; try dsimp +zetaDelta only) | extract_lets | split | dsimp +zetaDelta only)

theorem keeps_execRawRead {m₀ : Bool} {s₀ : State} {h : Sys2Proof.Teller} : KeepsNext m₀ (execRawRead h s₀) s₀ := by
  have h₀ : Keeps m₀ s₀ s₀ := Keeps.refl s₀
  unfold execRawRead
  try extract_lets
  repeat' (first | with_reducible apply KeepsNext.next | with_reducible apply KeepsNext.fault | with_reducible apply KeepsNext.ite | with_reducible assumption | with_reducible apply keeps_teller | (fail_if_no_progress (with_reducible apply Keeps.upd) <;> first | with_reducible rfl | with_reducible exact fun x => x | with_reducible exact fun _ => ⟨rfl, rfl, rfl, rfl⟩ | with_reducible exact fun x => absurd x Bool.false_ne_true | with_reducible exact KV.set_wf _ _ _ | with_reducible exact KV.put_wf _ _ | with_reducible exact KV.filter_wf _ | with_reducible exact List.prefix_rfl | with_reducible exact List.prefix_append _ _ | with_reducible exact KV.map_wf (fun _ => rfl) | with_reducible exact fun _ => KV.foldl_set_wf _ _ _ rfl | (simp; done) | skip) | with_reducible apply Keeps.ite | with_reducible apply Keeps.ite1 | (with_reducible apply Keeps.foldl; intro s₁ x₁; have h₁ : Keeps m₀ s₁ s₁ := Keeps.refl s₁; try dsimp +zetaDelta only) | (with_reducible apply Keeps.foldl1; intro s₁ x₁; have h₁ : Keeps m₀ s₁.1 s₁.1 := Keeps.refl s₁.1; try dsimp +zetaDelta only) | extract_lets | split | dsimp +zetaDelta only)

theorem keeps_execRawWrite {m₀ : Bool} {s₀ : State} {h : Sys2Proof.Teller} : KeepsNext m₀ (execRawWrite h s₀) s₀ := by
  have h₀ : Keeps m₀ s₀ s₀ := Keeps.refl s₀
  unfold execRawWrite
  try extract_lets
  repeat' (first | with_reducible apply KeepsNext.next | with_reducible apply KeepsNext.fault | with_reducible apply KeepsNext.ite | with_reducible assumption | with_reducible apply keeps_teller | (fail_if_no_progress (with_reducible apply Keeps.upd) <;> first | with_reducible rfl | with_reducible exact fun x => x | with_reducible exact fun _ => ⟨rfl, rfl, rfl, rfl⟩ | with_reducible exact fun x => absurd x Bool.false_ne_true | with_reducible exact KV.set_wf _ _ _ | with_reducible exact KV.put_wf _ _ | with_reducible exact KV.filter_wf _ | with_reducible exact List.prefix_rfl | with_reducible exact List.prefix_append _ _ | with_reducible exact KV.map_wf (fun _ => rfl) | with_reducible exact fun _ => KV.foldl_set_wf _ _ _ rfl | (simp; done) | skip) | with_reducible apply Keeps.ite | with_reducible apply Keeps.ite1 | (with_reducible apply Keeps.foldl; intro s₁ x₁; have h₁ : Keeps m₀ s₁ s₁ := Keeps.refl s₁; try dsimp +zetaDelta only) | (with_reducible apply Keeps.foldl1; intro s₁ x₁; have h₁ : Keeps m₀ s₁.1 s₁.1 := Keeps.refl s₁.1; try dsimp +zetaDelta only) | extract_lets | split | dsimp +zetaDelta only)

theorem keeps_execRdAny {m₀ : Bool} {s₀ : State} {w : Nat} {q : Sys2Proof.Req} : KeepsNext m₀ (execRdAny w q s₀) s₀ := by
  have h₀ : Keeps m₀ s₀ s₀ := Keeps.refl s₀
  unfold execRdAny
  try extract_lets
  repeat' (first | with_reducible apply KeepsNext.next | with_reducible apply KeepsNext.fault | with_reducible apply KeepsNext.ite | with_reducible assumption | with_reducible apply keeps_requestCmd | with_reducible apply keeps_requestCmd | (fail_if_no_progress (with_reducible apply Keeps.upd) <;> first | with_reducible rfl | with_reducible exact fun x => x | with_reducible exact fun _ => ⟨rfl, rfl, rfl, rfl⟩ | with_reducible exact fun x => absurd x Bool.false_ne_true | with_reducible exact KV.set_wf _ _ _ | with_reducible exact KV.put_wf _ _ | with_reducible exact KV.filter_wf _ | with_reducible exact List.prefix_rfl | with_reducible exact List.prefix_append _ _ | with_reducible exact KV.map_wf (fun _ => rfl) | with_reducible exact fun _ => KV.foldl_set_wf _ _ _ rfl | (simp; done) | skip) | with_reducible apply Keeps.ite | with_reducible apply Keeps.ite1 | (with_reducible apply Keeps.foldl; intro s₁ x₁; have h₁ : Keeps m₀ s₁ s₁ := Keeps.refl s₁; try dsimp +zetaDelta only) | (with_reducible apply Keeps.foldl1; intro s₁ x₁; have h₁ : Keeps m₀ s₁.1 s₁.1 := Keeps.refl s₁.1; try dsimp +zetaDelta only) | extract_lets | split | dsimp +zetaDelta only)

theorem keeps_execRdNc {m₀ : Bool} {s₀ : State} {w : Nat} {q : Sys2Proof.Req} : KeepsNext m₀ (execRdNc w q s₀) s₀ := by
  have h₀ : Keeps m₀ s₀ s₀ := Keeps.refl s₀
  unfold execRdNc
  try extract_lets
  repeat' (first | with_reducible apply KeepsNext.next | with_reducible apply KeepsNext.fault | with_reducible apply KeepsNext.ite | with_reducible assumption | with_reducible apply keeps_requestCmd | with_reducible apply keeps_requestCmd | (fail_if_no_progress (with_reducible apply Keeps.upd) <;> first | with_reducible rfl | with_reducible exact fun x => x | with_reducible exact fun _ => ⟨rfl, rfl, rfl, rfl⟩ | with_reducible exact fun x => absurd x Bool.false_ne_true | with_reducible exact KV.set_wf _ _ _ | with_reducible exact KV.put_wf _ _ | with_reducible exact KV.filter_wf _ | with_reducible exact List.prefix_rfl | with_reducible exact List.prefix_append _ _ | with_reducible exact KV.map_wf (fun _ => rfl) | with_reducible exact fun _ => KV.foldl_set_wf _ _ _ rfl | (simp; done) | skip) | with_reducible apply Keeps.ite | with_reducible apply Keeps.ite1 | (with_reducible apply Keeps.foldl; intro s₁ x₁; have h₁ : Keeps m₀ s₁ s₁ := Keeps.refl s₁; try dsimp +zetaDelta only) | (with_reducible apply Keeps.foldl1; intro s₁ x₁; have h₁ : Keeps m₀ s₁.1 s₁.1 := Keeps.refl s₁.1; try dsimp +zetaDelta only) | extract_lets | split | dsimp +zetaDelta only)

theorem keeps_execRdS {m₀ : Bool} {s₀ : State} {w : Nat} {q : Sys2Proof.Req} : KeepsNext m₀ (execRdS w q s₀) s₀ := by
  have h₀ : Keeps m₀ s₀ s₀ := Keeps.refl s₀
  unfold execRdS
  try extract_lets
  repeat' (first | with_reducible apply KeepsNext.next | with_reducible apply KeepsNext.fault | with_reducible apply KeepsNext.ite | with_reducible assumption | with_reducible apply keeps_requestCmd | with_reducible apply keeps_requestCmd | (fail_if_no_progress (with_reducible apply Keeps.upd) <;> first | with_reducible rfl | with_reducible exact fun x => x | with_reducible exact fun _ => ⟨rfl, rfl, rfl, rfl⟩ | with_reducible exact fun x => absurd x Bool.false_ne_true | with_reducible exact KV.set_wf _ _ _ | with_reducible exact KV.put_wf _ _ | with_reducible exact KV.filter_wf _ | with_reducible exact List.prefix_rfl | with_reducible exact List.prefix_append _ _ | with_reducible exact KV.map_wf (fun _ => rfl) | with_reducible exact fun _ => KV.foldl_set_wf _ _ _ rfl | (simp; done) | skip) | with_reducible apply Keeps.ite | with_reducible apply Keeps.ite1 | (with_reducible apply Keeps.foldl; intro s₁ x₁; have h₁ : Keeps m₀ s₁ s₁ := Keeps.refl s₁; try dsimp +zetaDelta only) | (with_reducible apply Keeps.foldl1; intro s₁ x₁; have h₁ : Keeps m₀ s₁.1 s₁.1 := Keeps.refl s₁.1; try dsimp +zetaDelta only) | extract_lets | split | dsimp +zetaDelta only)

theorem keeps_execRdX {m₀ : Bool} {s₀ : State} {w : Nat} {q : Sys2Proof.Req} : KeepsNext m₀ (execRdX w q s₀) s₀ := by
  have h₀ : Keeps m₀ s₀ s₀ := Keeps.refl s₀
  unfold execRdX
  try extract_lets
  repeat' (first | with_reducible apply KeepsNext.next | with_reducible apply KeepsNext.fault | with_reducible apply KeepsNext.ite | with_reducible assumption | with_reducible apply keeps_requestCmd | with_reducible apply keeps_requestCmd | (fail_if_no_progress (with_reducible apply Keeps.upd) <;> first | with_reducible rfl | with_reducible exact fun x => x | with_reducible exact fun _ => ⟨rfl, rfl, rfl, rfl⟩ | with_reducible exact fun x => absurd x Bool.false_ne_true | with_reducible exact KV.set_wf _ _ _ | with_reducible exact KV.put_wf _ _ | with_reducible exact KV.filter_wf _ | with_reducible exact List.prefix_rfl | with_reducible exact List.prefix_append _ _ | with_reducible exact KV.map_wf (fun _ => rfl) | with_reducible exact fun _ => KV.foldl_set_wf _ _ _ rfl | (simp; done) | skip) | with_reducible apply Keeps.ite | with_reducible apply Keeps.ite1 | (with_reducible apply Keeps.foldl; intro s₁ x₁; have h₁ : Keeps m₀ s₁ s₁ := Keeps.refl s₁; try dsimp +zetaDelta only) | (with_reducible apply Keeps.foldl1; intro s₁ x₁; have h₁ : Keeps m₀ s₁.1 s₁.1 := Keeps.refl s₁.1; try dsimp +zetaDelta only) | extract_lets | split | dsimp +zetaDelta only)

theorem keeps_execRead {m₀ : Bool} {s₀ : State} {h : Sys2Proof.Teller} : KeepsNext m₀ (execRead h s₀) s₀ := by
  have h₀ : Keeps m₀ s₀ s₀ := Keeps.refl s₀
  unfold execRead
  try extract_lets
  repeat' (first | with_reducible apply KeepsNext.next | with_reducible apply KeepsNext.fault | with_reducible apply KeepsNext.ite | with_reducible assumption | with_reducible apply keeps_teller | (fail_if_no_progress (with_reducible apply Keeps.upd) <;> first | with_reducible rfl | with_reducible exact fun x => x | with_reducible exact fun _ => ⟨rfl, rfl, rfl, rfl⟩ | with_reducible exact fun x => absurd x Bool.false_ne_true | with_reducible exact KV.set_wf _ _ _ | with_reducible exact KV.put_wf _ _ | with_reducible exact KV.filter_wf _ | with_reducible exact List.prefix_rfl | with_reducible exact List.prefix_append _ _ | with_reducible exact KV.map_wf (fun _ => rfl) | with_reducible exact fun _ => KV.foldl_set_wf _ _ _ rfl | (simp; done) | skip) | with_reducible apply Keeps.ite | with_reducible apply Keeps.ite1 | (with_reducible apply Keeps.foldl; intro s₁ x₁; have h₁ : Keeps m₀ s₁ s₁ := Keeps.refl s₁; try dsimp +zetaDelta only) | (with_reducible apply Keeps.foldl1; intro s₁ x₁; have h₁ : Keeps m₀ s₁.1 s₁.1 := Keeps.refl s₁.1; try dsimp +zetaDelta only) | extract_lets | split | dsimp +zetaDelta only)

theorem keeps_execReadRange {m₀ : Bool} {s₀ : State} {h : Sys2Proof.Teller} : KeepsNext m₀ (execReadRange h s₀) s₀ := by
  have h₀ : Keeps m₀ s₀ s₀ := Keeps.refl s₀
  unfold execReadRange
  try extract_lets
  repeat' (first | with_reducible apply KeepsNext.next | with_reducible apply KeepsNext.fault | with_reducible apply KeepsNext.ite | with_reducible assumption | with_reducible apply keeps_teller | (fail_if_no_progress (with_reducible apply Keeps.upd) <;> first | with_reducible rfl | with_reducible exact fun x => x | with_reducible exact fun _ => ⟨rfl, rfl, rfl, rfl⟩ | with_reducible exact fun x => absurd x Bool.false_ne_true | with_reducible exact KV.set_wf _ _ _ | with_reducible exact KV.put_wf _ _ | with_reducible exact KV.filter_wf _ | with_reducible exact List.prefix_rfl | with_reducible exact List.prefix_append _ _ | with_reducible exact KV.map_wf (fun _ => rfl) | with_reducible exact fun _ => KV.foldl_set_wf _ _ _ rfl | (simp; done) | skip) | with_reducible apply Keeps.ite | with_reducible apply Keeps.ite1 | (with_reducible apply Keeps.foldl; intro s₁ x₁; have h₁ : Keeps m₀ s₁ s₁ := Keeps.refl s₁; try dsimp +zetaDelta only) | (with_reducible apply Keeps.foldl1; intro s₁ x₁; have h₁ : Keeps m₀ s₁.1 s₁.1 := Keeps.refl s₁.1; try dsimp +zetaDelta only) | extract_lets | split | dsimp +zetaDelta only)

theorem keeps_execRebuildStep {m₀ : Bool} {s₀ : State} {t : Nat} {b : Nat} : KeepsNext m₀ (execRebuildStep t b s₀) s₀ := by
  have h₀ : Keeps m₀ s₀ s₀ := Keeps.refl s₀
  unfold execRebuildStep
  try extract_lets
  repeat' (first | with_reducible apply KeepsNext.next | with_reducible apply KeepsNext.fault | with_reducible apply KeepsNext.ite | with_reducible assumption | with_reducible apply keeps_rebuildStep | (fail_if_no_progress (with_reducible apply Keeps.upd) <;> first | with_reducible rfl | with_reducible exact fun x => x | with_reducible exact fun _ => ⟨rfl, rfl, rfl, rfl⟩ | with_reducible exact fun x => absurd x Bool.false_ne_true | with_reducible exact KV.set_wf _ _ _ | with_reducible exact KV.put_wf _ _ | with_reducible exact KV.filter_wf _ | with_reducible exact List.prefix_rfl | with_reducible exact List.prefix_append _ _ | with_reducible exact KV.map_wf (fun _ => rfl) | with_reducible exact fun _ => KV.foldl_set_wf _ _ _ rfl | (simp; done) | skip) | with_reducible apply Keeps.ite | with_reducible apply Keeps.ite1 | (with_reducible apply Keeps.foldl; intro s₁ x₁; have h₁ : Keeps m₀ s₁ s₁ := Keeps.refl s₁; try dsimp +zetaDelta only) | (with_reducible apply Keeps.foldl1; intro s₁ x₁; have h₁ : Keeps m₀ s₁.1 s₁.1 := Keeps.refl s₁.1; try dsimp +zetaDelta only) | extract_lets | split | dsimp +zetaDelta only)

theorem keeps_execReceiptTimeout {m₀ : Bool} {s₀ : State} {t : Nat} {f : Nat} : KeepsNext m₀ (execReceiptTimeout t f s₀) s₀ := by
  have h₀ : Keeps m₀ s₀ s₀ := Keeps.refl s₀
  unfold execReceiptTimeout
  try extract_lets
  repeat' (first | with_reducible apply KeepsNext.next | with_reducible apply KeepsNext.fault | with_reducible apply KeepsNext.ite | with_reducible assumption | with_reducible apply keeps_State_bump | with_reducible apply keeps_State_modFolio | with_reducible apply keeps_State_modTill | with_reducible apply keeps_State_note | with_reducible apply keeps_retire | with_reducible apply keeps_retryHeld | with_reducible apply keeps_worked | (fail_if_no_progress (with_reducible apply Keeps.upd) <;> first | with_reducible rfl | with_reducible exact fun x => x | with_reducible exact fun _ => ⟨rfl, rfl, rfl, rfl⟩ | with_reducible exact fun x => absurd x Bool.false_ne_true | with_reducible exact KV.set_wf _ _ _ | with_reducible exact KV.put_wf _ _ | with_reducible exact KV.filter_wf _ | with_reducible exact List.prefix_rfl | with_reducible exact List.prefix_append _ _ | with_reducible exact KV.map_wf (fun _ => rfl) | with_reducible exact fun _ => KV.foldl_set_wf _ _ _ rfl | (simp; done) | skip) | with_reducible apply Keeps.ite | with_reducible apply Keeps.ite1 | (with_reducible apply Keeps.foldl; intro s₁ x₁; have h₁ : Keeps m₀ s₁ s₁ := Keeps.refl s₁; try dsimp +zetaDelta only) | (with_reducible apply Keeps.foldl1; intro s₁ x₁; have h₁ : Keeps m₀ s₁.1 s₁.1 := Keeps.refl s₁.1; try dsimp +zetaDelta only) | extract_lets | split | dsimp +zetaDelta only)

theorem keeps_execRegionCommit {m₀ : Bool} {s₀ : State} {v : BitVec 8} : KeepsNext m₀ (execRegionCommit v s₀) s₀ := by
  have h₀ : Keeps m₀ s₀ s₀ := Keeps.refl s₀
  unfold execRegionCommit
  try extract_lets
  repeat' (first | with_reducible apply KeepsNext.next | with_reducible apply KeepsNext.fault | with_reducible apply KeepsNext.ite | with_reducible assumption | with_reducible apply keeps_chartCmd | with_reducible apply keeps_chartCmd | (fail_if_no_progress (with_reducible apply Keeps.upd) <;> first | with_reducible rfl | with_reducible exact fun x => x | with_reducible exact fun _ => ⟨rfl, rfl, rfl, rfl⟩ | with_reducible exact fun x => absurd x Bool.false_ne_true | with_reducible exact KV.set_wf _ _ _ | with_reducible exact KV.put_wf _ _ | with_reducible exact KV.filter_wf _ | with_reducible exact List.prefix_rfl | with_reducible exact List.prefix_append _ _ | with_reducible exact KV.map_wf (fun _ => rfl) | with_reducible exact fun _ => KV.foldl_set_wf _ _ _ rfl | (simp; done) | skip) | with_reducible apply Keeps.ite | with_reducible apply Keeps.ite1 | (with_reducible apply Keeps.foldl; intro s₁ x₁; have h₁ : Keeps m₀ s₁ s₁ := Keeps.refl s₁; try dsimp +zetaDelta only) | (with_reducible apply Keeps.foldl1; intro s₁ x₁; have h₁ : Keeps m₀ s₁.1 s₁.1 := Keeps.refl s₁.1; try dsimp +zetaDelta only) | extract_lets | split | dsimp +zetaDelta only)

theorem keeps_execRegionTableSwitch {m₀ : Bool} {s₀ : State} {n : Nat} : KeepsNext m₀ (execRegionTableSwitch n s₀) s₀ := by
  have h₀ : Keeps m₀ s₀ s₀ := Keeps.refl s₀
  unfold execRegionTableSwitch
  try extract_lets
  repeat' (first | with_reducible apply KeepsNext.next | with_reducible apply KeepsNext.fault | with_reducible apply KeepsNext.ite | with_reducible assumption | with_reducible apply keeps_regionSwitch | (fail_if_no_progress (with_reducible apply Keeps.upd) <;> first | with_reducible rfl | with_reducible exact fun x => x | with_reducible exact fun _ => ⟨rfl, rfl, rfl, rfl⟩ | with_reducible exact fun x => absurd x Bool.false_ne_true | with_reducible exact KV.set_wf _ _ _ | with_reducible exact KV.put_wf _ _ | with_reducible exact KV.filter_wf _ | with_reducible exact List.prefix_rfl | with_reducible exact List.prefix_append _ _ | with_reducible exact KV.map_wf (fun _ => rfl) | with_reducible exact fun _ => KV.foldl_set_wf _ _ _ rfl | (simp; done) | skip) | with_reducible apply Keeps.ite | with_reducible apply Keeps.ite1 | (with_reducible apply Keeps.foldl; intro s₁ x₁; have h₁ : Keeps m₀ s₁ s₁ := Keeps.refl s₁; try dsimp +zetaDelta only) | (with_reducible apply Keeps.foldl1; intro s₁ x₁; have h₁ : Keeps m₀ s₁.1 s₁.1 := Keeps.refl s₁.1; try dsimp +zetaDelta only) | extract_lets | split | dsimp +zetaDelta only)

theorem keeps_execRelease {m₀ : Bool} {s₀ : State} {w : Nat} {q : Sys2Proof.Req} : KeepsNext m₀ (execRelease w q s₀) s₀ := by
  have h₀ : Keeps m₀ s₀ s₀ := Keeps.refl s₀
  unfold execRelease
  try extract_lets
  repeat' (first | with_reducible apply KeepsNext.next | with_reducible apply KeepsNext.fault | with_reducible apply KeepsNext.ite | with_reducible assumption | with_reducible apply keeps_requestCmd | with_reducible apply keeps_requestCmd | (fail_if_no_progress (with_reducible apply Keeps.upd) <;> first | with_reducible rfl | with_reducible exact fun x => x | with_reducible exact fun _ => ⟨rfl, rfl, rfl, rfl⟩ | with_reducible exact fun x => absurd x Bool.false_ne_true | with_reducible exact KV.set_wf _ _ _ | with_reducible exact KV.put_wf _ _ | with_reducible exact KV.filter_wf _ | with_reducible exact List.prefix_rfl | with_reducible exact List.prefix_append _ _ | with_reducible exact KV.map_wf (fun _ => rfl) | with_reducible exact fun _ => KV.foldl_set_wf _ _ _ rfl | (simp; done) | skip) | with_reducible apply Keeps.ite | with_reducible apply Keeps.ite1 | (with_reducible apply Keeps.foldl; intro s₁ x₁; have h₁ : Keeps m₀ s₁ s₁ := Keeps.refl s₁; try dsimp +zetaDelta only) | (with_reducible apply Keeps.foldl1; intro s₁ x₁; have h₁ : Keeps m₀ s₁.1 s₁.1 := Keeps.refl s₁.1; try dsimp +zetaDelta only) | extract_lets | split | dsimp +zetaDelta only)

theorem keeps_execRequestInjection {m₀ : Bool} {s₀ : State} {w : Nat} {dt : Nat} : KeepsNext m₀ (execRequestInjection w dt s₀) s₀ := by
  have h₀ : Keeps m₀ s₀ s₀ := Keeps.refl s₀
  unfold execRequestInjection
  try extract_lets
  repeat' (first | with_reducible apply KeepsNext.next | with_reducible apply KeepsNext.fault | with_reducible apply KeepsNext.ite | with_reducible assumption | with_reducible apply keeps_advance | with_reducible apply keeps_portDecides | (fail_if_no_progress (with_reducible apply Keeps.upd) <;> first | with_reducible rfl | with_reducible exact fun x => x | with_reducible exact fun _ => ⟨rfl, rfl, rfl, rfl⟩ | with_reducible exact fun x => absurd x Bool.false_ne_true | with_reducible exact KV.set_wf _ _ _ | with_reducible exact KV.put_wf _ _ | with_reducible exact KV.filter_wf _ | with_reducible exact List.prefix_rfl | with_reducible exact List.prefix_append _ _ | with_reducible exact KV.map_wf (fun _ => rfl) | with_reducible exact fun _ => KV.foldl_set_wf _ _ _ rfl | (simp; done) | skip) | with_reducible apply Keeps.ite | with_reducible apply Keeps.ite1 | (with_reducible apply Keeps.foldl; intro s₁ x₁; have h₁ : Keeps m₀ s₁ s₁ := Keeps.refl s₁; try dsimp +zetaDelta only) | (with_reducible apply Keeps.foldl1; intro s₁ x₁; have h₁ : Keeps m₀ s₁.1 s₁.1 := Keeps.refl s₁.1; try dsimp +zetaDelta only) | extract_lets | split | dsimp +zetaDelta only)

theorem keeps_execResolutionWalk {m₀ : Bool} {s₀ : State} {t : Nat} {i : Nat} : KeepsNext m₀ (execResolutionWalk t i s₀) s₀ := by
  have h₀ : Keeps m₀ s₀ s₀ := Keeps.refl s₀
  unfold execResolutionWalk
  try extract_lets
  repeat' (first | with_reducible apply KeepsNext.next | with_reducible apply KeepsNext.fault | with_reducible apply KeepsNext.ite | with_reducible assumption | with_reducible apply keeps_resolveStep | with_reducible apply keeps_worked | (fail_if_no_progress (with_reducible apply Keeps.upd) <;> first | with_reducible rfl | with_reducible exact fun x => x | with_reducible exact fun _ => ⟨rfl, rfl, rfl, rfl⟩ | with_reducible exact fun x => absurd x Bool.false_ne_true | with_reducible exact KV.set_wf _ _ _ | with_reducible exact KV.put_wf _ _ | with_reducible exact KV.filter_wf _ | with_reducible exact List.prefix_rfl | with_reducible exact List.prefix_append _ _ | with_reducible exact KV.map_wf (fun _ => rfl) | with_reducible exact fun _ => KV.foldl_set_wf _ _ _ rfl | (simp; done) | skip) | with_reducible apply Keeps.ite | with_reducible apply Keeps.ite1 | (with_reducible apply Keeps.foldl; intro s₁ x₁; have h₁ : Keeps m₀ s₁ s₁ := Keeps.refl s₁; try dsimp +zetaDelta only) | (with_reducible apply Keeps.foldl1; intro s₁ x₁; have h₁ : Keeps m₀ s₁.1 s₁.1 := Keeps.refl s₁.1; try dsimp +zetaDelta only) | extract_lets | split | dsimp +zetaDelta only)

theorem keeps_execRetentiveCleanWalk {m₀ : Bool} {s₀ : State} {t : Nat} {pos : Sys2Proof.WalkAt} : KeepsNext m₀ (execRetentiveCleanWalk t pos s₀) s₀ := by
  have h₀ : Keeps m₀ s₀ s₀ := Keeps.refl s₀
  unfold execRetentiveCleanWalk
  try extract_lets
  repeat' (first | with_reducible apply KeepsNext.next | with_reducible apply KeepsNext.fault | with_reducible apply KeepsNext.ite | with_reducible assumption | with_reducible apply keeps_cleanVisit | with_reducible apply keeps_settleFails | (fail_if_no_progress (with_reducible apply Keeps.upd) <;> first | with_reducible rfl | with_reducible exact fun x => x | with_reducible exact fun _ => ⟨rfl, rfl, rfl, rfl⟩ | with_reducible exact fun x => absurd x Bool.false_ne_true | with_reducible exact KV.set_wf _ _ _ | with_reducible exact KV.put_wf _ _ | with_reducible exact KV.filter_wf _ | with_reducible exact List.prefix_rfl | with_reducible exact List.prefix_append _ _ | with_reducible exact KV.map_wf (fun _ => rfl) | with_reducible exact fun _ => KV.foldl_set_wf _ _ _ rfl | (simp; done) | skip) | with_reducible apply Keeps.ite | with_reducible apply Keeps.ite1 | (with_reducible apply Keeps.foldl; intro s₁ x₁; have h₁ : Keeps m₀ s₁ s₁ := Keeps.refl s₁; try dsimp +zetaDelta only) | (with_reducible apply Keeps.foldl1; intro s₁ x₁; have h₁ : Keeps m₀ s₁.1 s₁.1 := Keeps.refl s₁.1; try dsimp +zetaDelta only) | extract_lets | split | dsimp +zetaDelta only)

theorem keeps_execRetire {m₀ : Bool} {s₀ : State}  : KeepsNext m₀ (execRetire s₀) s₀ := by
  have h₀ : Keeps m₀ s₀ s₀ := Keeps.refl s₀
  unfold execRetire
  try extract_lets
  repeat' (first | with_reducible apply KeepsNext.next | with_reducible apply KeepsNext.fault | with_reducible apply KeepsNext.ite | with_reducible assumption | with_reducible apply keeps_chartCmd | with_reducible apply keeps_chartCmd | (fail_if_no_progress (with_reducible apply Keeps.upd) <;> first | with_reducible rfl | with_reducible exact fun x => x | with_reducible exact fun _ => ⟨rfl, rfl, rfl, rfl⟩ | with_reducible exact fun x => absurd x Bool.false_ne_true | with_reducible exact KV.set_wf _ _ _ | with_reducible exact KV.put_wf _ _ | with_reducible exact KV.filter_wf _ | with_reducible exact List.prefix_rfl | with_reducible exact List.prefix_append _ _ | with_reducible exact KV.map_wf (fun _ => rfl) | with_reducible exact fun _ => KV.foldl_set_wf _ _ _ rfl | (simp; done) | skip) | with_reducible apply Keeps.ite | with_reducible apply Keeps.ite1 | (with_reducible apply Keeps.foldl; intro s₁ x₁; have h₁ : Keeps m₀ s₁ s₁ := Keeps.refl s₁; try dsimp +zetaDelta only) | (with_reducible apply Keeps.foldl1; intro s₁ x₁; have h₁ : Keeps m₀ s₁.1 s₁.1 := Keeps.refl s₁.1; try dsimp +zetaDelta only) | extract_lets | split | dsimp +zetaDelta only)

theorem keeps_execRetrain {m₀ : Bool} {s₀ : State} {l : Nat} : KeepsNext m₀ (execRetrain l s₀) s₀ := by
  have h₀ : Keeps m₀ s₀ s₀ := Keeps.refl s₀
  unfold execRetrain
  try extract_lets
  repeat' (first | with_reducible apply KeepsNext.next | with_reducible apply KeepsNext.fault | with_reducible apply KeepsNext.ite | with_reducible assumption | with_reducible apply keeps_chartCmd | with_reducible apply keeps_chartCmd | (fail_if_no_progress (with_reducible apply Keeps.upd) <;> first | with_reducible rfl | with_reducible exact fun x => x | with_reducible exact fun _ => ⟨rfl, rfl, rfl, rfl⟩ | with_reducible exact fun x => absurd x Bool.false_ne_true | with_reducible exact KV.set_wf _ _ _ | with_reducible exact KV.put_wf _ _ | with_reducible exact KV.filter_wf _ | with_reducible exact List.prefix_rfl | with_reducible exact List.prefix_append _ _ | with_reducible exact KV.map_wf (fun _ => rfl) | with_reducible exact fun _ => KV.foldl_set_wf _ _ _ rfl | (simp; done) | skip) | with_reducible apply Keeps.ite | with_reducible apply Keeps.ite1 | (with_reducible apply Keeps.foldl; intro s₁ x₁; have h₁ : Keeps m₀ s₁ s₁ := Keeps.refl s₁; try dsimp +zetaDelta only) | (with_reducible apply Keeps.foldl1; intro s₁ x₁; have h₁ : Keeps m₀ s₁.1 s₁.1 := Keeps.refl s₁.1; try dsimp +zetaDelta only) | extract_lets | split | dsimp +zetaDelta only)

theorem keeps_execRetrainDone {m₀ : Bool} {s₀ : State} {l : Nat} {pass0 : Bool} {pass1 : Bool} : KeepsNext m₀ (execRetrainDone l pass0 pass1 s₀) s₀ := by
  have h₀ : Keeps m₀ s₀ s₀ := Keeps.refl s₀
  unfold execRetrainDone
  try extract_lets
  repeat' (first | with_reducible apply KeepsNext.next | with_reducible apply KeepsNext.fault | with_reducible apply KeepsNext.ite | with_reducible assumption | with_reducible apply keeps_State_modLink | (fail_if_no_progress (with_reducible apply Keeps.upd) <;> first | with_reducible rfl | with_reducible exact fun x => x | with_reducible exact fun _ => ⟨rfl, rfl, rfl, rfl⟩ | with_reducible exact fun x => absurd x Bool.false_ne_true | with_reducible exact KV.set_wf _ _ _ | with_reducible exact KV.put_wf _ _ | with_reducible exact KV.filter_wf _ | with_reducible exact List.prefix_rfl | with_reducible exact List.prefix_append _ _ | with_reducible exact KV.map_wf (fun _ => rfl) | with_reducible exact fun _ => KV.foldl_set_wf _ _ _ rfl | (simp; done) | skip) | with_reducible apply Keeps.ite | with_reducible apply Keeps.ite1 | (with_reducible apply Keeps.foldl; intro s₁ x₁; have h₁ : Keeps m₀ s₁ s₁ := Keeps.refl s₁; try dsimp +zetaDelta only) | (with_reducible apply Keeps.foldl1; intro s₁ x₁; have h₁ : Keeps m₀ s₁.1 s₁.1 := Keeps.refl s₁.1; try dsimp +zetaDelta only) | extract_lets | split | dsimp +zetaDelta only)

theorem keeps_execRevoke {m₀ : Bool} {s₀ : State}  : KeepsNext m₀ (execRevoke s₀) s₀ := by
  have h₀ : Keeps m₀ s₀ s₀ := Keeps.refl s₀
  unfold execRevoke
  try extract_lets
  repeat' (first | with_reducible apply KeepsNext.next | with_reducible apply KeepsNext.fault | with_reducible apply KeepsNext.ite | with_reducible assumption | with_reducible apply keeps_chartCmd | with_reducible apply keeps_chartCmd | (fail_if_no_progress (with_reducible apply Keeps.upd) <;> first | with_reducible rfl | with_reducible exact fun x => x | with_reducible exact fun _ => ⟨rfl, rfl, rfl, rfl⟩ | with_reducible exact fun x => absurd x Bool.false_ne_true | with_reducible exact KV.set_wf _ _ _ | with_reducible exact KV.put_wf _ _ | with_reducible exact KV.filter_wf _ | with_reducible exact List.prefix_rfl | with_reducible exact List.prefix_append _ _ | with_reducible exact KV.map_wf (fun _ => rfl) | with_reducible exact fun _ => KV.foldl_set_wf _ _ _ rfl | (simp; done) | skip) | with_reducible apply Keeps.ite | with_reducible apply Keeps.ite1 | (with_reducible apply Keeps.foldl; intro s₁ x₁; have h₁ : Keeps m₀ s₁ s₁ := Keeps.refl s₁; try dsimp +zetaDelta only) | (with_reducible apply Keeps.foldl1; intro s₁ x₁; have h₁ : Keeps m₀ s₁.1 s₁.1 := Keeps.refl s₁.1; try dsimp +zetaDelta only) | extract_lets | split | dsimp +zetaDelta only)

theorem keeps_execRouteCommit {m₀ : Bool} {s₀ : State}  : KeepsNext m₀ (execRouteCommit s₀) s₀ := by
  have h₀ : Keeps m₀ s₀ s₀ := Keeps.refl s₀
  unfold execRouteCommit
  try extract_lets
  repeat' (first | with_reducible apply KeepsNext.next | with_reducible apply KeepsNext.fault | with_reducible apply KeepsNext.ite | with_reducible assumption | with_reducible apply keeps_chartCmd | with_reducible apply keeps_chartCmd | (fail_if_no_progress (with_reducible apply Keeps.upd) <;> first | with_reducible rfl | with_reducible exact fun x => x | with_reducible exact fun _ => ⟨rfl, rfl, rfl, rfl⟩ | with_reducible exact fun x => absurd x Bool.false_ne_true | with_reducible exact KV.set_wf _ _ _ | with_reducible exact KV.put_wf _ _ | with_reducible exact KV.filter_wf _ | with_reducible exact List.prefix_rfl | with_reducible exact List.prefix_append _ _ | with_reducible exact KV.map_wf (fun _ => rfl) | with_reducible exact fun _ => KV.foldl_set_wf _ _ _ rfl | (simp; done) | skip) | with_reducible apply Keeps.ite | with_reducible apply Keeps.ite1 | (with_reducible apply Keeps.foldl; intro s₁ x₁; have h₁ : Keeps m₀ s₁ s₁ := Keeps.refl s₁; try dsimp +zetaDelta only) | (with_reducible apply Keeps.foldl1; intro s₁ x₁; have h₁ : Keeps m₀ s₁.1 s₁.1 := Keeps.refl s₁.1; try dsimp +zetaDelta only) | extract_lets | split | dsimp +zetaDelta only)

theorem keeps_execRouteMark {m₀ : Bool} {s₀ : State} {src : Nat} {dst : Nat} {cls : Nat} : KeepsNext m₀ (execRouteMark src dst cls s₀) s₀ := by
  have h₀ : Keeps m₀ s₀ s₀ := Keeps.refl s₀
  unfold execRouteMark
  try extract_lets
  repeat' (first | with_reducible apply KeepsNext.next | with_reducible apply KeepsNext.fault | with_reducible apply KeepsNext.ite | with_reducible assumption | with_reducible apply keeps_State_flit | with_reducible apply keeps_State_modStep | (fail_if_no_progress (with_reducible apply Keeps.upd) <;> first | with_reducible rfl | with_reducible exact fun x => x | with_reducible exact fun _ => ⟨rfl, rfl, rfl, rfl⟩ | with_reducible exact fun x => absurd x Bool.false_ne_true | with_reducible exact KV.set_wf _ _ _ | with_reducible exact KV.put_wf _ _ | with_reducible exact KV.filter_wf _ | with_reducible exact List.prefix_rfl | with_reducible exact List.prefix_append _ _ | with_reducible exact KV.map_wf (fun _ => rfl) | with_reducible exact fun _ => KV.foldl_set_wf _ _ _ rfl | (simp; done) | skip) | with_reducible apply Keeps.ite | with_reducible apply Keeps.ite1 | (with_reducible apply Keeps.foldl; intro s₁ x₁; have h₁ : Keeps m₀ s₁ s₁ := Keeps.refl s₁; try dsimp +zetaDelta only) | (with_reducible apply Keeps.foldl1; intro s₁ x₁; have h₁ : Keeps m₀ s₁.1 s₁.1 := Keeps.refl s₁.1; try dsimp +zetaDelta only) | extract_lets | split | dsimp +zetaDelta only)

theorem keeps_execRouteMarkAck {m₀ : Bool} {s₀ : State} {src : Nat} {dst : Nat} {cls : Nat} : KeepsNext m₀ (execRouteMarkAck src dst cls s₀) s₀ := by
  have h₀ : Keeps m₀ s₀ s₀ := Keeps.refl s₀
  unfold execRouteMarkAck
  try extract_lets
  repeat' (first | with_reducible apply KeepsNext.next | with_reducible apply KeepsNext.fault | with_reducible apply KeepsNext.ite | with_reducible assumption | with_reducible apply keeps_routeAck | (fail_if_no_progress (with_reducible apply Keeps.upd) <;> first | with_reducible rfl | with_reducible exact fun x => x | with_reducible exact fun _ => ⟨rfl, rfl, rfl, rfl⟩ | with_reducible exact fun x => absurd x Bool.false_ne_true | with_reducible exact KV.set_wf _ _ _ | with_reducible exact KV.put_wf _ _ | with_reducible exact KV.filter_wf _ | with_reducible exact List.prefix_rfl | with_reducible exact List.prefix_append _ _ | with_reducible exact KV.map_wf (fun _ => rfl) | with_reducible exact fun _ => KV.foldl_set_wf _ _ _ rfl | (simp; done) | skip) | with_reducible apply Keeps.ite | with_reducible apply Keeps.ite1 | (with_reducible apply Keeps.foldl; intro s₁ x₁; have h₁ : Keeps m₀ s₁ s₁ := Keeps.refl s₁; try dsimp +zetaDelta only) | (with_reducible apply Keeps.foldl1; intro s₁ x₁; have h₁ : Keeps m₀ s₁.1 s₁.1 := Keeps.refl s₁.1; try dsimp +zetaDelta only) | extract_lets | split | dsimp +zetaDelta only)

theorem keeps_execRspE {m₀ : Bool} {s₀ : State} {w : Nat} {r : Sys2Proof.Rsp} : KeepsNext m₀ (execRspE w r s₀) s₀ := by
  have h₀ : Keeps m₀ s₀ s₀ := Keeps.refl s₀
  unfold execRspE
  try extract_lets
  repeat' (first | with_reducible apply KeepsNext.next | with_reducible apply KeepsNext.fault | with_reducible apply KeepsNext.ite | with_reducible assumption | with_reducible apply keeps_response | with_reducible apply keeps_response | (fail_if_no_progress (with_reducible apply Keeps.upd) <;> first | with_reducible rfl | with_reducible exact fun x => x | with_reducible exact fun _ => ⟨rfl, rfl, rfl, rfl⟩ | with_reducible exact fun x => absurd x Bool.false_ne_true | with_reducible exact KV.set_wf _ _ _ | with_reducible exact KV.put_wf _ _ | with_reducible exact KV.filter_wf _ | with_reducible exact List.prefix_rfl | with_reducible exact List.prefix_append _ _ | with_reducible exact KV.map_wf (fun _ => rfl) | with_reducible exact fun _ => KV.foldl_set_wf _ _ _ rfl | (simp; done) | skip) | with_reducible apply Keeps.ite | with_reducible apply Keeps.ite1 | (with_reducible apply Keeps.foldl; intro s₁ x₁; have h₁ : Keeps m₀ s₁ s₁ := Keeps.refl s₁; try dsimp +zetaDelta only) | (with_reducible apply Keeps.foldl1; intro s₁ x₁; have h₁ : Keeps m₀ s₁.1 s₁.1 := Keeps.refl s₁.1; try dsimp +zetaDelta only) | extract_lets | split | dsimp +zetaDelta only)

theorem keeps_execRspI {m₀ : Bool} {s₀ : State} {w : Nat} {r : Sys2Proof.Rsp} : KeepsNext m₀ (execRspI w r s₀) s₀ := by
  have h₀ : Keeps m₀ s₀ s₀ := Keeps.refl s₀
  unfold execRspI
  try extract_lets
  repeat' (first | with_reducible apply KeepsNext.next | with_reducible apply KeepsNext.fault | with_reducible apply KeepsNext.ite | with_reducible assumption | with_reducible apply keeps_response | with_reducible apply keeps_response | (fail_if_no_progress (with_reducible apply Keeps.upd) <;> first | with_reducible rfl | with_reducible exact fun x => x | with_reducible exact fun _ => ⟨rfl, rfl, rfl, rfl⟩ | with_reducible exact fun x => absurd x Bool.false_ne_true | with_reducible exact KV.set_wf _ _ _ | with_reducible exact KV.put_wf _ _ | with_reducible exact KV.filter_wf _ | with_reducible exact List.prefix_rfl | with_reducible exact List.prefix_append _ _ | with_reducible exact KV.map_wf (fun _ => rfl) | with_reducible exact fun _ => KV.foldl_set_wf _ _ _ rfl | (simp; done) | skip) | with_reducible apply Keeps.ite | with_reducible apply Keeps.ite1 | (with_reducible apply Keeps.foldl; intro s₁ x₁; have h₁ : Keeps m₀ s₁ s₁ := Keeps.refl s₁; try dsimp +zetaDelta only) | (with_reducible apply Keeps.foldl1; intro s₁ x₁; have h₁ : Keeps m₀ s₁.1 s₁.1 := Keeps.refl s₁.1; try dsimp +zetaDelta only) | extract_lets | split | dsimp +zetaDelta only)

theorem keeps_execRspS {m₀ : Bool} {s₀ : State} {w : Nat} {r : Sys2Proof.Rsp} : KeepsNext m₀ (execRspS w r s₀) s₀ := by
  have h₀ : Keeps m₀ s₀ s₀ := Keeps.refl s₀
  unfold execRspS
  try extract_lets
  repeat' (first | with_reducible apply KeepsNext.next | with_reducible apply KeepsNext.fault | with_reducible apply KeepsNext.ite | with_reducible assumption | with_reducible apply keeps_response | with_reducible apply keeps_response | (fail_if_no_progress (with_reducible apply Keeps.upd) <;> first | with_reducible rfl | with_reducible exact fun x => x | with_reducible exact fun _ => ⟨rfl, rfl, rfl, rfl⟩ | with_reducible exact fun x => absurd x Bool.false_ne_true | with_reducible exact KV.set_wf _ _ _ | with_reducible exact KV.put_wf _ _ | with_reducible exact KV.filter_wf _ | with_reducible exact List.prefix_rfl | with_reducible exact List.prefix_append _ _ | with_reducible exact KV.map_wf (fun _ => rfl) | with_reducible exact fun _ => KV.foldl_set_wf _ _ _ rfl | (simp; done) | skip) | with_reducible apply Keeps.ite | with_reducible apply Keeps.ite1 | (with_reducible apply Keeps.foldl; intro s₁ x₁; have h₁ : Keeps m₀ s₁ s₁ := Keeps.refl s₁; try dsimp +zetaDelta only) | (with_reducible apply Keeps.foldl1; intro s₁ x₁; have h₁ : Keeps m₀ s₁.1 s₁.1 := Keeps.refl s₁.1; try dsimp +zetaDelta only) | extract_lets | split | dsimp +zetaDelta only)

theorem keeps_execRsv {m₀ : Bool} {s₀ : State} {w : Nat} {q : Sys2Proof.Req} : KeepsNext m₀ (execRsv w q s₀) s₀ := by
  have h₀ : Keeps m₀ s₀ s₀ := Keeps.refl s₀
  unfold execRsv
  try extract_lets
  repeat' (first | with_reducible apply KeepsNext.next | with_reducible apply KeepsNext.fault | with_reducible apply KeepsNext.ite | with_reducible assumption | with_reducible apply keeps_requestCmd | with_reducible apply keeps_requestCmd | (fail_if_no_progress (with_reducible apply Keeps.upd) <;> first | with_reducible rfl | with_reducible exact fun x => x | with_reducible exact fun _ => ⟨rfl, rfl, rfl, rfl⟩ | with_reducible exact fun x => absurd x Bool.false_ne_true | with_reducible exact KV.set_wf _ _ _ | with_reducible exact KV.put_wf _ _ | with_reducible exact KV.filter_wf _ | with_reducible exact List.prefix_rfl | with_reducible exact List.prefix_append _ _ | with_reducible exact KV.map_wf (fun _ => rfl) | with_reducible exact fun _ => KV.foldl_set_wf _ _ _ rfl | (simp; done) | skip) | with_reducible apply Keeps.ite | with_reducible apply Keeps.ite1 | (with_reducible apply Keeps.foldl; intro s₁ x₁; have h₁ : Keeps m₀ s₁ s₁ := Keeps.refl s₁; try dsimp +zetaDelta only) | (with_reducible apply Keeps.foldl1; intro s₁ x₁; have h₁ : Keeps m₀ s₁.1 s₁.1 := Keeps.refl s₁.1; try dsimp +zetaDelta only) | extract_lets | split | dsimp +zetaDelta only)

theorem keeps_execRsvTimeout {m₀ : Bool} {s₀ : State} {t : Nat} {i : Nat} : KeepsNext m₀ (execRsvTimeout t i s₀) s₀ := by
  have h₀ : Keeps m₀ s₀ s₀ := Keeps.refl s₀
  unfold execRsvTimeout
  try extract_lets
  repeat' (first | with_reducible apply KeepsNext.next | with_reducible apply KeepsNext.fault | with_reducible apply KeepsNext.ite | with_reducible assumption | with_reducible apply keeps_State_bump | with_reducible apply keeps_State_modTill | (fail_if_no_progress (with_reducible apply Keeps.upd) <;> first | with_reducible rfl | with_reducible exact fun x => x | with_reducible exact fun _ => ⟨rfl, rfl, rfl, rfl⟩ | with_reducible exact fun x => absurd x Bool.false_ne_true | with_reducible exact KV.set_wf _ _ _ | with_reducible exact KV.put_wf _ _ | with_reducible exact KV.filter_wf _ | with_reducible exact List.prefix_rfl | with_reducible exact List.prefix_append _ _ | with_reducible exact KV.map_wf (fun _ => rfl) | with_reducible exact fun _ => KV.foldl_set_wf _ _ _ rfl | (simp; done) | skip) | with_reducible apply Keeps.ite | with_reducible apply Keeps.ite1 | (with_reducible apply Keeps.foldl; intro s₁ x₁; have h₁ : Keeps m₀ s₁ s₁ := Keeps.refl s₁; try dsimp +zetaDelta only) | (with_reducible apply Keeps.foldl1; intro s₁ x₁; have h₁ : Keeps m₀ s₁.1 s₁.1 := Keeps.refl s₁.1; try dsimp +zetaDelta only) | extract_lets | split | dsimp +zetaDelta only)

theorem keeps_execSalvage {m₀ : Bool} {s₀ : State} {t : Nat} : KeepsNext m₀ (execSalvage t s₀) s₀ := by
  have h₀ : Keeps m₀ s₀ s₀ := Keeps.refl s₀
  unfold execSalvage
  try extract_lets
  repeat' (first | with_reducible apply KeepsNext.next | with_reducible apply KeepsNext.fault | with_reducible apply KeepsNext.ite | with_reducible assumption | with_reducible apply keeps_salvage | with_reducible apply keeps_settleFails | (fail_if_no_progress (with_reducible apply Keeps.upd) <;> first | with_reducible rfl | with_reducible exact fun x => x | with_reducible exact fun _ => ⟨rfl, rfl, rfl, rfl⟩ | with_reducible exact fun x => absurd x Bool.false_ne_true | with_reducible exact KV.set_wf _ _ _ | with_reducible exact KV.put_wf _ _ | with_reducible exact KV.filter_wf _ | with_reducible exact List.prefix_rfl | with_reducible exact List.prefix_append _ _ | with_reducible exact KV.map_wf (fun _ => rfl) | with_reducible exact fun _ => KV.foldl_set_wf _ _ _ rfl | (simp; done) | skip) | with_reducible apply Keeps.ite | with_reducible apply Keeps.ite1 | (with_reducible apply Keeps.foldl; intro s₁ x₁; have h₁ : Keeps m₀ s₁ s₁ := Keeps.refl s₁; try dsimp +zetaDelta only) | (with_reducible apply Keeps.foldl1; intro s₁ x₁; have h₁ : Keeps m₀ s₁.1 s₁.1 := Keeps.refl s₁.1; try dsimp +zetaDelta only) | extract_lets | split | dsimp +zetaDelta only)

theorem keeps_execSalvageMark {m₀ : Bool} {s₀ : State} {t : Nat} {w : Nat} : KeepsNext m₀ (execSalvageMark t w s₀) s₀ := by
  have h₀ : Keeps m₀ s₀ s₀ := Keeps.refl s₀
  unfold execSalvageMark
  try extract_lets
  repeat' (first | with_reducible apply KeepsNext.next | with_reducible apply KeepsNext.fault | with_reducible apply KeepsNext.ite | with_reducible assumption | with_reducible apply keeps_State_modTill | (fail_if_no_progress (with_reducible apply Keeps.upd) <;> first | with_reducible rfl | with_reducible exact fun x => x | with_reducible exact fun _ => ⟨rfl, rfl, rfl, rfl⟩ | with_reducible exact fun x => absurd x Bool.false_ne_true | with_reducible exact KV.set_wf _ _ _ | with_reducible exact KV.put_wf _ _ | with_reducible exact KV.filter_wf _ | with_reducible exact List.prefix_rfl | with_reducible exact List.prefix_append _ _ | with_reducible exact KV.map_wf (fun _ => rfl) | with_reducible exact fun _ => KV.foldl_set_wf _ _ _ rfl | (simp; done) | skip) | with_reducible apply Keeps.ite | with_reducible apply Keeps.ite1 | (with_reducible apply Keeps.foldl; intro s₁ x₁; have h₁ : Keeps m₀ s₁ s₁ := Keeps.refl s₁; try dsimp +zetaDelta only) | (with_reducible apply Keeps.foldl1; intro s₁ x₁; have h₁ : Keeps m₀ s₁.1 s₁.1 := Keeps.refl s₁.1; try dsimp +zetaDelta only) | extract_lets | split | dsimp +zetaDelta only)

theorem keeps_execScrubRun {m₀ : Bool} {s₀ : State} {t : Nat} {bank : Nat} {upsets : List (Nat × Sys2Proof.VBits)} : KeepsNext m₀ (execScrubRun t bank upsets s₀) s₀ := by
  have h₀ : Keeps m₀ s₀ s₀ := Keeps.refl s₀
  unfold execScrubRun
  try extract_lets
  repeat' (first | with_reducible apply KeepsNext.next | with_reducible apply KeepsNext.fault | with_reducible apply KeepsNext.ite | with_reducible assumption | with_reducible apply keeps_scrubRun | with_reducible apply keeps_worked | (fail_if_no_progress (with_reducible apply Keeps.upd) <;> first | with_reducible rfl | with_reducible exact fun x => x | with_reducible exact fun _ => ⟨rfl, rfl, rfl, rfl⟩ | with_reducible exact fun x => absurd x Bool.false_ne_true | with_reducible exact KV.set_wf _ _ _ | with_reducible exact KV.put_wf _ _ | with_reducible exact KV.filter_wf _ | with_reducible exact List.prefix_rfl | with_reducible exact List.prefix_append _ _ | with_reducible exact KV.map_wf (fun _ => rfl) | with_reducible exact fun _ => KV.foldl_set_wf _ _ _ rfl | (simp; done) | skip) | with_reducible apply Keeps.ite | with_reducible apply Keeps.ite1 | (with_reducible apply Keeps.foldl; intro s₁ x₁; have h₁ : Keeps m₀ s₁ s₁ := Keeps.refl s₁; try dsimp +zetaDelta only) | (with_reducible apply Keeps.foldl1; intro s₁ x₁; have h₁ : Keeps m₀ s₁.1 s₁.1 := Keeps.refl s₁.1; try dsimp +zetaDelta only) | extract_lets | split | dsimp +zetaDelta only)

theorem keeps_execSegDataRead {m₀ : Bool} {s₀ : State}  : KeepsNext m₀ (execSegDataRead s₀) s₀ := by
  have h₀ : Keeps m₀ s₀ s₀ := Keeps.refl s₀
  unfold execSegDataRead
  try extract_lets
  repeat' (first | with_reducible apply KeepsNext.next | with_reducible apply KeepsNext.fault | with_reducible apply KeepsNext.ite | with_reducible assumption | with_reducible apply keeps_windowRead | (fail_if_no_progress (with_reducible apply Keeps.upd) <;> first | with_reducible rfl | with_reducible exact fun x => x | with_reducible exact fun _ => ⟨rfl, rfl, rfl, rfl⟩ | with_reducible exact fun x => absurd x Bool.false_ne_true | with_reducible exact KV.set_wf _ _ _ | with_reducible exact KV.put_wf _ _ | with_reducible exact KV.filter_wf _ | with_reducible exact List.prefix_rfl | with_reducible exact List.prefix_append _ _ | with_reducible exact KV.map_wf (fun _ => rfl) | with_reducible exact fun _ => KV.foldl_set_wf _ _ _ rfl | (simp; done) | skip) | with_reducible apply Keeps.ite | with_reducible apply Keeps.ite1 | (with_reducible apply Keeps.foldl; intro s₁ x₁; have h₁ : Keeps m₀ s₁ s₁ := Keeps.refl s₁; try dsimp +zetaDelta only) | (with_reducible apply Keeps.foldl1; intro s₁ x₁; have h₁ : Keeps m₀ s₁.1 s₁.1 := Keeps.refl s₁.1; try dsimp +zetaDelta only) | extract_lets | split | dsimp +zetaDelta only)

theorem keeps_execSegDataWrite {m₀ : Bool} {s₀ : State} {v : Sys2Proof.Word} : KeepsNext m₀ (execSegDataWrite v s₀) s₀ := by
  have h₀ : Keeps m₀ s₀ s₀ := Keeps.refl s₀
  unfold execSegDataWrite
  try extract_lets
  repeat' (first | with_reducible apply KeepsNext.next | with_reducible apply KeepsNext.fault | with_reducible apply KeepsNext.ite | with_reducible assumption | with_reducible apply keeps_chartCmd | with_reducible apply keeps_chartCmd | (fail_if_no_progress (with_reducible apply Keeps.upd) <;> first | with_reducible rfl | with_reducible exact fun x => x | with_reducible exact fun _ => ⟨rfl, rfl, rfl, rfl⟩ | with_reducible exact fun x => absurd x Bool.false_ne_true | with_reducible exact KV.set_wf _ _ _ | with_reducible exact KV.put_wf _ _ | with_reducible exact KV.filter_wf _ | with_reducible exact List.prefix_rfl | with_reducible exact List.prefix_append _ _ | with_reducible exact KV.map_wf (fun _ => rfl) | with_reducible exact fun _ => KV.foldl_set_wf _ _ _ rfl | (simp; done) | skip) | with_reducible apply Keeps.ite | with_reducible apply Keeps.ite1 | (with_reducible apply Keeps.foldl; intro s₁ x₁; have h₁ : Keeps m₀ s₁ s₁ := Keeps.refl s₁; try dsimp +zetaDelta only) | (with_reducible apply Keeps.foldl1; intro s₁ x₁; have h₁ : Keeps m₀ s₁.1 s₁.1 := Keeps.refl s₁.1; try dsimp +zetaDelta only) | extract_lets | split | dsimp +zetaDelta only)

theorem keeps_execSegTarget {m₀ : Bool} {s₀ : State} {v : BitVec 32} : KeepsNext m₀ (execSegTarget v s₀) s₀ := by
  have h₀ : Keeps m₀ s₀ s₀ := Keeps.refl s₀
  unfold execSegTarget
  try extract_lets
  repeat' (first | with_reducible apply KeepsNext.next | with_reducible apply KeepsNext.fault | with_reducible apply KeepsNext.ite | with_reducible assumption | with_reducible apply keeps_chartCmd | with_reducible apply keeps_chartCmd | (fail_if_no_progress (with_reducible apply Keeps.upd) <;> first | with_reducible rfl | with_reducible exact fun x => x | with_reducible exact fun _ => ⟨rfl, rfl, rfl, rfl⟩ | with_reducible exact fun x => absurd x Bool.false_ne_true | with_reducible exact KV.set_wf _ _ _ | with_reducible exact KV.put_wf _ _ | with_reducible exact KV.filter_wf _ | with_reducible exact List.prefix_rfl | with_reducible exact List.prefix_append _ _ | with_reducible exact KV.map_wf (fun _ => rfl) | with_reducible exact fun _ => KV.foldl_set_wf _ _ _ rfl | (simp; done) | skip) | with_reducible apply Keeps.ite | with_reducible apply Keeps.ite1 | (with_reducible apply Keeps.foldl; intro s₁ x₁; have h₁ : Keeps m₀ s₁ s₁ := Keeps.refl s₁; try dsimp +zetaDelta only) | (with_reducible apply Keeps.foldl1; intro s₁ x₁; have h₁ : Keeps m₀ s₁.1 s₁.1 := Keeps.refl s₁.1; try dsimp +zetaDelta only) | extract_lets | split | dsimp +zetaDelta only)

theorem keeps_execSessionIdle {m₀ : Bool} {s₀ : State} {k : Nat} : KeepsNext m₀ (execSessionIdle k s₀) s₀ := by
  have h₀ : Keeps m₀ s₀ s₀ := Keeps.refl s₀
  unfold execSessionIdle
  try extract_lets
  repeat' (first | with_reducible apply KeepsNext.next | with_reducible apply KeepsNext.fault | with_reducible apply KeepsNext.ite | with_reducible assumption | with_reducible apply keeps_closeSession | (fail_if_no_progress (with_reducible apply Keeps.upd) <;> first | with_reducible rfl | with_reducible exact fun x => x | with_reducible exact fun _ => ⟨rfl, rfl, rfl, rfl⟩ | with_reducible exact fun x => absurd x Bool.false_ne_true | with_reducible exact KV.set_wf _ _ _ | with_reducible exact KV.put_wf _ _ | with_reducible exact KV.filter_wf _ | with_reducible exact List.prefix_rfl | with_reducible exact List.prefix_append _ _ | with_reducible exact KV.map_wf (fun _ => rfl) | with_reducible exact fun _ => KV.foldl_set_wf _ _ _ rfl | (simp; done) | skip) | with_reducible apply Keeps.ite | with_reducible apply Keeps.ite1 | (with_reducible apply Keeps.foldl; intro s₁ x₁; have h₁ : Keeps m₀ s₁ s₁ := Keeps.refl s₁; try dsimp +zetaDelta only) | (with_reducible apply Keeps.foldl1; intro s₁ x₁; have h₁ : Keeps m₀ s₁.1 s₁.1 := Keeps.refl s₁.1; try dsimp +zetaDelta only) | extract_lets | split | dsimp +zetaDelta only)

theorem keeps_execSettle {m₀ : Bool} {s₀ : State} {w : Nat} {q : Sys2Proof.Req} : KeepsNext m₀ (execSettle w q s₀) s₀ := by
  have h₀ : Keeps m₀ s₀ s₀ := Keeps.refl s₀
  unfold execSettle
  try extract_lets
  repeat' (first | with_reducible apply KeepsNext.next | with_reducible apply KeepsNext.fault | with_reducible apply KeepsNext.ite | with_reducible assumption | with_reducible apply keeps_requestCmd | with_reducible apply keeps_requestCmd | (fail_if_no_progress (with_reducible apply Keeps.upd) <;> first | with_reducible rfl | with_reducible exact fun x => x | with_reducible exact fun _ => ⟨rfl, rfl, rfl, rfl⟩ | with_reducible exact fun x => absurd x Bool.false_ne_true | with_reducible exact KV.set_wf _ _ _ | with_reducible exact KV.put_wf _ _ | with_reducible exact KV.filter_wf _ | with_reducible exact List.prefix_rfl | with_reducible exact List.prefix_append _ _ | with_reducible exact KV.map_wf (fun _ => rfl) | with_reducible exact fun _ => KV.foldl_set_wf _ _ _ rfl | (simp; done) | skip) | with_reducible apply Keeps.ite | with_reducible apply Keeps.ite1 | (with_reducible apply Keeps.foldl; intro s₁ x₁; have h₁ : Keeps m₀ s₁ s₁ := Keeps.refl s₁; try dsimp +zetaDelta only) | (with_reducible apply Keeps.foldl1; intro s₁ x₁; have h₁ : Keeps m₀ s₁.1 s₁.1 := Keeps.refl s₁.1; try dsimp +zetaDelta only) | extract_lets | split | dsimp +zetaDelta only)

theorem keeps_execShaperConfigWrite {m₀ : Bool} {s₀ : State} {f : Sys2Proof.Func} {v : Sys2Proof.Word} : KeepsNext m₀ (execShaperConfigWrite f v s₀) s₀ := by
  have h₀ : Keeps m₀ s₀ s₀ := Keeps.refl s₀
  unfold execShaperConfigWrite
  try extract_lets
  repeat' (first | with_reducible apply KeepsNext.next | with_reducible apply KeepsNext.fault | with_reducible apply KeepsNext.ite | with_reducible assumption | with_reducible apply keeps_chartCmd | with_reducible apply keeps_chartCmd | (fail_if_no_progress (with_reducible apply Keeps.upd) <;> first | with_reducible rfl | with_reducible exact fun x => x | with_reducible exact fun _ => ⟨rfl, rfl, rfl, rfl⟩ | with_reducible exact fun x => absurd x Bool.false_ne_true | with_reducible exact KV.set_wf _ _ _ | with_reducible exact KV.put_wf _ _ | with_reducible exact KV.filter_wf _ | with_reducible exact List.prefix_rfl | with_reducible exact List.prefix_append _ _ | with_reducible exact KV.map_wf (fun _ => rfl) | with_reducible exact fun _ => KV.foldl_set_wf _ _ _ rfl | (simp; done) | skip) | with_reducible apply Keeps.ite | with_reducible apply Keeps.ite1 | (with_reducible apply Keeps.foldl; intro s₁ x₁; have h₁ : Keeps m₀ s₁ s₁ := Keeps.refl s₁; try dsimp +zetaDelta only) | (with_reducible apply Keeps.foldl1; intro s₁ x₁; have h₁ : Keeps m₀ s₁.1 s₁.1 := Keeps.refl s₁.1; try dsimp +zetaDelta only) | extract_lets | split | dsimp +zetaDelta only)

theorem keeps_execSlotAttention {m₀ : Bool} {s₀ : State} {w : Nat} : KeepsNext m₀ (execSlotAttention w s₀) s₀ := by
  have h₀ : Keeps m₀ s₀ s₀ := Keeps.refl s₀
  unfold execSlotAttention
  try extract_lets
  repeat' (first | with_reducible apply KeepsNext.next | with_reducible apply KeepsNext.fault | with_reducible apply KeepsNext.ite | with_reducible assumption | with_reducible apply keeps_State_note | with_reducible apply keeps_State_setRawN | with_reducible apply keeps_agentCmd | (fail_if_no_progress (with_reducible apply Keeps.upd) <;> first | with_reducible rfl | with_reducible exact fun x => x | with_reducible exact fun _ => ⟨rfl, rfl, rfl, rfl⟩ | with_reducible exact fun x => absurd x Bool.false_ne_true | with_reducible exact KV.set_wf _ _ _ | with_reducible exact KV.put_wf _ _ | with_reducible exact KV.filter_wf _ | with_reducible exact List.prefix_rfl | with_reducible exact List.prefix_append _ _ | with_reducible exact KV.map_wf (fun _ => rfl) | with_reducible exact fun _ => KV.foldl_set_wf _ _ _ rfl | (simp; done) | skip) | with_reducible apply Keeps.ite | with_reducible apply Keeps.ite1 | (with_reducible apply Keeps.foldl; intro s₁ x₁; have h₁ : Keeps m₀ s₁ s₁ := Keeps.refl s₁; try dsimp +zetaDelta only) | (with_reducible apply Keeps.foldl1; intro s₁ x₁; have h₁ : Keeps m₀ s₁.1 s₁.1 := Keeps.refl s₁.1; try dsimp +zetaDelta only) | extract_lets | split | dsimp +zetaDelta only)

theorem keeps_execSlotCtrlWrite {m₀ : Bool} {s₀ : State} {w : Nat} {v : BitVec 16} : KeepsNext m₀ (execSlotCtrlWrite w v s₀) s₀ := by
  have h₀ : Keeps m₀ s₀ s₀ := Keeps.refl s₀
  unfold execSlotCtrlWrite
  try extract_lets
  repeat' (first | with_reducible apply KeepsNext.next | with_reducible apply KeepsNext.fault | with_reducible apply KeepsNext.ite | with_reducible assumption | with_reducible apply keeps_chartCmd | with_reducible apply keeps_chartCmd | (fail_if_no_progress (with_reducible apply Keeps.upd) <;> first | with_reducible rfl | with_reducible exact fun x => x | with_reducible exact fun _ => ⟨rfl, rfl, rfl, rfl⟩ | with_reducible exact fun x => absurd x Bool.false_ne_true | with_reducible exact KV.set_wf _ _ _ | with_reducible exact KV.put_wf _ _ | with_reducible exact KV.filter_wf _ | with_reducible exact List.prefix_rfl | with_reducible exact List.prefix_append _ _ | with_reducible exact KV.map_wf (fun _ => rfl) | with_reducible exact fun _ => KV.foldl_set_wf _ _ _ rfl | (simp; done) | skip) | with_reducible apply Keeps.ite | with_reducible apply Keeps.ite1 | (with_reducible apply Keeps.foldl; intro s₁ x₁; have h₁ : Keeps m₀ s₁ s₁ := Keeps.refl s₁; try dsimp +zetaDelta only) | (with_reducible apply Keeps.foldl1; intro s₁ x₁; have h₁ : Keeps m₀ s₁.1 s₁.1 := Keeps.refl s₁.1; try dsimp +zetaDelta only) | extract_lets | split | dsimp +zetaDelta only)

theorem keeps_execSnoopDelivery {m₀ : Bool} {s₀ : State} {w : Nat} {t : Nat} : KeepsNext m₀ (execSnoopDelivery w t s₀) s₀ := by
  have h₀ : Keeps m₀ s₀ s₀ := Keeps.refl s₀
  unfold execSnoopDelivery
  try extract_lets
  repeat' (first | with_reducible apply KeepsNext.next | with_reducible apply KeepsNext.fault | with_reducible apply KeepsNext.ite | with_reducible assumption | with_reducible apply keeps_State_modWicket | with_reducible apply keeps_forecloseSnoop | with_reducible apply keeps_markBypass | with_reducible apply keeps_takeSids | (fail_if_no_progress (with_reducible apply Keeps.upd) <;> first | with_reducible rfl | with_reducible exact fun x => x | with_reducible exact fun _ => ⟨rfl, rfl, rfl, rfl⟩ | with_reducible exact fun x => absurd x Bool.false_ne_true | with_reducible exact KV.set_wf _ _ _ | with_reducible exact KV.put_wf _ _ | with_reducible exact KV.filter_wf _ | with_reducible exact List.prefix_rfl | with_reducible exact List.prefix_append _ _ | with_reducible exact KV.map_wf (fun _ => rfl) | with_reducible exact fun _ => KV.foldl_set_wf _ _ _ rfl | (simp; done) | skip) | with_reducible apply Keeps.ite | with_reducible apply Keeps.ite1 | (with_reducible apply Keeps.foldl; intro s₁ x₁; have h₁ : Keeps m₀ s₁ s₁ := Keeps.refl s₁; try dsimp +zetaDelta only) | (with_reducible apply Keeps.foldl1; intro s₁ x₁; have h₁ : Keeps m₀ s₁.1 s₁.1 := Keeps.refl s₁.1; try dsimp +zetaDelta only) | extract_lets | split | dsimp +zetaDelta only)

theorem keeps_execSnoopTimeout {m₀ : Bool} {s₀ : State} {w : Nat} {sid : Nat} : KeepsNext m₀ (execSnoopTimeout w sid s₀) s₀ := by
  have h₀ : Keeps m₀ s₀ s₀ := Keeps.refl s₀
  unfold execSnoopTimeout
  try extract_lets
  repeat' (first | with_reducible apply KeepsNext.next | with_reducible apply KeepsNext.fault | with_reducible apply KeepsNext.ite | with_reducible assumption | with_reducible apply keeps_declareDead | (fail_if_no_progress (with_reducible apply Keeps.upd) <;> first | with_reducible rfl | with_reducible exact fun x => x | with_reducible exact fun _ => ⟨rfl, rfl, rfl, rfl⟩ | with_reducible exact fun x => absurd x Bool.false_ne_true | with_reducible exact KV.set_wf _ _ _ | with_reducible exact KV.put_wf _ _ | with_reducible exact KV.filter_wf _ | with_reducible exact List.prefix_rfl | with_reducible exact List.prefix_append _ _ | with_reducible exact KV.map_wf (fun _ => rfl) | with_reducible exact fun _ => KV.foldl_set_wf _ _ _ rfl | (simp; done) | skip) | with_reducible apply Keeps.ite | with_reducible apply Keeps.ite1 | (with_reducible apply Keeps.foldl; intro s₁ x₁; have h₁ : Keeps m₀ s₁ s₁ := Keeps.refl s₁; try dsimp +zetaDelta only) | (with_reducible apply Keeps.foldl1; intro s₁ x₁; have h₁ : Keeps m₀ s₁.1 s₁.1 := Keeps.refl s₁.1; try dsimp +zetaDelta only) | extract_lets | split | dsimp +zetaDelta only)

theorem keeps_execStart {m₀ : Bool} {s₀ : State}  : KeepsNext m₀ (execStart s₀) s₀ := by
  have h₀ : Keeps m₀ s₀ s₀ := Keeps.refl s₀
  unfold execStart
  try extract_lets
  repeat' (first | with_reducible apply KeepsNext.next | with_reducible apply KeepsNext.fault | with_reducible apply KeepsNext.ite | with_reducible assumption | with_reducible apply keeps_chartCmd | with_reducible apply keeps_chartCmd | (fail_if_no_progress (with_reducible apply Keeps.upd) <;> first | with_reducible rfl | with_reducible exact fun x => x | with_reducible exact fun _ => ⟨rfl, rfl, rfl, rfl⟩ | with_reducible exact fun x => absurd x Bool.false_ne_true | with_reducible exact KV.set_wf _ _ _ | with_reducible exact KV.put_wf _ _ | with_reducible exact KV.filter_wf _ | with_reducible exact List.prefix_rfl | with_reducible exact List.prefix_append _ _ | with_reducible exact KV.map_wf (fun _ => rfl) | with_reducible exact fun _ => KV.foldl_set_wf _ _ _ rfl | (simp; done) | skip) | with_reducible apply Keeps.ite | with_reducible apply Keeps.ite1 | (with_reducible apply Keeps.foldl; intro s₁ x₁; have h₁ : Keeps m₀ s₁ s₁ := Keeps.refl s₁; try dsimp +zetaDelta only) | (with_reducible apply Keeps.foldl1; intro s₁ x₁; have h₁ : Keeps m₀ s₁.1 s₁.1 := Keeps.refl s₁.1; try dsimp +zetaDelta only) | extract_lets | split | dsimp +zetaDelta only)

theorem keeps_execSubstituteTick {s₀ : State} {dt : Nat} {ptm : Sys2Proof.Word} {v : Bool} : KeepsNext false (execSubstituteTick dt ptm v s₀) s₀ := by
  have h₀ : Keeps false s₀ s₀ := Keeps.refl s₀
  unfold execSubstituteTick
  try extract_lets
  repeat' (first | with_reducible apply KeepsNext.next | with_reducible apply KeepsNext.fault | with_reducible apply KeepsNext.ite | with_reducible assumption | with_reducible apply keeps_advance | with_reducible apply keeps_latchPtm | with_reducible apply keeps_tickStep | (fail_if_no_progress (with_reducible apply Keeps.upd) <;> first | with_reducible rfl | with_reducible exact fun x => x | with_reducible exact fun _ => ⟨rfl, rfl, rfl, rfl⟩ | with_reducible exact fun x => absurd x Bool.false_ne_true | with_reducible exact KV.set_wf _ _ _ | with_reducible exact KV.put_wf _ _ | with_reducible exact KV.filter_wf _ | with_reducible exact List.prefix_rfl | with_reducible exact List.prefix_append _ _ | with_reducible exact KV.map_wf (fun _ => rfl) | with_reducible exact fun _ => KV.foldl_set_wf _ _ _ rfl | (simp; done) | skip) | with_reducible apply Keeps.ite | with_reducible apply Keeps.ite1 | (with_reducible apply Keeps.foldl; intro s₁ x₁; have h₁ : Keeps false s₁ s₁ := Keeps.refl s₁; try dsimp +zetaDelta only) | (with_reducible apply Keeps.foldl1; intro s₁ x₁; have h₁ : Keeps false s₁.1 s₁.1 := Keeps.refl s₁.1; try dsimp +zetaDelta only) | extract_lets | split | dsimp +zetaDelta only)

theorem keeps_execSwitch {m₀ : Bool} {s₀ : State} {batch : Nat} : KeepsNext m₀ (execSwitch batch s₀) s₀ := by
  have h₀ : Keeps m₀ s₀ s₀ := Keeps.refl s₀
  unfold execSwitch
  try extract_lets
  repeat' (first | with_reducible apply KeepsNext.next | with_reducible apply KeepsNext.fault | with_reducible apply KeepsNext.ite | with_reducible assumption | with_reducible apply keeps_State_modXfer | with_reducible apply keeps_moveBuckets | (fail_if_no_progress (with_reducible apply Keeps.upd) <;> first | with_reducible rfl | with_reducible exact fun x => x | with_reducible exact fun _ => ⟨rfl, rfl, rfl, rfl⟩ | with_reducible exact fun x => absurd x Bool.false_ne_true | with_reducible exact KV.set_wf _ _ _ | with_reducible exact KV.put_wf _ _ | with_reducible exact KV.filter_wf _ | with_reducible exact List.prefix_rfl | with_reducible exact List.prefix_append _ _ | with_reducible exact KV.map_wf (fun _ => rfl) | with_reducible exact fun _ => KV.foldl_set_wf _ _ _ rfl | (simp; done) | skip) | with_reducible apply Keeps.ite | with_reducible apply Keeps.ite1 | (with_reducible apply Keeps.foldl; intro s₁ x₁; have h₁ : Keeps m₀ s₁ s₁ := Keeps.refl s₁; try dsimp +zetaDelta only) | (with_reducible apply Keeps.foldl1; intro s₁ x₁; have h₁ : Keeps m₀ s₁.1 s₁.1 := Keeps.refl s₁.1; try dsimp +zetaDelta only) | extract_lets | split | dsimp +zetaDelta only)

theorem keeps_execTallyRead {m₀ : Bool} {s₀ : State} {h : Sys2Proof.Teller} : KeepsNext m₀ (execTallyRead h s₀) s₀ := by
  have h₀ : Keeps m₀ s₀ s₀ := Keeps.refl s₀
  unfold execTallyRead
  try extract_lets
  repeat' (first | with_reducible apply KeepsNext.next | with_reducible apply KeepsNext.fault | with_reducible apply KeepsNext.ite | with_reducible assumption | with_reducible apply keeps_teller | (fail_if_no_progress (with_reducible apply Keeps.upd) <;> first | with_reducible rfl | with_reducible exact fun x => x | with_reducible exact fun _ => ⟨rfl, rfl, rfl, rfl⟩ | with_reducible exact fun x => absurd x Bool.false_ne_true | with_reducible exact KV.set_wf _ _ _ | with_reducible exact KV.put_wf _ _ | with_reducible exact KV.filter_wf _ | with_reducible exact List.prefix_rfl | with_reducible exact List.prefix_append _ _ | with_reducible exact KV.map_wf (fun _ => rfl) | with_reducible exact fun _ => KV.foldl_set_wf _ _ _ rfl | (simp; done) | skip) | with_reducible apply Keeps.ite | with_reducible apply Keeps.ite1 | (with_reducible apply Keeps.foldl; intro s₁ x₁; have h₁ : Keeps m₀ s₁ s₁ := Keeps.refl s₁; try dsimp +zetaDelta only) | (with_reducible apply Keeps.foldl1; intro s₁ x₁; have h₁ : Keeps m₀ s₁.1 s₁.1 := Keeps.refl s₁.1; try dsimp +zetaDelta only) | extract_lets | split | dsimp +zetaDelta only)

theorem keeps_execTallySample {m₀ : Bool} {s₀ : State} {latency : Nat} {full : Bool} : KeepsNext m₀ (execTallySample latency full s₀) s₀ := by
  have h₀ : Keeps m₀ s₀ s₀ := Keeps.refl s₀
  unfold execTallySample
  try extract_lets
  repeat' (first | with_reducible apply KeepsNext.next | with_reducible apply KeepsNext.fault | with_reducible apply KeepsNext.ite | with_reducible assumption | with_reducible apply keeps_takeSample | (fail_if_no_progress (with_reducible apply Keeps.upd) <;> first | with_reducible rfl | with_reducible exact fun x => x | with_reducible exact fun _ => ⟨rfl, rfl, rfl, rfl⟩ | with_reducible exact fun x => absurd x Bool.false_ne_true | with_reducible exact KV.set_wf _ _ _ | with_reducible exact KV.put_wf _ _ | with_reducible exact KV.filter_wf _ | with_reducible exact List.prefix_rfl | with_reducible exact List.prefix_append _ _ | with_reducible exact KV.map_wf (fun _ => rfl) | with_reducible exact fun _ => KV.foldl_set_wf _ _ _ rfl | (simp; done) | skip) | with_reducible apply Keeps.ite | with_reducible apply Keeps.ite1 | (with_reducible apply Keeps.foldl; intro s₁ x₁; have h₁ : Keeps m₀ s₁ s₁ := Keeps.refl s₁; try dsimp +zetaDelta only) | (with_reducible apply Keeps.foldl1; intro s₁ x₁; have h₁ : Keeps m₀ s₁.1 s₁.1 := Keeps.refl s₁.1; try dsimp +zetaDelta only) | extract_lets | split | dsimp +zetaDelta only)

theorem keeps_execTallyWindow {m₀ : Bool} {s₀ : State}  : KeepsNext m₀ (execTallyWindow s₀) s₀ := by
  have h₀ : Keeps m₀ s₀ s₀ := Keeps.refl s₀
  unfold execTallyWindow
  try extract_lets
  repeat' (first | with_reducible apply KeepsNext.next | with_reducible apply KeepsNext.fault | with_reducible apply KeepsNext.ite | with_reducible assumption | with_reducible apply keeps_sweepWindow | (fail_if_no_progress (with_reducible apply Keeps.upd) <;> first | with_reducible rfl | with_reducible exact fun x => x | with_reducible exact fun _ => ⟨rfl, rfl, rfl, rfl⟩ | with_reducible exact fun x => absurd x Bool.false_ne_true | with_reducible exact KV.set_wf _ _ _ | with_reducible exact KV.put_wf _ _ | with_reducible exact KV.filter_wf _ | with_reducible exact List.prefix_rfl | with_reducible exact List.prefix_append _ _ | with_reducible exact KV.map_wf (fun _ => rfl) | with_reducible exact fun _ => KV.foldl_set_wf _ _ _ rfl | (simp; done) | skip) | with_reducible apply Keeps.ite | with_reducible apply Keeps.ite1 | (with_reducible apply Keeps.foldl; intro s₁ x₁; have h₁ : Keeps m₀ s₁ s₁ := Keeps.refl s₁; try dsimp +zetaDelta only) | (with_reducible apply Keeps.foldl1; intro s₁ x₁; have h₁ : Keeps m₀ s₁.1 s₁.1 := Keeps.refl s₁.1; try dsimp +zetaDelta only) | extract_lets | split | dsimp +zetaDelta only)

theorem keeps_execTenantMembersWrite {m₀ : Bool} {s₀ : State} {t : Nat} {i : Nat} {v : Sys2Proof.Word} : KeepsNext m₀ (execTenantMembersWrite t i v s₀) s₀ := by
  have h₀ : Keeps m₀ s₀ s₀ := Keeps.refl s₀
  unfold execTenantMembersWrite
  try extract_lets
  repeat' (first | with_reducible apply KeepsNext.next | with_reducible apply KeepsNext.fault | with_reducible apply KeepsNext.ite | with_reducible assumption | with_reducible apply keeps_chartCmd | with_reducible apply keeps_chartCmd | (fail_if_no_progress (with_reducible apply Keeps.upd) <;> first | with_reducible rfl | with_reducible exact fun x => x | with_reducible exact fun _ => ⟨rfl, rfl, rfl, rfl⟩ | with_reducible exact fun x => absurd x Bool.false_ne_true | with_reducible exact KV.set_wf _ _ _ | with_reducible exact KV.put_wf _ _ | with_reducible exact KV.filter_wf _ | with_reducible exact List.prefix_rfl | with_reducible exact List.prefix_append _ _ | with_reducible exact KV.map_wf (fun _ => rfl) | with_reducible exact fun _ => KV.foldl_set_wf _ _ _ rfl | (simp; done) | skip) | with_reducible apply Keeps.ite | with_reducible apply Keeps.ite1 | (with_reducible apply Keeps.foldl; intro s₁ x₁; have h₁ : Keeps m₀ s₁ s₁ := Keeps.refl s₁; try dsimp +zetaDelta only) | (with_reducible apply Keeps.foldl1; intro s₁ x₁; have h₁ : Keeps m₀ s₁.1 s₁.1 := Keeps.refl s₁.1; try dsimp +zetaDelta only) | extract_lets | split | dsimp +zetaDelta only)

theorem keeps_execTickLost {s₀ : State} {dt : Nat} : KeepsNext false (execTickLost dt s₀) s₀ := by
  have h₀ : Keeps false s₀ s₀ := Keeps.refl s₀
  unfold execTickLost
  try extract_lets
  repeat' (first | with_reducible apply KeepsNext.next | with_reducible apply KeepsNext.fault | with_reducible apply KeepsNext.ite | with_reducible assumption | with_reducible apply keeps_advance | with_reducible apply keeps_loseTick | (fail_if_no_progress (with_reducible apply Keeps.upd) <;> first | with_reducible rfl | with_reducible exact fun x => x | with_reducible exact fun _ => ⟨rfl, rfl, rfl, rfl⟩ | with_reducible exact fun x => absurd x Bool.false_ne_true | with_reducible exact KV.set_wf _ _ _ | with_reducible exact KV.put_wf _ _ | with_reducible exact KV.filter_wf _ | with_reducible exact List.prefix_rfl | with_reducible exact List.prefix_append _ _ | with_reducible exact KV.map_wf (fun _ => rfl) | with_reducible exact fun _ => KV.foldl_set_wf _ _ _ rfl | (simp; done) | skip) | with_reducible apply Keeps.ite | with_reducible apply Keeps.ite1 | (with_reducible apply Keeps.foldl; intro s₁ x₁; have h₁ : Keeps false s₁ s₁ := Keeps.refl s₁; try dsimp +zetaDelta only) | (with_reducible apply Keeps.foldl1; intro s₁ x₁; have h₁ : Keeps false s₁.1 s₁.1 := Keeps.refl s₁.1; try dsimp +zetaDelta only) | extract_lets | split | dsimp +zetaDelta only)

theorem keeps_execTickStrobe {s₀ : State} {dt : Nat} {ptm : Sys2Proof.Word} {v : Bool} : KeepsNext false (execTickStrobe dt ptm v s₀) s₀ := by
  have h₀ : Keeps false s₀ s₀ := Keeps.refl s₀
  unfold execTickStrobe
  try extract_lets
  repeat' (first | with_reducible apply KeepsNext.next | with_reducible apply KeepsNext.fault | with_reducible apply KeepsNext.ite | with_reducible assumption | with_reducible apply keeps_advance | with_reducible apply keeps_strobe | with_reducible apply keeps_strobeOnSubstitute | (fail_if_no_progress (with_reducible apply Keeps.upd) <;> first | with_reducible rfl | with_reducible exact fun x => x | with_reducible exact fun _ => ⟨rfl, rfl, rfl, rfl⟩ | with_reducible exact fun x => absurd x Bool.false_ne_true | with_reducible exact KV.set_wf _ _ _ | with_reducible exact KV.put_wf _ _ | with_reducible exact KV.filter_wf _ | with_reducible exact List.prefix_rfl | with_reducible exact List.prefix_append _ _ | with_reducible exact KV.map_wf (fun _ => rfl) | with_reducible exact fun _ => KV.foldl_set_wf _ _ _ rfl | (simp; done) | skip) | with_reducible apply Keeps.ite | with_reducible apply Keeps.ite1 | (with_reducible apply Keeps.foldl; intro s₁ x₁; have h₁ : Keeps false s₁ s₁ := Keeps.refl s₁; try dsimp +zetaDelta only) | (with_reducible apply Keeps.foldl1; intro s₁ x₁; have h₁ : Keeps false s₁.1 s₁.1 := Keeps.refl s₁.1; try dsimp +zetaDelta only) | extract_lets | split | dsimp +zetaDelta only)

theorem keeps_execTillDown {m₀ : Bool} {s₀ : State} {w : Nat} {t : Nat} : KeepsNext m₀ (execTillDown w t s₀) s₀ := by
  have h₀ : Keeps m₀ s₀ s₀ := Keeps.refl s₀
  unfold execTillDown
  try extract_lets
  repeat' (first | with_reducible apply KeepsNext.next | with_reducible apply KeepsNext.fault | with_reducible apply KeepsNext.ite | with_reducible assumption | with_reducible apply keeps_State_modWicket | with_reducible apply keeps_State_popP | with_reducible apply keeps_sendMarks | (fail_if_no_progress (with_reducible apply Keeps.upd) <;> first | with_reducible rfl | with_reducible exact fun x => x | with_reducible exact fun _ => ⟨rfl, rfl, rfl, rfl⟩ | with_reducible exact fun x => absurd x Bool.false_ne_true | with_reducible exact KV.set_wf _ _ _ | with_reducible exact KV.put_wf _ _ | with_reducible exact KV.filter_wf _ | with_reducible exact List.prefix_rfl | with_reducible exact List.prefix_append _ _ | with_reducible exact KV.map_wf (fun _ => rfl) | with_reducible exact fun _ => KV.foldl_set_wf _ _ _ rfl | (simp; done) | skip) | with_reducible apply Keeps.ite | with_reducible apply Keeps.ite1 | (with_reducible apply Keeps.foldl; intro s₁ x₁; have h₁ : Keeps m₀ s₁ s₁ := Keeps.refl s₁; try dsimp +zetaDelta only) | (with_reducible apply Keeps.foldl1; intro s₁ x₁; have h₁ : Keeps m₀ s₁.1 s₁.1 := Keeps.refl s₁.1; try dsimp +zetaDelta only) | extract_lets | split | dsimp +zetaDelta only)

theorem keeps_execTillHalt {m₀ : Bool} {s₀ : State} {h : Sys2Proof.Teller} : KeepsNext m₀ (execTillHalt h s₀) s₀ := by
  have h₀ : Keeps m₀ s₀ s₀ := Keeps.refl s₀
  unfold execTillHalt
  try extract_lets
  repeat' (first | with_reducible apply KeepsNext.next | with_reducible apply KeepsNext.fault | with_reducible apply KeepsNext.ite | with_reducible assumption | with_reducible apply keeps_teller | (fail_if_no_progress (with_reducible apply Keeps.upd) <;> first | with_reducible rfl | with_reducible exact fun x => x | with_reducible exact fun _ => ⟨rfl, rfl, rfl, rfl⟩ | with_reducible exact fun x => absurd x Bool.false_ne_true | with_reducible exact KV.set_wf _ _ _ | with_reducible exact KV.put_wf _ _ | with_reducible exact KV.filter_wf _ | with_reducible exact List.prefix_rfl | with_reducible exact List.prefix_append _ _ | with_reducible exact KV.map_wf (fun _ => rfl) | with_reducible exact fun _ => KV.foldl_set_wf _ _ _ rfl | (simp; done) | skip) | with_reducible apply Keeps.ite | with_reducible apply Keeps.ite1 | (with_reducible apply Keeps.foldl; intro s₁ x₁; have h₁ : Keeps m₀ s₁ s₁ := Keeps.refl s₁; try dsimp +zetaDelta only) | (with_reducible apply Keeps.foldl1; intro s₁ x₁; have h₁ : Keeps m₀ s₁.1 s₁.1 := Keeps.refl s₁.1; try dsimp +zetaDelta only) | extract_lets | split | dsimp +zetaDelta only)

theorem keeps_execTillReset {m₀ : Bool} {s₀ : State} {t : Nat} {fillOk : Bool} : KeepsNext m₀ (execTillReset t fillOk s₀) s₀ := by
  have h₀ : Keeps m₀ s₀ s₀ := Keeps.refl s₀
  unfold execTillReset
  try extract_lets
  repeat' (first | with_reducible apply KeepsNext.next | with_reducible apply KeepsNext.fault | with_reducible apply KeepsNext.ite | with_reducible assumption | with_reducible apply keeps_State_modTill | with_reducible apply keeps_State_note | with_reducible apply keeps_resetTill | (fail_if_no_progress (with_reducible apply Keeps.upd) <;> first | with_reducible rfl | with_reducible exact fun x => x | with_reducible exact fun _ => ⟨rfl, rfl, rfl, rfl⟩ | with_reducible exact fun x => absurd x Bool.false_ne_true | with_reducible exact KV.set_wf _ _ _ | with_reducible exact KV.put_wf _ _ | with_reducible exact KV.filter_wf _ | with_reducible exact List.prefix_rfl | with_reducible exact List.prefix_append _ _ | with_reducible exact KV.map_wf (fun _ => rfl) | with_reducible exact fun _ => KV.foldl_set_wf _ _ _ rfl | (simp; done) | skip) | with_reducible apply Keeps.ite | with_reducible apply Keeps.ite1 | (with_reducible apply Keeps.foldl; intro s₁ x₁; have h₁ : Keeps m₀ s₁ s₁ := Keeps.refl s₁; try dsimp +zetaDelta only) | (with_reducible apply Keeps.foldl1; intro s₁ x₁; have h₁ : Keeps m₀ s₁.1 s₁.1 := Keeps.refl s₁.1; try dsimp +zetaDelta only) | extract_lets | split | dsimp +zetaDelta only)

theorem keeps_execTillResume {m₀ : Bool} {s₀ : State} {h : Sys2Proof.Teller} : KeepsNext m₀ (execTillResume h s₀) s₀ := by
  have h₀ : Keeps m₀ s₀ s₀ := Keeps.refl s₀
  unfold execTillResume
  try extract_lets
  repeat' (first | with_reducible apply KeepsNext.next | with_reducible apply KeepsNext.fault | with_reducible apply KeepsNext.ite | with_reducible assumption | with_reducible apply keeps_teller | (fail_if_no_progress (with_reducible apply Keeps.upd) <;> first | with_reducible rfl | with_reducible exact fun x => x | with_reducible exact fun _ => ⟨rfl, rfl, rfl, rfl⟩ | with_reducible exact fun x => absurd x Bool.false_ne_true | with_reducible exact KV.set_wf _ _ _ | with_reducible exact KV.put_wf _ _ | with_reducible exact KV.filter_wf _ | with_reducible exact List.prefix_rfl | with_reducible exact List.prefix_append _ _ | with_reducible exact KV.map_wf (fun _ => rfl) | with_reducible exact fun _ => KV.foldl_set_wf _ _ _ rfl | (simp; done) | skip) | with_reducible apply Keeps.ite | with_reducible apply Keeps.ite1 | (with_reducible apply Keeps.foldl; intro s₁ x₁; have h₁ : Keeps m₀ s₁ s₁ := Keeps.refl s₁; try dsimp +zetaDelta only) | (with_reducible apply Keeps.foldl1; intro s₁ x₁; have h₁ : Keeps m₀ s₁.1 s₁.1 := Keeps.refl s₁.1; try dsimp +zetaDelta only) | extract_lets | split | dsimp +zetaDelta only)

theorem keeps_execTillWatchdog {m₀ : Bool} {s₀ : State} {t : Nat} : KeepsNext m₀ (execTillWatchdog t s₀) s₀ := by
  have h₀ : Keeps m₀ s₀ s₀ := Keeps.refl s₀
  unfold execTillWatchdog
  try extract_lets
  repeat' (first | with_reducible apply KeepsNext.next | with_reducible apply KeepsNext.fault | with_reducible apply KeepsNext.ite | with_reducible assumption | with_reducible apply keeps_failTill | (fail_if_no_progress (with_reducible apply Keeps.upd) <;> first | with_reducible rfl | with_reducible exact fun x => x | with_reducible exact fun _ => ⟨rfl, rfl, rfl, rfl⟩ | with_reducible exact fun x => absurd x Bool.false_ne_true | with_reducible exact KV.set_wf _ _ _ | with_reducible exact KV.put_wf _ _ | with_reducible exact KV.filter_wf _ | with_reducible exact List.prefix_rfl | with_reducible exact List.prefix_append _ _ | with_reducible exact KV.map_wf (fun _ => rfl) | with_reducible exact fun _ => KV.foldl_set_wf _ _ _ rfl | (simp; done) | skip) | with_reducible apply Keeps.ite | with_reducible apply Keeps.ite1 | (with_reducible apply Keeps.foldl; intro s₁ x₁; have h₁ : Keeps m₀ s₁ s₁ := Keeps.refl s₁; try dsimp +zetaDelta only) | (with_reducible apply Keeps.foldl1; intro s₁ x₁; have h₁ : Keeps m₀ s₁.1 s₁.1 := Keeps.refl s₁.1; try dsimp +zetaDelta only) | extract_lets | split | dsimp +zetaDelta only)

theorem keeps_execTjSample {m₀ : Bool} {s₀ : State} {tj : List (Nat × Int)} : KeepsNext m₀ (execTjSample tj s₀) s₀ := by
  have h₀ : Keeps m₀ s₀ s₀ := Keeps.refl s₀
  unfold execTjSample
  try extract_lets
  repeat' (first | with_reducible apply KeepsNext.next | with_reducible apply KeepsNext.fault | with_reducible apply KeepsNext.ite | with_reducible assumption | with_reducible apply keeps_leaveHold | with_reducible apply keeps_readTjs | (fail_if_no_progress (with_reducible apply Keeps.upd) <;> first | with_reducible rfl | with_reducible exact fun x => x | with_reducible exact fun _ => ⟨rfl, rfl, rfl, rfl⟩ | with_reducible exact fun x => absurd x Bool.false_ne_true | with_reducible exact KV.set_wf _ _ _ | with_reducible exact KV.put_wf _ _ | with_reducible exact KV.filter_wf _ | with_reducible exact List.prefix_rfl | with_reducible exact List.prefix_append _ _ | with_reducible exact KV.map_wf (fun _ => rfl) | with_reducible exact fun _ => KV.foldl_set_wf _ _ _ rfl | (simp; done) | skip) | with_reducible apply Keeps.ite | with_reducible apply Keeps.ite1 | (with_reducible apply Keeps.foldl; intro s₁ x₁; have h₁ : Keeps m₀ s₁ s₁ := Keeps.refl s₁; try dsimp +zetaDelta only) | (with_reducible apply Keeps.foldl1; intro s₁ x₁; have h₁ : Keeps m₀ s₁.1 s₁.1 := Keeps.refl s₁.1; try dsimp +zetaDelta only) | extract_lets | split | dsimp +zetaDelta only)

theorem keeps_execUnknownCommand {m₀ : Bool} {s₀ : State} {cmd : BitVec 8} {h : Sys2Proof.Teller} : KeepsNext m₀ (execUnknownCommand cmd h s₀) s₀ := by
  have h₀ : Keeps m₀ s₀ s₀ := Keeps.refl s₀
  unfold execUnknownCommand
  try extract_lets
  repeat' (first | with_reducible apply KeepsNext.next | with_reducible apply KeepsNext.fault | with_reducible apply KeepsNext.ite | with_reducible assumption | with_reducible apply keeps_teller | (fail_if_no_progress (with_reducible apply Keeps.upd) <;> first | with_reducible rfl | with_reducible exact fun x => x | with_reducible exact fun _ => ⟨rfl, rfl, rfl, rfl⟩ | with_reducible exact fun x => absurd x Bool.false_ne_true | with_reducible exact KV.set_wf _ _ _ | with_reducible exact KV.put_wf _ _ | with_reducible exact KV.filter_wf _ | with_reducible exact List.prefix_rfl | with_reducible exact List.prefix_append _ _ | with_reducible exact KV.map_wf (fun _ => rfl) | with_reducible exact fun _ => KV.foldl_set_wf _ _ _ rfl | (simp; done) | skip) | with_reducible apply Keeps.ite | with_reducible apply Keeps.ite1 | (with_reducible apply Keeps.foldl; intro s₁ x₁; have h₁ : Keeps m₀ s₁ s₁ := Keeps.refl s₁; try dsimp +zetaDelta only) | (with_reducible apply Keeps.foldl1; intro s₁ x₁; have h₁ : Keeps m₀ s₁.1 s₁.1 := Keeps.refl s₁.1; try dsimp +zetaDelta only) | extract_lets | split | dsimp +zetaDelta only)

theorem keeps_execUnlock {m₀ : Bool} {s₀ : State}  : KeepsNext m₀ (execUnlock s₀) s₀ := by
  have h₀ : Keeps m₀ s₀ s₀ := Keeps.refl s₀
  unfold execUnlock
  try extract_lets
  repeat' (first | with_reducible apply KeepsNext.next | with_reducible apply KeepsNext.fault | with_reducible apply KeepsNext.ite | with_reducible assumption | with_reducible apply keeps_chartCmd | with_reducible apply keeps_chartCmd | (fail_if_no_progress (with_reducible apply Keeps.upd) <;> first | with_reducible rfl | with_reducible exact fun x => x | with_reducible exact fun _ => ⟨rfl, rfl, rfl, rfl⟩ | with_reducible exact fun x => absurd x Bool.false_ne_true | with_reducible exact KV.set_wf _ _ _ | with_reducible exact KV.put_wf _ _ | with_reducible exact KV.filter_wf _ | with_reducible exact List.prefix_rfl | with_reducible exact List.prefix_append _ _ | with_reducible exact KV.map_wf (fun _ => rfl) | with_reducible exact fun _ => KV.foldl_set_wf _ _ _ rfl | (simp; done) | skip) | with_reducible apply Keeps.ite | with_reducible apply Keeps.ite1 | (with_reducible apply Keeps.foldl; intro s₁ x₁; have h₁ : Keeps m₀ s₁ s₁ := Keeps.refl s₁; try dsimp +zetaDelta only) | (with_reducible apply Keeps.foldl1; intro s₁ x₁; have h₁ : Keeps m₀ s₁.1 s₁.1 := Keeps.refl s₁.1; try dsimp +zetaDelta only) | extract_lets | split | dsimp +zetaDelta only)

theorem keeps_execUnquarantine {m₀ : Bool} {s₀ : State} {h : Sys2Proof.Teller} : KeepsNext m₀ (execUnquarantine h s₀) s₀ := by
  have h₀ : Keeps m₀ s₀ s₀ := Keeps.refl s₀
  unfold execUnquarantine
  try extract_lets
  repeat' (first | with_reducible apply KeepsNext.next | with_reducible apply KeepsNext.fault | with_reducible apply KeepsNext.ite | with_reducible assumption | with_reducible apply keeps_teller | (fail_if_no_progress (with_reducible apply Keeps.upd) <;> first | with_reducible rfl | with_reducible exact fun x => x | with_reducible exact fun _ => ⟨rfl, rfl, rfl, rfl⟩ | with_reducible exact fun x => absurd x Bool.false_ne_true | with_reducible exact KV.set_wf _ _ _ | with_reducible exact KV.put_wf _ _ | with_reducible exact KV.filter_wf _ | with_reducible exact List.prefix_rfl | with_reducible exact List.prefix_append _ _ | with_reducible exact KV.map_wf (fun _ => rfl) | with_reducible exact fun _ => KV.foldl_set_wf _ _ _ rfl | (simp; done) | skip) | with_reducible apply Keeps.ite | with_reducible apply Keeps.ite1 | (with_reducible apply Keeps.foldl; intro s₁ x₁; have h₁ : Keeps m₀ s₁ s₁ := Keeps.refl s₁; try dsimp +zetaDelta only) | (with_reducible apply Keeps.foldl1; intro s₁ x₁; have h₁ : Keeps m₀ s₁.1 s₁.1 := Keeps.refl s₁.1; try dsimp +zetaDelta only) | extract_lets | split | dsimp +zetaDelta only)

theorem keeps_execVaultLookupDone {m₀ : Bool} {s₀ : State} {t : Nat} {f : Nat} {u : Sys2Proof.Upset} : KeepsNext m₀ (execVaultLookupDone t f u s₀) s₀ := by
  have h₀ : Keeps m₀ s₀ s₀ := Keeps.refl s₀
  unfold execVaultLookupDone
  try extract_lets
  repeat' (first | with_reducible apply KeepsNext.next | with_reducible apply KeepsNext.fault | with_reducible apply KeepsNext.ite | with_reducible assumption | with_reducible apply keeps_lookedUp | with_reducible apply keeps_readSet | with_reducible apply keeps_upsetAt | with_reducible apply keeps_worked | (fail_if_no_progress (with_reducible apply Keeps.upd) <;> first | with_reducible rfl | with_reducible exact fun x => x | with_reducible exact fun _ => ⟨rfl, rfl, rfl, rfl⟩ | with_reducible exact fun x => absurd x Bool.false_ne_true | with_reducible exact KV.set_wf _ _ _ | with_reducible exact KV.put_wf _ _ | with_reducible exact KV.filter_wf _ | with_reducible exact List.prefix_rfl | with_reducible exact List.prefix_append _ _ | with_reducible exact KV.map_wf (fun _ => rfl) | with_reducible exact fun _ => KV.foldl_set_wf _ _ _ rfl | (simp; done) | skip) | with_reducible apply Keeps.ite | with_reducible apply Keeps.ite1 | (with_reducible apply Keeps.foldl; intro s₁ x₁; have h₁ : Keeps m₀ s₁ s₁ := Keeps.refl s₁; try dsimp +zetaDelta only) | (with_reducible apply Keeps.foldl1; intro s₁ x₁; have h₁ : Keeps m₀ s₁.1 s₁.1 := Keeps.refl s₁.1; try dsimp +zetaDelta only) | extract_lets | split | dsimp +zetaDelta only)

theorem keeps_execWbI {m₀ : Bool} {s₀ : State} {w : Nat} {q : Sys2Proof.Req} : KeepsNext m₀ (execWbI w q s₀) s₀ := by
  have h₀ : Keeps m₀ s₀ s₀ := Keeps.refl s₀
  unfold execWbI
  try extract_lets
  repeat' (first | with_reducible apply KeepsNext.next | with_reducible apply KeepsNext.fault | with_reducible apply KeepsNext.ite | with_reducible assumption | with_reducible apply keeps_requestCmd | with_reducible apply keeps_requestCmd | (fail_if_no_progress (with_reducible apply Keeps.upd) <;> first | with_reducible rfl | with_reducible exact fun x => x | with_reducible exact fun _ => ⟨rfl, rfl, rfl, rfl⟩ | with_reducible exact fun x => absurd x Bool.false_ne_true | with_reducible exact KV.set_wf _ _ _ | with_reducible exact KV.put_wf _ _ | with_reducible exact KV.filter_wf _ | with_reducible exact List.prefix_rfl | with_reducible exact List.prefix_append _ _ | with_reducible exact KV.map_wf (fun _ => rfl) | with_reducible exact fun _ => KV.foldl_set_wf _ _ _ rfl | (simp; done) | skip) | with_reducible apply Keeps.ite | with_reducible apply Keeps.ite1 | (with_reducible apply Keeps.foldl; intro s₁ x₁; have h₁ : Keeps m₀ s₁ s₁ := Keeps.refl s₁; try dsimp +zetaDelta only) | (with_reducible apply Keeps.foldl1; intro s₁ x₁; have h₁ : Keeps m₀ s₁.1 s₁.1 := Keeps.refl s₁.1; try dsimp +zetaDelta only) | extract_lets | split | dsimp +zetaDelta only)

theorem keeps_execWbS {m₀ : Bool} {s₀ : State} {w : Nat} {q : Sys2Proof.Req} : KeepsNext m₀ (execWbS w q s₀) s₀ := by
  have h₀ : Keeps m₀ s₀ s₀ := Keeps.refl s₀
  unfold execWbS
  try extract_lets
  repeat' (first | with_reducible apply KeepsNext.next | with_reducible apply KeepsNext.fault | with_reducible apply KeepsNext.ite | with_reducible assumption | with_reducible apply keeps_requestCmd | with_reducible apply keeps_requestCmd | (fail_if_no_progress (with_reducible apply Keeps.upd) <;> first | with_reducible rfl | with_reducible exact fun x => x | with_reducible exact fun _ => ⟨rfl, rfl, rfl, rfl⟩ | with_reducible exact fun x => absurd x Bool.false_ne_true | with_reducible exact KV.set_wf _ _ _ | with_reducible exact KV.put_wf _ _ | with_reducible exact KV.filter_wf _ | with_reducible exact List.prefix_rfl | with_reducible exact List.prefix_append _ _ | with_reducible exact KV.map_wf (fun _ => rfl) | with_reducible exact fun _ => KV.foldl_set_wf _ _ _ rfl | (simp; done) | skip) | with_reducible apply Keeps.ite | with_reducible apply Keeps.ite1 | (with_reducible apply Keeps.foldl; intro s₁ x₁; have h₁ : Keeps m₀ s₁ s₁ := Keeps.refl s₁; try dsimp +zetaDelta only) | (with_reducible apply Keeps.foldl1; intro s₁ x₁; have h₁ : Keeps m₀ s₁.1 s₁.1 := Keeps.refl s₁.1; try dsimp +zetaDelta only) | extract_lets | split | dsimp +zetaDelta only)

theorem keeps_execWbX {m₀ : Bool} {s₀ : State} {w : Nat} {q : Sys2Proof.Req} : KeepsNext m₀ (execWbX w q s₀) s₀ := by
  have h₀ : Keeps m₀ s₀ s₀ := Keeps.refl s₀
  unfold execWbX
  try extract_lets
  repeat' (first | with_reducible apply KeepsNext.next | with_reducible apply KeepsNext.fault | with_reducible apply KeepsNext.ite | with_reducible assumption | with_reducible apply keeps_requestCmd | with_reducible apply keeps_requestCmd | (fail_if_no_progress (with_reducible apply Keeps.upd) <;> first | with_reducible rfl | with_reducible exact fun x => x | with_reducible exact fun _ => ⟨rfl, rfl, rfl, rfl⟩ | with_reducible exact fun x => absurd x Bool.false_ne_true | with_reducible exact KV.set_wf _ _ _ | with_reducible exact KV.put_wf _ _ | with_reducible exact KV.filter_wf _ | with_reducible exact List.prefix_rfl | with_reducible exact List.prefix_append _ _ | with_reducible exact KV.map_wf (fun _ => rfl) | with_reducible exact fun _ => KV.foldl_set_wf _ _ _ rfl | (simp; done) | skip) | with_reducible apply Keeps.ite | with_reducible apply Keeps.ite1 | (with_reducible apply Keeps.foldl; intro s₁ x₁; have h₁ : Keeps m₀ s₁ s₁ := Keeps.refl s₁; try dsimp +zetaDelta only) | (with_reducible apply Keeps.foldl1; intro s₁ x₁; have h₁ : Keeps m₀ s₁.1 s₁.1 := Keeps.refl s₁.1; try dsimp +zetaDelta only) | extract_lets | split | dsimp +zetaDelta only)

theorem keeps_execWicketLinkReset {m₀ : Bool} {s₀ : State} {w : Nat} {v : BitVec 8} : KeepsNext m₀ (execWicketLinkReset w v s₀) s₀ := by
  have h₀ : Keeps m₀ s₀ s₀ := Keeps.refl s₀
  unfold execWicketLinkReset
  try extract_lets
  repeat' (first | with_reducible apply KeepsNext.next | with_reducible apply KeepsNext.fault | with_reducible apply KeepsNext.ite | with_reducible assumption | with_reducible apply keeps_chartCmd | with_reducible apply keeps_chartCmd | (fail_if_no_progress (with_reducible apply Keeps.upd) <;> first | with_reducible rfl | with_reducible exact fun x => x | with_reducible exact fun _ => ⟨rfl, rfl, rfl, rfl⟩ | with_reducible exact fun x => absurd x Bool.false_ne_true | with_reducible exact KV.set_wf _ _ _ | with_reducible exact KV.put_wf _ _ | with_reducible exact KV.filter_wf _ | with_reducible exact List.prefix_rfl | with_reducible exact List.prefix_append _ _ | with_reducible exact KV.map_wf (fun _ => rfl) | with_reducible exact fun _ => KV.foldl_set_wf _ _ _ rfl | (simp; done) | skip) | with_reducible apply Keeps.ite | with_reducible apply Keeps.ite1 | (with_reducible apply Keeps.foldl; intro s₁ x₁; have h₁ : Keeps m₀ s₁ s₁ := Keeps.refl s₁; try dsimp +zetaDelta only) | (with_reducible apply Keeps.foldl1; intro s₁ x₁; have h₁ : Keeps m₀ s₁.1 s₁.1 := Keeps.refl s₁.1; try dsimp +zetaDelta only) | extract_lets | split | dsimp +zetaDelta only)

theorem keeps_execWrite {m₀ : Bool} {s₀ : State} {h : Sys2Proof.Teller} : KeepsNext m₀ (execWrite h s₀) s₀ := by
  have h₀ : Keeps m₀ s₀ s₀ := Keeps.refl s₀
  unfold execWrite
  try extract_lets
  repeat' (first | with_reducible apply KeepsNext.next | with_reducible apply KeepsNext.fault | with_reducible apply KeepsNext.ite | with_reducible assumption | with_reducible apply keeps_teller | (fail_if_no_progress (with_reducible apply Keeps.upd) <;> first | with_reducible rfl | with_reducible exact fun x => x | with_reducible exact fun _ => ⟨rfl, rfl, rfl, rfl⟩ | with_reducible exact fun x => absurd x Bool.false_ne_true | with_reducible exact KV.set_wf _ _ _ | with_reducible exact KV.put_wf _ _ | with_reducible exact KV.filter_wf _ | with_reducible exact List.prefix_rfl | with_reducible exact List.prefix_append _ _ | with_reducible exact KV.map_wf (fun _ => rfl) | with_reducible exact fun _ => KV.foldl_set_wf _ _ _ rfl | (simp; done) | skip) | with_reducible apply Keeps.ite | with_reducible apply Keeps.ite1 | (with_reducible apply Keeps.foldl; intro s₁ x₁; have h₁ : Keeps m₀ s₁ s₁ := Keeps.refl s₁; try dsimp +zetaDelta only) | (with_reducible apply Keeps.foldl1; intro s₁ x₁; have h₁ : Keeps m₀ s₁.1 s₁.1 := Keeps.refl s₁.1; try dsimp +zetaDelta only) | extract_lets | split | dsimp +zetaDelta only)

theorem keeps_execWriteMulti {m₀ : Bool} {s₀ : State} {h : Sys2Proof.Teller} : KeepsNext m₀ (execWriteMulti h s₀) s₀ := by
  have h₀ : Keeps m₀ s₀ s₀ := Keeps.refl s₀
  unfold execWriteMulti
  try extract_lets
  repeat' (first | with_reducible apply KeepsNext.next | with_reducible apply KeepsNext.fault | with_reducible apply KeepsNext.ite | with_reducible assumption | with_reducible apply keeps_teller | (fail_if_no_progress (with_reducible apply Keeps.upd) <;> first | with_reducible rfl | with_reducible exact fun x => x | with_reducible exact fun _ => ⟨rfl, rfl, rfl, rfl⟩ | with_reducible exact fun x => absurd x Bool.false_ne_true | with_reducible exact KV.set_wf _ _ _ | with_reducible exact KV.put_wf _ _ | with_reducible exact KV.filter_wf _ | with_reducible exact List.prefix_rfl | with_reducible exact List.prefix_append _ _ | with_reducible exact KV.map_wf (fun _ => rfl) | with_reducible exact fun _ => KV.foldl_set_wf _ _ _ rfl | (simp; done) | skip) | with_reducible apply Keeps.ite | with_reducible apply Keeps.ite1 | (with_reducible apply Keeps.foldl; intro s₁ x₁; have h₁ : Keeps m₀ s₁ s₁ := Keeps.refl s₁; try dsimp +zetaDelta only) | (with_reducible apply Keeps.foldl1; intro s₁ x₁; have h₁ : Keeps m₀ s₁.1 s₁.1 := Keeps.refl s₁.1; try dsimp +zetaDelta only) | extract_lets | split | dsimp +zetaDelta only)

end Sys2Proof.Machine
end

