-- ==== Sys2Proof/Laws/Invariant.lean ====
section
/-! SUPPORT. The invariant of the Home through an operation, and the commands that change what `Keeps` says is kept. -/

namespace Sys2Proof.Machine

theorem Keeps.inv {m : Bool} {a b : State} (h : Keeps m a b) (i : a.Inv) : b.Inv := by
  obtain ⟨i1, i2, i3, i4, i5, i6, i6', i7, i8, i9, i10, i11, i12, i13⟩ := i
  refine ⟨h.tills.trans i1, h.wickets.trans i2, h.ways.trans i3, h.streams.trans i4, h.sessions.trans i5, h.chart i6, h.agents i6', ?_, h.lifeBlow i8,
    (h.power ⟨i9, i10⟩).1, (h.power ⟨i9, i10⟩).2, (h.global ⟨i11, i12⟩).1, (h.global ⟨i11, i12⟩).2, ?_⟩
  · rw [h.fuses]; exact i7
  · rw [h.image]; exact i13

theorem KeepsNext.inv {m : Bool} {s t : State} {o : Host.Outcome State Fault Refusal} (h : KeepsNext m o s) (i : s.Inv)
    (e : o = .next t) : t.Inv := (h t e).inv i

theorem wf_foldl_set {α β : Type} [DecidableEq α] (f : KV α → Nat × β → α) (d : α) (l : List (Nat × β)) :
    ∀ {m : KV α}, KV.wf m = true → KV.wf (l.foldl (fun m p => KV.set m p.1 (f m p) d) m) = true := by
  induction l with
  | nil => intro m h; exact h
  | cons p t ih => intro m h; exact ih (KV.set_wf _ _ _ h)

theorem inv_coldReset {s : State} {b : Boot} {c : Nat} {r : Bool} (i : s.Inv) : (coldReset s b c r).Inv := by
  obtain ⟨-, -, -, -, -, -, -, i7, -, -, -, -, -, i13⟩ := i
  exact ⟨by simp [coldReset], rfl, rfl, rfl, rfl, rfl, rfl, i7, rfl, Nat.zero_le 7, Nat.zero_le 7, Nat.one_le_iff_ne_zero.mpr Nat.one_ne_zero, Nat.le.step (Nat.le.step Nat.le.refl), i13⟩

theorem inv_powerDown {s : State} (i : s.Inv) : (powerDown s).Inv := inv_coldReset i

theorem inv_bringUp {s : State} {c : Nat} {r : Bool} (i : s.Inv) : (bringUp s c r).Inv := by
  unfold bringUp; split
  · exact inv_coldReset i
  · exact inv_powerDown i

theorem wf_mergeAgents {a b : KV Agent} : KV.wf (mergeAgents a b) = true := by
  unfold mergeAgents
  exact wf_foldl_set _ _ _ (KV.foldl_set_wf _ _ _ rfl)

theorem inv_restore {s : State} {i : Image} {p : Word} {v : Bool} (h : s.Inv) (hi : KV.wf i.chart = true ∧ i.ways.length = 16) :
    (restore s i p v).Inv := by
  obtain ⟨i1, i2, -, i4, i5, -, -, i7, i8, i9, i10, i11, i12, i13⟩ := h
  refine ⟨?_, ?_, hi.2, ?_, i5, hi.1, wf_mergeAgents, i7, i8, i9, i10, i11, i12, i13⟩ <;> simp [restore, *]

theorem Inv.foldl {α : Type} {f : State → α → State} (hf : ∀ s x, s.Inv → (f s x).Inv) (l : List α) {s : State} (h : s.Inv) :
    (l.foldl f s).Inv := by
  induction l generalizing s with
  | nil => exact h
  | cons x t ih => exact ih (hf s x h)

theorem inv_fillDone {s : State} {l : List Nat} {c v : Bool} {p : Word} (h : s.Inv) : (fillDone s l c p v).Inv := by
  unfold fillDone
  extract_lets s1 s2 s3
  have h1 : s1.Inv := by
    obtain ⟨i1, i2, i3, i4, i5, i6, i6', i7, i8, i9, i10, -, -, i13⟩ := h
    exact ⟨i1, i2, i3, i4, i5, i6, i6', i7, i8, i9, i10, Nat.le.refl, Nat.le.step (Nat.le.step Nat.le.refl), i13⟩
  have h2 : s2.Inv := by
    show State.Inv (if _ then _ else _)
    split
    · exact (keeps_resumeResult (m₀ := false) (Keeps.refl s1)).inv h1
    · split
      · exact (keeps_resumeResult (m₀ := false) (Keeps.refl _)).inv h1
      · split
        · rename_i i hi
          refine inv_restore h1 ?_
          have := h.2.2.2.2.2.2.2.2.2.2.2.2.2
          rw [hi] at this
          simpa [beq_iff_eq] using this
        · exact h1
  have h3 : s3.Inv := by
    refine Inv.foldl (fun s x h => ?_) _ h2
    split
    · exact h
    · exact (keeps_fillFailed (m₀ := false) (Keeps.refl s)).inv h
  split
  · exact (keeps_commitAll (m₀ := false) (Keeps.refl s3)).inv h3
  · exact h3

theorem inv_execBringupFill {s t : State} {l : List Nat} {c v : Bool} {p : Word} (h : s.Inv) (e : execBringupFill l c p v s = .next t) :
    t.Inv := by
  injection e with e; subst e
  split
  · exact inv_fillDone h
  · exact h

theorem inv_execHomeReady {s t : State} (h : s.Inv) (e : execHomeReady s = .next t) : t.Inv := by
  injection e with e; subst e
  split
  · have h1 : ({ s with global := 2, interleaveLocked := true } : State).Inv := by
      obtain ⟨i1, i2, i3, i4, i5, i6, i6', i7, i8, i9, i10, -, -, i13⟩ := h
      exact ⟨i1, i2, i3, i4, i5, i6, i6', i7, i8, i9, i10, Nat.le.step Nat.le.refl, Nat.le.step Nat.le.refl, i13⟩
    have h2 := (keeps_State_note (m₀ := false) (Keeps.refl _) (c := .homeReady) (k := .ch) (args := []) (aid := none)).inv h1
    unfold endResume
    split
    · exact h2
    · extract_lets s1
      refine Inv.foldl (fun s x h => (keeps_resumeAgent (m₀ := false) (Keeps.refl s)).inv h) _ ?_
      refine (keeps_resumeResult (m₀ := false) (Keeps.refl _)).inv ?_
      obtain ⟨i1, i2, i3, i4, i5, i6, i6', i7, i8, i9, i10, i11, i12, i13⟩ := h2
      refine ⟨i1, i2, i3, i4, i5, i6, i6', i7, i8, i9, i10, i11, i12, ?_⟩
      revert i13
      generalize (State.note { s with global := 2, interleaveLocked := true } J.homeReady NodeKind.ch []).image = m
      intro i13
      cases m with
      | none => rfl
      | some x => exact i13
  · exact h

theorem inv_setQuiesce {s : State} {v : Nat} (h : s.Inv) : (setQuiesce s v).Inv := h

theorem inv_execPwrFailWarnRise {s t : State} (h : s.Inv) (e : execPwrFailWarnRise s = .next t) : t.Inv := by
  injection e with e; subst e
  split
  · exact h
  · dsimp only
    split
    · exact h
    · refine (keeps_State_bump (m₀ := false) (Keeps.refl _)).inv ?_
      exact h

theorem inv_execPwrFailWarnFall {s t : State} (h : s.Inv) (e : execPwrFailWarnFall s = .next t) : t.Inv := by
  injection e with e; subst e
  refine (keeps_replayAll (m₀ := false) (Keeps.refl _)).inv ?_
  exact h

theorem inv_execQuiesced {s t : State} (h : s.Inv) (e : execQuiesced s = .next t) : t.Inv := by
  injection e with e; subst e
  split
  · exact inv_setQuiesce h
  · exact h

theorem inv_execAgeHours {s t : State} (h : s.Inv) (e : execAgeHours s = .next t) : t.Inv := by
  injection e with e; subst e
  split
  · exact h
  · exact h

theorem inv_execChstatChange {s t : State} {m : Nat} {l : BitVec 16} (h : s.Inv) (e : execChstatChange m l s = .next t) : t.Inv := by
  unfold execChstatChange at e
  split at e
  · cases e
  · injection e with e; subst e; exact h

theorem inv_execTapInstruction {s t : State} {n : Nat} (h : s.Inv) (e : execTapInstruction n s = .next t) : t.Inv := by
  injection e with e; subst e; exact h

theorem inv_execPwrGoodRise {s t : State} {r : Bool} (h : s.Inv) (e : execPwrGoodRise r s = .next t) : t.Inv := by
  injection e with e; subst e
  split
  · exact h
  · exact inv_bringUp h

theorem inv_execPwrGoodFall {s t : State} (h : s.Inv) (e : execPwrGoodFall s = .next t) : t.Inv := by
  injection e with e; subst e
  split
  · exact inv_powerDown h
  · exact h

theorem inv_execBrownoutRise {s t : State} (h : s.Inv) (e : execBrownoutRise s = .next t) : t.Inv := by
  injection e with e; subst e
  split
  · exact h
  · exact inv_powerDown h

theorem inv_execBrownoutFall {s t : State} (h : s.Inv) (e : execBrownoutFall s = .next t) : t.Inv := by
  injection e with e; subst e
  split
  · exact inv_bringUp h
  · exact h

theorem inv_execColdRst {s t : State} (h : s.Inv) (e : execColdRst s = .next t) : t.Inv := by
  injection e with e; subst e; exact inv_bringUp h

theorem inv_execKeyBlowDone {s t : State} (h : s.Inv) (e : execKeyBlowDone s = .next t) : t.Inv := by
  injection e with e; subst e
  split
  · exact h
  · dsimp only
    split
    · refine (keeps_closeWhere (m₀ := false) (Keeps.refl _)).inv ?_
      exact h
    · exact h

theorem inv_execLifecycleChanged {s t : State} (h : s.Inv) (e : execLifecycleChanged s = .next t) : t.Inv := by
  injection e with e; subst e
  split
  · exact h
  · rename_i n hn
    extract_lets old s0 x1 x2 s1 s2 x3 x4
    have h0 : s0.Inv := by
      show State.Inv (if _ then _ else _)
      split
      · exact (keeps_levelOff (m₀ := false) (Keeps.refl s)).inv h
      · exact h
    have h1 : s1.Inv := by
      obtain ⟨i1, i2, i3, i4, i5, i6, i6', i7, i8, i9, i10, i11, i12, i13⟩ := h0
      refine ⟨i1, i2, i3, i4, i5, i6, i6', ?_, rfl, i9, i10, i11, i12, i13⟩
      have := h.2.2.2.2.2.2.2.2.1
      rw [hn] at this
      simpa using this
    have h2 : s2.Inv := (keeps_State_note (m₀ := false) (Keeps.refl s1)).inv h1
    split
    · exact h2
    · refine (keeps_closeWhere (m₀ := false) (Keeps.refl _)).inv ?_
      clear_value s2
      obtain ⟨i1, i2, i3, i4, i5, i6, i6', i7, i8, i9, i10, i11, i12, i13⟩ := h2
      exact ⟨i1, i2, i3, i4, i5, i6, i6', i7, i8, i9, i10, i11, i12, i13⟩

theorem inv_execRetireRow {s t : State} {n b r : Nat} (h : s.Inv) (e : execRetireRow n b r s = .next t) : t.Inv := by
  unfold execRetireRow at e
  split at e
  · cases e
  · injection e with e; subst e
    split
    · unfold retireRow
      extract_lets k x1 s1 s2 s3 x2 s4
      have h2 : s2.Inv := (keeps_State_modTill (m₀ := false) (Keeps.refl s1)).inv h
      split
      · have h3 : s3.Inv := (keeps_State_note (m₀ := false) (keeps_State_modTill (Keeps.refl s2))).inv h2
        have h4 : s4.Inv := h3
        split
        · exact (keeps_State_note (m₀ := false) (Keeps.refl s4)).inv h4
        · exact h4
      · exact h2
    · exact h

theorem inv_execJournalRecord {s t : State} (h : s.Inv) (e : execJournalRecord s = .next t) : t.Inv := by
  injection e with e; subst e
  unfold takeRec
  split
  · exact h
  · refine (keeps_receiveRec (m₀ := false) (Keeps.refl _)).inv ?_
    obtain ⟨i1, i2, i3, i4, i5, i6, i6', i7, i8, i9, i10, i11, i12, i13⟩ := h
    exact ⟨i1, i2, i3, i4, i5, i6, i6', i7, i8, i9, i10, i11, i12, i13⟩

theorem inv_execSaveImageWritten {s t : State} (h : s.Inv) (e : execSaveImageWritten s = .next t) : t.Inv := by
  injection e with e; subst e
  split
  · dsimp only
    refine (keeps_askMargin (m₀ := false) (Keeps.refl _)).inv ?_
    have h1 : (s.send .saveImage).Inv := (keeps_State_send (m₀ := false) (Keeps.refl s)).inv h
    obtain ⟨i1, i2, i3, i4, i5, i6, i6', i7, i8, i9, i10, i11, i12, -⟩ := h1
    refine ⟨i1, i2, i3, i4, i5, i6, i6', i7, i8, i9, i10, i11, i12, ?_⟩
    show (KV.wf (s.toImage).chart && (s.toImage).ways.length == 16) = true
    rw [Bool.and_eq_true, beq_iff_eq]
    refine ⟨KV.filter_wf _ h.2.2.2.2.2.1, ?_⟩
    show (s.ways.mapIdx _).length = 16
    rw [List.length_mapIdx]; exact h.2.2.1
  · exact h

end Sys2Proof.Machine
end

