-- ==== Sys2Proof/Laws/Quiet.lean ====
section
/-! SUPPORT. Quiet: an operation leaves the Agent Table, the maps, the shapers, the ways, the Cellar's state, the transfers, the lost-write table and the Auditor as they are. -/

namespace Sys2Proof.Machine

/-- `b` comes from `a` by an operation that leaves these parts as they are. -/
structure Quiet (a b : State) : Prop where
  agents : b.agents = a.agents
  maps : b.maps = a.maps
  seg : b.seg = a.seg
  shapes : b.shapes = a.shapes
  ways : b.ways = a.ways
  cellarState : b.cellarState = a.cellarState
  cellarGen : b.cellarGen = a.cellarGen
  cellarFloor : b.cellarFloor = a.cellarFloor
  cellarLocked : b.cellarLocked = a.cellarLocked
  saveLocked : b.saveLocked = a.saveLocked
  transfers : b.transfers = a.transfers
  inReset : b.inReset = a.inReset
  startSeen : b.startSeen = a.startSeen
  lost : b.lost = a.lost
  au : b.au = a.au

theorem Quiet.refl (a : State) : Quiet a a := ⟨rfl, rfl, rfl, rfl, rfl, rfl, rfl, rfl, rfl, rfl, rfl, rfl, rfl, rfl, rfl⟩

theorem Quiet.trans {a b c : State} (h : Quiet a b) (g : Quiet b c) : Quiet a c :=
  ⟨g.agents.trans h.agents, g.maps.trans h.maps, g.seg.trans h.seg, g.shapes.trans h.shapes, g.ways.trans h.ways, g.cellarState.trans h.cellarState, g.cellarGen.trans h.cellarGen, g.cellarFloor.trans h.cellarFloor, g.cellarLocked.trans h.cellarLocked, g.saveLocked.trans h.saveLocked, g.transfers.trans h.transfers, g.inReset.trans h.inReset, g.startSeen.trans h.startSeen, g.lost.trans h.lost, g.au.trans h.au⟩

theorem Quiet.upd {a u : State} (h : Quiet a u)
    {pending' out' freeCtr' boot' global' resetCause' resuming' fatal' pins' fuses' time' chart' net' wickets' ws' tills' cond' portReads' chstat' interleaveLocked' exch' assay' power' sec' tally' journal' image' coldDraw' tap'} :
    Quiet a (State.mk pending' out' freeCtr' boot' global' u.startSeen resetCause' resuming' u.inReset fatal' pins' fuses' time' chart' u.seg u.agents u.maps net' wickets' ws' u.shapes tills' cond' portReads' chstat' u.cellarState u.cellarGen u.cellarFloor u.cellarLocked u.saveLocked interleaveLocked' u.ways u.lost u.au u.transfers exch' assay' power' sec' tally' journal' image' coldDraw' tap') :=
  h.trans ⟨rfl, rfl, rfl, rfl, rfl, rfl, rfl, rfl, rfl, rfl, rfl, rfl, rfl, rfl, rfl⟩

theorem Quiet.ite {a u v : State} {c : Prop} [Decidable c] (h : Quiet a u) (g : Quiet a v) : Quiet a (if c then u else v) := by
  split <;> assumption

theorem Quiet.ite1 {β : Type} {a : State} {u v : State × β} {c : Prop} [Decidable c] (h : Quiet a u.1) (g : Quiet a v.1) :
    Quiet a (if c then u else v).1 := by
  split <;> assumption

theorem Quiet.foldl {α : Type} {a u : State} {f : State → α → State} (hf : ∀ s x, Quiet s (f s x)) (l : List α)
    (h : Quiet a u) : Quiet a (l.foldl f u) := by
  induction l generalizing u with
  | nil => exact h
  | cons x t ih => exact ih (h.trans (hf u x))

theorem Quiet.foldl1 {α β : Type} {a : State} {u : State × β} {f : State × β → α → State × β}
    (hf : ∀ s x, Quiet s.1 (f s x).1) (l : List α) (h : Quiet a u.1) : Quiet a (l.foldl f u).1 := by
  induction l generalizing u with
  | nil => exact h
  | cons x t ih => exact ih (h.trans (hf u x))

/-- A meaning that leaves the parts of `Quiet` as they are where it answers a next state. -/
def QuietNext (o : Host.Outcome State Fault Refusal) (s : State) : Prop := ∀ t, o = .next t → Quiet s t
theorem QuietNext.next {s u : State} (h : Quiet s u) : QuietNext (.next u) s := by
  intro t e; injection e with e; exact e ▸ h
theorem QuietNext.fault {s : State} {r : Fault} : QuietNext (.fault r) s := by intro t e; cases e
theorem QuietNext.ite {s : State} {c : Prop} [Decidable c] {u v : Host.Outcome State Fault Refusal} (h : QuietNext u s)
    (g : QuietNext v s) : QuietNext (if c then u else v) s := by split <;> assumption

end Sys2Proof.Machine
end

