-- ==== Sys2Proof/Laws/QuietX0.lean ====
section
/-! SUPPORT. What `Quiet` says of each operation, in the order of the callees. -/

namespace Sys2Proof.Machine
set_option linter.all false

theorem quiet_State_modPower {a₀ s₀ : State} (h₀ : Quiet a₀ s₀) {f : Power → Power} :
    Quiet a₀ (State.modPower s₀ f) := by
  unfold State.modPower
  try extract_lets
  repeat' (first | with_reducible assumption | (fail_if_no_progress with_reducible apply Quiet.upd) | with_reducible apply Quiet.ite | with_reducible apply Quiet.ite1 | (with_reducible apply Quiet.foldl; intro s₁ x₁; have h₁ : Quiet s₁ s₁ := Quiet.refl s₁; try dsimp +zetaDelta only) | (with_reducible apply Quiet.foldl1; intro s₁ x₁; have h₁ : Quiet s₁.1 s₁.1 := Quiet.refl s₁.1; try dsimp +zetaDelta only) | extract_lets | split | dsimp +zetaDelta only)

theorem quiet_State_atPort {a₀ s₀ : State} (h₀ : Quiet a₀ s₀) {c : Sys2Proof.Instr} :
    Quiet a₀ (State.atPort s₀ c) := by
  unfold State.atPort
  try extract_lets
  repeat' (first | with_reducible assumption | with_reducible apply quiet_State_modPower | (fail_if_no_progress with_reducible apply Quiet.upd) | with_reducible apply Quiet.ite | with_reducible apply Quiet.ite1 | (with_reducible apply Quiet.foldl; intro s₁ x₁; have h₁ : Quiet s₁ s₁ := Quiet.refl s₁; try dsimp +zetaDelta only) | (with_reducible apply Quiet.foldl1; intro s₁ x₁; have h₁ : Quiet s₁.1 s₁.1 := Quiet.refl s₁.1; try dsimp +zetaDelta only) | extract_lets | split | dsimp +zetaDelta only)

theorem quiet_State_setRaw {a₀ s₀ : State} (h₀ : Quiet a₀ s₀) {i : Nat} {j : Nat} {v : Sys2Proof.Word} :
    Quiet a₀ (State.setRaw s₀ i j v) := by
  unfold State.setRaw
  try extract_lets
  repeat' (first | with_reducible assumption | (fail_if_no_progress with_reducible apply Quiet.upd) | with_reducible apply Quiet.ite | with_reducible apply Quiet.ite1 | (with_reducible apply Quiet.foldl; intro s₁ x₁; have h₁ : Quiet s₁ s₁ := Quiet.refl s₁; try dsimp +zetaDelta only) | (with_reducible apply Quiet.foldl1; intro s₁ x₁; have h₁ : Quiet s₁.1 s₁.1 := Quiet.refl s₁.1; try dsimp +zetaDelta only) | extract_lets | split | dsimp +zetaDelta only)

theorem quiet_State_setRawN {a₀ s₀ : State} (h₀ : Quiet a₀ s₀) {i : Nat} {j : Nat} {v : Nat} :
    Quiet a₀ (State.setRawN s₀ i j v) := by
  unfold State.setRawN
  try extract_lets
  repeat' (first | with_reducible assumption | with_reducible apply quiet_State_setRaw | (fail_if_no_progress with_reducible apply Quiet.upd) | with_reducible apply Quiet.ite | with_reducible apply Quiet.ite1 | (with_reducible apply Quiet.foldl; intro s₁ x₁; have h₁ : Quiet s₁ s₁ := Quiet.refl s₁; try dsimp +zetaDelta only) | (with_reducible apply Quiet.foldl1; intro s₁ x₁; have h₁ : Quiet s₁.1 s₁.1 := Quiet.refl s₁.1; try dsimp +zetaDelta only) | extract_lets | split | dsimp +zetaDelta only)

theorem quiet_State_bumpBy {a₀ s₀ : State} (h₀ : Quiet a₀ s₀) {c : Ctr} {n : Nat} :
    Quiet a₀ (State.bumpBy s₀ c n) := by
  unfold State.bumpBy
  try extract_lets
  repeat' (first | with_reducible assumption | with_reducible apply quiet_State_setRawN | (fail_if_no_progress with_reducible apply Quiet.upd) | with_reducible apply Quiet.ite | with_reducible apply Quiet.ite1 | (with_reducible apply Quiet.foldl; intro s₁ x₁; have h₁ : Quiet s₁ s₁ := Quiet.refl s₁; try dsimp +zetaDelta only) | (with_reducible apply Quiet.foldl1; intro s₁ x₁; have h₁ : Quiet s₁.1 s₁.1 := Quiet.refl s₁.1; try dsimp +zetaDelta only) | extract_lets | split | dsimp +zetaDelta only)

theorem quiet_State_bump {a₀ s₀ : State} (h₀ : Quiet a₀ s₀) {c : Ctr} :
    Quiet a₀ (State.bump s₀ c) := by
  unfold State.bump
  try extract_lets
  repeat' (first | with_reducible assumption | with_reducible apply quiet_State_bumpBy | (fail_if_no_progress with_reducible apply Quiet.upd) | with_reducible apply Quiet.ite | with_reducible apply Quiet.ite1 | (with_reducible apply Quiet.foldl; intro s₁ x₁; have h₁ : Quiet s₁ s₁ := Quiet.refl s₁; try dsimp +zetaDelta only) | (with_reducible apply Quiet.foldl1; intro s₁ x₁; have h₁ : Quiet s₁.1 s₁.1 := Quiet.refl s₁.1; try dsimp +zetaDelta only) | extract_lets | split | dsimp +zetaDelta only)

theorem quiet_State_pcAdd {a₀ s₀ : State} (h₀ : Quiet a₀ s₀) {i : Nat} {j : Nat} {n : Nat} :
    Quiet a₀ (State.pcAdd s₀ i j n) := by
  unfold State.pcAdd
  try extract_lets
  repeat' (first | with_reducible assumption | with_reducible apply quiet_State_setRawN | (fail_if_no_progress with_reducible apply Quiet.upd) | with_reducible apply Quiet.ite | with_reducible apply Quiet.ite1 | (with_reducible apply Quiet.foldl; intro s₁ x₁; have h₁ : Quiet s₁ s₁ := Quiet.refl s₁; try dsimp +zetaDelta only) | (with_reducible apply Quiet.foldl1; intro s₁ x₁; have h₁ : Quiet s₁.1 s₁.1 := Quiet.refl s₁.1; try dsimp +zetaDelta only) | extract_lets | split | dsimp +zetaDelta only)

theorem quiet_State_pcEvent {a₀ s₀ : State} (h₀ : Quiet a₀ s₀) {i : Nat} {code : Nat} {unit : Nat} {n : Nat} :
    Quiet a₀ (State.pcEvent s₀ i code unit n) := by
  unfold State.pcEvent
  try extract_lets
  repeat' (first | with_reducible assumption | with_reducible apply quiet_State_pcAdd | (fail_if_no_progress with_reducible apply Quiet.upd) | with_reducible apply Quiet.ite | with_reducible apply Quiet.ite1 | (with_reducible apply Quiet.foldl; intro s₁ x₁; have h₁ : Quiet s₁ s₁ := Quiet.refl s₁; try dsimp +zetaDelta only) | (with_reducible apply Quiet.foldl1; intro s₁ x₁; have h₁ : Quiet s₁.1 s₁.1 := Quiet.refl s₁.1; try dsimp +zetaDelta only) | extract_lets | split | dsimp +zetaDelta only)

theorem quiet_State_gev {a₀ s₀ : State} (h₀ : Quiet a₀ s₀) {code : Nat} {unit : optParam Nat 255} :
    Quiet a₀ (State.gev s₀ code unit) := by
  unfold State.gev
  try extract_lets
  repeat' (first | with_reducible assumption | with_reducible apply quiet_State_pcEvent | (fail_if_no_progress with_reducible apply Quiet.upd) | with_reducible apply Quiet.ite | with_reducible apply Quiet.ite1 | (with_reducible apply Quiet.foldl; intro s₁ x₁; have h₁ : Quiet s₁ s₁ := Quiet.refl s₁; try dsimp +zetaDelta only) | (with_reducible apply Quiet.foldl1; intro s₁ x₁; have h₁ : Quiet s₁.1 s₁.1 := Quiet.refl s₁.1; try dsimp +zetaDelta only) | extract_lets | split | dsimp +zetaDelta only)

theorem quiet_State_modStream {a₀ s₀ : State} (h₀ : Quiet a₀ s₀) {k : Nat} {f : Stream → Stream} :
    Quiet a₀ (State.modStream s₀ k f) := by
  unfold State.modStream
  try extract_lets
  repeat' (first | with_reducible assumption | (fail_if_no_progress with_reducible apply Quiet.upd) | with_reducible apply Quiet.ite | with_reducible apply Quiet.ite1 | (with_reducible apply Quiet.foldl; intro s₁ x₁; have h₁ : Quiet s₁ s₁ := Quiet.refl s₁; try dsimp +zetaDelta only) | (with_reducible apply Quiet.foldl1; intro s₁ x₁; have h₁ : Quiet s₁.1 s₁.1 := Quiet.refl s₁.1; try dsimp +zetaDelta only) | extract_lets | split | dsimp +zetaDelta only)

theorem quiet_State_dropRec {a₀ s₀ : State} (h₀ : Quiet a₀ s₀) {k : Nat} {policed : Bool} {r : JRec} :
    Quiet a₀ (State.dropRec s₀ k policed r) := by
  unfold State.dropRec
  try extract_lets
  repeat' (first | with_reducible assumption | with_reducible apply quiet_State_bump | with_reducible apply quiet_State_gev | with_reducible apply quiet_State_modStream | (fail_if_no_progress with_reducible apply Quiet.upd) | with_reducible apply Quiet.ite | with_reducible apply Quiet.ite1 | (with_reducible apply Quiet.foldl; intro s₁ x₁; have h₁ : Quiet s₁ s₁ := Quiet.refl s₁; try dsimp +zetaDelta only) | (with_reducible apply Quiet.foldl1; intro s₁ x₁; have h₁ : Quiet s₁.1 s₁.1 := Quiet.refl s₁.1; try dsimp +zetaDelta only) | extract_lets | split | dsimp +zetaDelta only)

theorem quiet_State_regulate {a₀ s₀ : State} (h₀ : Quiet a₀ s₀) {n : Nat} {c : Nat} {len : Nat} :
    Quiet a₀ (State.regulate s₀ n c len) := by
  unfold State.regulate
  try extract_lets
  repeat' (first | with_reducible assumption | with_reducible apply quiet_State_bumpBy | with_reducible apply quiet_State_pcEvent | (fail_if_no_progress with_reducible apply Quiet.upd) | with_reducible apply Quiet.ite | with_reducible apply Quiet.ite1 | (with_reducible apply Quiet.foldl; intro s₁ x₁; have h₁ : Quiet s₁ s₁ := Quiet.refl s₁; try dsimp +zetaDelta only) | (with_reducible apply Quiet.foldl1; intro s₁ x₁; have h₁ : Quiet s₁.1 s₁.1 := Quiet.refl s₁.1; try dsimp +zetaDelta only) | extract_lets | split | dsimp +zetaDelta only)

theorem quiet_State_flitPlain {a₀ s₀ : State} (h₀ : Quiet a₀ s₀) {n : Nat} {c : Nat} {len : Nat} :
    Quiet a₀ (State.flitPlain s₀ n c len) := by
  unfold State.flitPlain
  try extract_lets
  repeat' (first | with_reducible assumption | with_reducible apply quiet_State_bumpBy | with_reducible apply quiet_State_pcEvent | with_reducible apply quiet_State_regulate | (fail_if_no_progress with_reducible apply Quiet.upd) | with_reducible apply Quiet.ite | with_reducible apply Quiet.ite1 | (with_reducible apply Quiet.foldl; intro s₁ x₁; have h₁ : Quiet s₁ s₁ := Quiet.refl s₁; try dsimp +zetaDelta only) | (with_reducible apply Quiet.foldl1; intro s₁ x₁; have h₁ : Quiet s₁.1 s₁.1 := Quiet.refl s₁.1; try dsimp +zetaDelta only) | extract_lets | split | dsimp +zetaDelta only)

theorem quiet_State_sample {a₀ s₀ : State} (h₀ : Quiet a₀ s₀) {c : Nat} {measure : Nat} {filter : Nat} {v : Option Nat} :
    Quiet a₀ (State.sample s₀ c measure filter v) := by
  unfold State.sample
  try extract_lets
  repeat' (first | with_reducible assumption | (fail_if_no_progress with_reducible apply Quiet.upd) | with_reducible apply Quiet.ite | with_reducible apply Quiet.ite1 | (with_reducible apply Quiet.foldl; intro s₁ x₁; have h₁ : Quiet s₁ s₁ := Quiet.refl s₁; try dsimp +zetaDelta only) | (with_reducible apply Quiet.foldl1; intro s₁ x₁; have h₁ : Quiet s₁.1 s₁.1 := Quiet.refl s₁.1; try dsimp +zetaDelta only) | extract_lets | split | dsimp +zetaDelta only)

theorem quiet_State_timed {a₀ s₀ : State} (h₀ : Quiet a₀ s₀) {n : Nat} {c : Nat} :
    Quiet a₀ (State.timed s₀ n c).1 := by
  unfold State.timed
  try extract_lets
  repeat' (first | with_reducible assumption | (fail_if_no_progress with_reducible apply Quiet.upd) | with_reducible apply Quiet.ite | with_reducible apply Quiet.ite1 | (with_reducible apply Quiet.foldl; intro s₁ x₁; have h₁ : Quiet s₁ s₁ := Quiet.refl s₁; try dsimp +zetaDelta only) | (with_reducible apply Quiet.foldl1; intro s₁ x₁; have h₁ : Quiet s₁.1 s₁.1 := Quiet.refl s₁.1; try dsimp +zetaDelta only) | extract_lets | split | dsimp +zetaDelta only)

theorem quiet_State_timed_eq {a₀ s₀ u₀ : State} {y₀ : Bool} {n : Nat} {c : Nat} (e₀ : State.timed s₀ n c = (u₀, y₀)) (h₀ : Quiet a₀ s₀) :
    Quiet a₀ u₀ := by
  have k := @quiet_State_timed  a₀ s₀ h₀ n c
  rw [e₀] at k; exact k

theorem quiet_State_flit {a₀ s₀ : State} (h₀ : Quiet a₀ s₀) {n : Nat} {c : Nat} {len : Nat} {d : Nat} :
    Quiet a₀ (State.flit s₀ n c len d) := by
  unfold State.flit
  try extract_lets
  repeat' (first | with_reducible assumption | with_reducible refine quiet_State_timed_eq (by assumption) ?_ | with_reducible apply quiet_State_bump | with_reducible apply quiet_State_flitPlain | with_reducible apply quiet_State_sample | with_reducible apply quiet_State_timed | (fail_if_no_progress with_reducible apply Quiet.upd) | with_reducible apply Quiet.ite | with_reducible apply Quiet.ite1 | (with_reducible apply Quiet.foldl; intro s₁ x₁; have h₁ : Quiet s₁ s₁ := Quiet.refl s₁; try dsimp +zetaDelta only) | (with_reducible apply Quiet.foldl1; intro s₁ x₁; have h₁ : Quiet s₁.1 s₁.1 := Quiet.refl s₁.1; try dsimp +zetaDelta only) | extract_lets | split | dsimp +zetaDelta only)

theorem quiet_State_emitAs {a₀ s₀ : State} (h₀ : Quiet a₀ s₀) {code : Nat} {src : Nat} {aid : Option Sys2Proof.Aid} {args : List Nat} :
    Quiet a₀ (State.emitAs s₀ code src aid args) := by
  unfold State.emitAs
  try extract_lets
  repeat' (first | with_reducible assumption | with_reducible apply quiet_State_flit | (fail_if_no_progress with_reducible apply Quiet.upd) | with_reducible apply Quiet.ite | with_reducible apply Quiet.ite1 | (with_reducible apply Quiet.foldl; intro s₁ x₁; have h₁ : Quiet s₁ s₁ := Quiet.refl s₁; try dsimp +zetaDelta only) | (with_reducible apply Quiet.foldl1; intro s₁ x₁; have h₁ : Quiet s₁.1 s₁.1 := Quiet.refl s₁.1; try dsimp +zetaDelta only) | extract_lets | split | dsimp +zetaDelta only)

theorem quiet_State_emit {a₀ s₀ : State} (h₀ : Quiet a₀ s₀) {code : Nat} {k : Sys2Proof.NodeKind} {args : List Nat} {aid : optParam (Option Sys2Proof.Aid) none} :
    Quiet a₀ (State.emit s₀ code k args aid) := by
  unfold State.emit
  try extract_lets
  repeat' (first | with_reducible assumption | with_reducible apply quiet_State_emitAs | (fail_if_no_progress with_reducible apply Quiet.upd) | with_reducible apply Quiet.ite | with_reducible apply Quiet.ite1 | (with_reducible apply Quiet.foldl; intro s₁ x₁; have h₁ : Quiet s₁ s₁ := Quiet.refl s₁; try dsimp +zetaDelta only) | (with_reducible apply Quiet.foldl1; intro s₁ x₁; have h₁ : Quiet s₁.1 s₁.1 := Quiet.refl s₁.1; try dsimp +zetaDelta only) | extract_lets | split | dsimp +zetaDelta only)

theorem quiet_State_freeUsed {a₀ s₀ : State} (h₀ : Quiet a₀ s₀)  :
    Quiet a₀ (State.freeUsed s₀) := by
  unfold State.freeUsed
  try extract_lets
  repeat' (first | with_reducible assumption | (fail_if_no_progress with_reducible apply Quiet.upd) | with_reducible apply Quiet.ite | with_reducible apply Quiet.ite1 | (with_reducible apply Quiet.foldl; intro s₁ x₁; have h₁ : Quiet s₁ s₁ := Quiet.refl s₁; try dsimp +zetaDelta only) | (with_reducible apply Quiet.foldl1; intro s₁ x₁; have h₁ : Quiet s₁.1 s₁.1 := Quiet.refl s₁.1; try dsimp +zetaDelta only) | extract_lets | split | dsimp +zetaDelta only)

theorem quiet_State_levelEvents {a₀ s₀ : State} (h₀ : Quiet a₀ s₀) {i : Nat} {now : List (Nat × Nat)} {before : List (Nat × Nat)} {n : Nat} :
    Quiet a₀ (State.levelEvents s₀ i now before n) := by
  unfold State.levelEvents
  try extract_lets
  repeat' (first | with_reducible assumption | with_reducible apply quiet_State_pcAdd | (fail_if_no_progress with_reducible apply Quiet.upd) | with_reducible apply Quiet.ite | with_reducible apply Quiet.ite1 | (with_reducible apply Quiet.foldl; intro s₁ x₁; have h₁ : Quiet s₁ s₁ := Quiet.refl s₁; try dsimp +zetaDelta only) | (with_reducible apply Quiet.foldl1; intro s₁ x₁; have h₁ : Quiet s₁.1 s₁.1 := Quiet.refl s₁.1; try dsimp +zetaDelta only) | extract_lets | split | dsimp +zetaDelta only)

theorem quiet_State_modChan {a₀ s₀ : State} (h₀ : Quiet a₀ s₀) {c : Nat} {f : Chan → Chan} :
    Quiet a₀ (State.modChan s₀ c f) := by
  unfold State.modChan
  try extract_lets
  repeat' (first | with_reducible assumption | (fail_if_no_progress with_reducible apply Quiet.upd) | with_reducible apply Quiet.ite | with_reducible apply Quiet.ite1 | (with_reducible apply Quiet.foldl; intro s₁ x₁; have h₁ : Quiet s₁ s₁ := Quiet.refl s₁; try dsimp +zetaDelta only) | (with_reducible apply Quiet.foldl1; intro s₁ x₁; have h₁ : Quiet s₁.1 s₁.1 := Quiet.refl s₁.1; try dsimp +zetaDelta only) | extract_lets | split | dsimp +zetaDelta only)

theorem quiet_State_modLink {a₀ s₀ : State} (h₀ : Quiet a₀ s₀) {l : Nat} {f : Link → Link} :
    Quiet a₀ (State.modLink s₀ l f) := by
  unfold State.modLink
  try extract_lets
  repeat' (first | with_reducible assumption | (fail_if_no_progress with_reducible apply Quiet.upd) | with_reducible apply Quiet.ite | with_reducible apply Quiet.ite1 | (with_reducible apply Quiet.foldl; intro s₁ x₁; have h₁ : Quiet s₁ s₁ := Quiet.refl s₁; try dsimp +zetaDelta only) | (with_reducible apply Quiet.foldl1; intro s₁ x₁; have h₁ : Quiet s₁.1 s₁.1 := Quiet.refl s₁.1; try dsimp +zetaDelta only) | extract_lets | split | dsimp +zetaDelta only)

theorem quiet_State_modSession {a₀ s₀ : State} (h₀ : Quiet a₀ s₀) {k : Nat} {f : Session → Session} :
    Quiet a₀ (State.modSession s₀ k f) := by
  unfold State.modSession
  try extract_lets
  repeat' (first | with_reducible assumption | (fail_if_no_progress with_reducible apply Quiet.upd) | with_reducible apply Quiet.ite | with_reducible apply Quiet.ite1 | (with_reducible apply Quiet.foldl; intro s₁ x₁; have h₁ : Quiet s₁ s₁ := Quiet.refl s₁; try dsimp +zetaDelta only) | (with_reducible apply Quiet.foldl1; intro s₁ x₁; have h₁ : Quiet s₁.1 s₁.1 := Quiet.refl s₁.1; try dsimp +zetaDelta only) | extract_lets | split | dsimp +zetaDelta only)

theorem quiet_State_modStep {a₀ s₀ : State} (h₀ : Quiet a₀ s₀) {src : Nat} {dst : Nat} {f : RouteStep → RouteStep} :
    Quiet a₀ (State.modStep s₀ src dst f) := by
  unfold State.modStep
  try extract_lets
  repeat' (first | with_reducible assumption | (fail_if_no_progress with_reducible apply Quiet.upd) | with_reducible apply Quiet.ite | with_reducible apply Quiet.ite1 | (with_reducible apply Quiet.foldl; intro s₁ x₁; have h₁ : Quiet s₁ s₁ := Quiet.refl s₁; try dsimp +zetaDelta only) | (with_reducible apply Quiet.foldl1; intro s₁ x₁; have h₁ : Quiet s₁.1 s₁.1 := Quiet.refl s₁.1; try dsimp +zetaDelta only) | extract_lets | split | dsimp +zetaDelta only)

theorem quiet_State_modTill {a₀ s₀ : State} (h₀ : Quiet a₀ s₀) {t : Nat} {f : Till → Till} :
    Quiet a₀ (State.modTill s₀ t f) := by
  unfold State.modTill
  try extract_lets
  repeat' (first | with_reducible assumption | (fail_if_no_progress with_reducible apply Quiet.upd) | with_reducible apply Quiet.ite | with_reducible apply Quiet.ite1 | (with_reducible apply Quiet.foldl; intro s₁ x₁; have h₁ : Quiet s₁ s₁ := Quiet.refl s₁; try dsimp +zetaDelta only) | (with_reducible apply Quiet.foldl1; intro s₁ x₁; have h₁ : Quiet s₁.1 s₁.1 := Quiet.refl s₁.1; try dsimp +zetaDelta only) | extract_lets | split | dsimp +zetaDelta only)

theorem quiet_State_modWicket {a₀ s₀ : State} (h₀ : Quiet a₀ s₀) {w : Nat} {f : Wicket → Wicket} :
    Quiet a₀ (State.modWicket s₀ w f) := by
  unfold State.modWicket
  try extract_lets
  repeat' (first | with_reducible assumption | (fail_if_no_progress with_reducible apply Quiet.upd) | with_reducible apply Quiet.ite | with_reducible apply Quiet.ite1 | (with_reducible apply Quiet.foldl; intro s₁ x₁; have h₁ : Quiet s₁ s₁ := Quiet.refl s₁; try dsimp +zetaDelta only) | (with_reducible apply Quiet.foldl1; intro s₁ x₁; have h₁ : Quiet s₁.1 s₁.1 := Quiet.refl s₁.1; try dsimp +zetaDelta only) | extract_lets | split | dsimp +zetaDelta only)

theorem quiet_State_modWsAgent {a₀ s₀ : State} (h₀ : Quiet a₀ s₀) {a : Nat} {g : WsAgent → WsAgent} :
    Quiet a₀ (State.modWsAgent s₀ a g) := by
  unfold State.modWsAgent
  try extract_lets
  repeat' (first | with_reducible assumption | (fail_if_no_progress with_reducible apply Quiet.upd) | with_reducible apply Quiet.ite | with_reducible apply Quiet.ite1 | (with_reducible apply Quiet.foldl; intro s₁ x₁; have h₁ : Quiet s₁ s₁ := Quiet.refl s₁; try dsimp +zetaDelta only) | (with_reducible apply Quiet.foldl1; intro s₁ x₁; have h₁ : Quiet s₁.1 s₁.1 := Quiet.refl s₁.1; try dsimp +zetaDelta only) | extract_lets | split | dsimp +zetaDelta only)

theorem quiet_State_note {a₀ s₀ : State} (h₀ : Quiet a₀ s₀) {c : J} {k : Sys2Proof.NodeKind} {args : List Nat} {aid : optParam (Option Sys2Proof.Aid) none} :
    Quiet a₀ (State.note s₀ c k args aid) := by
  unfold State.note
  try extract_lets
  repeat' (first | with_reducible assumption | with_reducible apply quiet_State_emit | (fail_if_no_progress with_reducible apply Quiet.upd) | with_reducible apply Quiet.ite | with_reducible apply Quiet.ite1 | (with_reducible apply Quiet.foldl; intro s₁ x₁; have h₁ : Quiet s₁ s₁ := Quiet.refl s₁; try dsimp +zetaDelta only) | (with_reducible apply Quiet.foldl1; intro s₁ x₁; have h₁ : Quiet s₁.1 s₁.1 := Quiet.refl s₁.1; try dsimp +zetaDelta only) | extract_lets | split | dsimp +zetaDelta only)

theorem quiet_State_send {a₀ s₀ : State} (h₀ : Quiet a₀ s₀) {o : Out} :
    Quiet a₀ (State.send s₀ o) := by
  unfold State.send
  try extract_lets
  repeat' (first | with_reducible assumption | (fail_if_no_progress with_reducible apply Quiet.upd) | with_reducible apply Quiet.ite | with_reducible apply Quiet.ite1 | (with_reducible apply Quiet.foldl; intro s₁ x₁; have h₁ : Quiet s₁ s₁ := Quiet.refl s₁; try dsimp +zetaDelta only) | (with_reducible apply Quiet.foldl1; intro s₁ x₁; have h₁ : Quiet s₁.1 s₁.1 := Quiet.refl s₁.1; try dsimp +zetaDelta only) | extract_lets | split | dsimp +zetaDelta only)

theorem quiet_State_noticed {a₀ s₀ : State} (h₀ : Quiet a₀ s₀) {k : Nat} :
    Quiet a₀ (State.noticed s₀ k) := by
  unfold State.noticed
  try extract_lets
  repeat' (first | with_reducible assumption | with_reducible apply quiet_State_bump | with_reducible apply quiet_State_send | (fail_if_no_progress with_reducible apply Quiet.upd) | with_reducible apply Quiet.ite | with_reducible apply Quiet.ite1 | (with_reducible apply Quiet.foldl; intro s₁ x₁; have h₁ : Quiet s₁ s₁ := Quiet.refl s₁; try dsimp +zetaDelta only) | (with_reducible apply Quiet.foldl1; intro s₁ x₁; have h₁ : Quiet s₁.1 s₁.1 := Quiet.refl s₁.1; try dsimp +zetaDelta only) | extract_lets | split | dsimp +zetaDelta only)

theorem quiet_State_packet {a₀ s₀ : State} (h₀ : Quiet a₀ s₀) {a : Sys2Proof.NodeKind} {c : Nat} {len : Nat} {b : Sys2Proof.NodeKind} :
    Quiet a₀ (State.packet s₀ a c len b) := by
  unfold State.packet
  try extract_lets
  repeat' (first | with_reducible assumption | with_reducible apply quiet_State_flit | (fail_if_no_progress with_reducible apply Quiet.upd) | with_reducible apply Quiet.ite | with_reducible apply Quiet.ite1 | (with_reducible apply Quiet.foldl; intro s₁ x₁; have h₁ : Quiet s₁ s₁ := Quiet.refl s₁; try dsimp +zetaDelta only) | (with_reducible apply Quiet.foldl1; intro s₁ x₁; have h₁ : Quiet s₁.1 s₁.1 := Quiet.refl s₁.1; try dsimp +zetaDelta only) | extract_lets | split | dsimp +zetaDelta only)

theorem quiet_State_popP {a₀ s₀ : State} (h₀ : Quiet a₀ s₀) {t : Nat} {w : Nat} :
    Quiet a₀ (State.popP s₀ t w) := by
  unfold State.popP
  try extract_lets
  repeat' (first | with_reducible assumption | (fail_if_no_progress with_reducible apply Quiet.upd) | with_reducible apply Quiet.ite | with_reducible apply Quiet.ite1 | (with_reducible apply Quiet.foldl; intro s₁ x₁; have h₁ : Quiet s₁ s₁ := Quiet.refl s₁; try dsimp +zetaDelta only) | (with_reducible apply Quiet.foldl1; intro s₁ x₁; have h₁ : Quiet s₁.1 s₁.1 := Quiet.refl s₁.1; try dsimp +zetaDelta only) | extract_lets | split | dsimp +zetaDelta only)

theorem quiet_State_sendP {a₀ s₀ : State} (h₀ : Quiet a₀ s₀) {t : Nat} {w : Nat} {m : PMsg} :
    Quiet a₀ (State.sendP s₀ t w m) := by
  unfold State.sendP
  try extract_lets
  repeat' (first | with_reducible assumption | with_reducible apply quiet_State_packet | (fail_if_no_progress with_reducible apply Quiet.upd) | with_reducible apply Quiet.ite | with_reducible apply Quiet.ite1 | (with_reducible apply Quiet.foldl; intro s₁ x₁; have h₁ : Quiet s₁ s₁ := Quiet.refl s₁; try dsimp +zetaDelta only) | (with_reducible apply Quiet.foldl1; intro s₁ x₁; have h₁ : Quiet s₁.1 s₁.1 := Quiet.refl s₁.1; try dsimp +zetaDelta only) | extract_lets | split | dsimp +zetaDelta only)

theorem quiet_State_sendW {a₀ s₀ : State} (h₀ : Quiet a₀ s₀) {w : Nat} {t : Nat} {m : WMsg} :
    Quiet a₀ (State.sendW s₀ w t m) := by
  unfold State.sendW
  try extract_lets
  repeat' (first | with_reducible assumption | with_reducible apply quiet_State_packet | (fail_if_no_progress with_reducible apply Quiet.upd) | with_reducible apply Quiet.ite | with_reducible apply Quiet.ite1 | (with_reducible apply Quiet.foldl; intro s₁ x₁; have h₁ : Quiet s₁ s₁ := Quiet.refl s₁; try dsimp +zetaDelta only) | (with_reducible apply Quiet.foldl1; intro s₁ x₁; have h₁ : Quiet s₁.1 s₁.1 := Quiet.refl s₁.1; try dsimp +zetaDelta only) | extract_lets | split | dsimp +zetaDelta only)

theorem quiet_State_setRawI {a₀ s₀ : State} (h₀ : Quiet a₀ s₀) {i : Nat} {j : Nat} {x : Int} :
    Quiet a₀ (State.setRawI s₀ i j x) := by
  unfold State.setRawI
  try extract_lets
  repeat' (first | with_reducible assumption | with_reducible apply quiet_State_setRawN | (fail_if_no_progress with_reducible apply Quiet.upd) | with_reducible apply Quiet.ite | with_reducible apply Quiet.ite1 | (with_reducible apply Quiet.foldl; intro s₁ x₁; have h₁ : Quiet s₁ s₁ := Quiet.refl s₁; try dsimp +zetaDelta only) | (with_reducible apply Quiet.foldl1; intro s₁ x₁; have h₁ : Quiet s₁.1 s₁.1 := Quiet.refl s₁.1; try dsimp +zetaDelta only) | extract_lets | split | dsimp +zetaDelta only)

theorem quiet_State_slot {a₀ s₀ : State} (h₀ : Quiet a₀ s₀) {t : Nat} {cls : Nat} {n : Nat} :
    Quiet a₀ (State.slot s₀ t cls n) := by
  unfold State.slot
  try extract_lets
  repeat' (first | with_reducible assumption | with_reducible apply quiet_State_modTill | (fail_if_no_progress with_reducible apply Quiet.upd) | with_reducible apply Quiet.ite | with_reducible apply Quiet.ite1 | (with_reducible apply Quiet.foldl; intro s₁ x₁; have h₁ : Quiet s₁ s₁ := Quiet.refl s₁; try dsimp +zetaDelta only) | (with_reducible apply Quiet.foldl1; intro s₁ x₁; have h₁ : Quiet s₁.1 s₁.1 := Quiet.refl s₁.1; try dsimp +zetaDelta only) | extract_lets | split | dsimp +zetaDelta only)

theorem quiet_addWrite {a₀ s₀ : State} (h₀ : Quiet a₀ s₀) {a : Nat} {e : Nat} :
    Quiet a₀ (addWrite s₀ a e) := by
  unfold addWrite
  try extract_lets
  repeat' (first | with_reducible assumption | with_reducible apply quiet_State_modWsAgent | (fail_if_no_progress with_reducible apply Quiet.upd) | with_reducible apply Quiet.ite | with_reducible apply Quiet.ite1 | (with_reducible apply Quiet.foldl; intro s₁ x₁; have h₁ : Quiet s₁ s₁ := Quiet.refl s₁; try dsimp +zetaDelta only) | (with_reducible apply Quiet.foldl1; intro s₁ x₁; have h₁ : Quiet s₁.1 s₁.1 := Quiet.refl s₁.1; try dsimp +zetaDelta only) | extract_lets | split | dsimp +zetaDelta only)

theorem quiet_depthSamples {a₀ s₀ : State} (h₀ : Quiet a₀ s₀) {w : Nat} {n : Nat} :
    Quiet a₀ (depthSamples s₀ w n) := by
  unfold depthSamples
  try extract_lets
  repeat' (first | with_reducible assumption | with_reducible apply quiet_State_sample | (fail_if_no_progress with_reducible apply Quiet.upd) | with_reducible apply Quiet.ite | with_reducible apply Quiet.ite1 | (with_reducible apply Quiet.foldl; intro s₁ x₁; have h₁ : Quiet s₁ s₁ := Quiet.refl s₁; try dsimp +zetaDelta only) | (with_reducible apply Quiet.foldl1; intro s₁ x₁; have h₁ : Quiet s₁.1 s₁.1 := Quiet.refl s₁.1; try dsimp +zetaDelta only) | extract_lets | split | dsimp +zetaDelta only)

theorem quiet_tillCycles {a₀ s₀ : State} (h₀ : Quiet a₀ s₀) {t : Nat} {n : Nat} :
    Quiet a₀ (tillCycles s₀ t n) := by
  unfold tillCycles
  try extract_lets
  repeat' (first | with_reducible assumption | with_reducible apply quiet_State_levelEvents | with_reducible apply quiet_State_modTill | with_reducible apply quiet_State_pcEvent | with_reducible apply quiet_State_slot | (fail_if_no_progress with_reducible apply Quiet.upd) | with_reducible apply Quiet.ite | with_reducible apply Quiet.ite1 | (with_reducible apply Quiet.foldl; intro s₁ x₁; have h₁ : Quiet s₁ s₁ := Quiet.refl s₁; try dsimp +zetaDelta only) | (with_reducible apply Quiet.foldl1; intro s₁ x₁; have h₁ : Quiet s₁.1 s₁.1 := Quiet.refl s₁.1; try dsimp +zetaDelta only) | extract_lets | split | dsimp +zetaDelta only)

theorem quiet_advance {a₀ s₀ : State} (h₀ : Quiet a₀ s₀) {n : Nat} :
    Quiet a₀ (advance s₀ n) := by
  unfold advance
  try extract_lets
  repeat' (first | with_reducible assumption | with_reducible apply quiet_State_levelEvents | with_reducible apply quiet_depthSamples | with_reducible apply quiet_tillCycles | (fail_if_no_progress with_reducible apply Quiet.upd) | with_reducible apply Quiet.ite | with_reducible apply Quiet.ite1 | (with_reducible apply Quiet.foldl; intro s₁ x₁; have h₁ : Quiet s₁ s₁ := Quiet.refl s₁; try dsimp +zetaDelta only) | (with_reducible apply Quiet.foldl1; intro s₁ x₁; have h₁ : Quiet s₁.1 s₁.1 := Quiet.refl s₁.1; try dsimp +zetaDelta only) | extract_lets | split | dsimp +zetaDelta only)

theorem quiet_askLoans {a₀ s₀ : State} (h₀ : Quiet a₀ s₀) {w : Nat} :
    Quiet a₀ (askLoans s₀ w) := by
  unfold askLoans
  try extract_lets
  repeat' (first | with_reducible assumption | with_reducible apply quiet_State_modWicket | with_reducible apply quiet_State_sendW | (fail_if_no_progress with_reducible apply Quiet.upd) | with_reducible apply Quiet.ite | with_reducible apply Quiet.ite1 | (with_reducible apply Quiet.foldl; intro s₁ x₁; have h₁ : Quiet s₁ s₁ := Quiet.refl s₁; try dsimp +zetaDelta only) | (with_reducible apply Quiet.foldl1; intro s₁ x₁; have h₁ : Quiet s₁.1 s₁.1 := Quiet.refl s₁.1; try dsimp +zetaDelta only) | extract_lets | split | dsimp +zetaDelta only)

theorem quiet_markBypass {a₀ s₀ : State} (h₀ : Quiet a₀ s₀) {w : Nat} :
    Quiet a₀ (markBypass s₀ w) := by
  unfold markBypass
  try extract_lets
  repeat' (first | with_reducible assumption | with_reducible apply quiet_State_modWicket | (fail_if_no_progress with_reducible apply Quiet.upd) | with_reducible apply Quiet.ite | with_reducible apply Quiet.ite1 | (with_reducible apply Quiet.foldl; intro s₁ x₁; have h₁ : Quiet s₁ s₁ := Quiet.refl s₁; try dsimp +zetaDelta only) | (with_reducible apply Quiet.foldl1; intro s₁ x₁; have h₁ : Quiet s₁.1 s₁.1 := Quiet.refl s₁.1; try dsimp +zetaDelta only) | extract_lets | split | dsimp +zetaDelta only)

theorem quiet_grantEntries {a₀ s₀ : State} (h₀ : Quiet a₀ s₀) {w : Nat} {a : Nat} {kept : Bool} {n : Nat} :
    Quiet a₀ (grantEntries s₀ w a kept n) := by
  unfold grantEntries
  try extract_lets
  repeat' (first | with_reducible assumption | with_reducible apply quiet_State_modWicket | with_reducible apply quiet_State_send | (fail_if_no_progress with_reducible apply Quiet.upd) | with_reducible apply Quiet.ite | with_reducible apply Quiet.ite1 | (with_reducible apply Quiet.foldl; intro s₁ x₁; have h₁ : Quiet s₁ s₁ := Quiet.refl s₁; try dsimp +zetaDelta only) | (with_reducible apply Quiet.foldl1; intro s₁ x₁; have h₁ : Quiet s₁.1 s₁.1 := Quiet.refl s₁.1; try dsimp +zetaDelta only) | extract_lets | split | dsimp +zetaDelta only)

theorem quiet_regrant {a₀ s₀ : State} (h₀ : Quiet a₀ s₀) {w : Nat} {a : Nat} :
    Quiet a₀ (regrant s₀ w a) := by
  unfold regrant
  try extract_lets
  repeat' (first | with_reducible assumption | with_reducible apply quiet_grantEntries | (fail_if_no_progress with_reducible apply Quiet.upd) | with_reducible apply Quiet.ite | with_reducible apply Quiet.ite1 | (with_reducible apply Quiet.foldl; intro s₁ x₁; have h₁ : Quiet s₁ s₁ := Quiet.refl s₁; try dsimp +zetaDelta only) | (with_reducible apply Quiet.foldl1; intro s₁ x₁; have h₁ : Quiet s₁.1 s₁.1 := Quiet.refl s₁.1; try dsimp +zetaDelta only) | extract_lets | split | dsimp +zetaDelta only)

theorem quiet_afterAdmit {a₀ s₀ : State} (h₀ : Quiet a₀ s₀) {w : Nat} {a : Nat} :
    Quiet a₀ (afterAdmit s₀ w a) := by
  unfold afterAdmit
  try extract_lets
  repeat' (first | with_reducible assumption | with_reducible apply quiet_askLoans | with_reducible apply quiet_markBypass | with_reducible apply quiet_regrant | (fail_if_no_progress with_reducible apply Quiet.upd) | with_reducible apply Quiet.ite | with_reducible apply Quiet.ite1 | (with_reducible apply Quiet.foldl; intro s₁ x₁; have h₁ : Quiet s₁ s₁ := Quiet.refl s₁; try dsimp +zetaDelta only) | (with_reducible apply Quiet.foldl1; intro s₁ x₁; have h₁ : Quiet s₁.1 s₁.1 := Quiet.refl s₁.1; try dsimp +zetaDelta only) | extract_lets | split | dsimp +zetaDelta only)

theorem quiet_offer {a₀ s₀ : State} (h₀ : Quiet a₀ s₀) {k : Nat} {r : JRec} :
    Quiet a₀ (offer s₀ k r) := by
  unfold offer
  try extract_lets
  repeat' (first | with_reducible assumption | with_reducible apply quiet_State_bump | with_reducible apply quiet_State_dropRec | with_reducible apply quiet_State_modStream | with_reducible apply quiet_State_noticed | (fail_if_no_progress with_reducible apply Quiet.upd) | with_reducible apply Quiet.ite | with_reducible apply Quiet.ite1 | (with_reducible apply Quiet.foldl; intro s₁ x₁; have h₁ : Quiet s₁ s₁ := Quiet.refl s₁; try dsimp +zetaDelta only) | (with_reducible apply Quiet.foldl1; intro s₁ x₁; have h₁ : Quiet s₁.1 s₁.1 := Quiet.refl s₁.1; try dsimp +zetaDelta only) | extract_lets | split | dsimp +zetaDelta only)

theorem quiet_alarmArrives {a₀ s₀ : State} (h₀ : Quiet a₀ s₀) {r : JRec} :
    Quiet a₀ (alarmArrives s₀ r) := by
  unfold alarmArrives
  try extract_lets
  repeat' (first | with_reducible assumption | with_reducible apply quiet_offer | (fail_if_no_progress with_reducible apply Quiet.upd) | with_reducible apply Quiet.ite | with_reducible apply Quiet.ite1 | (with_reducible apply Quiet.foldl; intro s₁ x₁; have h₁ : Quiet s₁ s₁ := Quiet.refl s₁; try dsimp +zetaDelta only) | (with_reducible apply Quiet.foldl1; intro s₁ x₁; have h₁ : Quiet s₁.1 s₁.1 := Quiet.refl s₁.1; try dsimp +zetaDelta only) | extract_lets | split | dsimp +zetaDelta only)

theorem quiet_alarmPeriod {a₀ s₀ : State} (h₀ : Quiet a₀ s₀)  :
    Quiet a₀ (alarmPeriod s₀) := by
  unfold alarmPeriod
  try extract_lets
  repeat' (first | with_reducible assumption | with_reducible apply quiet_offer | (fail_if_no_progress with_reducible apply Quiet.upd) | with_reducible apply Quiet.ite | with_reducible apply Quiet.ite1 | (with_reducible apply Quiet.foldl; intro s₁ x₁; have h₁ : Quiet s₁ s₁ := Quiet.refl s₁; try dsimp +zetaDelta only) | (with_reducible apply Quiet.foldl1; intro s₁ x₁; have h₁ : Quiet s₁.1 s₁.1 := Quiet.refl s₁.1; try dsimp +zetaDelta only) | extract_lets | split | dsimp +zetaDelta only)

theorem quiet_appendAdm {a₀ s₀ : State} (h₀ : Quiet a₀ s₀) {w : Nat} {e : Adm} :
    Quiet a₀ (appendAdm s₀ w e) := by
  unfold appendAdm
  try extract_lets
  repeat' (first | with_reducible assumption | with_reducible apply quiet_State_modWicket | (fail_if_no_progress with_reducible apply Quiet.upd) | with_reducible apply Quiet.ite | with_reducible apply Quiet.ite1 | (with_reducible apply Quiet.foldl; intro s₁ x₁; have h₁ : Quiet s₁ s₁ := Quiet.refl s₁; try dsimp +zetaDelta only) | (with_reducible apply Quiet.foldl1; intro s₁ x₁; have h₁ : Quiet s₁.1 s₁.1 := Quiet.refl s₁.1; try dsimp +zetaDelta only) | extract_lets | split | dsimp +zetaDelta only)

theorem quiet_arbitrate {a₀ s₀ : State} (h₀ : Quiet a₀ s₀) {t : Nat} {bank : Nat} {raised : BitVec 4} {lockStart : Bool} {lockEnd : Bool} :
    Quiet a₀ (arbitrate s₀ t bank raised lockStart lockEnd) := by
  unfold arbitrate
  try extract_lets
  repeat' (first | with_reducible assumption | with_reducible apply quiet_State_bump | with_reducible apply quiet_State_modTill | (fail_if_no_progress with_reducible apply Quiet.upd) | with_reducible apply Quiet.ite | with_reducible apply Quiet.ite1 | (with_reducible apply Quiet.foldl; intro s₁ x₁; have h₁ : Quiet s₁ s₁ := Quiet.refl s₁; try dsimp +zetaDelta only) | (with_reducible apply Quiet.foldl1; intro s₁ x₁; have h₁ : Quiet s₁.1 s₁.1 := Quiet.refl s₁.1; try dsimp +zetaDelta only) | extract_lets | split | dsimp +zetaDelta only)

theorem quiet_askMargin {a₀ s₀ : State} (h₀ : Quiet a₀ s₀) {kind : Nat} {mv : Nat} {mhz : Nat} {why : Nat} :
    Quiet a₀ (askMargin s₀ kind mv mhz why) := by
  unfold askMargin
  try extract_lets
  repeat' (first | with_reducible assumption | (fail_if_no_progress with_reducible apply Quiet.upd) | with_reducible apply Quiet.ite | with_reducible apply Quiet.ite1 | (with_reducible apply Quiet.foldl; intro s₁ x₁; have h₁ : Quiet s₁ s₁ := Quiet.refl s₁; try dsimp +zetaDelta only) | (with_reducible apply Quiet.foldl1; intro s₁ x₁; have h₁ : Quiet s₁.1 s₁.1 := Quiet.refl s₁.1; try dsimp +zetaDelta only) | extract_lets | split | dsimp +zetaDelta only)

theorem quiet_readTj {a₀ s₀ : State} (h₀ : Quiet a₀ s₀) {t : Nat} {x : Int} :
    Quiet a₀ (readTj s₀ t x) := by
  unfold readTj
  try extract_lets
  repeat' (first | with_reducible assumption | with_reducible apply quiet_State_bump | with_reducible apply quiet_State_note | with_reducible apply quiet_State_setRawI | (fail_if_no_progress with_reducible apply Quiet.upd) | with_reducible apply Quiet.ite | with_reducible apply Quiet.ite1 | (with_reducible apply Quiet.foldl; intro s₁ x₁; have h₁ : Quiet s₁ s₁ := Quiet.refl s₁; try dsimp +zetaDelta only) | (with_reducible apply Quiet.foldl1; intro s₁ x₁; have h₁ : Quiet s₁.1 s₁.1 := Quiet.refl s₁.1; try dsimp +zetaDelta only) | extract_lets | split | dsimp +zetaDelta only)

theorem quiet_readTjs {a₀ s₀ : State} (h₀ : Quiet a₀ s₀) {l : List (Nat × Int)} :
    Quiet a₀ (readTjs s₀ l) := by
  unfold readTjs
  try extract_lets
  repeat' (first | with_reducible assumption | with_reducible apply quiet_readTj | (fail_if_no_progress with_reducible apply Quiet.upd) | with_reducible apply Quiet.ite | with_reducible apply Quiet.ite1 | (with_reducible apply Quiet.foldl; intro s₁ x₁; have h₁ : Quiet s₁ s₁ := Quiet.refl s₁; try dsimp +zetaDelta only) | (with_reducible apply Quiet.foldl1; intro s₁ x₁; have h₁ : Quiet s₁.1 s₁.1 := Quiet.refl s₁.1; try dsimp +zetaDelta only) | extract_lets | split | dsimp +zetaDelta only)

theorem quiet_report {a₀ s₀ : State} (h₀ : Quiet a₀ s₀) {m : Sys2Proof.Measure} {full : Bool} :
    Quiet a₀ (report s₀ m full) := by
  unfold report
  try extract_lets
  repeat' (first | with_reducible assumption | with_reducible apply quiet_State_freeUsed | with_reducible apply quiet_State_setRawI | with_reducible apply quiet_State_setRawN | (fail_if_no_progress with_reducible apply Quiet.upd) | with_reducible apply Quiet.ite | with_reducible apply Quiet.ite1 | (with_reducible apply Quiet.foldl; intro s₁ x₁; have h₁ : Quiet s₁ s₁ := Quiet.refl s₁; try dsimp +zetaDelta only) | (with_reducible apply Quiet.foldl1; intro s₁ x₁; have h₁ : Quiet s₁.1 s₁.1 := Quiet.refl s₁.1; try dsimp +zetaDelta only) | extract_lets | split | dsimp +zetaDelta only)

theorem quiet_baseline {a₀ s₀ : State} (h₀ : Quiet a₀ s₀) {m : Sys2Proof.Measure} {mhz : Nat} {acked : Bool} :
    Quiet a₀ (baseline s₀ m mhz acked) := by
  unfold baseline
  try extract_lets
  repeat' (first | with_reducible assumption | with_reducible apply quiet_State_bump | with_reducible apply quiet_State_note | with_reducible apply quiet_State_setRaw | with_reducible apply quiet_askMargin | with_reducible apply quiet_readTjs | with_reducible apply quiet_report | (fail_if_no_progress with_reducible apply Quiet.upd) | with_reducible apply Quiet.ite | with_reducible apply Quiet.ite1 | (with_reducible apply Quiet.foldl; intro s₁ x₁; have h₁ : Quiet s₁ s₁ := Quiet.refl s₁; try dsimp +zetaDelta only) | (with_reducible apply Quiet.foldl1; intro s₁ x₁; have h₁ : Quiet s₁.1 s₁.1 := Quiet.refl s₁.1; try dsimp +zetaDelta only) | extract_lets | split | dsimp +zetaDelta only)

theorem quiet_injectDone {a₀ s₀ : State} (h₀ : Quiet a₀ s₀) {id : Nat} {payload : List Sys2Proof.Byte} :
    Quiet a₀ (injectDone s₀ id payload) := by
  unfold injectDone
  try extract_lets
  repeat' (first | with_reducible assumption | with_reducible apply quiet_State_send | (fail_if_no_progress with_reducible apply Quiet.upd) | with_reducible apply Quiet.ite | with_reducible apply Quiet.ite1 | (with_reducible apply Quiet.foldl; intro s₁ x₁; have h₁ : Quiet s₁ s₁ := Quiet.refl s₁; try dsimp +zetaDelta only) | (with_reducible apply Quiet.foldl1; intro s₁ x₁; have h₁ : Quiet s₁.1 s₁.1 := Quiet.refl s₁.1; try dsimp +zetaDelta only) | extract_lets | split | dsimp +zetaDelta only)

theorem quiet_sendCmp {a₀ s₀ : State} (h₀ : Quiet a₀ s₀) {w : Nat} {origin : Origin} {o : CmpOpc} {a : Sys2Proof.Aid} {i : Sys2Proof.Inc} {t : Sys2Proof.Tag} {st : CStat} {rcpt : Nat} {data : Option (Sys2Proof.LineData × Bool)} :
    Quiet a₀ (sendCmp s₀ w origin o a i t st rcpt data) := by
  unfold sendCmp
  try extract_lets
  repeat' (first | with_reducible assumption | with_reducible apply quiet_State_send | with_reducible apply quiet_injectDone | (fail_if_no_progress with_reducible apply Quiet.upd) | with_reducible apply Quiet.ite | with_reducible apply Quiet.ite1 | (with_reducible apply Quiet.foldl; intro s₁ x₁; have h₁ : Quiet s₁ s₁ := Quiet.refl s₁; try dsimp +zetaDelta only) | (with_reducible apply Quiet.foldl1; intro s₁ x₁; have h₁ : Quiet s₁.1 s₁.1 := Quiet.refl s₁.1; try dsimp +zetaDelta only) | extract_lets | split | dsimp +zetaDelta only)

theorem quiet_settleDone {a₀ s₀ : State} (h₀ : Quiet a₀ s₀) {a : Nat} :
    ∀ t₀, (settleDone s₀ a) = some t₀ → Quiet a₀ t₀ := by
  intro t₀ e₀
  unfold settleDone at e₀
  try dsimp only at e₀
  repeat' (split at e₀)
  all_goals first | (simp only [Option.some.injEq, reduceCtorEq] at e₀; done) | (simp only [Option.some.injEq] at e₀; subst e₀)
  all_goals repeat' (first | with_reducible assumption | with_reducible apply quiet_State_bump | with_reducible apply quiet_State_modWsAgent | with_reducible apply quiet_sendCmp | (fail_if_no_progress with_reducible apply Quiet.upd) | with_reducible apply Quiet.ite | with_reducible apply Quiet.ite1 | (with_reducible apply Quiet.foldl; intro s₁ x₁; have h₁ : Quiet s₁ s₁ := Quiet.refl s₁; try dsimp +zetaDelta only) | (with_reducible apply Quiet.foldl1; intro s₁ x₁; have h₁ : Quiet s₁.1 s₁.1 := Quiet.refl s₁.1; try dsimp +zetaDelta only) | extract_lets | split | dsimp +zetaDelta only)

theorem quiet_settleDone_eq {a₀ s₀ u₀ : State} {a : Nat} (e₀ : settleDone s₀ a = some u₀) (h₀ : Quiet a₀ s₀) : Quiet a₀ u₀ :=
  quiet_settleDone h₀ u₀ e₀

theorem quiet_checkSettles {a₀ s₀ : State} (h₀ : Quiet a₀ s₀) {x0 : Nat} {x2 : Nat} :
    Quiet a₀ (checkSettles x0 s₀ x2) := by
  induction x0 generalizing s₀ with
  | zero => unfold checkSettles; exact h₀
  | succ n ih =>
    unfold checkSettles
    try extract_lets
    repeat' (first | with_reducible assumption | with_reducible apply ih | with_reducible refine quiet_settleDone_eq (by assumption) ?_ | (fail_if_no_progress with_reducible apply Quiet.upd) | with_reducible apply Quiet.ite | with_reducible apply Quiet.ite1 | (with_reducible apply Quiet.foldl; intro s₁ x₁; have h₁ : Quiet s₁ s₁ := Quiet.refl s₁; try dsimp +zetaDelta only) | (with_reducible apply Quiet.foldl1; intro s₁ x₁; have h₁ : Quiet s₁.1 s₁.1 := Quiet.refl s₁.1; try dsimp +zetaDelta only) | extract_lets | split | dsimp +zetaDelta only)

theorem quiet_pushAdm {a₀ s₀ : State} (h₀ : Quiet a₀ s₀) {w : Nat} {e : Adm} :
    Quiet a₀ (pushAdm s₀ w e) := by
  unfold pushAdm
  try extract_lets
  repeat' (first | with_reducible assumption | with_reducible apply quiet_State_gev | with_reducible apply quiet_State_modWicket | with_reducible apply quiet_appendAdm | (fail_if_no_progress with_reducible apply Quiet.upd) | with_reducible apply Quiet.ite | with_reducible apply Quiet.ite1 | (with_reducible apply Quiet.foldl; intro s₁ x₁; have h₁ : Quiet s₁ s₁ := Quiet.refl s₁; try dsimp +zetaDelta only) | (with_reducible apply Quiet.foldl1; intro s₁ x₁; have h₁ : Quiet s₁.1 s₁.1 := Quiet.refl s₁.1; try dsimp +zetaDelta only) | extract_lets | split | dsimp +zetaDelta only)

theorem quiet_drainPost {a₀ s₀ : State} (h₀ : Quiet a₀ s₀) {e : Nat} :
    Quiet a₀ (drainPost s₀ e) := by
  unfold drainPost
  try extract_lets
  repeat' (first | with_reducible assumption | with_reducible apply quiet_pushAdm | (fail_if_no_progress with_reducible apply Quiet.upd) | with_reducible apply Quiet.ite | with_reducible apply Quiet.ite1 | (with_reducible apply Quiet.foldl; intro s₁ x₁; have h₁ : Quiet s₁ s₁ := Quiet.refl s₁; try dsimp +zetaDelta only) | (with_reducible apply Quiet.foldl1; intro s₁ x₁; have h₁ : Quiet s₁.1 s₁.1 := Quiet.refl s₁.1; try dsimp +zetaDelta only) | extract_lets | split | dsimp +zetaDelta only)

theorem quiet_drainWhere {a₀ s₀ : State} (h₀ : Quiet a₀ s₀) {p : Post → Bool} :
    Quiet a₀ (drainWhere s₀ p) := by
  unfold drainWhere
  try extract_lets
  repeat' (first | with_reducible assumption | with_reducible apply quiet_drainPost | (fail_if_no_progress with_reducible apply Quiet.upd) | with_reducible apply Quiet.ite | with_reducible apply Quiet.ite1 | (with_reducible apply Quiet.foldl; intro s₁ x₁; have h₁ : Quiet s₁ s₁ := Quiet.refl s₁; try dsimp +zetaDelta only) | (with_reducible apply Quiet.foldl1; intro s₁ x₁; have h₁ : Quiet s₁.1 s₁.1 := Quiet.refl s₁.1; try dsimp +zetaDelta only) | extract_lets | split | dsimp +zetaDelta only)

theorem quiet_closeEpoch {a₀ s₀ : State} (h₀ : Quiet a₀ s₀) {e : Adm} :
    Quiet a₀ (closeEpoch s₀ e) := by
  unfold closeEpoch
  try extract_lets
  repeat' (first | with_reducible assumption | with_reducible apply quiet_State_modWsAgent | with_reducible apply quiet_checkSettles | with_reducible apply quiet_drainWhere | (fail_if_no_progress with_reducible apply Quiet.upd) | with_reducible apply Quiet.ite | with_reducible apply Quiet.ite1 | (with_reducible apply Quiet.foldl; intro s₁ x₁; have h₁ : Quiet s₁ s₁ := Quiet.refl s₁; try dsimp +zetaDelta only) | (with_reducible apply Quiet.foldl1; intro s₁ x₁; have h₁ : Quiet s₁.1 s₁.1 := Quiet.refl s₁.1; try dsimp +zetaDelta only) | extract_lets | split | dsimp +zetaDelta only)

theorem quiet_creditBack {a₀ s₀ : State} (h₀ : Quiet a₀ s₀) {w : Nat} {t : Nat} {src : Src} {a : Sys2Proof.Aid} {i : Sys2Proof.Inc} {data : Bool} :
    Quiet a₀ (creditBack s₀ w t src a i data) := by
  unfold creditBack
  try extract_lets
  repeat' (first | with_reducible assumption | with_reducible apply quiet_State_modTill | with_reducible apply quiet_State_modWicket | (fail_if_no_progress with_reducible apply Quiet.upd) | with_reducible apply Quiet.ite | with_reducible apply Quiet.ite1 | (with_reducible apply Quiet.foldl; intro s₁ x₁; have h₁ : Quiet s₁ s₁ := Quiet.refl s₁; try dsimp +zetaDelta only) | (with_reducible apply Quiet.foldl1; intro s₁ x₁; have h₁ : Quiet s₁.1 s₁.1 := Quiet.refl s₁.1; try dsimp +zetaDelta only) | extract_lets | split | dsimp +zetaDelta only)

theorem quiet_noteOutcome {a₀ s₀ : State} (h₀ : Quiet a₀ s₀) {a : Nat} {e : Nat} {o : Outc} {ends : Bool} :
    Quiet a₀ (noteOutcome s₀ a e o ends) := by
  unfold noteOutcome
  try extract_lets
  repeat' (first | with_reducible assumption | with_reducible apply quiet_State_modWsAgent | (fail_if_no_progress with_reducible apply Quiet.upd) | with_reducible apply Quiet.ite | with_reducible apply Quiet.ite1 | (with_reducible apply Quiet.foldl; intro s₁ x₁; have h₁ : Quiet s₁ s₁ := Quiet.refl s₁; try dsimp +zetaDelta only) | (with_reducible apply Quiet.foldl1; intro s₁ x₁; have h₁ : Quiet s₁.1 s₁.1 := Quiet.refl s₁.1; try dsimp +zetaDelta only) | extract_lets | split | dsimp +zetaDelta only)

theorem quiet_spendEntry {a₀ s₀ : State} (h₀ : Quiet a₀ s₀) {w : Nat} {a : Nat} {o : Opc} :
    Quiet a₀ (spendEntry s₀ w a o).1 := by
  unfold spendEntry
  try extract_lets
  repeat' (first | with_reducible assumption | with_reducible apply quiet_State_modWicket | (fail_if_no_progress with_reducible apply Quiet.upd) | with_reducible apply Quiet.ite | with_reducible apply Quiet.ite1 | (with_reducible apply Quiet.foldl; intro s₁ x₁; have h₁ : Quiet s₁ s₁ := Quiet.refl s₁; try dsimp +zetaDelta only) | (with_reducible apply Quiet.foldl1; intro s₁ x₁; have h₁ : Quiet s₁.1 s₁.1 := Quiet.refl s₁.1; try dsimp +zetaDelta only) | extract_lets | split | dsimp +zetaDelta only)

theorem quiet_spendEntry_eq {a₀ s₀ u₀ : State} {y₀ : Bool} {w : Nat} {a : Nat} {o : Opc} (e₀ : spendEntry s₀ w a o = (u₀, y₀)) (h₀ : Quiet a₀ s₀) :
    Quiet a₀ u₀ := by
  have k := @quiet_spendEntry  a₀ s₀ h₀ w a o
  rw [e₀] at k; exact k

theorem quiet_payEntry {a₀ s₀ : State} (h₀ : Quiet a₀ s₀) {w : Nat} {a : Nat} {o : Opc} {origin : Origin} :
    Quiet a₀ (payEntry s₀ w a o origin).1 := by
  unfold payEntry
  try extract_lets
  repeat' (first | with_reducible assumption | with_reducible refine quiet_spendEntry_eq (by assumption) ?_ | with_reducible apply quiet_spendEntry | (fail_if_no_progress with_reducible apply Quiet.upd) | with_reducible apply Quiet.ite | with_reducible apply Quiet.ite1 | (with_reducible apply Quiet.foldl; intro s₁ x₁; have h₁ : Quiet s₁ s₁ := Quiet.refl s₁; try dsimp +zetaDelta only) | (with_reducible apply Quiet.foldl1; intro s₁ x₁; have h₁ : Quiet s₁.1 s₁.1 := Quiet.refl s₁.1; try dsimp +zetaDelta only) | extract_lets | split | dsimp +zetaDelta only)

theorem quiet_payEntry_eq {a₀ s₀ u₀ : State} {y₀ : Bool} {w : Nat} {a : Nat} {o : Opc} {origin : Origin} (e₀ : payEntry s₀ w a o origin = (u₀, y₀)) (h₀ : Quiet a₀ s₀) :
    Quiet a₀ u₀ := by
  have k := @quiet_payEntry  a₀ s₀ h₀ w a o origin
  rw [e₀] at k; exact k

theorem quiet_wicketFail {a₀ s₀ : State} (h₀ : Quiet a₀ s₀) {w : Nat} {o : Opc} {a : Sys2Proof.Aid} {i : Sys2Proof.Inc} {tag : Sys2Proof.Tag} {origin : optParam Origin Origin.agent} :
    Quiet a₀ (wicketFail s₀ w o a i tag origin) := by
  unfold wicketFail
  try extract_lets
  repeat' (first | with_reducible assumption | with_reducible apply quiet_State_freeUsed | with_reducible apply quiet_sendCmp | (fail_if_no_progress with_reducible apply Quiet.upd) | with_reducible apply Quiet.ite | with_reducible apply Quiet.ite1 | (with_reducible apply Quiet.foldl; intro s₁ x₁; have h₁ : Quiet s₁ s₁ := Quiet.refl s₁; try dsimp +zetaDelta only) | (with_reducible apply Quiet.foldl1; intro s₁ x₁; have h₁ : Quiet s₁.1 s₁.1 := Quiet.refl s₁.1; try dsimp +zetaDelta only) | extract_lets | split | dsimp +zetaDelta only)

theorem quiet_refuseReq {a₀ s₀ : State} (h₀ : Quiet a₀ s₀) {w : Nat} {o : Opc} {q : Sys2Proof.Req} {origin : Origin} :
    Quiet a₀ (refuseReq s₀ w o q origin) := by
  unfold refuseReq
  try extract_lets
  repeat' (first | with_reducible assumption | with_reducible refine quiet_payEntry_eq (by assumption) ?_ | with_reducible apply quiet_addWrite | with_reducible apply quiet_noteOutcome | with_reducible apply quiet_payEntry | with_reducible apply quiet_regrant | with_reducible apply quiet_wicketFail | (fail_if_no_progress with_reducible apply Quiet.upd) | with_reducible apply Quiet.ite | with_reducible apply Quiet.ite1 | (with_reducible apply Quiet.foldl; intro s₁ x₁; have h₁ : Quiet s₁ s₁ := Quiet.refl s₁; try dsimp +zetaDelta only) | (with_reducible apply Quiet.foldl1; intro s₁ x₁; have h₁ : Quiet s₁.1 s₁.1 := Quiet.refl s₁.1; try dsimp +zetaDelta only) | extract_lets | split | dsimp +zetaDelta only)

theorem quiet_regrantAll {a₀ s₀ : State} (h₀ : Quiet a₀ s₀) {w : Nat} {a : Nat} :
    Quiet a₀ (regrantAll s₀ w a) := by
  unfold regrantAll
  try extract_lets
  repeat' (first | with_reducible assumption | with_reducible apply quiet_regrant | (fail_if_no_progress with_reducible apply Quiet.upd) | with_reducible apply Quiet.ite | with_reducible apply Quiet.ite1 | (with_reducible apply Quiet.foldl; intro s₁ x₁; have h₁ : Quiet s₁ s₁ := Quiet.refl s₁; try dsimp +zetaDelta only) | (with_reducible apply Quiet.foldl1; intro s₁ x₁; have h₁ : Quiet s₁.1 s₁.1 := Quiet.refl s₁.1; try dsimp +zetaDelta only) | extract_lets | split | dsimp +zetaDelta only)

theorem quiet_highWater {a₀ s₀ : State} (h₀ : Quiet a₀ s₀)  :
    Quiet a₀ (highWater s₀) := by
  unfold highWater
  try extract_lets
  repeat' (first | with_reducible assumption | with_reducible apply quiet_drainPost | (fail_if_no_progress with_reducible apply Quiet.upd) | with_reducible apply Quiet.ite | with_reducible apply Quiet.ite1 | (with_reducible apply Quiet.foldl; intro s₁ x₁; have h₁ : Quiet s₁ s₁ := Quiet.refl s₁; try dsimp +zetaDelta only) | (with_reducible apply Quiet.foldl1; intro s₁ x₁; have h₁ : Quiet s₁.1 s₁.1 := Quiet.refl s₁.1; try dsimp +zetaDelta only) | extract_lets | split | dsimp +zetaDelta only)

theorem quiet_postStore {a₀ s₀ : State} (h₀ : Quiet a₀ s₀) {a : Sys2Proof.Aid} {l : Sys2Proof.Line} {d : WData} {epoch : Nat} :
    Quiet a₀ (postStore s₀ a l d epoch) := by
  unfold postStore
  try extract_lets
  repeat' (first | with_reducible assumption | with_reducible apply quiet_State_bump | with_reducible apply quiet_State_modWsAgent | with_reducible apply quiet_highWater | (fail_if_no_progress with_reducible apply Quiet.upd) | with_reducible apply Quiet.ite | with_reducible apply Quiet.ite1 | (with_reducible apply Quiet.foldl; intro s₁ x₁; have h₁ : Quiet s₁ s₁ := Quiet.refl s₁; try dsimp +zetaDelta only) | (with_reducible apply Quiet.foldl1; intro s₁ x₁; have h₁ : Quiet s₁.1 s₁.1 := Quiet.refl s₁.1; try dsimp +zetaDelta only) | extract_lets | split | dsimp +zetaDelta only)

theorem quiet_postWrite {a₀ s₀ : State} (h₀ : Quiet a₀ s₀) {e : Adm} :
    Quiet a₀ (postWrite s₀ e) := by
  unfold postWrite
  try extract_lets
  repeat' (first | with_reducible assumption | with_reducible apply quiet_checkSettles | with_reducible apply quiet_postStore | with_reducible apply quiet_sendCmp | (fail_if_no_progress with_reducible apply Quiet.upd) | with_reducible apply Quiet.ite | with_reducible apply Quiet.ite1 | (with_reducible apply Quiet.foldl; intro s₁ x₁; have h₁ : Quiet s₁ s₁ := Quiet.refl s₁; try dsimp +zetaDelta only) | (with_reducible apply Quiet.foldl1; intro s₁ x₁; have h₁ : Quiet s₁.1 s₁.1 := Quiet.refl s₁.1; try dsimp +zetaDelta only) | extract_lets | split | dsimp +zetaDelta only)

theorem quiet_wsServe {a₀ s₀ : State} (h₀ : Quiet a₀ s₀) {e : Adm} :
    ∀ t₀, (wsServe s₀ e) = some t₀ → Quiet a₀ t₀.1 := by
  intro t₀ e₀
  unfold wsServe at e₀
  try dsimp only at e₀
  repeat' (split at e₀)
  all_goals first | (simp only [Option.some.injEq, reduceCtorEq] at e₀; done) | (simp only [Option.some.injEq] at e₀; subst e₀)
  all_goals repeat' (first | with_reducible assumption | with_reducible apply quiet_State_bump | with_reducible apply quiet_closeEpoch | with_reducible apply quiet_drainWhere | with_reducible apply quiet_postWrite | with_reducible apply quiet_sendCmp | (fail_if_no_progress with_reducible apply Quiet.upd) | with_reducible apply Quiet.ite | with_reducible apply Quiet.ite1 | (with_reducible apply Quiet.foldl; intro s₁ x₁; have h₁ : Quiet s₁ s₁ := Quiet.refl s₁; try dsimp +zetaDelta only) | (with_reducible apply Quiet.foldl1; intro s₁ x₁; have h₁ : Quiet s₁.1 s₁.1 := Quiet.refl s₁.1; try dsimp +zetaDelta only) | extract_lets | split | dsimp +zetaDelta only)

theorem quiet_wsServe_eq {a₀ s₀ u₀ : State} {y₀ : Bool} {e : Adm} (e₀ : wsServe s₀ e = some (u₀, y₀)) (h₀ : Quiet a₀ s₀) : Quiet a₀ u₀ :=
  quiet_wsServe h₀ (u₀, y₀) e₀

theorem quiet_wsTake {a₀ s₀ : State} (h₀ : Quiet a₀ s₀) {e : Adm} :
    Quiet a₀ (wsTake s₀ e) := by
  unfold wsTake
  try extract_lets
  repeat' (first | with_reducible assumption | with_reducible refine quiet_wsServe_eq (by assumption) ?_ | with_reducible apply quiet_pushAdm | with_reducible apply quiet_regrantAll | (fail_if_no_progress with_reducible apply Quiet.upd) | with_reducible apply Quiet.ite | with_reducible apply Quiet.ite1 | (with_reducible apply Quiet.foldl; intro s₁ x₁; have h₁ : Quiet s₁ s₁ := Quiet.refl s₁; try dsimp +zetaDelta only) | (with_reducible apply Quiet.foldl1; intro s₁ x₁; have h₁ : Quiet s₁.1 s₁.1 := Quiet.refl s₁.1; try dsimp +zetaDelta only) | extract_lets | split | dsimp +zetaDelta only)

theorem quiet_takeReq {a₀ s₀ : State} (h₀ : Quiet a₀ s₀) {w : Nat} {o : Opc} {q : Sys2Proof.Req} {origin : Origin} :
    Quiet a₀ (takeReq s₀ w o q origin) := by
  unfold takeReq
  try extract_lets
  repeat' (first | with_reducible assumption | with_reducible refine quiet_payEntry_eq (by assumption) ?_ | with_reducible apply quiet_addWrite | with_reducible apply quiet_afterAdmit | with_reducible apply quiet_payEntry | with_reducible apply quiet_pushAdm | with_reducible apply quiet_wsTake | (fail_if_no_progress with_reducible apply Quiet.upd) | with_reducible apply Quiet.ite | with_reducible apply Quiet.ite1 | (with_reducible apply Quiet.foldl; intro s₁ x₁; have h₁ : Quiet s₁ s₁ := Quiet.refl s₁; try dsimp +zetaDelta only) | (with_reducible apply Quiet.foldl1; intro s₁ x₁; have h₁ : Quiet s₁.1 s₁.1 := Quiet.refl s₁.1; try dsimp +zetaDelta only) | extract_lets | split | dsimp +zetaDelta only)

theorem quiet_giveHandle {a₀ s₀ : State} (h₀ : Quiet a₀ s₀) {h : Nat} {t : Nat} {c : HeldCmp} :
    Quiet a₀ (giveHandle s₀ h t c) := by
  unfold giveHandle
  try extract_lets
  repeat' (first | with_reducible assumption | with_reducible apply quiet_sendCmp | (fail_if_no_progress with_reducible apply Quiet.upd) | with_reducible apply Quiet.ite | with_reducible apply Quiet.ite1 | (with_reducible apply Quiet.foldl; intro s₁ x₁; have h₁ : Quiet s₁ s₁ := Quiet.refl s₁; try dsimp +zetaDelta only) | (with_reducible apply Quiet.foldl1; intro s₁ x₁; have h₁ : Quiet s₁.1 s₁.1 := Quiet.refl s₁.1; try dsimp +zetaDelta only) | extract_lets | split | dsimp +zetaDelta only)

theorem quiet_takeHandle {a₀ s₀ : State} (h₀ : Quiet a₀ s₀) {t : Nat} {c : HeldCmp} :
    Quiet a₀ (takeHandle s₀ t c) := by
  unfold takeHandle
  try extract_lets
  repeat' (first | with_reducible assumption | with_reducible apply quiet_giveHandle | (fail_if_no_progress with_reducible apply Quiet.upd) | with_reducible apply Quiet.ite | with_reducible apply Quiet.ite1 | (with_reducible apply Quiet.foldl; intro s₁ x₁; have h₁ : Quiet s₁ s₁ := Quiet.refl s₁; try dsimp +zetaDelta only) | (with_reducible apply Quiet.foldl1; intro s₁ x₁; have h₁ : Quiet s₁.1 s₁.1 := Quiet.refl s₁.1; try dsimp +zetaDelta only) | extract_lets | split | dsimp +zetaDelta only)

theorem quiet_freeHandle {a₀ s₀ : State} (h₀ : Quiet a₀ s₀) {h : Nat} :
    Quiet a₀ (freeHandle s₀ h) := by
  unfold freeHandle
  try extract_lets
  repeat' (first | with_reducible assumption | with_reducible apply quiet_takeHandle | (fail_if_no_progress with_reducible apply Quiet.upd) | with_reducible apply Quiet.ite | with_reducible apply Quiet.ite1 | (with_reducible apply Quiet.foldl; intro s₁ x₁; have h₁ : Quiet s₁ s₁ := Quiet.refl s₁; try dsimp +zetaDelta only) | (with_reducible apply Quiet.foldl1; intro s₁ x₁; have h₁ : Quiet s₁.1 s₁.1 := Quiet.refl s₁.1; try dsimp +zetaDelta only) | extract_lets | split | dsimp +zetaDelta only)

theorem quiet_takeResend {a₀ s₀ : State} (h₀ : Quiet a₀ s₀) {w : Nat} {o : Opc} {q : Sys2Proof.Req} {h : Handle} {origin : Origin} :
    Quiet a₀ (takeResend s₀ w o q h origin) := by
  unfold takeResend
  try extract_lets
  repeat' (first | with_reducible assumption | with_reducible refine quiet_payEntry_eq (by assumption) ?_ | with_reducible apply quiet_afterAdmit | with_reducible apply quiet_freeHandle | with_reducible apply quiet_payEntry | with_reducible apply quiet_wsTake | (fail_if_no_progress with_reducible apply Quiet.upd) | with_reducible apply Quiet.ite | with_reducible apply Quiet.ite1 | (with_reducible apply Quiet.foldl; intro s₁ x₁; have h₁ : Quiet s₁ s₁ := Quiet.refl s₁; try dsimp +zetaDelta only) | (with_reducible apply Quiet.foldl1; intro s₁ x₁; have h₁ : Quiet s₁.1 s₁.1 := Quiet.refl s₁.1; try dsimp +zetaDelta only) | extract_lets | split | dsimp +zetaDelta only)

end Sys2Proof.Machine
end

