-- ==== Sys2Proof/Laws/QuietX1.lean ====
section
/-! SUPPORT. What `Quiet` says of each operation, in the order of the callees. -/

namespace Sys2Proof.Machine
set_option linter.all false

theorem quiet_decideReq {a₀ s₀ : State} (h₀ : Quiet a₀ s₀) {w : Nat} {o : Opc} {q : Sys2Proof.Req} {origin : Origin} :
    Quiet a₀ (decideReq s₀ w o q origin) := by
  unfold decideReq
  try extract_lets
  repeat' (first | with_reducible assumption | with_reducible apply quiet_State_bump | with_reducible apply quiet_State_note | with_reducible apply quiet_refuseReq | with_reducible apply quiet_takeReq | with_reducible apply quiet_takeResend | (fail_if_no_progress with_reducible apply Quiet.upd) | with_reducible apply Quiet.ite | with_reducible apply Quiet.ite1 | (with_reducible apply Quiet.foldl; intro s₁ x₁; have h₁ : Quiet s₁ s₁ := Quiet.refl s₁; try dsimp +zetaDelta only) | (with_reducible apply Quiet.foldl1; intro s₁ x₁; have h₁ : Quiet s₁.1 s₁.1 := Quiet.refl s₁.1; try dsimp +zetaDelta only) | extract_lets | split | dsimp +zetaDelta only)

theorem quiet_leaveHold {a₀ s₀ : State} (h₀ : Quiet a₀ s₀) {cause : Nat} :
    Quiet a₀ (leaveHold s₀ cause) := by
  unfold leaveHold
  try extract_lets
  repeat' (first | with_reducible assumption | with_reducible apply quiet_State_modPower | with_reducible apply quiet_askMargin | (fail_if_no_progress with_reducible apply Quiet.upd) | with_reducible apply Quiet.ite | with_reducible apply Quiet.ite1 | (with_reducible apply Quiet.foldl; intro s₁ x₁; have h₁ : Quiet s₁ s₁ := Quiet.refl s₁; try dsimp +zetaDelta only) | (with_reducible apply Quiet.foldl1; intro s₁ x₁; have h₁ : Quiet s₁.1 s₁.1 := Quiet.refl s₁.1; try dsimp +zetaDelta only) | extract_lets | split | dsimp +zetaDelta only)

theorem quiet_deferTo {a₀ s₀ : State} (h₀ : Quiet a₀ s₀) {cause : Nat} {c : Sys2Proof.Instr} :
    Quiet a₀ (deferTo s₀ cause c) := by
  unfold deferTo
  try extract_lets
  repeat' (first | with_reducible assumption | with_reducible apply quiet_State_modPower | with_reducible apply quiet_leaveHold | (fail_if_no_progress with_reducible apply Quiet.upd) | with_reducible apply Quiet.ite | with_reducible apply Quiet.ite1 | (with_reducible apply Quiet.foldl; intro s₁ x₁; have h₁ : Quiet s₁ s₁ := Quiet.refl s₁; try dsimp +zetaDelta only) | (with_reducible apply Quiet.foldl1; intro s₁ x₁; have h₁ : Quiet s₁.1 s₁.1 := Quiet.refl s₁.1; try dsimp +zetaDelta only) | extract_lets | split | dsimp +zetaDelta only)

theorem quiet_discardMsg {a₀ s₀ : State} (h₀ : Quiet a₀ s₀) {w : Nat} {aid : Sys2Proof.Aid} {inc : Sys2Proof.Inc} {late : Ctr} :
    ∀ t₀, (discardMsg s₀ w aid inc late) = some t₀ → Quiet a₀ t₀ := by
  intro t₀ e₀
  unfold discardMsg at e₀
  try dsimp only at e₀
  repeat' (split at e₀)
  all_goals first | (simp only [Option.some.injEq, reduceCtorEq] at e₀; done) | (simp only [Option.some.injEq] at e₀; subst e₀)
  all_goals repeat' (first | with_reducible assumption | with_reducible apply quiet_State_bump | with_reducible apply quiet_State_note | (fail_if_no_progress with_reducible apply Quiet.upd) | with_reducible apply Quiet.ite | with_reducible apply Quiet.ite1 | (with_reducible apply Quiet.foldl; intro s₁ x₁; have h₁ : Quiet s₁ s₁ := Quiet.refl s₁; try dsimp +zetaDelta only) | (with_reducible apply Quiet.foldl1; intro s₁ x₁; have h₁ : Quiet s₁.1 s₁.1 := Quiet.refl s₁.1; try dsimp +zetaDelta only) | extract_lets | split | dsimp +zetaDelta only)

theorem quiet_discardMsg_eq {a₀ s₀ u₀ : State} {w : Nat} {aid : Sys2Proof.Aid} {inc : Sys2Proof.Inc} {late : Ctr} (e₀ : discardMsg s₀ w aid inc late = some u₀) (h₀ : Quiet a₀ s₀) : Quiet a₀ u₀ :=
  quiet_discardMsg h₀ u₀ e₀

theorem quiet_failHalf {a₀ s₀ : State} (h₀ : Quiet a₀ s₀) {l : Nat} {half : Nat} :
    Quiet a₀ (failHalf s₀ l half) := by
  unfold failHalf
  try extract_lets
  repeat' (first | with_reducible assumption | with_reducible apply quiet_State_emitAs | with_reducible apply quiet_State_modLink | (fail_if_no_progress with_reducible apply Quiet.upd) | with_reducible apply Quiet.ite | with_reducible apply Quiet.ite1 | (with_reducible apply Quiet.foldl; intro s₁ x₁; have h₁ : Quiet s₁ s₁ := Quiet.refl s₁; try dsimp +zetaDelta only) | (with_reducible apply Quiet.foldl1; intro s₁ x₁; have h₁ : Quiet s₁.1 s₁.1 := Quiet.refl s₁.1; try dsimp +zetaDelta only) | extract_lets | split | dsimp +zetaDelta only)

theorem quiet_firstFault {a₀ s₀ : State} (h₀ : Quiet a₀ s₀) {r : JRec} :
    Quiet a₀ (firstFault s₀ r) := by
  unfold firstFault
  try extract_lets
  repeat' (first | with_reducible assumption | with_reducible apply quiet_State_bump | (fail_if_no_progress with_reducible apply Quiet.upd) | with_reducible apply Quiet.ite | with_reducible apply Quiet.ite1 | (with_reducible apply Quiet.foldl; intro s₁ x₁; have h₁ : Quiet s₁ s₁ := Quiet.refl s₁; try dsimp +zetaDelta only) | (with_reducible apply Quiet.foldl1; intro s₁ x₁; have h₁ : Quiet s₁.1 s₁.1 := Quiet.refl s₁.1; try dsimp +zetaDelta only) | extract_lets | split | dsimp +zetaDelta only)

theorem quiet_forecloseSnoop {a₀ s₀ : State} (h₀ : Quiet a₀ s₀) {w : Nat} {t : Nat} {f : Nat} {a : Sys2Proof.Aid} {l : Sys2Proof.Line} {lines : List Nat} :
    Quiet a₀ (forecloseSnoop s₀ w t f a l lines) := by
  unfold forecloseSnoop
  try extract_lets
  repeat' (first | with_reducible assumption | with_reducible apply quiet_State_sendW | (fail_if_no_progress with_reducible apply Quiet.upd) | with_reducible apply Quiet.ite | with_reducible apply Quiet.ite1 | (with_reducible apply Quiet.foldl; intro s₁ x₁; have h₁ : Quiet s₁ s₁ := Quiet.refl s₁; try dsimp +zetaDelta only) | (with_reducible apply Quiet.foldl1; intro s₁ x₁; have h₁ : Quiet s₁.1 s₁.1 := Quiet.refl s₁.1; try dsimp +zetaDelta only) | extract_lets | split | dsimp +zetaDelta only)

theorem quiet_poisonOnLink {a₀ s₀ : State} (h₀ : Quiet a₀ s₀) {l : Nat} :
    Quiet a₀ (poisonOnLink s₀ l) := by
  unfold poisonOnLink
  try extract_lets
  repeat' (first | with_reducible assumption | (fail_if_no_progress with_reducible apply Quiet.upd) | with_reducible apply Quiet.ite | with_reducible apply Quiet.ite1 | (with_reducible apply Quiet.foldl; intro s₁ x₁; have h₁ : Quiet s₁ s₁ := Quiet.refl s₁; try dsimp +zetaDelta only) | (with_reducible apply Quiet.foldl1; intro s₁ x₁; have h₁ : Quiet s₁.1 s₁.1 := Quiet.refl s₁.1; try dsimp +zetaDelta only) | extract_lets | split | dsimp +zetaDelta only)

theorem quiet_linkError {a₀ s₀ : State} (h₀ : Quiet a₀ s₀) {l : Nat} {half : Nat} {e : Sys2Proof.LinkEvent} :
    Quiet a₀ (linkError s₀ l half e) := by
  unfold linkError
  try extract_lets
  repeat' (first | with_reducible assumption | with_reducible apply quiet_State_bump | with_reducible apply quiet_State_emitAs | with_reducible apply quiet_State_modLink | with_reducible apply quiet_failHalf | with_reducible apply quiet_poisonOnLink | (fail_if_no_progress with_reducible apply Quiet.upd) | with_reducible apply Quiet.ite | with_reducible apply Quiet.ite1 | (with_reducible apply Quiet.foldl; intro s₁ x₁; have h₁ : Quiet s₁ s₁ := Quiet.refl s₁; try dsimp +zetaDelta only) | (with_reducible apply Quiet.foldl1; intro s₁ x₁; have h₁ : Quiet s₁.1 s₁.1 := Quiet.refl s₁.1; try dsimp +zetaDelta only) | extract_lets | split | dsimp +zetaDelta only)

theorem quiet_pumpHeld {a₀ s₀ : State} (h₀ : Quiet a₀ s₀) {x0 : Nat} {x2 : Nat} :
    Quiet a₀ (pumpHeld x0 s₀ x2) := by
  induction x0 generalizing s₀ with
  | zero => unfold pumpHeld; exact h₀
  | succ n ih =>
    unfold pumpHeld
    try extract_lets
    repeat' (first | with_reducible assumption | with_reducible apply ih | with_reducible refine quiet_wsServe_eq (by assumption) ?_ | with_reducible apply quiet_State_modWicket | with_reducible apply quiet_appendAdm | with_reducible apply quiet_regrantAll | (fail_if_no_progress with_reducible apply Quiet.upd) | with_reducible apply Quiet.ite | with_reducible apply Quiet.ite1 | (with_reducible apply Quiet.foldl; intro s₁ x₁; have h₁ : Quiet s₁ s₁ := Quiet.refl s₁; try dsimp +zetaDelta only) | (with_reducible apply Quiet.foldl1; intro s₁ x₁; have h₁ : Quiet s₁.1 s₁.1 := Quiet.refl s₁.1; try dsimp +zetaDelta only) | extract_lets | split | dsimp +zetaDelta only)

theorem quiet_pumpAll {a₀ s₀ : State} (h₀ : Quiet a₀ s₀)  :
    Quiet a₀ (pumpAll s₀) := by
  unfold pumpAll
  try extract_lets
  repeat' (first | with_reducible assumption | with_reducible apply quiet_pumpHeld | (fail_if_no_progress with_reducible apply Quiet.upd) | with_reducible apply Quiet.ite | with_reducible apply Quiet.ite1 | (with_reducible apply Quiet.foldl; intro s₁ x₁; have h₁ : Quiet s₁ s₁ := Quiet.refl s₁; try dsimp +zetaDelta only) | (with_reducible apply Quiet.foldl1; intro s₁ x₁; have h₁ : Quiet s₁.1 s₁.1 := Quiet.refl s₁.1; try dsimp +zetaDelta only) | extract_lets | split | dsimp +zetaDelta only)

theorem quiet_receiveRec {a₀ s₀ : State} (h₀ : Quiet a₀ s₀) {r : JRec} :
    Quiet a₀ (receiveRec s₀ r) := by
  unfold receiveRec
  try extract_lets
  repeat' (first | with_reducible assumption | with_reducible apply quiet_alarmArrives | with_reducible apply quiet_firstFault | with_reducible apply quiet_offer | (fail_if_no_progress with_reducible apply Quiet.upd) | with_reducible apply Quiet.ite | with_reducible apply Quiet.ite1 | (with_reducible apply Quiet.foldl; intro s₁ x₁; have h₁ : Quiet s₁ s₁ := Quiet.refl s₁; try dsimp +zetaDelta only) | (with_reducible apply Quiet.foldl1; intro s₁ x₁; have h₁ : Quiet s₁.1 s₁.1 := Quiet.refl s₁.1; try dsimp +zetaDelta only) | extract_lets | split | dsimp +zetaDelta only)

theorem quiet_request {a₀ s₀ : State} (h₀ : Quiet a₀ s₀) {c : Sys2Proof.Instr} {w : Nat} {o : Opc} {q : Sys2Proof.Req} :
    Quiet a₀ (request c w o q s₀) := by
  unfold request
  try extract_lets
  repeat' (first | with_reducible assumption | with_reducible refine quiet_discardMsg_eq (by assumption) ?_ | with_reducible apply quiet_State_atPort | with_reducible apply quiet_decideReq | with_reducible apply quiet_deferTo | (fail_if_no_progress with_reducible apply Quiet.upd) | with_reducible apply Quiet.ite | with_reducible apply Quiet.ite1 | (with_reducible apply Quiet.foldl; intro s₁ x₁; have h₁ : Quiet s₁ s₁ := Quiet.refl s₁; try dsimp +zetaDelta only) | (with_reducible apply Quiet.foldl1; intro s₁ x₁; have h₁ : Quiet s₁.1 s₁.1 := Quiet.refl s₁.1; try dsimp +zetaDelta only) | extract_lets | split | dsimp +zetaDelta only)

theorem quiet_resetPointers {a₀ s₀ : State} (h₀ : Quiet a₀ s₀) {k : Nat} :
    Quiet a₀ (resetPointers s₀ k) := by
  unfold resetPointers
  try extract_lets
  repeat' (first | with_reducible assumption | with_reducible apply quiet_State_bump | with_reducible apply quiet_State_bumpBy | with_reducible apply quiet_State_modStream | with_reducible apply quiet_receiveRec | (fail_if_no_progress with_reducible apply Quiet.upd) | with_reducible apply Quiet.ite | with_reducible apply Quiet.ite1 | (with_reducible apply Quiet.foldl; intro s₁ x₁; have h₁ : Quiet s₁ s₁ := Quiet.refl s₁; try dsimp +zetaDelta only) | (with_reducible apply Quiet.foldl1; intro s₁ x₁; have h₁ : Quiet s₁.1 s₁.1 := Quiet.refl s₁.1; try dsimp +zetaDelta only) | extract_lets | split | dsimp +zetaDelta only)

theorem quiet_retarget {a₀ s₀ : State} (h₀ : Quiet a₀ s₀) {w : Nat} :
    Quiet a₀ (retarget s₀ w) := by
  unfold retarget
  try extract_lets
  repeat' (first | with_reducible assumption | with_reducible apply quiet_State_modWicket | (fail_if_no_progress with_reducible apply Quiet.upd) | with_reducible apply Quiet.ite | with_reducible apply Quiet.ite1 | (with_reducible apply Quiet.foldl; intro s₁ x₁; have h₁ : Quiet s₁ s₁ := Quiet.refl s₁; try dsimp +zetaDelta only) | (with_reducible apply Quiet.foldl1; intro s₁ x₁; have h₁ : Quiet s₁.1 s₁.1 := Quiet.refl s₁.1; try dsimp +zetaDelta only) | extract_lets | split | dsimp +zetaDelta only)

theorem quiet_returnLoan {a₀ s₀ : State} (h₀ : Quiet a₀ s₀) {w : Nat} {t : Nat} :
    Quiet a₀ (returnLoan s₀ w t) := by
  unfold returnLoan
  try extract_lets
  repeat' (first | with_reducible assumption | with_reducible apply quiet_State_modTill | with_reducible apply quiet_State_modWicket | with_reducible apply quiet_State_packet | (fail_if_no_progress with_reducible apply Quiet.upd) | with_reducible apply Quiet.ite | with_reducible apply Quiet.ite1 | (with_reducible apply Quiet.foldl; intro s₁ x₁; have h₁ : Quiet s₁ s₁ := Quiet.refl s₁; try dsimp +zetaDelta only) | (with_reducible apply Quiet.foldl1; intro s₁ x₁; have h₁ : Quiet s₁.1 s₁.1 := Quiet.refl s₁.1; try dsimp +zetaDelta only) | extract_lets | split | dsimp +zetaDelta only)

theorem quiet_setRoute {a₀ s₀ : State} (h₀ : Quiet a₀ s₀) {src : Nat} {j : Nat} {v : Nat} :
    Quiet a₀ (setRoute s₀ src j v) := by
  unfold setRoute
  try extract_lets
  repeat' (first | with_reducible assumption | (fail_if_no_progress with_reducible apply Quiet.upd) | with_reducible apply Quiet.ite | with_reducible apply Quiet.ite1 | (with_reducible apply Quiet.foldl; intro s₁ x₁; have h₁ : Quiet s₁ s₁ := Quiet.refl s₁; try dsimp +zetaDelta only) | (with_reducible apply Quiet.foldl1; intro s₁ x₁; have h₁ : Quiet s₁.1 s₁.1 := Quiet.refl s₁.1; try dsimp +zetaDelta only) | extract_lets | split | dsimp +zetaDelta only)

theorem quiet_routeAck {a₀ s₀ : State} (h₀ : Quiet a₀ s₀) {src : Nat} {dst : Nat} {cls : Nat} :
    Quiet a₀ (routeAck s₀ src dst cls) := by
  unfold routeAck
  try extract_lets
  repeat' (first | with_reducible assumption | with_reducible apply quiet_State_bump | with_reducible apply quiet_State_modStep | with_reducible apply quiet_State_setRawN | with_reducible apply quiet_setRoute | (fail_if_no_progress with_reducible apply Quiet.upd) | with_reducible apply Quiet.ite | with_reducible apply Quiet.ite1 | (with_reducible apply Quiet.foldl; intro s₁ x₁; have h₁ : Quiet s₁ s₁ := Quiet.refl s₁; try dsimp +zetaDelta only) | (with_reducible apply Quiet.foldl1; intro s₁ x₁; have h₁ : Quiet s₁.1 s₁.1 := Quiet.refl s₁.1; try dsimp +zetaDelta only) | extract_lets | split | dsimp +zetaDelta only)

theorem quiet_sendMarks {a₀ s₀ : State} (h₀ : Quiet a₀ s₀) {w : Nat} :
    Quiet a₀ (sendMarks s₀ w) := by
  unfold sendMarks
  try extract_lets
  repeat' (first | with_reducible assumption | with_reducible apply quiet_State_modWicket | with_reducible apply quiet_State_packet | with_reducible apply quiet_State_sendW | (fail_if_no_progress with_reducible apply Quiet.upd) | with_reducible apply Quiet.ite | with_reducible apply Quiet.ite1 | (with_reducible apply Quiet.foldl; intro s₁ x₁; have h₁ : Quiet s₁ s₁ := Quiet.refl s₁; try dsimp +zetaDelta only) | (with_reducible apply Quiet.foldl1; intro s₁ x₁; have h₁ : Quiet s₁.1 s₁.1 := Quiet.refl s₁.1; try dsimp +zetaDelta only) | extract_lets | split | dsimp +zetaDelta only)

theorem quiet_serveLoans {a₀ s₀ : State} (h₀ : Quiet a₀ s₀) {t : Nat} :
    Quiet a₀ (serveLoans s₀ t) := by
  unfold serveLoans
  try extract_lets
  repeat' (first | with_reducible assumption | with_reducible apply quiet_State_modTill | with_reducible apply quiet_State_sendP | (fail_if_no_progress with_reducible apply Quiet.upd) | with_reducible apply Quiet.ite | with_reducible apply Quiet.ite1 | (with_reducible apply Quiet.foldl; intro s₁ x₁; have h₁ : Quiet s₁ s₁ := Quiet.refl s₁; try dsimp +zetaDelta only) | (with_reducible apply Quiet.foldl1; intro s₁ x₁; have h₁ : Quiet s₁.1 s₁.1 := Quiet.refl s₁.1; try dsimp +zetaDelta only) | extract_lets | split | dsimp +zetaDelta only)

theorem quiet_setQuiesce {a₀ s₀ : State} (h₀ : Quiet a₀ s₀) {v : Nat} :
    Quiet a₀ (setQuiesce s₀ v) := by
  unfold setQuiesce
  try extract_lets
  repeat' (first | with_reducible assumption | (fail_if_no_progress with_reducible apply Quiet.upd) | with_reducible apply Quiet.ite | with_reducible apply Quiet.ite1 | (with_reducible apply Quiet.foldl; intro s₁ x₁; have h₁ : Quiet s₁ s₁ := Quiet.refl s₁; try dsimp +zetaDelta only) | (with_reducible apply Quiet.foldl1; intro s₁ x₁; have h₁ : Quiet s₁.1 s₁.1 := Quiet.refl s₁.1; try dsimp +zetaDelta only) | extract_lets | split | dsimp +zetaDelta only)

theorem quiet_sweepWindow {a₀ s₀ : State} (h₀ : Quiet a₀ s₀)  :
    Quiet a₀ (sweepWindow s₀) := by
  unfold sweepWindow
  try extract_lets
  repeat' (first | with_reducible assumption | with_reducible apply quiet_State_bump | (fail_if_no_progress with_reducible apply Quiet.upd) | with_reducible apply Quiet.ite | with_reducible apply Quiet.ite1 | (with_reducible apply Quiet.foldl; intro s₁ x₁; have h₁ : Quiet s₁ s₁ := Quiet.refl s₁; try dsimp +zetaDelta only) | (with_reducible apply Quiet.foldl1; intro s₁ x₁; have h₁ : Quiet s₁.1 s₁.1 := Quiet.refl s₁.1; try dsimp +zetaDelta only) | extract_lets | split | dsimp +zetaDelta only)

theorem quiet_takeRec {a₀ s₀ : State} (h₀ : Quiet a₀ s₀)  :
    Quiet a₀ (takeRec s₀) := by
  unfold takeRec
  try extract_lets
  repeat' (first | with_reducible assumption | with_reducible apply quiet_receiveRec | (fail_if_no_progress with_reducible apply Quiet.upd) | with_reducible apply Quiet.ite | with_reducible apply Quiet.ite1 | (with_reducible apply Quiet.foldl; intro s₁ x₁; have h₁ : Quiet s₁ s₁ := Quiet.refl s₁; try dsimp +zetaDelta only) | (with_reducible apply Quiet.foldl1; intro s₁ x₁; have h₁ : Quiet s₁.1 s₁.1 := Quiet.refl s₁.1; try dsimp +zetaDelta only) | extract_lets | split | dsimp +zetaDelta only)

theorem quiet_takeSample {a₀ s₀ : State} (h₀ : Quiet a₀ s₀) {latency : Nat} {full : Bool} :
    Quiet a₀ (takeSample s₀ latency full) := by
  unfold takeSample
  try extract_lets
  repeat' (first | with_reducible assumption | with_reducible apply quiet_State_bump | with_reducible apply quiet_State_gev | with_reducible apply quiet_State_modChan | (fail_if_no_progress with_reducible apply Quiet.upd) | with_reducible apply Quiet.ite | with_reducible apply Quiet.ite1 | (with_reducible apply Quiet.foldl; intro s₁ x₁; have h₁ : Quiet s₁ s₁ := Quiet.refl s₁; try dsimp +zetaDelta only) | (with_reducible apply Quiet.foldl1; intro s₁ x₁; have h₁ : Quiet s₁.1 s₁.1 := Quiet.refl s₁.1; try dsimp +zetaDelta only) | extract_lets | split | dsimp +zetaDelta only)

theorem quiet_takeSids {a₀ s₀ : State} (h₀ : Quiet a₀ s₀) {x0 : Nat} {x2 : Nat} :
    Quiet a₀ (takeSids x0 s₀ x2) := by
  induction x0 generalizing s₀ with
  | zero => exact h₀
  | succ n ih =>
    unfold takeSids
    split
    · extract_lets
      apply ih
      repeat' (first | with_reducible assumption | with_reducible apply quiet_State_send | with_reducible apply quiet_State_modWicket | with_reducible apply Quiet.ite)
    · exact h₀

theorem quiet_writeEnded {a₀ s₀ : State} (h₀ : Quiet a₀ s₀) {a : Nat} {e : Nat} {o : Outc} :
    Quiet a₀ (writeEnded s₀ a e o) := by
  unfold writeEnded
  try extract_lets
  repeat' (first | with_reducible assumption | with_reducible apply quiet_checkSettles | with_reducible apply quiet_noteOutcome | with_reducible apply quiet_pumpAll | (fail_if_no_progress with_reducible apply Quiet.upd) | with_reducible apply Quiet.ite | with_reducible apply Quiet.ite1 | (with_reducible apply Quiet.foldl; intro s₁ x₁; have h₁ : Quiet s₁ s₁ := Quiet.refl s₁; try dsimp +zetaDelta only) | (with_reducible apply Quiet.foldl1; intro s₁ x₁; have h₁ : Quiet s₁.1 s₁.1 := Quiet.refl s₁.1; try dsimp +zetaDelta only) | extract_lets | split | dsimp +zetaDelta only)

end Sys2Proof.Machine
end

