-- ==== Sys2Proof/Laws/QuietE.lean ====
section
/-! SUPPORT. What `Quiet` says of each meaning that answers a next state. -/

namespace Sys2Proof.Machine
set_option linter.all false

theorem quiet_requestCmd {s₀ : State} {c : Sys2Proof.Instr} {w : Nat} {o : Sys2Proof.Machine.Opc} {q : Sys2Proof.Req} : QuietNext (requestCmd c w o q s₀) s₀ := by
  have h₀ : Quiet s₀ s₀ := Quiet.refl s₀
  unfold requestCmd
  try extract_lets
  repeat' (first | with_reducible apply QuietNext.next | with_reducible apply QuietNext.fault | with_reducible apply QuietNext.ite | with_reducible assumption | with_reducible apply quiet_request | (fail_if_no_progress with_reducible apply Quiet.upd) | with_reducible apply Quiet.ite | with_reducible apply Quiet.ite1 | (with_reducible apply Quiet.foldl; intro s₁ x₁; have h₁ : Quiet s₁ s₁ := Quiet.refl s₁; try dsimp +zetaDelta only) | (with_reducible apply Quiet.foldl1; intro s₁ x₁; have h₁ : Quiet s₁.1 s₁.1 := Quiet.refl s₁.1; try dsimp +zetaDelta only) | extract_lets | split | dsimp +zetaDelta only)

theorem quiet_execAgeHours {s₀ : State}  : QuietNext (execAgeHours s₀) s₀ := by
  have h₀ : Quiet s₀ s₀ := Quiet.refl s₀
  unfold execAgeHours
  try extract_lets
  repeat' (first | with_reducible apply QuietNext.next | with_reducible apply QuietNext.fault | with_reducible apply QuietNext.ite | with_reducible assumption | (fail_if_no_progress with_reducible apply Quiet.upd) | with_reducible apply Quiet.ite | with_reducible apply Quiet.ite1 | (with_reducible apply Quiet.foldl; intro s₁ x₁; have h₁ : Quiet s₁ s₁ := Quiet.refl s₁; try dsimp +zetaDelta only) | (with_reducible apply Quiet.foldl1; intro s₁ x₁; have h₁ : Quiet s₁.1 s₁.1 := Quiet.refl s₁.1; try dsimp +zetaDelta only) | extract_lets | split | dsimp +zetaDelta only)

theorem quiet_execAlarmWindow {s₀ : State}  : QuietNext (execAlarmWindow s₀) s₀ := by
  have h₀ : Quiet s₀ s₀ := Quiet.refl s₀
  unfold execAlarmWindow
  try extract_lets
  repeat' (first | with_reducible apply QuietNext.next | with_reducible apply QuietNext.fault | with_reducible apply QuietNext.ite | with_reducible assumption | with_reducible apply quiet_alarmPeriod | (fail_if_no_progress with_reducible apply Quiet.upd) | with_reducible apply Quiet.ite | with_reducible apply Quiet.ite1 | (with_reducible apply Quiet.foldl; intro s₁ x₁; have h₁ : Quiet s₁ s₁ := Quiet.refl s₁; try dsimp +zetaDelta only) | (with_reducible apply Quiet.foldl1; intro s₁ x₁; have h₁ : Quiet s₁.1 s₁.1 := Quiet.refl s₁.1; try dsimp +zetaDelta only) | extract_lets | split | dsimp +zetaDelta only)

theorem quiet_execAssayBaseline {s₀ : State} {m : Sys2Proof.Measure} {mhz : Nat} {acked : Bool} : QuietNext (execAssayBaseline m mhz acked s₀) s₀ := by
  have h₀ : Quiet s₀ s₀ := Quiet.refl s₀
  unfold execAssayBaseline
  try extract_lets
  repeat' (first | with_reducible apply QuietNext.next | with_reducible apply QuietNext.fault | with_reducible apply QuietNext.ite | with_reducible assumption | with_reducible apply quiet_baseline | (fail_if_no_progress with_reducible apply Quiet.upd) | with_reducible apply Quiet.ite | with_reducible apply Quiet.ite1 | (with_reducible apply Quiet.foldl; intro s₁ x₁; have h₁ : Quiet s₁ s₁ := Quiet.refl s₁; try dsimp +zetaDelta only) | (with_reducible apply Quiet.foldl1; intro s₁ x₁; have h₁ : Quiet s₁.1 s₁.1 := Quiet.refl s₁.1; try dsimp +zetaDelta only) | extract_lets | split | dsimp +zetaDelta only)

theorem quiet_execBankArbitration {s₀ : State} {t : Nat} {bank : Nat} {dt : Nat} {raised : BitVec 4} {lockStart : Bool} {lockEnd : Bool} : QuietNext (execBankArbitration t bank dt raised lockStart lockEnd s₀) s₀ := by
  have h₀ : Quiet s₀ s₀ := Quiet.refl s₀
  unfold execBankArbitration
  try extract_lets
  repeat' (first | with_reducible apply QuietNext.next | with_reducible apply QuietNext.fault | with_reducible apply QuietNext.ite | with_reducible assumption | with_reducible apply quiet_advance | with_reducible apply quiet_arbitrate | (fail_if_no_progress with_reducible apply Quiet.upd) | with_reducible apply Quiet.ite | with_reducible apply Quiet.ite1 | (with_reducible apply Quiet.foldl; intro s₁ x₁; have h₁ : Quiet s₁ s₁ := Quiet.refl s₁; try dsimp +zetaDelta only) | (with_reducible apply Quiet.foldl1; intro s₁ x₁; have h₁ : Quiet s₁.1 s₁.1 := Quiet.refl s₁.1; try dsimp +zetaDelta only) | extract_lets | split | dsimp +zetaDelta only)

theorem quiet_execBankWatchdog {s₀ : State} {t : Nat} {bank : Nat} : QuietNext (execBankWatchdog t bank s₀) s₀ := by
  have h₀ : Quiet s₀ s₀ := Quiet.refl s₀
  unfold execBankWatchdog
  try extract_lets
  repeat' (first | with_reducible apply QuietNext.next | with_reducible apply QuietNext.fault | with_reducible apply QuietNext.ite | with_reducible assumption | with_reducible apply quiet_State_modTill | with_reducible apply quiet_State_note | with_reducible apply quiet_State_setRawN | (fail_if_no_progress with_reducible apply Quiet.upd) | with_reducible apply Quiet.ite | with_reducible apply Quiet.ite1 | (with_reducible apply Quiet.foldl; intro s₁ x₁; have h₁ : Quiet s₁ s₁ := Quiet.refl s₁; try dsimp +zetaDelta only) | (with_reducible apply Quiet.foldl1; intro s₁ x₁; have h₁ : Quiet s₁.1 s₁.1 := Quiet.refl s₁.1; try dsimp +zetaDelta only) | extract_lets | split | dsimp +zetaDelta only)

theorem quiet_execChstatChange {s₀ : State} {m : Nat} {level : BitVec 16} : QuietNext (execChstatChange m level s₀) s₀ := by
  have h₀ : Quiet s₀ s₀ := Quiet.refl s₀
  unfold execChstatChange
  try extract_lets
  repeat' (first | with_reducible apply QuietNext.next | with_reducible apply QuietNext.fault | with_reducible apply QuietNext.ite | with_reducible assumption | (fail_if_no_progress with_reducible apply Quiet.upd) | with_reducible apply Quiet.ite | with_reducible apply Quiet.ite1 | (with_reducible apply Quiet.foldl; intro s₁ x₁; have h₁ : Quiet s₁ s₁ := Quiet.refl s₁; try dsimp +zetaDelta only) | (with_reducible apply Quiet.foldl1; intro s₁ x₁; have h₁ : Quiet s₁.1 s₁.1 := Quiet.refl s₁.1; try dsimp +zetaDelta only) | extract_lets | split | dsimp +zetaDelta only)

theorem quiet_execClaimS {s₀ : State} {w : Nat} {q : Sys2Proof.Req} : QuietNext (execClaimS w q s₀) s₀ := by
  have h₀ : Quiet s₀ s₀ := Quiet.refl s₀
  unfold execClaimS
  try extract_lets
  repeat' (first | with_reducible apply QuietNext.next | with_reducible apply QuietNext.fault | with_reducible apply QuietNext.ite | with_reducible assumption | with_reducible apply quiet_requestCmd | with_reducible apply quiet_requestCmd | (fail_if_no_progress with_reducible apply Quiet.upd) | with_reducible apply Quiet.ite | with_reducible apply Quiet.ite1 | (with_reducible apply Quiet.foldl; intro s₁ x₁; have h₁ : Quiet s₁ s₁ := Quiet.refl s₁; try dsimp +zetaDelta only) | (with_reducible apply Quiet.foldl1; intro s₁ x₁; have h₁ : Quiet s₁.1 s₁.1 := Quiet.refl s₁.1; try dsimp +zetaDelta only) | extract_lets | split | dsimp +zetaDelta only)

theorem quiet_execClaimX {s₀ : State} {w : Nat} {q : Sys2Proof.Req} : QuietNext (execClaimX w q s₀) s₀ := by
  have h₀ : Quiet s₀ s₀ := Quiet.refl s₀
  unfold execClaimX
  try extract_lets
  repeat' (first | with_reducible apply QuietNext.next | with_reducible apply QuietNext.fault | with_reducible apply QuietNext.ite | with_reducible assumption | with_reducible apply quiet_requestCmd | with_reducible apply quiet_requestCmd | (fail_if_no_progress with_reducible apply Quiet.upd) | with_reducible apply Quiet.ite | with_reducible apply Quiet.ite1 | (with_reducible apply Quiet.foldl; intro s₁ x₁; have h₁ : Quiet s₁ s₁ := Quiet.refl s₁; try dsimp +zetaDelta only) | (with_reducible apply Quiet.foldl1; intro s₁ x₁; have h₁ : Quiet s₁.1 s₁.1 := Quiet.refl s₁.1; try dsimp +zetaDelta only) | extract_lets | split | dsimp +zetaDelta only)

theorem quiet_execConflict {s₀ : State} {w : Nat} {q : Sys2Proof.Req} : QuietNext (execConflict w q s₀) s₀ := by
  have h₀ : Quiet s₀ s₀ := Quiet.refl s₀
  unfold execConflict
  try extract_lets
  repeat' (first | with_reducible apply QuietNext.next | with_reducible apply QuietNext.fault | with_reducible apply QuietNext.ite | with_reducible assumption | with_reducible apply quiet_requestCmd | with_reducible apply quiet_requestCmd | (fail_if_no_progress with_reducible apply Quiet.upd) | with_reducible apply Quiet.ite | with_reducible apply Quiet.ite1 | (with_reducible apply Quiet.foldl; intro s₁ x₁; have h₁ : Quiet s₁ s₁ := Quiet.refl s₁; try dsimp +zetaDelta only) | (with_reducible apply Quiet.foldl1; intro s₁ x₁; have h₁ : Quiet s₁.1 s₁.1 := Quiet.refl s₁.1; try dsimp +zetaDelta only) | extract_lets | split | dsimp +zetaDelta only)

theorem quiet_execCreditReturn {s₀ : State} {w : Nat} {t : Nat} : QuietNext (execCreditReturn w t s₀) s₀ := by
  have h₀ : Quiet s₀ s₀ := Quiet.refl s₀
  unfold execCreditReturn
  try extract_lets
  repeat' (first | with_reducible apply QuietNext.next | with_reducible apply QuietNext.fault | with_reducible apply QuietNext.ite | with_reducible assumption | with_reducible apply quiet_State_popP | with_reducible apply quiet_creditBack | with_reducible apply quiet_serveLoans | with_reducible apply quiet_writeEnded | (fail_if_no_progress with_reducible apply Quiet.upd) | with_reducible apply Quiet.ite | with_reducible apply Quiet.ite1 | (with_reducible apply Quiet.foldl; intro s₁ x₁; have h₁ : Quiet s₁ s₁ := Quiet.refl s₁; try dsimp +zetaDelta only) | (with_reducible apply Quiet.foldl1; intro s₁ x₁; have h₁ : Quiet s₁.1 s₁.1 := Quiet.refl s₁.1; try dsimp +zetaDelta only) | extract_lets | split | dsimp +zetaDelta only)

theorem quiet_execCwr {s₀ : State} {w : Nat} {q : Sys2Proof.Req} : QuietNext (execCwr w q s₀) s₀ := by
  have h₀ : Quiet s₀ s₀ := Quiet.refl s₀
  unfold execCwr
  try extract_lets
  repeat' (first | with_reducible apply QuietNext.next | with_reducible apply QuietNext.fault | with_reducible apply QuietNext.ite | with_reducible assumption | with_reducible apply quiet_requestCmd | with_reducible apply quiet_requestCmd | (fail_if_no_progress with_reducible apply Quiet.upd) | with_reducible apply Quiet.ite | with_reducible apply Quiet.ite1 | (with_reducible apply Quiet.foldl; intro s₁ x₁; have h₁ : Quiet s₁ s₁ := Quiet.refl s₁; try dsimp +zetaDelta only) | (with_reducible apply Quiet.foldl1; intro s₁ x₁; have h₁ : Quiet s₁.1 s₁.1 := Quiet.refl s₁.1; try dsimp +zetaDelta only) | extract_lets | split | dsimp +zetaDelta only)

theorem quiet_execDown {s₀ : State} {w : Nat} {q : Sys2Proof.Req} : QuietNext (execDown w q s₀) s₀ := by
  have h₀ : Quiet s₀ s₀ := Quiet.refl s₀
  unfold execDown
  try extract_lets
  repeat' (first | with_reducible apply QuietNext.next | with_reducible apply QuietNext.fault | with_reducible apply QuietNext.ite | with_reducible assumption | with_reducible apply quiet_requestCmd | with_reducible apply quiet_requestCmd | (fail_if_no_progress with_reducible apply Quiet.upd) | with_reducible apply Quiet.ite | with_reducible apply Quiet.ite1 | (with_reducible apply Quiet.foldl; intro s₁ x₁; have h₁ : Quiet s₁ s₁ := Quiet.refl s₁; try dsimp +zetaDelta only) | (with_reducible apply Quiet.foldl1; intro s₁ x₁; have h₁ : Quiet s₁.1 s₁.1 := Quiet.refl s₁.1; try dsimp +zetaDelta only) | extract_lets | split | dsimp +zetaDelta only)

theorem quiet_execDrop {s₀ : State} {w : Nat} {q : Sys2Proof.Req} : QuietNext (execDrop w q s₀) s₀ := by
  have h₀ : Quiet s₀ s₀ := Quiet.refl s₀
  unfold execDrop
  try extract_lets
  repeat' (first | with_reducible apply QuietNext.next | with_reducible apply QuietNext.fault | with_reducible apply QuietNext.ite | with_reducible assumption | with_reducible apply quiet_requestCmd | with_reducible apply quiet_requestCmd | (fail_if_no_progress with_reducible apply Quiet.upd) | with_reducible apply Quiet.ite | with_reducible apply Quiet.ite1 | (with_reducible apply Quiet.foldl; intro s₁ x₁; have h₁ : Quiet s₁ s₁ := Quiet.refl s₁; try dsimp +zetaDelta only) | (with_reducible apply Quiet.foldl1; intro s₁ x₁; have h₁ : Quiet s₁.1 s₁.1 := Quiet.refl s₁.1; try dsimp +zetaDelta only) | extract_lets | split | dsimp +zetaDelta only)

theorem quiet_execEvc {s₀ : State} {w : Nat} {q : Sys2Proof.Req} : QuietNext (execEvc w q s₀) s₀ := by
  have h₀ : Quiet s₀ s₀ := Quiet.refl s₀
  unfold execEvc
  try extract_lets
  repeat' (first | with_reducible apply QuietNext.next | with_reducible apply QuietNext.fault | with_reducible apply QuietNext.ite | with_reducible assumption | with_reducible apply quiet_requestCmd | with_reducible apply quiet_requestCmd | (fail_if_no_progress with_reducible apply Quiet.upd) | with_reducible apply Quiet.ite | with_reducible apply Quiet.ite1 | (with_reducible apply Quiet.foldl; intro s₁ x₁; have h₁ : Quiet s₁ s₁ := Quiet.refl s₁; try dsimp +zetaDelta only) | (with_reducible apply Quiet.foldl1; intro s₁ x₁; have h₁ : Quiet s₁.1 s₁.1 := Quiet.refl s₁.1; try dsimp +zetaDelta only) | extract_lets | split | dsimp +zetaDelta only)

theorem quiet_execHandover {s₀ : State} {w : Nat} {t : Nat} : QuietNext (execHandover w t s₀) s₀ := by
  have h₀ : Quiet s₀ s₀ := Quiet.refl s₀
  unfold execHandover
  try extract_lets
  repeat' (first | with_reducible apply QuietNext.next | with_reducible apply QuietNext.fault | with_reducible apply QuietNext.ite | with_reducible assumption | with_reducible apply quiet_State_modWicket | with_reducible apply quiet_State_popP | with_reducible apply quiet_State_sendW | with_reducible apply quiet_retarget | (fail_if_no_progress with_reducible apply Quiet.upd) | with_reducible apply Quiet.ite | with_reducible apply Quiet.ite1 | (with_reducible apply Quiet.foldl; intro s₁ x₁; have h₁ : Quiet s₁ s₁ := Quiet.refl s₁; try dsimp +zetaDelta only) | (with_reducible apply Quiet.foldl1; intro s₁ x₁; have h₁ : Quiet s₁.1 s₁.1 := Quiet.refl s₁.1; try dsimp +zetaDelta only) | extract_lets | split | dsimp +zetaDelta only)

theorem quiet_execHoldQuiesced {s₀ : State}  : QuietNext (execHoldQuiesced s₀) s₀ := by
  have h₀ : Quiet s₀ s₀ := Quiet.refl s₀
  unfold execHoldQuiesced
  try extract_lets
  repeat' (first | with_reducible apply QuietNext.next | with_reducible apply QuietNext.fault | with_reducible apply QuietNext.ite | with_reducible assumption | with_reducible apply quiet_askMargin | (fail_if_no_progress with_reducible apply Quiet.upd) | with_reducible apply Quiet.ite | with_reducible apply Quiet.ite1 | (with_reducible apply Quiet.foldl; intro s₁ x₁; have h₁ : Quiet s₁ s₁ := Quiet.refl s₁; try dsimp +zetaDelta only) | (with_reducible apply Quiet.foldl1; intro s₁ x₁; have h₁ : Quiet s₁.1 s₁.1 := Quiet.refl s₁.1; try dsimp +zetaDelta only) | extract_lets | split | dsimp +zetaDelta only)

theorem quiet_execJournalPointer {s₀ : State} {k : Nat} : QuietNext (execJournalPointer k s₀) s₀ := by
  have h₀ : Quiet s₀ s₀ := Quiet.refl s₀
  unfold execJournalPointer
  try extract_lets
  repeat' (first | with_reducible apply QuietNext.next | with_reducible apply QuietNext.fault | with_reducible apply QuietNext.ite | with_reducible assumption | with_reducible apply quiet_resetPointers | (fail_if_no_progress with_reducible apply Quiet.upd) | with_reducible apply Quiet.ite | with_reducible apply Quiet.ite1 | (with_reducible apply Quiet.foldl; intro s₁ x₁; have h₁ : Quiet s₁ s₁ := Quiet.refl s₁; try dsimp +zetaDelta only) | (with_reducible apply Quiet.foldl1; intro s₁ x₁; have h₁ : Quiet s₁.1 s₁.1 := Quiet.refl s₁.1; try dsimp +zetaDelta only) | extract_lets | split | dsimp +zetaDelta only)

theorem quiet_execJournalRecord {s₀ : State}  : QuietNext (execJournalRecord s₀) s₀ := by
  have h₀ : Quiet s₀ s₀ := Quiet.refl s₀
  unfold execJournalRecord
  try extract_lets
  repeat' (first | with_reducible apply QuietNext.next | with_reducible apply QuietNext.fault | with_reducible apply QuietNext.ite | with_reducible assumption | with_reducible apply quiet_takeRec | (fail_if_no_progress with_reducible apply Quiet.upd) | with_reducible apply Quiet.ite | with_reducible apply Quiet.ite1 | (with_reducible apply Quiet.foldl; intro s₁ x₁; have h₁ : Quiet s₁ s₁ := Quiet.refl s₁; try dsimp +zetaDelta only) | (with_reducible apply Quiet.foldl1; intro s₁ x₁; have h₁ : Quiet s₁.1 s₁.1 := Quiet.refl s₁.1; try dsimp +zetaDelta only) | extract_lets | split | dsimp +zetaDelta only)

theorem quiet_execLinkFlitError {s₀ : State} {l : Nat} {half : Nat} {e : Sys2Proof.LinkEvent} : QuietNext (execLinkFlitError l half e s₀) s₀ := by
  have h₀ : Quiet s₀ s₀ := Quiet.refl s₀
  unfold execLinkFlitError
  try extract_lets
  repeat' (first | with_reducible apply QuietNext.next | with_reducible apply QuietNext.fault | with_reducible apply QuietNext.ite | with_reducible assumption | with_reducible apply quiet_linkError | (fail_if_no_progress with_reducible apply Quiet.upd) | with_reducible apply Quiet.ite | with_reducible apply Quiet.ite1 | (with_reducible apply Quiet.foldl; intro s₁ x₁; have h₁ : Quiet s₁ s₁ := Quiet.refl s₁; try dsimp +zetaDelta only) | (with_reducible apply Quiet.foldl1; intro s₁ x₁; have h₁ : Quiet s₁.1 s₁.1 := Quiet.refl s₁.1; try dsimp +zetaDelta only) | extract_lets | split | dsimp +zetaDelta only)

theorem quiet_execLoanGrant {s₀ : State} {w : Nat} {t : Nat} : QuietNext (execLoanGrant w t s₀) s₀ := by
  have h₀ : Quiet s₀ s₀ := Quiet.refl s₀
  unfold execLoanGrant
  try extract_lets
  repeat' (first | with_reducible apply QuietNext.next | with_reducible apply QuietNext.fault | with_reducible apply QuietNext.ite | with_reducible assumption | with_reducible apply quiet_State_modWicket | with_reducible apply quiet_State_popP | (fail_if_no_progress with_reducible apply Quiet.upd) | with_reducible apply Quiet.ite | with_reducible apply Quiet.ite1 | (with_reducible apply Quiet.foldl; intro s₁ x₁; have h₁ : Quiet s₁ s₁ := Quiet.refl s₁; try dsimp +zetaDelta only) | (with_reducible apply Quiet.foldl1; intro s₁ x₁; have h₁ : Quiet s₁.1 s₁.1 := Quiet.refl s₁.1; try dsimp +zetaDelta only) | extract_lets | split | dsimp +zetaDelta only)

theorem quiet_execLoanIdle {s₀ : State} {w : Nat} {t : Nat} : QuietNext (execLoanIdle w t s₀) s₀ := by
  have h₀ : Quiet s₀ s₀ := Quiet.refl s₀
  unfold execLoanIdle
  try extract_lets
  repeat' (first | with_reducible apply QuietNext.next | with_reducible apply QuietNext.fault | with_reducible apply QuietNext.ite | with_reducible assumption | with_reducible apply quiet_returnLoan | with_reducible apply quiet_serveLoans | (fail_if_no_progress with_reducible apply Quiet.upd) | with_reducible apply Quiet.ite | with_reducible apply Quiet.ite1 | (with_reducible apply Quiet.foldl; intro s₁ x₁; have h₁ : Quiet s₁ s₁ := Quiet.refl s₁; try dsimp +zetaDelta only) | (with_reducible apply Quiet.foldl1; intro s₁ x₁; have h₁ : Quiet s₁.1 s₁.1 := Quiet.refl s₁.1; try dsimp +zetaDelta only) | extract_lets | split | dsimp +zetaDelta only)

theorem quiet_execMarginTimeout {s₀ : State}  : QuietNext (execMarginTimeout s₀) s₀ := by
  have h₀ : Quiet s₀ s₀ := Quiet.refl s₀
  unfold execMarginTimeout
  try extract_lets
  repeat' (first | with_reducible apply QuietNext.next | with_reducible apply QuietNext.fault | with_reducible apply QuietNext.ite | with_reducible assumption | with_reducible apply quiet_State_bump | with_reducible apply quiet_State_note | with_reducible apply quiet_askMargin | (fail_if_no_progress with_reducible apply Quiet.upd) | with_reducible apply Quiet.ite | with_reducible apply Quiet.ite1 | (with_reducible apply Quiet.foldl; intro s₁ x₁; have h₁ : Quiet s₁ s₁ := Quiet.refl s₁; try dsimp +zetaDelta only) | (with_reducible apply Quiet.foldl1; intro s₁ x₁; have h₁ : Quiet s₁.1 s₁.1 := Quiet.refl s₁.1; try dsimp +zetaDelta only) | extract_lets | split | dsimp +zetaDelta only)

theorem quiet_execNcwFull {s₀ : State} {w : Nat} {q : Sys2Proof.Req} : QuietNext (execNcwFull w q s₀) s₀ := by
  have h₀ : Quiet s₀ s₀ := Quiet.refl s₀
  unfold execNcwFull
  try extract_lets
  repeat' (first | with_reducible apply QuietNext.next | with_reducible apply QuietNext.fault | with_reducible apply QuietNext.ite | with_reducible assumption | with_reducible apply quiet_requestCmd | with_reducible apply quiet_requestCmd | (fail_if_no_progress with_reducible apply Quiet.upd) | with_reducible apply Quiet.ite | with_reducible apply Quiet.ite1 | (with_reducible apply Quiet.foldl; intro s₁ x₁; have h₁ : Quiet s₁ s₁ := Quiet.refl s₁; try dsimp +zetaDelta only) | (with_reducible apply Quiet.foldl1; intro s₁ x₁; have h₁ : Quiet s₁.1 s₁.1 := Quiet.refl s₁.1; try dsimp +zetaDelta only) | extract_lets | split | dsimp +zetaDelta only)

theorem quiet_execNcwPtl {s₀ : State} {w : Nat} {q : Sys2Proof.Req} : QuietNext (execNcwPtl w q s₀) s₀ := by
  have h₀ : Quiet s₀ s₀ := Quiet.refl s₀
  unfold execNcwPtl
  try extract_lets
  repeat' (first | with_reducible apply QuietNext.next | with_reducible apply QuietNext.fault | with_reducible apply QuietNext.ite | with_reducible assumption | with_reducible apply quiet_requestCmd | with_reducible apply quiet_requestCmd | (fail_if_no_progress with_reducible apply Quiet.upd) | with_reducible apply Quiet.ite | with_reducible apply Quiet.ite1 | (with_reducible apply Quiet.foldl; intro s₁ x₁; have h₁ : Quiet s₁ s₁ := Quiet.refl s₁; try dsimp +zetaDelta only) | (with_reducible apply Quiet.foldl1; intro s₁ x₁; have h₁ : Quiet s₁.1 s₁.1 := Quiet.refl s₁.1; try dsimp +zetaDelta only) | extract_lets | split | dsimp +zetaDelta only)

theorem quiet_execOwn {s₀ : State} {w : Nat} {q : Sys2Proof.Req} : QuietNext (execOwn w q s₀) s₀ := by
  have h₀ : Quiet s₀ s₀ := Quiet.refl s₀
  unfold execOwn
  try extract_lets
  repeat' (first | with_reducible apply QuietNext.next | with_reducible apply QuietNext.fault | with_reducible apply QuietNext.ite | with_reducible assumption | with_reducible apply quiet_requestCmd | with_reducible apply quiet_requestCmd | (fail_if_no_progress with_reducible apply Quiet.upd) | with_reducible apply Quiet.ite | with_reducible apply Quiet.ite1 | (with_reducible apply Quiet.foldl; intro s₁ x₁; have h₁ : Quiet s₁ s₁ := Quiet.refl s₁; try dsimp +zetaDelta only) | (with_reducible apply Quiet.foldl1; intro s₁ x₁; have h₁ : Quiet s₁.1 s₁.1 := Quiet.refl s₁.1; try dsimp +zetaDelta only) | extract_lets | split | dsimp +zetaDelta only)

theorem quiet_execPostDrainDelay {s₀ : State} {e : Nat} : QuietNext (execPostDrainDelay e s₀) s₀ := by
  have h₀ : Quiet s₀ s₀ := Quiet.refl s₀
  unfold execPostDrainDelay
  try extract_lets
  repeat' (first | with_reducible apply QuietNext.next | with_reducible apply QuietNext.fault | with_reducible apply QuietNext.ite | with_reducible assumption | with_reducible apply quiet_drainPost | (fail_if_no_progress with_reducible apply Quiet.upd) | with_reducible apply Quiet.ite | with_reducible apply Quiet.ite1 | (with_reducible apply Quiet.foldl; intro s₁ x₁; have h₁ : Quiet s₁ s₁ := Quiet.refl s₁; try dsimp +zetaDelta only) | (with_reducible apply Quiet.foldl1; intro s₁ x₁; have h₁ : Quiet s₁.1 s₁.1 := Quiet.refl s₁.1; try dsimp +zetaDelta only) | extract_lets | split | dsimp +zetaDelta only)

theorem quiet_execProveWindow {s₀ : State} {k : Nat} : QuietNext (execProveWindow k s₀) s₀ := by
  have h₀ : Quiet s₀ s₀ := Quiet.refl s₀
  unfold execProveWindow
  try extract_lets
  repeat' (first | with_reducible apply QuietNext.next | with_reducible apply QuietNext.fault | with_reducible apply QuietNext.ite | with_reducible assumption | with_reducible apply quiet_State_modSession | (fail_if_no_progress with_reducible apply Quiet.upd) | with_reducible apply Quiet.ite | with_reducible apply Quiet.ite1 | (with_reducible apply Quiet.foldl; intro s₁ x₁; have h₁ : Quiet s₁ s₁ := Quiet.refl s₁; try dsimp +zetaDelta only) | (with_reducible apply Quiet.foldl1; intro s₁ x₁; have h₁ : Quiet s₁.1 s₁.1 := Quiet.refl s₁.1; try dsimp +zetaDelta only) | extract_lets | split | dsimp +zetaDelta only)

theorem quiet_execPwrFailWarnRise {s₀ : State}  : QuietNext (execPwrFailWarnRise s₀) s₀ := by
  have h₀ : Quiet s₀ s₀ := Quiet.refl s₀
  unfold execPwrFailWarnRise
  try extract_lets
  repeat' (first | with_reducible apply QuietNext.next | with_reducible apply QuietNext.fault | with_reducible apply QuietNext.ite | with_reducible assumption | with_reducible apply quiet_State_bump | with_reducible apply quiet_setQuiesce | (fail_if_no_progress with_reducible apply Quiet.upd) | with_reducible apply Quiet.ite | with_reducible apply Quiet.ite1 | (with_reducible apply Quiet.foldl; intro s₁ x₁; have h₁ : Quiet s₁ s₁ := Quiet.refl s₁; try dsimp +zetaDelta only) | (with_reducible apply Quiet.foldl1; intro s₁ x₁; have h₁ : Quiet s₁.1 s₁.1 := Quiet.refl s₁.1; try dsimp +zetaDelta only) | extract_lets | split | dsimp +zetaDelta only)

theorem quiet_execQuiesced {s₀ : State}  : QuietNext (execQuiesced s₀) s₀ := by
  have h₀ : Quiet s₀ s₀ := Quiet.refl s₀
  unfold execQuiesced
  try extract_lets
  repeat' (first | with_reducible apply QuietNext.next | with_reducible apply QuietNext.fault | with_reducible apply QuietNext.ite | with_reducible assumption | with_reducible apply quiet_setQuiesce | (fail_if_no_progress with_reducible apply Quiet.upd) | with_reducible apply Quiet.ite | with_reducible apply Quiet.ite1 | (with_reducible apply Quiet.foldl; intro s₁ x₁; have h₁ : Quiet s₁ s₁ := Quiet.refl s₁; try dsimp +zetaDelta only) | (with_reducible apply Quiet.foldl1; intro s₁ x₁; have h₁ : Quiet s₁.1 s₁.1 := Quiet.refl s₁.1; try dsimp +zetaDelta only) | extract_lets | split | dsimp +zetaDelta only)

theorem quiet_execRdAny {s₀ : State} {w : Nat} {q : Sys2Proof.Req} : QuietNext (execRdAny w q s₀) s₀ := by
  have h₀ : Quiet s₀ s₀ := Quiet.refl s₀
  unfold execRdAny
  try extract_lets
  repeat' (first | with_reducible apply QuietNext.next | with_reducible apply QuietNext.fault | with_reducible apply QuietNext.ite | with_reducible assumption | with_reducible apply quiet_requestCmd | with_reducible apply quiet_requestCmd | (fail_if_no_progress with_reducible apply Quiet.upd) | with_reducible apply Quiet.ite | with_reducible apply Quiet.ite1 | (with_reducible apply Quiet.foldl; intro s₁ x₁; have h₁ : Quiet s₁ s₁ := Quiet.refl s₁; try dsimp +zetaDelta only) | (with_reducible apply Quiet.foldl1; intro s₁ x₁; have h₁ : Quiet s₁.1 s₁.1 := Quiet.refl s₁.1; try dsimp +zetaDelta only) | extract_lets | split | dsimp +zetaDelta only)

theorem quiet_execRdNc {s₀ : State} {w : Nat} {q : Sys2Proof.Req} : QuietNext (execRdNc w q s₀) s₀ := by
  have h₀ : Quiet s₀ s₀ := Quiet.refl s₀
  unfold execRdNc
  try extract_lets
  repeat' (first | with_reducible apply QuietNext.next | with_reducible apply QuietNext.fault | with_reducible apply QuietNext.ite | with_reducible assumption | with_reducible apply quiet_requestCmd | with_reducible apply quiet_requestCmd | (fail_if_no_progress with_reducible apply Quiet.upd) | with_reducible apply Quiet.ite | with_reducible apply Quiet.ite1 | (with_reducible apply Quiet.foldl; intro s₁ x₁; have h₁ : Quiet s₁ s₁ := Quiet.refl s₁; try dsimp +zetaDelta only) | (with_reducible apply Quiet.foldl1; intro s₁ x₁; have h₁ : Quiet s₁.1 s₁.1 := Quiet.refl s₁.1; try dsimp +zetaDelta only) | extract_lets | split | dsimp +zetaDelta only)

theorem quiet_execRdS {s₀ : State} {w : Nat} {q : Sys2Proof.Req} : QuietNext (execRdS w q s₀) s₀ := by
  have h₀ : Quiet s₀ s₀ := Quiet.refl s₀
  unfold execRdS
  try extract_lets
  repeat' (first | with_reducible apply QuietNext.next | with_reducible apply QuietNext.fault | with_reducible apply QuietNext.ite | with_reducible assumption | with_reducible apply quiet_requestCmd | with_reducible apply quiet_requestCmd | (fail_if_no_progress with_reducible apply Quiet.upd) | with_reducible apply Quiet.ite | with_reducible apply Quiet.ite1 | (with_reducible apply Quiet.foldl; intro s₁ x₁; have h₁ : Quiet s₁ s₁ := Quiet.refl s₁; try dsimp +zetaDelta only) | (with_reducible apply Quiet.foldl1; intro s₁ x₁; have h₁ : Quiet s₁.1 s₁.1 := Quiet.refl s₁.1; try dsimp +zetaDelta only) | extract_lets | split | dsimp +zetaDelta only)

theorem quiet_execRdX {s₀ : State} {w : Nat} {q : Sys2Proof.Req} : QuietNext (execRdX w q s₀) s₀ := by
  have h₀ : Quiet s₀ s₀ := Quiet.refl s₀
  unfold execRdX
  try extract_lets
  repeat' (first | with_reducible apply QuietNext.next | with_reducible apply QuietNext.fault | with_reducible apply QuietNext.ite | with_reducible assumption | with_reducible apply quiet_requestCmd | with_reducible apply quiet_requestCmd | (fail_if_no_progress with_reducible apply Quiet.upd) | with_reducible apply Quiet.ite | with_reducible apply Quiet.ite1 | (with_reducible apply Quiet.foldl; intro s₁ x₁; have h₁ : Quiet s₁ s₁ := Quiet.refl s₁; try dsimp +zetaDelta only) | (with_reducible apply Quiet.foldl1; intro s₁ x₁; have h₁ : Quiet s₁.1 s₁.1 := Quiet.refl s₁.1; try dsimp +zetaDelta only) | extract_lets | split | dsimp +zetaDelta only)

theorem quiet_execRelease {s₀ : State} {w : Nat} {q : Sys2Proof.Req} : QuietNext (execRelease w q s₀) s₀ := by
  have h₀ : Quiet s₀ s₀ := Quiet.refl s₀
  unfold execRelease
  try extract_lets
  repeat' (first | with_reducible apply QuietNext.next | with_reducible apply QuietNext.fault | with_reducible apply QuietNext.ite | with_reducible assumption | with_reducible apply quiet_requestCmd | with_reducible apply quiet_requestCmd | (fail_if_no_progress with_reducible apply Quiet.upd) | with_reducible apply Quiet.ite | with_reducible apply Quiet.ite1 | (with_reducible apply Quiet.foldl; intro s₁ x₁; have h₁ : Quiet s₁ s₁ := Quiet.refl s₁; try dsimp +zetaDelta only) | (with_reducible apply Quiet.foldl1; intro s₁ x₁; have h₁ : Quiet s₁.1 s₁.1 := Quiet.refl s₁.1; try dsimp +zetaDelta only) | extract_lets | split | dsimp +zetaDelta only)

theorem quiet_execRetrainDone {s₀ : State} {l : Nat} {pass0 : Bool} {pass1 : Bool} : QuietNext (execRetrainDone l pass0 pass1 s₀) s₀ := by
  have h₀ : Quiet s₀ s₀ := Quiet.refl s₀
  unfold execRetrainDone
  try extract_lets
  repeat' (first | with_reducible apply QuietNext.next | with_reducible apply QuietNext.fault | with_reducible apply QuietNext.ite | with_reducible assumption | with_reducible apply quiet_State_modLink | (fail_if_no_progress with_reducible apply Quiet.upd) | with_reducible apply Quiet.ite | with_reducible apply Quiet.ite1 | (with_reducible apply Quiet.foldl; intro s₁ x₁; have h₁ : Quiet s₁ s₁ := Quiet.refl s₁; try dsimp +zetaDelta only) | (with_reducible apply Quiet.foldl1; intro s₁ x₁; have h₁ : Quiet s₁.1 s₁.1 := Quiet.refl s₁.1; try dsimp +zetaDelta only) | extract_lets | split | dsimp +zetaDelta only)

theorem quiet_execRouteMark {s₀ : State} {src : Nat} {dst : Nat} {cls : Nat} : QuietNext (execRouteMark src dst cls s₀) s₀ := by
  have h₀ : Quiet s₀ s₀ := Quiet.refl s₀
  unfold execRouteMark
  try extract_lets
  repeat' (first | with_reducible apply QuietNext.next | with_reducible apply QuietNext.fault | with_reducible apply QuietNext.ite | with_reducible assumption | with_reducible apply quiet_State_flit | with_reducible apply quiet_State_modStep | (fail_if_no_progress with_reducible apply Quiet.upd) | with_reducible apply Quiet.ite | with_reducible apply Quiet.ite1 | (with_reducible apply Quiet.foldl; intro s₁ x₁; have h₁ : Quiet s₁ s₁ := Quiet.refl s₁; try dsimp +zetaDelta only) | (with_reducible apply Quiet.foldl1; intro s₁ x₁; have h₁ : Quiet s₁.1 s₁.1 := Quiet.refl s₁.1; try dsimp +zetaDelta only) | extract_lets | split | dsimp +zetaDelta only)

theorem quiet_execRouteMarkAck {s₀ : State} {src : Nat} {dst : Nat} {cls : Nat} : QuietNext (execRouteMarkAck src dst cls s₀) s₀ := by
  have h₀ : Quiet s₀ s₀ := Quiet.refl s₀
  unfold execRouteMarkAck
  try extract_lets
  repeat' (first | with_reducible apply QuietNext.next | with_reducible apply QuietNext.fault | with_reducible apply QuietNext.ite | with_reducible assumption | with_reducible apply quiet_routeAck | (fail_if_no_progress with_reducible apply Quiet.upd) | with_reducible apply Quiet.ite | with_reducible apply Quiet.ite1 | (with_reducible apply Quiet.foldl; intro s₁ x₁; have h₁ : Quiet s₁ s₁ := Quiet.refl s₁; try dsimp +zetaDelta only) | (with_reducible apply Quiet.foldl1; intro s₁ x₁; have h₁ : Quiet s₁.1 s₁.1 := Quiet.refl s₁.1; try dsimp +zetaDelta only) | extract_lets | split | dsimp +zetaDelta only)

theorem quiet_execRsv {s₀ : State} {w : Nat} {q : Sys2Proof.Req} : QuietNext (execRsv w q s₀) s₀ := by
  have h₀ : Quiet s₀ s₀ := Quiet.refl s₀
  unfold execRsv
  try extract_lets
  repeat' (first | with_reducible apply QuietNext.next | with_reducible apply QuietNext.fault | with_reducible apply QuietNext.ite | with_reducible assumption | with_reducible apply quiet_requestCmd | with_reducible apply quiet_requestCmd | (fail_if_no_progress with_reducible apply Quiet.upd) | with_reducible apply Quiet.ite | with_reducible apply Quiet.ite1 | (with_reducible apply Quiet.foldl; intro s₁ x₁; have h₁ : Quiet s₁ s₁ := Quiet.refl s₁; try dsimp +zetaDelta only) | (with_reducible apply Quiet.foldl1; intro s₁ x₁; have h₁ : Quiet s₁.1 s₁.1 := Quiet.refl s₁.1; try dsimp +zetaDelta only) | extract_lets | split | dsimp +zetaDelta only)

theorem quiet_execRsvTimeout {s₀ : State} {t : Nat} {i : Nat} : QuietNext (execRsvTimeout t i s₀) s₀ := by
  have h₀ : Quiet s₀ s₀ := Quiet.refl s₀
  unfold execRsvTimeout
  try extract_lets
  repeat' (first | with_reducible apply QuietNext.next | with_reducible apply QuietNext.fault | with_reducible apply QuietNext.ite | with_reducible assumption | with_reducible apply quiet_State_bump | with_reducible apply quiet_State_modTill | (fail_if_no_progress with_reducible apply Quiet.upd) | with_reducible apply Quiet.ite | with_reducible apply Quiet.ite1 | (with_reducible apply Quiet.foldl; intro s₁ x₁; have h₁ : Quiet s₁ s₁ := Quiet.refl s₁; try dsimp +zetaDelta only) | (with_reducible apply Quiet.foldl1; intro s₁ x₁; have h₁ : Quiet s₁.1 s₁.1 := Quiet.refl s₁.1; try dsimp +zetaDelta only) | extract_lets | split | dsimp +zetaDelta only)

theorem quiet_execSalvageMark {s₀ : State} {t : Nat} {w : Nat} : QuietNext (execSalvageMark t w s₀) s₀ := by
  have h₀ : Quiet s₀ s₀ := Quiet.refl s₀
  unfold execSalvageMark
  try extract_lets
  repeat' (first | with_reducible apply QuietNext.next | with_reducible apply QuietNext.fault | with_reducible apply QuietNext.ite | with_reducible assumption | with_reducible apply quiet_State_modTill | (fail_if_no_progress with_reducible apply Quiet.upd) | with_reducible apply Quiet.ite | with_reducible apply Quiet.ite1 | (with_reducible apply Quiet.foldl; intro s₁ x₁; have h₁ : Quiet s₁ s₁ := Quiet.refl s₁; try dsimp +zetaDelta only) | (with_reducible apply Quiet.foldl1; intro s₁ x₁; have h₁ : Quiet s₁.1 s₁.1 := Quiet.refl s₁.1; try dsimp +zetaDelta only) | extract_lets | split | dsimp +zetaDelta only)

theorem quiet_execSaveImageWritten {s₀ : State}  : QuietNext (execSaveImageWritten s₀) s₀ := by
  have h₀ : Quiet s₀ s₀ := Quiet.refl s₀
  unfold execSaveImageWritten
  try extract_lets
  repeat' (first | with_reducible apply QuietNext.next | with_reducible apply QuietNext.fault | with_reducible apply QuietNext.ite | with_reducible assumption | with_reducible apply quiet_State_modPower | with_reducible apply quiet_State_send | with_reducible apply quiet_askMargin | (fail_if_no_progress with_reducible apply Quiet.upd) | with_reducible apply Quiet.ite | with_reducible apply Quiet.ite1 | (with_reducible apply Quiet.foldl; intro s₁ x₁; have h₁ : Quiet s₁ s₁ := Quiet.refl s₁; try dsimp +zetaDelta only) | (with_reducible apply Quiet.foldl1; intro s₁ x₁; have h₁ : Quiet s₁.1 s₁.1 := Quiet.refl s₁.1; try dsimp +zetaDelta only) | extract_lets | split | dsimp +zetaDelta only)

theorem quiet_execSettle {s₀ : State} {w : Nat} {q : Sys2Proof.Req} : QuietNext (execSettle w q s₀) s₀ := by
  have h₀ : Quiet s₀ s₀ := Quiet.refl s₀
  unfold execSettle
  try extract_lets
  repeat' (first | with_reducible apply QuietNext.next | with_reducible apply QuietNext.fault | with_reducible apply QuietNext.ite | with_reducible assumption | with_reducible apply quiet_requestCmd | with_reducible apply quiet_requestCmd | (fail_if_no_progress with_reducible apply Quiet.upd) | with_reducible apply Quiet.ite | with_reducible apply Quiet.ite1 | (with_reducible apply Quiet.foldl; intro s₁ x₁; have h₁ : Quiet s₁ s₁ := Quiet.refl s₁; try dsimp +zetaDelta only) | (with_reducible apply Quiet.foldl1; intro s₁ x₁; have h₁ : Quiet s₁.1 s₁.1 := Quiet.refl s₁.1; try dsimp +zetaDelta only) | extract_lets | split | dsimp +zetaDelta only)

theorem quiet_execSnoopDelivery {s₀ : State} {w : Nat} {t : Nat} : QuietNext (execSnoopDelivery w t s₀) s₀ := by
  have h₀ : Quiet s₀ s₀ := Quiet.refl s₀
  unfold execSnoopDelivery
  try extract_lets
  repeat' (first | with_reducible apply QuietNext.next | with_reducible apply QuietNext.fault | with_reducible apply QuietNext.ite | with_reducible assumption | with_reducible apply quiet_State_modWicket | with_reducible apply quiet_forecloseSnoop | with_reducible apply quiet_markBypass | with_reducible apply quiet_takeSids | (fail_if_no_progress with_reducible apply Quiet.upd) | with_reducible apply Quiet.ite | with_reducible apply Quiet.ite1 | (with_reducible apply Quiet.foldl; intro s₁ x₁; have h₁ : Quiet s₁ s₁ := Quiet.refl s₁; try dsimp +zetaDelta only) | (with_reducible apply Quiet.foldl1; intro s₁ x₁; have h₁ : Quiet s₁.1 s₁.1 := Quiet.refl s₁.1; try dsimp +zetaDelta only) | extract_lets | split | dsimp +zetaDelta only)

theorem quiet_execTallySample {s₀ : State} {latency : Nat} {full : Bool} : QuietNext (execTallySample latency full s₀) s₀ := by
  have h₀ : Quiet s₀ s₀ := Quiet.refl s₀
  unfold execTallySample
  try extract_lets
  repeat' (first | with_reducible apply QuietNext.next | with_reducible apply QuietNext.fault | with_reducible apply QuietNext.ite | with_reducible assumption | with_reducible apply quiet_takeSample | (fail_if_no_progress with_reducible apply Quiet.upd) | with_reducible apply Quiet.ite | with_reducible apply Quiet.ite1 | (with_reducible apply Quiet.foldl; intro s₁ x₁; have h₁ : Quiet s₁ s₁ := Quiet.refl s₁; try dsimp +zetaDelta only) | (with_reducible apply Quiet.foldl1; intro s₁ x₁; have h₁ : Quiet s₁.1 s₁.1 := Quiet.refl s₁.1; try dsimp +zetaDelta only) | extract_lets | split | dsimp +zetaDelta only)

theorem quiet_execTallyWindow {s₀ : State}  : QuietNext (execTallyWindow s₀) s₀ := by
  have h₀ : Quiet s₀ s₀ := Quiet.refl s₀
  unfold execTallyWindow
  try extract_lets
  repeat' (first | with_reducible apply QuietNext.next | with_reducible apply QuietNext.fault | with_reducible apply QuietNext.ite | with_reducible assumption | with_reducible apply quiet_sweepWindow | (fail_if_no_progress with_reducible apply Quiet.upd) | with_reducible apply Quiet.ite | with_reducible apply Quiet.ite1 | (with_reducible apply Quiet.foldl; intro s₁ x₁; have h₁ : Quiet s₁ s₁ := Quiet.refl s₁; try dsimp +zetaDelta only) | (with_reducible apply Quiet.foldl1; intro s₁ x₁; have h₁ : Quiet s₁.1 s₁.1 := Quiet.refl s₁.1; try dsimp +zetaDelta only) | extract_lets | split | dsimp +zetaDelta only)

theorem quiet_execTapInstruction {s₀ : State} {ir : Nat} : QuietNext (execTapInstruction ir s₀) s₀ := by
  have h₀ : Quiet s₀ s₀ := Quiet.refl s₀
  unfold execTapInstruction
  try extract_lets
  repeat' (first | with_reducible apply QuietNext.next | with_reducible apply QuietNext.fault | with_reducible apply QuietNext.ite | with_reducible assumption | (fail_if_no_progress with_reducible apply Quiet.upd) | with_reducible apply Quiet.ite | with_reducible apply Quiet.ite1 | (with_reducible apply Quiet.foldl; intro s₁ x₁; have h₁ : Quiet s₁ s₁ := Quiet.refl s₁; try dsimp +zetaDelta only) | (with_reducible apply Quiet.foldl1; intro s₁ x₁; have h₁ : Quiet s₁.1 s₁.1 := Quiet.refl s₁.1; try dsimp +zetaDelta only) | extract_lets | split | dsimp +zetaDelta only)

theorem quiet_execTillDown {s₀ : State} {w : Nat} {t : Nat} : QuietNext (execTillDown w t s₀) s₀ := by
  have h₀ : Quiet s₀ s₀ := Quiet.refl s₀
  unfold execTillDown
  try extract_lets
  repeat' (first | with_reducible apply QuietNext.next | with_reducible apply QuietNext.fault | with_reducible apply QuietNext.ite | with_reducible assumption | with_reducible apply quiet_State_modWicket | with_reducible apply quiet_State_popP | with_reducible apply quiet_sendMarks | (fail_if_no_progress with_reducible apply Quiet.upd) | with_reducible apply Quiet.ite | with_reducible apply Quiet.ite1 | (with_reducible apply Quiet.foldl; intro s₁ x₁; have h₁ : Quiet s₁ s₁ := Quiet.refl s₁; try dsimp +zetaDelta only) | (with_reducible apply Quiet.foldl1; intro s₁ x₁; have h₁ : Quiet s₁.1 s₁.1 := Quiet.refl s₁.1; try dsimp +zetaDelta only) | extract_lets | split | dsimp +zetaDelta only)

theorem quiet_execTjSample {s₀ : State} {tj : List (Nat × Int)} : QuietNext (execTjSample tj s₀) s₀ := by
  have h₀ : Quiet s₀ s₀ := Quiet.refl s₀
  unfold execTjSample
  try extract_lets
  repeat' (first | with_reducible apply QuietNext.next | with_reducible apply QuietNext.fault | with_reducible apply QuietNext.ite | with_reducible assumption | with_reducible apply quiet_leaveHold | with_reducible apply quiet_readTjs | (fail_if_no_progress with_reducible apply Quiet.upd) | with_reducible apply Quiet.ite | with_reducible apply Quiet.ite1 | (with_reducible apply Quiet.foldl; intro s₁ x₁; have h₁ : Quiet s₁ s₁ := Quiet.refl s₁; try dsimp +zetaDelta only) | (with_reducible apply Quiet.foldl1; intro s₁ x₁; have h₁ : Quiet s₁.1 s₁.1 := Quiet.refl s₁.1; try dsimp +zetaDelta only) | extract_lets | split | dsimp +zetaDelta only)

theorem quiet_execWbI {s₀ : State} {w : Nat} {q : Sys2Proof.Req} : QuietNext (execWbI w q s₀) s₀ := by
  have h₀ : Quiet s₀ s₀ := Quiet.refl s₀
  unfold execWbI
  try extract_lets
  repeat' (first | with_reducible apply QuietNext.next | with_reducible apply QuietNext.fault | with_reducible apply QuietNext.ite | with_reducible assumption | with_reducible apply quiet_requestCmd | with_reducible apply quiet_requestCmd | (fail_if_no_progress with_reducible apply Quiet.upd) | with_reducible apply Quiet.ite | with_reducible apply Quiet.ite1 | (with_reducible apply Quiet.foldl; intro s₁ x₁; have h₁ : Quiet s₁ s₁ := Quiet.refl s₁; try dsimp +zetaDelta only) | (with_reducible apply Quiet.foldl1; intro s₁ x₁; have h₁ : Quiet s₁.1 s₁.1 := Quiet.refl s₁.1; try dsimp +zetaDelta only) | extract_lets | split | dsimp +zetaDelta only)

theorem quiet_execWbS {s₀ : State} {w : Nat} {q : Sys2Proof.Req} : QuietNext (execWbS w q s₀) s₀ := by
  have h₀ : Quiet s₀ s₀ := Quiet.refl s₀
  unfold execWbS
  try extract_lets
  repeat' (first | with_reducible apply QuietNext.next | with_reducible apply QuietNext.fault | with_reducible apply QuietNext.ite | with_reducible assumption | with_reducible apply quiet_requestCmd | with_reducible apply quiet_requestCmd | (fail_if_no_progress with_reducible apply Quiet.upd) | with_reducible apply Quiet.ite | with_reducible apply Quiet.ite1 | (with_reducible apply Quiet.foldl; intro s₁ x₁; have h₁ : Quiet s₁ s₁ := Quiet.refl s₁; try dsimp +zetaDelta only) | (with_reducible apply Quiet.foldl1; intro s₁ x₁; have h₁ : Quiet s₁.1 s₁.1 := Quiet.refl s₁.1; try dsimp +zetaDelta only) | extract_lets | split | dsimp +zetaDelta only)

theorem quiet_execWbX {s₀ : State} {w : Nat} {q : Sys2Proof.Req} : QuietNext (execWbX w q s₀) s₀ := by
  have h₀ : Quiet s₀ s₀ := Quiet.refl s₀
  unfold execWbX
  try extract_lets
  repeat' (first | with_reducible apply QuietNext.next | with_reducible apply QuietNext.fault | with_reducible apply QuietNext.ite | with_reducible assumption | with_reducible apply quiet_requestCmd | with_reducible apply quiet_requestCmd | (fail_if_no_progress with_reducible apply Quiet.upd) | with_reducible apply Quiet.ite | with_reducible apply Quiet.ite1 | (with_reducible apply Quiet.foldl; intro s₁ x₁; have h₁ : Quiet s₁ s₁ := Quiet.refl s₁; try dsimp +zetaDelta only) | (with_reducible apply Quiet.foldl1; intro s₁ x₁; have h₁ : Quiet s₁.1 s₁.1 := Quiet.refl s₁.1; try dsimp +zetaDelta only) | extract_lets | split | dsimp +zetaDelta only)

end Sys2Proof.Machine
end

