-- ==== Sys2Proof/Laws/Rolls.lean ====
section
/-! SUPPORT. Rolls: an operation leaves the Agent Table, the ways, the Cellar's state and locks, the segment and the records of START and of a function reset as they are. -/

namespace Sys2Proof.Machine

/-- `b` comes from `a` by an operation that leaves these parts as they are. -/
structure Rolls (a b : State) : Prop where
  agents : b.agents = a.agents
  seg : b.seg = a.seg
  ways : b.ways = a.ways
  cellarState : b.cellarState = a.cellarState
  cellarGen : b.cellarGen = a.cellarGen
  cellarLocked : b.cellarLocked = a.cellarLocked
  saveLocked : b.saveLocked = a.saveLocked
  inReset : b.inReset = a.inReset
  startSeen : b.startSeen = a.startSeen

theorem Rolls.refl (a : State) : Rolls a a := ⟨rfl, rfl, rfl, rfl, rfl, rfl, rfl, rfl, rfl⟩

theorem Rolls.trans {a b c : State} (h : Rolls a b) (g : Rolls b c) : Rolls a c :=
  ⟨g.agents.trans h.agents, g.seg.trans h.seg, g.ways.trans h.ways, g.cellarState.trans h.cellarState, g.cellarGen.trans h.cellarGen, g.cellarLocked.trans h.cellarLocked, g.saveLocked.trans h.saveLocked, g.inReset.trans h.inReset, g.startSeen.trans h.startSeen⟩

theorem Rolls.upd {a u : State} (h : Rolls a u)
    {pending' out' freeCtr' boot' global' resetCause' resuming' fatal' pins' fuses' time' chart' maps' net' wickets' ws' shapes' tills' cond' portReads' chstat' cellarFloor' interleaveLocked' lost' au' transfers' exch' assay' power' sec' tally' journal' image' coldDraw' tap'} :
    Rolls a (State.mk pending' out' freeCtr' boot' global' u.startSeen resetCause' resuming' u.inReset fatal' pins' fuses' time' chart' u.seg u.agents maps' net' wickets' ws' shapes' tills' cond' portReads' chstat' u.cellarState u.cellarGen cellarFloor' u.cellarLocked u.saveLocked interleaveLocked' u.ways lost' au' transfers' exch' assay' power' sec' tally' journal' image' coldDraw' tap') :=
  h.trans ⟨rfl, rfl, rfl, rfl, rfl, rfl, rfl, rfl, rfl⟩

theorem Rolls.ite {a u v : State} {c : Prop} [Decidable c] (h : Rolls a u) (g : Rolls a v) : Rolls a (if c then u else v) := by
  split <;> assumption

theorem Rolls.ite1 {β : Type} {a : State} {u v : State × β} {c : Prop} [Decidable c] (h : Rolls a u.1) (g : Rolls a v.1) :
    Rolls a (if c then u else v).1 := by
  split <;> assumption

theorem Rolls.foldl {α : Type} {a u : State} {f : State → α → State} (hf : ∀ s x, Rolls s (f s x)) (l : List α)
    (h : Rolls a u) : Rolls a (l.foldl f u) := by
  induction l generalizing u with
  | nil => exact h
  | cons x t ih => exact ih (h.trans (hf u x))

theorem Rolls.foldl1 {α β : Type} {a : State} {u : State × β} {f : State × β → α → State × β}
    (hf : ∀ s x, Rolls s.1 (f s x).1) (l : List α) (h : Rolls a u.1) : Rolls a (l.foldl f u).1 := by
  induction l generalizing u with
  | nil => exact h
  | cons x t ih => exact ih (h.trans (hf u x))

/-- A meaning that leaves the parts of `Rolls` as they are where it answers a next state. -/
def RollsNext (o : Host.Outcome State Fault Refusal) (s : State) : Prop := ∀ t, o = .next t → Rolls s t
theorem RollsNext.next {s u : State} (h : Rolls s u) : RollsNext (.next u) s := by
  intro t e; injection e with e; exact e ▸ h
theorem RollsNext.fault {s : State} {r : Fault} : RollsNext (.fault r) s := by intro t e; cases e
theorem RollsNext.ite {s : State} {c : Prop} [Decidable c] {u v : Host.Outcome State Fault Refusal} (h : RollsNext u s)
    (g : RollsNext v s) : RollsNext (if c then u else v) s := by split <;> assumption

end Sys2Proof.Machine
end

