-- ==== Sys2Proof/Laws/RollsX0.lean ====
section
/-! SUPPORT. What `Rolls` says of each operation, in the order of the callees. -/

namespace Sys2Proof.Machine
set_option linter.all false

theorem rolls_State_modPower {a₀ s₀ : State} (h₀ : Rolls a₀ s₀) {f : Power → Power} :
    Rolls a₀ (State.modPower s₀ f) := by
  unfold State.modPower
  try extract_lets
  repeat' (first | with_reducible assumption | (fail_if_no_progress with_reducible apply Rolls.upd) | with_reducible apply Rolls.ite | with_reducible apply Rolls.ite1 | (with_reducible apply Rolls.foldl; intro s₁ x₁; have h₁ : Rolls s₁ s₁ := Rolls.refl s₁; try dsimp +zetaDelta only) | (with_reducible apply Rolls.foldl1; intro s₁ x₁; have h₁ : Rolls s₁.1 s₁.1 := Rolls.refl s₁.1; try dsimp +zetaDelta only) | extract_lets | split | dsimp +zetaDelta only)

theorem rolls_State_atPort {a₀ s₀ : State} (h₀ : Rolls a₀ s₀) {c : Sys2Proof.Instr} :
    Rolls a₀ (State.atPort s₀ c) := by
  unfold State.atPort
  try extract_lets
  repeat' (first | with_reducible assumption | with_reducible apply rolls_State_modPower | (fail_if_no_progress with_reducible apply Rolls.upd) | with_reducible apply Rolls.ite | with_reducible apply Rolls.ite1 | (with_reducible apply Rolls.foldl; intro s₁ x₁; have h₁ : Rolls s₁ s₁ := Rolls.refl s₁; try dsimp +zetaDelta only) | (with_reducible apply Rolls.foldl1; intro s₁ x₁; have h₁ : Rolls s₁.1 s₁.1 := Rolls.refl s₁.1; try dsimp +zetaDelta only) | extract_lets | split | dsimp +zetaDelta only)

theorem rolls_State_setRaw {a₀ s₀ : State} (h₀ : Rolls a₀ s₀) {i : Nat} {j : Nat} {v : Sys2Proof.Word} :
    Rolls a₀ (State.setRaw s₀ i j v) := by
  unfold State.setRaw
  try extract_lets
  repeat' (first | with_reducible assumption | (fail_if_no_progress with_reducible apply Rolls.upd) | with_reducible apply Rolls.ite | with_reducible apply Rolls.ite1 | (with_reducible apply Rolls.foldl; intro s₁ x₁; have h₁ : Rolls s₁ s₁ := Rolls.refl s₁; try dsimp +zetaDelta only) | (with_reducible apply Rolls.foldl1; intro s₁ x₁; have h₁ : Rolls s₁.1 s₁.1 := Rolls.refl s₁.1; try dsimp +zetaDelta only) | extract_lets | split | dsimp +zetaDelta only)

theorem rolls_State_setRawN {a₀ s₀ : State} (h₀ : Rolls a₀ s₀) {i : Nat} {j : Nat} {v : Nat} :
    Rolls a₀ (State.setRawN s₀ i j v) := by
  unfold State.setRawN
  try extract_lets
  repeat' (first | with_reducible assumption | with_reducible apply rolls_State_setRaw | (fail_if_no_progress with_reducible apply Rolls.upd) | with_reducible apply Rolls.ite | with_reducible apply Rolls.ite1 | (with_reducible apply Rolls.foldl; intro s₁ x₁; have h₁ : Rolls s₁ s₁ := Rolls.refl s₁; try dsimp +zetaDelta only) | (with_reducible apply Rolls.foldl1; intro s₁ x₁; have h₁ : Rolls s₁.1 s₁.1 := Rolls.refl s₁.1; try dsimp +zetaDelta only) | extract_lets | split | dsimp +zetaDelta only)

theorem rolls_State_bumpBy {a₀ s₀ : State} (h₀ : Rolls a₀ s₀) {c : Ctr} {n : Nat} :
    Rolls a₀ (State.bumpBy s₀ c n) := by
  unfold State.bumpBy
  try extract_lets
  repeat' (first | with_reducible assumption | with_reducible apply rolls_State_setRawN | (fail_if_no_progress with_reducible apply Rolls.upd) | with_reducible apply Rolls.ite | with_reducible apply Rolls.ite1 | (with_reducible apply Rolls.foldl; intro s₁ x₁; have h₁ : Rolls s₁ s₁ := Rolls.refl s₁; try dsimp +zetaDelta only) | (with_reducible apply Rolls.foldl1; intro s₁ x₁; have h₁ : Rolls s₁.1 s₁.1 := Rolls.refl s₁.1; try dsimp +zetaDelta only) | extract_lets | split | dsimp +zetaDelta only)

theorem rolls_State_bump {a₀ s₀ : State} (h₀ : Rolls a₀ s₀) {c : Ctr} :
    Rolls a₀ (State.bump s₀ c) := by
  unfold State.bump
  try extract_lets
  repeat' (first | with_reducible assumption | with_reducible apply rolls_State_bumpBy | (fail_if_no_progress with_reducible apply Rolls.upd) | with_reducible apply Rolls.ite | with_reducible apply Rolls.ite1 | (with_reducible apply Rolls.foldl; intro s₁ x₁; have h₁ : Rolls s₁ s₁ := Rolls.refl s₁; try dsimp +zetaDelta only) | (with_reducible apply Rolls.foldl1; intro s₁ x₁; have h₁ : Rolls s₁.1 s₁.1 := Rolls.refl s₁.1; try dsimp +zetaDelta only) | extract_lets | split | dsimp +zetaDelta only)

theorem rolls_State_bumpMax {a₀ s₀ : State} (h₀ : Rolls a₀ s₀) {c : Ctr} {n : Nat} :
    Rolls a₀ (State.bumpMax s₀ c n) := by
  unfold State.bumpMax
  try extract_lets
  repeat' (first | with_reducible assumption | with_reducible apply rolls_State_setRawN | (fail_if_no_progress with_reducible apply Rolls.upd) | with_reducible apply Rolls.ite | with_reducible apply Rolls.ite1 | (with_reducible apply Rolls.foldl; intro s₁ x₁; have h₁ : Rolls s₁ s₁ := Rolls.refl s₁; try dsimp +zetaDelta only) | (with_reducible apply Rolls.foldl1; intro s₁ x₁; have h₁ : Rolls s₁.1 s₁.1 := Rolls.refl s₁.1; try dsimp +zetaDelta only) | extract_lets | split | dsimp +zetaDelta only)

theorem rolls_State_modTill {a₀ s₀ : State} (h₀ : Rolls a₀ s₀) {t : Nat} {f : Till → Till} :
    Rolls a₀ (State.modTill s₀ t f) := by
  unfold State.modTill
  try extract_lets
  repeat' (first | with_reducible assumption | (fail_if_no_progress with_reducible apply Rolls.upd) | with_reducible apply Rolls.ite | with_reducible apply Rolls.ite1 | (with_reducible apply Rolls.foldl; intro s₁ x₁; have h₁ : Rolls s₁ s₁ := Rolls.refl s₁; try dsimp +zetaDelta only) | (with_reducible apply Rolls.foldl1; intro s₁ x₁; have h₁ : Rolls s₁.1 s₁.1 := Rolls.refl s₁.1; try dsimp +zetaDelta only) | extract_lets | split | dsimp +zetaDelta only)

theorem rolls_State_chooseWay {a₀ s₀ : State} (h₀ : Rolls a₀ s₀) {t : Nat} {region : Nat} {sec : Nat} :
    ∀ t₀, (State.chooseWay s₀ t region sec) = some t₀ → Rolls a₀ t₀.1 := by
  intro t₀ e₀
  unfold State.chooseWay at e₀
  dsimp only at e₀
  repeat' (split at e₀)
  · simp only [Option.some.injEq] at e₀; subst e₀; exact h₀
  · cases e₀
  · rw [Option.map_eq_some_iff] at e₀
    obtain ⟨x, -, rfl⟩ := e₀
    exact rolls_State_modTill h₀

theorem rolls_State_chooseWay_eq {a₀ s₀ u₀ : State} {y₀ : Nat} {t : Nat} {region : Nat} {sec : Nat} (e₀ : State.chooseWay s₀ t region sec = some (u₀, y₀)) (h₀ : Rolls a₀ s₀) : Rolls a₀ u₀ :=
  rolls_State_chooseWay h₀ (u₀, y₀) e₀

theorem rolls_State_pcAdd {a₀ s₀ : State} (h₀ : Rolls a₀ s₀) {i : Nat} {j : Nat} {n : Nat} :
    Rolls a₀ (State.pcAdd s₀ i j n) := by
  unfold State.pcAdd
  try extract_lets
  repeat' (first | with_reducible assumption | with_reducible apply rolls_State_setRawN | (fail_if_no_progress with_reducible apply Rolls.upd) | with_reducible apply Rolls.ite | with_reducible apply Rolls.ite1 | (with_reducible apply Rolls.foldl; intro s₁ x₁; have h₁ : Rolls s₁ s₁ := Rolls.refl s₁; try dsimp +zetaDelta only) | (with_reducible apply Rolls.foldl1; intro s₁ x₁; have h₁ : Rolls s₁.1 s₁.1 := Rolls.refl s₁.1; try dsimp +zetaDelta only) | extract_lets | split | dsimp +zetaDelta only)

theorem rolls_State_pcEvent {a₀ s₀ : State} (h₀ : Rolls a₀ s₀) {i : Nat} {code : Nat} {unit : Nat} {n : Nat} :
    Rolls a₀ (State.pcEvent s₀ i code unit n) := by
  unfold State.pcEvent
  try extract_lets
  repeat' (first | with_reducible assumption | with_reducible apply rolls_State_pcAdd | (fail_if_no_progress with_reducible apply Rolls.upd) | with_reducible apply Rolls.ite | with_reducible apply Rolls.ite1 | (with_reducible apply Rolls.foldl; intro s₁ x₁; have h₁ : Rolls s₁ s₁ := Rolls.refl s₁; try dsimp +zetaDelta only) | (with_reducible apply Rolls.foldl1; intro s₁ x₁; have h₁ : Rolls s₁.1 s₁.1 := Rolls.refl s₁.1; try dsimp +zetaDelta only) | extract_lets | split | dsimp +zetaDelta only)

theorem rolls_State_gev {a₀ s₀ : State} (h₀ : Rolls a₀ s₀) {code : Nat} {unit : optParam Nat 255} :
    Rolls a₀ (State.gev s₀ code unit) := by
  unfold State.gev
  try extract_lets
  repeat' (first | with_reducible assumption | with_reducible apply rolls_State_pcEvent | (fail_if_no_progress with_reducible apply Rolls.upd) | with_reducible apply Rolls.ite | with_reducible apply Rolls.ite1 | (with_reducible apply Rolls.foldl; intro s₁ x₁; have h₁ : Rolls s₁ s₁ := Rolls.refl s₁; try dsimp +zetaDelta only) | (with_reducible apply Rolls.foldl1; intro s₁ x₁; have h₁ : Rolls s₁.1 s₁.1 := Rolls.refl s₁.1; try dsimp +zetaDelta only) | extract_lets | split | dsimp +zetaDelta only)

theorem rolls_State_modStream {a₀ s₀ : State} (h₀ : Rolls a₀ s₀) {k : Nat} {f : Stream → Stream} :
    Rolls a₀ (State.modStream s₀ k f) := by
  unfold State.modStream
  try extract_lets
  repeat' (first | with_reducible assumption | (fail_if_no_progress with_reducible apply Rolls.upd) | with_reducible apply Rolls.ite | with_reducible apply Rolls.ite1 | (with_reducible apply Rolls.foldl; intro s₁ x₁; have h₁ : Rolls s₁ s₁ := Rolls.refl s₁; try dsimp +zetaDelta only) | (with_reducible apply Rolls.foldl1; intro s₁ x₁; have h₁ : Rolls s₁.1 s₁.1 := Rolls.refl s₁.1; try dsimp +zetaDelta only) | extract_lets | split | dsimp +zetaDelta only)

theorem rolls_State_dropRec {a₀ s₀ : State} (h₀ : Rolls a₀ s₀) {k : Nat} {policed : Bool} {r : JRec} :
    Rolls a₀ (State.dropRec s₀ k policed r) := by
  unfold State.dropRec
  try extract_lets
  repeat' (first | with_reducible assumption | with_reducible apply rolls_State_bump | with_reducible apply rolls_State_gev | with_reducible apply rolls_State_modStream | (fail_if_no_progress with_reducible apply Rolls.upd) | with_reducible apply Rolls.ite | with_reducible apply Rolls.ite1 | (with_reducible apply Rolls.foldl; intro s₁ x₁; have h₁ : Rolls s₁ s₁ := Rolls.refl s₁; try dsimp +zetaDelta only) | (with_reducible apply Rolls.foldl1; intro s₁ x₁; have h₁ : Rolls s₁.1 s₁.1 := Rolls.refl s₁.1; try dsimp +zetaDelta only) | extract_lets | split | dsimp +zetaDelta only)

theorem rolls_State_dropXfer {a₀ s₀ : State} (h₀ : Rolls a₀ s₀) {src : Nat} :
    Rolls a₀ (State.dropXfer s₀ src) := by
  unfold State.dropXfer
  try extract_lets
  repeat' (first | with_reducible assumption | (fail_if_no_progress with_reducible apply Rolls.upd) | with_reducible apply Rolls.ite | with_reducible apply Rolls.ite1 | (with_reducible apply Rolls.foldl; intro s₁ x₁; have h₁ : Rolls s₁ s₁ := Rolls.refl s₁; try dsimp +zetaDelta only) | (with_reducible apply Rolls.foldl1; intro s₁ x₁; have h₁ : Rolls s₁.1 s₁.1 := Rolls.refl s₁.1; try dsimp +zetaDelta only) | extract_lets | split | dsimp +zetaDelta only)

theorem rolls_State_regulate {a₀ s₀ : State} (h₀ : Rolls a₀ s₀) {n : Nat} {c : Nat} {len : Nat} :
    Rolls a₀ (State.regulate s₀ n c len) := by
  unfold State.regulate
  try extract_lets
  repeat' (first | with_reducible assumption | with_reducible apply rolls_State_bumpBy | with_reducible apply rolls_State_pcEvent | (fail_if_no_progress with_reducible apply Rolls.upd) | with_reducible apply Rolls.ite | with_reducible apply Rolls.ite1 | (with_reducible apply Rolls.foldl; intro s₁ x₁; have h₁ : Rolls s₁ s₁ := Rolls.refl s₁; try dsimp +zetaDelta only) | (with_reducible apply Rolls.foldl1; intro s₁ x₁; have h₁ : Rolls s₁.1 s₁.1 := Rolls.refl s₁.1; try dsimp +zetaDelta only) | extract_lets | split | dsimp +zetaDelta only)

theorem rolls_State_flitPlain {a₀ s₀ : State} (h₀ : Rolls a₀ s₀) {n : Nat} {c : Nat} {len : Nat} :
    Rolls a₀ (State.flitPlain s₀ n c len) := by
  unfold State.flitPlain
  try extract_lets
  repeat' (first | with_reducible assumption | with_reducible apply rolls_State_bumpBy | with_reducible apply rolls_State_pcEvent | with_reducible apply rolls_State_regulate | (fail_if_no_progress with_reducible apply Rolls.upd) | with_reducible apply Rolls.ite | with_reducible apply Rolls.ite1 | (with_reducible apply Rolls.foldl; intro s₁ x₁; have h₁ : Rolls s₁ s₁ := Rolls.refl s₁; try dsimp +zetaDelta only) | (with_reducible apply Rolls.foldl1; intro s₁ x₁; have h₁ : Rolls s₁.1 s₁.1 := Rolls.refl s₁.1; try dsimp +zetaDelta only) | extract_lets | split | dsimp +zetaDelta only)

theorem rolls_State_sample {a₀ s₀ : State} (h₀ : Rolls a₀ s₀) {c : Nat} {measure : Nat} {filter : Nat} {v : Option Nat} :
    Rolls a₀ (State.sample s₀ c measure filter v) := by
  unfold State.sample
  try extract_lets
  repeat' (first | with_reducible assumption | (fail_if_no_progress with_reducible apply Rolls.upd) | with_reducible apply Rolls.ite | with_reducible apply Rolls.ite1 | (with_reducible apply Rolls.foldl; intro s₁ x₁; have h₁ : Rolls s₁ s₁ := Rolls.refl s₁; try dsimp +zetaDelta only) | (with_reducible apply Rolls.foldl1; intro s₁ x₁; have h₁ : Rolls s₁.1 s₁.1 := Rolls.refl s₁.1; try dsimp +zetaDelta only) | extract_lets | split | dsimp +zetaDelta only)

theorem rolls_State_timed {a₀ s₀ : State} (h₀ : Rolls a₀ s₀) {n : Nat} {c : Nat} :
    Rolls a₀ (State.timed s₀ n c).1 := by
  unfold State.timed
  try extract_lets
  repeat' (first | with_reducible assumption | (fail_if_no_progress with_reducible apply Rolls.upd) | with_reducible apply Rolls.ite | with_reducible apply Rolls.ite1 | (with_reducible apply Rolls.foldl; intro s₁ x₁; have h₁ : Rolls s₁ s₁ := Rolls.refl s₁; try dsimp +zetaDelta only) | (with_reducible apply Rolls.foldl1; intro s₁ x₁; have h₁ : Rolls s₁.1 s₁.1 := Rolls.refl s₁.1; try dsimp +zetaDelta only) | extract_lets | split | dsimp +zetaDelta only)

theorem rolls_State_timed_eq {a₀ s₀ u₀ : State} {y₀ : Bool} {n : Nat} {c : Nat} (e₀ : State.timed s₀ n c = (u₀, y₀)) (h₀ : Rolls a₀ s₀) :
    Rolls a₀ u₀ := by
  have k := @rolls_State_timed  a₀ s₀ h₀ n c
  rw [e₀] at k; exact k

theorem rolls_State_flit {a₀ s₀ : State} (h₀ : Rolls a₀ s₀) {n : Nat} {c : Nat} {len : Nat} {d : Nat} :
    Rolls a₀ (State.flit s₀ n c len d) := by
  unfold State.flit
  try extract_lets
  repeat' (first | with_reducible assumption | with_reducible refine rolls_State_timed_eq (by assumption) ?_ | with_reducible apply rolls_State_bump | with_reducible apply rolls_State_flitPlain | with_reducible apply rolls_State_sample | with_reducible apply rolls_State_timed | (fail_if_no_progress with_reducible apply Rolls.upd) | with_reducible apply Rolls.ite | with_reducible apply Rolls.ite1 | (with_reducible apply Rolls.foldl; intro s₁ x₁; have h₁ : Rolls s₁ s₁ := Rolls.refl s₁; try dsimp +zetaDelta only) | (with_reducible apply Rolls.foldl1; intro s₁ x₁; have h₁ : Rolls s₁.1 s₁.1 := Rolls.refl s₁.1; try dsimp +zetaDelta only) | extract_lets | split | dsimp +zetaDelta only)

theorem rolls_State_emitAs {a₀ s₀ : State} (h₀ : Rolls a₀ s₀) {code : Nat} {src : Nat} {aid : Option Sys2Proof.Aid} {args : List Nat} :
    Rolls a₀ (State.emitAs s₀ code src aid args) := by
  unfold State.emitAs
  try extract_lets
  repeat' (first | with_reducible assumption | with_reducible apply rolls_State_flit | (fail_if_no_progress with_reducible apply Rolls.upd) | with_reducible apply Rolls.ite | with_reducible apply Rolls.ite1 | (with_reducible apply Rolls.foldl; intro s₁ x₁; have h₁ : Rolls s₁ s₁ := Rolls.refl s₁; try dsimp +zetaDelta only) | (with_reducible apply Rolls.foldl1; intro s₁ x₁; have h₁ : Rolls s₁.1 s₁.1 := Rolls.refl s₁.1; try dsimp +zetaDelta only) | extract_lets | split | dsimp +zetaDelta only)

theorem rolls_State_emit {a₀ s₀ : State} (h₀ : Rolls a₀ s₀) {code : Nat} {k : Sys2Proof.NodeKind} {args : List Nat} {aid : optParam (Option Sys2Proof.Aid) none} :
    Rolls a₀ (State.emit s₀ code k args aid) := by
  unfold State.emit
  try extract_lets
  repeat' (first | with_reducible assumption | with_reducible apply rolls_State_emitAs | (fail_if_no_progress with_reducible apply Rolls.upd) | with_reducible apply Rolls.ite | with_reducible apply Rolls.ite1 | (with_reducible apply Rolls.foldl; intro s₁ x₁; have h₁ : Rolls s₁ s₁ := Rolls.refl s₁; try dsimp +zetaDelta only) | (with_reducible apply Rolls.foldl1; intro s₁ x₁; have h₁ : Rolls s₁.1 s₁.1 := Rolls.refl s₁.1; try dsimp +zetaDelta only) | extract_lets | split | dsimp +zetaDelta only)

theorem rolls_State_freeUsed {a₀ s₀ : State} (h₀ : Rolls a₀ s₀)  :
    Rolls a₀ (State.freeUsed s₀) := by
  unfold State.freeUsed
  try extract_lets
  repeat' (first | with_reducible assumption | (fail_if_no_progress with_reducible apply Rolls.upd) | with_reducible apply Rolls.ite | with_reducible apply Rolls.ite1 | (with_reducible apply Rolls.foldl; intro s₁ x₁; have h₁ : Rolls s₁ s₁ := Rolls.refl s₁; try dsimp +zetaDelta only) | (with_reducible apply Rolls.foldl1; intro s₁ x₁; have h₁ : Rolls s₁.1 s₁.1 := Rolls.refl s₁.1; try dsimp +zetaDelta only) | extract_lets | split | dsimp +zetaDelta only)

theorem rolls_State_levelEvents {a₀ s₀ : State} (h₀ : Rolls a₀ s₀) {i : Nat} {now : List (Nat × Nat)} {before : List (Nat × Nat)} {n : Nat} :
    Rolls a₀ (State.levelEvents s₀ i now before n) := by
  unfold State.levelEvents
  try extract_lets
  repeat' (first | with_reducible assumption | with_reducible apply rolls_State_pcAdd | (fail_if_no_progress with_reducible apply Rolls.upd) | with_reducible apply Rolls.ite | with_reducible apply Rolls.ite1 | (with_reducible apply Rolls.foldl; intro s₁ x₁; have h₁ : Rolls s₁ s₁ := Rolls.refl s₁; try dsimp +zetaDelta only) | (with_reducible apply Rolls.foldl1; intro s₁ x₁; have h₁ : Rolls s₁.1 s₁.1 := Rolls.refl s₁.1; try dsimp +zetaDelta only) | extract_lets | split | dsimp +zetaDelta only)

theorem rolls_State_modChan {a₀ s₀ : State} (h₀ : Rolls a₀ s₀) {c : Nat} {f : Chan → Chan} :
    Rolls a₀ (State.modChan s₀ c f) := by
  unfold State.modChan
  try extract_lets
  repeat' (first | with_reducible assumption | (fail_if_no_progress with_reducible apply Rolls.upd) | with_reducible apply Rolls.ite | with_reducible apply Rolls.ite1 | (with_reducible apply Rolls.foldl; intro s₁ x₁; have h₁ : Rolls s₁ s₁ := Rolls.refl s₁; try dsimp +zetaDelta only) | (with_reducible apply Rolls.foldl1; intro s₁ x₁; have h₁ : Rolls s₁.1 s₁.1 := Rolls.refl s₁.1; try dsimp +zetaDelta only) | extract_lets | split | dsimp +zetaDelta only)

theorem rolls_State_modClaim {a₀ s₀ : State} (h₀ : Rolls a₀ s₀) {t : Nat} {i : Nat} {g : Claim → Claim} :
    Rolls a₀ (State.modClaim s₀ t i g) := by
  unfold State.modClaim
  try extract_lets
  repeat' (first | with_reducible assumption | with_reducible apply rolls_State_modTill | (fail_if_no_progress with_reducible apply Rolls.upd) | with_reducible apply Rolls.ite | with_reducible apply Rolls.ite1 | (with_reducible apply Rolls.foldl; intro s₁ x₁; have h₁ : Rolls s₁ s₁ := Rolls.refl s₁; try dsimp +zetaDelta only) | (with_reducible apply Rolls.foldl1; intro s₁ x₁; have h₁ : Rolls s₁.1 s₁.1 := Rolls.refl s₁.1; try dsimp +zetaDelta only) | extract_lets | split | dsimp +zetaDelta only)

theorem rolls_State_modFolio {a₀ s₀ : State} (h₀ : Rolls a₀ s₀) {t : Nat} {f : Nat} {g : Folio → Folio} :
    Rolls a₀ (State.modFolio s₀ t f g) := by
  unfold State.modFolio
  try extract_lets
  repeat' (first | with_reducible assumption | with_reducible apply rolls_State_modTill | (fail_if_no_progress with_reducible apply Rolls.upd) | with_reducible apply Rolls.ite | with_reducible apply Rolls.ite1 | (with_reducible apply Rolls.foldl; intro s₁ x₁; have h₁ : Rolls s₁ s₁ := Rolls.refl s₁; try dsimp +zetaDelta only) | (with_reducible apply Rolls.foldl1; intro s₁ x₁; have h₁ : Rolls s₁.1 s₁.1 := Rolls.refl s₁.1; try dsimp +zetaDelta only) | extract_lets | split | dsimp +zetaDelta only)

theorem rolls_State_modGather {a₀ s₀ : State} (h₀ : Rolls a₀ s₀) {t : Nat} {c : Nat} {g : Gather → Gather} :
    Rolls a₀ (State.modGather s₀ t c g) := by
  unfold State.modGather
  try extract_lets
  repeat' (first | with_reducible assumption | with_reducible apply rolls_State_modTill | (fail_if_no_progress with_reducible apply Rolls.upd) | with_reducible apply Rolls.ite | with_reducible apply Rolls.ite1 | (with_reducible apply Rolls.foldl; intro s₁ x₁; have h₁ : Rolls s₁ s₁ := Rolls.refl s₁; try dsimp +zetaDelta only) | (with_reducible apply Rolls.foldl1; intro s₁ x₁; have h₁ : Rolls s₁.1 s₁.1 := Rolls.refl s₁.1; try dsimp +zetaDelta only) | extract_lets | split | dsimp +zetaDelta only)

theorem rolls_State_modLink {a₀ s₀ : State} (h₀ : Rolls a₀ s₀) {l : Nat} {f : Link → Link} :
    Rolls a₀ (State.modLink s₀ l f) := by
  unfold State.modLink
  try extract_lets
  repeat' (first | with_reducible assumption | (fail_if_no_progress with_reducible apply Rolls.upd) | with_reducible apply Rolls.ite | with_reducible apply Rolls.ite1 | (with_reducible apply Rolls.foldl; intro s₁ x₁; have h₁ : Rolls s₁ s₁ := Rolls.refl s₁; try dsimp +zetaDelta only) | (with_reducible apply Rolls.foldl1; intro s₁ x₁; have h₁ : Rolls s₁.1 s₁.1 := Rolls.refl s₁.1; try dsimp +zetaDelta only) | extract_lets | split | dsimp +zetaDelta only)

theorem rolls_State_modOp {a₀ s₀ : State} (h₀ : Rolls a₀ s₀) {t : Nat} {k : Nat} {g : SecOp → SecOp} :
    Rolls a₀ (State.modOp s₀ t k g) := by
  unfold State.modOp
  try extract_lets
  repeat' (first | with_reducible assumption | with_reducible apply rolls_State_modTill | (fail_if_no_progress with_reducible apply Rolls.upd) | with_reducible apply Rolls.ite | with_reducible apply Rolls.ite1 | (with_reducible apply Rolls.foldl; intro s₁ x₁; have h₁ : Rolls s₁ s₁ := Rolls.refl s₁; try dsimp +zetaDelta only) | (with_reducible apply Rolls.foldl1; intro s₁ x₁; have h₁ : Rolls s₁.1 s₁.1 := Rolls.refl s₁.1; try dsimp +zetaDelta only) | extract_lets | split | dsimp +zetaDelta only)

theorem rolls_State_modSession {a₀ s₀ : State} (h₀ : Rolls a₀ s₀) {k : Nat} {f : Session → Session} :
    Rolls a₀ (State.modSession s₀ k f) := by
  unfold State.modSession
  try extract_lets
  repeat' (first | with_reducible assumption | (fail_if_no_progress with_reducible apply Rolls.upd) | with_reducible apply Rolls.ite | with_reducible apply Rolls.ite1 | (with_reducible apply Rolls.foldl; intro s₁ x₁; have h₁ : Rolls s₁ s₁ := Rolls.refl s₁; try dsimp +zetaDelta only) | (with_reducible apply Rolls.foldl1; intro s₁ x₁; have h₁ : Rolls s₁.1 s₁.1 := Rolls.refl s₁.1; try dsimp +zetaDelta only) | extract_lets | split | dsimp +zetaDelta only)

theorem rolls_State_modShape {a₀ s₀ : State} (h₀ : Rolls a₀ s₀) {n : Nat} {g : AgShape → AgShape} :
    Rolls a₀ (State.modShape s₀ n g) := by
  unfold State.modShape
  try extract_lets
  repeat' (first | with_reducible assumption | (fail_if_no_progress with_reducible apply Rolls.upd) | with_reducible apply Rolls.ite | with_reducible apply Rolls.ite1 | (with_reducible apply Rolls.foldl; intro s₁ x₁; have h₁ : Rolls s₁ s₁ := Rolls.refl s₁; try dsimp +zetaDelta only) | (with_reducible apply Rolls.foldl1; intro s₁ x₁; have h₁ : Rolls s₁.1 s₁.1 := Rolls.refl s₁.1; try dsimp +zetaDelta only) | extract_lets | split | dsimp +zetaDelta only)

theorem rolls_State_modWicket {a₀ s₀ : State} (h₀ : Rolls a₀ s₀) {w : Nat} {f : Wicket → Wicket} :
    Rolls a₀ (State.modWicket s₀ w f) := by
  unfold State.modWicket
  try extract_lets
  repeat' (first | with_reducible assumption | (fail_if_no_progress with_reducible apply Rolls.upd) | with_reducible apply Rolls.ite | with_reducible apply Rolls.ite1 | (with_reducible apply Rolls.foldl; intro s₁ x₁; have h₁ : Rolls s₁ s₁ := Rolls.refl s₁; try dsimp +zetaDelta only) | (with_reducible apply Rolls.foldl1; intro s₁ x₁; have h₁ : Rolls s₁.1 s₁.1 := Rolls.refl s₁.1; try dsimp +zetaDelta only) | extract_lets | split | dsimp +zetaDelta only)

theorem rolls_State_modShaper {a₀ s₀ : State} (h₀ : Rolls a₀ s₀) {f : Sys2Proof.Func} {g : Shaper → Shaper} :
    Rolls a₀ (State.modShaper s₀ f g) := by
  unfold State.modShaper
  try extract_lets
  repeat' (first | with_reducible assumption | with_reducible apply rolls_State_modShape | with_reducible apply rolls_State_modWicket | (fail_if_no_progress with_reducible apply Rolls.upd) | with_reducible apply Rolls.ite | with_reducible apply Rolls.ite1 | (with_reducible apply Rolls.foldl; intro s₁ x₁; have h₁ : Rolls s₁ s₁ := Rolls.refl s₁; try dsimp +zetaDelta only) | (with_reducible apply Rolls.foldl1; intro s₁ x₁; have h₁ : Rolls s₁.1 s₁.1 := Rolls.refl s₁.1; try dsimp +zetaDelta only) | extract_lets | split | dsimp +zetaDelta only)

theorem rolls_State_modStep {a₀ s₀ : State} (h₀ : Rolls a₀ s₀) {src : Nat} {dst : Nat} {f : RouteStep → RouteStep} :
    Rolls a₀ (State.modStep s₀ src dst f) := by
  unfold State.modStep
  try extract_lets
  repeat' (first | with_reducible assumption | (fail_if_no_progress with_reducible apply Rolls.upd) | with_reducible apply Rolls.ite | with_reducible apply Rolls.ite1 | (with_reducible apply Rolls.foldl; intro s₁ x₁; have h₁ : Rolls s₁ s₁ := Rolls.refl s₁; try dsimp +zetaDelta only) | (with_reducible apply Rolls.foldl1; intro s₁ x₁; have h₁ : Rolls s₁.1 s₁.1 := Rolls.refl s₁.1; try dsimp +zetaDelta only) | extract_lets | split | dsimp +zetaDelta only)

theorem rolls_State_modWsAgent {a₀ s₀ : State} (h₀ : Rolls a₀ s₀) {a : Nat} {g : WsAgent → WsAgent} :
    Rolls a₀ (State.modWsAgent s₀ a g) := by
  unfold State.modWsAgent
  try extract_lets
  repeat' (first | with_reducible assumption | (fail_if_no_progress with_reducible apply Rolls.upd) | with_reducible apply Rolls.ite | with_reducible apply Rolls.ite1 | (with_reducible apply Rolls.foldl; intro s₁ x₁; have h₁ : Rolls s₁ s₁ := Rolls.refl s₁; try dsimp +zetaDelta only) | (with_reducible apply Rolls.foldl1; intro s₁ x₁; have h₁ : Rolls s₁.1 s₁.1 := Rolls.refl s₁.1; try dsimp +zetaDelta only) | extract_lets | split | dsimp +zetaDelta only)

theorem rolls_State_modXfer {a₀ s₀ : State} (h₀ : Rolls a₀ s₀) {src : Nat} {f : Transfer → Transfer} :
    Rolls a₀ (State.modXfer s₀ src f) := by
  unfold State.modXfer
  try extract_lets
  repeat' (first | with_reducible assumption | (fail_if_no_progress with_reducible apply Rolls.upd) | with_reducible apply Rolls.ite | with_reducible apply Rolls.ite1 | (with_reducible apply Rolls.foldl; intro s₁ x₁; have h₁ : Rolls s₁ s₁ := Rolls.refl s₁; try dsimp +zetaDelta only) | (with_reducible apply Rolls.foldl1; intro s₁ x₁; have h₁ : Rolls s₁.1 s₁.1 := Rolls.refl s₁.1; try dsimp +zetaDelta only) | extract_lets | split | dsimp +zetaDelta only)

theorem rolls_State_note {a₀ s₀ : State} (h₀ : Rolls a₀ s₀) {c : J} {k : Sys2Proof.NodeKind} {args : List Nat} {aid : optParam (Option Sys2Proof.Aid) none} :
    Rolls a₀ (State.note s₀ c k args aid) := by
  unfold State.note
  try extract_lets
  repeat' (first | with_reducible assumption | with_reducible apply rolls_State_emit | (fail_if_no_progress with_reducible apply Rolls.upd) | with_reducible apply Rolls.ite | with_reducible apply Rolls.ite1 | (with_reducible apply Rolls.foldl; intro s₁ x₁; have h₁ : Rolls s₁ s₁ := Rolls.refl s₁; try dsimp +zetaDelta only) | (with_reducible apply Rolls.foldl1; intro s₁ x₁; have h₁ : Rolls s₁.1 s₁.1 := Rolls.refl s₁.1; try dsimp +zetaDelta only) | extract_lets | split | dsimp +zetaDelta only)

theorem rolls_State_send {a₀ s₀ : State} (h₀ : Rolls a₀ s₀) {o : Out} :
    Rolls a₀ (State.send s₀ o) := by
  unfold State.send
  try extract_lets
  repeat' (first | with_reducible assumption | (fail_if_no_progress with_reducible apply Rolls.upd) | with_reducible apply Rolls.ite | with_reducible apply Rolls.ite1 | (with_reducible apply Rolls.foldl; intro s₁ x₁; have h₁ : Rolls s₁ s₁ := Rolls.refl s₁; try dsimp +zetaDelta only) | (with_reducible apply Rolls.foldl1; intro s₁ x₁; have h₁ : Rolls s₁.1 s₁.1 := Rolls.refl s₁.1; try dsimp +zetaDelta only) | extract_lets | split | dsimp +zetaDelta only)

theorem rolls_State_noticed {a₀ s₀ : State} (h₀ : Rolls a₀ s₀) {k : Nat} :
    Rolls a₀ (State.noticed s₀ k) := by
  unfold State.noticed
  try extract_lets
  repeat' (first | with_reducible assumption | with_reducible apply rolls_State_bump | with_reducible apply rolls_State_send | (fail_if_no_progress with_reducible apply Rolls.upd) | with_reducible apply Rolls.ite | with_reducible apply Rolls.ite1 | (with_reducible apply Rolls.foldl; intro s₁ x₁; have h₁ : Rolls s₁ s₁ := Rolls.refl s₁; try dsimp +zetaDelta only) | (with_reducible apply Rolls.foldl1; intro s₁ x₁; have h₁ : Rolls s₁.1 s₁.1 := Rolls.refl s₁.1; try dsimp +zetaDelta only) | extract_lets | split | dsimp +zetaDelta only)

theorem rolls_State_packet {a₀ s₀ : State} (h₀ : Rolls a₀ s₀) {a : Sys2Proof.NodeKind} {c : Nat} {len : Nat} {b : Sys2Proof.NodeKind} :
    Rolls a₀ (State.packet s₀ a c len b) := by
  unfold State.packet
  try extract_lets
  repeat' (first | with_reducible assumption | with_reducible apply rolls_State_flit | (fail_if_no_progress with_reducible apply Rolls.upd) | with_reducible apply Rolls.ite | with_reducible apply Rolls.ite1 | (with_reducible apply Rolls.foldl; intro s₁ x₁; have h₁ : Rolls s₁ s₁ := Rolls.refl s₁; try dsimp +zetaDelta only) | (with_reducible apply Rolls.foldl1; intro s₁ x₁; have h₁ : Rolls s₁.1 s₁.1 := Rolls.refl s₁.1; try dsimp +zetaDelta only) | extract_lets | split | dsimp +zetaDelta only)

theorem rolls_State_popP {a₀ s₀ : State} (h₀ : Rolls a₀ s₀) {t : Nat} {w : Nat} :
    Rolls a₀ (State.popP s₀ t w) := by
  unfold State.popP
  try extract_lets
  repeat' (first | with_reducible assumption | (fail_if_no_progress with_reducible apply Rolls.upd) | with_reducible apply Rolls.ite | with_reducible apply Rolls.ite1 | (with_reducible apply Rolls.foldl; intro s₁ x₁; have h₁ : Rolls s₁ s₁ := Rolls.refl s₁; try dsimp +zetaDelta only) | (with_reducible apply Rolls.foldl1; intro s₁ x₁; have h₁ : Rolls s₁.1 s₁.1 := Rolls.refl s₁.1; try dsimp +zetaDelta only) | extract_lets | split | dsimp +zetaDelta only)

theorem rolls_State_popW {a₀ s₀ : State} (h₀ : Rolls a₀ s₀) {w : Nat} {t : Nat} :
    Rolls a₀ (State.popW s₀ w t) := by
  unfold State.popW
  try extract_lets
  repeat' (first | with_reducible assumption | (fail_if_no_progress with_reducible apply Rolls.upd) | with_reducible apply Rolls.ite | with_reducible apply Rolls.ite1 | (with_reducible apply Rolls.foldl; intro s₁ x₁; have h₁ : Rolls s₁ s₁ := Rolls.refl s₁; try dsimp +zetaDelta only) | (with_reducible apply Rolls.foldl1; intro s₁ x₁; have h₁ : Rolls s₁.1 s₁.1 := Rolls.refl s₁.1; try dsimp +zetaDelta only) | extract_lets | split | dsimp +zetaDelta only)

theorem rolls_State_sendP {a₀ s₀ : State} (h₀ : Rolls a₀ s₀) {t : Nat} {w : Nat} {m : PMsg} :
    Rolls a₀ (State.sendP s₀ t w m) := by
  unfold State.sendP
  try extract_lets
  repeat' (first | with_reducible assumption | with_reducible apply rolls_State_packet | (fail_if_no_progress with_reducible apply Rolls.upd) | with_reducible apply Rolls.ite | with_reducible apply Rolls.ite1 | (with_reducible apply Rolls.foldl; intro s₁ x₁; have h₁ : Rolls s₁ s₁ := Rolls.refl s₁; try dsimp +zetaDelta only) | (with_reducible apply Rolls.foldl1; intro s₁ x₁; have h₁ : Rolls s₁.1 s₁.1 := Rolls.refl s₁.1; try dsimp +zetaDelta only) | extract_lets | split | dsimp +zetaDelta only)

theorem rolls_State_sendW {a₀ s₀ : State} (h₀ : Rolls a₀ s₀) {w : Nat} {t : Nat} {m : WMsg} :
    Rolls a₀ (State.sendW s₀ w t m) := by
  unfold State.sendW
  try extract_lets
  repeat' (first | with_reducible assumption | with_reducible apply rolls_State_packet | (fail_if_no_progress with_reducible apply Rolls.upd) | with_reducible apply Rolls.ite | with_reducible apply Rolls.ite1 | (with_reducible apply Rolls.foldl; intro s₁ x₁; have h₁ : Rolls s₁ s₁ := Rolls.refl s₁; try dsimp +zetaDelta only) | (with_reducible apply Rolls.foldl1; intro s₁ x₁; have h₁ : Rolls s₁.1 s₁.1 := Rolls.refl s₁.1; try dsimp +zetaDelta only) | extract_lets | split | dsimp +zetaDelta only)

theorem rolls_State_setFolio {a₀ s₀ : State} (h₀ : Rolls a₀ s₀) {t : Nat} {f : Nat} {x : Folio} :
    Rolls a₀ (State.setFolio s₀ t f x) := by
  unfold State.setFolio
  try extract_lets
  repeat' (first | with_reducible assumption | with_reducible apply rolls_State_modTill | (fail_if_no_progress with_reducible apply Rolls.upd) | with_reducible apply Rolls.ite | with_reducible apply Rolls.ite1 | (with_reducible apply Rolls.foldl; intro s₁ x₁; have h₁ : Rolls s₁ s₁ := Rolls.refl s₁; try dsimp +zetaDelta only) | (with_reducible apply Rolls.foldl1; intro s₁ x₁; have h₁ : Rolls s₁.1 s₁.1 := Rolls.refl s₁.1; try dsimp +zetaDelta only) | extract_lets | split | dsimp +zetaDelta only)

theorem rolls_State_setRawI {a₀ s₀ : State} (h₀ : Rolls a₀ s₀) {i : Nat} {j : Nat} {x : Int} :
    Rolls a₀ (State.setRawI s₀ i j x) := by
  unfold State.setRawI
  try extract_lets
  repeat' (first | with_reducible assumption | with_reducible apply rolls_State_setRawN | (fail_if_no_progress with_reducible apply Rolls.upd) | with_reducible apply Rolls.ite | with_reducible apply Rolls.ite1 | (with_reducible apply Rolls.foldl; intro s₁ x₁; have h₁ : Rolls s₁ s₁ := Rolls.refl s₁; try dsimp +zetaDelta only) | (with_reducible apply Rolls.foldl1; intro s₁ x₁; have h₁ : Rolls s₁.1 s₁.1 := Rolls.refl s₁.1; try dsimp +zetaDelta only) | extract_lets | split | dsimp +zetaDelta only)

theorem rolls_State_slot {a₀ s₀ : State} (h₀ : Rolls a₀ s₀) {t : Nat} {cls : Nat} {n : Nat} :
    Rolls a₀ (State.slot s₀ t cls n) := by
  unfold State.slot
  try extract_lets
  repeat' (first | with_reducible assumption | with_reducible apply rolls_State_modTill | (fail_if_no_progress with_reducible apply Rolls.upd) | with_reducible apply Rolls.ite | with_reducible apply Rolls.ite1 | (with_reducible apply Rolls.foldl; intro s₁ x₁; have h₁ : Rolls s₁ s₁ := Rolls.refl s₁; try dsimp +zetaDelta only) | (with_reducible apply Rolls.foldl1; intro s₁ x₁; have h₁ : Rolls s₁.1 s₁.1 := Rolls.refl s₁.1; try dsimp +zetaDelta only) | extract_lets | split | dsimp +zetaDelta only)

theorem rolls_State_tev {a₀ s₀ : State} (h₀ : Rolls a₀ s₀) {t : Nat} {code : Nat} {unit : optParam Nat 255} :
    Rolls a₀ (State.tev s₀ t code unit) := by
  unfold State.tev
  try extract_lets
  repeat' (first | with_reducible assumption | with_reducible apply rolls_State_pcEvent | (fail_if_no_progress with_reducible apply Rolls.upd) | with_reducible apply Rolls.ite | with_reducible apply Rolls.ite1 | (with_reducible apply Rolls.foldl; intro s₁ x₁; have h₁ : Rolls s₁ s₁ := Rolls.refl s₁; try dsimp +zetaDelta only) | (with_reducible apply Rolls.foldl1; intro s₁ x₁; have h₁ : Rolls s₁.1 s₁.1 := Rolls.refl s₁.1; try dsimp +zetaDelta only) | extract_lets | split | dsimp +zetaDelta only)

theorem rolls_State_slotRetired {a₀ s₀ : State} (h₀ : Rolls a₀ s₀) {t : Nat} :
    Rolls a₀ (State.slotRetired s₀ t) := by
  unfold State.slotRetired
  try extract_lets
  repeat' (first | with_reducible assumption | with_reducible apply rolls_State_slot | with_reducible apply rolls_State_tev | (fail_if_no_progress with_reducible apply Rolls.upd) | with_reducible apply Rolls.ite | with_reducible apply Rolls.ite1 | (with_reducible apply Rolls.foldl; intro s₁ x₁; have h₁ : Rolls s₁ s₁ := Rolls.refl s₁; try dsimp +zetaDelta only) | (with_reducible apply Rolls.foldl1; intro s₁ x₁; have h₁ : Rolls s₁.1 s₁.1 := Rolls.refl s₁.1; try dsimp +zetaDelta only) | extract_lets | split | dsimp +zetaDelta only)

theorem rolls_State_slotWasted {a₀ s₀ : State} (h₀ : Rolls a₀ s₀) {t : Nat} :
    Rolls a₀ (State.slotWasted s₀ t) := by
  unfold State.slotWasted
  try extract_lets
  repeat' (first | with_reducible assumption | with_reducible apply rolls_State_slot | with_reducible apply rolls_State_tev | (fail_if_no_progress with_reducible apply Rolls.upd) | with_reducible apply Rolls.ite | with_reducible apply Rolls.ite1 | (with_reducible apply Rolls.foldl; intro s₁ x₁; have h₁ : Rolls s₁ s₁ := Rolls.refl s₁; try dsimp +zetaDelta only) | (with_reducible apply Rolls.foldl1; intro s₁ x₁; have h₁ : Rolls s₁.1 s₁.1 := Rolls.refl s₁.1; try dsimp +zetaDelta only) | extract_lets | split | dsimp +zetaDelta only)

theorem rolls_countCancel {a₀ s₀ : State} (h₀ : Rolls a₀ s₀) {t : Nat} {x : Folio} :
    Rolls a₀ (countCancel s₀ t x) := by
  unfold countCancel
  try extract_lets
  repeat' (first | with_reducible assumption | with_reducible apply rolls_State_bump | with_reducible apply rolls_State_tev | (fail_if_no_progress with_reducible apply Rolls.upd) | with_reducible apply Rolls.ite | with_reducible apply Rolls.ite1 | (with_reducible apply Rolls.foldl; intro s₁ x₁; have h₁ : Rolls s₁ s₁ := Rolls.refl s₁; try dsimp +zetaDelta only) | (with_reducible apply Rolls.foldl1; intro s₁ x₁; have h₁ : Rolls s₁.1 s₁.1 := Rolls.refl s₁.1; try dsimp +zetaDelta only) | extract_lets | split | dsimp +zetaDelta only)

theorem rolls_issueAcc {a₀ s₀ : State} (h₀ : Rolls a₀ s₀) {t : Nat} {a : MemAcc} :
    Rolls a₀ (issueAcc s₀ t a) := by
  unfold issueAcc
  try extract_lets
  repeat' (first | with_reducible assumption | with_reducible apply rolls_State_gev | with_reducible apply rolls_State_modFolio | with_reducible apply rolls_State_modTill | with_reducible apply rolls_State_packet | with_reducible apply rolls_State_send | (fail_if_no_progress with_reducible apply Rolls.upd) | with_reducible apply Rolls.ite | with_reducible apply Rolls.ite1 | (with_reducible apply Rolls.foldl; intro s₁ x₁; have h₁ : Rolls s₁ s₁ := Rolls.refl s₁; try dsimp +zetaDelta only) | (with_reducible apply Rolls.foldl1; intro s₁ x₁; have h₁ : Rolls s₁.1 s₁.1 := Rolls.refl s₁.1; try dsimp +zetaDelta only) | extract_lets | split | dsimp +zetaDelta only)

theorem rolls_drainMem {a₀ s₀ : State} (h₀ : Rolls a₀ s₀) {t : Nat} :
    Rolls a₀ (drainMem s₀ t) := by
  unfold drainMem
  try extract_lets
  repeat' (first | with_reducible assumption | with_reducible apply rolls_State_modTill | with_reducible apply rolls_issueAcc | (fail_if_no_progress with_reducible apply Rolls.upd) | with_reducible apply Rolls.ite | with_reducible apply Rolls.ite1 | (with_reducible apply Rolls.foldl; intro s₁ x₁; have h₁ : Rolls s₁ s₁ := Rolls.refl s₁; try dsimp +zetaDelta only) | (with_reducible apply Rolls.foldl1; intro s₁ x₁; have h₁ : Rolls s₁.1 s₁.1 := Rolls.refl s₁.1; try dsimp +zetaDelta only) | extract_lets | split | dsimp +zetaDelta only)

theorem rolls_pushAcc {a₀ s₀ : State} (h₀ : Rolls a₀ s₀) {t : Nat} {a : MemAcc} :
    Rolls a₀ (pushAcc s₀ t a) := by
  unfold pushAcc
  try extract_lets
  repeat' (first | with_reducible assumption | with_reducible apply rolls_State_modTill | with_reducible apply rolls_drainMem | (fail_if_no_progress with_reducible apply Rolls.upd) | with_reducible apply Rolls.ite | with_reducible apply Rolls.ite1 | (with_reducible apply Rolls.foldl; intro s₁ x₁; have h₁ : Rolls s₁ s₁ := Rolls.refl s₁; try dsimp +zetaDelta only) | (with_reducible apply Rolls.foldl1; intro s₁ x₁; have h₁ : Rolls s₁.1 s₁.1 := Rolls.refl s₁.1; try dsimp +zetaDelta only) | extract_lets | split | dsimp +zetaDelta only)

theorem rolls_cancelRead {a₀ s₀ : State} (h₀ : Rolls a₀ s₀) {t : Nat} {f : Nat} :
    Rolls a₀ (cancelRead s₀ t f) := by
  unfold cancelRead
  try extract_lets
  repeat' (first | with_reducible assumption | with_reducible apply rolls_State_modFolio | with_reducible apply rolls_State_modTill | with_reducible apply rolls_countCancel | with_reducible apply rolls_pushAcc | (fail_if_no_progress with_reducible apply Rolls.upd) | with_reducible apply Rolls.ite | with_reducible apply Rolls.ite1 | (with_reducible apply Rolls.foldl; intro s₁ x₁; have h₁ : Rolls s₁ s₁ := Rolls.refl s₁; try dsimp +zetaDelta only) | (with_reducible apply Rolls.foldl1; intro s₁ x₁; have h₁ : Rolls s₁.1 s₁.1 := Rolls.refl s₁.1; try dsimp +zetaDelta only) | extract_lets | split | dsimp +zetaDelta only)

theorem rolls_block {a₀ s₀ : State} (h₀ : Rolls a₀ s₀) {t : Nat} {f : Nat} :
    Rolls a₀ (block s₀ t f) := by
  unfold block
  try extract_lets
  repeat' (first | with_reducible assumption | with_reducible apply rolls_State_modFolio | with_reducible apply rolls_cancelRead | (fail_if_no_progress with_reducible apply Rolls.upd) | with_reducible apply Rolls.ite | with_reducible apply Rolls.ite1 | (with_reducible apply Rolls.foldl; intro s₁ x₁; have h₁ : Rolls s₁ s₁ := Rolls.refl s₁; try dsimp +zetaDelta only) | (with_reducible apply Rolls.foldl1; intro s₁ x₁; have h₁ : Rolls s₁.1 s₁.1 := Rolls.refl s₁.1; try dsimp +zetaDelta only) | extract_lets | split | dsimp +zetaDelta only)

theorem rolls_clearMons {a₀ s₀ : State} (h₀ : Rolls a₀ s₀) {t : Nat} {p : Monitor → Bool} {lost : Bool} :
    Rolls a₀ (clearMons s₀ t p lost) := by
  unfold clearMons
  try extract_lets
  repeat' (first | with_reducible assumption | with_reducible apply rolls_State_bumpBy | with_reducible apply rolls_State_modTill | (fail_if_no_progress with_reducible apply Rolls.upd) | with_reducible apply Rolls.ite | with_reducible apply Rolls.ite1 | (with_reducible apply Rolls.foldl; intro s₁ x₁; have h₁ : Rolls s₁ s₁ := Rolls.refl s₁; try dsimp +zetaDelta only) | (with_reducible apply Rolls.foldl1; intro s₁ x₁; have h₁ : Rolls s₁.1 s₁.1 := Rolls.refl s₁.1; try dsimp +zetaDelta only) | extract_lets | split | dsimp +zetaDelta only)

theorem rolls_armMon {a₀ s₀ : State} (h₀ : Rolls a₀ s₀) {t : Nat} {x : Folio} {owner : Option Sys2Proof.Aid} :
    Rolls a₀ (armMon s₀ t x owner).1 := by
  unfold armMon
  try extract_lets
  repeat' (first | with_reducible assumption | with_reducible apply rolls_State_bump | with_reducible apply rolls_State_modTill | with_reducible apply rolls_clearMons | (fail_if_no_progress with_reducible apply Rolls.upd) | with_reducible apply Rolls.ite | with_reducible apply Rolls.ite1 | (with_reducible apply Rolls.foldl; intro s₁ x₁; have h₁ : Rolls s₁ s₁ := Rolls.refl s₁; try dsimp +zetaDelta only) | (with_reducible apply Rolls.foldl1; intro s₁ x₁; have h₁ : Rolls s₁.1 s₁.1 := Rolls.refl s₁.1; try dsimp +zetaDelta only) | extract_lets | split | dsimp +zetaDelta only)

theorem rolls_armMon_eq {a₀ s₀ u₀ : State} {y₀ : Bool} {t : Nat} {x : Folio} {owner : Option Sys2Proof.Aid} (e₀ : armMon s₀ t x owner = (u₀, y₀)) (h₀ : Rolls a₀ s₀) :
    Rolls a₀ u₀ := by
  have k := @rolls_armMon  a₀ s₀ h₀ t x owner
  rw [e₀] at k; exact k

theorem rolls_clearOthers {a₀ s₀ : State} (h₀ : Rolls a₀ s₀) {t : Nat} {l : Sys2Proof.Line} {r : Sys2Proof.Aid} :
    Rolls a₀ (clearOthers s₀ t l r) := by
  unfold clearOthers
  try extract_lets
  repeat' (first | with_reducible assumption | with_reducible apply rolls_clearMons | (fail_if_no_progress with_reducible apply Rolls.upd) | with_reducible apply Rolls.ite | with_reducible apply Rolls.ite1 | (with_reducible apply Rolls.foldl; intro s₁ x₁; have h₁ : Rolls s₁ s₁ := Rolls.refl s₁; try dsimp +zetaDelta only) | (with_reducible apply Rolls.foldl1; intro s₁ x₁; have h₁ : Rolls s₁.1 s₁.1 := Rolls.refl s₁.1; try dsimp +zetaDelta only) | extract_lets | split | dsimp +zetaDelta only)

theorem rolls_clearOwn {a₀ s₀ : State} (h₀ : Rolls a₀ s₀) {t : Nat} {l : Sys2Proof.Line} {r : Sys2Proof.Aid} :
    Rolls a₀ (clearOwn s₀ t l r) := by
  unfold clearOwn
  try extract_lets
  repeat' (first | with_reducible assumption | with_reducible apply rolls_clearMons | (fail_if_no_progress with_reducible apply Rolls.upd) | with_reducible apply Rolls.ite | with_reducible apply Rolls.ite1 | (with_reducible apply Rolls.foldl; intro s₁ x₁; have h₁ : Rolls s₁ s₁ := Rolls.refl s₁; try dsimp +zetaDelta only) | (with_reducible apply Rolls.foldl1; intro s₁ x₁; have h₁ : Rolls s₁.1 s₁.1 := Rolls.refl s₁.1; try dsimp +zetaDelta only) | extract_lets | split | dsimp +zetaDelta only)

theorem rolls_closeChain {a₀ s₀ : State} (h₀ : Rolls a₀ s₀) {t : Nat} {l : Sys2Proof.Line} :
    Rolls a₀ (closeChain s₀ t l) := by
  unfold closeChain
  try extract_lets
  repeat' (first | with_reducible assumption | with_reducible apply rolls_State_modTill | (fail_if_no_progress with_reducible apply Rolls.upd) | with_reducible apply Rolls.ite | with_reducible apply Rolls.ite1 | (with_reducible apply Rolls.foldl; intro s₁ x₁; have h₁ : Rolls s₁ s₁ := Rolls.refl s₁; try dsimp +zetaDelta only) | (with_reducible apply Rolls.foldl1; intro s₁ x₁; have h₁ : Rolls s₁.1 s₁.1 := Rolls.refl s₁.1; try dsimp +zetaDelta only) | extract_lets | split | dsimp +zetaDelta only)

theorem rolls_handOn {a₀ s₀ : State} (h₀ : Rolls a₀ s₀) {t : Nat} {f : Nat} :
    Rolls a₀ (handOn s₀ t f) := by
  unfold handOn
  try extract_lets
  repeat' (first | with_reducible assumption | with_reducible apply rolls_State_modFolio | with_reducible apply rolls_State_modTill | with_reducible apply rolls_closeChain | (fail_if_no_progress with_reducible apply Rolls.upd) | with_reducible apply Rolls.ite | with_reducible apply Rolls.ite1 | (with_reducible apply Rolls.foldl; intro s₁ x₁; have h₁ : Rolls s₁ s₁ := Rolls.refl s₁; try dsimp +zetaDelta only) | (with_reducible apply Rolls.foldl1; intro s₁ x₁; have h₁ : Rolls s₁.1 s₁.1 := Rolls.refl s₁.1; try dsimp +zetaDelta only) | extract_lets | split | dsimp +zetaDelta only)

theorem rolls_readGroup {a₀ s₀ : State} (h₀ : Rolls a₀ s₀) {t : Nat} {f : Nat} {p : Nat} {g : Nat} :
    Rolls a₀ (readGroup s₀ t f p g) := by
  unfold readGroup
  try extract_lets
  repeat' (first | with_reducible assumption | with_reducible apply rolls_State_modFolio | with_reducible apply rolls_pushAcc | (fail_if_no_progress with_reducible apply Rolls.upd) | with_reducible apply Rolls.ite | with_reducible apply Rolls.ite1 | (with_reducible apply Rolls.foldl; intro s₁ x₁; have h₁ : Rolls s₁ s₁ := Rolls.refl s₁; try dsimp +zetaDelta only) | (with_reducible apply Rolls.foldl1; intro s₁ x₁; have h₁ : Rolls s₁.1 s₁.1 := Rolls.refl s₁.1; try dsimp +zetaDelta only) | extract_lets | split | dsimp +zetaDelta only)

theorem rolls_runGroups {a₀ s₀ : State} (h₀ : Rolls a₀ s₀) {t : Nat} :
    Rolls a₀ (runGroups s₀ t) := by
  unfold runGroups
  try extract_lets
  repeat' (first | with_reducible assumption | with_reducible apply rolls_State_modTill | with_reducible apply rolls_readGroup | (fail_if_no_progress with_reducible apply Rolls.upd) | with_reducible apply Rolls.ite | with_reducible apply Rolls.ite1 | (with_reducible apply Rolls.foldl; intro s₁ x₁; have h₁ : Rolls s₁ s₁ := Rolls.refl s₁; try dsimp +zetaDelta only) | (with_reducible apply Rolls.foldl1; intro s₁ x₁; have h₁ : Rolls s₁.1 s₁.1 := Rolls.refl s₁.1; try dsimp +zetaDelta only) | extract_lets | split | dsimp +zetaDelta only)

theorem rolls_startGroup {a₀ s₀ : State} (h₀ : Rolls a₀ s₀) {t : Nat} {sec : Nat} {k : GroupKind} {f : Nat} :
    Rolls a₀ (startGroup s₀ t sec k f) := by
  unfold startGroup
  try extract_lets
  repeat' (first | with_reducible assumption | with_reducible apply rolls_State_modTill | with_reducible apply rolls_runGroups | (fail_if_no_progress with_reducible apply Rolls.upd) | with_reducible apply Rolls.ite | with_reducible apply Rolls.ite1 | (with_reducible apply Rolls.foldl; intro s₁ x₁; have h₁ : Rolls s₁ s₁ := Rolls.refl s₁; try dsimp +zetaDelta only) | (with_reducible apply Rolls.foldl1; intro s₁ x₁; have h₁ : Rolls s₁.1 s₁.1 := Rolls.refl s₁.1; try dsimp +zetaDelta only) | extract_lets | split | dsimp +zetaDelta only)

theorem rolls_leaveResident {a₀ s₀ : State} (h₀ : Rolls a₀ s₀) {t : Nat} {f : Nat} :
    Rolls a₀ (leaveResident s₀ t f) := by
  unfold leaveResident
  try extract_lets
  repeat' (first | with_reducible assumption | with_reducible apply rolls_State_modTill | with_reducible apply rolls_startGroup | (fail_if_no_progress with_reducible apply Rolls.upd) | with_reducible apply Rolls.ite | with_reducible apply Rolls.ite1 | (with_reducible apply Rolls.foldl; intro s₁ x₁; have h₁ : Rolls s₁ s₁ := Rolls.refl s₁; try dsimp +zetaDelta only) | (with_reducible apply Rolls.foldl1; intro s₁ x₁; have h₁ : Rolls s₁.1 s₁.1 := Rolls.refl s₁.1; try dsimp +zetaDelta only) | extract_lets | split | dsimp +zetaDelta only)

theorem rolls_traceFolio {a₀ s₀ : State} (h₀ : Rolls a₀ s₀) {t : Nat} {x : Folio} :
    Rolls a₀ (traceFolio s₀ t x) := by
  unfold traceFolio
  try extract_lets
  repeat' (first | with_reducible assumption | with_reducible apply rolls_State_note | (fail_if_no_progress with_reducible apply Rolls.upd) | with_reducible apply Rolls.ite | with_reducible apply Rolls.ite1 | (with_reducible apply Rolls.foldl; intro s₁ x₁; have h₁ : Rolls s₁ s₁ := Rolls.refl s₁; try dsimp +zetaDelta only) | (with_reducible apply Rolls.foldl1; intro s₁ x₁; have h₁ : Rolls s₁.1 s₁.1 := Rolls.refl s₁.1; try dsimp +zetaDelta only) | extract_lets | split | dsimp +zetaDelta only)

theorem rolls_retire {a₀ s₀ : State} (h₀ : Rolls a₀ s₀) {t : Nat} {f : Nat} :
    Rolls a₀ (retire s₀ t f) := by
  unfold retire
  try extract_lets
  repeat' (first | with_reducible assumption | with_reducible apply rolls_State_modTill | with_reducible apply rolls_State_sample | with_reducible apply rolls_State_sendP | with_reducible apply rolls_traceFolio | (fail_if_no_progress with_reducible apply Rolls.upd) | with_reducible apply Rolls.ite | with_reducible apply Rolls.ite1 | (with_reducible apply Rolls.foldl; intro s₁ x₁; have h₁ : Rolls s₁ s₁ := Rolls.refl s₁; try dsimp +zetaDelta only) | (with_reducible apply Rolls.foldl1; intro s₁ x₁; have h₁ : Rolls s₁.1 s₁.1 := Rolls.refl s₁.1; try dsimp +zetaDelta only) | extract_lets | split | dsimp +zetaDelta only)

theorem rolls_tryRetire {a₀ s₀ : State} (h₀ : Rolls a₀ s₀) {t : Nat} {f : Nat} :
    Rolls a₀ (tryRetire s₀ t f) := by
  unfold tryRetire
  try extract_lets
  repeat' (first | with_reducible assumption | with_reducible apply rolls_retire | (fail_if_no_progress with_reducible apply Rolls.upd) | with_reducible apply Rolls.ite | with_reducible apply Rolls.ite1 | (with_reducible apply Rolls.foldl; intro s₁ x₁; have h₁ : Rolls s₁ s₁ := Rolls.refl s₁; try dsimp +zetaDelta only) | (with_reducible apply Rolls.foldl1; intro s₁ x₁; have h₁ : Rolls s₁.1 s₁.1 := Rolls.refl s₁.1; try dsimp +zetaDelta only) | extract_lets | split | dsimp +zetaDelta only)

theorem rolls_complete {a₀ s₀ : State} (h₀ : Rolls a₀ s₀) {t : Nat} {f : Nat} {x : Folio} {opc : CmpOpc} {st : CStat} {data : Sys2Proof.LineData} {poison : Bool} :
    Rolls a₀ (complete s₀ t f x opc st data poison) := by
  unfold complete
  try extract_lets
  repeat' (first | with_reducible assumption | with_reducible apply rolls_State_modFolio | with_reducible apply rolls_State_modTill | with_reducible apply rolls_State_packet | with_reducible apply rolls_State_sendP | with_reducible apply rolls_State_slotRetired | with_reducible apply rolls_handOn | with_reducible apply rolls_leaveResident | with_reducible apply rolls_tryRetire | (fail_if_no_progress with_reducible apply Rolls.upd) | with_reducible apply Rolls.ite | with_reducible apply Rolls.ite1 | (with_reducible apply Rolls.foldl; intro s₁ x₁; have h₁ : Rolls s₁ s₁ := Rolls.refl s₁; try dsimp +zetaDelta only) | (with_reducible apply Rolls.foldl1; intro s₁ x₁; have h₁ : Rolls s₁.1 s₁.1 := Rolls.refl s₁.1; try dsimp +zetaDelta only) | extract_lets | split | dsimp +zetaDelta only)

theorem rolls_writeLine {a₀ s₀ : State} (h₀ : Rolls a₀ s₀) {t : Nat} {f : Nat} {l : Sys2Proof.Line} {d : WData} {partly : Bool} :
    Rolls a₀ (writeLine s₀ t f l d partly) := by
  unfold writeLine
  try extract_lets
  repeat' (first | with_reducible assumption | with_reducible apply rolls_pushAcc | (fail_if_no_progress with_reducible apply Rolls.upd) | with_reducible apply Rolls.ite | with_reducible apply Rolls.ite1 | (with_reducible apply Rolls.foldl; intro s₁ x₁; have h₁ : Rolls s₁ s₁ := Rolls.refl s₁; try dsimp +zetaDelta only) | (with_reducible apply Rolls.foldl1; intro s₁ x₁; have h₁ : Rolls s₁.1 s₁.1 := Rolls.refl s₁.1; try dsimp +zetaDelta only) | extract_lets | split | dsimp +zetaDelta only)

theorem rolls_putWrite {a₀ s₀ : State} (h₀ : Rolls a₀ s₀) {t : Nat} {f : Nat} {x : Folio} :
    Rolls a₀ (putWrite s₀ t f x) := by
  unfold putWrite
  try extract_lets
  repeat' (first | with_reducible assumption | with_reducible apply rolls_State_modFolio | with_reducible apply rolls_writeLine | (fail_if_no_progress with_reducible apply Rolls.upd) | with_reducible apply Rolls.ite | with_reducible apply Rolls.ite1 | (with_reducible apply Rolls.foldl; intro s₁ x₁; have h₁ : Rolls s₁ s₁ := Rolls.refl s₁; try dsimp +zetaDelta only) | (with_reducible apply Rolls.foldl1; intro s₁ x₁; have h₁ : Rolls s₁.1 s₁.1 := Rolls.refl s₁.1; try dsimp +zetaDelta only) | extract_lets | split | dsimp +zetaDelta only)

theorem rolls_conclude {a₀ s₀ : State} (h₀ : Rolls a₀ s₀) {t : Nat} {f : Nat} {opc : CmpOpc} :
    Rolls a₀ (conclude s₀ t f opc) := by
  unfold conclude
  try extract_lets
  repeat' (first | with_reducible assumption | with_reducible refine rolls_armMon_eq (by assumption) ?_ | with_reducible apply rolls_State_bump | with_reducible apply rolls_State_modFolio | with_reducible apply rolls_armMon | with_reducible apply rolls_clearOthers | with_reducible apply rolls_clearOwn | with_reducible apply rolls_complete | with_reducible apply rolls_putWrite | (fail_if_no_progress with_reducible apply Rolls.upd) | with_reducible apply Rolls.ite | with_reducible apply Rolls.ite1 | (with_reducible apply Rolls.foldl; intro s₁ x₁; have h₁ : Rolls s₁ s₁ := Rolls.refl s₁; try dsimp +zetaDelta only) | (with_reducible apply Rolls.foldl1; intro s₁ x₁; have h₁ : Rolls s₁.1 s₁.1 := Rolls.refl s₁.1; try dsimp +zetaDelta only) | extract_lets | split | dsimp +zetaDelta only)

theorem rolls_readLine {a₀ s₀ : State} (h₀ : Rolls a₀ s₀) {t : Nat} {f : Nat} {l : Sys2Proof.Line} {spec : Bool} :
    Rolls a₀ (readLine s₀ t f l spec) := by
  unfold readLine
  try extract_lets
  repeat' (first | with_reducible assumption | with_reducible apply rolls_State_modFolio | with_reducible apply rolls_State_tev | with_reducible apply rolls_pushAcc | (fail_if_no_progress with_reducible apply Rolls.upd) | with_reducible apply Rolls.ite | with_reducible apply Rolls.ite1 | (with_reducible apply Rolls.foldl; intro s₁ x₁; have h₁ : Rolls s₁ s₁ := Rolls.refl s₁; try dsimp +zetaDelta only) | (with_reducible apply Rolls.foldl1; intro s₁ x₁; have h₁ : Rolls s₁.1 s₁.1 := Rolls.refl s₁.1; try dsimp +zetaDelta only) | extract_lets | split | dsimp +zetaDelta only)

theorem rolls_awaitData {a₀ s₀ : State} (h₀ : Rolls a₀ s₀) {t : Nat} {f : Nat} {x : Folio} :
    Rolls a₀ (awaitData s₀ t f x) := by
  unfold awaitData
  try extract_lets
  repeat' (first | with_reducible assumption | with_reducible apply rolls_State_modFolio | with_reducible apply rolls_readLine | (fail_if_no_progress with_reducible apply Rolls.upd) | with_reducible apply Rolls.ite | with_reducible apply Rolls.ite1 | (with_reducible apply Rolls.foldl; intro s₁ x₁; have h₁ : Rolls s₁ s₁ := Rolls.refl s₁; try dsimp +zetaDelta only) | (with_reducible apply Rolls.foldl1; intro s₁ x₁; have h₁ : Rolls s₁.1 s₁.1 := Rolls.refl s₁.1; try dsimp +zetaDelta only) | extract_lets | split | dsimp +zetaDelta only)

theorem rolls_completeOff {a₀ s₀ : State} (h₀ : Rolls a₀ s₀) {t : Nat} {f : Nat} {x : Folio} :
    Rolls a₀ (completeOff s₀ t f x) := by
  unfold completeOff
  try extract_lets
  repeat' (first | with_reducible assumption | with_reducible apply rolls_State_bump | with_reducible apply rolls_State_freeUsed | with_reducible apply rolls_State_note | with_reducible apply rolls_complete | (fail_if_no_progress with_reducible apply Rolls.upd) | with_reducible apply Rolls.ite | with_reducible apply Rolls.ite1 | (with_reducible apply Rolls.foldl; intro s₁ x₁; have h₁ : Rolls s₁ s₁ := Rolls.refl s₁; try dsimp +zetaDelta only) | (with_reducible apply Rolls.foldl1; intro s₁ x₁; have h₁ : Rolls s₁.1 s₁.1 := Rolls.refl s₁.1; try dsimp +zetaDelta only) | extract_lets | split | dsimp +zetaDelta only)

theorem rolls_opClose {a₀ s₀ : State} (h₀ : Rolls a₀ s₀) {t : Nat} {k : Nat} :
    Rolls a₀ (opClose s₀ t k) := by
  unfold opClose
  try extract_lets
  repeat' (first | with_reducible assumption | with_reducible apply rolls_State_modTill | with_reducible apply rolls_retire | (fail_if_no_progress with_reducible apply Rolls.upd) | with_reducible apply Rolls.ite | with_reducible apply Rolls.ite1 | (with_reducible apply Rolls.foldl; intro s₁ x₁; have h₁ : Rolls s₁ s₁ := Rolls.refl s₁; try dsimp +zetaDelta only) | (with_reducible apply Rolls.foldl1; intro s₁ x₁; have h₁ : Rolls s₁.1 s₁.1 := Rolls.refl s₁.1; try dsimp +zetaDelta only) | extract_lets | split | dsimp +zetaDelta only)

theorem rolls_opHandOn {a₀ s₀ : State} (h₀ : Rolls a₀ s₀) {t : Nat} {k : Nat} :
    Rolls a₀ (opHandOn s₀ t k) := by
  unfold opHandOn
  try extract_lets
  repeat' (first | with_reducible assumption | with_reducible apply rolls_State_modFolio | with_reducible apply rolls_State_modOp | with_reducible apply rolls_handOn | (fail_if_no_progress with_reducible apply Rolls.upd) | with_reducible apply Rolls.ite | with_reducible apply Rolls.ite1 | (with_reducible apply Rolls.foldl; intro s₁ x₁; have h₁ : Rolls s₁ s₁ := Rolls.refl s₁; try dsimp +zetaDelta only) | (with_reducible apply Rolls.foldl1; intro s₁ x₁; have h₁ : Rolls s₁.1 s₁.1 := Rolls.refl s₁.1; try dsimp +zetaDelta only) | extract_lets | split | dsimp +zetaDelta only)

theorem rolls_writeMemo {a₀ s₀ : State} (h₀ : Rolls a₀ s₀) {t : Nat} {f : Nat} {sec : Nat} {mask : Nat} {off : Bool} {value : Bool} :
    Rolls a₀ (writeMemo s₀ t f sec mask off value) := by
  unfold writeMemo
  try extract_lets
  repeat' (first | with_reducible assumption | with_reducible apply rolls_pushAcc | (fail_if_no_progress with_reducible apply Rolls.upd) | with_reducible apply Rolls.ite | with_reducible apply Rolls.ite1 | (with_reducible apply Rolls.foldl; intro s₁ x₁; have h₁ : Rolls s₁ s₁ := Rolls.refl s₁; try dsimp +zetaDelta only) | (with_reducible apply Rolls.foldl1; intro s₁ x₁; have h₁ : Rolls s₁.1 s₁.1 := Rolls.refl s₁.1; try dsimp +zetaDelta only) | extract_lets | split | dsimp +zetaDelta only)

end Sys2Proof.Machine
end

