-- ==== Sys2Proof/Laws/RollsX1.lean ====
section
/-! SUPPORT. What `Rolls` says of each operation, in the order of the callees. -/

namespace Sys2Proof.Machine
set_option linter.all false

theorem rolls_reclaimEnd {a₀ s₀ : State} (h₀ : Rolls a₀ s₀) {t : Nat} {k : Nat} :
    Rolls a₀ (reclaimEnd s₀ t k) := by
  unfold reclaimEnd
  try extract_lets
  repeat' (first | with_reducible assumption | with_reducible apply rolls_State_modOp | with_reducible apply rolls_opClose | with_reducible apply rolls_opHandOn | with_reducible apply rolls_startGroup | with_reducible apply rolls_writeMemo | (fail_if_no_progress with_reducible apply Rolls.upd) | with_reducible apply Rolls.ite | with_reducible apply Rolls.ite1 | (with_reducible apply Rolls.foldl; intro s₁ x₁; have h₁ : Rolls s₁ s₁ := Rolls.refl s₁; try dsimp +zetaDelta only) | (with_reducible apply Rolls.foldl1; intro s₁ x₁; have h₁ : Rolls s₁.1 s₁.1 := Rolls.refl s₁.1; try dsimp +zetaDelta only) | extract_lets | split | dsimp +zetaDelta only)

theorem rolls_sendSnoops {a₀ s₀ : State} (h₀ : Rolls a₀ s₀) {t : Nat} {f : Nat} {sec : Nat} {e : Ent} {l0 : List Target} :
    Rolls a₀ (sendSnoops s₀ t f sec e l0) := by
  unfold sendSnoops
  try extract_lets
  repeat' (first | with_reducible assumption | with_reducible apply rolls_State_bump | with_reducible apply rolls_State_bumpBy | with_reducible apply rolls_State_modFolio | with_reducible apply rolls_State_packet | with_reducible apply rolls_State_tev | (fail_if_no_progress with_reducible apply Rolls.upd) | with_reducible apply Rolls.ite | with_reducible apply Rolls.ite1 | (with_reducible apply Rolls.foldl; intro s₁ x₁; have h₁ : Rolls s₁ s₁ := Rolls.refl s₁; try dsimp +zetaDelta only) | (with_reducible apply Rolls.foldl1; intro s₁ x₁; have h₁ : Rolls s₁.1 s₁.1 := Rolls.refl s₁.1; try dsimp +zetaDelta only) | extract_lets | split | dsimp +zetaDelta only)

theorem rolls_reclaimSnoop {a₀ s₀ : State} (h₀ : Rolls a₀ s₀) {t : Nat} {k : Nat} {o : SecOp} {e : Ent} {l : List Target} :
    Rolls a₀ (reclaimSnoop s₀ t k o e l) := by
  unfold reclaimSnoop
  try extract_lets
  repeat' (first | with_reducible assumption | with_reducible apply rolls_reclaimEnd | with_reducible apply rolls_sendSnoops | (fail_if_no_progress with_reducible apply Rolls.upd) | with_reducible apply Rolls.ite | with_reducible apply Rolls.ite1 | (with_reducible apply Rolls.foldl; intro s₁ x₁; have h₁ : Rolls s₁ s₁ := Rolls.refl s₁; try dsimp +zetaDelta only) | (with_reducible apply Rolls.foldl1; intro s₁ x₁; have h₁ : Rolls s₁.1 s₁.1 := Rolls.refl s₁.1; try dsimp +zetaDelta only) | extract_lets | split | dsimp +zetaDelta only)

theorem rolls_dispose {a₀ s₀ : State} (h₀ : Rolls a₀ s₀) {t : Nat} {k : Nat} :
    Rolls a₀ (dispose s₀ t k) := by
  unfold dispose
  try extract_lets
  repeat' (first | with_reducible assumption | with_reducible apply rolls_State_bump | with_reducible apply rolls_State_modOp | with_reducible apply rolls_State_tev | with_reducible apply rolls_opClose | with_reducible apply rolls_opHandOn | with_reducible apply rolls_reclaimSnoop | with_reducible apply rolls_startGroup | (fail_if_no_progress with_reducible apply Rolls.upd) | with_reducible apply Rolls.ite | with_reducible apply Rolls.ite1 | (with_reducible apply Rolls.foldl; intro s₁ x₁; have h₁ : Rolls s₁ s₁ := Rolls.refl s₁; try dsimp +zetaDelta only) | (with_reducible apply Rolls.foldl1; intro s₁ x₁; have h₁ : Rolls s₁.1 s₁.1 := Rolls.refl s₁.1; try dsimp +zetaDelta only) | extract_lets | split | dsimp +zetaDelta only)

theorem rolls_openChain {a₀ s₀ : State} (h₀ : Rolls a₀ s₀) {t : Nat} {l : Sys2Proof.Line} {f : Nat} :
    Rolls a₀ (openChain s₀ t l f) := by
  unfold openChain
  try extract_lets
  repeat' (first | with_reducible assumption | with_reducible apply rolls_State_bump | with_reducible apply rolls_State_modTill | with_reducible apply rolls_State_note | (fail_if_no_progress with_reducible apply Rolls.upd) | with_reducible apply Rolls.ite | with_reducible apply Rolls.ite1 | (with_reducible apply Rolls.foldl; intro s₁ x₁; have h₁ : Rolls s₁ s₁ := Rolls.refl s₁; try dsimp +zetaDelta only) | (with_reducible apply Rolls.foldl1; intro s₁ x₁; have h₁ : Rolls s₁.1 s₁.1 := Rolls.refl s₁.1; try dsimp +zetaDelta only) | extract_lets | split | dsimp +zetaDelta only)

theorem rolls_joinChain {a₀ s₀ : State} (h₀ : Rolls a₀ s₀) {t : Nat} {f : Nat} {l : Sys2Proof.Line} :
    Rolls a₀ (joinChain s₀ t f l) := by
  unfold joinChain
  try extract_lets
  repeat' (first | with_reducible assumption | with_reducible apply rolls_State_modFolio | with_reducible apply rolls_State_modTill | with_reducible apply rolls_openChain | (fail_if_no_progress with_reducible apply Rolls.upd) | with_reducible apply Rolls.ite | with_reducible apply Rolls.ite1 | (with_reducible apply Rolls.foldl; intro s₁ x₁; have h₁ : Rolls s₁ s₁ := Rolls.refl s₁; try dsimp +zetaDelta only) | (with_reducible apply Rolls.foldl1; intro s₁ x₁; have h₁ : Rolls s₁.1 s₁.1 := Rolls.refl s₁.1; try dsimp +zetaDelta only) | extract_lets | split | dsimp +zetaDelta only)

theorem rolls_takeInternal {a₀ s₀ : State} (h₀ : Rolls a₀ s₀) {t : Nat} {l : Sys2Proof.Line} {job : Job} :
    Rolls a₀ (takeInternal s₀ t l job).1 := by
  unfold takeInternal
  try extract_lets
  repeat' (first | with_reducible assumption | with_reducible apply rolls_State_setFolio | (fail_if_no_progress with_reducible apply Rolls.upd) | with_reducible apply Rolls.ite | with_reducible apply Rolls.ite1 | (with_reducible apply Rolls.foldl; intro s₁ x₁; have h₁ : Rolls s₁ s₁ := Rolls.refl s₁; try dsimp +zetaDelta only) | (with_reducible apply Rolls.foldl1; intro s₁ x₁; have h₁ : Rolls s₁.1 s₁.1 := Rolls.refl s₁.1; try dsimp +zetaDelta only) | extract_lets | split | dsimp +zetaDelta only)

theorem rolls_takeInternal_eq {a₀ s₀ u₀ : State} {y₀ : Nat} {t : Nat} {l : Sys2Proof.Line} {job : Job} (e₀ : takeInternal s₀ t l job = (u₀, y₀)) (h₀ : Rolls a₀ s₀) :
    Rolls a₀ u₀ := by
  have k := @rolls_takeInternal  a₀ s₀ h₀ t l job
  rw [e₀] at k; exact k

theorem rolls_startSecOp {a₀ s₀ : State} (h₀ : Rolls a₀ s₀) {t : Nat} {sec : Nat} {kind : SecKind} {e : Ent} {buffered : Bool} {region : Nat} :
    Rolls a₀ (startSecOp s₀ t sec kind e buffered region).1 := by
  unfold startSecOp
  try extract_lets
  repeat' (first | with_reducible assumption | with_reducible refine rolls_takeInternal_eq (by assumption) ?_ | with_reducible apply rolls_State_modTill | with_reducible apply rolls_joinChain | with_reducible apply rolls_takeInternal | (fail_if_no_progress with_reducible apply Rolls.upd) | with_reducible apply Rolls.ite | with_reducible apply Rolls.ite1 | (with_reducible apply Rolls.foldl; intro s₁ x₁; have h₁ : Rolls s₁ s₁ := Rolls.refl s₁; try dsimp +zetaDelta only) | (with_reducible apply Rolls.foldl1; intro s₁ x₁; have h₁ : Rolls s₁.1 s₁.1 := Rolls.refl s₁.1; try dsimp +zetaDelta only) | extract_lets | split | dsimp +zetaDelta only)

theorem rolls_startSecOp_eq {a₀ s₀ u₀ : State} {y₀ : Nat} {t : Nat} {sec : Nat} {kind : SecKind} {e : Ent} {buffered : Bool} {region : Nat} (e₀ : startSecOp s₀ t sec kind e buffered region = (u₀, y₀)) (h₀ : Rolls a₀ s₀) :
    Rolls a₀ u₀ := by
  have k := @rolls_startSecOp  a₀ s₀ h₀ t sec kind e buffered region
  rw [e₀] at k; exact k

theorem rolls_evictWay {a₀ s₀ : State} (h₀ : Rolls a₀ s₀) {t : Nat} {bank : Nat} {set : Nat} {way : Nat} :
    Rolls a₀ (evictWay s₀ t bank set way) := by
  unfold evictWay
  try extract_lets
  repeat' (first | with_reducible assumption | with_reducible refine rolls_startSecOp_eq (by assumption) ?_ | with_reducible apply rolls_State_modTill | with_reducible apply rolls_dispose | with_reducible apply rolls_startSecOp | (fail_if_no_progress with_reducible apply Rolls.upd) | with_reducible apply Rolls.ite | with_reducible apply Rolls.ite1 | (with_reducible apply Rolls.foldl; intro s₁ x₁; have h₁ : Rolls s₁ s₁ := Rolls.refl s₁; try dsimp +zetaDelta only) | (with_reducible apply Rolls.foldl1; intro s₁ x₁; have h₁ : Rolls s₁.1 s₁.1 := Rolls.refl s₁.1; try dsimp +zetaDelta only) | extract_lets | split | dsimp +zetaDelta only)

theorem rolls_findRoom {a₀ s₀ : State} (h₀ : Rolls a₀ s₀) {t : Nat} {f : Nat} {region : Nat} {sec : Nat} :
    Rolls a₀ (findRoom s₀ t f region sec).1 := by
  unfold findRoom
  try extract_lets
  repeat' (first | with_reducible assumption | with_reducible refine rolls_State_chooseWay_eq (by assumption) ?_ | with_reducible apply rolls_State_modFolio | with_reducible apply rolls_evictWay | (fail_if_no_progress with_reducible apply Rolls.upd) | with_reducible apply Rolls.ite | with_reducible apply Rolls.ite1 | (with_reducible apply Rolls.foldl; intro s₁ x₁; have h₁ : Rolls s₁ s₁ := Rolls.refl s₁; try dsimp +zetaDelta only) | (with_reducible apply Rolls.foldl1; intro s₁ x₁; have h₁ : Rolls s₁.1 s₁.1 := Rolls.refl s₁.1; try dsimp +zetaDelta only) | extract_lets | split | dsimp +zetaDelta only)

theorem rolls_findRoom_eq {a₀ s₀ u₀ : State} {y₀ : Room} {t : Nat} {f : Nat} {region : Nat} {sec : Nat} (e₀ : findRoom s₀ t f region sec = (u₀, y₀)) (h₀ : Rolls a₀ s₀) :
    Rolls a₀ u₀ := by
  have k := @rolls_findRoom  a₀ s₀ h₀ t f region sec
  rw [e₀] at k; exact k

theorem rolls_storeEnt {a₀ s₀ : State} (h₀ : Rolls a₀ s₀) {t : Nat} {f : Nat} {x : Folio} {loc : Option Loc} {e : Ent} {e' : Ent} {retentive : Bool} :
    Rolls a₀ (storeEnt s₀ t f x loc e e' retentive) := by
  unfold storeEnt
  try extract_lets
  repeat' (first | with_reducible assumption | with_reducible apply rolls_State_modFolio | with_reducible apply rolls_State_modTill | (fail_if_no_progress with_reducible apply Rolls.upd) | with_reducible apply Rolls.ite | with_reducible apply Rolls.ite1 | (with_reducible apply Rolls.foldl; intro s₁ x₁; have h₁ : Rolls s₁ s₁ := Rolls.refl s₁; try dsimp +zetaDelta only) | (with_reducible apply Rolls.foldl1; intro s₁ x₁; have h₁ : Rolls s₁.1 s₁.1 := Rolls.refl s₁.1; try dsimp +zetaDelta only) | extract_lets | split | dsimp +zetaDelta only)

theorem rolls_recordP {a₀ s₀ : State} (h₀ : Rolls a₀ s₀) {t : Nat} {f : Nat} {x : Folio} {loc : Option Loc} {e : Ent} {e1 : Ent} :
    Rolls a₀ (recordP s₀ t f x loc e e1) := by
  unfold recordP
  try extract_lets
  repeat' (first | with_reducible assumption | with_reducible refine rolls_findRoom_eq (by assumption) ?_ | with_reducible apply rolls_findRoom | with_reducible apply rolls_storeEnt | (fail_if_no_progress with_reducible apply Rolls.upd) | with_reducible apply Rolls.ite | with_reducible apply Rolls.ite1 | (with_reducible apply Rolls.foldl; intro s₁ x₁; have h₁ : Rolls s₁ s₁ := Rolls.refl s₁; try dsimp +zetaDelta only) | (with_reducible apply Rolls.foldl1; intro s₁ x₁; have h₁ : Rolls s₁.1 s₁.1 := Rolls.refl s₁.1; try dsimp +zetaDelta only) | extract_lets | split | dsimp +zetaDelta only)

theorem rolls_serve {a₀ s₀ : State} (h₀ : Rolls a₀ s₀) {t : Nat} {f : Nat} {x : Folio} :
    Rolls a₀ (serve s₀ t f x) := by
  unfold serve
  try extract_lets
  repeat' (first | with_reducible assumption | with_reducible apply rolls_State_modFolio | with_reducible apply rolls_State_note | with_reducible apply rolls_awaitData | with_reducible apply rolls_complete | with_reducible apply rolls_completeOff | with_reducible apply rolls_conclude | with_reducible apply rolls_recordP | with_reducible apply rolls_startGroup | with_reducible apply rolls_storeEnt | (fail_if_no_progress with_reducible apply Rolls.upd) | with_reducible apply Rolls.ite | with_reducible apply Rolls.ite1 | (with_reducible apply Rolls.foldl; intro s₁ x₁; have h₁ : Rolls s₁ s₁ := Rolls.refl s₁; try dsimp +zetaDelta only) | (with_reducible apply Rolls.foldl1; intro s₁ x₁; have h₁ : Rolls s₁.1 s₁.1 := Rolls.refl s₁.1; try dsimp +zetaDelta only) | extract_lets | split | dsimp +zetaDelta only)

theorem rolls_finish {a₀ s₀ : State} (h₀ : Rolls a₀ s₀) {t : Nat} {f : Nat} :
    Rolls a₀ (finish s₀ t f) := by
  unfold finish
  try extract_lets
  repeat' (first | with_reducible assumption | with_reducible apply rolls_State_modFolio | with_reducible apply rolls_serve | with_reducible apply rolls_startGroup | with_reducible apply rolls_storeEnt | with_reducible apply rolls_writeMemo | (fail_if_no_progress with_reducible apply Rolls.upd) | with_reducible apply Rolls.ite | with_reducible apply Rolls.ite1 | (with_reducible apply Rolls.foldl; intro s₁ x₁; have h₁ : Rolls s₁ s₁ := Rolls.refl s₁; try dsimp +zetaDelta only) | (with_reducible apply Rolls.foldl1; intro s₁ x₁; have h₁ : Rolls s₁.1 s₁.1 := Rolls.refl s₁.1; try dsimp +zetaDelta only) | extract_lets | split | dsimp +zetaDelta only)

theorem rolls_decideKnown {a₀ s₀ : State} (h₀ : Rolls a₀ s₀) {t : Nat} {f : Nat} {e : Ent} {fresh : Bool} :
    Rolls a₀ (decideKnown s₀ t f e fresh) := by
  unfold decideKnown
  try extract_lets
  repeat' (first | with_reducible assumption | with_reducible apply rolls_State_modFolio | with_reducible apply rolls_State_slotWasted | with_reducible apply rolls_block | with_reducible apply rolls_conclude | with_reducible apply rolls_finish | with_reducible apply rolls_sendSnoops | (fail_if_no_progress with_reducible apply Rolls.upd) | with_reducible apply Rolls.ite | with_reducible apply Rolls.ite1 | (with_reducible apply Rolls.foldl; intro s₁ x₁; have h₁ : Rolls s₁ s₁ := Rolls.refl s₁; try dsimp +zetaDelta only) | (with_reducible apply Rolls.foldl1; intro s₁ x₁; have h₁ : Rolls s₁.1 s₁.1 := Rolls.refl s₁.1; try dsimp +zetaDelta only) | extract_lets | split | dsimp +zetaDelta only)

theorem rolls_decideFresh {a₀ s₀ : State} (h₀ : Rolls a₀ s₀) {t : Nat} {f : Nat} :
    Rolls a₀ (decideFresh s₀ t f) := by
  unfold decideFresh
  try extract_lets
  repeat' (first | with_reducible assumption | with_reducible refine rolls_findRoom_eq (by assumption) ?_ | with_reducible apply rolls_State_modFolio | with_reducible apply rolls_decideKnown | with_reducible apply rolls_findRoom | (fail_if_no_progress with_reducible apply Rolls.upd) | with_reducible apply Rolls.ite | with_reducible apply Rolls.ite1 | (with_reducible apply Rolls.foldl; intro s₁ x₁; have h₁ : Rolls s₁ s₁ := Rolls.refl s₁; try dsimp +zetaDelta only) | (with_reducible apply Rolls.foldl1; intro s₁ x₁; have h₁ : Rolls s₁.1 s₁.1 := Rolls.refl s₁.1; try dsimp +zetaDelta only) | extract_lets | split | dsimp +zetaDelta only)

theorem rolls_writeOff {a₀ s₀ : State} (h₀ : Rolls a₀ s₀) {t : Nat} {f : Nat} {sec : Nat} {l : List Nat} :
    Rolls a₀ (writeOff s₀ t f sec l) := by
  unfold writeOff
  try extract_lets
  repeat' (first | with_reducible assumption | with_reducible apply rolls_State_bumpBy | with_reducible apply rolls_writeMemo | (fail_if_no_progress with_reducible apply Rolls.upd) | with_reducible apply Rolls.ite | with_reducible apply Rolls.ite1 | (with_reducible apply Rolls.foldl; intro s₁ x₁; have h₁ : Rolls s₁ s₁ := Rolls.refl s₁; try dsimp +zetaDelta only) | (with_reducible apply Rolls.foldl1; intro s₁ x₁; have h₁ : Rolls s₁.1 s₁.1 := Rolls.refl s₁.1; try dsimp +zetaDelta only) | extract_lets | split | dsimp +zetaDelta only)

theorem rolls_heal {a₀ s₀ : State} (h₀ : Rolls a₀ s₀) {t : Nat} {f : Nat} {sec : Nat} {e : Ent} :
    Rolls a₀ (heal s₀ t f sec e).1 := by
  unfold heal
  try extract_lets
  repeat' (first | with_reducible assumption | with_reducible apply rolls_State_modTill | with_reducible apply rolls_writeOff | (fail_if_no_progress with_reducible apply Rolls.upd) | with_reducible apply Rolls.ite | with_reducible apply Rolls.ite1 | (with_reducible apply Rolls.foldl; intro s₁ x₁; have h₁ : Rolls s₁ s₁ := Rolls.refl s₁; try dsimp +zetaDelta only) | (with_reducible apply Rolls.foldl1; intro s₁ x₁; have h₁ : Rolls s₁.1 s₁.1 := Rolls.refl s₁.1; try dsimp +zetaDelta only) | extract_lets | split | dsimp +zetaDelta only)

theorem rolls_heal_eq {a₀ s₀ u₀ : State} {y₀ : Ent} {t : Nat} {f : Nat} {sec : Nat} {e : Ent} (e₀ : heal s₀ t f sec e = (u₀, y₀)) (h₀ : Rolls a₀ s₀) :
    Rolls a₀ u₀ := by
  have k := @rolls_heal  a₀ s₀ h₀ t f sec e
  rw [e₀] at k; exact k

theorem rolls_resolved {a₀ s₀ : State} (h₀ : Rolls a₀ s₀) {t : Nat} {f : Nat} :
    Rolls a₀ (resolved s₀ t f) := by
  unfold resolved
  try extract_lets
  repeat' (first | with_reducible assumption | with_reducible apply rolls_State_modFolio | with_reducible apply rolls_State_modTill | with_reducible apply rolls_decideKnown | with_reducible apply rolls_writeOff | (fail_if_no_progress with_reducible apply Rolls.upd) | with_reducible apply Rolls.ite | with_reducible apply Rolls.ite1 | (with_reducible apply Rolls.foldl; intro s₁ x₁; have h₁ : Rolls s₁ s₁ := Rolls.refl s₁; try dsimp +zetaDelta only) | (with_reducible apply Rolls.foldl1; intro s₁ x₁; have h₁ : Rolls s₁.1 s₁.1 := Rolls.refl s₁.1; try dsimp +zetaDelta only) | extract_lets | split | dsimp +zetaDelta only)

theorem rolls_decide' {a₀ s₀ : State} (h₀ : Rolls a₀ s₀) {t : Nat} {f : Nat} {e0 : Ent} {fresh : Bool} :
    Rolls a₀ (decide' s₀ t f e0 fresh) := by
  unfold decide'
  try extract_lets
  repeat' (first | with_reducible assumption | with_reducible refine rolls_heal_eq (by assumption) ?_ | with_reducible apply rolls_State_modFolio | with_reducible apply rolls_State_modTill | with_reducible apply rolls_decideKnown | with_reducible apply rolls_finish | with_reducible apply rolls_heal | with_reducible apply rolls_resolved | with_reducible apply rolls_sendSnoops | with_reducible apply rolls_startGroup | (fail_if_no_progress with_reducible apply Rolls.upd) | with_reducible apply Rolls.ite | with_reducible apply Rolls.ite1 | (with_reducible apply Rolls.foldl; intro s₁ x₁; have h₁ : Rolls s₁ s₁ := Rolls.refl s₁; try dsimp +zetaDelta only) | (with_reducible apply Rolls.foldl1; intro s₁ x₁; have h₁ : Rolls s₁.1 s₁.1 := Rolls.refl s₁.1; try dsimp +zetaDelta only) | extract_lets | split | dsimp +zetaDelta only)

theorem rolls_decideUnknown {a₀ s₀ : State} (h₀ : Rolls a₀ s₀) {t : Nat} {f : Nat} :
    Rolls a₀ (decideUnknown s₀ t f) := by
  unfold decideUnknown
  try extract_lets
  repeat' (first | with_reducible assumption | with_reducible refine rolls_findRoom_eq (by assumption) ?_ | with_reducible apply rolls_State_modFolio | with_reducible apply rolls_decide' | with_reducible apply rolls_findRoom | (fail_if_no_progress with_reducible apply Rolls.upd) | with_reducible apply Rolls.ite | with_reducible apply Rolls.ite1 | (with_reducible apply Rolls.foldl; intro s₁ x₁; have h₁ : Rolls s₁ s₁ := Rolls.refl s₁; try dsimp +zetaDelta only) | (with_reducible apply Rolls.foldl1; intro s₁ x₁; have h₁ : Rolls s₁.1 s₁.1 := Rolls.refl s₁.1; try dsimp +zetaDelta only) | extract_lets | split | dsimp +zetaDelta only)

theorem rolls_absent {a₀ s₀ : State} (h₀ : Rolls a₀ s₀) {t : Nat} {f : Nat} {sec : Nat} {consulted : Bool} :
    Rolls a₀ (absent s₀ t f sec consulted) := by
  unfold absent
  try extract_lets
  repeat' (first | with_reducible assumption | with_reducible apply rolls_decideFresh | with_reducible apply rolls_decideUnknown | (fail_if_no_progress with_reducible apply Rolls.upd) | with_reducible apply Rolls.ite | with_reducible apply Rolls.ite1 | (with_reducible apply Rolls.foldl; intro s₁ x₁; have h₁ : Rolls s₁ s₁ := Rolls.refl s₁; try dsimp +zetaDelta only) | (with_reducible apply Rolls.foldl1; intro s₁ x₁; have h₁ : Rolls s₁.1 s₁.1 := Rolls.refl s₁.1; try dsimp +zetaDelta only) | extract_lets | split | dsimp +zetaDelta only)

theorem rolls_unlink {a₀ s₀ : State} (h₀ : Rolls a₀ s₀) {t : Nat} {f : Nat} :
    Rolls a₀ (unlink s₀ t f) := by
  unfold unlink
  try extract_lets
  repeat' (first | with_reducible assumption | with_reducible apply rolls_State_modTill | (fail_if_no_progress with_reducible apply Rolls.upd) | with_reducible apply Rolls.ite | with_reducible apply Rolls.ite1 | (with_reducible apply Rolls.foldl; intro s₁ x₁; have h₁ : Rolls s₁ s₁ := Rolls.refl s₁; try dsimp +zetaDelta only) | (with_reducible apply Rolls.foldl1; intro s₁ x₁; have h₁ : Rolls s₁.1 s₁.1 := Rolls.refl s₁.1; try dsimp +zetaDelta only) | extract_lets | split | dsimp +zetaDelta only)

theorem rolls_dropFolio {a₀ s₀ : State} (h₀ : Rolls a₀ s₀) {t : Nat} {f : Nat} :
    Rolls a₀ (dropFolio s₀ t f) := by
  unfold dropFolio
  try extract_lets
  repeat' (first | with_reducible assumption | with_reducible apply rolls_State_modFolio | with_reducible apply rolls_State_modTill | with_reducible apply rolls_cancelRead | with_reducible apply rolls_handOn | with_reducible apply rolls_leaveResident | with_reducible apply rolls_tryRetire | with_reducible apply rolls_unlink | (fail_if_no_progress with_reducible apply Rolls.upd) | with_reducible apply Rolls.ite | with_reducible apply Rolls.ite1 | (with_reducible apply Rolls.foldl; intro s₁ x₁; have h₁ : Rolls s₁ s₁ := Rolls.refl s₁; try dsimp +zetaDelta only) | (with_reducible apply Rolls.foldl1; intro s₁ x₁; have h₁ : Rolls s₁.1 s₁.1 := Rolls.refl s₁.1; try dsimp +zetaDelta only) | extract_lets | split | dsimp +zetaDelta only)

theorem rolls_failResend {a₀ s₀ : State} (h₀ : Rolls a₀ s₀) {q : QFlit} :
    Rolls a₀ (failResend s₀ q) := by
  unfold failResend
  try extract_lets
  repeat' (first | with_reducible assumption | with_reducible apply rolls_State_packet | with_reducible apply rolls_State_sendP | (fail_if_no_progress with_reducible apply Rolls.upd) | with_reducible apply Rolls.ite | with_reducible apply Rolls.ite1 | (with_reducible apply Rolls.foldl; intro s₁ x₁; have h₁ : Rolls s₁ s₁ := Rolls.refl s₁; try dsimp +zetaDelta only) | (with_reducible apply Rolls.foldl1; intro s₁ x₁; have h₁ : Rolls s₁.1 s₁.1 := Rolls.refl s₁.1; try dsimp +zetaDelta only) | extract_lets | split | dsimp +zetaDelta only)

theorem rolls_chainIn {a₀ s₀ : State} (h₀ : Rolls a₀ s₀) {t : Nat} {f : Nat} {x : Folio} :
    Rolls a₀ (chainIn s₀ t f x) := by
  unfold chainIn
  try extract_lets
  repeat' (first | with_reducible assumption | with_reducible apply rolls_State_sendP | with_reducible apply rolls_joinChain | with_reducible apply rolls_readLine | (fail_if_no_progress with_reducible apply Rolls.upd) | with_reducible apply Rolls.ite | with_reducible apply Rolls.ite1 | (with_reducible apply Rolls.foldl; intro s₁ x₁; have h₁ : Rolls s₁ s₁ := Rolls.refl s₁; try dsimp +zetaDelta only) | (with_reducible apply Rolls.foldl1; intro s₁ x₁; have h₁ : Rolls s₁.1 s₁.1 := Rolls.refl s₁.1; try dsimp +zetaDelta only) | extract_lets | split | dsimp +zetaDelta only)

theorem rolls_nbDone {a₀ s₀ : State} (h₀ : Rolls a₀ s₀) {t : Nat} {f : Nat} :
    Rolls a₀ (nbDone s₀ t f) := by
  unfold nbDone
  try extract_lets
  repeat' (first | with_reducible assumption | with_reducible apply rolls_complete | (fail_if_no_progress with_reducible apply Rolls.upd) | with_reducible apply Rolls.ite | with_reducible apply Rolls.ite1 | (with_reducible apply Rolls.foldl; intro s₁ x₁; have h₁ : Rolls s₁ s₁ := Rolls.refl s₁; try dsimp +zetaDelta only) | (with_reducible apply Rolls.foldl1; intro s₁ x₁; have h₁ : Rolls s₁.1 s₁.1 := Rolls.refl s₁.1; try dsimp +zetaDelta only) | extract_lets | split | dsimp +zetaDelta only)

theorem rolls_foldDrop {a₀ s₀ : State} (h₀ : Rolls a₀ s₀) {t : Nat} {f : Nat} {x : Folio} :
    Rolls a₀ (foldDrop s₀ t f x) := by
  unfold foldDrop
  try extract_lets
  repeat' (first | with_reducible assumption | with_reducible apply rolls_State_modTill | with_reducible apply rolls_State_tev | with_reducible apply rolls_nbDone | (fail_if_no_progress with_reducible apply Rolls.upd) | with_reducible apply Rolls.ite | with_reducible apply Rolls.ite1 | (with_reducible apply Rolls.foldl; intro s₁ x₁; have h₁ : Rolls s₁ s₁ := Rolls.refl s₁; try dsimp +zetaDelta only) | (with_reducible apply Rolls.foldl1; intro s₁ x₁; have h₁ : Rolls s₁.1 s₁.1 := Rolls.refl s₁.1; try dsimp +zetaDelta only) | extract_lets | split | dsimp +zetaDelta only)

theorem rolls_lookupUntracked {a₀ s₀ : State} (h₀ : Rolls a₀ s₀) {t : Nat} {f : Nat} {x : Folio} :
    Rolls a₀ (lookupUntracked s₀ t f x) := by
  unfold lookupUntracked
  try extract_lets
  repeat' (first | with_reducible assumption | with_reducible apply rolls_State_modFolio | with_reducible apply rolls_State_note | with_reducible apply rolls_cancelRead | with_reducible apply rolls_complete | with_reducible apply rolls_finish | (fail_if_no_progress with_reducible apply Rolls.upd) | with_reducible apply Rolls.ite | with_reducible apply Rolls.ite1 | (with_reducible apply Rolls.foldl; intro s₁ x₁; have h₁ : Rolls s₁ s₁ := Rolls.refl s₁; try dsimp +zetaDelta only) | (with_reducible apply Rolls.foldl1; intro s₁ x₁; have h₁ : Rolls s₁.1 s₁.1 := Rolls.refl s₁.1; try dsimp +zetaDelta only) | extract_lets | split | dsimp +zetaDelta only)

theorem rolls_promote {a₀ s₀ : State} (h₀ : Rolls a₀ s₀) {t : Nat} {f : Nat} {e : Ent} {fromCellar : Bool} :
    Rolls a₀ (promote s₀ t f e fromCellar) := by
  unfold promote
  try extract_lets
  repeat' (first | with_reducible assumption | with_reducible refine rolls_findRoom_eq (by assumption) ?_ | with_reducible apply rolls_State_bump | with_reducible apply rolls_State_modFolio | with_reducible apply rolls_State_modTill | with_reducible apply rolls_State_tev | with_reducible apply rolls_decide' | with_reducible apply rolls_findRoom | (fail_if_no_progress with_reducible apply Rolls.upd) | with_reducible apply Rolls.ite | with_reducible apply Rolls.ite1 | (with_reducible apply Rolls.foldl; intro s₁ x₁; have h₁ : Rolls s₁ s₁ := Rolls.refl s₁; try dsimp +zetaDelta only) | (with_reducible apply Rolls.foldl1; intro s₁ x₁; have h₁ : Rolls s₁.1 s₁.1 := Rolls.refl s₁.1; try dsimp +zetaDelta only) | extract_lets | split | dsimp +zetaDelta only)

theorem rolls_lookup {a₀ s₀ : State} (h₀ : Rolls a₀ s₀) {t : Nat} {f : Nat} :
    Rolls a₀ (lookup s₀ t f) := by
  unfold lookup
  try extract_lets
  repeat' (first | with_reducible assumption | with_reducible apply rolls_State_modFolio | with_reducible apply rolls_State_modOp | with_reducible apply rolls_State_modTill | with_reducible apply rolls_State_tev | with_reducible apply rolls_absent | with_reducible apply rolls_decide' | with_reducible apply rolls_decideFresh | with_reducible apply rolls_lookupUntracked | with_reducible apply rolls_promote | with_reducible apply rolls_readGroup | with_reducible apply rolls_readLine | (fail_if_no_progress with_reducible apply Rolls.upd) | with_reducible apply Rolls.ite | with_reducible apply Rolls.ite1 | (with_reducible apply Rolls.foldl; intro s₁ x₁; have h₁ : Rolls s₁ s₁ := Rolls.refl s₁; try dsimp +zetaDelta only) | (with_reducible apply Rolls.foldl1; intro s₁ x₁; have h₁ : Rolls s₁.1 s₁.1 := Rolls.refl s₁.1; try dsimp +zetaDelta only) | extract_lets | split | dsimp +zetaDelta only)

theorem rolls_foldInto {a₀ s₀ : State} (h₀ : Rolls a₀ s₀) {t : Nat} {l : Sys2Proof.Line} {a : Sys2Proof.Aid} {d : WData} :
    Rolls a₀ (foldInto s₀ t l a d) := by
  unfold foldInto
  try extract_lets
  repeat' (first | with_reducible assumption | with_reducible apply rolls_State_bump | with_reducible apply rolls_State_modFolio | with_reducible apply rolls_cancelRead | with_reducible apply rolls_finish | with_reducible apply rolls_lookup | (fail_if_no_progress with_reducible apply Rolls.upd) | with_reducible apply Rolls.ite | with_reducible apply Rolls.ite1 | (with_reducible apply Rolls.foldl; intro s₁ x₁; have h₁ : Rolls s₁ s₁ := Rolls.refl s₁; try dsimp +zetaDelta only) | (with_reducible apply Rolls.foldl1; intro s₁ x₁; have h₁ : Rolls s₁.1 s₁.1 := Rolls.refl s₁.1; try dsimp +zetaDelta only) | extract_lets | split | dsimp +zetaDelta only)

theorem rolls_foldWb {a₀ s₀ : State} (h₀ : Rolls a₀ s₀) {t : Nat} {f : Nat} {x : Folio} {d : WData} {owner : Bool} :
    Rolls a₀ (foldWb s₀ t f x d owner) := by
  unfold foldWb
  try extract_lets
  repeat' (first | with_reducible assumption | with_reducible apply rolls_State_modFolio | with_reducible apply rolls_State_modTill | with_reducible apply rolls_State_tev | with_reducible apply rolls_clearOthers | with_reducible apply rolls_foldInto | with_reducible apply rolls_nbDone | with_reducible apply rolls_writeLine | (fail_if_no_progress with_reducible apply Rolls.upd) | with_reducible apply Rolls.ite | with_reducible apply Rolls.ite1 | (with_reducible apply Rolls.foldl; intro s₁ x₁; have h₁ : Rolls s₁ s₁ := Rolls.refl s₁; try dsimp +zetaDelta only) | (with_reducible apply Rolls.foldl1; intro s₁ x₁; have h₁ : Rolls s₁.1 s₁.1 := Rolls.refl s₁.1; try dsimp +zetaDelta only) | extract_lets | split | dsimp +zetaDelta only)

theorem rolls_holderAccess {a₀ s₀ : State} (h₀ : Rolls a₀ s₀) {t : Nat} {f : Nat} {x : Folio} {c : Claim} :
    Rolls a₀ (holderAccess s₀ t f x c) := by
  unfold holderAccess
  try extract_lets
  repeat' (first | with_reducible assumption | with_reducible apply rolls_State_bump | with_reducible apply rolls_State_modFolio | with_reducible apply rolls_clearOwn | with_reducible apply rolls_complete | with_reducible apply rolls_finish | (fail_if_no_progress with_reducible apply Rolls.upd) | with_reducible apply Rolls.ite | with_reducible apply Rolls.ite1 | (with_reducible apply Rolls.foldl; intro s₁ x₁; have h₁ : Rolls s₁ s₁ := Rolls.refl s₁; try dsimp +zetaDelta only) | (with_reducible apply Rolls.foldl1; intro s₁ x₁; have h₁ : Rolls s₁.1 s₁.1 := Rolls.refl s₁.1; try dsimp +zetaDelta only) | extract_lets | split | dsimp +zetaDelta only)

theorem rolls_deleteRecord {a₀ s₀ : State} (h₀ : Rolls a₀ s₀) {t : Nat} {i : Nat} {c : Claim} :
    Rolls a₀ (deleteRecord s₀ t i c) := by
  unfold deleteRecord
  try extract_lets
  repeat' (first | with_reducible assumption | with_reducible apply rolls_State_modTill | with_reducible apply rolls_State_note | (fail_if_no_progress with_reducible apply Rolls.upd) | with_reducible apply Rolls.ite | with_reducible apply Rolls.ite1 | (with_reducible apply Rolls.foldl; intro s₁ x₁; have h₁ : Rolls s₁ s₁ := Rolls.refl s₁; try dsimp +zetaDelta only) | (with_reducible apply Rolls.foldl1; intro s₁ x₁; have h₁ : Rolls s₁.1 s₁.1 := Rolls.refl s₁.1; try dsimp +zetaDelta only) | extract_lets | split | dsimp +zetaDelta only)

theorem rolls_countReleased {a₀ s₀ : State} (h₀ : Rolls a₀ s₀) {t : Nat} {i : Nat} {c : Claim} {a : Sys2Proof.Aid} :
    Rolls a₀ (countReleased s₀ t i c a) := by
  unfold countReleased
  try extract_lets
  repeat' (first | with_reducible assumption | with_reducible apply rolls_State_modClaim | with_reducible apply rolls_deleteRecord | (fail_if_no_progress with_reducible apply Rolls.upd) | with_reducible apply Rolls.ite | with_reducible apply Rolls.ite1 | (with_reducible apply Rolls.foldl; intro s₁ x₁; have h₁ : Rolls s₁ s₁ := Rolls.refl s₁; try dsimp +zetaDelta only) | (with_reducible apply Rolls.foldl1; intro s₁ x₁; have h₁ : Rolls s₁.1 s₁.1 := Rolls.refl s₁.1; try dsimp +zetaDelta only) | extract_lets | split | dsimp +zetaDelta only)

theorem rolls_startRelease {a₀ s₀ : State} (h₀ : Rolls a₀ s₀) {t : Nat} {r : Rel} :
    Rolls a₀ (startRelease s₀ t r) := by
  unfold startRelease
  try extract_lets
  repeat' (first | with_reducible assumption | with_reducible refine rolls_takeInternal_eq (by assumption) ?_ | with_reducible apply rolls_State_modTill | with_reducible apply rolls_startGroup | with_reducible apply rolls_takeInternal | (fail_if_no_progress with_reducible apply Rolls.upd) | with_reducible apply Rolls.ite | with_reducible apply Rolls.ite1 | (with_reducible apply Rolls.foldl; intro s₁ x₁; have h₁ : Rolls s₁ s₁ := Rolls.refl s₁; try dsimp +zetaDelta only) | (with_reducible apply Rolls.foldl1; intro s₁ x₁; have h₁ : Rolls s₁.1 s₁.1 := Rolls.refl s₁.1; try dsimp +zetaDelta only) | extract_lets | split | dsimp +zetaDelta only)

theorem rolls_dropClaimant {a₀ s₀ : State} (h₀ : Rolls a₀ s₀) {t : Nat} {i : Nat} {c : Claim} {a : Sys2Proof.Aid} {folio : Option Nat} {ok : Bool} :
    Rolls a₀ (dropClaimant s₀ t i c a folio ok) := by
  unfold dropClaimant
  try extract_lets
  repeat' (first | with_reducible assumption | with_reducible apply rolls_State_modClaim | with_reducible apply rolls_startRelease | (fail_if_no_progress with_reducible apply Rolls.upd) | with_reducible apply Rolls.ite | with_reducible apply Rolls.ite1 | (with_reducible apply Rolls.foldl; intro s₁ x₁; have h₁ : Rolls s₁ s₁ := Rolls.refl s₁; try dsimp +zetaDelta only) | (with_reducible apply Rolls.foldl1; intro s₁ x₁; have h₁ : Rolls s₁.1 s₁.1 := Rolls.refl s₁.1; try dsimp +zetaDelta only) | extract_lets | split | dsimp +zetaDelta only)

theorem rolls_releaseAccess {a₀ s₀ : State} (h₀ : Rolls a₀ s₀) {t : Nat} {f : Nat} {x : Folio} :
    Rolls a₀ (releaseAccess s₀ t f x) := by
  unfold releaseAccess
  try extract_lets
  repeat' (first | with_reducible assumption | with_reducible apply rolls_State_modFolio | with_reducible apply rolls_complete | with_reducible apply rolls_countReleased | with_reducible apply rolls_dropClaimant | (fail_if_no_progress with_reducible apply Rolls.upd) | with_reducible apply Rolls.ite | with_reducible apply Rolls.ite1 | (with_reducible apply Rolls.foldl; intro s₁ x₁; have h₁ : Rolls s₁ s₁ := Rolls.refl s₁; try dsimp +zetaDelta only) | (with_reducible apply Rolls.foldl1; intro s₁ x₁; have h₁ : Rolls s₁.1 s₁.1 := Rolls.refl s₁.1; try dsimp +zetaDelta only) | extract_lets | split | dsimp +zetaDelta only)

theorem rolls_place' {a₀ s₀ : State} (h₀ : Rolls a₀ s₀) {t : Nat} {f : Nat} {x : Folio} :
    Rolls a₀ (place' s₀ t f x) := by
  unfold place'
  try extract_lets
  repeat' (first | with_reducible assumption | with_reducible apply rolls_State_bump | with_reducible apply rolls_State_modFolio | with_reducible apply rolls_chainIn | with_reducible apply rolls_complete | with_reducible apply rolls_foldDrop | with_reducible apply rolls_foldWb | with_reducible apply rolls_holderAccess | with_reducible apply rolls_nbDone | with_reducible apply rolls_releaseAccess | (fail_if_no_progress with_reducible apply Rolls.upd) | with_reducible apply Rolls.ite | with_reducible apply Rolls.ite1 | (with_reducible apply Rolls.foldl; intro s₁ x₁; have h₁ : Rolls s₁ s₁ := Rolls.refl s₁; try dsimp +zetaDelta only) | (with_reducible apply Rolls.foldl1; intro s₁ x₁; have h₁ : Rolls s₁.1 s₁.1 := Rolls.refl s₁.1; try dsimp +zetaDelta only) | extract_lets | split | dsimp +zetaDelta only)

theorem rolls_retryTransfer {a₀ s₀ : State} (h₀ : Rolls a₀ s₀) {t : Nat} {f : Nat} {d : Nat} :
    Rolls a₀ (retryTransfer s₀ t f d) := by
  unfold retryTransfer
  try extract_lets
  repeat' (first | with_reducible assumption | with_reducible apply rolls_State_bump | with_reducible apply rolls_State_modFolio | with_reducible apply rolls_State_modTill | with_reducible apply rolls_State_sendP | with_reducible apply rolls_State_setFolio | with_reducible apply rolls_State_slotWasted | with_reducible apply rolls_State_tev | with_reducible apply rolls_tryRetire | (fail_if_no_progress with_reducible apply Rolls.upd) | with_reducible apply Rolls.ite | with_reducible apply Rolls.ite1 | (with_reducible apply Rolls.foldl; intro s₁ x₁; have h₁ : Rolls s₁ s₁ := Rolls.refl s₁; try dsimp +zetaDelta only) | (with_reducible apply Rolls.foldl1; intro s₁ x₁; have h₁ : Rolls s₁.1 s₁.1 := Rolls.refl s₁.1; try dsimp +zetaDelta only) | extract_lets | split | dsimp +zetaDelta only)

theorem rolls_accept {a₀ s₀ : State} (h₀ : Rolls a₀ s₀) {q : QFlit} :
    Rolls a₀ (accept s₀ q) := by
  unfold accept
  extract_lets t gone x0 x slot
  have hs : ∀ s1 f y, slot = some (s1, f, y) → Rolls a₀ s1 := by
    intro s1 f y e
    simp only [slot] at e
    split at e
    · split at e
      · simp only [Option.some.injEq, Prod.mk.injEq] at e
        obtain ⟨rfl, -⟩ := e
        exact rolls_State_modTill h₀
      · cases e
    · rw [Option.map_eq_some_iff] at e
      obtain ⟨f', -, e⟩ := e
      simp only [Prod.mk.injEq] at e
      obtain ⟨rfl, -⟩ := e
      exact h₀
  clear_value slot
  repeat' (first | with_reducible assumption | exact hs _ _ _ rfl | exact hs _ _ _ (by assumption) | with_reducible apply rolls_State_modFolio | with_reducible apply rolls_State_modTill | with_reducible apply rolls_State_setFolio | with_reducible apply rolls_State_tev | with_reducible apply rolls_dropFolio | with_reducible apply rolls_failResend | with_reducible apply rolls_place' | with_reducible apply rolls_retryTransfer | (fail_if_no_progress with_reducible apply Rolls.upd) | with_reducible apply Rolls.ite | with_reducible apply Rolls.ite1 | (with_reducible apply Rolls.foldl; intro s₁ x₁; have h₁ : Rolls s₁ s₁ := Rolls.refl s₁; try dsimp +zetaDelta only) | (with_reducible apply Rolls.foldl1; intro s₁ x₁; have h₁ : Rolls s₁.1 s₁.1 := Rolls.refl s₁.1; try dsimp +zetaDelta only) | extract_lets | split | dsimp +zetaDelta only)

theorem rolls_addWrite {a₀ s₀ : State} (h₀ : Rolls a₀ s₀) {a : Nat} {e : Nat} :
    Rolls a₀ (addWrite s₀ a e) := by
  unfold addWrite
  try extract_lets
  repeat' (first | with_reducible assumption | with_reducible apply rolls_State_modWsAgent | (fail_if_no_progress with_reducible apply Rolls.upd) | with_reducible apply Rolls.ite | with_reducible apply Rolls.ite1 | (with_reducible apply Rolls.foldl; intro s₁ x₁; have h₁ : Rolls s₁ s₁ := Rolls.refl s₁; try dsimp +zetaDelta only) | (with_reducible apply Rolls.foldl1; intro s₁ x₁; have h₁ : Rolls s₁.1 s₁.1 := Rolls.refl s₁.1; try dsimp +zetaDelta only) | extract_lets | split | dsimp +zetaDelta only)

theorem rolls_depthSamples {a₀ s₀ : State} (h₀ : Rolls a₀ s₀) {w : Nat} {n : Nat} :
    Rolls a₀ (depthSamples s₀ w n) := by
  unfold depthSamples
  try extract_lets
  repeat' (first | with_reducible assumption | with_reducible apply rolls_State_sample | (fail_if_no_progress with_reducible apply Rolls.upd) | with_reducible apply Rolls.ite | with_reducible apply Rolls.ite1 | (with_reducible apply Rolls.foldl; intro s₁ x₁; have h₁ : Rolls s₁ s₁ := Rolls.refl s₁; try dsimp +zetaDelta only) | (with_reducible apply Rolls.foldl1; intro s₁ x₁; have h₁ : Rolls s₁.1 s₁.1 := Rolls.refl s₁.1; try dsimp +zetaDelta only) | extract_lets | split | dsimp +zetaDelta only)

theorem rolls_tillCycles {a₀ s₀ : State} (h₀ : Rolls a₀ s₀) {t : Nat} {n : Nat} :
    Rolls a₀ (tillCycles s₀ t n) := by
  unfold tillCycles
  try extract_lets
  repeat' (first | with_reducible assumption | with_reducible apply rolls_State_levelEvents | with_reducible apply rolls_State_modTill | with_reducible apply rolls_State_pcEvent | with_reducible apply rolls_State_slot | (fail_if_no_progress with_reducible apply Rolls.upd) | with_reducible apply Rolls.ite | with_reducible apply Rolls.ite1 | (with_reducible apply Rolls.foldl; intro s₁ x₁; have h₁ : Rolls s₁ s₁ := Rolls.refl s₁; try dsimp +zetaDelta only) | (with_reducible apply Rolls.foldl1; intro s₁ x₁; have h₁ : Rolls s₁.1 s₁.1 := Rolls.refl s₁.1; try dsimp +zetaDelta only) | extract_lets | split | dsimp +zetaDelta only)

theorem rolls_advance {a₀ s₀ : State} (h₀ : Rolls a₀ s₀) {n : Nat} :
    Rolls a₀ (advance s₀ n) := by
  unfold advance
  try extract_lets
  repeat' (first | with_reducible assumption | with_reducible apply rolls_State_levelEvents | with_reducible apply rolls_depthSamples | with_reducible apply rolls_tillCycles | (fail_if_no_progress with_reducible apply Rolls.upd) | with_reducible apply Rolls.ite | with_reducible apply Rolls.ite1 | (with_reducible apply Rolls.foldl; intro s₁ x₁; have h₁ : Rolls s₁ s₁ := Rolls.refl s₁; try dsimp +zetaDelta only) | (with_reducible apply Rolls.foldl1; intro s₁ x₁; have h₁ : Rolls s₁.1 s₁.1 := Rolls.refl s₁.1; try dsimp +zetaDelta only) | extract_lets | split | dsimp +zetaDelta only)

theorem rolls_askLoans {a₀ s₀ : State} (h₀ : Rolls a₀ s₀) {w : Nat} :
    Rolls a₀ (askLoans s₀ w) := by
  unfold askLoans
  try extract_lets
  repeat' (first | with_reducible assumption | with_reducible apply rolls_State_modWicket | with_reducible apply rolls_State_sendW | (fail_if_no_progress with_reducible apply Rolls.upd) | with_reducible apply Rolls.ite | with_reducible apply Rolls.ite1 | (with_reducible apply Rolls.foldl; intro s₁ x₁; have h₁ : Rolls s₁ s₁ := Rolls.refl s₁; try dsimp +zetaDelta only) | (with_reducible apply Rolls.foldl1; intro s₁ x₁; have h₁ : Rolls s₁.1 s₁.1 := Rolls.refl s₁.1; try dsimp +zetaDelta only) | extract_lets | split | dsimp +zetaDelta only)

theorem rolls_markBypass {a₀ s₀ : State} (h₀ : Rolls a₀ s₀) {w : Nat} :
    Rolls a₀ (markBypass s₀ w) := by
  unfold markBypass
  try extract_lets
  repeat' (first | with_reducible assumption | with_reducible apply rolls_State_modWicket | (fail_if_no_progress with_reducible apply Rolls.upd) | with_reducible apply Rolls.ite | with_reducible apply Rolls.ite1 | (with_reducible apply Rolls.foldl; intro s₁ x₁; have h₁ : Rolls s₁ s₁ := Rolls.refl s₁; try dsimp +zetaDelta only) | (with_reducible apply Rolls.foldl1; intro s₁ x₁; have h₁ : Rolls s₁.1 s₁.1 := Rolls.refl s₁.1; try dsimp +zetaDelta only) | extract_lets | split | dsimp +zetaDelta only)

theorem rolls_grantEntries {a₀ s₀ : State} (h₀ : Rolls a₀ s₀) {w : Nat} {a : Nat} {kept : Bool} {n : Nat} :
    Rolls a₀ (grantEntries s₀ w a kept n) := by
  unfold grantEntries
  try extract_lets
  repeat' (first | with_reducible assumption | with_reducible apply rolls_State_modWicket | with_reducible apply rolls_State_send | (fail_if_no_progress with_reducible apply Rolls.upd) | with_reducible apply Rolls.ite | with_reducible apply Rolls.ite1 | (with_reducible apply Rolls.foldl; intro s₁ x₁; have h₁ : Rolls s₁ s₁ := Rolls.refl s₁; try dsimp +zetaDelta only) | (with_reducible apply Rolls.foldl1; intro s₁ x₁; have h₁ : Rolls s₁.1 s₁.1 := Rolls.refl s₁.1; try dsimp +zetaDelta only) | extract_lets | split | dsimp +zetaDelta only)

theorem rolls_regrant {a₀ s₀ : State} (h₀ : Rolls a₀ s₀) {w : Nat} {a : Nat} :
    Rolls a₀ (regrant s₀ w a) := by
  unfold regrant
  try extract_lets
  repeat' (first | with_reducible assumption | with_reducible apply rolls_grantEntries | (fail_if_no_progress with_reducible apply Rolls.upd) | with_reducible apply Rolls.ite | with_reducible apply Rolls.ite1 | (with_reducible apply Rolls.foldl; intro s₁ x₁; have h₁ : Rolls s₁ s₁ := Rolls.refl s₁; try dsimp +zetaDelta only) | (with_reducible apply Rolls.foldl1; intro s₁ x₁; have h₁ : Rolls s₁.1 s₁.1 := Rolls.refl s₁.1; try dsimp +zetaDelta only) | extract_lets | split | dsimp +zetaDelta only)

theorem rolls_afterAdmit {a₀ s₀ : State} (h₀ : Rolls a₀ s₀) {w : Nat} {a : Nat} :
    Rolls a₀ (afterAdmit s₀ w a) := by
  unfold afterAdmit
  try extract_lets
  repeat' (first | with_reducible assumption | with_reducible apply rolls_askLoans | with_reducible apply rolls_markBypass | with_reducible apply rolls_regrant | (fail_if_no_progress with_reducible apply Rolls.upd) | with_reducible apply Rolls.ite | with_reducible apply Rolls.ite1 | (with_reducible apply Rolls.foldl; intro s₁ x₁; have h₁ : Rolls s₁ s₁ := Rolls.refl s₁; try dsimp +zetaDelta only) | (with_reducible apply Rolls.foldl1; intro s₁ x₁; have h₁ : Rolls s₁.1 s₁.1 := Rolls.refl s₁.1; try dsimp +zetaDelta only) | extract_lets | split | dsimp +zetaDelta only)

theorem rolls_offer {a₀ s₀ : State} (h₀ : Rolls a₀ s₀) {k : Nat} {r : JRec} :
    Rolls a₀ (offer s₀ k r) := by
  unfold offer
  try extract_lets
  repeat' (first | with_reducible assumption | with_reducible apply rolls_State_bump | with_reducible apply rolls_State_dropRec | with_reducible apply rolls_State_modStream | with_reducible apply rolls_State_noticed | (fail_if_no_progress with_reducible apply Rolls.upd) | with_reducible apply Rolls.ite | with_reducible apply Rolls.ite1 | (with_reducible apply Rolls.foldl; intro s₁ x₁; have h₁ : Rolls s₁ s₁ := Rolls.refl s₁; try dsimp +zetaDelta only) | (with_reducible apply Rolls.foldl1; intro s₁ x₁; have h₁ : Rolls s₁.1 s₁.1 := Rolls.refl s₁.1; try dsimp +zetaDelta only) | extract_lets | split | dsimp +zetaDelta only)

theorem rolls_alarmArrives {a₀ s₀ : State} (h₀ : Rolls a₀ s₀) {r : JRec} :
    Rolls a₀ (alarmArrives s₀ r) := by
  unfold alarmArrives
  try extract_lets
  repeat' (first | with_reducible assumption | with_reducible apply rolls_offer | (fail_if_no_progress with_reducible apply Rolls.upd) | with_reducible apply Rolls.ite | with_reducible apply Rolls.ite1 | (with_reducible apply Rolls.foldl; intro s₁ x₁; have h₁ : Rolls s₁ s₁ := Rolls.refl s₁; try dsimp +zetaDelta only) | (with_reducible apply Rolls.foldl1; intro s₁ x₁; have h₁ : Rolls s₁.1 s₁.1 := Rolls.refl s₁.1; try dsimp +zetaDelta only) | extract_lets | split | dsimp +zetaDelta only)

theorem rolls_alarmBoundary {a₀ s₀ : State} (h₀ : Rolls a₀ s₀)  :
    Rolls a₀ (alarmBoundary s₀) := by
  unfold alarmBoundary
  try extract_lets
  repeat' (first | with_reducible assumption | (fail_if_no_progress with_reducible apply Rolls.upd) | with_reducible apply Rolls.ite | with_reducible apply Rolls.ite1 | (with_reducible apply Rolls.foldl; intro s₁ x₁; have h₁ : Rolls s₁ s₁ := Rolls.refl s₁; try dsimp +zetaDelta only) | (with_reducible apply Rolls.foldl1; intro s₁ x₁; have h₁ : Rolls s₁.1 s₁.1 := Rolls.refl s₁.1; try dsimp +zetaDelta only) | extract_lets | split | dsimp +zetaDelta only)

theorem rolls_alarmPeriod {a₀ s₀ : State} (h₀ : Rolls a₀ s₀)  :
    Rolls a₀ (alarmPeriod s₀) := by
  unfold alarmPeriod
  try extract_lets
  repeat' (first | with_reducible assumption | with_reducible apply rolls_offer | (fail_if_no_progress with_reducible apply Rolls.upd) | with_reducible apply Rolls.ite | with_reducible apply Rolls.ite1 | (with_reducible apply Rolls.foldl; intro s₁ x₁; have h₁ : Rolls s₁ s₁ := Rolls.refl s₁; try dsimp +zetaDelta only) | (with_reducible apply Rolls.foldl1; intro s₁ x₁; have h₁ : Rolls s₁.1 s₁.1 := Rolls.refl s₁.1; try dsimp +zetaDelta only) | extract_lets | split | dsimp +zetaDelta only)

theorem rolls_appendAdm {a₀ s₀ : State} (h₀ : Rolls a₀ s₀) {w : Nat} {e : Adm} :
    Rolls a₀ (appendAdm s₀ w e) := by
  unfold appendAdm
  try extract_lets
  repeat' (first | with_reducible assumption | with_reducible apply rolls_State_modWicket | (fail_if_no_progress with_reducible apply Rolls.upd) | with_reducible apply Rolls.ite | with_reducible apply Rolls.ite1 | (with_reducible apply Rolls.foldl; intro s₁ x₁; have h₁ : Rolls s₁ s₁ := Rolls.refl s₁; try dsimp +zetaDelta only) | (with_reducible apply Rolls.foldl1; intro s₁ x₁; have h₁ : Rolls s₁.1 s₁.1 := Rolls.refl s₁.1; try dsimp +zetaDelta only) | extract_lets | split | dsimp +zetaDelta only)

theorem rolls_arbitrate {a₀ s₀ : State} (h₀ : Rolls a₀ s₀) {t : Nat} {bank : Nat} {raised : BitVec 4} {lockStart : Bool} {lockEnd : Bool} :
    Rolls a₀ (arbitrate s₀ t bank raised lockStart lockEnd) := by
  unfold arbitrate
  try extract_lets
  repeat' (first | with_reducible assumption | with_reducible apply rolls_State_bump | with_reducible apply rolls_State_modTill | (fail_if_no_progress with_reducible apply Rolls.upd) | with_reducible apply Rolls.ite | with_reducible apply Rolls.ite1 | (with_reducible apply Rolls.foldl; intro s₁ x₁; have h₁ : Rolls s₁ s₁ := Rolls.refl s₁; try dsimp +zetaDelta only) | (with_reducible apply Rolls.foldl1; intro s₁ x₁; have h₁ : Rolls s₁.1 s₁.1 := Rolls.refl s₁.1; try dsimp +zetaDelta only) | extract_lets | split | dsimp +zetaDelta only)

theorem rolls_askMargin {a₀ s₀ : State} (h₀ : Rolls a₀ s₀) {kind : Nat} {mv : Nat} {mhz : Nat} {why : Nat} :
    Rolls a₀ (askMargin s₀ kind mv mhz why) := by
  unfold askMargin
  try extract_lets
  repeat' (first | with_reducible assumption | (fail_if_no_progress with_reducible apply Rolls.upd) | with_reducible apply Rolls.ite | with_reducible apply Rolls.ite1 | (with_reducible apply Rolls.foldl; intro s₁ x₁; have h₁ : Rolls s₁ s₁ := Rolls.refl s₁; try dsimp +zetaDelta only) | (with_reducible apply Rolls.foldl1; intro s₁ x₁; have h₁ : Rolls s₁.1 s₁.1 := Rolls.refl s₁.1; try dsimp +zetaDelta only) | extract_lets | split | dsimp +zetaDelta only)

theorem rolls_opEnd {a₀ s₀ : State} (h₀ : Rolls a₀ s₀) {t : Nat} {k : Nat} :
    Rolls a₀ (opEnd s₀ t k) := by
  unfold opEnd
  try extract_lets
  repeat' (first | with_reducible assumption | with_reducible apply rolls_opClose | with_reducible apply rolls_opHandOn | (fail_if_no_progress with_reducible apply Rolls.upd) | with_reducible apply Rolls.ite | with_reducible apply Rolls.ite1 | (with_reducible apply Rolls.foldl; intro s₁ x₁; have h₁ : Rolls s₁ s₁ := Rolls.refl s₁; try dsimp +zetaDelta only) | (with_reducible apply Rolls.foldl1; intro s₁ x₁; have h₁ : Rolls s₁.1 s₁.1 := Rolls.refl s₁.1; try dsimp +zetaDelta only) | extract_lets | split | dsimp +zetaDelta only)

theorem rolls_failEnd {a₀ s₀ : State} (h₀ : Rolls a₀ s₀) {t : Nat} {c : Nat} :
    Rolls a₀ (failEnd s₀ t c) := by
  unfold failEnd
  try extract_lets
  repeat' (first | with_reducible assumption | with_reducible apply rolls_State_modClaim | with_reducible apply rolls_State_modTill | with_reducible apply rolls_complete | with_reducible apply rolls_startRelease | (fail_if_no_progress with_reducible apply Rolls.upd) | with_reducible apply Rolls.ite | with_reducible apply Rolls.ite1 | (with_reducible apply Rolls.foldl; intro s₁ x₁; have h₁ : Rolls s₁ s₁ := Rolls.refl s₁; try dsimp +zetaDelta only) | (with_reducible apply Rolls.foldl1; intro s₁ x₁; have h₁ : Rolls s₁.1 s₁.1 := Rolls.refl s₁.1; try dsimp +zetaDelta only) | extract_lets | split | dsimp +zetaDelta only)

theorem rolls_gatherNext {a₀ s₀ : State} (h₀ : Rolls a₀ s₀) {x0 : Nat} {x2 : Nat} {x3 : Nat} :
    Rolls a₀ (gatherNext x0 s₀ x2 x3) := by
  induction x0 generalizing s₀ with
  | zero => unfold gatherNext; exact h₀
  | succ n ih =>
    unfold gatherNext
    try extract_lets
    repeat' (first | with_reducible assumption | with_reducible apply ih | with_reducible refine rolls_startSecOp_eq (by assumption) ?_ | with_reducible apply rolls_State_bump | with_reducible apply rolls_State_modClaim | with_reducible apply rolls_State_modGather | with_reducible apply rolls_State_modTill | with_reducible apply rolls_complete | with_reducible apply rolls_failEnd | with_reducible apply rolls_startSecOp | (fail_if_no_progress with_reducible apply Rolls.upd) | with_reducible apply Rolls.ite | with_reducible apply Rolls.ite1 | (with_reducible apply Rolls.foldl; intro s₁ x₁; have h₁ : Rolls s₁ s₁ := Rolls.refl s₁; try dsimp +zetaDelta only) | (with_reducible apply Rolls.foldl1; intro s₁ x₁; have h₁ : Rolls s₁.1 s₁.1 := Rolls.refl s₁.1; try dsimp +zetaDelta only) | extract_lets | split | dsimp +zetaDelta only)

theorem rolls_sectorTaken {a₀ s₀ : State} (h₀ : Rolls a₀ s₀) {t : Nat} {c : Nat} {sec : Nat} {taken : Bool} :
    Rolls a₀ (sectorTaken s₀ t c sec taken) := by
  unfold sectorTaken
  try extract_lets
  repeat' (first | with_reducible assumption | with_reducible apply rolls_State_modClaim | with_reducible apply rolls_State_modGather | with_reducible apply rolls_gatherNext | (fail_if_no_progress with_reducible apply Rolls.upd) | with_reducible apply Rolls.ite | with_reducible apply Rolls.ite1 | (with_reducible apply Rolls.foldl; intro s₁ x₁; have h₁ : Rolls s₁ s₁ := Rolls.refl s₁; try dsimp +zetaDelta only) | (with_reducible apply Rolls.foldl1; intro s₁ x₁; have h₁ : Rolls s₁.1 s₁.1 := Rolls.refl s₁.1; try dsimp +zetaDelta only) | extract_lets | split | dsimp +zetaDelta only)

theorem rolls_claimWrite {a₀ s₀ : State} (h₀ : Rolls a₀ s₀) {t : Nat} {k : Nat} {c : Nat} {o : SecOp} {e : Ent} {add : Bool} :
    Rolls a₀ (claimWrite s₀ t k c o e add) := by
  unfold claimWrite
  try extract_lets
  repeat' (first | with_reducible assumption | with_reducible refine rolls_findRoom_eq (by assumption) ?_ | with_reducible apply rolls_State_modOp | with_reducible apply rolls_State_modTill | with_reducible apply rolls_clearMons | with_reducible apply rolls_findRoom | with_reducible apply rolls_opEnd | with_reducible apply rolls_sectorTaken | with_reducible apply rolls_startGroup | (fail_if_no_progress with_reducible apply Rolls.upd) | with_reducible apply Rolls.ite | with_reducible apply Rolls.ite1 | (with_reducible apply Rolls.foldl; intro s₁ x₁; have h₁ : Rolls s₁ s₁ := Rolls.refl s₁; try dsimp +zetaDelta only) | (with_reducible apply Rolls.foldl1; intro s₁ x₁; have h₁ : Rolls s₁.1 s₁.1 := Rolls.refl s₁.1; try dsimp +zetaDelta only) | extract_lets | split | dsimp +zetaDelta only)

theorem rolls_opStore {a₀ s₀ : State} (h₀ : Rolls a₀ s₀) {t : Nat} {k : Nat} {o : SecOp} {e : Ent} :
    Rolls a₀ (opStore s₀ t k o e) := by
  unfold opStore
  try extract_lets
  repeat' (first | with_reducible assumption | with_reducible apply rolls_State_modOp | with_reducible apply rolls_State_modTill | with_reducible apply rolls_opEnd | with_reducible apply rolls_startGroup | (fail_if_no_progress with_reducible apply Rolls.upd) | with_reducible apply Rolls.ite | with_reducible apply Rolls.ite1 | (with_reducible apply Rolls.foldl; intro s₁ x₁; have h₁ : Rolls s₁ s₁ := Rolls.refl s₁; try dsimp +zetaDelta only) | (with_reducible apply Rolls.foldl1; intro s₁ x₁; have h₁ : Rolls s₁.1 s₁.1 := Rolls.refl s₁.1; try dsimp +zetaDelta only) | extract_lets | split | dsimp +zetaDelta only)

theorem rolls_opSnooped {a₀ s₀ : State} (h₀ : Rolls a₀ s₀) {t : Nat} {k : Nat} :
    Rolls a₀ (opSnooped s₀ t k) := by
  unfold opSnooped
  try extract_lets
  repeat' (first | with_reducible assumption | with_reducible apply rolls_State_modOp | with_reducible apply rolls_claimWrite | with_reducible apply rolls_opEnd | with_reducible apply rolls_opStore | with_reducible apply rolls_reclaimEnd | with_reducible apply rolls_sectorTaken | with_reducible apply rolls_startGroup | with_reducible apply rolls_writeMemo | with_reducible apply rolls_writeOff | (fail_if_no_progress with_reducible apply Rolls.upd) | with_reducible apply Rolls.ite | with_reducible apply Rolls.ite1 | (with_reducible apply Rolls.foldl; intro s₁ x₁; have h₁ : Rolls s₁ s₁ := Rolls.refl s₁; try dsimp +zetaDelta only) | (with_reducible apply Rolls.foldl1; intro s₁ x₁; have h₁ : Rolls s₁.1 s₁.1 := Rolls.refl s₁.1; try dsimp +zetaDelta only) | extract_lets | split | dsimp +zetaDelta only)

theorem rolls_cleared {a₀ s₀ : State} (h₀ : Rolls a₀ s₀) {t : Nat} {f : Nat} :
    Rolls a₀ (cleared s₀ t f) := by
  unfold cleared
  try extract_lets
  repeat' (first | with_reducible assumption | with_reducible apply rolls_State_modFolio | with_reducible apply rolls_finish | with_reducible apply rolls_lookup | with_reducible apply rolls_opSnooped | with_reducible apply rolls_resolved | (fail_if_no_progress with_reducible apply Rolls.upd) | with_reducible apply Rolls.ite | with_reducible apply Rolls.ite1 | (with_reducible apply Rolls.foldl; intro s₁ x₁; have h₁ : Rolls s₁ s₁ := Rolls.refl s₁; try dsimp +zetaDelta only) | (with_reducible apply Rolls.foldl1; intro s₁ x₁; have h₁ : Rolls s₁.1 s₁.1 := Rolls.refl s₁.1; try dsimp +zetaDelta only) | extract_lets | split | dsimp +zetaDelta only)

theorem rolls_crossedDone {a₀ s₀ : State} (h₀ : Rolls a₀ s₀) {t : Nat} {f : Nat} {a : Sys2Proof.Aid} {sec : Nat} {lines : List Nat} :
    Rolls a₀ (crossedDone s₀ t f a sec lines) := by
  unfold crossedDone
  try extract_lets
  repeat' (first | with_reducible assumption | with_reducible apply rolls_State_modFolio | with_reducible apply rolls_complete | (fail_if_no_progress with_reducible apply Rolls.upd) | with_reducible apply Rolls.ite | with_reducible apply Rolls.ite1 | (with_reducible apply Rolls.foldl; intro s₁ x₁; have h₁ : Rolls s₁ s₁ := Rolls.refl s₁; try dsimp +zetaDelta only) | (with_reducible apply Rolls.foldl1; intro s₁ x₁; have h₁ : Rolls s₁.1 s₁.1 := Rolls.refl s₁.1; try dsimp +zetaDelta only) | extract_lets | split | dsimp +zetaDelta only)

theorem rolls_respond {a₀ s₀ : State} (h₀ : Rolls a₀ s₀) {t : Nat} {f : Nat} {o : RspOpc} {a : Sys2Proof.Aid} {lines : List Nat} {dead : Bool} :
    Rolls a₀ (respond s₀ t f o a lines dead) := by
  unfold respond
  try extract_lets
  repeat' (first | with_reducible assumption | with_reducible apply rolls_State_modFolio | with_reducible apply rolls_cleared | with_reducible apply rolls_crossedDone | (fail_if_no_progress with_reducible apply Rolls.upd) | with_reducible apply Rolls.ite | with_reducible apply Rolls.ite1 | (with_reducible apply Rolls.foldl; intro s₁ x₁; have h₁ : Rolls s₁ s₁ := Rolls.refl s₁; try dsimp +zetaDelta only) | (with_reducible apply Rolls.foldl1; intro s₁ x₁; have h₁ : Rolls s₁.1 s₁.1 := Rolls.refl s₁.1; try dsimp +zetaDelta only) | extract_lets | split | dsimp +zetaDelta only)

theorem rolls_portSample {a₀ s₀ : State} (h₀ : Rolls a₀ s₀) {m : Nat} {t : Nat} {f : Nat} :
    Rolls a₀ (portSample s₀ m t f) := by
  unfold portSample
  try extract_lets
  repeat' (first | with_reducible assumption | with_reducible apply rolls_State_sample | (fail_if_no_progress with_reducible apply Rolls.upd) | with_reducible apply Rolls.ite | with_reducible apply Rolls.ite1 | (with_reducible apply Rolls.foldl; intro s₁ x₁; have h₁ : Rolls s₁ s₁ := Rolls.refl s₁; try dsimp +zetaDelta only) | (with_reducible apply Rolls.foldl1; intro s₁ x₁; have h₁ : Rolls s₁.1 s₁.1 := Rolls.refl s₁.1; try dsimp +zetaDelta only) | extract_lets | split | dsimp +zetaDelta only)

theorem rolls_enterGroup {a₀ s₀ : State} (h₀ : Rolls a₀ s₀) {t : Nat} {p : Nat} {g : Nat} :
    Rolls a₀ (enterGroup s₀ t p g) := by
  unfold enterGroup
  try extract_lets
  repeat' (first | with_reducible assumption | with_reducible apply rolls_State_modTill | (fail_if_no_progress with_reducible apply Rolls.upd) | with_reducible apply Rolls.ite | with_reducible apply Rolls.ite1 | (with_reducible apply Rolls.foldl; intro s₁ x₁; have h₁ : Rolls s₁ s₁ := Rolls.refl s₁; try dsimp +zetaDelta only) | (with_reducible apply Rolls.foldl1; intro s₁ x₁; have h₁ : Rolls s₁.1 s₁.1 := Rolls.refl s₁.1; try dsimp +zetaDelta only) | extract_lets | split | dsimp +zetaDelta only)

theorem rolls_lostSlots {a₀ s₀ : State} (h₀ : Rolls a₀ s₀) {t : Nat} {p : Nat} {g : Nat} {l : GLines} :
    Rolls a₀ (lostSlots s₀ t p g l) := by
  unfold lostSlots
  try extract_lets
  repeat' (first | with_reducible assumption | with_reducible apply rolls_State_bump | with_reducible apply rolls_State_note | with_reducible apply rolls_enterGroup | (fail_if_no_progress with_reducible apply Rolls.upd) | with_reducible apply Rolls.ite | with_reducible apply Rolls.ite1 | (with_reducible apply Rolls.foldl; intro s₁ x₁; have h₁ : Rolls s₁ s₁ := Rolls.refl s₁; try dsimp +zetaDelta only) | (with_reducible apply Rolls.foldl1; intro s₁ x₁; have h₁ : Rolls s₁.1 s₁.1 := Rolls.refl s₁.1; try dsimp +zetaDelta only) | extract_lets | split | dsimp +zetaDelta only)

theorem rolls_consultDone {a₀ s₀ : State} (h₀ : Rolls a₀ s₀) {t : Nat} {f : Nat} {x : Folio} {l : GLines} {bad : Bool} :
    Rolls a₀ (consultDone s₀ t f x l bad) := by
  unfold consultDone
  try extract_lets
  repeat' (first | with_reducible assumption | with_reducible apply rolls_State_bump | with_reducible apply rolls_State_modFolio | with_reducible apply rolls_State_modTill | with_reducible apply rolls_State_tev | with_reducible apply rolls_absent | with_reducible apply rolls_decideUnknown | with_reducible apply rolls_enterGroup | with_reducible apply rolls_lostSlots | with_reducible apply rolls_promote | (fail_if_no_progress with_reducible apply Rolls.upd) | with_reducible apply Rolls.ite | with_reducible apply Rolls.ite1 | (with_reducible apply Rolls.foldl; intro s₁ x₁; have h₁ : Rolls s₁ s₁ := Rolls.refl s₁; try dsimp +zetaDelta only) | (with_reducible apply Rolls.foldl1; intro s₁ x₁; have h₁ : Rolls s₁.1 s₁.1 := Rolls.refl s₁.1; try dsimp +zetaDelta only) | extract_lets | split | dsimp +zetaDelta only)

theorem rolls_cellarCount {a₀ s₀ : State} (h₀ : Rolls a₀ s₀) {more : Nat} {less : Nat} :
    Rolls a₀ (cellarCount s₀ more less) := by
  unfold cellarCount
  try extract_lets
  repeat' (first | with_reducible assumption | with_reducible apply rolls_State_setRawN | (fail_if_no_progress with_reducible apply Rolls.upd) | with_reducible apply Rolls.ite | with_reducible apply Rolls.ite1 | (with_reducible apply Rolls.foldl; intro s₁ x₁; have h₁ : Rolls s₁ s₁ := Rolls.refl s₁; try dsimp +zetaDelta only) | (with_reducible apply Rolls.foldl1; intro s₁ x₁; have h₁ : Rolls s₁.1 s₁.1 := Rolls.refl s₁.1; try dsimp +zetaDelta only) | extract_lets | split | dsimp +zetaDelta only)

theorem rolls_endGroup {a₀ s₀ : State} (h₀ : Rolls a₀ s₀) {t : Nat} {o : GroupOp} :
    Rolls a₀ (endGroup s₀ t o) := by
  unfold endGroup
  try extract_lets
  repeat' (first | with_reducible assumption | with_reducible apply rolls_State_modTill | with_reducible apply rolls_runGroups | (fail_if_no_progress with_reducible apply Rolls.upd) | with_reducible apply Rolls.ite | with_reducible apply Rolls.ite1 | (with_reducible apply Rolls.foldl; intro s₁ x₁; have h₁ : Rolls s₁ s₁ := Rolls.refl s₁; try dsimp +zetaDelta only) | (with_reducible apply Rolls.foldl1; intro s₁ x₁; have h₁ : Rolls s₁.1 s₁.1 := Rolls.refl s₁.1; try dsimp +zetaDelta only) | extract_lets | split | dsimp +zetaDelta only)

theorem rolls_writeBucket {a₀ s₀ : State} (h₀ : Rolls a₀ s₀) {t : Nat} {f : Nat} {addr : Nat} {d : Sys2Proof.LineData} :
    Rolls a₀ (writeBucket s₀ t f addr d) := by
  unfold writeBucket
  try extract_lets
  repeat' (first | with_reducible assumption | with_reducible apply rolls_pushAcc | (fail_if_no_progress with_reducible apply Rolls.upd) | with_reducible apply Rolls.ite | with_reducible apply Rolls.ite1 | (with_reducible apply Rolls.foldl; intro s₁ x₁; have h₁ : Rolls s₁ s₁ := Rolls.refl s₁; try dsimp +zetaDelta only) | (with_reducible apply Rolls.foldl1; intro s₁ x₁; have h₁ : Rolls s₁.1 s₁.1 := Rolls.refl s₁.1; try dsimp +zetaDelta only) | extract_lets | split | dsimp +zetaDelta only)

theorem rolls_writeSlot {a₀ s₀ : State} (h₀ : Rolls a₀ s₀) {t : Nat} {f : Nat} {p : Nat} {g : Nat} {l : GLines} {n : Nat} {v : Nat} :
    Rolls a₀ (writeSlot s₀ t f p g l n v) := by
  unfold writeSlot
  try extract_lets
  repeat' (first | with_reducible assumption | with_reducible apply rolls_writeBucket | (fail_if_no_progress with_reducible apply Rolls.upd) | with_reducible apply Rolls.ite | with_reducible apply Rolls.ite1 | (with_reducible apply Rolls.foldl; intro s₁ x₁; have h₁ : Rolls s₁ s₁ := Rolls.refl s₁; try dsimp +zetaDelta only) | (with_reducible apply Rolls.foldl1; intro s₁ x₁; have h₁ : Rolls s₁.1 s₁.1 := Rolls.refl s₁.1; try dsimp +zetaDelta only) | extract_lets | split | dsimp +zetaDelta only)

theorem rolls_deleteDone {a₀ s₀ : State} (h₀ : Rolls a₀ s₀) {t : Nat} {o : GroupOp} {sec : Nat} {k : Option Nat} {l : GLines} :
    Rolls a₀ (deleteDone s₀ t o sec k l) := by
  unfold deleteDone
  try extract_lets
  repeat' (first | with_reducible assumption | with_reducible apply rolls_cellarCount | with_reducible apply rolls_endGroup | with_reducible apply rolls_opClose | with_reducible apply rolls_opHandOn | with_reducible apply rolls_tryRetire | with_reducible apply rolls_writeMemo | with_reducible apply rolls_writeSlot | (fail_if_no_progress with_reducible apply Rolls.upd) | with_reducible apply Rolls.ite | with_reducible apply Rolls.ite1 | (with_reducible apply Rolls.foldl; intro s₁ x₁; have h₁ : Rolls s₁ s₁ := Rolls.refl s₁; try dsimp +zetaDelta only) | (with_reducible apply Rolls.foldl1; intro s₁ x₁; have h₁ : Rolls s₁.1 s₁.1 := Rolls.refl s₁.1; try dsimp +zetaDelta only) | extract_lets | split | dsimp +zetaDelta only)

theorem rolls_reclaimSlot {a₀ s₀ : State} (h₀ : Rolls a₀ s₀) {t : Nat} {p : Nat} {g : Nat} {l : GLines} :
    Rolls a₀ (reclaimSlot s₀ t p g l) := by
  unfold reclaimSlot
  try extract_lets
  repeat' (first | with_reducible assumption | with_reducible refine rolls_startSecOp_eq (by assumption) ?_ | with_reducible apply rolls_State_bump | with_reducible apply rolls_State_modOp | with_reducible apply rolls_State_tev | with_reducible apply rolls_reclaimSnoop | with_reducible apply rolls_startGroup | with_reducible apply rolls_startSecOp | (fail_if_no_progress with_reducible apply Rolls.upd) | with_reducible apply Rolls.ite | with_reducible apply Rolls.ite1 | (with_reducible apply Rolls.foldl; intro s₁ x₁; have h₁ : Rolls s₁ s₁ := Rolls.refl s₁; try dsimp +zetaDelta only) | (with_reducible apply Rolls.foldl1; intro s₁ x₁; have h₁ : Rolls s₁.1 s₁.1 := Rolls.refl s₁.1; try dsimp +zetaDelta only) | extract_lets | split | dsimp +zetaDelta only)

theorem rolls_setSummary {a₀ s₀ : State} (h₀ : Rolls a₀ s₀) {t : Nat} {sec : Nat} :
    Rolls a₀ (setSummary s₀ t sec) := by
  unfold setSummary
  try extract_lets
  repeat' (first | with_reducible assumption | with_reducible apply rolls_State_modTill | (fail_if_no_progress with_reducible apply Rolls.upd) | with_reducible apply Rolls.ite | with_reducible apply Rolls.ite1 | (with_reducible apply Rolls.foldl; intro s₁ x₁; have h₁ : Rolls s₁ s₁ := Rolls.refl s₁; try dsimp +zetaDelta only) | (with_reducible apply Rolls.foldl1; intro s₁ x₁; have h₁ : Rolls s₁.1 s₁.1 := Rolls.refl s₁.1; try dsimp +zetaDelta only) | extract_lets | split | dsimp +zetaDelta only)

theorem rolls_slotWrite {a₀ s₀ : State} (h₀ : Rolls a₀ s₀) {t : Nat} {f : Nat} {p : Nat} {g : Nat} {sec : Nat} {l : GLines} {e : Ent} :
    ∀ t₀, (slotWrite s₀ t f p g sec l e) = some t₀ → Rolls a₀ t₀ := by
  intro t₀ e₀
  unfold slotWrite at e₀
  try dsimp only at e₀
  repeat' (split at e₀)
  all_goals first | (simp only [Option.some.injEq, reduceCtorEq] at e₀; done) | (simp only [Option.some.injEq] at e₀; subst e₀)
  all_goals repeat' (first | with_reducible assumption | with_reducible apply rolls_State_bump | with_reducible apply rolls_State_modTill | with_reducible apply rolls_cellarCount | with_reducible apply rolls_setSummary | with_reducible apply rolls_writeMemo | with_reducible apply rolls_writeSlot | (fail_if_no_progress with_reducible apply Rolls.upd) | with_reducible apply Rolls.ite | with_reducible apply Rolls.ite1 | (with_reducible apply Rolls.foldl; intro s₁ x₁; have h₁ : Rolls s₁ s₁ := Rolls.refl s₁; try dsimp +zetaDelta only) | (with_reducible apply Rolls.foldl1; intro s₁ x₁; have h₁ : Rolls s₁.1 s₁.1 := Rolls.refl s₁.1; try dsimp +zetaDelta only) | extract_lets | split | dsimp +zetaDelta only)

theorem rolls_slotWrite_eq {a₀ s₀ u₀ : State} {t : Nat} {f : Nat} {p : Nat} {g : Nat} {sec : Nat} {l : GLines} {e : Ent} (e₀ : slotWrite s₀ t f p g sec l e = some u₀) (h₀ : Rolls a₀ s₀) : Rolls a₀ u₀ :=
  rolls_slotWrite h₀ u₀ e₀

end Sys2Proof.Machine
end

