-- ==== Sys2Proof/Laws/RollsX2.lean ====
section
/-! SUPPORT. What `Rolls` says of each operation, in the order of the callees. -/

namespace Sys2Proof.Machine
set_option linter.all false

theorem rolls_editDone {a₀ s₀ : State} (h₀ : Rolls a₀ s₀) {t : Nat} {g : GroupOp} {k : Nat} {l : GLines} :
    Rolls a₀ (editDone s₀ t g k l) := by
  unfold editDone
  try extract_lets
  repeat' (first | with_reducible assumption | with_reducible refine rolls_slotWrite_eq (by assumption) ?_ | with_reducible apply rolls_State_bump | with_reducible apply rolls_State_modOp | with_reducible apply rolls_State_modTill | with_reducible apply rolls_endGroup | with_reducible apply rolls_opEnd | with_reducible apply rolls_reclaimSlot | with_reducible apply rolls_startGroup | (fail_if_no_progress with_reducible apply Rolls.upd) | with_reducible apply Rolls.ite | with_reducible apply Rolls.ite1 | (with_reducible apply Rolls.foldl; intro s₁ x₁; have h₁ : Rolls s₁ s₁ := Rolls.refl s₁; try dsimp +zetaDelta only) | (with_reducible apply Rolls.foldl1; intro s₁ x₁; have h₁ : Rolls s₁.1 s₁.1 := Rolls.refl s₁.1; try dsimp +zetaDelta only) | extract_lets | split | dsimp +zetaDelta only)

theorem rolls_opBlock {a₀ s₀ : State} (h₀ : Rolls a₀ s₀) {t : Nat} {o : SecOp} :
    Rolls a₀ (opBlock s₀ t o) := by
  unfold opBlock
  try extract_lets
  repeat' (first | with_reducible assumption | with_reducible apply rolls_State_modFolio | (fail_if_no_progress with_reducible apply Rolls.upd) | with_reducible apply Rolls.ite | with_reducible apply Rolls.ite1 | (with_reducible apply Rolls.foldl; intro s₁ x₁; have h₁ : Rolls s₁ s₁ := Rolls.refl s₁; try dsimp +zetaDelta only) | (with_reducible apply Rolls.foldl1; intro s₁ x₁; have h₁ : Rolls s₁.1 s₁.1 := Rolls.refl s₁.1; try dsimp +zetaDelta only) | extract_lets | split | dsimp +zetaDelta only)

theorem rolls_opSnoop {a₀ s₀ : State} (h₀ : Rolls a₀ s₀) {t : Nat} {k : Nat} {o : SecOp} {e : Ent} {l : List Target} :
    Rolls a₀ (opSnoop s₀ t k o e l) := by
  unfold opSnoop
  try extract_lets
  repeat' (first | with_reducible assumption | with_reducible apply rolls_State_modOp | with_reducible apply rolls_opSnooped | with_reducible apply rolls_sendSnoops | (fail_if_no_progress with_reducible apply Rolls.upd) | with_reducible apply Rolls.ite | with_reducible apply Rolls.ite1 | (with_reducible apply Rolls.foldl; intro s₁ x₁; have h₁ : Rolls s₁ s₁ := Rolls.refl s₁; try dsimp +zetaDelta only) | (with_reducible apply Rolls.foldl1; intro s₁ x₁; have h₁ : Rolls s₁.1 s₁.1 := Rolls.refl s₁.1; try dsimp +zetaDelta only) | extract_lets | split | dsimp +zetaDelta only)

theorem rolls_preloadAct {a₀ s₀ : State} (h₀ : Rolls a₀ s₀) {t : Nat} {k : Nat} {o : SecOp} {mode : Nat} {found : Bool} :
    Rolls a₀ (preloadAct s₀ t k o mode found) := by
  unfold preloadAct
  try extract_lets
  repeat' (first | with_reducible assumption | with_reducible refine rolls_findRoom_eq (by assumption) ?_ | with_reducible apply rolls_State_bump | with_reducible apply rolls_State_modOp | with_reducible apply rolls_State_modTill | with_reducible apply rolls_State_tev | with_reducible apply rolls_findRoom | with_reducible apply rolls_opEnd | with_reducible apply rolls_opStore | with_reducible apply rolls_startGroup | (fail_if_no_progress with_reducible apply Rolls.upd) | with_reducible apply Rolls.ite | with_reducible apply Rolls.ite1 | (with_reducible apply Rolls.foldl; intro s₁ x₁; have h₁ : Rolls s₁ s₁ := Rolls.refl s₁; try dsimp +zetaDelta only) | (with_reducible apply Rolls.foldl1; intro s₁ x₁; have h₁ : Rolls s₁.1 s₁.1 := Rolls.refl s₁.1; try dsimp +zetaDelta only) | extract_lets | split | dsimp +zetaDelta only)

theorem rolls_opDo {a₀ s₀ : State} (h₀ : Rolls a₀ s₀) {t : Nat} {k : Nat} {o : SecOp} {found : Bool} :
    Rolls a₀ (opDo s₀ t k o found) := by
  unfold opDo
  try extract_lets
  repeat' (first | with_reducible assumption | with_reducible refine rolls_heal_eq (by assumption) ?_ | with_reducible apply rolls_State_modOp | with_reducible apply rolls_claimWrite | with_reducible apply rolls_heal | with_reducible apply rolls_opBlock | with_reducible apply rolls_opEnd | with_reducible apply rolls_opSnoop | with_reducible apply rolls_opStore | with_reducible apply rolls_preloadAct | with_reducible apply rolls_sectorTaken | with_reducible apply rolls_startGroup | (fail_if_no_progress with_reducible apply Rolls.upd) | with_reducible apply Rolls.ite | with_reducible apply Rolls.ite1 | (with_reducible apply Rolls.foldl; intro s₁ x₁; have h₁ : Rolls s₁ s₁ := Rolls.refl s₁; try dsimp +zetaDelta only) | (with_reducible apply Rolls.foldl1; intro s₁ x₁; have h₁ : Rolls s₁.1 s₁.1 := Rolls.refl s₁.1; try dsimp +zetaDelta only) | extract_lets | split | dsimp +zetaDelta only)

theorem rolls_scanDone {a₀ s₀ : State} (h₀ : Rolls a₀ s₀) {t : Nat} {o : GroupOp} {leave : Bool} {l : GLines} :
    Rolls a₀ (scanDone s₀ t o leave l) := by
  unfold scanDone
  try extract_lets
  repeat' (first | with_reducible assumption | with_reducible refine rolls_startSecOp_eq (by assumption) ?_ | with_reducible apply rolls_State_modFolio | with_reducible apply rolls_State_modOp | with_reducible apply rolls_endGroup | with_reducible apply rolls_lostSlots | with_reducible apply rolls_opDo | with_reducible apply rolls_startSecOp | with_reducible apply rolls_tryRetire | (fail_if_no_progress with_reducible apply Rolls.upd) | with_reducible apply Rolls.ite | with_reducible apply Rolls.ite1 | (with_reducible apply Rolls.foldl; intro s₁ x₁; have h₁ : Rolls s₁ s₁ := Rolls.refl s₁; try dsimp +zetaDelta only) | (with_reducible apply Rolls.foldl1; intro s₁ x₁; have h₁ : Rolls s₁.1 s₁.1 := Rolls.refl s₁.1; try dsimp +zetaDelta only) | extract_lets | split | dsimp +zetaDelta only)

theorem rolls_retryCellar {a₀ s₀ : State} (h₀ : Rolls a₀ s₀) {t : Nat} {f : Nat} :
    Rolls a₀ (retryCellar s₀ t f) := by
  unfold retryCellar
  try extract_lets
  repeat' (first | with_reducible assumption | with_reducible apply rolls_State_bump | with_reducible apply rolls_State_modFolio | with_reducible apply rolls_State_modTill | with_reducible apply rolls_State_sendP | with_reducible apply rolls_State_slotWasted | with_reducible apply rolls_State_tev | with_reducible apply rolls_cancelRead | with_reducible apply rolls_handOn | (fail_if_no_progress with_reducible apply Rolls.upd) | with_reducible apply Rolls.ite | with_reducible apply Rolls.ite1 | (with_reducible apply Rolls.foldl; intro s₁ x₁; have h₁ : Rolls s₁ s₁ := Rolls.refl s₁; try dsimp +zetaDelta only) | (with_reducible apply Rolls.foldl1; intro s₁ x₁; have h₁ : Rolls s₁.1 s₁.1 := Rolls.refl s₁.1; try dsimp +zetaDelta only) | extract_lets | split | dsimp +zetaDelta only)

theorem rolls_slotDone {a₀ s₀ : State} (h₀ : Rolls a₀ s₀) {t : Nat} {o : GroupOp} {f : Nat} {direct : Bool} {l : GLines} :
    Rolls a₀ (slotDone s₀ t o f direct l) := by
  unfold slotDone
  try extract_lets
  repeat' (first | with_reducible assumption | with_reducible refine rolls_slotWrite_eq (by assumption) ?_ | with_reducible apply rolls_State_bump | with_reducible apply rolls_State_modFolio | with_reducible apply rolls_State_modTill | with_reducible apply rolls_endGroup | with_reducible apply rolls_finish | with_reducible apply rolls_lookup | with_reducible apply rolls_reclaimSlot | with_reducible apply rolls_retryCellar | with_reducible apply rolls_startGroup | with_reducible apply rolls_tryRetire | (fail_if_no_progress with_reducible apply Rolls.upd) | with_reducible apply Rolls.ite | with_reducible apply Rolls.ite1 | (with_reducible apply Rolls.foldl; intro s₁ x₁; have h₁ : Rolls s₁ s₁ := Rolls.refl s₁; try dsimp +zetaDelta only) | (with_reducible apply Rolls.foldl1; intro s₁ x₁; have h₁ : Rolls s₁.1 s₁.1 := Rolls.refl s₁.1; try dsimp +zetaDelta only) | extract_lets | split | dsimp +zetaDelta only)

theorem rolls_spillDone {a₀ s₀ : State} (h₀ : Rolls a₀ s₀) {t : Nat} {o : GroupOp} {k : Nat} {l : GLines} :
    Rolls a₀ (spillDone s₀ t o k l) := by
  unfold spillDone
  try extract_lets
  repeat' (first | with_reducible assumption | with_reducible refine rolls_slotWrite_eq (by assumption) ?_ | with_reducible apply rolls_State_bump | with_reducible apply rolls_State_modOp | with_reducible apply rolls_State_tev | with_reducible apply rolls_endGroup | with_reducible apply rolls_opClose | with_reducible apply rolls_opHandOn | with_reducible apply rolls_reclaimSnoop | (fail_if_no_progress with_reducible apply Rolls.upd) | with_reducible apply Rolls.ite | with_reducible apply Rolls.ite1 | (with_reducible apply Rolls.foldl; intro s₁ x₁; have h₁ : Rolls s₁ s₁ := Rolls.refl s₁; try dsimp +zetaDelta only) | (with_reducible apply Rolls.foldl1; intro s₁ x₁; have h₁ : Rolls s₁.1 s₁.1 := Rolls.refl s₁.1; try dsimp +zetaDelta only) | extract_lets | split | dsimp +zetaDelta only)

theorem rolls_unclaimDone {a₀ s₀ : State} (h₀ : Rolls a₀ s₀) {t : Nat} {o : GroupOp} {sec : Nat} {l : GLines} :
    Rolls a₀ (unclaimDone s₀ t o sec l) := by
  unfold unclaimDone
  try extract_lets
  repeat' (first | with_reducible assumption | with_reducible apply rolls_State_modFolio | with_reducible apply rolls_cellarCount | with_reducible apply rolls_endGroup | with_reducible apply rolls_tryRetire | with_reducible apply rolls_writeSlot | (fail_if_no_progress with_reducible apply Rolls.upd) | with_reducible apply Rolls.ite | with_reducible apply Rolls.ite1 | (with_reducible apply Rolls.foldl; intro s₁ x₁; have h₁ : Rolls s₁ s₁ := Rolls.refl s₁; try dsimp +zetaDelta only) | (with_reducible apply Rolls.foldl1; intro s₁ x₁; have h₁ : Rolls s₁.1 s₁.1 := Rolls.refl s₁.1; try dsimp +zetaDelta only) | extract_lets | split | dsimp +zetaDelta only)

theorem rolls_visitDone {a₀ s₀ : State} (h₀ : Rolls a₀ s₀) {t : Nat} {o : GroupOp} {l : GLines} :
    Rolls a₀ (visitDone s₀ t o l) := by
  unfold visitDone
  try extract_lets
  repeat' (first | with_reducible assumption | with_reducible apply rolls_State_modTill | with_reducible apply rolls_cellarCount | with_reducible apply rolls_endGroup | with_reducible apply rolls_lostSlots | with_reducible apply rolls_tryRetire | with_reducible apply rolls_writeBucket | (fail_if_no_progress with_reducible apply Rolls.upd) | with_reducible apply Rolls.ite | with_reducible apply Rolls.ite1 | (with_reducible apply Rolls.foldl; intro s₁ x₁; have h₁ : Rolls s₁ s₁ := Rolls.refl s₁; try dsimp +zetaDelta only) | (with_reducible apply Rolls.foldl1; intro s₁ x₁; have h₁ : Rolls s₁.1 s₁.1 := Rolls.refl s₁.1; try dsimp +zetaDelta only) | extract_lets | split | dsimp +zetaDelta only)

theorem rolls_groupDone {a₀ s₀ : State} (h₀ : Rolls a₀ s₀) {t : Nat} {f : Nat} {l : GLines} :
    Rolls a₀ (groupDone s₀ t f l) := by
  unfold groupDone
  try extract_lets
  repeat' (first | with_reducible assumption | with_reducible apply rolls_deleteDone | with_reducible apply rolls_editDone | with_reducible apply rolls_scanDone | with_reducible apply rolls_slotDone | with_reducible apply rolls_spillDone | with_reducible apply rolls_unclaimDone | with_reducible apply rolls_visitDone | (fail_if_no_progress with_reducible apply Rolls.upd) | with_reducible apply Rolls.ite | with_reducible apply Rolls.ite1 | (with_reducible apply Rolls.foldl; intro s₁ x₁; have h₁ : Rolls s₁ s₁ := Rolls.refl s₁; try dsimp +zetaDelta only) | (with_reducible apply Rolls.foldl1; intro s₁ x₁; have h₁ : Rolls s₁.1 s₁.1 := Rolls.refl s₁.1; try dsimp +zetaDelta only) | extract_lets | split | dsimp +zetaDelta only)

theorem rolls_opConsulted {a₀ s₀ : State} (h₀ : Rolls a₀ s₀) {t : Nat} {k : Nat} {l : GLines} {bad : Bool} :
    Rolls a₀ (opConsulted s₀ t k l bad) := by
  unfold opConsulted
  try extract_lets
  repeat' (first | with_reducible assumption | with_reducible apply rolls_State_bump | with_reducible apply rolls_State_modFolio | with_reducible apply rolls_State_modOp | with_reducible apply rolls_State_modTill | with_reducible apply rolls_State_tev | with_reducible apply rolls_enterGroup | with_reducible apply rolls_lostSlots | with_reducible apply rolls_opClose | with_reducible apply rolls_opDo | (fail_if_no_progress with_reducible apply Rolls.upd) | with_reducible apply Rolls.ite | with_reducible apply Rolls.ite1 | (with_reducible apply Rolls.foldl; intro s₁ x₁; have h₁ : Rolls s₁ s₁ := Rolls.refl s₁; try dsimp +zetaDelta only) | (with_reducible apply Rolls.foldl1; intro s₁ x₁; have h₁ : Rolls s₁.1 s₁.1 := Rolls.refl s₁.1; try dsimp +zetaDelta only) | extract_lets | split | dsimp +zetaDelta only)

theorem rolls_groupBack {a₀ s₀ : State} (h₀ : Rolls a₀ s₀) {t : Nat} {f : Nat} {x : Folio} {r : OpenRead} {line : Nat} {data : Sys2Proof.LineData} {bad : Bool} :
    Rolls a₀ (groupBack s₀ t f x r line data bad) := by
  unfold groupBack
  try extract_lets
  repeat' (first | with_reducible assumption | with_reducible apply rolls_State_modFolio | with_reducible apply rolls_State_modTill | with_reducible apply rolls_consultDone | with_reducible apply rolls_enterGroup | with_reducible apply rolls_groupDone | with_reducible apply rolls_opConsulted | with_reducible apply rolls_tryRetire | (fail_if_no_progress with_reducible apply Rolls.upd) | with_reducible apply Rolls.ite | with_reducible apply Rolls.ite1 | (with_reducible apply Rolls.foldl; intro s₁ x₁; have h₁ : Rolls s₁ s₁ := Rolls.refl s₁; try dsimp +zetaDelta only) | (with_reducible apply Rolls.foldl1; intro s₁ x₁; have h₁ : Rolls s₁.1 s₁.1 := Rolls.refl s₁.1; try dsimp +zetaDelta only) | extract_lets | split | dsimp +zetaDelta only)

theorem rolls_readBack {a₀ s₀ : State} (h₀ : Rolls a₀ s₀) {t : Nat} {f : Nat} :
    Rolls a₀ (readBack s₀ t f) := by
  unfold readBack
  try extract_lets
  repeat' (first | with_reducible assumption | with_reducible apply rolls_finish | with_reducible apply rolls_lookup | with_reducible apply rolls_opClose | with_reducible apply rolls_tryRetire | (fail_if_no_progress with_reducible apply Rolls.upd) | with_reducible apply Rolls.ite | with_reducible apply Rolls.ite1 | (with_reducible apply Rolls.foldl; intro s₁ x₁; have h₁ : Rolls s₁ s₁ := Rolls.refl s₁; try dsimp +zetaDelta only) | (with_reducible apply Rolls.foldl1; intro s₁ x₁; have h₁ : Rolls s₁.1 s₁.1 := Rolls.refl s₁.1; try dsimp +zetaDelta only) | extract_lets | split | dsimp +zetaDelta only)

theorem rolls_lineBack {a₀ s₀ : State} (h₀ : Rolls a₀ s₀) {t : Nat} {f : Nat} {x : Folio} {r : OpenRead} {cancelled : Bool} {d : RData} :
    Rolls a₀ (lineBack s₀ t f x r cancelled d) := by
  unfold lineBack
  try extract_lets
  repeat' (first | with_reducible assumption | with_reducible apply rolls_State_modFolio | with_reducible apply rolls_readBack | (fail_if_no_progress with_reducible apply Rolls.upd) | with_reducible apply Rolls.ite | with_reducible apply Rolls.ite1 | (with_reducible apply Rolls.foldl; intro s₁ x₁; have h₁ : Rolls s₁ s₁ := Rolls.refl s₁; try dsimp +zetaDelta only) | (with_reducible apply Rolls.foldl1; intro s₁ x₁; have h₁ : Rolls s₁.1 s₁.1 := Rolls.refl s₁.1; try dsimp +zetaDelta only) | extract_lets | split | dsimp +zetaDelta only)

theorem rolls_readAnswer {a₀ s₀ : State} (h₀ : Rolls a₀ s₀) {m : Nat} {t : Nat} {f : Nat} {line : Nat} {cancelled : Bool} {error : Bool} {d : RData} :
    Rolls a₀ (readAnswer s₀ m t f line cancelled error d) := by
  unfold readAnswer
  try extract_lets
  repeat' (first | with_reducible assumption | with_reducible apply rolls_State_bump | with_reducible apply rolls_groupBack | with_reducible apply rolls_lineBack | (fail_if_no_progress with_reducible apply Rolls.upd) | with_reducible apply Rolls.ite | with_reducible apply Rolls.ite1 | (with_reducible apply Rolls.foldl; intro s₁ x₁; have h₁ : Rolls s₁ s₁ := Rolls.refl s₁; try dsimp +zetaDelta only) | (with_reducible apply Rolls.foldl1; intro s₁ x₁; have h₁ : Rolls s₁.1 s₁.1 := Rolls.refl s₁.1; try dsimp +zetaDelta only) | extract_lets | split | dsimp +zetaDelta only)

theorem rolls_takeRead {a₀ s₀ : State} (h₀ : Rolls a₀ s₀) {m : Nat} {t : Nat} {f : Nat} {line : Nat} {cancelled : Bool} {error : Bool} {d : RData} :
    Rolls a₀ (takeRead s₀ m t f line cancelled error d) := by
  unfold takeRead
  try extract_lets
  repeat' (first | with_reducible assumption | with_reducible apply rolls_portSample | with_reducible apply rolls_readAnswer | (fail_if_no_progress with_reducible apply Rolls.upd) | with_reducible apply Rolls.ite | with_reducible apply Rolls.ite1 | (with_reducible apply Rolls.foldl; intro s₁ x₁; have h₁ : Rolls s₁ s₁ := Rolls.refl s₁; try dsimp +zetaDelta only) | (with_reducible apply Rolls.foldl1; intro s₁ x₁; have h₁ : Rolls s₁.1 s₁.1 := Rolls.refl s₁.1; try dsimp +zetaDelta only) | extract_lets | split | dsimp +zetaDelta only)

theorem rolls_enterLost {a₀ s₀ : State} (h₀ : Rolls a₀ s₀) {m : Nat} {ptl : Bool} {a : Sys2Proof.Aid} {l : Sys2Proof.Line} :
    Rolls a₀ (enterLost s₀ m ptl a l) := by
  unfold enterLost
  try extract_lets
  repeat' (first | with_reducible assumption | with_reducible apply rolls_State_bump | (fail_if_no_progress with_reducible apply Rolls.upd) | with_reducible apply Rolls.ite | with_reducible apply Rolls.ite1 | (with_reducible apply Rolls.foldl; intro s₁ x₁; have h₁ : Rolls s₁ s₁ := Rolls.refl s₁; try dsimp +zetaDelta only) | (with_reducible apply Rolls.foldl1; intro s₁ x₁; have h₁ : Rolls s₁.1 s₁.1 := Rolls.refl s₁.1; try dsimp +zetaDelta only) | extract_lets | split | dsimp +zetaDelta only)

theorem rolls_writeAnswer {a₀ s₀ : State} (h₀ : Rolls a₀ s₀) {m : Nat} {t : Nat} {f : Nat} {mop : Sys2Proof.Mop} {lost : Bool} :
    Rolls a₀ (writeAnswer s₀ m t f mop lost) := by
  unfold writeAnswer
  try extract_lets
  repeat' (first | with_reducible assumption | with_reducible apply rolls_State_bump | with_reducible apply rolls_State_modFolio | with_reducible apply rolls_State_note | with_reducible apply rolls_enterGroup | with_reducible apply rolls_enterLost | with_reducible apply rolls_opClose | with_reducible apply rolls_tryRetire | (fail_if_no_progress with_reducible apply Rolls.upd) | with_reducible apply Rolls.ite | with_reducible apply Rolls.ite1 | (with_reducible apply Rolls.foldl; intro s₁ x₁; have h₁ : Rolls s₁ s₁ := Rolls.refl s₁; try dsimp +zetaDelta only) | (with_reducible apply Rolls.foldl1; intro s₁ x₁; have h₁ : Rolls s₁.1 s₁.1 := Rolls.refl s₁.1; try dsimp +zetaDelta only) | extract_lets | split | dsimp +zetaDelta only)

theorem rolls_niAct {a₀ s₀ : State} (h₀ : Rolls a₀ s₀) {t : Nat} {m : NiMsg} :
    Rolls a₀ (niAct t s₀ m) := by
  unfold niAct
  try extract_lets
  repeat' (first | with_reducible assumption | with_reducible apply rolls_respond | with_reducible apply rolls_takeRead | with_reducible apply rolls_writeAnswer | (fail_if_no_progress with_reducible apply Rolls.upd) | with_reducible apply Rolls.ite | with_reducible apply Rolls.ite1 | (with_reducible apply Rolls.foldl; intro s₁ x₁; have h₁ : Rolls s₁ s₁ := Rolls.refl s₁; try dsimp +zetaDelta only) | (with_reducible apply Rolls.foldl1; intro s₁ x₁; have h₁ : Rolls s₁.1 s₁.1 := Rolls.refl s₁.1; try dsimp +zetaDelta only) | extract_lets | split | dsimp +zetaDelta only)

theorem rolls_drainNi {a₀ s₀ : State} (h₀ : Rolls a₀ s₀) {t : Nat} :
    Rolls a₀ (drainNi s₀ t) := by
  unfold drainNi
  try extract_lets
  repeat' (first | with_reducible assumption | with_reducible apply rolls_State_modTill | with_reducible apply rolls_niAct | (fail_if_no_progress with_reducible apply Rolls.upd) | with_reducible apply Rolls.ite | with_reducible apply Rolls.ite1 | (with_reducible apply Rolls.foldl; intro s₁ x₁; have h₁ : Rolls s₁ s₁ := Rolls.refl s₁; try dsimp +zetaDelta only) | (with_reducible apply Rolls.foldl1; intro s₁ x₁; have h₁ : Rolls s₁.1 s₁.1 := Rolls.refl s₁.1; try dsimp +zetaDelta only) | extract_lets | split | dsimp +zetaDelta only)

theorem rolls_kickReleases {a₀ s₀ : State} (h₀ : Rolls a₀ s₀) {t : Nat} :
    Rolls a₀ (kickReleases s₀ t) := by
  unfold kickReleases
  try extract_lets
  repeat' (first | with_reducible assumption | with_reducible apply rolls_releaseAccess | (fail_if_no_progress with_reducible apply Rolls.upd) | with_reducible apply Rolls.ite | with_reducible apply Rolls.ite1 | (with_reducible apply Rolls.foldl; intro s₁ x₁; have h₁ : Rolls s₁ s₁ := Rolls.refl s₁; try dsimp +zetaDelta only) | (with_reducible apply Rolls.foldl1; intro s₁ x₁; have h₁ : Rolls s₁.1 s₁.1 := Rolls.refl s₁.1; try dsimp +zetaDelta only) | extract_lets | split | dsimp +zetaDelta only)

theorem rolls_endHalt {a₀ s₀ : State} (h₀ : Rolls a₀ s₀) {t : Nat} {cause : Nat} :
    Rolls a₀ (endHalt s₀ t cause) := by
  unfold endHalt
  try extract_lets
  repeat' (first | with_reducible assumption | with_reducible apply rolls_State_modTill | with_reducible apply rolls_State_note | (fail_if_no_progress with_reducible apply Rolls.upd) | with_reducible apply Rolls.ite | with_reducible apply Rolls.ite1 | (with_reducible apply Rolls.foldl; intro s₁ x₁; have h₁ : Rolls s₁ s₁ := Rolls.refl s₁; try dsimp +zetaDelta only) | (with_reducible apply Rolls.foldl1; intro s₁ x₁; have h₁ : Rolls s₁.1 s₁.1 := Rolls.refl s₁.1; try dsimp +zetaDelta only) | extract_lets | split | dsimp +zetaDelta only)

theorem rolls_failTransfers {a₀ s₀ : State} (h₀ : Rolls a₀ s₀) {t : Nat} {role : Role} :
    Rolls a₀ (failTransfers s₀ t role) := by
  unfold failTransfers
  try extract_lets
  repeat' (first | with_reducible assumption | with_reducible apply rolls_State_dropXfer | with_reducible apply rolls_State_modTill | (fail_if_no_progress with_reducible apply Rolls.upd) | with_reducible apply Rolls.ite | with_reducible apply Rolls.ite1 | (with_reducible apply Rolls.foldl; intro s₁ x₁; have h₁ : Rolls s₁ s₁ := Rolls.refl s₁; try dsimp +zetaDelta only) | (with_reducible apply Rolls.foldl1; intro s₁ x₁; have h₁ : Rolls s₁.1 s₁.1 := Rolls.refl s₁.1; try dsimp +zetaDelta only) | extract_lets | split | dsimp +zetaDelta only)

theorem rolls_startMapCommit {a₀ s₀ : State} (h₀ : Rolls a₀ s₀) {m : KV Nat} {byTransfer : Bool} :
    Rolls a₀ (startMapCommit s₀ m byTransfer) := by
  unfold startMapCommit
  try extract_lets
  repeat' (first | with_reducible assumption | (fail_if_no_progress with_reducible apply Rolls.upd) | with_reducible apply Rolls.ite | with_reducible apply Rolls.ite1 | (with_reducible apply Rolls.foldl; intro s₁ x₁; have h₁ : Rolls s₁ s₁ := Rolls.refl s₁; try dsimp +zetaDelta only) | (with_reducible apply Rolls.foldl1; intro s₁ x₁; have h₁ : Rolls s₁.1 s₁.1 := Rolls.refl s₁.1; try dsimp +zetaDelta only) | extract_lets | split | dsimp +zetaDelta only)

theorem rolls_moveBuckets {a₀ s₀ : State} (h₀ : Rolls a₀ s₀) {l : List Nat} {d : Nat} :
    Rolls a₀ (moveBuckets s₀ l d) := by
  unfold moveBuckets
  try extract_lets
  repeat' (first | with_reducible assumption | with_reducible apply rolls_State_modTill | with_reducible apply rolls_startMapCommit | (fail_if_no_progress with_reducible apply Rolls.upd) | with_reducible apply Rolls.ite | with_reducible apply Rolls.ite1 | (with_reducible apply Rolls.foldl; intro s₁ x₁; have h₁ : Rolls s₁ s₁ := Rolls.refl s₁; try dsimp +zetaDelta only) | (with_reducible apply Rolls.foldl1; intro s₁ x₁; have h₁ : Rolls s₁.1 s₁.1 := Rolls.refl s₁.1; try dsimp +zetaDelta only) | extract_lets | split | dsimp +zetaDelta only)

theorem rolls_startForced {a₀ s₀ : State} (h₀ : Rolls a₀ s₀) {x : Transfer} :
    Rolls a₀ (startForced s₀ x) := by
  unfold startForced
  try extract_lets
  repeat' (first | with_reducible assumption | with_reducible apply rolls_State_modTill | with_reducible apply rolls_endHalt | with_reducible apply rolls_moveBuckets | (fail_if_no_progress with_reducible apply Rolls.upd) | with_reducible apply Rolls.ite | with_reducible apply Rolls.ite1 | (with_reducible apply Rolls.foldl; intro s₁ x₁; have h₁ : Rolls s₁ s₁ := Rolls.refl s₁; try dsimp +zetaDelta only) | (with_reducible apply Rolls.foldl1; intro s₁ x₁; have h₁ : Rolls s₁.1 s₁.1 := Rolls.refl s₁.1; try dsimp +zetaDelta only) | extract_lets | split | dsimp +zetaDelta only)

theorem rolls_startPlanned {a₀ s₀ : State} (h₀ : Rolls a₀ s₀) {x : Transfer} :
    Rolls a₀ (startPlanned s₀ x) := by
  unfold startPlanned
  try extract_lets
  repeat' (first | with_reducible assumption | with_reducible apply rolls_State_modTill | with_reducible apply rolls_State_modXfer | with_reducible apply rolls_endHalt | (fail_if_no_progress with_reducible apply Rolls.upd) | with_reducible apply Rolls.ite | with_reducible apply Rolls.ite1 | (with_reducible apply Rolls.foldl; intro s₁ x₁; have h₁ : Rolls s₁ s₁ := Rolls.refl s₁; try dsimp +zetaDelta only) | (with_reducible apply Rolls.foldl1; intro s₁ x₁; have h₁ : Rolls s₁.1 s₁.1 := Rolls.refl s₁.1; try dsimp +zetaDelta only) | extract_lets | split | dsimp +zetaDelta only)

theorem rolls_nextTransfer {a₀ s₀ : State} (h₀ : Rolls a₀ s₀)  :
    Rolls a₀ (nextTransfer s₀) := by
  unfold nextTransfer
  try extract_lets
  repeat' (first | with_reducible assumption | with_reducible apply rolls_startForced | with_reducible apply rolls_startPlanned | (fail_if_no_progress with_reducible apply Rolls.upd) | with_reducible apply Rolls.ite | with_reducible apply Rolls.ite1 | (with_reducible apply Rolls.foldl; intro s₁ x₁; have h₁ : Rolls s₁ s₁ := Rolls.refl s₁; try dsimp +zetaDelta only) | (with_reducible apply Rolls.foldl1; intro s₁ x₁; have h₁ : Rolls s₁.1 s₁.1 := Rolls.refl s₁.1; try dsimp +zetaDelta only) | extract_lets | split | dsimp +zetaDelta only)

theorem rolls_failTill {a₀ s₀ : State} (h₀ : Rolls a₀ s₀) {t : Nat} {cause : Nat} :
    Rolls a₀ (failTill s₀ t cause) := by
  unfold failTill
  try extract_lets
  repeat' (first | with_reducible assumption | with_reducible apply rolls_State_modTill | with_reducible apply rolls_State_note | with_reducible apply rolls_State_sendP | with_reducible apply rolls_endHalt | with_reducible apply rolls_failTransfers | with_reducible apply rolls_nextTransfer | (fail_if_no_progress with_reducible apply Rolls.upd) | with_reducible apply Rolls.ite | with_reducible apply Rolls.ite1 | (with_reducible apply Rolls.foldl; intro s₁ x₁; have h₁ : Rolls s₁ s₁ := Rolls.refl s₁; try dsimp +zetaDelta only) | (with_reducible apply Rolls.foldl1; intro s₁ x₁; have h₁ : Rolls s₁.1 s₁.1 := Rolls.refl s₁.1; try dsimp +zetaDelta only) | extract_lets | split | dsimp +zetaDelta only)

theorem rolls_settleFails {a₀ s₀ : State} (h₀ : Rolls a₀ s₀)  :
    Rolls a₀ (settleFails s₀) := by
  unfold settleFails
  try extract_lets
  repeat' (first | with_reducible assumption | with_reducible apply rolls_failTill | (fail_if_no_progress with_reducible apply Rolls.upd) | with_reducible apply Rolls.ite | with_reducible apply Rolls.ite1 | (with_reducible apply Rolls.foldl; intro s₁ x₁; have h₁ : Rolls s₁ s₁ := Rolls.refl s₁; try dsimp +zetaDelta only) | (with_reducible apply Rolls.foldl1; intro s₁ x₁; have h₁ : Rolls s₁.1 s₁.1 := Rolls.refl s₁.1; try dsimp +zetaDelta only) | extract_lets | split | dsimp +zetaDelta only)

theorem rolls_worked {a₀ s₀ : State} (h₀ : Rolls a₀ s₀) {t : Nat} :
    Rolls a₀ (worked s₀ t) := by
  unfold worked
  try extract_lets
  repeat' (first | with_reducible assumption | with_reducible apply rolls_State_modTill | with_reducible apply rolls_drainNi | with_reducible apply rolls_kickReleases | with_reducible apply rolls_settleFails | (fail_if_no_progress with_reducible apply Rolls.upd) | with_reducible apply Rolls.ite | with_reducible apply Rolls.ite1 | (with_reducible apply Rolls.foldl; intro s₁ x₁; have h₁ : Rolls s₁ s₁ := Rolls.refl s₁; try dsimp +zetaDelta only) | (with_reducible apply Rolls.foldl1; intro s₁ x₁; have h₁ : Rolls s₁.1 s₁.1 := Rolls.refl s₁.1; try dsimp +zetaDelta only) | extract_lets | split | dsimp +zetaDelta only)

theorem rolls_atTill {a₀ s₀ : State} (h₀ : Rolls a₀ s₀) {t : Nat} {keep : NiMsg} {act : State → State} (hact : ∀ s, Rolls s (act s)) :
    Rolls a₀ (atTill s₀ t keep act) := by
  unfold atTill
  try extract_lets
  repeat' (first | with_reducible assumption | exact (by assumption : Rolls _ _).trans (hact _) | (refine Rolls.trans ?_ (hact _)) | with_reducible apply rolls_State_modTill | with_reducible apply rolls_drainNi | with_reducible apply rolls_worked | (fail_if_no_progress with_reducible apply Rolls.upd) | with_reducible apply Rolls.ite | with_reducible apply Rolls.ite1 | (with_reducible apply Rolls.foldl; intro s₁ x₁; have h₁ : Rolls s₁ s₁ := Rolls.refl s₁; try dsimp +zetaDelta only) | (with_reducible apply Rolls.foldl1; intro s₁ x₁; have h₁ : Rolls s₁.1 s₁.1 := Rolls.refl s₁.1; try dsimp +zetaDelta only) | extract_lets | split | dsimp +zetaDelta only)

theorem rolls_readTj {a₀ s₀ : State} (h₀ : Rolls a₀ s₀) {t : Nat} {x : Int} :
    Rolls a₀ (readTj s₀ t x) := by
  unfold readTj
  try extract_lets
  repeat' (first | with_reducible assumption | with_reducible apply rolls_State_bump | with_reducible apply rolls_State_note | with_reducible apply rolls_State_setRawI | (fail_if_no_progress with_reducible apply Rolls.upd) | with_reducible apply Rolls.ite | with_reducible apply Rolls.ite1 | (with_reducible apply Rolls.foldl; intro s₁ x₁; have h₁ : Rolls s₁ s₁ := Rolls.refl s₁; try dsimp +zetaDelta only) | (with_reducible apply Rolls.foldl1; intro s₁ x₁; have h₁ : Rolls s₁.1 s₁.1 := Rolls.refl s₁.1; try dsimp +zetaDelta only) | extract_lets | split | dsimp +zetaDelta only)

theorem rolls_readTjs {a₀ s₀ : State} (h₀ : Rolls a₀ s₀) {l : List (Nat × Int)} :
    Rolls a₀ (readTjs s₀ l) := by
  unfold readTjs
  try extract_lets
  repeat' (first | with_reducible assumption | with_reducible apply rolls_readTj | (fail_if_no_progress with_reducible apply Rolls.upd) | with_reducible apply Rolls.ite | with_reducible apply Rolls.ite1 | (with_reducible apply Rolls.foldl; intro s₁ x₁; have h₁ : Rolls s₁ s₁ := Rolls.refl s₁; try dsimp +zetaDelta only) | (with_reducible apply Rolls.foldl1; intro s₁ x₁; have h₁ : Rolls s₁.1 s₁.1 := Rolls.refl s₁.1; try dsimp +zetaDelta only) | extract_lets | split | dsimp +zetaDelta only)

theorem rolls_report {a₀ s₀ : State} (h₀ : Rolls a₀ s₀) {m : Sys2Proof.Measure} {full : Bool} :
    Rolls a₀ (report s₀ m full) := by
  unfold report
  try extract_lets
  repeat' (first | with_reducible assumption | with_reducible apply rolls_State_freeUsed | with_reducible apply rolls_State_setRawI | with_reducible apply rolls_State_setRawN | (fail_if_no_progress with_reducible apply Rolls.upd) | with_reducible apply Rolls.ite | with_reducible apply Rolls.ite1 | (with_reducible apply Rolls.foldl; intro s₁ x₁; have h₁ : Rolls s₁ s₁ := Rolls.refl s₁; try dsimp +zetaDelta only) | (with_reducible apply Rolls.foldl1; intro s₁ x₁; have h₁ : Rolls s₁.1 s₁.1 := Rolls.refl s₁.1; try dsimp +zetaDelta only) | extract_lets | split | dsimp +zetaDelta only)

theorem rolls_baseline {a₀ s₀ : State} (h₀ : Rolls a₀ s₀) {m : Sys2Proof.Measure} {mhz : Nat} {acked : Bool} :
    Rolls a₀ (baseline s₀ m mhz acked) := by
  unfold baseline
  try extract_lets
  repeat' (first | with_reducible assumption | with_reducible apply rolls_State_bump | with_reducible apply rolls_State_note | with_reducible apply rolls_State_setRaw | with_reducible apply rolls_askMargin | with_reducible apply rolls_readTjs | with_reducible apply rolls_report | (fail_if_no_progress with_reducible apply Rolls.upd) | with_reducible apply Rolls.ite | with_reducible apply Rolls.ite1 | (with_reducible apply Rolls.foldl; intro s₁ x₁; have h₁ : Rolls s₁ s₁ := Rolls.refl s₁; try dsimp +zetaDelta only) | (with_reducible apply Rolls.foldl1; intro s₁ x₁; have h₁ : Rolls s₁.1 s₁.1 := Rolls.refl s₁.1; try dsimp +zetaDelta only) | extract_lets | split | dsimp +zetaDelta only)

theorem rolls_rebuildDone {a₀ s₀ : State} (h₀ : Rolls a₀ s₀) {t : Nat} {b : Nat} :
    Rolls a₀ (rebuildDone s₀ t b) := by
  unfold rebuildDone
  try extract_lets
  repeat' (first | with_reducible assumption | with_reducible apply rolls_State_modTill | (fail_if_no_progress with_reducible apply Rolls.upd) | with_reducible apply Rolls.ite | with_reducible apply Rolls.ite1 | (with_reducible apply Rolls.foldl; intro s₁ x₁; have h₁ : Rolls s₁ s₁ := Rolls.refl s₁; try dsimp +zetaDelta only) | (with_reducible apply Rolls.foldl1; intro s₁ x₁; have h₁ : Rolls s₁.1 s₁.1 := Rolls.refl s₁.1; try dsimp +zetaDelta only) | extract_lets | split | dsimp +zetaDelta only)

theorem rolls_startGroupAt {a₀ s₀ : State} (h₀ : Rolls a₀ s₀) {t : Nat} {p : Nat} {g : Nat} {k : GroupKind} :
    Rolls a₀ (startGroupAt s₀ t p g k) := by
  unfold startGroupAt
  try extract_lets
  repeat' (first | with_reducible assumption | with_reducible refine rolls_takeInternal_eq (by assumption) ?_ | with_reducible apply rolls_State_modTill | with_reducible apply rolls_runGroups | with_reducible apply rolls_takeInternal | (fail_if_no_progress with_reducible apply Rolls.upd) | with_reducible apply Rolls.ite | with_reducible apply Rolls.ite1 | (with_reducible apply Rolls.foldl; intro s₁ x₁; have h₁ : Rolls s₁ s₁ := Rolls.refl s₁; try dsimp +zetaDelta only) | (with_reducible apply Rolls.foldl1; intro s₁ x₁; have h₁ : Rolls s₁.1 s₁.1 := Rolls.refl s₁.1; try dsimp +zetaDelta only) | extract_lets | split | dsimp +zetaDelta only)

theorem rolls_takeOrder {a₀ s₀ : State} (h₀ : Rolls a₀ s₀) {k : Nat} :
    ∀ t₀, (takeOrder s₀ k) = some t₀ → Rolls a₀ t₀ := by
  intro t₀ e₀
  unfold takeOrder at e₀
  try dsimp only at e₀
  repeat' (split at e₀)
  all_goals first | (simp only [Option.some.injEq, reduceCtorEq] at e₀; done) | (simp only [Option.some.injEq] at e₀; subst e₀)
  all_goals repeat' (first | with_reducible assumption | (fail_if_no_progress with_reducible apply Rolls.upd) | with_reducible apply Rolls.ite | with_reducible apply Rolls.ite1 | (with_reducible apply Rolls.foldl; intro s₁ x₁; have h₁ : Rolls s₁ s₁ := Rolls.refl s₁; try dsimp +zetaDelta only) | (with_reducible apply Rolls.foldl1; intro s₁ x₁; have h₁ : Rolls s₁.1 s₁.1 := Rolls.refl s₁.1; try dsimp +zetaDelta only) | extract_lets | split | dsimp +zetaDelta only)

theorem rolls_takeOrder_eq {a₀ s₀ u₀ : State} {k : Nat} (e₀ : takeOrder s₀ k = some u₀) (h₀ : Rolls a₀ s₀) : Rolls a₀ u₀ :=
  rolls_takeOrder h₀ u₀ e₀

theorem rolls_writeHeader {a₀ s₀ : State} (h₀ : Rolls a₀ s₀) {cur : Nat} {floor : Nat} :
    Rolls a₀ (writeHeader s₀ cur floor) := by
  unfold writeHeader
  try extract_lets
  repeat' (first | with_reducible assumption | with_reducible refine rolls_takeInternal_eq (by assumption) ?_ | with_reducible apply rolls_State_modFolio | with_reducible apply rolls_takeInternal | with_reducible apply rolls_writeBucket | (fail_if_no_progress with_reducible apply Rolls.upd) | with_reducible apply Rolls.ite | with_reducible apply Rolls.ite1 | (with_reducible apply Rolls.foldl; intro s₁ x₁; have h₁ : Rolls s₁ s₁ := Rolls.refl s₁; try dsimp +zetaDelta only) | (with_reducible apply Rolls.foldl1; intro s₁ x₁; have h₁ : Rolls s₁.1 s₁.1 := Rolls.refl s₁.1; try dsimp +zetaDelta only) | extract_lets | split | dsimp +zetaDelta only)

theorem rolls_cellarVisit {a₀ s₀ : State} (h₀ : Rolls a₀ s₀) {t : Nat} {p : Nat} {g : Nat} :
    Rolls a₀ (cellarVisit s₀ t p g) := by
  unfold cellarVisit
  try extract_lets
  repeat' (first | with_reducible assumption | with_reducible refine rolls_takeOrder_eq (by assumption) ?_ | with_reducible apply rolls_State_modTill | with_reducible apply rolls_rebuildDone | with_reducible apply rolls_startGroupAt | with_reducible apply rolls_writeHeader | (fail_if_no_progress with_reducible apply Rolls.upd) | with_reducible apply Rolls.ite | with_reducible apply Rolls.ite1 | (with_reducible apply Rolls.foldl; intro s₁ x₁; have h₁ : Rolls s₁ s₁ := Rolls.refl s₁; try dsimp +zetaDelta only) | (with_reducible apply Rolls.foldl1; intro s₁ x₁; have h₁ : Rolls s₁.1 s₁.1 := Rolls.refl s₁.1; try dsimp +zetaDelta only) | extract_lets | split | dsimp +zetaDelta only)

theorem rolls_chargeAll {a₀ s₀ : State} (h₀ : Rolls a₀ s₀) {w : Nat} {a : Nat} {c : Nat} :
    Rolls a₀ (chargeAll s₀ w a c) := by
  unfold chargeAll
  try extract_lets
  repeat' (first | with_reducible assumption | with_reducible apply rolls_State_modShaper | (fail_if_no_progress with_reducible apply Rolls.upd) | with_reducible apply Rolls.ite | with_reducible apply Rolls.ite1 | (with_reducible apply Rolls.foldl; intro s₁ x₁; have h₁ : Rolls s₁ s₁ := Rolls.refl s₁; try dsimp +zetaDelta only) | (with_reducible apply Rolls.foldl1; intro s₁ x₁; have h₁ : Rolls s₁.1 s₁.1 := Rolls.refl s₁.1; try dsimp +zetaDelta only) | extract_lets | split | dsimp +zetaDelta only)

theorem rolls_planLogic {a₀ s₀ : State} (h₀ : Rolls a₀ s₀) {src : MSource} :
    Rolls a₀ (planLogic s₀ src) := by
  unfold planLogic
  try extract_lets
  repeat' (first | with_reducible assumption | with_reducible apply rolls_State_note | with_reducible apply rolls_askMargin | (fail_if_no_progress with_reducible apply Rolls.upd) | with_reducible apply Rolls.ite | with_reducible apply Rolls.ite1 | (with_reducible apply Rolls.foldl; intro s₁ x₁; have h₁ : Rolls s₁ s₁ := Rolls.refl s₁; try dsimp +zetaDelta only) | (with_reducible apply Rolls.foldl1; intro s₁ x₁; have h₁ : Rolls s₁.1 s₁.1 := Rolls.refl s₁.1; try dsimp +zetaDelta only) | extract_lets | split | dsimp +zetaDelta only)

theorem rolls_planApplied {a₀ s₀ : State} (h₀ : Rolls a₀ s₀) {before : Nat} {after : Nat} :
    Rolls a₀ (planApplied s₀ before after) := by
  unfold planApplied
  try extract_lets
  repeat' (first | with_reducible assumption | with_reducible apply rolls_State_bump | with_reducible apply rolls_State_note | (fail_if_no_progress with_reducible apply Rolls.upd) | with_reducible apply Rolls.ite | with_reducible apply Rolls.ite1 | (with_reducible apply Rolls.foldl; intro s₁ x₁; have h₁ : Rolls s₁ s₁ := Rolls.refl s₁; try dsimp +zetaDelta only) | (with_reducible apply Rolls.foldl1; intro s₁ x₁; have h₁ : Rolls s₁.1 s₁.1 := Rolls.refl s₁.1; try dsimp +zetaDelta only) | extract_lets | split | dsimp +zetaDelta only)

theorem rolls_planSram {a₀ s₀ : State} (h₀ : Rolls a₀ s₀) {t : Nat} :
    Rolls a₀ (planSram s₀ t) := by
  unfold planSram
  try extract_lets
  repeat' (first | with_reducible assumption | with_reducible apply rolls_State_setRawN | with_reducible apply rolls_planApplied | with_reducible apply rolls_planLogic | (fail_if_no_progress with_reducible apply Rolls.upd) | with_reducible apply Rolls.ite | with_reducible apply Rolls.ite1 | (with_reducible apply Rolls.foldl; intro s₁ x₁; have h₁ : Rolls s₁ s₁ := Rolls.refl s₁; try dsimp +zetaDelta only) | (with_reducible apply Rolls.foldl1; intro s₁ x₁; have h₁ : Rolls s₁.1 s₁.1 := Rolls.refl s₁.1; try dsimp +zetaDelta only) | extract_lets | split | dsimp +zetaDelta only)

theorem rolls_undoStep {a₀ s₀ : State} (h₀ : Rolls a₀ s₀)  :
    Rolls a₀ (undoStep s₀) := by
  unfold undoStep
  try extract_lets
  repeat' (first | with_reducible assumption | with_reducible apply rolls_State_setRawN | with_reducible apply rolls_askMargin | with_reducible apply rolls_planApplied | (fail_if_no_progress with_reducible apply Rolls.upd) | with_reducible apply Rolls.ite | with_reducible apply Rolls.ite1 | (with_reducible apply Rolls.foldl; intro s₁ x₁; have h₁ : Rolls s₁ s₁ := Rolls.refl s₁; try dsimp +zetaDelta only) | (with_reducible apply Rolls.foldl1; intro s₁ x₁; have h₁ : Rolls s₁.1 s₁.1 := Rolls.refl s₁.1; try dsimp +zetaDelta only) | extract_lets | split | dsimp +zetaDelta only)

theorem rolls_replan {a₀ s₀ : State} (h₀ : Rolls a₀ s₀)  :
    Rolls a₀ (replan s₀) := by
  unfold replan
  try extract_lets
  repeat' (first | with_reducible assumption | with_reducible apply rolls_State_bump | with_reducible apply rolls_askMargin | with_reducible apply rolls_planLogic | with_reducible apply rolls_planSram | with_reducible apply rolls_undoStep | (fail_if_no_progress with_reducible apply Rolls.upd) | with_reducible apply Rolls.ite | with_reducible apply Rolls.ite1 | (with_reducible apply Rolls.foldl; intro s₁ x₁; have h₁ : Rolls s₁ s₁ := Rolls.refl s₁; try dsimp +zetaDelta only) | (with_reducible apply Rolls.foldl1; intro s₁ x₁; have h₁ : Rolls s₁.1 s₁.1 := Rolls.refl s₁.1; try dsimp +zetaDelta only) | extract_lets | split | dsimp +zetaDelta only)

theorem rolls_check {a₀ s₀ : State} (h₀ : Rolls a₀ s₀) {m : Sys2Proof.Measure} {full : Bool} :
    Rolls a₀ (check s₀ m full) := by
  unfold check
  try extract_lets
  repeat' (first | with_reducible assumption | with_reducible apply rolls_readTjs | with_reducible apply rolls_replan | with_reducible apply rolls_report | (fail_if_no_progress with_reducible apply Rolls.upd) | with_reducible apply Rolls.ite | with_reducible apply Rolls.ite1 | (with_reducible apply Rolls.foldl; intro s₁ x₁; have h₁ : Rolls s₁ s₁ := Rolls.refl s₁; try dsimp +zetaDelta only) | (with_reducible apply Rolls.foldl1; intro s₁ x₁; have h₁ : Rolls s₁.1 s₁.1 := Rolls.refl s₁.1; try dsimp +zetaDelta only) | extract_lets | split | dsimp +zetaDelta only)

theorem rolls_injectDone {a₀ s₀ : State} (h₀ : Rolls a₀ s₀) {id : Nat} {payload : List Sys2Proof.Byte} :
    Rolls a₀ (injectDone s₀ id payload) := by
  unfold injectDone
  try extract_lets
  repeat' (first | with_reducible assumption | with_reducible apply rolls_State_send | (fail_if_no_progress with_reducible apply Rolls.upd) | with_reducible apply Rolls.ite | with_reducible apply Rolls.ite1 | (with_reducible apply Rolls.foldl; intro s₁ x₁; have h₁ : Rolls s₁ s₁ := Rolls.refl s₁; try dsimp +zetaDelta only) | (with_reducible apply Rolls.foldl1; intro s₁ x₁; have h₁ : Rolls s₁.1 s₁.1 := Rolls.refl s₁.1; try dsimp +zetaDelta only) | extract_lets | split | dsimp +zetaDelta only)

theorem rolls_sendCmp {a₀ s₀ : State} (h₀ : Rolls a₀ s₀) {w : Nat} {origin : Origin} {o : CmpOpc} {a : Sys2Proof.Aid} {i : Sys2Proof.Inc} {t : Sys2Proof.Tag} {st : CStat} {rcpt : Nat} {data : Option (Sys2Proof.LineData × Bool)} :
    Rolls a₀ (sendCmp s₀ w origin o a i t st rcpt data) := by
  unfold sendCmp
  try extract_lets
  repeat' (first | with_reducible assumption | with_reducible apply rolls_State_send | with_reducible apply rolls_injectDone | (fail_if_no_progress with_reducible apply Rolls.upd) | with_reducible apply Rolls.ite | with_reducible apply Rolls.ite1 | (with_reducible apply Rolls.foldl; intro s₁ x₁; have h₁ : Rolls s₁ s₁ := Rolls.refl s₁; try dsimp +zetaDelta only) | (with_reducible apply Rolls.foldl1; intro s₁ x₁; have h₁ : Rolls s₁.1 s₁.1 := Rolls.refl s₁.1; try dsimp +zetaDelta only) | extract_lets | split | dsimp +zetaDelta only)

theorem rolls_settleDone {a₀ s₀ : State} (h₀ : Rolls a₀ s₀) {a : Nat} :
    ∀ t₀, (settleDone s₀ a) = some t₀ → Rolls a₀ t₀ := by
  intro t₀ e₀
  unfold settleDone at e₀
  try dsimp only at e₀
  repeat' (split at e₀)
  all_goals first | (simp only [Option.some.injEq, reduceCtorEq] at e₀; done) | (simp only [Option.some.injEq] at e₀; subst e₀)
  all_goals repeat' (first | with_reducible assumption | with_reducible apply rolls_State_bump | with_reducible apply rolls_State_modWsAgent | with_reducible apply rolls_sendCmp | (fail_if_no_progress with_reducible apply Rolls.upd) | with_reducible apply Rolls.ite | with_reducible apply Rolls.ite1 | (with_reducible apply Rolls.foldl; intro s₁ x₁; have h₁ : Rolls s₁ s₁ := Rolls.refl s₁; try dsimp +zetaDelta only) | (with_reducible apply Rolls.foldl1; intro s₁ x₁; have h₁ : Rolls s₁.1 s₁.1 := Rolls.refl s₁.1; try dsimp +zetaDelta only) | extract_lets | split | dsimp +zetaDelta only)

theorem rolls_settleDone_eq {a₀ s₀ u₀ : State} {a : Nat} (e₀ : settleDone s₀ a = some u₀) (h₀ : Rolls a₀ s₀) : Rolls a₀ u₀ :=
  rolls_settleDone h₀ u₀ e₀

theorem rolls_checkSettles {a₀ s₀ : State} (h₀ : Rolls a₀ s₀) {x0 : Nat} {x2 : Nat} :
    Rolls a₀ (checkSettles x0 s₀ x2) := by
  induction x0 generalizing s₀ with
  | zero => unfold checkSettles; exact h₀
  | succ n ih =>
    unfold checkSettles
    try extract_lets
    repeat' (first | with_reducible assumption | with_reducible apply ih | with_reducible refine rolls_settleDone_eq (by assumption) ?_ | (fail_if_no_progress with_reducible apply Rolls.upd) | with_reducible apply Rolls.ite | with_reducible apply Rolls.ite1 | (with_reducible apply Rolls.foldl; intro s₁ x₁; have h₁ : Rolls s₁ s₁ := Rolls.refl s₁; try dsimp +zetaDelta only) | (with_reducible apply Rolls.foldl1; intro s₁ x₁; have h₁ : Rolls s₁.1 s₁.1 := Rolls.refl s₁.1; try dsimp +zetaDelta only) | extract_lets | split | dsimp +zetaDelta only)

theorem rolls_claimLookup {a₀ s₀ : State} (h₀ : Rolls a₀ s₀) {t : Nat} {f : Nat} {x : Folio} :
    Rolls a₀ (claimLookup s₀ t f x) := by
  unfold claimLookup
  try extract_lets
  repeat' (first | with_reducible assumption | with_reducible apply rolls_State_bump | with_reducible apply rolls_State_modClaim | with_reducible apply rolls_State_modFolio | with_reducible apply rolls_State_modTill | with_reducible apply rolls_State_note | with_reducible apply rolls_complete | with_reducible apply rolls_gatherNext | (fail_if_no_progress with_reducible apply Rolls.upd) | with_reducible apply Rolls.ite | with_reducible apply Rolls.ite1 | (with_reducible apply Rolls.foldl; intro s₁ x₁; have h₁ : Rolls s₁ s₁ := Rolls.refl s₁; try dsimp +zetaDelta only) | (with_reducible apply Rolls.foldl1; intro s₁ x₁; have h₁ : Rolls s₁.1 s₁.1 := Rolls.refl s₁.1; try dsimp +zetaDelta only) | extract_lets | split | dsimp +zetaDelta only)

theorem rolls_cleanVisit {a₀ s₀ : State} (h₀ : Rolls a₀ s₀) {t : Nat} {bank : Nat} {set : Nat} :
    Rolls a₀ (cleanVisit s₀ t bank set) := by
  unfold cleanVisit
  try extract_lets
  repeat' (first | with_reducible assumption | with_reducible refine rolls_startSecOp_eq (by assumption) ?_ | with_reducible apply rolls_startSecOp | (fail_if_no_progress with_reducible apply Rolls.upd) | with_reducible apply Rolls.ite | with_reducible apply Rolls.ite1 | (with_reducible apply Rolls.foldl; intro s₁ x₁; have h₁ : Rolls s₁ s₁ := Rolls.refl s₁; try dsimp +zetaDelta only) | (with_reducible apply Rolls.foldl1; intro s₁ x₁; have h₁ : Rolls s₁.1 s₁.1 := Rolls.refl s₁.1; try dsimp +zetaDelta only) | extract_lets | split | dsimp +zetaDelta only)

theorem rolls_pushAdm {a₀ s₀ : State} (h₀ : Rolls a₀ s₀) {w : Nat} {e : Adm} :
    Rolls a₀ (pushAdm s₀ w e) := by
  unfold pushAdm
  try extract_lets
  repeat' (first | with_reducible assumption | with_reducible apply rolls_State_gev | with_reducible apply rolls_State_modWicket | with_reducible apply rolls_appendAdm | (fail_if_no_progress with_reducible apply Rolls.upd) | with_reducible apply Rolls.ite | with_reducible apply Rolls.ite1 | (with_reducible apply Rolls.foldl; intro s₁ x₁; have h₁ : Rolls s₁ s₁ := Rolls.refl s₁; try dsimp +zetaDelta only) | (with_reducible apply Rolls.foldl1; intro s₁ x₁; have h₁ : Rolls s₁.1 s₁.1 := Rolls.refl s₁.1; try dsimp +zetaDelta only) | extract_lets | split | dsimp +zetaDelta only)

theorem rolls_drainPost {a₀ s₀ : State} (h₀ : Rolls a₀ s₀) {e : Nat} :
    Rolls a₀ (drainPost s₀ e) := by
  unfold drainPost
  try extract_lets
  repeat' (first | with_reducible assumption | with_reducible apply rolls_pushAdm | (fail_if_no_progress with_reducible apply Rolls.upd) | with_reducible apply Rolls.ite | with_reducible apply Rolls.ite1 | (with_reducible apply Rolls.foldl; intro s₁ x₁; have h₁ : Rolls s₁ s₁ := Rolls.refl s₁; try dsimp +zetaDelta only) | (with_reducible apply Rolls.foldl1; intro s₁ x₁; have h₁ : Rolls s₁.1 s₁.1 := Rolls.refl s₁.1; try dsimp +zetaDelta only) | extract_lets | split | dsimp +zetaDelta only)

theorem rolls_drainWhere {a₀ s₀ : State} (h₀ : Rolls a₀ s₀) {p : Post → Bool} :
    Rolls a₀ (drainWhere s₀ p) := by
  unfold drainWhere
  try extract_lets
  repeat' (first | with_reducible assumption | with_reducible apply rolls_drainPost | (fail_if_no_progress with_reducible apply Rolls.upd) | with_reducible apply Rolls.ite | with_reducible apply Rolls.ite1 | (with_reducible apply Rolls.foldl; intro s₁ x₁; have h₁ : Rolls s₁ s₁ := Rolls.refl s₁; try dsimp +zetaDelta only) | (with_reducible apply Rolls.foldl1; intro s₁ x₁; have h₁ : Rolls s₁.1 s₁.1 := Rolls.refl s₁.1; try dsimp +zetaDelta only) | extract_lets | split | dsimp +zetaDelta only)

theorem rolls_closeEpoch {a₀ s₀ : State} (h₀ : Rolls a₀ s₀) {e : Adm} :
    Rolls a₀ (closeEpoch s₀ e) := by
  unfold closeEpoch
  try extract_lets
  repeat' (first | with_reducible assumption | with_reducible apply rolls_State_modWsAgent | with_reducible apply rolls_checkSettles | with_reducible apply rolls_drainWhere | (fail_if_no_progress with_reducible apply Rolls.upd) | with_reducible apply Rolls.ite | with_reducible apply Rolls.ite1 | (with_reducible apply Rolls.foldl; intro s₁ x₁; have h₁ : Rolls s₁ s₁ := Rolls.refl s₁; try dsimp +zetaDelta only) | (with_reducible apply Rolls.foldl1; intro s₁ x₁; have h₁ : Rolls s₁.1 s₁.1 := Rolls.refl s₁.1; try dsimp +zetaDelta only) | extract_lets | split | dsimp +zetaDelta only)

theorem rolls_closeLocks {a₀ s₀ : State} (h₀ : Rolls a₀ s₀)  :
    Rolls a₀ (closeLocks s₀) := by
  unfold closeLocks
  try extract_lets
  repeat' (first | with_reducible assumption | with_reducible apply rolls_State_modTill | (fail_if_no_progress with_reducible apply Rolls.upd) | with_reducible apply Rolls.ite | with_reducible apply Rolls.ite1 | (with_reducible apply Rolls.foldl; intro s₁ x₁; have h₁ : Rolls s₁ s₁ := Rolls.refl s₁; try dsimp +zetaDelta only) | (with_reducible apply Rolls.foldl1; intro s₁ x₁; have h₁ : Rolls s₁.1 s₁.1 := Rolls.refl s₁.1; try dsimp +zetaDelta only) | extract_lets | split | dsimp +zetaDelta only)

theorem rolls_endHalts {a₀ s₀ : State} (h₀ : Rolls a₀ s₀)  :
    Rolls a₀ (endHalts s₀) := by
  unfold endHalts
  try extract_lets
  repeat' (first | with_reducible assumption | with_reducible apply rolls_endHalt | with_reducible apply rolls_worked | (fail_if_no_progress with_reducible apply Rolls.upd) | with_reducible apply Rolls.ite | with_reducible apply Rolls.ite1 | (with_reducible apply Rolls.foldl; intro s₁ x₁; have h₁ : Rolls s₁ s₁ := Rolls.refl s₁; try dsimp +zetaDelta only) | (with_reducible apply Rolls.foldl1; intro s₁ x₁; have h₁ : Rolls s₁.1 s₁.1 := Rolls.refl s₁.1; try dsimp +zetaDelta only) | extract_lets | split | dsimp +zetaDelta only)

theorem rolls_setLevel {a₀ s₀ : State} (h₀ : Rolls a₀ s₀) {number : Nat} {role : Nat} {v : Nat} :
    Rolls a₀ (setLevel s₀ number role v) := by
  unfold setLevel
  try extract_lets
  repeat' (first | with_reducible assumption | with_reducible apply rolls_State_note | with_reducible apply rolls_closeLocks | with_reducible apply rolls_endHalts | (fail_if_no_progress with_reducible apply Rolls.upd) | with_reducible apply Rolls.ite | with_reducible apply Rolls.ite1 | (with_reducible apply Rolls.foldl; intro s₁ x₁; have h₁ : Rolls s₁ s₁ := Rolls.refl s₁; try dsimp +zetaDelta only) | (with_reducible apply Rolls.foldl1; intro s₁ x₁; have h₁ : Rolls s₁.1 s₁.1 := Rolls.refl s₁.1; try dsimp +zetaDelta only) | extract_lets | split | dsimp +zetaDelta only)

theorem rolls_levelOff {a₀ s₀ : State} (h₀ : Rolls a₀ s₀)  :
    Rolls a₀ (levelOff s₀) := by
  unfold levelOff
  try extract_lets
  repeat' (first | with_reducible assumption | with_reducible apply rolls_setLevel | (fail_if_no_progress with_reducible apply Rolls.upd) | with_reducible apply Rolls.ite | with_reducible apply Rolls.ite1 | (with_reducible apply Rolls.foldl; intro s₁ x₁; have h₁ : Rolls s₁ s₁ := Rolls.refl s₁; try dsimp +zetaDelta only) | (with_reducible apply Rolls.foldl1; intro s₁ x₁; have h₁ : Rolls s₁.1 s₁.1 := Rolls.refl s₁.1; try dsimp +zetaDelta only) | extract_lets | split | dsimp +zetaDelta only)

theorem rolls_closeSession {a₀ s₀ : State} (h₀ : Rolls a₀ s₀) {k : Nat} :
    Rolls a₀ (closeSession s₀ k) := by
  unfold closeSession
  try extract_lets
  repeat' (first | with_reducible assumption | with_reducible apply rolls_State_modSession | with_reducible apply rolls_State_note | with_reducible apply rolls_levelOff | (fail_if_no_progress with_reducible apply Rolls.upd) | with_reducible apply Rolls.ite | with_reducible apply Rolls.ite1 | (with_reducible apply Rolls.foldl; intro s₁ x₁; have h₁ : Rolls s₁ s₁ := Rolls.refl s₁; try dsimp +zetaDelta only) | (with_reducible apply Rolls.foldl1; intro s₁ x₁; have h₁ : Rolls s₁.1 s₁.1 := Rolls.refl s₁.1; try dsimp +zetaDelta only) | extract_lets | split | dsimp +zetaDelta only)

theorem rolls_closeWhere {a₀ s₀ : State} (h₀ : Rolls a₀ s₀) {p : Session → Bool} :
    Rolls a₀ (closeWhere s₀ p) := by
  unfold closeWhere
  try extract_lets
  repeat' (first | with_reducible assumption | with_reducible apply rolls_closeSession | (fail_if_no_progress with_reducible apply Rolls.upd) | with_reducible apply Rolls.ite | with_reducible apply Rolls.ite1 | (with_reducible apply Rolls.foldl; intro s₁ x₁; have h₁ : Rolls s₁ s₁ := Rolls.refl s₁; try dsimp +zetaDelta only) | (with_reducible apply Rolls.foldl1; intro s₁ x₁; have h₁ : Rolls s₁.1 s₁.1 := Rolls.refl s₁.1; try dsimp +zetaDelta only) | extract_lets | split | dsimp +zetaDelta only)

theorem rolls_handOver {a₀ s₀ : State} (h₀ : Rolls a₀ s₀) {w : Nat} {c : HeldCmp} {data : Option (Sys2Proof.LineData × Bool)} :
    Rolls a₀ (handOver s₀ w c data) := by
  unfold handOver
  try extract_lets
  repeat' (first | with_reducible assumption | with_reducible apply rolls_State_modWicket | with_reducible apply rolls_sendCmp | (fail_if_no_progress with_reducible apply Rolls.upd) | with_reducible apply Rolls.ite | with_reducible apply Rolls.ite1 | (with_reducible apply Rolls.foldl; intro s₁ x₁; have h₁ : Rolls s₁ s₁ := Rolls.refl s₁; try dsimp +zetaDelta only) | (with_reducible apply Rolls.foldl1; intro s₁ x₁; have h₁ : Rolls s₁.1 s₁.1 := Rolls.refl s₁.1; try dsimp +zetaDelta only) | extract_lets | split | dsimp +zetaDelta only)

theorem rolls_mirrorNote {a₀ s₀ : State} (h₀ : Rolls a₀ s₀) {c : HeldCmp} :
    Rolls a₀ (mirrorNote s₀ c) := by
  unfold mirrorNote
  try extract_lets
  repeat' (first | with_reducible assumption | (fail_if_no_progress with_reducible apply Rolls.upd) | with_reducible apply Rolls.ite | with_reducible apply Rolls.ite1 | (with_reducible apply Rolls.foldl; intro s₁ x₁; have h₁ : Rolls s₁ s₁ := Rolls.refl s₁; try dsimp +zetaDelta only) | (with_reducible apply Rolls.foldl1; intro s₁ x₁; have h₁ : Rolls s₁.1 s₁.1 := Rolls.refl s₁.1; try dsimp +zetaDelta only) | extract_lets | split | dsimp +zetaDelta only)

theorem rolls_sendQ {a₀ s₀ : State} (h₀ : Rolls a₀ s₀) {q : QFlit} :
    Rolls a₀ (sendQ s₀ q) := by
  unfold sendQ
  try extract_lets
  repeat' (first | with_reducible assumption | with_reducible apply rolls_State_packet | (fail_if_no_progress with_reducible apply Rolls.upd) | with_reducible apply Rolls.ite | with_reducible apply Rolls.ite1 | (with_reducible apply Rolls.foldl; intro s₁ x₁; have h₁ : Rolls s₁ s₁ := Rolls.refl s₁; try dsimp +zetaDelta only) | (with_reducible apply Rolls.foldl1; intro s₁ x₁; have h₁ : Rolls s₁.1 s₁.1 := Rolls.refl s₁.1; try dsimp +zetaDelta only) | extract_lets | split | dsimp +zetaDelta only)

theorem rolls_resend {a₀ s₀ : State} (h₀ : Rolls a₀ s₀) {w : Nat} {t : Nat} {c : HeldCmp} :
    Rolls a₀ (resend s₀ w t c) := by
  unfold resend
  try extract_lets
  repeat' (first | with_reducible assumption | with_reducible apply rolls_sendQ | (fail_if_no_progress with_reducible apply Rolls.upd) | with_reducible apply Rolls.ite | with_reducible apply Rolls.ite1 | (with_reducible apply Rolls.foldl; intro s₁ x₁; have h₁ : Rolls s₁ s₁ := Rolls.refl s₁; try dsimp +zetaDelta only) | (with_reducible apply Rolls.foldl1; intro s₁ x₁; have h₁ : Rolls s₁.1 s₁.1 := Rolls.refl s₁.1; try dsimp +zetaDelta only) | extract_lets | split | dsimp +zetaDelta only)

theorem rolls_giveHandle {a₀ s₀ : State} (h₀ : Rolls a₀ s₀) {h : Nat} {t : Nat} {c : HeldCmp} :
    Rolls a₀ (giveHandle s₀ h t c) := by
  unfold giveHandle
  try extract_lets
  repeat' (first | with_reducible assumption | with_reducible apply rolls_sendCmp | (fail_if_no_progress with_reducible apply Rolls.upd) | with_reducible apply Rolls.ite | with_reducible apply Rolls.ite1 | (with_reducible apply Rolls.foldl; intro s₁ x₁; have h₁ : Rolls s₁ s₁ := Rolls.refl s₁; try dsimp +zetaDelta only) | (with_reducible apply Rolls.foldl1; intro s₁ x₁; have h₁ : Rolls s₁.1 s₁.1 := Rolls.refl s₁.1; try dsimp +zetaDelta only) | extract_lets | split | dsimp +zetaDelta only)

theorem rolls_takeHandle {a₀ s₀ : State} (h₀ : Rolls a₀ s₀) {t : Nat} {c : HeldCmp} :
    Rolls a₀ (takeHandle s₀ t c) := by
  unfold takeHandle
  try extract_lets
  repeat' (first | with_reducible assumption | with_reducible apply rolls_giveHandle | (fail_if_no_progress with_reducible apply Rolls.upd) | with_reducible apply Rolls.ite | with_reducible apply Rolls.ite1 | (with_reducible apply Rolls.foldl; intro s₁ x₁; have h₁ : Rolls s₁ s₁ := Rolls.refl s₁; try dsimp +zetaDelta only) | (with_reducible apply Rolls.foldl1; intro s₁ x₁; have h₁ : Rolls s₁.1 s₁.1 := Rolls.refl s₁.1; try dsimp +zetaDelta only) | extract_lets | split | dsimp +zetaDelta only)

theorem rolls_finishCmp {a₀ s₀ : State} (h₀ : Rolls a₀ s₀) {w : Nat} {c : HeldCmp} {data : Option (Sys2Proof.LineData × Bool)} :
    Rolls a₀ (finishCmp s₀ w c data) := by
  unfold finishCmp
  try extract_lets
  repeat' (first | with_reducible assumption | with_reducible apply rolls_handOver | with_reducible apply rolls_mirrorNote | with_reducible apply rolls_resend | with_reducible apply rolls_takeHandle | (fail_if_no_progress with_reducible apply Rolls.upd) | with_reducible apply Rolls.ite | with_reducible apply Rolls.ite1 | (with_reducible apply Rolls.foldl; intro s₁ x₁; have h₁ : Rolls s₁ s₁ := Rolls.refl s₁; try dsimp +zetaDelta only) | (with_reducible apply Rolls.foldl1; intro s₁ x₁; have h₁ : Rolls s₁.1 s₁.1 := Rolls.refl s₁.1; try dsimp +zetaDelta only) | extract_lets | split | dsimp +zetaDelta only)

theorem rolls_flushCmps {a₀ s₀ : State} (h₀ : Rolls a₀ s₀) {x0 : Nat} {x2 : Nat} {x3 : Nat} {x4 : Sys2Proof.Aid} :
    Rolls a₀ (flushCmps x0 s₀ x2 x3 x4) := by
  induction x0 generalizing s₀ with
  | zero => unfold flushCmps; exact h₀
  | succ n ih =>
    unfold flushCmps
    try extract_lets
    repeat' (first | with_reducible assumption | with_reducible apply ih | with_reducible apply rolls_State_modWicket | with_reducible apply rolls_finishCmp | (fail_if_no_progress with_reducible apply Rolls.upd) | with_reducible apply Rolls.ite | with_reducible apply Rolls.ite1 | (with_reducible apply Rolls.foldl; intro s₁ x₁; have h₁ : Rolls s₁ s₁ := Rolls.refl s₁; try dsimp +zetaDelta only) | (with_reducible apply Rolls.foldl1; intro s₁ x₁; have h₁ : Rolls s₁.1 s₁.1 := Rolls.refl s₁.1; try dsimp +zetaDelta only) | extract_lets | split | dsimp +zetaDelta only)

theorem rolls_flush {a₀ s₀ : State} (h₀ : Rolls a₀ s₀) {w : Nat} {t : Nat} {a : Sys2Proof.Aid} :
    Rolls a₀ (flush s₀ w t a) := by
  unfold flush
  try extract_lets
  repeat' (first | with_reducible assumption | with_reducible apply rolls_flushCmps | (fail_if_no_progress with_reducible apply Rolls.upd) | with_reducible apply Rolls.ite | with_reducible apply Rolls.ite1 | (with_reducible apply Rolls.foldl; intro s₁ x₁; have h₁ : Rolls s₁ s₁ := Rolls.refl s₁; try dsimp +zetaDelta only) | (with_reducible apply Rolls.foldl1; intro s₁ x₁; have h₁ : Rolls s₁.1 s₁.1 := Rolls.refl s₁.1; try dsimp +zetaDelta only) | extract_lets | split | dsimp +zetaDelta only)

theorem rolls_regrantAll {a₀ s₀ : State} (h₀ : Rolls a₀ s₀) {w : Nat} {a : Nat} :
    Rolls a₀ (regrantAll s₀ w a) := by
  unfold regrantAll
  try extract_lets
  repeat' (first | with_reducible assumption | with_reducible apply rolls_regrant | (fail_if_no_progress with_reducible apply Rolls.upd) | with_reducible apply Rolls.ite | with_reducible apply Rolls.ite1 | (with_reducible apply Rolls.foldl; intro s₁ x₁; have h₁ : Rolls s₁ s₁ := Rolls.refl s₁; try dsimp +zetaDelta only) | (with_reducible apply Rolls.foldl1; intro s₁ x₁; have h₁ : Rolls s₁.1 s₁.1 := Rolls.refl s₁.1; try dsimp +zetaDelta only) | extract_lets | split | dsimp +zetaDelta only)

theorem rolls_highWater {a₀ s₀ : State} (h₀ : Rolls a₀ s₀)  :
    Rolls a₀ (highWater s₀) := by
  unfold highWater
  try extract_lets
  repeat' (first | with_reducible assumption | with_reducible apply rolls_drainPost | (fail_if_no_progress with_reducible apply Rolls.upd) | with_reducible apply Rolls.ite | with_reducible apply Rolls.ite1 | (with_reducible apply Rolls.foldl; intro s₁ x₁; have h₁ : Rolls s₁ s₁ := Rolls.refl s₁; try dsimp +zetaDelta only) | (with_reducible apply Rolls.foldl1; intro s₁ x₁; have h₁ : Rolls s₁.1 s₁.1 := Rolls.refl s₁.1; try dsimp +zetaDelta only) | extract_lets | split | dsimp +zetaDelta only)

theorem rolls_postStore {a₀ s₀ : State} (h₀ : Rolls a₀ s₀) {a : Sys2Proof.Aid} {l : Sys2Proof.Line} {d : WData} {epoch : Nat} :
    Rolls a₀ (postStore s₀ a l d epoch) := by
  unfold postStore
  try extract_lets
  repeat' (first | with_reducible assumption | with_reducible apply rolls_State_bump | with_reducible apply rolls_State_modWsAgent | with_reducible apply rolls_highWater | (fail_if_no_progress with_reducible apply Rolls.upd) | with_reducible apply Rolls.ite | with_reducible apply Rolls.ite1 | (with_reducible apply Rolls.foldl; intro s₁ x₁; have h₁ : Rolls s₁ s₁ := Rolls.refl s₁; try dsimp +zetaDelta only) | (with_reducible apply Rolls.foldl1; intro s₁ x₁; have h₁ : Rolls s₁.1 s₁.1 := Rolls.refl s₁.1; try dsimp +zetaDelta only) | extract_lets | split | dsimp +zetaDelta only)

theorem rolls_postWrite {a₀ s₀ : State} (h₀ : Rolls a₀ s₀) {e : Adm} :
    Rolls a₀ (postWrite s₀ e) := by
  unfold postWrite
  try extract_lets
  repeat' (first | with_reducible assumption | with_reducible apply rolls_checkSettles | with_reducible apply rolls_postStore | with_reducible apply rolls_sendCmp | (fail_if_no_progress with_reducible apply Rolls.upd) | with_reducible apply Rolls.ite | with_reducible apply Rolls.ite1 | (with_reducible apply Rolls.foldl; intro s₁ x₁; have h₁ : Rolls s₁ s₁ := Rolls.refl s₁; try dsimp +zetaDelta only) | (with_reducible apply Rolls.foldl1; intro s₁ x₁; have h₁ : Rolls s₁.1 s₁.1 := Rolls.refl s₁.1; try dsimp +zetaDelta only) | extract_lets | split | dsimp +zetaDelta only)

theorem rolls_wsServe {a₀ s₀ : State} (h₀ : Rolls a₀ s₀) {e : Adm} :
    ∀ t₀, (wsServe s₀ e) = some t₀ → Rolls a₀ t₀.1 := by
  intro t₀ e₀
  unfold wsServe at e₀
  try dsimp only at e₀
  repeat' (split at e₀)
  all_goals first | (simp only [Option.some.injEq, reduceCtorEq] at e₀; done) | (simp only [Option.some.injEq] at e₀; subst e₀)
  all_goals repeat' (first | with_reducible assumption | with_reducible apply rolls_State_bump | with_reducible apply rolls_closeEpoch | with_reducible apply rolls_drainWhere | with_reducible apply rolls_postWrite | with_reducible apply rolls_sendCmp | (fail_if_no_progress with_reducible apply Rolls.upd) | with_reducible apply Rolls.ite | with_reducible apply Rolls.ite1 | (with_reducible apply Rolls.foldl; intro s₁ x₁; have h₁ : Rolls s₁ s₁ := Rolls.refl s₁; try dsimp +zetaDelta only) | (with_reducible apply Rolls.foldl1; intro s₁ x₁; have h₁ : Rolls s₁.1 s₁.1 := Rolls.refl s₁.1; try dsimp +zetaDelta only) | extract_lets | split | dsimp +zetaDelta only)

theorem rolls_wsServe_eq {a₀ s₀ u₀ : State} {y₀ : Bool} {e : Adm} (e₀ : wsServe s₀ e = some (u₀, y₀)) (h₀ : Rolls a₀ s₀) : Rolls a₀ u₀ :=
  rolls_wsServe h₀ (u₀, y₀) e₀

end Sys2Proof.Machine
end

