-- ==== Sys2Proof/Laws/RollsX3.lean ====
section
/-! SUPPORT. What `Rolls` says of each operation, in the order of the callees. -/

namespace Sys2Proof.Machine
set_option linter.all false

theorem rolls_pumpHeld {a₀ s₀ : State} (h₀ : Rolls a₀ s₀) {x0 : Nat} {x2 : Nat} :
    Rolls a₀ (pumpHeld x0 s₀ x2) := by
  induction x0 generalizing s₀ with
  | zero => unfold pumpHeld; exact h₀
  | succ n ih =>
    unfold pumpHeld
    try extract_lets
    repeat' (first | with_reducible assumption | with_reducible apply ih | with_reducible refine rolls_wsServe_eq (by assumption) ?_ | with_reducible apply rolls_State_modWicket | with_reducible apply rolls_appendAdm | with_reducible apply rolls_regrantAll | (fail_if_no_progress with_reducible apply Rolls.upd) | with_reducible apply Rolls.ite | with_reducible apply Rolls.ite1 | (with_reducible apply Rolls.foldl; intro s₁ x₁; have h₁ : Rolls s₁ s₁ := Rolls.refl s₁; try dsimp +zetaDelta only) | (with_reducible apply Rolls.foldl1; intro s₁ x₁; have h₁ : Rolls s₁.1 s₁.1 := Rolls.refl s₁.1; try dsimp +zetaDelta only) | extract_lets | split | dsimp +zetaDelta only)

theorem rolls_pumpAll {a₀ s₀ : State} (h₀ : Rolls a₀ s₀)  :
    Rolls a₀ (pumpAll s₀) := by
  unfold pumpAll
  try extract_lets
  repeat' (first | with_reducible assumption | with_reducible apply rolls_pumpHeld | (fail_if_no_progress with_reducible apply Rolls.upd) | with_reducible apply Rolls.ite | with_reducible apply Rolls.ite1 | (with_reducible apply Rolls.foldl; intro s₁ x₁; have h₁ : Rolls s₁ s₁ := Rolls.refl s₁; try dsimp +zetaDelta only) | (with_reducible apply Rolls.foldl1; intro s₁ x₁; have h₁ : Rolls s₁.1 s₁.1 := Rolls.refl s₁.1; try dsimp +zetaDelta only) | extract_lets | split | dsimp +zetaDelta only)

theorem rolls_freePost {a₀ s₀ : State} (h₀ : Rolls a₀ s₀) {e : Nat} :
    Rolls a₀ (freePost s₀ e) := by
  unfold freePost
  try extract_lets
  repeat' (first | with_reducible assumption | with_reducible apply rolls_pumpAll | (fail_if_no_progress with_reducible apply Rolls.upd) | with_reducible apply Rolls.ite | with_reducible apply Rolls.ite1 | (with_reducible apply Rolls.foldl; intro s₁ x₁; have h₁ : Rolls s₁ s₁ := Rolls.refl s₁; try dsimp +zetaDelta only) | (with_reducible apply Rolls.foldl1; intro s₁ x₁; have h₁ : Rolls s₁.1 s₁.1 := Rolls.refl s₁.1; try dsimp +zetaDelta only) | extract_lets | split | dsimp +zetaDelta only)

theorem rolls_noteOutcome {a₀ s₀ : State} (h₀ : Rolls a₀ s₀) {a : Nat} {e : Nat} {o : Outc} {ends : Bool} :
    Rolls a₀ (noteOutcome s₀ a e o ends) := by
  unfold noteOutcome
  try extract_lets
  repeat' (first | with_reducible assumption | with_reducible apply rolls_State_modWsAgent | (fail_if_no_progress with_reducible apply Rolls.upd) | with_reducible apply Rolls.ite | with_reducible apply Rolls.ite1 | (with_reducible apply Rolls.foldl; intro s₁ x₁; have h₁ : Rolls s₁ s₁ := Rolls.refl s₁; try dsimp +zetaDelta only) | (with_reducible apply Rolls.foldl1; intro s₁ x₁; have h₁ : Rolls s₁.1 s₁.1 := Rolls.refl s₁.1; try dsimp +zetaDelta only) | extract_lets | split | dsimp +zetaDelta only)

theorem rolls_postDone {a₀ s₀ : State} (h₀ : Rolls a₀ s₀) {c : HeldCmp} {e : Nat} :
    Rolls a₀ (postDone s₀ c e) := by
  unfold postDone
  try extract_lets
  repeat' (first | with_reducible assumption | with_reducible apply rolls_State_note | with_reducible apply rolls_freePost | with_reducible apply rolls_noteOutcome | (fail_if_no_progress with_reducible apply Rolls.upd) | with_reducible apply Rolls.ite | with_reducible apply Rolls.ite1 | (with_reducible apply Rolls.foldl; intro s₁ x₁; have h₁ : Rolls s₁ s₁ := Rolls.refl s₁; try dsimp +zetaDelta only) | (with_reducible apply Rolls.foldl1; intro s₁ x₁; have h₁ : Rolls s₁.1 s₁.1 := Rolls.refl s₁.1; try dsimp +zetaDelta only) | extract_lets | split | dsimp +zetaDelta only)

theorem rolls_forwardRsp {a₀ s₀ : State} (h₀ : Rolls a₀ s₀) {w : Nat} {p : Snoop} {o : RspOpc} {a : Sys2Proof.Aid} {lines : List Nat} :
    Rolls a₀ (forwardRsp s₀ w p o a lines) := by
  unfold forwardRsp
  try extract_lets
  repeat' (first | with_reducible assumption | (intro s₂; have h₂ : Rolls s₂ s₂ := Rolls.refl s₂; try dsimp +zetaDelta only) | with_reducible apply rolls_State_packet | with_reducible apply rolls_atTill | with_reducible apply rolls_respond | (fail_if_no_progress with_reducible apply Rolls.upd) | with_reducible apply Rolls.ite | with_reducible apply Rolls.ite1 | (with_reducible apply Rolls.foldl; intro s₁ x₁; have h₁ : Rolls s₁ s₁ := Rolls.refl s₁; try dsimp +zetaDelta only) | (with_reducible apply Rolls.foldl1; intro s₁ x₁; have h₁ : Rolls s₁.1 s₁.1 := Rolls.refl s₁.1; try dsimp +zetaDelta only) | extract_lets | split | dsimp +zetaDelta only)

theorem rolls_takeSids {a₀ s₀ : State} (h₀ : Rolls a₀ s₀) {x0 : Nat} {x2 : Nat} :
    Rolls a₀ (takeSids x0 s₀ x2) := by
  induction x0 generalizing s₀ with
  | zero => exact h₀
  | succ n ih =>
    unfold takeSids
    split
    · extract_lets
      apply ih
      repeat' (first | with_reducible assumption | with_reducible apply rolls_State_send | with_reducible apply rolls_State_modWicket | with_reducible apply Rolls.ite)
    · exact h₀

theorem rolls_freeSid {a₀ s₀ : State} (h₀ : Rolls a₀ s₀) {w : Nat} {sid : Nat} :
    Rolls a₀ (freeSid s₀ w sid) := by
  unfold freeSid
  try extract_lets
  repeat' (first | with_reducible assumption | with_reducible apply rolls_State_modWicket | with_reducible apply rolls_takeSids | (fail_if_no_progress with_reducible apply Rolls.upd) | with_reducible apply Rolls.ite | with_reducible apply Rolls.ite1 | (with_reducible apply Rolls.foldl; intro s₁ x₁; have h₁ : Rolls s₁ s₁ := Rolls.refl s₁; try dsimp +zetaDelta only) | (with_reducible apply Rolls.foldl1; intro s₁ x₁; have h₁ : Rolls s₁.1 s₁.1 := Rolls.refl s₁.1; try dsimp +zetaDelta only) | extract_lets | split | dsimp +zetaDelta only)

theorem rolls_freeIfDone {a₀ s₀ : State} (h₀ : Rolls a₀ s₀) {w : Nat} {sid : Nat} :
    Rolls a₀ (freeIfDone s₀ w sid) := by
  unfold freeIfDone
  try extract_lets
  repeat' (first | with_reducible assumption | with_reducible apply rolls_freeSid | (fail_if_no_progress with_reducible apply Rolls.upd) | with_reducible apply Rolls.ite | with_reducible apply Rolls.ite1 | (with_reducible apply Rolls.foldl; intro s₁ x₁; have h₁ : Rolls s₁ s₁ := Rolls.refl s₁; try dsimp +zetaDelta only) | (with_reducible apply Rolls.foldl1; intro s₁ x₁; have h₁ : Rolls s₁.1 s₁.1 := Rolls.refl s₁.1; try dsimp +zetaDelta only) | extract_lets | split | dsimp +zetaDelta only)

theorem rolls_pumpRsp {a₀ s₀ : State} (h₀ : Rolls a₀ s₀) {w : Nat} :
    Rolls a₀ (pumpRsp s₀ w) := by
  unfold pumpRsp
  try extract_lets
  repeat' (first | with_reducible assumption | with_reducible apply rolls_State_modWicket | with_reducible apply rolls_forwardRsp | with_reducible apply rolls_freeIfDone | (fail_if_no_progress with_reducible apply Rolls.upd) | with_reducible apply Rolls.ite | with_reducible apply Rolls.ite1 | (with_reducible apply Rolls.foldl; intro s₁ x₁; have h₁ : Rolls s₁ s₁ := Rolls.refl s₁; try dsimp +zetaDelta only) | (with_reducible apply Rolls.foldl1; intro s₁ x₁; have h₁ : Rolls s₁.1 s₁.1 := Rolls.refl s₁.1; try dsimp +zetaDelta only) | extract_lets | split | dsimp +zetaDelta only)

theorem rolls_wbAnswered {a₀ s₀ : State} (h₀ : Rolls a₀ s₀) {w : Nat} {a : Sys2Proof.Aid} {tag : Sys2Proof.Tag} {l : Sys2Proof.Line} :
    Rolls a₀ (wbAnswered s₀ w a tag l) := by
  unfold wbAnswered
  try extract_lets
  repeat' (first | with_reducible assumption | with_reducible apply rolls_State_modWicket | with_reducible apply rolls_pumpRsp | (fail_if_no_progress with_reducible apply Rolls.upd) | with_reducible apply Rolls.ite | with_reducible apply Rolls.ite1 | (with_reducible apply Rolls.foldl; intro s₁ x₁; have h₁ : Rolls s₁ s₁ := Rolls.refl s₁; try dsimp +zetaDelta only) | (with_reducible apply Rolls.foldl1; intro s₁ x₁; have h₁ : Rolls s₁.1 s₁.1 := Rolls.refl s₁.1; try dsimp +zetaDelta only) | extract_lets | split | dsimp +zetaDelta only)

theorem rolls_cmpArrives {a₀ s₀ : State} (h₀ : Rolls a₀ s₀) {w : Nat} {c : HeldCmp} :
    Rolls a₀ (cmpArrives s₀ w c) := by
  unfold cmpArrives
  try extract_lets
  repeat' (first | with_reducible assumption | with_reducible apply rolls_State_modWicket | with_reducible apply rolls_flush | with_reducible apply rolls_postDone | with_reducible apply rolls_resend | with_reducible apply rolls_wbAnswered | (fail_if_no_progress with_reducible apply Rolls.upd) | with_reducible apply Rolls.ite | with_reducible apply Rolls.ite1 | (with_reducible apply Rolls.foldl; intro s₁ x₁; have h₁ : Rolls s₁ s₁ := Rolls.refl s₁; try dsimp +zetaDelta only) | (with_reducible apply Rolls.foldl1; intro s₁ x₁; have h₁ : Rolls s₁.1 s₁.1 := Rolls.refl s₁.1; try dsimp +zetaDelta only) | extract_lets | split | dsimp +zetaDelta only)

theorem rolls_copyRun {a₀ s₀ : State} (h₀ : Rolls a₀ s₀) {x : Transfer} {bank : Nat} {run : Nat} :
    Rolls a₀ (copyRun s₀ x bank run) := by
  unfold copyRun
  try extract_lets
  repeat' (first | with_reducible assumption | with_reducible apply rolls_State_modTill | with_reducible apply rolls_State_packet | (fail_if_no_progress with_reducible apply Rolls.upd) | with_reducible apply Rolls.ite | with_reducible apply Rolls.ite1 | (with_reducible apply Rolls.foldl; intro s₁ x₁; have h₁ : Rolls s₁ s₁ := Rolls.refl s₁; try dsimp +zetaDelta only) | (with_reducible apply Rolls.foldl1; intro s₁ x₁; have h₁ : Rolls s₁.1 s₁.1 := Rolls.refl s₁.1; try dsimp +zetaDelta only) | extract_lets | split | dsimp +zetaDelta only)

theorem rolls_orderRetire {a₀ s₀ : State} (h₀ : Rolls a₀ s₀) {t : Nat} {bank : Nat} {row : Nat} :
    Rolls a₀ (orderRetire s₀ t bank row) := by
  unfold orderRetire
  try extract_lets
  repeat' (first | with_reducible assumption | (fail_if_no_progress with_reducible apply Rolls.upd) | with_reducible apply Rolls.ite | with_reducible apply Rolls.ite1 | (with_reducible apply Rolls.foldl; intro s₁ x₁; have h₁ : Rolls s₁ s₁ := Rolls.refl s₁; try dsimp +zetaDelta only) | (with_reducible apply Rolls.foldl1; intro s₁ x₁; have h₁ : Rolls s₁.1 s₁.1 := Rolls.refl s₁.1; try dsimp +zetaDelta only) | extract_lets | split | dsimp +zetaDelta only)

theorem rolls_correctable {a₀ s₀ : State} (h₀ : Rolls a₀ s₀) {t : Nat} {store : Nat} {bank : Nat} {row : Nat} :
    Rolls a₀ (correctable s₀ t store bank row) := by
  unfold correctable
  try extract_lets
  repeat' (first | with_reducible assumption | with_reducible apply rolls_State_bump | with_reducible apply rolls_State_modTill | with_reducible apply rolls_orderRetire | (fail_if_no_progress with_reducible apply Rolls.upd) | with_reducible apply Rolls.ite | with_reducible apply Rolls.ite1 | (with_reducible apply Rolls.foldl; intro s₁ x₁; have h₁ : Rolls s₁ s₁ := Rolls.refl s₁; try dsimp +zetaDelta only) | (with_reducible apply Rolls.foldl1; intro s₁ x₁; have h₁ : Rolls s₁.1 s₁.1 := Rolls.refl s₁.1; try dsimp +zetaDelta only) | extract_lets | split | dsimp +zetaDelta only)

theorem rolls_leaveHold {a₀ s₀ : State} (h₀ : Rolls a₀ s₀) {cause : Nat} :
    Rolls a₀ (leaveHold s₀ cause) := by
  unfold leaveHold
  try extract_lets
  repeat' (first | with_reducible assumption | with_reducible apply rolls_State_modPower | with_reducible apply rolls_askMargin | (fail_if_no_progress with_reducible apply Rolls.upd) | with_reducible apply Rolls.ite | with_reducible apply Rolls.ite1 | (with_reducible apply Rolls.foldl; intro s₁ x₁; have h₁ : Rolls s₁ s₁ := Rolls.refl s₁; try dsimp +zetaDelta only) | (with_reducible apply Rolls.foldl1; intro s₁ x₁; have h₁ : Rolls s₁.1 s₁.1 := Rolls.refl s₁.1; try dsimp +zetaDelta only) | extract_lets | split | dsimp +zetaDelta only)

theorem rolls_holdTick {a₀ s₀ : State} (h₀ : Rolls a₀ s₀)  :
    Rolls a₀ (holdTick s₀) := by
  unfold holdTick
  try extract_lets
  repeat' (first | with_reducible assumption | with_reducible apply rolls_leaveHold | (fail_if_no_progress with_reducible apply Rolls.upd) | with_reducible apply Rolls.ite | with_reducible apply Rolls.ite1 | (with_reducible apply Rolls.foldl; intro s₁ x₁; have h₁ : Rolls s₁ s₁ := Rolls.refl s₁; try dsimp +zetaDelta only) | (with_reducible apply Rolls.foldl1; intro s₁ x₁; have h₁ : Rolls s₁.1 s₁.1 := Rolls.refl s₁.1; try dsimp +zetaDelta only) | extract_lets | split | dsimp +zetaDelta only)

theorem rolls_measureBoundary {a₀ s₀ : State} (h₀ : Rolls a₀ s₀)  :
    Rolls a₀ (measureBoundary s₀) := by
  unfold measureBoundary
  try extract_lets
  repeat' (first | with_reducible assumption | (fail_if_no_progress with_reducible apply Rolls.upd) | with_reducible apply Rolls.ite | with_reducible apply Rolls.ite1 | (with_reducible apply Rolls.foldl; intro s₁ x₁; have h₁ : Rolls s₁ s₁ := Rolls.refl s₁; try dsimp +zetaDelta only) | (with_reducible apply Rolls.foldl1; intro s₁ x₁; have h₁ : Rolls s₁.1 s₁.1 := Rolls.refl s₁.1; try dsimp +zetaDelta only) | extract_lets | split | dsimp +zetaDelta only)

theorem rolls_refillOrders {a₀ s₀ : State} (h₀ : Rolls a₀ s₀)  :
    Rolls a₀ (refillOrders s₀) := by
  unfold refillOrders
  try extract_lets
  repeat' (first | with_reducible assumption | (fail_if_no_progress with_reducible apply Rolls.upd) | with_reducible apply Rolls.ite | with_reducible apply Rolls.ite1 | (with_reducible apply Rolls.foldl; intro s₁ x₁; have h₁ : Rolls s₁ s₁ := Rolls.refl s₁; try dsimp +zetaDelta only) | (with_reducible apply Rolls.foldl1; intro s₁ x₁; have h₁ : Rolls s₁.1 s₁.1 := Rolls.refl s₁.1; try dsimp +zetaDelta only) | extract_lets | split | dsimp +zetaDelta only)

theorem rolls_watchTick {a₀ s₀ : State} (h₀ : Rolls a₀ s₀)  :
    Rolls a₀ (watchTick s₀) := by
  unfold watchTick
  try extract_lets
  repeat' (first | with_reducible assumption | with_reducible apply rolls_State_modTill | (fail_if_no_progress with_reducible apply Rolls.upd) | with_reducible apply Rolls.ite | with_reducible apply Rolls.ite1 | (with_reducible apply Rolls.foldl; intro s₁ x₁; have h₁ : Rolls s₁ s₁ := Rolls.refl s₁; try dsimp +zetaDelta only) | (with_reducible apply Rolls.foldl1; intro s₁ x₁; have h₁ : Rolls s₁.1 s₁.1 := Rolls.refl s₁.1; try dsimp +zetaDelta only) | extract_lets | split | dsimp +zetaDelta only)

theorem rolls_windowBoundary {a₀ s₀ : State} (h₀ : Rolls a₀ s₀)  :
    Rolls a₀ (windowBoundary s₀) := by
  unfold windowBoundary
  try extract_lets
  repeat' (first | with_reducible assumption | (fail_if_no_progress with_reducible apply Rolls.upd) | with_reducible apply Rolls.ite | with_reducible apply Rolls.ite1 | (with_reducible apply Rolls.foldl; intro s₁ x₁; have h₁ : Rolls s₁ s₁ := Rolls.refl s₁; try dsimp +zetaDelta only) | (with_reducible apply Rolls.foldl1; intro s₁ x₁; have h₁ : Rolls s₁.1 s₁.1 := Rolls.refl s₁.1; try dsimp +zetaDelta only) | extract_lets | split | dsimp +zetaDelta only)

theorem rolls_counted {a₀ s₀ : State} (h₀ : Rolls a₀ s₀)  :
    Rolls a₀ (counted s₀) := by
  unfold counted
  try extract_lets
  repeat' (first | with_reducible assumption | with_reducible apply rolls_alarmBoundary | with_reducible apply rolls_holdTick | with_reducible apply rolls_measureBoundary | with_reducible apply rolls_refillOrders | with_reducible apply rolls_watchTick | with_reducible apply rolls_windowBoundary | (fail_if_no_progress with_reducible apply Rolls.upd) | with_reducible apply Rolls.ite | with_reducible apply Rolls.ite1 | (with_reducible apply Rolls.foldl; intro s₁ x₁; have h₁ : Rolls s₁ s₁ := Rolls.refl s₁; try dsimp +zetaDelta only) | (with_reducible apply Rolls.foldl1; intro s₁ x₁; have h₁ : Rolls s₁.1 s₁.1 := Rolls.refl s₁.1; try dsimp +zetaDelta only) | extract_lets | split | dsimp +zetaDelta only)

theorem rolls_kickData {a₀ s₀ : State} (h₀ : Rolls a₀ s₀) {t : Nat} :
    Rolls a₀ (kickData s₀ t) := by
  unfold kickData
  try extract_lets
  repeat' (first | with_reducible assumption | with_reducible apply rolls_finish | (fail_if_no_progress with_reducible apply Rolls.upd) | with_reducible apply Rolls.ite | with_reducible apply Rolls.ite1 | (with_reducible apply Rolls.foldl; intro s₁ x₁; have h₁ : Rolls s₁ s₁ := Rolls.refl s₁; try dsimp +zetaDelta only) | (with_reducible apply Rolls.foldl1; intro s₁ x₁; have h₁ : Rolls s₁.1 s₁.1 := Rolls.refl s₁.1; try dsimp +zetaDelta only) | extract_lets | split | dsimp +zetaDelta only)

theorem rolls_credReturn {a₀ s₀ : State} (h₀ : Rolls a₀ s₀) {m : Nat} {t : Nat} {data : Bool} {n : Nat} :
    Rolls a₀ (credReturn s₀ m t data n) := by
  unfold credReturn
  try extract_lets
  repeat' (first | with_reducible assumption | with_reducible apply rolls_State_bump | with_reducible apply rolls_State_modTill | with_reducible apply rolls_drainMem | with_reducible apply rolls_kickData | (fail_if_no_progress with_reducible apply Rolls.upd) | with_reducible apply Rolls.ite | with_reducible apply Rolls.ite1 | (with_reducible apply Rolls.foldl; intro s₁ x₁; have h₁ : Rolls s₁ s₁ := Rolls.refl s₁; try dsimp +zetaDelta only) | (with_reducible apply Rolls.foldl1; intro s₁ x₁; have h₁ : Rolls s₁.1 s₁.1 := Rolls.refl s₁.1; try dsimp +zetaDelta only) | extract_lets | split | dsimp +zetaDelta only)

theorem rolls_creditBack {a₀ s₀ : State} (h₀ : Rolls a₀ s₀) {w : Nat} {t : Nat} {src : Src} {a : Sys2Proof.Aid} {i : Sys2Proof.Inc} {data : Bool} :
    Rolls a₀ (creditBack s₀ w t src a i data) := by
  unfold creditBack
  try extract_lets
  repeat' (first | with_reducible assumption | with_reducible apply rolls_State_modTill | with_reducible apply rolls_State_modWicket | (fail_if_no_progress with_reducible apply Rolls.upd) | with_reducible apply Rolls.ite | with_reducible apply Rolls.ite1 | (with_reducible apply Rolls.foldl; intro s₁ x₁; have h₁ : Rolls s₁ s₁ := Rolls.refl s₁; try dsimp +zetaDelta only) | (with_reducible apply Rolls.foldl1; intro s₁ x₁; have h₁ : Rolls s₁.1 s₁.1 := Rolls.refl s₁.1; try dsimp +zetaDelta only) | extract_lets | split | dsimp +zetaDelta only)

theorem rolls_dataArrives {a₀ s₀ : State} (h₀ : Rolls a₀ s₀) {w : Nat} {t : Nat} {d : DMsg} :
    Rolls a₀ (dataArrives s₀ w t d) := by
  unfold dataArrives
  try extract_lets
  repeat' (first | with_reducible assumption | with_reducible apply rolls_State_modWicket | with_reducible apply rolls_flush | (fail_if_no_progress with_reducible apply Rolls.upd) | with_reducible apply Rolls.ite | with_reducible apply Rolls.ite1 | (with_reducible apply Rolls.foldl; intro s₁ x₁; have h₁ : Rolls s₁ s₁ := Rolls.refl s₁; try dsimp +zetaDelta only) | (with_reducible apply Rolls.foldl1; intro s₁ x₁; have h₁ : Rolls s₁.1 s₁.1 := Rolls.refl s₁.1; try dsimp +zetaDelta only) | extract_lets | split | dsimp +zetaDelta only)

theorem rolls_spendEntry {a₀ s₀ : State} (h₀ : Rolls a₀ s₀) {w : Nat} {a : Nat} {o : Opc} :
    Rolls a₀ (spendEntry s₀ w a o).1 := by
  unfold spendEntry
  try extract_lets
  repeat' (first | with_reducible assumption | with_reducible apply rolls_State_modWicket | (fail_if_no_progress with_reducible apply Rolls.upd) | with_reducible apply Rolls.ite | with_reducible apply Rolls.ite1 | (with_reducible apply Rolls.foldl; intro s₁ x₁; have h₁ : Rolls s₁ s₁ := Rolls.refl s₁; try dsimp +zetaDelta only) | (with_reducible apply Rolls.foldl1; intro s₁ x₁; have h₁ : Rolls s₁.1 s₁.1 := Rolls.refl s₁.1; try dsimp +zetaDelta only) | extract_lets | split | dsimp +zetaDelta only)

theorem rolls_spendEntry_eq {a₀ s₀ u₀ : State} {y₀ : Bool} {w : Nat} {a : Nat} {o : Opc} (e₀ : spendEntry s₀ w a o = (u₀, y₀)) (h₀ : Rolls a₀ s₀) :
    Rolls a₀ u₀ := by
  have k := @rolls_spendEntry  a₀ s₀ h₀ w a o
  rw [e₀] at k; exact k

theorem rolls_payEntry {a₀ s₀ : State} (h₀ : Rolls a₀ s₀) {w : Nat} {a : Nat} {o : Opc} {origin : Origin} :
    Rolls a₀ (payEntry s₀ w a o origin).1 := by
  unfold payEntry
  try extract_lets
  repeat' (first | with_reducible assumption | with_reducible refine rolls_spendEntry_eq (by assumption) ?_ | with_reducible apply rolls_spendEntry | (fail_if_no_progress with_reducible apply Rolls.upd) | with_reducible apply Rolls.ite | with_reducible apply Rolls.ite1 | (with_reducible apply Rolls.foldl; intro s₁ x₁; have h₁ : Rolls s₁ s₁ := Rolls.refl s₁; try dsimp +zetaDelta only) | (with_reducible apply Rolls.foldl1; intro s₁ x₁; have h₁ : Rolls s₁.1 s₁.1 := Rolls.refl s₁.1; try dsimp +zetaDelta only) | extract_lets | split | dsimp +zetaDelta only)

theorem rolls_payEntry_eq {a₀ s₀ u₀ : State} {y₀ : Bool} {w : Nat} {a : Nat} {o : Opc} {origin : Origin} (e₀ : payEntry s₀ w a o origin = (u₀, y₀)) (h₀ : Rolls a₀ s₀) :
    Rolls a₀ u₀ := by
  have k := @rolls_payEntry  a₀ s₀ h₀ w a o origin
  rw [e₀] at k; exact k

theorem rolls_wicketFail {a₀ s₀ : State} (h₀ : Rolls a₀ s₀) {w : Nat} {o : Opc} {a : Sys2Proof.Aid} {i : Sys2Proof.Inc} {tag : Sys2Proof.Tag} {origin : optParam Origin Origin.agent} :
    Rolls a₀ (wicketFail s₀ w o a i tag origin) := by
  unfold wicketFail
  try extract_lets
  repeat' (first | with_reducible assumption | with_reducible apply rolls_State_freeUsed | with_reducible apply rolls_sendCmp | (fail_if_no_progress with_reducible apply Rolls.upd) | with_reducible apply Rolls.ite | with_reducible apply Rolls.ite1 | (with_reducible apply Rolls.foldl; intro s₁ x₁; have h₁ : Rolls s₁ s₁ := Rolls.refl s₁; try dsimp +zetaDelta only) | (with_reducible apply Rolls.foldl1; intro s₁ x₁; have h₁ : Rolls s₁.1 s₁.1 := Rolls.refl s₁.1; try dsimp +zetaDelta only) | extract_lets | split | dsimp +zetaDelta only)

theorem rolls_refuseReq {a₀ s₀ : State} (h₀ : Rolls a₀ s₀) {w : Nat} {o : Opc} {q : Sys2Proof.Req} {origin : Origin} :
    Rolls a₀ (refuseReq s₀ w o q origin) := by
  unfold refuseReq
  try extract_lets
  repeat' (first | with_reducible assumption | with_reducible refine rolls_payEntry_eq (by assumption) ?_ | with_reducible apply rolls_addWrite | with_reducible apply rolls_noteOutcome | with_reducible apply rolls_payEntry | with_reducible apply rolls_regrant | with_reducible apply rolls_wicketFail | (fail_if_no_progress with_reducible apply Rolls.upd) | with_reducible apply Rolls.ite | with_reducible apply Rolls.ite1 | (with_reducible apply Rolls.foldl; intro s₁ x₁; have h₁ : Rolls s₁ s₁ := Rolls.refl s₁; try dsimp +zetaDelta only) | (with_reducible apply Rolls.foldl1; intro s₁ x₁; have h₁ : Rolls s₁.1 s₁.1 := Rolls.refl s₁.1; try dsimp +zetaDelta only) | extract_lets | split | dsimp +zetaDelta only)

theorem rolls_wsTake {a₀ s₀ : State} (h₀ : Rolls a₀ s₀) {e : Adm} :
    Rolls a₀ (wsTake s₀ e) := by
  unfold wsTake
  try extract_lets
  repeat' (first | with_reducible assumption | with_reducible refine rolls_wsServe_eq (by assumption) ?_ | with_reducible apply rolls_pushAdm | with_reducible apply rolls_regrantAll | (fail_if_no_progress with_reducible apply Rolls.upd) | with_reducible apply Rolls.ite | with_reducible apply Rolls.ite1 | (with_reducible apply Rolls.foldl; intro s₁ x₁; have h₁ : Rolls s₁ s₁ := Rolls.refl s₁; try dsimp +zetaDelta only) | (with_reducible apply Rolls.foldl1; intro s₁ x₁; have h₁ : Rolls s₁.1 s₁.1 := Rolls.refl s₁.1; try dsimp +zetaDelta only) | extract_lets | split | dsimp +zetaDelta only)

theorem rolls_takeReq {a₀ s₀ : State} (h₀ : Rolls a₀ s₀) {w : Nat} {o : Opc} {q : Sys2Proof.Req} {origin : Origin} :
    Rolls a₀ (takeReq s₀ w o q origin) := by
  unfold takeReq
  try extract_lets
  repeat' (first | with_reducible assumption | with_reducible refine rolls_payEntry_eq (by assumption) ?_ | with_reducible apply rolls_addWrite | with_reducible apply rolls_afterAdmit | with_reducible apply rolls_payEntry | with_reducible apply rolls_pushAdm | with_reducible apply rolls_wsTake | (fail_if_no_progress with_reducible apply Rolls.upd) | with_reducible apply Rolls.ite | with_reducible apply Rolls.ite1 | (with_reducible apply Rolls.foldl; intro s₁ x₁; have h₁ : Rolls s₁ s₁ := Rolls.refl s₁; try dsimp +zetaDelta only) | (with_reducible apply Rolls.foldl1; intro s₁ x₁; have h₁ : Rolls s₁.1 s₁.1 := Rolls.refl s₁.1; try dsimp +zetaDelta only) | extract_lets | split | dsimp +zetaDelta only)

theorem rolls_freeHandle {a₀ s₀ : State} (h₀ : Rolls a₀ s₀) {h : Nat} :
    Rolls a₀ (freeHandle s₀ h) := by
  unfold freeHandle
  try extract_lets
  repeat' (first | with_reducible assumption | with_reducible apply rolls_takeHandle | (fail_if_no_progress with_reducible apply Rolls.upd) | with_reducible apply Rolls.ite | with_reducible apply Rolls.ite1 | (with_reducible apply Rolls.foldl; intro s₁ x₁; have h₁ : Rolls s₁ s₁ := Rolls.refl s₁; try dsimp +zetaDelta only) | (with_reducible apply Rolls.foldl1; intro s₁ x₁; have h₁ : Rolls s₁.1 s₁.1 := Rolls.refl s₁.1; try dsimp +zetaDelta only) | extract_lets | split | dsimp +zetaDelta only)

theorem rolls_takeResend {a₀ s₀ : State} (h₀ : Rolls a₀ s₀) {w : Nat} {o : Opc} {q : Sys2Proof.Req} {h : Handle} {origin : Origin} :
    Rolls a₀ (takeResend s₀ w o q h origin) := by
  unfold takeResend
  try extract_lets
  repeat' (first | with_reducible assumption | with_reducible refine rolls_payEntry_eq (by assumption) ?_ | with_reducible apply rolls_afterAdmit | with_reducible apply rolls_freeHandle | with_reducible apply rolls_payEntry | with_reducible apply rolls_wsTake | (fail_if_no_progress with_reducible apply Rolls.upd) | with_reducible apply Rolls.ite | with_reducible apply Rolls.ite1 | (with_reducible apply Rolls.foldl; intro s₁ x₁; have h₁ : Rolls s₁ s₁ := Rolls.refl s₁; try dsimp +zetaDelta only) | (with_reducible apply Rolls.foldl1; intro s₁ x₁; have h₁ : Rolls s₁.1 s₁.1 := Rolls.refl s₁.1; try dsimp +zetaDelta only) | extract_lets | split | dsimp +zetaDelta only)

theorem rolls_decideReq {a₀ s₀ : State} (h₀ : Rolls a₀ s₀) {w : Nat} {o : Opc} {q : Sys2Proof.Req} {origin : Origin} :
    Rolls a₀ (decideReq s₀ w o q origin) := by
  unfold decideReq
  try extract_lets
  repeat' (first | with_reducible assumption | with_reducible apply rolls_State_bump | with_reducible apply rolls_State_note | with_reducible apply rolls_refuseReq | with_reducible apply rolls_takeReq | with_reducible apply rolls_takeResend | (fail_if_no_progress with_reducible apply Rolls.upd) | with_reducible apply Rolls.ite | with_reducible apply Rolls.ite1 | (with_reducible apply Rolls.foldl; intro s₁ x₁; have h₁ : Rolls s₁ s₁ := Rolls.refl s₁; try dsimp +zetaDelta only) | (with_reducible apply Rolls.foldl1; intro s₁ x₁; have h₁ : Rolls s₁.1 s₁.1 := Rolls.refl s₁.1; try dsimp +zetaDelta only) | extract_lets | split | dsimp +zetaDelta only)

theorem rolls_deferTo {a₀ s₀ : State} (h₀ : Rolls a₀ s₀) {cause : Nat} {c : Sys2Proof.Instr} :
    Rolls a₀ (deferTo s₀ cause c) := by
  unfold deferTo
  try extract_lets
  repeat' (first | with_reducible assumption | with_reducible apply rolls_State_modPower | with_reducible apply rolls_leaveHold | (fail_if_no_progress with_reducible apply Rolls.upd) | with_reducible apply Rolls.ite | with_reducible apply Rolls.ite1 | (with_reducible apply Rolls.foldl; intro s₁ x₁; have h₁ : Rolls s₁ s₁ := Rolls.refl s₁; try dsimp +zetaDelta only) | (with_reducible apply Rolls.foldl1; intro s₁ x₁; have h₁ : Rolls s₁.1 s₁.1 := Rolls.refl s₁.1; try dsimp +zetaDelta only) | extract_lets | split | dsimp +zetaDelta only)

theorem rolls_delaySample {a₀ s₀ : State} (h₀ : Rolls a₀ s₀) {w : Nat} {e : Adm} :
    Rolls a₀ (delaySample s₀ w e) := by
  unfold delaySample
  try extract_lets
  repeat' (first | with_reducible assumption | with_reducible apply rolls_State_modWicket | with_reducible apply rolls_State_sample | (fail_if_no_progress with_reducible apply Rolls.upd) | with_reducible apply Rolls.ite | with_reducible apply Rolls.ite1 | (with_reducible apply Rolls.foldl; intro s₁ x₁; have h₁ : Rolls s₁ s₁ := Rolls.refl s₁; try dsimp +zetaDelta only) | (with_reducible apply Rolls.foldl1; intro s₁ x₁; have h₁ : Rolls s₁.1 s₁.1 := Rolls.refl s₁.1; try dsimp +zetaDelta only) | extract_lets | split | dsimp +zetaDelta only)

theorem rolls_discardMsg {a₀ s₀ : State} (h₀ : Rolls a₀ s₀) {w : Nat} {aid : Sys2Proof.Aid} {inc : Sys2Proof.Inc} {late : Ctr} :
    ∀ t₀, (discardMsg s₀ w aid inc late) = some t₀ → Rolls a₀ t₀ := by
  intro t₀ e₀
  unfold discardMsg at e₀
  try dsimp only at e₀
  repeat' (split at e₀)
  all_goals first | (simp only [Option.some.injEq, reduceCtorEq] at e₀; done) | (simp only [Option.some.injEq] at e₀; subst e₀)
  all_goals repeat' (first | with_reducible assumption | with_reducible apply rolls_State_bump | with_reducible apply rolls_State_note | (fail_if_no_progress with_reducible apply Rolls.upd) | with_reducible apply Rolls.ite | with_reducible apply Rolls.ite1 | (with_reducible apply Rolls.foldl; intro s₁ x₁; have h₁ : Rolls s₁ s₁ := Rolls.refl s₁; try dsimp +zetaDelta only) | (with_reducible apply Rolls.foldl1; intro s₁ x₁; have h₁ : Rolls s₁.1 s₁.1 := Rolls.refl s₁.1; try dsimp +zetaDelta only) | extract_lets | split | dsimp +zetaDelta only)

theorem rolls_discardMsg_eq {a₀ s₀ u₀ : State} {w : Nat} {aid : Sys2Proof.Aid} {inc : Sys2Proof.Inc} {late : Ctr} (e₀ : discardMsg s₀ w aid inc late = some u₀) (h₀ : Rolls a₀ s₀) : Rolls a₀ u₀ :=
  rolls_discardMsg h₀ u₀ e₀

theorem rolls_enterSet {a₀ s₀ : State} (h₀ : Rolls a₀ s₀) {t : Nat} {bank : Nat} {set : Nat} :
    Rolls a₀ (enterSet s₀ t bank set) := by
  unfold enterSet
  try extract_lets
  repeat' (first | with_reducible assumption | with_reducible apply rolls_State_modTill | (fail_if_no_progress with_reducible apply Rolls.upd) | with_reducible apply Rolls.ite | with_reducible apply Rolls.ite1 | (with_reducible apply Rolls.foldl; intro s₁ x₁; have h₁ : Rolls s₁ s₁ := Rolls.refl s₁; try dsimp +zetaDelta only) | (with_reducible apply Rolls.foldl1; intro s₁ x₁; have h₁ : Rolls s₁.1 s₁.1 := Rolls.refl s₁.1; try dsimp +zetaDelta only) | extract_lets | split | dsimp +zetaDelta only)

theorem rolls_failGather {a₀ s₀ : State} (h₀ : Rolls a₀ s₀) {t : Nat} {c : Nat} :
    Rolls a₀ (failGather s₀ t c) := by
  unfold failGather
  try extract_lets
  repeat' (first | with_reducible assumption | with_reducible apply rolls_State_modGather | with_reducible apply rolls_failEnd | with_reducible apply rolls_opEnd | with_reducible apply rolls_unlink | (fail_if_no_progress with_reducible apply Rolls.upd) | with_reducible apply Rolls.ite | with_reducible apply Rolls.ite1 | (with_reducible apply Rolls.foldl; intro s₁ x₁; have h₁ : Rolls s₁ s₁ := Rolls.refl s₁; try dsimp +zetaDelta only) | (with_reducible apply Rolls.foldl1; intro s₁ x₁; have h₁ : Rolls s₁.1 s₁.1 := Rolls.refl s₁.1; try dsimp +zetaDelta only) | extract_lets | split | dsimp +zetaDelta only)

theorem rolls_expire {a₀ s₀ : State} (h₀ : Rolls a₀ s₀) {t : Nat} {i : Nat} {c : Claim} :
    Rolls a₀ (expire s₀ t i c) := by
  unfold expire
  try extract_lets
  repeat' (first | with_reducible assumption | with_reducible apply rolls_State_bump | with_reducible apply rolls_State_modClaim | with_reducible apply rolls_State_note | with_reducible apply rolls_deleteRecord | with_reducible apply rolls_failGather | with_reducible apply rolls_startRelease | (fail_if_no_progress with_reducible apply Rolls.upd) | with_reducible apply Rolls.ite | with_reducible apply Rolls.ite1 | (with_reducible apply Rolls.foldl; intro s₁ x₁; have h₁ : Rolls s₁ s₁ := Rolls.refl s₁; try dsimp +zetaDelta only) | (with_reducible apply Rolls.foldl1; intro s₁ x₁; have h₁ : Rolls s₁.1 s₁.1 := Rolls.refl s₁.1; try dsimp +zetaDelta only) | extract_lets | split | dsimp +zetaDelta only)

theorem rolls_failHalf {a₀ s₀ : State} (h₀ : Rolls a₀ s₀) {l : Nat} {half : Nat} :
    Rolls a₀ (failHalf s₀ l half) := by
  unfold failHalf
  try extract_lets
  repeat' (first | with_reducible assumption | with_reducible apply rolls_State_emitAs | with_reducible apply rolls_State_modLink | (fail_if_no_progress with_reducible apply Rolls.upd) | with_reducible apply Rolls.ite | with_reducible apply Rolls.ite1 | (with_reducible apply Rolls.foldl; intro s₁ x₁; have h₁ : Rolls s₁ s₁ := Rolls.refl s₁; try dsimp +zetaDelta only) | (with_reducible apply Rolls.foldl1; intro s₁ x₁; have h₁ : Rolls s₁.1 s₁.1 := Rolls.refl s₁.1; try dsimp +zetaDelta only) | extract_lets | split | dsimp +zetaDelta only)

theorem rolls_makeActive {a₀ s₀ : State} (h₀ : Rolls a₀ s₀) {t : Nat} :
    Rolls a₀ (makeActive s₀ t) := by
  unfold makeActive
  try extract_lets
  repeat' (first | with_reducible assumption | with_reducible apply rolls_State_modTill | (fail_if_no_progress with_reducible apply Rolls.upd) | with_reducible apply Rolls.ite | with_reducible apply Rolls.ite1 | (with_reducible apply Rolls.foldl; intro s₁ x₁; have h₁ : Rolls s₁ s₁ := Rolls.refl s₁; try dsimp +zetaDelta only) | (with_reducible apply Rolls.foldl1; intro s₁ x₁; have h₁ : Rolls s₁.1 s₁.1 := Rolls.refl s₁.1; try dsimp +zetaDelta only) | extract_lets | split | dsimp +zetaDelta only)

theorem rolls_finishPlanned {a₀ s₀ : State} (h₀ : Rolls a₀ s₀) {x : Transfer} :
    Rolls a₀ (finishPlanned s₀ x) := by
  unfold finishPlanned
  try extract_lets
  repeat' (first | with_reducible assumption | with_reducible apply rolls_State_bump | with_reducible apply rolls_State_dropXfer | with_reducible apply rolls_State_modTill | with_reducible apply rolls_State_note | with_reducible apply rolls_makeActive | with_reducible apply rolls_nextTransfer | (fail_if_no_progress with_reducible apply Rolls.upd) | with_reducible apply Rolls.ite | with_reducible apply Rolls.ite1 | (with_reducible apply Rolls.foldl; intro s₁ x₁; have h₁ : Rolls s₁ s₁ := Rolls.refl s₁; try dsimp +zetaDelta only) | (with_reducible apply Rolls.foldl1; intro s₁ x₁; have h₁ : Rolls s₁.1 s₁.1 := Rolls.refl s₁.1; try dsimp +zetaDelta only) | extract_lets | split | dsimp +zetaDelta only)

theorem rolls_firstFault {a₀ s₀ : State} (h₀ : Rolls a₀ s₀) {r : JRec} :
    Rolls a₀ (firstFault s₀ r) := by
  unfold firstFault
  try extract_lets
  repeat' (first | with_reducible assumption | with_reducible apply rolls_State_bump | (fail_if_no_progress with_reducible apply Rolls.upd) | with_reducible apply Rolls.ite | with_reducible apply Rolls.ite1 | (with_reducible apply Rolls.foldl; intro s₁ x₁; have h₁ : Rolls s₁ s₁ := Rolls.refl s₁; try dsimp +zetaDelta only) | (with_reducible apply Rolls.foldl1; intro s₁ x₁; have h₁ : Rolls s₁.1 s₁.1 := Rolls.refl s₁.1; try dsimp +zetaDelta only) | extract_lets | split | dsimp +zetaDelta only)

theorem rolls_flipBits {a₀ s₀ : State} (h₀ : Rolls a₀ s₀) {t : Nat} {k : Nat} {mask : Sys2Proof.VBits} :
    Rolls a₀ (flipBits s₀ t k mask) := by
  unfold flipBits
  try extract_lets
  repeat' (first | with_reducible assumption | with_reducible apply rolls_State_modTill | (fail_if_no_progress with_reducible apply Rolls.upd) | with_reducible apply Rolls.ite | with_reducible apply Rolls.ite1 | (with_reducible apply Rolls.foldl; intro s₁ x₁; have h₁ : Rolls s₁ s₁ := Rolls.refl s₁; try dsimp +zetaDelta only) | (with_reducible apply Rolls.foldl1; intro s₁ x₁; have h₁ : Rolls s₁.1 s₁.1 := Rolls.refl s₁.1; try dsimp +zetaDelta only) | extract_lets | split | dsimp +zetaDelta only)

theorem rolls_forecloseSnoop {a₀ s₀ : State} (h₀ : Rolls a₀ s₀) {w : Nat} {t : Nat} {f : Nat} {a : Sys2Proof.Aid} {l : Sys2Proof.Line} {lines : List Nat} :
    Rolls a₀ (forecloseSnoop s₀ w t f a l lines) := by
  unfold forecloseSnoop
  try extract_lets
  repeat' (first | with_reducible assumption | with_reducible apply rolls_State_sendW | (fail_if_no_progress with_reducible apply Rolls.upd) | with_reducible apply Rolls.ite | with_reducible apply Rolls.ite1 | (with_reducible apply Rolls.foldl; intro s₁ x₁; have h₁ : Rolls s₁ s₁ := Rolls.refl s₁; try dsimp +zetaDelta only) | (with_reducible apply Rolls.foldl1; intro s₁ x₁; have h₁ : Rolls s₁.1 s₁.1 := Rolls.refl s₁.1; try dsimp +zetaDelta only) | extract_lets | split | dsimp +zetaDelta only)

theorem rolls_handClaims {a₀ s₀ : State} (h₀ : Rolls a₀ s₀) {x : Transfer} :
    Rolls a₀ (handClaims s₀ x) := by
  unfold handClaims
  try extract_lets
  repeat' (first | with_reducible assumption | with_reducible apply rolls_State_modTill | (fail_if_no_progress with_reducible apply Rolls.upd) | with_reducible apply Rolls.ite | with_reducible apply Rolls.ite1 | (with_reducible apply Rolls.foldl; intro s₁ x₁; have h₁ : Rolls s₁ s₁ := Rolls.refl s₁; try dsimp +zetaDelta only) | (with_reducible apply Rolls.foldl1; intro s₁ x₁; have h₁ : Rolls s₁.1 s₁.1 := Rolls.refl s₁.1; try dsimp +zetaDelta only) | extract_lets | split | dsimp +zetaDelta only)

theorem rolls_handEntries {a₀ s₀ : State} (h₀ : Rolls a₀ s₀) {x : Transfer} :
    Rolls a₀ (handEntries s₀ x) := by
  unfold handEntries
  try extract_lets
  repeat' (first | with_reducible assumption | with_reducible apply rolls_State_modTill | with_reducible apply rolls_evictWay | (fail_if_no_progress with_reducible apply Rolls.upd) | with_reducible apply Rolls.ite | with_reducible apply Rolls.ite1 | (with_reducible apply Rolls.foldl; intro s₁ x₁; have h₁ : Rolls s₁ s₁ := Rolls.refl s₁; try dsimp +zetaDelta only) | (with_reducible apply Rolls.foldl1; intro s₁ x₁; have h₁ : Rolls s₁.1 s₁.1 := Rolls.refl s₁.1; try dsimp +zetaDelta only) | extract_lets | split | dsimp +zetaDelta only)

theorem rolls_inject {a₀ s₀ : State} (h₀ : Rolls a₀ s₀) {w : Nat} {e : Adm} {src : Src} :
    Rolls a₀ (inject s₀ w e src) := by
  unfold inject
  try extract_lets
  repeat' (first | with_reducible assumption | with_reducible apply rolls_State_bump | with_reducible apply rolls_State_gev | with_reducible apply rolls_State_modWicket | with_reducible apply rolls_askLoans | with_reducible apply rolls_chargeAll | with_reducible apply rolls_delaySample | with_reducible apply rolls_markBypass | with_reducible apply rolls_regrantAll | with_reducible apply rolls_sendQ | (fail_if_no_progress with_reducible apply Rolls.upd) | with_reducible apply Rolls.ite | with_reducible apply Rolls.ite1 | (with_reducible apply Rolls.foldl; intro s₁ x₁; have h₁ : Rolls s₁ s₁ := Rolls.refl s₁; try dsimp +zetaDelta only) | (with_reducible apply Rolls.foldl1; intro s₁ x₁; have h₁ : Rolls s₁.1 s₁.1 := Rolls.refl s₁.1; try dsimp +zetaDelta only) | extract_lets | split | dsimp +zetaDelta only)

theorem rolls_latchPtm {a₀ s₀ : State} (h₀ : Rolls a₀ s₀) {ptm : Sys2Proof.Word} {v : Bool} :
    Rolls a₀ (latchPtm s₀ ptm v) := by
  unfold latchPtm
  try extract_lets
  repeat' (first | with_reducible assumption | (fail_if_no_progress with_reducible apply Rolls.upd) | with_reducible apply Rolls.ite | with_reducible apply Rolls.ite1 | (with_reducible apply Rolls.foldl; intro s₁ x₁; have h₁ : Rolls s₁ s₁ := Rolls.refl s₁; try dsimp +zetaDelta only) | (with_reducible apply Rolls.foldl1; intro s₁ x₁; have h₁ : Rolls s₁.1 s₁.1 := Rolls.refl s₁.1; try dsimp +zetaDelta only) | extract_lets | split | dsimp +zetaDelta only)

theorem rolls_poisonOnLink {a₀ s₀ : State} (h₀ : Rolls a₀ s₀) {l : Nat} :
    Rolls a₀ (poisonOnLink s₀ l) := by
  unfold poisonOnLink
  try extract_lets
  repeat' (first | with_reducible assumption | (fail_if_no_progress with_reducible apply Rolls.upd) | with_reducible apply Rolls.ite | with_reducible apply Rolls.ite1 | (with_reducible apply Rolls.foldl; intro s₁ x₁; have h₁ : Rolls s₁ s₁ := Rolls.refl s₁; try dsimp +zetaDelta only) | (with_reducible apply Rolls.foldl1; intro s₁ x₁; have h₁ : Rolls s₁.1 s₁.1 := Rolls.refl s₁.1; try dsimp +zetaDelta only) | extract_lets | split | dsimp +zetaDelta only)

theorem rolls_linkError {a₀ s₀ : State} (h₀ : Rolls a₀ s₀) {l : Nat} {half : Nat} {e : Sys2Proof.LinkEvent} :
    Rolls a₀ (linkError s₀ l half e) := by
  unfold linkError
  try extract_lets
  repeat' (first | with_reducible assumption | with_reducible apply rolls_State_bump | with_reducible apply rolls_State_emitAs | with_reducible apply rolls_State_modLink | with_reducible apply rolls_failHalf | with_reducible apply rolls_poisonOnLink | (fail_if_no_progress with_reducible apply Rolls.upd) | with_reducible apply Rolls.ite | with_reducible apply Rolls.ite1 | (with_reducible apply Rolls.foldl; intro s₁ x₁; have h₁ : Rolls s₁ s₁ := Rolls.refl s₁; try dsimp +zetaDelta only) | (with_reducible apply Rolls.foldl1; intro s₁ x₁; have h₁ : Rolls s₁.1 s₁.1 := Rolls.refl s₁.1; try dsimp +zetaDelta only) | extract_lets | split | dsimp +zetaDelta only)

theorem rolls_opLoad {a₀ s₀ : State} (h₀ : Rolls a₀ s₀) {t : Nat} {k : Nat} {o : SecOp} :
    Rolls a₀ (opLoad s₀ t k o).1 := by
  unfold opLoad
  try extract_lets
  repeat' (first | with_reducible assumption | with_reducible apply rolls_State_modFolio | with_reducible apply rolls_State_modOp | with_reducible apply rolls_State_modTill | (fail_if_no_progress with_reducible apply Rolls.upd) | with_reducible apply Rolls.ite | with_reducible apply Rolls.ite1 | (with_reducible apply Rolls.foldl; intro s₁ x₁; have h₁ : Rolls s₁ s₁ := Rolls.refl s₁; try dsimp +zetaDelta only) | (with_reducible apply Rolls.foldl1; intro s₁ x₁; have h₁ : Rolls s₁.1 s₁.1 := Rolls.refl s₁.1; try dsimp +zetaDelta only) | extract_lets | split | dsimp +zetaDelta only)

theorem rolls_opLoad_eq {a₀ s₀ u₀ : State} {y₀ : Bool} {t : Nat} {k : Nat} {o : SecOp} (e₀ : opLoad s₀ t k o = (u₀, y₀)) (h₀ : Rolls a₀ s₀) :
    Rolls a₀ u₀ := by
  have k := @rolls_opLoad  a₀ s₀ h₀ t k o
  rw [e₀] at k; exact k

theorem rolls_opAct {a₀ s₀ : State} (h₀ : Rolls a₀ s₀) {t : Nat} {k : Nat} :
    Rolls a₀ (opAct s₀ t k) := by
  unfold opAct
  try extract_lets
  repeat' (first | with_reducible assumption | with_reducible refine rolls_opLoad_eq (by assumption) ?_ | with_reducible apply rolls_State_modFolio | with_reducible apply rolls_State_modOp | with_reducible apply rolls_State_modTill | with_reducible apply rolls_State_tev | with_reducible apply rolls_opDo | with_reducible apply rolls_opLoad | with_reducible apply rolls_readGroup | (fail_if_no_progress with_reducible apply Rolls.upd) | with_reducible apply Rolls.ite | with_reducible apply Rolls.ite1 | (with_reducible apply Rolls.foldl; intro s₁ x₁; have h₁ : Rolls s₁ s₁ := Rolls.refl s₁; try dsimp +zetaDelta only) | (with_reducible apply Rolls.foldl1; intro s₁ x₁; have h₁ : Rolls s₁.1 s₁.1 := Rolls.refl s₁.1; try dsimp +zetaDelta only) | extract_lets | split | dsimp +zetaDelta only)

theorem rolls_lookedUp {a₀ s₀ : State} (h₀ : Rolls a₀ s₀) {t : Nat} {f : Nat} :
    Rolls a₀ (lookedUp s₀ t f) := by
  unfold lookedUp
  try extract_lets
  repeat' (first | with_reducible assumption | with_reducible apply rolls_claimLookup | with_reducible apply rolls_lookup | with_reducible apply rolls_opAct | (fail_if_no_progress with_reducible apply Rolls.upd) | with_reducible apply Rolls.ite | with_reducible apply Rolls.ite1 | (with_reducible apply Rolls.foldl; intro s₁ x₁; have h₁ : Rolls s₁ s₁ := Rolls.refl s₁; try dsimp +zetaDelta only) | (with_reducible apply Rolls.foldl1; intro s₁ x₁; have h₁ : Rolls s₁.1 s₁.1 := Rolls.refl s₁.1; try dsimp +zetaDelta only) | extract_lets | split | dsimp +zetaDelta only)

theorem rolls_relook {a₀ s₀ : State} (h₀ : Rolls a₀ s₀) {t : Nat} {bank : Nat} {set : Nat} :
    Rolls a₀ (relook s₀ t bank set) := by
  unfold relook
  try extract_lets
  repeat' (first | with_reducible assumption | with_reducible apply rolls_State_modTill | (fail_if_no_progress with_reducible apply Rolls.upd) | with_reducible apply Rolls.ite | with_reducible apply Rolls.ite1 | (with_reducible apply Rolls.foldl; intro s₁ x₁; have h₁ : Rolls s₁ s₁ := Rolls.refl s₁; try dsimp +zetaDelta only) | (with_reducible apply Rolls.foldl1; intro s₁ x₁; have h₁ : Rolls s₁.1 s₁.1 := Rolls.refl s₁.1; try dsimp +zetaDelta only) | extract_lets | split | dsimp +zetaDelta only)

theorem rolls_loseEntry {a₀ s₀ : State} (h₀ : Rolls a₀ s₀) {t : Nat} {bank : Nat} {set : Nat} :
    Rolls a₀ (loseEntry s₀ t bank set) := by
  unfold loseEntry
  try extract_lets
  repeat' (first | with_reducible assumption | with_reducible apply rolls_State_bump | with_reducible apply rolls_State_note | with_reducible apply rolls_enterSet | with_reducible apply rolls_relook | (fail_if_no_progress with_reducible apply Rolls.upd) | with_reducible apply Rolls.ite | with_reducible apply Rolls.ite1 | (with_reducible apply Rolls.foldl; intro s₁ x₁; have h₁ : Rolls s₁ s₁ := Rolls.refl s₁; try dsimp +zetaDelta only) | (with_reducible apply Rolls.foldl1; intro s₁ x₁; have h₁ : Rolls s₁.1 s₁.1 := Rolls.refl s₁.1; try dsimp +zetaDelta only) | extract_lets | split | dsimp +zetaDelta only)

theorem rolls_policeTick {a₀ s₀ : State} (h₀ : Rolls a₀ s₀)  :
    Rolls a₀ (policeTick s₀) := by
  unfold policeTick
  try extract_lets
  repeat' (first | with_reducible assumption | with_reducible apply rolls_State_modStream | (fail_if_no_progress with_reducible apply Rolls.upd) | with_reducible apply Rolls.ite | with_reducible apply Rolls.ite1 | (with_reducible apply Rolls.foldl; intro s₁ x₁; have h₁ : Rolls s₁ s₁ := Rolls.refl s₁; try dsimp +zetaDelta only) | (with_reducible apply Rolls.foldl1; intro s₁ x₁; have h₁ : Rolls s₁.1 s₁.1 := Rolls.refl s₁.1; try dsimp +zetaDelta only) | extract_lets | split | dsimp +zetaDelta only)

theorem rolls_shaperTicks {a₀ s₀ : State} (h₀ : Rolls a₀ s₀)  :
    Rolls a₀ (shaperTicks s₀) := by
  unfold shaperTicks
  try extract_lets
  repeat' (first | with_reducible assumption | with_reducible apply rolls_State_modShape | with_reducible apply rolls_State_modWicket | (fail_if_no_progress with_reducible apply Rolls.upd) | with_reducible apply Rolls.ite | with_reducible apply Rolls.ite1 | (with_reducible apply Rolls.foldl; intro s₁ x₁; have h₁ : Rolls s₁ s₁ := Rolls.refl s₁; try dsimp +zetaDelta only) | (with_reducible apply Rolls.foldl1; intro s₁ x₁; have h₁ : Rolls s₁.1 s₁.1 := Rolls.refl s₁.1; try dsimp +zetaDelta only) | extract_lets | split | dsimp +zetaDelta only)

theorem rolls_tickStep {a₀ s₀ : State} (h₀ : Rolls a₀ s₀) {count : Bool} :
    Rolls a₀ (tickStep s₀ count) := by
  unfold tickStep
  try extract_lets
  repeat' (first | with_reducible assumption | with_reducible apply rolls_counted | with_reducible apply rolls_policeTick | with_reducible apply rolls_shaperTicks | (fail_if_no_progress with_reducible apply Rolls.upd) | with_reducible apply Rolls.ite | with_reducible apply Rolls.ite1 | (with_reducible apply Rolls.foldl; intro s₁ x₁; have h₁ : Rolls s₁ s₁ := Rolls.refl s₁; try dsimp +zetaDelta only) | (with_reducible apply Rolls.foldl1; intro s₁ x₁; have h₁ : Rolls s₁.1 s₁.1 := Rolls.refl s₁.1; try dsimp +zetaDelta only) | extract_lets | split | dsimp +zetaDelta only)

theorem rolls_loseTick {a₀ s₀ : State} (h₀ : Rolls a₀ s₀)  :
    Rolls a₀ (loseTick s₀) := by
  unfold loseTick
  try extract_lets
  repeat' (first | with_reducible assumption | with_reducible apply rolls_State_bump | with_reducible apply rolls_State_note | with_reducible apply rolls_tickStep | (fail_if_no_progress with_reducible apply Rolls.upd) | with_reducible apply Rolls.ite | with_reducible apply Rolls.ite1 | (with_reducible apply Rolls.foldl; intro s₁ x₁; have h₁ : Rolls s₁ s₁ := Rolls.refl s₁; try dsimp +zetaDelta only) | (with_reducible apply Rolls.foldl1; intro s₁ x₁; have h₁ : Rolls s₁.1 s₁.1 := Rolls.refl s₁.1; try dsimp +zetaDelta only) | extract_lets | split | dsimp +zetaDelta only)

theorem rolls_mapSwitched {a₀ s₀ : State} (h₀ : Rolls a₀ s₀)  :
    Rolls a₀ (mapSwitched s₀) := by
  unfold mapSwitched
  try extract_lets
  repeat' (first | with_reducible assumption | (fail_if_no_progress with_reducible apply Rolls.upd) | with_reducible apply Rolls.ite | with_reducible apply Rolls.ite1 | (with_reducible apply Rolls.foldl; intro s₁ x₁; have h₁ : Rolls s₁ s₁ := Rolls.refl s₁; try dsimp +zetaDelta only) | (with_reducible apply Rolls.foldl1; intro s₁ x₁; have h₁ : Rolls s₁.1 s₁.1 := Rolls.refl s₁.1; try dsimp +zetaDelta only) | extract_lets | split | dsimp +zetaDelta only)

theorem rolls_retarget {a₀ s₀ : State} (h₀ : Rolls a₀ s₀) {w : Nat} :
    Rolls a₀ (retarget s₀ w) := by
  unfold retarget
  try extract_lets
  repeat' (first | with_reducible assumption | with_reducible apply rolls_State_modWicket | (fail_if_no_progress with_reducible apply Rolls.upd) | with_reducible apply Rolls.ite | with_reducible apply Rolls.ite1 | (with_reducible apply Rolls.foldl; intro s₁ x₁; have h₁ : Rolls s₁ s₁ := Rolls.refl s₁; try dsimp +zetaDelta only) | (with_reducible apply Rolls.foldl1; intro s₁ x₁; have h₁ : Rolls s₁.1 s₁.1 := Rolls.refl s₁.1; try dsimp +zetaDelta only) | extract_lets | split | dsimp +zetaDelta only)

theorem rolls_sendMarks {a₀ s₀ : State} (h₀ : Rolls a₀ s₀) {w : Nat} :
    Rolls a₀ (sendMarks s₀ w) := by
  unfold sendMarks
  try extract_lets
  repeat' (first | with_reducible assumption | with_reducible apply rolls_State_modWicket | with_reducible apply rolls_State_packet | with_reducible apply rolls_State_sendW | (fail_if_no_progress with_reducible apply Rolls.upd) | with_reducible apply Rolls.ite | with_reducible apply Rolls.ite1 | (with_reducible apply Rolls.foldl; intro s₁ x₁; have h₁ : Rolls s₁ s₁ := Rolls.refl s₁; try dsimp +zetaDelta only) | (with_reducible apply Rolls.foldl1; intro s₁ x₁; have h₁ : Rolls s₁.1 s₁.1 := Rolls.refl s₁.1; try dsimp +zetaDelta only) | extract_lets | split | dsimp +zetaDelta only)

theorem rolls_switchTable {a₀ s₀ : State} (h₀ : Rolls a₀ s₀) {w : Nat} :
    Rolls a₀ (switchTable s₀ w) := by
  unfold switchTable
  try extract_lets
  repeat' (first | with_reducible assumption | with_reducible apply rolls_State_modWicket | (fail_if_no_progress with_reducible apply Rolls.upd) | with_reducible apply Rolls.ite | with_reducible apply Rolls.ite1 | (with_reducible apply Rolls.foldl; intro s₁ x₁; have h₁ : Rolls s₁ s₁ := Rolls.refl s₁; try dsimp +zetaDelta only) | (with_reducible apply Rolls.foldl1; intro s₁ x₁; have h₁ : Rolls s₁.1 s₁.1 := Rolls.refl s₁.1; try dsimp +zetaDelta only) | extract_lets | split | dsimp +zetaDelta only)

theorem rolls_mapSwitch {a₀ s₀ : State} (h₀ : Rolls a₀ s₀) {n : Nat} :
    Rolls a₀ (mapSwitch s₀ n) := by
  unfold mapSwitch
  try extract_lets
  repeat' (first | with_reducible assumption | with_reducible apply rolls_mapSwitched | with_reducible apply rolls_nextTransfer | with_reducible apply rolls_retarget | with_reducible apply rolls_sendMarks | with_reducible apply rolls_switchTable | (fail_if_no_progress with_reducible apply Rolls.upd) | with_reducible apply Rolls.ite | with_reducible apply Rolls.ite1 | (with_reducible apply Rolls.foldl; intro s₁ x₁; have h₁ : Rolls s₁ s₁ := Rolls.refl s₁; try dsimp +zetaDelta only) | (with_reducible apply Rolls.foldl1; intro s₁ x₁; have h₁ : Rolls s₁.1 s₁.1 := Rolls.refl s₁.1; try dsimp +zetaDelta only) | extract_lets | split | dsimp +zetaDelta only)

theorem rolls_nextPass {a₀ s₀ : State} (h₀ : Rolls a₀ s₀) {leave : Bool} :
    Rolls a₀ (nextPass s₀ leave) := by
  unfold nextPass
  try extract_lets
  repeat' (first | with_reducible assumption | (fail_if_no_progress with_reducible apply Rolls.upd) | with_reducible apply Rolls.ite | with_reducible apply Rolls.ite1 | (with_reducible apply Rolls.foldl; intro s₁ x₁; have h₁ : Rolls s₁ s₁ := Rolls.refl s₁; try dsimp +zetaDelta only) | (with_reducible apply Rolls.foldl1; intro s₁ x₁; have h₁ : Rolls s₁.1 s₁.1 := Rolls.refl s₁.1; try dsimp +zetaDelta only) | extract_lets | split | dsimp +zetaDelta only)

theorem rolls_placeDeferred {a₀ s₀ : State} (h₀ : Rolls a₀ s₀) {t : Nat} :
    Rolls a₀ (placeDeferred s₀ t) := by
  unfold placeDeferred
  try extract_lets
  repeat' (first | with_reducible assumption | with_reducible apply rolls_State_modFolio | with_reducible apply rolls_State_modTill | with_reducible apply rolls_dropFolio | with_reducible apply rolls_place' | (fail_if_no_progress with_reducible apply Rolls.upd) | with_reducible apply Rolls.ite | with_reducible apply Rolls.ite1 | (with_reducible apply Rolls.foldl; intro s₁ x₁; have h₁ : Rolls s₁ s₁ := Rolls.refl s₁; try dsimp +zetaDelta only) | (with_reducible apply Rolls.foldl1; intro s₁ x₁; have h₁ : Rolls s₁.1 s₁.1 := Rolls.refl s₁.1; try dsimp +zetaDelta only) | extract_lets | split | dsimp +zetaDelta only)

theorem rolls_portDecides {a₀ s₀ : State} (h₀ : Rolls a₀ s₀) {w : Nat} :
    Rolls a₀ (portDecides s₀ w) := by
  unfold portDecides
  try extract_lets
  repeat' (first | with_reducible assumption | with_reducible apply rolls_State_modShape | with_reducible apply rolls_State_modWicket | with_reducible apply rolls_askLoans | with_reducible apply rolls_inject | (fail_if_no_progress with_reducible apply Rolls.upd) | with_reducible apply Rolls.ite | with_reducible apply Rolls.ite1 | (with_reducible apply Rolls.foldl; intro s₁ x₁; have h₁ : Rolls s₁ s₁ := Rolls.refl s₁; try dsimp +zetaDelta only) | (with_reducible apply Rolls.foldl1; intro s₁ x₁; have h₁ : Rolls s₁.1 s₁.1 := Rolls.refl s₁.1; try dsimp +zetaDelta only) | extract_lets | split | dsimp +zetaDelta only)

theorem rolls_preloadSector {a₀ s₀ : State} (h₀ : Rolls a₀ s₀) {t : Nat} {sec : Nat} :
    Rolls a₀ (preloadSector s₀ t sec) := by
  unfold preloadSector
  try extract_lets
  repeat' (first | with_reducible assumption | with_reducible refine rolls_startSecOp_eq (by assumption) ?_ | with_reducible refine rolls_takeOrder_eq (by assumption) ?_ | with_reducible apply rolls_State_setRawN | with_reducible apply rolls_startSecOp | (fail_if_no_progress with_reducible apply Rolls.upd) | with_reducible apply Rolls.ite | with_reducible apply Rolls.ite1 | (with_reducible apply Rolls.foldl; intro s₁ x₁; have h₁ : Rolls s₁ s₁ := Rolls.refl s₁; try dsimp +zetaDelta only) | (with_reducible apply Rolls.foldl1; intro s₁ x₁; have h₁ : Rolls s₁.1 s₁.1 := Rolls.refl s₁.1; try dsimp +zetaDelta only) | extract_lets | split | dsimp +zetaDelta only)

theorem rolls_rebuildPage {a₀ s₀ : State} (h₀ : Rolls a₀ s₀) {t : Nat} {bank : Nat} {j : Nat} :
    Rolls a₀ (rebuildPage s₀ t bank j) := by
  unfold rebuildPage
  try extract_lets
  repeat' (first | with_reducible assumption | with_reducible apply rolls_State_bump | with_reducible apply rolls_State_modTill | with_reducible apply rolls_State_note | with_reducible apply rolls_loseEntry | with_reducible apply rolls_orderRetire | (fail_if_no_progress with_reducible apply Rolls.upd) | with_reducible apply Rolls.ite | with_reducible apply Rolls.ite1 | (with_reducible apply Rolls.foldl; intro s₁ x₁; have h₁ : Rolls s₁ s₁ := Rolls.refl s₁; try dsimp +zetaDelta only) | (with_reducible apply Rolls.foldl1; intro s₁ x₁; have h₁ : Rolls s₁.1 s₁.1 := Rolls.refl s₁.1; try dsimp +zetaDelta only) | extract_lets | split | dsimp +zetaDelta only)

theorem rolls_readSet {a₀ s₀ : State} (h₀ : Rolls a₀ s₀) {t : Nat} {bank : Nat} {set : Nat} :
    Rolls a₀ (readSet s₀ t bank set) := by
  unfold readSet
  try extract_lets
  repeat' (first | with_reducible assumption | with_reducible apply rolls_correctable | with_reducible apply rolls_rebuildPage | (fail_if_no_progress with_reducible apply Rolls.upd) | with_reducible apply Rolls.ite | with_reducible apply Rolls.ite1 | (with_reducible apply Rolls.foldl; intro s₁ x₁; have h₁ : Rolls s₁ s₁ := Rolls.refl s₁; try dsimp +zetaDelta only) | (with_reducible apply Rolls.foldl1; intro s₁ x₁; have h₁ : Rolls s₁.1 s₁.1 := Rolls.refl s₁.1; try dsimp +zetaDelta only) | extract_lets | split | dsimp +zetaDelta only)

theorem rolls_upsetAt {a₀ s₀ : State} (h₀ : Rolls a₀ s₀) {t : Nat} {f : Nat} {bank : Nat} {set : Nat} {x5 : Sys2Proof.Upset} :
    Rolls a₀ (upsetAt s₀ t f bank set x5) := by
  unfold upsetAt
  try extract_lets
  repeat' (first | with_reducible assumption | with_reducible apply rolls_State_modFolio | with_reducible apply rolls_State_modTill | with_reducible apply rolls_State_note | with_reducible apply rolls_correctable | with_reducible apply rolls_flipBits | (fail_if_no_progress with_reducible apply Rolls.upd) | with_reducible apply Rolls.ite | with_reducible apply Rolls.ite1 | (with_reducible apply Rolls.foldl; intro s₁ x₁; have h₁ : Rolls s₁ s₁ := Rolls.refl s₁; try dsimp +zetaDelta only) | (with_reducible apply Rolls.foldl1; intro s₁ x₁; have h₁ : Rolls s₁.1 s₁.1 := Rolls.refl s₁.1; try dsimp +zetaDelta only) | extract_lets | split | dsimp +zetaDelta only)

theorem rolls_readArrives {a₀ s₀ : State} (h₀ : Rolls a₀ s₀) {m : Nat} {t : Nat} {f : Nat} {line : Nat} {cancelled : Bool} {error : Bool} {d : RData} {u : Sys2Proof.Upset} :
    Rolls a₀ (readArrives s₀ m t f line cancelled error d u) := by
  unfold readArrives
  try extract_lets
  repeat' (first | with_reducible assumption | with_reducible apply rolls_State_note | with_reducible apply rolls_readSet | with_reducible apply rolls_takeRead | with_reducible apply rolls_upsetAt | (fail_if_no_progress with_reducible apply Rolls.upd) | with_reducible apply Rolls.ite | with_reducible apply Rolls.ite1 | (with_reducible apply Rolls.foldl; intro s₁ x₁; have h₁ : Rolls s₁ s₁ := Rolls.refl s₁; try dsimp +zetaDelta only) | (with_reducible apply Rolls.foldl1; intro s₁ x₁; have h₁ : Rolls s₁.1 s₁.1 := Rolls.refl s₁.1; try dsimp +zetaDelta only) | extract_lets | split | dsimp +zetaDelta only)

theorem rolls_rebuildStep {a₀ s₀ : State} (h₀ : Rolls a₀ s₀) {t : Nat} {b : Nat} :
    Rolls a₀ (rebuildStep s₀ t b) := by
  unfold rebuildStep
  try extract_lets
  repeat' (first | with_reducible assumption | with_reducible refine rolls_startSecOp_eq (by assumption) ?_ | with_reducible refine rolls_takeOrder_eq (by assumption) ?_ | with_reducible apply rolls_State_modTill | with_reducible apply rolls_rebuildDone | with_reducible apply rolls_startSecOp | (fail_if_no_progress with_reducible apply Rolls.upd) | with_reducible apply Rolls.ite | with_reducible apply Rolls.ite1 | (with_reducible apply Rolls.foldl; intro s₁ x₁; have h₁ : Rolls s₁ s₁ := Rolls.refl s₁; try dsimp +zetaDelta only) | (with_reducible apply Rolls.foldl1; intro s₁ x₁; have h₁ : Rolls s₁.1 s₁.1 := Rolls.refl s₁.1; try dsimp +zetaDelta only) | extract_lets | split | dsimp +zetaDelta only)

theorem rolls_receiveRec {a₀ s₀ : State} (h₀ : Rolls a₀ s₀) {r : JRec} :
    Rolls a₀ (receiveRec s₀ r) := by
  unfold receiveRec
  try extract_lets
  repeat' (first | with_reducible assumption | with_reducible apply rolls_alarmArrives | with_reducible apply rolls_firstFault | with_reducible apply rolls_offer | (fail_if_no_progress with_reducible apply Rolls.upd) | with_reducible apply Rolls.ite | with_reducible apply Rolls.ite1 | (with_reducible apply Rolls.foldl; intro s₁ x₁; have h₁ : Rolls s₁ s₁ := Rolls.refl s₁; try dsimp +zetaDelta only) | (with_reducible apply Rolls.foldl1; intro s₁ x₁; have h₁ : Rolls s₁.1 s₁.1 := Rolls.refl s₁.1; try dsimp +zetaDelta only) | extract_lets | split | dsimp +zetaDelta only)

theorem rolls_regionSwitch {a₀ s₀ : State} (h₀ : Rolls a₀ s₀) {n : Nat} :
    Rolls a₀ (regionSwitch s₀ n) := by
  unfold regionSwitch
  try extract_lets
  repeat' (first | with_reducible assumption | with_reducible apply rolls_retarget | (fail_if_no_progress with_reducible apply Rolls.upd) | with_reducible apply Rolls.ite | with_reducible apply Rolls.ite1 | (with_reducible apply Rolls.foldl; intro s₁ x₁; have h₁ : Rolls s₁ s₁ := Rolls.refl s₁; try dsimp +zetaDelta only) | (with_reducible apply Rolls.foldl1; intro s₁ x₁; have h₁ : Rolls s₁.1 s₁.1 := Rolls.refl s₁.1; try dsimp +zetaDelta only) | extract_lets | split | dsimp +zetaDelta only)

theorem rolls_unblock {a₀ s₀ : State} (h₀ : Rolls a₀ s₀) {t : Nat} {page : Nat} :
    Rolls a₀ (unblock s₀ t page) := by
  unfold unblock
  try extract_lets
  repeat' (first | with_reducible assumption | with_reducible apply rolls_State_bumpMax | with_reducible apply rolls_State_modFolio | (fail_if_no_progress with_reducible apply Rolls.upd) | with_reducible apply Rolls.ite | with_reducible apply Rolls.ite1 | (with_reducible apply Rolls.foldl; intro s₁ x₁; have h₁ : Rolls s₁ s₁ := Rolls.refl s₁; try dsimp +zetaDelta only) | (with_reducible apply Rolls.foldl1; intro s₁ x₁; have h₁ : Rolls s₁.1 s₁.1 := Rolls.refl s₁.1; try dsimp +zetaDelta only) | extract_lets | split | dsimp +zetaDelta only)

theorem rolls_releaseDone {a₀ s₀ : State} (h₀ : Rolls a₀ s₀) {t : Nat} {page : Nat} :
    Rolls a₀ (releaseDone s₀ t page) := by
  unfold releaseDone
  try extract_lets
  repeat' (first | with_reducible assumption | with_reducible apply rolls_State_modTill | with_reducible apply rolls_clearMons | with_reducible apply rolls_complete | with_reducible apply rolls_unblock | (fail_if_no_progress with_reducible apply Rolls.upd) | with_reducible apply Rolls.ite | with_reducible apply Rolls.ite1 | (with_reducible apply Rolls.foldl; intro s₁ x₁; have h₁ : Rolls s₁ s₁ := Rolls.refl s₁; try dsimp +zetaDelta only) | (with_reducible apply Rolls.foldl1; intro s₁ x₁; have h₁ : Rolls s₁.1 s₁.1 := Rolls.refl s₁.1; try dsimp +zetaDelta only) | extract_lets | split | dsimp +zetaDelta only)

end Sys2Proof.Machine
end

