-- ==== Sys2Proof/Laws/RollsX4.lean ====
section
/-! SUPPORT. What `Rolls` says of each operation, in the order of the callees. -/

namespace Sys2Proof.Machine
set_option linter.all false

theorem rolls_request {a₀ s₀ : State} (h₀ : Rolls a₀ s₀) {c : Sys2Proof.Instr} {w : Nat} {o : Opc} {q : Sys2Proof.Req} :
    Rolls a₀ (request c w o q s₀) := by
  unfold request
  try extract_lets
  repeat' (first | with_reducible assumption | with_reducible refine rolls_discardMsg_eq (by assumption) ?_ | with_reducible apply rolls_State_atPort | with_reducible apply rolls_decideReq | with_reducible apply rolls_deferTo | (fail_if_no_progress with_reducible apply Rolls.upd) | with_reducible apply Rolls.ite | with_reducible apply Rolls.ite1 | (with_reducible apply Rolls.foldl; intro s₁ x₁; have h₁ : Rolls s₁ s₁ := Rolls.refl s₁; try dsimp +zetaDelta only) | (with_reducible apply Rolls.foldl1; intro s₁ x₁; have h₁ : Rolls s₁.1 s₁.1 := Rolls.refl s₁.1; try dsimp +zetaDelta only) | extract_lets | split | dsimp +zetaDelta only)

theorem rolls_resetPointers {a₀ s₀ : State} (h₀ : Rolls a₀ s₀) {k : Nat} :
    Rolls a₀ (resetPointers s₀ k) := by
  unfold resetPointers
  try extract_lets
  repeat' (first | with_reducible assumption | with_reducible apply rolls_State_bump | with_reducible apply rolls_State_bumpBy | with_reducible apply rolls_State_modStream | with_reducible apply rolls_receiveRec | (fail_if_no_progress with_reducible apply Rolls.upd) | with_reducible apply Rolls.ite | with_reducible apply Rolls.ite1 | (with_reducible apply Rolls.foldl; intro s₁ x₁; have h₁ : Rolls s₁ s₁ := Rolls.refl s₁; try dsimp +zetaDelta only) | (with_reducible apply Rolls.foldl1; intro s₁ x₁; have h₁ : Rolls s₁.1 s₁.1 := Rolls.refl s₁.1; try dsimp +zetaDelta only) | extract_lets | split | dsimp +zetaDelta only)

theorem rolls_resolveStep {a₀ s₀ : State} (h₀ : Rolls a₀ s₀) {t : Nat} {i : Nat} :
    Rolls a₀ (resolveStep s₀ t i) := by
  unfold resolveStep
  try extract_lets
  repeat' (first | with_reducible assumption | with_reducible refine rolls_startSecOp_eq (by assumption) ?_ | with_reducible refine rolls_takeOrder_eq (by assumption) ?_ | with_reducible apply rolls_State_modTill | with_reducible apply rolls_State_note | with_reducible apply rolls_startSecOp | (fail_if_no_progress with_reducible apply Rolls.upd) | with_reducible apply Rolls.ite | with_reducible apply Rolls.ite1 | (with_reducible apply Rolls.foldl; intro s₁ x₁; have h₁ : Rolls s₁ s₁ := Rolls.refl s₁; try dsimp +zetaDelta only) | (with_reducible apply Rolls.foldl1; intro s₁ x₁; have h₁ : Rolls s₁.1 s₁.1 := Rolls.refl s₁.1; try dsimp +zetaDelta only) | extract_lets | split | dsimp +zetaDelta only)

theorem rolls_retireRow {a₀ s₀ : State} (h₀ : Rolls a₀ s₀) {t : Nat} {bank : Nat} {row : Nat} :
    Rolls a₀ (retireRow s₀ t bank row) := by
  unfold retireRow
  try extract_lets
  repeat' (first | with_reducible assumption | with_reducible apply rolls_State_modTill | with_reducible apply rolls_State_note | (fail_if_no_progress with_reducible apply Rolls.upd) | with_reducible apply Rolls.ite | with_reducible apply Rolls.ite1 | (with_reducible apply Rolls.foldl; intro s₁ x₁; have h₁ : Rolls s₁ s₁ := Rolls.refl s₁; try dsimp +zetaDelta only) | (with_reducible apply Rolls.foldl1; intro s₁ x₁; have h₁ : Rolls s₁.1 s₁.1 := Rolls.refl s₁.1; try dsimp +zetaDelta only) | extract_lets | split | dsimp +zetaDelta only)

theorem rolls_retryHeld {a₀ s₀ : State} (h₀ : Rolls a₀ s₀) {t : Nat} :
    Rolls a₀ (retryHeld s₀ t) := by
  unfold retryHeld
  try extract_lets
  repeat' (first | with_reducible assumption | with_reducible apply rolls_retryTransfer | (fail_if_no_progress with_reducible apply Rolls.upd) | with_reducible apply Rolls.ite | with_reducible apply Rolls.ite1 | (with_reducible apply Rolls.foldl; intro s₁ x₁; have h₁ : Rolls s₁ s₁ := Rolls.refl s₁; try dsimp +zetaDelta only) | (with_reducible apply Rolls.foldl1; intro s₁ x₁; have h₁ : Rolls s₁.1 s₁.1 := Rolls.refl s₁.1; try dsimp +zetaDelta only) | extract_lets | split | dsimp +zetaDelta only)

theorem rolls_returnLoan {a₀ s₀ : State} (h₀ : Rolls a₀ s₀) {w : Nat} {t : Nat} :
    Rolls a₀ (returnLoan s₀ w t) := by
  unfold returnLoan
  try extract_lets
  repeat' (first | with_reducible assumption | with_reducible apply rolls_State_modTill | with_reducible apply rolls_State_modWicket | with_reducible apply rolls_State_packet | (fail_if_no_progress with_reducible apply Rolls.upd) | with_reducible apply Rolls.ite | with_reducible apply Rolls.ite1 | (with_reducible apply Rolls.foldl; intro s₁ x₁; have h₁ : Rolls s₁ s₁ := Rolls.refl s₁; try dsimp +zetaDelta only) | (with_reducible apply Rolls.foldl1; intro s₁ x₁; have h₁ : Rolls s₁.1 s₁.1 := Rolls.refl s₁.1; try dsimp +zetaDelta only) | extract_lets | split | dsimp +zetaDelta only)

theorem rolls_setRoute {a₀ s₀ : State} (h₀ : Rolls a₀ s₀) {src : Nat} {j : Nat} {v : Nat} :
    Rolls a₀ (setRoute s₀ src j v) := by
  unfold setRoute
  try extract_lets
  repeat' (first | with_reducible assumption | (fail_if_no_progress with_reducible apply Rolls.upd) | with_reducible apply Rolls.ite | with_reducible apply Rolls.ite1 | (with_reducible apply Rolls.foldl; intro s₁ x₁; have h₁ : Rolls s₁ s₁ := Rolls.refl s₁; try dsimp +zetaDelta only) | (with_reducible apply Rolls.foldl1; intro s₁ x₁; have h₁ : Rolls s₁.1 s₁.1 := Rolls.refl s₁.1; try dsimp +zetaDelta only) | extract_lets | split | dsimp +zetaDelta only)

theorem rolls_routeAck {a₀ s₀ : State} (h₀ : Rolls a₀ s₀) {src : Nat} {dst : Nat} {cls : Nat} :
    Rolls a₀ (routeAck s₀ src dst cls) := by
  unfold routeAck
  try extract_lets
  repeat' (first | with_reducible assumption | with_reducible apply rolls_State_bump | with_reducible apply rolls_State_modStep | with_reducible apply rolls_State_setRawN | with_reducible apply rolls_setRoute | (fail_if_no_progress with_reducible apply Rolls.upd) | with_reducible apply Rolls.ite | with_reducible apply Rolls.ite1 | (with_reducible apply Rolls.foldl; intro s₁ x₁; have h₁ : Rolls s₁ s₁ := Rolls.refl s₁; try dsimp +zetaDelta only) | (with_reducible apply Rolls.foldl1; intro s₁ x₁; have h₁ : Rolls s₁.1 s₁.1 := Rolls.refl s₁.1; try dsimp +zetaDelta only) | extract_lets | split | dsimp +zetaDelta only)

theorem rolls_scrubPage {a₀ s₀ : State} (h₀ : Rolls a₀ s₀) {t : Nat} {bank : Nat} {j : Nat} :
    Rolls a₀ (scrubPage s₀ t bank j) := by
  unfold scrubPage
  try extract_lets
  repeat' (first | with_reducible assumption | with_reducible apply rolls_State_modTill | with_reducible apply rolls_correctable | with_reducible apply rolls_rebuildPage | (fail_if_no_progress with_reducible apply Rolls.upd) | with_reducible apply Rolls.ite | with_reducible apply Rolls.ite1 | (with_reducible apply Rolls.foldl; intro s₁ x₁; have h₁ : Rolls s₁ s₁ := Rolls.refl s₁; try dsimp +zetaDelta only) | (with_reducible apply Rolls.foldl1; intro s₁ x₁; have h₁ : Rolls s₁.1 s₁.1 := Rolls.refl s₁.1; try dsimp +zetaDelta only) | extract_lets | split | dsimp +zetaDelta only)

theorem rolls_scrubRun {a₀ s₀ : State} (h₀ : Rolls a₀ s₀) {t : Nat} {bank : Nat} {upsets : List (Nat × Sys2Proof.VBits)} :
    Rolls a₀ (scrubRun s₀ t bank upsets) := by
  unfold scrubRun
  try extract_lets
  repeat' (first | with_reducible assumption | with_reducible apply rolls_State_bump | with_reducible apply rolls_State_modTill | with_reducible apply rolls_flipBits | with_reducible apply rolls_scrubPage | (fail_if_no_progress with_reducible apply Rolls.upd) | with_reducible apply Rolls.ite | with_reducible apply Rolls.ite1 | (with_reducible apply Rolls.foldl; intro s₁ x₁; have h₁ : Rolls s₁ s₁ := Rolls.refl s₁; try dsimp +zetaDelta only) | (with_reducible apply Rolls.foldl1; intro s₁ x₁; have h₁ : Rolls s₁.1 s₁.1 := Rolls.refl s₁.1; try dsimp +zetaDelta only) | extract_lets | split | dsimp +zetaDelta only)

theorem rolls_serveLoans {a₀ s₀ : State} (h₀ : Rolls a₀ s₀) {t : Nat} :
    Rolls a₀ (serveLoans s₀ t) := by
  unfold serveLoans
  try extract_lets
  repeat' (first | with_reducible assumption | with_reducible apply rolls_State_modTill | with_reducible apply rolls_State_sendP | (fail_if_no_progress with_reducible apply Rolls.upd) | with_reducible apply Rolls.ite | with_reducible apply Rolls.ite1 | (with_reducible apply Rolls.foldl; intro s₁ x₁; have h₁ : Rolls s₁ s₁ := Rolls.refl s₁; try dsimp +zetaDelta only) | (with_reducible apply Rolls.foldl1; intro s₁ x₁; have h₁ : Rolls s₁.1 s₁.1 := Rolls.refl s₁.1; try dsimp +zetaDelta only) | extract_lets | split | dsimp +zetaDelta only)

theorem rolls_setBucketSummary {a₀ s₀ : State} (h₀ : Rolls a₀ s₀) {t : Nat} {b : Nat} :
    Rolls a₀ (setBucketSummary s₀ t b) := by
  unfold setBucketSummary
  try extract_lets
  repeat' (first | with_reducible assumption | with_reducible apply rolls_State_modTill | (fail_if_no_progress with_reducible apply Rolls.upd) | with_reducible apply Rolls.ite | with_reducible apply Rolls.ite1 | (with_reducible apply Rolls.foldl; intro s₁ x₁; have h₁ : Rolls s₁ s₁ := Rolls.refl s₁; try dsimp +zetaDelta only) | (with_reducible apply Rolls.foldl1; intro s₁ x₁; have h₁ : Rolls s₁.1 s₁.1 := Rolls.refl s₁.1; try dsimp +zetaDelta only) | extract_lets | split | dsimp +zetaDelta only)

theorem rolls_setQuiesce {a₀ s₀ : State} (h₀ : Rolls a₀ s₀) {v : Nat} :
    Rolls a₀ (setQuiesce s₀ v) := by
  unfold setQuiesce
  try extract_lets
  repeat' (first | with_reducible assumption | (fail_if_no_progress with_reducible apply Rolls.upd) | with_reducible apply Rolls.ite | with_reducible apply Rolls.ite1 | (with_reducible apply Rolls.foldl; intro s₁ x₁; have h₁ : Rolls s₁ s₁ := Rolls.refl s₁; try dsimp +zetaDelta only) | (with_reducible apply Rolls.foldl1; intro s₁ x₁; have h₁ : Rolls s₁.1 s₁.1 := Rolls.refl s₁.1; try dsimp +zetaDelta only) | extract_lets | split | dsimp +zetaDelta only)

theorem rolls_strobe {a₀ s₀ : State} (h₀ : Rolls a₀ s₀) {ptm : Sys2Proof.Word} {v : Bool} :
    Rolls a₀ (strobe s₀ ptm v) := by
  unfold strobe
  try extract_lets
  repeat' (first | with_reducible assumption | with_reducible apply rolls_State_bump | with_reducible apply rolls_latchPtm | with_reducible apply rolls_tickStep | (fail_if_no_progress with_reducible apply Rolls.upd) | with_reducible apply Rolls.ite | with_reducible apply Rolls.ite1 | (with_reducible apply Rolls.foldl; intro s₁ x₁; have h₁ : Rolls s₁ s₁ := Rolls.refl s₁; try dsimp +zetaDelta only) | (with_reducible apply Rolls.foldl1; intro s₁ x₁; have h₁ : Rolls s₁.1 s₁.1 := Rolls.refl s₁.1; try dsimp +zetaDelta only) | extract_lets | split | dsimp +zetaDelta only)

theorem rolls_strobeOnSubstitute {a₀ s₀ : State} (h₀ : Rolls a₀ s₀) {ptm : Sys2Proof.Word} {v : Bool} :
    Rolls a₀ (strobeOnSubstitute s₀ ptm v) := by
  unfold strobeOnSubstitute
  try extract_lets
  repeat' (first | with_reducible assumption | with_reducible apply rolls_State_note | with_reducible apply rolls_latchPtm | with_reducible apply rolls_tickStep | (fail_if_no_progress with_reducible apply Rolls.upd) | with_reducible apply Rolls.ite | with_reducible apply Rolls.ite1 | (with_reducible apply Rolls.foldl; intro s₁ x₁; have h₁ : Rolls s₁ s₁ := Rolls.refl s₁; try dsimp +zetaDelta only) | (with_reducible apply Rolls.foldl1; intro s₁ x₁; have h₁ : Rolls s₁.1 s₁.1 := Rolls.refl s₁.1; try dsimp +zetaDelta only) | extract_lets | split | dsimp +zetaDelta only)

theorem rolls_sweepWindow {a₀ s₀ : State} (h₀ : Rolls a₀ s₀)  :
    Rolls a₀ (sweepWindow s₀) := by
  unfold sweepWindow
  try extract_lets
  repeat' (first | with_reducible assumption | with_reducible apply rolls_State_bump | (fail_if_no_progress with_reducible apply Rolls.upd) | with_reducible apply Rolls.ite | with_reducible apply Rolls.ite1 | (with_reducible apply Rolls.foldl; intro s₁ x₁; have h₁ : Rolls s₁ s₁ := Rolls.refl s₁; try dsimp +zetaDelta only) | (with_reducible apply Rolls.foldl1; intro s₁ x₁; have h₁ : Rolls s₁.1 s₁.1 := Rolls.refl s₁.1; try dsimp +zetaDelta only) | extract_lets | split | dsimp +zetaDelta only)

theorem rolls_takeForeclosed {a₀ s₀ : State} (h₀ : Rolls a₀ s₀) {t : Nat} {w : Nat} :
    Rolls a₀ (takeForeclosed s₀ t w) := by
  unfold takeForeclosed
  try extract_lets
  repeat' (first | with_reducible assumption | with_reducible apply rolls_State_bump | with_reducible apply rolls_State_popW | with_reducible apply rolls_respond | (fail_if_no_progress with_reducible apply Rolls.upd) | with_reducible apply Rolls.ite | with_reducible apply Rolls.ite1 | (with_reducible apply Rolls.foldl; intro s₁ x₁; have h₁ : Rolls s₁ s₁ := Rolls.refl s₁; try dsimp +zetaDelta only) | (with_reducible apply Rolls.foldl1; intro s₁ x₁; have h₁ : Rolls s₁.1 s₁.1 := Rolls.refl s₁.1; try dsimp +zetaDelta only) | extract_lets | split | dsimp +zetaDelta only)

theorem rolls_takeRec {a₀ s₀ : State} (h₀ : Rolls a₀ s₀)  :
    Rolls a₀ (takeRec s₀) := by
  unfold takeRec
  try extract_lets
  repeat' (first | with_reducible assumption | with_reducible apply rolls_receiveRec | (fail_if_no_progress with_reducible apply Rolls.upd) | with_reducible apply Rolls.ite | with_reducible apply Rolls.ite1 | (with_reducible apply Rolls.foldl; intro s₁ x₁; have h₁ : Rolls s₁ s₁ := Rolls.refl s₁; try dsimp +zetaDelta only) | (with_reducible apply Rolls.foldl1; intro s₁ x₁; have h₁ : Rolls s₁.1 s₁.1 := Rolls.refl s₁.1; try dsimp +zetaDelta only) | extract_lets | split | dsimp +zetaDelta only)

theorem rolls_takeSample {a₀ s₀ : State} (h₀ : Rolls a₀ s₀) {latency : Nat} {full : Bool} :
    Rolls a₀ (takeSample s₀ latency full) := by
  unfold takeSample
  try extract_lets
  repeat' (first | with_reducible assumption | with_reducible apply rolls_State_bump | with_reducible apply rolls_State_gev | with_reducible apply rolls_State_modChan | (fail_if_no_progress with_reducible apply Rolls.upd) | with_reducible apply Rolls.ite | with_reducible apply Rolls.ite1 | (with_reducible apply Rolls.foldl; intro s₁ x₁; have h₁ : Rolls s₁ s₁ := Rolls.refl s₁; try dsimp +zetaDelta only) | (with_reducible apply Rolls.foldl1; intro s₁ x₁; have h₁ : Rolls s₁.1 s₁.1 := Rolls.refl s₁.1; try dsimp +zetaDelta only) | extract_lets | split | dsimp +zetaDelta only)

theorem rolls_ungate {a₀ s₀ : State} (h₀ : Rolls a₀ s₀) {d : Nat} {l : List Nat} {src : Nat} :
    Rolls a₀ (ungate s₀ d l src) := by
  unfold ungate
  try extract_lets
  repeat' (first | with_reducible assumption | with_reducible apply rolls_State_modTill | with_reducible apply rolls_placeDeferred | (fail_if_no_progress with_reducible apply Rolls.upd) | with_reducible apply Rolls.ite | with_reducible apply Rolls.ite1 | (with_reducible apply Rolls.foldl; intro s₁ x₁; have h₁ : Rolls s₁ s₁ := Rolls.refl s₁; try dsimp +zetaDelta only) | (with_reducible apply Rolls.foldl1; intro s₁ x₁; have h₁ : Rolls s₁.1 s₁.1 := Rolls.refl s₁.1; try dsimp +zetaDelta only) | extract_lets | split | dsimp +zetaDelta only)

theorem rolls_tryForcedEnd {a₀ s₀ : State} (h₀ : Rolls a₀ s₀) {src : Nat} :
    Rolls a₀ (tryForcedEnd s₀ src) := by
  unfold tryForcedEnd
  try extract_lets
  repeat' (first | with_reducible assumption | with_reducible apply rolls_State_bump | with_reducible apply rolls_State_dropXfer | with_reducible apply rolls_makeActive | with_reducible apply rolls_nextTransfer | with_reducible apply rolls_ungate | (fail_if_no_progress with_reducible apply Rolls.upd) | with_reducible apply Rolls.ite | with_reducible apply Rolls.ite1 | (with_reducible apply Rolls.foldl; intro s₁ x₁; have h₁ : Rolls s₁ s₁ := Rolls.refl s₁; try dsimp +zetaDelta only) | (with_reducible apply Rolls.foldl1; intro s₁ x₁; have h₁ : Rolls s₁.1 s₁.1 := Rolls.refl s₁.1; try dsimp +zetaDelta only) | extract_lets | split | dsimp +zetaDelta only)

theorem rolls_tryUngate {a₀ s₀ : State} (h₀ : Rolls a₀ s₀) {src : Nat} :
    Rolls a₀ (tryUngate s₀ src) := by
  unfold tryUngate
  try extract_lets
  repeat' (first | with_reducible assumption | with_reducible apply rolls_State_bumpMax | with_reducible apply rolls_State_modTill | with_reducible apply rolls_State_modXfer | with_reducible apply rolls_finishPlanned | with_reducible apply rolls_nextTransfer | with_reducible apply rolls_ungate | (fail_if_no_progress with_reducible apply Rolls.upd) | with_reducible apply Rolls.ite | with_reducible apply Rolls.ite1 | (with_reducible apply Rolls.foldl; intro s₁ x₁; have h₁ : Rolls s₁ s₁ := Rolls.refl s₁; try dsimp +zetaDelta only) | (with_reducible apply Rolls.foldl1; intro s₁ x₁; have h₁ : Rolls s₁.1 s₁.1 := Rolls.refl s₁.1; try dsimp +zetaDelta only) | extract_lets | split | dsimp +zetaDelta only)

theorem rolls_walkGroup {a₀ s₀ : State} (h₀ : Rolls a₀ s₀) {leave : Bool} {t : Nat} {p : Nat} {g : Nat} :
    Rolls a₀ (walkGroup s₀ leave t p g) := by
  unfold walkGroup
  try extract_lets
  repeat' (first | with_reducible assumption | with_reducible refine rolls_takeOrder_eq (by assumption) ?_ | with_reducible apply rolls_nextPass | with_reducible apply rolls_startGroupAt | (fail_if_no_progress with_reducible apply Rolls.upd) | with_reducible apply Rolls.ite | with_reducible apply Rolls.ite1 | (with_reducible apply Rolls.foldl; intro s₁ x₁; have h₁ : Rolls s₁ s₁ := Rolls.refl s₁; try dsimp +zetaDelta only) | (with_reducible apply Rolls.foldl1; intro s₁ x₁; have h₁ : Rolls s₁.1 s₁.1 := Rolls.refl s₁.1; try dsimp +zetaDelta only) | extract_lets | split | dsimp +zetaDelta only)

theorem rolls_walkSet {a₀ s₀ : State} (h₀ : Rolls a₀ s₀) {leave : Bool} {t : Nat} {bank : Nat} {set : Nat} :
    Rolls a₀ (walkSet s₀ leave t bank set) := by
  unfold walkSet
  try extract_lets
  repeat' (first | with_reducible assumption | with_reducible refine rolls_startSecOp_eq (by assumption) ?_ | with_reducible refine rolls_takeOrder_eq (by assumption) ?_ | with_reducible apply rolls_nextPass | with_reducible apply rolls_readSet | with_reducible apply rolls_startSecOp | (fail_if_no_progress with_reducible apply Rolls.upd) | with_reducible apply Rolls.ite | with_reducible apply Rolls.ite1 | (with_reducible apply Rolls.foldl; intro s₁ x₁; have h₁ : Rolls s₁ s₁ := Rolls.refl s₁; try dsimp +zetaDelta only) | (with_reducible apply Rolls.foldl1; intro s₁ x₁; have h₁ : Rolls s₁.1 s₁.1 := Rolls.refl s₁.1; try dsimp +zetaDelta only) | extract_lets | split | dsimp +zetaDelta only)

theorem rolls_walkVisit {a₀ s₀ : State} (h₀ : Rolls a₀ s₀) {leave : Bool} {t : Nat} {pos : Sys2Proof.WalkAt} :
    Rolls a₀ (walkVisit s₀ leave t pos) := by
  unfold walkVisit
  try extract_lets
  repeat' (first | with_reducible assumption | with_reducible apply rolls_walkGroup | with_reducible apply rolls_walkSet | (fail_if_no_progress with_reducible apply Rolls.upd) | with_reducible apply Rolls.ite | with_reducible apply Rolls.ite1 | (with_reducible apply Rolls.foldl; intro s₁ x₁; have h₁ : Rolls s₁ s₁ := Rolls.refl s₁; try dsimp +zetaDelta only) | (with_reducible apply Rolls.foldl1; intro s₁ x₁; have h₁ : Rolls s₁.1 s₁.1 := Rolls.refl s₁.1; try dsimp +zetaDelta only) | extract_lets | split | dsimp +zetaDelta only)

theorem rolls_writeEnded {a₀ s₀ : State} (h₀ : Rolls a₀ s₀) {a : Nat} {e : Nat} {o : Outc} :
    Rolls a₀ (writeEnded s₀ a e o) := by
  unfold writeEnded
  try extract_lets
  repeat' (first | with_reducible assumption | with_reducible apply rolls_checkSettles | with_reducible apply rolls_noteOutcome | with_reducible apply rolls_pumpAll | (fail_if_no_progress with_reducible apply Rolls.upd) | with_reducible apply Rolls.ite | with_reducible apply Rolls.ite1 | (with_reducible apply Rolls.foldl; intro s₁ x₁; have h₁ : Rolls s₁ s₁ := Rolls.refl s₁; try dsimp +zetaDelta only) | (with_reducible apply Rolls.foldl1; intro s₁ x₁; have h₁ : Rolls s₁.1 s₁.1 := Rolls.refl s₁.1; try dsimp +zetaDelta only) | extract_lets | split | dsimp +zetaDelta only)

end Sys2Proof.Machine
end

