-- ==== Sys2Proof/Laws/RollsE.lean ====
section
/-! SUPPORT. What `Rolls` says of each meaning that answers a next state. -/

namespace Sys2Proof.Machine
set_option linter.all false

theorem rolls_requestCmd {s₀ : State} {c : Sys2Proof.Instr} {w : Nat} {o : Sys2Proof.Machine.Opc} {q : Sys2Proof.Req} : RollsNext (requestCmd c w o q s₀) s₀ := by
  have h₀ : Rolls s₀ s₀ := Rolls.refl s₀
  unfold requestCmd
  try extract_lets
  repeat' (first | with_reducible apply RollsNext.next | with_reducible apply RollsNext.fault | with_reducible apply RollsNext.ite | with_reducible assumption | with_reducible apply rolls_request | (fail_if_no_progress with_reducible apply Rolls.upd) | with_reducible apply Rolls.ite | with_reducible apply Rolls.ite1 | (with_reducible apply Rolls.foldl; intro s₁ x₁; have h₁ : Rolls s₁ s₁ := Rolls.refl s₁; try dsimp +zetaDelta only) | (with_reducible apply Rolls.foldl1; intro s₁ x₁; have h₁ : Rolls s₁.1 s₁.1 := Rolls.refl s₁.1; try dsimp +zetaDelta only) | extract_lets | split | dsimp +zetaDelta only)

theorem rolls_execAgeHours {s₀ : State}  : RollsNext (execAgeHours s₀) s₀ := by
  have h₀ : Rolls s₀ s₀ := Rolls.refl s₀
  unfold execAgeHours
  try extract_lets
  repeat' (first | with_reducible apply RollsNext.next | with_reducible apply RollsNext.fault | with_reducible apply RollsNext.ite | with_reducible assumption | (fail_if_no_progress with_reducible apply Rolls.upd) | with_reducible apply Rolls.ite | with_reducible apply Rolls.ite1 | (with_reducible apply Rolls.foldl; intro s₁ x₁; have h₁ : Rolls s₁ s₁ := Rolls.refl s₁; try dsimp +zetaDelta only) | (with_reducible apply Rolls.foldl1; intro s₁ x₁; have h₁ : Rolls s₁.1 s₁.1 := Rolls.refl s₁.1; try dsimp +zetaDelta only) | extract_lets | split | dsimp +zetaDelta only)

theorem rolls_execAlarmWindow {s₀ : State}  : RollsNext (execAlarmWindow s₀) s₀ := by
  have h₀ : Rolls s₀ s₀ := Rolls.refl s₀
  unfold execAlarmWindow
  try extract_lets
  repeat' (first | with_reducible apply RollsNext.next | with_reducible apply RollsNext.fault | with_reducible apply RollsNext.ite | with_reducible assumption | with_reducible apply rolls_alarmPeriod | (fail_if_no_progress with_reducible apply Rolls.upd) | with_reducible apply Rolls.ite | with_reducible apply Rolls.ite1 | (with_reducible apply Rolls.foldl; intro s₁ x₁; have h₁ : Rolls s₁ s₁ := Rolls.refl s₁; try dsimp +zetaDelta only) | (with_reducible apply Rolls.foldl1; intro s₁ x₁; have h₁ : Rolls s₁.1 s₁.1 := Rolls.refl s₁.1; try dsimp +zetaDelta only) | extract_lets | split | dsimp +zetaDelta only)

theorem rolls_execAssayBaseline {s₀ : State} {m : Sys2Proof.Measure} {mhz : Nat} {acked : Bool} : RollsNext (execAssayBaseline m mhz acked s₀) s₀ := by
  have h₀ : Rolls s₀ s₀ := Rolls.refl s₀
  unfold execAssayBaseline
  try extract_lets
  repeat' (first | with_reducible apply RollsNext.next | with_reducible apply RollsNext.fault | with_reducible apply RollsNext.ite | with_reducible assumption | with_reducible apply rolls_baseline | (fail_if_no_progress with_reducible apply Rolls.upd) | with_reducible apply Rolls.ite | with_reducible apply Rolls.ite1 | (with_reducible apply Rolls.foldl; intro s₁ x₁; have h₁ : Rolls s₁ s₁ := Rolls.refl s₁; try dsimp +zetaDelta only) | (with_reducible apply Rolls.foldl1; intro s₁ x₁; have h₁ : Rolls s₁.1 s₁.1 := Rolls.refl s₁.1; try dsimp +zetaDelta only) | extract_lets | split | dsimp +zetaDelta only)

theorem rolls_execBankArbitration {s₀ : State} {t : Nat} {bank : Nat} {dt : Nat} {raised : BitVec 4} {lockStart : Bool} {lockEnd : Bool} : RollsNext (execBankArbitration t bank dt raised lockStart lockEnd s₀) s₀ := by
  have h₀ : Rolls s₀ s₀ := Rolls.refl s₀
  unfold execBankArbitration
  try extract_lets
  repeat' (first | with_reducible apply RollsNext.next | with_reducible apply RollsNext.fault | with_reducible apply RollsNext.ite | with_reducible assumption | with_reducible apply rolls_advance | with_reducible apply rolls_arbitrate | (fail_if_no_progress with_reducible apply Rolls.upd) | with_reducible apply Rolls.ite | with_reducible apply Rolls.ite1 | (with_reducible apply Rolls.foldl; intro s₁ x₁; have h₁ : Rolls s₁ s₁ := Rolls.refl s₁; try dsimp +zetaDelta only) | (with_reducible apply Rolls.foldl1; intro s₁ x₁; have h₁ : Rolls s₁.1 s₁.1 := Rolls.refl s₁.1; try dsimp +zetaDelta only) | extract_lets | split | dsimp +zetaDelta only)

theorem rolls_execBankWatchdog {s₀ : State} {t : Nat} {bank : Nat} : RollsNext (execBankWatchdog t bank s₀) s₀ := by
  have h₀ : Rolls s₀ s₀ := Rolls.refl s₀
  unfold execBankWatchdog
  try extract_lets
  repeat' (first | with_reducible apply RollsNext.next | with_reducible apply RollsNext.fault | with_reducible apply RollsNext.ite | with_reducible assumption | with_reducible apply rolls_State_modTill | with_reducible apply rolls_State_note | with_reducible apply rolls_State_setRawN | (fail_if_no_progress with_reducible apply Rolls.upd) | with_reducible apply Rolls.ite | with_reducible apply Rolls.ite1 | (with_reducible apply Rolls.foldl; intro s₁ x₁; have h₁ : Rolls s₁ s₁ := Rolls.refl s₁; try dsimp +zetaDelta only) | (with_reducible apply Rolls.foldl1; intro s₁ x₁; have h₁ : Rolls s₁.1 s₁.1 := Rolls.refl s₁.1; try dsimp +zetaDelta only) | extract_lets | split | dsimp +zetaDelta only)

theorem rolls_execBucketMapSwitch {s₀ : State} {n : Nat} : RollsNext (execBucketMapSwitch n s₀) s₀ := by
  have h₀ : Rolls s₀ s₀ := Rolls.refl s₀
  unfold execBucketMapSwitch
  try extract_lets
  repeat' (first | with_reducible apply RollsNext.next | with_reducible apply RollsNext.fault | with_reducible apply RollsNext.ite | with_reducible assumption | with_reducible apply rolls_mapSwitch | (fail_if_no_progress with_reducible apply Rolls.upd) | with_reducible apply Rolls.ite | with_reducible apply Rolls.ite1 | (with_reducible apply Rolls.foldl; intro s₁ x₁; have h₁ : Rolls s₁ s₁ := Rolls.refl s₁; try dsimp +zetaDelta only) | (with_reducible apply Rolls.foldl1; intro s₁ x₁; have h₁ : Rolls s₁.1 s₁.1 := Rolls.refl s₁.1; try dsimp +zetaDelta only) | extract_lets | split | dsimp +zetaDelta only)

theorem rolls_execCellarVisit {s₀ : State} {t : Nat} {p : Nat} {g : Nat} : RollsNext (execCellarVisit t p g s₀) s₀ := by
  have h₀ : Rolls s₀ s₀ := Rolls.refl s₀
  unfold execCellarVisit
  try extract_lets
  repeat' (first | with_reducible apply RollsNext.next | with_reducible apply RollsNext.fault | with_reducible apply RollsNext.ite | with_reducible assumption | with_reducible apply rolls_cellarVisit | with_reducible apply rolls_settleFails | (fail_if_no_progress with_reducible apply Rolls.upd) | with_reducible apply Rolls.ite | with_reducible apply Rolls.ite1 | (with_reducible apply Rolls.foldl; intro s₁ x₁; have h₁ : Rolls s₁ s₁ := Rolls.refl s₁; try dsimp +zetaDelta only) | (with_reducible apply Rolls.foldl1; intro s₁ x₁; have h₁ : Rolls s₁.1 s₁.1 := Rolls.refl s₁.1; try dsimp +zetaDelta only) | extract_lets | split | dsimp +zetaDelta only)

theorem rolls_execChainedNotice {s₀ : State} {w : Nat} {t : Nat} : RollsNext (execChainedNotice w t s₀) s₀ := by
  have h₀ : Rolls s₀ s₀ := Rolls.refl s₀
  unfold execChainedNotice
  try extract_lets
  repeat' (first | with_reducible apply RollsNext.next | with_reducible apply RollsNext.fault | with_reducible apply RollsNext.ite | with_reducible assumption | with_reducible apply rolls_State_popP | with_reducible apply rolls_wbAnswered | (fail_if_no_progress with_reducible apply Rolls.upd) | with_reducible apply Rolls.ite | with_reducible apply Rolls.ite1 | (with_reducible apply Rolls.foldl; intro s₁ x₁; have h₁ : Rolls s₁ s₁ := Rolls.refl s₁; try dsimp +zetaDelta only) | (with_reducible apply Rolls.foldl1; intro s₁ x₁; have h₁ : Rolls s₁.1 s₁.1 := Rolls.refl s₁.1; try dsimp +zetaDelta only) | extract_lets | split | dsimp +zetaDelta only)

theorem rolls_execChstatChange {s₀ : State} {m : Nat} {level : BitVec 16} : RollsNext (execChstatChange m level s₀) s₀ := by
  have h₀ : Rolls s₀ s₀ := Rolls.refl s₀
  unfold execChstatChange
  try extract_lets
  repeat' (first | with_reducible apply RollsNext.next | with_reducible apply RollsNext.fault | with_reducible apply RollsNext.ite | with_reducible assumption | (fail_if_no_progress with_reducible apply Rolls.upd) | with_reducible apply Rolls.ite | with_reducible apply Rolls.ite1 | (with_reducible apply Rolls.foldl; intro s₁ x₁; have h₁ : Rolls s₁ s₁ := Rolls.refl s₁; try dsimp +zetaDelta only) | (with_reducible apply Rolls.foldl1; intro s₁ x₁; have h₁ : Rolls s₁.1 s₁.1 := Rolls.refl s₁.1; try dsimp +zetaDelta only) | extract_lets | split | dsimp +zetaDelta only)

theorem rolls_execClaimReleaseDone {s₀ : State} {t : Nat} {page : BitVec 32} : RollsNext (execClaimReleaseDone t page s₀) s₀ := by
  have h₀ : Rolls s₀ s₀ := Rolls.refl s₀
  unfold execClaimReleaseDone
  try extract_lets
  repeat' (first | with_reducible apply RollsNext.next | with_reducible apply RollsNext.fault | with_reducible apply RollsNext.ite | with_reducible assumption | with_reducible apply rolls_releaseDone | with_reducible apply rolls_worked | (fail_if_no_progress with_reducible apply Rolls.upd) | with_reducible apply Rolls.ite | with_reducible apply Rolls.ite1 | (with_reducible apply Rolls.foldl; intro s₁ x₁; have h₁ : Rolls s₁ s₁ := Rolls.refl s₁; try dsimp +zetaDelta only) | (with_reducible apply Rolls.foldl1; intro s₁ x₁; have h₁ : Rolls s₁.1 s₁.1 := Rolls.refl s₁.1; try dsimp +zetaDelta only) | extract_lets | split | dsimp +zetaDelta only)

theorem rolls_execClaimS {s₀ : State} {w : Nat} {q : Sys2Proof.Req} : RollsNext (execClaimS w q s₀) s₀ := by
  have h₀ : Rolls s₀ s₀ := Rolls.refl s₀
  unfold execClaimS
  try extract_lets
  repeat' (first | with_reducible apply RollsNext.next | with_reducible apply RollsNext.fault | with_reducible apply RollsNext.ite | with_reducible assumption | with_reducible apply rolls_requestCmd | with_reducible apply rolls_requestCmd | (fail_if_no_progress with_reducible apply Rolls.upd) | with_reducible apply Rolls.ite | with_reducible apply Rolls.ite1 | (with_reducible apply Rolls.foldl; intro s₁ x₁; have h₁ : Rolls s₁ s₁ := Rolls.refl s₁; try dsimp +zetaDelta only) | (with_reducible apply Rolls.foldl1; intro s₁ x₁; have h₁ : Rolls s₁.1 s₁.1 := Rolls.refl s₁.1; try dsimp +zetaDelta only) | extract_lets | split | dsimp +zetaDelta only)

theorem rolls_execClaimX {s₀ : State} {w : Nat} {q : Sys2Proof.Req} : RollsNext (execClaimX w q s₀) s₀ := by
  have h₀ : Rolls s₀ s₀ := Rolls.refl s₀
  unfold execClaimX
  try extract_lets
  repeat' (first | with_reducible apply RollsNext.next | with_reducible apply RollsNext.fault | with_reducible apply RollsNext.ite | with_reducible assumption | with_reducible apply rolls_requestCmd | with_reducible apply rolls_requestCmd | (fail_if_no_progress with_reducible apply Rolls.upd) | with_reducible apply Rolls.ite | with_reducible apply Rolls.ite1 | (with_reducible apply Rolls.foldl; intro s₁ x₁; have h₁ : Rolls s₁ s₁ := Rolls.refl s₁; try dsimp +zetaDelta only) | (with_reducible apply Rolls.foldl1; intro s₁ x₁; have h₁ : Rolls s₁.1 s₁.1 := Rolls.refl s₁.1; try dsimp +zetaDelta only) | extract_lets | split | dsimp +zetaDelta only)

theorem rolls_execCompletionDelivery {s₀ : State} {w : Nat} {t : Nat} {dataPlane : Bool} : RollsNext (execCompletionDelivery w t dataPlane s₀) s₀ := by
  have h₀ : Rolls s₀ s₀ := Rolls.refl s₀
  unfold execCompletionDelivery
  try extract_lets
  repeat' (first | with_reducible apply RollsNext.next | with_reducible apply RollsNext.fault | with_reducible apply RollsNext.ite | with_reducible assumption | with_reducible apply rolls_State_popP | with_reducible apply rolls_cmpArrives | with_reducible apply rolls_dataArrives | (fail_if_no_progress with_reducible apply Rolls.upd) | with_reducible apply Rolls.ite | with_reducible apply Rolls.ite1 | (with_reducible apply Rolls.foldl; intro s₁ x₁; have h₁ : Rolls s₁ s₁ := Rolls.refl s₁; try dsimp +zetaDelta only) | (with_reducible apply Rolls.foldl1; intro s₁ x₁; have h₁ : Rolls s₁.1 s₁.1 := Rolls.refl s₁.1; try dsimp +zetaDelta only) | extract_lets | split | dsimp +zetaDelta only)

theorem rolls_execConflict {s₀ : State} {w : Nat} {q : Sys2Proof.Req} : RollsNext (execConflict w q s₀) s₀ := by
  have h₀ : Rolls s₀ s₀ := Rolls.refl s₀
  unfold execConflict
  try extract_lets
  repeat' (first | with_reducible apply RollsNext.next | with_reducible apply RollsNext.fault | with_reducible apply RollsNext.ite | with_reducible assumption | with_reducible apply rolls_requestCmd | with_reducible apply rolls_requestCmd | (fail_if_no_progress with_reducible apply Rolls.upd) | with_reducible apply Rolls.ite | with_reducible apply Rolls.ite1 | (with_reducible apply Rolls.foldl; intro s₁ x₁; have h₁ : Rolls s₁ s₁ := Rolls.refl s₁; try dsimp +zetaDelta only) | (with_reducible apply Rolls.foldl1; intro s₁ x₁; have h₁ : Rolls s₁.1 s₁.1 := Rolls.refl s₁.1; try dsimp +zetaDelta only) | extract_lets | split | dsimp +zetaDelta only)

theorem rolls_execCopyEnd {s₀ : State} {t : Nat} : RollsNext (execCopyEnd t s₀) s₀ := by
  have h₀ : Rolls s₀ s₀ := Rolls.refl s₀
  unfold execCopyEnd
  try extract_lets
  repeat' (first | with_reducible apply RollsNext.next | with_reducible apply RollsNext.fault | with_reducible apply RollsNext.ite | with_reducible assumption | with_reducible apply rolls_State_modTill | with_reducible apply rolls_setBucketSummary | with_reducible apply rolls_tryUngate | (fail_if_no_progress with_reducible apply Rolls.upd) | with_reducible apply Rolls.ite | with_reducible apply Rolls.ite1 | (with_reducible apply Rolls.foldl; intro s₁ x₁; have h₁ : Rolls s₁ s₁ := Rolls.refl s₁; try dsimp +zetaDelta only) | (with_reducible apply Rolls.foldl1; intro s₁ x₁; have h₁ : Rolls s₁.1 s₁.1 := Rolls.refl s₁.1; try dsimp +zetaDelta only) | extract_lets | split | dsimp +zetaDelta only)

theorem rolls_execCopyEndSend {s₀ : State} {t : Nat} : RollsNext (execCopyEndSend t s₀) s₀ := by
  have h₀ : Rolls s₀ s₀ := Rolls.refl s₀
  unfold execCopyEndSend
  try extract_lets
  repeat' (first | with_reducible apply RollsNext.next | with_reducible apply RollsNext.fault | with_reducible apply RollsNext.ite | with_reducible assumption | with_reducible apply rolls_State_modXfer | with_reducible apply rolls_State_packet | with_reducible apply rolls_handClaims | with_reducible apply rolls_handEntries | (fail_if_no_progress with_reducible apply Rolls.upd) | with_reducible apply Rolls.ite | with_reducible apply Rolls.ite1 | (with_reducible apply Rolls.foldl; intro s₁ x₁; have h₁ : Rolls s₁ s₁ := Rolls.refl s₁; try dsimp +zetaDelta only) | (with_reducible apply Rolls.foldl1; intro s₁ x₁; have h₁ : Rolls s₁.1 s₁.1 := Rolls.refl s₁.1; try dsimp +zetaDelta only) | extract_lets | split | dsimp +zetaDelta only)

theorem rolls_execCopyRun {s₀ : State} {t : Nat} {bank : Nat} : RollsNext (execCopyRun t bank s₀) s₀ := by
  have h₀ : Rolls s₀ s₀ := Rolls.refl s₀
  unfold execCopyRun
  try extract_lets
  repeat' (first | with_reducible apply RollsNext.next | with_reducible apply RollsNext.fault | with_reducible apply RollsNext.ite | with_reducible assumption | with_reducible refine rolls_takeOrder_eq (by assumption) ?_ | with_reducible apply rolls_copyRun | (fail_if_no_progress with_reducible apply Rolls.upd) | with_reducible apply Rolls.ite | with_reducible apply Rolls.ite1 | (with_reducible apply Rolls.foldl; intro s₁ x₁; have h₁ : Rolls s₁ s₁ := Rolls.refl s₁; try dsimp +zetaDelta only) | (with_reducible apply Rolls.foldl1; intro s₁ x₁; have h₁ : Rolls s₁.1 s₁.1 := Rolls.refl s₁.1; try dsimp +zetaDelta only) | extract_lets | split | dsimp +zetaDelta only)

theorem rolls_execCreditReturn {s₀ : State} {w : Nat} {t : Nat} : RollsNext (execCreditReturn w t s₀) s₀ := by
  have h₀ : Rolls s₀ s₀ := Rolls.refl s₀
  unfold execCreditReturn
  try extract_lets
  repeat' (first | with_reducible apply RollsNext.next | with_reducible apply RollsNext.fault | with_reducible apply RollsNext.ite | with_reducible assumption | with_reducible apply rolls_State_popP | with_reducible apply rolls_creditBack | with_reducible apply rolls_serveLoans | with_reducible apply rolls_writeEnded | (fail_if_no_progress with_reducible apply Rolls.upd) | with_reducible apply Rolls.ite | with_reducible apply Rolls.ite1 | (with_reducible apply Rolls.foldl; intro s₁ x₁; have h₁ : Rolls s₁ s₁ := Rolls.refl s₁; try dsimp +zetaDelta only) | (with_reducible apply Rolls.foldl1; intro s₁ x₁; have h₁ : Rolls s₁.1 s₁.1 := Rolls.refl s₁.1; try dsimp +zetaDelta only) | extract_lets | split | dsimp +zetaDelta only)

theorem rolls_execCwr {s₀ : State} {w : Nat} {q : Sys2Proof.Req} : RollsNext (execCwr w q s₀) s₀ := by
  have h₀ : Rolls s₀ s₀ := Rolls.refl s₀
  unfold execCwr
  try extract_lets
  repeat' (first | with_reducible apply RollsNext.next | with_reducible apply RollsNext.fault | with_reducible apply RollsNext.ite | with_reducible assumption | with_reducible apply rolls_requestCmd | with_reducible apply rolls_requestCmd | (fail_if_no_progress with_reducible apply Rolls.upd) | with_reducible apply Rolls.ite | with_reducible apply Rolls.ite1 | (with_reducible apply Rolls.foldl; intro s₁ x₁; have h₁ : Rolls s₁ s₁ := Rolls.refl s₁; try dsimp +zetaDelta only) | (with_reducible apply Rolls.foldl1; intro s₁ x₁; have h₁ : Rolls s₁.1 s₁.1 := Rolls.refl s₁.1; try dsimp +zetaDelta only) | extract_lets | split | dsimp +zetaDelta only)

theorem rolls_execDown {s₀ : State} {w : Nat} {q : Sys2Proof.Req} : RollsNext (execDown w q s₀) s₀ := by
  have h₀ : Rolls s₀ s₀ := Rolls.refl s₀
  unfold execDown
  try extract_lets
  repeat' (first | with_reducible apply RollsNext.next | with_reducible apply RollsNext.fault | with_reducible apply RollsNext.ite | with_reducible assumption | with_reducible apply rolls_requestCmd | with_reducible apply rolls_requestCmd | (fail_if_no_progress with_reducible apply Rolls.upd) | with_reducible apply Rolls.ite | with_reducible apply Rolls.ite1 | (with_reducible apply Rolls.foldl; intro s₁ x₁; have h₁ : Rolls s₁ s₁ := Rolls.refl s₁; try dsimp +zetaDelta only) | (with_reducible apply Rolls.foldl1; intro s₁ x₁; have h₁ : Rolls s₁.1 s₁.1 := Rolls.refl s₁.1; try dsimp +zetaDelta only) | extract_lets | split | dsimp +zetaDelta only)

theorem rolls_execDrop {s₀ : State} {w : Nat} {q : Sys2Proof.Req} : RollsNext (execDrop w q s₀) s₀ := by
  have h₀ : Rolls s₀ s₀ := Rolls.refl s₀
  unfold execDrop
  try extract_lets
  repeat' (first | with_reducible apply RollsNext.next | with_reducible apply RollsNext.fault | with_reducible apply RollsNext.ite | with_reducible assumption | with_reducible apply rolls_requestCmd | with_reducible apply rolls_requestCmd | (fail_if_no_progress with_reducible apply Rolls.upd) | with_reducible apply Rolls.ite | with_reducible apply Rolls.ite1 | (with_reducible apply Rolls.foldl; intro s₁ x₁; have h₁ : Rolls s₁ s₁ := Rolls.refl s₁; try dsimp +zetaDelta only) | (with_reducible apply Rolls.foldl1; intro s₁ x₁; have h₁ : Rolls s₁.1 s₁.1 := Rolls.refl s₁.1; try dsimp +zetaDelta only) | extract_lets | split | dsimp +zetaDelta only)

theorem rolls_execEvc {s₀ : State} {w : Nat} {q : Sys2Proof.Req} : RollsNext (execEvc w q s₀) s₀ := by
  have h₀ : Rolls s₀ s₀ := Rolls.refl s₀
  unfold execEvc
  try extract_lets
  repeat' (first | with_reducible apply RollsNext.next | with_reducible apply RollsNext.fault | with_reducible apply RollsNext.ite | with_reducible assumption | with_reducible apply rolls_requestCmd | with_reducible apply rolls_requestCmd | (fail_if_no_progress with_reducible apply Rolls.upd) | with_reducible apply Rolls.ite | with_reducible apply Rolls.ite1 | (with_reducible apply Rolls.foldl; intro s₁ x₁; have h₁ : Rolls s₁ s₁ := Rolls.refl s₁; try dsimp +zetaDelta only) | (with_reducible apply Rolls.foldl1; intro s₁ x₁; have h₁ : Rolls s₁.1 s₁.1 := Rolls.refl s₁.1; try dsimp +zetaDelta only) | extract_lets | split | dsimp +zetaDelta only)

theorem rolls_execExpiredHold {s₀ : State} {t : Nat} {i : Nat} : RollsNext (execExpiredHold t i s₀) s₀ := by
  have h₀ : Rolls s₀ s₀ := Rolls.refl s₀
  unfold execExpiredHold
  try extract_lets
  repeat' (first | with_reducible apply RollsNext.next | with_reducible apply RollsNext.fault | with_reducible apply RollsNext.ite | with_reducible assumption | with_reducible apply rolls_deleteRecord | with_reducible apply rolls_worked | (fail_if_no_progress with_reducible apply Rolls.upd) | with_reducible apply Rolls.ite | with_reducible apply Rolls.ite1 | (with_reducible apply Rolls.foldl; intro s₁ x₁; have h₁ : Rolls s₁ s₁ := Rolls.refl s₁; try dsimp +zetaDelta only) | (with_reducible apply Rolls.foldl1; intro s₁ x₁; have h₁ : Rolls s₁.1 s₁.1 := Rolls.refl s₁.1; try dsimp +zetaDelta only) | extract_lets | split | dsimp +zetaDelta only)

theorem rolls_execFolioReadOutDone {s₀ : State} {t : Nat} {f : Nat} : RollsNext (execFolioReadOutDone t f s₀) s₀ := by
  have h₀ : Rolls s₀ s₀ := Rolls.refl s₀
  unfold execFolioReadOutDone
  try extract_lets
  repeat' (first | with_reducible apply RollsNext.next | with_reducible apply RollsNext.fault | with_reducible apply RollsNext.ite | with_reducible assumption | with_reducible apply rolls_State_modFolio | with_reducible apply rolls_kickData | with_reducible apply rolls_tryRetire | with_reducible apply rolls_worked | (fail_if_no_progress with_reducible apply Rolls.upd) | with_reducible apply Rolls.ite | with_reducible apply Rolls.ite1 | (with_reducible apply Rolls.foldl; intro s₁ x₁; have h₁ : Rolls s₁ s₁ := Rolls.refl s₁; try dsimp +zetaDelta only) | (with_reducible apply Rolls.foldl1; intro s₁ x₁; have h₁ : Rolls s₁.1 s₁.1 := Rolls.refl s₁.1; try dsimp +zetaDelta only) | extract_lets | split | dsimp +zetaDelta only)

theorem rolls_execForeclosedResponse {s₀ : State} {t : Nat} {w : Nat} : RollsNext (execForeclosedResponse t w s₀) s₀ := by
  have h₀ : Rolls s₀ s₀ := Rolls.refl s₀
  unfold execForeclosedResponse
  try extract_lets
  repeat' (first | with_reducible apply RollsNext.next | with_reducible apply RollsNext.fault | with_reducible apply RollsNext.ite | with_reducible assumption | with_reducible apply rolls_takeForeclosed | with_reducible apply rolls_worked | (fail_if_no_progress with_reducible apply Rolls.upd) | with_reducible apply Rolls.ite | with_reducible apply Rolls.ite1 | (with_reducible apply Rolls.foldl; intro s₁ x₁; have h₁ : Rolls s₁ s₁ := Rolls.refl s₁; try dsimp +zetaDelta only) | (with_reducible apply Rolls.foldl1; intro s₁ x₁; have h₁ : Rolls s₁.1 s₁.1 := Rolls.refl s₁.1; try dsimp +zetaDelta only) | extract_lets | split | dsimp +zetaDelta only)

theorem rolls_execForeclosureWalk {s₀ : State} {t : Nat} {pos : Sys2Proof.WalkAt} : RollsNext (execForeclosureWalk t pos s₀) s₀ := by
  have h₀ : Rolls s₀ s₀ := Rolls.refl s₀
  unfold execForeclosureWalk
  try extract_lets
  repeat' (first | with_reducible apply RollsNext.next | with_reducible apply RollsNext.fault | with_reducible apply RollsNext.ite | with_reducible assumption | with_reducible apply rolls_settleFails | with_reducible apply rolls_walkVisit | (fail_if_no_progress with_reducible apply Rolls.upd) | with_reducible apply Rolls.ite | with_reducible apply Rolls.ite1 | (with_reducible apply Rolls.foldl; intro s₁ x₁; have h₁ : Rolls s₁ s₁ := Rolls.refl s₁; try dsimp +zetaDelta only) | (with_reducible apply Rolls.foldl1; intro s₁ x₁; have h₁ : Rolls s₁.1 s₁.1 := Rolls.refl s₁.1; try dsimp +zetaDelta only) | extract_lets | split | dsimp +zetaDelta only)

theorem rolls_execFullSweep {s₀ : State} {m : Sys2Proof.Measure} : RollsNext (execFullSweep m s₀) s₀ := by
  have h₀ : Rolls s₀ s₀ := Rolls.refl s₀
  unfold execFullSweep
  try extract_lets
  repeat' (first | with_reducible apply RollsNext.next | with_reducible apply RollsNext.fault | with_reducible apply RollsNext.ite | with_reducible assumption | with_reducible apply rolls_check | (fail_if_no_progress with_reducible apply Rolls.upd) | with_reducible apply Rolls.ite | with_reducible apply Rolls.ite1 | (with_reducible apply Rolls.foldl; intro s₁ x₁; have h₁ : Rolls s₁ s₁ := Rolls.refl s₁; try dsimp +zetaDelta only) | (with_reducible apply Rolls.foldl1; intro s₁ x₁; have h₁ : Rolls s₁.1 s₁.1 := Rolls.refl s₁.1; try dsimp +zetaDelta only) | extract_lets | split | dsimp +zetaDelta only)

theorem rolls_execHaltMaxTicks {s₀ : State} {t : Nat} : RollsNext (execHaltMaxTicks t s₀) s₀ := by
  have h₀ : Rolls s₀ s₀ := Rolls.refl s₀
  unfold execHaltMaxTicks
  try extract_lets
  repeat' (first | with_reducible apply RollsNext.next | with_reducible apply RollsNext.fault | with_reducible apply RollsNext.ite | with_reducible assumption | with_reducible apply rolls_endHalt | with_reducible apply rolls_worked | (fail_if_no_progress with_reducible apply Rolls.upd) | with_reducible apply Rolls.ite | with_reducible apply Rolls.ite1 | (with_reducible apply Rolls.foldl; intro s₁ x₁; have h₁ : Rolls s₁ s₁ := Rolls.refl s₁; try dsimp +zetaDelta only) | (with_reducible apply Rolls.foldl1; intro s₁ x₁; have h₁ : Rolls s₁.1 s₁.1 := Rolls.refl s₁.1; try dsimp +zetaDelta only) | extract_lets | split | dsimp +zetaDelta only)

theorem rolls_execHandover {s₀ : State} {w : Nat} {t : Nat} : RollsNext (execHandover w t s₀) s₀ := by
  have h₀ : Rolls s₀ s₀ := Rolls.refl s₀
  unfold execHandover
  try extract_lets
  repeat' (first | with_reducible apply RollsNext.next | with_reducible apply RollsNext.fault | with_reducible apply RollsNext.ite | with_reducible assumption | with_reducible apply rolls_State_modWicket | with_reducible apply rolls_State_popP | with_reducible apply rolls_State_sendW | with_reducible apply rolls_retarget | (fail_if_no_progress with_reducible apply Rolls.upd) | with_reducible apply Rolls.ite | with_reducible apply Rolls.ite1 | (with_reducible apply Rolls.foldl; intro s₁ x₁; have h₁ : Rolls s₁ s₁ := Rolls.refl s₁; try dsimp +zetaDelta only) | (with_reducible apply Rolls.foldl1; intro s₁ x₁; have h₁ : Rolls s₁.1 s₁.1 := Rolls.refl s₁.1; try dsimp +zetaDelta only) | extract_lets | split | dsimp +zetaDelta only)

theorem rolls_execHandoverAck {s₀ : State} {t : Nat} {w : Nat} : RollsNext (execHandoverAck t w s₀) s₀ := by
  have h₀ : Rolls s₀ s₀ := Rolls.refl s₀
  unfold execHandoverAck
  try extract_lets
  repeat' (first | with_reducible apply RollsNext.next | with_reducible apply RollsNext.fault | with_reducible apply RollsNext.ite | with_reducible assumption | with_reducible apply rolls_State_modTill | with_reducible apply rolls_State_popW | with_reducible apply rolls_tryForcedEnd | with_reducible apply rolls_tryUngate | (fail_if_no_progress with_reducible apply Rolls.upd) | with_reducible apply Rolls.ite | with_reducible apply Rolls.ite1 | (with_reducible apply Rolls.foldl; intro s₁ x₁; have h₁ : Rolls s₁ s₁ := Rolls.refl s₁; try dsimp +zetaDelta only) | (with_reducible apply Rolls.foldl1; intro s₁ x₁; have h₁ : Rolls s₁.1 s₁.1 := Rolls.refl s₁.1; try dsimp +zetaDelta only) | extract_lets | split | dsimp +zetaDelta only)

theorem rolls_execHandoverSend {s₀ : State} {t : Nat} : RollsNext (execHandoverSend t s₀) s₀ := by
  have h₀ : Rolls s₀ s₀ := Rolls.refl s₀
  unfold execHandoverSend
  try extract_lets
  repeat' (first | with_reducible apply RollsNext.next | with_reducible apply RollsNext.fault | with_reducible apply RollsNext.ite | with_reducible assumption | with_reducible apply rolls_State_modXfer | with_reducible apply rolls_State_sendP | with_reducible apply rolls_clearMons | (fail_if_no_progress with_reducible apply Rolls.upd) | with_reducible apply Rolls.ite | with_reducible apply Rolls.ite1 | (with_reducible apply Rolls.foldl; intro s₁ x₁; have h₁ : Rolls s₁ s₁ := Rolls.refl s₁; try dsimp +zetaDelta only) | (with_reducible apply Rolls.foldl1; intro s₁ x₁; have h₁ : Rolls s₁.1 s₁.1 := Rolls.refl s₁.1; try dsimp +zetaDelta only) | extract_lets | split | dsimp +zetaDelta only)

theorem rolls_execHoldQuiesced {s₀ : State}  : RollsNext (execHoldQuiesced s₀) s₀ := by
  have h₀ : Rolls s₀ s₀ := Rolls.refl s₀
  unfold execHoldQuiesced
  try extract_lets
  repeat' (first | with_reducible apply RollsNext.next | with_reducible apply RollsNext.fault | with_reducible apply RollsNext.ite | with_reducible assumption | with_reducible apply rolls_askMargin | (fail_if_no_progress with_reducible apply Rolls.upd) | with_reducible apply Rolls.ite | with_reducible apply Rolls.ite1 | (with_reducible apply Rolls.foldl; intro s₁ x₁; have h₁ : Rolls s₁ s₁ := Rolls.refl s₁; try dsimp +zetaDelta only) | (with_reducible apply Rolls.foldl1; intro s₁ x₁; have h₁ : Rolls s₁.1 s₁.1 := Rolls.refl s₁.1; try dsimp +zetaDelta only) | extract_lets | split | dsimp +zetaDelta only)

theorem rolls_execJournalPointer {s₀ : State} {k : Nat} : RollsNext (execJournalPointer k s₀) s₀ := by
  have h₀ : Rolls s₀ s₀ := Rolls.refl s₀
  unfold execJournalPointer
  try extract_lets
  repeat' (first | with_reducible apply RollsNext.next | with_reducible apply RollsNext.fault | with_reducible apply RollsNext.ite | with_reducible assumption | with_reducible apply rolls_resetPointers | (fail_if_no_progress with_reducible apply Rolls.upd) | with_reducible apply Rolls.ite | with_reducible apply Rolls.ite1 | (with_reducible apply Rolls.foldl; intro s₁ x₁; have h₁ : Rolls s₁ s₁ := Rolls.refl s₁; try dsimp +zetaDelta only) | (with_reducible apply Rolls.foldl1; intro s₁ x₁; have h₁ : Rolls s₁.1 s₁.1 := Rolls.refl s₁.1; try dsimp +zetaDelta only) | extract_lets | split | dsimp +zetaDelta only)

theorem rolls_execJournalRecord {s₀ : State}  : RollsNext (execJournalRecord s₀) s₀ := by
  have h₀ : Rolls s₀ s₀ := Rolls.refl s₀
  unfold execJournalRecord
  try extract_lets
  repeat' (first | with_reducible apply RollsNext.next | with_reducible apply RollsNext.fault | with_reducible apply RollsNext.ite | with_reducible assumption | with_reducible apply rolls_takeRec | (fail_if_no_progress with_reducible apply Rolls.upd) | with_reducible apply Rolls.ite | with_reducible apply Rolls.ite1 | (with_reducible apply Rolls.foldl; intro s₁ x₁; have h₁ : Rolls s₁ s₁ := Rolls.refl s₁; try dsimp +zetaDelta only) | (with_reducible apply Rolls.foldl1; intro s₁ x₁; have h₁ : Rolls s₁.1 s₁.1 := Rolls.refl s₁.1; try dsimp +zetaDelta only) | extract_lets | split | dsimp +zetaDelta only)

theorem rolls_execKeyBlowDone {s₀ : State}  : RollsNext (execKeyBlowDone s₀) s₀ := by
  have h₀ : Rolls s₀ s₀ := Rolls.refl s₀
  unfold execKeyBlowDone
  try extract_lets
  repeat' (first | with_reducible apply RollsNext.next | with_reducible apply RollsNext.fault | with_reducible apply RollsNext.ite | with_reducible assumption | with_reducible apply rolls_closeWhere | (fail_if_no_progress with_reducible apply Rolls.upd) | with_reducible apply Rolls.ite | with_reducible apply Rolls.ite1 | (with_reducible apply Rolls.foldl; intro s₁ x₁; have h₁ : Rolls s₁ s₁ := Rolls.refl s₁; try dsimp +zetaDelta only) | (with_reducible apply Rolls.foldl1; intro s₁ x₁; have h₁ : Rolls s₁.1 s₁.1 := Rolls.refl s₁.1; try dsimp +zetaDelta only) | extract_lets | split | dsimp +zetaDelta only)

theorem rolls_execLeaseExpiry {s₀ : State} {t : Nat} {i : Nat} : RollsNext (execLeaseExpiry t i s₀) s₀ := by
  have h₀ : Rolls s₀ s₀ := Rolls.refl s₀
  unfold execLeaseExpiry
  try extract_lets
  repeat' (first | with_reducible apply RollsNext.next | with_reducible apply RollsNext.fault | with_reducible apply RollsNext.ite | with_reducible assumption | with_reducible apply rolls_expire | with_reducible apply rolls_worked | (fail_if_no_progress with_reducible apply Rolls.upd) | with_reducible apply Rolls.ite | with_reducible apply Rolls.ite1 | (with_reducible apply Rolls.foldl; intro s₁ x₁; have h₁ : Rolls s₁ s₁ := Rolls.refl s₁; try dsimp +zetaDelta only) | (with_reducible apply Rolls.foldl1; intro s₁ x₁; have h₁ : Rolls s₁.1 s₁.1 := Rolls.refl s₁.1; try dsimp +zetaDelta only) | extract_lets | split | dsimp +zetaDelta only)

theorem rolls_execLeaveWalk {s₀ : State} {t : Nat} {pos : Sys2Proof.WalkAt} : RollsNext (execLeaveWalk t pos s₀) s₀ := by
  have h₀ : Rolls s₀ s₀ := Rolls.refl s₀
  unfold execLeaveWalk
  try extract_lets
  repeat' (first | with_reducible apply RollsNext.next | with_reducible apply RollsNext.fault | with_reducible apply RollsNext.ite | with_reducible assumption | with_reducible apply rolls_settleFails | with_reducible apply rolls_walkVisit | (fail_if_no_progress with_reducible apply Rolls.upd) | with_reducible apply Rolls.ite | with_reducible apply Rolls.ite1 | (with_reducible apply Rolls.foldl; intro s₁ x₁; have h₁ : Rolls s₁ s₁ := Rolls.refl s₁; try dsimp +zetaDelta only) | (with_reducible apply Rolls.foldl1; intro s₁ x₁; have h₁ : Rolls s₁.1 s₁.1 := Rolls.refl s₁.1; try dsimp +zetaDelta only) | extract_lets | split | dsimp +zetaDelta only)

theorem rolls_execLifecycleChanged {s₀ : State}  : RollsNext (execLifecycleChanged s₀) s₀ := by
  have h₀ : Rolls s₀ s₀ := Rolls.refl s₀
  unfold execLifecycleChanged
  try extract_lets
  repeat' (first | with_reducible apply RollsNext.next | with_reducible apply RollsNext.fault | with_reducible apply RollsNext.ite | with_reducible assumption | with_reducible apply rolls_State_note | with_reducible apply rolls_closeWhere | with_reducible apply rolls_levelOff | (fail_if_no_progress with_reducible apply Rolls.upd) | with_reducible apply Rolls.ite | with_reducible apply Rolls.ite1 | (with_reducible apply Rolls.foldl; intro s₁ x₁; have h₁ : Rolls s₁ s₁ := Rolls.refl s₁; try dsimp +zetaDelta only) | (with_reducible apply Rolls.foldl1; intro s₁ x₁; have h₁ : Rolls s₁.1 s₁.1 := Rolls.refl s₁.1; try dsimp +zetaDelta only) | extract_lets | split | dsimp +zetaDelta only)

theorem rolls_execLinkFlitError {s₀ : State} {l : Nat} {half : Nat} {e : Sys2Proof.LinkEvent} : RollsNext (execLinkFlitError l half e s₀) s₀ := by
  have h₀ : Rolls s₀ s₀ := Rolls.refl s₀
  unfold execLinkFlitError
  try extract_lets
  repeat' (first | with_reducible apply RollsNext.next | with_reducible apply RollsNext.fault | with_reducible apply RollsNext.ite | with_reducible assumption | with_reducible apply rolls_linkError | (fail_if_no_progress with_reducible apply Rolls.upd) | with_reducible apply Rolls.ite | with_reducible apply Rolls.ite1 | (with_reducible apply Rolls.foldl; intro s₁ x₁; have h₁ : Rolls s₁ s₁ := Rolls.refl s₁; try dsimp +zetaDelta only) | (with_reducible apply Rolls.foldl1; intro s₁ x₁; have h₁ : Rolls s₁.1 s₁.1 := Rolls.refl s₁.1; try dsimp +zetaDelta only) | extract_lets | split | dsimp +zetaDelta only)

theorem rolls_execLoanGrant {s₀ : State} {w : Nat} {t : Nat} : RollsNext (execLoanGrant w t s₀) s₀ := by
  have h₀ : Rolls s₀ s₀ := Rolls.refl s₀
  unfold execLoanGrant
  try extract_lets
  repeat' (first | with_reducible apply RollsNext.next | with_reducible apply RollsNext.fault | with_reducible apply RollsNext.ite | with_reducible assumption | with_reducible apply rolls_State_modWicket | with_reducible apply rolls_State_popP | (fail_if_no_progress with_reducible apply Rolls.upd) | with_reducible apply Rolls.ite | with_reducible apply Rolls.ite1 | (with_reducible apply Rolls.foldl; intro s₁ x₁; have h₁ : Rolls s₁ s₁ := Rolls.refl s₁; try dsimp +zetaDelta only) | (with_reducible apply Rolls.foldl1; intro s₁ x₁; have h₁ : Rolls s₁.1 s₁.1 := Rolls.refl s₁.1; try dsimp +zetaDelta only) | extract_lets | split | dsimp +zetaDelta only)

theorem rolls_execLoanIdle {s₀ : State} {w : Nat} {t : Nat} : RollsNext (execLoanIdle w t s₀) s₀ := by
  have h₀ : Rolls s₀ s₀ := Rolls.refl s₀
  unfold execLoanIdle
  try extract_lets
  repeat' (first | with_reducible apply RollsNext.next | with_reducible apply RollsNext.fault | with_reducible apply RollsNext.ite | with_reducible assumption | with_reducible apply rolls_returnLoan | with_reducible apply rolls_serveLoans | (fail_if_no_progress with_reducible apply Rolls.upd) | with_reducible apply Rolls.ite | with_reducible apply Rolls.ite1 | (with_reducible apply Rolls.foldl; intro s₁ x₁; have h₁ : Rolls s₁ s₁ := Rolls.refl s₁; try dsimp +zetaDelta only) | (with_reducible apply Rolls.foldl1; intro s₁ x₁; have h₁ : Rolls s₁.1 s₁.1 := Rolls.refl s₁.1; try dsimp +zetaDelta only) | extract_lets | split | dsimp +zetaDelta only)

theorem rolls_execLoanRequest {s₀ : State} {t : Nat} {w : Nat} : RollsNext (execLoanRequest t w s₀) s₀ := by
  have h₀ : Rolls s₀ s₀ := Rolls.refl s₀
  unfold execLoanRequest
  try extract_lets
  repeat' (first | with_reducible apply RollsNext.next | with_reducible apply RollsNext.fault | with_reducible apply RollsNext.ite | with_reducible assumption | with_reducible apply rolls_State_modTill | with_reducible apply rolls_State_popW | with_reducible apply rolls_serveLoans | with_reducible apply rolls_worked | (fail_if_no_progress with_reducible apply Rolls.upd) | with_reducible apply Rolls.ite | with_reducible apply Rolls.ite1 | (with_reducible apply Rolls.foldl; intro s₁ x₁; have h₁ : Rolls s₁ s₁ := Rolls.refl s₁; try dsimp +zetaDelta only) | (with_reducible apply Rolls.foldl1; intro s₁ x₁; have h₁ : Rolls s₁.1 s₁.1 := Rolls.refl s₁.1; try dsimp +zetaDelta only) | extract_lets | split | dsimp +zetaDelta only)

theorem rolls_execMarginTimeout {s₀ : State}  : RollsNext (execMarginTimeout s₀) s₀ := by
  have h₀ : Rolls s₀ s₀ := Rolls.refl s₀
  unfold execMarginTimeout
  try extract_lets
  repeat' (first | with_reducible apply RollsNext.next | with_reducible apply RollsNext.fault | with_reducible apply RollsNext.ite | with_reducible assumption | with_reducible apply rolls_State_bump | with_reducible apply rolls_State_note | with_reducible apply rolls_askMargin | (fail_if_no_progress with_reducible apply Rolls.upd) | with_reducible apply Rolls.ite | with_reducible apply Rolls.ite1 | (with_reducible apply Rolls.foldl; intro s₁ x₁; have h₁ : Rolls s₁ s₁ := Rolls.refl s₁; try dsimp +zetaDelta only) | (with_reducible apply Rolls.foldl1; intro s₁ x₁; have h₁ : Rolls s₁.1 s₁.1 := Rolls.refl s₁.1; try dsimp +zetaDelta only) | extract_lets | split | dsimp +zetaDelta only)

theorem rolls_execMcmp {s₀ : State} {m : Nat} {lost : Bool} {mop : Sys2Proof.Mop} {t : Nat} {f : Nat} : RollsNext (execMcmp m lost mop t f s₀) s₀ := by
  have h₀ : Rolls s₀ s₀ := Rolls.refl s₀
  unfold execMcmp
  try extract_lets
  repeat' (first | with_reducible apply RollsNext.next | with_reducible apply RollsNext.fault | with_reducible apply RollsNext.ite | with_reducible assumption | (intro s₂; have h₂ : Rolls s₂ s₂ := Rolls.refl s₂; try dsimp +zetaDelta only) | with_reducible apply rolls_State_packet | with_reducible apply rolls_atTill | with_reducible apply rolls_writeAnswer | (fail_if_no_progress with_reducible apply Rolls.upd) | with_reducible apply Rolls.ite | with_reducible apply Rolls.ite1 | (with_reducible apply Rolls.foldl; intro s₁ x₁; have h₁ : Rolls s₁ s₁ := Rolls.refl s₁; try dsimp +zetaDelta only) | (with_reducible apply Rolls.foldl1; intro s₁ x₁; have h₁ : Rolls s₁.1 s₁.1 := Rolls.refl s₁.1; try dsimp +zetaDelta only) | extract_lets | split | dsimp +zetaDelta only)

theorem rolls_execMcred {s₀ : State} {m : Nat} {t : Nat} {dataKind : Bool} {count : Nat} : RollsNext (execMcred m t dataKind count s₀) s₀ := by
  have h₀ : Rolls s₀ s₀ := Rolls.refl s₀
  unfold execMcred
  try extract_lets
  repeat' (first | with_reducible apply RollsNext.next | with_reducible apply RollsNext.fault | with_reducible apply RollsNext.ite | with_reducible assumption | with_reducible apply rolls_State_packet | with_reducible apply rolls_credReturn | with_reducible apply rolls_worked | (fail_if_no_progress with_reducible apply Rolls.upd) | with_reducible apply Rolls.ite | with_reducible apply Rolls.ite1 | (with_reducible apply Rolls.foldl; intro s₁ x₁; have h₁ : Rolls s₁ s₁ := Rolls.refl s₁; try dsimp +zetaDelta only) | (with_reducible apply Rolls.foldl1; intro s₁ x₁; have h₁ : Rolls s₁.1 s₁.1 := Rolls.refl s₁.1; try dsimp +zetaDelta only) | extract_lets | split | dsimp +zetaDelta only)

theorem rolls_execMemReadTimeout {s₀ : State} {m : Nat} {t : Nat} {f : Nat} {line : Nat} : RollsNext (execMemReadTimeout m t f line s₀) s₀ := by
  have h₀ : Rolls s₀ s₀ := Rolls.refl s₀
  unfold execMemReadTimeout
  try extract_lets
  repeat' (first | with_reducible apply RollsNext.next | with_reducible apply RollsNext.fault | with_reducible apply RollsNext.ite | with_reducible assumption | with_reducible apply rolls_State_bump | with_reducible apply rolls_State_freeUsed | with_reducible apply rolls_takeRead | with_reducible apply rolls_worked | (fail_if_no_progress with_reducible apply Rolls.upd) | with_reducible apply Rolls.ite | with_reducible apply Rolls.ite1 | (with_reducible apply Rolls.foldl; intro s₁ x₁; have h₁ : Rolls s₁ s₁ := Rolls.refl s₁; try dsimp +zetaDelta only) | (with_reducible apply Rolls.foldl1; intro s₁ x₁; have h₁ : Rolls s₁.1 s₁.1 := Rolls.refl s₁.1; try dsimp +zetaDelta only) | extract_lets | split | dsimp +zetaDelta only)

theorem rolls_execMemWriteTimeout {s₀ : State} {m : Nat} {t : Nat} {f : Nat} {mop : Sys2Proof.Mop} : RollsNext (execMemWriteTimeout m t f mop s₀) s₀ := by
  have h₀ : Rolls s₀ s₀ := Rolls.refl s₀
  unfold execMemWriteTimeout
  try extract_lets
  repeat' (first | with_reducible apply RollsNext.next | with_reducible apply RollsNext.fault | with_reducible apply RollsNext.ite | with_reducible assumption | with_reducible apply rolls_State_bump | with_reducible apply rolls_worked | with_reducible apply rolls_writeAnswer | (fail_if_no_progress with_reducible apply Rolls.upd) | with_reducible apply Rolls.ite | with_reducible apply Rolls.ite1 | (with_reducible apply Rolls.foldl; intro s₁ x₁; have h₁ : Rolls s₁ s₁ := Rolls.refl s₁; try dsimp +zetaDelta only) | (with_reducible apply Rolls.foldl1; intro s₁ x₁; have h₁ : Rolls s₁.1 s₁.1 := Rolls.refl s₁.1; try dsimp +zetaDelta only) | extract_lets | split | dsimp +zetaDelta only)

theorem rolls_execMrdata {s₀ : State} {m : Nat} {t : Nat} {f : Nat} {line : Nat} {cancelled : Bool} {error : Bool} {poison : Bool} {writtenOff : Bool} {cellared : Bool} {data : Sys2Proof.LineData} {u : Sys2Proof.Upset} : RollsNext (execMrdata m t f line cancelled error poison writtenOff cellared data u s₀) s₀ := by
  have h₀ : Rolls s₀ s₀ := Rolls.refl s₀
  unfold execMrdata
  try extract_lets
  repeat' (first | with_reducible apply RollsNext.next | with_reducible apply RollsNext.fault | with_reducible apply RollsNext.ite | with_reducible assumption | (intro s₂; have h₂ : Rolls s₂ s₂ := Rolls.refl s₂; try dsimp +zetaDelta only) | with_reducible apply rolls_State_packet | with_reducible apply rolls_atTill | with_reducible apply rolls_readArrives | (fail_if_no_progress with_reducible apply Rolls.upd) | with_reducible apply Rolls.ite | with_reducible apply Rolls.ite1 | (with_reducible apply Rolls.foldl; intro s₁ x₁; have h₁ : Rolls s₁ s₁ := Rolls.refl s₁; try dsimp +zetaDelta only) | (with_reducible apply Rolls.foldl1; intro s₁ x₁; have h₁ : Rolls s₁.1 s₁.1 := Rolls.refl s₁.1; try dsimp +zetaDelta only) | extract_lets | split | dsimp +zetaDelta only)

theorem rolls_execNcwFull {s₀ : State} {w : Nat} {q : Sys2Proof.Req} : RollsNext (execNcwFull w q s₀) s₀ := by
  have h₀ : Rolls s₀ s₀ := Rolls.refl s₀
  unfold execNcwFull
  try extract_lets
  repeat' (first | with_reducible apply RollsNext.next | with_reducible apply RollsNext.fault | with_reducible apply RollsNext.ite | with_reducible assumption | with_reducible apply rolls_requestCmd | with_reducible apply rolls_requestCmd | (fail_if_no_progress with_reducible apply Rolls.upd) | with_reducible apply Rolls.ite | with_reducible apply Rolls.ite1 | (with_reducible apply Rolls.foldl; intro s₁ x₁; have h₁ : Rolls s₁ s₁ := Rolls.refl s₁; try dsimp +zetaDelta only) | (with_reducible apply Rolls.foldl1; intro s₁ x₁; have h₁ : Rolls s₁.1 s₁.1 := Rolls.refl s₁.1; try dsimp +zetaDelta only) | extract_lets | split | dsimp +zetaDelta only)

theorem rolls_execNcwPtl {s₀ : State} {w : Nat} {q : Sys2Proof.Req} : RollsNext (execNcwPtl w q s₀) s₀ := by
  have h₀ : Rolls s₀ s₀ := Rolls.refl s₀
  unfold execNcwPtl
  try extract_lets
  repeat' (first | with_reducible apply RollsNext.next | with_reducible apply RollsNext.fault | with_reducible apply RollsNext.ite | with_reducible assumption | with_reducible apply rolls_requestCmd | with_reducible apply rolls_requestCmd | (fail_if_no_progress with_reducible apply Rolls.upd) | with_reducible apply Rolls.ite | with_reducible apply Rolls.ite1 | (with_reducible apply Rolls.foldl; intro s₁ x₁; have h₁ : Rolls s₁ s₁ := Rolls.refl s₁; try dsimp +zetaDelta only) | (with_reducible apply Rolls.foldl1; intro s₁ x₁; have h₁ : Rolls s₁.1 s₁.1 := Rolls.refl s₁.1; try dsimp +zetaDelta only) | extract_lets | split | dsimp +zetaDelta only)

theorem rolls_execOwn {s₀ : State} {w : Nat} {q : Sys2Proof.Req} : RollsNext (execOwn w q s₀) s₀ := by
  have h₀ : Rolls s₀ s₀ := Rolls.refl s₀
  unfold execOwn
  try extract_lets
  repeat' (first | with_reducible apply RollsNext.next | with_reducible apply RollsNext.fault | with_reducible apply RollsNext.ite | with_reducible assumption | with_reducible apply rolls_requestCmd | with_reducible apply rolls_requestCmd | (fail_if_no_progress with_reducible apply Rolls.upd) | with_reducible apply Rolls.ite | with_reducible apply Rolls.ite1 | (with_reducible apply Rolls.foldl; intro s₁ x₁; have h₁ : Rolls s₁ s₁ := Rolls.refl s₁; try dsimp +zetaDelta only) | (with_reducible apply Rolls.foldl1; intro s₁ x₁; have h₁ : Rolls s₁.1 s₁.1 := Rolls.refl s₁.1; try dsimp +zetaDelta only) | extract_lets | split | dsimp +zetaDelta only)

theorem rolls_execPostDrainDelay {s₀ : State} {e : Nat} : RollsNext (execPostDrainDelay e s₀) s₀ := by
  have h₀ : Rolls s₀ s₀ := Rolls.refl s₀
  unfold execPostDrainDelay
  try extract_lets
  repeat' (first | with_reducible apply RollsNext.next | with_reducible apply RollsNext.fault | with_reducible apply RollsNext.ite | with_reducible assumption | with_reducible apply rolls_drainPost | (fail_if_no_progress with_reducible apply Rolls.upd) | with_reducible apply Rolls.ite | with_reducible apply Rolls.ite1 | (with_reducible apply Rolls.foldl; intro s₁ x₁; have h₁ : Rolls s₁ s₁ := Rolls.refl s₁; try dsimp +zetaDelta only) | (with_reducible apply Rolls.foldl1; intro s₁ x₁; have h₁ : Rolls s₁.1 s₁.1 := Rolls.refl s₁.1; try dsimp +zetaDelta only) | extract_lets | split | dsimp +zetaDelta only)

theorem rolls_execPreloadSector {s₀ : State} {t : Nat} {sec : BitVec 36} : RollsNext (execPreloadSector t sec s₀) s₀ := by
  have h₀ : Rolls s₀ s₀ := Rolls.refl s₀
  unfold execPreloadSector
  try extract_lets
  repeat' (first | with_reducible apply RollsNext.next | with_reducible apply RollsNext.fault | with_reducible apply RollsNext.ite | with_reducible assumption | with_reducible apply rolls_preloadSector | with_reducible apply rolls_settleFails | (fail_if_no_progress with_reducible apply Rolls.upd) | with_reducible apply Rolls.ite | with_reducible apply Rolls.ite1 | (with_reducible apply Rolls.foldl; intro s₁ x₁; have h₁ : Rolls s₁ s₁ := Rolls.refl s₁; try dsimp +zetaDelta only) | (with_reducible apply Rolls.foldl1; intro s₁ x₁; have h₁ : Rolls s₁.1 s₁.1 := Rolls.refl s₁.1; try dsimp +zetaDelta only) | extract_lets | split | dsimp +zetaDelta only)

theorem rolls_execProveWindow {s₀ : State} {k : Nat} : RollsNext (execProveWindow k s₀) s₀ := by
  have h₀ : Rolls s₀ s₀ := Rolls.refl s₀
  unfold execProveWindow
  try extract_lets
  repeat' (first | with_reducible apply RollsNext.next | with_reducible apply RollsNext.fault | with_reducible apply RollsNext.ite | with_reducible assumption | with_reducible apply rolls_State_modSession | (fail_if_no_progress with_reducible apply Rolls.upd) | with_reducible apply Rolls.ite | with_reducible apply Rolls.ite1 | (with_reducible apply Rolls.foldl; intro s₁ x₁; have h₁ : Rolls s₁ s₁ := Rolls.refl s₁; try dsimp +zetaDelta only) | (with_reducible apply Rolls.foldl1; intro s₁ x₁; have h₁ : Rolls s₁.1 s₁.1 := Rolls.refl s₁.1; try dsimp +zetaDelta only) | extract_lets | split | dsimp +zetaDelta only)

theorem rolls_execPwrFailWarnRise {s₀ : State}  : RollsNext (execPwrFailWarnRise s₀) s₀ := by
  have h₀ : Rolls s₀ s₀ := Rolls.refl s₀
  unfold execPwrFailWarnRise
  try extract_lets
  repeat' (first | with_reducible apply RollsNext.next | with_reducible apply RollsNext.fault | with_reducible apply RollsNext.ite | with_reducible assumption | with_reducible apply rolls_State_bump | with_reducible apply rolls_setQuiesce | (fail_if_no_progress with_reducible apply Rolls.upd) | with_reducible apply Rolls.ite | with_reducible apply Rolls.ite1 | (with_reducible apply Rolls.foldl; intro s₁ x₁; have h₁ : Rolls s₁ s₁ := Rolls.refl s₁; try dsimp +zetaDelta only) | (with_reducible apply Rolls.foldl1; intro s₁ x₁; have h₁ : Rolls s₁.1 s₁.1 := Rolls.refl s₁.1; try dsimp +zetaDelta only) | extract_lets | split | dsimp +zetaDelta only)

theorem rolls_execQFlitAccepted {s₀ : State} {t : Nat} {w : Nat} : RollsNext (execQFlitAccepted t w s₀) s₀ := by
  have h₀ : Rolls s₀ s₀ := Rolls.refl s₀
  unfold execQFlitAccepted
  try extract_lets
  repeat' (first | with_reducible apply RollsNext.next | with_reducible apply RollsNext.fault | with_reducible apply RollsNext.ite | with_reducible assumption | with_reducible apply rolls_accept | with_reducible apply rolls_worked | (fail_if_no_progress with_reducible apply Rolls.upd) | with_reducible apply Rolls.ite | with_reducible apply Rolls.ite1 | (with_reducible apply Rolls.foldl; intro s₁ x₁; have h₁ : Rolls s₁ s₁ := Rolls.refl s₁; try dsimp +zetaDelta only) | (with_reducible apply Rolls.foldl1; intro s₁ x₁; have h₁ : Rolls s₁.1 s₁.1 := Rolls.refl s₁.1; try dsimp +zetaDelta only) | extract_lets | split | dsimp +zetaDelta only)

theorem rolls_execQuickCheck {s₀ : State} {m : Sys2Proof.Measure} : RollsNext (execQuickCheck m s₀) s₀ := by
  have h₀ : Rolls s₀ s₀ := Rolls.refl s₀
  unfold execQuickCheck
  try extract_lets
  repeat' (first | with_reducible apply RollsNext.next | with_reducible apply RollsNext.fault | with_reducible apply RollsNext.ite | with_reducible assumption | with_reducible apply rolls_check | (fail_if_no_progress with_reducible apply Rolls.upd) | with_reducible apply Rolls.ite | with_reducible apply Rolls.ite1 | (with_reducible apply Rolls.foldl; intro s₁ x₁; have h₁ : Rolls s₁ s₁ := Rolls.refl s₁; try dsimp +zetaDelta only) | (with_reducible apply Rolls.foldl1; intro s₁ x₁; have h₁ : Rolls s₁.1 s₁.1 := Rolls.refl s₁.1; try dsimp +zetaDelta only) | extract_lets | split | dsimp +zetaDelta only)

theorem rolls_execQuiesced {s₀ : State}  : RollsNext (execQuiesced s₀) s₀ := by
  have h₀ : Rolls s₀ s₀ := Rolls.refl s₀
  unfold execQuiesced
  try extract_lets
  repeat' (first | with_reducible apply RollsNext.next | with_reducible apply RollsNext.fault | with_reducible apply RollsNext.ite | with_reducible assumption | with_reducible apply rolls_setQuiesce | (fail_if_no_progress with_reducible apply Rolls.upd) | with_reducible apply Rolls.ite | with_reducible apply Rolls.ite1 | (with_reducible apply Rolls.foldl; intro s₁ x₁; have h₁ : Rolls s₁ s₁ := Rolls.refl s₁; try dsimp +zetaDelta only) | (with_reducible apply Rolls.foldl1; intro s₁ x₁; have h₁ : Rolls s₁.1 s₁.1 := Rolls.refl s₁.1; try dsimp +zetaDelta only) | extract_lets | split | dsimp +zetaDelta only)

theorem rolls_execRdAny {s₀ : State} {w : Nat} {q : Sys2Proof.Req} : RollsNext (execRdAny w q s₀) s₀ := by
  have h₀ : Rolls s₀ s₀ := Rolls.refl s₀
  unfold execRdAny
  try extract_lets
  repeat' (first | with_reducible apply RollsNext.next | with_reducible apply RollsNext.fault | with_reducible apply RollsNext.ite | with_reducible assumption | with_reducible apply rolls_requestCmd | with_reducible apply rolls_requestCmd | (fail_if_no_progress with_reducible apply Rolls.upd) | with_reducible apply Rolls.ite | with_reducible apply Rolls.ite1 | (with_reducible apply Rolls.foldl; intro s₁ x₁; have h₁ : Rolls s₁ s₁ := Rolls.refl s₁; try dsimp +zetaDelta only) | (with_reducible apply Rolls.foldl1; intro s₁ x₁; have h₁ : Rolls s₁.1 s₁.1 := Rolls.refl s₁.1; try dsimp +zetaDelta only) | extract_lets | split | dsimp +zetaDelta only)

theorem rolls_execRdNc {s₀ : State} {w : Nat} {q : Sys2Proof.Req} : RollsNext (execRdNc w q s₀) s₀ := by
  have h₀ : Rolls s₀ s₀ := Rolls.refl s₀
  unfold execRdNc
  try extract_lets
  repeat' (first | with_reducible apply RollsNext.next | with_reducible apply RollsNext.fault | with_reducible apply RollsNext.ite | with_reducible assumption | with_reducible apply rolls_requestCmd | with_reducible apply rolls_requestCmd | (fail_if_no_progress with_reducible apply Rolls.upd) | with_reducible apply Rolls.ite | with_reducible apply Rolls.ite1 | (with_reducible apply Rolls.foldl; intro s₁ x₁; have h₁ : Rolls s₁ s₁ := Rolls.refl s₁; try dsimp +zetaDelta only) | (with_reducible apply Rolls.foldl1; intro s₁ x₁; have h₁ : Rolls s₁.1 s₁.1 := Rolls.refl s₁.1; try dsimp +zetaDelta only) | extract_lets | split | dsimp +zetaDelta only)

theorem rolls_execRdS {s₀ : State} {w : Nat} {q : Sys2Proof.Req} : RollsNext (execRdS w q s₀) s₀ := by
  have h₀ : Rolls s₀ s₀ := Rolls.refl s₀
  unfold execRdS
  try extract_lets
  repeat' (first | with_reducible apply RollsNext.next | with_reducible apply RollsNext.fault | with_reducible apply RollsNext.ite | with_reducible assumption | with_reducible apply rolls_requestCmd | with_reducible apply rolls_requestCmd | (fail_if_no_progress with_reducible apply Rolls.upd) | with_reducible apply Rolls.ite | with_reducible apply Rolls.ite1 | (with_reducible apply Rolls.foldl; intro s₁ x₁; have h₁ : Rolls s₁ s₁ := Rolls.refl s₁; try dsimp +zetaDelta only) | (with_reducible apply Rolls.foldl1; intro s₁ x₁; have h₁ : Rolls s₁.1 s₁.1 := Rolls.refl s₁.1; try dsimp +zetaDelta only) | extract_lets | split | dsimp +zetaDelta only)

theorem rolls_execRdX {s₀ : State} {w : Nat} {q : Sys2Proof.Req} : RollsNext (execRdX w q s₀) s₀ := by
  have h₀ : Rolls s₀ s₀ := Rolls.refl s₀
  unfold execRdX
  try extract_lets
  repeat' (first | with_reducible apply RollsNext.next | with_reducible apply RollsNext.fault | with_reducible apply RollsNext.ite | with_reducible assumption | with_reducible apply rolls_requestCmd | with_reducible apply rolls_requestCmd | (fail_if_no_progress with_reducible apply Rolls.upd) | with_reducible apply Rolls.ite | with_reducible apply Rolls.ite1 | (with_reducible apply Rolls.foldl; intro s₁ x₁; have h₁ : Rolls s₁ s₁ := Rolls.refl s₁; try dsimp +zetaDelta only) | (with_reducible apply Rolls.foldl1; intro s₁ x₁; have h₁ : Rolls s₁.1 s₁.1 := Rolls.refl s₁.1; try dsimp +zetaDelta only) | extract_lets | split | dsimp +zetaDelta only)

theorem rolls_execRebuildStep {s₀ : State} {t : Nat} {b : Nat} : RollsNext (execRebuildStep t b s₀) s₀ := by
  have h₀ : Rolls s₀ s₀ := Rolls.refl s₀
  unfold execRebuildStep
  try extract_lets
  repeat' (first | with_reducible apply RollsNext.next | with_reducible apply RollsNext.fault | with_reducible apply RollsNext.ite | with_reducible assumption | with_reducible apply rolls_rebuildStep | (fail_if_no_progress with_reducible apply Rolls.upd) | with_reducible apply Rolls.ite | with_reducible apply Rolls.ite1 | (with_reducible apply Rolls.foldl; intro s₁ x₁; have h₁ : Rolls s₁ s₁ := Rolls.refl s₁; try dsimp +zetaDelta only) | (with_reducible apply Rolls.foldl1; intro s₁ x₁; have h₁ : Rolls s₁.1 s₁.1 := Rolls.refl s₁.1; try dsimp +zetaDelta only) | extract_lets | split | dsimp +zetaDelta only)

theorem rolls_execReceiptTimeout {s₀ : State} {t : Nat} {f : Nat} : RollsNext (execReceiptTimeout t f s₀) s₀ := by
  have h₀ : Rolls s₀ s₀ := Rolls.refl s₀
  unfold execReceiptTimeout
  try extract_lets
  repeat' (first | with_reducible apply RollsNext.next | with_reducible apply RollsNext.fault | with_reducible apply RollsNext.ite | with_reducible assumption | with_reducible apply rolls_State_bump | with_reducible apply rolls_State_modFolio | with_reducible apply rolls_State_modTill | with_reducible apply rolls_State_note | with_reducible apply rolls_retire | with_reducible apply rolls_retryHeld | with_reducible apply rolls_worked | (fail_if_no_progress with_reducible apply Rolls.upd) | with_reducible apply Rolls.ite | with_reducible apply Rolls.ite1 | (with_reducible apply Rolls.foldl; intro s₁ x₁; have h₁ : Rolls s₁ s₁ := Rolls.refl s₁; try dsimp +zetaDelta only) | (with_reducible apply Rolls.foldl1; intro s₁ x₁; have h₁ : Rolls s₁.1 s₁.1 := Rolls.refl s₁.1; try dsimp +zetaDelta only) | extract_lets | split | dsimp +zetaDelta only)

theorem rolls_execRegionTableSwitch {s₀ : State} {n : Nat} : RollsNext (execRegionTableSwitch n s₀) s₀ := by
  have h₀ : Rolls s₀ s₀ := Rolls.refl s₀
  unfold execRegionTableSwitch
  try extract_lets
  repeat' (first | with_reducible apply RollsNext.next | with_reducible apply RollsNext.fault | with_reducible apply RollsNext.ite | with_reducible assumption | with_reducible apply rolls_regionSwitch | (fail_if_no_progress with_reducible apply Rolls.upd) | with_reducible apply Rolls.ite | with_reducible apply Rolls.ite1 | (with_reducible apply Rolls.foldl; intro s₁ x₁; have h₁ : Rolls s₁ s₁ := Rolls.refl s₁; try dsimp +zetaDelta only) | (with_reducible apply Rolls.foldl1; intro s₁ x₁; have h₁ : Rolls s₁.1 s₁.1 := Rolls.refl s₁.1; try dsimp +zetaDelta only) | extract_lets | split | dsimp +zetaDelta only)

theorem rolls_execRelease {s₀ : State} {w : Nat} {q : Sys2Proof.Req} : RollsNext (execRelease w q s₀) s₀ := by
  have h₀ : Rolls s₀ s₀ := Rolls.refl s₀
  unfold execRelease
  try extract_lets
  repeat' (first | with_reducible apply RollsNext.next | with_reducible apply RollsNext.fault | with_reducible apply RollsNext.ite | with_reducible assumption | with_reducible apply rolls_requestCmd | with_reducible apply rolls_requestCmd | (fail_if_no_progress with_reducible apply Rolls.upd) | with_reducible apply Rolls.ite | with_reducible apply Rolls.ite1 | (with_reducible apply Rolls.foldl; intro s₁ x₁; have h₁ : Rolls s₁ s₁ := Rolls.refl s₁; try dsimp +zetaDelta only) | (with_reducible apply Rolls.foldl1; intro s₁ x₁; have h₁ : Rolls s₁.1 s₁.1 := Rolls.refl s₁.1; try dsimp +zetaDelta only) | extract_lets | split | dsimp +zetaDelta only)

theorem rolls_execRequestInjection {s₀ : State} {w : Nat} {dt : Nat} : RollsNext (execRequestInjection w dt s₀) s₀ := by
  have h₀ : Rolls s₀ s₀ := Rolls.refl s₀
  unfold execRequestInjection
  try extract_lets
  repeat' (first | with_reducible apply RollsNext.next | with_reducible apply RollsNext.fault | with_reducible apply RollsNext.ite | with_reducible assumption | with_reducible apply rolls_advance | with_reducible apply rolls_portDecides | (fail_if_no_progress with_reducible apply Rolls.upd) | with_reducible apply Rolls.ite | with_reducible apply Rolls.ite1 | (with_reducible apply Rolls.foldl; intro s₁ x₁; have h₁ : Rolls s₁ s₁ := Rolls.refl s₁; try dsimp +zetaDelta only) | (with_reducible apply Rolls.foldl1; intro s₁ x₁; have h₁ : Rolls s₁.1 s₁.1 := Rolls.refl s₁.1; try dsimp +zetaDelta only) | extract_lets | split | dsimp +zetaDelta only)

theorem rolls_execResolutionWalk {s₀ : State} {t : Nat} {i : Nat} : RollsNext (execResolutionWalk t i s₀) s₀ := by
  have h₀ : Rolls s₀ s₀ := Rolls.refl s₀
  unfold execResolutionWalk
  try extract_lets
  repeat' (first | with_reducible apply RollsNext.next | with_reducible apply RollsNext.fault | with_reducible apply RollsNext.ite | with_reducible assumption | with_reducible apply rolls_resolveStep | with_reducible apply rolls_worked | (fail_if_no_progress with_reducible apply Rolls.upd) | with_reducible apply Rolls.ite | with_reducible apply Rolls.ite1 | (with_reducible apply Rolls.foldl; intro s₁ x₁; have h₁ : Rolls s₁ s₁ := Rolls.refl s₁; try dsimp +zetaDelta only) | (with_reducible apply Rolls.foldl1; intro s₁ x₁; have h₁ : Rolls s₁.1 s₁.1 := Rolls.refl s₁.1; try dsimp +zetaDelta only) | extract_lets | split | dsimp +zetaDelta only)

theorem rolls_execRetentiveCleanWalk {s₀ : State} {t : Nat} {pos : Sys2Proof.WalkAt} : RollsNext (execRetentiveCleanWalk t pos s₀) s₀ := by
  have h₀ : Rolls s₀ s₀ := Rolls.refl s₀
  unfold execRetentiveCleanWalk
  try extract_lets
  repeat' (first | with_reducible apply RollsNext.next | with_reducible apply RollsNext.fault | with_reducible apply RollsNext.ite | with_reducible assumption | with_reducible apply rolls_cleanVisit | with_reducible apply rolls_settleFails | (fail_if_no_progress with_reducible apply Rolls.upd) | with_reducible apply Rolls.ite | with_reducible apply Rolls.ite1 | (with_reducible apply Rolls.foldl; intro s₁ x₁; have h₁ : Rolls s₁ s₁ := Rolls.refl s₁; try dsimp +zetaDelta only) | (with_reducible apply Rolls.foldl1; intro s₁ x₁; have h₁ : Rolls s₁.1 s₁.1 := Rolls.refl s₁.1; try dsimp +zetaDelta only) | extract_lets | split | dsimp +zetaDelta only)

theorem rolls_execRetireRow {s₀ : State} {t : Nat} {bank : Nat} {row : Nat} : RollsNext (execRetireRow t bank row s₀) s₀ := by
  have h₀ : Rolls s₀ s₀ := Rolls.refl s₀
  unfold execRetireRow
  try extract_lets
  repeat' (first | with_reducible apply RollsNext.next | with_reducible apply RollsNext.fault | with_reducible apply RollsNext.ite | with_reducible assumption | with_reducible apply rolls_retireRow | (fail_if_no_progress with_reducible apply Rolls.upd) | with_reducible apply Rolls.ite | with_reducible apply Rolls.ite1 | (with_reducible apply Rolls.foldl; intro s₁ x₁; have h₁ : Rolls s₁ s₁ := Rolls.refl s₁; try dsimp +zetaDelta only) | (with_reducible apply Rolls.foldl1; intro s₁ x₁; have h₁ : Rolls s₁.1 s₁.1 := Rolls.refl s₁.1; try dsimp +zetaDelta only) | extract_lets | split | dsimp +zetaDelta only)

theorem rolls_execRetrainDone {s₀ : State} {l : Nat} {pass0 : Bool} {pass1 : Bool} : RollsNext (execRetrainDone l pass0 pass1 s₀) s₀ := by
  have h₀ : Rolls s₀ s₀ := Rolls.refl s₀
  unfold execRetrainDone
  try extract_lets
  repeat' (first | with_reducible apply RollsNext.next | with_reducible apply RollsNext.fault | with_reducible apply RollsNext.ite | with_reducible assumption | with_reducible apply rolls_State_modLink | (fail_if_no_progress with_reducible apply Rolls.upd) | with_reducible apply Rolls.ite | with_reducible apply Rolls.ite1 | (with_reducible apply Rolls.foldl; intro s₁ x₁; have h₁ : Rolls s₁ s₁ := Rolls.refl s₁; try dsimp +zetaDelta only) | (with_reducible apply Rolls.foldl1; intro s₁ x₁; have h₁ : Rolls s₁.1 s₁.1 := Rolls.refl s₁.1; try dsimp +zetaDelta only) | extract_lets | split | dsimp +zetaDelta only)

theorem rolls_execRouteMark {s₀ : State} {src : Nat} {dst : Nat} {cls : Nat} : RollsNext (execRouteMark src dst cls s₀) s₀ := by
  have h₀ : Rolls s₀ s₀ := Rolls.refl s₀
  unfold execRouteMark
  try extract_lets
  repeat' (first | with_reducible apply RollsNext.next | with_reducible apply RollsNext.fault | with_reducible apply RollsNext.ite | with_reducible assumption | with_reducible apply rolls_State_flit | with_reducible apply rolls_State_modStep | (fail_if_no_progress with_reducible apply Rolls.upd) | with_reducible apply Rolls.ite | with_reducible apply Rolls.ite1 | (with_reducible apply Rolls.foldl; intro s₁ x₁; have h₁ : Rolls s₁ s₁ := Rolls.refl s₁; try dsimp +zetaDelta only) | (with_reducible apply Rolls.foldl1; intro s₁ x₁; have h₁ : Rolls s₁.1 s₁.1 := Rolls.refl s₁.1; try dsimp +zetaDelta only) | extract_lets | split | dsimp +zetaDelta only)

theorem rolls_execRouteMarkAck {s₀ : State} {src : Nat} {dst : Nat} {cls : Nat} : RollsNext (execRouteMarkAck src dst cls s₀) s₀ := by
  have h₀ : Rolls s₀ s₀ := Rolls.refl s₀
  unfold execRouteMarkAck
  try extract_lets
  repeat' (first | with_reducible apply RollsNext.next | with_reducible apply RollsNext.fault | with_reducible apply RollsNext.ite | with_reducible assumption | with_reducible apply rolls_routeAck | (fail_if_no_progress with_reducible apply Rolls.upd) | with_reducible apply Rolls.ite | with_reducible apply Rolls.ite1 | (with_reducible apply Rolls.foldl; intro s₁ x₁; have h₁ : Rolls s₁ s₁ := Rolls.refl s₁; try dsimp +zetaDelta only) | (with_reducible apply Rolls.foldl1; intro s₁ x₁; have h₁ : Rolls s₁.1 s₁.1 := Rolls.refl s₁.1; try dsimp +zetaDelta only) | extract_lets | split | dsimp +zetaDelta only)

theorem rolls_execRsv {s₀ : State} {w : Nat} {q : Sys2Proof.Req} : RollsNext (execRsv w q s₀) s₀ := by
  have h₀ : Rolls s₀ s₀ := Rolls.refl s₀
  unfold execRsv
  try extract_lets
  repeat' (first | with_reducible apply RollsNext.next | with_reducible apply RollsNext.fault | with_reducible apply RollsNext.ite | with_reducible assumption | with_reducible apply rolls_requestCmd | with_reducible apply rolls_requestCmd | (fail_if_no_progress with_reducible apply Rolls.upd) | with_reducible apply Rolls.ite | with_reducible apply Rolls.ite1 | (with_reducible apply Rolls.foldl; intro s₁ x₁; have h₁ : Rolls s₁ s₁ := Rolls.refl s₁; try dsimp +zetaDelta only) | (with_reducible apply Rolls.foldl1; intro s₁ x₁; have h₁ : Rolls s₁.1 s₁.1 := Rolls.refl s₁.1; try dsimp +zetaDelta only) | extract_lets | split | dsimp +zetaDelta only)

theorem rolls_execRsvTimeout {s₀ : State} {t : Nat} {i : Nat} : RollsNext (execRsvTimeout t i s₀) s₀ := by
  have h₀ : Rolls s₀ s₀ := Rolls.refl s₀
  unfold execRsvTimeout
  try extract_lets
  repeat' (first | with_reducible apply RollsNext.next | with_reducible apply RollsNext.fault | with_reducible apply RollsNext.ite | with_reducible assumption | with_reducible apply rolls_State_bump | with_reducible apply rolls_State_modTill | (fail_if_no_progress with_reducible apply Rolls.upd) | with_reducible apply Rolls.ite | with_reducible apply Rolls.ite1 | (with_reducible apply Rolls.foldl; intro s₁ x₁; have h₁ : Rolls s₁ s₁ := Rolls.refl s₁; try dsimp +zetaDelta only) | (with_reducible apply Rolls.foldl1; intro s₁ x₁; have h₁ : Rolls s₁.1 s₁.1 := Rolls.refl s₁.1; try dsimp +zetaDelta only) | extract_lets | split | dsimp +zetaDelta only)

theorem rolls_execSalvageMark {s₀ : State} {t : Nat} {w : Nat} : RollsNext (execSalvageMark t w s₀) s₀ := by
  have h₀ : Rolls s₀ s₀ := Rolls.refl s₀
  unfold execSalvageMark
  try extract_lets
  repeat' (first | with_reducible apply RollsNext.next | with_reducible apply RollsNext.fault | with_reducible apply RollsNext.ite | with_reducible assumption | with_reducible apply rolls_State_modTill | (fail_if_no_progress with_reducible apply Rolls.upd) | with_reducible apply Rolls.ite | with_reducible apply Rolls.ite1 | (with_reducible apply Rolls.foldl; intro s₁ x₁; have h₁ : Rolls s₁ s₁ := Rolls.refl s₁; try dsimp +zetaDelta only) | (with_reducible apply Rolls.foldl1; intro s₁ x₁; have h₁ : Rolls s₁.1 s₁.1 := Rolls.refl s₁.1; try dsimp +zetaDelta only) | extract_lets | split | dsimp +zetaDelta only)

theorem rolls_execSaveImageWritten {s₀ : State}  : RollsNext (execSaveImageWritten s₀) s₀ := by
  have h₀ : Rolls s₀ s₀ := Rolls.refl s₀
  unfold execSaveImageWritten
  try extract_lets
  repeat' (first | with_reducible apply RollsNext.next | with_reducible apply RollsNext.fault | with_reducible apply RollsNext.ite | with_reducible assumption | with_reducible apply rolls_State_modPower | with_reducible apply rolls_State_send | with_reducible apply rolls_askMargin | (fail_if_no_progress with_reducible apply Rolls.upd) | with_reducible apply Rolls.ite | with_reducible apply Rolls.ite1 | (with_reducible apply Rolls.foldl; intro s₁ x₁; have h₁ : Rolls s₁ s₁ := Rolls.refl s₁; try dsimp +zetaDelta only) | (with_reducible apply Rolls.foldl1; intro s₁ x₁; have h₁ : Rolls s₁.1 s₁.1 := Rolls.refl s₁.1; try dsimp +zetaDelta only) | extract_lets | split | dsimp +zetaDelta only)

theorem rolls_execScrubRun {s₀ : State} {t : Nat} {bank : Nat} {upsets : List (Nat × Sys2Proof.VBits)} : RollsNext (execScrubRun t bank upsets s₀) s₀ := by
  have h₀ : Rolls s₀ s₀ := Rolls.refl s₀
  unfold execScrubRun
  try extract_lets
  repeat' (first | with_reducible apply RollsNext.next | with_reducible apply RollsNext.fault | with_reducible apply RollsNext.ite | with_reducible assumption | with_reducible apply rolls_scrubRun | with_reducible apply rolls_worked | (fail_if_no_progress with_reducible apply Rolls.upd) | with_reducible apply Rolls.ite | with_reducible apply Rolls.ite1 | (with_reducible apply Rolls.foldl; intro s₁ x₁; have h₁ : Rolls s₁ s₁ := Rolls.refl s₁; try dsimp +zetaDelta only) | (with_reducible apply Rolls.foldl1; intro s₁ x₁; have h₁ : Rolls s₁.1 s₁.1 := Rolls.refl s₁.1; try dsimp +zetaDelta only) | extract_lets | split | dsimp +zetaDelta only)

theorem rolls_execSessionIdle {s₀ : State} {k : Nat} : RollsNext (execSessionIdle k s₀) s₀ := by
  have h₀ : Rolls s₀ s₀ := Rolls.refl s₀
  unfold execSessionIdle
  try extract_lets
  repeat' (first | with_reducible apply RollsNext.next | with_reducible apply RollsNext.fault | with_reducible apply RollsNext.ite | with_reducible assumption | with_reducible apply rolls_closeSession | (fail_if_no_progress with_reducible apply Rolls.upd) | with_reducible apply Rolls.ite | with_reducible apply Rolls.ite1 | (with_reducible apply Rolls.foldl; intro s₁ x₁; have h₁ : Rolls s₁ s₁ := Rolls.refl s₁; try dsimp +zetaDelta only) | (with_reducible apply Rolls.foldl1; intro s₁ x₁; have h₁ : Rolls s₁.1 s₁.1 := Rolls.refl s₁.1; try dsimp +zetaDelta only) | extract_lets | split | dsimp +zetaDelta only)

theorem rolls_execSettle {s₀ : State} {w : Nat} {q : Sys2Proof.Req} : RollsNext (execSettle w q s₀) s₀ := by
  have h₀ : Rolls s₀ s₀ := Rolls.refl s₀
  unfold execSettle
  try extract_lets
  repeat' (first | with_reducible apply RollsNext.next | with_reducible apply RollsNext.fault | with_reducible apply RollsNext.ite | with_reducible assumption | with_reducible apply rolls_requestCmd | with_reducible apply rolls_requestCmd | (fail_if_no_progress with_reducible apply Rolls.upd) | with_reducible apply Rolls.ite | with_reducible apply Rolls.ite1 | (with_reducible apply Rolls.foldl; intro s₁ x₁; have h₁ : Rolls s₁ s₁ := Rolls.refl s₁; try dsimp +zetaDelta only) | (with_reducible apply Rolls.foldl1; intro s₁ x₁; have h₁ : Rolls s₁.1 s₁.1 := Rolls.refl s₁.1; try dsimp +zetaDelta only) | extract_lets | split | dsimp +zetaDelta only)

theorem rolls_execSnoopDelivery {s₀ : State} {w : Nat} {t : Nat} : RollsNext (execSnoopDelivery w t s₀) s₀ := by
  have h₀ : Rolls s₀ s₀ := Rolls.refl s₀
  unfold execSnoopDelivery
  try extract_lets
  repeat' (first | with_reducible apply RollsNext.next | with_reducible apply RollsNext.fault | with_reducible apply RollsNext.ite | with_reducible assumption | with_reducible apply rolls_State_modWicket | with_reducible apply rolls_forecloseSnoop | with_reducible apply rolls_markBypass | with_reducible apply rolls_takeSids | (fail_if_no_progress with_reducible apply Rolls.upd) | with_reducible apply Rolls.ite | with_reducible apply Rolls.ite1 | (with_reducible apply Rolls.foldl; intro s₁ x₁; have h₁ : Rolls s₁ s₁ := Rolls.refl s₁; try dsimp +zetaDelta only) | (with_reducible apply Rolls.foldl1; intro s₁ x₁; have h₁ : Rolls s₁.1 s₁.1 := Rolls.refl s₁.1; try dsimp +zetaDelta only) | extract_lets | split | dsimp +zetaDelta only)

theorem rolls_execSubstituteTick {s₀ : State} {dt : Nat} {ptm : Sys2Proof.Word} {v : Bool} : RollsNext (execSubstituteTick dt ptm v s₀) s₀ := by
  have h₀ : Rolls s₀ s₀ := Rolls.refl s₀
  unfold execSubstituteTick
  try extract_lets
  repeat' (first | with_reducible apply RollsNext.next | with_reducible apply RollsNext.fault | with_reducible apply RollsNext.ite | with_reducible assumption | with_reducible apply rolls_advance | with_reducible apply rolls_latchPtm | with_reducible apply rolls_tickStep | (fail_if_no_progress with_reducible apply Rolls.upd) | with_reducible apply Rolls.ite | with_reducible apply Rolls.ite1 | (with_reducible apply Rolls.foldl; intro s₁ x₁; have h₁ : Rolls s₁ s₁ := Rolls.refl s₁; try dsimp +zetaDelta only) | (with_reducible apply Rolls.foldl1; intro s₁ x₁; have h₁ : Rolls s₁.1 s₁.1 := Rolls.refl s₁.1; try dsimp +zetaDelta only) | extract_lets | split | dsimp +zetaDelta only)

theorem rolls_execSwitch {s₀ : State} {batch : Nat} : RollsNext (execSwitch batch s₀) s₀ := by
  have h₀ : Rolls s₀ s₀ := Rolls.refl s₀
  unfold execSwitch
  try extract_lets
  repeat' (first | with_reducible apply RollsNext.next | with_reducible apply RollsNext.fault | with_reducible apply RollsNext.ite | with_reducible assumption | with_reducible apply rolls_State_modXfer | with_reducible apply rolls_moveBuckets | (fail_if_no_progress with_reducible apply Rolls.upd) | with_reducible apply Rolls.ite | with_reducible apply Rolls.ite1 | (with_reducible apply Rolls.foldl; intro s₁ x₁; have h₁ : Rolls s₁ s₁ := Rolls.refl s₁; try dsimp +zetaDelta only) | (with_reducible apply Rolls.foldl1; intro s₁ x₁; have h₁ : Rolls s₁.1 s₁.1 := Rolls.refl s₁.1; try dsimp +zetaDelta only) | extract_lets | split | dsimp +zetaDelta only)

theorem rolls_execTallySample {s₀ : State} {latency : Nat} {full : Bool} : RollsNext (execTallySample latency full s₀) s₀ := by
  have h₀ : Rolls s₀ s₀ := Rolls.refl s₀
  unfold execTallySample
  try extract_lets
  repeat' (first | with_reducible apply RollsNext.next | with_reducible apply RollsNext.fault | with_reducible apply RollsNext.ite | with_reducible assumption | with_reducible apply rolls_takeSample | (fail_if_no_progress with_reducible apply Rolls.upd) | with_reducible apply Rolls.ite | with_reducible apply Rolls.ite1 | (with_reducible apply Rolls.foldl; intro s₁ x₁; have h₁ : Rolls s₁ s₁ := Rolls.refl s₁; try dsimp +zetaDelta only) | (with_reducible apply Rolls.foldl1; intro s₁ x₁; have h₁ : Rolls s₁.1 s₁.1 := Rolls.refl s₁.1; try dsimp +zetaDelta only) | extract_lets | split | dsimp +zetaDelta only)

theorem rolls_execTallyWindow {s₀ : State}  : RollsNext (execTallyWindow s₀) s₀ := by
  have h₀ : Rolls s₀ s₀ := Rolls.refl s₀
  unfold execTallyWindow
  try extract_lets
  repeat' (first | with_reducible apply RollsNext.next | with_reducible apply RollsNext.fault | with_reducible apply RollsNext.ite | with_reducible assumption | with_reducible apply rolls_sweepWindow | (fail_if_no_progress with_reducible apply Rolls.upd) | with_reducible apply Rolls.ite | with_reducible apply Rolls.ite1 | (with_reducible apply Rolls.foldl; intro s₁ x₁; have h₁ : Rolls s₁ s₁ := Rolls.refl s₁; try dsimp +zetaDelta only) | (with_reducible apply Rolls.foldl1; intro s₁ x₁; have h₁ : Rolls s₁.1 s₁.1 := Rolls.refl s₁.1; try dsimp +zetaDelta only) | extract_lets | split | dsimp +zetaDelta only)

theorem rolls_execTapInstruction {s₀ : State} {ir : Nat} : RollsNext (execTapInstruction ir s₀) s₀ := by
  have h₀ : Rolls s₀ s₀ := Rolls.refl s₀
  unfold execTapInstruction
  try extract_lets
  repeat' (first | with_reducible apply RollsNext.next | with_reducible apply RollsNext.fault | with_reducible apply RollsNext.ite | with_reducible assumption | (fail_if_no_progress with_reducible apply Rolls.upd) | with_reducible apply Rolls.ite | with_reducible apply Rolls.ite1 | (with_reducible apply Rolls.foldl; intro s₁ x₁; have h₁ : Rolls s₁ s₁ := Rolls.refl s₁; try dsimp +zetaDelta only) | (with_reducible apply Rolls.foldl1; intro s₁ x₁; have h₁ : Rolls s₁.1 s₁.1 := Rolls.refl s₁.1; try dsimp +zetaDelta only) | extract_lets | split | dsimp +zetaDelta only)

theorem rolls_execTickLost {s₀ : State} {dt : Nat} : RollsNext (execTickLost dt s₀) s₀ := by
  have h₀ : Rolls s₀ s₀ := Rolls.refl s₀
  unfold execTickLost
  try extract_lets
  repeat' (first | with_reducible apply RollsNext.next | with_reducible apply RollsNext.fault | with_reducible apply RollsNext.ite | with_reducible assumption | with_reducible apply rolls_advance | with_reducible apply rolls_loseTick | (fail_if_no_progress with_reducible apply Rolls.upd) | with_reducible apply Rolls.ite | with_reducible apply Rolls.ite1 | (with_reducible apply Rolls.foldl; intro s₁ x₁; have h₁ : Rolls s₁ s₁ := Rolls.refl s₁; try dsimp +zetaDelta only) | (with_reducible apply Rolls.foldl1; intro s₁ x₁; have h₁ : Rolls s₁.1 s₁.1 := Rolls.refl s₁.1; try dsimp +zetaDelta only) | extract_lets | split | dsimp +zetaDelta only)

theorem rolls_execTickStrobe {s₀ : State} {dt : Nat} {ptm : Sys2Proof.Word} {v : Bool} : RollsNext (execTickStrobe dt ptm v s₀) s₀ := by
  have h₀ : Rolls s₀ s₀ := Rolls.refl s₀
  unfold execTickStrobe
  try extract_lets
  repeat' (first | with_reducible apply RollsNext.next | with_reducible apply RollsNext.fault | with_reducible apply RollsNext.ite | with_reducible assumption | with_reducible apply rolls_advance | with_reducible apply rolls_strobe | with_reducible apply rolls_strobeOnSubstitute | (fail_if_no_progress with_reducible apply Rolls.upd) | with_reducible apply Rolls.ite | with_reducible apply Rolls.ite1 | (with_reducible apply Rolls.foldl; intro s₁ x₁; have h₁ : Rolls s₁ s₁ := Rolls.refl s₁; try dsimp +zetaDelta only) | (with_reducible apply Rolls.foldl1; intro s₁ x₁; have h₁ : Rolls s₁.1 s₁.1 := Rolls.refl s₁.1; try dsimp +zetaDelta only) | extract_lets | split | dsimp +zetaDelta only)

theorem rolls_execTillDown {s₀ : State} {w : Nat} {t : Nat} : RollsNext (execTillDown w t s₀) s₀ := by
  have h₀ : Rolls s₀ s₀ := Rolls.refl s₀
  unfold execTillDown
  try extract_lets
  repeat' (first | with_reducible apply RollsNext.next | with_reducible apply RollsNext.fault | with_reducible apply RollsNext.ite | with_reducible assumption | with_reducible apply rolls_State_modWicket | with_reducible apply rolls_State_popP | with_reducible apply rolls_sendMarks | (fail_if_no_progress with_reducible apply Rolls.upd) | with_reducible apply Rolls.ite | with_reducible apply Rolls.ite1 | (with_reducible apply Rolls.foldl; intro s₁ x₁; have h₁ : Rolls s₁ s₁ := Rolls.refl s₁; try dsimp +zetaDelta only) | (with_reducible apply Rolls.foldl1; intro s₁ x₁; have h₁ : Rolls s₁.1 s₁.1 := Rolls.refl s₁.1; try dsimp +zetaDelta only) | extract_lets | split | dsimp +zetaDelta only)

theorem rolls_execTillWatchdog {s₀ : State} {t : Nat} : RollsNext (execTillWatchdog t s₀) s₀ := by
  have h₀ : Rolls s₀ s₀ := Rolls.refl s₀
  unfold execTillWatchdog
  try extract_lets
  repeat' (first | with_reducible apply RollsNext.next | with_reducible apply RollsNext.fault | with_reducible apply RollsNext.ite | with_reducible assumption | with_reducible apply rolls_failTill | (fail_if_no_progress with_reducible apply Rolls.upd) | with_reducible apply Rolls.ite | with_reducible apply Rolls.ite1 | (with_reducible apply Rolls.foldl; intro s₁ x₁; have h₁ : Rolls s₁ s₁ := Rolls.refl s₁; try dsimp +zetaDelta only) | (with_reducible apply Rolls.foldl1; intro s₁ x₁; have h₁ : Rolls s₁.1 s₁.1 := Rolls.refl s₁.1; try dsimp +zetaDelta only) | extract_lets | split | dsimp +zetaDelta only)

theorem rolls_execTjSample {s₀ : State} {tj : List (Nat × Int)} : RollsNext (execTjSample tj s₀) s₀ := by
  have h₀ : Rolls s₀ s₀ := Rolls.refl s₀
  unfold execTjSample
  try extract_lets
  repeat' (first | with_reducible apply RollsNext.next | with_reducible apply RollsNext.fault | with_reducible apply RollsNext.ite | with_reducible assumption | with_reducible apply rolls_leaveHold | with_reducible apply rolls_readTjs | (fail_if_no_progress with_reducible apply Rolls.upd) | with_reducible apply Rolls.ite | with_reducible apply Rolls.ite1 | (with_reducible apply Rolls.foldl; intro s₁ x₁; have h₁ : Rolls s₁ s₁ := Rolls.refl s₁; try dsimp +zetaDelta only) | (with_reducible apply Rolls.foldl1; intro s₁ x₁; have h₁ : Rolls s₁.1 s₁.1 := Rolls.refl s₁.1; try dsimp +zetaDelta only) | extract_lets | split | dsimp +zetaDelta only)

theorem rolls_execVaultLookupDone {s₀ : State} {t : Nat} {f : Nat} {u : Sys2Proof.Upset} : RollsNext (execVaultLookupDone t f u s₀) s₀ := by
  have h₀ : Rolls s₀ s₀ := Rolls.refl s₀
  unfold execVaultLookupDone
  try extract_lets
  repeat' (first | with_reducible apply RollsNext.next | with_reducible apply RollsNext.fault | with_reducible apply RollsNext.ite | with_reducible assumption | with_reducible apply rolls_lookedUp | with_reducible apply rolls_readSet | with_reducible apply rolls_upsetAt | with_reducible apply rolls_worked | (fail_if_no_progress with_reducible apply Rolls.upd) | with_reducible apply Rolls.ite | with_reducible apply Rolls.ite1 | (with_reducible apply Rolls.foldl; intro s₁ x₁; have h₁ : Rolls s₁ s₁ := Rolls.refl s₁; try dsimp +zetaDelta only) | (with_reducible apply Rolls.foldl1; intro s₁ x₁; have h₁ : Rolls s₁.1 s₁.1 := Rolls.refl s₁.1; try dsimp +zetaDelta only) | extract_lets | split | dsimp +zetaDelta only)

theorem rolls_execWbI {s₀ : State} {w : Nat} {q : Sys2Proof.Req} : RollsNext (execWbI w q s₀) s₀ := by
  have h₀ : Rolls s₀ s₀ := Rolls.refl s₀
  unfold execWbI
  try extract_lets
  repeat' (first | with_reducible apply RollsNext.next | with_reducible apply RollsNext.fault | with_reducible apply RollsNext.ite | with_reducible assumption | with_reducible apply rolls_requestCmd | with_reducible apply rolls_requestCmd | (fail_if_no_progress with_reducible apply Rolls.upd) | with_reducible apply Rolls.ite | with_reducible apply Rolls.ite1 | (with_reducible apply Rolls.foldl; intro s₁ x₁; have h₁ : Rolls s₁ s₁ := Rolls.refl s₁; try dsimp +zetaDelta only) | (with_reducible apply Rolls.foldl1; intro s₁ x₁; have h₁ : Rolls s₁.1 s₁.1 := Rolls.refl s₁.1; try dsimp +zetaDelta only) | extract_lets | split | dsimp +zetaDelta only)

theorem rolls_execWbS {s₀ : State} {w : Nat} {q : Sys2Proof.Req} : RollsNext (execWbS w q s₀) s₀ := by
  have h₀ : Rolls s₀ s₀ := Rolls.refl s₀
  unfold execWbS
  try extract_lets
  repeat' (first | with_reducible apply RollsNext.next | with_reducible apply RollsNext.fault | with_reducible apply RollsNext.ite | with_reducible assumption | with_reducible apply rolls_requestCmd | with_reducible apply rolls_requestCmd | (fail_if_no_progress with_reducible apply Rolls.upd) | with_reducible apply Rolls.ite | with_reducible apply Rolls.ite1 | (with_reducible apply Rolls.foldl; intro s₁ x₁; have h₁ : Rolls s₁ s₁ := Rolls.refl s₁; try dsimp +zetaDelta only) | (with_reducible apply Rolls.foldl1; intro s₁ x₁; have h₁ : Rolls s₁.1 s₁.1 := Rolls.refl s₁.1; try dsimp +zetaDelta only) | extract_lets | split | dsimp +zetaDelta only)

theorem rolls_execWbX {s₀ : State} {w : Nat} {q : Sys2Proof.Req} : RollsNext (execWbX w q s₀) s₀ := by
  have h₀ : Rolls s₀ s₀ := Rolls.refl s₀
  unfold execWbX
  try extract_lets
  repeat' (first | with_reducible apply RollsNext.next | with_reducible apply RollsNext.fault | with_reducible apply RollsNext.ite | with_reducible assumption | with_reducible apply rolls_requestCmd | with_reducible apply rolls_requestCmd | (fail_if_no_progress with_reducible apply Rolls.upd) | with_reducible apply Rolls.ite | with_reducible apply Rolls.ite1 | (with_reducible apply Rolls.foldl; intro s₁ x₁; have h₁ : Rolls s₁ s₁ := Rolls.refl s₁; try dsimp +zetaDelta only) | (with_reducible apply Rolls.foldl1; intro s₁ x₁; have h₁ : Rolls s₁.1 s₁.1 := Rolls.refl s₁.1; try dsimp +zetaDelta only) | extract_lets | split | dsimp +zetaDelta only)

end Sys2Proof.Machine
end

