-- ==== Sys2Proof/Laws/State.lean ====
section
/-! SUPPORT. Each update of one part of the state leaves every other field as it was. -/

namespace Sys2Proof.Machine

/-! ### State.modTill writes `tills` alone -/

@[simp] theorem State.modTill_pending (s : State) (t : Nat) (f : Till → Till) : (s.modTill t f).pending = s.pending := rfl
@[simp] theorem State.modTill_out (s : State) (t : Nat) (f : Till → Till) : (s.modTill t f).out = s.out := rfl
@[simp] theorem State.modTill_freeCtr (s : State) (t : Nat) (f : Till → Till) : (s.modTill t f).freeCtr = s.freeCtr := rfl
@[simp] theorem State.modTill_boot (s : State) (t : Nat) (f : Till → Till) : (s.modTill t f).boot = s.boot := rfl
@[simp] theorem State.modTill_global (s : State) (t : Nat) (f : Till → Till) : (s.modTill t f).global = s.global := rfl
@[simp] theorem State.modTill_startSeen (s : State) (t : Nat) (f : Till → Till) : (s.modTill t f).startSeen = s.startSeen := rfl
@[simp] theorem State.modTill_resetCause (s : State) (t : Nat) (f : Till → Till) : (s.modTill t f).resetCause = s.resetCause := rfl
@[simp] theorem State.modTill_resuming (s : State) (t : Nat) (f : Till → Till) : (s.modTill t f).resuming = s.resuming := rfl
@[simp] theorem State.modTill_inReset (s : State) (t : Nat) (f : Till → Till) : (s.modTill t f).inReset = s.inReset := rfl
@[simp] theorem State.modTill_fatal (s : State) (t : Nat) (f : Till → Till) : (s.modTill t f).fatal = s.fatal := rfl
@[simp] theorem State.modTill_pins (s : State) (t : Nat) (f : Till → Till) : (s.modTill t f).pins = s.pins := rfl
@[simp] theorem State.modTill_fuses (s : State) (t : Nat) (f : Till → Till) : (s.modTill t f).fuses = s.fuses := rfl
@[simp] theorem State.modTill_time (s : State) (t : Nat) (f : Till → Till) : (s.modTill t f).time = s.time := rfl
@[simp] theorem State.modTill_chart (s : State) (t : Nat) (f : Till → Till) : (s.modTill t f).chart = s.chart := rfl
@[simp] theorem State.modTill_seg (s : State) (t : Nat) (f : Till → Till) : (s.modTill t f).seg = s.seg := rfl
@[simp] theorem State.modTill_agents (s : State) (t : Nat) (f : Till → Till) : (s.modTill t f).agents = s.agents := rfl
@[simp] theorem State.modTill_maps (s : State) (t : Nat) (f : Till → Till) : (s.modTill t f).maps = s.maps := rfl
@[simp] theorem State.modTill_net (s : State) (t : Nat) (f : Till → Till) : (s.modTill t f).net = s.net := rfl
@[simp] theorem State.modTill_wickets (s : State) (t : Nat) (f : Till → Till) : (s.modTill t f).wickets = s.wickets := rfl
@[simp] theorem State.modTill_ws (s : State) (t : Nat) (f : Till → Till) : (s.modTill t f).ws = s.ws := rfl
@[simp] theorem State.modTill_shapes (s : State) (t : Nat) (f : Till → Till) : (s.modTill t f).shapes = s.shapes := rfl
@[simp] theorem State.modTill_cond (s : State) (t : Nat) (f : Till → Till) : (s.modTill t f).cond = s.cond := rfl
@[simp] theorem State.modTill_portReads (s : State) (t : Nat) (f : Till → Till) : (s.modTill t f).portReads = s.portReads := rfl
@[simp] theorem State.modTill_chstat (s : State) (t : Nat) (f : Till → Till) : (s.modTill t f).chstat = s.chstat := rfl
@[simp] theorem State.modTill_cellarState (s : State) (t : Nat) (f : Till → Till) : (s.modTill t f).cellarState = s.cellarState := rfl
@[simp] theorem State.modTill_cellarGen (s : State) (t : Nat) (f : Till → Till) : (s.modTill t f).cellarGen = s.cellarGen := rfl
@[simp] theorem State.modTill_cellarFloor (s : State) (t : Nat) (f : Till → Till) : (s.modTill t f).cellarFloor = s.cellarFloor := rfl
@[simp] theorem State.modTill_cellarLocked (s : State) (t : Nat) (f : Till → Till) : (s.modTill t f).cellarLocked = s.cellarLocked := rfl
@[simp] theorem State.modTill_saveLocked (s : State) (t : Nat) (f : Till → Till) : (s.modTill t f).saveLocked = s.saveLocked := rfl
@[simp] theorem State.modTill_interleaveLocked (s : State) (t : Nat) (f : Till → Till) : (s.modTill t f).interleaveLocked = s.interleaveLocked := rfl
@[simp] theorem State.modTill_ways (s : State) (t : Nat) (f : Till → Till) : (s.modTill t f).ways = s.ways := rfl
@[simp] theorem State.modTill_lost (s : State) (t : Nat) (f : Till → Till) : (s.modTill t f).lost = s.lost := rfl
@[simp] theorem State.modTill_au (s : State) (t : Nat) (f : Till → Till) : (s.modTill t f).au = s.au := rfl
@[simp] theorem State.modTill_transfers (s : State) (t : Nat) (f : Till → Till) : (s.modTill t f).transfers = s.transfers := rfl
@[simp] theorem State.modTill_exch (s : State) (t : Nat) (f : Till → Till) : (s.modTill t f).exch = s.exch := rfl
@[simp] theorem State.modTill_assay (s : State) (t : Nat) (f : Till → Till) : (s.modTill t f).assay = s.assay := rfl
@[simp] theorem State.modTill_power (s : State) (t : Nat) (f : Till → Till) : (s.modTill t f).power = s.power := rfl
@[simp] theorem State.modTill_sec (s : State) (t : Nat) (f : Till → Till) : (s.modTill t f).sec = s.sec := rfl
@[simp] theorem State.modTill_tally (s : State) (t : Nat) (f : Till → Till) : (s.modTill t f).tally = s.tally := rfl
@[simp] theorem State.modTill_journal (s : State) (t : Nat) (f : Till → Till) : (s.modTill t f).journal = s.journal := rfl
@[simp] theorem State.modTill_image (s : State) (t : Nat) (f : Till → Till) : (s.modTill t f).image = s.image := rfl
@[simp] theorem State.modTill_coldDraw (s : State) (t : Nat) (f : Till → Till) : (s.modTill t f).coldDraw = s.coldDraw := rfl
@[simp] theorem State.modTill_tap (s : State) (t : Nat) (f : Till → Till) : (s.modTill t f).tap = s.tap := rfl

/-! ### State.modWicket writes `wickets` alone -/

@[simp] theorem State.modWicket_pending (s : State) (w : Nat) (f : Wicket → Wicket) : (s.modWicket w f).pending = s.pending := rfl
@[simp] theorem State.modWicket_out (s : State) (w : Nat) (f : Wicket → Wicket) : (s.modWicket w f).out = s.out := rfl
@[simp] theorem State.modWicket_freeCtr (s : State) (w : Nat) (f : Wicket → Wicket) : (s.modWicket w f).freeCtr = s.freeCtr := rfl
@[simp] theorem State.modWicket_boot (s : State) (w : Nat) (f : Wicket → Wicket) : (s.modWicket w f).boot = s.boot := rfl
@[simp] theorem State.modWicket_global (s : State) (w : Nat) (f : Wicket → Wicket) : (s.modWicket w f).global = s.global := rfl
@[simp] theorem State.modWicket_startSeen (s : State) (w : Nat) (f : Wicket → Wicket) : (s.modWicket w f).startSeen = s.startSeen := rfl
@[simp] theorem State.modWicket_resetCause (s : State) (w : Nat) (f : Wicket → Wicket) : (s.modWicket w f).resetCause = s.resetCause := rfl
@[simp] theorem State.modWicket_resuming (s : State) (w : Nat) (f : Wicket → Wicket) : (s.modWicket w f).resuming = s.resuming := rfl
@[simp] theorem State.modWicket_inReset (s : State) (w : Nat) (f : Wicket → Wicket) : (s.modWicket w f).inReset = s.inReset := rfl
@[simp] theorem State.modWicket_fatal (s : State) (w : Nat) (f : Wicket → Wicket) : (s.modWicket w f).fatal = s.fatal := rfl
@[simp] theorem State.modWicket_pins (s : State) (w : Nat) (f : Wicket → Wicket) : (s.modWicket w f).pins = s.pins := rfl
@[simp] theorem State.modWicket_fuses (s : State) (w : Nat) (f : Wicket → Wicket) : (s.modWicket w f).fuses = s.fuses := rfl
@[simp] theorem State.modWicket_time (s : State) (w : Nat) (f : Wicket → Wicket) : (s.modWicket w f).time = s.time := rfl
@[simp] theorem State.modWicket_chart (s : State) (w : Nat) (f : Wicket → Wicket) : (s.modWicket w f).chart = s.chart := rfl
@[simp] theorem State.modWicket_seg (s : State) (w : Nat) (f : Wicket → Wicket) : (s.modWicket w f).seg = s.seg := rfl
@[simp] theorem State.modWicket_agents (s : State) (w : Nat) (f : Wicket → Wicket) : (s.modWicket w f).agents = s.agents := rfl
@[simp] theorem State.modWicket_maps (s : State) (w : Nat) (f : Wicket → Wicket) : (s.modWicket w f).maps = s.maps := rfl
@[simp] theorem State.modWicket_net (s : State) (w : Nat) (f : Wicket → Wicket) : (s.modWicket w f).net = s.net := rfl
@[simp] theorem State.modWicket_ws (s : State) (w : Nat) (f : Wicket → Wicket) : (s.modWicket w f).ws = s.ws := rfl
@[simp] theorem State.modWicket_shapes (s : State) (w : Nat) (f : Wicket → Wicket) : (s.modWicket w f).shapes = s.shapes := rfl
@[simp] theorem State.modWicket_tills (s : State) (w : Nat) (f : Wicket → Wicket) : (s.modWicket w f).tills = s.tills := rfl
@[simp] theorem State.modWicket_cond (s : State) (w : Nat) (f : Wicket → Wicket) : (s.modWicket w f).cond = s.cond := rfl
@[simp] theorem State.modWicket_portReads (s : State) (w : Nat) (f : Wicket → Wicket) : (s.modWicket w f).portReads = s.portReads := rfl
@[simp] theorem State.modWicket_chstat (s : State) (w : Nat) (f : Wicket → Wicket) : (s.modWicket w f).chstat = s.chstat := rfl
@[simp] theorem State.modWicket_cellarState (s : State) (w : Nat) (f : Wicket → Wicket) : (s.modWicket w f).cellarState = s.cellarState := rfl
@[simp] theorem State.modWicket_cellarGen (s : State) (w : Nat) (f : Wicket → Wicket) : (s.modWicket w f).cellarGen = s.cellarGen := rfl
@[simp] theorem State.modWicket_cellarFloor (s : State) (w : Nat) (f : Wicket → Wicket) : (s.modWicket w f).cellarFloor = s.cellarFloor := rfl
@[simp] theorem State.modWicket_cellarLocked (s : State) (w : Nat) (f : Wicket → Wicket) : (s.modWicket w f).cellarLocked = s.cellarLocked := rfl
@[simp] theorem State.modWicket_saveLocked (s : State) (w : Nat) (f : Wicket → Wicket) : (s.modWicket w f).saveLocked = s.saveLocked := rfl
@[simp] theorem State.modWicket_interleaveLocked (s : State) (w : Nat) (f : Wicket → Wicket) : (s.modWicket w f).interleaveLocked = s.interleaveLocked := rfl
@[simp] theorem State.modWicket_ways (s : State) (w : Nat) (f : Wicket → Wicket) : (s.modWicket w f).ways = s.ways := rfl
@[simp] theorem State.modWicket_lost (s : State) (w : Nat) (f : Wicket → Wicket) : (s.modWicket w f).lost = s.lost := rfl
@[simp] theorem State.modWicket_au (s : State) (w : Nat) (f : Wicket → Wicket) : (s.modWicket w f).au = s.au := rfl
@[simp] theorem State.modWicket_transfers (s : State) (w : Nat) (f : Wicket → Wicket) : (s.modWicket w f).transfers = s.transfers := rfl
@[simp] theorem State.modWicket_exch (s : State) (w : Nat) (f : Wicket → Wicket) : (s.modWicket w f).exch = s.exch := rfl
@[simp] theorem State.modWicket_assay (s : State) (w : Nat) (f : Wicket → Wicket) : (s.modWicket w f).assay = s.assay := rfl
@[simp] theorem State.modWicket_power (s : State) (w : Nat) (f : Wicket → Wicket) : (s.modWicket w f).power = s.power := rfl
@[simp] theorem State.modWicket_sec (s : State) (w : Nat) (f : Wicket → Wicket) : (s.modWicket w f).sec = s.sec := rfl
@[simp] theorem State.modWicket_tally (s : State) (w : Nat) (f : Wicket → Wicket) : (s.modWicket w f).tally = s.tally := rfl
@[simp] theorem State.modWicket_journal (s : State) (w : Nat) (f : Wicket → Wicket) : (s.modWicket w f).journal = s.journal := rfl
@[simp] theorem State.modWicket_image (s : State) (w : Nat) (f : Wicket → Wicket) : (s.modWicket w f).image = s.image := rfl
@[simp] theorem State.modWicket_coldDraw (s : State) (w : Nat) (f : Wicket → Wicket) : (s.modWicket w f).coldDraw = s.coldDraw := rfl
@[simp] theorem State.modWicket_tap (s : State) (w : Nat) (f : Wicket → Wicket) : (s.modWicket w f).tap = s.tap := rfl

/-! ### State.setAgent writes `agents` alone -/

@[simp] theorem State.setAgent_pending (s : State) (n : Nat) (a : Agent) : (s.setAgent n a).pending = s.pending := rfl
@[simp] theorem State.setAgent_out (s : State) (n : Nat) (a : Agent) : (s.setAgent n a).out = s.out := rfl
@[simp] theorem State.setAgent_freeCtr (s : State) (n : Nat) (a : Agent) : (s.setAgent n a).freeCtr = s.freeCtr := rfl
@[simp] theorem State.setAgent_boot (s : State) (n : Nat) (a : Agent) : (s.setAgent n a).boot = s.boot := rfl
@[simp] theorem State.setAgent_global (s : State) (n : Nat) (a : Agent) : (s.setAgent n a).global = s.global := rfl
@[simp] theorem State.setAgent_startSeen (s : State) (n : Nat) (a : Agent) : (s.setAgent n a).startSeen = s.startSeen := rfl
@[simp] theorem State.setAgent_resetCause (s : State) (n : Nat) (a : Agent) : (s.setAgent n a).resetCause = s.resetCause := rfl
@[simp] theorem State.setAgent_resuming (s : State) (n : Nat) (a : Agent) : (s.setAgent n a).resuming = s.resuming := rfl
@[simp] theorem State.setAgent_inReset (s : State) (n : Nat) (a : Agent) : (s.setAgent n a).inReset = s.inReset := rfl
@[simp] theorem State.setAgent_fatal (s : State) (n : Nat) (a : Agent) : (s.setAgent n a).fatal = s.fatal := rfl
@[simp] theorem State.setAgent_pins (s : State) (n : Nat) (a : Agent) : (s.setAgent n a).pins = s.pins := rfl
@[simp] theorem State.setAgent_fuses (s : State) (n : Nat) (a : Agent) : (s.setAgent n a).fuses = s.fuses := rfl
@[simp] theorem State.setAgent_time (s : State) (n : Nat) (a : Agent) : (s.setAgent n a).time = s.time := rfl
@[simp] theorem State.setAgent_chart (s : State) (n : Nat) (a : Agent) : (s.setAgent n a).chart = s.chart := rfl
@[simp] theorem State.setAgent_seg (s : State) (n : Nat) (a : Agent) : (s.setAgent n a).seg = s.seg := rfl
@[simp] theorem State.setAgent_maps (s : State) (n : Nat) (a : Agent) : (s.setAgent n a).maps = s.maps := rfl
@[simp] theorem State.setAgent_net (s : State) (n : Nat) (a : Agent) : (s.setAgent n a).net = s.net := rfl
@[simp] theorem State.setAgent_wickets (s : State) (n : Nat) (a : Agent) : (s.setAgent n a).wickets = s.wickets := rfl
@[simp] theorem State.setAgent_ws (s : State) (n : Nat) (a : Agent) : (s.setAgent n a).ws = s.ws := rfl
@[simp] theorem State.setAgent_shapes (s : State) (n : Nat) (a : Agent) : (s.setAgent n a).shapes = s.shapes := rfl
@[simp] theorem State.setAgent_tills (s : State) (n : Nat) (a : Agent) : (s.setAgent n a).tills = s.tills := rfl
@[simp] theorem State.setAgent_cond (s : State) (n : Nat) (a : Agent) : (s.setAgent n a).cond = s.cond := rfl
@[simp] theorem State.setAgent_portReads (s : State) (n : Nat) (a : Agent) : (s.setAgent n a).portReads = s.portReads := rfl
@[simp] theorem State.setAgent_chstat (s : State) (n : Nat) (a : Agent) : (s.setAgent n a).chstat = s.chstat := rfl
@[simp] theorem State.setAgent_cellarState (s : State) (n : Nat) (a : Agent) : (s.setAgent n a).cellarState = s.cellarState := rfl
@[simp] theorem State.setAgent_cellarGen (s : State) (n : Nat) (a : Agent) : (s.setAgent n a).cellarGen = s.cellarGen := rfl
@[simp] theorem State.setAgent_cellarFloor (s : State) (n : Nat) (a : Agent) : (s.setAgent n a).cellarFloor = s.cellarFloor := rfl
@[simp] theorem State.setAgent_cellarLocked (s : State) (n : Nat) (a : Agent) : (s.setAgent n a).cellarLocked = s.cellarLocked := rfl
@[simp] theorem State.setAgent_saveLocked (s : State) (n : Nat) (a : Agent) : (s.setAgent n a).saveLocked = s.saveLocked := rfl
@[simp] theorem State.setAgent_interleaveLocked (s : State) (n : Nat) (a : Agent) : (s.setAgent n a).interleaveLocked = s.interleaveLocked := rfl
@[simp] theorem State.setAgent_ways (s : State) (n : Nat) (a : Agent) : (s.setAgent n a).ways = s.ways := rfl
@[simp] theorem State.setAgent_lost (s : State) (n : Nat) (a : Agent) : (s.setAgent n a).lost = s.lost := rfl
@[simp] theorem State.setAgent_au (s : State) (n : Nat) (a : Agent) : (s.setAgent n a).au = s.au := rfl
@[simp] theorem State.setAgent_transfers (s : State) (n : Nat) (a : Agent) : (s.setAgent n a).transfers = s.transfers := rfl
@[simp] theorem State.setAgent_exch (s : State) (n : Nat) (a : Agent) : (s.setAgent n a).exch = s.exch := rfl
@[simp] theorem State.setAgent_assay (s : State) (n : Nat) (a : Agent) : (s.setAgent n a).assay = s.assay := rfl
@[simp] theorem State.setAgent_power (s : State) (n : Nat) (a : Agent) : (s.setAgent n a).power = s.power := rfl
@[simp] theorem State.setAgent_sec (s : State) (n : Nat) (a : Agent) : (s.setAgent n a).sec = s.sec := rfl
@[simp] theorem State.setAgent_tally (s : State) (n : Nat) (a : Agent) : (s.setAgent n a).tally = s.tally := rfl
@[simp] theorem State.setAgent_journal (s : State) (n : Nat) (a : Agent) : (s.setAgent n a).journal = s.journal := rfl
@[simp] theorem State.setAgent_image (s : State) (n : Nat) (a : Agent) : (s.setAgent n a).image = s.image := rfl
@[simp] theorem State.setAgent_coldDraw (s : State) (n : Nat) (a : Agent) : (s.setAgent n a).coldDraw = s.coldDraw := rfl
@[simp] theorem State.setAgent_tap (s : State) (n : Nat) (a : Agent) : (s.setAgent n a).tap = s.tap := rfl

/-! ### State.setRaw writes `chart` alone -/

@[simp] theorem State.setRaw_pending (s : State) (i j : Nat) (v : Word) : (s.setRaw i j v).pending = s.pending := rfl
@[simp] theorem State.setRaw_out (s : State) (i j : Nat) (v : Word) : (s.setRaw i j v).out = s.out := rfl
@[simp] theorem State.setRaw_freeCtr (s : State) (i j : Nat) (v : Word) : (s.setRaw i j v).freeCtr = s.freeCtr := rfl
@[simp] theorem State.setRaw_boot (s : State) (i j : Nat) (v : Word) : (s.setRaw i j v).boot = s.boot := rfl
@[simp] theorem State.setRaw_global (s : State) (i j : Nat) (v : Word) : (s.setRaw i j v).global = s.global := rfl
@[simp] theorem State.setRaw_startSeen (s : State) (i j : Nat) (v : Word) : (s.setRaw i j v).startSeen = s.startSeen := rfl
@[simp] theorem State.setRaw_resetCause (s : State) (i j : Nat) (v : Word) : (s.setRaw i j v).resetCause = s.resetCause := rfl
@[simp] theorem State.setRaw_resuming (s : State) (i j : Nat) (v : Word) : (s.setRaw i j v).resuming = s.resuming := rfl
@[simp] theorem State.setRaw_inReset (s : State) (i j : Nat) (v : Word) : (s.setRaw i j v).inReset = s.inReset := rfl
@[simp] theorem State.setRaw_fatal (s : State) (i j : Nat) (v : Word) : (s.setRaw i j v).fatal = s.fatal := rfl
@[simp] theorem State.setRaw_pins (s : State) (i j : Nat) (v : Word) : (s.setRaw i j v).pins = s.pins := rfl
@[simp] theorem State.setRaw_fuses (s : State) (i j : Nat) (v : Word) : (s.setRaw i j v).fuses = s.fuses := rfl
@[simp] theorem State.setRaw_time (s : State) (i j : Nat) (v : Word) : (s.setRaw i j v).time = s.time := rfl
@[simp] theorem State.setRaw_seg (s : State) (i j : Nat) (v : Word) : (s.setRaw i j v).seg = s.seg := rfl
@[simp] theorem State.setRaw_agents (s : State) (i j : Nat) (v : Word) : (s.setRaw i j v).agents = s.agents := rfl
@[simp] theorem State.setRaw_maps (s : State) (i j : Nat) (v : Word) : (s.setRaw i j v).maps = s.maps := rfl
@[simp] theorem State.setRaw_net (s : State) (i j : Nat) (v : Word) : (s.setRaw i j v).net = s.net := rfl
@[simp] theorem State.setRaw_wickets (s : State) (i j : Nat) (v : Word) : (s.setRaw i j v).wickets = s.wickets := rfl
@[simp] theorem State.setRaw_ws (s : State) (i j : Nat) (v : Word) : (s.setRaw i j v).ws = s.ws := rfl
@[simp] theorem State.setRaw_shapes (s : State) (i j : Nat) (v : Word) : (s.setRaw i j v).shapes = s.shapes := rfl
@[simp] theorem State.setRaw_tills (s : State) (i j : Nat) (v : Word) : (s.setRaw i j v).tills = s.tills := rfl
@[simp] theorem State.setRaw_cond (s : State) (i j : Nat) (v : Word) : (s.setRaw i j v).cond = s.cond := rfl
@[simp] theorem State.setRaw_portReads (s : State) (i j : Nat) (v : Word) : (s.setRaw i j v).portReads = s.portReads := rfl
@[simp] theorem State.setRaw_chstat (s : State) (i j : Nat) (v : Word) : (s.setRaw i j v).chstat = s.chstat := rfl
@[simp] theorem State.setRaw_cellarState (s : State) (i j : Nat) (v : Word) : (s.setRaw i j v).cellarState = s.cellarState := rfl
@[simp] theorem State.setRaw_cellarGen (s : State) (i j : Nat) (v : Word) : (s.setRaw i j v).cellarGen = s.cellarGen := rfl
@[simp] theorem State.setRaw_cellarFloor (s : State) (i j : Nat) (v : Word) : (s.setRaw i j v).cellarFloor = s.cellarFloor := rfl
@[simp] theorem State.setRaw_cellarLocked (s : State) (i j : Nat) (v : Word) : (s.setRaw i j v).cellarLocked = s.cellarLocked := rfl
@[simp] theorem State.setRaw_saveLocked (s : State) (i j : Nat) (v : Word) : (s.setRaw i j v).saveLocked = s.saveLocked := rfl
@[simp] theorem State.setRaw_interleaveLocked (s : State) (i j : Nat) (v : Word) : (s.setRaw i j v).interleaveLocked = s.interleaveLocked := rfl
@[simp] theorem State.setRaw_ways (s : State) (i j : Nat) (v : Word) : (s.setRaw i j v).ways = s.ways := rfl
@[simp] theorem State.setRaw_lost (s : State) (i j : Nat) (v : Word) : (s.setRaw i j v).lost = s.lost := rfl
@[simp] theorem State.setRaw_au (s : State) (i j : Nat) (v : Word) : (s.setRaw i j v).au = s.au := rfl
@[simp] theorem State.setRaw_transfers (s : State) (i j : Nat) (v : Word) : (s.setRaw i j v).transfers = s.transfers := rfl
@[simp] theorem State.setRaw_exch (s : State) (i j : Nat) (v : Word) : (s.setRaw i j v).exch = s.exch := rfl
@[simp] theorem State.setRaw_assay (s : State) (i j : Nat) (v : Word) : (s.setRaw i j v).assay = s.assay := rfl
@[simp] theorem State.setRaw_power (s : State) (i j : Nat) (v : Word) : (s.setRaw i j v).power = s.power := rfl
@[simp] theorem State.setRaw_sec (s : State) (i j : Nat) (v : Word) : (s.setRaw i j v).sec = s.sec := rfl
@[simp] theorem State.setRaw_tally (s : State) (i j : Nat) (v : Word) : (s.setRaw i j v).tally = s.tally := rfl
@[simp] theorem State.setRaw_journal (s : State) (i j : Nat) (v : Word) : (s.setRaw i j v).journal = s.journal := rfl
@[simp] theorem State.setRaw_image (s : State) (i j : Nat) (v : Word) : (s.setRaw i j v).image = s.image := rfl
@[simp] theorem State.setRaw_coldDraw (s : State) (i j : Nat) (v : Word) : (s.setRaw i j v).coldDraw = s.coldDraw := rfl
@[simp] theorem State.setRaw_tap (s : State) (i j : Nat) (v : Word) : (s.setRaw i j v).tap = s.tap := rfl

/-! ### State.setRawN writes `chart` alone -/

@[simp] theorem State.setRawN_pending (s : State) (i j v : Nat) : (s.setRawN i j v).pending = s.pending := rfl
@[simp] theorem State.setRawN_out (s : State) (i j v : Nat) : (s.setRawN i j v).out = s.out := rfl
@[simp] theorem State.setRawN_freeCtr (s : State) (i j v : Nat) : (s.setRawN i j v).freeCtr = s.freeCtr := rfl
@[simp] theorem State.setRawN_boot (s : State) (i j v : Nat) : (s.setRawN i j v).boot = s.boot := rfl
@[simp] theorem State.setRawN_global (s : State) (i j v : Nat) : (s.setRawN i j v).global = s.global := rfl
@[simp] theorem State.setRawN_startSeen (s : State) (i j v : Nat) : (s.setRawN i j v).startSeen = s.startSeen := rfl
@[simp] theorem State.setRawN_resetCause (s : State) (i j v : Nat) : (s.setRawN i j v).resetCause = s.resetCause := rfl
@[simp] theorem State.setRawN_resuming (s : State) (i j v : Nat) : (s.setRawN i j v).resuming = s.resuming := rfl
@[simp] theorem State.setRawN_inReset (s : State) (i j v : Nat) : (s.setRawN i j v).inReset = s.inReset := rfl
@[simp] theorem State.setRawN_fatal (s : State) (i j v : Nat) : (s.setRawN i j v).fatal = s.fatal := rfl
@[simp] theorem State.setRawN_pins (s : State) (i j v : Nat) : (s.setRawN i j v).pins = s.pins := rfl
@[simp] theorem State.setRawN_fuses (s : State) (i j v : Nat) : (s.setRawN i j v).fuses = s.fuses := rfl
@[simp] theorem State.setRawN_time (s : State) (i j v : Nat) : (s.setRawN i j v).time = s.time := rfl
@[simp] theorem State.setRawN_seg (s : State) (i j v : Nat) : (s.setRawN i j v).seg = s.seg := rfl
@[simp] theorem State.setRawN_agents (s : State) (i j v : Nat) : (s.setRawN i j v).agents = s.agents := rfl
@[simp] theorem State.setRawN_maps (s : State) (i j v : Nat) : (s.setRawN i j v).maps = s.maps := rfl
@[simp] theorem State.setRawN_net (s : State) (i j v : Nat) : (s.setRawN i j v).net = s.net := rfl
@[simp] theorem State.setRawN_wickets (s : State) (i j v : Nat) : (s.setRawN i j v).wickets = s.wickets := rfl
@[simp] theorem State.setRawN_ws (s : State) (i j v : Nat) : (s.setRawN i j v).ws = s.ws := rfl
@[simp] theorem State.setRawN_shapes (s : State) (i j v : Nat) : (s.setRawN i j v).shapes = s.shapes := rfl
@[simp] theorem State.setRawN_tills (s : State) (i j v : Nat) : (s.setRawN i j v).tills = s.tills := rfl
@[simp] theorem State.setRawN_cond (s : State) (i j v : Nat) : (s.setRawN i j v).cond = s.cond := rfl
@[simp] theorem State.setRawN_portReads (s : State) (i j v : Nat) : (s.setRawN i j v).portReads = s.portReads := rfl
@[simp] theorem State.setRawN_chstat (s : State) (i j v : Nat) : (s.setRawN i j v).chstat = s.chstat := rfl
@[simp] theorem State.setRawN_cellarState (s : State) (i j v : Nat) : (s.setRawN i j v).cellarState = s.cellarState := rfl
@[simp] theorem State.setRawN_cellarGen (s : State) (i j v : Nat) : (s.setRawN i j v).cellarGen = s.cellarGen := rfl
@[simp] theorem State.setRawN_cellarFloor (s : State) (i j v : Nat) : (s.setRawN i j v).cellarFloor = s.cellarFloor := rfl
@[simp] theorem State.setRawN_cellarLocked (s : State) (i j v : Nat) : (s.setRawN i j v).cellarLocked = s.cellarLocked := rfl
@[simp] theorem State.setRawN_saveLocked (s : State) (i j v : Nat) : (s.setRawN i j v).saveLocked = s.saveLocked := rfl
@[simp] theorem State.setRawN_interleaveLocked (s : State) (i j v : Nat) : (s.setRawN i j v).interleaveLocked = s.interleaveLocked := rfl
@[simp] theorem State.setRawN_ways (s : State) (i j v : Nat) : (s.setRawN i j v).ways = s.ways := rfl
@[simp] theorem State.setRawN_lost (s : State) (i j v : Nat) : (s.setRawN i j v).lost = s.lost := rfl
@[simp] theorem State.setRawN_au (s : State) (i j v : Nat) : (s.setRawN i j v).au = s.au := rfl
@[simp] theorem State.setRawN_transfers (s : State) (i j v : Nat) : (s.setRawN i j v).transfers = s.transfers := rfl
@[simp] theorem State.setRawN_exch (s : State) (i j v : Nat) : (s.setRawN i j v).exch = s.exch := rfl
@[simp] theorem State.setRawN_assay (s : State) (i j v : Nat) : (s.setRawN i j v).assay = s.assay := rfl
@[simp] theorem State.setRawN_power (s : State) (i j v : Nat) : (s.setRawN i j v).power = s.power := rfl
@[simp] theorem State.setRawN_sec (s : State) (i j v : Nat) : (s.setRawN i j v).sec = s.sec := rfl
@[simp] theorem State.setRawN_tally (s : State) (i j v : Nat) : (s.setRawN i j v).tally = s.tally := rfl
@[simp] theorem State.setRawN_journal (s : State) (i j v : Nat) : (s.setRawN i j v).journal = s.journal := rfl
@[simp] theorem State.setRawN_image (s : State) (i j v : Nat) : (s.setRawN i j v).image = s.image := rfl
@[simp] theorem State.setRawN_coldDraw (s : State) (i j v : Nat) : (s.setRawN i j v).coldDraw = s.coldDraw := rfl
@[simp] theorem State.setRawN_tap (s : State) (i j v : Nat) : (s.setRawN i j v).tap = s.tap := rfl

/-! ### State.bump writes `chart` alone -/

@[simp] theorem State.bump_pending (s : State) (c : Ctr) : (s.bump c).pending = s.pending := rfl
@[simp] theorem State.bump_out (s : State) (c : Ctr) : (s.bump c).out = s.out := rfl
@[simp] theorem State.bump_freeCtr (s : State) (c : Ctr) : (s.bump c).freeCtr = s.freeCtr := rfl
@[simp] theorem State.bump_boot (s : State) (c : Ctr) : (s.bump c).boot = s.boot := rfl
@[simp] theorem State.bump_global (s : State) (c : Ctr) : (s.bump c).global = s.global := rfl
@[simp] theorem State.bump_startSeen (s : State) (c : Ctr) : (s.bump c).startSeen = s.startSeen := rfl
@[simp] theorem State.bump_resetCause (s : State) (c : Ctr) : (s.bump c).resetCause = s.resetCause := rfl
@[simp] theorem State.bump_resuming (s : State) (c : Ctr) : (s.bump c).resuming = s.resuming := rfl
@[simp] theorem State.bump_inReset (s : State) (c : Ctr) : (s.bump c).inReset = s.inReset := rfl
@[simp] theorem State.bump_fatal (s : State) (c : Ctr) : (s.bump c).fatal = s.fatal := rfl
@[simp] theorem State.bump_pins (s : State) (c : Ctr) : (s.bump c).pins = s.pins := rfl
@[simp] theorem State.bump_fuses (s : State) (c : Ctr) : (s.bump c).fuses = s.fuses := rfl
@[simp] theorem State.bump_time (s : State) (c : Ctr) : (s.bump c).time = s.time := rfl
@[simp] theorem State.bump_seg (s : State) (c : Ctr) : (s.bump c).seg = s.seg := rfl
@[simp] theorem State.bump_agents (s : State) (c : Ctr) : (s.bump c).agents = s.agents := rfl
@[simp] theorem State.bump_maps (s : State) (c : Ctr) : (s.bump c).maps = s.maps := rfl
@[simp] theorem State.bump_net (s : State) (c : Ctr) : (s.bump c).net = s.net := rfl
@[simp] theorem State.bump_wickets (s : State) (c : Ctr) : (s.bump c).wickets = s.wickets := rfl
@[simp] theorem State.bump_ws (s : State) (c : Ctr) : (s.bump c).ws = s.ws := rfl
@[simp] theorem State.bump_shapes (s : State) (c : Ctr) : (s.bump c).shapes = s.shapes := rfl
@[simp] theorem State.bump_tills (s : State) (c : Ctr) : (s.bump c).tills = s.tills := rfl
@[simp] theorem State.bump_cond (s : State) (c : Ctr) : (s.bump c).cond = s.cond := rfl
@[simp] theorem State.bump_portReads (s : State) (c : Ctr) : (s.bump c).portReads = s.portReads := rfl
@[simp] theorem State.bump_chstat (s : State) (c : Ctr) : (s.bump c).chstat = s.chstat := rfl
@[simp] theorem State.bump_cellarState (s : State) (c : Ctr) : (s.bump c).cellarState = s.cellarState := rfl
@[simp] theorem State.bump_cellarGen (s : State) (c : Ctr) : (s.bump c).cellarGen = s.cellarGen := rfl
@[simp] theorem State.bump_cellarFloor (s : State) (c : Ctr) : (s.bump c).cellarFloor = s.cellarFloor := rfl
@[simp] theorem State.bump_cellarLocked (s : State) (c : Ctr) : (s.bump c).cellarLocked = s.cellarLocked := rfl
@[simp] theorem State.bump_saveLocked (s : State) (c : Ctr) : (s.bump c).saveLocked = s.saveLocked := rfl
@[simp] theorem State.bump_interleaveLocked (s : State) (c : Ctr) : (s.bump c).interleaveLocked = s.interleaveLocked := rfl
@[simp] theorem State.bump_ways (s : State) (c : Ctr) : (s.bump c).ways = s.ways := rfl
@[simp] theorem State.bump_lost (s : State) (c : Ctr) : (s.bump c).lost = s.lost := rfl
@[simp] theorem State.bump_au (s : State) (c : Ctr) : (s.bump c).au = s.au := rfl
@[simp] theorem State.bump_transfers (s : State) (c : Ctr) : (s.bump c).transfers = s.transfers := rfl
@[simp] theorem State.bump_exch (s : State) (c : Ctr) : (s.bump c).exch = s.exch := rfl
@[simp] theorem State.bump_assay (s : State) (c : Ctr) : (s.bump c).assay = s.assay := rfl
@[simp] theorem State.bump_power (s : State) (c : Ctr) : (s.bump c).power = s.power := rfl
@[simp] theorem State.bump_sec (s : State) (c : Ctr) : (s.bump c).sec = s.sec := rfl
@[simp] theorem State.bump_tally (s : State) (c : Ctr) : (s.bump c).tally = s.tally := rfl
@[simp] theorem State.bump_journal (s : State) (c : Ctr) : (s.bump c).journal = s.journal := rfl
@[simp] theorem State.bump_image (s : State) (c : Ctr) : (s.bump c).image = s.image := rfl
@[simp] theorem State.bump_coldDraw (s : State) (c : Ctr) : (s.bump c).coldDraw = s.coldDraw := rfl
@[simp] theorem State.bump_tap (s : State) (c : Ctr) : (s.bump c).tap = s.tap := rfl

/-! ### State.modStream writes `journal` alone -/

@[simp] theorem State.modStream_pending (s : State) (k : Nat) (f : Stream → Stream) : (s.modStream k f).pending = s.pending := rfl
@[simp] theorem State.modStream_out (s : State) (k : Nat) (f : Stream → Stream) : (s.modStream k f).out = s.out := rfl
@[simp] theorem State.modStream_freeCtr (s : State) (k : Nat) (f : Stream → Stream) : (s.modStream k f).freeCtr = s.freeCtr := rfl
@[simp] theorem State.modStream_boot (s : State) (k : Nat) (f : Stream → Stream) : (s.modStream k f).boot = s.boot := rfl
@[simp] theorem State.modStream_global (s : State) (k : Nat) (f : Stream → Stream) : (s.modStream k f).global = s.global := rfl
@[simp] theorem State.modStream_startSeen (s : State) (k : Nat) (f : Stream → Stream) : (s.modStream k f).startSeen = s.startSeen := rfl
@[simp] theorem State.modStream_resetCause (s : State) (k : Nat) (f : Stream → Stream) : (s.modStream k f).resetCause = s.resetCause := rfl
@[simp] theorem State.modStream_resuming (s : State) (k : Nat) (f : Stream → Stream) : (s.modStream k f).resuming = s.resuming := rfl
@[simp] theorem State.modStream_inReset (s : State) (k : Nat) (f : Stream → Stream) : (s.modStream k f).inReset = s.inReset := rfl
@[simp] theorem State.modStream_fatal (s : State) (k : Nat) (f : Stream → Stream) : (s.modStream k f).fatal = s.fatal := rfl
@[simp] theorem State.modStream_pins (s : State) (k : Nat) (f : Stream → Stream) : (s.modStream k f).pins = s.pins := rfl
@[simp] theorem State.modStream_fuses (s : State) (k : Nat) (f : Stream → Stream) : (s.modStream k f).fuses = s.fuses := rfl
@[simp] theorem State.modStream_time (s : State) (k : Nat) (f : Stream → Stream) : (s.modStream k f).time = s.time := rfl
@[simp] theorem State.modStream_chart (s : State) (k : Nat) (f : Stream → Stream) : (s.modStream k f).chart = s.chart := rfl
@[simp] theorem State.modStream_seg (s : State) (k : Nat) (f : Stream → Stream) : (s.modStream k f).seg = s.seg := rfl
@[simp] theorem State.modStream_agents (s : State) (k : Nat) (f : Stream → Stream) : (s.modStream k f).agents = s.agents := rfl
@[simp] theorem State.modStream_maps (s : State) (k : Nat) (f : Stream → Stream) : (s.modStream k f).maps = s.maps := rfl
@[simp] theorem State.modStream_net (s : State) (k : Nat) (f : Stream → Stream) : (s.modStream k f).net = s.net := rfl
@[simp] theorem State.modStream_wickets (s : State) (k : Nat) (f : Stream → Stream) : (s.modStream k f).wickets = s.wickets := rfl
@[simp] theorem State.modStream_ws (s : State) (k : Nat) (f : Stream → Stream) : (s.modStream k f).ws = s.ws := rfl
@[simp] theorem State.modStream_shapes (s : State) (k : Nat) (f : Stream → Stream) : (s.modStream k f).shapes = s.shapes := rfl
@[simp] theorem State.modStream_tills (s : State) (k : Nat) (f : Stream → Stream) : (s.modStream k f).tills = s.tills := rfl
@[simp] theorem State.modStream_cond (s : State) (k : Nat) (f : Stream → Stream) : (s.modStream k f).cond = s.cond := rfl
@[simp] theorem State.modStream_portReads (s : State) (k : Nat) (f : Stream → Stream) : (s.modStream k f).portReads = s.portReads := rfl
@[simp] theorem State.modStream_chstat (s : State) (k : Nat) (f : Stream → Stream) : (s.modStream k f).chstat = s.chstat := rfl
@[simp] theorem State.modStream_cellarState (s : State) (k : Nat) (f : Stream → Stream) : (s.modStream k f).cellarState = s.cellarState := rfl
@[simp] theorem State.modStream_cellarGen (s : State) (k : Nat) (f : Stream → Stream) : (s.modStream k f).cellarGen = s.cellarGen := rfl
@[simp] theorem State.modStream_cellarFloor (s : State) (k : Nat) (f : Stream → Stream) : (s.modStream k f).cellarFloor = s.cellarFloor := rfl
@[simp] theorem State.modStream_cellarLocked (s : State) (k : Nat) (f : Stream → Stream) : (s.modStream k f).cellarLocked = s.cellarLocked := rfl
@[simp] theorem State.modStream_saveLocked (s : State) (k : Nat) (f : Stream → Stream) : (s.modStream k f).saveLocked = s.saveLocked := rfl
@[simp] theorem State.modStream_interleaveLocked (s : State) (k : Nat) (f : Stream → Stream) : (s.modStream k f).interleaveLocked = s.interleaveLocked := rfl
@[simp] theorem State.modStream_ways (s : State) (k : Nat) (f : Stream → Stream) : (s.modStream k f).ways = s.ways := rfl
@[simp] theorem State.modStream_lost (s : State) (k : Nat) (f : Stream → Stream) : (s.modStream k f).lost = s.lost := rfl
@[simp] theorem State.modStream_au (s : State) (k : Nat) (f : Stream → Stream) : (s.modStream k f).au = s.au := rfl
@[simp] theorem State.modStream_transfers (s : State) (k : Nat) (f : Stream → Stream) : (s.modStream k f).transfers = s.transfers := rfl
@[simp] theorem State.modStream_exch (s : State) (k : Nat) (f : Stream → Stream) : (s.modStream k f).exch = s.exch := rfl
@[simp] theorem State.modStream_assay (s : State) (k : Nat) (f : Stream → Stream) : (s.modStream k f).assay = s.assay := rfl
@[simp] theorem State.modStream_power (s : State) (k : Nat) (f : Stream → Stream) : (s.modStream k f).power = s.power := rfl
@[simp] theorem State.modStream_sec (s : State) (k : Nat) (f : Stream → Stream) : (s.modStream k f).sec = s.sec := rfl
@[simp] theorem State.modStream_tally (s : State) (k : Nat) (f : Stream → Stream) : (s.modStream k f).tally = s.tally := rfl
@[simp] theorem State.modStream_image (s : State) (k : Nat) (f : Stream → Stream) : (s.modStream k f).image = s.image := rfl
@[simp] theorem State.modStream_coldDraw (s : State) (k : Nat) (f : Stream → Stream) : (s.modStream k f).coldDraw = s.coldDraw := rfl
@[simp] theorem State.modStream_tap (s : State) (k : Nat) (f : Stream → Stream) : (s.modStream k f).tap = s.tap := rfl

/-! ### State.modPower writes `power` alone -/

@[simp] theorem State.modPower_pending (s : State) (f : Power → Power) : (s.modPower f).pending = s.pending := rfl
@[simp] theorem State.modPower_out (s : State) (f : Power → Power) : (s.modPower f).out = s.out := rfl
@[simp] theorem State.modPower_freeCtr (s : State) (f : Power → Power) : (s.modPower f).freeCtr = s.freeCtr := rfl
@[simp] theorem State.modPower_boot (s : State) (f : Power → Power) : (s.modPower f).boot = s.boot := rfl
@[simp] theorem State.modPower_global (s : State) (f : Power → Power) : (s.modPower f).global = s.global := rfl
@[simp] theorem State.modPower_startSeen (s : State) (f : Power → Power) : (s.modPower f).startSeen = s.startSeen := rfl
@[simp] theorem State.modPower_resetCause (s : State) (f : Power → Power) : (s.modPower f).resetCause = s.resetCause := rfl
@[simp] theorem State.modPower_resuming (s : State) (f : Power → Power) : (s.modPower f).resuming = s.resuming := rfl
@[simp] theorem State.modPower_inReset (s : State) (f : Power → Power) : (s.modPower f).inReset = s.inReset := rfl
@[simp] theorem State.modPower_fatal (s : State) (f : Power → Power) : (s.modPower f).fatal = s.fatal := rfl
@[simp] theorem State.modPower_pins (s : State) (f : Power → Power) : (s.modPower f).pins = s.pins := rfl
@[simp] theorem State.modPower_fuses (s : State) (f : Power → Power) : (s.modPower f).fuses = s.fuses := rfl
@[simp] theorem State.modPower_time (s : State) (f : Power → Power) : (s.modPower f).time = s.time := rfl
@[simp] theorem State.modPower_chart (s : State) (f : Power → Power) : (s.modPower f).chart = s.chart := rfl
@[simp] theorem State.modPower_seg (s : State) (f : Power → Power) : (s.modPower f).seg = s.seg := rfl
@[simp] theorem State.modPower_agents (s : State) (f : Power → Power) : (s.modPower f).agents = s.agents := rfl
@[simp] theorem State.modPower_maps (s : State) (f : Power → Power) : (s.modPower f).maps = s.maps := rfl
@[simp] theorem State.modPower_net (s : State) (f : Power → Power) : (s.modPower f).net = s.net := rfl
@[simp] theorem State.modPower_wickets (s : State) (f : Power → Power) : (s.modPower f).wickets = s.wickets := rfl
@[simp] theorem State.modPower_ws (s : State) (f : Power → Power) : (s.modPower f).ws = s.ws := rfl
@[simp] theorem State.modPower_shapes (s : State) (f : Power → Power) : (s.modPower f).shapes = s.shapes := rfl
@[simp] theorem State.modPower_tills (s : State) (f : Power → Power) : (s.modPower f).tills = s.tills := rfl
@[simp] theorem State.modPower_cond (s : State) (f : Power → Power) : (s.modPower f).cond = s.cond := rfl
@[simp] theorem State.modPower_portReads (s : State) (f : Power → Power) : (s.modPower f).portReads = s.portReads := rfl
@[simp] theorem State.modPower_chstat (s : State) (f : Power → Power) : (s.modPower f).chstat = s.chstat := rfl
@[simp] theorem State.modPower_cellarState (s : State) (f : Power → Power) : (s.modPower f).cellarState = s.cellarState := rfl
@[simp] theorem State.modPower_cellarGen (s : State) (f : Power → Power) : (s.modPower f).cellarGen = s.cellarGen := rfl
@[simp] theorem State.modPower_cellarFloor (s : State) (f : Power → Power) : (s.modPower f).cellarFloor = s.cellarFloor := rfl
@[simp] theorem State.modPower_cellarLocked (s : State) (f : Power → Power) : (s.modPower f).cellarLocked = s.cellarLocked := rfl
@[simp] theorem State.modPower_saveLocked (s : State) (f : Power → Power) : (s.modPower f).saveLocked = s.saveLocked := rfl
@[simp] theorem State.modPower_interleaveLocked (s : State) (f : Power → Power) : (s.modPower f).interleaveLocked = s.interleaveLocked := rfl
@[simp] theorem State.modPower_ways (s : State) (f : Power → Power) : (s.modPower f).ways = s.ways := rfl
@[simp] theorem State.modPower_lost (s : State) (f : Power → Power) : (s.modPower f).lost = s.lost := rfl
@[simp] theorem State.modPower_au (s : State) (f : Power → Power) : (s.modPower f).au = s.au := rfl
@[simp] theorem State.modPower_transfers (s : State) (f : Power → Power) : (s.modPower f).transfers = s.transfers := rfl
@[simp] theorem State.modPower_exch (s : State) (f : Power → Power) : (s.modPower f).exch = s.exch := rfl
@[simp] theorem State.modPower_assay (s : State) (f : Power → Power) : (s.modPower f).assay = s.assay := rfl
@[simp] theorem State.modPower_sec (s : State) (f : Power → Power) : (s.modPower f).sec = s.sec := rfl
@[simp] theorem State.modPower_tally (s : State) (f : Power → Power) : (s.modPower f).tally = s.tally := rfl
@[simp] theorem State.modPower_journal (s : State) (f : Power → Power) : (s.modPower f).journal = s.journal := rfl
@[simp] theorem State.modPower_image (s : State) (f : Power → Power) : (s.modPower f).image = s.image := rfl
@[simp] theorem State.modPower_coldDraw (s : State) (f : Power → Power) : (s.modPower f).coldDraw = s.coldDraw := rfl
@[simp] theorem State.modPower_tap (s : State) (f : Power → Power) : (s.modPower f).tap = s.tap := rfl

/-! ### State.modSession writes `sec` alone -/

@[simp] theorem State.modSession_pending (s : State) (k : Nat) (f : Session → Session) : (s.modSession k f).pending = s.pending := rfl
@[simp] theorem State.modSession_out (s : State) (k : Nat) (f : Session → Session) : (s.modSession k f).out = s.out := rfl
@[simp] theorem State.modSession_freeCtr (s : State) (k : Nat) (f : Session → Session) : (s.modSession k f).freeCtr = s.freeCtr := rfl
@[simp] theorem State.modSession_boot (s : State) (k : Nat) (f : Session → Session) : (s.modSession k f).boot = s.boot := rfl
@[simp] theorem State.modSession_global (s : State) (k : Nat) (f : Session → Session) : (s.modSession k f).global = s.global := rfl
@[simp] theorem State.modSession_startSeen (s : State) (k : Nat) (f : Session → Session) : (s.modSession k f).startSeen = s.startSeen := rfl
@[simp] theorem State.modSession_resetCause (s : State) (k : Nat) (f : Session → Session) : (s.modSession k f).resetCause = s.resetCause := rfl
@[simp] theorem State.modSession_resuming (s : State) (k : Nat) (f : Session → Session) : (s.modSession k f).resuming = s.resuming := rfl
@[simp] theorem State.modSession_inReset (s : State) (k : Nat) (f : Session → Session) : (s.modSession k f).inReset = s.inReset := rfl
@[simp] theorem State.modSession_fatal (s : State) (k : Nat) (f : Session → Session) : (s.modSession k f).fatal = s.fatal := rfl
@[simp] theorem State.modSession_pins (s : State) (k : Nat) (f : Session → Session) : (s.modSession k f).pins = s.pins := rfl
@[simp] theorem State.modSession_fuses (s : State) (k : Nat) (f : Session → Session) : (s.modSession k f).fuses = s.fuses := rfl
@[simp] theorem State.modSession_time (s : State) (k : Nat) (f : Session → Session) : (s.modSession k f).time = s.time := rfl
@[simp] theorem State.modSession_chart (s : State) (k : Nat) (f : Session → Session) : (s.modSession k f).chart = s.chart := rfl
@[simp] theorem State.modSession_seg (s : State) (k : Nat) (f : Session → Session) : (s.modSession k f).seg = s.seg := rfl
@[simp] theorem State.modSession_agents (s : State) (k : Nat) (f : Session → Session) : (s.modSession k f).agents = s.agents := rfl
@[simp] theorem State.modSession_maps (s : State) (k : Nat) (f : Session → Session) : (s.modSession k f).maps = s.maps := rfl
@[simp] theorem State.modSession_net (s : State) (k : Nat) (f : Session → Session) : (s.modSession k f).net = s.net := rfl
@[simp] theorem State.modSession_wickets (s : State) (k : Nat) (f : Session → Session) : (s.modSession k f).wickets = s.wickets := rfl
@[simp] theorem State.modSession_ws (s : State) (k : Nat) (f : Session → Session) : (s.modSession k f).ws = s.ws := rfl
@[simp] theorem State.modSession_shapes (s : State) (k : Nat) (f : Session → Session) : (s.modSession k f).shapes = s.shapes := rfl
@[simp] theorem State.modSession_tills (s : State) (k : Nat) (f : Session → Session) : (s.modSession k f).tills = s.tills := rfl
@[simp] theorem State.modSession_cond (s : State) (k : Nat) (f : Session → Session) : (s.modSession k f).cond = s.cond := rfl
@[simp] theorem State.modSession_portReads (s : State) (k : Nat) (f : Session → Session) : (s.modSession k f).portReads = s.portReads := rfl
@[simp] theorem State.modSession_chstat (s : State) (k : Nat) (f : Session → Session) : (s.modSession k f).chstat = s.chstat := rfl
@[simp] theorem State.modSession_cellarState (s : State) (k : Nat) (f : Session → Session) : (s.modSession k f).cellarState = s.cellarState := rfl
@[simp] theorem State.modSession_cellarGen (s : State) (k : Nat) (f : Session → Session) : (s.modSession k f).cellarGen = s.cellarGen := rfl
@[simp] theorem State.modSession_cellarFloor (s : State) (k : Nat) (f : Session → Session) : (s.modSession k f).cellarFloor = s.cellarFloor := rfl
@[simp] theorem State.modSession_cellarLocked (s : State) (k : Nat) (f : Session → Session) : (s.modSession k f).cellarLocked = s.cellarLocked := rfl
@[simp] theorem State.modSession_saveLocked (s : State) (k : Nat) (f : Session → Session) : (s.modSession k f).saveLocked = s.saveLocked := rfl
@[simp] theorem State.modSession_interleaveLocked (s : State) (k : Nat) (f : Session → Session) : (s.modSession k f).interleaveLocked = s.interleaveLocked := rfl
@[simp] theorem State.modSession_ways (s : State) (k : Nat) (f : Session → Session) : (s.modSession k f).ways = s.ways := rfl
@[simp] theorem State.modSession_lost (s : State) (k : Nat) (f : Session → Session) : (s.modSession k f).lost = s.lost := rfl
@[simp] theorem State.modSession_au (s : State) (k : Nat) (f : Session → Session) : (s.modSession k f).au = s.au := rfl
@[simp] theorem State.modSession_transfers (s : State) (k : Nat) (f : Session → Session) : (s.modSession k f).transfers = s.transfers := rfl
@[simp] theorem State.modSession_exch (s : State) (k : Nat) (f : Session → Session) : (s.modSession k f).exch = s.exch := rfl
@[simp] theorem State.modSession_assay (s : State) (k : Nat) (f : Session → Session) : (s.modSession k f).assay = s.assay := rfl
@[simp] theorem State.modSession_power (s : State) (k : Nat) (f : Session → Session) : (s.modSession k f).power = s.power := rfl
@[simp] theorem State.modSession_tally (s : State) (k : Nat) (f : Session → Session) : (s.modSession k f).tally = s.tally := rfl
@[simp] theorem State.modSession_journal (s : State) (k : Nat) (f : Session → Session) : (s.modSession k f).journal = s.journal := rfl
@[simp] theorem State.modSession_image (s : State) (k : Nat) (f : Session → Session) : (s.modSession k f).image = s.image := rfl
@[simp] theorem State.modSession_coldDraw (s : State) (k : Nat) (f : Session → Session) : (s.modSession k f).coldDraw = s.coldDraw := rfl
@[simp] theorem State.modSession_tap (s : State) (k : Nat) (f : Session → Session) : (s.modSession k f).tap = s.tap := rfl

/-! ### State.modChan writes `tally` alone -/

@[simp] theorem State.modChan_pending (s : State) (c : Nat) (f : Chan → Chan) : (s.modChan c f).pending = s.pending := rfl
@[simp] theorem State.modChan_out (s : State) (c : Nat) (f : Chan → Chan) : (s.modChan c f).out = s.out := rfl
@[simp] theorem State.modChan_freeCtr (s : State) (c : Nat) (f : Chan → Chan) : (s.modChan c f).freeCtr = s.freeCtr := rfl
@[simp] theorem State.modChan_boot (s : State) (c : Nat) (f : Chan → Chan) : (s.modChan c f).boot = s.boot := rfl
@[simp] theorem State.modChan_global (s : State) (c : Nat) (f : Chan → Chan) : (s.modChan c f).global = s.global := rfl
@[simp] theorem State.modChan_startSeen (s : State) (c : Nat) (f : Chan → Chan) : (s.modChan c f).startSeen = s.startSeen := rfl
@[simp] theorem State.modChan_resetCause (s : State) (c : Nat) (f : Chan → Chan) : (s.modChan c f).resetCause = s.resetCause := rfl
@[simp] theorem State.modChan_resuming (s : State) (c : Nat) (f : Chan → Chan) : (s.modChan c f).resuming = s.resuming := rfl
@[simp] theorem State.modChan_inReset (s : State) (c : Nat) (f : Chan → Chan) : (s.modChan c f).inReset = s.inReset := rfl
@[simp] theorem State.modChan_fatal (s : State) (c : Nat) (f : Chan → Chan) : (s.modChan c f).fatal = s.fatal := rfl
@[simp] theorem State.modChan_pins (s : State) (c : Nat) (f : Chan → Chan) : (s.modChan c f).pins = s.pins := rfl
@[simp] theorem State.modChan_fuses (s : State) (c : Nat) (f : Chan → Chan) : (s.modChan c f).fuses = s.fuses := rfl
@[simp] theorem State.modChan_time (s : State) (c : Nat) (f : Chan → Chan) : (s.modChan c f).time = s.time := rfl
@[simp] theorem State.modChan_chart (s : State) (c : Nat) (f : Chan → Chan) : (s.modChan c f).chart = s.chart := rfl
@[simp] theorem State.modChan_seg (s : State) (c : Nat) (f : Chan → Chan) : (s.modChan c f).seg = s.seg := rfl
@[simp] theorem State.modChan_agents (s : State) (c : Nat) (f : Chan → Chan) : (s.modChan c f).agents = s.agents := rfl
@[simp] theorem State.modChan_maps (s : State) (c : Nat) (f : Chan → Chan) : (s.modChan c f).maps = s.maps := rfl
@[simp] theorem State.modChan_net (s : State) (c : Nat) (f : Chan → Chan) : (s.modChan c f).net = s.net := rfl
@[simp] theorem State.modChan_wickets (s : State) (c : Nat) (f : Chan → Chan) : (s.modChan c f).wickets = s.wickets := rfl
@[simp] theorem State.modChan_ws (s : State) (c : Nat) (f : Chan → Chan) : (s.modChan c f).ws = s.ws := rfl
@[simp] theorem State.modChan_shapes (s : State) (c : Nat) (f : Chan → Chan) : (s.modChan c f).shapes = s.shapes := rfl
@[simp] theorem State.modChan_tills (s : State) (c : Nat) (f : Chan → Chan) : (s.modChan c f).tills = s.tills := rfl
@[simp] theorem State.modChan_cond (s : State) (c : Nat) (f : Chan → Chan) : (s.modChan c f).cond = s.cond := rfl
@[simp] theorem State.modChan_portReads (s : State) (c : Nat) (f : Chan → Chan) : (s.modChan c f).portReads = s.portReads := rfl
@[simp] theorem State.modChan_chstat (s : State) (c : Nat) (f : Chan → Chan) : (s.modChan c f).chstat = s.chstat := rfl
@[simp] theorem State.modChan_cellarState (s : State) (c : Nat) (f : Chan → Chan) : (s.modChan c f).cellarState = s.cellarState := rfl
@[simp] theorem State.modChan_cellarGen (s : State) (c : Nat) (f : Chan → Chan) : (s.modChan c f).cellarGen = s.cellarGen := rfl
@[simp] theorem State.modChan_cellarFloor (s : State) (c : Nat) (f : Chan → Chan) : (s.modChan c f).cellarFloor = s.cellarFloor := rfl
@[simp] theorem State.modChan_cellarLocked (s : State) (c : Nat) (f : Chan → Chan) : (s.modChan c f).cellarLocked = s.cellarLocked := rfl
@[simp] theorem State.modChan_saveLocked (s : State) (c : Nat) (f : Chan → Chan) : (s.modChan c f).saveLocked = s.saveLocked := rfl
@[simp] theorem State.modChan_interleaveLocked (s : State) (c : Nat) (f : Chan → Chan) : (s.modChan c f).interleaveLocked = s.interleaveLocked := rfl
@[simp] theorem State.modChan_ways (s : State) (c : Nat) (f : Chan → Chan) : (s.modChan c f).ways = s.ways := rfl
@[simp] theorem State.modChan_lost (s : State) (c : Nat) (f : Chan → Chan) : (s.modChan c f).lost = s.lost := rfl
@[simp] theorem State.modChan_au (s : State) (c : Nat) (f : Chan → Chan) : (s.modChan c f).au = s.au := rfl
@[simp] theorem State.modChan_transfers (s : State) (c : Nat) (f : Chan → Chan) : (s.modChan c f).transfers = s.transfers := rfl
@[simp] theorem State.modChan_exch (s : State) (c : Nat) (f : Chan → Chan) : (s.modChan c f).exch = s.exch := rfl
@[simp] theorem State.modChan_assay (s : State) (c : Nat) (f : Chan → Chan) : (s.modChan c f).assay = s.assay := rfl
@[simp] theorem State.modChan_power (s : State) (c : Nat) (f : Chan → Chan) : (s.modChan c f).power = s.power := rfl
@[simp] theorem State.modChan_sec (s : State) (c : Nat) (f : Chan → Chan) : (s.modChan c f).sec = s.sec := rfl
@[simp] theorem State.modChan_journal (s : State) (c : Nat) (f : Chan → Chan) : (s.modChan c f).journal = s.journal := rfl
@[simp] theorem State.modChan_image (s : State) (c : Nat) (f : Chan → Chan) : (s.modChan c f).image = s.image := rfl
@[simp] theorem State.modChan_coldDraw (s : State) (c : Nat) (f : Chan → Chan) : (s.modChan c f).coldDraw = s.coldDraw := rfl
@[simp] theorem State.modChan_tap (s : State) (c : Nat) (f : Chan → Chan) : (s.modChan c f).tap = s.tap := rfl

/-! ### State.freeUsed writes `freeCtr` alone -/

@[simp] theorem State.freeUsed_pending (s : State) : (s.freeUsed).pending = s.pending := rfl
@[simp] theorem State.freeUsed_out (s : State) : (s.freeUsed).out = s.out := rfl
@[simp] theorem State.freeUsed_boot (s : State) : (s.freeUsed).boot = s.boot := rfl
@[simp] theorem State.freeUsed_global (s : State) : (s.freeUsed).global = s.global := rfl
@[simp] theorem State.freeUsed_startSeen (s : State) : (s.freeUsed).startSeen = s.startSeen := rfl
@[simp] theorem State.freeUsed_resetCause (s : State) : (s.freeUsed).resetCause = s.resetCause := rfl
@[simp] theorem State.freeUsed_resuming (s : State) : (s.freeUsed).resuming = s.resuming := rfl
@[simp] theorem State.freeUsed_inReset (s : State) : (s.freeUsed).inReset = s.inReset := rfl
@[simp] theorem State.freeUsed_fatal (s : State) : (s.freeUsed).fatal = s.fatal := rfl
@[simp] theorem State.freeUsed_pins (s : State) : (s.freeUsed).pins = s.pins := rfl
@[simp] theorem State.freeUsed_fuses (s : State) : (s.freeUsed).fuses = s.fuses := rfl
@[simp] theorem State.freeUsed_time (s : State) : (s.freeUsed).time = s.time := rfl
@[simp] theorem State.freeUsed_chart (s : State) : (s.freeUsed).chart = s.chart := rfl
@[simp] theorem State.freeUsed_seg (s : State) : (s.freeUsed).seg = s.seg := rfl
@[simp] theorem State.freeUsed_agents (s : State) : (s.freeUsed).agents = s.agents := rfl
@[simp] theorem State.freeUsed_maps (s : State) : (s.freeUsed).maps = s.maps := rfl
@[simp] theorem State.freeUsed_net (s : State) : (s.freeUsed).net = s.net := rfl
@[simp] theorem State.freeUsed_wickets (s : State) : (s.freeUsed).wickets = s.wickets := rfl
@[simp] theorem State.freeUsed_ws (s : State) : (s.freeUsed).ws = s.ws := rfl
@[simp] theorem State.freeUsed_shapes (s : State) : (s.freeUsed).shapes = s.shapes := rfl
@[simp] theorem State.freeUsed_tills (s : State) : (s.freeUsed).tills = s.tills := rfl
@[simp] theorem State.freeUsed_cond (s : State) : (s.freeUsed).cond = s.cond := rfl
@[simp] theorem State.freeUsed_portReads (s : State) : (s.freeUsed).portReads = s.portReads := rfl
@[simp] theorem State.freeUsed_chstat (s : State) : (s.freeUsed).chstat = s.chstat := rfl
@[simp] theorem State.freeUsed_cellarState (s : State) : (s.freeUsed).cellarState = s.cellarState := rfl
@[simp] theorem State.freeUsed_cellarGen (s : State) : (s.freeUsed).cellarGen = s.cellarGen := rfl
@[simp] theorem State.freeUsed_cellarFloor (s : State) : (s.freeUsed).cellarFloor = s.cellarFloor := rfl
@[simp] theorem State.freeUsed_cellarLocked (s : State) : (s.freeUsed).cellarLocked = s.cellarLocked := rfl
@[simp] theorem State.freeUsed_saveLocked (s : State) : (s.freeUsed).saveLocked = s.saveLocked := rfl
@[simp] theorem State.freeUsed_interleaveLocked (s : State) : (s.freeUsed).interleaveLocked = s.interleaveLocked := rfl
@[simp] theorem State.freeUsed_ways (s : State) : (s.freeUsed).ways = s.ways := rfl
@[simp] theorem State.freeUsed_lost (s : State) : (s.freeUsed).lost = s.lost := rfl
@[simp] theorem State.freeUsed_au (s : State) : (s.freeUsed).au = s.au := rfl
@[simp] theorem State.freeUsed_transfers (s : State) : (s.freeUsed).transfers = s.transfers := rfl
@[simp] theorem State.freeUsed_exch (s : State) : (s.freeUsed).exch = s.exch := rfl
@[simp] theorem State.freeUsed_assay (s : State) : (s.freeUsed).assay = s.assay := rfl
@[simp] theorem State.freeUsed_power (s : State) : (s.freeUsed).power = s.power := rfl
@[simp] theorem State.freeUsed_sec (s : State) : (s.freeUsed).sec = s.sec := rfl
@[simp] theorem State.freeUsed_tally (s : State) : (s.freeUsed).tally = s.tally := rfl
@[simp] theorem State.freeUsed_journal (s : State) : (s.freeUsed).journal = s.journal := rfl
@[simp] theorem State.freeUsed_image (s : State) : (s.freeUsed).image = s.image := rfl
@[simp] theorem State.freeUsed_coldDraw (s : State) : (s.freeUsed).coldDraw = s.coldDraw := rfl
@[simp] theorem State.freeUsed_tap (s : State) : (s.freeUsed).tap = s.tap := rfl

end Sys2Proof.Machine
end

