-- ==== Sys2Proof/Laws/Window.lean ====
section
/-! SUPPORT. The path of a window write that reaches its owner: each command that stands for one, as its owner's effect. -/

namespace Sys2Proof.Machine
set_option linter.all false

theorem windowCmd_open {s : State} (hs : s.windowOpen) (c : Instr) (h : Option LineData) (i j v size : Nat) :
    windowCmd s c h i j v size = (writeEntry (s.gev 0x10C) (s.window h) i j v size).1 := by
  obtain ⟨h1, h2, h3, -, -⟩ := hs
  simp [windowCmd, windowWrite, h1, h2, h3]

/-- The window may write every entry from 0x1000 to 0xCFFF outside 0x9000 to 0x9FFF (R459, R464). -/
theorem mayWrite_plain {role i j : Nat} (h : role ≠ 0) (lo : 0x1000 ≤ i) (hi : i < 0xD000) (h9 : i < 0x9000 ∨ 0xA000 ≤ i) :
    mayWrite role i j = true := by
  have a : ¬ i < 0x1000 := by omega
  have b : ¬ (0xD000 ≤ i) := by omega
  have c : ¬ (0xF000 ≤ i) := by omega
  have d : ¬ (0x9000 ≤ i ∧ i < 0xA000) := by omega
  simp [mayWrite, a, b, c, d, h]

/-- What an entry must be for a write of 8 bytes to reach its owner. -/
theorem firstCheck_ok {s : State} {a : Author} {i j : Nat} {e : Entry} (hq : s.sec.quarantine = false)
    (hm : mayWrite a.role i j = true) (he : entryAt s.build i j = some e) (ha : e.acc ≠ .ro) (hf : e.cls ≠ .f)
    (hl : e.acc = .rwl → s.lockedEntry i = false) (hg : s.gone i = false) (hw : e.ty.long = false) :
    firstCheck s a i j 8 = .ok := by
  simp only [firstCheck, hq, hm, he, hg, hw]
  simp only [Bool.not_true, Bool.or_self, Bool.false_eq_true, ↓reduceIte, Bool.or_eq_true, beq_iff_eq, ha, hf, or_self]
  by_cases h : e.acc = .rwl
  · simp [h, hl h]
  · simp [h]

theorem writeEntry_command {s : State} {a : Author} {i j v : Nat} {e : Entry} (h : firstCheck s a i j 8 = .ok)
    (he : entryAt s.build i j = some e) (ha : e.acc = .cmd) (hi : i ≠ 0x1110) :
    (writeEntry s a i j v 8).1 = applied (command s a i j (ownerMask i j (cutTo e.ty v))) := by
  simp [writeEntry, h, he, hi, applyOwner, ha]

/-- A write of a command entry from the window. -/
theorem windowCmd_command {s : State} (hs : s.windowOpen) (c : Instr) (h : Option LineData) (i j v : Nat)
    (hm : mayWrite s.windowRole i j = true) (he : entryAt s.build i j = some cmdV) (hg : s.gone i = false)
    (hi : i ≠ 0x1110) :
    windowCmd s c h i j v 8 = applied (command (s.gev 0x10C) (s.window h) i j (ownerMask i j (v % 2 ^ 8))) := by
  rw [windowCmd_open hs]
  have he' : entryAt (s.gev 0x10C).build i j = some cmdV := by
    obtain ⟨c, hc⟩ := gev_eq s 0x10C 0xFF; rw [hc]; exact he
  have hq' : (s.gev 0x10C).sec.quarantine = false := by
    obtain ⟨c, hc⟩ := gev_eq s 0x10C 0xFF; rw [hc]; exact hs.2.2.2.1
  have hg' : (s.gev 0x10C).gone i = false := by
    obtain ⟨c, hc⟩ := gev_eq s 0x10C 0xFF; rw [hc]; exact hg
  rw [writeEntry_command (firstCheck_ok (a := s.window h) hq' hm he' (by decide) (by decide) (by simp [cmdV]) hg' (by decide)) he' rfl hi]
  rfl


/-! ## The command entries -/

theorem gone_none {s : State} {i : Nat} (h : behindTill i = none) : s.gone i = false := by simp [State.gone, h]

theorem behindTill_none {i : Nat} (h1 : i < 0x3000 ∨ 0x3900 ≤ i) (h2 : i < 0x4020 ∨ 0x4032 ≤ i) (h3 : i < 0x4110 ∨ 0x4122 ≤ i)
    (h4 : i < 0x4210 ∨ 0x4222 ≤ i) (h5 : i < 0x8010 ∨ 0x8022 ≤ i) (h6 : i < 0xB600 ∨ 0xB612 ≤ i) : behindTill i = none := by
  unfold behindTill
  repeat refine (if_neg (by simp only [Bool.and_eq_true, decide_eq_true_eq]; omega)).trans ?_
  rfl

/-- The indices of the entries that name no Till, Wicket, port, node, link, agent, channel or stream. -/
def rowIndices : List Nat := [0x1000, 0x1001, 0x1002, 0x1100, 0x1110, 0x2010, 0x2011, 0x2012, 0x2020, 0x2030, 0x2080, 0x2090, 0x3F00,
  0x3F10, 0x4010, 0x4011, 0x4012, 0x4100, 0x4101, 0x4200, 0x4300, 0x4310, 0x5000, 0x6010, 0x6800, 0x7000, 0x7010, 0x8000,
  0x8001, 0x8040, 0x8050, 0x8051, 0x8060, 0x8070, 0x8080, 0x9000, 0x9001, 0x9011, 0x9020, 0xB800, 0xC010, 0xC011]

theorem findRow_none {l : List ERow} {i j : Nat} (hl : l.all (fun r => rowIndices.contains r.1) = true) (h : i ∉ rowIndices) :
    findRow l i j = none := by
  unfold findRow
  rw [List.find?_eq_none.mpr]
  · rfl
  · intro r hr
    have := List.all_eq_true.mp hl r hr
    simp only [List.contains_iff_mem] at this
    have : r.1 ≠ i := fun e => h (e ▸ this)
    simp [this]

theorem entryAt_indexed {b : Build} {i j : Nat} (h : i ∉ rowIndices) (h9 : i < 0x9010 ∨ 0x9014 ≤ i) :
    entryAt b i j = indexedRow b i j := by
  have e1 : i ≠ 0x3F10 := fun e => h (e ▸ by decide)
  have e2 : i ≠ 0x8050 := fun e => h (e ▸ by decide)
  have e3 : i ≠ 0xC011 := fun e => h (e ▸ by decide)
  have key : ∀ l : List ERow, l.all (fun r => rowIndices.contains r.1) = true →
      (match findRow l i j with | some e => some e | none => indexedRow b i j) = indexedRow b i j := by
    intro l hl; rw [findRow_none hl h]
  unfold entryAt
  repeat refine (if_neg (by simp only [Bool.and_eq_true, decide_eq_true_eq, beq_iff_eq]; omega)).trans ?_
  refine key _ ?_
  split <;> decide

theorem entryAt_agentCmd {b : Build} {n : Nat} (h : n < 1024) : entryAt b (0xA000 + n) 3 = some cmdV := by
  rw [entryAt_indexed (by simp only [rowIndices, List.mem_cons, List.not_mem_nil, or_false]; omega) (by omega)]
  unfold indexedRow
  repeat refine (if_neg (by simp only [Bool.and_eq_true, decide_eq_true_eq, beq_iff_eq]; omega)).trans ?_
  refine (if_pos ?_).trans ?_
  · simp only [Bool.and_eq_true, decide_eq_true_eq]; omega
  · rfl

theorem entryAt_agentCfg {b : Build} {n : Nat} (h : n < 1024) : entryAt b (0xA000 + n) 0 = some (rwK .u32 0x01000000) := by
  rw [entryAt_indexed (by simp only [rowIndices, List.mem_cons, List.not_mem_nil, or_false]; omega) (by omega)]
  unfold indexedRow
  repeat refine (if_neg (by simp only [Bool.and_eq_true, decide_eq_true_eq, beq_iff_eq]; omega)).trans ?_
  refine (if_pos ?_).trans ?_
  · simp only [Bool.and_eq_true, decide_eq_true_eq]; omega
  · rfl

theorem entryAt_wicket {b : Build} {n j : Nat} (h : b.hasWicket n = true) : entryAt b (0x6000 + n) j = wicketRow j := by
  have hn : n ≤ 8 := by
    have h' : n < b.wickets ∨ n = 8 := by simpa [Build.hasWicket, Build.ws] using h
    have : b.wickets ≤ 8 := by cases b <;> decide
    omega
  rw [entryAt_indexed (by simp only [rowIndices, List.mem_cons, List.not_mem_nil, or_false]; omega) (by omega)]
  unfold indexedRow
  repeat refine (if_neg (by simp only [Bool.and_eq_true, decide_eq_true_eq, beq_iff_eq]; omega)).trans ?_
  refine (if_pos ?_).trans ?_
  · simp only [Bool.and_eq_true, decide_eq_true_eq]; omega
  · refine (if_pos ?_).trans rfl
    rw [show 0x6000 + n - 0x6000 = n by omega]; exact h

theorem entryAt_way {b : Build} {n : Nat} (h : n < 16) : entryAt b (0x3F20 + n) 0 = some cmdV := by
  rw [entryAt_indexed (by simp only [rowIndices, List.mem_cons, List.not_mem_nil, or_false]; omega) (by omega)]
  unfold indexedRow
  repeat refine (if_neg (by simp only [Bool.and_eq_true, decide_eq_true_eq, beq_iff_eq]; omega)).trans ?_
  refine (if_pos ?_).trans ?_
  · simp only [Bool.and_eq_true, decide_eq_true_eq]; omega
  · rfl

theorem entryAt_shaper {b : Build} {n j : Nat} (h : n < 1024) : entryAt b (0x6100 + n) j = shaperRow j := by
  rw [entryAt_indexed (by simp only [rowIndices, List.mem_cons, List.not_mem_nil, or_false]; omega) (by omega)]
  unfold indexedRow
  repeat refine (if_neg (by simp only [Bool.and_eq_true, decide_eq_true_eq, beq_iff_eq]; omega)).trans ?_
  refine (if_pos ?_).trans ?_
  · simp only [Bool.and_eq_true, decide_eq_true_eq]; omega
  · rfl

theorem entryAt_tillControl {b : Build} {n : Nat} (h : b.hasTill n = true) : entryAt b (0x7100 + n) 0 = some cmdV := by
  have hn : n < 18 := by
    have h' : n < b.tills := by simpa [Build.hasTill] using h
    have : b.tills ≤ 18 := by cases b <;> decide
    omega
  rw [entryAt_indexed (by simp only [rowIndices, List.mem_cons, List.not_mem_nil, or_false]; omega) (by omega)]
  unfold indexedRow
  repeat refine (if_neg (by simp only [Bool.and_eq_true, decide_eq_true_eq, beq_iff_eq]; omega)).trans ?_
  refine (if_pos ?_).trans ?_
  · simp only [Bool.and_eq_true, decide_eq_true_eq]; omega
  · refine (if_pos ?_).trans rfl
    rw [show 0x7100 + n - 0x7100 = n by omega]; exact h

theorem entryAt_stream {b : Build} {n j : Nat} (h : n < 4) : entryAt b (0xC000 + n) j = streamRow n j := by
  rw [entryAt_indexed (by simp only [rowIndices, List.mem_cons, List.not_mem_nil, or_false]; omega) (by omega)]
  unfold indexedRow
  repeat refine (if_neg (by simp only [Bool.and_eq_true, decide_eq_true_eq, beq_iff_eq]; omega)).trans ?_
  refine (if_pos ?_).trans ?_
  · simp only [Bool.and_eq_true, decide_eq_true_eq]; omega
  · rw [show 0xC000 + n - 0xC000 = n by omega]

theorem entryAt_linkCmd {b : Build} {n : Nat} (hn : n < 128) (h : hasLink b n = true) : entryAt b (0x5400 + n) 1 = some cmdV := by
  rw [entryAt_indexed (by simp only [rowIndices, List.mem_cons, List.not_mem_nil, or_false]; omega) (by omega)]
  unfold indexedRow
  repeat refine (if_neg (by simp only [Bool.and_eq_true, decide_eq_true_eq, beq_iff_eq]; omega)).trans ?_
  refine (if_pos ?_).trans ?_
  · simp only [Bool.and_eq_true, decide_eq_true_eq]; omega
  · rw [show 0x5400 + n - 0x5400 = n by omega, h]; rfl

theorem entryAt_ffClear {b : Build} {n : Nat} (h : b.hasTill n = true) : entryAt b (0xC040 + n) 0x10 = some cmdV := by
  have hn : n < 18 := by
    have h' : n < b.tills := by simpa [Build.hasTill] using h
    have : b.tills ≤ 18 := by cases b <;> decide
    omega
  rw [entryAt_indexed (by simp only [rowIndices, List.mem_cons, List.not_mem_nil, or_false]; omega) (by omega)]
  unfold indexedRow
  repeat refine (if_neg (by simp only [Bool.and_eq_true, decide_eq_true_eq, beq_iff_eq]; omega)).trans ?_
  refine (if_pos ?_).trans ?_
  · simp only [Bool.and_eq_true, decide_eq_true_eq]; omega
  · refine (if_pos ?_).trans rfl
    rw [show 0xC040 + n - 0xC040 = n by omega]; exact h

theorem entryAt_slotCtrl {b : Build} {n : Nat} (h : n < b.wickets) : entryAt b (0xC800 + n) 1 = some (rwK .u16 0x0040) := by
  have hn : n < 8 := by
    have : b.wickets ≤ 8 := by cases b <;> decide
    omega
  rw [entryAt_indexed (by simp only [rowIndices, List.mem_cons, List.not_mem_nil, or_false]; omega) (by omega)]
  unfold indexedRow
  repeat refine (if_neg (by simp only [Bool.and_eq_true, decide_eq_true_eq, beq_iff_eq]; omega)).trans ?_
  refine (if_pos ?_).trans ?_
  · simp only [Bool.and_eq_true, decide_eq_true_eq]; omega
  · refine (if_pos ?_).trans rfl
    rw [show 0xC800 + n - 0xC800 = n by omega]; exact h

theorem entryAt_tenant {b : Build} {n j : Nat} (h0 : 0 < n) (h : n < 64) (hj : j < 16) : entryAt b (0x2040 + n) j = some (rwK .u64 0) := by
  rw [entryAt_indexed (by simp only [rowIndices, List.mem_cons, List.not_mem_nil, or_false]; omega) (by omega)]
  unfold indexedRow
  repeat refine (if_neg (by simp only [Bool.and_eq_true, decide_eq_true_eq, beq_iff_eq]; omega)).trans ?_
  refine (if_pos ?_).trans ?_
  · simp only [Bool.and_eq_true, decide_eq_true_eq]; omega
  · exact if_pos hj

theorem entryAt_escrow {b : Build} {n j : Nat} (h : n < 1024) (hj : j < 2) : entryAt b (0x4400 + n) j = some (rwK .u16 0) := by
  rw [entryAt_indexed (by simp only [rowIndices, List.mem_cons, List.not_mem_nil, or_false]; omega) (by omega)]
  unfold indexedRow
  repeat refine (if_neg (by simp only [Bool.and_eq_true, decide_eq_true_eq, beq_iff_eq]; omega)).trans ?_
  refine (if_pos ?_).trans ?_
  · simp only [Bool.and_eq_true, decide_eq_true_eq]; omega
  · exact if_pos (by omega)

/-! ## The owners' effects -/

theorem command_other {s : State} {a : Author} {i j v : Nat} (hc : controlOf i j = none)
    (h : i ∉ [0x1100, 0x2010, 0x2012, 0x3F00, 0x3F10, 0x4310, 0x5000, 0x8050, 0x9000, 0x9011, 0xB800]) :
    command s a i j v =
      (if 0x5400 ≤ i && i < 0x5480 then linkCmd s (i - 0x5400) v
      else if 0x6000 ≤ i && i ≤ 0x6008 && j == 2 then (if v == 1 then linkReset s (i - 0x6000) else s)
      else if 0xA000 ≤ i && i < 0xA400 then agentCmd s (i - 0xA000) v
      else if 0xC040 ≤ i && i < 0xC052 then (if v == 1 then ffClear s (i - 0xC040) else s)
      else s) := by
  unfold command
  rw [hc]
  dsimp only
  split <;> first | rfl | (exact absurd h (by decide))

theorem ownerMask_command {i j v : Nat} (h1 : i < 0x5100 ∨ 0x5240 ≤ i) (h2 : i < 0xB600 ∨ 0xB612 ≤ i) (h3 : i ≠ 0xB700) :
    ownerMask i j v = v := by
  unfold ownerMask
  repeat refine (if_neg (by simp only [Bool.and_eq_true, Bool.or_eq_true, decide_eq_true_eq, beq_iff_eq]; omega)).trans ?_
  rfl

/-- A window write that reached its owner: it is counted as an event and as an applied write (R457, R488). -/
def reached (s : State) (f : State → State) : State := applied (f (s.gev 0x10C))

/-- A command entry that the window writes with `v`. -/
theorem chartCmd_command {s : State} (hs : s.windowOpen) {c : Instr} {i j v : Nat} {h : Option LineData}
    (hop : chartOp c = some (i, j, v, 8, h)) (hr : chartRange c = true) (hm : mayWrite s.windowRole i j = true)
    (he : entryAt s.build i j = some cmdV) (hb : behindTill i = none) (hi : i ≠ 0x1110) (hv : v < 256)
    (h1 : i < 0x5100 ∨ 0x5240 ≤ i) (h2 : i < 0xB600 ∨ 0xB612 ≤ i) (h3 : i ≠ 0xB700) :
    chartCmd c s = .next (reached s (fun u => command u (s.window h) i j v)) := by
  unfold chartCmd writeCmd
  rw [if_pos hr, hop]
  dsimp only
  rw [windowCmd_command hs c h i j v hm he (gone_none hb) hi, ownerMask_command h1 h2 h3, Nat.mod_eq_of_lt (show v < 2 ^ 8 from hv)]
  rfl

/-- Closes the side conditions of a command at a fixed index outside 0x9000 to 0x9FFF. -/
theorem chartCmd_fixed {s : State} (hs : s.windowOpen) {c : Instr} {i j v : Nat} {h : Option LineData}
    (hop : chartOp c = some (i, j, v, 8, h)) (hr : chartRange c = true) (he : ∀ b, entryAt b i j = some cmdV)
    (hi : (0x1000 ≤ i ∧ i < 0xD000 ∧ (i < 0x9000 ∨ 0xA000 ≤ i)) ∧ behindTill i = none ∧ i ≠ 0x1110 ∧ v < 256
      ∧ (i < 0x5100 ∨ 0x5240 ≤ i) ∧ (i < 0xB600 ∨ 0xB612 ≤ i) ∧ i ≠ 0xB700) :
    chartCmd c s = .next (reached s (fun u => command u (s.window h) i j v)) :=
  chartCmd_command hs hop hr (mayWrite_plain hs.2.2.2.2 hi.1.1 hi.1.2.1 hi.1.2.2) (he _) hi.2.1 hi.2.2.1 hi.2.2.2.1
    hi.2.2.2.2.1 hi.2.2.2.2.2.1 hi.2.2.2.2.2.2

theorem write_bucketMapCommit {s : State} (hs : s.windowOpen) : exec (.bucketMapCommit 1) s = .next (reached s (fun u => mapCommit u)) :=
  chartCmd_fixed hs (c := .bucketMapCommit 1) (h := none) (i := 0x2010) (j := 0) (v := 1) rfl rfl (fun b => by cases b <;> rfl) (by decide)

theorem write_regionCommit {s : State} (hs : s.windowOpen) : exec (.regionCommit 1) s = .next (reached s (fun u => regionCommit u)) :=
  chartCmd_fixed hs (c := .regionCommit 1) (h := none) (i := 0x2012) (j := 0) (v := 1) rfl rfl (fun b => by cases b <;> rfl) (by decide)

theorem write_preload {s : State} (hs : s.windowOpen) : exec (.preload) s = .next (reached s (fun u => preload u 1)) :=
  chartCmd_fixed hs (c := .preload) (h := none) (i := 0x3F10) (j := 0) (v := 1) rfl rfl (fun b => by cases b <;> rfl) (by decide)

theorem write_preloadAndLock {s : State} (hs : s.windowOpen) : exec (.preloadAndLock) s = .next (reached s (fun u => preload u 2)) :=
  chartCmd_fixed hs (c := .preloadAndLock) (h := none) (i := 0x3F10) (j := 0) (v := 2) rfl rfl (fun b => by cases b <;> rfl) (by decide)

theorem write_unlock {s : State} (hs : s.windowOpen) : exec (.unlock) s = .next (reached s (fun u => preload u 3)) :=
  chartCmd_fixed hs (c := .unlock) (h := none) (i := 0x3F10) (j := 0) (v := 3) rfl rfl (fun b => by cases b <;> rfl) (by decide)

theorem write_routeCommit {s : State} (hs : s.windowOpen) : exec (.routeCommit) s = .next (reached s (fun u => routeCommit u)) :=
  chartCmd_fixed hs (c := .routeCommit) (h := none) (i := 0x5000) (j := 0) (v := 1) rfl rfl (fun b => by cases b <;> rfl) (by decide)

theorem write_start {s : State} (hs : s.windowOpen) : exec (.start) s = .next (reached s (fun u => globalCmd u 1)) :=
  chartCmd_fixed hs (c := .start) (h := none) (i := 0x1100) (j := 1) (v := 1) rfl rfl (fun b => by cases b <;> rfl) (by decide)

theorem write_functionReset {s : State} (hs : s.windowOpen) : exec (.functionReset) s = .next (reached s (fun u => globalCmd u 2)) :=
  chartCmd_fixed hs (c := .functionReset) (h := none) (i := 0x1100) (j := 1) (v := 2) rfl rfl (fun b => by cases b <;> rfl) (by decide)

theorem write_countersClear {s : State} (hs : s.windowOpen) : exec (.countersClear) s = .next (reached s (fun u => countersClear u)) :=
  chartCmd_fixed hs (c := .countersClear) (h := none) (i := 0xB800) (j := 4) (v := 1) rfl rfl (fun b => by cases b <;> rfl) (by decide)

theorem write_lostWritesClear {s : State} (hs : s.windowOpen) : exec (.lostWritesClear) s = .next (reached s (fun u => { u with lost := [] })) :=
  chartCmd_fixed hs (c := .lostWritesClear) (h := none) (i := 0x4310) (j := 2) (v := 1) rfl rfl (fun b => by cases b <;> rfl) (by decide)

theorem write_powerTargetRun {s : State} (hs : s.windowOpen) : exec (.powerTargetRun) s = .next (reached s (fun u => powerTarget u 0)) :=
  chartCmd_fixed hs (c := .powerTargetRun) (h := none) (i := 0x8050) (j := 0) (v := 0) rfl rfl (fun b => by cases b <;> rfl) (by decide)

theorem write_powerTargetLean {s : State} (hs : s.windowOpen) : exec (.powerTargetLean) s = .next (reached s (fun u => powerTarget u 1)) :=
  chartCmd_fixed hs (c := .powerTargetLean) (h := none) (i := 0x8050) (j := 0) (v := 1) rfl rfl (fun b => by cases b <;> rfl) (by decide)

theorem write_powerTargetHold {s : State} (hs : s.windowOpen) : exec (.powerTargetHold) s = .next (reached s (fun u => powerTarget u 2)) :=
  chartCmd_fixed hs (c := .powerTargetHold) (h := none) (i := 0x8050) (j := 0) (v := 2) rfl rfl (fun b => by cases b <;> rfl) (by decide)

theorem write_powerTargetOff {s : State} (hs : s.windowOpen) : exec (.powerTargetOff) s = .next (reached s (fun u => powerTarget u 3)) :=
  chartCmd_fixed hs (c := .powerTargetOff) (h := none) (i := 0x8050) (j := 0) (v := 3) rfl rfl (fun b => by cases b <;> rfl) (by decide)

theorem write_cellarEnable {s : State} (hs : s.windowOpen) (h : LineData) :
    exec (.cellarEnable h) s = .next (reached s (fun u => cellarEnable u h)) :=
  chartCmd_fixed hs (c := .cellarEnable h) (h := some h) (i := 0x3F00) (j := 2) (v := 1) rfl rfl (fun b => by cases b <;> rfl) (by decide)

theorem write_program {s : State} (hs : s.windowOpen) : exec .program s = .next (reached s (fun u => keyProgram u s.windowRole 1)) :=
  chartCmd_command hs (c := .program) (h := none) (i := 0x9011) (j := 0) (v := 1) rfl rfl (by simp [mayWrite, hs.2.2.2.2]) (by cases s.build <;> rfl) rfl (by decide) (by decide) (by decide)
    (by decide) (by decide)

theorem write_revoke {s : State} (hs : s.windowOpen) : exec .revoke s = .next (reached s (fun u => keyProgram u s.windowRole 2)) :=
  chartCmd_command hs (c := .revoke) (h := none) (i := 0x9011) (j := 0) (v := 2) rfl rfl (by simp [mayWrite, hs.2.2.2.2]) (by cases s.build <;> rfl) rfl (by decide) (by decide) (by decide)
    (by decide) (by decide)

theorem write_provision {s : State} (hs : s.windowOpen) : exec .provision s = .next (reached s (fun u => lifecycleCmd u s.windowRole 1)) :=
  chartCmd_command hs (c := .provision) (h := none) (i := 0x9000) (j := 1) (v := 1) rfl rfl (by simp [mayWrite, hs.2.2.2.2]) (by cases s.build <;> rfl) rfl (by decide) (by decide) (by decide)
    (by decide) (by decide)

theorem write_deploy {s : State} (hs : s.windowOpen) : exec .deploy s = .next (reached s (fun u => lifecycleCmd u s.windowRole 2)) :=
  chartCmd_command hs (c := .deploy) (h := none) (i := 0x9000) (j := 1) (v := 2) rfl rfl (by simp [mayWrite, hs.2.2.2.2]) (by cases s.build <;> rfl) rfl (by decide) (by decide) (by decide)
    (by decide) (by decide)

theorem write_retire {s : State} (hs : s.windowOpen) : exec .retire s = .next (reached s (fun u => lifecycleCmd u s.windowRole 3)) :=
  chartCmd_command hs (c := .retire) (h := none) (i := 0x9000) (j := 1) (v := 3) rfl rfl (by simp [mayWrite, hs.2.2.2.2]) (by cases s.build <;> rfl) rfl (by decide) (by decide) (by decide)
    (by decide) (by decide)

theorem controlOf_agent {n : Nat} (hn : n < 1024) : controlOf (0xA000 + n) 3 = none := by
  unfold controlOf
  repeat refine (if_neg (by simp only [Bool.and_eq_true, decide_eq_true_eq, beq_iff_eq]; omega)).trans ?_
  rfl

theorem command_agent {s : State} {a : Author} {n v : Nat} (hn : n < 1024) :
    command s a (0xA000 + n) 3 v = agentCmd s n v := by
  rw [command_other (controlOf_agent hn) (by simp only [List.mem_cons, List.not_mem_nil, or_false]; omega)]
  repeat refine (if_neg (by simp only [Bool.and_eq_true, decide_eq_true_eq, beq_iff_eq]; omega)).trans ?_
  refine (if_pos ?_).trans ?_
  · simp only [Bool.and_eq_true, decide_eq_true_eq]; omega
  · rw [show 0xA000 + n - 0xA000 = n by omega]

theorem write_join {s : State} (hs : s.windowOpen) {n : Nat} (hn : n < 1024) :
    exec (.join n) s = .next (reached s (fun u => agentCmd u n 1)) := by
  refine (chartCmd_command hs (c := .join n) (h := none) (i := 0xA000 + n) (j := 3) (v := 1) rfl (by simp [chartRange, hn])
    (mayWrite_plain hs.2.2.2.2 (by omega) (by omega) (by omega)) (entryAt_agentCmd hn)
    (behindTill_none (by omega) (by omega) (by omega) (by omega) (by omega) (by omega)) (by omega) (by omega) (by omega)
    (by omega) (by omega)).trans ?_
  unfold reached; dsimp only; rw [command_agent hn]

theorem write_leave {s : State} (hs : s.windowOpen) {n : Nat} (hn : n < 1024) :
    exec (.leave n) s = .next (reached s (fun u => agentCmd u n 2)) := by
  refine (chartCmd_command hs (c := .leave n) (h := none) (i := 0xA000 + n) (j := 3) (v := 2) rfl (by simp [chartRange, hn])
    (mayWrite_plain hs.2.2.2.2 (by omega) (by omega) (by omega)) (entryAt_agentCmd hn)
    (behindTill_none (by omega) (by omega) (by omega) (by omega) (by omega) (by omega)) (by omega) (by omega) (by omega)
    (by omega) (by omega)).trans ?_
  unfold reached; dsimp only; rw [command_agent hn]

theorem write_foreclose {s : State} (hs : s.windowOpen) {n : Nat} (hn : n < 1024) :
    exec (.foreclose n) s = .next (reached s (fun u => agentCmd u n 3)) := by
  refine (chartCmd_command hs (c := .foreclose n) (h := none) (i := 0xA000 + n) (j := 3) (v := 3) rfl (by simp [chartRange, hn])
    (mayWrite_plain hs.2.2.2.2 (by omega) (by omega) (by omega)) (entryAt_agentCmd hn)
    (behindTill_none (by omega) (by omega) (by omega) (by omega) (by omega) (by omega)) (by omega) (by omega) (by omega)
    (by omega) (by omega)).trans ?_
  unfold reached; dsimp only; rw [command_agent hn]

theorem write_agentRelease {s : State} (hs : s.windowOpen) {n : Nat} (hn : n < 1024) :
    exec (.agentRelease n) s = .next (reached s (fun u => agentCmd u n 4)) := by
  refine (chartCmd_command hs (c := .agentRelease n) (h := none) (i := 0xA000 + n) (j := 3) (v := 4) rfl (by simp [chartRange, hn])
    (mayWrite_plain hs.2.2.2.2 (by omega) (by omega) (by omega)) (entryAt_agentCmd hn)
    (behindTill_none (by omega) (by omega) (by omega) (by omega) (by omega) (by omega)) (by omega) (by omega) (by omega)
    (by omega) (by omega)).trans ?_
  unfold reached; dsimp only; rw [command_agent hn]

theorem write_ffClear {s : State} (hs : s.windowOpen) {n : Nat} (h : s.build.hasTill n = true) :
    exec (.ffClear n) s = .next (reached s (fun u => ffClear u n)) := by
  have hn : n < 18 := by
    have h' : n < s.build.tills := by simpa [Build.hasTill] using h
    have : s.build.tills ≤ 18 := by cases s.build <;> decide
    omega
  refine (chartCmd_command hs (c := .ffClear n) (h := none) (i := 0xC040 + n) (j := 0x10) (v := 1) rfl (by simp [chartRange, hn])
    (mayWrite_plain hs.2.2.2.2 (by omega) (by omega) (by omega)) (entryAt_ffClear h)
    (behindTill_none (by omega) (by omega) (by omega) (by omega) (by omega) (by omega)) (by omega) (by omega) (by omega)
    (by omega) (by omega)).trans ?_
  unfold reached; dsimp only
  have hc : controlOf (0xC040 + n) 0x10 = none := by
    unfold controlOf
    repeat refine (if_neg (by simp only [Bool.and_eq_true, decide_eq_true_eq, beq_iff_eq]; omega)).trans ?_
    rfl
  rw [command_other hc (by simp only [List.mem_cons, List.not_mem_nil, or_false]; omega)]
  refine congrArg Host.Outcome.next (congrArg applied ?_)
  repeat refine (if_neg (by simp only [Bool.and_eq_true, decide_eq_true_eq, beq_iff_eq]; omega)).trans ?_
  refine (if_pos ?_).trans ?_
  · simp only [Bool.and_eq_true, decide_eq_true_eq, beq_iff_eq]; omega
  · rw [show 0xC040 + n - 0xC040 = n by omega]; rfl

theorem write_retrain {s : State} (hs : s.windowOpen) {n : Nat} (hn : n < 128) (h : hasLink s.build n = true) :
    exec (.retrain n) s = .next (reached s (fun u => linkCmd u n 3)) := by
  refine (chartCmd_command hs (c := .retrain n) (h := none) (i := 0x5400 + n) (j := 1) (v := 3) rfl (by simp [chartRange, hn])
    (mayWrite_plain hs.2.2.2.2 (by omega) (by omega) (by omega)) (entryAt_linkCmd hn h)
    (behindTill_none (by omega) (by omega) (by omega) (by omega) (by omega) (by omega)) (by omega) (by omega) (by omega)
    (by omega) (by omega)).trans ?_
  unfold reached; dsimp only
  have hc : controlOf (0x5400 + n) 1 = none := by
    unfold controlOf
    repeat refine (if_neg (by simp only [Bool.and_eq_true, decide_eq_true_eq, beq_iff_eq]; omega)).trans ?_
    rfl
  rw [command_other hc (by simp only [List.mem_cons, List.not_mem_nil, or_false]; omega)]
  refine congrArg Host.Outcome.next (congrArg applied ?_)
  repeat refine (if_neg (by simp only [Bool.and_eq_true, decide_eq_true_eq, beq_iff_eq]; omega)).trans ?_
  refine (if_pos ?_).trans ?_
  · simp only [Bool.and_eq_true, decide_eq_true_eq, beq_iff_eq]; omega
  · rw [show 0x5400 + n - 0x5400 = n by omega]

theorem write_wicketLinkReset {s : State} (hs : s.windowOpen) {n : Nat} (h : s.build.hasWicket n = true) :
    exec (.wicketLinkReset n 1) s = .next (reached s (fun u => linkReset u n)) := by
  have hn : n ≤ 8 := by
    have h' : n < s.build.wickets ∨ n = 8 := by simpa [Build.hasWicket, Build.ws] using h
    have : s.build.wickets ≤ 8 := by cases s.build <;> decide
    omega
  refine (chartCmd_command hs (c := .wicketLinkReset n 1) (h := none) (i := 0x6000 + n) (j := 2) (v := 1) rfl (by simp [chartRange, hn])
    (mayWrite_plain hs.2.2.2.2 (by omega) (by omega) (by omega)) (entryAt_wicket h)
    (behindTill_none (by omega) (by omega) (by omega) (by omega) (by omega) (by omega)) (by omega) (by omega) (by omega)
    (by omega) (by omega)).trans ?_
  unfold reached; dsimp only
  have hc : controlOf (0x6000 + n) 2 = none := by
    unfold controlOf
    repeat refine (if_neg (by simp only [Bool.and_eq_true, decide_eq_true_eq, beq_iff_eq]; omega)).trans ?_
    rfl
  rw [command_other hc (by simp only [List.mem_cons, List.not_mem_nil, or_false]; omega)]
  refine congrArg Host.Outcome.next (congrArg applied ?_)
  repeat refine (if_neg (by simp only [Bool.and_eq_true, decide_eq_true_eq, beq_iff_eq]; omega)).trans ?_
  refine (if_pos ?_).trans ?_
  · simp <;> omega
  · rw [show 0x6000 + n - 0x6000 = n by omega]; rfl

/-- The number of a built function lies in the range of its kind. -/
theorem funcBuilt_range {b : Build} {f : Func} (h : funcBuilt b f = true) : funcInRange f = true := by
  have hw : ∀ w, b.hasWicket w = true → w ≤ 8 := by
    intro w h
    have h' : w < b.wickets ∨ w = 8 := by simpa [Build.hasWicket, Build.ws] using h
    have : b.wickets ≤ 8 := by cases b <;> decide
    omega
  cases f with
  | wicket w => simpa [funcInRange] using hw w h
  | portShaper w => simpa [funcInRange] using hw w h
  | till t =>
    have h' : t < b.tills := by simpa [funcBuilt, Build.hasTill] using h
    have : b.tills ≤ 18 := by cases b <;> decide
    simp only [funcInRange, decide_eq_true_eq]; omega
  | way w => exact h
  | stream k => exact h
  | subShaper n => exact h
  | svcShaper n c => exact h

theorem controlOf_controlAt {f : Func} (h : funcInRange f = true) : controlOf (controlAt f).1 (controlAt f).2 = some f := by
  cases f <;> simp only [funcInRange, Bool.and_eq_true, decide_eq_true_eq] at h <;> simp only [controlAt] <;> unfold controlOf
  all_goals
    repeat refine (if_neg (by simp only [Bool.and_eq_true, decide_eq_true_eq, beq_iff_eq]; omega)).trans ?_
    refine (if_pos (by simp <;> omega)).trans ?_
    simp

theorem entryAt_controlAt {b : Build} {f : Func} (h : funcBuilt b f = true) :
    entryAt b (controlAt f).1 (controlAt f).2 = some cmdV := by
  cases f with
  | wicket w => exact entryAt_wicket h
  | portShaper w => exact entryAt_wicket h
  | way w => exact entryAt_way (by simpa [funcBuilt] using h)
  | stream k => exact entryAt_stream (by simpa [funcBuilt] using h)
  | till t => exact entryAt_tillControl h
  | subShaper n => exact entryAt_shaper (by simpa [funcBuilt] using h)
  | svcShaper n c =>
    simp only [funcBuilt, Bool.and_eq_true, decide_eq_true_eq] at h
    refine (entryAt_shaper h.1).trans ?_
    have : c = 0 ∨ c = 1 ∨ c = 2 ∨ c = 3 := by omega
    rcases this with rfl | rfl | rfl | rfl <;> rfl

theorem controlAt_index {f : Func} (h : funcInRange f = true) :
    0x3F20 ≤ (controlAt f).1 ∧ (controlAt f).1 < 0xC004 ∧ ((controlAt f).1 < 0x3F30 ∨ 0x6000 ≤ (controlAt f).1)
      ∧ ((controlAt f).1 < 0x7200 ∨ 0xC000 ≤ (controlAt f).1) := by
  cases f <;> simp only [funcInRange, Bool.and_eq_true, decide_eq_true_eq] at h <;> simp only [controlAt] <;> omega

theorem write_control {s : State} (hs : s.windowOpen) {f : Func} (h : funcBuilt s.build f = true) {c : Instr} {v : Nat}
    (hop : chartOp c = some ((controlAt f).1, (controlAt f).2, v, 8, none)) (hr : chartRange c = true) (hv : v < 256) :
    chartCmd c s = .next (reached s (fun u => funcWrite u f v)) := by
  have hi := funcBuilt_range h
  obtain ⟨h1, h2, h3, h4⟩ := controlAt_index hi
  refine (chartCmd_command hs hop hr (mayWrite_plain hs.2.2.2.2 (by omega) (by omega) (by omega)) (entryAt_controlAt h)
    (behindTill_none (by omega) (by omega) (by omega) (by omega) (by omega) (by omega)) (by omega) hv (by omega) (by omega)
    (by omega)).trans ?_
  unfold reached command; dsimp only
  rw [controlOf_controlAt hi]

theorem write_enable {s : State} (hs : s.windowOpen) {f : Func} (h : funcBuilt s.build f = true) :
    exec (.enable f) s = .next (reached s (fun u => funcWrite u f 1)) :=
  write_control hs h (c := .enable f) rfl (funcBuilt_range h) (by decide)

theorem write_disable {s : State} (hs : s.windowOpen) {f : Func} (h : funcBuilt s.build f = true) :
    exec (.disable f) s = .next (reached s (fun u => funcWrite u f 2)) :=
  write_control hs h (c := .disable f) rfl (funcBuilt_range h) (by decide)

/-! ## Entries that hold a value -/

/-- What becomes of a write that its owner answered. -/
def answered (a : Author) (i j : Nat) (r : Wrote) : State := if r.2 = .ok then applied r.1 else refused r.1 a i j r.2

theorem writeEntry_store {s : State} {a : Author} {i j v : Nat} {e : Entry} (h : firstCheck s a i j 8 = .ok)
    (he : entryAt s.build i j = some e) (ha : e.acc = .rw) (hi : i ≠ 0x1110)
    (hr : inRange e i j (ownerMask i j (cutTo e.ty v)) = true) (hx : shaperAt i j = none) :
    (writeEntry s a i j v 8).1 = answered a i j (store s i j (ownerMask i j (cutTo e.ty v))) := by
  simp only [writeEntry, h, he, Option.getD_some, applyOwner, ha, hr, hx, beq_iff_eq, hi, false_and, Bool.and_eq_true, ↓reduceIte,
    Bool.not_true, Bool.false_eq_true, answered]
  split <;> simp_all

/-- A window write of an entry that holds a value. -/
theorem chartCmd_store {s : State} (hs : s.windowOpen) {c : Instr} {i j v : Nat} {e : Entry}
    (hop : chartOp c = some (i, j, v, 8, none)) (hc : chartRange c = true)
    (hi : (0x1000 ≤ i ∧ i < 0xD000 ∧ (i < 0x9000 ∨ 0xA000 ≤ i)) ∧ i ≠ 0x1110)
    (he : entryAt s.build i j = some e) (hf : e.cls ≠ .f) (hw : e.ty.long = false) (hb : behindTill i = none)
    (ha : e.acc = .rw) (hr : inRange e i j (ownerMask i j (cutTo e.ty v)) = true) (hx : shaperAt i j = none) :
    chartCmd c s = .next (answered (s.window none) i j (store (s.gev 0x10C) i j (ownerMask i j (cutTo e.ty v)))) := by
  unfold chartCmd writeCmd
  rw [if_pos hc, hop]
  dsimp only
  rw [windowCmd_open hs]
  have hq' : (s.gev 0x10C).sec.quarantine = false := by
    obtain ⟨c, hc⟩ := gev_eq s 0x10C 0xFF; rw [hc]; exact hs.2.2.2.1
  have he' : entryAt (s.gev 0x10C).build i j = some e := by
    obtain ⟨c, hc⟩ := gev_eq s 0x10C 0xFF; rw [hc]; exact he
  have hm : mayWrite s.windowRole i j = true := mayWrite_plain hs.2.2.2.2 hi.1.1 hi.1.2.1 hi.1.2.2
  rw [writeEntry_store (firstCheck_ok (a := s.window none) hq' hm he' (by rw [ha]; decide) hf (by rw [ha]; intro h; cases h)
    (gone_none hb) hw) he' ha hi.2 hr hx]

theorem shaperAt_none {i j : Nat} (h1 : i < 0x6000 ∨ 0x6009 ≤ i) (h2 : i < 0x6100 ∨ 0x6500 ≤ i) : shaperAt i j = none := by
  unfold shaperAt
  repeat refine (if_neg (by simp only [Bool.and_eq_true, decide_eq_true_eq, beq_iff_eq]; omega)).trans ?_
  rfl

/-- The owner of an agent's CFG (R280, R306). -/
theorem store_cfg {s : State} {n v : Nat} (hn : n < 1024) :
    store s (0xA000 + n) 0 v = ((cfgWrite s n (BitVec.ofNat 32 v)).1, if (cfgWrite s n (BitVec.ofNat 32 v)).2 then .ok else .busy) := by
  unfold store
  extract_lets
  repeat refine (if_neg (by simp only [Bool.and_eq_true, Bool.or_eq_true, decide_eq_true_eq, beq_iff_eq, not_and, not_or]; omega)).trans ?_
  refine (if_pos (by simp only [Bool.and_eq_true, Bool.or_eq_true, decide_eq_true_eq, beq_iff_eq]; omega)).trans ?_
  show ((cfgWrite s (0xA000 + n - 0xA000) (BitVec.ofNat 32 v)).1, if (cfgWrite s (0xA000 + n - 0xA000) (BitVec.ofNat 32 v)).2 then Code.ok else Code.busy) = _
  rw [show 0xA000 + n - 0xA000 = n by omega]

/-- The owner of an agent's escrow numbers (R130). -/
theorem store_escrow {s : State} {n j v : Nat} (hn : n < 1024) :
    store s (0x4400 + n) j v = ((escrowWrite s (0x4400 + n) j v).1, if (escrowWrite s (0x4400 + n) j v).2 then .ok else .invalid) := by
  unfold store
  extract_lets
  repeat refine (if_neg (by simp only [Bool.and_eq_true, Bool.or_eq_true, decide_eq_true_eq, beq_iff_eq, not_and, not_or]; omega)).trans ?_
  refine (if_pos (by simp only [Bool.and_eq_true, Bool.or_eq_true, decide_eq_true_eq, beq_iff_eq]; omega)).trans ?_
  rfl

/-- The owner of a tenant list (R165). -/
theorem store_tenant {s : State} {t j v : Nat} (h0 : 0 < t) (ht : t < 64) :
    store s (0x2040 + t) j v = ((tenantWrite s t j (BitVec.ofNat 64 v)).1, if (tenantWrite s t j (BitVec.ofNat 64 v)).2 then .ok else .busy) := by
  unfold store
  extract_lets
  repeat refine (if_neg (by simp only [Bool.and_eq_true, Bool.or_eq_true, decide_eq_true_eq, beq_iff_eq, not_and, not_or]; omega)).trans ?_
  refine (if_pos (by simp only [Bool.and_eq_true, Bool.or_eq_true, decide_eq_true_eq, beq_iff_eq]; omega)).trans ?_
  show ((tenantWrite s (0x2040 + t - 0x2040) j (BitVec.ofNat 64 v)).1, if (tenantWrite s (0x2040 + t - 0x2040) j (BitVec.ofNat 64 v)).2 then Code.ok else Code.busy) = _
  rw [show 0x2040 + t - 0x2040 = t by omega]

/-- The owner of SLOT_CTRL (R309). -/
theorem store_slot {s : State} {w v : Nat} (hw : w < 8) :
    store s (0xC800 + w) 1 v = ((slotCtrl s w v).1, if (slotCtrl s w v).2 then .ok else .invalid) := by
  unfold store
  extract_lets
  repeat refine (if_neg (by simp only [Bool.and_eq_true, Bool.or_eq_true, decide_eq_true_eq, beq_iff_eq, not_and, not_or]; omega)).trans ?_
  refine (if_pos (by simp only [Bool.and_eq_true, Bool.or_eq_true, decide_eq_true_eq, beq_iff_eq]; omega)).trans ?_
  show ((slotCtrl s (0xC800 + w - 0xC800) v).1, if (slotCtrl s (0xC800 + w - 0xC800) v).2 then Code.ok else Code.invalid) = _
  rw [show 0xC800 + w - 0xC800 = w by omega]

theorem ownerRange_plain {i j v : Nat} (h : 0x8001 ≤ i ∨ (0x2012 < i ∧ i < 0x5200)) : ownerRange i j v = true := by
  unfold ownerRange
  split <;> first | omega | skip
  exact if_neg (by simp only [Bool.and_eq_true, decide_eq_true_eq]; omega)

theorem inRange_full {t : Ty} {d i j v : Nat} (h : v < 2 ^ 64) (hr : ownerRange i j v = true) : inRange (rwK t d) i j v = true := by
  have h' : v ≤ 2 ^ 64 := h.le
  simp only [inRange, rwK, hr, Nat.zero_le, h', decide_true, Bool.and_self]

theorem write_agentCfg {s : State} (hs : s.windowOpen) {n : Nat} (hn : n < 1024) (v : BitVec 32) :
    exec (.agentCfgWrite n v) s = .next (answered (s.window none) (0xA000 + n) 0
      ((cfgWrite (s.gev 0x10C) n v).1, if (cfgWrite (s.gev 0x10C) n v).2 then .ok else .busy)) := by
  have hv : ownerMask (0xA000 + n) 0 (cutTo .u32 v.toNat) = v.toNat := by
    rw [ownerMask_command (by omega) (by omega) (by omega)]; exact Nat.mod_eq_of_lt (by have := v.isLt; simpa [Ty.width] using this)
  refine (chartCmd_store hs (c := .agentCfgWrite n v) (i := 0xA000 + n) (j := 0) rfl (by simp [chartRange, hn]) (by omega)
    (entryAt_agentCfg hn) (by decide) rfl (behindTill_none (by omega) (by omega) (by omega) (by omega) (by omega) (by omega))
    rfl ?_ (shaperAt_none (by omega) (by omega))).trans ?_
  · show inRange _ _ _ (ownerMask (0xA000 + n) 0 (cutTo .u32 v.toNat)) = true
    rw [hv]
    exact inRange_full (by have := v.isLt; omega) (ownerRange_plain (by omega))
  · show Host.Outcome.next (answered _ _ _ (store _ _ _ (ownerMask (0xA000 + n) 0 (cutTo .u32 v.toNat)))) = _
    rw [hv, store_cfg hn, BitVec.ofNat_toNat, BitVec.setWidth_eq]

theorem write_escrow {s : State} (hs : s.windowOpen) {n j : Nat} (hn : n < 1024) (hj : j < 2) (v : BitVec 16) :
    exec (.escrowWrite (0x4400 + n) j v) s = .next (answered (s.window none) (0x4400 + n) j
      ((escrowWrite (s.gev 0x10C) (0x4400 + n) j v.toNat).1,
        if (escrowWrite (s.gev 0x10C) (0x4400 + n) j v.toNat).2 then .ok else .invalid)) := by
  have hv : ownerMask (0x4400 + n) j (cutTo .u16 v.toNat) = v.toNat := by
    rw [ownerMask_command (by omega) (by omega) (by omega)]; exact Nat.mod_eq_of_lt (by have := v.isLt; simpa [Ty.width] using this)
  refine (chartCmd_store hs (c := .escrowWrite (0x4400 + n) j v) (i := 0x4400 + n) (j := j) rfl ?_ (by omega)
    (entryAt_escrow hn hj) (by decide) rfl (behindTill_none (by omega) (by omega) (by omega) (by omega) (by omega) (by omega))
    rfl ?_ (shaperAt_none (by omega) (by omega))).trans ?_
  · simp [chartRange, escrowEntry]; omega
  · show inRange _ _ _ (ownerMask (0x4400 + n) j (cutTo .u16 v.toNat)) = true
    rw [hv]
    exact inRange_full (by have := v.isLt; omega) (ownerRange_plain (by omega))
  · show Host.Outcome.next (answered _ _ _ (store _ _ _ (ownerMask (0x4400 + n) j (cutTo .u16 v.toNat)))) = _
    rw [hv, store_escrow hn]

theorem write_tenant {s : State} (hs : s.windowOpen) {t i : Nat} (h0 : 0 < t) (ht : t < 64) (hi : i < 16) (v : Word) :
    exec (.tenantMembersWrite t i v) s = .next (answered (s.window none) (0x2040 + t) i
      ((tenantWrite (s.gev 0x10C) t i v).1, if (tenantWrite (s.gev 0x10C) t i v).2 then .ok else .busy)) := by
  have hv : ownerMask (0x2040 + t) i (cutTo .u64 v.toNat) = v.toNat := by
    rw [ownerMask_command (by omega) (by omega) (by omega)]; exact Nat.mod_eq_of_lt (by have := v.isLt; simpa [Ty.width] using this)
  refine (chartCmd_store hs (c := .tenantMembersWrite t i v) (i := 0x2040 + t) (j := i) rfl (by simp [chartRange, ht, hi]) (by omega)
    (entryAt_tenant h0 ht hi) (by decide) rfl (behindTill_none (by omega) (by omega) (by omega) (by omega) (by omega) (by omega))
    rfl ?_ (shaperAt_none (by omega) (by omega))).trans ?_
  · show inRange _ _ _ (ownerMask (0x2040 + t) i (cutTo .u64 v.toNat)) = true
    rw [hv]
    exact inRange_full (by have := v.isLt; omega) (ownerRange_plain (by omega))
  · show Host.Outcome.next (answered _ _ _ (store _ _ _ (ownerMask (0x2040 + t) i (cutTo .u64 v.toNat)))) = _
    rw [hv, store_tenant h0 ht, BitVec.ofNat_toNat, BitVec.setWidth_eq]

theorem write_slotCtrl {s : State} (hs : s.windowOpen) {w : Nat} (hw : w < s.build.wickets) (v : BitVec 16) :
    exec (.slotCtrlWrite w v) s = .next (answered (s.window none) (0xC800 + w) 1
      ((slotCtrl (s.gev 0x10C) w v.toNat).1, if (slotCtrl (s.gev 0x10C) w v.toNat).2 then .ok else .invalid)) := by
  have hw' : w < 8 := by
    have : s.build.wickets ≤ 8 := by cases s.build <;> decide
    omega
  have hv : ownerMask (0xC800 + w) 1 (cutTo .u16 v.toNat) = v.toNat := by
    rw [ownerMask_command (by omega) (by omega) (by omega)]; exact Nat.mod_eq_of_lt (by have := v.isLt; simpa [Ty.width] using this)
  refine (chartCmd_store hs (c := .slotCtrlWrite w v) (i := 0xC800 + w) (j := 1) rfl (by simp [chartRange, hw']) (by omega)
    (entryAt_slotCtrl hw) (by decide) rfl (behindTill_none (by omega) (by omega) (by omega) (by omega) (by omega) (by omega))
    rfl ?_ (shaperAt_none (by omega) (by omega))).trans ?_
  · show inRange _ _ _ (ownerMask (0xC800 + w) 1 (cutTo .u16 v.toNat)) = true
    rw [hv]
    exact inRange_full (by have := v.isLt; omega) (ownerRange_plain (by omega))
  · show Host.Outcome.next (answered _ _ _ (store _ _ _ (ownerMask (0xC800 + w) 1 (cutTo .u16 v.toNat)))) = _
    rw [hv, store_slot hw']

end Sys2Proof.Machine
end

