-- ==== Sys2Proof/Tests/Slice0.lean ====
section
/-! SUPPORT. Tests: small states, a witness for the hypotheses of every statement, ill-formed commands, and single commands whose
expected values are the rules'. -/

set_option maxRecDepth 20000
set_option exponentiation.threshold 1024

namespace Sys2Proof.Tests
open Sys2Proof Sys2Proof.Machine

/-! ## Small states -/

/-- The Home READY, with no agent. -/
def home : State := { State.reset with boot := .released, global := 2 }
/-- The Home in CONFIG. -/
def conf : State := { home with global := 1 }
/-- Agent 5, a caching host at Wicket 0, Active. -/
def host : Agent := { state := .active, link := true, identity := 7, remembered := 7 }
/-- The Home with this entry of agent 5. -/
def withA (a : Agent) : State := home.setAgent 5 a
/-- The Home with this Till 3. -/
def withT (f : Till → Till) : State := home.modTill 3 f
/-- The Home with agent 5 Active, and Till 3 changed. -/
def hostT (f : Till → Till) : State := (withA host).modTill 3 f
/-- The Home with agent 5 Active, and Wicket 0 changed. -/
def hostW (f : Wicket → Wicket) : State := (withA host).modWicket 0 f
/-- The Home with this power state machine. -/
def withP (p : Power) : State := { home with power := p }
/-- The Home with this Assay. -/
def withM (a : Assay) : State := { home with assay := a }
/-- The Home with this session state. -/
def withS (x : Sec) : State := { home with sec := x }
/-- The Home with these ways. -/
def withW (x : FnState) : State := { home with ways := List.replicate 16 ⟨x, false, false, 0⟩ }
/-- The same at Tick `n`. -/
def atTick (s : State) (n : Nat) : State := { s with time := { s.time with tick := n } }
/-- A record of the Journal's stream `k`. -/
def aRec (k : Nat) : JRec := ⟨0x202, k, 0, none, [], 0, 0, true, 0⟩
/-- The Home with these streams and records on their way. -/
def withJ (l : List Stream) (i : List JRec) : State := { home with journal := { home.journal with streams := l, inbox := i } }
/-- A margin request with this purpose. -/
def ask (why : Nat) : MarginReq := ⟨4, 1, 700, 0, 0, why⟩
/-- The command completes. -/
def runs (c : Instr) (s : State) : Bool := match exec c s with | .next _ => true | _ => false
/-- The state after a command that completes. -/
def after (c : Instr) (s : State) : State := match exec c s with | .next t => t | _ => s

/-- A Folio of agent 5 with this opcode and phase. -/
def fol (o : Opc) (p : Phase) : Folio := { blankFolio with opc := o, phase := p, aid := 5, src := .escrow, credit := .escrow }
/-- The Home with agent 5 Active and this Folio 0 at Till 3. -/
def withF (x : Folio) : State := hostT (fun u => { u with folios := [(0, x)] })
/-- Two writes of a Folio, at ports 0 and 3. -/
def twoWrites : List OpenWrite := [⟨.mwr, 0x40, 0, 0⟩, ⟨.mwr, 0x40, 3, 0⟩]
/-- A read of one line at port 0. -/
def aRead : OpenRead := ⟨false, 0x40, 0, 0, 0, [0], [], false, false⟩
/-- A flit from Wicket 0 to Till 3, on an escrow credit. -/
def flit (o : Opc) : QFlit := ⟨0, 3, o, 5, 0, 9, 0xC0, false, 0, .escrow, 0, 0, 0, 0, none, .agent, 0⟩
/-- The Home with these messages in flight. -/
def withN (n : Net) : State := { withA host with net := n }
/-- A snoop outstanding at Wicket 0. -/
def aSnoop : Snoop := ⟨3, 0, .inv, 5, 0xC0, 0, [0], 0, 100, false, false⟩
/-- A completion of agent 5. -/
def aCmp (data : Bool) : HeldCmp := ⟨3, .cmpS, 5, 0, 9, .ok, 0, data, 0xC0, .rdS, .agent⟩
/-- The Home with this Auditor. -/
def withU (a : Auditor) : State := { home with au := a }
/-- A planned transfer from Till 3 to Till 16 at this state, with this batch. -/
def move (st : Nat) (b : List Nat) : Transfer := ⟨true, 3, 16, st, b, false, false, 0, false, false, 0⟩
/-- The Home with this transfer, and Till 3 changed. -/
def withX (x : Transfer) (f : Till → Till) : State := { withT f with transfers := [x] }
/-- A forced transfer from Till 3 to Till 16 that has served. -/
def forced : Transfer := ⟨false, 3, 16, 3, [], false, false, 0, true, false, 0⟩
/-- An admission entry of agent 5 for Till 3; `b` is its place in the bypass. -/
def entry (o : Opc) (b : Option Nat) : Adm :=
  ⟨o, 5, 0, 9, 0xC0, false, 0, none, none, .agent, 1, 3, 0, 0, 0, 0, 0, false, false, b⟩
/-- The H1-S and the H1-M builds. -/
def small : State := { home with fuses := { build := .h1S } }
def mid : State := { home with fuses := { build := .h1M } }
/-- One changed route entry of a running commit. -/
def step5 : RouteStep := ⟨0, 1, [0], [1], [2]⟩
/-- A Teller Message without a session, with this payload. -/
def plain (p : List Byte) : Teller := { length := p.length, payload := p }
/-- A message of session 9, whose key is 1, 2: the command, SEQ 1, and the MAC of R469. -/
def signed (cmd : Nat) (p : List Byte) : Teller :=
  { auth := true, session := 9, length := p.length, seq := 1, payload := p,
    mac := BitVec.ofNat 128 (leVal (tellerMac [1, 2] (tellerHead 1 cmd 2 0 9 1 p))) }
/-- Session 9 with this role and state. -/
def ses (role : Nat) (st : SesState) : Session := { state := st, number := 9, role := role, key := [1, 2], idle := 100, window := 10 }
/-- The Home in this lifecycle, with this session in slot 0 and this security state. -/
def inLife (l : Nat) (x : Session) (q : Sec) : State :=
  { home with fuses := { lifecycle := l, keys := [(4, (1, [7])), (8, (1, [7])), (12, (1, [7]))] }, sec := { q with sessions := [x, {}, {}, {}] } }
/-- What a message leaves before its command acts: without a session, and in session 9. -/
def told (s : State) : State := (s.bump ⟨0x1100, 8, 64⟩).gev 0x10D
def toldIn (s : State) : State := (told s).modSession 0 (fun y => { y with macFails := 0, seq := 1, lastTick := s.time.tick })
/-- The caller of Blank, which acts as Vendor, and the caller of session 9. -/
def blankCaller : Caller := ⟨4, 3, none⟩
def caller (role : Nat) : Caller := ⟨0, role, some [1, 2]⟩
/-- The payload of a PROVE of session `x` with the verifier 7. -/
def proofOf (x : Session) : List Byte := hmac384 [7] (proofOver "DECESK-PROVE".toList x)

/-- A message without a session passes the checks in Blank. -/
theorem acts_plain {s : State} {cmd : Nat} {p : List Byte}
    (h : s.chartUp = true ∧ s.inHold = false ∧ p.length ≤ 1024 ∧ cmd ≠ 2 ∧ cmd ≠ 3 ∧ cmd ≠ 1 ∧ s.fuses.lifecycle = 0) :
    actsAt s cmd (plain p) blankCaller (told s) := by
  obtain ⟨h1, h2, h3, h4, h5, h6, h7⟩ := h
  exact ⟨h1, h2, rfl, h3, h4, h5, .inl ⟨rfl, .inl h7, by simp [h6, blankCaller], rfl⟩⟩

/-- A message of session 9 passes the checks. -/
theorem acts_signed {s : State} {cmd r : Nat} {p : List Byte}
    (h : s.chartUp = true ∧ s.inHold = false ∧ p.length ≤ 1024 ∧ cmd ≠ 2 ∧ cmd ≠ 3 ∧ s.fuses.lifecycle ≠ 0 ∧ (s.session 0).live = true
      ∧ (s.session 0).number = 9 ∧ (s.session 0).key = [1, 2] ∧ (s.session 0).seq = 0 ∧ (s.session 0).role = r
      ∧ tellerMac [1, 2] (tellerHead 1 cmd 2 0 9 1 p) = leBytes 16 (signed cmd p).mac.toNat) :
    actsAt s cmd (signed cmd p) (caller r) (toldIn s) := by
  obtain ⟨h1, h2, h3, h4, h5, h6, h7, h8, h9, h10, h11, h12⟩ := h
  refine ⟨h1, h2, rfl, h3, h4, h5, .inr ⟨rfl, h6, 0, by decide, by rw [h9, h11]; rfl, h7, h8, ?_, ?_, ?_, (by decide : (1 : BitVec 32) ≠ BitVec.allOnes 32), rfl⟩⟩
  · intro j hj; omega
  · rw [h9]; exact h12
  · rw [h10]; rfl

/-! ## Witnesses: states that meet the hypotheses of the statements, clause by clause -/

theorem test_witness_IdleStepPassesOneCycle :
    (∃ s : State, s.pending = [] ∧ s.boot ≠ .off ∧ s.power.state ≠ 3) ∧
    (∃ s : State, s.pending = [] ∧ s.boot = .off) ∧
    (∃ s : State, s.pending = [] ∧ s.power.state = 3) :=
  ⟨⟨home, by decide⟩,
   ⟨{ home with boot := .off }, by decide⟩,
   ⟨withP { state := 3 }, by decide⟩⟩

theorem test_witness_StepKeepsInvariant :
    ∃ s : State, s.Inv ∧ (match step s with | .next _ => true | _ => false) = true :=
  ⟨{ home with pending := [.start] }, by unfold State.Inv; decide⟩

theorem test_witness_OnlyTheirEventsMove :
    (∃ s : State, runs .ageHours s = true ∧ (after .ageHours s).fuses ≠ s.fuses) ∧
    (∃ s : State, runs .lifecycleChanged s = true
    ∧ (after .lifecycleChanged s).fuses.lifecycle ≠ s.fuses.lifecycle) ∧
    (∃ s : State, runs .flr s = true ∧ movesGlobal .flr = false) ∧
    (∃ s : State, runs .pwrGoodFall s = true ∧ (after .pwrGoodFall s).pins ≠ s.pins) ∧
    (∃ s : State, runs (.chstatChange 0 1) s = true ∧ (after (.chstatChange 0 1) s).chstat ≠ s.chstat) ∧
    (∃ s : State, runs .saveImageWritten s = true ∧ (after .saveImageWritten s).image ≠ s.image) ∧
    (∃ s : State, runs (.tapInstruction 2) s = true ∧ (after (.tapInstruction 2) s).tap ≠ s.tap) :=
  ⟨⟨atTick home (2 ^ 60), by decide⟩,
   ⟨withS { lifeBlow := some 1 }, by decide⟩,
   ⟨home, by decide⟩,
   ⟨home, by decide⟩,
   ⟨home, by decide⟩,
   ⟨withP { state := 7, saving := true }, by decide⟩,
   ⟨home, by decide⟩⟩

theorem test_witness_TrafficLeavesTables :
    (∃ s : State, leavesRegistry (.rdS 0 { aid := 5 }) = true ∧ runs (.rdS 0 { aid := 5 }) s = true) ∧
    (∃ s : State, leavesMaps (.claimX 0 { aid := 5 }) = true ∧ runs (.claimX 0 { aid := 5 }) s = true) :=
  ⟨⟨withA host, by decide⟩,
   ⟨withA host, by decide⟩⟩

theorem test_witness_PowerEventsAndWarning :
    (∃ s : State, s.pins.pwrGood = false ∧ s.pins.brownout = false) ∧
    (∃ s : State, s.pins.pwrGood = false ∧ s.pins.brownout = true) ∧
    (∃ s : State, s.pins.pwrGood = true ∧ s.pins.brownout = false) ∧
    (∃ s : State, s.pins.brownout = true ∧ s.pins.pwrGood = true) ∧
    (∃ s : State, s.Inv ∧ s.pins.warn = false ∧ s.boot ≠ .off ∧ s.power.state ≠ 3) ∧
    (∃ s : State, s.pins.warn = true ∧ s.ws.post = [] ∧ s.anyFolio = false ∧ s.power.deferred = []) :=
  ⟨⟨{ home with pins := { pwrGood := false } }, by decide⟩,
   ⟨{ home with pins := { pwrGood := false, brownout := true } }, by decide⟩,
   ⟨home, by decide⟩,
   ⟨{ home with pins := { brownout := true } }, by decide⟩,
   ⟨home, by unfold State.Inv; decide⟩,
   ⟨{ home with pins := { warn := true } }, by decide⟩⟩

theorem test_witness_BringUpReachesReady :
    (∃ s : State, s.boot = .filling ∧ s.resuming = false ∧ s.journal.streams.length = 4) ∧
    (∃ s : State, s.Inv ∧ s.boot = .filling ∧ s.resuming = true ∧ s.imageGood true = false) ∧
    (∃ s : State, s.Inv ∧ s.boot = .filling ∧ s.resuming = true ∧ s.imageGood true = true ∧ s.image = some home.toImage) ∧
    (∃ s : State, s.boot = .released ∧ s.assay.baselineDone = false ∧ s.mhzLegal 1200 = true) ∧
    (∃ s : State, s.boot = .released ∧ s.global = 1 ∧ s.assay.baselineDone = true ∧ s.startSeen = true) ∧
    (∃ s : State, s.windowOpen ∧ s.global = 1) ∧
    (∃ s : State, s.windowOpen ∧ s.global ≠ 1) :=
  ⟨⟨State.reset, by decide⟩,
   ⟨{ State.reset with resuming := true }, by unfold State.Inv; decide⟩,
   ⟨{ State.reset with resuming := true, image := some home.toImage }, by unfold State.Inv; decide⟩,
   ⟨home, by decide⟩,
   ⟨{ conf with startSeen := true, assay := { baselineDone := true } }, by decide⟩,
   ⟨conf, by unfold State.windowOpen; decide⟩,
   ⟨home, by unfold State.windowOpen; decide⟩⟩

theorem test_witness_FunctionResetKeepsService :
    ∃ s : State, s.Inv ∧ s.boot = .released ∧ s.inReset = false ∧ s.sec.level ≠ 2 ∧ s.windowOpen ∧ s.power.state ≠ 3 :=
  ⟨home, by unfold State.Inv State.windowOpen; decide⟩

theorem test_witness_TallyTakesSamplesAndSweeps :
    (∃ s : State, s.Inv ∧ s.tally.inbox = [⟨0, 0, 0, some 5⟩] ∧ chanTakes (s.chan 0).cfg 0 0 = true ∧ KV.wf (s.chan 0).cur.hist = true) ∧
    (∃ s : State, s.Inv ∧ s.tally.due = [100] ∧ s.tally.held = false ∧ s.tally.chans = [(0, {})]) :=
  ⟨⟨{ home with tally := { inbox := [⟨0, 0, 0, some 5⟩] } }, by unfold State.Inv; decide⟩,
   ⟨{ home with tally := { due := [100], chans := [(0, {})] } }, by unfold State.Inv; decide⟩⟩

theorem test_witness_JournalStoresAndPolices :
    (∃ s : State, s.Inv ∧ s.inReset = false ∧ s.journal.inbox = [aRec 2] ∧ (aRec 2).stream = 2
    ∧ (s.stream 2).fn.st = .on ∧ (s.stream 2).tokens ≠ 0 ∧ (s.stream 2).drops.policed + (s.stream 2).drops.full = 0
    ∧ bankBytes (s.stream 2).fill + (aRec 2).bytes ≤ 16384 - 64) ∧
    (∃ s : State, s.Inv ∧ s.inReset = false ∧ s.journal.inbox = [aRec 2] ∧ (s.stream 2).tokens = 0) ∧
    (∃ s : State, s.journal.alarmDue = [7] ∧ (∀ c ∈ s.journal.causes, c.count = 0)) :=
  ⟨⟨withJ home.journal.streams [aRec 2], by unfold State.Inv; decide⟩,
   ⟨withJ [{}, {}, {}, {}] [aRec 2], by unfold State.Inv; decide⟩,
   ⟨{ home with journal := { home.journal with alarmDue := [7], causes := [⟨0x106, 0, 0, aRec 1⟩] } }, by decide⟩⟩

theorem test_witness_JournalPointersAndEmptyReads :
    ∃ s : State, s.Inv ∧ s.chartUp = true ∧ (∀ k, k < 3 → (s.stream k).fill = [] ∧ (s.stream k).drain = []) :=
  ⟨home, by unfold State.Inv; decide⟩

theorem test_witness_FirmwareClears :
    ∃ s : State, s.Inv ∧ s.windowOpen ∧ s.build.hasTill 0 = true ∧ s.build.hasTill 17 = true :=
  ⟨home, by unfold State.Inv State.windowOpen; decide⟩

theorem test_witness_CommonControlTable :
    ((⟨.enabling, true, false, 0⟩ : Fn).st = .enabling ∧ (⟨.enabling, true, false, 0⟩ : Fn).pendDis = true) ∧
    ((⟨.draining, false, true, 0⟩ : Fn).st = .draining ∧ (⟨.draining, false, true, 0⟩ : Fn).pendEn = true) :=
  ⟨by decide,
   by decide⟩

theorem test_witness_FunctionsFollowControlTable :
    (∃ s : State, s.Inv ∧ s.windowOpen ∧ s.power.state < 4
    ∧ (∀ f ∈ [Func.wicket 0, .wicket 8, .way 0, .way 15, .stream 0, .stream 3, .till 0, .till 17],
        funcBuilt s.build f = true ∧ isShaper f = false ∧ s.refusal f true = none)) ∧
    (∃ s : State, s.Inv ∧ s.windowOpen ∧ s.power.state < 4 ∧ s.refusal (.way 3) false = none ∧ (s.fn (.way 3)).st ≠ .on) ∧
    (∃ s : State, s.Inv ∧ s.windowOpen ∧ s.power.state < 4 ∧ s.refusal (.till 16) false = none ∧ (s.fn (.till 16)).st = .on
    ∧ (s.fn (.way 15)).st = .on) ∧
    (∃ s : State, s.windowOpen ∧ s.power.state < 4
    ∧ (∀ f ∈ [Func.portShaper 0, .subShaper 1023, .svcShaper 1023 3], isShaper f = true ∧ funcBuilt s.build f = true)) :=
  ⟨⟨home, by unfold State.Inv State.windowOpen; decide⟩,
   ⟨withW .off, by unfold State.Inv State.windowOpen; decide⟩,
   ⟨home, by unfold State.Inv State.windowOpen; decide⟩,
   ⟨home, by unfold State.windowOpen; decide⟩⟩

theorem test_witness_EnableInCopyPhaseIsBusy :
    ∃ s : State, s.Inv ∧ s.windowOpen ∧ s.build.hasTill 3 = true ∧ s.build.hasTill 16 = true
      ∧ (⟨true, 3, 16, 1, [], false, false, 0, false, false, 0⟩ : Transfer) ∈ s.transfers :=
  ⟨{ home with transfers := [⟨true, 3, 16, 1, [], false, false, 0, false, false, 0⟩] }, by unfold State.Inv State.windowOpen; decide⟩

theorem test_witness_StepEndsFollowTable :
    (∃ s : State, s.Inv ∧ s.transfers = [] ∧ s.power.state < 4 ∧ (s.fn (.way 15)).st = .enabling
    ∧ (s.fn (.way 15)).pendDis = false) ∧
    (∃ s : State, s.Inv ∧ s.transfers = [] ∧ s.power.state < 4 ∧ (s.fn (.stream 3)).st = .enabling ∧ (s.fn (.stream 3)).pendDis = false
      ∧ s.build.hasWicket 8 = true ∧ (s.fn (.wicket 8)).st = .enabling ∧ (s.fn (.wicket 8)).pendDis = false
      ∧ s.build.hasTill 16 = true ∧ (s.till 16).fn.st = .enabling ∧ (s.till 16).fn.pendDis = false) ∧
    (∃ s : State, s.Inv ∧ s.transfers = [] ∧ s.power.state < 4
    ∧ (s.fn (.stream 1)).st = .draining ∧ (s.fn (.stream 1)).pendEn = false ∧ (s.stream 1).fill = [] ∧ (s.stream 1).drain = []) ∧
    (∃ s : State, s.Inv ∧ s.transfers = []
    ∧ s.power.state < 4 ∧ (s.fn (.stream 1)).st = .draining ∧ (s.stream 1).fill ≠ []) :=
  ⟨⟨withW .enabling, by unfold State.Inv; decide⟩,
   ⟨((home.setFn (.stream 3) ⟨.enabling, false, false, 0⟩).setFn (.wicket 8) ⟨.enabling, false, false, 0⟩).setFn
    (.till 16) ⟨.enabling, false, false, 0⟩, by unfold State.Inv; decide⟩,
   ⟨home.setFn (.stream 1) ⟨.draining, false, false, 0⟩, by unfold State.Inv; decide⟩,
   ⟨withJ [{}, { fn := ⟨.draining, false, false, 0⟩, fill := [aRec 1] }, {}, {}] [], by unfold State.Inv; decide⟩⟩

theorem test_witness_MarginRequestsEnd :
    (∃ s : State, s.Inv ∧ s.assay.req = some (ask 0) ∧ s.power.pending = none ∧ s.power.deferred = [] ∧ s.assay.plan = none ∧ (ask 0).id = 4) ∧
    (∃ s : State, s.Inv ∧ s.assay.req = some (ask 1) ∧ s.power.pending = none ∧ s.power.deferred = [] ∧ (ask 1).why = 1 ∧ s.power.state = 6) ∧
    (∃ s : State, s.Inv ∧ s.assay.req = some (ask 1) ∧ s.power.pending = none ∧ s.power.deferred = [] ∧ s.power.state = 7) ∧
    (∃ s : State, s.Inv ∧ s.assay.req = some (ask 2) ∧ s.power.pending = none ∧ s.power.deferred = []) ∧
    (∃ s : State, s.Inv ∧ s.assay.req = some (ask 3) ∧ s.power.pending = none ∧ s.power.deferred = []) ∧
    (∃ s : State, s.Inv ∧ s.assay.req = some (ask 0) ∧ s.due (ask 0).tick (s.rawN 0x8060 0) = false) ∧
    (∃ s : State, s.Inv ∧ s.assay.req = some (ask 0) ∧ s.due (ask 0).tick (s.rawN 0x8060 0) = true) :=
  ⟨⟨{ withM { req := some (ask 0) } with power := { state := 0 } }, by unfold State.Inv; decide⟩,
   ⟨{ withM { req := some (ask 1) } with power := { state := 6 } }, by unfold State.Inv; decide⟩,
   ⟨{ withM { req := some (ask 1) } with power := { state := 7 } }, by unfold State.Inv; decide⟩,
   ⟨{ withM { req := some (ask 2) } with power := { state := 7 } }, by unfold State.Inv; decide⟩,
   ⟨{ withM { req := some (ask 3) } with power := { state := 2 } }, by unfold State.Inv; decide⟩,
   ⟨withM { req := some (ask 0) }, by unfold State.Inv; decide⟩,
   ⟨atTick (withM { req := some (ask 0) }) (2 ^ 40), by unfold State.Inv; decide⟩⟩

theorem test_witness_PowerTargetStartsTransition :
    (∃ s : State, s.Inv ∧ s.windowOpen ∧ 4 ≤ s.power.state) ∧
    (∃ s : State, s.Inv ∧ s.windowOpen ∧ s.power.state = 0 ∧ s.leanEmpty = true) ∧
    (∃ s : State, s.Inv ∧ s.windowOpen ∧ s.power.state = 0 ∧ s.leanEmpty = false ∧ s.leanWays ≠ [] ∧ s.holdBusy = false ∧ s.offResult ≠ 0) ∧
    (∃ s : State, s.Inv ∧ s.windowOpen ∧ s.power.state = 1
    ∧ s.power.parked ≠ [] ∧ (∀ w ∈ s.power.parked, w < 16 ∧ (s.fn (.way w)).st = .off)) ∧
    (∃ s : State, s.Inv ∧ s.windowOpen ∧ s.power.state ≤ 1 ∧ s.holdBusy = true) ∧
    (∃ s : State, s.Inv ∧ s.windowOpen ∧ s.power.state ≤ 1 ∧ s.offResult = 0 ∧ s.sec.level ≠ 2) :=
  ⟨⟨withP { state := 4 }, by unfold State.Inv State.windowOpen; decide⟩,
   ⟨home.setRawN 0x8050 5 0xFFFF, by unfold State.Inv State.windowOpen; decide⟩,
   ⟨home, by unfold State.Inv State.windowOpen; decide⟩,
   ⟨{ withW .off with power := { state := 1, parked := [15] } }, by unfold State.Inv State.windowOpen; decide⟩,
   ⟨withT (fun u => { u with halted := some 9 }), by unfold State.Inv State.windowOpen; decide⟩,
   ⟨home.setRawN 0x8051 1 1, by unfold State.Inv State.windowOpen; decide⟩⟩

theorem test_witness_HoldAndOffEntry :
    (∃ s : State, s.offResult = 0) ∧
    (∃ s : State, ∃ u ∈ s.tills, u.claims ≠ []) ∧
    (∃ s : State, ∃ p ∈ s.agents, p.2.state = .foreclosing) ∧
    (∃ s : State, (∀ p ∈ s.agents, p.2.state = .absent ∨ p.2.state = .quarantined)
    ∧ (∀ u ∈ s.tills, u.claims = []) ∧ s.rawN 0x8051 1 ≠ 1) ∧
    (∃ s : State, s.power.state = 6 ∧ s.assay.req = none ∧ s.holdQuiet = true) ∧
    (∃ s : State, s.power.state = 6 ∧ s.holdQuiet = false) ∧
    (∃ s : State, s.power.state = 7 ∧ s.power.saving = true) :=
  ⟨⟨home.setRawN 0x8051 1 1, by decide⟩,
   ⟨withT (fun u => { u with claims := [(0, ⟨.held, true, 9, [5], some 100, 0, 0, [], [], 0⟩)] }), by decide⟩,
   ⟨withA { host with state := .foreclosing }, by decide⟩,
   ⟨withA { state := .quarantined }, by decide⟩,
   ⟨withP { state := 6 }, by decide⟩,
   ⟨{ withP { state := 6 } with ws := { post := [(0, ⟨5, 0, 0, 0, false, 0, 0, 0, false⟩)] } }, by decide⟩,
   ⟨withP { state := 7, saving := true }, by decide⟩⟩

theorem test_witness_MeasurementsAndReadings :
    (∃ s : State, s.inHold = false ∧ s.power.state ≠ 3 ∧ s.assay.quickDue = true
    ∧ s.assay.fullDue = false ∧ s.rawN 0x8000 0 ≠ 2) ∧
    (∃ s : State, s.inHold = false ∧ s.power.state ≠ 3 ∧ s.assay.fullDue = true
    ∧ s.rawN 0x8000 0 ≠ 2) ∧
    (∃ s : State, s.inHold = false ∧ s.power.state ≠ 3 ∧ s.assay.ageTick + s.ageTicks ≤ s.time.tick
    ∧ s.fuses.ageBits < 1024) ∧
    (∃ s : State, s.inHold = false ∧ s.power.state ≠ 3 ∧ s.time.tick < s.assay.ageTick + s.ageTicks) ∧
    (∃ s : State, s.Inv ∧ s.assay.tjDue = true ∧ s.build.hasTill 17 = true ∧ (-400 : Int) ≤ -400
    ∧ (-400 : Int) < s.rawI 0x8070 0 ∧ s.rawI 0x8070 0 ≤ 1090 ∧ s.power.throttled = false ∧ s.inHold = false) ∧
    (∃ s : State, s.Inv ∧ s.assay.tjDue = true ∧ s.build.hasTill 0 = true ∧ (1100 : Int) ≤ 2000
    ∧ s.rawI 0x8070 0 ≤ 1090 ∧ s.power.throttled = false ∧ s.inHold = false) :=
  ⟨⟨(withM { quickDue := true }).setRawN 0x8000 0 0, by decide⟩,
   ⟨(withM { fullDue := true }).setRawN 0x8000 0 1, by decide⟩,
   ⟨atTick home home.ageTicks, by decide⟩,
   ⟨atTick home (home.ageTicks - 1), by decide⟩,
   ⟨withM { tjDue := true }, by unfold State.Inv; decide⟩,
   ⟨withM { tjDue := true }, by unfold State.Inv; decide⟩⟩

theorem test_witness_TickCountNeverDecreases :
    ∃ s : State, runs (.tickStrobe 2000000 0 false) s = true :=
  ⟨home, by decide⟩

theorem test_witness_StrobeCountsOrIsEarly :
    (∃ s : State, s.Inv ∧ s.boot ≠ .off ∧ s.power.state ≠ 3 ∧ (advance s 1079).time.substitute = false
    ∧ (advance s 1079).time.ps - (advance s 1079).time.lastTick < tickMin) ∧
    (∃ s : State, s.Inv ∧ s.boot ≠ .off ∧ s.power.state ≠ 3 ∧ (advance s 1080).time.substitute = false
    ∧ tickMin ≤ (advance s 1080).time.ps - (advance s 1080).time.lastTick) :=
  ⟨⟨home, by unfold State.Inv; decide⟩,
   ⟨home, by unfold State.Inv; decide⟩⟩

theorem test_witness_TickLossAndReturn :
    (∃ s : State, s.boot ≠ .off ∧ s.power.state ≠ 3 ∧ (advance s 74879).time.substitute = false
    ∧ (advance s 74879).time.ps - (advance s 74879).time.lastTick < 16 * (advance s 74879).nominal) ∧
    (∃ s : State, s.boot ≠ .off ∧ s.power.state ≠ 3 ∧ (advance s 74880).time.substitute = false
    ∧ 16 * (advance s 74880).nominal ≤ (advance s 74880).time.ps - (advance s 74880).time.lastTick) ∧
    (∃ s : State, s.boot ≠ .off ∧ s.power.state ≠ 3
    ∧ (advance s 4634).time.substitute = true
    ∧ 99 * (advance s 4634).nominal ≤ 100 * ((advance s 4634).time.ps - (advance s 4634).time.lastSub)
    ∧ (advance s 4634).time.nextRun < 8) ∧
    (∃ s : State, s.boot ≠ .off ∧ s.power.state ≠ 3
    ∧ (advance s 1200).time.substitute = true ∧ 8 ≤ (advance s 1200).time.nextRun) :=
  ⟨⟨home, by decide⟩,
   ⟨home, by decide⟩,
   ⟨{ home with time := { substitute := true } }, by decide⟩,
   ⟨{ home with time := { substitute := true, run := 7, lastExt := some 0 } }, by decide⟩⟩

theorem test_witness_WriteAcknowledgedOrLost :
    (∃ s : State, s.Inv ∧ s.build.hasPort 0 = true ∧ s.build.hasTill 3 = true ∧ s.calm 3
    ∧ s.folio? 3 0 = some { fol .wbI .done with writes := twoWrites } ∧ (fol .wbI .done).job = .request
    ∧ s.openWrite? 0 3 0 .mwr = some ⟨.mwr, 0x40, 0, 0⟩ ∧ 2 ≤ twoWrites.length ∧ s.lost.length < 64
    ∧ s.due 0 (s.rawN 0x2090 0) = false) ∧
    (∃ s : State, s.Inv ∧ s.build.hasPort 3 = true ∧ s.build.hasTill 17 = true ∧ s.calm 17
    ∧ s.folio? 17 7 = some { fol .wbI .done with writes := twoWrites } ∧ s.openWrite? 3 17 7 .mwr = some ⟨.mwr, 0x40, 3, 0⟩
    ∧ 64 ≤ s.lost.length ∧ s.due 0 (s.rawN 0x2090 0) = true) :=
  ⟨⟨withF { fol .wbI .done with writes := twoWrites }, by unfold State.Inv State.calm; decide⟩,
   ⟨atTick { home.modTill 17 (fun u => { u with fn := ⟨.on, false, false, 0⟩, folios := [(7, { fol .wbI .done with writes := twoWrites })] }) with
    lost := List.replicate 64 (1, 1) } (2 ^ 40), by unfold State.Inv State.calm; decide⟩⟩

theorem test_witness_ReadsReachTheirFolio :
    (∃ s : State, s.Inv ∧ s.build.hasPort 0 = true ∧ s.build.hasTill 3 = true ∧ s.calm 3
    ∧ s.folio? 3 0 = some { fol .rdS .snoop with read := some aRead } ∧ (fol .rdS .snoop).job = .request
    ∧ aRead.crd = false ∧ aRead.cancel = false ∧ aRead.port = 0 ∧ 0 ∈ aRead.lines ∧ (∀ a ∈ (s.till 3).memQ, a.folio ≠ 0)
    ∧ s.due aRead.tick (s.rawN 0x2090 1) = false) ∧
    (∃ s : State, s.Inv ∧ s.build.hasPort 0 = true ∧ s.build.hasTill 3 = true
    ∧ s.calm 3 ∧ s.folio? 3 0 = some { fol .rdS .snoop with read := some aRead } ∧ (∀ a ∈ (s.till 3).memQ, a.folio ≠ 0)
    ∧ s.due aRead.tick (s.rawN 0x2090 1) = true) :=
  ⟨⟨withF { fol .rdS .snoop with read := some aRead }, by unfold State.Inv State.calm; decide⟩,
   ⟨atTick (withF { fol .rdS .snoop with read := some aRead }) (2 ^ 40), by unfold State.Inv State.calm; decide⟩⟩

theorem test_witness_CreditsReturnUpToGrant :
    (∃ s : State, s.Inv ∧ s.build.hasPort 3 = true ∧ s.build.hasTill 15 = true ∧ s.calm 15 ∧ s.boot ≠ .off ∧ (s.till 15).memQ = []
    ∧ (∀ p ∈ (s.till 15).folios, p.2.phase ≠ .data) ∧ (s.till 15).cred 3 = (0, 0)) ∧
    (∃ s : State, s.Inv ∧ s.build.hasPort 0 = true ∧ s.build.hasTill 3 = true ∧ s.calm 3
    ∧ s.boot ≠ .off ∧ (s.till 3).memQ = [] ∧ (∀ p ∈ (s.till 3).folios, p.2.phase ≠ .data) ∧ 64 < ((s.till 3).cred 0).1 + 1) :=
  ⟨⟨home, by unfold State.Inv State.calm; decide⟩,
   ⟨withT (fun u => { u with memCred := [(0, (64, 32))] }), by unfold State.Inv State.calm; decide⟩⟩

theorem test_witness_RequestEntersAdmission :
    (∃ s : State, s.Inv ∧ requestOf (.rdX 0 { aid := 5 }) = some (0, .rdX, { aid := 5 }) ∧ mayTake s 0 .rdX { aid := 5 }
    ∧ 0 ≠ Build.ws) ∧
    (∃ s : State, s.Inv ∧ requestOf (.settle 8 { aid := 5 }) = some (8, .settle, { aid := 5 })
    ∧ mayTake s 8 .settle { aid := 5 } ∧ (s.wicket 8).holds 5 = false ∧ (s.wsAgent 5).settles.length < 4) ∧
    (∃ s : State, mayTake s 8 .ncwPtl { aid := 5 } ∧ (s.wicket 8).holds 5 = false
    ∧ s.ws.post.length < 512 ∧ (s.agent 5).postEn = true) ∧
    (∃ s : State, mayTake s 8 .ncwFull { aid := 5 } ∧ (s.wicket 8).holds 5 = false
    ∧ s.ws.post.length < 512 ∧ (s.agent 5).postEn = false) ∧
    (∃ s : State, (∀ o ∈ [Opc.claimX, .claimS, .release, .rsv, .cwr, .rdNc], mayTake s 8 o { aid := 5 })
    ∧ (s.wicket 8).holds 5 = false ∧ s.posted 5 0 = []) ∧
    (∃ s : State, s.Inv ∧ mayTake s 8 .rdNc { aid := 5 } ∧ (s.wicket 8).holds 5 = true) :=
  ⟨⟨withA host, by unfold mayTake State.Inv; decide⟩,
   ⟨withA { host with kind := 2, wicket := 8 }, by unfold mayTake State.Inv; decide⟩,
   ⟨withA { host with kind := 2, wicket := 8 }, by unfold mayTake; decide⟩,
   ⟨withA { host with kind := 2, wicket := 8, postEn := false }, by unfold mayTake; decide⟩,
   ⟨withA { host with kind := 2, wicket := 8 }, by unfold mayTake; decide⟩,
   ⟨(withA { host with kind := 2, wicket := 8 }).modWicket 8 (fun x => { x with
    entries := [⟨.claimX, 5, 0, 1, 0, false, 0, none, none, .agent, 1, 0, 0, 0, 0, 0, 0, false, true, none⟩] }), by unfold mayTake State.Inv; decide⟩⟩

theorem test_witness_RequestDiscardedOrRefused :
    (∃ s : State, s.Inv ∧ requestOf (.rdS 0 { aid := 5 }) = some (0, .rdS, { aid := 5 }) ∧ s.build.hasWicket 0 = true
    ∧ (s.agent 5).state.lives = false) ∧
    (∃ s : State, s.Inv ∧ requestOf (.rdS 7 { aid := 5 }) = some (7, .rdS, { aid := 5 }) ∧ s.build.hasWicket 7 = true
    ∧ (s.agent 5).state.lives = true ∧ (s.agent 5).wicket.toNat ≠ 7) ∧
    (∃ s : State, s.Inv ∧ (s.agent 5).state.lives = true ∧ (s.agent 5).wicket.toNat = 0
    ∧ (s.agent 5).deadMark = true) ∧
    (∃ s : State, s.Inv ∧ (s.agent 5).state.lives = true ∧ (s.agent 5).wicket.toNat = 0
    ∧ (s.agent 5).deadMark = false ∧ (s.agent 5).inc ≠ ({ aid := 5 } : Req).inc) ∧
    (∃ s : State, s.Inv ∧ (s.agent 5).state.lives = true ∧ (s.agent 5).wicket.toNat = 0
    ∧ (s.agent 5).deadMark = false ∧ (s.agent 5).inc = ({ aid := 5 } : Req).inc ∧ s.power.state ≠ 3 ∧ s.inHold = true
    ∧ s.rawN 0x8050 7 ≠ 1) ∧
    (∃ s : State, s.Inv ∧ (s.agent 5).state.lives = true
    ∧ (s.agent 5).deadMark = false ∧ s.power.state ≠ 3 ∧ s.inHold = true ∧ s.rawN 0x8050 7 = 1) ∧
    (∃ s : State, s.Inv ∧ (s.agent 5).state.lives = true ∧ s.inHold = false ∧ s.global = 2 ∧ s.fatal = false
    ∧ s.paused 0 = false ∧ s.quiescing = false ∧ kindAdmits (s.agent 5).kind.toNat .rdX = false) ∧
    (∃ s : State, s.Inv ∧ (s.agent 5).state = .leaving ∧ s.inHold = false ∧ s.global = 2
    ∧ s.paused 0 = false ∧ s.quiescing = false ∧ kindAdmits (s.agent 5).kind.toNat .rdX = true ∧ Opc.rdX.keptKind = false) ∧
    (∃ s : State, s.Inv ∧ (s.agent 5).state = .active ∧ s.shut 0 = true
    ∧ s.global = 2 ∧ s.paused 0 = false ∧ s.quiescing = false ∧ kindAdmits (s.agent 5).kind.toNat .rdX = true
    ∧ (s.wicket 0).qualifies .rdX 5 (s.routeTill 0 .rdX 5 0) 0 = false) :=
  ⟨⟨home, by unfold State.Inv; decide⟩,
   ⟨withA host, by unfold State.Inv; decide⟩,
   ⟨withA { host with deadMark := true }, by unfold State.Inv; decide⟩,
   ⟨withA { host with inc := 3 }, by unfold State.Inv; decide⟩,
   ⟨({ withA host with power := { state := 2 } } : State).setRawN 0x8050 7 0, by unfold State.Inv; decide⟩,
   ⟨({ withA host with power := { state := 2 } } : State).setRawN 0x8050 7 1, by unfold State.Inv; decide⟩,
   ⟨withA { host with kind := 1 }, by unfold State.Inv; decide⟩,
   ⟨withA { host with state := .leaving }, by unfold State.Inv; decide⟩,
   ⟨hostW (fun x => { x with fn := ⟨.draining, false, false, 0⟩ }), by unfold State.Inv; decide⟩⟩

theorem test_witness_SnoopResponsesCollected :
    (∃ s : State, s.Inv ∧ heard s 0 5 0 ∧ blockOk 0 0 = true
    ∧ KV.find? (s.wicket 0).sids 4 = some aSnoop ∧ aSnoop.aid = 5 ∧ aSnoop.heldOut = false ∧ aSnoop.resent = false
    ∧ permitted aSnoop.opc .i = true ∧ (∀ i ∈ covered 0 0, i ∈ aSnoop.undone ∧ i ∈ covered (lineIx aSnoop.laddr) aSnoop.blk)
    ∧ (s.wicket 0).behindWb aSnoop (covered 0 0) = true) ∧
    (∃ s : State, s.Inv ∧ heard s 0 5 0 ∧ KV.find? (s.wicket 0).sids 4 = some aSnoop ∧ permitted aSnoop.opc .i = true
    ∧ (s.wicket 0).behindWb aSnoop (covered 0 0) = false ∧ s.calm aSnoop.till
    ∧ s.folio? aSnoop.till aSnoop.folio = some { fol .rdX .snoop with due := [(5, 0), (6, 0)] }
    ∧ (∀ i ∈ covered 0 0, ((5 : Aid), i) ∈ [((5 : Aid), 0), (6, 0)])
    ∧ (∃ d ∈ [((5 : Aid), 0), (6, 0)], ∀ i ∈ covered 0 0, d ≠ ((5 : Aid), i))) ∧
    (∃ s : State, s.Inv ∧ heard s 0 5 0 ∧ KV.find? (s.wicket 0).sids 4 = some aSnoop
    ∧ permitted aSnoop.opc .s = false) ∧
    (∃ s : State, s.Inv ∧ heard s 0 5 0
    ∧ KV.find? (s.wicket 0).sids 4 = some { aSnoop with aid := 6 } ∧ ({ aSnoop with aid := 6 } : Snoop).aid ≠ 5) ∧
    (∃ s : State, s.Inv ∧ heard s 0 5 0 ∧ KV.find? (s.wicket 0).sids 4095 = none ∧ KV.find? (s.wicket 0).dups 4095 = none) ∧
    (∃ s : State, s.Inv ∧ heard s 0 5 0 ∧ blockOk 0 3 = true
    ∧ KV.find? (s.wicket 0).sids 4 = none ∧ KV.find? (s.wicket 0).dups 4 = some (5, [0, 1, 2, 3])
    ∧ (∀ i ∈ covered 0 3, i ∈ [0, 1, 2, 3])) :=
  ⟨⟨(hostW (fun x => { x with sids := [(4, aSnoop)], wbs := [⟨5, 9, 0xC0⟩] })), by unfold heard State.Inv; decide⟩,
   ⟨(withF { fol .rdX .snoop with due := [(5, 0), (6, 0)] }).modWicket 0 (fun x => { x with sids := [(4, aSnoop)] }), by unfold heard State.Inv State.calm; decide⟩,
   ⟨hostW (fun x => { x with sids := [(4, aSnoop)] }), by unfold heard State.Inv; decide⟩,
   ⟨hostW (fun x => { x with sids := [(4, { aSnoop with aid := 6 })] }), by unfold heard State.Inv; decide⟩,
   ⟨withA host, by unfold heard State.Inv; decide⟩,
   ⟨hostW (fun x => { x with dups := [(4, (5, [0, 1, 2, 3]))] }), by unfold heard State.Inv; decide⟩⟩

theorem test_witness_FoliosAcceptLookUpRetire :
    (∃ s : State, s.Inv ∧ s.calm 3 ∧ s.transfers = [] ∧ (s.till 3).gated = [] ∧ s.build.hasWicket 0 = true
    ∧ s.net.q.find? (fun q => q.till == 3 && q.w == 0) = some (flit .rdS) ∧ (flit .rdS).crd ≠ .receipt
    ∧ (s.agent 5).deadMark = false ∧ (s.agent 5).inc = (flit .rdS).inc ∧ s.liveTill (bucketOfLine (flit .rdS).laddr) = 3
    ∧ s.freeFolio 3 = some 0 ∧ (∀ c ∈ (s.till 3).chains, c.laddr ≠ (flit .rdS).laddr)) ∧
    (∃ s : State, s.Inv ∧ s.calm 3 ∧ s.transfers = []
    ∧ (s.till 3).gated = [] ∧ s.net.q.find? (fun q => q.till == 3 && q.w == 0) = some (flit .own)
    ∧ s.liveTill (bucketOfLine (flit .own).laddr) = 3 ∧ s.freeFolio 3 = some 1
    ∧ (s.till 3).chains.find? (fun c => c.laddr == (flit .own).laddr) = some ⟨0xC0, 0, 0, .bucket1⟩) ∧
    (∃ s : State, s.Inv ∧ s.calm 3 ∧ s.transfers = [] ∧ (s.till 3).gated = []
    ∧ s.folio? 3 0 = some { fol .rdS .lookup with head := true, read := some aRead } ∧ (fol .rdS .lookup).waits = false
    ∧ (fol .rdS .lookup).rdata = none ∧ aRead.crd = false
    ∧ (KV.get (s.till 3).banks (bankOf (sectorOf 0)) {}).locked = false ∧ (s.till 3).vault = []
    ∧ (s.till 3).find (sectorOf 0) = none ∧ (s.regionAt 0 (s.regionOf 0 (sectorOf 0))).untracked = false) ∧
    (∃ s : State, s.Inv ∧ s.calm 3 ∧ s.transfers = [] ∧ (s.till 3).gated = []
    ∧ s.folio? 3 0 = some { fol .rdS .done with readOut := true } ∧ (fol .rdS .done).writes = [] ∧ (fol .rdS .done).read = none
    ∧ (fol .rdS .done).dead = false ∧ (fol .rdS .done).credit ≠ .loan ∧ (∀ a ∈ (s.till 3).memQ, a.folio ≠ 0)
    ∧ (∀ g ∈ (s.till 3).groups, g.folio ≠ 0) ∧ (∀ p ∈ (s.till 3).folios, p.2.phase ≠ .data)) ∧
    (∃ s : State, s.Inv ∧ s.calm 3 ∧ s.transfers = [] ∧ (s.till 3).gated = [] ∧ s.folio? 3 16383 = none) :=
  ⟨⟨withN { q := [flit .rdS] }, by unfold State.Inv State.calm; decide⟩,
   ⟨{ hostT (fun u => { u with folios := [(0, { fol .rdX .snoop with laddr := 0xC0, head := true })], chains := [⟨0xC0, 0, 0, .bucket1⟩] }) with net := { q := [flit .own] } }, by unfold State.Inv State.calm; decide⟩,
   ⟨withF { fol .rdS .lookup with head := true, read := some aRead }, by unfold State.Inv State.calm; decide⟩,
   ⟨withF { fol .rdS .done with readOut := true }, by unfold State.Inv State.calm; decide⟩,
   ⟨home, by unfold State.Inv State.calm; decide⟩⟩

theorem test_witness_MessagesReachTheWicket :
    (∃ s : State, s.Inv ∧ s.build.hasWicket 0 = true
    ∧ s.build.hasTill 3 = true ∧ s.fatal = false ∧ s.frontP 3 0 = some (.cmp .cmpS 5 0 9 .ok 0 false 0xC0 .own .agent)
    ∧ s.takes 5 0 = true ∧ (s.agent 5).grace = false ∧ Opc.own.isWb = false
    ∧ (∀ c ∈ (s.wicket 0).heldCmp, c.till ≠ 3 ∨ c.aid ≠ 5)) ∧
    (∃ s : State, s.Inv ∧ s.fatal = false
    ∧ s.net.d.find? (fun x => x.1 == 3 && x.2.1 == 0) = some (3, 0, ⟨5, 0, 9, 1, false, .agent⟩) ∧ s.takes 5 0 = true
    ∧ (∀ c ∈ (s.wicket 0).heldCmp, c.till ≠ 3 ∨ c.aid ≠ 5)) ∧
    (∃ s : State, s.Inv
    ∧ s.net.d.find? (fun x => x.1 == 3 && x.2.1 == 0) = some (3, 0, ⟨5, 0, 9, 1, false, .agent⟩) ∧ s.takes 5 0 = true
    ∧ (s.wicket 0).heldCmp = [aCmp true] ∧ (s.wicket 0).heldData = [] ∧ (aCmp true).till = 3 ∧ (aCmp true).aid = 5
    ∧ (aCmp true).tag = 9 ∧ (aCmp true).inc = 0 ∧ (aCmp true).needData = true ∧ (s.agent 5).grace = false) ∧
    (∃ s : State, s.Inv ∧ s.frontP 3 0 = some (.chained 5 9 0xC0) ∧ (s.wicket 0).heldRsp = []) ∧
    (∃ s : State, s.Inv ∧ s.serving 5 = true ∧ (s.agent 5).grace = false
    ∧ s.net.s.find? (fun q => q.till == 3 && q.w == 0) = some ⟨3, 0, .inv, 5, 0xC0, 0, 0⟩ ∧ (s.wicket 0).sWait = []
    ∧ KV.lowest (s.wicket 0).sids 4096 = some 0) ∧
    (∃ s : State, s.Inv ∧ s.serving 6 = false
    ∧ s.net.s.find? (fun q => q.till == 3 && q.w == 0) = some ⟨3, 0, .inv, 6, 0xC0, 0, 0⟩) ∧
    (∃ s : State, s.Inv ∧ s.takes 5 0 = true ∧ (s.till 3).loanReqs = []
    ∧ s.frontP 3 0 = some (.credit .escrow 5 0 true none .agent)) ∧
    (∃ s : State, s.Inv ∧ s.frontP 3 0 = some (.loan 1 0)) :=
  ⟨⟨withN { p := [(3, 0, .cmp .cmpS 5 0 9 .ok 0 false 0xC0 .own .agent)] }, by unfold State.Inv; decide⟩,
   ⟨withN { d := [(3, 0, ⟨5, 0, 9, 1, false, .agent⟩)] }, by unfold State.Inv; decide⟩,
   ⟨(withN { d := [(3, 0, ⟨5, 0, 9, 1, false, .agent⟩)] }).modWicket 0 (fun x => { x with heldCmp := [aCmp true] }), by unfold State.Inv; decide⟩,
   ⟨withN { p := [(3, 0, .chained 5 9 0xC0)] }, by unfold State.Inv; decide⟩,
   ⟨withN { s := [⟨3, 0, .inv, 5, 0xC0, 0, 0⟩] }, by unfold State.Inv; decide⟩,
   ⟨withN { s := [⟨3, 0, .inv, 6, 0xC0, 0, 0⟩] }, by unfold State.Inv; decide⟩,
   ⟨withN { p := [(3, 0, .credit .escrow 5 0 true none .agent)] }, by unfold State.Inv; decide⟩,
   ⟨withN { p := [(3, 0, .loan 1 0)] }, by unfold State.Inv; decide⟩⟩

theorem test_witness_LoansReceiptsForeclosedResponses :
    (∃ s : State, s.Inv ∧ s.build.hasWicket 0 = true ∧ s.calm 3
    ∧ s.frontW 0 3 = some (.loanReq false) ∧ (s.till 3).loanReqs = [] ∧ s.recalls 3 = false) ∧
    (∃ s : State, s.Inv ∧ s.calm 3 ∧ (s.till 3).loanReqs = []
    ∧ s.due ((s.wicket 0).loan 3).idleTick (s.rawN 0x4011 3) = true ∧ 0 < ((s.wicket 0).loan 3).folios) ∧
    (∃ s : State, s.Inv ∧ s.calm 3
    ∧ s.due ((s.wicket 0).loan 3).idleTick (s.rawN 0x4011 3) = false) ∧
    (∃ s : State, s.Inv ∧ s.calm 3
    ∧ s.frontW 0 3 = some (.foreclosed 0 5 0xC0 [0])
    ∧ s.folio? 3 0 = some { fol .rdX .snoop with due := [(5, 0), (6, 0)], foundX := [0], owners := [5] }
    ∧ (∀ i ∈ [0], ((5 : Aid), i) ∈ [((5 : Aid), 0), (6, 0)]) ∧ ((6 : Aid), 0) ≠ (5, 0)) ∧
    (∃ s : State, s.Inv
    ∧ s.calm 3 ∧ (s.till 3).receipts.find? (fun r => r.folio == 0) = some ⟨0, 5, false, 0⟩
    ∧ s.folio? 3 0 = some (fol .rdX .reserved) ∧ (fol .rdX .reserved).job = .request ∧ (fol .rdX .reserved).dead = false
    ∧ (∀ u ∈ s.tills, ∀ p ∈ u.folios, p.2.phase ≠ .retry) ∧ s.due 0 (s.rawN 0x4012 0) = true ∧ s.resending 3 0 = false) ∧
    (∃ s : State, s.Inv
    ∧ s.calm 3 ∧ (s.till 3).receipts.find? (fun r => r.folio == 0) = some ⟨0, 5, false, 0⟩
    ∧ s.due 0 (s.rawN 0x4012 0) = false) :=
  ⟨⟨withN { pw := [(0, 3, .loanReq false)] }, by unfold State.Inv State.calm; decide⟩,
   ⟨atTick (hostW (fun x => { x with loans := [(3, { folios := 1 })] })) (2 ^ 40), by unfold State.Inv State.calm; decide⟩,
   ⟨hostW (fun x => { x with loans := [(3, { folios := 1 })] }), by unfold State.Inv State.calm; decide⟩,
   ⟨{ withF { fol .rdX .snoop with due := [(5, 0), (6, 0)], foundX := [0], owners := [5] } with
    net := { pw := [(0, 3, .foreclosed 0 5 0xC0 [0])] } }, by unfold State.Inv State.calm; decide⟩,
   ⟨atTick (hostT (fun u => { u with receipts := [⟨0, 5, false, 0⟩], folios := [(0, fol .rdX .reserved)] })) (2 ^ 40), by unfold State.Inv State.calm; decide⟩,
   ⟨hostT (fun u => { u with receipts := [⟨0, 5, false, 0⟩], folios := [(0, fol .rdX .reserved)] }), by unfold State.Inv State.calm; decide⟩⟩

theorem test_witness_MapCommitsAndReplicas :
    (∃ s : State, s.Inv ∧ s.windowOpen ∧ s.maps.bPend ≠ []) ∧
    (∃ s : State, s.Inv ∧ s.windowOpen ∧ s.maps.bPend = []
    ∧ s.transfers ≠ []) ∧
    (∃ s : State, s.Inv ∧ s.windowOpen ∧ s.maps.bPend = [] ∧ s.transfers = []
    ∧ s.oldBGen = false ∧ s.badBucket 4095 = true) ∧
    (∃ s : State, s.Inv ∧ s.windowOpen ∧ s.maps.bPend = [] ∧ s.transfers = []
    ∧ s.oldBGen = false ∧ s.badBucket 4095 = false ∧ s.maps.bShadow ≠ s.maps.bLive
    ∧ s.cachingActive = false ∧ s.anyFolio = false) ∧
    (∃ s : State, s.Inv ∧ s.windowOpen ∧ s.maps.bPend = [] ∧ s.transfers = [] ∧ s.oldBGen = false ∧ s.maps.bShadow = s.maps.bLive) ∧
    (∃ s : State, s.Inv ∧ s.windowOpen ∧ s.maps.bPend = [] ∧ s.transfers = []
    ∧ s.oldBGen = false ∧ s.maps.bShadow ≠ s.maps.bLive ∧ s.cachingActive = true) ∧
    (∃ s : State, s.Inv ∧ s.windowOpen ∧ s.maps.rPend ≠ []) ∧
    (∃ s : State, s.Inv ∧ s.windowOpen ∧ s.maps.rPend = [] ∧ s.maps.bPend = []
    ∧ s.transfers = [] ∧ s.oldRGen = false ∧ (s.shadowRegion 63).illegal 63 = true
    ∧ (∀ m, m < 63 → (s.shadowRegion m).illegal m = false)) ∧
    (∃ s : State, s.Inv ∧ s.windowOpen ∧ s.maps.rPend = [] ∧ s.oldRGen = false ∧ (∀ n, n < 64 → (s.shadowRegion n).illegal n = false)
    ∧ untrackedChanges s = false ∧ s.maps.rShadow = s.maps.rLive) ∧
    (∃ s : State, s.Inv ∧ s.windowOpen ∧ s.maps.rPend = []
    ∧ s.maps.bPend = [] ∧ s.transfers = [] ∧ s.oldRGen = false ∧ (∀ n, n < 64 → (s.shadowRegion n).illegal n = false)
    ∧ untrackedChanges s = true ∧ s.cachingActive = true) ∧
    (∃ s : State, s.Inv ∧ s.windowOpen ∧ s.maps.rPend = []
    ∧ s.maps.bPend = [] ∧ s.transfers = [] ∧ s.oldRGen = false ∧ (∀ n, n < 64 → (s.shadowRegion n).illegal n = false)
    ∧ untrackedChanges s = false ∧ s.maps.rShadow ≠ s.maps.rLive ∧ 0 ∈ s.madeRetentive) ∧
    (∃ s : State, s.Inv ∧ hasReplica s.build 0 = true ∧ hasReplica s.build 9 = true
    ∧ 1 ∉ s.maps.bPend ∧ 0 ∈ s.maps.bPend ∧ s.transfers = [] ∧ (∃ m ∈ s.maps.bPend, m ≠ 0) ∧ 9 ∈ s.maps.rPend
    ∧ (∀ m ∈ s.maps.rPend, m = 9) ∧ 0 ∉ s.maps.rPend) :=
  ⟨⟨{ home with maps := { bPend := [3] } }, by unfold State.Inv State.windowOpen; decide⟩,
   ⟨{ home with transfers := [⟨true, 3, 16, 1, [], false, false, 0, false, false, 0⟩] }, by unfold State.Inv State.windowOpen; decide⟩,
   ⟨{ home with maps := { bShadow := [(4095, 17)] } }, by unfold State.Inv State.windowOpen; decide⟩,
   ⟨{ home with maps := { bShadow := [(4095, 2)] } }, by unfold State.Inv State.windowOpen; decide⟩,
   ⟨home, by unfold State.Inv State.windowOpen; decide⟩,
   ⟨{ withA host with maps := { bShadow := [(0, 2)] } }, by unfold State.Inv State.windowOpen; decide⟩,
   ⟨{ home with maps := { rPend := [3] } }, by unfold State.Inv State.windowOpen; decide⟩,
   ⟨{ home with maps := { rShadow := [(63, ⟨1, 0, 0x80000000⟩)] } }, by unfold State.Inv State.windowOpen; decide⟩,
   ⟨home, by unfold State.Inv State.windowOpen; decide⟩,
   ⟨{ withA host with maps := { rShadow := [(0, ⟨0, 0, 0x90000000⟩)] } }, by unfold State.Inv State.windowOpen; decide⟩,
   ⟨{ home with maps := { rShadow := [(0, ⟨0, 0, 0xC0000000⟩)] } }, by unfold State.Inv State.windowOpen; decide⟩,
   ⟨{ home with maps := { bPend := [0, 9], rPend := [9] } }, by unfold State.Inv; decide⟩⟩

theorem test_witness_CellarComesUp :
    (∃ s : State, s.Inv ∧ s.windowOpen ∧ s.cellarState ≠ 0) ∧
    (∃ s : State, s.Inv ∧ s.windowOpen ∧ s.cellarState = 0 ∧ s.cellarConfigOk = false) ∧
    (∃ s : State, s.Inv ∧ s.windowOpen ∧ s.cellarState = 0 ∧ s.cellarConfigOk = true ∧ readHeader 0 = none) ∧
    (∃ s : State, s.Inv ∧ s.windowOpen ∧ s.cellarState = 0 ∧ s.cellarConfigOk = true ∧ readHeader (headerLine 3 4) = some (3, 4)
    ∧ nextGen 3 = 4) ∧
    (∃ s : State, s.Inv ∧ s.windowOpen ∧ s.cellarState = 0 ∧ s.cellarConfigOk = true ∧ readHeader (headerLine 255 4) = some (255, 4)
    ∧ nextGen 255 ≠ 4) ∧
    (∃ s : State, s.Inv ∧ s.cellarState = 1) ∧
    (∃ s : State, s.Inv ∧ s.windowOpen ∧ s.au.preload.isSome = true) ∧
    (∃ s : State, s.Inv ∧ s.windowOpen ∧ s.au.preload = none ∧ s.rawN 0x3F10 2 ≤ s.rawN 0x3F10 1) ∧
    (∃ s : State, s.Inv ∧ s.windowOpen ∧ s.au.preload = none ∧ s.build = .h1L
    ∧ s.rawN 0x3F10 1 % 4096 = 0 ∧ s.rawN 0x3F10 2 % 4096 = 0 ∧ s.rawN 0x3F10 1 < s.rawN 0x3F10 2 ∧ s.rawN 0x3F10 2 ≤ 2 ^ 44) ∧
    (∃ s : State, s.Inv ∧ s.calm (s.liveTill (bucketOfSector 48))
    ∧ s.au.preload = some (1, (48 : BitVec 36).toNat, 50) ∧ 4 ≤ (s.till (s.liveTill (bucketOfSector 48))).internalFree
    ∧ 0 < KV.get s.au.orderCred (ordGroup 3) 0 ∧ 48 + 1 < 50) ∧
    (∃ s : State, s.Inv ∧ s.calm (s.liveTill (bucketOfSector 48))
    ∧ s.au.preload = some (1, (48 : BitVec 36).toNat, 49) ∧ 0 < KV.get s.au.orderCred (ordGroup 3) 0) ∧
    (∃ s : State, s.Inv ∧ s.cellarState = 2 ∧ 0 < s.groupCount
    ∧ s.liveTill 0 = 0 ∧ s.calm 0 ∧ 0 < (s.till 0).internalFree ∧ KV.find? (s.till 0).rebuild 0 = none
    ∧ 0 * s.groupCount + 0 = s.au.cellarCursor ∧ 0 * s.groupCount + 0 + 1 < s.allGroups ∧ 0 < KV.get s.au.orderCred (ordGroup 2) 0) :=
  ⟨⟨{ home with cellarState := 2 }, by unfold State.Inv State.windowOpen; decide⟩,
   ⟨home.setRawN 0x3F00 0 64, by unfold State.Inv State.windowOpen; decide⟩,
   ⟨home, by unfold State.Inv State.windowOpen; decide⟩,
   ⟨home, by unfold State.Inv State.windowOpen; decide⟩,
   ⟨home, by unfold State.Inv State.windowOpen; decide⟩,
   ⟨{ home with cellarState := 1 }, by unfold State.Inv; decide⟩,
   ⟨withU { preload := some (1, 0, 16) }, by unfold State.Inv State.windowOpen; decide⟩,
   ⟨home, by unfold State.Inv State.windowOpen; decide⟩,
   ⟨(home.setRawN 0x3F10 1 0).setRawN 0x3F10 2 (2 ^ 44), by unfold State.Inv State.windowOpen; decide⟩,
   ⟨withU { preload := some (1, 48, 50), orderCred := [(ordGroup 3, 1)] }, by unfold State.Inv State.calm; decide⟩,
   ⟨withU { preload := some (1, 48, 49), orderCred := [(ordGroup 3, 1)] }, by unfold State.Inv State.calm; decide⟩,
   ⟨{ withU { orderCred := [(ordGroup 2, 1)] } with cellarState := 2 }, by unfold State.Inv State.calm; decide⟩⟩

theorem test_witness_WalksAdvance :
    (∃ s : State, s.Inv ∧ s.calm 3 ∧ s.walked 3 = true
    ∧ KV.get (s.au.sets false) 3 0 = 0 * 2048 + 0 ∧ s.au.walkers false ≠ [] ∧ readSet s 3 0 0 = s
    ∧ 4 * (s.walkSectors false 3 0 0).length ≤ (s.till 3).internalFree ∧ 0 < KV.get s.au.orderCred (ordKey 3 (bit false)) 0
    ∧ 0 * 2048 + 0 + 1 < vaultSets) ∧
    (∃ s : State, s.Inv ∧ s.calm 3
    ∧ s.walked 3 = true ∧ KV.get (s.au.sets true) 3 0 = 15 * 2048 + 2046 ∧ s.au.walkers true ≠ []
    ∧ 4 * (s.walkSectors true 3 15 2046).length ≤ (s.till 3).internalFree ∧ 0 < KV.get s.au.orderCred (ordKey 3 (bit true)) 0
    ∧ 15 * 2048 + 2046 + 1 < vaultSets) ∧
    (∃ s : State, s.Inv ∧ s.calm 3 ∧ s.au.walkers true = [] ∧ s.au.clean = []) ∧
    (∃ s : State, s.Inv ∧ s.calm 3 ∧ s.au.clean = [(63, 5)] ∧ s.holdsRegion 63 = false) ∧
    (∃ s : State, s.Inv ∧ s.calm 3
    ∧ KV.find? (s.till 3).resolve 2 = some ⟨false, 0, 0, 0, 0, 2 ^ 36⟩ ∧ nextCandidate s 3 ⟨false, 0, 0, 0, 0, 2 ^ 36⟩ = none) ∧
    (∃ s : State, s.Inv ∧ s.calm 0 ∧ KV.find? (s.till 0).resolve 2 = some ⟨false, 0, 0, 0, 0, 0⟩
    ∧ nextCandidate s 0 ⟨false, 0, 0, 0, 0, 0⟩ = some 0 ∧ 4 ≤ (s.till 0).internalFree ∧ 0 < KV.get s.au.orderCred (ordKey 0 2) 0) ∧
    (∃ s : State, s.Inv ∧ s.calm 3
    ∧ KV.find? (s.till 3).rebuild 3 = some ⟨2 ^ 36, 0⟩ ∧ (∀ p ∈ (s.till 3).rebuild, 3 ≤ p.1)
    ∧ nextInBucket s 3 3 (2 ^ 20) (2 ^ 36 / 65536) (2 ^ 36) = none ∧ s.cellarState ≠ 2) ∧
    (∃ s : State, s.Inv ∧ s.calm 3
    ∧ KV.find? (s.till 3).rebuild 3 = some ⟨0, 0⟩ ∧ (nextInBucket s 3 3 (2 ^ 20) 0 0).isSome = true ∧ 4 ≤ (s.till 3).internalFree
    ∧ 0 < KV.get s.au.orderCred (ordKey 3 3) 0) :=
  ⟨⟨withU { fore := [⟨5, [], 1⟩], orderCred := [(ordKey 3 0, 1)] }, by unfold State.Inv State.calm; decide⟩,
   ⟨withU { leave := [⟨5, [], 1⟩], leaveSet := [(3, 32766)], orderCred := [(ordKey 3 1, 1)] }, by unfold State.Inv State.calm; decide⟩,
   ⟨home, by unfold State.Inv State.calm; decide⟩,
   ⟨withU { clean := [(63, 5)] }, by unfold State.Inv State.calm; decide⟩,
   ⟨withT (fun u => { u with resolve := [(2, ⟨false, 0, 0, 0, 0, 2 ^ 36⟩)] }), by unfold State.Inv State.calm; decide⟩,
   ⟨{ home.modTill 0 (fun u => { u with resolve := [(2, ⟨false, 0, 0, 0, 0, 0⟩)] }) with au := { orderCred := [(ordKey 0 2, 1)] } }, by unfold State.Inv State.calm; decide⟩,
   ⟨{ withT (fun u => { u with rebuild := [(3, ⟨2 ^ 36, 0⟩)] }) with cellarState := 0 }, by unfold State.Inv State.calm; decide⟩,
   ⟨{ withT (fun u => { u with rebuild := [(3, ⟨0, 0⟩)] }) with au := { orderCred := [(ordKey 3 3, 1)] } }, by unfold State.Inv State.calm; decide⟩⟩

theorem test_witness_StorageCareAndWatchdogs :
    (∃ s : State, s.Inv ∧ s.calm 3 ∧ (s.till 3).scrubCredit < 1024) ∧
    (∃ s : State, s.Inv ∧ s.calm 3
    ∧ (s.till 3).scrubBank < 16 ∧ 1024 ≤ (s.till 3).scrubCredit
    ∧ runPages (s.till 3) (s.till 3).scrubBank (s.till 3).scrubPage = []) ∧
    (∃ s : State, s.Inv ∧ s.calm 3 ∧ (3, 15, 7) ∈ s.au.retire ∧ (3, 15, 8) ∉ s.au.retire
    ∧ KV.get (s.till 3).rowsRetired 15 0 < 32) ∧
    (∃ s : State, s.Inv ∧ s.calm 3 ∧ (3, 0, 7) ∈ s.au.retire ∧ KV.get (s.till 3).rowsRetired 0 0 = 31) ∧
    (∃ s : State, s.Inv ∧ s.calm 3 ∧ (3, 0, 7) ∈ s.au.retire ∧ 32 ≤ KV.get (s.till 3).rowsRetired 0 0) ∧
    (∃ s : State, s.Inv ∧ s.calm 3 ∧ (s.till 3).idleTicks < s.rawN 0x7000 7) ∧
    (∃ s : State, s.Inv ∧ s.calm 3 ∧ s.rawN 0x7000 7 ≤ (s.till 3).idleTicks) ∧
    (∃ s : State, s.Inv ∧ s.calm 3
    ∧ (KV.get (s.till 3).banks 15 {}).locked = true ∧ s.due 0 (s.rawN 0x6800 2) = false) ∧
    (∃ s : State, s.Inv ∧ s.calm 3
    ∧ (KV.get (s.till 3).banks 15 {}).locked = true ∧ (KV.get (s.till 3).banks 15 {}).stuck = false
    ∧ s.due 0 (s.rawN 0x6800 2) = true) :=
  ⟨⟨home, by unfold State.Inv State.calm; decide⟩,
   ⟨withT (fun u => { u with scrubBank := 15, scrubPage := 496, scrubCredit := 1024 }), by unfold State.Inv State.calm; decide⟩,
   ⟨withU { retire := [(3, 15, 7)] }, by unfold State.Inv State.calm; decide⟩,
   ⟨{ withU { retire := [(3, 0, 7)] } with tills := (withT (fun u => { u with rowsRetired := [(0, 31)] })).tills }, by unfold State.Inv State.calm; decide⟩,
   ⟨{ withU { retire := [(3, 0, 7)] } with tills := (withT (fun u => { u with rowsRetired := [(0, 32)] })).tills }, by unfold State.Inv State.calm; decide⟩,
   ⟨home, by unfold State.Inv State.calm; decide⟩,
   ⟨withT (fun u => { u with idleTicks := home.rawN 0x7000 7 }), by unfold State.Inv State.calm; decide⟩,
   ⟨withT (fun u => { u with banks := [(15, { grant := some 1, locked := true })] }), by unfold State.Inv State.calm; decide⟩,
   ⟨atTick (withT (fun u => { u with banks := [(15, { grant := some 1, locked := true })] })) (2 ^ 40), by unfold State.Inv State.calm; decide⟩⟩

theorem test_witness_PlannedTransferSteps :
    (∃ s : State, s.Inv ∧ s.transfers = [move 1 []] ∧ s.calm 3
    ∧ s.build.hasTill 16 = true ∧ (3 : Nat) ≠ 16 ∧ KV.get (s.till 3).copyBank 15 0 < 32 ∧ 0 < KV.get s.au.orderCred (1024 + 15) 0) ∧
    (∃ s : State, s.Inv ∧ s.transfers = [move 1 []]
    ∧ s.calm 3 ∧ (s.till 3).copied = true ∧ s.maps.bPend = [] ∧ s.oldBGen = false ∧ (move 1 []).done = 0) ∧
    (∃ s : State, s.Inv ∧ s.transfers = [move 2 [3]] ∧ s.calm 3 ∧ s.maps.bPend = [] ∧ s.chainOpen (move 2 [3]) = false) ∧
    (∃ s : State, s.Inv ∧ s.calm 3 ∧ s.batchOpen { move 2 [3] with notice := true } = false
    ∧ (s.till 3).vault = [] ∧ (s.till 16).vault = [] ∧ (s.till 3).claims = []) ∧
    (∃ s : State, s.Inv ∧ s.calm 3 ∧ 3 ∈ s.net.copyEnd ∧ s.allAcked 16 3 = false) ∧
    (∃ s : State, s.Inv ∧ s.calm 3 ∧ s.build.hasWicket 8 = true
    ∧ s.frontP 3 8 = some (.handover [3]) ∧ s.owes 8 3 = false) ∧
    (∃ s : State, s.Inv ∧ s.calm 3 ∧ s.frontP 3 0 = some (.handover [3]) ∧ s.owes 0 3 = true) ∧
    (∃ s : State, s.Inv ∧ s.calm 3
    ∧ s.frontW 0 16 = some (.handoverAck 3) ∧ (s.till 16).copyEnd = false) ∧
    (∃ s : State, s.Inv ∧ s.calm 3
    ∧ s.frontW 0 16 = some (.handoverAck 3) ∧ (s.till 16).copyEnd = true ∧ (s.till 16).deferred = [] ∧ s.bucketsOf 3 ≠ []
    ∧ (∀ v, v < 9 → s.build.hasWicket v = true → v ≠ 0 → 3 * 16 + v ∈ (s.till 16).acks)) :=
  ⟨⟨{ withX (move 1 []) id with au := { orderCred := [(1024 + 15, 1)] } }, by unfold State.Inv State.calm; decide⟩,
   ⟨withX (move 1 []) (fun u => { u with copyBank := (List.range 16).map (fun b => (b, 32)) }), by unfold State.Inv State.calm; decide⟩,
   ⟨withX (move 2 [3]) id, by unfold State.Inv State.calm; decide⟩,
   ⟨withX { move 2 [3] with notice := true } id, by unfold State.Inv State.calm; decide⟩,
   ⟨{ withX (move 2 [3]) id with net := { copyEnd := [3] } }, by unfold State.Inv State.calm; decide⟩,
   ⟨{ withX (move 2 [3]) id with net := { p := [(3, 8, .handover [3])] } }, by unfold State.Inv State.calm; decide⟩,
   ⟨({ withX (move 2 [3]) id with net := { p := [(3, 0, .handover [3])] } } : State).modWicket 0 (fun x => { x with
    heldCmp := [aCmp true] }), by unfold State.Inv State.calm; decide⟩,
   ⟨{ withX (move 2 [3]) id with net := { pw := [(0, 16, .handoverAck 3)] } }, by unfold State.Inv State.calm; decide⟩,
   ⟨({ withX (move 2 [3]) id with net := { pw := [(0, 16, .handoverAck 3)] } } : State).modTill 16 (fun u => { u with
    copyEnd := true, acks := [1, 2, 3, 4, 5, 6, 7, 8].map (fun w => 3 * 16 + w) }), by unfold State.Inv State.calm; decide⟩⟩

theorem test_witness_FailedTillIsSalvagedAndReset :
    (∃ s : State, s.Inv ∧ s.build.hasTill 3 = true ∧ s.build.hasWicket 0 = true
    ∧ s.frontP 3 0 = some .tillDown ∧ s.owes 0 3 = false ∧ 0 ∉ s.maps.bPend ∧ (s.wicket 0).down = [] ∧ s.transfers = [forced]) ∧
    (∃ s : State, s.Inv ∧ s.frontP 3 0 = some .tillDown ∧ s.owes 0 3 = true) ∧
    (∃ s : State, s.Inv
    ∧ s.frontP 3 0 = some .tillDown ∧ s.owes 0 3 = false ∧ 0 ∈ s.maps.bPend) ∧
    (∃ s : State, s.Inv ∧ s.build.hasWicket 8 = true ∧ (3, 8) ∈ s.net.marks
    ∧ (3, 7) ∉ s.net.marks) ∧
    (∃ s : State, s.Inv ∧ s.xfer? 3 = some forced ∧ (∃ w ∈ [8], s.build.hasWicket w = true ∧ w ∉ (s.till 3).marks)) ∧
    (∃ s : State, s.Inv ∧ s.xfer? 3 = some forced
    ∧ (∀ w, w < 9 → s.build.hasWicket w = true → w ∈ (s.till 3).marks) ∧ s.transfers = [forced] ∧ (s.till 3).folios = []
    ∧ (s.till 3).receipts = [] ∧ (∀ q ∈ s.net.q, q.till ≠ 3) ∧ shortAgents s 3 = [] ∧ s.allAcked 16 3 = false
    ∧ (∀ u ∈ s.tills, u.failDue = none)) ∧
    (∃ s : State, s.Inv ∧ (s.till 3).fn.st = .failed
    ∧ (s.till 3).role = .reset ∧ s.xfer? 3 = none) ∧
    (∃ s : State, s.Inv ∧ (s.till 3).fn.st ≠ .failed) :=
  ⟨⟨{ withX forced id with net := { p := [(3, 0, .tillDown)] } }, by unfold State.Inv; decide⟩,
   ⟨({ withX forced id with net := { p := [(3, 0, .tillDown)] } } : State).modWicket 0 (fun x => { x with heldCmp := [aCmp true] }), by unfold State.Inv; decide⟩,
   ⟨{ withX forced id with net := { p := [(3, 0, .tillDown)] }, maps := { bPend := [0] } }, by unfold State.Inv; decide⟩,
   ⟨{ withX forced id with net := { marks := [(3, 8)] } }, by unfold State.Inv; decide⟩,
   ⟨withX forced id, by unfold State.Inv; decide⟩,
   ⟨withX forced (fun u => { u with marks := [0, 1, 2, 3, 4, 5, 6, 7, 8] }), by unfold State.Inv; decide⟩,
   ⟨withT (fun u => { u with fn := ⟨.failed, false, false, 0⟩, role := .reset }), by unfold State.Inv; decide⟩,
   ⟨home, by unfold State.Inv; decide⟩⟩

theorem test_witness_PortAndBankDecide :
    (∃ s : State, s.Inv
    ∧ s.build.hasWicket 0 = true ∧ (advance s 1).pickBypass 0 = none ∧ (advance s 1).pickShaped 0 = some (entry .rdX none)
    ∧ ((advance s 1).wicket 0).creditFor (entry .rdX none) = some .escrow) ∧
    (∃ s : State, s.Inv
    ∧ s.build.hasWicket 0 = true ∧ (advance s 1).pickBypass 0 = some (entry .evc (some 0))) ∧
    (∃ s : State, s.Inv ∧ s.build.hasWicket 8 = true ∧ (advance s 1).pickBypass 8 = none ∧ (advance s 1).pickShaped 8 = none) ∧
    (∃ s : State, s.Inv ∧ s.build.hasTill 17 = true ∧ (KV.get ((advance s 1).till 17).banks 15 {}).locked = false
    ∧ (List.range 4).filter (fun r => (0 : BitVec 4).getLsbD r) = []
    ∧ (List.range 4).filter (fun r => (8 : BitVec 4).getLsbD r) = [3]) ∧
    (∃ s : State, s.Inv
    ∧ (KV.get ((advance s 1).till 3).banks 15 {}).locked = true ∧ (KV.get ((advance s 1).till 3).banks 15 {}).debugLock = false) :=
  ⟨⟨(withA host).modWicket 0 (fun x => { x with entries := [entry .rdX none], creds := [(ckey 5 3, { folios := 1 })] }), by unfold State.Inv; decide⟩,
   ⟨(withA host).modWicket 0 (fun x => { x with entries := [entry .evc (some 0)], creds := [(ckey 5 3, { keptF := 1 })] }), by unfold State.Inv; decide⟩,
   ⟨home, by unfold State.Inv; decide⟩,
   ⟨home, by unfold State.Inv; decide⟩,
   ⟨withT (fun u => { u with banks := [(15, { grant := some 1, locked := true })] }), by unfold State.Inv; decide⟩⟩

theorem test_witness_LinksAndStalls :
    (∃ s : State, s.Inv ∧ hasLink s.build 0 = true ∧ (s.link 0).state < 2 ∧ (s.link 0).half0 = true ∧ 0 + 1 < s.rawN 0x5000 6
    ∧ (s.link 0).state = 0) ∧
    (∃ s : State, s.Inv
    ∧ hasLink s.build 91 = true ∧ (s.link 91).half0 = false ∧ s.rawN 0x5000 6 ≤ (s.link 91).replay1 + 1) ∧
    (∃ s : State, s.Inv
    ∧ hasLink s.build 0 = true ∧ (s.link 0).state = 1 ∧ s.rawN 0x5000 6 ≤ (s.link 0).replay1 + 1 ∧ s.linkUsed 0 = true) ∧
    (∃ s : State, s.Inv
    ∧ hasLink s.build 70 = true ∧ (s.link 70).state = 1 ∧ s.rawN 0x5000 6 ≤ (s.link 70).replay1 + 1 ∧ s.linkUsed 70 = false
    ∧ s.windowOpen ∧ s.exch.routeBusy = false) ∧
    (∃ s : State, s.Inv ∧ 91 < 128 ∧ hasLink s.build 91 = true
    ∧ (s.link 91).state = 3 ∧ s.windowOpen ∧ s.exch.routeBusy = true) ∧
    (∃ s : State, s.Inv ∧ 45 % 8 < s.build.side ∧ 45 / 8 < s.build.side ∧ s.exch.localBite ≠ some s.time.tick
    ∧ s.build.nodeAt 45 = some (.wicket 7) ∧ (∀ a ∈ (s.wicket 7).resetting, (s.agent a.toNat).state ≠ .foreclosing)
    ∧ s.build.nodeAt 1 = some (.till 0) ∧ s.calm 0 ∧ s.walked 0 = true ∧ s.build.nodeAt 9 = some .au) ∧
    (∃ s : State, s.Inv ∧ s.exch.localBite = some s.time.tick) :=
  ⟨⟨home, by unfold State.Inv; decide⟩,
   ⟨{ home with exch := { links := [(91, { state := 0, half0 := false, half1 := true, replay1 := 1000 })] } }, by unfold State.Inv; decide⟩,
   ⟨{ small with exch := { links := [(0, { state := 1, half0 := false, half1 := true, replay1 := 1000 })] } }, by unfold State.Inv; decide⟩,
   ⟨{ mid with exch := { links := [(70, { state := 1, half0 := false, half1 := true, replay1 := 1000 })] } }, by unfold State.Inv State.windowOpen; decide⟩,
   ⟨{ home with exch := { links := [(91, { state := 3 })], routeBusy := true } }, by unfold State.Inv State.windowOpen; decide⟩,
   ⟨home, by unfold State.Inv State.calm; decide⟩,
   ⟨{ home with exch := { localBite := some 0 } }, by unfold State.Inv; decide⟩⟩

theorem test_witness_RouteCommitIsFenced :
    (∃ s : State, s.Inv ∧ s.windowOpen ∧ s.exch.routeBusy = true) ∧
    (∃ s : State, s.Inv ∧ s.windowOpen ∧ s.exch.routeBusy = false ∧ routeFailure s = some (1, 0, 1)) ∧
    (∃ s : State, s.Inv ∧ s.windowOpen ∧ s.exch.routeBusy = false ∧ routeFailure s = none
    ∧ (routePairs s.build).filter (fun p => s.routeLive p.1 p.2 != s.routeShadow p.1 p.2) = []) ∧
    (∃ s : State, s.Inv ∧ s.windowOpen ∧ s.exch.routeBusy = false ∧ routeFailure s = none
    ∧ (routePairs s.build).filter (fun p => s.routeLive p.1 p.2 != s.routeShadow p.1 p.2) = [(0, 1)]) ∧
    (∃ s : State, s.Inv ∧ (s.build.nodeAt 0).isSome = true
    ∧ (s.build.nodeAt 1).isSome = true ∧ (∃ r ∈ s.exch.routeSteps, r.src = 0 ∧ r.dst = 1 ∧ 0 ∈ r.marks)
    ∧ (∀ r ∈ s.exch.routeSteps, r.src = 0 → r.dst = 1 → 4 ∉ r.marks) ∧ 1 ∈ step5.acking ∧ step5.acked.length < 4) ∧
    (∃ s : State, s.Inv
    ∧ s.exch.routeSteps = [{ step5 with acked := [0, 2, 3, 4] }] ∧ 1 ∈ step5.acking
    ∧ 4 ≤ ({ step5 with acked := [0, 2, 3, 4] } : RouteStep).acked.length ∧ s.routeShadow 0 1 < 2 ^ 64) :=
  ⟨⟨{ home with exch := { routeBusy := true } }, by unfold State.Inv State.windowOpen; decide⟩,
   ⟨small.setRaw 0x5100 0x41 5, by unfold State.Inv State.windowOpen; decide⟩,
   ⟨small, by unfold State.Inv State.windowOpen; decide⟩,
   ⟨small.setRaw 0x5100 0x41 0x90400000, by unfold State.Inv State.windowOpen; decide⟩,
   ⟨{ home with exch := { routeSteps := [step5], routeBusy := true } }, by unfold State.Inv; decide⟩,
   ⟨{ home with exch := { routeSteps := [{ step5 with acked := [0, 2, 3, 4] }], routeBusy := true } }, by unfold State.Inv; decide⟩⟩

theorem test_witness_AgentCommandsFollowTable :
    (∃ s : State, s.Inv ∧ s.windowOpen ∧ (s.agent 1023).state = .absent ∧ s.global = 1) ∧
    (∃ s : State, s.Inv ∧ s.windowOpen ∧ (s.agent 5).state = .absent ∧ s.global ≠ 1
    ∧ ¬ ((s.agent 5).kind = 2 ∧ (s.agent 5).wicket = 8)
    ∧ ¬ (((s.agent 5).kind = 0 ∨ (s.agent 5).kind = 1) ∧ (s.agent 5).wicket.toNat < s.build.wickets)) ∧
    (∃ s : State, s.Inv ∧ s.windowOpen ∧ (s.agent 5).state = .absent
    ∧ s.global ≠ 1 ∧ (s.agent 5).kind = 0 ∧ (s.agent 5).wicket.toNat < s.build.wickets
    ∧ (s.wicket (s.agent 5).wicket.toNat).fn.st ≠ .on) ∧
    (∃ s : State, s.Inv ∧ s.windowOpen ∧ (s.agent 5).state = .absent ∧ s.global ≠ 1
    ∧ (s.agent 5).kind = 2 ∧ (s.agent 5).wicket = 8 ∧ (s.wicket (s.agent 5).wicket.toNat).fn.st = .on) ∧
    (∃ s : State, s.Inv ∧ s.windowOpen ∧ (∀ st ∈ [AState.joining, .active, .leaving, .foreclosing, .quarantined],
    ((s.setAgent 1023 { host with state := st }).agent 1023).state = st ∧ KV.wf (s.setAgent 1023 { host with state := st }).agents = true)) ∧
    (∃ s : State, s.Inv ∧ s.chartUp = true ∧ s.inHold = false ∧ s.power.offReady = false
    ∧ s.fuses.lifecycle = 3) :=
  ⟨⟨conf, by unfold State.Inv State.windowOpen; decide⟩,
   ⟨withA { kind := 3 }, by unfold State.Inv State.windowOpen; decide⟩,
   ⟨(withA { wicket := 7 }).setFn (.wicket 7) ⟨.off, false, false, 0⟩, by unfold State.Inv State.windowOpen; decide⟩,
   ⟨withA { kind := 2, wicket := 8 }, by unfold State.Inv State.windowOpen; decide⟩,
   ⟨home, by unfold State.Inv State.windowOpen; decide⟩,
   ⟨{ home with fuses := { lifecycle := 3 } }, by unfold State.Inv; decide⟩⟩

theorem test_witness_AgentStepsEnd :
    (∃ s : State, s.Inv ∧ (s.agent 5).state = .joining
    ∧ (∀ t ∈ s.joinTills, t ∈ (s.agent 5).committed) ∧ (s.agent 5).wicket.toNat < 9) ∧
    (∃ s : State, s.Inv
    ∧ (s.agent 5).state = .joining ∧ s.foliosOpen 5 ≠ 0 ∧ (∃ t ∈ s.joinTills, t ∉ (s.agent 5).committed)) ∧
    (∃ s : State, s.Inv ∧ s.hasLeft 5 = true ∧ (s.agent 5).state ≠ .joining) ∧
    (∃ s : State, s.Inv ∧ s.hasLeft 5 = false ∧ s.foreclosed 5 = false) ∧
    (∃ s : State, s.Inv ∧ s.foreclosed 5 = true ∧ s.power.deferred = []
    ∧ (s.agent 5).link = false ∧ (s.agent 5).cause = 4) ∧
    (∃ s : State, s.Inv ∧ s.foreclosed 5 = true
    ∧ s.power.deferred = [] ∧ s.rawN 0x2080 4 ≤ (s.agent 5).windowCount.toNat) ∧
    (∃ s : State, s.Inv ∧ s.foreclosed 5 = true
    ∧ s.power.deferred = [] ∧ (s.agent 5).cause ≠ 4 ∧ (s.agent 5).windowCount.toNat < s.rawN 0x2080 4) ∧
    (∃ s : State, s.Inv ∧ (s.agent 5).state ≠ .foreclosing
    ∧ (s.agent 5).deathTick = some 0 ∧ 0 + s.rawN 0x2080 5 ≤ s.time.tick) ∧
    (∃ s : State, s.Inv ∧ (s.agent 5).deathTick = some 0
    ∧ s.time.tick < 0 + s.rawN 0x2080 5) :=
  ⟨⟨withA { host with state := .joining, committed := List.range 18 }, by unfold State.Inv; decide⟩,
   ⟨(withA { host with state := .joining }).modTill 3 (fun u => { u with folios := [(0, fol .rdS .lookup)] }), by unfold State.Inv; decide⟩,
   ⟨withA { host with state := .leaving }, by unfold State.Inv; decide⟩,
   ⟨withA host, by unfold State.Inv; decide⟩,
   ⟨withA { host with state := .foreclosing, cause := 4, link := false }, by unfold State.Inv; decide⟩,
   ⟨withA { host with state := .foreclosing, cause := 1, link := false, windowCount := 15 }, by unfold State.Inv; decide⟩,
   ⟨withA { host with state := .foreclosing, cause := 1, link := false, windowCount := 1 }, by unfold State.Inv; decide⟩,
   ⟨atTick (withA { deathTick := some 0 }) (home.rawN 0x2080 5), by unfold State.Inv; decide⟩,
   ⟨atTick (withA { deathTick := some 0 }) (home.rawN 0x2080 5 - 1), by unfold State.Inv; decide⟩⟩

theorem test_witness_LinkReportsAndResets :
    (∃ s : State, s.Inv ∧ s.build.hasWicket 0 = true ∧ s.boot ≠ .off ∧ s.power.state ≠ 3
    ∧ s.inHold = false ∧ (s.agent 5).wicket.toNat = 0 ∧ (s.agent 5).state = .quarantined) ∧
    (∃ s : State, s.Inv ∧ s.boot ≠ .off ∧ s.power.state ≠ 3 ∧ s.inHold = false
    ∧ (s.agent 5).wicket.toNat = 0 ∧ (s.agent 5).state = .absent ∧ (s.agent 5).autoRejoin = true ∧ joinResult s 5 = 0) ∧
    (∃ s : State, s.Inv ∧ s.boot ≠ .off ∧ s.power.state ≠ 3 ∧ s.inHold = false ∧ (s.agent 5).wicket.toNat = 0
    ∧ (s.agent 5).state = .absent ∧ joinResult s 5 ≠ 0) ∧
    (∃ s : State, s.Inv ∧ s.boot ≠ .off ∧ s.power.state ≠ 3 ∧ s.inHold = false
    ∧ (s.agent 5).wicket.toNat = 0 ∧ (s.agent 5).state = .joining) ∧
    (∃ s : State, s.Inv ∧ s.boot ≠ .off ∧ s.power.state ≠ 3 ∧ s.inHold = false ∧ (s.agent 5).wicket.toNat = 0
    ∧ (s.agent 5).state = .active ∧ (s.agent 5).grace = false ∧ (s.agent 5).kind ≠ 2 ∧ s.rawN 0x2080 0 ≠ 0) ∧
    (∃ s : State, s.Inv ∧ s.boot ≠ .off ∧ s.inHold = false ∧ (s.agent 5).state = .active
    ∧ (s.agent 5).grace = false ∧ (s.agent 5).kind ≠ 2 ∧ s.rawN 0x2080 0 = 0) ∧
    (∃ s : State, s.Inv ∧ s.build.hasWicket 8 = true ∧ s.boot ≠ .off ∧ s.inHold = false
    ∧ (s.agent 5).wicket.toNat = 8 ∧ (s.agent 5).state = .active ∧ (s.agent 5).grace = false ∧ (s.agent 5).kind = 2) ∧
    (∃ s : State, s.Inv ∧ s.boot ≠ .off ∧ s.power.state ≠ 3 ∧ s.inHold = false
    ∧ (s.agent 5).wicket.toNat = 0 ∧ (s.agent 5).state = .active ∧ (s.agent 5).grace = true ∧ (7 : Word) = (s.agent 5).identity
    ∧ (8 : Word) ≠ (s.agent 5).identity ∧ (s.agent 5).readmit = true) ∧
    (∃ s : State, s.Inv ∧ s.boot ≠ .off ∧ s.inHold = false ∧ (s.agent 5).state = .active
    ∧ (s.agent 5).grace = true ∧ (7 : Word) = (s.agent 5).identity ∧ (s.agent 5).readmit = false) ∧
    (∃ s : State, s.Inv ∧ s.build.hasWicket 0 = true ∧ (∀ p ∈ s.agents, p.1 < 1024)
    ∧ (∀ a ∈ (s.wicket 0).resetting, (s.agent a.toNat).state ≠ .foreclosing) ∧ 5 ∈ s.bound 0 ∧ 6 ∉ s.bound 0 ∧ s.boot ≠ .off
    ∧ s.power.state ≠ 3 ∧ s.inHold = false ∧ s.windowOpen) ∧
    (∃ s : State, s.Inv ∧ (∀ p ∈ s.agents, p.1 < 1024)
    ∧ (∀ a ∈ (s.wicket 0).resetting, (s.agent a.toNat).state ≠ .foreclosing) ∧ s.boot ≠ .off ∧ s.power.state = 2) :=
  ⟨⟨withA { state := .quarantined, link := true }, by unfold State.Inv; decide⟩,
   ⟨withA { autoRejoin := true }, by unfold State.Inv; decide⟩,
   ⟨conf, by unfold State.Inv; decide⟩,
   ⟨withA { host with state := .joining }, by unfold State.Inv; decide⟩,
   ⟨withA host, by unfold State.Inv; decide⟩,
   ⟨(withA host).setRawN 0x2080 0 0, by unfold State.Inv; decide⟩,
   ⟨withA { host with kind := 2, wicket := 8 }, by unfold State.Inv; decide⟩,
   ⟨withA { host with grace := true }, by unfold State.Inv; decide⟩,
   ⟨withA { host with grace := true, readmit := false }, by unfold State.Inv; decide⟩,
   ⟨withA host, by unfold State.Inv State.windowOpen; decide⟩,
   ⟨{ withA host with power := { state := 2 } }, by unfold State.Inv; decide⟩⟩

theorem test_witness_AgentTimersAndDeath :
    (∃ s : State, s.Inv ∧ (s.agent 5).grace = true
    ∧ (s.agent 5).graceStart + (s.agent 5).graceLen ≤ s.time.tick ∧ s.inHold = false ∧ (s.agent 5).state = .active
    ∧ (s.agent 5).wicket.toNat < 8 ∧ (s.wicket 0).sids = [] ∧ (s.wicket 0).sWait = [] ∧ (s.wicket 0).creds = []
    ∧ (∀ u ∈ s.tills, u.folios = [] ∧ u.claims = [] ∧ u.gathers = [] ∧ u.monitors = [])) ∧
    (∃ s : State, s.Inv
    ∧ ¬ ((s.agent 5).grace = true ∧ (s.agent 5).graceStart + (s.agent 5).graceLen ≤ s.time.tick ∧ s.inHold = false)) ∧
    (∃ s : State, s.Inv ∧ s.build.hasWicket 0 = true
    ∧ KV.find? (s.wicket 0).sids 4095 = some aSnoop ∧ KV.find? (s.wicket 0).sids 0 = none ∧ aSnoop.heldOut = false
    ∧ (s.agent aSnoop.aid.toNat).grace = false ∧ aSnoop.startTick + aSnoop.timeout ≤ s.time.tick
    ∧ s.serving aSnoop.aid.toNat = true) ∧
    (∃ s : State, s.Inv
    ∧ KV.find? (s.wicket 0).sids 4095 = some aSnoop ∧ s.time.tick < aSnoop.startTick + aSnoop.timeout) :=
  ⟨⟨atTick (withA { host with grace := true, graceLen := 9 }) 9, by unfold State.Inv; decide⟩,
   ⟨atTick (withA { host with grace := true, graceLen := 9 }) 8, by unfold State.Inv; decide⟩,
   ⟨atTick (hostW (fun x => { x with sids := [(4095, aSnoop)] })) 100, by unfold State.Inv; decide⟩,
   ⟨atTick (hostW (fun x => { x with sids := [(4095, aSnoop)] })) 99, by unfold State.Inv; decide⟩⟩

theorem test_witness_AgentTenantAndEscrowWrites :
    (∃ s : State, s.Inv ∧ s.windowOpen ∧ (s.agent 1023).state = .absent) ∧
    (∃ s : State, s.Inv ∧ s.windowOpen ∧ (s.agent 5).state ≠ .absent) ∧
    (∃ s : State, s.Inv ∧ s.windowOpen ∧ (s.raw (0x2040 + 63) 0).getLsbD 5 = true
    ∧ (0 : Word).getLsbD 5 = false ∧ (s.agent (64 * 0 + 5)).state ≠ .absent) ∧
    (∃ s : State, s.Inv ∧ s.windowOpen ∧ (∀ b, b < 64 → (s.raw (0x2040 + 1) 15).getLsbD b = true →
    (0 : Word).getLsbD b = false → (s.agent (64 * 15 + b)).state = .absent ∧ s.foliosOpen (64 * 15 + b) = 0)) ∧
    (∃ s : State, s.Inv ∧ s.windowOpen ∧ (∀ j, j < 2 →
    (s.modAgent 1023 (fun a => if j = 1 then { a with dataEscrow := 2 } else { a with folioEscrow := 2 })).escrowSums.1 ≤ 16128
    ∧ (s.modAgent 1023 (fun a => if j = 1 then { a with dataEscrow := 2 } else { a with folioEscrow := 2 })).escrowSums.2 ≤ 6080
    ∧ (s.setRawN 0x4010 j 2).escrowSums.1 ≤ 16128 ∧ (s.setRawN 0x4010 j 2).escrowSums.2 ≤ 6080)) ∧
    (∃ s : State, s.Inv ∧ s.windowOpen ∧ (64 : BitVec 16).toNat ≤ 64 ∧ 6080 < (s.setRawN 0x4010 1 64).escrowSums.2) :=
  ⟨⟨home, by unfold State.Inv State.windowOpen; decide⟩,
   ⟨withA host, by unfold State.Inv State.windowOpen; decide⟩,
   ⟨(withA host).setRaw 0x207F 0 0x20, by unfold State.Inv State.windowOpen; decide⟩,
   ⟨home.setRaw 0x2041 15 0x20, by unfold State.Inv State.windowOpen; decide⟩,
   ⟨home, by unfold State.Inv State.windowOpen; decide⟩,
   ⟨home, by unfold State.Inv State.windowOpen; decide⟩⟩

theorem test_witness_SlotAndShaperWrites :
    (∃ s : State, s.Inv ∧ 7 < s.build.wickets ∧ s.rawN (0xC800 + 7) 1 / 2 ^ 7 % 2 = 0 ∧ s.windowOpen) ∧
    (∃ s : State, s.Inv ∧ 0 < s.build.wickets ∧ s.rawN (0xC800 + 0) 1 / 2 ^ 7 % 2 = 1
    ∧ (s.agent 5).state = .active ∧ (s.agent 5).wicket.toNat = 0) ∧
    (∃ s : State, s.Inv ∧ s.windowOpen ∧ s.rawN (0xC800 + 0) 1 / 64 % 2 = 1 ∧ (s.fn (.wicket 0)).st = .on
    ∧ (64 : BitVec 16).toNat / 64 % 2 = 1 ∧ (0 : BitVec 16).toNat / 64 % 2 = 0 ∧ (12 : BitVec 16).toNat / 4 % 4 = 3) ∧
    (∃ s : State, s.Inv ∧ s.windowOpen
    ∧ s.rawN (0xC800 + 7) 1 / 64 % 2 = 0 ∧ (64 : BitVec 16).toNat / 64 % 2 = 1) ∧
    (∃ s : State, s.Inv ∧ s.windowOpen
    ∧ s.rawN (0xC800 + 7) 1 / 64 % 2 = 1 ∧ (s.fn (.wicket 7)).st ≠ .on) ∧
    (∃ s : State, s.windowOpen ∧ isShaper (.svcShaper 1023 3) = true ∧ funcBuilt s.build (.svcShaper 1023 3) = true
    ∧ cfgApply (BitVec.ofNat 64 (65535 * 2 ^ 32 + 8192 * 2 ^ 16)) ≠ 3
    ∧ 1 ≤ cfgRate (BitVec.ofNat 64 (65535 * 2 ^ 32 + 8192 * 2 ^ 16))
    ∧ cfgRate (BitVec.ofNat 64 (65535 * 2 ^ 32 + 8192 * 2 ^ 16)) ≤ cfgBurst (BitVec.ofNat 64 (65535 * 2 ^ 32 + 8192 * 2 ^ 16))
    ∧ cfgRate 0 = 0) :=
  ⟨⟨home, by unfold State.Inv State.windowOpen; decide⟩,
   ⟨(withA host).setRawN 0xC800 1 192, by unfold State.Inv; decide⟩,
   ⟨home.setRawN 0xC800 1 64, by unfold State.Inv State.windowOpen; decide⟩,
   ⟨(home.setRawN 0xC807 1 0).setFn (.wicket 7) ⟨.off, false, false, 0⟩, by unfold State.Inv State.windowOpen; decide⟩,
   ⟨(home.setRawN 0xC807 1 64).setFn (.wicket 7) ⟨.off, false, false, 0⟩, by unfold State.Inv State.windowOpen; decide⟩,
   ⟨home, by unfold State.windowOpen; decide⟩⟩

theorem test_witness_MonitorTimeoutClears :
    (∃ s : State, s.Inv
    ∧ s.build.hasTill 3 = true ∧ s.alive 3 = true ∧ KV.find? (s.till 3).monitors 255 = some ⟨5, 0, 0xC0, false, 0, 3⟩
    ∧ 3 + s.rawN 0x4200 0 ≤ s.time.tick ∧ KV.wf (s.till 3).monitors = true) ∧
    (∃ s : State, s.Inv
    ∧ s.alive 3 = true ∧ KV.find? (s.till 3).monitors 255 = some ⟨5, 0, 0xC0, false, 0, 3⟩ ∧ s.time.tick < 3 + s.rawN 0x4200 0) :=
  ⟨⟨atTick (withT (fun u => { u with monitors := [(255, ⟨5, 0, 0xC0, false, 0, 3⟩)] })) (3 + home.rawN 0x4200 0), by unfold State.Inv; decide⟩,
   ⟨atTick (withT (fun u => { u with monitors := [(255, ⟨5, 0, 0xC0, false, 0, 3⟩)] })) (2 + home.rawN 0x4200 0), by unfold State.Inv; decide⟩⟩

theorem test_witness_LeasesAndPostedEntriesEnd :
    (∃ s : State, s.Inv
    ∧ s.build.hasTill 3 = true ∧ s.calm 3 ∧ KV.find? (s.till 3).claims 7 = some ⟨.held, true, 9, [5], some 100, 0, 0, [], [], 0⟩
    ∧ 100 ≤ s.time.tick ∧ (∀ p ∈ (s.till 3).gathers, p.2.entry ≠ 7) ∧ (s.till 3).summary = []) ∧
    (∃ s : State, s.Inv ∧ s.calm 3 ∧ KV.find? (s.till 3).claims 7 = some ⟨.expired, true, 9, [], some 100, 0, 0, [], [], 0⟩
    ∧ 0 + s.rawN 0x4101 1 ≤ s.time.tick) ∧
    (∃ s : State, s.Inv ∧ s.calm 3
    ∧ KV.find? (s.till 3).claims 7 = some ⟨.expired, true, 9, [], some 100, 0, 0, [], [], 0⟩ ∧ s.time.tick < 100
    ∧ s.time.tick < 0 + s.rawN 0x4101 1) ∧
    (∃ s : State, s.Inv ∧ s.calm 3
    ∧ (s.till 3).releases.find? (fun r => r.page == (9 : BitVec 32).toNat) = some ⟨9, [5], none, true, some 7⟩
    ∧ (s.till 3).groups = [] ∧ (s.till 3).vault = [] ∧ (∀ r ∈ (s.till 3).releases, r.page ≠ (10 : BitVec 32).toNat)) ∧
    (∃ s : State, s.Inv
    ∧ KV.find? s.ws.post 511 = some ⟨5, 0xC0, 1, 0, false, 0, 0, 0, false⟩ ∧ 0 + s.rawN 0x4300 0 ≤ s.time.cclk) ∧
    (∃ s : State, s.Inv
    ∧ KV.find? s.ws.post 511 = some ⟨5, 0xC0, 1, 0, false, 0, 0, 0, false⟩ ∧ s.time.cclk < 0 + s.rawN 0x4300 0) :=
  ⟨⟨atTick (withT (fun u => { u with claims := [(7, ⟨.held, true, 9, [5], some 100, 0, 0, [], [], 0⟩)] })) 100, by unfold State.Inv State.calm; decide⟩,
   ⟨atTick (withT (fun u => { u with claims := [(7, ⟨.expired, true, 9, [], some 100, 0, 0, [], [], 0⟩)] })) (home.rawN 0x4101 1), by unfold State.Inv State.calm; decide⟩,
   ⟨atTick (withT (fun u => { u with claims := [(7, ⟨.expired, true, 9, [], some 100, 0, 0, [], [], 0⟩)] })) 99, by unfold State.Inv State.calm; decide⟩,
   ⟨withT (fun u => { u with releases := [⟨9, [5], none, true, some 7⟩] }), by unfold State.Inv State.calm; decide⟩,
   ⟨{ home with ws := { post := [(511, ⟨5, 0xC0, 1, 0, false, 0, 0, 0, false⟩)] }, time := { cclk := 100000 } }, by unfold State.Inv; decide⟩,
   ⟨{ home with ws := { post := [(511, ⟨5, 0xC0, 1, 0, false, 0, 0, 0, false⟩)] } }, by unfold State.Inv; decide⟩⟩

theorem test_witness_TellerReadsAnswer :
    (∃ s : State, s.Inv ∧ actsAt s 1 (plain []) ⟨4, 0, none⟩ (told s)) ∧
    (∃ s : State, s.Inv ∧ actsAt s 0x10 (plain []) blankCaller (told s) ∧ (plain []).payload.length < 4) ∧
    (∃ s : State, s.Inv ∧ actsAt s 0x10 (signed 0x10 [0, 0xF0, 0, 0]) (caller 1) (toldIn s)
    ∧ 4 ≤ (signed 0x10 [0, 0xF0, 0, 0]).payload.length ∧ 0xF000 ≤ arg (signed 0x10 [0, 0xF0, 0, 0]) 0 2 ∧ (caller 1).role ≠ 3) ∧
    (∃ s : State, s.Inv ∧ actsAt s 0x10 (plain [0, 0x20, 0xFF, 0]) blankCaller (told s) ∧ entryAt s.build 0x2000 255 = none
    ∧ arg (plain [0, 0x20, 0xFF, 0]) 0 2 = 0x2000 ∧ arg (plain [0, 0x20, 0xFF, 0]) 2 1 = 255) ∧
    (∃ s : State, s.Inv ∧ actsAt s 0x10 (plain [0x80, 0x20, 0, 0]) blankCaller (told s)
    ∧ ((entryAt s.build 0x2080 0).map (fun e => e.ty.long)) = some false ∧ (told s).gone 0x2080 = false) ∧
    (∃ s : State, s.Inv ∧ actsAt s 0x10 (plain [0x11, 0x90, 1, 0]) blankCaller (told s)
    ∧ ((entryAt s.build 0x9011 1).map (fun e => e.ty.long)) = some true) ∧
    (∃ s : State, s.Inv ∧ actsAt s 0x12 (plain [0x80, 0x20, 0, 64]) blankCaller (told s) ∧ 0 + 64 ≤ 256
    ∧ arg (plain [0x80, 0x20, 0, 64]) 3 1 = 64 ∧ arg (plain [0x80, 0x20, 0, 65]) 3 1 = 65
    ∧ actsAt s 0x12 (plain [0x80, 0x20, 0, 65]) blankCaller (told s)) ∧
    (∃ s : State, s.Inv ∧ actsAt s 0x20 (plain [2, 0, 0, 0]) blankCaller (told s) ∧ arg (plain [2, 0, 0, 0]) 0 1 < 3
    ∧ (s.stream 2).word = 0 ∧ (s.stream 2).fill = [] ∧ (s.stream 2).drain = []) ∧
    (∃ s : State, s.Inv ∧ actsAt s 0x20 (plain [2, 0, 0, 0]) blankCaller (told s) ∧ (s.stream 2).word ≠ 0) ∧
    (∃ s : State, s.Inv ∧ actsAt s 0x20 (plain [2, 0, 0, 0]) blankCaller (told s)
    ∧ (s.stream 2).word = 0 ∧ (s.stream 2).fill = [aRec 2] ∧ (s.stream 2).drain = [] ∧ (aRec 2).bytes ≤ 1024) ∧
    (∃ s : State, s.Inv ∧ actsAt s 0x21 (plain [0, 0, 0, 0]) blankCaller (told s) ∧ arg (plain [0, 0, 0, 0]) 0 2 < chanCount s.build
    ∧ arg (plain [0, 0, 0, 0]) 2 1 % 2 = 0) ∧
    (∃ s : State, s.Inv ∧ actsAt s 0x22 (plain [17, 63, 1, 0]) blankCaller (told s) ∧ s.build.hasTill (arg (plain [17, 63, 1, 0]) 0 1) = true
    ∧ 0 < arg (plain [17, 63, 1, 0]) 2 1 ∧ arg (plain [17, 63, 1, 0]) 1 1 + arg (plain [17, 63, 1, 0]) 2 1 ≤ 64) ∧
    (∃ s : State, s.Inv ∧ actsAt s 0x22 (plain [0xFF, 0, 64, 0]) blankCaller (told s) ∧ arg (plain [0xFF, 0, 64, 0]) 0 1 = 0xFF
    ∧ arg (plain [0xFF, 0, 64, 0]) 1 1 + arg (plain [0xFF, 0, 64, 0]) 2 1 ≤ 64) ∧
    (∃ s : State, s.Inv ∧ actsAt s 4 (plain []) blankCaller (told s)) ∧
    (∃ s : State, s.Inv ∧ actsAt s 4 (signed 4 []) (caller 1) (toldIn s) ∧ (signed 4 []).auth = true
    ∧ (s.session (caller 1).slot).debug = false) :=
  ⟨⟨home, by unfold State.Inv; decide, by unfold actsAt; decide⟩,
   ⟨home, by unfold State.Inv; decide, acts_plain (by decide), by decide⟩,
   ⟨inLife 1 (ses 1 .open_) {}, by unfold State.Inv; decide, acts_signed (by decide), by decide, by decide, by decide⟩,
   ⟨home, by unfold State.Inv; decide, acts_plain (by decide), by decide, by decide, by decide⟩,
   ⟨home, by unfold State.Inv; decide, acts_plain (by decide), by decide, by decide⟩,
   ⟨home, by unfold State.Inv; decide, acts_plain (by decide), by decide⟩,
   ⟨home, by unfold State.Inv; decide, acts_plain (by decide), by decide, by decide, by decide, acts_plain (by decide)⟩,
   ⟨home, by unfold State.Inv; decide, acts_plain (by decide), by decide, by decide, by decide, by decide⟩,
   ⟨withJ [{}, {}, { word := 1 }, {}] [], by unfold State.Inv; decide, acts_plain (by decide), by decide⟩,
   ⟨withJ [{}, {}, { fill := [aRec 2] }, {}] [], by unfold State.Inv; decide, acts_plain (by decide), by decide, by decide, by decide, by decide⟩,
   ⟨home, by unfold State.Inv; decide, acts_plain (by decide), by decide, by decide⟩,
   ⟨home, by unfold State.Inv; decide, acts_plain (by decide), by decide, by decide, by decide⟩,
   ⟨home, by unfold State.Inv; decide, acts_plain (by decide), by decide, by decide⟩,
   ⟨home, by unfold State.Inv; decide, acts_plain (by decide)⟩,
   ⟨inLife 1 (ses 1 .open_) {}, by unfold State.Inv; decide, acts_signed (by decide), by decide, by decide⟩⟩

theorem test_witness_TellerWritesAnswer :
    (∃ s : State, s.Inv ∧ actsAt s 0x11 (plain [0x80, 0x20, 0, 0, 4, 0]) blankCaller (told s)
    ∧ (plain [0x80, 0x20, 0, 0, 4, 0]).payload.length < 6 + arg (plain [0x80, 0x20, 0, 0, 4, 0]) 4 2) ∧
    (∃ s : State, s.Inv ∧ actsAt s 0x11 (plain [0x80, 0x20, 0, 0, 4, 0, 9, 0, 0, 0]) blankCaller (told s)
    ∧ 6 + 4 ≤ (plain [0x80, 0x20, 0, 0, 4, 0, 9, 0, 0, 0]).payload.length
    ∧ ((entryAt s.build 0x2080 0).map (fun e => (e.ty.long, e.ty.bytes))) = some (false, 4)
    ∧ firstCheck (told s) blankCaller.author 0x2080 0 8 = .ok) ∧
    (∃ s : State, s.Inv ∧ actsAt s 0x11 (plain [0x80, 0x20, 0, 0, 5, 0, 9, 0, 0, 0, 0]) blankCaller (told s)
    ∧ ((entryAt s.build 0x2080 0).map (fun e => decide (e.ty.bytes < 5))) = some true) ∧
    (∃ s : State, s.Inv ∧ actsAt s 0x11 (plain [0, 0x10, 1, 0, 1, 0, 9]) blankCaller (told s)
    ∧ ((entryAt s.build 0x1000 1).map (fun e => e.ty.long)) = some false
    ∧ firstCheck (told s) blankCaller.author 0x1000 1 8 = .readOnly) ∧
    (∃ s : State, s.Inv ∧ actsAt s 0x11 (plain [0x11, 0x90, 1, 0, 1, 0, 9]) blankCaller (told s) ∧ blankCaller.role ≠ 0
    ∧ s.sec.quarantine = false ∧ arg (plain [0x11, 0x90, 1, 0, 1, 0, 9]) 0 2 = 0x9011) ∧
    (∃ s : State, s.Inv ∧ actsAt s 0x13 (plain [0, 0]) blankCaller (told s) ∧ arg (plain [0, 0]) 0 2 = 0) ∧
    (∃ s : State, s.Inv ∧ actsAt s 0x13 (plain [1, 0, 0x80, 0x20, 0, 0, 9, 0, 0, 0, 0, 0, 0, 0]) blankCaller (told s)
    ∧ (writeEntry (told s) blankCaller.author 0x2080 0 9 8).2 = .ok ∧ (writeEntry (told s) blankCaller.author 0x1000 1 9 8).2 ≠ .ok) ∧
    (∃ s : State, s.Inv ∧ actsAt s 0x13 (plain ([2, 0] ++ [0x80, 0x20, 0, 0, 9, 0, 0, 0, 0, 0, 0, 0] ++ [0, 0x10, 1, 0, 9, 0, 0, 0, 0, 0, 0, 0]))
    blankCaller (told s) ∧ (writeEntry (told s) blankCaller.author 0x2080 0 9 8).2 = .ok
    ∧ (writeEntry (writeEntry (told s) blankCaller.author 0x2080 0 9 8).1 blankCaller.author 0x1000 1 9 8).2 ≠ .ok) ∧
    (∃ s : State, s.Inv ∧ actsAt s 5 (signed 5 []) (caller 1) (toldIn s)
    ∧ s.sec.quarantine = true ∧ (signed 5 []).auth = true ∧ (s.session (caller 1).slot).state = .restricted ∧ (caller 1).role = 1) ∧
    (∃ s : State, s.Inv ∧ actsAt s 5 (plain []) blankCaller (told s) ∧ s.sec.quarantine = false) :=
  ⟨⟨home, by unfold State.Inv; decide, acts_plain (by decide), by decide⟩,
   ⟨home, by unfold State.Inv; decide, acts_plain (by decide), by decide, by decide, by decide⟩,
   ⟨home, by unfold State.Inv; decide, acts_plain (by decide), by decide⟩,
   ⟨home, by unfold State.Inv; decide, acts_plain (by decide), by decide, by decide⟩,
   ⟨home, by unfold State.Inv; decide, acts_plain (by decide), by decide, by decide, by decide⟩,
   ⟨home, by unfold State.Inv; decide, acts_plain (by decide), by decide⟩,
   ⟨home, by unfold State.Inv; decide, acts_plain (by decide), by decide, by decide⟩,
   ⟨home, by unfold State.Inv; decide, acts_plain (by decide), by decide, by decide⟩,
   ⟨inLife 1 (ses 1 .restricted) { quarantine := true }, by unfold State.Inv; decide, acts_signed (by decide), by decide, by decide, by decide, by decide⟩,
   ⟨home, by unfold State.Inv; decide, acts_plain (by decide), by decide⟩⟩

theorem test_witness_DebugCommandsAct :
    (∃ s : State, s.Inv ∧ s.sec.quarantine = false ∧ 2 ≤ blankCaller.role
    ∧ actsAt s 0x30 (plain [2, 0, 0, 0]) blankCaller (told s) ∧ 4 ≤ s.power.state ∧ arg (plain [2, 0, 0, 0]) 0 1 ≤ 2) ∧
    (∃ s : State, s.Inv ∧ s.sec.quarantine = false ∧ actsAt s 0x30 (plain [2, 0, 0, 0]) blankCaller (told s) ∧ s.power.state < 4
    ∧ s.sec.level = 0 ∧ s.fuses.lifecycle = 0 ∧ actsAt s 0x30 (plain [3, 0, 0, 0]) blankCaller (told s)
    ∧ 2 < arg (plain [3, 0, 0, 0]) 0 1) ∧
    (∃ s : State, s.Inv ∧ s.sec.quarantine = false ∧ 2 ≤ (caller 2).role
    ∧ actsAt s 0x30 (signed 0x30 [2, 0, 0, 0]) (caller 2) (toldIn s) ∧ s.power.state < 4 ∧ s.sec.level = 0
    ∧ s.fuses.lifecycle = 2 ∧ (caller 2).role ≠ 3) ∧
    (∃ s : State, s.Inv ∧ actsAt s 0x30 (signed 0x30 [1, 0, 0, 0]) (caller 2) (toldIn s)
    ∧ arg (signed 0x30 [1, 0, 0, 0]) 0 1 = 1 ∧ (signed 0x30 [1, 0, 0, 0]).auth = true) ∧
    (∃ s : State, s.Inv ∧ s.sec.level ≠ 2 ∧ actsAt s 0x31 (plain [3, 0, 0, 0]) blankCaller (told s)
    ∧ actsAt s 0x33 (plain (List.replicate 12 0)) blankCaller (told s) ∧ actsAt s 0x37 (plain (List.replicate 20 0)) blankCaller (told s)) ∧
    (∃ s : State, s.Inv ∧ s.sec.level = 2
    ∧ (told s).holds blankCaller = true ∧ s.fuses.lifecycle ≠ 2 ∧ actsAt s 0x31 (plain [3, 0, 0, 0]) blankCaller (told s)
    ∧ s.build.hasTill 3 = true ∧ (s.till 3).role = .source) ∧
    (∃ s : State, s.Inv ∧ s.sec.level = 2 ∧ (told s).holds blankCaller = true ∧ s.fuses.lifecycle ≠ 2
    ∧ actsAt s 0x31 (plain [17, 0, 0, 0]) blankCaller (told s) ∧ actsAt s 0x32 (plain [17, 0, 0, 0]) blankCaller (told s)
    ∧ s.build.hasTill 17 = true ∧ (s.till 17).role = .spare ∧ (s.till 17).fn.st ≠ .failed ∧ (s.till 17).halted = none) ∧
    (∃ s : State, s.Inv
    ∧ (told s).holds blankCaller = true ∧ actsAt s 0x32 (plain [3, 0, 0, 0]) blankCaller (told s) ∧ (s.till 3).halted ≠ none
    ∧ (s.till 3).ni = [] ∧ (∀ p ∈ (s.till 3).folios, p.2.opc ≠ .release) ∧ (∀ x ∈ s.tills, x.failDue = none)) ∧
    (∃ s : State, s.Inv ∧ (told s).holds blankCaller = true ∧ actsAt s 0x35 (plain [3, 15, 0, 0]) blankCaller (told s)
    ∧ arg (plain [3, 15, 0, 0]) 1 1 = 15 ∧ (KV.get (s.till 3).banks 15 {}).locked = false
    ∧ actsAt s 0x36 (plain [3, 15, 0, 0]) blankCaller (told s) ∧ (3, 15) ∉ s.sec.locks) ∧
    (∃ s : State, s.Inv ∧ (told s).holds blankCaller = true ∧ actsAt s 0x36 (plain [3, 15, 0, 0]) blankCaller (told s) ∧ (3, 15) ∈ s.sec.locks
    ∧ (KV.get (s.till 3).banks 15 {}).locked = true ∧ actsAt s 0x35 (plain [3, 15, 0, 0]) blankCaller (told s)) ∧
    (∃ s : State, s.Inv ∧ actsAt s 0x33 (plain [3, 0, 15, 0, 0, 0, 0, 0, 32, 0, 0, 0]) blankCaller (told s)
    ∧ arg (plain [3, 0, 15, 0, 0, 0, 0, 0, 32, 0, 0, 0]) 8 2 = 32 ∧ arg (plain [3, 0, 15, 0, 0, 0, 0, 0, 32, 0, 0, 0]) 2 1 = 15
    ∧ arg (plain [3, 0, 15, 0, 0, 0, 0, 0, 32, 0, 0, 0]) 4 4 + 32 ≤ 2144 * 16) ∧
    (∃ s : State, s.Inv ∧ actsAt s 0x34 (plain ([3, 0, 15, 0, 0xFF, 0x7F, 0, 0] ++ List.replicate 16 1)) blankCaller (told s)
    ∧ arg (plain ([3, 0, 15, 0, 0xFF, 0x7F, 0, 0] ++ List.replicate 16 1)) 4 4 = 2048 * 16 - 1) ∧
    (∃ s : State, s.Inv ∧ (told s).holds blankCaller = true
    ∧ actsAt s 0x37 (plain (leBytes 4 5 ++ leBytes 16 (Opc.rdNc.code * 2 ^ 122))) blankCaller (told s)
    ∧ opcOf (arg (plain (leBytes 4 5 ++ leBytes 16 (Opc.rdNc.code * 2 ^ 122))) 4 16 / 2 ^ 122 % 64) = some .rdNc
    ∧ (s.agent 5).kind = 2 ∧ (s.agent 5).state = .active ∧ (told s).withheld Build.ws .rdNc = false
    ∧ (plain (leBytes 4 5 ++ leBytes 16 (Opc.rdNc.code * 2 ^ 122))).payload.length = 20) ∧
    (∃ s : State, s.Inv ∧ actsAt s 0x37 (plain (leBytes 4 5 ++ leBytes 16 (63 * 2 ^ 122))) blankCaller (told s)
    ∧ opcOf (arg (plain (leBytes 4 5 ++ leBytes 16 (63 * 2 ^ 122))) 4 16 / 2 ^ 122 % 64) = none ∧ (s.agent 5).kind ≠ 2) :=
  ⟨⟨withP { state := 4 }, by unfold State.Inv; decide, by decide, by decide, acts_plain (by decide), by decide, by decide⟩,
   ⟨home, by unfold State.Inv; decide, by decide, acts_plain (by decide), by decide, by decide, by decide, acts_plain (by decide), by decide⟩,
   ⟨inLife 2 (ses 2 .open_) {}, by unfold State.Inv; decide, by decide, by decide, acts_signed (by decide), by decide, by decide, by decide, by decide⟩,
   ⟨inLife 2 (ses 2 .open_) {}, by unfold State.Inv; decide, acts_signed (by decide), by decide, by decide⟩,
   ⟨home, by unfold State.Inv; decide, by decide, acts_plain (by decide), acts_plain (by decide), acts_plain (by decide)⟩,
   ⟨{ withS { level := 2 } with tills := (withT (fun u => { u with role := .source })).tills }, by unfold State.Inv; decide, by decide, by decide, by decide, acts_plain (by decide), by decide, by decide⟩,
   ⟨withS { level := 2 }, by unfold State.Inv; decide, by decide, by decide, by decide, acts_plain (by decide), acts_plain (by decide), by decide, by decide, by decide, by decide⟩,
   ⟨{ withS { level := 2 } with tills := (withT (fun u => { u with halted := some 9 })).tills }, by unfold State.Inv; decide, by decide, acts_plain (by decide), by decide, by decide, by decide, by decide⟩,
   ⟨withS { level := 2 }, by unfold State.Inv; decide, by decide, acts_plain (by decide), by decide, by decide, acts_plain (by decide), by decide⟩,
   ⟨{ withS { level := 2, locks := [(3, 15)] } with
    tills := (withT (fun u => { u with banks := [(15, { grant := some 3, locked := true, debugLock := true })] })).tills }, by unfold State.Inv; decide, by decide, acts_plain (by decide), by decide, by decide, acts_plain (by decide)⟩,
   ⟨withS { level := 2 }, by unfold State.Inv; decide, acts_plain (by decide), by decide, by decide, by decide⟩,
   ⟨withS { level := 2 }, by unfold State.Inv; decide, acts_plain (by decide), by decide⟩,
   ⟨{ withS { level := 2 } with agents := [(5, { host with kind := 2, wicket := 8 })] }, by unfold State.Inv; decide, by decide, acts_plain (by decide), by decide, by decide, by decide, by decide, by decide⟩,
   ⟨withS { level := 2 }, by unfold State.Inv; decide, acts_plain (by decide), by decide, by decide⟩⟩

theorem test_witness_TellerChecksInOrder :
    (∃ s : State, s.Inv ∧ tellerOf (.read (plain [])) = some (0x10, plain []) ∧ s.boot = .off) ∧
    (∃ s : State, s.Inv ∧ tellerOf (.write (plain [])) = some (0x11, plain []) ∧ s.boot ≠ .off
    ∧ s.power.state ≠ 3 ∧ s.chartUp = false ∧ tellerOf (.identify (plain [])) = some (1, plain [])) ∧
    (∃ s : State, s.Inv ∧ s.chartUp = true ∧ s.inHold = false ∧ ({ tver := 2 } : Teller).tver ≠ 1 ∧ 1024 < ({ length := 1025 } : Teller).length
    ∧ ({ auth := true } : Teller).auth = true ∧ s.fuses.lifecycle = 0) ∧
    (∃ s : State, s.Inv ∧ s.chartUp = true ∧ s.inHold = false ∧ s.fuses.lifecycle ≠ 0 ∧ (plain []).auth = false
    ∧ (∀ x ∈ s.sec.sessions, ¬ (x.live = true ∧ x.number = (signed 4 []).session.toNat))) ∧
    (∃ s : State, s.Inv ∧ s.chartUp = true ∧ s.inHold = false ∧ s.fuses.lifecycle ≠ 0
    ∧ (s.session 0).live = true ∧ (s.session 0).number = (signed 4 []).session.toNat
    ∧ (∀ j, j < 0 → ¬ ((s.session j).live = true ∧ (s.session j).number = 9))
    ∧ tellerMac (s.session 0).key (tellerHead 1 4 2 0 9 1 []) ≠ leBytes 16 ({ signed 4 [] with mac := 0 } : Teller).mac.toNat
    ∧ (s.session 0).macFails < 7) ∧
    (∃ s : State, s.Inv ∧ s.chartUp = true ∧ s.inHold = false ∧ (s.session 0).live = true
    ∧ tellerMac (s.session 0).key (tellerHead 1 4 2 0 9 1 []) = leBytes 16 (signed 4 []).mac.toNat
    ∧ (signed 4 []).seq.toNat ≠ (s.session 0).seq + 1) ∧
    (∃ s : State, s.Inv ∧ tellerOf (.unknownCommand 0x7F (plain [])) = some (0x7F, plain [])
    ∧ actsAt s 0x7F (plain []) blankCaller (told s) ∧ knownCmd 0x7F = false) :=
  ⟨⟨{ home with boot := .off }, by unfold State.Inv; decide⟩,
   ⟨{ home with inReset := true }, by unfold State.Inv; decide⟩,
   ⟨home, by unfold State.Inv; decide⟩,
   ⟨inLife 1 {} {}, by unfold State.Inv; decide⟩,
   ⟨inLife 1 { ses 1 .open_ with macFails := 6 } {}, by unfold State.Inv; decide⟩,
   ⟨inLife 1 { ses 1 .open_ with seq := 7 } {}, by unfold State.Inv; decide⟩,
   ⟨home, by unfold State.Inv; decide, by decide, acts_plain (by decide), by decide⟩⟩

theorem test_witness_SessionsOpenProveAndEnd :
    (∃ s : State, s.Inv ∧ s.chartUp = true ∧ s.inHold = false ∧ (plain []).auth = false ∧ s.fuses.lifecycle = 0) ∧
    (∃ s : State, s.Inv ∧ s.chartUp = true ∧ s.fuses.lifecycle ≠ 0
    ∧ arg (plain [2, 0, 0, 0]) 0 1 = 2 ∧ arg (plain [2, 0, 0, 0]) 1 1 ≤ 3 ∧ s.sec.quarantine = true) ∧
    (∃ s : State, s.Inv ∧ s.chartUp = true ∧ s.inHold = false ∧ s.fuses.lifecycle ≠ 0
    ∧ arg (plain [3, 3, 0, 0]) 0 1 ≤ 3 ∧ arg (plain [3, 3, 0, 0]) 1 1 ≤ 3 ∧ s.sec.quarantine = false ∧ s.power.state = 7) ∧
    (∃ s : State, s.Inv ∧ s.chartUp = true ∧ s.fuses.lifecycle ≠ 0
    ∧ (∀ y ∈ s.sec.sessions, y.state ≠ .free)) ∧
    (∃ s : State, s.Inv ∧ s.chartUp = true ∧ s.inHold = false ∧ s.fuses.lifecycle ≠ 0 ∧ s.sec.quarantine = false
    ∧ s.power.state ≠ 7 ∧ (s.session 1).state = .free ∧ (∀ j, j < 1 → (s.session j).state ≠ .free) ∧ s.sec.nextSession ≠ 0
    ∧ (∀ y ∈ s.sec.sessions, y.state ≠ .free → y.number ≠ s.sec.nextSession)) ∧
    (∃ s : State, s.Inv ∧ s.fuses.lifecycle ≠ 0 ∧ s.sec.quarantine = false ∧ (s.session 0).state = .opening
    ∧ (s.session 0).number = ({ session := 9 } : Teller).session.toNat
    ∧ (KV.find? s.fuses.keys (1 * 4 + 0)) = some (1, [7])
    ∧ ({ session := 9, payload := proofOf (ses 1 .opening) } : Teller).payload = proofOf (s.session 0)) ∧
    (∃ s : State, s.Inv ∧ (s.session 0).state = .opening ∧ s.sec.proofFails < 4
    ∧ ({ session := 9 } : Teller).payload ≠ proofOf (s.session 0)) ∧
    (∃ s : State, s.Inv ∧ (s.session 0).state = .opening ∧ s.sec.proofFails = 4
    ∧ s.sec.quarantine = false ∧ s.sec.level = 0 ∧ (∀ y ∈ s.sec.sessions, y.debug = false)
    ∧ ({ session := 9 } : Teller).payload ≠ proofOf (s.session 0)) ∧
    (∃ s : State, s.Inv ∧ (s.session 0).state = .opening
    ∧ (s.session 0).opened + (s.session 0).window ≤ s.time.tick) ∧
    (∃ s : State, s.Inv ∧ s.time.tick < (s.session 0).opened + (s.session 0).window
    ∧ (s.session 3).state ≠ .opening) ∧
    (∃ s : State, s.Inv ∧ (s.session 0).live = true ∧ (s.session 0).debug = false
    ∧ (s.session 0).lastTick + (s.session 0).idle ≤ s.time.tick) ∧
    (∃ s : State, s.Inv ∧ s.time.tick < (s.session 0).lastTick + (s.session 0).idle
    ∧ (s.session 3).live = false) ∧
    (∃ s : State, s.Inv ∧ s.build.hasTill 3 = true ∧ (s.till 3).halted = some 9
    ∧ 9 ≤ s.time.tick ∧ (s.till 3).ni = [] ∧ (∀ p ∈ (s.till 3).folios, p.2.opc ≠ .release) ∧ (∀ u ∈ s.tills, u.failDue = none)) ∧
    (∃ s : State, s.Inv ∧ (s.till 3).halted = some 9 ∧ s.time.tick < 9
    ∧ (s.till 17).halted = none ∧ s.build.hasTill 17 = true) :=
  ⟨⟨home, by unfold State.Inv; decide⟩,
   ⟨inLife 1 {} { quarantine := true }, by unfold State.Inv; decide⟩,
   ⟨{ inLife 1 {} {} with power := { state := 7 } }, by unfold State.Inv; decide⟩,
   ⟨{ inLife 1 {} {} with sec := { sessions := List.replicate 4 (ses 1 .open_) } }, by unfold State.Inv; decide⟩,
   ⟨inLife 1 (ses 1 .open_) {}, by unfold State.Inv; decide⟩,
   ⟨inLife 1 (ses 1 .opening) {}, by unfold State.Inv; decide⟩,
   ⟨inLife 1 (ses 1 .opening) { proofFails := 3 }, by unfold State.Inv; decide⟩,
   ⟨inLife 1 (ses 1 .opening) { proofFails := 4 }, by unfold State.Inv; decide⟩,
   ⟨atTick (inLife 1 (ses 1 .opening) {}) 10, by unfold State.Inv; decide⟩,
   ⟨atTick (inLife 1 (ses 1 .opening) {}) 9, by unfold State.Inv; decide⟩,
   ⟨atTick (inLife 1 (ses 1 .open_) {}) 100, by unfold State.Inv; decide⟩,
   ⟨atTick (inLife 1 (ses 1 .open_) {}) 99, by unfold State.Inv; decide⟩,
   ⟨atTick (withT (fun u => { u with halted := some 9 })) 9, by unfold State.Inv; decide⟩,
   ⟨atTick (withT (fun u => { u with halted := some 9 })) 8, by unfold State.Inv; decide⟩⟩

theorem test_witness_KeysAndLifecycleMoveForward :
    (∃ s : State, s.Inv ∧ s.windowOpen ∧ s.sec.keyBlow = none ∧ s.keyState s.sec.keyTarget ≠ 0
    ∧ s.keyState s.sec.keyTarget = 1 ∧ s.sec.keyTarget / 4 = 1 ∧ s.validSlots 1 ≤ 1) ∧
    (∃ s : State, s.Inv ∧ s.windowOpen ∧ s.sec.keyBlow = none
    ∧ s.keyState s.sec.keyTarget = 0 ∧ s.sec.keyTarget / 4 = 3 ∧ s.windowRole ≠ 3) ∧
    (∃ s : State, s.Inv ∧ s.windowOpen ∧ s.sec.keyBlow = none ∧ s.keyState s.sec.keyTarget = 0 ∧ s.windowRole = 3) ∧
    (∃ s : State, s.Inv ∧ s.windowOpen ∧ s.sec.keyBlow = none ∧ s.sec.keyTarget / 4 = 2) ∧
    (∃ s : State, s.Inv ∧ s.sec.keyBlow = some (15, false)) ∧
    (∃ s : State, s.Inv ∧ s.sec.keyBlow = some (4, true) ∧ (∀ x ∈ s.sec.sessions, x.debug = false)) ∧
    (∃ s : State, s.Inv ∧ s.windowOpen ∧ s.sec.lifeBlow = none ∧ s.sec.level = 2) ∧
    (∃ s : State, s.Inv ∧ s.windowOpen ∧ s.sec.lifeBlow = none ∧ s.sec.level ≠ 2 ∧ s.fuses.lifecycle = 0 ∧ s.validSlots 1 = 0) ∧
    (∃ s : State, s.Inv ∧ s.windowOpen ∧ s.sec.lifeBlow = none
    ∧ s.fuses.lifecycle = 0 ∧ s.validSlots 1 ≠ 0 ∧ s.validSlots 3 ≠ 0) ∧
    (∃ s : State, s.Inv ∧ s.windowOpen ∧ s.sec.lifeBlow = none ∧ s.sec.level ≠ 2 ∧ s.fuses.lifecycle = 1) ∧
    (∃ s : State, s.Inv ∧ actsAt s 0x11 (signed 0x11 [0, 0x90, 1, 0, 1, 0, 3]) (caller 3) (toldIn s)
    ∧ s.sec.quarantine = false ∧ s.sec.lifeBlow = none ∧ s.sec.level ≠ 2 ∧ s.fuses.lifecycle = 2
    ∧ arg (signed 0x11 [0, 0x90, 1, 0, 1, 0, 3]) 0 2 = 0x9000 ∧ arg (signed 0x11 [0, 0x90, 1, 0, 1, 0, 3]) 6 1 = 3
    ∧ (∀ p ∈ s.agents, (p.2.kind = 0 ∨ p.2.kind = 2) → p.2.state = .absent ∨ p.2.state = .quarantined)) ∧
    (∃ s : State, s.Inv ∧ s.sec.lifeBlow = some 1 ∧ s.sec.level = 0 ∧ (∀ x ∈ s.sec.sessions, x.debug = false)) ∧
    (∃ s : State, s.Inv ∧ s.sec.lifeBlow = some 3 ∧ s.fuses.lifecycle ≠ 0
    ∧ (∀ x ∈ s.sec.sessions, x.debug = false)) :=
  ⟨⟨{ inLife 1 {} {} with sec := { keyTarget := 4 } }, by unfold State.Inv State.windowOpen; decide⟩,
   ⟨{ inLife 1 {} {} with sec := { keyTarget := 15 } }, by unfold State.Inv State.windowOpen; decide⟩,
   ⟨withS { keyTarget := 15 }, by unfold State.Inv State.windowOpen; decide⟩,
   ⟨withS { keyTarget := 8 }, by unfold State.Inv State.windowOpen; decide⟩,
   ⟨withS { keyBlow := some (15, false) }, by unfold State.Inv; decide⟩,
   ⟨withS { keyBlow := some (4, true) }, by unfold State.Inv; decide⟩,
   ⟨withS { level := 2 }, by unfold State.Inv State.windowOpen; decide⟩,
   ⟨home, by unfold State.Inv State.windowOpen; decide⟩,
   ⟨{ home with fuses := { keys := [(4, (1, [7])), (15, (1, [7]))] } }, by unfold State.Inv State.windowOpen; decide⟩,
   ⟨inLife 1 {} {}, by unfold State.Inv State.windowOpen; decide⟩,
   ⟨inLife 2 (ses 3 .open_) {}, by unfold State.Inv; decide, acts_signed (by decide), by decide, by decide, by decide, by decide, by decide, by decide, by decide⟩,
   ⟨withS { lifeBlow := some 1 }, by unfold State.Inv; decide⟩,
   ⟨inLife 2 (ses 1 .open_) { lifeBlow := some 3 }, by unfold State.Inv; decide⟩⟩

theorem test_witness_SegmentsAndWindowWrites :
    (∃ s : State, s.Inv ∧ s.windowOpen ∧ ((entryAt s.build ((0x90110100 : BitVec 32).toNat / 2 ^ 16)
    ((0x90110100 : BitVec 32).toNat / 2 ^ 8 % 2 ^ 8)).map (fun e => e.ty.long)) = some true) ∧
    (∃ s : State, s.Inv ∧ s.windowOpen ∧ entryAt s.build ((0x2000FF00 : BitVec 32).toNat / 2 ^ 16)
    ((0x2000FF00 : BitVec 32).toNat / 2 ^ 8 % 2 ^ 8) = none) ∧
    (∃ s : State, s.Inv ∧ s.windowOpen
    ∧ 8 * s.seg.number + 8 < s.seg.length) ∧
    (∃ s : State, s.Inv ∧ s.windowOpen
    ∧ s.seg.target = 0x90110100 ∧ s.seg.length = 48 ∧ s.seg.number = 5) ∧
    (∃ s : State, s.Inv ∧ s.windowOpen
    ∧ s.seg.length ≤ 8 * s.seg.number) ∧
    (∃ s : State, s.Inv ∧ s.windowOpen ∧ (16777215 : Word).toNat ≤ 16777215 ∧ 16777215 < (16777216 : Word).toNat % 2 ^ 32) ∧
    (∃ s : State, s.Inv ∧ s.windowOpen ∧ ((entryAt s.build ((0x800008 : BitVec 27).toNat / 2 ^ 11)
    ((0x800008 : BitVec 27).toNat / 8 % 256)).map (fun e => decide (e.acc = .ro))) = some true
    ∧ mayWrite s.windowRole ((0x800008 : BitVec 27).toNat / 2 ^ 11) ((0x800008 : BitVec 27).toNat / 8 % 256) = true) ∧
    (∃ s : State, s.Inv ∧ s.windowOpen ∧ entryAt s.build ((0x10007F8 : BitVec 27).toNat / 2 ^ 11)
    ((0x10007F8 : BitVec 27).toNat / 8 % 256) = none
    ∧ mayWrite s.windowRole ((0x10007F8 : BitVec 27).toNat / 2 ^ 11) ((0x10007F8 : BitVec 27).toNat / 8 % 256) = true) ∧
    (∃ s : State, s.Inv ∧ s.boot ≠ .off ∧ s.chartUp = false) ∧
    (∃ s : State, s.Inv ∧ s.boot ≠ .off ∧ s.chartUp = true ∧ s.fuses.lifecycle = 0 ∧ (inLife 1 {} {}).fuses.lifecycle ≠ 0) :=
  ⟨⟨home, by unfold State.Inv State.windowOpen; decide⟩,
   ⟨home, by unfold State.Inv State.windowOpen; decide⟩,
   ⟨{ home with seg := { target := 0x90110100, length := 48, number := 4 } }, by unfold State.Inv State.windowOpen; decide⟩,
   ⟨{ home with seg := { target := 0x90110100, length := 48, number := 5 } }, by unfold State.Inv State.windowOpen; decide⟩,
   ⟨{ home with seg := { target := 0x90110100, length := 48, number := 6 } }, by unfold State.Inv State.windowOpen; decide⟩,
   ⟨home, by unfold State.Inv State.windowOpen; decide⟩,
   ⟨home, by unfold State.Inv State.windowOpen; decide⟩,
   ⟨home, by unfold State.Inv State.windowOpen; decide⟩,
   ⟨{ home with inReset := true }, by unfold State.Inv; decide⟩,
   ⟨home, by unfold State.Inv; decide⟩⟩

theorem test_witness_SignatureReads :
    ∃ s : State, s.chartUp = true :=
  ⟨home, by decide⟩

/-- Every bucket of a shadow that moves bucket 4,095 to Till 2 names an ACTIVE Till: the remaining hypothesis of the commit that
MapCommitsAndReplicas says is accepted. -/
theorem test_witness_buckets (b : Nat) : ({ home with maps := { bShadow := [(4095, 2)] } } : State).badBucket b = false := by
  have h : ∀ t, t < 16 → (!home.build.hasTill t || (home.till t).role != .active) = false := by decide
  apply h
  have d : home.bucketDefault b < 16 := Nat.mod_lt b (by decide)
  show KV.get [(4095, 2)] b (home.bucketDefault b) < 16
  simp only [KV.get, KV.find?]
  repeat' split
  all_goals simp_all

/-! ## Well-formed commands: each check refuses an ill-formed term -/

/-- A number past the last Wicket, Till, port or slot of H1-L (R10, R29). -/
theorem test_ill_formed_parts : ∀ c ∈ [Instr.slotAttention 8, .mrdata 4 0 0 0 false false false false false 0 .none, .mrdata 0 18 0 0 false false false false false 0 .none,
    .mcmp 0 false .mwr 18 0, .mcred 4 0 false 1, .memWriteTimeout 0 18 0 .mwr, .memReadTimeout 4 0 0 0, .chstatChange 4 0, .linkDown 9 0,
    .linkUp 9 0 false 0, .agentReset 9 0, .linkReset 9, .rdS 9 { aid := 0 }, .settle 9 { aid := 0 }, .rspI 9 { aid := 0 }, .requestInjection 9 1,
    .qFlitAccepted 18 0, .qFlitAccepted 0 9, .foreclosedResponse 0 9, .loanRequest 18 0, .vaultLookupDone 18 0 .none, .folioReadOutDone 18 0,
    .receiptTimeout 18 0, .chainedNotice 9 0, .completionDelivery 0 18 false, .snoopDelivery 9 0, .loanGrant 0 18, .loanIdle 9 0,
    .creditReturn 0 18], wellFormed .h1L c = false := by decide

theorem test_ill_formed_steps : ∀ c ∈ [Instr.bucketMapSwitch 10, .regionTableSwitch 10, .enable (.way 16), .disable (.stream 4),
    .enable (.wicket 9), .enable (.subShaper 1024), .enable (.svcShaper 0 4), .enable (.till 18), .enablingComplete (.wicket 9),
    .drainComplete (.till 18), .preloadSector 18 0, .cellarVisit 18 0 0, .scrubRun 18 0 [], .foreclosureWalk 18 (.vault 0 0),
    .leaveWalk 18 (.vault 0 0), .retentiveCleanWalk 18 (.vault 0 0), .resolutionWalk 18 0, .rebuildStep 18 0, .copyRun 18 0, .salvage 18,
    .retireRow 18 0 0, .handoverSend 18, .copyEndSend 18, .copyEnd 18, .tillWatchdog 18, .handover 9 0, .tillDown 0 18, .handoverAck 18 0,
    .salvageMark 0 9, .bankWatchdog 0 16, .bankArbitration 18 0 0 0 false false, .exchStall 6 0 0, .exchStall 48 0 0, .exchStall 0 5 0,
    .exchStall 0 0 4, .linkFlitError 12 0 .correctable, .linkFlitError 0 2 .correctable, .routeMark 6 0 0, .routeMarkAck 0 1 5, .retrain 128,
    .retrainDone 12 true true], wellFormed .h1L c = false := by decide

theorem test_ill_formed_entries : ∀ c ∈ [Instr.journalPointer 4, .jnDataRead 4, .ffClear 18, .snoopTimeout 9 0, .grace 1024,
    .foreclosureDone 1024, .quarantineWindow 1024, .join 1024, .leave 1024, .foreclose 1024, .agentRelease 1024, .agentJoined 1024,
    .agentLeft 1024, .agentCfgWrite 1024 0, .escrowWrite 0x4800 0 0, .escrowWrite 0x4400 2 0, .tenantMembersWrite 64 0 0,
    .tenantMembersWrite 0 16 0, .slotCtrlWrite 8 0, .wicketLinkReset 9 0, .shaperConfigWrite (.till 0) 0,
    .shaperConfigWrite (.subShaper 1024) 0, .leaseExpiry 18 0, .expiredHold 18 0, .claimReleaseDone 18 0, .rsvTimeout 18 0,
    .postDrainDelay 512, .proveWindow 4, .sessionIdle 4, .haltMaxTicks 18, .tillReset 18 true], wellFormed .h1L c = false := by decide

/-- The parts that H1-S lacks and H1-L has (R29, R534). -/
theorem test_unbuilt_parts : ∀ c ∈ [Instr.linkDown 2 0, .tillWatchdog 5, .chstatChange 1 0, .rdS 7 { aid := 0 }],
    wellFormed .h1S c = false ∧ wellFormed .h1L c = true ∧ (match exec c small with | .fault .unbuiltPart => true | _ => false) = true := by
  decide

/-- The last number of each range is well formed. -/
theorem test_well_formed_bounds : ∀ c ∈ [Instr.slotAttention 7, .mcred 3 17 false 1, .linkDown 8 0, .bucketMapSwitch 9, .enable (.way 15),
    .enable (.svcShaper 1023 3), .bankWatchdog 17 15, .exchStall 45 4 3, .linkFlitError 91 1 .chkMismatch, .routeMark 0 45 4, .retrain 127,
    .journalPointer 3, .join 1023, .escrowWrite 0x47FF 1 0, .tenantMembersWrite 63 15 0, .postDrainDelay 511, .proveWindow 3], wellFormed .h1L c = true := by decide

/-! ## Published values -/

/-- CRC-32 of the digits 1 to 9 is CBF43926 (the check value of IEEE 802.3). -/
theorem test_crc32 : crc32 ([0x31, 0x32, 0x33, 0x34, 0x35, 0x36, 0x37, 0x38, 0x39] : List Nat) = 0xCBF43926 := by decide

/-- SHA-384 of "abc" (FIPS 180-4, the example of the standard). -/
theorem test_sha384 : (sha384 [0x61, 0x62, 0x63]).take 8 = [0xCB, 0x00, 0x75, 0x3F, 0x45, 0xA3, 0x5E, 0x8B] := by decide

/-! ## Single commands; each expected value is the rule's -/

/-- The line of sector 3 lies in bucket 0, which Till 0 has after a cold reset (R46). -/
theorem test_reset_map : home.liveTill 0 = 0 ∧ home.liveTill 17 = 1 ∧ home.liveTill 4095 = 15 := by decide

/-- The first strobe counts one Tick (R56), a strobe 0.5 µs later is early (R56). -/
theorem test_tick : (after (.tickStrobe 1200 0 false) home).time.tick = 1
    ∧ (after (.tickStrobe 600 0 false) (after (.tickStrobe 1200 0 false) home)).time.tick = 1 := by decide

/-- START in CONFIG and a complete baseline give READY (R455). -/
theorem test_ready : (after .homeReady (after .start { conf with assay := { baselineDone := true } })).global = 2
    ∧ (after .homeReady conf).global = 1 := by decide

/-- JOIN, the completion of the join, and the credit that the Wicket then has (R284, R285). -/
theorem test_join : ((after (.join 5) home).agent 5).state = .joining
    ∧ ((after (.agentJoined 5) (after (.join 5) home)).agent 5).state = .active := by decide

/-- A leave that nothing holds up ends in the next incarnation (R288, R289). -/
theorem test_leave : ((after (.agentLeft 5) (withA { host with state := .leaving })).agent 5).inc = 1
    ∧ ((after (.agentLeft 5) (withA { host with state := .leaving })).agent 5).state = .absent := by decide

/-- A request of an Absent agent is stale (R36); of an Active one it waits in an admission entry (R344). -/
theorem test_admission : (after (.rdS 0 { aid := 5 }) home).rawN 0x6000 0xB = 1
    ∧ ((after (.rdS 0 { aid := 5 }) (withA host)).wicket 0).entries.length = 1 := by decide

/-- An accepted read heads a chain in LOOKUP (R112, R121). -/
theorem test_accept : ((after (.qFlitAccepted 3 0) (withN { q := [flit .rdS] })).folio? 3 0).map (fun x => (x.phase, x.head))
    = some (.lookup, true) := by decide

/-- The same line twice: the second waits behind the first (R115). -/
theorem test_chain : ((after (.qFlitAccepted 3 0) (after (.qFlitAccepted 3 0) (withN { q := [flit .rdS, flit .rdX] }))).folio? 3 1).map (·.phase)
    = some .waiting := by decide

/-- Link down starts Grace; with GRACE 0 it is death with cause LINK_DOWN, 1 (R291, R292). -/
theorem test_link_down : ((after (.linkDown 0 5) (withA host)).agent 5).grace = true
    ∧ ((after (.linkDown 0 5) ((withA host).setRawN 0x2080 0 0)).agent 5).cause = 1 := by decide

/-- A LOST write is the outcome LOST and an entry of the table (R270, R272). -/
theorem test_lost : (after (.mcmp 0 true .mwr 3 0) (withF { fol .wbI .done with writes := twoWrites })).lost.length = 1
    ∧ ((after (.mcmp 0 true .mwr 3 0) (withF { fol .wbI .done with writes := twoWrites })).folio? 3 0).map (·.outcome) = some .lost := by decide

/-- MCRED: 70 credits on a grant of 64 leave 64, and the excess is counted (R520). -/
theorem test_mcred : ((after (.mcred 0 3 false 70) home).till 3).cred 0 = (64, 0)
    ∧ (after (.mcred 0 3 false 70) home).rawN 0x2091 4 = 1 := by decide

/-- ENABLE of an ON way is OK and changes nothing; DISABLE drains it (R62). -/
theorem test_control : ((after (.disable (.way 3)) home).fn (.way 3)).st = .draining
    ∧ ((after (.enable (.way 3)) home).fn (.way 3)).st = .on := by decide

/-- A write of an RO entry is refused, counted and recorded with code 5 (R444, R459). -/
theorem test_read_only : (after (.chartWrite 0x800008 8 1) home).rawN 0x1100 6 = 1
    ∧ (after (.chartWrite 0x800008 8 1) home).rawN 0x1100 7 / 2 ^ 36 % 2 ^ 4 = 5 := by decide

/-- SIGNATURE reads DECESKH1 (R27). -/
theorem test_signature : home.slotOf 0x1000 1 = 0x44454345534B4831 := by decide

/-- An agent in Blank may halt a Till only at Intrude (R476, R479). -/
theorem test_halt : ((after (.tillHalt (plain [3, 0, 0, 0])) home).till 3).halted = none
    ∧ ((after (.tillHalt (plain [3, 0, 0, 0])) (withS { level := 2 })).till 3).halted.isSome = true := by decide

/-- A Tally sample of 5 in a fresh window: COUNT 1, SUM 5, MIN 5, MAX 5 (R484). -/
theorem test_tally : ((after (.tallySample 0 false) { home with tally := { inbox := [⟨0, 0, 0, some 5⟩] } }).chan 0).cur.sum = 5
    ∧ ((after (.tallySample 0 false) { home with tally := { inbox := [⟨0, 0, 0, some 5⟩] } }).chan 0).cur.min = 5 := by decide

/-- A record takes a token of its stream and the next SEQ (R495, R496). -/
theorem test_record : ((after .journalRecord (withJ home.journal.streams [aRec 2])).stream 2).tokens = 511
    ∧ ((after .journalRecord (withJ home.journal.streams [aRec 2])).stream 2).seq = 1 := by decide

/-- A row to retire takes the lowest spare row (R375). -/
theorem test_retire : (after (.retireRow 3 0 7) (withU { retire := [(3, 0, 7)] })).fuses.remaps = [(3, 0, 7, 0)] := by decide

/-- An uncorrectable control flit is fatal (R332, R404). -/
theorem test_fatal : (after (.linkFlitError 0 0 .bufferControl) home).global = 3 := by decide

end Sys2Proof.Tests
end

section
/-! PROOFS. Scope (R27): what a read without a side effect returns, and the SIGNATURE entry. -/

namespace Sys2Proof.Machine

/-! ## Reads of the Chart (R435 to R437) -/

/-- The slot of a live, readable entry of at most one slot is its live view; an S32 is left out, since R436 extends its sign. -/
theorem slotOf_eq_view {s : State} {i j v : Nat} {e : Entry} (hup : s.chartUp = true) (he : entryAt s.build i j = some e)
    (hg : s.gone i = false) (hcmd : e.acc ≠ .cmd) (hwo : e.acc ≠ .wo) (hlong : e.ty.long = false) (hty : e.ty ≠ .s32)
    (hv : s.view i j = some v) : s.slotOf i j = BitVec.ofNat 64 v := by
  simp [State.slotOf, hup, he, hg, hcmd, hwo, hlong, hty, hv]

/-- Only the JN_DATA entries (0xC000 to 0xC003) and SEG_DATA (0x1110.02) have an effect when read (R445, R500). -/
theorem readSlot_eq_slotOf {s : State} {debug : Bool} {i j : Nat} (hjn : i < 0xC000 ∨ 0xC004 ≤ i) (hseg : i ≠ 0x1110) :
    readSlot s debug i j = (s, s.slotOf i j) := by
  have hstream : (decide (0xC000 ≤ i) && decide (i < 0xC004)) = false := by
    simp only [Bool.and_eq_false_iff, decide_eq_false_iff_not]; omega
  simp [readSlot, hstream, hseg]

/-! ## SIGNATURE (R27, R29) -/

/-- Every build has SIGNATURE, a read-only U64 of class F (R29). -/
theorem entryAt_signature (b : Build) : entryAt b 0x1000 1 = some (roF .u64 signature) := rfl

/-- The live view of SIGNATURE rests on nothing in the state. -/
theorem view_signature (s : State) : s.view 0x1000 1 = some signature := rfl

/-- SIGNATURE stands behind no Till, so no failed Till hides it (R308). -/
theorem gone_signature (s : State) : s.gone 0x1000 = false :=
  gone_none (behindTill_none (by omega) (by omega) (by omega) (by omega) (by omega) (by omega))

theorem slotOf_signature {s : State} (hup : s.chartUp = true) : s.slotOf 0x1000 1 = BitVec.ofNat 64 signature :=
  slotOf_eq_view hup (entryAt_signature s.build) (gone_signature s) (by decide) (by decide) (by decide) (by decide)
    (view_signature s)

/-- Settles O60: the slot is the live view, and a read on either path returns the slot and changes nothing. -/
theorem signatureReads : Obligations.SignatureReads := by
  unfold Obligations.SignatureReads
  intro s hup
  have hslot : s.slotOf 0x1000 1 = 0x44454345534B4831 := slotOf_signature hup
  refine ⟨hslot, fun debug => ?_⟩
  rw [readSlot_eq_slotOf (by omega) (by omega), hslot]

end Sys2Proof.Machine
end

section
/-! PROOFS. Organisation: the exceptions of a function to the table of the common control (R62, R64). -/

namespace Sys2Proof.Machine

/-! ## The common control -/

/-- A refused ENABLE writes its result code into LAST_RESULT and starts no step. -/
theorem funcCmd_enable_refused {s : State} {f : Func} {code : Nat} (h : s.refusal f true = some code) :
    funcCmd s f 1 = s.setFn f ((s.fn f).refuse code) := by
  simp [funcCmd, h]

/-- A control write has an effect beyond the table only at a way (R425). -/
theorem funcWrite_till (s : State) (n v : Nat) : funcWrite s (.till n) v = funcCmd s (.till n) v := rfl

/-- The state of a Till read back after a write of it. -/
theorem fn_setFn_till {s : State} {n : Nat} (x : Fn) (hn : n < s.tills.length) :
    (s.setFn (.till n) x).fn (.till n) = x := by
  change ((s.modTill n fun u => { u with fn := x }).till n).fn = x
  rw [till_modTill s _ hn]

/-- No build has more than 18 Tills, the number that the state holds. -/
theorem lt_tills_length {s : State} {n : Nat} (hinv : s.Inv) (hn : s.build.hasTill n = true) : n < s.tills.length := by
  have hlt : n < s.build.tills := by simpa [Build.hasTill] using hn
  have hmax : s.build.tills ≤ 18 := by cases s.build <;> decide
  obtain ⟨hlen, -⟩ := hinv
  omega

/-! ## ENABLE of a Till in the copy phase (R64) -/

/-- A planned transfer in its copy phase makes both of its Tills answer an ENABLE with BUSY. -/
theorem refusal_enable_copyPhase {s : State} {n : Nat} {x : Transfer} (hx : x ∈ s.transfers) (hp : x.planned = true)
    (hc : x.state = 1) (hn : x.src = n ∨ x.dst = n) : s.refusal (.till n) true = some 1 := by
  have hcopy : s.transfers.any (fun x => x.planned && x.state == 1 && (x.src == n || x.dst == n)) = true :=
    List.any_eq_true.mpr ⟨x, hx, by simp [hp, hc, hn]⟩
  simp [State.refusal, hcopy]

/-- The whole effect of a refused ENABLE of a Till: LAST_RESULT, and the counts of the write that reached its owner. -/
theorem exec_enable_till_refused {s : State} {n code : Nat} (hs : s.windowOpen) (hn : s.build.hasTill n = true)
    (hr : s.refusal (.till n) true = some code) :
    exec (.enable (.till n)) s = .next (reached s fun u => u.setFn (.till n) ((s.fn (.till n)).refuse code)) := by
  obtain ⟨c, hgev⟩ := gev_eq s 0x10C 0xFF
  have hr' : (s.gev 0x10C).refusal (.till n) true = some code := by rw [hgev]; exact hr
  have hfn : (s.gev 0x10C).fn (.till n) = s.fn (.till n) := by rw [hgev]; rfl
  rw [write_enable (f := .till n) hs hn]
  simp only [reached]
  rw [funcWrite_till, funcCmd_enable_refused hr', hfn]

/-- Settles O18: the transfer in its copy phase refuses the command, so nothing but LAST_RESULT and the event counts is
written. -/
theorem enableInCopyPhaseIsBusy : Obligations.EnableInCopyPhaseIsBusy := by
  unfold Obligations.EnableInCopyPhaseIsBusy
  intro s n x hinv hs hn hx hp hc hat
  have hlen : n < s.tills.length := lt_tills_length hinv hn
  obtain ⟨c, hgev⟩ := gev_eq s 0x10C 0xFF
  refine ⟨_, exec_enable_till_refused hs hn (refusal_enable_copyPhase hx hp hc hat), ?_⟩
  unfold reached
  rw [hgev]
  exact ⟨fn_setFn_till _ hlen, rfl, rfl, rfl⟩

end Sys2Proof.Machine
end

section
/-! PROOFS. Ordering: the timeout of a monitor (R261). -/

namespace Sys2Proof.Machine

/-! ## What is due, and what a count leaves -/

/-- Counting an event writes the Chart store, which holds no Till. -/
@[simp] theorem State.bump_till (s : State) (c : Ctr) (t : Nat) : (s.bump c).till t = s.till t := rfl

theorem due_eq_true {s : State} {start len : Nat} (h : start + len ≤ s.time.tick) : s.due start len = true :=
  decide_eq_true h

theorem due_eq_false {s : State} {start len : Nat} (h : s.time.tick < start + len) : s.due start len = false :=
  decide_eq_false (Nat.not_le.mpr h)

/-! ## Monitors and the timeout (R261) -/

/-- Clears monitor `i` of Till `t`. -/
def State.clearMonitor (s : State) (t i : Nat) : State :=
  s.modTill t fun u => { u with monitors := KV.del u.monitors i }

/-- The Till after a monitor of it is cleared. -/
theorem till_clearMonitor {s : State} {t : Nat} (i : Nat) (ht : t < s.tills.length) :
    (s.clearMonitor t i).till t = { s.till t with monitors := KV.del (s.till t).monitors i } :=
  till_modTill s _ ht

/-- A Till other than that of the cleared monitor stays. -/
theorem till_clearMonitor_ne {s : State} {t k : Nat} (i : Nat) (hk : k ≠ t) : (s.clearMonitor t i).till k = s.till k :=
  till_modTill_ne s _ hk

section
variable {s : State} {t i : Nat} {m : Monitor} (ht : s.build.hasTill t = true) (hm : KV.find? (s.till t).monitors i = some m)
include ht hm

/-- The command at a monitor whose time has passed, in a Till that runs: it is cleared and counted in RSV_TIMEOUTS. -/
theorem exec_rsvTimeout_of_due (ha : s.alive t = true) (hd : s.due m.armTick (s.rawN 0x4200 0) = true) :
    exec (.rsvTimeout t i) s = .next ((s.clearMonitor t i).bump ⟨0x4200, 2, 32⟩) := by
  change execRsvTimeout t i s = _
  simp [execRsvTimeout, State.clearMonitor, ht, hm, ha, hd]

/-- The command at a monitor whose time has not passed does nothing. -/
theorem exec_rsvTimeout_of_not_due (hd : s.due m.armTick (s.rawN 0x4200 0) = false) : exec (.rsvTimeout t i) s = .next s := by
  change execRsvTimeout t i s = _
  simp [execRsvTimeout, ht, hm, hd]

end

/-- Settles O51: a due command clears one monitor of one Till and then counts in the Chart store, which holds no Till. -/
theorem monitorTimeoutClears : Obligations.MonitorTimeoutClears := by
  unfold Obligations.MonitorTimeoutClears
  intro s t i m hinv ht ha hm
  have hlen : t < s.tills.length := lt_tills_length hinv ht
  obtain ⟨-, -, -, -, -, hchart, -⟩ := hinv
  refine ⟨fun hdue => ⟨_, exec_rsvTimeout_of_due ht hm ha (due_eq_true hdue), ?_⟩,
    fun hearly => exec_rsvTimeout_of_not_due ht hm (due_eq_false hearly)⟩
  simp only [State.bump_till, till_clearMonitor i hlen, true_and]
  exact ⟨KV.find_del i, rawN_bump (s.clearMonitor t i) 0x4200 2 32 hchart (by decide),
    fun _ hk => till_clearMonitor_ne i hk, rfl, rfl⟩

end Sys2Proof.Machine
end

section
/-! PROOFS. The machine as a whole: every step keeps the invariant, and each input, OTP and the global state move at their
own events only. -/

namespace Sys2Proof.Machine

/-! ## The commands that write what `Keeps` says is kept -/

/-- The commands that move the power state of the block, its input levels, OTP, the save image, the TAP or the records on
their way to JN. -/
def ownsKept : Instr → Bool
  | .pwrGoodRise _ | .pwrGoodFall | .brownoutRise | .brownoutFall | .coldRst | .pwrFailWarnRise | .pwrFailWarnFall
    | .quiesced | .bringupFill _ _ _ _ | .homeReady | .chstatChange _ _ | .retireRow _ _ _ | .journalRecord
    | .saveImageWritten | .ageHours | .keyBlowDone | .lifecycleChanged | .tapInstruction _ => true
  | _ => false

/-- Every other command keeps the parts of `Keeps`; those that may not move the global state keep it too. -/
theorem keepsNext_exec {c : Instr} (s : State) (h : ownsKept c = false) : KeepsNext (!movesGlobal c) (exec c s) s := by
  cases c with
  | pwrGoodRise => cases h
  | pwrGoodFall => cases h
  | brownoutRise => cases h
  | brownoutFall => cases h
  | coldRst => cases h
  | flr => exact keeps_execFlr
  | pwrFailWarnRise => cases h
  | pwrFailWarnFall => cases h
  | quiesced => cases h
  | bringupFill => cases h
  | assayBaseline => exact keeps_execAssayBaseline
  | homeReady => cases h
  | start => exact keeps_execStart
  | functionReset => exact keeps_execFunctionReset
  | functionResetDone => exact keeps_execFunctionResetDone
  | slotAttention => exact keeps_execSlotAttention
  | tickStrobe => exact keeps_execTickStrobe
  | tickLost => exact keeps_execTickLost
  | substituteTick => exact keeps_execSubstituteTick
  | marginAck => exact keeps_execMarginAck
  | marginTimeout => exact keeps_execMarginTimeout
  | mrdata => exact keeps_execMrdata
  | mcmp => exact keeps_execMcmp
  | mcred => exact keeps_execMcred
  | chstatChange => cases h
  | memWriteTimeout => exact keeps_execMemWriteTimeout
  | memReadTimeout => exact keeps_execMemReadTimeout
  | linkDown => exact keeps_execLinkDown
  | linkUp => exact keeps_execLinkUp
  | agentReset => exact keeps_execAgentReset
  | linkReset => exact keeps_execLinkReset
  | rdS => exact keeps_execRdS
  | rdX => exact keeps_execRdX
  | rdAny => exact keeps_execRdAny
  | rdNc => exact keeps_execRdNc
  | own => exact keeps_execOwn
  | drop => exact keeps_execDrop
  | down => exact keeps_execDown
  | wbI => exact keeps_execWbI
  | wbS => exact keeps_execWbS
  | wbX => exact keeps_execWbX
  | evc => exact keeps_execEvc
  | conflict => exact keeps_execConflict
  | ncwFull => exact keeps_execNcwFull
  | ncwPtl => exact keeps_execNcwPtl
  | claimX => exact keeps_execClaimX
  | claimS => exact keeps_execClaimS
  | release => exact keeps_execRelease
  | rsv => exact keeps_execRsv
  | cwr => exact keeps_execCwr
  | settle => exact keeps_execSettle
  | rspI => exact keeps_execRspI
  | rspS => exact keeps_execRspS
  | rspE => exact keeps_execRspE
  | requestInjection => exact keeps_execRequestInjection
  | qFlitAccepted => exact keeps_execQFlitAccepted
  | vaultLookupDone => exact keeps_execVaultLookupDone
  | folioReadOutDone => exact keeps_execFolioReadOutDone
  | chainedNotice => exact keeps_execChainedNotice
  | completionDelivery => exact keeps_execCompletionDelivery
  | snoopDelivery => exact keeps_execSnoopDelivery
  | foreclosedResponse => exact keeps_execForeclosedResponse
  | loanRequest => exact keeps_execLoanRequest
  | loanGrant => exact keeps_execLoanGrant
  | loanIdle => exact keeps_execLoanIdle
  | creditReturn => exact keeps_execCreditReturn
  | receiptTimeout => exact keeps_execReceiptTimeout
  | bucketMapCommit => exact keeps_execBucketMapCommit
  | bucketMapSwitch => exact keeps_execBucketMapSwitch
  | regionCommit => exact keeps_execRegionCommit
  | regionTableSwitch => exact keeps_execRegionTableSwitch
  | enable => exact keeps_execEnable
  | disable => exact keeps_execDisable
  | enablingComplete => exact keeps_execEnablingComplete
  | drainComplete => exact keeps_execDrainComplete
  | cellarEnable => exact keeps_execCellarEnable
  | cellarClearingDone => exact keeps_execCellarClearingDone
  | preload => exact keeps_execPreload
  | preloadAndLock => exact keeps_execPreloadAndLock
  | unlock => exact keeps_execUnlock
  | preloadSector => exact keeps_execPreloadSector
  | cellarVisit => exact keeps_execCellarVisit
  | scrubRun => exact keeps_execScrubRun
  | foreclosureWalk => exact keeps_execForeclosureWalk
  | leaveWalk => exact keeps_execLeaveWalk
  | retentiveCleanWalk => exact keeps_execRetentiveCleanWalk
  | resolutionWalk => exact keeps_execResolutionWalk
  | rebuildStep => exact keeps_execRebuildStep
  | copyRun => exact keeps_execCopyRun
  | switch => exact keeps_execSwitch
  | salvage => exact keeps_execSalvage
  | retireRow => cases h
  | handoverSend => exact keeps_execHandoverSend
  | copyEndSend => exact keeps_execCopyEndSend
  | handover => exact keeps_execHandover
  | handoverAck => exact keeps_execHandoverAck
  | copyEnd => exact keeps_execCopyEnd
  | tillDown => exact keeps_execTillDown
  | salvageMark => exact keeps_execSalvageMark
  | tillWatchdog => exact keeps_execTillWatchdog
  | bankWatchdog => exact keeps_execBankWatchdog
  | exchStall => exact keeps_execExchStall
  | bankArbitration => exact keeps_execBankArbitration
  | linkFlitError => exact keeps_execLinkFlitError
  | routeCommit => exact keeps_execRouteCommit
  | routeMark => exact keeps_execRouteMark
  | routeMarkAck => exact keeps_execRouteMarkAck
  | retrain => exact keeps_execRetrain
  | retrainDone => exact keeps_execRetrainDone
  | tallySample => exact keeps_execTallySample
  | tallyWindow => exact keeps_execTallyWindow
  | journalRecord => cases h
  | alarmWindow => exact keeps_execAlarmWindow
  | journalPointer => exact keeps_execJournalPointer
  | jnDataRead => exact keeps_execJnDataRead
  | ffClear => exact keeps_execFfClear
  | countersClear => exact keeps_execCountersClear
  | lostWritesClear => exact keeps_execLostWritesClear
  | snoopTimeout => exact keeps_execSnoopTimeout
  | grace => exact keeps_execGrace
  | foreclosureDone => exact keeps_execForeclosureDone
  | quarantineWindow => exact keeps_execQuarantineWindow
  | join => exact keeps_execJoin
  | leave => exact keeps_execLeave
  | foreclose => exact keeps_execForeclose
  | agentRelease => exact keeps_execAgentRelease
  | agentJoined => exact keeps_execAgentJoined
  | agentLeft => exact keeps_execAgentLeft
  | agentCfgWrite => exact keeps_execAgentCfgWrite
  | escrowWrite => exact keeps_execEscrowWrite
  | tenantMembersWrite => exact keeps_execTenantMembersWrite
  | slotCtrlWrite => exact keeps_execSlotCtrlWrite
  | wicketLinkReset => exact keeps_execWicketLinkReset
  | shaperConfigWrite => exact keeps_execShaperConfigWrite
  | leaseExpiry => exact keeps_execLeaseExpiry
  | expiredHold => exact keeps_execExpiredHold
  | claimReleaseDone => exact keeps_execClaimReleaseDone
  | rsvTimeout => exact keeps_execRsvTimeout
  | postDrainDelay => exact keeps_execPostDrainDelay
  | holdQuiesced => exact keeps_execHoldQuiesced
  | saveImageWritten => cases h
  | powerTargetRun => exact keeps_execPowerTargetRun
  | powerTargetLean => exact keeps_execPowerTargetLean
  | powerTargetHold => exact keeps_execPowerTargetHold
  | powerTargetOff => exact keeps_execPowerTargetOff
  | quickCheck => exact keeps_execQuickCheck
  | fullSweep => exact keeps_execFullSweep
  | tjSample => exact keeps_execTjSample
  | ageHours => cases h
  | identify => exact keeps_execIdentify
  | open_ => exact keeps_execOpen
  | prove => exact keeps_execProve
  | close => exact keeps_execClose
  | read => exact keeps_execRead
  | write => exact keeps_execWrite
  | readRange => exact keeps_execReadRange
  | writeMulti => exact keeps_execWriteMulti
  | journalRead => exact keeps_execJournalRead
  | tallyRead => exact keeps_execTallyRead
  | counterRead => exact keeps_execCounterRead
  | debugSet => exact keeps_execDebugSet
  | tillHalt => exact keeps_execTillHalt
  | tillResume => exact keeps_execTillResume
  | rawRead => exact keeps_execRawRead
  | rawWrite => exact keeps_execRawWrite
  | lockOpen => exact keeps_execLockOpen
  | lockClose => exact keeps_execLockClose
  | inject => exact keeps_execInject
  | unquarantine => exact keeps_execUnquarantine
  | proveWindow => exact keeps_execProveWindow
  | sessionIdle => exact keeps_execSessionIdle
  | haltMaxTicks => exact keeps_execHaltMaxTicks
  | program => exact keeps_execProgram
  | revoke => exact keeps_execRevoke
  | keyBlowDone => cases h
  | provision => exact keeps_execProvision
  | deploy => exact keeps_execDeploy
  | retire => exact keeps_execRetire
  | lifecycleChanged => cases h
  | segTarget => exact keeps_execSegTarget
  | segDataRead => exact keeps_execSegDataRead
  | segDataWrite => exact keeps_execSegDataWrite
  | chartWrite => exact keeps_execChartWrite
  | tillReset => exact keeps_execTillReset
  | tapInstruction => cases h
  | unknownCommand => exact keeps_execUnknownCommand

/-- Every command keeps the invariant. -/
theorem exec_inv {c : Instr} {s t : State} (hs : s.Inv) (e : exec c s = .next t) : t.Inv := by
  cases h : ownsKept c with
  | false => exact (keepsNext_exec s h).inv hs e
  | true =>
    cases c with
    | pwrGoodRise => exact inv_execPwrGoodRise hs e
    | pwrGoodFall => exact inv_execPwrGoodFall hs e
    | brownoutRise => exact inv_execBrownoutRise hs e
    | brownoutFall => exact inv_execBrownoutFall hs e
    | coldRst => exact inv_execColdRst hs e
    | pwrFailWarnRise => exact inv_execPwrFailWarnRise hs e
    | pwrFailWarnFall => exact inv_execPwrFailWarnFall hs e
    | quiesced => exact inv_execQuiesced hs e
    | bringupFill => exact inv_execBringupFill hs e
    | homeReady => exact inv_execHomeReady hs e
    | chstatChange => exact inv_execChstatChange hs e
    | retireRow => exact inv_execRetireRow hs e
    | journalRecord => exact inv_execJournalRecord hs e
    | saveImageWritten => exact inv_execSaveImageWritten hs e
    | ageHours => exact inv_execAgeHours hs e
    | keyBlowDone => exact inv_execKeyBlowDone hs e
    | lifecycleChanged => exact inv_execLifecycleChanged hs e
    | tapInstruction => exact inv_execTapInstruction hs e
    | _ => cases h

theorem inv_idle {s : State} (hs : s.Inv) : (idle s).Inv := by
  unfold idle
  split
  · exact hs
  · exact (keeps_advance (m₀ := false) (Keeps.refl s)).inv hs

/-- Settles O6: a step is a command on the rest of the queue, of which the invariant does not speak, or one cycle. -/
theorem stepKeepsInvariant : Obligations.StepKeepsInvariant := by
  unfold Obligations.StepKeepsInvariant
  intro s t hs e
  unfold step at e
  split at e
  · injection e with e
    exact e ▸ inv_idle hs
  · next c rest _ => exact exec_inv (s := { s with pending := rest }) hs e

/-! ## What each command moves of the queue, OTP, the pins, the image and the global state (R532) -/

/-- Of the queue, OTP, the global state, the inputs, the save image and the TAP, the command `c` moves no more between `s`
and `t` than its own event allows. -/
structure OwnEventsOnly (c : Instr) (s t : State) : Prop where
  pending : t.pending = s.pending
  fuses : t.fuses ≠ s.fuses → (∃ a b r, c = .retireRow a b r) ∨ c = .ageHours ∨ c = .keyBlowDone ∨ c = .lifecycleChanged
  lifecycle : t.fuses.lifecycle ≠ s.fuses.lifecycle → c = .lifecycleChanged ∧ s.sec.lifeBlow = some t.fuses.lifecycle
  steady : movesGlobal c = false →
    t.global = s.global ∧ t.fatal = s.fatal ∧ t.time.tick = s.time.tick ∧ t.interleaveLocked = s.interleaveLocked
  pins : t.pins ≠ s.pins → (∃ r, c = .pwrGoodRise r) ∨ c = .pwrGoodFall ∨ c = .brownoutRise ∨ c = .brownoutFall ∨ c = .coldRst
    ∨ c = .pwrFailWarnRise ∨ c = .pwrFailWarnFall ∨ c = .quiesced
  chstat : t.chstat ≠ s.chstat → ∃ m l, c = .chstatChange m l
  image : t.image ≠ s.image → c = .saveImageWritten ∨ c = .homeReady
  tap : t.tap ≠ s.tap → ∃ n, c = .tapInstruction n

/-- What `Keeps` says is kept counts as moved by no command. -/
theorem Keeps.ownEventsOnly {c : Instr} {s t : State} (h : Keeps (!movesGlobal c) s t) : OwnEventsOnly c s t where
  pending := h.pending
  fuses n := absurd h.fuses n
  lifecycle n := absurd (congrArg Fuses.lifecycle h.fuses) n
  steady hm := by
    obtain ⟨htick, hglobal, hfatal, hlock⟩ := h.steady (by simp [hm])
    exact ⟨hglobal, hfatal, htick, hlock⟩
  pins n := absurd h.pins n
  chstat n := absurd h.chstat n
  image n := absurd h.image n
  tap n := absurd h.tap n

theorem OwnEventsOnly.refl (c : Instr) (s : State) : OwnEventsOnly c s s := (Keeps.refl s).ownEventsOnly

/-- An operation that keeps these parts may follow. -/
theorem OwnEventsOnly.keeps {c : Instr} {a b d : State} (h : OwnEventsOnly c a b) (g : Keeps (!movesGlobal c) b d) :
    OwnEventsOnly c a d where
  pending := g.pending.trans h.pending
  fuses := g.fuses ▸ h.fuses
  lifecycle := g.fuses ▸ h.lifecycle
  steady hm := by
    obtain ⟨htick, hglobal, hfatal, hlock⟩ := g.steady (by simp [hm])
    rw [htick, hglobal, hfatal, hlock]
    exact h.steady hm
  pins := g.pins ▸ h.pins
  chstat := g.chstat ▸ h.chstat
  image := g.image ▸ h.image
  tap := g.tap ▸ h.tap

/-- Two ways to reach the next state. -/
theorem OwnEventsOnly.ite {c : Instr} {s u v : State} {p : Prop} [Decidable p] (h : OwnEventsOnly c s u)
    (g : OwnEventsOnly c s v) : OwnEventsOnly c s (if p then u else v) := by
  split <;> assumption

/-- A cold reset keeps the queue, OTP, CHSTAT, the save image and the TAP (R528, R532); a command that starts one may move
the pins and the global state. -/
theorem ownEventsOnly_coldReset {c : Instr} {s u : State} {b : Boot} {n : Nat} {r : Bool} (hm : movesGlobal c = true)
    (hc : (∃ r, c = .pwrGoodRise r) ∨ c = .pwrGoodFall ∨ c = .brownoutRise ∨ c = .brownoutFall ∨ c = .coldRst)
    (hu : u.pending = s.pending ∧ u.fuses = s.fuses ∧ u.chstat = s.chstat ∧ u.image = s.image ∧ u.tap = s.tap) :
    OwnEventsOnly c s (coldReset u b n r) := by
  obtain ⟨hq, hf, hch, hi, ht⟩ := hu
  refine ⟨hq, fun n => absurd hf n, fun n => absurd (congrArg Fuses.lifecycle hf) n, ?_, ?_, fun n => absurd hch n,
    fun n => absurd hi n, fun n => absurd ht n⟩
  · simp [hm]
  · tauto

theorem ownEventsOnly_bringUp {c : Instr} {s u : State} {n : Nat} {r : Bool} (hm : movesGlobal c = true)
    (hc : (∃ r, c = .pwrGoodRise r) ∨ c = .pwrGoodFall ∨ c = .brownoutRise ∨ c = .brownoutFall ∨ c = .coldRst)
    (hu : u.pending = s.pending ∧ u.fuses = s.fuses ∧ u.chstat = s.chstat ∧ u.image = s.image ∧ u.tap = s.tap) :
    OwnEventsOnly c s (bringUp u n r) := by
  unfold bringUp powerDown
  exact .ite (ownEventsOnly_coldReset hm hc hu) (ownEventsOnly_coldReset hm hc hu)

/-- The state after `u` is `s` with the pins moved, by a command that may. -/
theorem ownEventsOnly_pins {c : Instr} {s : State} (p : Pins)
    (hc : (∃ r, c = .pwrGoodRise r) ∨ c = .pwrGoodFall ∨ c = .brownoutRise ∨ c = .brownoutFall ∨ c = .coldRst
      ∨ c = .pwrFailWarnRise ∨ c = .pwrFailWarnFall ∨ c = .quiesced) : OwnEventsOnly c s { s with pins := p } where
  pending := rfl
  fuses n := absurd rfl n
  lifecycle n := absurd rfl n
  steady _ := ⟨rfl, rfl, rfl, rfl⟩
  pins _ := hc
  chstat n := absurd rfl n
  image n := absurd rfl n
  tap n := absurd rfl n

/-- Fields other than these six do not count, for a command that may move the global state. -/
theorem OwnEventsOnly.upd {c : Instr} {a b d : State} (h : OwnEventsOnly c a b) (hm : movesGlobal c = true)
    (hd : d.pending = b.pending ∧ d.fuses = b.fuses ∧ d.pins = b.pins ∧ d.chstat = b.chstat ∧ d.image = b.image
      ∧ d.tap = b.tap) : OwnEventsOnly c a d := by
  obtain ⟨hq, hf, hp, hch, hi, ht⟩ := hd
  exact ⟨hq.trans h.pending, hf ▸ h.fuses, hf ▸ h.lifecycle, fun n => by simp [hm] at n, hp ▸ h.pins, hch ▸ h.chstat,
    hi ▸ h.image, ht ▸ h.tap⟩

theorem OwnEventsOnly.foldl {α : Type} {c : Instr} {a : State} {f : State → α → State}
    (hf : ∀ u x, Keeps (!movesGlobal c) u (f u x)) (l : List α) {u : State} (h : OwnEventsOnly c a u) :
    OwnEventsOnly c a (l.foldl f u) :=
  h.keeps (Keeps.foldl hf l (Keeps.refl u))

/-- The end of the bring-up fill restores no part that is named here: OTP and the image are read, not written (R431). -/
theorem ownEventsOnly_fillDone {c : Instr} {s : State} {l : List Nat} {crc v : Bool} {p : Word}
    (hm : movesGlobal c = true) : OwnEventsOnly c s (fillDone s l crc p v) := by
  unfold fillDone
  extract_lets s1 s2 s3
  have h1 : OwnEventsOnly c s s1 := (OwnEventsOnly.refl c s).upd hm ⟨rfl, rfl, rfl, rfl, rfl, rfl⟩
  have h2 : OwnEventsOnly c s s2 := by
    refine .ite (h1.keeps (keeps_resumeResult (Keeps.refl s1))) (.ite ?_ ?_)
    · exact (h1.upd (d := { s1 with resuming := false }) hm ⟨rfl, rfl, rfl, rfl, rfl, rfl⟩).keeps
        (keeps_resumeResult (Keeps.refl _))
    · split
      · exact h1.upd hm ⟨rfl, rfl, rfl, rfl, rfl, rfl⟩
      · exact h1
  have h3 : OwnEventsOnly c s s3 :=
    .foldl (fun u _ => Keeps.ite (Keeps.refl u) (keeps_fillFailed (Keeps.refl u))) _ h2
  exact .ite (h3.keeps (keeps_commitAll (Keeps.refl s3))) h3

/-- READY after a resume consumes the save image (R431). -/
theorem ownEventsOnly_homeReady {s t : State} (e : exec .homeReady s = .next t) : OwnEventsOnly .homeReady s t := by
  injection e with e
  subst e
  refine .ite ?_ (.refl _ s)
  have h1 : OwnEventsOnly .homeReady s { s with global := 2, interleaveLocked := true } :=
    (OwnEventsOnly.refl _ s).upd rfl ⟨rfl, rfl, rfl, rfl, rfl, rfl⟩
  have h2 : OwnEventsOnly .homeReady s (State.note { s with global := 2, interleaveLocked := true } .homeReady .ch []) :=
    h1.keeps (keeps_State_note (Keeps.refl _))
  unfold endResume
  extract_lets s1
  refine .ite h2 (.foldl (fun u _ => keeps_resumeAgent (Keeps.refl u)) _ ?_)
  refine OwnEventsOnly.keeps (b := { (State.note { s with global := 2, interleaveLocked := true } .homeReady .ch []) with
    resuming := false, image := _ }) ?_ (keeps_resumeResult (Keeps.refl _))
  exact ⟨h2.pending, h2.fuses, h2.lifecycle, h2.steady, h2.pins, h2.chstat, fun _ => .inr rfl, h2.tap⟩

theorem ownEventsOnly_retireRow {s t : State} {n b r : Nat} (e : exec (.retireRow n b r) s = .next t) :
    OwnEventsOnly (.retireRow n b r) s t := by
  change execRetireRow n b r s = .next t at e
  unfold execRetireRow at e
  split at e
  · cases e
  injection e with e
  subst e
  refine .ite ?_ (.refl _ s)
  unfold retireRow
  extract_lets k u s1 s2 s3 x s4
  have h := OwnEventsOnly.refl (.retireRow n b r) s
  have h1 : OwnEventsOnly (.retireRow n b r) s s1 :=
    ⟨h.pending, h.fuses, h.lifecycle, h.steady, h.pins, h.chstat, h.image, h.tap⟩
  have h2 : OwnEventsOnly (.retireRow n b r) s s2 := h1.keeps (keeps_State_modTill (Keeps.refl s1))
  have h3 : Keeps true s2 s3 := keeps_State_note (keeps_State_modTill (Keeps.refl s2))
  have h4 : OwnEventsOnly (.retireRow n b r) s s4 := by
    have h := h2.keeps h3
    exact ⟨h.pending, fun _ => .inl ⟨n, b, r, rfl⟩, h.lifecycle, h.steady, h.pins, h.chstat, h.image, h.tap⟩
  exact .ite (.ite (h4.keeps (keeps_State_note (Keeps.refl s4))) h4) h2

theorem ownEventsOnly_journalRecord {s t : State} (e : exec .journalRecord s = .next t) :
    OwnEventsOnly .journalRecord s t := by
  injection e with e
  subst e
  unfold takeRec
  split
  · exact .refl _ s
  · next r rest _ =>
    have h := OwnEventsOnly.refl .journalRecord s
    have h1 : OwnEventsOnly .journalRecord s { s with journal := { s.journal with inbox := rest } } :=
      ⟨h.pending, h.fuses, h.lifecycle, h.steady, h.pins, h.chstat, h.image, h.tap⟩
    exact h1.keeps (keeps_receiveRec (Keeps.refl _))

theorem ownEventsOnly_saveImageWritten {s t : State} (e : exec .saveImageWritten s = .next t) :
    OwnEventsOnly .saveImageWritten s t := by
  injection e with e
  subst e
  refine .ite ?_ (.refl _ s)
  have h : OwnEventsOnly .saveImageWritten s (s.send .saveImage) := (OwnEventsOnly.refl _ s).keeps (keeps_State_send (Keeps.refl s))
  have hi : OwnEventsOnly .saveImageWritten s { s.send .saveImage with
      image := some s.toImage, power := { (s.send .saveImage).power with saving := false, offReady := true } } :=
    ⟨h.pending, h.fuses, h.lifecycle, h.steady, h.pins, h.chstat, fun _ => .inl rfl, h.tap⟩
  exact hi.keeps (keeps_askMargin (Keeps.refl _))

theorem ownEventsOnly_ageHours {s t : State} (e : exec .ageHours s = .next t) : OwnEventsOnly .ageHours s t := by
  injection e with e
  subst e
  have h := OwnEventsOnly.refl .ageHours s
  exact .ite ⟨rfl, fun _ => .inr (.inl rfl), h.lifecycle, h.steady, h.pins, h.chstat, h.image, h.tap⟩ h

theorem ownEventsOnly_keyBlowDone {s t : State} (e : exec .keyBlowDone s = .next t) : OwnEventsOnly .keyBlowDone s t := by
  injection e with e
  subst e
  have h := OwnEventsOnly.refl .keyBlowDone s
  split
  · exact h
  · next k revoke _ =>
    extract_lets v x1 x2 s1
    have h1 : OwnEventsOnly .keyBlowDone s s1 :=
      ⟨rfl, fun _ => .inr (.inr (.inl rfl)), h.lifecycle, h.steady, h.pins, h.chstat, h.image, h.tap⟩
    exact .ite (h1.keeps (keeps_closeWhere (Keeps.refl s1))) h1

/-- The blow that is under way gives the new lifecycle (R462). -/
theorem ownEventsOnly_lifecycleChanged {s t : State} (e : exec .lifecycleChanged s = .next t) :
    OwnEventsOnly .lifecycleChanged s t := by
  injection e with e
  subst e
  have h := OwnEventsOnly.refl .lifecycleChanged s
  split
  · exact h
  · next n hn =>
    extract_lets old s0 x1 x2 s1 s2 keys x4
    have h0 : OwnEventsOnly .lifecycleChanged s s0 := .ite (h.keeps (keeps_levelOff (Keeps.refl s))) h
    have h1 : OwnEventsOnly .lifecycleChanged s s1 :=
      ⟨h0.pending, fun _ => .inr (.inr (.inr rfl)), fun _ => ⟨rfl, hn⟩, h0.steady, h0.pins, h0.chstat, h0.image, h0.tap⟩
    have h2 : OwnEventsOnly .lifecycleChanged s s2 := h1.keeps (keeps_State_note (Keeps.refl s1))
    refine .ite h2 (OwnEventsOnly.keeps (b := { s2 with fuses := { s2.fuses with keys := keys } }) ?_
      (keeps_closeWhere (Keeps.refl _)))
    exact ⟨h2.pending, fun _ => .inr (.inr (.inr rfl)), h2.lifecycle, h2.steady, h2.pins, h2.chstat, h2.image, h2.tap⟩

theorem ownEventsOnly_pwrFailWarnRise {s t : State} (e : exec .pwrFailWarnRise s = .next t) :
    OwnEventsOnly .pwrFailWarnRise s t := by
  injection e with e
  subst e
  have h : OwnEventsOnly .pwrFailWarnRise s (setQuiesce { s with pins := { s.pins with warn := true } } 1) :=
    ownEventsOnly_pins _ (by simp)
  exact .ite (.refl _ s) (.ite h (h.keeps (keeps_State_bump (Keeps.refl _))))

theorem ownEventsOnly_pwrFailWarnFall {s t : State} (e : exec .pwrFailWarnFall s = .next t) :
    OwnEventsOnly .pwrFailWarnFall s t := by
  injection e with e
  subst e
  exact (ownEventsOnly_pins _ (by simp)).keeps (keeps_replayAll (Keeps.refl _))

theorem ownEventsOnly_chstatChange {s t : State} {m : Nat} {l : BitVec 16} (e : exec (.chstatChange m l) s = .next t) :
    OwnEventsOnly (.chstatChange m l) s t := by
  change execChstatChange m l s = .next t at e
  unfold execChstatChange at e
  split at e
  · cases e
  injection e with e
  subst e
  have h := OwnEventsOnly.refl (.chstatChange m l) s
  exact ⟨rfl, h.fuses, h.lifecycle, h.steady, h.pins, fun _ => ⟨m, l, rfl⟩, h.image, h.tap⟩

theorem ownEventsOnly_tapInstruction {s t : State} {n : Nat} (e : exec (.tapInstruction n) s = .next t) :
    OwnEventsOnly (.tapInstruction n) s t := by
  injection e with e
  subst e
  have h := OwnEventsOnly.refl (.tapInstruction n) s
  exact ⟨rfl, h.fuses, h.lifecycle, h.steady, h.pins, h.chstat, h.image, fun _ => ⟨n, rfl⟩⟩

theorem exec_ownEventsOnly {c : Instr} {s t : State} (e : exec c s = .next t) : OwnEventsOnly c s t := by
  cases h : ownsKept c with
  | false => exact (keepsNext_exec s h t e).ownEventsOnly
  | true =>
    cases c with
    | pwrGoodRise =>
      injection e with e
      exact e ▸ .ite (.refl _ s) (ownEventsOnly_bringUp rfl (by simp) ⟨rfl, rfl, rfl, rfl, rfl⟩)
    | pwrGoodFall =>
      injection e with e
      exact e ▸ .ite (ownEventsOnly_coldReset rfl (by simp) ⟨rfl, rfl, rfl, rfl, rfl⟩) (.refl _ s)
    | brownoutRise =>
      injection e with e
      exact e ▸ .ite (.refl _ s) (ownEventsOnly_coldReset rfl (by simp) ⟨rfl, rfl, rfl, rfl, rfl⟩)
    | brownoutFall =>
      injection e with e
      exact e ▸ .ite (ownEventsOnly_bringUp rfl (by simp) ⟨rfl, rfl, rfl, rfl, rfl⟩) (.refl _ s)
    | coldRst =>
      injection e with e
      exact e ▸ ownEventsOnly_bringUp rfl (by simp) ⟨rfl, rfl, rfl, rfl, rfl⟩
    | quiesced =>
      injection e with e
      exact e ▸ .ite (ownEventsOnly_pins _ (by simp)) (.refl _ s)
    | bringupFill =>
      injection e with e
      exact e ▸ .ite (ownEventsOnly_fillDone rfl) (.refl _ s)
    | pwrFailWarnRise => exact ownEventsOnly_pwrFailWarnRise e
    | pwrFailWarnFall => exact ownEventsOnly_pwrFailWarnFall e
    | homeReady => exact ownEventsOnly_homeReady e
    | chstatChange => exact ownEventsOnly_chstatChange e
    | retireRow => exact ownEventsOnly_retireRow e
    | journalRecord => exact ownEventsOnly_journalRecord e
    | saveImageWritten => exact ownEventsOnly_saveImageWritten e
    | ageHours => exact ownEventsOnly_ageHours e
    | keyBlowDone => exact ownEventsOnly_keyBlowDone e
    | lifecycleChanged => exact ownEventsOnly_lifecycleChanged e
    | tapInstruction => exact ownEventsOnly_tapInstruction e
    | _ => cases h

/-- Settles O7: each clause is a part of `exec_ownEventsOnly`. -/
theorem onlyTheirEventsMove : Obligations.OnlyTheirEventsMove := by
  unfold Obligations.OnlyTheirEventsMove
  refine ⟨fun c s t e => (exec_ownEventsOnly e).pending, fun c s t e => ?_,
    fun c s t e hm => (exec_ownEventsOnly e).steady hm, fun c s t e => ?_⟩
  · have h := exec_ownEventsOnly e
    exact ⟨h.fuses, h.lifecycle⟩
  · have h := exec_ownEventsOnly e
    exact ⟨h.pins, h.chstat, h.image, h.tap⟩

/-! ## What traffic leaves as it is (R47, R207, R215, R272, R280, R351, R386, R434, R445) -/

/-- A command that is quiet rolls too. -/
theorem QuietNext.rolls {o : Host.Outcome State Fault Refusal} {s : State} (h : QuietNext o s) : RollsNext o s := by
  intro t e
  have q := h t e
  exact ⟨q.agents, q.seg, q.ways, q.cellarState, q.cellarGen, q.cellarLocked, q.saveLocked, q.inReset, q.startSeen⟩

theorem quietNext_exec {c : Instr} (s : State) (h : leavesMaps c = true) : QuietNext (exec c s) s := by
  cases c with
  | pwrFailWarnRise => exact quiet_execPwrFailWarnRise
  | quiesced => exact quiet_execQuiesced
  | assayBaseline => exact quiet_execAssayBaseline
  | marginTimeout => exact quiet_execMarginTimeout
  | chstatChange => exact quiet_execChstatChange
  | rdS => exact quiet_execRdS
  | rdX => exact quiet_execRdX
  | rdAny => exact quiet_execRdAny
  | rdNc => exact quiet_execRdNc
  | own => exact quiet_execOwn
  | drop => exact quiet_execDrop
  | down => exact quiet_execDown
  | wbI => exact quiet_execWbI
  | wbS => exact quiet_execWbS
  | wbX => exact quiet_execWbX
  | evc => exact quiet_execEvc
  | conflict => exact quiet_execConflict
  | ncwFull => exact quiet_execNcwFull
  | ncwPtl => exact quiet_execNcwPtl
  | claimX => exact quiet_execClaimX
  | claimS => exact quiet_execClaimS
  | release => exact quiet_execRelease
  | rsv => exact quiet_execRsv
  | cwr => exact quiet_execCwr
  | settle => exact quiet_execSettle
  | snoopDelivery => exact quiet_execSnoopDelivery
  | loanGrant => exact quiet_execLoanGrant
  | loanIdle => exact quiet_execLoanIdle
  | creditReturn => exact quiet_execCreditReturn
  | handover => exact quiet_execHandover
  | tillDown => exact quiet_execTillDown
  | salvageMark => exact quiet_execSalvageMark
  | bankWatchdog => exact quiet_execBankWatchdog
  | bankArbitration => exact quiet_execBankArbitration
  | linkFlitError => exact quiet_execLinkFlitError
  | routeMark => exact quiet_execRouteMark
  | routeMarkAck => exact quiet_execRouteMarkAck
  | retrainDone => exact quiet_execRetrainDone
  | tallySample => exact quiet_execTallySample
  | tallyWindow => exact quiet_execTallyWindow
  | journalRecord => exact quiet_execJournalRecord
  | alarmWindow => exact quiet_execAlarmWindow
  | journalPointer => exact quiet_execJournalPointer
  | rsvTimeout => exact quiet_execRsvTimeout
  | postDrainDelay => exact quiet_execPostDrainDelay
  | holdQuiesced => exact quiet_execHoldQuiesced
  | saveImageWritten => exact quiet_execSaveImageWritten
  | tjSample => exact quiet_execTjSample
  | ageHours => exact quiet_execAgeHours
  | proveWindow => exact quiet_execProveWindow
  | tapInstruction => exact quiet_execTapInstruction
  | _ => cases h

theorem rollsNext_exec {c : Instr} (s : State) (h : leavesRegistry c = true) : RollsNext (exec c s) s := by
  cases c with
  | pwrFailWarnRise => exact rolls_execPwrFailWarnRise
  | quiesced => exact rolls_execQuiesced
  | assayBaseline => exact rolls_execAssayBaseline
  | tickStrobe => exact rolls_execTickStrobe
  | tickLost => exact rolls_execTickLost
  | substituteTick => exact rolls_execSubstituteTick
  | marginTimeout => exact rolls_execMarginTimeout
  | mrdata => exact rolls_execMrdata
  | mcmp => exact rolls_execMcmp
  | mcred => exact rolls_execMcred
  | chstatChange => exact rolls_execChstatChange
  | memWriteTimeout => exact rolls_execMemWriteTimeout
  | memReadTimeout => exact rolls_execMemReadTimeout
  | rdS => exact rolls_execRdS
  | rdX => exact rolls_execRdX
  | rdAny => exact rolls_execRdAny
  | rdNc => exact rolls_execRdNc
  | own => exact rolls_execOwn
  | drop => exact rolls_execDrop
  | down => exact rolls_execDown
  | wbI => exact rolls_execWbI
  | wbS => exact rolls_execWbS
  | wbX => exact rolls_execWbX
  | evc => exact rolls_execEvc
  | conflict => exact rolls_execConflict
  | ncwFull => exact rolls_execNcwFull
  | ncwPtl => exact rolls_execNcwPtl
  | claimX => exact rolls_execClaimX
  | claimS => exact rolls_execClaimS
  | release => exact rolls_execRelease
  | rsv => exact rolls_execRsv
  | cwr => exact rolls_execCwr
  | settle => exact rolls_execSettle
  | requestInjection => exact rolls_execRequestInjection
  | qFlitAccepted => exact rolls_execQFlitAccepted
  | vaultLookupDone => exact rolls_execVaultLookupDone
  | folioReadOutDone => exact rolls_execFolioReadOutDone
  | chainedNotice => exact rolls_execChainedNotice
  | completionDelivery => exact rolls_execCompletionDelivery
  | snoopDelivery => exact rolls_execSnoopDelivery
  | foreclosedResponse => exact rolls_execForeclosedResponse
  | loanRequest => exact rolls_execLoanRequest
  | loanGrant => exact rolls_execLoanGrant
  | loanIdle => exact rolls_execLoanIdle
  | creditReturn => exact rolls_execCreditReturn
  | receiptTimeout => exact rolls_execReceiptTimeout
  | bucketMapSwitch => exact rolls_execBucketMapSwitch
  | regionTableSwitch => exact rolls_execRegionTableSwitch
  | preloadSector => exact rolls_execPreloadSector
  | cellarVisit => exact rolls_execCellarVisit
  | scrubRun => exact rolls_execScrubRun
  | foreclosureWalk => exact rolls_execForeclosureWalk
  | leaveWalk => exact rolls_execLeaveWalk
  | retentiveCleanWalk => exact rolls_execRetentiveCleanWalk
  | resolutionWalk => exact rolls_execResolutionWalk
  | rebuildStep => exact rolls_execRebuildStep
  | copyRun => exact rolls_execCopyRun
  | switch => exact rolls_execSwitch
  | retireRow => exact rolls_execRetireRow
  | handoverSend => exact rolls_execHandoverSend
  | copyEndSend => exact rolls_execCopyEndSend
  | handover => exact rolls_execHandover
  | handoverAck => exact rolls_execHandoverAck
  | copyEnd => exact rolls_execCopyEnd
  | tillDown => exact rolls_execTillDown
  | salvageMark => exact rolls_execSalvageMark
  | tillWatchdog => exact rolls_execTillWatchdog
  | bankWatchdog => exact rolls_execBankWatchdog
  | bankArbitration => exact rolls_execBankArbitration
  | linkFlitError => exact rolls_execLinkFlitError
  | routeMark => exact rolls_execRouteMark
  | routeMarkAck => exact rolls_execRouteMarkAck
  | retrainDone => exact rolls_execRetrainDone
  | tallySample => exact rolls_execTallySample
  | tallyWindow => exact rolls_execTallyWindow
  | journalRecord => exact rolls_execJournalRecord
  | alarmWindow => exact rolls_execAlarmWindow
  | journalPointer => exact rolls_execJournalPointer
  | leaseExpiry => exact rolls_execLeaseExpiry
  | expiredHold => exact rolls_execExpiredHold
  | claimReleaseDone => exact rolls_execClaimReleaseDone
  | rsvTimeout => exact rolls_execRsvTimeout
  | postDrainDelay => exact rolls_execPostDrainDelay
  | holdQuiesced => exact rolls_execHoldQuiesced
  | saveImageWritten => exact rolls_execSaveImageWritten
  | quickCheck => exact rolls_execQuickCheck
  | fullSweep => exact rolls_execFullSweep
  | tjSample => exact rolls_execTjSample
  | ageHours => exact rolls_execAgeHours
  | proveWindow => exact rolls_execProveWindow
  | sessionIdle => exact rolls_execSessionIdle
  | haltMaxTicks => exact rolls_execHaltMaxTicks
  | keyBlowDone => exact rolls_execKeyBlowDone
  | lifecycleChanged => exact rolls_execLifecycleChanged
  | tapInstruction => exact rolls_execTapInstruction
  | _ => cases h

/-- Settles O8: a command of the first list rolls, one of the second is quiet. -/
theorem trafficLeavesTables : Obligations.TrafficLeavesTables := by
  unfold Obligations.TrafficLeavesTables
  refine ⟨fun c s t hc e => ?_, fun c s t hc e => ?_⟩
  · have r := rollsNext_exec s hc t e
    exact ⟨r.agents, r.ways, r.cellarState, r.cellarGen, r.cellarLocked, r.saveLocked, r.seg, r.inReset, r.startSeen⟩
  · have q := quietNext_exec s hc t e
    exact ⟨q.maps, q.shapes, q.lost, q.au, q.transfers, q.cellarFloor, q.agents, q.ways⟩

end Sys2Proof.Machine
end
section
/-! PROOFS. The Tick: what one Tick does to the time base, strobes, loss and return (R53 to R59, R411). -/

namespace Sys2Proof.Machine

/-- A command that answers a next state completes with what holds of it. -/
theorem Completes.of {c : Instr} {s t : State} {P : State → Prop} (e : exec c s = .next t) (h : P t) : Completes c s P :=
  ⟨t, e, h⟩

/-! ## Part of the state that every step of a fold leaves -/

/-- A fold leaves what each of its steps leaves. -/
theorem foldl_proj {α β : Type} (p : State → β) {f : State → α → State} (hf : ∀ s x, p (f s x) = p s) (l : List α) :
    ∀ s, p (l.foldl f s) = p s := by
  induction l with
  | nil => exact fun _ => rfl
  | cons x l ih => exact fun s => (ih (f s x)).trans (hf s x)

/-! ## The time base through one Tick (R55) -/

theorem time_shaperTicks (s : State) : (shaperTicks s).time = s.time := by
  unfold shaperTicks
  extract_lets s1
  have h1 : s1.time = s.time := by
    apply foldl_proj State.time
    intros; rfl
  rw [← h1]
  apply foldl_proj State.time
  intros; rfl

theorem time_policeTick (s : State) : (policeTick s).time = s.time := by
  apply foldl_proj State.time
  intros; rfl

theorem time_watchTick (s : State) : (watchTick s).time = s.time := by
  apply foldl_proj State.time
  intros; rfl

theorem time_windowBoundary (s : State) : (windowBoundary s).time = s.time := by
  unfold windowBoundary
  extract_lets s1
  split
  · rfl
  · split <;> rfl

theorem time_alarmBoundary (s : State) : (alarmBoundary s).time = s.time := by
  unfold alarmBoundary
  split <;> rfl

theorem time_leaveHold (s : State) (n : Nat) : (leaveHold s n).time = s.time := by
  unfold leaveHold
  split <;> rfl

theorem time_holdTick (s : State) : (holdTick s).time = s.time := by
  unfold holdTick
  extract_lets x s1
  split
  · rfl
  · split
    · exact time_leaveHold s1 2
    · rfl

theorem time_counted (s : State) : (counted s).time = s.time := by
  have h : (measureBoundary (alarmBoundary (windowBoundary s))).time = s.time :=
    (time_alarmBoundary _).trans (time_windowBoundary s)
  unfold counted
  extract_lets s1
  rw [time_holdTick, time_watchTick]
  split <;> exact h

/-- One Tick moves TICK_COUNT alone in the time base, and only where it counts. -/
theorem time_tickStep (s : State) (count : Bool) :
    (tickStep s count).time = { s.time with tick := if count then s.time.tick + 1 else s.time.tick } := by
  unfold tickStep
  extract_lets x s1 s2
  have h2 : s2.time = s1.time := (time_policeTick _).trans (time_shaperTicks s1)
  cases count with
  | false => exact h2
  | true => exact (time_counted s2).trans h2

theorem tick_tickStep_true (s : State) : (tickStep s true).time = { s.time with tick := s.time.tick + 1 } :=
  time_tickStep s true

theorem tick_tickSteps (s : State) (n : Nat) :
    ((List.range n).foldl (fun s _ => tickStep s true) s).time = { s.time with tick := s.time.tick + n } := by
  induction n with
  | zero => rfl
  | succ n ih => rw [List.range_succ, List.foldl_append, List.foldl_cons, List.foldl_nil, time_tickStep, ih]; rfl

theorem tick_advance (s : State) (dt : Nat) : (advance s dt).time.tick = s.time.tick :=
  ((keeps_advance (m₀ := true) (Keeps.refl s)).steady rfl).1

theorem time_note (s : State) (c : J) (k : NodeKind) (args : List Nat) (aid : Option Aid) :
    (s.note c k args aid).time = s.time := by
  obtain ⟨_, _, _, _, h, _⟩ := note_eq s c k args aid
  rw [h]

theorem time_emitAs (s : State) (code src : Nat) (aid : Option Aid) (args : List Nat) :
    (s.emitAs code src aid args).time = s.time := by
  obtain ⟨_, _, _, _, h, _⟩ := emitAs_eq s code src aid args
  rw [h]

/-! ## A strobe while the external Tick is the source (R56) -/

theorem exec_tickStrobe {s : State} (hb : s.boot ≠ .off) (hp : s.power.state ≠ 3) (dt : Nat) (ptm : Word) (v : Bool) :
    exec (.tickStrobe dt ptm v) s = .next (if (advance s dt).time.substitute then strobeOnSubstitute (advance s dt) ptm v
      else strobe (advance s dt) ptm v) := by
  change execTickStrobe dt ptm v s = _
  simp [execTickStrobe, State.ticking, hb, hp]

theorem strobe_early {s : State} (h : s.time.ps - s.time.lastTick < tickMin) (ptm : Word) (v : Bool) :
    strobe s ptm v = s.bump ⟨0x8040, 4, 32⟩ := by
  simp [strobe, h]

/-- A strobe that is not early counts one Tick, measures from here and latches PTM. -/
theorem time_strobe {s : State} (h : tickMin ≤ s.time.ps - s.time.lastTick) (ptm : Word) (v : Bool) :
    (strobe s ptm v).time = { s.time with
      tick := s.time.tick + 1, lastTick := s.time.ps, ptm := ptm, ptmValid := v, tickPs := s.time.ps } := by
  unfold strobe
  extract_lets d s1 x s2
  have h1 : s1.time = s.time := by
    show (ite _ _ _ : State).time = _
    split <;> rfl
  have h2 : s2.time = { s.time with lastTick := s.time.ps } := by
    show ({ s1.time with lastTick := s1.time.ps } : Time) = _
    rw [h1]
  clear_value s2
  rw [if_neg (Nat.not_lt.mpr h), tick_tickStep_true]
  simp only [latchPtm, h2]
  rfl

/-- Settles O25: an early strobe counts in its register alone; any other is one counted Tick, and traffic's tables stay. -/
theorem strobeCountsOrIsEarly : Obligations.StrobeCountsOrIsEarly := by
  unfold Obligations.StrobeCountsOrIsEarly
  intro s dt ptm v hinv hb hp u hsub
  have hu : Keeps true s u := keeps_advance (Keeps.refl s)
  obtain ⟨-, -, -, -, -, hchart, -⟩ := hu.inv hinv
  have hexec : exec (.tickStrobe dt ptm v) s = .next (strobe u ptm v) := by
    rw [exec_tickStrobe hb hp, if_neg (by simp [show (advance s dt).time.substitute = false from hsub])]
  refine ⟨fun hearly => .of hexec ?_, fun hlate => .of hexec ?_⟩
  · rw [strobe_early hearly]
    exact ⟨tick_advance s dt, rawN_bump u 0x8040 4 32 hchart (by decide), rfl⟩
  · have hr : Rolls s (strobe u ptm v) := rolls_execTickStrobe _ hexec
    rw [time_strobe hlate]
    exact ⟨congrArg (· + 1) (tick_advance s dt), rfl, rfl, rfl, hsub, hr.agents, hr.ways⟩

/-! ## Loss and return of the Tick (R58, R59) -/

theorem exec_tickLost {s : State} (hb : s.boot ≠ .off) (hp : s.power.state ≠ 3) (dt : Nat) :
    exec (.tickLost dt) s = .next (
      if !(advance s dt).time.substitute && 16 * (advance s dt).nominal ≤ (advance s dt).time.ps - (advance s dt).time.lastTick
      then loseTick (advance s dt) else advance s dt) := by
  change execTickLost dt s = _
  simp [execTickLost, State.ticking, hb, hp]

theorem exec_substituteTick {s : State} (hb : s.boot ≠ .off) (hp : s.power.state ≠ 3) (dt : Nat) (ptm : Word) (v : Bool) :
    exec (.substituteTick dt ptm v) s = .next (let u := advance s dt
      if u.time.substitute && 99 * u.nominal ≤ 100 * (u.time.ps - u.time.lastSub) then
        tickStep (latchPtm { u with time := { u.time with lastSub := u.time.ps } } ptm v) true else u) := by
  change execSubstituteTick dt ptm v s = _
  simp [execSubstituteTick, State.ticking, hb, hp]

/-- The declared loss counts 16 Ticks and makes substitute Ticks the source. -/
theorem time_loseTick (s : State) : (loseTick s).time = { s.time with
    tick := s.time.tick + 16, substitute := true, run := 0, lastExt := none, lastSub := s.time.ps } := by
  have h1 : (((List.range 16).foldl (fun s _ => tickStep s true) s).bump ⟨0x8040, 6, 32⟩).time
      = { s.time with tick := s.time.tick + 16 } := by
    rw [State.bump_time, tick_tickSteps]
  unfold loseTick
  extract_lets s1 x s2
  rw [time_note]
  show ({ s1.time with substitute := true, run := 0, lastExt := none, lastSub := s1.time.ps } : Time) = _
  rw [show s1.time = _ from h1]

/-- The records made by an operation that keeps the others lie behind them. -/
theorem note_inbox_behind {a s : State} (h : a.journal.inbox <+: s.journal.inbox) (c : J) (k : NodeKind) (args : List Nat)
    (aid : Option Aid) : ∃ l, (s.note c k args aid).journal.inbox = a.journal.inbox ++ l ∧ ∃ r ∈ l, r.code = c.code := by
  obtain ⟨l, hl⟩ := h
  obtain ⟨_, _, _, r, hn, hcode, -⟩ := note_eq s c k args aid
  refine ⟨l ++ [r], ?_, r, by simp, hcode⟩
  rw [hn]
  show s.journal.inbox ++ [r] = _
  rw [← hl, List.append_assoc]

theorem loseTick_records (s : State) :
    ∃ l, (loseTick s).journal.inbox = s.journal.inbox ++ l ∧ ∃ r ∈ l, r.code = 0x101 := by
  unfold loseTick
  extract_lets s1 x s2
  have h : Keeps false s s1 := by
    refine keeps_State_bump (Keeps.foldl ?_ _ (Keeps.refl s))
    exact fun u _ => keeps_tickStep (Keeps.refl u)
  clear_value s1
  have h2 : s.journal.inbox <+: s2.journal.inbox := h.inbox
  clear_value s2
  exact note_inbox_behind h2 .tickLost .ch [] none

theorem strobeOnSubstitute_short {s : State} (h : s.time.nextRun < 8) (ptm : Word) (v : Bool) :
    strobeOnSubstitute s ptm v = { s with time := { s.time with run := s.time.nextRun, lastExt := some s.time.ps } } := by
  simp [strobeOnSubstitute, h]

/-- The eighth strobe of a run makes the external Tick the source again. -/
theorem time_strobeOnSubstitute_eighth {s : State} (h : 8 ≤ s.time.nextRun) (ptm : Word) (v : Bool) :
    (strobeOnSubstitute s ptm v).time = { s.time with
      tick := if tickMin ≤ s.time.ps - s.time.lastSub then s.time.tick + 1 else s.time.tick
      run := 0, lastExt := none, substitute := false, lastTick := s.time.ps, ptm := ptm, ptmValid := v, tickPs := s.time.ps } := by
  unfold strobeOnSubstitute
  extract_lets t n s1
  rw [if_neg (Nat.not_lt.mpr h), time_tickStep]
  have h1 : (s1.note .tickRestored .ch []).time = s1.time := time_note _ _ _ _ _
  show ({ (s1.note .tickRestored .ch []).time with
    tick := _, ptm := ptm, ptmValid := v, tickPs := (s1.note .tickRestored .ch []).time.ps } : Time) = _
  simp only [latchPtm, h1, decide_eq_true_eq]
  rfl

theorem strobeOnSubstitute_records {s : State} (h : 8 ≤ s.time.nextRun) (ptm : Word) (v : Bool) :
    ∃ l, (strobeOnSubstitute s ptm v).journal.inbox = s.journal.inbox ++ l ∧ ∃ r ∈ l, r.code = 0x201 := by
  unfold strobeOnSubstitute
  extract_lets t n s1
  rw [if_neg (Nat.not_lt.mpr h)]
  obtain ⟨_, _, _, r, hn, hcode, -⟩ := note_eq s1 .tickRestored .ch [] none
  have hk : Keeps false (latchPtm (s1.note .tickRestored .ch []) ptm v)
      (tickStep (latchPtm (s1.note .tickRestored .ch []) ptm v) (decide (tickMin ≤ t.ps - t.lastSub))) :=
    keeps_tickStep (Keeps.refl _)
  obtain ⟨l, hl⟩ := hk.inbox
  have hin : (latchPtm (s1.note .tickRestored .ch []) ptm v).journal.inbox = s.journal.inbox ++ [r] := by
    show (s1.note .tickRestored .ch []).journal.inbox = _
    rw [hn]
  exact ⟨r :: l, by rw [← hl, hin, List.append_assoc, List.singleton_append], r, by simp, hcode⟩

/-- Settles O26: each event is read off the time base that its operation leaves. -/
theorem tickLossAndReturn : Obligations.TickLossAndReturn := by
  unfold Obligations.TickLossAndReturn
  constructor
  · intro s dt hb hp u hsub
    refine ⟨fun hdue => .of (t := loseTick u) ?_ ?_, fun hearly => ?_⟩
    · rw [exec_tickLost hb hp, if_pos (by simpa [u] using ⟨hsub, hdue⟩)]
    · rw [time_loseTick]
      exact ⟨congrArg (· + 16) (tick_advance s dt), rfl, rfl, rfl, loseTick_records u⟩
    · rw [exec_tickLost hb hp, if_neg (by simpa [u] using fun _ => hearly)]
  · intro s dt ptm v hb hp u hsub
    refine ⟨fun hdue => ?_, fun hshort => ?_, fun hlong => ?_⟩
    · refine .of (t := tickStep (latchPtm { u with time := { u.time with lastSub := u.time.ps } } ptm v) true) ?_ ?_
      · rw [exec_substituteTick hb hp]
        exact congrArg Host.Outcome.next (if_pos (by simpa [u] using ⟨hsub, hdue⟩))
      · rw [tick_tickStep_true]
        exact ⟨congrArg (· + 1) (tick_advance s dt), hsub, rfl, rfl, rfl⟩
    · refine .of ?_ rfl
      rw [exec_tickStrobe hb hp, if_pos hsub, strobeOnSubstitute_short hshort]
    · refine .of (t := strobeOnSubstitute u ptm v) (by rw [exec_tickStrobe hb hp, if_pos hsub]) ?_
      rw [time_strobeOnSubstitute_eighth hlong]
      exact ⟨rfl, rfl, rfl, by rw [tick_advance s dt], strobeOnSubstitute_records hlong ptm v⟩

/-! ## TICK_COUNT never decreases (R55) -/

theorem tick_of_keeps {a b : State} (h : Keeps true a b) : b.time.tick = a.time.tick := (h.steady rfl).1

theorem tick_le_strobe (s : State) (ptm : Word) (v : Bool) : s.time.tick ≤ (strobe s ptm v).time.tick := by
  by_cases h : tickMin ≤ s.time.ps - s.time.lastTick
  · rw [time_strobe h]; exact Nat.le_succ _
  · rw [strobe_early (Nat.lt_of_not_le h)]; rfl

theorem tick_le_strobeOnSubstitute (s : State) (ptm : Word) (v : Bool) :
    s.time.tick ≤ (strobeOnSubstitute s ptm v).time.tick := by
  by_cases h : s.time.nextRun < 8
  · rw [strobeOnSubstitute_short h]
  · rw [time_strobeOnSubstitute_eighth (Nat.le_of_not_lt h)]
    dsimp only
    split <;> omega

theorem time_failHalf (s : State) (l half : Nat) : (failHalf s l half).time = s.time := by
  unfold failHalf
  extract_lets x s1
  split
  · rw [time_emitAs]; rfl
  · split
    · show ((s1.emitAs _ _ _ _).emitAs J.exchFatal.code (l / 2) none [l]).time = _
      rw [time_emitAs, time_emitAs]; rfl
    · rw [time_emitAs]; rfl

theorem time_poisonOnLink (s : State) (l : Nat) : (poisonOnLink s l).time = s.time := by
  unfold poisonOnLink
  extract_lets
  split <;> rfl

/-- An error at a link is no event of the time base. -/
theorem time_linkError (s : State) (l half : Nat) (e : LinkEvent) : (linkError s l half e).time = s.time := by
  cases e with
  | correctable => exact (apply_ite State.time _ _ _).trans (ite_self s.time)
  | uncorrectable =>
    unfold linkError
    extract_lets x works n set s1
    dsimp only
    split
    · rfl
    · split
      · rfl
      · exact time_failHalf s1 l half
  | bufferCorrected => rfl
  | bufferPayload => exact (time_emitAs _ _ _ _ _).trans (time_poisonOnLink s l)
  | bufferControl => exact time_emitAs s J.exchFatal.code (l / 2) none [l]
  | chkMismatch => exact time_emitAs s J.exchFatal.code (l / 2) none [l]

theorem tick_stallBite (s : State) (node port vc : Nat) : (stallBite s node port vc).time.tick = s.time.tick := by
  unfold stallBite
  extract_lets s1 x mark fatal
  have h1 : s1.time = s.time := time_emitAs _ _ _ _ _
  have hmark : mark.time = s.time := h1
  have hfatal : ∀ u, (fatal u).time = u.time := fun u => time_emitAs u J.exchFatal.code node none [node, port, vc]
  split
  · split
    · split
      · rfl
      · split
        · rw [tick_of_keeps (keeps_failTill (Keeps.refl mark)), hmark]
        · rw [hfatal, hmark]
    · rw [tick_of_keeps (keeps_linkReset (Keeps.refl mark)), hmark]
    · rw [hfatal, hmark]
  · split
    · rfl
    · rw [hfatal, h1]

theorem tick_endResume (s : State) : (endResume s).time.tick = s.time.tick := by
  unfold endResume
  extract_lets s1
  split
  · rfl
  · have h : Keeps true s1 (s1.agents.foldl (fun s p => resumeAgent s p.1) s1) :=
      Keeps.foldl (fun u _ => keeps_resumeAgent (Keeps.refl u)) _ (Keeps.refl s1)
    exact (tick_of_keeps h).trans rfl

theorem tick_le_homeReady {s t : State} (e : exec .homeReady s = .next t) : s.time.tick ≤ t.time.tick := by
  injection e with e
  subst e
  split
  · rw [tick_endResume, time_note]
  · rfl

theorem tick_le_tickStrobe {s t : State} {dt : Nat} {ptm : Word} {v : Bool} (e : exec (.tickStrobe dt ptm v) s = .next t) :
    s.time.tick ≤ t.time.tick := by
  injection e with e
  subst e
  dsimp only
  split
  · rfl
  · split
    · exact (tick_advance s dt).symm.trans_le (tick_le_strobeOnSubstitute _ ptm v)
    · exact (tick_advance s dt).symm.trans_le (tick_le_strobe _ ptm v)

theorem tick_le_tickLost {s t : State} {dt : Nat} (e : exec (.tickLost dt) s = .next t) : s.time.tick ≤ t.time.tick := by
  injection e with e
  subst e
  dsimp only
  split
  · rfl
  · split
    · rw [time_loseTick, tick_advance s dt]; exact Nat.le_add_right _ _
    · exact (tick_advance s dt).ge

theorem tick_le_substituteTick {s t : State} {dt : Nat} {ptm : Word} {v : Bool}
    (e : exec (.substituteTick dt ptm v) s = .next t) : s.time.tick ≤ t.time.tick := by
  injection e with e
  subst e
  dsimp only
  split
  · rfl
  · split
    · rw [time_tickStep]
      exact (tick_advance s dt).symm.trans_le (Nat.le_succ _)
    · exact (tick_advance s dt).ge

theorem tick_exchStall {s t : State} {node port vc : Nat} (e : exec (.exchStall node port vc) s = .next t) :
    t.time.tick = s.time.tick := by
  change execExchStall node port vc s = .next t at e
  unfold execExchStall at e
  split at e
  · cases e
  · injection e with e
    exact e ▸ tick_stallBite s node port vc

theorem tick_linkFlitError {s t : State} {l half : Nat} {ev : LinkEvent} (e : exec (.linkFlitError l half ev) s = .next t) :
    t.time.tick = s.time.tick := by
  change execLinkFlitError l half ev s = .next t at e
  unfold execLinkFlitError at e
  split at e
  · cases e
  · injection e with e
    subst e
    split
    · rfl
    · exact congrArg Time.tick (time_linkError s l half ev)

/-- Settles O24: only the commands of `movesGlobal` touch the count, and of those the Tick's own add to it. -/
theorem tickCountNeverDecreases : Obligations.TickCountNeverDecreases := by
  unfold Obligations.TickCountNeverDecreases
  intro c s t e hrise hfall hbrown hbrownFall hcold hfill
  cases hm : movesGlobal c with
  | false =>
    obtain ⟨-, -, htick, -⟩ := (exec_ownEventsOnly e).steady hm
    exact htick.ge
  | true =>
    cases c with
    | pwrGoodRise r => exact absurd rfl (hrise r)
    | pwrGoodFall => exact absurd rfl hfall
    | brownoutRise => exact absurd rfl hbrown
    | brownoutFall => exact absurd rfl hbrownFall
    | coldRst => exact absurd rfl hcold
    | bringupFill l k p v => exact absurd rfl (hfill l k p v)
    | homeReady => exact tick_le_homeReady e
    | exchStall => exact (tick_exchStall e).ge
    | linkFlitError => exact (tick_linkFlitError e).ge
    | tickStrobe => exact tick_le_tickStrobe e
    | tickLost => exact tick_le_tickLost e
    | substituteTick => exact tick_le_substituteTick e
    | _ => cases hm

end Sys2Proof.Machine
end

section
/-! PROOFS. A step and the front of the queue, the commands that complete, the idle cycle, the reset state and the table of
the common control (R10, R29, R61, R62, R534). -/

namespace Sys2Proof.Machine

/-- Settles O1: the step takes the command off the queue and runs it. -/
theorem frontCommandActs : Obligations.FrontCommandActs := by
  unfold Obligations.FrontCommandActs
  exact fun c rest s => rfl

/-! ## Every well-formed command completes (R10, R29, R534) -/

/-- A meaning answers a next state, or the fault of an unbuilt part where the command is not well formed. -/
def Answers (ok : Bool) (o : Host.Outcome State Fault Refusal) : Prop :=
  (∃ t, o = .next t) ∨ (ok = false ∧ o = .fault .unbuiltPart)

theorem Answers.next {ok : Bool} (t : State) : Answers ok (.next t) := .inl ⟨t, rfl⟩

/-- The check of the operands comes first. -/
theorem Answers.guard {ok : Bool} {p : Prop} [Decidable p] {o : Host.Outcome State Fault Refusal} (h : p → ok = false)
    (g : Answers ok o) : Answers ok (if p then .fault .unbuiltPart else o) := by
  split
  · next hp => exact .inr ⟨h hp, rfl⟩
  · exact g

theorem Answers.unless {ok : Bool} {p : Prop} [Decidable p] {t : State} (h : ¬ p → ok = false) :
    Answers ok (if p then .next t else .fault .unbuiltPart) := by
  split
  · exact .next t
  · next hp => exact .inr ⟨h hp, rfl⟩

theorem funcInRange_eq (f : Func) : funcInRange f = f.inRange := by cases f <;> rfl

theorem funcBuilt_eq (b : Build) (f : Func) : funcBuilt b f = f.built b := by cases f <;> rfl

theorem isShaper_eq (f : Func) : isShaper f = f.shapes := by cases f <;> rfl

theorem hasReplica_eq (b : Build) (n : Nat) : hasReplica b n = b.hasReplicaAt n := Bool.or_comm _ _

/-- A command that stands for a Chart write completes where its numbers lie in their ranges. -/
theorem answers_chartCmd {s : State} {c : Instr} (h : chartRange c = wellFormed s.build c) :
    Answers (wellFormed s.build c) (chartCmd c s) :=
  .unless (fun n => by simpa [h] using n)

theorem answers_requestCmd (s : State) (c : Instr) (w : Nat) (o : Opc) (q : Req) :
    Answers (s.build.hasWicket w) (requestCmd c w o q s) :=
  .guard (fun h => by simpa using h) (.next _)

theorem answers_response (s : State) (w : Nat) (o : RspOpc) (r : Rsp) :
    Answers (s.build.hasWicket w) (response w o r s) :=
  .guard (fun h => by simpa using h) (.next _)

theorem answers_linkReport (s : State) (c : Instr) (w : Nat) : Answers (s.build.hasWicket w) (linkReport c w s) :=
  .guard (fun h => by simpa using h) (.next _)

theorem exec_answers (c : Instr) (s : State) : Answers (wellFormed s.build c) (exec c s) := by
  cases c with
  | pwrGoodRise => exact .next _
  | pwrGoodFall => exact .next _
  | brownoutRise => exact .next _
  | brownoutFall => exact .next _
  | coldRst => exact .next _
  | flr => exact .next _
  | pwrFailWarnRise => exact .next _
  | pwrFailWarnFall => exact .next _
  | quiesced => exact .next _
  | bringupFill => exact .next _
  | assayBaseline => exact .next _
  | homeReady => exact .next _
  | start => exact answers_chartCmd rfl
  | functionReset => exact answers_chartCmd rfl
  | functionResetDone => exact .next _
  | slotAttention => exact .guard (fun h => by simpa [wellFormed] using h) (.next _)
  | tickStrobe => exact .next _
  | tickLost => exact .next _
  | substituteTick => exact .next _
  | marginAck => exact .next _
  | marginTimeout => exact .next _
  | mrdata => exact .guard (fun h => by grind [wellFormed]) (.next _)
  | mcmp => exact .guard (fun h => by grind [wellFormed]) (.next _)
  | mcred => exact .guard (fun h => by grind [wellFormed]) (.next _)
  | chstatChange => exact .guard (fun h => by simpa [wellFormed] using h) (.next _)
  | memWriteTimeout => exact .guard (fun h => by grind [wellFormed]) (.next _)
  | memReadTimeout => exact .guard (fun h => by grind [wellFormed]) (.next _)
  | linkDown => exact answers_linkReport s _ _
  | linkUp => exact answers_linkReport s _ _
  | agentReset => exact answers_linkReport s _ _
  | linkReset => exact answers_linkReport s _ _
  | rdS => exact answers_requestCmd s _ _ _ _
  | rdX => exact answers_requestCmd s _ _ _ _
  | rdAny => exact answers_requestCmd s _ _ _ _
  | rdNc => exact answers_requestCmd s _ _ _ _
  | own => exact answers_requestCmd s _ _ _ _
  | drop => exact answers_requestCmd s _ _ _ _
  | down => exact answers_requestCmd s _ _ _ _
  | wbI => exact answers_requestCmd s _ _ _ _
  | wbS => exact answers_requestCmd s _ _ _ _
  | wbX => exact answers_requestCmd s _ _ _ _
  | evc => exact answers_requestCmd s _ _ _ _
  | conflict => exact answers_requestCmd s _ _ _ _
  | ncwFull => exact answers_requestCmd s _ _ _ _
  | ncwPtl => exact answers_requestCmd s _ _ _ _
  | claimX => exact answers_requestCmd s _ _ _ _
  | claimS => exact answers_requestCmd s _ _ _ _
  | release => exact answers_requestCmd s _ _ _ _
  | rsv => exact answers_requestCmd s _ _ _ _
  | cwr => exact answers_requestCmd s _ _ _ _
  | settle => exact answers_requestCmd s _ _ _ _
  | rspI => exact answers_response s _ _ _
  | rspS => exact answers_response s _ _ _
  | rspE => exact answers_response s _ _ _
  | requestInjection => exact .guard (fun h => by simpa [wellFormed] using h) (.next _)
  | qFlitAccepted => exact .guard (fun h => by grind [wellFormed]) (.next _)
  | vaultLookupDone => exact .guard (fun h => by simpa [wellFormed] using h) (.next _)
  | folioReadOutDone => exact .guard (fun h => by simpa [wellFormed] using h) (.next _)
  | chainedNotice => exact .guard (fun h => by grind [wellFormed]) (.next _)
  | completionDelivery => exact .guard (fun h => by grind [wellFormed]) (.next _)
  | snoopDelivery => exact .guard (fun h => by grind [wellFormed]) (.next _)
  | foreclosedResponse => exact .guard (fun h => by grind [wellFormed]) (.next _)
  | loanRequest => exact .guard (fun h => by grind [wellFormed]) (.next _)
  | loanGrant => exact .guard (fun h => by grind [wellFormed]) (.next _)
  | loanIdle => exact .guard (fun h => by grind [wellFormed]) (.next _)
  | creditReturn => exact .guard (fun h => by grind [wellFormed]) (.next _)
  | receiptTimeout => exact .guard (fun h => by simpa [wellFormed] using h) (.next _)
  | bucketMapCommit => exact answers_chartCmd rfl
  | bucketMapSwitch => exact .guard (fun h => by simpa [wellFormed, ← hasReplica_eq] using h) (.next _)
  | regionCommit => exact answers_chartCmd rfl
  | regionTableSwitch => exact .guard (fun h => by simpa [wellFormed, ← hasReplica_eq] using h) (.next _)
  | enable => exact answers_chartCmd (funcInRange_eq _)
  | disable => exact answers_chartCmd (funcInRange_eq _)
  | enablingComplete => exact .guard (fun h => by simpa [wellFormed, ← funcBuilt_eq] using h) (.next _)
  | drainComplete => exact .guard (fun h => by simpa [wellFormed, ← funcBuilt_eq] using h) (.next _)
  | cellarEnable => exact answers_chartCmd rfl
  | cellarClearingDone => exact .next _
  | preload => exact answers_chartCmd rfl
  | preloadAndLock => exact answers_chartCmd rfl
  | unlock => exact answers_chartCmd rfl
  | preloadSector => exact .guard (fun h => by simpa [wellFormed] using h) (.next _)
  | cellarVisit => exact .guard (fun h => by simpa [wellFormed] using h) (.next _)
  | scrubRun => exact .guard (fun h => by simpa [wellFormed] using h) (.next _)
  | foreclosureWalk => exact .guard (fun h => by simpa [wellFormed] using h) (.next _)
  | leaveWalk => exact .guard (fun h => by simpa [wellFormed] using h) (.next _)
  | retentiveCleanWalk => exact .guard (fun h => by simpa [wellFormed] using h) (.next _)
  | resolutionWalk => exact .guard (fun h => by simpa [wellFormed] using h) (.next _)
  | rebuildStep => exact .guard (fun h => by simpa [wellFormed] using h) (.next _)
  | copyRun => exact .guard (fun h => by simpa [wellFormed] using h) (.next _)
  | switch => exact .next _
  | salvage => exact .guard (fun h => by simpa [wellFormed] using h) (.next _)
  | retireRow => exact .guard (fun h => by simpa [wellFormed] using h) (.next _)
  | handoverSend => exact .guard (fun h => by simpa [wellFormed] using h) (.next _)
  | copyEndSend => exact .guard (fun h => by simpa [wellFormed] using h) (.next _)
  | handover => exact .guard (fun h => by grind [wellFormed]) (.next _)
  | handoverAck => exact .guard (fun h => by grind [wellFormed]) (.next _)
  | copyEnd => exact .guard (fun h => by simpa [wellFormed] using h) (.next _)
  | tillDown => exact .guard (fun h => by grind [wellFormed]) (.next _)
  | salvageMark => exact .guard (fun h => by grind [wellFormed]) (.next _)
  | tillWatchdog => exact .guard (fun h => by simpa [wellFormed] using h) (.next _)
  | bankWatchdog => exact .guard (fun h => by grind [wellFormed, Build.hasPosition, Build.hasLinkAt, hasLink, Option.isSome_iff_ne_none, Option.isNone_iff_eq_none]) (.next _)
  | exchStall => exact .guard (fun h => by grind [wellFormed, Build.hasPosition, Build.hasLinkAt, hasLink, Option.isSome_iff_ne_none, Option.isNone_iff_eq_none]) (.next _)
  | bankArbitration => exact .guard (fun h => by grind [wellFormed, Build.hasPosition, Build.hasLinkAt, hasLink, Option.isSome_iff_ne_none, Option.isNone_iff_eq_none]) (.next _)
  | linkFlitError => exact .guard (fun h => by grind [wellFormed, Build.hasPosition, Build.hasLinkAt, hasLink, Option.isSome_iff_ne_none, Option.isNone_iff_eq_none]) (.next _)
  | routeCommit => exact answers_chartCmd rfl
  | routeMark => exact .guard (fun h => by grind [wellFormed, Build.hasPosition, Build.hasLinkAt, hasLink, Option.isSome_iff_ne_none, Option.isNone_iff_eq_none]) (.next _)
  | routeMarkAck => exact .guard (fun h => by grind [wellFormed, Build.hasPosition, Build.hasLinkAt, hasLink, Option.isSome_iff_ne_none, Option.isNone_iff_eq_none]) (.next _)
  | retrain => exact answers_chartCmd rfl
  | retrainDone => exact .guard (fun h => by grind [wellFormed, Build.hasPosition, Build.hasLinkAt, hasLink, Option.isSome_iff_ne_none, Option.isNone_iff_eq_none]) (.next _)
  | tallySample => exact .next _
  | tallyWindow => exact .next _
  | journalRecord => exact .next _
  | alarmWindow => exact .next _
  | journalPointer => exact .unless (fun h => decide_eq_false h)
  | jnDataRead => exact .unless (fun h => decide_eq_false h)
  | ffClear => exact answers_chartCmd rfl
  | countersClear => exact answers_chartCmd rfl
  | lostWritesClear => exact answers_chartCmd rfl
  | snoopTimeout => exact .guard (fun h => by simpa [wellFormed] using h) (.next _)
  | grace => exact .next _
  | foreclosureDone => exact .next _
  | quarantineWindow => exact .next _
  | join => exact answers_chartCmd rfl
  | leave => exact answers_chartCmd rfl
  | foreclose => exact answers_chartCmd rfl
  | agentRelease => exact answers_chartCmd rfl
  | agentJoined => exact .next _
  | agentLeft => exact .next _
  | agentCfgWrite => exact answers_chartCmd rfl
  | escrowWrite => exact answers_chartCmd rfl
  | tenantMembersWrite => exact answers_chartCmd rfl
  | slotCtrlWrite => exact answers_chartCmd rfl
  | wicketLinkReset => exact answers_chartCmd rfl
  | shaperConfigWrite => exact answers_chartCmd (congrArg₂ (· && ·) (isShaper_eq _) (funcInRange_eq _))
  | leaseExpiry => exact .guard (fun h => by simpa [wellFormed] using h) (.next _)
  | expiredHold => exact .guard (fun h => by simpa [wellFormed] using h) (.next _)
  | claimReleaseDone => exact .guard (fun h => by simpa [wellFormed] using h) (.next _)
  | rsvTimeout => exact .guard (fun h => by simpa [wellFormed] using h) (.next _)
  | postDrainDelay => exact .next _
  | holdQuiesced => exact .next _
  | saveImageWritten => exact .next _
  | powerTargetRun => exact answers_chartCmd rfl
  | powerTargetLean => exact answers_chartCmd rfl
  | powerTargetHold => exact answers_chartCmd rfl
  | powerTargetOff => exact answers_chartCmd rfl
  | quickCheck => exact .next _
  | fullSweep => exact .next _
  | tjSample => exact .next _
  | ageHours => exact .next _
  | identify => exact .next _
  | open_ => exact .next _
  | prove => exact .next _
  | close => exact .next _
  | read => exact .next _
  | write => exact .next _
  | readRange => exact .next _
  | writeMulti => exact .next _
  | journalRead => exact .next _
  | tallyRead => exact .next _
  | counterRead => exact .next _
  | debugSet => exact .next _
  | tillHalt => exact .next _
  | tillResume => exact .next _
  | rawRead => exact .next _
  | rawWrite => exact .next _
  | lockOpen => exact .next _
  | lockClose => exact .next _
  | inject => exact .next _
  | unquarantine => exact .next _
  | proveWindow => exact .next _
  | sessionIdle => exact .next _
  | haltMaxTicks => exact .guard (fun h => by simpa [wellFormed] using h) (.next _)
  | program => exact answers_chartCmd rfl
  | revoke => exact answers_chartCmd rfl
  | keyBlowDone => exact .next _
  | provision => exact answers_chartCmd rfl
  | deploy => exact answers_chartCmd rfl
  | retire => exact answers_chartCmd rfl
  | lifecycleChanged => exact .next _
  | segTarget => exact answers_chartCmd rfl
  | segDataRead => exact .next _
  | segDataWrite => exact answers_chartCmd rfl
  | chartWrite => exact answers_chartCmd rfl
  | tillReset => exact .guard (fun h => by simpa [wellFormed] using h) (.next _)
  | tapInstruction => exact .next _
  | unknownCommand => exact .next _

/-- Settles O2: the check of the operands of each command is the negation of its well-formedness. -/
theorem wellFormedCommandsComplete : Obligations.WellFormedCommandsComplete := by
  unfold Obligations.WellFormedCommandsComplete
  exact fun c s => exec_answers c s

/-! ## The idle cycle -/

theorem time_pcEvent (s : State) (i code unit n : Nat) : (s.pcEvent i code unit n).time = s.time := by
  obtain ⟨c, h⟩ := pcEvent_eq s i code unit n
  rw [h]

theorem time_pcAdd (s : State) (i j n : Nat) : (s.pcAdd i j n).time = s.time := by
  obtain ⟨c, h⟩ := pcAdd_eq s i j n
  rw [h]

theorem time_levelEvents (s : State) (i : Nat) (now before : List (Nat × Nat)) (n : Nat) :
    (s.levelEvents i now before n).time = s.time := by
  unfold State.levelEvents
  split
  · rfl
  · apply foldl_proj State.time
    intro u p
    dsimp only
    split
    · rfl
    · split
      · exact time_pcAdd u i p.1 n
      · split
        · rfl
        · exact time_pcAdd u i p.1 1

theorem time_slot (s : State) (t cls n : Nat) : (s.slot t cls n).time = s.time := by
  unfold State.slot
  split <;> rfl

theorem time_tillCycles (s : State) (t n : Nat) : (tillCycles s t n).time = s.time := by
  unfold tillCycles
  extract_lets u k back s1 s2 now
  have h2 : s2.time = s.time := (time_pcEvent s1 _ _ _ _).trans (time_slot s _ _ _)
  split
  · rfl
  · split
    · exact h2
    · rw [State.modTill_time, time_levelEvents, h2]

theorem time_sample (s : State) (c measure filter : Nat) (v : Option Nat) : (s.sample c measure filter v).time = s.time := by
  obtain ⟨_, h⟩ := sample_eq s c measure filter v
  rw [h]

theorem time_depthSamples (s : State) (w n : Nat) : (depthSamples s w n).time = s.time := by
  unfold depthSamples
  extract_lets p l
  split
  · rfl
  · apply foldl_proj State.time
    intro u k
    dsimp only
    split
    · rfl
    · exact time_sample u _ _ _ _

/-- CCLK count through `n` cycles. -/
theorem cclk_advance (s : State) (n : Nat) : (advance s n).time.cclk = s.time.cclk + n := by
  unfold advance
  extract_lets s1 now x s2 s3
  have h1 : s1.time = s.time := foldl_proj State.time (fun u t => time_tillCycles u t n) _ s
  have h2 : s2.time = s.time := by
    show (ite _ _ _ : State).time = _
    split
    · exact h1
    · exact (time_levelEvents s1 _ _ _ _).trans h1
  have h3 : s3.time = s.time := by
    show (ite _ _ _ : State).time = _
    split
    · exact (foldl_proj State.time (fun u w => time_depthSamples u w n) _ s2).trans h2
    · exact h2
  clear_value s3
  split
  · next hn => rw [beq_iff_eq.mp hn]; rfl
  · show s3.time.cclk + n = _
    rw [h3]

theorem step_empty {s : State} (h : s.pending = []) : step s = .next (idle s) := by
  unfold step
  rw [h]

/-- Settles O3: in Off and without power the cycle is empty; otherwise CCLK advances by one. -/
theorem idleStepPassesOneCycle : Obligations.IdleStepPassesOneCycle := by
  unfold Obligations.IdleStepPassesOneCycle
  intro s hq
  rw [step_empty hq]
  refine ⟨fun hoff => ?_, fun ⟨hb, hp⟩ => ⟨advance s 1, ?_, cclk_advance s 1, tick_advance s 1, ?_⟩⟩
  · simp only [idle, Bool.or_eq_true, beq_iff_eq, hoff, ↓reduceIte]
  · simp only [idle, Bool.or_eq_true, beq_iff_eq, hb, hp, or_self, ↓reduceIte]
  · exact (quiet_advance (Quiet.refl s)).agents

/-! ## The reset state -/

/-- Settles O5. -/
theorem resetMeetsInvariant : Obligations.ResetMeetsInvariant := by
  unfold Obligations.ResetMeetsInvariant State.Inv
  decide

/-! ## The table of the common control (R61, R62) -/

/-- Settles O16: each row is the arm of its state. -/
theorem commonControlTable : Obligations.CommonControlTable := by
  unfold Obligations.CommonControlTable
  intro x
  refine ⟨fun h => ?_, fun h => ?_, fun h => ?_, fun h => ?_, fun h => ?_, rfl⟩
  · simp [Fn.enable, Fn.disable, h]
  · simp +contextual [Fn.enable, Fn.disable, Fn.enabled, h]
  · simp [Fn.enable, Fn.disable, h]
  · simp +contextual [Fn.enable, Fn.disable, Fn.drained, h]
  · simp [Fn.enable, Fn.disable, h]

end Sys2Proof.Machine
end

section
/-! PROOFS. What only counts and reports: an operation that moves nothing but statistics, regulators, samples and records
(R328, R482, R487, R490). -/

namespace Sys2Proof.Machine

/-- `b` is `a` with statistics counted, samples sent to TY and records sent to JN: nothing else moves. -/
structure Logs (a b : State) : Prop where
  eq : b = { a with
    chart := b.chart
    exch := { a.exch with regs := b.exch.regs, sampleCount := b.exch.sampleCount }
    tally := { a.tally with inbox := b.tally.inbox }
    journal := { a.journal with inbox := b.journal.inbox } }
  entries : SameEntries a b
  inbox : a.journal.inbox <+: b.journal.inbox

theorem Logs.refl (a : State) : Logs a a := ⟨rfl, .refl a, List.prefix_rfl⟩

theorem Logs.trans {a b c : State} (h : Logs a b) (g : Logs b c) : Logs a c where
  eq := by
    calc c = _ := g.eq
      _ = _ := by rw [h.eq]
  entries := h.entries.trans g.entries
  inbox := h.inbox.trans g.inbox

/-! ## The parts that stay -/

theorem Logs.pending {a b : State} (h : Logs a b) : b.pending = a.pending := by rw [h.eq]
theorem Logs.out {a b : State} (h : Logs a b) : b.out = a.out := by rw [h.eq]
theorem Logs.freeCtr {a b : State} (h : Logs a b) : b.freeCtr = a.freeCtr := by rw [h.eq]
theorem Logs.boot {a b : State} (h : Logs a b) : b.boot = a.boot := by rw [h.eq]
theorem Logs.global {a b : State} (h : Logs a b) : b.global = a.global := by rw [h.eq]
theorem Logs.startSeen {a b : State} (h : Logs a b) : b.startSeen = a.startSeen := by rw [h.eq]
theorem Logs.resetCause {a b : State} (h : Logs a b) : b.resetCause = a.resetCause := by rw [h.eq]
theorem Logs.resuming {a b : State} (h : Logs a b) : b.resuming = a.resuming := by rw [h.eq]
theorem Logs.inReset {a b : State} (h : Logs a b) : b.inReset = a.inReset := by rw [h.eq]
theorem Logs.fatal {a b : State} (h : Logs a b) : b.fatal = a.fatal := by rw [h.eq]
theorem Logs.pins {a b : State} (h : Logs a b) : b.pins = a.pins := by rw [h.eq]
theorem Logs.fuses {a b : State} (h : Logs a b) : b.fuses = a.fuses := by rw [h.eq]
theorem Logs.time {a b : State} (h : Logs a b) : b.time = a.time := by rw [h.eq]
theorem Logs.seg {a b : State} (h : Logs a b) : b.seg = a.seg := by rw [h.eq]
theorem Logs.agents {a b : State} (h : Logs a b) : b.agents = a.agents := by rw [h.eq]
theorem Logs.maps {a b : State} (h : Logs a b) : b.maps = a.maps := by rw [h.eq]
theorem Logs.net {a b : State} (h : Logs a b) : b.net = a.net := by rw [h.eq]
theorem Logs.wickets {a b : State} (h : Logs a b) : b.wickets = a.wickets := by rw [h.eq]
theorem Logs.ws {a b : State} (h : Logs a b) : b.ws = a.ws := by rw [h.eq]
theorem Logs.shapes {a b : State} (h : Logs a b) : b.shapes = a.shapes := by rw [h.eq]
theorem Logs.tills {a b : State} (h : Logs a b) : b.tills = a.tills := by rw [h.eq]
theorem Logs.cond {a b : State} (h : Logs a b) : b.cond = a.cond := by rw [h.eq]
theorem Logs.portReads {a b : State} (h : Logs a b) : b.portReads = a.portReads := by rw [h.eq]
theorem Logs.chstat {a b : State} (h : Logs a b) : b.chstat = a.chstat := by rw [h.eq]
theorem Logs.cellarState {a b : State} (h : Logs a b) : b.cellarState = a.cellarState := by rw [h.eq]
theorem Logs.cellarGen {a b : State} (h : Logs a b) : b.cellarGen = a.cellarGen := by rw [h.eq]
theorem Logs.cellarFloor {a b : State} (h : Logs a b) : b.cellarFloor = a.cellarFloor := by rw [h.eq]
theorem Logs.cellarLocked {a b : State} (h : Logs a b) : b.cellarLocked = a.cellarLocked := by rw [h.eq]
theorem Logs.saveLocked {a b : State} (h : Logs a b) : b.saveLocked = a.saveLocked := by rw [h.eq]
theorem Logs.interleaveLocked {a b : State} (h : Logs a b) : b.interleaveLocked = a.interleaveLocked := by rw [h.eq]
theorem Logs.ways {a b : State} (h : Logs a b) : b.ways = a.ways := by rw [h.eq]
theorem Logs.lost {a b : State} (h : Logs a b) : b.lost = a.lost := by rw [h.eq]
theorem Logs.au {a b : State} (h : Logs a b) : b.au = a.au := by rw [h.eq]
theorem Logs.transfers {a b : State} (h : Logs a b) : b.transfers = a.transfers := by rw [h.eq]
theorem Logs.assay {a b : State} (h : Logs a b) : b.assay = a.assay := by rw [h.eq]
theorem Logs.power {a b : State} (h : Logs a b) : b.power = a.power := by rw [h.eq]
theorem Logs.sec {a b : State} (h : Logs a b) : b.sec = a.sec := by rw [h.eq]
theorem Logs.image {a b : State} (h : Logs a b) : b.image = a.image := by rw [h.eq]
theorem Logs.coldDraw {a b : State} (h : Logs a b) : b.coldDraw = a.coldDraw := by rw [h.eq]
theorem Logs.tap {a b : State} (h : Logs a b) : b.tap = a.tap := by rw [h.eq]

theorem Logs.build {a b : State} (h : Logs a b) : b.build = a.build := by rw [h.eq]; rfl
theorem Logs.till {a b : State} (h : Logs a b) (t : Nat) : b.till t = a.till t := by rw [h.eq]; rfl
theorem Logs.wicket {a b : State} (h : Logs a b) (w : Nat) : b.wicket w = a.wicket w := by rw [h.eq]; rfl
theorem Logs.agent {a b : State} (h : Logs a b) (n : Nat) : b.agent n = a.agent n := by rw [h.eq]; rfl
theorem Logs.stream {a b : State} (h : Logs a b) (k : Nat) : b.stream k = a.stream k := by rw [h.eq]; rfl
theorem Logs.session {a b : State} (h : Logs a b) (k : Nat) : b.session k = a.session k := by rw [h.eq]; rfl
theorem Logs.chan {a b : State} (h : Logs a b) (k : Nat) : b.chan k = a.chan k := by rw [h.eq]; rfl
theorem Logs.link {a b : State} (h : Logs a b) (l : Nat) : b.link l = a.link l := by rw [h.eq]; rfl
theorem Logs.folio? {a b : State} (h : Logs a b) (t f : Nat) : b.folio? t f = a.folio? t f := by rw [h.eq]; rfl
theorem Logs.fn {a b : State} (h : Logs a b) (f : Func) : b.fn f = a.fn f := by rw [h.eq]; rfl

theorem Logs.chart_wf {a b : State} (h : Logs a b) (w : KV.wf a.chart = true) : KV.wf b.chart = true := (h.entries.2 w).1

/-- An entry of an index that holds no statistics. -/
theorem apart {i j : Nat} (h : j < 256 ∧ (i < 0x5300 ∨ 0x5340 ≤ i) ∧ (i < 0xB600 ∨ 0xB800 ≤ i)) : Apart (ekey i j) := by
  simp only [Apart, ekey]
  omega

/-- A plain entry outside the statistics. -/
theorem Logs.rawN {a b : State} (h : Logs a b) (w : KV.wf a.chart = true) {i j : Nat} (hk : Apart (ekey i j)) :
    b.rawN i j = a.rawN i j := h.entries.rawN w hk

theorem Logs.raw {a b : State} (h : Logs a b) (w : KV.wf a.chart = true) {i j : Nat} (hk : Apart (ekey i j)) :
    b.raw i j = a.raw i j := h.entries.raw w hk

theorem Logs.inv {a b : State} (h : Logs a b) (hs : a.Inv) : b.Inv := by
  obtain ⟨h1, h2, h3, h4, h5, h6, h7, h8, h9, h10, h11, h12, h13, h14⟩ := hs
  have hw := h.chart_wf h6
  rw [h.eq]
  exact ⟨h1, h2, h3, h4, h5, hw, h7, h8, h9, h10, h11, h12, h13, h14⟩

/-! ## The operations that only count and report -/

theorem Logs.of_chart {a : State} {c : KV Word} (h : SameEntries a { a with chart := c }) : Logs a { a with chart := c } :=
  ⟨rfl, h, List.prefix_rfl⟩

theorem logs_pcEvent (s : State) {i : Nat} (code unit n : Nat) (h : 0xB600 ≤ i ∧ i < 0xB800) :
    Logs s (s.pcEvent i code unit n) := by
  have hsame := same_pcEvent s code unit n h
  obtain ⟨c, hc⟩ := pcEvent_eq s i code unit n
  rw [hc] at hsame ⊢
  exact .of_chart hsame

theorem logs_gev (s : State) (code unit : Nat) : Logs s (s.gev code unit) := logs_pcEvent s code unit 1 (by omega)

theorem logs_tev (s : State) {t : Nat} (ht : t < 32) (code unit : Nat) : Logs s (s.tev t code unit) :=
  logs_pcEvent s code unit 1 (by omega)

/-- A statistic of an Exchange node. -/
theorem logs_bumpBy_node (s : State) {n c : Nat} (hn : n < 64) (hc : c < 256) (k : Nat) :
    Logs s (s.bumpBy ⟨0x5300 + n, c, 64⟩ k) :=
  .of_chart (same_setRaw s _ _ _ (by simp only [Apart, ekey]; omega))

theorem logs_regulate (s : State) {n : Nat} (hn : n < 64) (c len : Nat) : Logs s (s.regulate n c len) := by
  unfold State.regulate
  extract_lets v rate r full now next held x s1
  split
  · exact .refl s
  · have h1 : Logs s s1 := ⟨rfl, .of_eq rfl rfl, List.prefix_rfl⟩
    split
    · exact h1
    · exact (h1.trans (logs_bumpBy_node s1 hn (by omega) held)).trans (logs_pcEvent _ _ _ _ (by omega))

theorem logs_flitPlain (s : State) {n c : Nat} (hn : n < 64) (hc : c < 256) (len : Nat) : Logs s (s.flitPlain n c len) :=
  ((logs_bumpBy_node s hn hc len).trans (logs_pcEvent _ _ _ _ (by omega))).trans (logs_regulate _ hn c len)

theorem logs_timed (s : State) (n c : Nat) : Logs s (s.timed n c).1 := by
  unfold State.timed
  extract_lets p k
  split
  · exact .refl s
  · exact ⟨rfl, .of_eq rfl rfl, List.prefix_rfl⟩

theorem logs_sample (s : State) (c measure filter : Nat) (v : Option Nat) : Logs s (s.sample c measure filter v) := by
  unfold State.sample
  split
  · exact ⟨rfl, .of_eq rfl rfl, List.prefix_rfl⟩
  · exact .refl s

theorem logs_flit (s : State) {n c d : Nat} (hn : n < 64) (hc : c < 256) (hd : d < 64) (len : Nat) :
    Logs s (s.flit n c len d) := by
  have h1 : Logs s ((s.flitPlain n c len).timed n c).1 := (logs_flitPlain s hn hc len).trans (logs_timed _ n c)
  unfold State.flit
  dsimp only
  split
  · exact ((h1.trans (logs_bumpBy_node _ hn (by omega) 1)).trans (logs_flitPlain _ hd (by omega) 1)).trans
      (logs_sample _ _ _ _ _)
  · exact h1

theorem logs_packet (s : State) (a b : NodeKind) {c : Nat} (hc : c < 256) (len : Nat) : Logs s (s.packet a c len b) :=
  logs_flit s (nodeId_bound _ _) hc (nodeId_bound _ _) len

/-- A record on its way is a packet and its entry in the records under way. -/
theorem logs_emitAs (s : State) (code : Nat) {src : Nat} (h : src < 64) (aid : Option Aid) (args : List Nat) :
    Logs s (s.emitAs code src aid args) := by
  have h1 : Logs s (s.flit src 4 1 (s.build.nodeId .jn)) := logs_flit s h (by omega) (nodeId_bound _ _) 1
  exact h1.trans ⟨rfl, .of_eq rfl rfl, List.prefix_append _ _⟩

theorem logs_note (s : State) (c : J) (k : NodeKind) (args : List Nat) (aid : Option Aid) : Logs s (s.note c k args aid) :=
  logs_emitAs s c.code (nodeId_bound _ _) aid args

/-! ## Records under way -/

/-- An operation after which a record is still under way. -/
theorem Reports.of_prefix {s a b : State} {code : Nat} (h : Reports s a code) (g : a.journal.inbox <+: b.journal.inbox) :
    Reports s b code := by
  obtain ⟨l, hl, r, hr, hcode⟩ := h
  obtain ⟨l', hl'⟩ := g
  exact ⟨l ++ l', by rw [← hl', hl, List.append_assoc], r, List.mem_append_left _ hr, hcode⟩

/-- A record made after operations that keep the records under way and the Tick. -/
theorem reports_emitAs {s u : State} (h : s.journal.inbox <+: u.journal.inbox) (ht : u.time.tick = s.time.tick)
    (code src : Nat) (aid : Option Aid) (args : List Nat) : Reports s (u.emitAs code src aid args) code := by
  obtain ⟨l, hl⟩ := h
  obtain ⟨_, _, _, r, hn, hcode, htick, -⟩ := emitAs_eq u code src aid args
  refine ⟨l ++ [r], ?_, r, by simp, hcode, htick.trans ht⟩
  rw [hn]
  show u.journal.inbox ++ [r] = _
  rw [← hl, List.append_assoc]

theorem reports_note {s u : State} (h : s.journal.inbox <+: u.journal.inbox) (ht : u.time.tick = s.time.tick)
    (c : J) (k : NodeKind) (args : List Nat) (aid : Option Aid) : Reports s (u.note c k args aid) c.code :=
  reports_emitAs h ht c.code _ aid args

end Sys2Proof.Machine
end

section
/-! PROOFS. The supplies, COLD_RST_N and the power-fail warning (R528, R529). -/

namespace Sys2Proof.Machine

theorem freshTill_empty (f : Fuses) (t : Nat) :
    (freshTill f t).folios = [] ∧ (freshTill f t).claims = [] ∧ (freshTill f t).vault = [] := ⟨rfl, rfl, rfl⟩

/-- A cold reset leaves nothing of the service state (R306). -/
theorem erased_coldReset (s : State) (b : Boot) (cause : Nat) (resume : Bool) : Erased s (coldReset s b cause resume) := by
  refine ⟨rfl, rfl, rfl, rfl, rfl, rfl, rfl, ?_, ?_, rfl, rfl, rfl⟩
  · intro u hu
    obtain ⟨t, -, rfl⟩ := List.mem_map.mp hu
    exact freshTill_empty s.fuses t
  · intro x hx
    rw [List.eq_of_mem_replicate (show x ∈ List.replicate 4 ({} : Session) from hx)]
    rfl

/-- Only the pins that the command moves differ before the reset. -/
theorem Erased.of_pins {s : State} (p : Pins) {t : State} (h : Erased { s with pins := p } t) : Erased s t := h

theorem bringUp_good {s : State} (hg : s.pins.pwrGood = true) (hb : s.pins.brownout = false) (cause : Nat) (resume : Bool) :
    bringUp s cause resume = coldReset s .filling cause resume := by simp [bringUp, hg, hb]

theorem bringUp_brownout {s : State} (hb : s.pins.brownout = true) (cause : Nat) (resume : Bool) :
    bringUp s cause resume = powerDown s := by simp [bringUp, hb]

theorem bringUp_low {s : State} (hg : s.pins.pwrGood = false) (cause : Nat) (resume : Bool) :
    bringUp s cause resume = powerDown s := by simp [bringUp, hg]

theorem exec_pwrGoodRise {s : State} (h : s.pins.pwrGood = false) (resume : Bool) :
    exec (.pwrGoodRise resume) s = .next
      (if s.pins.brownout then powerDown { s with pins := { s.pins with pwrGood := true } }
       else coldReset { s with pins := { s.pins with pwrGood := true } } .filling 0 resume) := by
  show Host.Outcome.next (if s.pins.pwrGood then s else bringUp _ 0 resume) = _
  rw [if_neg (by simp [h])]
  cases hb : s.pins.brownout with
  | true => exact congrArg Host.Outcome.next (bringUp_brownout (s := { s with pins := { s.pins with pwrGood := true } }) hb 0 resume)
  | false => exact congrArg Host.Outcome.next (bringUp_good (s := { s with pins := { s.pins with pwrGood := true } }) rfl hb 0 resume)

theorem exec_pwrGoodFall {s : State} (h : s.pins.pwrGood = true) :
    exec .pwrGoodFall s = .next (powerDown { s with pins := { s.pins with pwrGood := false } }) := by
  show Host.Outcome.next (if s.pins.pwrGood then _ else s) = _
  rw [h]; rfl

theorem exec_brownoutRise {s : State} (h : s.pins.brownout = false) :
    exec .brownoutRise s = .next (powerDown { s with pins := { s.pins with brownout := true } }) := by
  show Host.Outcome.next (if s.pins.brownout then s else _) = _
  rw [h]; rfl

theorem exec_brownoutFall {s : State} (h : s.pins.brownout = true) :
    exec .brownoutFall s = .next
      (if s.pins.pwrGood then coldReset { s with pins := { s.pins with brownout := false } } .filling 0 false
       else powerDown { s with pins := { s.pins with brownout := false } }) := by
  show Host.Outcome.next (if s.pins.brownout then bringUp _ 0 false else s) = _
  rw [if_pos h]
  cases hg : s.pins.pwrGood with
  | true => exact congrArg Host.Outcome.next (bringUp_good (s := { s with pins := { s.pins with brownout := false } }) hg rfl 0 false)
  | false => exact congrArg Host.Outcome.next (bringUp_low (s := { s with pins := { s.pins with brownout := false } }) hg 0 false)

/-- Nothing waited, so nothing is acted on. -/
theorem replayAll_none {s : State} (h : s.power.deferred = []) : replayAll s = s := by
  simp [replayAll, h]

/-- The warning outside Off counts (R529). -/
theorem exec_pwrFailWarnRise {s : State} (hw : s.pins.warn = false) (hb : s.boot ≠ .off) (hp : s.power.state ≠ 3) :
    exec .pwrFailWarnRise s = .next
      (({ s with pins := { s.pins with warn := true, quiesceState := 1 } } : State).bump ⟨0x8080, 0, 32⟩) := by
  have hoff : (s.boot == .off || s.power.state == 3) = false := by simp [hb, hp]
  show Host.Outcome.next (if s.pins.warn then s else
    if s.boot == .off || s.power.state == 3 then _ else _) = _
  rw [hw, hoff]; rfl

/-- Settles O9: every supply event is the cold reset of the Home with the pins moved, and the warning moves the pins and its
counter. -/
theorem powerEventsAndWarning : Obligations.PowerEventsAndWarning := by
  unfold Obligations.PowerEventsAndWarning
  refine ⟨fun s resume => ⟨?_, ?_, ?_, ?_, ?_, ?_⟩, ?_, fun s => ⟨?_, ?_, ?_⟩⟩
  · intro _ hb
    refine .of (exec_pwrGoodRise ‹_› resume) ?_
    rw [hb]
    exact ⟨rfl, rfl, rfl, rfl, rfl, (erased_coldReset _ _ _ _).of_pins⟩
  · intro _ hb
    refine .of (exec_pwrGoodRise ‹_› resume) ?_
    rw [hb]
    exact ⟨rfl, rfl, (erased_coldReset _ _ _ _).of_pins⟩
  · intro h
    exact .of (exec_pwrGoodFall h) ⟨rfl, rfl, rfl, (erased_coldReset _ _ _ _).of_pins⟩
  · intro h
    exact .of (exec_brownoutRise h) ⟨rfl, rfl, rfl, (erased_coldReset _ _ _ _).of_pins⟩
  · intro h hg
    refine .of (exec_brownoutFall h) ?_
    rw [hg]
    exact ⟨rfl, rfl, rfl, rfl, (erased_coldReset _ _ _ _).of_pins⟩
  · intro h hg
    refine .of (exec_brownoutFall h) ?_
    rw [hg]
    exact ⟨rfl, rfl, (erased_coldReset _ _ _ _).of_pins⟩
  · intro s hg hb
    refine .of (show exec .coldRst s = .next (bringUp s 1 false) from rfl) ?_
    rw [bringUp_good hg hb]
    exact ⟨rfl, rfl, rfl, rfl, hg, hb, erased_coldReset s _ _ _⟩
  · intro hinv hw hb hp
    obtain ⟨-, -, -, -, -, hchart, -⟩ := hinv
    exact .of (exec_pwrFailWarnRise hw hb hp) ⟨rfl, rfl, rawN_bump { s with pins := _ } _ _ _ hchart (by decide), rfl, rfl, rfl⟩
  · intro hw hpost hf
    have hall : (s.pins.warn && s.ws.post.isEmpty && !s.anyFolio) = true := by simp [hw, hpost, hf]
    exact .of (show exec .quiesced s = .next (if _ then setQuiesce s 2 else s) from rfl) (if_pos hall)
  · intro hdef
    refine .of (show exec .pwrFailWarnFall s = _ from rfl) ?_
    exact replayAll_none hdef

end Sys2Proof.Machine
end

section
/-! PROOFS. The conditions of Off and the requests that end Hold entry and Off entry (R426, R429, R430). -/

namespace Sys2Proof.Machine

/-- A host in service whose lines no image keeps (R429). -/
def State.hostsIn (s : State) : Bool :=
  s.agents.any (fun p => p.2.kind == 0 && (p.2.state == .joining || p.2.state == .active || p.2.state == .leaving))

/-- A Claim in use or an agent Foreclosing (R429). -/
def State.claimOrForeclosing (s : State) : Bool :=
  s.tills.any (fun u => !u.claims.isEmpty) || s.agents.any (fun p => p.2.state == .foreclosing)

/-- The answer of R429, by its conditions. -/
theorem offResult_eq (s : State) : ∃ kept : Bool, s.offResult =
    if s.hostsIn && !kept then 2 else if s.claimOrForeclosing then 2 else if s.rawN 0x8051 1 != 1 then 3
      else if s.holdBusy then 1 else 0 := ⟨_, rfl⟩

theorem claimOrForeclosing_eq_false {s : State} :
    s.claimOrForeclosing = false ↔ (∀ u ∈ s.tills, u.claims = []) ∧ (∀ p ∈ s.agents, p.2.state ≠ .foreclosing) := by
  simp [State.claimOrForeclosing]

theorem offResult_of_claimOrForeclosing {s : State} (h : s.claimOrForeclosing = true) : s.offResult = 2 := by
  obtain ⟨kept, hk⟩ := offResult_eq s
  rw [hk, h, if_pos rfl, ite_self]

theorem accepted_of_offResult_zero {s : State} (h : s.offResult = 0) :
    s.rawN 0x8051 1 = 1 ∧ s.claimOrForeclosing = false := by
  obtain ⟨kept, hk⟩ := offResult_eq s
  have hc : s.claimOrForeclosing = false := by
    by_contra hne
    rw [offResult_of_claimOrForeclosing (by simpa using hne)] at h
    omega
  refine ⟨?_, hc⟩
  by_contra hsave
  have hne : (s.rawN 0x8051 1 != 1) = true := by simpa using hsave
  rw [h, hc, if_neg Bool.false_ne_true, if_pos hne] at hk
  split at hk <;> omega

theorem offResult_of_no_save {s : State} (hh : s.hostsIn = false) (hc : s.claimOrForeclosing = false)
    (hs : s.rawN 0x8051 1 ≠ 1) : s.offResult = 3 := by
  obtain ⟨kept, hk⟩ := offResult_eq s
  have hne : (s.rawN 0x8051 1 != 1) = true := by simpa using hs
  rw [hk, hh, hc, Bool.false_and, if_neg Bool.false_ne_true, if_neg Bool.false_ne_true, if_pos hne]

theorem hostsIn_eq_false {s : State} (h : ∀ p ∈ s.agents, p.2.state = .absent ∨ p.2.state = .quarantined) :
    s.hostsIn = false := by
  refine List.any_eq_false.mpr fun p hp => ?_
  rcases h p hp with hst | hst <;> simp [hst]

/-- Hold entry that has not gone on does while a condition of R426 fails. -/
theorem exec_holdQuiesced (s : State) : exec .holdQuiesced s = .next
    (if (s.power.state == 6 || (s.power.state == 7 && !s.power.saving && !s.power.offReady)) && s.assay.req.isNone && s.holdQuiet
      then askMargin s 1 (s.rawN 0x8050 8) 0 1 else s) := rfl

theorem exec_saveImageWritten {s : State} (h7 : s.power.state = 7) (hsv : s.power.saving = true) :
    exec .saveImageWritten s = .next (askMargin (State.modPower { s.send .saveImage with image := some s.toImage }
      (fun p => { p with saving := false, offReady := true })) 2 0 0 2) := by
  show Host.Outcome.next (if s.power.state == 7 && s.power.saving then _ else s) = _
  rw [if_pos (by simp [h7, hsv])]

/-- Only SNP, CMP and DATA_OUT stop with FATAL (R404). -/
theorem send_of_not_stopped (s : State) {o : Out} (h : o.stopped = false) : s.send o = { s with out := s.out ++ [o] } := by
  simp [State.send, h]

/-- Settles O22: the conditions of R429 in their order; each request is the margin request of its step. -/
theorem holdAndOffEntry : Obligations.HoldAndOffEntry := by
  unfold Obligations.HoldAndOffEntry
  refine ⟨fun s => ⟨?_, ?_, ?_, ?_⟩, fun s => ⟨?_, ?_, ?_⟩⟩
  · intro h
    obtain ⟨hsave, hc⟩ := accepted_of_offResult_zero h
    exact ⟨hsave, claimOrForeclosing_eq_false.mp hc⟩
  · rintro ⟨u, hu, hne⟩
    refine offResult_of_claimOrForeclosing ?_
    by_contra hc
    exact hne ((claimOrForeclosing_eq_false.mp (by simpa using hc)).1 u hu)
  · rintro ⟨p, hp, hst⟩
    refine offResult_of_claimOrForeclosing ?_
    by_contra hc
    exact (claimOrForeclosing_eq_false.mp (by simpa using hc)).2 p hp hst
  · intro hag hclaims hsave
    refine offResult_of_no_save (hostsIn_eq_false hag) (claimOrForeclosing_eq_false.mpr ⟨hclaims, fun p hp hst => ?_⟩) hsave
    rcases hag p hp with h | h <;> rw [h] at hst <;> cases hst
  · intro h6 hreq hq
    refine .of (exec_holdQuiesced s) ?_
    rw [if_pos (by simp [h6, hreq, hq])]
    exact ⟨rfl, rfl, rfl⟩
  · intro h6 hq
    rw [exec_holdQuiesced, if_neg (by simp [hq])]
  · intro h7 hsv
    refine .of (exec_saveImageWritten h7 hsv) ?_
    rw [send_of_not_stopped s rfl]
    exact ⟨rfl, rfl, rfl, List.append_assoc _ _ _⟩

end Sys2Proof.Machine
end

section
/-! PROOFS. What the work of a Till's storage leaves alone: its Folios, its Vault, its operations, its messages and its records
move, and nothing of the Home besides. -/

namespace Sys2Proof.Machine

/-- `b` is `a` with work done at Tills: the Tills, what they sent, statistics and records moved, and nothing else did. -/
structure Works (a b : State) : Prop where
  eq : b = { a with
    out := b.out
    chart := b.chart
    net := { a.net with p := b.net.p, s := b.net.s }
    tills := b.tills
    exch := { a.exch with regs := b.exch.regs, sampleCount := b.exch.sampleCount }
    tally := { a.tally with inbox := b.tally.inbox }
    journal := { a.journal with inbox := b.journal.inbox, traceCount := b.journal.traceCount } }

theorem Works.refl (a : State) : Works a a := ⟨rfl⟩

theorem Works.trans {a b c : State} (h : Works a b) (g : Works b c) : Works a c where
  eq := by
    calc c = _ := g.eq
      _ = _ := by rw [h.eq]

/-! ## The parts that stay -/

theorem Works.power {a b : State} (h : Works a b) : b.power = a.power := by rw [h.eq]
theorem Works.assay {a b : State} (h : Works a b) : b.assay = a.assay := by rw [h.eq]
theorem Works.ways {a b : State} (h : Works a b) : b.ways = a.ways := by rw [h.eq]
theorem Works.sec {a b : State} (h : Works a b) : b.sec = a.sec := by rw [h.eq]
theorem Works.time {a b : State} (h : Works a b) : b.time = a.time := by rw [h.eq]
theorem Works.fatal {a b : State} (h : Works a b) : b.fatal = a.fatal := by rw [h.eq]
theorem Works.global {a b : State} (h : Works a b) : b.global = a.global := by rw [h.eq]
theorem Works.fuses {a b : State} (h : Works a b) : b.fuses = a.fuses := by rw [h.eq]
theorem Works.agents {a b : State} (h : Works a b) : b.agents = a.agents := by rw [h.eq]
theorem Works.maps {a b : State} (h : Works a b) : b.maps = a.maps := by rw [h.eq]
theorem Works.au {a b : State} (h : Works a b) : b.au = a.au := by rw [h.eq]
theorem Works.wickets {a b : State} (h : Works a b) : b.wickets = a.wickets := by rw [h.eq]
theorem Works.transfers {a b : State} (h : Works a b) : b.transfers = a.transfers := by rw [h.eq]
theorem Works.lost {a b : State} (h : Works a b) : b.lost = a.lost := by rw [h.eq]
theorem Works.cellarState {a b : State} (h : Works a b) : b.cellarState = a.cellarState := by rw [h.eq]
theorem Works.coldDraw {a b : State} (h : Works a b) : b.coldDraw = a.coldDraw := by rw [h.eq]
theorem Works.build {a b : State} (h : Works a b) : b.build = a.build := by rw [h.eq]; rfl
theorem Works.agent {a b : State} (h : Works a b) (n : Nat) : b.agent n = a.agent n := by rw [h.eq]; rfl

/-! ## Steps that are work -/

theorem Logs.works {a b : State} (h : Logs a b) : Works a b where
  eq := by rw [h.eq]

theorem Works.ite {a u v : State} {c : Prop} [Decidable c] (h : Works a u) (g : Works a v) : Works a (if c then u else v) := by
  split <;> assumption

theorem works_foldl {α : Type} {f : State → α → State} (hf : ∀ s x, Works s (f s x)) (l : List α) :
    ∀ s, Works s (l.foldl f s) := by
  induction l with
  | nil => exact .refl
  | cons x l ih => exact fun s => (hf s x).trans (ih (f s x))

/-- A fold that carries the state beside a list. -/
theorem works_foldl_fst {α β : Type} {f : State × β → α → State × β} (hf : ∀ x y, Works x.1 (f x y).1) (l : List α) :
    ∀ x, Works x.1 (l.foldl f x).1 := by
  induction l with
  | nil => exact fun x => .refl x.1
  | cons y l ih => exact fun x => (hf x y).trans (ih (f x y))

theorem works_modTill (s : State) (t : Nat) (f : Till → Till) : Works s (s.modTill t f) := ⟨rfl⟩
theorem works_modFolio (s : State) (t f : Nat) (g : Folio → Folio) : Works s (s.modFolio t f g) := works_modTill s t _
theorem works_modOp (s : State) (t k : Nat) (g : SecOp → SecOp) : Works s (s.modOp t k g) := works_modTill s t _
theorem works_setFolio (s : State) (t f : Nat) (x : Folio) : Works s (s.setFolio t f x) := works_modTill s t _
theorem works_bumpBy (s : State) (c : Ctr) (n : Nat) : Works s (s.bumpBy c n) := ⟨rfl⟩
theorem works_bump (s : State) (c : Ctr) : Works s (s.bump c) := works_bumpBy s c 1

theorem works_pcEvent (s : State) (i code unit n : Nat) : Works s (s.pcEvent i code unit n) := by
  obtain ⟨c, hc⟩ := pcEvent_eq s i code unit n
  rw [hc]
  exact ⟨rfl⟩

theorem works_gev (s : State) (code unit : Nat) : Works s (s.gev code unit) := works_pcEvent s _ _ _ _
theorem works_tev (s : State) (t code unit : Nat) : Works s (s.tev t code unit) := works_pcEvent s _ _ _ _

theorem works_send (s : State) (o : Out) : Works s (s.send o) := by
  unfold State.send
  split
  · exact .refl s
  · exact ⟨rfl⟩

theorem works_packet (s : State) (a b : NodeKind) {c : Nat} (hc : c < 256) (len : Nat) : Works s (s.packet a c len b) :=
  (logs_packet s a b hc len).works

theorem works_sample (s : State) (c measure filter : Nat) (v : Option Nat) : Works s (s.sample c measure filter v) :=
  (logs_sample s c measure filter v).works

theorem works_note (s : State) (c : J) (k : NodeKind) (args : List Nat) (aid : Option Aid) :
    Works s (s.note c k args aid) := (logs_note s c k args aid).works

theorem works_sendP (s : State) (t w : Nat) (m : PMsg) : Works s (s.sendP t w m) :=
  (works_packet s (.till t) (.wicket w) (by omega) 1).trans ⟨rfl⟩

/-! ## Accesses to memory (R520) -/

theorem works_issueAcc (s : State) (t : Nat) (a : MemAcc) : Works s (issueAcc s t a) := by
  unfold issueAcc
  extract_lets s0 s0' s1 s2
  have h0 : Works s s0' :=
    (works_packet s _ _ (by omega) 1).trans (.ite (works_packet _ _ _ (by omega) 1) (.refl _))
  have h1 : Works s0' s1 := works_send s0' _
  have h2 : Works s1 s2 := by
    refine .ite (.trans (.ite (works_gev _ _ _) (.refl _)) (works_modFolio _ _ _ _)) (.ite (works_modFolio _ _ _ _) (.refl _))
  exact ((h0.trans h1).trans h2).trans (works_modTill s2 t _)

theorem works_drainMem (s : State) (t : Nat) : Works s (drainMem s t) := by
  unfold drainMem
  extract_lets go r
  have hr : Works s r.1 := by
    refine works_foldl_fst (fun x a => ?_) _ (s, [], [])
    dsimp only [go]
    split
    · exact .refl _
    · exact works_issueAcc _ _ _
  exact hr.trans (works_modTill r.1 t _)

theorem works_pushAcc (s : State) (t : Nat) (a : MemAcc) : Works s (pushAcc s t a) :=
  (works_modTill s t _).trans (works_drainMem _ t)

theorem works_readGroup (s : State) (t f p g : Nat) : Works s (readGroup s t f p g) :=
  (works_modFolio s t f _).trans (works_pushAcc _ t _)

theorem works_writeMemo (s : State) (t f sec mask : Nat) (off value : Bool) : Works s (writeMemo s t f sec mask off value) :=
  works_pushAcc s t _

/-! ## Group operations (R177) -/

theorem works_runGroups (s : State) (t : Nat) : Works s (runGroups s t) := by
  unfold runGroups
  extract_lets go r
  have hr : Works s r.1 := by
    refine works_foldl_fst (fun x g => ?_) _ (s, [])
    dsimp only [go]
    split
    · exact .refl _
    · split
      · exact .refl _
      · exact works_readGroup _ _ _ _ _
  exact hr.trans (works_modTill r.1 t _)

theorem works_startGroup (s : State) (t sec : Nat) (k : GroupKind) (f : Nat) : Works s (startGroup s t sec k f) :=
  (works_modTill s t _).trans (works_runGroups _ t)

/-! ## Chains and Folios (R114 to R120) -/

theorem works_closeChain (s : State) (t : Nat) (l : Line) : Works s (closeChain s t l) := works_modTill s t _

theorem works_handOn (s : State) (t f : Nat) : Works s (handOn s t f) := by
  unfold handOn
  split
  · exact .refl s
  · split
    · exact .refl s
    · extract_lets s1
      have h1 : Works s s1 := works_modFolio s t f _
      split
      · exact h1.trans (works_closeChain s1 t _)
      · exact (h1.trans (works_modFolio s1 t _ _)).trans (works_modTill _ t _)

theorem works_openChain (s : State) (t : Nat) (l : Line) (f : Nat) : Works s (openChain s t l f) := by
  unfold openChain
  extract_lets u pl s1
  have h1 : Works s s1 := works_modTill s t _
  exact .ite ((h1.trans (works_note s1 _ _ _ _)).trans (works_bump _ _)) h1

theorem works_joinChain (s : State) (t f : Nat) (l : Line) : Works s (joinChain s t f l) := by
  unfold joinChain
  split
  · exact (works_openChain s t l f).trans (works_modFolio _ t f _)
  · exact ((works_modFolio s t _ _).trans (works_modFolio _ t f _)).trans (works_modTill _ t _)

theorem works_takeInternal (s : State) (t : Nat) (l : Line) (job : Job) : Works s (takeInternal s t l job).1 :=
  works_setFolio s t _ _

theorem works_traceFolio (s : State) (t : Nat) (x : Folio) : Works s (traceFolio s t x) := by
  unfold traceFolio
  refine .ite (.refl s) ?_
  extract_lets n j s1
  have h1 : Works s s1 := ⟨rfl⟩
  exact .ite h1 (h1.trans (works_note s1 _ _ _ _))

theorem works_retire (s : State) (t f : Nat) : Works s (retire s t f) := by
  unfold retire
  split
  · exact .refl s
  · extract_lets n s1 s2 s3 s4 o
    have h1 : Works s s1 := works_modTill s t _
    refine .ite h1 ?_
    have h2 : Works s s2 := h1.trans (works_traceFolio s1 t _)
    have h3 : Works s s3 := .ite (h2.trans (works_sample s2 _ _ _ _)) h2
    have h4 : Works s s4 := .ite (h3.trans (works_modTill s3 t _)) h3
    exact .ite (h4.trans (works_modTill s4 t _)) (h4.trans (works_sendP s4 t _ _))

/-! ## Operations on a sector (R192 to R196) -/

theorem works_opClose (s : State) (t k : Nat) : Works s (opClose s t k) := by
  unfold opClose
  split
  · exact .refl s
  · exact .ite ((works_modTill s t _).trans (works_foldl (fun s f => works_retire s t f) _ _)) (.refl s)

theorem works_opHandOn (s : State) (t k : Nat) : Works s (opHandOn s t k) := by
  unfold opHandOn
  split
  · exact .refl s
  · exact (works_modOp s t k _).trans
      (works_foldl (fun s f => (works_handOn s t f).trans (works_modFolio _ t f _)) _ _)

/-- The end of an operation: the Folios hand on, and retire where every answer has come. -/
theorem works_opDone (s : State) (t k : Nat) : Works s (opClose (opHandOn s t k) t k) :=
  (works_opHandOn s t k).trans (works_opClose _ t k)

theorem works_reclaimEnd (s : State) (t k : Nat) : Works s (reclaimEnd s t k) := by
  unfold reclaimEnd
  split
  · exact .refl s
  · extract_lets off s0 s1
    have h0 : Works s s0 := .ite (.refl s) (works_writeMemo s t _ _ _ _ _)
    have h1 : Works s s1 := h0.trans (works_modOp s0 t k _)
    exact .ite ((h1.trans (works_modOp s1 t k _)).trans (works_startGroup _ t _ _ _)) (h1.trans (works_opDone s1 t k))

theorem works_sendSnoops (s : State) (t f sec : Nat) (e : Ent) (l : List Target) : Works s (sendSnoops s t f sec e l) := by
  unfold sendSnoops
  extract_lets m en gone live flits pairs due lines s1 net s2 s3
  have h2 : Works s s2 := (works_modFolio s t f _).trans ⟨rfl⟩
  have h3 : Works s s3 := .ite h2 (h2.trans (works_bumpBy s2 _ _))
  exact h3.trans (works_foldl (fun s q => ((works_packet s _ _ (by omega) 1).trans (works_bump _ _)).trans (works_tev _ t _ _)) _ _)

theorem works_reclaimSnoop (s : State) (t k : Nat) (o : SecOp) (e : Ent) (l : List Target) :
    Works s (reclaimSnoop s t k o e l) := by
  unfold reclaimSnoop
  extract_lets s1
  have h1 : Works s s1 := works_sendSnoops s t _ _ e l
  exact .ite h1 (h1.trans (works_reclaimEnd s1 t k))

theorem works_dispose (s : State) (t k : Nat) : Works s (dispose s t k) := by
  unfold dispose
  split
  · exact .refl s
  · extract_lets bank s1 l
    have hgroup : ∀ sec kind f, Works s (startGroup (s.modOp t k (fun o => { o with stage := .group })) t sec kind f) :=
      fun sec kind f => (works_modOp s t k _).trans (works_startGroup _ t _ _ _)
    have h1 : Works s s1 := ((works_bump s _).trans (works_tev _ t _ _)).trans (works_modOp _ t k _)
    refine .ite (.ite (hgroup _ _ _) (works_opDone s t k)) (.ite ?_ (.ite (hgroup _ _ _) (.ite ?_ ?_)))
    · exact ((works_bump s _).trans (works_tev _ t _ _)).trans (works_opDone _ t k)
    · exact (h1.trans (works_modOp s1 t k _)).trans (works_opDone _ t k)
    · exact h1.trans (works_reclaimSnoop s1 t k _ _ l)

theorem works_startSecOp (s : State) (t sec : Nat) (kind : SecKind) (e : Ent) (buffered : Bool) (region : Nat) :
    Works s (startSecOp s t sec kind e buffered region).1 := by
  unfold startSecOp
  extract_lets k r o
  have hr : Works s r.1 := works_foldl_fst
    (fun x i => (works_takeInternal x.1 t _ _).trans (works_joinChain _ t _ _)) _ (s, [])
  exact hr.trans (works_modTill r.1 t _)

theorem works_evictWay (s : State) (t bank set way : Nat) : Works s (evictWay s t bank set way) := by
  unfold evictWay
  extract_lets x sec s1
  have h1 : Works s s1 := works_modTill s t _
  refine .ite (.refl s) (.ite h1 ?_)
  exact (h1.trans (works_startSecOp s1 t sec .evict _ true _)).trans (works_dispose _ t _)

theorem works_drainWay (s : State) (w : Nat) : Works s (drainWay s w) := by
  refine works_foldl (fun s t => .ite (.refl s) (works_foldl (fun s p => ?_) _ _)) _ _
  exact .ite (works_modTill s t _) (.ite (.refl s) (works_evictWay s t _ _ _))

end Sys2Proof.Machine
end

section
/-! PROOFS. Sessions that end and the debug level that falls (R470, R475, R477), and what a function reset leaves (R306). -/

namespace Sys2Proof.Machine

/-! ## Security moves, and the Home counts and reports -/

/-- `b` is `a` with records, statistics and the state of security moved. -/
def Closes (a b : State) : Prop := Logs a { b with sec := a.sec }

theorem Logs.withSec {a b : State} (h : Logs a b) (x : Sec) : Logs { a with sec := x } { b with sec := x } where
  eq := by rw [h.eq]
  entries := h.entries
  inbox := h.inbox

theorem Logs.closes {a b : State} (h : Logs a b) : Closes a b := by
  have hs := h.sec
  show Logs a { b with sec := a.sec }
  rw [← hs]
  exact h

theorem Closes.refl (a : State) : Closes a a := (Logs.refl a).closes

theorem Closes.trans {a b c : State} (h : Closes a b) (g : Closes b c) : Closes a c :=
  Logs.trans h (Logs.withSec g a.sec)

theorem closes_sec (a : State) (x : Sec) : Closes a { a with sec := x } := Logs.refl a

theorem Closes.power {a b : State} (h : Closes a b) : b.power = a.power := Logs.power (b := { b with sec := a.sec }) h
theorem Closes.assay {a b : State} (h : Closes a b) : b.assay = a.assay := Logs.assay (b := { b with sec := a.sec }) h
theorem Closes.ws {a b : State} (h : Closes a b) : b.ws = a.ws := Logs.ws (b := { b with sec := a.sec }) h
theorem Closes.out {a b : State} (h : Closes a b) : b.out = a.out := Logs.out (b := { b with sec := a.sec }) h
theorem Closes.maps {a b : State} (h : Closes a b) : b.maps = a.maps := Logs.maps (b := { b with sec := a.sec }) h
theorem Closes.lost {a b : State} (h : Closes a b) : b.lost = a.lost := Logs.lost (b := { b with sec := a.sec }) h
theorem Closes.tills {a b : State} (h : Closes a b) : b.tills = a.tills := Logs.tills (b := { b with sec := a.sec }) h
theorem Closes.time {a b : State} (h : Closes a b) : b.time = a.time := Logs.time (b := { b with sec := a.sec }) h
theorem Closes.fuses {a b : State} (h : Closes a b) : b.fuses = a.fuses := Logs.fuses (b := { b with sec := a.sec }) h
theorem Closes.fatal {a b : State} (h : Closes a b) : b.fatal = a.fatal := Logs.fatal (b := { b with sec := a.sec }) h
theorem Closes.inReset {a b : State} (h : Closes a b) : b.inReset = a.inReset := Logs.inReset (b := { b with sec := a.sec }) h
theorem Closes.cellarState {a b : State} (h : Closes a b) : b.cellarState = a.cellarState := Logs.cellarState (b := { b with sec := a.sec }) h
theorem Closes.build {a b : State} (h : Closes a b) : b.build = a.build := Logs.build (b := { b with sec := a.sec }) h
theorem Closes.inbox {a b : State} (h : Closes a b) : a.journal.inbox <+: b.journal.inbox := Logs.inbox (b := { b with sec := a.sec }) h
theorem Closes.chart_wf {a b : State} (h : Closes a b) (w : KV.wf a.chart = true) : KV.wf b.chart = true := Logs.chart_wf (b := { b with sec := a.sec }) h w
theorem Closes.rawN {a b : State} (h : Closes a b) (w : KV.wf a.chart = true) {i j : Nat} (hk : Apart (ekey i j)) :
    b.rawN i j = a.rawN i j := Logs.rawN (b := { b with sec := a.sec }) h w hk
theorem Logs.ff {a b : State} (h : Logs a b) : b.journal.ff = a.journal.ff := by rw [h.eq]
theorem Closes.ff {a b : State} (h : Closes a b) : b.journal.ff = a.journal.ff := Logs.ff (b := { b with sec := a.sec }) h

/-! ## Session slots -/

theorem session_of_sec {a b : State} (h : b.sec.sessions = a.sec.sessions) (k : Nat) : b.session k = a.session k := by
  unfold State.session
  rw [h]

theorem session_modSession (s : State) {k : Nat} (f : Session → Session) (h : k < s.sec.sessions.length) :
    (s.modSession k f).session k = f (s.session k) := by
  simp [State.session, State.modSession, h]

theorem session_modSession_ne (s : State) {k j : Nat} (f : Session → Session) (h : j ≠ k) :
    (s.modSession k f).session j = s.session j := by
  simp [State.session, State.modSession, Ne.symm h]

theorem session_freed (s : State) (k : Nat) : (s.modSession k (fun _ => {})).session k = {} := by
  unfold State.session State.modSession
  by_cases h : k < s.sec.sessions.length <;> simp [h]

theorem mem_sessions {s : State} {x : Session} (h : x ∈ s.sec.sessions) :
    ∃ k, k < s.sec.sessions.length ∧ s.session k = x := by
  obtain ⟨k, hk, rfl⟩ := List.mem_iff_getElem.mp h
  exact ⟨k, hk, by simp [State.session, hk]⟩

theorem session_mem {s : State} {k : Nat} (h : k < s.sec.sessions.length) : s.session k ∈ s.sec.sessions := by
  simp [State.session, h]

/-- A session without the debug level. -/
def Session.undebug (x : Session) : Session := { x with debug := false }

theorem Session.undebug_of {x : Session} (h : x.debug = false) : x.undebug = x := by
  unfold Session.undebug
  rw [← h]

/-! ## The debug level falls (R475, R477) -/

/-- The level falls from Off or Watch: the level moves, and at most a record is made. -/
theorem setLevel_below_intrude {s : State} (h : s.sec.level ≠ 2) (number role : Nat) :
    Closes s (setLevel s number role 0) ∧ (setLevel s number role 0).sec = { s.sec with level := 0 } := by
  unfold setLevel
  split
  · rename_i h0
    have hz : s.sec.level = 0 := by simpa using h0
    exact ⟨.refl s, by rw [← hz]⟩
  · extract_lets s1 s2
    rw [if_neg (by simpa using h)]
    have h1 : Logs s s1 := logs_note s _ _ _ _
    exact ⟨h1.closes.trans (closes_sec s1 _), by show ({ s1.sec with level := 0 } : Sec) = _; rw [h1.sec]⟩

theorem levelOff_below_intrude {s : State} (h : s.sec.level ≠ 2) :
    Closes s (levelOff s) ∧
      (levelOff s).sec = { s.sec with level := 0, sessions := s.sec.sessions.map Session.undebug } := by
  unfold levelOff
  cases hf : s.sec.sessions.find? (·.debug) with
  | some x =>
    obtain ⟨hc, hsec⟩ := setLevel_below_intrude h x.number x.role
    refine ⟨hc.trans (closes_sec _ _), ?_⟩
    dsimp only
    rw [hsec]
    rfl
  | none =>
    obtain ⟨hc, hsec⟩ := setLevel_below_intrude h 0 0
    refine ⟨hc, hsec.trans ?_⟩
    have hmap : s.sec.sessions.map Session.undebug = s.sec.sessions := by
      refine (List.map_congr_left fun y hy => ?_).trans (List.map_id s.sec.sessions)
      exact Session.undebug_of (by simpa using List.find?_eq_none.mp hf y hy)
    rw [hmap]

theorem session_levelOff {s : State} (h : s.sec.level ≠ 2) (k : Nat) :
    (levelOff s).session k = (s.session k).undebug := by
  unfold State.session
  rw [(levelOff_below_intrude h).2]
  simp only [List.getElem?_map]
  cases s.sec.sessions[k]? <;> rfl

/-! ## Sessions end (R470) -/

/-- What the end of the sessions that `p` selects leaves, the first `n` slots through. -/
structure Ended (p : Session → Bool) (n : Nat) (a b : State) : Prop where
  closes : Closes a b
  sec : b.sec = { a.sec with level := b.sec.level, sessions := b.sec.sessions }
  level : b.sec.level = a.sec.level ∨ b.sec.level = 0
  length : b.sec.sessions.length = a.sec.sessions.length
  ended : ∀ j < n, (a.session j).state ≠ .free → p (a.session j) = true → b.session j = {}
  others : ∀ j, (j < n → (a.session j).state ≠ .free → p (a.session j) = false) →
    b.session j = a.session j ∨ b.session j = (a.session j).undebug

theorem Ended.refl (p : Session → Bool) (a : State) : Ended p 0 a a where
  closes := .refl a
  sec := rfl
  level := .inl rfl
  length := rfl
  ended _ hj := absurd hj (Nat.not_lt_zero _)
  others _ _ := .inl rfl

/-- A session ends: its slot is free, and the level is Off where it held it. -/
theorem closeSession_below_intrude {s : State} (h : s.sec.level ≠ 2) (k : Nat) :
    Closes s (closeSession s k)
      ∧ (closeSession s k).sec = { s.sec with level := (closeSession s k).sec.level, sessions := (closeSession s k).sec.sessions }
      ∧ ((closeSession s k).sec.level = s.sec.level ∨ (closeSession s k).sec.level = 0)
      ∧ (closeSession s k).sec.sessions.length = s.sec.sessions.length
      ∧ (closeSession s k).session k = {}
      ∧ ∀ j ≠ k, (closeSession s k).session j = s.session j ∨ (closeSession s k).session j = (s.session j).undebug := by
  unfold closeSession
  extract_lets x s1 s2
  have h1 : Closes s s1 ∧ s1.sec = { s.sec with level := s1.sec.level, sessions := s1.sec.sessions }
      ∧ (s1.sec.level = s.sec.level ∨ s1.sec.level = 0) ∧ s1.sec.sessions.length = s.sec.sessions.length
      ∧ ∀ j, s1.session j = s.session j ∨ s1.session j = (s.session j).undebug := by
    by_cases hd : x.debug = true
    · have e : s1 = levelOff s := if_pos hd
      obtain ⟨hc, hsec⟩ := levelOff_below_intrude h
      rw [e]
      exact ⟨hc, by rw [hsec], .inr (by rw [hsec]), by rw [hsec]; exact List.length_map _, fun j => .inr (session_levelOff h j)⟩
    · have e : s1 = s := if_neg hd
      rw [e]
      exact ⟨.refl s, rfl, .inl rfl, rfl, fun j => .inl rfl⟩
  obtain ⟨hc, hsec, hlevel, hlen, hses⟩ := h1
  have h2 : Logs s1 s2 := by
    show Logs s1 (ite _ _ _)
    split
    · exact logs_note s1 _ _ _ _
    · exact .refl s1
  have e2 : s2.sec = s1.sec := h2.sec
  have hmod : (s2.modSession k (fun _ => {})).sec = { s1.sec with sessions := s1.sec.sessions.modify k (fun _ => {}) } := by
    show ({ s2.sec with sessions := s2.sec.sessions.modify k (fun _ => {}) } : Sec) = _
    rw [e2]
  refine ⟨(hc.trans h2.closes).trans (closes_sec s2 _), ?_, ?_, ?_, session_freed s2 k, fun j hj => ?_⟩
  · rw [hmod, hsec]
  · rw [hmod]; exact hlevel
  · rw [hmod]; simpa using hlen
  · rw [session_modSession_ne s2 _ hj, session_of_sec (congrArg Sec.sessions e2) j]
    exact hses j

/-- The sessions that `p` selects end, and the others keep all but the debug level. -/
theorem closeWhere_below_intrude {s : State} (h : s.sec.level ≠ 2) {p : Session → Bool}
    (hp : ∀ x, p x.undebug = p x) : Ended p 4 s (closeWhere s p) := by
  have step : ∀ n, Ended p n s ((List.range n).foldl
      (fun s k => if (s.session k).state != .free && p (s.session k) then closeSession s k else s) s) := by
    intro n
    induction n with
    | zero => exact .refl p s
    | succ n ih =>
      rw [List.range_succ, List.foldl_append, List.foldl_cons, List.foldl_nil]
      generalize (List.range n).foldl _ s = b at ih ⊢
      have hb : b.sec.level ≠ 2 := by
        rcases ih.level with e | e <;> rw [e]
        · exact h
        · decide
      -- slot `n` has not been reached before: its state and what `p` says of it are as they were
      have hn : b.session n = s.session n ∨ b.session n = (s.session n).undebug :=
        ih.others n (fun hlt => absurd hlt (Nat.lt_irrefl n))
      have hstate : (b.session n).state = (s.session n).state := by rcases hn with e | e <;> rw [e]; rfl
      have hpn : p (b.session n) = p (s.session n) := by
        rcases hn with e | e <;> rw [e]
        exact hp _
      by_cases hc : (s.session n).state ≠ .free ∧ p (s.session n) = true
      · rw [if_pos (by simp [hstate, hpn, hc.1, hc.2])]
        obtain ⟨cc, csec, clevel, clen, cend, cother⟩ := closeSession_below_intrude hb n
        refine ⟨ih.closes.trans cc, ?_, ?_, clen.trans ih.length, fun j hj hst hpj => ?_, fun j hj => ?_⟩
        · rw [csec, ih.sec]
        · rcases clevel with e | e
          · rw [e]; exact ih.level
          · exact .inr e
        · by_cases hjn : j = n
          · rw [hjn]; exact cend
          · have := ih.ended j (by omega) hst hpj
            rcases cother j hjn with e | e
            · rw [e, this]
            · rw [e, this]; rfl
        · by_cases hjn : j = n
          · rw [hjn] at hj
            exact absurd hc.2 (by simp [hj (Nat.lt_succ_self n) hc.1])
          · have := ih.others j (fun hlt => hj (Nat.lt_succ_of_lt hlt))
            rcases cother j hjn with e | e <;> rcases this with e' | e' <;> rw [e, e']
            · exact .inl rfl
            · exact .inr rfl
            · exact .inr rfl
            · exact .inr rfl
      · rw [if_neg (by rw [hstate, hpn]; simpa using hc)]
        refine ⟨ih.closes, ih.sec, ih.level, ih.length, fun j hj hst hpj => ?_, fun j hj => ?_⟩
        · refine ih.ended j (Nat.lt_of_le_of_ne (Nat.lt_succ_iff.mp hj) ?_) hst hpj
          rintro rfl
          exact hc ⟨hst, hpj⟩
        · exact ih.others j (fun hlt => hj (Nat.lt_succ_of_lt hlt))
  exact step 4

/-- Every session ends and the level is Off. -/
theorem allEnd_below_intrude {s : State} (h : s.sec.level ≠ 2) (hlen : s.sec.sessions.length = 4) :
    Closes s (levelOff (closeWhere s (fun _ => true)))
      ∧ (levelOff (closeWhere s (fun _ => true))).sec.level = 0
      ∧ (∀ x ∈ (levelOff (closeWhere s (fun _ => true))).sec.sessions, x.live = false)
      ∧ (levelOff (closeWhere s (fun _ => true))).sec.quarantine = s.sec.quarantine := by
  have hw := closeWhere_below_intrude h (p := fun _ => true) (fun _ => rfl)
  generalize closeWhere s (fun _ => true) = b at hw ⊢
  have hb : b.sec.level ≠ 2 := by
    rcases hw.level with e | e <;> rw [e]
    · exact h
    · decide
  obtain ⟨hc, hsec⟩ := levelOff_below_intrude hb
  refine ⟨hw.closes.trans hc, by rw [hsec], fun x hx => ?_, ?_⟩
  · rw [hsec] at hx
    obtain ⟨y, hy, rfl⟩ := List.mem_map.mp hx
    obtain ⟨k, hk, rfl⟩ := mem_sessions hy
    rw [hw.length, hlen] at hk
    by_cases hf : (s.session k).state = .free
    · rcases hw.others k (fun _ hne => absurd hf hne) with e | e <;>
        simp [e, Session.undebug, Session.live, hf]
    · rw [hw.ended k hk hf rfl]
      rfl
  · rw [hsec, hw.sec]

end Sys2Proof.Machine
end

section
/-! PROOFS. The function reset (R306, R307, R456). -/

namespace Sys2Proof.Machine

/-- A kept key is found as before. -/
theorem KV.find_filter_kept {α : Type} {p : Nat × α → Bool} {k : Nat} (hk : ∀ v, p (k, v) = true) :
    ∀ {lo : Nat} {m : KV α}, KV.rising lo m = true → KV.find? (List.filter p m) k = KV.find? m k
  | _, [], _ => rfl
  | lo, (k', w) :: t, g => by
    simp only [KV.rising, Bool.and_eq_true, decide_eq_true_eq] at g
    have ih := KV.find_filter_kept hk g.2
    rw [List.filter_cons]
    by_cases h1 : k' = k
    · subst h1
      rw [if_pos (hk w)]
      simp [KV.find?]
    · split
      · simp only [KV.find?, ih]
      · rw [ih]
        simp only [KV.find?, if_neg h1]
        split
        · exact KV.find_below (by omega) t g.2
        · rfl

/-- The number of function resets is no V entry (R438). -/
theorem keptByReset_functionResets (b : Build) : keptByReset b (ekey 0x1100 5) = true := by
  cases b <;> rfl

theorem till_map_proj {β : Type} (p : Till → β) {f : Till → Till} (hf : ∀ u, p (f u) = p u) (l : List Till) (k : Nat) :
    p (((l.map f)[k]?).getD {}) = p ((l[k]?).getD {}) := by
  rw [List.getElem?_map]
  cases l[k]? with
  | none => rfl
  | some u => exact hf u

/-- A Till whose slot counters are cleared (R504). -/
def Till.slotless (u : Till) : Till := { u with slotsRetired := 0, slotsWasted := 0, slotsFront := 0, slotsBack := 0 }

/-- What the reset clears once its sessions have ended, by the entries of the build. -/
def clearedByReset (bd : Build) (s : State) : State :=
  let s2 := clearResults (clearTally (clearJournal s))
  ({ s2 with chart := List.filter (fun p => keptByReset bd p.1) s2.chart } : State).bump ⟨0x1100, 5, 32⟩

/-- The parts that the clears move. -/
theorem clearedByReset_eq (bd : Build) (s : State) : ∃ c str ags ch, clearedByReset bd s = { s with
    chart := c, seg := {}, maps := { s.maps with rFail := 0 }, agents := ags
    power := { s.power with result := 0, wake := 0 }
    sec := { s.sec with keyTarget := 0, keyResult := 0, keyStage := [], lifeResult := 0 }
    tally := { s.tally with chans := ch, lastNum := 0 }, tills := s.tills.map Till.slotless
    journal := { s.journal with streams := str, causes := [] } } := ⟨_, _, _, _, rfl⟩

theorem startReset_eq {s : State} (hb : s.boot = .released) (hr : s.inReset = false) :
    startReset s = clearedByReset s.build (levelOff (closeWhere { s with inReset := true } (fun _ => true))) := by
  unfold startReset clearedByReset
  rw [if_neg (by simp [hb, hr])]

/-- An entry reads by what the store holds and the build. -/
theorem rawN_of_find {a b : State} {i j : Nat} (h : KV.find? b.chart (ekey i j) = KV.find? a.chart (ekey i j))
    (hb : b.build = a.build) : b.rawN i j = a.rawN i j := by
  unfold State.rawN State.raw State.edefault
  rw [h, hb]

theorem functionResets_clearedByReset (bd : Build) (s : State) (h : KV.wf s.chart = true) :
    (clearedByReset bd s).rawN 0x1100 5 = (s.rawN 0x1100 5 + 1) % 2 ^ 32 := by
  unfold clearedByReset
  extract_lets s2
  obtain ⟨hc, hb⟩ : s2.chart = s.chart ∧ s2.build = s.build := ⟨rfl, rfl⟩
  clear_value s2
  have hf : KV.find? (List.filter (fun p => keptByReset bd p.1) s2.chart) (ekey 0x1100 5) = KV.find? s.chart (ekey 0x1100 5) := by
    rw [hc]
    exact KV.find_filter_kept (fun _ => keptByReset_functionResets bd) h
  rw [rawN_bump _ _ _ _ (KV.filter_wf _ (by rw [hc]; exact h)) (by decide)]
  exact congrArg (fun x => (x + 1) % 2 ^ 32) (rawN_of_find (b := { s2 with chart := _ }) hf hb)

/-- The reset with the level below Intrude. -/
theorem startReset_below_intrude {s : State} (hb : s.boot = .released) (hr : s.inReset = false) (hl : s.sec.level ≠ 2)
    (hlen : s.sec.sessions.length = 4) :
    ∃ b, startReset s = clearedByReset s.build b ∧ Closes { s with inReset := true } b ∧ b.sec.level = 0
      ∧ (∀ x ∈ b.sec.sessions, x.live = false) ∧ b.sec.quarantine = s.sec.quarantine :=
  ⟨_, startReset_eq hb hr, allEnd_below_intrude (s := { s with inReset := true }) hl hlen⟩

/-- What every reset leaves, and that it makes the Chart unavailable. -/
theorem startReset_keeps {s : State} (hb : s.boot = .released) (hr : s.inReset = false) :
    (startReset s).inReset = true ∧ (startReset s).global = s.global ∧ (startReset s).time.tick = s.time.tick
      ∧ (startReset s).fuses = s.fuses := by
  rw [startReset_eq hb hr]
  have hk : Keeps true { s with inReset := true } (levelOff (closeWhere { s with inReset := true } (fun _ => true))) :=
    keeps_levelOff (keeps_closeWhere (Keeps.refl _))
  have hq : Rolls { s with inReset := true } (levelOff (closeWhere { s with inReset := true } (fun _ => true))) :=
    rolls_levelOff (rolls_closeWhere (Rolls.refl _))
  generalize levelOff (closeWhere { s with inReset := true } (fun _ => true)) = b at hk hq
  obtain ⟨htick, hglobal, -⟩ := hk.steady rfl
  exact ⟨hq.inReset, hglobal, htick, hk.fuses⟩

theorem chartUp_inReset {s : State} (h : s.inReset = true) : s.chartUp = false := by simp [State.chartUp, h]

theorem chartUp_iff {s : State} : s.chartUp = true ↔ s.boot = .released ∧ s.inReset = false ∧ s.power.state ≠ 3 := by
  simp [State.chartUp, and_assoc]

/-- What a window write finds before its owner acts: the event is counted, and nothing else moved. -/
theorem logs_reached (s : State) : Logs s (s.gev 0x10C) := logs_gev s 0x10C 0xFF

/-- Settles O11: the reset is the end of the sessions, which only counts, reports and moves the state of security below
Intrude, and the clears of R306. -/
theorem functionResetKeepsService : Obligations.FunctionResetKeepsService := by
  unfold Obligations.FunctionResetKeepsService
  intro s hinv hb hr
  obtain ⟨-, -, -, -, hlen, hchart, -⟩ := hinv
  refine ⟨?_, fun hl => ?_, fun ho => ?_, fun hp => ?_⟩
  · obtain ⟨h1, h2, h3, h4⟩ := startReset_keeps hb hr
    exact .of (show exec .flr s = .next (startReset s) from rfl) ⟨h1, chartUp_inReset h1, h2, h3, h4⟩
  · obtain ⟨b, he, hc, hlevel, hlive, hquar⟩ := startReset_below_intrude hb hr hl hlen
    refine .of (show exec .flr s = .next (startReset s) from rfl) ?_
    have hcount : (clearedByReset s.build b).rawN 0x1100 5 = (s.rawN 0x1100 5 + 1) % 2 ^ 32 := by
      rw [functionResets_clearedByReset s.build b (hc.chart_wf hchart), hc.rawN hchart (apart (by decide))]
      rfl
    obtain ⟨c, str, ags, ch, hclear⟩ := clearedByReset_eq s.build b
    rw [he]
    refine ⟨?_, ?_, ?_, hcount, ?_⟩ <;> rw [hclear]
    · exact hc.inReset
    · exact hlevel
    · exact hlive
    have hmaps : b.maps = s.maps := hc.maps
    have htills : b.tills = s.tills := hc.tills
    refine ⟨?_, ?_, hc.lost, hc.cellarState, hc.ws, hc.out, hc.ff, hquar, fun k => ?_⟩
    · show b.maps.bLive = _; rw [hmaps]
    · show b.maps.rLive = _; rw [hmaps]
    · rw [show s.till k = b.till k by unfold State.till; rw [htills]]
      exact ⟨till_map_proj Till.folios (f := Till.slotless) (fun _ => rfl) b.tills k, till_map_proj Till.vault (f := Till.slotless) (fun _ => rfl) b.tills k,
        till_map_proj Till.claims (f := Till.slotless) (fun _ => rfl) b.tills k⟩
  · refine .of (write_functionReset ho) ?_
    have hg := logs_reached s
    have hk := startReset_keeps (s := (s.gev 0x10C).setRawN 0x1100 2 0) (hg.boot.trans hb) (hg.inReset.trans hr)
    obtain ⟨h1, h2, h3, -⟩ := hk
    refine ⟨h1, chartUp_inReset h1, h2.trans hg.global, h3.trans ?_⟩
    exact congrArg Time.tick hg.time
  · refine .of (show exec .functionResetDone { s with inReset := true } = .next { s with inReset := false } from rfl) ?_
    rw [← hr]
    exact ⟨rfl, chartUp_iff.mpr ⟨hb, hr, hp⟩⟩

end Sys2Proof.Machine
end

section
/-! PROOFS. POWER_TARGET (R424 to R426, R429). -/

namespace Sys2Proof.Machine

/-! ## Commands to ways (R62, R207) -/

theorem fn_way_of_ways {a b : State} (h : b.ways = a.ways) (w : Nat) : b.fn (.way w) = a.fn (.way w) := by
  unfold State.fn
  rw [h]

/-- ENABLE or DISABLE to a way writes its state by the table, and the rest is work of the Tills. -/
theorem funcCmd_way (s : State) (w : Nat) {v : Nat} (hv : v = 1 ∨ v = 2) :
    Works { s with ways := s.ways.set w (if v = 1 then (s.fn (.way w)).enable.1 else (s.fn (.way w)).disable.1) }
      (funcCmd s (.way w) v) := by
  have hgo : ∀ r : Fn × Start, Works { s with ways := s.ways.set w r.1 } (goOn s (.way w) r) := by
    intro r
    unfold goOn
    cases r.2 with
    | nothing => exact .refl _
    | enabling => exact .refl _
    | drain => exact works_drainWay _ w
  rcases hv with rfl | rfl
  · exact hgo _
  · exact hgo _

/-- The state that a command makes of a way in one of two states. -/
def WayTurns (v : Nat) (old new : FnState) : Prop :=
  ∀ x : Fn, x.st = old ∨ x.st = new → (if v = 1 then x.enable.1 else x.disable.1).st = new

theorem wayTurns_enable : WayTurns 1 .off .enabling := by
  rintro x (h | h) <;> simp [Fn.enable, h]

theorem wayTurns_disable : WayTurns 2 .on .draining := by
  rintro x (h | h) <;> simp [Fn.disable, h]

/-- Commands to a list of ways turn each of them, and leave the power machine and the margin request. -/
theorem wayCmds {v : Nat} (hv : v = 1 ∨ v = 2) {old new : FnState} (ht : WayTurns v old new) (l : List Nat) :
    ∀ s : State, s.ways.length = 16 → (∀ w ∈ l, w < 16 ∧ ((s.fn (.way w)).st = old ∨ (s.fn (.way w)).st = new)) →
      let r := l.foldl (fun s w => funcCmd s (.way w) v) s
      r.power = s.power ∧ r.assay = s.assay ∧ (∀ w, (s.fn (.way w)).st = new → (r.fn (.way w)).st = new)
        ∧ ∀ w ∈ l, (r.fn (.way w)).st = new := by
  induction l with
  | nil => exact fun s _ _ => ⟨rfl, rfl, fun _ h => h, fun _ h => absurd h (List.not_mem_nil)⟩
  | cons w l ih =>
    intro s hlen hl
    obtain ⟨hw, hst⟩ := hl w (List.mem_cons_self ..)
    have hwork := funcCmd_way s w hv
    -- the way itself turns, and the others stay
    have hself : ((funcCmd s (.way w) v).fn (.way w)).st = new := by
      rw [fn_way_of_ways hwork.ways]
      simpa [State.fn, hlen, hw] using ht _ hst
    have hother : ∀ u ≠ w, (funcCmd s (.way w) v).fn (.way u) = s.fn (.way u) := by
      intro u hu
      rw [fn_way_of_ways hwork.ways]
      simp [State.fn, Ne.symm hu]
    have hlen' : (funcCmd s (.way w) v).ways.length = 16 := by rw [hwork.ways]; simpa using hlen
    obtain ⟨hp, ha, hkeep, hall⟩ := ih (funcCmd s (.way w) v) hlen' (fun u hu => by
      obtain ⟨hu16, hust⟩ := hl u (List.mem_cons_of_mem _ hu)
      refine ⟨hu16, ?_⟩
      by_cases huw : u = w
      · exact .inr (by rw [huw]; exact hself)
      · rw [hother u huw]; exact hust)
    refine ⟨hp.trans hwork.power, ha.trans hwork.assay, fun u hu => ?_, fun u hu => ?_⟩
    · by_cases huw : u = w
      · rw [huw]; exact hkeep w hself
      · exact hkeep u (by rw [hother u huw]; exact hu)
    · rcases List.mem_cons.mp hu with rfl | hu
      · exact hkeep u hself
      · exact hall u hu

/-! ## Lean (R425) -/

theorem mem_leanWays {s : State} {w : Nat} (h : w ∈ s.leanWays) : w < 16 ∧ (s.fn (.way w)).st = .on := by
  simp only [State.leanWays, List.mem_filter, List.mem_range, Bool.and_eq_true, beq_iff_eq] at h
  exact ⟨h.1, h.2.2⟩

theorem startLean_drains {s : State} (hlen : s.ways.length = 16) :
    (startLean s).power = { s.power with state := 4, parked := s.leanWays } ∧ (startLean s).assay = s.assay
      ∧ ∀ w ∈ s.leanWays, ((startLean s).fn (.way w)).st = .draining := by
  obtain ⟨hp, ha, -, hall⟩ := wayCmds (.inr rfl) wayTurns_disable s.leanWays
    (s.modPower (fun p => { p with state := 4, parked := s.leanWays })) hlen
    (fun w hw => ⟨(mem_leanWays hw).1, .inl (mem_leanWays hw).2⟩)
  exact ⟨hp, ha, hall⟩

theorem leaveLean_enables {s : State} (hlen : s.ways.length = 16)
    (hw : ∀ w ∈ s.power.parked, w < 16 ∧ (s.fn (.way w)).st = .off) :
    (leaveLean s).power = { s.power with state := 5 } ∧ (leaveLean s).assay = s.assay
      ∧ ∀ w ∈ s.power.parked, ((leaveLean s).fn (.way w)).st = .enabling := by
  obtain ⟨hp, ha, -, hall⟩ := wayCmds (.inl rfl) wayTurns_enable s.power.parked
    (s.modPower (fun p => { p with state := 5 })) hlen (fun w h => ⟨(hw w h).1, .inl (hw w h).2⟩)
  exact ⟨hp, ha, hall⟩

/-- A transition that still awaits a way goes on as it is. -/
theorem powerProgress_waits {s : State} (h4 : s.power.state = 4 → ∃ w ∈ s.power.parked, (s.fn (.way w)).st ≠ .off)
    (h5 : s.power.state = 5 → ∃ w ∈ s.power.parked, (s.fn (.way w)).st ≠ .on) : powerProgress s = s := by
  unfold powerProgress
  split
  · rfl
  · rw [if_neg, if_neg]
    · intro h
      simp only [Bool.and_eq_true, beq_iff_eq, List.all_eq_true] at h
      obtain ⟨w, hw, hne⟩ := h5 h.1
      exact hne (h.2 w hw)
    · intro h
      simp only [Bool.and_eq_true, beq_iff_eq, List.all_eq_true] at h
      obtain ⟨w, hw, hne⟩ := h4 h.1
      exact hne (h.2 w hw)

theorem powerProgress_rest {s : State} (h4 : s.power.state ≠ 4) (h5 : s.power.state ≠ 5) : powerProgress s = s :=
  powerProgress_waits (fun h => absurd h h4) (fun h => absurd h h5)

/-! ## The writes of POWER_TARGET -/

theorem reached_eq (s : State) (f : State → State) : reached s f = applied (f (s.gev 0x10C)) := rfl

/-- The write of each of the four targets. -/
theorem exec_powerTarget {s : State} (ho : s.windowOpen) {c : Instr} {v : Nat}
    (h : (c, v) ∈ [(Instr.powerTargetRun, 0), (.powerTargetLean, 1), (.powerTargetHold, 2), (.powerTargetOff, 3)]) :
    exec c s = .next (reached s (fun u => powerTarget u v)) ∧ v ≤ 3 := by
  simp only [List.mem_cons, Prod.mk.injEq, List.not_mem_nil, or_false] at h
  rcases h with ⟨rfl, rfl⟩ | ⟨rfl, rfl⟩ | ⟨rfl, rfl⟩ | ⟨rfl, rfl⟩
  · exact ⟨write_powerTargetRun ho, by omega⟩
  · exact ⟨write_powerTargetLean ho, by omega⟩
  · exact ⟨write_powerTargetHold ho, by omega⟩
  · exact ⟨write_powerTargetOff ho, by omega⟩

theorem powerTarget_recorded {s : State} (h : 4 ≤ s.power.state) {v : Nat} (hv : v ≤ 3) :
    powerTarget s v = s.modPower (fun p => { p with pending := some v, result := 0 }) := by
  simp [powerTarget, h, hv]

theorem powerTarget_applied {s : State} (h : s.power.state ≤ 3) {v : Nat} (hv : v ≤ 3) :
    powerTarget s v = powerProgress (applyTarget s v) := by
  have h4 : ¬ 4 ≤ s.power.state := by omega
  simp [powerTarget, h4, hv]

/-- What the result of a target is written over. -/
def State.targetResult (s : State) (r : Nat) : State := s.modPower (fun p => { p with result := r })

theorem applyTarget_lean {s : State} (h : s.power.state = 0) :
    applyTarget s 1 = if s.leanEmpty then s.targetResult 1 else startLean (s.targetResult 0) := by
  simp [applyTarget, h, State.targetResult]

theorem applyTarget_run {s : State} (h : s.power.state = 1) : applyTarget s 0 = leaveLean (s.targetResult 0) := by
  simp [applyTarget, h, State.targetResult]

theorem applyTarget_hold {s : State} (h : s.power.state ≤ 1) :
    applyTarget s 2 = if s.holdBusy then s.targetResult 1 else startHold (s.targetResult 0) false := by
  rcases (by omega : s.power.state = 0 ∨ s.power.state = 1) with e | e <;> simp [applyTarget, e, State.targetResult]

theorem applyTarget_off {s : State} (h : s.power.state ≤ 1) :
    applyTarget s 3 = if s.offResult == 0 then startHold (s.targetResult 0) true else s.targetResult s.offResult := by
  rcases (by omega : s.power.state = 0 ∨ s.power.state = 1) with e | e <;> simp [applyTarget, e, State.targetResult]

theorem startHold_hold (s : State) :
    startHold s false = s.modPower (fun p => { p with state := 6, from_ := p.state }) := rfl

/-- Off entry starts with the end of every session (R470). -/
theorem startHold_off {s : State} (h : s.sec.level ≠ 2) (hlen : s.sec.sessions.length = 4) :
    ∃ b : State, startHold s true = b.modPower (fun p => { p with state := 7, from_ := p.state }) ∧ b.power = s.power
      ∧ b.sec.level = 0 ∧ ∀ x ∈ b.sec.sessions, x.live = false := by
  obtain ⟨hc, hlevel, hlive, -⟩ := allEnd_below_intrude h hlen
  exact ⟨_, by simp only [startHold, ↓reduceIte], hc.power, hlevel, hlive⟩

/-! ## The conditions read alike once the write is counted -/

theorem Logs.region {a b : State} (h : Logs a b) (n : Nat) : b.region n = a.region n := by
  unfold State.region
  rw [h.maps]

theorem Logs.leanEmpty {a b : State} (h : Logs a b) (w : KV.wf a.chart = true) : b.leanEmpty = a.leanEmpty := by
  unfold State.leanEmpty
  rw [h.rawN w (apart (by decide))]
  simp only [h.fn]

theorem Logs.leanWays {a b : State} (h : Logs a b) (w : KV.wf a.chart = true) : b.leanWays = a.leanWays := by
  unfold State.leanWays
  rw [h.rawN w (apart (by decide))]
  simp only [h.fn]

theorem Logs.holdBusy {a b : State} (h : Logs a b) : b.holdBusy = a.holdBusy := by
  unfold State.holdBusy
  rw [h.transfers, h.tills, h.sec]

theorem Logs.offResult {a b : State} (h : Logs a b) (w : KV.wf a.chart = true) : b.offResult = a.offResult := by
  unfold State.offResult
  rw [h.rawN w (apart (by decide)), h.holdBusy, h.tills, h.agents, h.au, h.cellarState]
  simp only [h.region]

/-- Settles O21: each row of R424 acts on the state that the counted write leaves, where every condition reads as before. -/
theorem powerTargetStartsTransition : Obligations.PowerTargetStartsTransition := by
  unfold Obligations.PowerTargetStartsTransition
  intro s hinv ho
  obtain ⟨-, -, hways, -, hses, hchart, -⟩ := hinv
  have hg : Logs s (s.gev 0x10C) := logs_reached s
  have hpow := hg.power
  have hst : (s.gev 0x10C).power.state = s.power.state := by rw [hpow]
  have hpk : (s.gev 0x10C).power.parked = s.power.parked := by rw [hpow]
  have hlen : (s.gev 0x10C).ways.length = 16 := by rw [hg.ways]; exact hways
  refine ⟨fun h4 c v hc => ?_, fun h0 he => ?_, fun h0 he hne => ?_, fun h1 hne hoff => ?_, fun h1 hb => ?_,
    fun h1 hb => ?_, fun h1 hr => ?_, fun h1 hr hl => ?_⟩
  · obtain ⟨hx, hv⟩ := exec_powerTarget ho hc
    refine .of hx ?_
    rw [reached_eq]
    rw [powerTarget_recorded (by rw [hpow]; exact h4) hv]
    exact ⟨rfl, rfl, hst⟩
  · refine .of (write_powerTargetLean ho) ?_
    rw [reached_eq]
    rw [powerTarget_applied (by rw [hpow]; omega) (by omega), applyTarget_lean (by rw [hpow]; exact h0), hg.leanEmpty hchart,
      if_pos he, powerProgress_rest (by show (s.gev 0x10C).power.state ≠ 4; rw [hpow]; omega)
        (by show (s.gev 0x10C).power.state ≠ 5; rw [hpow]; omega)]
    exact ⟨rfl, hst.trans h0, hg.ways⟩
  · refine .of (write_powerTargetLean ho) ?_
    rw [reached_eq]
    rw [powerTarget_applied (by rw [hpow]; omega) (by omega), applyTarget_lean (by rw [hpow]; exact h0), hg.leanEmpty hchart,
      if_neg (by simp [he])]
    obtain ⟨hp, -, hdrain⟩ := startLean_drains (s := (s.gev 0x10C).targetResult 0) hlen
    rw [show ((s.gev 0x10C).targetResult 0).leanWays = s.leanWays from hg.leanWays hchart] at hp hdrain
    generalize startLean ((s.gev 0x10C).targetResult 0) = u at hp hdrain
    obtain ⟨w, hw⟩ := List.exists_mem_of_ne_nil _ hne
    rw [powerProgress_waits (fun _ => ⟨w, by rw [hp]; exact hw, by rw [hdrain w hw]; decide⟩) (fun h => by rw [hp] at h; cases h)]
    show u.power.result = 0 ∧ u.power.state = 4 ∧ u.power.parked = s.leanWays ∧ ∀ w ∈ s.leanWays, (u.fn (.way w)).st = .draining
    rw [hp]
    exact ⟨rfl, rfl, rfl, hdrain⟩
  · refine .of (write_powerTargetRun ho) ?_
    rw [reached_eq]
    rw [powerTarget_applied (by rw [hpow]; omega) (by omega), applyTarget_run (by rw [hpow]; exact h1)]
    have hpark : ((s.gev 0x10C).targetResult 0).power.parked = s.power.parked := hpk
    obtain ⟨hp, -, hen⟩ := leaveLean_enables (s := (s.gev 0x10C).targetResult 0) hlen (by
      rw [hpark]
      intro w hw
      obtain ⟨hw16, hst⟩ := hoff w hw
      exact ⟨hw16, (congrArg Fn.st (hg.fn (.way w))).trans hst⟩)
    rw [hpark] at hen
    generalize leaveLean ((s.gev 0x10C).targetResult 0) = u at hp hen
    have hupark : u.power.parked = s.power.parked := by rw [hp]; exact hpark
    obtain ⟨w, hw⟩ := List.exists_mem_of_ne_nil _ hne
    rw [powerProgress_waits (fun h => by rw [hp] at h; cases h) (fun _ => ⟨w, by rw [hupark]; exact hw, by rw [hen w hw]; decide⟩)]
    show u.power.result = 0 ∧ u.power.state = 5 ∧ ∀ w ∈ s.power.parked, (u.fn (.way w)).st = .enabling
    exact ⟨by rw [hp]; rfl, by rw [hp], hen⟩
  · refine .of (write_powerTargetHold ho) ?_
    rw [reached_eq]
    rw [powerTarget_applied (by rw [hpow]; omega) (by omega), applyTarget_hold (by rw [hpow]; exact h1), hg.holdBusy, if_pos hb,
      powerProgress_rest (by show (s.gev 0x10C).power.state ≠ 4; rw [hpow]; omega)
        (by show (s.gev 0x10C).power.state ≠ 5; rw [hpow]; omega)]
    exact ⟨rfl, hst⟩
  · refine .of (write_powerTargetHold ho) ?_
    rw [reached_eq]
    rw [powerTarget_applied (by rw [hpow]; omega) (by omega), applyTarget_hold (by rw [hpow]; exact h1), hg.holdBusy,
      if_neg (by simp [hb]), startHold_hold, powerProgress_rest (by show (6 : Nat) ≠ 4; decide) (by show (6 : Nat) ≠ 5; decide)]
    generalize s.gev 0x10C = g at hg hst hpk
    exact ⟨rfl, rfl, hst, hpk, hg.ways, hg.out⟩
  · refine .of (write_powerTargetOff ho) ?_
    rw [reached_eq]
    rw [powerTarget_applied (by rw [hpow]; omega) (by omega), applyTarget_off (by rw [hpow]; exact h1), hg.offResult hchart,
      if_neg (by simpa using hr), powerProgress_rest (by show (s.gev 0x10C).power.state ≠ 4; rw [hpow]; omega)
        (by show (s.gev 0x10C).power.state ≠ 5; rw [hpow]; omega)]
    exact ⟨rfl, hst⟩
  · refine .of (write_powerTargetOff ho) ?_
    rw [reached_eq, powerTarget_applied (by rw [hpow]; omega) (by omega), applyTarget_off (by rw [hpow]; exact h1),
      hg.offResult hchart, if_pos (by simpa using hr)]
    have hlevel : (s.gev 0x10C).sec.level ≠ 2 := by rw [hg.sec]; exact hl
    have hlength : (s.gev 0x10C).sec.sessions.length = 4 := by rw [hg.sec]; exact hses
    generalize s.gev 0x10C = g at hlevel hlength
    obtain ⟨b, he, hres, hlevel0, hlive⟩ := startHold_off (s := g.targetResult 0) hlevel hlength
    rw [he, powerProgress_rest (by show (7 : Nat) ≠ 4; decide) (by show (7 : Nat) ≠ 5; decide)]
    exact ⟨(congrArg Power.result hres), rfl, hlive, hlevel0⟩

end Sys2Proof.Machine
end

section
/-! PROOFS. From the bring-up fill by the Assay baseline and START to READY (R380, R414, R431, R455, R531). -/

namespace Sys2Proof.Machine

/-! ## The end of the fill (R380, R431) -/

theorem exec_bringupFill {s : State} (h : s.boot = .filling) (crcOk v : Bool) (ptm : Word) :
    exec (.bringupFill [] crcOk ptm v) s = .next (fillDone s [] crcOk ptm v) := by
  show Host.Outcome.next (if s.boot == .filling then _ else s) = _
  rw [if_pos (by simp [h])]

/-- The fill has ended and CH is released (R454, R455). -/
def State.released (s : State) : State := { s with boot := .released, global := 1, startSeen := s.fuses.autoStart }

/-- Without RESUME the bring-up goes on cold. -/
theorem fillDone_cold {s : State} (h : s.resuming = false) (crcOk v : Bool) (ptm : Word) :
    fillDone s [] crcOk ptm v = resumeResult s.released 1 := by
  unfold fillDone
  extract_lets s1 s2 s3
  have h2 : s2 = resumeResult s.released 1 := if_pos (by simp [h])
  have h3 : s3 = s2 := rfl
  rw [h3, h2]
  exact if_neg (by rw [show (resumeResult s.released 1).resuming = s.resuming from rfl, h]; decide)

/-- An image that fails its checks is not taken. -/
theorem fillDone_imageBad {s : State} (h : s.resuming = true) {crcOk : Bool} (hi : s.imageGood crcOk = false) (v : Bool) (ptm : Word) :
    fillDone s [] crcOk ptm v = resumeResult { s.released with resuming := false } 2 := by
  unfold fillDone
  extract_lets s1 s2 s3
  have h2 : s2 = resumeResult { s.released with resuming := false } 2 := (if_neg (by simp [h])).trans (if_pos (by simp [hi]))
  have h3 : s3 = s2 := rfl
  rw [h3, h2]
  exact if_neg Bool.false_ne_true

/-- A good image is restored, and the Tills commit the escrow. -/
theorem fillDone_restored {s : State} (h : s.resuming = true) {crcOk : Bool} (hg : s.imageGood crcOk = true) {i : Image}
    (hi : s.image = some i) (v : Bool) (ptm : Word) :
    fillDone s [] crcOk ptm v = commitAll (restore s.released i ptm v) := by
  unfold fillDone
  extract_lets s1 s2 s3
  have h2 : s2 = restore s.released i ptm v := by
    refine (if_neg (by simp [h])).trans ((if_neg (by simp [hg])).trans ?_)
    rw [hi]
    rfl
  have h3 : s3 = s2 := rfl
  rw [h3, h2]
  exact if_pos h

/-! ## The baseline (R414) -/

theorem mhz_readTj (s : State) (t : Nat) (x : Int) : (readTj s t x).assay.mhz = s.assay.mhz := by
  unfold readTj
  extract_lets s1 s2 n a s3 s4
  have h2 : s2.assay.mhz = s.assay.mhz := by
    show (ite _ _ _ : State).assay.mhz = _
    split <;> rfl
  clear_value s2
  have hn : n.assay = s2.assay := (logs_note s2 _ _ _ _).assay
  have h3 : s3.assay.mhz = s.assay.mhz := by
    show (ite _ _ _ : State).assay.mhz = _
    split
    · show s2.assay.mhz = _
      exact h2
    · exact h2
  clear_value s3
  have h4 : s4.assay.mhz = s.assay.mhz := by
    have hn4 : s4.assay = s3.assay := (logs_note s3 .thermalLimit (.till t) [t, s32Of x] none).assay
    rw [hn4]
    exact h3
  clear_value s4
  split
  · split <;> exact h4
  · exact h3

theorem mhz_readTjs (s : State) (l : List (Nat × Int)) : (readTjs s l).assay.mhz = s.assay.mhz := by
  unfold readTjs
  extract_lets s1
  have h1 : s1.assay.mhz = s.assay.mhz := foldl_proj (fun s => s.assay.mhz) (fun s (p : Nat × Int) => mhz_readTj s p.1 p.2) _ _
  split <;> exact h1

theorem mhz_report (s : State) (m : Measure) (full : Bool) : (report s m full).assay.mhz = s.assay.mhz := by
  unfold report
  extract_lets ok s1 a1 a2 s2 worst life
  have h1 : s1.assay = s.assay := by
    apply foldl_proj State.assay
    intros; rfl
  have h2 : s2.assay = s.assay := by
    show (ite _ _ _ : State).assay = _
    split
    · have ha1 : a1.assay = s1.assay := by
        apply foldl_proj State.assay
        intros; rfl
      have ha2 : a2.assay = a1.assay := by
        apply foldl_proj State.assay
        intros; rfl
      rw [← h1, ← ha1, ← ha2]
      apply foldl_proj State.assay
      intros; rfl
    · exact h1
  clear_value s2
  exact congrArg Assay.mhz h2

/-- The state in which the margin request of the baseline has been answered or given up. -/
def baselineAsked (s : State) (m : Measure) (mhz : Nat) : State :=
  let s1 := askMargin (report (readTjs s m.tj) m true) 0 s.assay.vdd mhz 4
  { s1 with assay := { s1.assay with req := none, baselineDone := true } }

theorem baseline_acked (s : State) (m : Measure) (mhz : Nat) :
    (baseline s m mhz true).assay = { (baselineAsked s m mhz).assay with mhz := mhz } := rfl

theorem baseline_unanswered (s : State) (m : Measure) (mhz : Nat) :
    ∃ args, baseline s m mhz false = ((baselineAsked s m mhz).note .marginNoAck .as_ args).bump ⟨0x8060, 2, 32⟩ := ⟨_, rfl⟩

theorem baselineAsked_mhz (s : State) (m : Measure) (mhz : Nat) : (baselineAsked s m mhz).assay.mhz = s.assay.mhz := by
  have h := (mhz_report (readTjs s m.tj) m true).trans (mhz_readTjs s m.tj)
  unfold baselineAsked
  generalize report (readTjs s m.tj) m true = b at h
  exact h

theorem baselineAsked_keeps (s : State) (m : Measure) (mhz : Nat) :
    s.journal.inbox <+: (baselineAsked s m mhz).journal.inbox ∧ (baselineAsked s m mhz).time.tick = s.time.tick := by
  have hk : Keeps true s (report (readTjs s m.tj) m true) := keeps_report (keeps_readTjs (Keeps.refl s))
  unfold baselineAsked
  generalize report (readTjs s m.tj) m true = b at hk
  exact ⟨hk.inbox, (hk.steady rfl).1⟩

theorem exec_assayBaseline {s : State} (hb : s.boot = .released) (hd : s.assay.baselineDone = false) {mhz : Nat}
    (hl : s.mhzLegal mhz = true) (m : Measure) (acked : Bool) :
    exec (.assayBaseline m mhz acked) s = .next (baseline s m mhz acked) := by
  show Host.Outcome.next (if s.boot == .released && !s.assay.baselineDone && s.mhzLegal mhz then _ else s) = _
  rw [if_pos (by simp [hb, hd, hl])]

/-! ## READY (R455) -/

/-- READY: the RWL entries lock and the record is made, and then the resume ends. -/
theorem exec_homeReady {s : State} (h : s.readyNow = true) :
    exec .homeReady s = .next (endResume (({ s with global := 2, interleaveLocked := true } : State).note .homeReady .ch [])) := by
  show Host.Outcome.next (if s.readyNow then _ else s) = _
  rw [if_pos h]

/-- The end of a resume leaves GLOBAL_STATE, the lock of READY, the Tick and what was reported. -/
theorem endResume_keeps (s : State) : (endResume s).global = s.global ∧ (endResume s).interleaveLocked = s.interleaveLocked
    ∧ (endResume s).boot = s.boot ∧ s.journal.inbox <+: (endResume s).journal.inbox := by
  unfold endResume
  split
  · exact ⟨rfl, rfl, rfl, List.prefix_rfl⟩
  · extract_lets s1
    have hk : Keeps true s1 (s1.agents.foldl (fun s p => resumeAgent s p.1) s1) :=
      Keeps.foldl (fun s p => keeps_resumeAgent (Keeps.refl s)) _ (Keeps.refl s1)
    obtain ⟨-, hglobal, -, hlock⟩ := hk.steady rfl
    exact ⟨hglobal, hlock, hk.boot, hk.inbox⟩

theorem start_config {s : State} (h : s.global = 1) : (globalCmd s 1).startSeen = true ∧ (globalCmd s 1).global = 1 := by
  refine ⟨?_, h⟩
  show (s.startSeen || s.global == 1) = true
  simp [h]

theorem start_later {s : State} (h : s.global ≠ 1) :
    (globalCmd s 1).startSeen = s.startSeen ∧ (globalCmd s 1).global = s.global := by
  refine ⟨?_, rfl⟩
  show (s.startSeen || s.global == 1) = s.startSeen
  simp [h]

/-- Settles O10: the three ways of the fill, the two ends of the baseline, READY and START, each by its equation. -/
theorem bringUpReachesReady : Obligations.BringUpReachesReady := by
  unfold Obligations.BringUpReachesReady
  refine ⟨fun s crcOk v ptm hinv hb => ⟨fun hr => ?_, fun hr hg => ?_, fun i hr hg hi => ?_⟩,
    fun s m mhz hb hd hl => ⟨?_, ?_⟩, fun s => ⟨fun hb hg hd hs => ?_, fun ho hg => ?_, fun ho hg => ?_⟩⟩
  · obtain ⟨-, -, -, -, -, hchart, -⟩ := hinv
    refine .of (exec_bringupFill hb crcOk v ptm) ?_
    rw [fillDone_cold hr]
    exact ⟨rfl, rfl, rfl, rawN_setRawN _ _ _ _ hchart (by decide), rfl, rfl, rfl⟩
  · obtain ⟨-, -, -, -, -, hchart, -⟩ := hinv
    refine .of (exec_bringupFill hb crcOk v ptm) ?_
    rw [fillDone_imageBad hr hg]
    exact ⟨rfl, rfl, rfl, rawN_setRawN _ _ _ _ hchart (by decide), rfl, rfl, rfl⟩
  · refine .of (exec_bringupFill hb crcOk v ptm) ?_
    rw [fillDone_restored hr hg hi]
    exact ⟨rfl, rfl, hr, rfl, rfl, rfl, rfl, rfl, rfl⟩
  · refine .of (exec_assayBaseline hb hd hl m true) ?_
    rw [baseline_acked]
    exact ⟨rfl, rfl, rfl⟩
  · refine .of (exec_assayBaseline hb hd hl m false) ?_
    obtain ⟨args, he⟩ := baseline_unanswered s m mhz
    obtain ⟨hinbox, htick⟩ := baselineAsked_keeps s m mhz
    have hmhz := baselineAsked_mhz s m mhz
    have hdone : (baselineAsked s m mhz).assay.baselineDone = true ∧ (baselineAsked s m mhz).assay.req = none := ⟨rfl, rfl⟩
    rw [he]
    generalize baselineAsked s m mhz = u at hinbox htick hmhz hdone
    have hn : Logs u (u.note .marginNoAck .as_ args) := logs_note u _ _ _ _
    have ha : ((u.note .marginNoAck .as_ args).bump ⟨0x8060, 2, 32⟩).assay = u.assay := hn.assay
    rw [ha]
    exact ⟨hdone.1, hmhz, hdone.2, reports_note hinbox htick .marginNoAck .as_ args none⟩
  · refine .of (exec_homeReady (by simp [State.readyNow, hb, hg, hd, hs])) ?_
    have hn := logs_note { s with global := 2, interleaveLocked := true } .homeReady .ch [] none
    have hrep : Reports s (({ s with global := 2, interleaveLocked := true } : State).note .homeReady .ch []) 0x202 :=
      reports_note (u := { s with global := 2, interleaveLocked := true }) List.prefix_rfl rfl .homeReady .ch [] none
    generalize (({ s with global := 2, interleaveLocked := true } : State).note .homeReady .ch []) = u at hn hrep
    obtain ⟨hglobal, hlock, hboot, hinbox⟩ := endResume_keeps u
    exact ⟨hglobal.trans hn.global, hlock.trans hn.interleaveLocked, hrep.of_prefix hinbox, (hboot.trans hn.boot).trans hb⟩
  · refine .of (write_start ho) ?_
    have h := logs_reached s
    rw [reached_eq]
    generalize s.gev 0x10C = g at h
    exact start_config (h.global.trans hg)
  · refine .of (write_start ho) ?_
    have h := logs_reached s
    rw [reached_eq]
    generalize s.gev 0x10C = g at h
    obtain ⟨hs, hglob⟩ := start_later (s := g) (by rw [h.global]; exact hg)
    exact ⟨hs.trans h.startSeen, hglob.trans h.global⟩

end Sys2Proof.Machine
end

section
/-! PROOFS. The Reckoner takes samples and sweeps (R482, R484, R485). -/

namespace Sys2Proof.Machine

theorem takeSample_eq {s : State} {x : Sample} {rest : List Sample} (h : s.tally.inbox = x :: rest) (lat : Nat) :
    takeSample s lat false = ({ s with tally := { s.tally with inbox := rest } } : State).modChan x.chan (fun c =>
      if chanTakes c.cfg x.measure x.filter then { c with cur := addSample c.cur (x.value.getD lat) (chanShift c.cfg) } else c) := by
  simp only [takeSample, h, Bool.false_eq_true, ↓reduceIte]

theorem takeSample_full {s : State} {x : Sample} {rest : List Sample} (h : s.tally.inbox = x :: rest) (lat : Nat) :
    takeSample s lat true =
      ((({ s with tally := { s.tally with inbox := rest } } : State).bump ⟨0xB800, 1, 64⟩).gev 0x10B).modChan x.chan
        (fun c => { c with cur := { c.cur with flags := c.cur.flags ||| 1 } }) := by
  simp only [takeSample, h, ↓reduceIte]

/-- A channel that is not the empty one reads back as written. -/
theorem chan_modChan (s : State) (c : Nat) (f : Chan → Chan) (h : f (s.chan c) ≠ {}) : (s.modChan c f).chan c = f (s.chan c) :=
  KV.get_set_ne_default c _ h

theorem addSample_count_pos (x : Win) (v shift : Nat) : (addSample x v shift).count ≠ 0 := by
  simp [addSample]

/-- One bin of the histogram gains the value. -/
theorem hist_addSample (x : Win) (v shift b : Nat) (h : KV.wf x.hist = true) :
    KV.get (addSample x v shift).hist b 0 =
      if b = binOf (v >>> shift) then min (KV.get x.hist b 0 + 1) (2 ^ 32 - 1) else KV.get x.hist b 0 := by
  show KV.get (KV.set x.hist (binOf (v >>> shift)) _ 0) b 0 = _
  split
  · rename_i e
    rw [e]
    exact KV.get_set _ _ 0 h
  · rename_i e
    show (KV.find? _ b).getD 0 = _
    rw [KV.find_set_ne e _ 0 h]
    rfl

/-- The sample that the channel takes enters the open window (R484). -/
theorem takeSample_taken {s : State} {x : Sample} {rest : List Sample} (h : s.tally.inbox = x :: rest)
    (ht : chanTakes (s.chan x.chan).cfg x.measure x.filter = true) (lat : Nat) :
    ((takeSample s lat false).chan x.chan).cur
      = addSample (s.chan x.chan).cur (x.value.getD lat) (chanShift (s.chan x.chan).cfg) := by
  rw [takeSample_eq h]
  have hc : ({ s with tally := { s.tally with inbox := rest } } : State).chan x.chan = s.chan x.chan := rfl
  rw [chan_modChan]
  · rw [hc, if_pos ht]
  · rw [hc, if_pos ht]
    intro e
    exact addSample_count_pos _ _ _ (congrArg (fun c : Chan => c.cur.count) e)

/-- A sweep moves the window numbers, the channels and its counter. -/
theorem sweepWindow_eq {s : State} {k : Nat} {rest : List Nat} (h : s.tally.due = k :: rest) :
    sweepWindow s = ({ s with tally := { s.tally with
        due := rest, lastNum := s.tally.curNum, curNum := k / max 1 (s.rawN 0xB800 0), held := false
        chans := sweepChans s.build s.tally.held s.tally.chans } } : State).bump ⟨0xB800, 2, 64⟩ := by
  simp only [sweepWindow, h]

theorem sweepChans_single (b : Build) (c : Nat) (x : Chan) :
    KV.get (sweepChans b false [(c, x)]) c {} = x.sweep false :=
  KV.get_set c (x.sweep false) {} (m := []) rfl

/-- Settles O12: a sample that is taken enters the window by `addSample`, one that finds the FIFO full counts, and a sweep
is `sweepChans` with the numbers moved. -/
theorem tallyTakesSamplesAndSweeps : Obligations.TallyTakesSamplesAndSweeps := by
  unfold Obligations.TallyTakesSamplesAndSweeps
  refine ⟨fun s x rest lat hin => ⟨fun ht => ?_, fun hinv => ?_⟩, fun s k rest hinv hdue => ?_⟩
  · refine .of (show exec (.tallySample lat false) s = .next (takeSample s lat false) from rfl) ?_
    intro v o n
    have hn : n = addSample o v (chanShift (s.chan x.chan).cfg) := takeSample_taken hin ht lat
    rw [hn]
    refine ⟨?_, rfl, rfl, rfl, ?_, fun b hb => hist_addSample o v _ b hb, ?_, ?_, ?_⟩
    · rw [takeSample_eq hin]; rfl
    · simp [addSample]
    · rw [takeSample_eq hin]; rfl
    · rw [takeSample_eq hin]; rfl
    · rw [takeSample_eq hin]; rfl
  · obtain ⟨-, -, -, -, -, hchart, -⟩ := hinv
    refine .of (show exec (.tallySample lat true) s = .next (takeSample s lat true) from rfl) ?_
    rw [takeSample_full hin]
    have hcount : (({ s with tally := { s.tally with inbox := rest } } : State).bump ⟨0xB800, 1, 64⟩).rawN 0xB800 1
        = (s.rawN 0xB800 1 + 1) % 2 ^ 64 := rawN_bump { s with tally := { s.tally with inbox := rest } } _ _ _ hchart (by decide)
    have hwf : KV.wf (({ s with tally := { s.tally with inbox := rest } } : State).bump ⟨0xB800, 1, 64⟩).chart = true :=
      KV.set_wf _ _ _ hchart
    obtain ⟨hti, hjo, hou⟩ : (({ s with tally := { s.tally with inbox := rest } } : State).bump ⟨0xB800, 1, 64⟩).tally.inbox = rest
      ∧ (({ s with tally := { s.tally with inbox := rest } } : State).bump ⟨0xB800, 1, 64⟩).journal = s.journal
      ∧ (({ s with tally := { s.tally with inbox := rest } } : State).bump ⟨0xB800, 1, 64⟩).out = s.out := ⟨rfl, rfl, rfl⟩
    generalize (({ s with tally := { s.tally with inbox := rest } } : State).bump ⟨0xB800, 1, 64⟩) = u at *
    have hg := (logs_gev u 0x10B 0xFF).rawN hwf (i := 0xB800) (j := 1) (apart (by decide))
    obtain ⟨c, hc⟩ := gev_eq u 0x10B 0xFF
    rw [hc] at hg ⊢
    exact ⟨hti, hg.trans hcount, hjo, hou⟩
  · obtain ⟨-, -, -, -, -, hchart, -⟩ := hinv
    refine .of (show exec .tallyWindow s = .next (sweepWindow s) from rfl) ?_
    rw [sweepWindow_eq hdue]
    refine ⟨rfl, rfl, rfl, rawN_bump { s with tally := _ } _ _ _ hchart (by decide), rfl, fun c x hh hc => ?_, rfl, rfl, rfl⟩
    have hx : ∀ u : State, u.tally.chans = sweepChans s.build s.tally.held s.tally.chans → u.chan c = x.sweep false := by
      intro u hu
      unfold State.chan
      rw [hu, hh, hc]
      exact sweepChans_single s.build c x
    rw [hx _ rfl]
    exact ⟨rfl, rfl, rfl⟩

end Sys2Proof.Machine
end

section
/-! PROOFS. The Journal: records stored and policed, alarm periods, pointers and reads (R493 to R502). -/

namespace Sys2Proof.Machine

/-! ## Offers to a stream -/

theorem noticed_eq (s : State) (k : Nat) :
    s.noticed k = { s.bump ⟨0xC000 + k, 0xB, 64⟩ with out := s.out ++ [.notice k] } :=
  send_of_not_stopped _ rfl

/-- What an offer to stream `k` may move: the stream, its counters and what is sent. -/
structure Offered (k : Nat) (a b : State) : Prop where
  eq : b = { a with chart := b.chart, out := b.out, journal := { a.journal with streams := b.journal.streams } }
  streams : ∀ j ≠ k, b.stream j = a.stream j
  entries : KV.wf a.chart = true → KV.wf b.chart = true ∧
    ∀ i j, Apart (ekey i j) → j < 256 → ¬ (i = 0xC000 + k ∧ (j = 7 ∨ j = 8 ∨ j = 9 ∨ j = 0xB)) → b.rawN i j = a.rawN i j

theorem Offered.refl (k : Nat) (a : State) : Offered k a a := ⟨rfl, fun _ _ => rfl, fun h => ⟨h, fun _ _ _ _ _ => rfl⟩⟩

theorem Offered.trans {k : Nat} {a b c : State} (h : Offered k a b) (g : Offered k b c) : Offered k a c where
  eq := by
    calc c = _ := g.eq
      _ = _ := by rw [h.eq]
  streams j hj := (g.streams j hj).trans (h.streams j hj)
  entries hw := by
    obtain ⟨hb, he⟩ := h.entries hw
    obtain ⟨hc, he'⟩ := g.entries hb
    exact ⟨hc, fun i j ha hj hn => (he' i j ha hj hn).trans (he i j ha hj hn)⟩

theorem stream_modStream_ne (s : State) {k j : Nat} (f : Stream → Stream) (h : j ≠ k) :
    (s.modStream k f).stream j = s.stream j := by
  simp [State.stream, State.modStream, Ne.symm h]

theorem offered_modStream (s : State) (k : Nat) (f : Stream → Stream) : Offered k s (s.modStream k f) :=
  ⟨rfl, fun _ hj => stream_modStream_ne s f hj, fun h => ⟨h, fun _ _ _ _ _ => rfl⟩⟩

/-- One of the counters of stream `k` counts. -/
theorem offered_bump (s : State) (k : Nat) {c : Nat} (w : Nat) (hc : c = 7 ∨ c = 8 ∨ c = 9 ∨ c = 0xB) :
    Offered k s (s.bump ⟨0xC000 + k, c, w⟩) := by
  refine ⟨rfl, fun _ _ => rfl, fun h => ⟨KV.set_wf _ _ _ h, fun i j _ hj hn => ?_⟩⟩
  refine rawN_setRawN_ne s _ h ?_
  simp only [ekey]
  intro e
  exact hn ⟨by omega, by omega⟩

theorem offered_gev (s : State) (k code unit : Nat) : Offered k s (s.gev code unit) := by
  have hg := logs_gev s code unit
  obtain ⟨c, hc⟩ := gev_eq s code unit
  refine ⟨by rw [hc], fun _ _ => by rw [hc]; rfl, fun h => ⟨hg.chart_wf h, fun i j ha _ _ => hg.rawN h ha⟩⟩

theorem offered_noticed (s : State) (k : Nat) : Offered k s (s.noticed k) := by
  rw [noticed_eq]
  exact (offered_bump s k 64 (by omega)).trans ⟨rfl, fun _ _ => rfl, fun h => ⟨h, fun _ _ _ _ _ => rfl⟩⟩

theorem offered_dropRec (s : State) (k : Nat) (policed : Bool) (r : JRec) : Offered k s (s.dropRec k policed r) := by
  refine .trans (.trans (offered_modStream s k _) (offered_bump _ k 64 ?_)) (offered_gev _ k _ _)
  cases policed <;> simp

theorem offered_offer (s : State) (k : Nat) (r : JRec) : Offered k s (offer s k r) := by
  unfold offer
  extract_lets x ex gap
  split
  · exact offered_dropRec s k _ r
  · split
    · exact offered_dropRec s k _ r
    · split
      · exact offered_dropRec s k _ r
      · split
        · exact offered_dropRec s k _ r
        · split
          · exact offered_dropRec s k _ r
          · extract_lets z s1 s2
            have h1 : Offered k s s1 := offered_modStream s k _
            have h2 : Offered k s s2 := by
              show Offered k s (ite _ _ _)
              split
              · exact (h1.trans (offered_bump s1 k 32 (by omega))).trans (offered_noticed _ k)
              · exact h1
            exact h2.trans (offered_noticed s2 k)

theorem Offered.out_dropRec (s : State) (k : Nat) (policed : Bool) (r : JRec) : (s.dropRec k policed r).out = s.out := by
  unfold State.dropRec
  obtain ⟨c, hc⟩ := gev_eq ((s.modStream k (fun x => { x with drops := x.drops.add policed s.time.tick r.code })).bump
    ⟨0xC000 + k, if policed then 7 else 8, 64⟩) 0x10A k
  rw [hc]
  rfl

theorem stream_dropRec (s : State) {k : Nat} (hk : k < s.journal.streams.length) (policed : Bool) (r : JRec) :
    (s.dropRec k policed r).stream k = { s.stream k with drops := (s.stream k).drops.add policed s.time.tick r.code } := by
  unfold State.dropRec
  obtain ⟨c, hc⟩ := gev_eq ((s.modStream k (fun x => { x with drops := x.drops.add policed s.time.tick r.code })).bump
    ⟨0xC000 + k, if policed then 7 else 8, 64⟩) 0x10A k
  rw [hc]
  exact stream_modStream s _ hk

/-! ## Event records (R493 to R496) -/

/-- Only the Fault stream exempts records from its policer. -/
theorem exempts_false {x : Stream} {k : Nat} {r : JRec} (h : k ≠ 0) : x.exempts k r = false := by
  simp [Stream.exempts, h]

/-- A record that finds a token and room is stored with the next SEQ. -/
theorem offer_stored {s : State} {r : JRec} (hr : s.inReset = false) (hon : (s.stream 2).fn.st = .on)
    (ht : (s.stream 2).tokens ≠ 0) (hd : (s.stream 2).drops.policed + (s.stream 2).drops.full = 0)
    (hroom : bankBytes (s.stream 2).fill + r.bytes ≤ 16384 - 64) :
    ∃ z : Stream, offer s 2 r = (s.modStream 2 (fun _ => z)).noticed 2 ∧ z.fill = (s.stream 2).fill ++ [{ r with seq := (s.stream 2).seq }]
      ∧ z.seq = ((s.stream 2).seq + 1) % 2 ^ 32 ∧ z.tokens = (s.stream 2).tokens - 1 := by
  have hplace : (s.stream 2).place 2 false r = some { s.stream 2 with
      seq := ((s.stream 2).seq + 1) % 2 ^ 32, wptr := (s.stream 2).wptr + r.bytes / 8, wptr2 := (s.stream 2).wptr2 + r.bytes / 8
      fill := (s.stream 2).fill ++ [{ r with seq := (s.stream 2).seq }] } := by
    unfold Stream.place
    exact if_pos hroom
  have hshut : streamShut s 2 = false := by simp [streamShut, hon]
  have hgap : ((s.stream 2).drops.policed + (s.stream 2).drops.full != 0) = false := by simp [hd]
  have htok : ((s.stream 2).tokens == 0) = false := by simpa using ht
  refine ⟨{ s.stream 2 with
      seq := ((s.stream 2).seq + 1) % 2 ^ 32, wptr := (s.stream 2).wptr + r.bytes / 8, wptr2 := (s.stream 2).wptr2 + r.bytes / 8
      fill := (s.stream 2).fill ++ [{ r with seq := (s.stream 2).seq }], tokens := (s.stream 2).tokens - 1, drops := {} },
    ?_, rfl, rfl, rfl⟩
  simp only [offer, hr, hshut, exempts_false (show (2 : Nat) ≠ 0 by decide), htok, hgap, hplace, Bool.false_eq_true, ↓reduceIte,
    Bool.and_false]

/-- Without a token, or where the stream is not ON, the record is policed (R496, R502). -/
theorem offer_policed {s : State} {r : JRec} (hr : s.inReset = false)
    (h : (s.stream 2).fn.st ≠ .on ∨ (s.stream 2).tokens = 0) : offer s 2 r = s.dropRec 2 true r := by
  have hex : (s.stream 2).exempts 2 r = false := exempts_false (by decide)
  unfold offer
  extract_lets x ex gap
  rw [if_neg (by simp [hr])]
  split
  · rfl
  · rename_i hshut
    have hon : (s.stream 2).fn.st = .on := by simpa [streamShut] using hshut
    have ht : (s.stream 2).tokens = 0 := h.resolve_left (fun g => g hon)
    exact if_pos (by simp [ex, x, hex, ht])

/-! ## Alarm periods (R497) -/

/-- The repeat records of the period that begins at Tick `k`. -/
def repeats (s : State) (k : Nat) : List JRec :=
  (s.journal.causes.filter (fun c => c.count != 0)).map (fun c =>
    { c.last with args := (List.range 4).map (fun i => c.last.args.getD i 0) ++ [c.count],
                  tick := k, ptm := s.ptmStamp.1, ptmInv := s.ptmStamp.2 })

theorem alarmPeriod_eq {s : State} {k : Nat} {rest : List Nat} (h : s.journal.alarmDue = k :: rest) :
    alarmPeriod s = (repeats s k).foldl (fun s r => offer s 1 r)
      { s with journal := { s.journal with alarmDue := rest, causes := (repeats s k).map (fun r => ⟨r.code, r.src, 0, r⟩) } } := by
  simp only [alarmPeriod, h]
  rfl

theorem offered_foldl (k : Nat) (l : List JRec) : ∀ s : State, Offered k s (l.foldl (fun s r => offer s k r) s) := by
  induction l with
  | nil => exact .refl k
  | cons r l ih => exact fun s => (offered_offer s k r).trans (ih _)

theorem Offered.causes {k : Nat} {a b : State} (h : Offered k a b) : b.journal.causes = a.journal.causes := by rw [h.eq]
theorem Offered.alarmDue {k : Nat} {a b : State} (h : Offered k a b) : b.journal.alarmDue = a.journal.alarmDue := by rw [h.eq]
theorem Offered.inbox {k : Nat} {a b : State} (h : Offered k a b) : b.journal.inbox = a.journal.inbox := by rw [h.eq]
theorem Offered.tally {k : Nat} {a b : State} (h : Offered k a b) : b.tally = a.tally := by rw [h.eq]

/-- Settles O13: an Event record goes to `offer` on stream 2, which stores or polices it, and an alarm period is the offers
of the repeated causes. -/
theorem journalStoresAndPolices : Obligations.JournalStoresAndPolices := by
  unfold Obligations.JournalStoresAndPolices
  refine ⟨fun s r rest hinv hr hin hst => ?_, fun s k rest hdue => ?_⟩
  · obtain ⟨-, -, -, hlen, -⟩ := hinv
    intro x
    have htake : takeRec s = offer { s with journal := { s.journal with inbox := rest } } 2 r := by
      simp only [takeRec, hin, receiveRec, hst, beq_iff_eq, OfNat.ofNat_ne_zero, OfNat.ofNat_ne_one, ↓reduceIte]
    have hexec : exec .journalRecord s = .next (takeRec s) := rfl
    rw [htake] at hexec
    have hx : ({ s with journal := { s.journal with inbox := rest } } : State).stream 2 = x := rfl
    have hlen' : 2 < ({ s with journal := { s.journal with inbox := rest } } : State).journal.streams.length := by
      show 2 < s.journal.streams.length
      omega
    generalize hu : ({ s with journal := { s.journal with inbox := rest } } : State) = u at hexec hx hlen'
    obtain ⟨huin, hut, huo, hur⟩ : u.journal.inbox = rest ∧ u.tally = s.tally ∧ u.out = s.out ∧ u.inReset = false := by
      rw [← hu]; exact ⟨rfl, rfl, rfl, hr⟩
    refine ⟨fun hon ht hd hroom => .of hexec ?_, fun h => .of hexec ?_⟩
    · rw [← hx] at hon ht hd hroom ⊢
      obtain ⟨z, he, hfill, hseq, htok⟩ := offer_stored hur hon ht hd hroom
      have hz : ((u.modStream 2 (fun _ => z)).noticed 2).stream 2 = z := by
        rw [noticed_eq]
        exact stream_modStream u (fun _ => z) hlen'
      rw [he, hz]
      refine ⟨?_, hfill, hseq, htok, ?_, ?_⟩ <;> rw [noticed_eq]
      · exact huin
      · exact congrArg (· ++ [Out.notice 2]) huo
      · exact hut
    · rw [← hx] at h ⊢
      rw [offer_policed hur h, stream_dropRec u hlen' true r]
      exact ⟨(offered_dropRec u 2 true r).inbox.trans huin, rfl, rfl, rfl, rfl, (Offered.out_dropRec u 2 true r).trans huo⟩
  · refine .of (show exec .alarmWindow s = .next (alarmPeriod s) from rfl) ?_
    rw [alarmPeriod_eq hdue]
    have ho := offered_foldl 1 (repeats s k) { s with journal := { s.journal with
      alarmDue := rest, causes := (repeats s k).map (fun r => ⟨r.code, r.src, 0, r⟩) } }
    refine ⟨ho.alarmDue, ?_, ?_, fun hz => ?_⟩
    · rw [ho.causes]
      show (((repeats s k).map (fun r => (⟨r.code, r.src, 0, r⟩ : Cause))).map (fun c => (c.code, c.src))) = _
      simp only [repeats, List.map_map]
      rfl
    · rw [ho.causes]
      intro c hc
      obtain ⟨r, -, rfl⟩ := List.mem_map.mp hc
      rfl
    · have hnone : repeats s k = [] := by
        unfold repeats
        rw [List.filter_eq_nil_iff.mpr (fun c hc => by simp [hz c hc])]
        rfl
      rw [hnone]
      exact ⟨rfl, rfl⟩

end Sys2Proof.Machine
end

section
/-! PROOFS. Stream pointers and reads of JN_DATA (R499 to R501), and the clears by firmware (R272, R487, R503). -/

namespace Sys2Proof.Machine

/-! ## Pointers that differ (R501) -/

/-- Each record held counts as a full drop. -/
theorem full_foldl_add (l : List JRec) (tick : Nat) :
    ∀ d : Drops, (l.foldl (fun d r => d.add false tick r.code) d).full = d.full + l.length := by
  induction l with
  | nil => exact fun _ => rfl
  | cons r l ih =>
    intro d
    rw [List.foldl_cons, ih, List.length_cons]
    show d.full + 1 + l.length = _
    omega

/-- The stream whose pointers differ: empty, with the records it held counted as dropped. -/
def Stream.pointerReset (x : Stream) (held : List JRec) (tick : Nat) : Stream :=
  { x with
    fill := [], drain := [], word := 0, wptr := 0, wptr2 := 0, rptr := 0, rptr2 := 0
    drops := held.foldl (fun d r => d.add false tick r.code) x.drops }

/-- The stream reset and counted; what follows is the JOURNAL_POINTER record. -/
def pointersReset (s : State) (k : Nat) : State :=
  let held := (s.stream k).fill ++ (s.stream k).drain
  ((s.modStream k (fun x => x.pointerReset held s.time.tick)).bumpBy ⟨0xC000 + k, 8, 64⟩ held.length).bump ⟨0xC000 + k, 0xA, 32⟩

theorem stream_pointersReset (s : State) {k : Nat} (hk : k < s.journal.streams.length) :
    (pointersReset s k).stream k
      = (s.stream k).pointerReset ((s.stream k).fill ++ (s.stream k).drain) s.time.tick :=
  stream_modStream s _ hk

/-- JN's node is no Till, so its Fault record enters no first-fault register. -/
theorem nodeAt_jn (b : Build) : b.nodeAt (b.nodeId .jn) = some .jn := by cases b <;> rfl

theorem receiveRec_ofJn {s : State} {r : JRec} (h0 : r.stream = 0) (hsrc : r.src = s.build.nodeId .jn) :
    receiveRec s r = offer s 0 r := by
  have hff : firstFault s r = s := by
    unfold firstFault
    rw [hsrc, nodeAt_jn]
  unfold receiveRec
  rw [if_pos (by simp [h0]), hff]

theorem resetPointers_eq (s : State) (k : Nat) : ∃ r, resetPointers s k = offer (pointersReset s k) 0 r :=
  ⟨_, receiveRec_ofJn (s := pointersReset s k) rfl rfl⟩

/-! ## A read of an empty stream (R500) -/

theorem readWord_empty {x : Stream} (hf : x.fill = []) (hd : x.drain = []) :
    x.readWord = ({ x with underrun := true }, x.lastWord) := by
  have hswap : x.readSwap = x := by simp [Stream.readSwap, hf]
  simp only [Stream.readWord, hswap, hd]

theorem readSlot_jnData {s : State} (hup : s.chartUp = true) {k : Nat} (hk : k < 3) :
    readSlot s false (0xC000 + k) 0 = (s.modStream k (fun _ => (s.stream k).readWord.1), (s.stream k).readWord.2) := by
  have hi : (decide (0xC000 ≤ 0xC000 + k) && decide (0xC000 + k < 0xC004) && ((0 : Nat) == 0)) = true := by
    simp only [Bool.and_eq_true, decide_eq_true_eq, beq_self_eq_true, and_true]
    omega
  have h3 : (k == 3) = false := by simp; omega
  unfold readSlot
  rw [if_neg (by simp [hup]), if_pos hi, Nat.add_sub_cancel_left]
  unfold jnRead
  rw [if_neg (by simp [h3])]

theorem exec_jnDataRead {s : State} (hup : s.chartUp = true) {k : Nat} (hk : k < 3) :
    exec (.jnDataRead k) s = .next (((s.modStream k (fun _ => (s.stream k).readWord.1)).gev 0x10C).send
      (.windowRead (s.stream k).readWord.2)) := by
  obtain ⟨hboot, -, -⟩ := chartUp_iff.mp hup
  have h4 : k < 4 := by omega
  show (if k < 4 then Host.Outcome.next (windowRead s (0xC000 + k) 0) else _) = _
  rw [if_pos h4]
  unfold windowRead
  rw [if_neg (by simp [hboot]), readSlot_jnData hup hk]
  dsimp only
  rw [if_pos hup]

/-- Settles O14: the record of the mismatch goes to stream 0, so the stream that was reset stays as the reset leaves it; an
empty stream has no word to read. -/
theorem journalPointersAndEmptyReads : Obligations.JournalPointersAndEmptyReads := by
  unfold Obligations.JournalPointersAndEmptyReads
  refine ⟨fun s k hinv h0 h4 => ?_, fun s k hinv hup hk hf hd => ?_⟩
  · obtain ⟨-, -, -, hlen, -, hchart, -⟩ := hinv
    have hexec : exec (.journalPointer k) s = .next (resetPointers s k) := if_pos h4
    refine .of hexec ?_
    obtain ⟨r, he⟩ := resetPointers_eq s k
    have ho := offered_offer (pointersReset s k) 0 r
    have hst : (offer (pointersReset s k) 0 r).stream k = (s.stream k).pointerReset _ s.time.tick :=
      (ho.streams k (by omega)).trans (stream_pointersReset s (by omega))
    have hwf : KV.wf (pointersReset s k).chart = true := KV.set_wf _ _ _ (KV.set_wf _ _ _ hchart)
    rw [he, hst]
    refine ⟨rfl, rfl, rfl, rfl, rfl, full_foldl_add _ _ _, ?_⟩
    rw [(ho.entries hwf).2 _ _ (apart (by omega)) (by decide) (by omega)]
    unfold pointersReset
    rw [rawN_bump _ _ _ _ (KV.set_wf _ _ _ hchart) (by decide)]
    refine congrArg (fun x => (x + 1) % 2 ^ 32) ?_
    exact rawN_setRawN_ne (s.modStream k _) _ hchart (by simp only [ekey]; omega)
  · obtain ⟨-, -, -, hlen, -⟩ := hinv
    refine .of (exec_jnDataRead hup hk) ?_
    rw [readWord_empty hf hd]
    have hst := stream_modStream s (fun _ => { s.stream k with underrun := true }) (k := k) (by omega)
    have hout : (s.modStream k (fun _ => { s.stream k with underrun := true })).out = s.out := rfl
    generalize s.modStream k (fun _ => { s.stream k with underrun := true }) = u at hst hout
    obtain ⟨c, hc⟩ := gev_eq u 0x10C 0xFF
    rw [hc, send_of_not_stopped _ rfl]
    refine ⟨⟨[.windowRead (s.stream k).lastWord], congrArg (· ++ _) hout, List.mem_singleton.mpr rfl⟩, ?_⟩
    show (u.stream k).underrun = true ∧ (u.stream k).fill = [] ∧ (u.stream k).drain = [] ∧ (u.stream k).lastWord = _
    rw [hst]
    exact ⟨rfl, hf, hd, rfl⟩

/-! ## COUNTERS_CLEAR (R487) -/

theorem KV.find_none {α : Type} {k : Nat} : ∀ {m : KV α}, (∀ p ∈ m, p.1 ≠ k) → KV.find? m k = none
  | [], _ => rfl
  | (k', w) :: t, h => by
    have h1 : k' ≠ k := h (k', w) (List.mem_cons_self ..)
    simp only [KV.find?, if_neg h1]
    rw [KV.find_none (fun p hp => h p (List.mem_cons_of_mem _ hp)), ite_self]

/-- The programmable counters: their index is a Till's or the Home's, and their subindex a counter's value. -/
def isCounterKey (k : Nat) : Prop := ((0xB600 ≤ k / 256 ∧ k / 256 < 0xB612) ∨ k / 256 = 0xB700) ∧ k % 256 < 0x40

/-- No counter value stays in the store. -/
theorem countersClear_find (s : State) {k : Nat} (h : isCounterKey k) : KV.find? (countersClear s).chart k = none := by
  obtain ⟨hi, hj⟩ := h
  refine KV.find_none fun p hp he => ?_
  obtain ⟨hp, -⟩ := List.mem_filter.mp hp
  obtain ⟨q, hq, rfl⟩ := List.mem_map.mp hp
  obtain ⟨-, hkept⟩ := List.mem_filter.mp hq
  have hqk : q.1 = k := by
    rw [← he]
    dsimp only
    split <;> rfl
  subst hqk
  have hctr : (decide (0xB600 ≤ q.1 / 256) && decide (q.1 / 256 < 0xB612) || q.1 / 256 == 0xB700) = true := by
    simpa using hi
  simp [hctr, hj] at hkept

theorem entryAt_counter {b : Build} {i j : Nat} (hi : (0xB600 ≤ i ∧ i < 0xB612) ∨ i = 0xB700) (hj : j < 0x40) :
    ((entryAt b i j).map (·.d)).getD 0 = 0 := by
  rw [entryAt_indexed (by simp only [rowIndices, List.mem_cons, List.not_mem_nil, or_false]; omega) (by omega)]
  unfold indexedRow
  repeat rw [if_neg (by simp only [Bool.and_eq_true, decide_eq_true_eq, beq_iff_eq]; omega)]
  rcases hi with hi | hi
  · rw [if_pos (by simp only [Bool.and_eq_true, decide_eq_true_eq]; omega)]
    split <;> rfl
  · rw [if_neg (by simp only [Bool.and_eq_true, decide_eq_true_eq]; omega), if_pos (by simp [hi]), if_pos hj]
    rfl

/-- A counter that is not in the store reads 0. -/
theorem rawN_counter_zero {s : State} {i j : Nat} (hi : (0xB600 ≤ i ∧ i < 0xB612) ∨ i = 0xB700) (hj : j < 0x40)
    (h : KV.find? s.chart (ekey i j) = none) : s.rawN i j = 0 := by
  unfold State.rawN State.raw State.edefault
  rw [h, entryAt_counter hi hj]
  rfl

/-- Settles O15: each clear, between the count of the window write and the count of the applied write. -/
theorem firmwareClears : Obligations.FirmwareClears := by
  unfold Obligations.FirmwareClears
  intro s hinv ho
  obtain ⟨-, -, -, -, -, hchart, -⟩ := hinv
  have hg := logs_reached s
  have hwf := hg.chart_wf hchart
  obtain ⟨c, hc⟩ := gev_eq s 0x10C 0xFF
  obtain ⟨hj, hta, hti, hou⟩ : (s.gev 0x10C).journal = s.journal ∧ (s.gev 0x10C).tally = s.tally
      ∧ (s.gev 0x10C).tills = s.tills ∧ (s.gev 0x10C).out = s.out := by rw [hc]; exact ⟨rfl, rfl, rfl, rfl⟩
  refine ⟨fun n hn => ?_, ?_, ?_⟩
  · refine .of (write_ffClear ho hn) ?_
    rw [reached_eq]
    generalize s.gev 0x10C = g at hwf hj
    refine ⟨congrArg (fun j : Journal => { j with ff := KV.del j.ff n }) hj, ?_⟩
    refine (rawN_setRawN_ne (ffClear g n) _ (KV.set_wf _ _ _ hwf) (by simp only [ekey]; omega)).trans ?_
    exact rawN_setRawN _ _ _ _ hwf (by decide)
  · refine .of (write_countersClear ho) ?_
    rw [reached_eq]
    generalize s.gev 0x10C = g at hwf hj hta
    have hcwf : KV.wf (countersClear g).chart = true :=
      KV.filter_wf _ (KV.map_wf (fun p => by dsimp only; split <;> rfl) (KV.filter_wf _ hwf))
    refine ⟨fun i j hi hj => ?_, hta, hj⟩
    refine (rawN_setRawN_ne (countersClear g) _ hcwf (by simp only [ekey]; omega)).trans ?_
    refine rawN_counter_zero hi hj (countersClear_find g ?_)
    simp only [isCounterKey, ekey]
    omega
  · refine .of (write_lostWritesClear ho) ?_
    rw [reached_eq]
    generalize s.gev 0x10C = g at hj hti hou
    exact ⟨rfl, hti, hou, hj⟩

end Sys2Proof.Machine
end

section
/-! PROOFS. Commits of the Bucket Map and the Region table, and the replicas that switch (R48, R49, R401, R402). -/

namespace Sys2Proof.Machine

/-! ## The conditions read alike once the write is counted -/

theorem Logs.badBucket {a b : State} (h : Logs a b) : b.badBucket = a.badBucket := by rw [h.eq]; rfl
theorem Logs.cachingActive {a b : State} (h : Logs a b) : b.cachingActive = a.cachingActive := by rw [h.eq]; rfl
theorem Logs.anyFolio {a b : State} (h : Logs a b) : b.anyFolio = a.anyFolio := by rw [h.eq]; rfl
theorem Logs.oldBGen {a b : State} (h : Logs a b) : b.oldBGen = a.oldBGen := by rw [h.eq]; rfl
theorem Logs.oldRGen {a b : State} (h : Logs a b) : b.oldRGen = a.oldRGen := by rw [h.eq]; rfl
theorem Logs.shadowRegion {a b : State} (h : Logs a b) : b.shadowRegion = a.shadowRegion := by rw [h.eq]; rfl
theorem Logs.untrackedChanges {a b : State} (h : Logs a b) : Machine.untrackedChanges b = Machine.untrackedChanges a := by
  rw [h.eq]; rfl
theorem Logs.madeRetentive {a b : State} (h : Logs a b) : b.madeRetentive = a.madeRetentive := by rw [h.eq]; rfl

/-! ## The writes -/

theorem command_mapCommit (s : State) (a : Author) (v : Nat) :
    command s a 0x2010 0 v = if v == 1 then mapCommit s else s := rfl

theorem command_regionCommit (s : State) (a : Author) (v : Nat) :
    command s a 0x2012 0 v = if v == 1 then regionCommit s else s := rfl

theorem toNat_ne_one {v : BitVec 8} (h : v ≠ 1) : (v.toNat == 1) = false := by
  simp only [beq_eq_false_iff_ne, ne_eq]
  exact fun e => h (BitVec.eq_of_toNat_eq e)

/-- Another value than 1 reaches CH and has no effect. -/
theorem exec_commit_other {s : State} (ho : s.windowOpen) {v : BitVec 8} (hv : v ≠ 1) :
    exec (.bucketMapCommit v) s = .next (reached s id) ∧ exec (.regionCommit v) s = .next (reached s id) := by
  refine ⟨(chartCmd_fixed ho (c := .bucketMapCommit v) (h := none) (i := 0x2010) (j := 0) (v := v.toNat) rfl rfl
      (fun b => by cases b <;> rfl) ?_).trans ?_,
    (chartCmd_fixed ho (c := .regionCommit v) (h := none) (i := 0x2012) (j := 0) (v := v.toNat) rfl rfl
      (fun b => by cases b <;> rfl) ?_).trans ?_⟩
  · exact ⟨by decide, by decide, by decide, v.isLt, by decide, by decide, by decide⟩
  · simp only [command_mapCommit, toNat_ne_one hv]; rfl
  · exact ⟨by decide, by decide, by decide, v.isLt, by decide, by decide, by decide⟩
  · simp only [command_regionCommit, toNat_ne_one hv]; rfl

/-! ## BUCKET_MAP_COMMIT (R48) -/

theorem mapCommit_running {s : State} (h : s.maps.bPend ≠ []) : mapCommit s = s := by
  simp [mapCommit, h]

theorem mapCommit_busy {s : State} (h : s.maps.bPend = []) (hb : s.transfers ≠ [] ∨ s.oldBGen = true) :
    mapCommit s = { s with maps := { s.maps with bResult := 1 } } := by
  simp [mapCommit, h, hb]

theorem mapCommit_invalid {s : State} (h : s.maps.bPend = []) (ht : s.transfers = []) (ho : s.oldBGen = false)
    (hb : ∃ b, b < 4096 ∧ s.badBucket b = true) : mapCommit s = { s with maps := { s.maps with bResult := 3 } } := by
  have hany : (List.range 4096).any s.badBucket = true := by simpa [List.any_eq_true] using hb
  simp only [mapCommit, h, ht, ho, hany, List.isEmpty_nil, Bool.not_true, Bool.or_self, Bool.false_eq_true, ↓reduceIte]

/-- What is left of a commit that every check of R48 up to the map itself has passed. -/
theorem mapCommit_legal {s : State} (h : s.maps.bPend = []) (ht : s.transfers = []) (ho : s.oldBGen = false)
    (hb : ∀ b, b < 4096 → s.badBucket b = false) : mapCommit s =
      if s.maps.bShadow == s.maps.bLive then { s with maps := { s.maps with bResult := 0 } }
      else if s.cachingActive || s.anyFolio then { s with maps := { s.maps with bResult := 2 } }
      else startMapCommit s s.maps.bShadow false := by
  have hany : (List.range 4096).any s.badBucket = false := by
    rw [List.any_eq_false]
    intro b hmem
    simp [hb b (List.mem_range.mp hmem)]
  simp only [mapCommit, h, ht, ho, hany, List.isEmpty_nil, Bool.not_true, Bool.or_self, Bool.false_eq_true, ↓reduceIte]

/-! ## REGION_COMMIT (R401) -/

theorem regionCommit_running {s : State} (h : s.maps.rPend ≠ []) : regionCommit s = s := by
  simp [regionCommit, h]

theorem regionCommit_busy {s : State} (h : s.maps.rPend = []) (hb : s.maps.bPend ≠ [] ∨ s.transfers ≠ [] ∨ s.oldRGen = true) :
    regionCommit s = { s with maps := { s.maps with rResult := 1 } } := by
  have hc : (!s.maps.bPend.isEmpty || !s.transfers.isEmpty || s.oldRGen) = true := by simpa [or_assoc] using hb
  simp only [regionCommit, h, hc, List.isEmpty_nil, Bool.not_true, Bool.false_eq_true, ↓reduceIte]

/-- What is left of a commit that nothing keeps busy. -/
theorem regionCommit_checked {s : State} (h : s.maps.rPend = []) (hb : s.maps.bPend = []) (ht : s.transfers = [])
    (ho : s.oldRGen = false) {o : Option Nat} (hf : (List.range 64).find? (fun n => (s.shadowRegion n).illegal n) = o) :
    regionCommit s = match o with
      | some n => { s with maps := { s.maps with rResult := 3, rFail := n } }
      | none => if untrackedChanges s && s.cachingActive then { s with maps := { s.maps with rResult := 2 } }
          else if s.maps.rShadow == s.maps.rLive then { s with maps := { s.maps with rResult := 0 } }
          else startRegionCommit s := by
  simp only [regionCommit, h, hb, ht, ho, hf, List.isEmpty_nil, Bool.not_true, Bool.or_self, Bool.false_eq_true, ↓reduceIte]
  cases o <;> rfl

theorem find_illegal {s : State} {n : Nat} (hn : n < 64) (hbelow : ∀ m, m < n → (s.shadowRegion m).illegal m = false)
    (h : (s.shadowRegion n).illegal n = true) : (List.range 64).find? (fun n => (s.shadowRegion n).illegal n) = some n := by
  rw [List.find?_range_eq_some]
  exact ⟨h, List.mem_range.mpr hn, fun m hm => by simp [hbelow m hm]⟩

theorem find_illegal_none {s : State} (h : ∀ n, n < 64 → (s.shadowRegion n).illegal n = false) :
    (List.range 64).find? (fun n => (s.shadowRegion n).illegal n) = none := by
  rw [List.find?_eq_none]
  intro n hn
  simp [h n (List.mem_range.mp hn)]

/-- A listed key stays listed when another is. -/
theorem KV.isSome_put {α : Type} (j : Nat) (v : α) {n : Nat} :
    ∀ {m : KV α}, (KV.find? m n).isSome = true → (KV.find? (KV.put m j v) n).isSome = true
  | (k, w) :: t, h => by
    have ih := KV.isSome_put j v (n := n) (m := t)
    simp only [KV.find?] at h
    unfold KV.put
    split
    · rename_i e
      subst e
      simp only [KV.find?]
      split
      · rfl
      · rename_i hne
        rw [if_neg hne] at h
        exact h
    · rename_i hkj
      split
      · rename_i hlt
        simp only [KV.find?]
        split
        · rfl
        · rename_i hjn
          rw [if_neg]
          · exact h
          · intro hnj
            rw [if_neg (by omega), if_pos (by omega)] at h
            cases h
      · simp only [KV.find?]
        split
        · rfl
        · rename_i hkn
          rw [if_neg hkn] at h
          split
          · rename_i hnk
            rw [if_pos hnk] at h
            exact h
          · rename_i hnk
            rw [if_neg hnk] at h
            exact ih h

theorem isSome_foldl_put {l : List Nat} {n : Nat} :
    ∀ {m : KV Nat}, n ∈ l ∨ (KV.find? m n).isSome = true → (KV.find? (l.foldl (fun m n => KV.put m n 0) m) n).isSome = true := by
  induction l with
  | nil => exact fun h => h.resolve_left List.not_mem_nil
  | cons k l ih =>
    intro m h
    refine ih ?_
    rcases h with h | h
    · rcases List.mem_cons.mp h with rfl | h
      · exact .inr (by rw [KV.find_put]; rfl)
      · exact .inl h
    · exact .inr (KV.isSome_put k 0 h)

/-! ## The replicas (R49, R402) -/

theorem hasWicket_lt {b : Build} {w : Nat} (h : b.hasWicket w = true) : w < 9 := by
  have hw : w < b.wickets ∨ w = 8 := by simpa [Build.hasWicket, Build.ws] using h
  have hle : b.wickets ≤ 8 := by cases b <;> decide
  omega

theorem replica_lt {b : Build} {n : Nat} (h : hasReplica b n = true) (h9 : n ≠ 9) : n < 9 :=
  hasWicket_lt (by simpa [hasReplica, h9] using h)

theorem exec_bucketMapSwitch {s : State} {n : Nat} (h : hasReplica s.build n = true) :
    exec (.bucketMapSwitch n) s = .next (mapSwitch s n) := if_neg (by simp [h])

theorem exec_regionTableSwitch {s : State} {n : Nat} (h : hasReplica s.build n = true) :
    exec (.regionTableSwitch n) s = .next (regionSwitch s n) := if_neg (by simp [h])

/-- The replica has left the list of those that have not switched the map. -/
def State.leftMap (s : State) (n : Nat) : State := { s with maps := { s.maps with bPend := s.maps.bPend.filter (· != n) } }

/-- The replica has left the list of those that have not switched the Region table. -/
def State.leftRegion (s : State) (n : Nat) : State := { s with maps := { s.maps with rPend := s.maps.rPend.filter (· != n) } }

theorem nextTransfer_none {s : State} (h : s.transfers = []) : nextTransfer s = s := by
  simp [nextTransfer, h]

theorem mapSwitched_maps (s : State) : (mapSwitched s).maps =
    if s.maps.bPend.isEmpty then { s.maps with bGen := (s.maps.bGen + 1) % 2 ^ 32, bResult := 0, bPrev := [] } else s.maps := by
  unfold mapSwitched
  split <;> rfl

/-- A switch with no transfer: the requests not yet injected take their Till anew, and the last switch completes. -/
theorem mapSwitch_eq {s : State} {n : Nat} (hn : n ∈ s.maps.bPend) (ht : s.transfers = []) :
    mapSwitch s n = mapSwitched (if n == 9 then s.leftMap n else retarget (s.leftMap n) n) := by
  have hc : s.maps.bPend.contains n = true := by simpa using hn
  have htable : switchTable (s.leftMap n) n = s.leftMap n := by
    unfold switchTable
    split
    · rfl
    · rw [show (s.leftMap n).transfers = [] from ht]; rfl
  have hmarks : ∀ u : State, u.transfers = [] → sendMarks u n = u := fun u hu => by
    unfold sendMarks
    split
    · rfl
    · rw [hu]; rfl
  have hswitched : ∀ u : State, (mapSwitched u).transfers = u.transfers := fun u => by unfold mapSwitched; split <;> rfl
  unfold mapSwitch
  rw [if_neg (by rw [hc]; decide)]
  extract_lets m s1 s2 s3
  have h2 : s2 = if n == 9 then s.leftMap n else retarget (s.leftMap n) n := by
    show (if n == 9 then s.leftMap n else sendMarks (retarget (switchTable (s.leftMap n) n) n) n) = _
    rw [htable, hmarks (retarget (s.leftMap n) n) ht]
  have ht3 : s3.transfers = [] := by
    show (mapSwitched s2).transfers = []
    rw [hswitched, h2]
    split <;> exact ht
  rw [nextTransfer_none ht3, ite_self]
  exact congrArg mapSwitched h2

/-- A request that a Wicket has not injected goes to the Till that its replica names. -/
theorem till_of_retarget {s : State} {w : Nat} (hw : w < s.wickets.length) :
    ∀ e ∈ ((retarget s w).wicket w).entries, e.rcpt = none → e.till = s.routeTill w e.opc e.aid e.laddr := by
  unfold retarget
  rw [wicket_modWicket s _ hw]
  intro e he hr
  obtain ⟨e', -, rfl⟩ := List.mem_map.mp he
  split at hr
  · rename_i hsome
    rw [hr] at hsome
    cases hsome
  · rename_i hnone
    rw [if_neg hnone]

/-- The route of a request by what it depends on. -/
theorem routeTill_congr {a b : State} {w : Nat} (hx : (b.wicket w).swTable = (a.wicket w).swTable) (hm : b.ws.mirror = a.ws.mirror)
    (hr : b.replicaTill w = a.replicaTill w) : b.routeTill w = a.routeTill w := by
  funext o i l
  unfold State.routeTill
  rw [hx, hm, hr]

/-- The wait list without the replica that switches is empty where it was the last. -/
theorem filter_ne_isEmpty {l : List Nat} {n : Nat} : (l.filter (· != n)).isEmpty = true ↔ ∀ m ∈ l, m = n := by
  simp [List.isEmpty_iff, List.filter_eq_nil_iff]

/-- What a switch leaves of the maps. -/
theorem mapSwitch_maps {s : State} {n : Nat} (hn : n ∈ s.maps.bPend) (ht : s.transfers = []) :
    (mapSwitch s n).maps = (if (s.maps.bPend.filter (· != n)).isEmpty then
      { s.maps with bPend := s.maps.bPend.filter (· != n), bGen := (s.maps.bGen + 1) % 2 ^ 32, bResult := 0, bPrev := [] }
      else { s.maps with bPend := s.maps.bPend.filter (· != n) }) := by
  rw [mapSwitch_eq hn ht, mapSwitched_maps]
  have he : (if n == 9 then s.leftMap n else retarget (s.leftMap n) n).maps = (s.leftMap n).maps := by split <;> rfl
  rw [he]
  rfl

theorem mapSwitch_keeps {s : State} {n : Nat} (hn : n ∈ s.maps.bPend) (ht : s.transfers = []) :
    (mapSwitch s n).tills = s.tills ∧ (mapSwitch s n).out = s.out ∧ (mapSwitch s n).ws = s.ws
      ∧ (n ≠ 9 → (mapSwitch s n).wickets = (retarget (s.leftMap n) n).wickets) ∧ (mapSwitch s n).build = s.build := by
  rw [mapSwitch_eq hn ht]
  have hs : ∀ u : State, (mapSwitched u).tills = u.tills ∧ (mapSwitched u).out = u.out ∧ (mapSwitched u).ws = u.ws
      ∧ (mapSwitched u).wickets = u.wickets ∧ (mapSwitched u).build = u.build := fun u => by
    unfold mapSwitched; split <;> exact ⟨rfl, rfl, rfl, rfl, rfl⟩
  obtain ⟨h1, h2, h3, h4, h5⟩ := hs (if n == 9 then s.leftMap n else retarget (s.leftMap n) n)
  rw [h1, h2, h3, h4, h5]
  by_cases h9 : n = 9
  · subst h9
    exact ⟨rfl, rfl, rfl, fun h => absurd rfl h, rfl⟩
  · rw [if_neg (by simpa using h9)]
    exact ⟨rfl, rfl, rfl, fun _ => rfl, rfl⟩

theorem mapSwitch_routes {s : State} {n : Nat} (hn : n ∈ s.maps.bPend) (ht : s.transfers = []) (h9 : n ≠ 9)
    (hlen : n < s.wickets.length) :
    ∀ e ∈ ((mapSwitch s n).wicket n).entries, e.rcpt = none → e.till = (mapSwitch s n).routeTill n e.opc e.aid e.laddr := by
  obtain ⟨-, -, hws, hwickets, hbuild⟩ := mapSwitch_keeps hn ht
  have hw : (mapSwitch s n).wicket n = (retarget (s.leftMap n) n).wicket n := by unfold State.wicket; rw [hwickets h9]
  have hsw : ((retarget (s.leftMap n) n).wicket n).swTable = ((s.leftMap n).wicket n).swTable := by
    unfold retarget
    rw [wicket_modWicket _ _ (show n < (s.leftMap n).wickets.length from hlen)]
  have hpend : (mapSwitch s n).maps.bPend = s.maps.bPend.filter (· != n) ∧ (mapSwitch s n).maps.bLive = s.maps.bLive := by
    rw [mapSwitch_maps hn ht]
    split <;> exact ⟨rfl, rfl⟩
  have hrep : (mapSwitch s n).replicaTill n = (s.leftMap n).replicaTill n := by
    funext b
    unfold State.replicaTill State.liveTill
    rw [hpend.1, hpend.2, hbuild]
    rw [if_neg (by simp), if_neg (by simp [State.leftMap])]
    rfl
  have hroute := routeTill_congr (a := s.leftMap n) (b := mapSwitch s n) (w := n) (by rw [hw]; exact hsw)
    (by rw [hws]; rfl) hrep
  rw [hroute, hw]
  exact till_of_retarget hlen

/-- What a switch of the Region table leaves. -/
theorem regionSwitch_eq {s : State} {n : Nat} (hn : n ∈ s.maps.rPend) :
    (regionSwitch s n).maps = (if (s.maps.rPend.filter (· != n)).isEmpty then
      { s.maps with rPend := s.maps.rPend.filter (· != n), rGen := (s.maps.rGen + 1) % 2 ^ 32, rResult := 0, rPrev := [] }
      else { s.maps with rPend := s.maps.rPend.filter (· != n) })
    ∧ (regionSwitch s n).tills = s.tills ∧ (regionSwitch s n).out = s.out := by
  have hc : s.maps.rPend.contains n = true := by simpa using hn
  unfold regionSwitch
  rw [if_neg (by rw [hc]; decide)]
  extract_lets m s1 s2
  have h2 : s2.maps = (s.leftRegion n).maps ∧ s2.tills = s.tills ∧ s2.out = s.out := by
    show (ite _ _ _ : State).maps = _ ∧ (ite _ _ _ : State).tills = _ ∧ (ite _ _ _ : State).out = _
    split <;> exact ⟨rfl, rfl, rfl⟩
  clear_value s2
  obtain ⟨hm, ht, ho⟩ := h2
  have hp : s2.maps.rPend = s.maps.rPend.filter (· != n) := by rw [hm]; rfl
  by_cases he : (s.maps.rPend.filter (· != n)).isEmpty = true
  · rw [if_pos (by rw [hp]; exact he), if_pos he]
    refine ⟨?_, ht, ho⟩
    exact congrArg (fun m : Maps => { m with rGen := (m.rGen + 1) % 2 ^ 32, rResult := 0, rPrev := [] }) hm
  · rw [if_neg (by rw [hp]; exact he), if_neg he]
    exact ⟨hm, ht, ho⟩

/-- Settles O36: the rows of each commit act on the state that the counted write leaves, and a switch is the equation of the
maps above with the requests retargeted. -/
theorem mapCommitsAndReplicas : Obligations.MapCommitsAndReplicas := by
  unfold Obligations.MapCommitsAndReplicas
  refine ⟨fun s hinv ho => ?_, fun s n hinv hr => ?_⟩
  · have hg := logs_reached s
    have hbm := write_bucketMapCommit ho
    have hrm := write_regionCommit ho
    rw [reached_eq] at hbm hrm
    have hother : ∀ v : BitVec 8, v ≠ 1 → _ := fun v hv => exec_commit_other (s := s) ho (v := v) hv
    rw [reached_eq] at hother
    generalize s.gev 0x10C = g at hg hbm hrm hother
    have hm := hg.maps
    have htr := hg.transfers
    refine ⟨fun v hv => ?_, fun h => .of hbm ?_, fun h hbusy => .of hbm ?_, fun h ht hold => ⟨fun hbad => .of hbm ?_, fun hgood =>
        ⟨fun he => .of hbm ?_, fun hne hact => .of hbm ?_, fun hne hact hfol => .of hbm ?_⟩⟩,
      fun h => .of hrm ?_, fun h hbusy => .of hrm ?_, fun h hbp ht hold => ⟨fun n hn hbelow hill => .of hrm ?_, fun hlegal =>
        ⟨fun hun hact => .of hrm ?_, fun hok => ⟨fun he => .of hrm ?_, fun hne => .of hrm ?_⟩⟩⟩⟩
    · obtain ⟨h1, h2⟩ := hother v hv
      exact ⟨.of h1 ⟨hm, hg.au⟩, .of h2 ⟨hm, hg.au⟩⟩
    · rw [mapCommit_running (by rw [hm]; exact h)]
      exact hm
    · rw [mapCommit_busy (by rw [hm]; exact h) (by rw [htr, hg.oldBGen]; exact hbusy)]
      exact congrArg (fun m : Maps => { m with bResult := 1 }) hm
    · rw [mapCommit_invalid (by rw [hm]; exact h) (by rw [htr]; exact ht) (by rw [hg.oldBGen]; exact hold)
        (by rw [hg.badBucket]; exact hbad)]
      exact congrArg (fun m : Maps => { m with bResult := 3 }) hm
    · rw [mapCommit_legal (by rw [hm]; exact h) (by rw [htr]; exact ht) (by rw [hg.oldBGen]; exact hold)
        (by rw [hg.badBucket]; exact hgood), if_pos (by rw [hm]; simpa using he)]
      exact congrArg (fun m : Maps => { m with bResult := 0 }) hm
    · rw [mapCommit_legal (by rw [hm]; exact h) (by rw [htr]; exact ht) (by rw [hg.oldBGen]; exact hold)
        (by rw [hg.badBucket]; exact hgood), if_neg (by rw [hm]; simpa using hne),
        if_pos (by rw [hg.cachingActive, hg.anyFolio]; simpa using hact)]
      exact congrArg (fun m : Maps => { m with bResult := 2 }) hm
    · rw [mapCommit_legal (by rw [hm]; exact h) (by rw [htr]; exact ht) (by rw [hg.oldBGen]; exact hold)
        (by rw [hg.badBucket]; exact hgood), if_neg (by rw [hm]; simpa using hne),
        if_neg (by rw [hg.cachingActive, hg.anyFolio]; simp [hact, hfol])]
      have hbuild := hg.build
      exact (congrArg (fun m : Maps => { m with
        bPrev := m.bLive, bLive := m.bShadow, bShadow := m.bShadow, bPend := switchNodes g.build, bByTransfer := false
        bResult := 0 }) hm).trans (by rw [hbuild])
    · rw [regionCommit_running (by rw [hm]; exact h)]
      exact hm
    · rw [regionCommit_busy (by rw [hm]; exact h) (by rw [hm, htr, hg.oldRGen]; exact hbusy)]
      exact congrArg (fun m : Maps => { m with rResult := 1 }) hm
    · rw [regionCommit_checked (o := some n) (by rw [hm]; exact h) (by rw [hm]; exact hbp) (by rw [htr]; exact ht)
        (by rw [hg.oldRGen]; exact hold) (by rw [hg.shadowRegion]; exact find_illegal hn hbelow hill)]
      exact congrArg (fun m : Maps => { m with rResult := 3, rFail := n }) hm
    · rw [regionCommit_checked (o := none) (by rw [hm]; exact h) (by rw [hm]; exact hbp) (by rw [htr]; exact ht)
        (by rw [hg.oldRGen]; exact hold) (by rw [hg.shadowRegion]; exact find_illegal_none hlegal)]
      dsimp only
      rw [if_pos (by rw [hg.untrackedChanges, hg.cachingActive]; simp [hun, hact])]
      exact congrArg (fun m : Maps => { m with rResult := 2 }) hm
    · rw [regionCommit_checked (o := none) (by rw [hm]; exact h) (by rw [hm]; exact hbp) (by rw [htr]; exact ht)
        (by rw [hg.oldRGen]; exact hold) (by rw [hg.shadowRegion]; exact find_illegal_none hlegal)]
      dsimp only
      rw [if_neg (by rw [hg.untrackedChanges, hg.cachingActive]; rcases hok with e | e <;> simp [e]),
        if_pos (by rw [hm]; simpa using he)]
      exact congrArg (fun m : Maps => { m with rResult := 0 }) hm
    · rw [regionCommit_checked (o := none) (by rw [hm]; exact h) (by rw [hm]; exact hbp) (by rw [htr]; exact ht)
        (by rw [hg.oldRGen]; exact hold) (by rw [hg.shadowRegion]; exact find_illegal_none hlegal)]
      dsimp only
      rw [if_neg (by rw [hg.untrackedChanges, hg.cachingActive]; rcases hok with e | e <;> simp [e]),
        if_neg (by rw [hm]; simpa using hne)]
      have hbuild := hg.build
      refine ⟨(congrArg (fun m : Maps => { m with
        rPrev := m.rLive, rLive := m.rShadow, rPend := switchNodes g.build, rResult := 0 }) hm).trans (by rw [hbuild]), fun k hk => ?_⟩
      rw [← hg.madeRetentive] at hk
      exact isSome_foldl_put (.inl hk)
  · obtain ⟨-, hwlen, -⟩ := hinv
    refine ⟨fun hn => ?_, fun hn => ?_, fun hn ht => ?_, fun hn => ?_⟩
    · rw [exec_bucketMapSwitch hr]
      exact congrArg Host.Outcome.next (if_pos (by simpa using hn))
    · rw [exec_regionTableSwitch hr]
      exact congrArg Host.Outcome.next (if_pos (by simpa using hn))
    · refine .of (exec_bucketMapSwitch hr) ?_
      obtain ⟨htills, hout, -⟩ := mapSwitch_keeps hn ht
      have hroutes := fun h9 : n ≠ 9 => mapSwitch_routes hn ht h9 (by rw [hwlen]; exact replica_lt hr h9)
      have hmaps := mapSwitch_maps hn ht
      refine ⟨by rw [hmaps]; split <;> rfl, by rw [hmaps]; split <;> rfl, fun hex => ?_, fun hall => ?_, hroutes, htills, hout⟩
      · rw [hmaps, if_neg]
        · exact ⟨rfl, rfl⟩
        · rw [filter_ne_isEmpty]
          exact fun hall => by obtain ⟨m, hm, hne⟩ := hex; exact hne (hall m hm)
      · unfold State.mapResult
        rw [hmaps, if_pos (filter_ne_isEmpty.mpr hall)]
        exact ⟨rfl, rfl, if_pos (filter_ne_isEmpty.mpr hall)⟩
    · refine .of (exec_regionTableSwitch hr) ?_
      obtain ⟨hmaps, htills, hout⟩ := regionSwitch_eq hn
      refine ⟨by rw [hmaps]; split <;> rfl, by rw [hmaps]; split <;> rfl, fun hex => ?_, fun hall => ?_, htills, hout⟩
      · rw [hmaps, if_neg]
        · exact ⟨rfl, rfl⟩
        · rw [filter_ne_isEmpty]
          exact fun hall => by obtain ⟨m, hm, hne⟩ := hex; exact hne (hall m hm)
      · unfold State.regionResult
        rw [hmaps, if_pos (filter_ne_isEmpty.mpr hall)]
        exact ⟨rfl, rfl, if_pos (filter_ne_isEmpty.mpr hall)⟩

end Sys2Proof.Machine
end

section
/-! PROOFS. Scrub runs, row retirement and the watchdogs of Till and bank (R362, R375, R377, R381), and what the failure of a
Till does at once (R393). -/

namespace Sys2Proof.Machine

/-! ## Work at a Till that holds nothing back (R255, R381, R479) -/

theorem till_mem_or_default (s : State) (t : Nat) : s.till t ∈ s.tills ∨ s.till t = {} := by
  unfold State.till
  cases h : s.tills[t]? with
  | none => exact .inr rfl
  | some u => exact .inl (List.mem_of_getElem? h)

theorem settleFails_none {s : State} (h : ∀ u ∈ s.tills, u.failDue = none) : settleFails s = s := by
  have hnone : ∀ t, (s.till t).failDue = none := fun t => by
    rcases till_mem_or_default s t with hm | he
    · exact h _ hm
    · rw [he]
  unfold settleFails
  induction s.build.tillList with
  | nil => rfl
  | cons t l ih => rw [List.foldl_cons, hnone t]; exact ih

theorem kickReleases_none {s : State} {t : Nat} (h : ∀ p ∈ (s.till t).folios, p.2.opc ≠ .release) : kickReleases s t = s := by
  unfold kickReleases
  rw [List.filter_eq_nil_iff.mpr (fun p hp => by simp [h p hp])]
  rfl

theorem drainNi_none {s : State} {t : Nat} (h : (s.till t).ni = []) : drainNi s t = s := by
  unfold drainNi
  rw [if_pos (by simp [h])]

/-- A message processed where nothing waits only restarts the Till's idle count. -/
theorem worked_calm {s : State} {t : Nat} (ht : t < s.tills.length) (hni : (s.till t).ni = [])
    (hrel : ∀ p ∈ (s.till t).folios, p.2.opc ≠ .release) (hfail : ∀ u ∈ s.tills, u.failDue = none) :
    worked s t = s.modTill t (fun u => { u with idleTicks := 0 }) := by
  unfold worked
  rw [drainNi_none hni, kickReleases_none (by rw [till_modTill s _ ht]; exact hrel)]
  refine settleFails_none fun u hu => ?_
  obtain ⟨k, hk, rfl⟩ := List.mem_iff_getElem.mp hu
  have hk' : k < s.tills.length := by simpa [State.modTill] using hk
  have hf := hfail _ (List.getElem_mem hk')
  simp only [State.modTill, List.getElem_modify]
  split
  · exact hf
  · exact hf

theorem hasTill_of_alive {s : State} {t : Nat} (h : s.alive t = true) : s.build.hasTill t = true := by
  simp only [State.alive, Bool.and_eq_true] at h
  obtain ⟨⟨⟨⟨⟨⟨⟨hb, -⟩, -⟩, -⟩, -⟩, -⟩, -⟩, -⟩ := h
  exact hb

/-- What a Till that works is not. -/
theorem alive_iff {s : State} {t : Nat} : s.alive t = true ↔ s.build.hasTill t = true ∧ (s.till t).fn.st ≠ .off
    ∧ (s.till t).fn.st ≠ .enabling ∧ (s.till t).fn.st ≠ .failed ∧ (s.till t).role ≠ .reset ∧ (s.till t).halted = none
    ∧ s.fatal = false ∧ s.inHold = false := by
  simp [State.alive, and_assoc]

theorem tills_length_modTill (s : State) (t : Nat) (f : Till → Till) : (s.modTill t f).tills.length = s.tills.length := by
  simp [State.modTill]

theorem mem_tills_modTill {s : State} {t : Nat} {f : Till → Till} {u : Till} (h : u ∈ (s.modTill t f).tills) :
    ∃ v ∈ s.tills, u = v ∨ u = f v := by
  obtain ⟨k, hk, rfl⟩ := List.mem_iff_getElem.mp h
  have hk' : k < s.tills.length := by simpa [State.modTill] using hk
  refine ⟨s.tills[k], List.getElem_mem hk', ?_⟩
  simp only [State.modTill, List.getElem_modify]
  split
  · exact .inr rfl
  · exact .inl rfl

/-! ## Scrub runs (R377) -/

/-- The rotation moves past the bank, and a run's credit is spent. -/
def Till.scrubbed (u : Till) : Till :=
  { u with
    scrubBank := if u.scrubBank == 15 then 0 else u.scrubBank + 1
    scrubPage := if u.scrubBank == 15 && u.scrubPage == 496 then 0 else if u.scrubBank == 15 then u.scrubPage + 16 else u.scrubPage
    scrubCredit := u.scrubCredit - 1024 }

theorem modTill_congr {s : State} {t : Nat} {f g : Till → Till} (h : f (s.till t) = g (s.till t)) : s.modTill t f = s.modTill t g := by
  unfold State.modTill
  congr 1
  refine List.ext_getElem? fun k => ?_
  simp only [List.getElem?_modify]
  by_cases hk : t = k
  · subst hk
    unfold State.till at h
    cases hs : s.tills[t]? with
    | none => rfl
    | some u => rw [hs] at h; simpa using h
  · simp [hk]

/-- A run over pages that list no entry. -/
theorem scrubRun_empty {s : State} {t bank : Nat} (h : runPages (s.till t) bank (s.till t).scrubPage = []) :
    scrubRun s t bank [] = if (s.till t).scrubBank == 15 && (s.till t).scrubPage == 496
      then (s.modTill t Till.scrubbed).bump ⟨0x3030 + 0x80 * t, 6, 32⟩ else s.modTill t Till.scrubbed := by
  have hmod : s.modTill t (fun v => { v with
      scrubBank := if (s.till t).scrubBank == 15 then 0 else (s.till t).scrubBank + 1
      scrubPage := if (s.till t).scrubBank == 15 && (s.till t).scrubPage == 496 then 0
        else if (s.till t).scrubBank == 15 then (s.till t).scrubPage + 16 else (s.till t).scrubPage
      scrubCredit := (s.till t).scrubCredit - 1024 }) = s.modTill t Till.scrubbed := modTill_congr rfl
  unfold scrubRun
  simp only [List.foldl_nil, h]
  rw [hmod]

theorem exec_scrubRun {s : State} {t : Nat} (ht : s.build.hasTill t = true) (bank : Nat) : exec (.scrubRun t bank []) s = .next
    (if s.alive t && (s.till t).scrubBank == bank && 1024 ≤ (s.till t).scrubCredit then worked (scrubRun s t bank []) t else s) :=
  if_neg (by simp [ht])

/-- What a scrub over pages without an entry moves at the Till. -/
theorem scrubRun_parts {s : State} {t : Nat}
    (h : runPages (s.till t) (s.till t).scrubBank (s.till t).scrubPage = []) :
    (scrubRun s t (s.till t).scrubBank []).tills = (s.modTill t Till.scrubbed).tills
      ∧ (scrubRun s t (s.till t).scrubBank []).out = s.out
      ∧ (KV.wf s.chart = true → (scrubRun s t (s.till t).scrubBank []).rawN (0x3030 + 0x80 * t) 6
          = if (s.till t).scrubBank = 15 ∧ (s.till t).scrubPage = 496 then (s.rawN (0x3030 + 0x80 * t) 6 + 1) % 2 ^ 32
            else s.rawN (0x3030 + 0x80 * t) 6) := by
  rw [scrubRun_empty h]
  by_cases hp : (s.till t).scrubBank = 15 ∧ (s.till t).scrubPage = 496
  · rw [if_pos (by simp [hp.1, hp.2])]
    exact ⟨rfl, rfl, fun hw => by rw [if_pos hp]; exact rawN_bump (s.modTill t Till.scrubbed) _ _ _ hw (by decide)⟩
  · rw [if_neg (by simpa using hp)]
    exact ⟨rfl, rfl, fun _ => by rw [if_neg hp]; rfl⟩

/-! ## Row retirement (R375) -/

theorem foldl_till_proj {α β : Type} (p : Till → β) {f : Till → α → Till} (hf : ∀ u x, p (f u x) = p u) (l : List α) :
    ∀ u, p (l.foldl f u) = p u := by
  induction l with
  | nil => exact fun _ => rfl
  | cons x l ih => exact fun u => (ih (f u x)).trans (hf u x)

theorem rowsRetired_copyRow (u : Till) (bank row : Nat) : (copyRow u bank row).rowsRetired = u.rowsRetired := by
  unfold copyRow
  generalize List.range 16 = l
  split
  · apply foldl_till_proj Till.rowsRetired
    intros; rfl
  · rfl

/-- The row is off the list and counted at its bank. -/
def rowTaken (s : State) (t bank row : Nat) : State :=
  ({ s with au := { s.au with retire := s.au.retire.filter (· != (t, bank, row)) } } : State).modTill t (fun u => { u with
    rowsRetired := KV.put u.rowsRetired bank (min 255 (KV.get (s.till t).rowsRetired bank 0 + 1))
    ce := List.filter (fun p => !(p.2.store ≤ 1 && p.2.bank == bank && p.2.row == row)) u.ce })

/-- The row's copy stands in the spare row, and the record is made. -/
def rowRemapped (s : State) (t bank row n : Nat) : State :=
  (s.modTill t (fun u => { copyRow u bank row with remap := KV.put u.remap (bank * 4096 + row) n })).note
    .rowRetired (.till t) [t, bank, row, n]

/-- OTP keeps the remap of a row. -/
def State.withRemap (s : State) (r : Nat × Nat × Nat × Nat) : State :=
  { s with fuses := { s.fuses with remaps := s.fuses.remaps ++ [r] } }

theorem retireRow_eq (s : State) (t bank row : Nat) : retireRow s t bank row =
    let n := KV.get (s.till t).rowsRetired bank 0
    let s4 := (rowRemapped (rowTaken s t bank row) t bank row n).withRemap (t, bank, row, n)
    if n < 32 then (if n == 31 then s4.note .rowSparesExhausted (.till t) [t, bank] else s4) else rowTaken s t bank row := rfl

theorem till_rowTaken (s : State) {t : Nat} (bank row : Nat) (ht : t < s.tills.length) :
    KV.get ((rowTaken s t bank row).till t).rowsRetired bank 0 = min 255 (KV.get (s.till t).rowsRetired bank 0 + 1)
      ∧ (rowTaken s t bank row).au.retire = s.au.retire.filter (· != (t, bank, row)) := by
  refine ⟨?_, rfl⟩
  have h := till_modTill { s with au := { s.au with retire := s.au.retire.filter (· != (t, bank, row)) } } (t := t)
    (fun u => { u with
      rowsRetired := KV.put u.rowsRetired bank (min 255 (KV.get (s.till t).rowsRetired bank 0 + 1))
      ce := List.filter (fun p => !(p.2.store ≤ 1 && p.2.bank == bank && p.2.row == row)) u.ce }) ht
  unfold rowTaken
  rw [h]
  show (KV.find? (KV.put _ bank _) bank).getD 0 = _
  rw [KV.find_put]
  rfl

theorem rowRemapped_parts (s : State) {t : Nat} (bank row n : Nat) (ht : t < s.tills.length) :
    ((rowRemapped s t bank row n).till t).rowsRetired = (s.till t).rowsRetired
      ∧ KV.find? ((rowRemapped s t bank row n).till t).remap (bank * 4096 + row) = some n
      ∧ (rowRemapped s t bank row n).au = s.au ∧ (rowRemapped s t bank row n).fuses = s.fuses
      ∧ (rowRemapped s t bank row n).time = s.time ∧ Reports s (rowRemapped s t bank row n) 0x212 := by
  have hn := logs_note (s.modTill t (fun u => { copyRow u bank row with remap := KV.put u.remap (bank * 4096 + row) n }))
    .rowRetired (.till t) [t, bank, row, n] none
  have hr := reports_note (s := s) (u := s.modTill t (fun u => { copyRow u bank row with
    remap := KV.put u.remap (bank * 4096 + row) n })) List.prefix_rfl rfl .rowRetired (.till t) [t, bank, row, n] none
  have ht' := till_modTill s (fun u => { copyRow u bank row with remap := KV.put u.remap (bank * 4096 + row) n }) ht
  unfold rowRemapped
  rw [hn.till, ht']
  exact ⟨rowsRetired_copyRow _ _ _, KV.find_put _ _ _, hn.au, hn.fuses, hn.time, hr⟩

theorem exec_retireRow {s : State} {t : Nat} (ht : s.build.hasTill t = true) (bank row : Nat) : exec (.retireRow t bank row) s
    = .next (if s.au.retire.contains (t, bank, row) && s.alive t then retireRow s t bank row else s) :=
  if_neg (by simp [ht])

theorem not_mem_filter_ne_triple (l : List (Nat × Nat × Nat)) (x : Nat × Nat × Nat) : x ∉ l.filter (· != x) := by
  simp

/-- What a retirement leaves, by the spare rows of the bank. -/
theorem retireRow_parts {s : State} {t : Nat} (bank row : Nat) (ht : t < s.tills.length) :
    (t, bank, row) ∉ (retireRow s t bank row).au.retire
      ∧ KV.get ((retireRow s t bank row).till t).rowsRetired bank 0 = min 255 (KV.get (s.till t).rowsRetired bank 0 + 1)
      ∧ (KV.get (s.till t).rowsRetired bank 0 < 32 →
          (retireRow s t bank row).fuses = { s.fuses with
            remaps := s.fuses.remaps ++ [(t, bank, row, KV.get (s.till t).rowsRetired bank 0)] }
          ∧ KV.find? ((retireRow s t bank row).till t).remap (bank * 4096 + row) = some (KV.get (s.till t).rowsRetired bank 0)
          ∧ Reports s (retireRow s t bank row) 0x212)
      ∧ (KV.get (s.till t).rowsRetired bank 0 = 31 → Reports s (retireRow s t bank row) 0x108)
      ∧ (32 ≤ KV.get (s.till t).rowsRetired bank 0 → (retireRow s t bank row).fuses = s.fuses) := by
  obtain ⟨hcount, hlist⟩ := till_rowTaken s bank row ht
  have hlen : t < (rowTaken s t bank row).tills.length := by
    unfold rowTaken; rw [tills_length_modTill]; exact ht
  generalize hn : KV.get (s.till t).rowsRetired bank 0 = n at hcount
  obtain ⟨hrows, hremap, hau, hfuses, htime, hrep⟩ := rowRemapped_parts (rowTaken s t bank row) bank row n hlen
  have heq : retireRow s t bank row =
      if n < 32 then (if n == 31 then (State.withRemap (rowRemapped (rowTaken s t bank row) t bank row n) (t, bank, row, n)).note
          .rowSparesExhausted (.till t) [t, bank] else (rowRemapped (rowTaken s t bank row) t bank row n).withRemap (t, bank, row, n))
      else rowTaken s t bank row := by rw [retireRow_eq, hn]
  have hnone : (t, bank, row) ∉ (rowTaken s t bank row).au.retire := by rw [hlist]; exact not_mem_filter_ne_triple _ _
  have hrep' : Reports s (rowRemapped (rowTaken s t bank row) t bank row n) 0x212 := hrep
  have htaken : (rowTaken s t bank row).fuses = s.fuses := rfl
  have htimea : (rowTaken s t bank row).time = s.time := rfl
  generalize rowTaken s t bank row = a at heq hcount hlist hlen hrows hremap hau hfuses htime hrep hrep' hnone htaken htimea
  generalize rowRemapped a t bank row n = b at heq hrows hremap hau hfuses htime hrep hrep'
  by_cases hlt : n < 32
  · rw [if_pos hlt] at heq
    have hb : (t, bank, row) ∉ (b.withRemap (t, bank, row, n)).au.retire
        ∧ KV.get ((b.withRemap (t, bank, row, n)).till t).rowsRetired bank 0 = min 255 (n + 1)
        ∧ (b.withRemap (t, bank, row, n)).fuses = { s.fuses with remaps := s.fuses.remaps ++ [(t, bank, row, n)] }
        ∧ KV.find? ((b.withRemap (t, bank, row, n)).till t).remap (bank * 4096 + row) = some n
        ∧ Reports s (b.withRemap (t, bank, row, n)) 0x212 := by
      refine ⟨?_, ?_, ?_, hremap, hrep'⟩
      · show _ ∉ b.au.retire
        rw [hau]; exact hnone
      · show KV.get (b.till t).rowsRetired bank 0 = _
        rw [hrows]; exact hcount
      · show ({ b.fuses with remaps := b.fuses.remaps ++ [(t, bank, row, n)] } : Fuses) = _
        rw [hfuses, htaken]
    obtain ⟨h1, h2, h3, h4, h5⟩ := hb
    have hpre : s.journal.inbox <+: (b.withRemap (t, bank, row, n)).journal.inbox := by
      obtain ⟨l, hl, -⟩ := hrep'
      exact ⟨l, hl.symm⟩
    have htick : (b.withRemap (t, bank, row, n)).time.tick = s.time.tick := by
      show b.time.tick = _
      rw [htime, htimea]
    generalize b.withRemap (t, bank, row, n) = c at heq h1 h2 h3 h4 h5 hpre htick
    by_cases h31 : n = 31
    · rw [if_pos (by simp [h31])] at heq
      have hnote := logs_note c .rowSparesExhausted (.till t) [t, bank] none
      rw [heq]
      refine ⟨by rw [hnote.au]; exact h1, by rw [hnote.till]; exact h2, fun _ => ⟨by rw [hnote.fuses]; exact h3,
        by rw [hnote.till]; exact h4, h5.of_prefix hnote.inbox⟩, fun _ => reports_note hpre htick _ _ _ none, fun h => by omega⟩
    · rw [if_neg (by simpa using h31)] at heq
      rw [heq]
      exact ⟨h1, h2, fun _ => ⟨h3, h4, h5⟩, fun h => absurd h h31, fun h => by omega⟩
  · rw [if_neg hlt] at heq
    rw [heq]
    exact ⟨hnone, hcount, fun h => absurd h hlt, fun h => by omega, fun _ => htaken⟩

/-! ## The failure of a Till (R393, R394, R400) -/

theorem till_modTill_proj {β : Type} (p : Till → β) {f : Till → Till} (hf : ∀ u, p (f u) = p u) (s : State) (t k : Nat) :
    p ((s.modTill t f).till k) = p (s.till k) := by
  unfold State.till State.modTill
  simp only [List.getElem?_modify]
  cases s.tills[k]? with
  | none => rfl
  | some u =>
    by_cases h : t = k
    · simp [h, hf]
    · simp [h]

/-- `b` is `a` with transfers moved on: what each Till's status says and what Wickets are sent stays. -/
structure Rehomes (a b : State) : Prop where
  fn : ∀ t, (b.till t).fn = (a.till t).fn
  cause : ∀ t, (b.till t).failCause = (a.till t).failCause
  p : b.net.p = a.net.p

theorem Rehomes.refl (a : State) : Rehomes a a := ⟨fun _ => rfl, fun _ => rfl, rfl⟩

theorem Rehomes.trans {a b c : State} (h : Rehomes a b) (g : Rehomes b c) : Rehomes a c :=
  ⟨fun t => (g.fn t).trans (h.fn t), fun t => (g.cause t).trans (h.cause t), g.p.trans h.p⟩

theorem Rehomes.of_eq {a b : State} (ht : b.tills = a.tills) (hp : b.net.p = a.net.p) : Rehomes a b := by
  refine ⟨fun t => ?_, fun t => ?_, hp⟩ <;> unfold State.till <;> rw [ht]

theorem Logs.rehomes {a b : State} (h : Logs a b) : Rehomes a b := .of_eq h.tills (congrArg Net.p h.net)

theorem rehomes_modTill (s : State) (t : Nat) (f : Till → Till) (hf : ∀ u, (f u).fn = u.fn := by intro; rfl)
    (hc : ∀ u, (f u).failCause = u.failCause := by intro; rfl) : Rehomes s (s.modTill t f) :=
  ⟨fun k => till_modTill_proj Till.fn hf s t k, fun k => till_modTill_proj Till.failCause hc s t k, rfl⟩

theorem rehomes_endHalt (s : State) (t cause : Nat) : Rehomes s (endHalt s t cause) := by
  unfold endHalt
  split
  · exact .refl s
  · exact (rehomes_modTill s t _).trans (logs_note _ _ _ _ _).rehomes

theorem rehomes_startForced (s : State) (x : Transfer) : Rehomes s (startForced s x) := by
  unfold startForced
  split
  · exact .refl s
  · rename_i d _
    extract_lets l s1 s2
    have h1 : Rehomes s s1 := .of_eq rfl rfl
    have h2 : Rehomes s s2 := (h1.trans (rehomes_endHalt s1 d 3)).trans (rehomes_modTill _ d _)
    have h3 : Rehomes s2 (startMapCommit s2 (l.foldl (fun m b => s2.setBucket m b d) s2.maps.bLive) true) := .of_eq rfl rfl
    exact (h2.trans h3).trans (rehomes_modTill _ d _)

theorem rehomes_startPlanned (s : State) (x : Transfer) : Rehomes s (startPlanned s x) := by
  unfold startPlanned
  split
  · exact .of_eq rfl rfl
  · rename_i d _
    have h1 : Rehomes (endHalt s d 3) ((endHalt s d 3).modXfer x.src (fun y => { y with state := 1, dst := d })) := .of_eq rfl rfl
    exact (((rehomes_endHalt s d 3).trans h1).trans (rehomes_modTill _ _ _)).trans
      (rehomes_modTill _ _ _)

theorem rehomes_nextTransfer (s : State) : Rehomes s (nextTransfer s) := by
  unfold nextTransfer
  split
  · exact .refl s
  · split
    · exact .refl s
    · split
      · split
        · exact .refl s
        · exact rehomes_startForced s _
      · split
        · exact .refl s
        · split
          · exact rehomes_startPlanned s _
          · exact .refl s

theorem rehomes_failTransfers (s : State) (t : Nat) (role : Role) : Rehomes s (failTransfers s t role) := by
  unfold failTransfers
  split
  · split <;> exact .of_eq rfl rfl
  · extract_lets forced s1
    have h1 : Rehomes s s1 := .of_eq rfl rfl
    split
    · exact h1.trans (rehomes_modTill s1 t _)
    · exact h1.trans (.of_eq rfl rfl)

/-- The Till is FAILED, and the record is made. -/
def tillMarkedFailed (s : State) (t cause : Nat) : State :=
  (s.modTill t (fun u => { u with
    fn := u.fn.fault, failCause := cause, failDue := none, role := .none, ni := [], marks := [] })).note .tillFailed (.till t) [t, cause]

theorem failTill_eq {s : State} {t : Nat} (hst : (s.till t).fn.st ≠ .off ∧ (s.till t).fn.st ≠ .failed)
    (hh : (s.till t).halted = none) (cause : Nat) : failTill s t cause =
      nextTransfer (failTransfers ((tillMarkedFailed s t cause).build.wicketList.foldl (fun s w => s.sendP t w .tillDown)
        (tillMarkedFailed s t cause)) t (s.till t).role) := by
  have hend : endHalt s t 4 = s := if_pos (by simp [hh])
  unfold failTill
  rw [if_neg (by simp [hst.1, hst.2])]
  dsimp only
  rw [hend]
  rfl

/-- A message of a Till behind those that were. -/
theorem net_sendP (s : State) (t w : Nat) (m : PMsg) : (s.sendP t w m).net.p = s.net.p ++ [(t, w, m)] := by
  have h := (logs_packet s (.till t) (.wicket w) (c := 2) (by decide) 1).net
  show (s.packet (.till t) 2 1 (.wicket w)).net.p ++ _ = _
  rw [h]

theorem net_sendP_all (t : Nat) (m : PMsg) (l : List Nat) : ∀ s : State,
    (l.foldl (fun s w => s.sendP t w m) s).net.p = s.net.p ++ l.map (fun w => (t, w, m)) := by
  induction l with
  | nil => exact fun s => (List.append_nil _).symm
  | cons w l ih =>
    intro s
    rw [List.foldl_cons, ih, net_sendP, List.append_assoc]
    rfl

theorem mem_wicketList {b : Build} {w : Nat} (h : b.hasWicket w = true) : w ∈ b.wicketList := by
  have h' : w < b.wickets ∨ w = Build.ws := by simpa [Build.hasWicket] using h
  unfold Build.wicketList
  rw [List.mem_append, List.mem_range, List.mem_singleton]
  exact h'

theorem tills_sendP (s : State) (t w : Nat) (m : PMsg) : (s.sendP t w m).tills = s.tills :=
  (logs_packet s (.till t) (.wicket w) (c := 2) (by decide) 1).tills

/-- What the failure of a Till that works does at once. -/
theorem failTill_does {s : State} {t : Nat} (ht : t < s.tills.length) (hst : (s.till t).fn.st ≠ .off ∧ (s.till t).fn.st ≠ .failed)
    (hh : (s.till t).halted = none) (cause : Nat) :
    ((failTill s t cause).till t).fn.st = .failed ∧ ((failTill s t cause).till t).failCause = cause
      ∧ Reports s (failTill s t cause) 0x001
      ∧ (∀ w, s.build.hasWicket w = true → (t, w, .tillDown) ∈ (failTill s t cause).net.p) := by
  have hmark := logs_note (s.modTill t (fun u => { u with
    fn := u.fn.fault, failCause := cause, failDue := none, role := .none, ni := [], marks := [] })) .tillFailed (.till t) [t, cause] none
  have hrep : Reports s (tillMarkedFailed s t cause) 0x001 := reports_note (u := s.modTill t (fun u => { u with
    fn := u.fn.fault, failCause := cause, failDue := none, role := .none, ni := [], marks := [] })) List.prefix_rfl rfl
      .tillFailed (.till t) [t, cause] none
  have htill : (tillMarkedFailed s t cause).till t = { s.till t with
      fn := (s.till t).fn.fault, failCause := cause, failDue := none, role := .none, ni := [], marks := [] } := by
    unfold tillMarkedFailed
    rw [hmark.till, till_modTill s _ ht]
  have hbuild : (tillMarkedFailed s t cause).build = s.build := hmark.build
  rw [failTill_eq hst hh]
  generalize tillMarkedFailed s t cause = a at hrep htill hbuild
  have hdown := net_sendP_all t .tillDown a.build.wicketList a
  have hinbox : a.journal.inbox <+: (a.build.wicketList.foldl (fun s w => s.sendP t w .tillDown) a).journal.inbox :=
    (Keeps.foldl (m := false) (fun s w => keeps_State_sendP (Keeps.refl s)) _ (Keeps.refl a)).inbox
  have htills : (a.build.wicketList.foldl (fun s w => s.sendP t w .tillDown) a).tills = a.tills :=
    foldl_proj State.tills (fun s w => tills_sendP s t w _) _ a
  rw [hbuild] at hdown hinbox htills ⊢
  generalize s.build.wicketList.foldl (fun s w => s.sendP t w .tillDown) a = b at hdown hinbox htills ⊢
  have hmoved := (rehomes_failTransfers b t (s.till t).role).trans (rehomes_nextTransfer _)
  have hkept : Keeps true b (nextTransfer (failTransfers b t (s.till t).role)) :=
    keeps_nextTransfer (keeps_failTransfers (Keeps.refl b))
  generalize nextTransfer (failTransfers b t (s.till t).role) = c at hmoved hkept ⊢
  have hb : b.till t = a.till t := by unfold State.till; rw [htills]
  refine ⟨?_, ?_, (hrep.of_prefix hinbox).of_prefix hkept.inbox, fun w hw => ?_⟩
  · rw [hmoved.fn, hb, htill]
    rfl
  · rw [hmoved.cause, hb, htill]
  · rw [hmoved.p, hdown]
    exact List.mem_append_right _ (List.mem_map_of_mem (mem_wicketList hw))

theorem exec_tillWatchdog {s : State} {t : Nat} (ht : s.build.hasTill t = true) : exec (.tillWatchdog t) s = .next
    (if s.alive t && s.rawN 0x7000 7 ≤ (s.till t).idleTicks then failTill s t 1 else s) := if_neg (by simp [ht])

/-! ## The bank watchdog (R362) -/

/-- An entry takes the low 64 bits of a number. -/
theorem rawN_setRawN_mod (s : State) (i j v : Nat) (h : KV.wf s.chart = true) : (s.setRawN i j v).rawN i j = v % 2 ^ 64 := by
  show ((s.setRaw i j (BitVec.ofNat 64 v)).raw i j).toNat = _
  rw [raw_setRaw s i j _ h, BitVec.toNat_ofNat]

/-- The bank is reported and marked: BANK_STUCK and the requester in the Chart, and the record. -/
def bankReported (s : State) (t bank r : Nat) (a : Arb) : State :=
  let s1 := s.modTill t (fun u => { u with banks := KV.put u.banks bank { a with stuck := true } })
  let s2 := (s1.setRawN (0x3020 + 0x80 * t) 2 (s1.rawN (0x3020 + 0x80 * t) 2 ||| 2 ^ bank)).setRawN (0x3020 + 0x80 * t) 3 r
  s2.note .bankStuck (.till t) [t, bank, r]

theorem exec_bankWatchdog {s : State} {t bank : Nat} (ht : s.build.hasTill t = true) (hb : bank < 16) :
    exec (.bankWatchdog t bank) s = .next (let a := KV.get (s.till t).banks bank {}
      if !s.alive t || !a.locked || a.stuck || !s.due a.grantTick (s.rawN 0x6800 2) then s
      else bankReported s t bank (a.grant.getD 0) a) :=
  if_neg (by simp [ht, hb])

theorem bankReported_does {s : State} {t : Nat} (bank r : Nat) (a : Arb) (ht : t < s.tills.length) (ht18 : t < 18) (hb : bank < 16)
    (hw : KV.wf s.chart = true) :
    KV.find? ((bankReported s t bank r a).till t).banks bank = some { a with stuck := true }
      ∧ (bankReported s t bank r a).rawN (0x3020 + 0x80 * t) 2 = (s.rawN (0x3020 + 0x80 * t) 2 ||| 2 ^ bank)
      ∧ (bankReported s t bank r a).rawN (0x3020 + 0x80 * t) 3 = r % 2 ^ 64
      ∧ Reports s (bankReported s t bank r a) 0x105 ∧ (bankReported s t bank r a).out = s.out := by
  unfold bankReported
  extract_lets s1 s2
  have hw1 : KV.wf s1.chart = true := hw
  have hw2 : KV.wf (s1.setRawN (0x3020 + 0x80 * t) 2 (s1.rawN (0x3020 + 0x80 * t) 2 ||| 2 ^ bank)).chart = true :=
    KV.set_wf _ _ _ hw1
  have hw3 : KV.wf s2.chart = true := KV.set_wf _ _ _ hw2
  have hbits : (s.rawN (0x3020 + 0x80 * t) 2 ||| 2 ^ bank) < 2 ^ 64 :=
    Nat.or_lt_two_pow (BitVec.isLt _) (Nat.pow_lt_pow_right (by decide) (by omega))
  have h2 : s2.rawN (0x3020 + 0x80 * t) 2 = (s.rawN (0x3020 + 0x80 * t) 2 ||| 2 ^ bank) := by
    show ((s1.setRawN _ 2 _).setRawN _ 3 r).rawN _ 2 = _
    rw [rawN_setRawN_ne _ _ hw2 (by simp only [ekey]; omega)]
    exact rawN_setRawN s1 _ _ _ hw1 hbits
  have h3 : s2.rawN (0x3020 + 0x80 * t) 3 = r % 2 ^ 64 := rawN_setRawN_mod _ _ _ _ hw2
  have htill : s2.till t = { s.till t with banks := KV.put (s.till t).banks bank { a with stuck := true } } := till_modTill s _ ht
  have hn := logs_note s2 .bankStuck (.till t) [t, bank, r] none
  have hrep : Reports s (s2.note .bankStuck (.till t) [t, bank, r]) 0x105 :=
    reports_note (u := s2) List.prefix_rfl rfl .bankStuck (.till t) [t, bank, r] none
  have hout : s2.out = s.out := rfl
  generalize s2.note .bankStuck (.till t) [t, bank, r] = u at hn hrep ⊢
  refine ⟨?_, ?_, ?_, hrep, hn.out.trans hout⟩
  · rw [hn.till, htill]
    exact KV.find_put _ _ _
  · rw [hn.rawN hw3 (apart (by omega)), h2]
  · rw [hn.rawN hw3 (apart (by omega)), h3]

/-- Settles O39: each watchdog and each run of care by its equation; what a Till that holds nothing back does beside is the
restart of its idle count. -/
theorem storageCareAndWatchdogs : Obligations.StorageCareAndWatchdogs := by
  unfold Obligations.StorageCareAndWatchdogs
  intro s t hinv hcalm
  obtain ⟨halive, hni, hrel, hfail⟩ := hcalm
  obtain ⟨hbuilt, hoff, -, hfailed, -, hhalted, -, -⟩ := alive_iff.mp halive
  have ht := lt_tills_length hinv hbuilt
  obtain ⟨hlen, -, -, -, -, hchart, -⟩ := hinv
  refine ⟨fun bank hno => ?_, fun hbank hcredit hpages => ?_, fun bank row hno => ?_, fun bank row hmem => ?_, fun hidle => ?_,
    fun hidle => ?_, fun bank hbank => ⟨fun hno => ?_, fun hl hs hd => ?_⟩⟩
  · rw [exec_scrubRun hbuilt, if_neg]
    simp only [Bool.and_eq_true, beq_iff_eq, decide_eq_true_eq, not_and, not_le]
    rintro ⟨-, heq⟩
    exact hno.resolve_left (fun h => h heq)
  · refine .of (exec_scrubRun hbuilt _) ?_
    rw [if_pos (by simp [halive, hcredit])]
    obtain ⟨htills, hout, hcount⟩ := scrubRun_parts hpages
    generalize scrubRun s t (s.till t).scrubBank [] = a at htills hout hcount
    have hat : a.till t = (s.till t).scrubbed := by
      rw [← till_modTill s Till.scrubbed ht]
      unfold State.till
      rw [htills]
    have halen : t < a.tills.length := by rw [htills, tills_length_modTill]; exact ht
    rw [worked_calm halen (by rw [hat]; exact hni) (by rw [hat]; exact hrel) (fun u hu => by
      rw [htills] at hu
      obtain ⟨v, hv, rfl | rfl⟩ := mem_tills_modTill hu
      · exact hfail _ hv
      · exact hfail v hv)]
    rw [till_modTill a _ halen, hat]
    refine ⟨rfl, ?_, ?_, hcount hchart, rfl, rfl, hout⟩
    · show (if (s.till t).scrubBank == 15 then 0 else (s.till t).scrubBank + 1) = _
      split
      · rename_i h
        rw [show (s.till t).scrubBank = 15 by simpa using h]
      · rename_i h
        have : (s.till t).scrubBank ≠ 15 := by simpa using h
        omega
    · show (if (s.till t).scrubBank == 15 && (s.till t).scrubPage == 496 then 0
        else if (s.till t).scrubBank == 15 then (s.till t).scrubPage + 16 else (s.till t).scrubPage) = _
      by_cases h : (s.till t).scrubBank = 15 <;> simp [h]
  · rw [exec_retireRow hbuilt, if_neg (by simp [hno])]
  · refine .of (exec_retireRow hbuilt bank row) ?_
    rw [if_pos (by simp [hmem, halive])]
    exact retireRow_parts bank row ht
  · rw [exec_tillWatchdog hbuilt, if_neg (by simp; omega)]
  · refine .of (exec_tillWatchdog hbuilt) ?_
    rw [if_pos (by simp [halive, hidle])]
    obtain ⟨h1, h2, h3, h4⟩ := failTill_does ht ⟨hoff, hfailed⟩ hhalted 1
    exact ⟨h1, h2, h3, h4⟩
  · rw [exec_bankWatchdog hbuilt hbank]
    refine congrArg Host.Outcome.next (if_pos ?_)
    rcases hno with h | h | h <;> simp [h]
  · refine .of (exec_bankWatchdog hbuilt hbank) ?_
    dsimp only
    rw [if_neg (by simp [halive, hl, hs, hd])]
    exact bankReported_does bank _ _ ht (by omega) hbank hchart

end Sys2Proof.Machine
end

section
/-! PROOFS. A commit of the routes: its checks, its MARKs and the switch of an entry (R322, R335, R336). -/

namespace Sys2Proof.Machine

theorem logs_foldl {α : Type} {f : State → α → State} (l : List α) (hf : ∀ s, ∀ x ∈ l, Logs s (f s x)) (s : State) :
    Logs s (l.foldl f s) := by
  induction l generalizing s with
  | nil => exact .refl s
  | cons x t ih => exact (hf s x (by simp)).trans (ih (fun s y hy => hf s y (by simp [hy])) _)

/-! ## Positions -/

theorem nodeAt_lt {b : Build} {n : Nat} (h : (b.nodeAt n).isSome = true) : n < 64 := by
  by_contra hn
  have hy : 8 ≤ n / 8 := by omega
  have hrow : b.placeRow (n / 8) = [] := by
    generalize n / 8 = y at hy
    unfold Build.placeRow
    split <;> first | rfl | omega
  simp [Build.nodeAt, hrow] at h

theorem nodeIds_lt {b : Build} {n : Nat} (h : n ∈ b.nodeIds) : n < 64 :=
  List.mem_range.mp (List.mem_filter.mp h).1

theorem routePairs_lt {b : Build} {p : Nat × Nat} (h : p ∈ routePairs b) : p.1 < 64 ∧ p.2 < 64 := by
  simp only [routePairs, List.mem_flatMap, List.mem_map] at h
  obtain ⟨x, hx, d, hd, rfl⟩ := h
  exact ⟨nodeIds_lt hx, nodeIds_lt (List.mem_filter.mp hd).1⟩

/-! ## Default routes fit their entry -/

theorem side_le (b : Build) : b.side ≤ 6 := by cases b <;> decide

theorem side_ne (b : Build) : b.side ≠ 0 := by cases b <;> decide

/-- A ring is crossed in fewer hops than it has positions, each with a VC of one bit. -/
theorem ringHops_bound {n plus x d : Nat} (h0 : n ≠ 0) (hn : n ≤ 6) :
    (ringHops n plus x d).length ≤ 6 ∧ ∀ h ∈ ringHops n plus x d, h.1 ≤ plus + 1 ∧ h.2 ≤ 1 := by
  have hbit (c : Bool) : bit c ≤ 1 := by cases c <;> decide
  have hup : (d + n - x) % n ≤ 6 := (Nat.mod_lt _ (Nat.pos_of_ne_zero h0)).le.trans hn
  unfold ringHops
  generalize (d + n - x) % n = up at hup ⊢
  dsimp only
  split
  · simp
  · split
    · refine ⟨by simpa using hup, fun h hm => ?_⟩
      obtain ⟨k, -, rfl⟩ := List.mem_map.mp hm
      exact ⟨by simp, hbit _⟩
    · refine ⟨by simp only [List.length_map, List.length_range]; omega, fun h hm => ?_⟩
      obtain ⟨k, -, rfl⟩ := List.mem_map.mp hm
      exact ⟨le_rfl, hbit _⟩

theorem routeWord_lt {l : List (Nat × Nat)} (hl : l.length ≤ 12) (hb : ∀ h ∈ l, h.1 ≤ 3 ∧ h.2 ≤ 1) :
    routeWord l < 2 ^ 64 := by
  have hplace : place l.length 3 28 < 2 ^ 31 := by
    simp only [place, Nat.shiftLeft_eq]
    omega
  have hsum : (l.mapIdx (fun i h => h.2 * 2 ^ (22 + i) + h.1 * 2 ^ (4 + 3 * i))).sum ≤ 12 * 2 ^ 43 := by
    refine (List.sum_le_card_nsmul _ (2 ^ 43) ?_).trans ?_
    · intro v hv
      obtain ⟨i, hi, rfl⟩ := List.mem_mapIdx.mp hv
      obtain ⟨h1, h2⟩ := hb _ (l.getElem_mem hi)
      have e1 : 2 ^ (22 + i) ≤ 2 ^ 34 := Nat.pow_le_pow_right (by decide) (by omega)
      have e2 : 2 ^ (4 + 3 * i) ≤ 2 ^ 40 := Nat.pow_le_pow_right (by decide) (by omega)
      calc _ ≤ 1 * 2 ^ 34 + 3 * 2 ^ 40 := Nat.add_le_add (Nat.mul_le_mul h2 e1) (Nat.mul_le_mul h1 e2)
        _ ≤ 2 ^ 43 := by norm_num
    · simp only [List.length_mapIdx, smul_eq_mul]
      exact Nat.mul_le_mul_right _ hl
  unfold routeWord
  omega

theorem defaultRoute_lt (b : Build) (src dst : Nat) : defaultRoute b src dst < 2 ^ 64 := by
  unfold defaultRoute
  split
  · decide
  · obtain ⟨hx, hxm⟩ := ringHops_bound (plus := 0) (x := src % 8) (d := dst % 8) (side_ne b) (side_le b)
    obtain ⟨hy, hym⟩ := ringHops_bound (plus := 2) (x := src / 8) (d := dst / 8) (side_ne b) (side_le b)
    refine routeWord_lt (by simp only [List.length_append]; omega) fun h hm => ?_
    rcases List.mem_append.mp hm with hm | hm
    · obtain ⟨h1, h2⟩ := hxm h hm; exact ⟨by omega, h2⟩
    · obtain ⟨h1, h2⟩ := hym h hm; exact ⟨by omega, h2⟩

/-! ## Route entries -/

theorem Logs.find_chart {a b : State} (h : Logs a b) (w : KV.wf a.chart = true) {k : Nat} (hk : Apart k) :
    KV.find? b.chart k = KV.find? a.chart k := (h.entries.2 w).2 k hk

theorem Logs.routeLive {a b : State} (h : Logs a b) (w : KV.wf a.chart = true) {x d : Nat} (hx : x < 64) (hd : d < 64) :
    b.routeLive x d = a.routeLive x d := by
  unfold State.routeLive
  rw [h.find_chart w (apart ⟨by omega, by omega, by omega⟩), h.build]

theorem Logs.routeShadow {a b : State} (h : Logs a b) (w : KV.wf a.chart = true) {x d : Nat} (hx : x < 64) (hd : d < 64) :
    b.routeShadow x d = a.routeShadow x d := by
  unfold State.routeShadow
  rw [h.find_chart w (apart ⟨by omega, by omega, by omega⟩), h.build]

/-- The live entry reads what was stored in it. -/
theorem routeLive_setRoute {s : State} {src dst v : Nat} (w : KV.wf s.chart = true) (hd : dst < 64) (hv : v < 2 ^ 64) :
    (setRoute s src dst v).routeLive src dst = v := by
  show ((KV.find? (KV.set s.chart (ekey (0x5100 + src) dst) _ _) _).map _).getD (defaultRoute s.build src dst) = v
  unfold KV.set
  split
  case isTrue h =>
    rw [KV.find_del _ w, Nat.mod_eq_of_lt hd] at *
    have := congrArg BitVec.toNat h
    simp only [BitVec.toNat_ofNat, Nat.mod_eq_of_lt hv, Nat.mod_eq_of_lt (defaultRoute_lt _ _ _)] at this
    simp [this]
  case isFalse h =>
    rw [KV.find_put]
    exact Nat.mod_eq_of_lt hv

/-! ## The checks of a commit -/

theorem findRoute_congr {b : Build} {all : Bool} {p q : Nat → Nat → Bool} (h : ∀ x d, x < 64 → d < 64 → p x d = q x d) :
    findRoute b all p = findRoute b all q := by
  unfold findRoute
  split
  · refine List.find?_congr fun y hy => ?_
    simp only [List.mem_flatMap, List.mem_map] at hy
    obtain ⟨x, hx, d, hd, rfl⟩ := hy
    exact h _ _ (nodeIds_lt hx) (List.mem_range.mp hd)
  · exact List.find?_congr fun y hy => h _ _ (routePairs_lt hy).1 (routePairs_lt hy).2

theorem orElse_congr {α : Type} {a a' : Option α} {f f' : Unit → Option α} (h : a = a') (g : f () = f' ()) :
    a.orElse f = a'.orElse f' := by
  subst h
  cases a with
  | none => exact g
  | some x => rfl

/-- The checks read the build, the links and the shadow entries of the tables alone. -/
theorem routeFailure_congr {a b : State} (hb : b.build = a.build) (hl : b.exch.links = a.exch.links)
    (hw : ∀ x d, x < 64 → d < 64 → b.routeShadow x d = a.routeShadow x d) : routeFailure b = routeFailure a := by
  have hat {k : Nat} {all : Bool} {p q : Nat → Nat → Bool} (h : ∀ x d, x < 64 → d < 64 → p x d = q x d) :
      (findRoute a.build all p).map (fun y => (k, y.1, y.2)) = (findRoute a.build all q).map (fun y => (k, y.1, y.2)) :=
    congrArg _ (findRoute_congr h)
  have hedge : (routePairs a.build).flatMap (fun p => routeEdges a.build.side p.1 (b.routeShadow p.1 p.2))
      = (routePairs a.build).flatMap (fun p => routeEdges a.build.side p.1 (a.routeShadow p.1 p.2)) :=
    List.flatMap_congr fun p hp => by rw [hw _ _ (routePairs_lt hp).1 (routePairs_lt hp).2]
  unfold routeFailure
  dsimp only
  rw [hb, hl, hedge]
  refine orElse_congr (hat fun x d hx hd => by rw [hw x d hx hd]) ?_
  refine orElse_congr (hat fun x d hx hd => by rw [hw x d hx hd]) ?_
  refine orElse_congr (hat fun x d hx hd => by rw [hw x d hx hd]) ?_
  refine orElse_congr (hat fun x d hx hd => by rw [hw x d hx hd]) ?_
  refine orElse_congr (hat fun x d hx hd => by rw [hw x d hx hd]) ?_
  split
  · rfl
  · exact hat fun x d hx hd => by rw [hw x d hx hd]

theorem Logs.routeFailure {a b : State} (h : Logs a b) (w : KV.wf a.chart = true) :
    Machine.routeFailure b = Machine.routeFailure a :=
  routeFailure_congr h.build (by rw [h.eq]) fun _ _ hx hd => h.routeShadow w hx hd

/-- The entries that a commit would change. -/
theorem Logs.changedRoutes {a b : State} (h : Logs a b) (w : KV.wf a.chart = true) :
    (routePairs b.build).filter (fun p => b.routeLive p.1 p.2 != b.routeShadow p.1 p.2)
      = (routePairs a.build).filter (fun p => a.routeLive p.1 p.2 != a.routeShadow p.1 p.2) := by
  rw [h.build]
  refine List.filter_congr fun p hp => ?_
  obtain ⟨hx, hd⟩ := routePairs_lt hp
  rw [h.routeLive w hx hd, h.routeShadow w hx hd]

/-! ## ROUTE_COMMIT (R335) -/

theorem rawN_applied (s : State) {i j : Nat} (w : KV.wf s.chart = true) (h : ekey i j ≠ ekey 0x1100 0xA) :
    (applied s).rawN i j = s.rawN i j := rawN_setRawN_ne s _ w h

theorem chart_wf_setRawN (s : State) (i j v : Nat) (w : KV.wf s.chart = true) : KV.wf (s.setRawN i j v).chart = true :=
  KV.set_wf _ _ _ w

theorem routeCommit_busy {s : State} (h : s.exch.routeBusy = true) : routeCommit s = s.setRawN 0x5000 1 1 := if_pos h

theorem routeCommit_failed {s : State} {k x d : Nat} (h : s.exch.routeBusy = false) (hf : routeFailure s = some (k, x, d)) :
    routeCommit s = (s.setRawN 0x5000 3 (k * 2 ^ 12 + x * 64 + d)).setRawN 0x5000 1 3 := by
  unfold routeCommit
  rw [if_neg (by simp [h]), hf]

/-- The MARKs of a commit: one flit in every class for each changed entry. -/
def sendRouteMarks (s : State) (l : List (Nat × Nat)) : State :=
  l.foldl (fun s p => (List.range 5).foldl (fun s c => s.flit p.1 c 1 p.2) s) s

theorem logs_sendRouteMarks (s : State) {l : List (Nat × Nat)} (h : ∀ p ∈ l, p.1 < 64 ∧ p.2 < 64) : Logs s (sendRouteMarks s l) :=
  logs_foldl l (fun s p hp => logs_foldl _ (fun s c hc =>
    logs_flit s (h p hp).1 (by have := List.mem_range.mp hc; omega) (h p hp).2 1) s) s

theorem routeCommit_same {s : State} (h : s.exch.routeBusy = false) (hf : routeFailure s = none)
    (hl : (routePairs s.build).filter (fun p => s.routeLive p.1 p.2 != s.routeShadow p.1 p.2) = []) :
    routeCommit s = (s.setRawN 0x5000 3 0).setRawN 0x5000 1 0 := by
  unfold routeCommit
  rw [if_neg (by simp [h]), hf]
  dsimp only
  rw [hl]
  rfl

theorem routeCommit_marks {s : State} {l : List (Nat × Nat)} (h : s.exch.routeBusy = false) (hf : routeFailure s = none)
    (hl : (routePairs s.build).filter (fun p => s.routeLive p.1 p.2 != s.routeShadow p.1 p.2) = l) (hne : l ≠ []) :
    routeCommit s = { (sendRouteMarks (s.setRawN 0x5000 3 0) l).setRawN 0x5000 1 1 with
      exch := { (sendRouteMarks (s.setRawN 0x5000 3 0) l).exch with
        routeBusy := true, routeSteps := l.map (fun p => ⟨p.1, p.2, [0, 1, 2, 3, 4], [], []⟩) } } := by
  unfold routeCommit
  rw [if_neg (by simp [h]), hf]
  dsimp only
  rw [hl, if_neg (by simpa using hne)]
  rfl

/-! ## MARKs and their acknowledgements (R336) -/

theorem exec_routeMark {s : State} {src dst cls : Nat} (hs : (s.build.nodeAt src).isSome = true)
    (hd : (s.build.nodeAt dst).isSome = true) :
    exec (.routeMark src dst cls) s = .next
      (if s.exch.routeSteps.any (fun r => r.src == src && r.dst == dst && r.marks.contains cls) then
        (s.flit dst 2 1 src).modStep src dst (fun r =>
          { r with marks := r.marks.filter (· != cls), acking := r.acking ++ [cls] })
      else s) := by
  refine if_neg ?_
  rw [Option.isSome_iff_ne_none] at hs hd
  simp [hs, hd]

theorem exec_routeMarkAck {s : State} {src dst cls : Nat} (hs : (s.build.nodeAt src).isSome = true)
    (hd : (s.build.nodeAt dst).isSome = true) :
    exec (.routeMarkAck src dst cls) s = .next
      (if s.exch.routeSteps.any (fun r => r.src == src && r.dst == dst && r.acking.contains cls) then
        routeAck s src dst cls else s) := by
  refine if_neg ?_
  rw [Option.isSome_iff_ne_none] at hs hd
  simp [hs, hd]

/-- A route entry and a plain entry elsewhere do not touch each other. -/
theorem rawN_setRoute {s : State} {src dst v i j : Nat} (w : KV.wf s.chart = true) (h : ekey i j ≠ ekey (0x5100 + src) dst) :
    (setRoute s src dst v).rawN i j = s.rawN i j := by
  show ((KV.find? (KV.set s.chart (ekey (0x5100 + src) dst) _ _) (ekey i j)).getD _).toNat = _
  rw [KV.find_set_ne h _ _ w]
  rfl

theorem routeLive_setRawN {s : State} {src dst i j v : Nat} (w : KV.wf s.chart = true)
    (h : ekey (0x5100 + src) dst ≠ ekey i j) : (s.setRawN i j v).routeLive src dst = s.routeLive src dst := by
  show ((KV.find? (KV.set s.chart (ekey i j) _ _) (ekey (0x5100 + src) dst)).map _).getD _ = _
  rw [KV.find_set_ne h _ _ w]
  rfl

/-- The one changed entry of a commit after an acknowledgement in class `cls`. -/
def RouteStep.ack (r : RouteStep) (cls : Nat) : RouteStep :=
  { r with acking := r.acking.filter (· != cls), acked := r.acked ++ [cls] }

theorem routeAck_early {s : State} {r : RouteStep} {cls : Nat} (hr : s.exch.routeSteps = [r]) (h : r.acked.length < 4) :
    routeAck s r.src r.dst cls = { s with exch := { s.exch with routeSteps := [r.ack cls] } } := by
  unfold routeAck State.modStep
  rw [hr]
  simp [RouteStep.ack, h]

theorem routeAck_last {s : State} {r : RouteStep} {cls : Nat} (hr : s.exch.routeSteps = [r]) (h : 4 ≤ r.acked.length) :
    routeAck s r.src r.dst cls = ({ setRoute s r.src r.dst (s.routeShadow r.src r.dst) with
      exch := { s.exch with routeSteps := [], routeBusy := false } }.setRawN 0x5000 1 0).bump ⟨0x5000, 2, 32⟩ := by
  unfold routeAck State.modStep
  rw [hr]
  have h5 : ¬ r.acked.length + 1 < 5 := by omega
  simp [h5, setRoute]
  rfl

/-- Settles O44: the write is counted apart from what the commit reads, so its checks see the state it was written in;
an acknowledgement of the fifth class stores the shadow entry in the live one. -/
theorem routeCommitIsFenced : Obligations.RouteCommitIsFenced := by
  intro s hinv
  have hw : KV.wf s.chart = true := by obtain ⟨-, -, -, -, -, h, -⟩ := hinv; exact h
  refine ⟨fun ho => ?_, fun src dst cls hs hd => ?_⟩
  · have he := write_routeCommit ho
    rw [reached_eq] at he
    have hg := logs_reached s
    generalize s.gev 0x10C = g at hg he
    have hb : g.exch.routeBusy = s.exch.routeBusy := by rw [hg.eq]
    have hst : g.exch.routeSteps = s.exch.routeSteps := by rw [hg.eq]
    have hgw := hg.chart_wf hw
    have hgf := hg.routeFailure hw
    have hgl := hg.changedRoutes hw
    refine ⟨fun hbusy => .of he ?_, fun k x d hfree hf => .of he ?_, fun hfree hf => ?_⟩
    · rw [routeCommit_busy (hb.trans hbusy)]
      refine ⟨?_, hst⟩
      rw [rawN_applied _ (chart_wf_setRawN _ _ _ _ hgw) (by decide), rawN_setRawN _ _ _ _ hgw (by decide)]
    · rw [routeCommit_failed (hb.trans hfree) (hgf.trans hf)]
      have h1 := chart_wf_setRawN g 0x5000 3 (k * 2 ^ 12 + x * 64 + d) hgw
      refine ⟨?_, ?_, hb.trans hfree⟩
      · rw [rawN_applied _ (chart_wf_setRawN _ _ _ _ h1) (by decide), rawN_setRawN _ _ _ _ h1 (by decide)]
      · rw [rawN_applied _ (chart_wf_setRawN _ _ _ _ h1) (by decide), rawN_setRawN_ne _ _ h1 (by decide),
          rawN_setRawN_mod _ _ _ _ hgw]
    · have h1 := chart_wf_setRawN g 0x5000 3 0 hgw
      intro l
      refine ⟨fun hl => .of he ?_, fun hl => .of he ?_⟩
      · rw [routeCommit_same (hb.trans hfree) (hgf.trans hf) (hgl.trans hl)]
        refine ⟨?_, ?_, hb.trans hfree⟩
        · rw [rawN_applied _ (chart_wf_setRawN _ _ _ _ h1) (by decide), rawN_setRawN _ _ _ _ h1 (by decide)]
        · rw [rawN_applied _ (chart_wf_setRawN _ _ _ _ h1) (by decide), rawN_setRawN_ne _ _ h1 (by decide),
            rawN_setRawN _ _ _ _ hgw (by decide)]
      · rw [routeCommit_marks (l := l) (hb.trans hfree) (hgf.trans hf) hgl hl]
        have hm := logs_sendRouteMarks (g.setRawN 0x5000 3 0) (l := l)
          fun p hp => routePairs_lt (List.mem_filter.mp hp).1
        have h3 : (sendRouteMarks (g.setRawN 0x5000 3 0) l).rawN 0x5000 3 = 0 := by
          rw [hm.rawN h1 (apart (by decide)), rawN_setRawN _ _ _ _ hgw (by decide)]
        have hmw := hm.chart_wf h1
        clear_value l
        generalize sendRouteMarks (g.setRawN 0x5000 3 0) l = m at hm h3 hmw
        refine ⟨?_, ?_, rfl, rfl⟩
        · refine (rawN_applied _ (chart_wf_setRawN m 0x5000 1 1 hmw) (by decide)).trans ?_
          exact rawN_setRawN _ _ _ _ hmw (by decide)
        · refine (rawN_applied _ (chart_wf_setRawN m 0x5000 1 1 hmw) (by decide)).trans ?_
          exact (rawN_setRawN_ne _ _ hmw (by decide)).trans h3
  · refine ⟨fun h => ?_, fun ⟨r, hr, hrs, hrd, hc⟩ => .of (exec_routeMark hs hd) ?_, fun h => ?_,
      fun r hr hrs hrd hc => ⟨fun h4 => .of (exec_routeMarkAck hs hd) ?_, fun h4 hv => .of (exec_routeMarkAck hs hd) ?_⟩⟩
    · rw [exec_routeMark hs hd, if_neg]
      simpa using fun r hr hrs hrd => h r hr hrs hrd
    · rw [if_pos (by simp only [List.any_eq_true]; exact ⟨r, hr, by simp [hrs, hrd, hc]⟩)]
      have hf := logs_flit s (c := 2) (nodeAt_lt hd) (by decide) (nodeAt_lt hs) 1
      generalize s.flit dst 2 1 src = f at hf
      exact ⟨by rw [hf.eq]; rfl, hf.out⟩
    · rw [exec_routeMarkAck hs hd, if_neg]
      simpa using fun r hr hrs hrd => h r hr hrs hrd
    · subst hrs hrd
      rw [if_pos (by simp [hr, hc]), routeAck_early hr h4]
      exact ⟨rfl, rfl⟩
    · have hdl := nodeAt_lt hd
      have hsl := nodeAt_lt hs
      subst hrs hrd
      rw [if_pos (by simp [hr, hc]), routeAck_last hr h4]
      have h1 : KV.wf (setRoute s r.src r.dst (s.routeShadow r.src r.dst)).chart = true := KV.set_wf _ _ _ hw
      have hlive := routeLive_setRoute (s := s) (src := r.src) hw hdl hv
      have h2 : (setRoute s r.src r.dst (s.routeShadow r.src r.dst)).rawN 0x5000 2 = s.rawN 0x5000 2 :=
        rawN_setRoute hw (by simp only [ekey]; omega)
      generalize setRoute s r.src r.dst (s.routeShadow r.src r.dst) = u at h1 hlive h2
      have h3 := chart_wf_setRawN ({ u with exch := { s.exch with routeSteps := [], routeBusy := false } }) 0x5000 1 0 h1
      refine ⟨rfl, rfl, ?_, ?_, ?_⟩
      · refine (routeLive_setRawN h3 (by simp only [ekey]; omega)).trans ?_
        exact (routeLive_setRawN h1 (by simp only [ekey]; omega)).trans hlive
      · exact (rawN_setRawN_ne _ _ h3 (by decide)).trans (rawN_setRawN _ _ _ _ h1 (by decide))
      · refine (rawN_bump _ _ _ _ h3 (by decide)).trans (congrArg (fun n => (n + 1) % 2 ^ 32) ?_)
        exact (rawN_setRawN_ne _ _ h1 (by decide)).trans h2

end Sys2Proof.Machine
end

section
/-! PROOFS. What a death makes of the Agent Table (R291, R296), and a link reset of every agent bound to a Wicket (R305). -/

namespace Sys2Proof.Machine

/-! ## What a death does at Wicket and Tills leaves the Agent Table alone -/

theorem rolls_endClaims (s : State) (t : Nat) (a : Aid) : Rolls s (endClaims s t a) := by
  unfold endClaims
  extract_lets coords s1
  have h1 : Rolls s s1 := by
    refine Rolls.foldl (fun u p => ?_) coords (.refl s)
    refine rolls_failGather (.ite ?_ (.refl u))
    exact rolls_State_modClaim (.refl u)
  refine Rolls.foldl (fun u p => ?_) _ h1
  split
  · exact rolls_dropClaimant (.refl u)
  · exact rolls_countReleased (.refl u)
  · exact .refl u

theorem rolls_disposeFolio (s : State) (t f : Nat) : Rolls s (disposeFolio s t f) := by
  unfold disposeFolio
  split
  · exact .refl s
  · have hmark : Rolls s (s.modFolio t f (fun y => { y with dead := true })) := rolls_State_modFolio (.refl s)
    extract_lets mark
    have hdrop : Rolls s (dropFolio s t f) := rolls_dropFolio (.refl s)
    refine .ite (.refl s) ?_
    split
    · exact hdrop
    · exact hdrop
    · exact hdrop
    · exact .ite hmark hdrop
    · exact .ite hmark hdrop
    · exact hmark

theorem rolls_dropAtTills (s : State) (a : Aid) : Rolls s (dropAtTills s a) := by
  unfold dropAtTills
  refine Rolls.foldl (fun u t => ?_) _ (.refl s)
  extract_lets s1 s2
  have h2 : Rolls u s2 := rolls_clearMons (rolls_endClaims u t a)
  exact Rolls.foldl (fun v p => rolls_disposeFolio v t _) _ h2

theorem rolls_answerSnoops (s : State) (w : Nat) (a : Aid) : Rolls s (answerSnoops s w a) := by
  unfold answerSnoops
  extract_lets x mine s1 s2 s3
  have h1 : Rolls s s1 := Rolls.foldl (fun u p => rolls_forecloseSnoop (.refl u)) mine (.refl s)
  have h2 : Rolls s s2 := Rolls.foldl (fun u q => rolls_forecloseSnoop (.refl u)) _ h1
  exact rolls_takeSids (rolls_State_modWicket h2)

theorem rolls_dropAtWicket (s : State) (w : Nat) (a : Aid) : Rolls s (dropAtWicket s w a) := by
  unfold dropAtWicket
  extract_lets n held s1 s2
  have h1 : Rolls s s1 := Rolls.foldl (fun u p => rolls_State_modTill (.refl u)) held (.refl s)
  have h2 : Rolls s s2 := rolls_State_modWicket h1
  exact .ite h2 (rolls_pumpAll (h2.trans ⟨rfl, rfl, rfl, rfl, rfl, rfl, rfl, rfl, rfl⟩))

/-! ## The entry of a dead agent -/

/-- The entry of an agent that is declared dead at a Tick (R291, R296). -/
def deadEntry (a : Agent) (cause tick : Nat) : Agent :=
  { a with
    state := .foreclosing, cause := BitVec.ofNat 4 cause, deadMark := true, grace := false, resetSeen := decide (cause = 6)
    foreCount := a.foreCount + 1, windowCount := if a.windowCount == 15 then 15 else a.windowCount + 1
    deathTick := some tick }

theorem declareDead_idle {s : State} {a : Aid} (h : s.serving a.toNat = false) (c : Nat) : declareDead s a c = s := by
  unfold declareDead
  exact if_pos (by simp [h])

/-- A death moves one entry of the Agent Table. -/
theorem agents_declareDead {s : State} {a : Aid} (h : s.serving a.toNat = true) (c : Nat) :
    (declareDead s a c).agents = (s.setAgent a.toNat (deadEntry (s.agent a.toNat) c s.time.tick)).agents := by
  unfold declareDead
  extract_lets n ag w s1 s2 s3 s4 s5 s6 au
  have hs : s.serving n = true := h
  rw [if_neg (by simp [hs])]
  have h3 : Rolls s1 s3 := rolls_State_bump (rolls_State_note (.refl s1))
  have h6 : Rolls s1 s6 := (h3.trans ((rolls_State_send (rolls_answerSnoops s3 w a)).trans (rolls_dropAtWicket s5 w a))).trans
    (rolls_dropAtTills _ a)
  exact h6.agents

theorem agent_declareDead {s : State} {a : Aid} (hw : KV.wf s.agents = true) (c m : Nat) :
    (declareDead s a c).agent m =
      if m = a.toNat ∧ s.serving m = true then deadEntry (s.agent m) c s.time.tick else s.agent m := by
  cases h : s.serving a.toNat with
  | false =>
    rw [declareDead_idle h, if_neg]
    rintro ⟨rfl, hm⟩
    simp [h] at hm
  | true =>
    have he : (declareDead s a c).agent m = (s.setAgent a.toNat (deadEntry (s.agent a.toNat) c s.time.tick)).agent m :=
      congrArg (fun t : KV Agent => KV.get t m {}) (agents_declareDead h c)
    rw [he]
    by_cases hm : m = a.toNat
    · subst hm
      rw [agent_setAgent _ _ _ hw, if_pos ⟨rfl, h⟩]
    · rw [agent_setAgent_ne _ _ hw hm, if_neg (fun x => hm x.1)]

/-- An entry that is dead is in service no more. -/
theorem serving_of_agent {s t : State} {n : Nat} (h : t.agent n = s.agent n) : t.serving n = s.serving n := by
  unfold State.serving; rw [h]

theorem not_serving_of_dead {t : State} {n : Nat} {a : Agent} {c k : Nat} (h : t.agent n = deadEntry a c k) :
    t.serving n = false := by
  unfold State.serving; rw [h]; rfl

/-- Deaths one after another with one cause: every agent in service that is named dies. -/
theorem agent_foldl_declareDead {c : Nat} (l : List Aid) {s : State} (hw : KV.wf s.agents = true) (m : Nat) :
    (l.foldl (fun s a => declareDead s a c) s).agent m =
      if (∃ a ∈ l, m = a.toNat) ∧ s.serving m = true then deadEntry (s.agent m) c s.time.tick else s.agent m := by
  induction l generalizing s with
  | nil => simp
  | cons a l ih =>
    have hk := keeps_declareDead (m₀ := true) (Keeps.refl s) (a := a) (cause := c)
    rw [List.foldl_cons, ih (hk.agents hw), (hk.steady rfl).1]
    have ha := agent_declareDead (a := a) hw c m
    by_cases h1 : m = a.toNat ∧ s.serving m = true
    · rw [if_pos h1] at ha
      rw [if_neg (by simp [not_serving_of_dead ha]), ha, if_pos ⟨⟨a, by simp, h1.1⟩, h1.2⟩]
    · rw [if_neg h1] at ha
      rw [ha, serving_of_agent ha]
      by_cases h2 : (∃ b ∈ l, m = b.toNat) ∧ s.serving m = true
      · obtain ⟨⟨b, hb, hm⟩, hs⟩ := h2
        rw [if_pos ⟨⟨b, hb, hm⟩, hs⟩, if_pos ⟨⟨b, List.mem_cons_of_mem _ hb, hm⟩, hs⟩]
      · rw [if_neg h2, if_neg]
        rintro ⟨⟨b, hb, hm⟩, hs⟩
        rcases List.mem_cons.mp hb with rfl | hb
        · exact h1 ⟨hm, hs⟩
        · exact h2 ⟨⟨b, hb, hm⟩, hs⟩

/-! ## Deaths -/

/-- An agent in service, of which the entry at its death may have been changed but for what the death counts from. -/
theorem diesOf_declareDead {s u : State} {n c : Nat} (hn : n < 1024) (hc : c < 16) (hw : KV.wf u.agents = true)
    (hs : u.serving n = true) (hinc : (u.agent n).inc = (s.agent n).inc) (hf : (u.agent n).foreCount = (s.agent n).foreCount)
    (ht : u.time.tick = s.time.tick) : diesOf s (declareDead u (BitVec.ofNat 10 n) c) n c := by
  have hn' : n = (BitVec.ofNat 10 n : Aid).toNat := by simp [Nat.mod_eq_of_lt hn]
  have ha := agent_declareDead (a := BitVec.ofNat 10 n) hw c n
  rw [if_pos ⟨hn', hs⟩] at ha
  unfold diesOf
  rw [ha]
  refine ⟨rfl, ?_, rfl, rfl, hinc, by rw [← hf]; rfl, by rw [← ht]; rfl⟩
  simp [deadEntry, Nat.mod_eq_of_lt hc]

/-! ## Link resets (R305) -/

theorem KV.find_of_mem_rising {α : Type} {k : Nat} {v : α} : ∀ {lo : Nat} {m : KV α}, KV.rising lo m = true → (k, v) ∈ m →
    lo ≤ k ∧ KV.find? m k = some v
  | lo, (j, x) :: m, hm, h => by
    simp only [KV.rising, Bool.and_eq_true, decide_eq_true_eq] at hm
    rcases List.mem_cons.mp h with h | h
    · cases h; exact ⟨hm.1, by simp [KV.find?]⟩
    · obtain ⟨hk, hf⟩ := KV.find_of_mem_rising hm.2 h
      refine ⟨by omega, ?_⟩
      rw [KV.find?, if_neg (by omega), if_neg (by omega), hf]

theorem KV.find_of_mem {α : Type} {k : Nat} {v : α} {m : KV α} (hm : KV.wf m = true) (h : (k, v) ∈ m) :
    KV.find? m k = some v := (KV.find_of_mem_rising hm h).2

/-- The agents bound to a Wicket are in service on it. -/
theorem mem_bound {s : State} {w n : Nat} (hw : KV.wf s.agents = true) (h : n ∈ s.bound w) :
    s.serving n = true ∧ (s.agent n).wicket.toNat = w := by
  simp only [State.bound, List.mem_map, List.mem_filter, Bool.and_eq_true, beq_iff_eq] at h
  obtain ⟨⟨k, a⟩, ⟨hm, hk, hs⟩, rfl⟩ := h
  have hf : s.agent k = a := by
    unfold State.agent KV.get
    rw [KV.find_of_mem hw hm]
    rfl
  unfold State.serving
  rw [hf]
  exact ⟨hs, hk⟩

/-- A link reset while no agent of an earlier one is Foreclosing: every agent bound to the Wicket dies, and no other. -/
theorem agent_linkReset {s : State} {w : Nat} (hw : KV.wf s.agents = true)
    (h : ∀ a ∈ (s.wicket w).resetting, (s.agent a.toNat).state ≠ .foreclosing) (m : Nat) :
    (linkReset s w).agent m =
      if (∃ n ∈ s.bound w, m = n % 1024) ∧ s.serving m = true then deadEntry (s.agent m) 5 s.time.tick else s.agent m := by
  unfold linkReset
  extract_lets x l s1
  rw [if_neg (by simpa using h)]
  have h1 : s1.agents = s.agents := rfl
  have hr : Rolls (l.foldl (fun s a => declareDead s a 5) s1) (returnLoans (l.foldl (fun s a => declareDead s a 5) s1) w) :=
    Rolls.foldl (fun u t => rolls_returnLoan (.refl u)) _ (.refl _)
  have he := congrArg (fun t : KV Agent => KV.get t m {}) hr.agents
  refine he.trans ((agent_foldl_declareDead l (h1 ▸ hw) m).trans (if_congr (and_congr ?_ Iff.rfl) rfl rfl))
  simp [l]

end Sys2Proof.Machine
end

section
/-! PROOFS. Links of the Exchange and its stall watchdog (R331 to R334). -/

namespace Sys2Proof.Machine

/-- A record since a later state that keeps the records under way and the Tick. -/
theorem Reports.since {s m u : State} {code : Nat} (h : Reports m u code) (hp : s.journal.inbox <+: m.journal.inbox)
    (ht : m.time.tick = s.time.tick) : Reports s u code := by
  obtain ⟨l, hl, r, hr, hc, hk⟩ := h
  obtain ⟨l', hl'⟩ := hp
  exact ⟨l' ++ l, by rw [hl, ← hl', List.append_assoc], r, List.mem_append_right _ hr, hc, hk.trans ht⟩

theorem hasLink_lt {b : Build} {l : Nat} (h : hasLink b l = true) : l < 128 := by
  simp only [hasLink, Bool.and_eq_true, decide_eq_true_eq] at h
  have := side_le b
  omega

/-- A link that is stored in another than its idle state reads as stored. -/
theorem link_modLink {s : State} {l : Nat} {f : Link → Link} (h : f (s.link l) ≠ {}) :
    (s.modLink l f).link l = f (s.link l) := by
  show KV.get (KV.set s.exch.links l (f (s.link l)) {}) l {} = _
  unfold KV.set KV.get
  rw [if_neg h, KV.find_put]
  rfl

/-! ## Errors of a flit (R332) -/

theorem exec_linkFlitError {s : State} {l half : Nat} (hl : hasLink s.build l = true) (hh : half < 2) (e : LinkEvent) :
    exec (.linkFlitError l half e) s = .next (if 2 ≤ (s.link l).state then s else linkError s l half e) := by
  refine if_neg ?_
  simp only [hl, Bool.not_true, Bool.false_or, decide_eq_true_eq]
  omega

/-- Does a half of a link work. -/
def Link.works (x : Link) (half : Nat) : Bool := if half = 0 then x.half0 else x.half1
/-- The replays in a row at a half of a link. -/
def Link.replays (x : Link) (half : Nat) : Nat := if half = 0 then x.replay0 else x.replay1
/-- A link with `n` replays in a row at a half. -/
def Link.replayed (x : Link) (half n : Nat) : Link := if half = 0 then { x with replay0 := n } else { x with replay1 := n }

theorem Link.replayed_state (x : Link) (half n : Nat) : (x.replayed half n).state = x.state := by
  unfold Link.replayed; split <;> rfl

theorem Link.replayed_ne {x : Link} {half n : Nat} (h : n ≠ 0) : x.replayed half n ≠ {} := by
  unfold Link.replayed
  split
  · exact fun e => h (congrArg Link.replay0 e)
  · exact fun e => h (congrArg Link.replay1 e)

theorem linkError_correctable (s : State) (l half : Nat) : linkError s l half .correctable =
    if (s.link l).works half = true then (s.modLink l (·.replayed half 0)).bump ⟨0x5400 + l, 2, 32⟩ else s := by
  unfold linkError Link.works Link.replayed
  simp only [beq_iff_eq]

/-- One more replay in a row at a half, counted at its link. -/
def replayOnce (s : State) (l half : Nat) : State :=
  (s.modLink l (·.replayed half ((s.link l).replays half + 1))).bump ⟨0x5400 + l, 3, 32⟩

theorem link_replayOnce (s : State) (l half : Nat) :
    (replayOnce s l half).link l = (s.link l).replayed half ((s.link l).replays half + 1) :=
  link_modLink (f := (·.replayed half ((s.link l).replays half + 1))) (Link.replayed_ne (Nat.succ_ne_zero _))

theorem linkError_uncorrectable (s : State) (l half : Nat) : linkError s l half .uncorrectable =
    if (s.link l).works half = false then s
    else if (s.link l).replays half + 1 < s.rawN 0x5000 6 then replayOnce s l half
    else failHalf (replayOnce s l half) l half := by
  unfold linkError replayOnce Link.works Link.replayed Link.replays
  simp only [beq_iff_eq, Bool.not_eq_true']

/-- Poison reaches a message in flight and nothing else. -/
theorem poisonOnLink_keeps (s : State) (l : Nat) : (poisonOnLink s l).journal.inbox = s.journal.inbox
    ∧ (poisonOnLink s l).time = s.time ∧ (poisonOnLink s l).fatal = s.fatal ∧ (poisonOnLink s l).tills = s.tills := by
  unfold poisonOnLink
  extract_lets b hit pre1 rest1 on pre2 rest2
  split
  · exact ⟨rfl, rfl, rfl, rfl⟩
  · exact ⟨rfl, rfl, rfl, rfl⟩

/-! ## A half at its limit (R332) -/

/-- A link that goes on with the other half. -/
def linkHalf (half : Nat) (y : Link) : Link :=
  { y with state := 1, half0 := half != 0, half1 := half == 0, replay0 := 0, replay1 := 0 }

theorem link_linkHalf (s : State) (l half : Nat) : (s.modLink l (linkHalf half)).link l = linkHalf half (s.link l) :=
  link_modLink (fun e => absurd (congrArg Link.state e) (by decide : 1 ≠ 0))

theorem failHalf_first {s : State} {l half : Nat} (h : (s.link l).state = 0) :
    failHalf s l half = (s.modLink l (linkHalf half)).emitAs J.exchLinkHalf.code (l / 2) none [l, half] := by
  unfold failHalf
  exact if_pos (by simp [h])

/-- A link that carries no flit any more. -/
def linkLost (y : Link) : Link := { y with state := 2, half0 := false, half1 := false, replay0 := 0, replay1 := 0 }

theorem link_linkLost (s : State) (l : Nat) : (s.modLink l linkLost).link l = linkLost (s.link l) :=
  link_modLink (fun e => absurd (congrArg Link.state e) (by decide : 2 ≠ 0))

theorem failHalf_idle {s : State} {l half : Nat} (h : (s.link l).state ≠ 0) (hu : s.linkUsed l = false) :
    failHalf s l half = (s.modLink l linkLost).emitAs J.exchLinkDown.code (l / 2) none [l] := by
  unfold failHalf
  extract_lets x s1
  rw [if_neg (by simpa using h), if_neg (by simp [hu])]
  rfl

theorem failHalf_used {s : State} {l half : Nat} (h : (s.link l).state ≠ 0) (hu : s.linkUsed l = true) :
    failHalf s l half = { ((s.modLink l linkLost).emitAs J.exchLinkLost.code (l / 2) none [l]).emitAs J.exchFatal.code (l / 2) none [l] with fatal := true, global := 3 } := by
  unfold failHalf
  extract_lets x s1
  rw [if_neg (by simpa using h), if_pos hu]
  rfl

/-- The use of a link does not hang on what else the Chart holds. -/
theorem linkUsed_congr {a b : State} (hb : b.build = a.build)
    (hl : ∀ x d, x < 64 → d < 64 → b.routeLive x d = a.routeLive x d) (l : Nat) : b.linkUsed l = a.linkUsed l := by
  unfold State.linkUsed
  rw [hb]
  rw [Bool.eq_iff_iff, List.any_eq_true, List.any_eq_true]
  refine exists_congr fun p => and_congr_right fun hp => ?_
  obtain ⟨hx, hd⟩ := routePairs_lt hp
  rw [hl _ _ hx hd]

theorem Logs.linkUsed {a b : State} (h : Logs a b) (w : KV.wf a.chart = true) (l : Nat) : b.linkUsed l = a.linkUsed l :=
  linkUsed_congr h.build (fun _ _ hx hd => h.routeLive w hx hd) l

/-- A count at a link leaves its use alone. -/
theorem linkUsed_counted {s : State} {f : Link → Link} {l j n : Nat} (w : KV.wf s.chart = true) :
    ((s.modLink l f).bump ⟨0x5400 + l, j, n⟩).linkUsed l = s.linkUsed l := by
  refine linkUsed_congr (a := s) (b := (s.modLink l f).bump ⟨0x5400 + l, j, n⟩) rfl (fun x d hx hd => ?_) l
  show ((KV.find? (KV.set s.chart (ekey (0x5400 + l) j) _ _) (ekey (0x5100 + x) d)).map _).getD _ = _
  rw [KV.find_set_ne (by simp only [ekey]; omega) _ _ w]
  rfl

/-! ## RETRAIN (R333) -/

theorem exec_retrainDone {s : State} {l : Nat} (hl : hasLink s.build l = true) (a b : Bool) :
    exec (.retrainDone l a b) s = .next (if (s.link l).state != 3 then s
      else s.modLink l (fun x => { x with
        state := if a && b then 0 else if a || b then 1 else 2
        half0 := a, half1 := b, replay0 := 0, replay1 := 0 })) := if_neg (by simp [hl])

theorem linkCmd_used {s : State} {l : Nat} (h : s.linkUsed l = true ∨ s.exch.routeBusy = true) :
    linkCmd s l 3 = s.modLink l (fun x => { x with last := 1 }) := by
  unfold linkCmd
  exact (if_neg (by decide)).trans (if_pos (by simpa using h))

theorem linkCmd_free {s : State} {l : Nat} (h : s.linkUsed l = false) (hb : s.exch.routeBusy = false) :
    linkCmd s l 3 = s.modLink l (fun x => { x with state := 3, last := 0 }) := by
  unfold linkCmd
  exact (if_neg (by decide)).trans (if_neg (by simp [h, hb]))

/-! ## Stalls (R334) -/

theorem exec_exchStall {s : State} {node port vc : Nat} (hx : node % 8 < s.build.side) (hy : node / 8 < s.build.side)
    (hp : port < 5) (hv : vc < 4) : exec (.exchStall node port vc) s = .next (stallBite s node port vc) := by
  refine if_neg ?_
  simp only [Bool.or_eq_true, decide_eq_true_eq]
  omega

/-- The bite that is recorded, at a local port with its Tick. -/
def bitten (s : State) (node port vc : Nat) : State :=
  { s.emitAs J.exchStall.code node none [node, port, vc] with
    exch := { (s.emitAs J.exchStall.code node none [node, port, vc]).exch with localBite := some s.time.tick } }

/-- What a bite leaves as it was, and its record. -/
theorem bitten_keeps (s : State) {node : Nat} (port vc : Nat) (hn : node < 64) :
    (bitten s node port vc).tills = s.tills ∧ (bitten s node port vc).agents = s.agents
      ∧ (bitten s node port vc).wickets = s.wickets ∧ s.journal.inbox <+: (bitten s node port vc).journal.inbox
      ∧ (bitten s node port vc).time = s.time ∧ (bitten s node port vc).fatal = s.fatal
      ∧ Reports s (bitten s node port vc) 0x007 := by
  have hl := logs_emitAs s J.exchStall.code hn none [node, port, vc]
  exact ⟨hl.tills, hl.agents, hl.wickets, hl.inbox, hl.time, hl.fatal,
    reports_emitAs (s := s) List.prefix_rfl rfl J.exchStall.code node none [node, port, vc]⟩

/-- A fatal fault of the Exchange. -/
def exchFatalAt (s : State) (node port vc : Nat) : State :=
  { s.emitAs J.exchFatal.code node none [node, port, vc] with fatal := true, global := 3 }

theorem stallBite_away {s : State} {node port vc : Nat} (h : port ≠ 0) : stallBite s node port vc =
    if s.exch.localBite = some s.time.tick then s
    else exchFatalAt (s.emitAs J.exchStall.code node none [node, port, vc]) node port vc := by
  unfold stallBite
  extract_lets s1 mark fatal
  rw [if_neg (by simpa using h)]
  simp only [beq_iff_eq]
  rfl

theorem stallBite_fatal {s : State} {node vc : Nat}
    (h : s.build.nodeAt node = none ∨ s.build.nodeAt node = some .au ∨ s.build.nodeAt node = some .ch) :
    stallBite s node 0 vc = exchFatalAt (bitten s node 0 vc) node 0 vc := by
  unfold stallBite
  extract_lets s1 mark fatal
  rw [if_pos (beq_self_eq_true 0)]
  rcases h with h | h | h <;> rw [h] <;> rfl

theorem stallBite_till {s : State} {node vc t : Nat} (h : s.build.nodeAt node = some (.till t))
    (hst : (s.till t).fn.st ≠ .failed) (hh : (s.till t).halted = none) (hwalk : s.walked t = true) :
    stallBite s node 0 vc = failTill (bitten s node 0 vc) t 3 := by
  unfold stallBite
  extract_lets s1 mark fatal
  rw [if_pos (beq_self_eq_true 0), h]
  dsimp only
  rw [if_neg (by simp [hst, hh]), if_pos (by simp [hwalk])]
  rfl

theorem stallBite_wicket {s : State} {node vc w : Nat} (h : s.build.nodeAt node = some (.wicket w)) :
    stallBite s node 0 vc = linkReset (bitten s node 0 vc) w := by
  unfold stallBite
  extract_lets s1 mark fatal
  rw [if_pos (beq_self_eq_true 0), h]
  rfl

/-- A record and a fatal fault behind it. -/
theorem exchFatalAt_does {s u : State} {node : Nat} (port vc : Nat) (hn : node < 64)
    (hi : s.journal.inbox <+: u.journal.inbox) (ht : u.time.tick = s.time.tick) :
    (exchFatalAt u node port vc).fatal = true ∧ (exchFatalAt u node port vc).global = 3
      ∧ (∀ c, Reports s u c → Reports s (exchFatalAt u node port vc) c) ∧ Reports s (exchFatalAt u node port vc) 0x00A
      ∧ (exchFatalAt u node port vc).agents = u.agents := by
  have hl := logs_emitAs u J.exchFatal.code hn none [node, port, vc]
  exact ⟨rfl, rfl, fun c h => h.of_prefix hl.inbox, reports_emitAs hi ht J.exchFatal.code node none [node, port, vc], hl.agents⟩

/-- Settles O43: each error in its case of R332; RETRAIN is answered by the use of the link and the running commit (R333);
a stall is counted at the node it bites at (R334), and at a Wicket it is a link reset. -/
theorem linksAndStalls : Obligations.LinksAndStalls := by
  intro s hinv
  obtain ⟨htills, -, -, -, -, hw, hwa, -⟩ := id hinv
  refine ⟨fun l half e hl hh => ?_, fun l hlt hl => ?_, fun node port vc hx hy hp hv => ?_⟩
  · have hsrc : l / 2 < 64 := by have := hasLink_lt hl; omega
    have hc (e : LinkEvent) := exec_linkFlitError hl hh e
    intro x works n c
    refine ⟨fun h2 => (hc e).trans (by rw [if_pos h2]), fun h2 => ?_⟩
    have hx : ¬ 2 ≤ (s.link l).state := by show ¬ 2 ≤ x.state; omega
    replace hc := fun e => (hc e).trans (congrArg Host.Outcome.next (if_neg hx))
    refine ⟨hc _, .of (hc _) ?_, fun he => ?_, fun hw0 => ⟨?_, ?_⟩, fun hw1 => .of (hc _) ?_, fun hw1 hn => .of (hc _) ?_,
      fun hw1 hn => ⟨fun h0 => .of (hc _) ?_, fun h1 hu => .of (hc _) ?_, fun h1 hu => .of (hc _) ?_⟩⟩
    · have hp : (poisonOnLink s l).journal.inbox = s.journal.inbox ∧ (poisonOnLink s l).time = s.time
          ∧ (poisonOnLink s l).fatal = s.fatal ∧ (poisonOnLink s l).tills = s.tills := poisonOnLink_keeps s l
      obtain ⟨hi, ht, hf, hti⟩ := hp
      have hr := logs_emitAs (poisonOnLink s l) J.exchDataUe.code hsrc none [l]
      exact ⟨reports_emitAs (hi ▸ List.prefix_rfl) (congrArg Time.tick ht) _ _ _ _, hr.fatal.trans hf, hr.tills.trans hti⟩
    · have hr := logs_emitAs s J.exchFatal.code hsrc none [l]
      have hrep := reports_emitAs (s := s) List.prefix_rfl rfl J.exchFatal.code (l / 2) none [l]
      rcases he with rfl | rfl
      · exact .of (hc _) ⟨rfl, rfl, hrep, hr.net⟩
      · exact .of (hc _) ⟨rfl, rfl, hrep, hr.net⟩
    · exact (hc _).trans (by rw [linkError_correctable, if_neg (by exact fun h => absurd (h.symm.trans hw0) (by decide))])
    · exact (hc _).trans (by rw [linkError_uncorrectable, if_pos (by exact hw0)])
    · rw [linkError_correctable, if_pos (by exact hw1)]
      exact ⟨rfl, rawN_bump (s.modLink l _) _ _ _ hw (by decide), rfl⟩
    · rw [linkError_uncorrectable, if_neg (by exact fun h => absurd (h.symm.trans hw1) (by decide)), if_pos (by exact hn)]
      exact ⟨link_replayOnce s l half, rawN_bump (s.modLink l _) _ _ _ hw (by decide), rfl⟩
    all_goals
      rw [linkError_uncorrectable, if_neg (by exact fun h => absurd (h.symm.trans hw1) (by decide)),
        if_neg (by exact Nat.not_lt.mpr hn)]
      have hs1 : ((replayOnce s l half).link l).state = x.state :=
        (congrArg Link.state (link_replayOnce s l half)).trans (Link.replayed_state _ _ _)
      have hu1 : (replayOnce s l half).linkUsed l = s.linkUsed l := linkUsed_counted hw
      have hi1 : s.journal.inbox <+: (replayOnce s l half).journal.inbox := List.prefix_rfl
      have ht1 : (replayOnce s l half).time.tick = s.time.tick := rfl
      have hf1 : (replayOnce s l half).fatal = s.fatal := rfl
      generalize replayOnce s l half = u at hs1 hu1 hi1 ht1 hf1 ⊢
    · rw [failHalf_first (hs1.trans h0)]
      have hr := logs_emitAs (u.modLink l (linkHalf half)) J.exchLinkHalf.code hsrc none [l, half]
      have hlink := (hr.link l).trans (link_linkHalf u l half)
      refine ⟨congrArg Link.state hlink, (congrArg Link.half0 hlink).trans ?_, (congrArg Link.half1 hlink).trans ?_,
        reports_emitAs (u := u.modLink l (linkHalf half)) hi1 ht1 _ _ _ _, hr.fatal.trans hf1⟩
      · exact Bool.eq_iff_iff.mpr (by simp [linkHalf])
      · exact Bool.eq_iff_iff.mpr (by simp [linkHalf])
    · rw [failHalf_idle (by omega) (hu1.trans hu)]
      have hr := logs_emitAs (u.modLink l linkLost) J.exchLinkDown.code hsrc none [l]
      exact ⟨congrArg Link.state ((hr.link l).trans (link_linkLost u l)),
        reports_emitAs (u := u.modLink l linkLost) hi1 ht1 _ _ _ _, hr.fatal.trans hf1⟩
    · rw [failHalf_used (by omega) (hu1.trans hu)]
      have hr := logs_emitAs (u.modLink l linkLost) J.exchLinkLost.code hsrc none [l]
      have hrep := reports_emitAs (u := u.modLink l linkLost) hi1 ht1 J.exchLinkLost.code (l / 2) none [l]
      have hlink := (hr.link l).trans (link_linkLost u l)
      have hi2 := hi1.trans hr.inbox
      have ht2 := (congrArg Time.tick hr.time).trans ht1
      generalize (u.modLink l linkLost).emitAs J.exchLinkLost.code (l / 2) none [l] = v at hlink hrep hi2 ht2 ⊢
      have hr2 := logs_emitAs v J.exchFatal.code hsrc none [l]
      exact ⟨congrArg Link.state ((hr2.link l).trans hlink), hrep.of_prefix hr2.inbox, reports_emitAs hi2 ht2 _ _ _ _, rfl, rfl⟩
  · have hc (a b : Bool) := exec_retrainDone hl a b
    refine ⟨fun h a b => ?_, fun h a b => .of (hc a b) ?_, fun ho hu => .of (write_retrain ho hlt hl) ?_,
      fun ho hu hb => .of (write_retrain ho hlt hl) ?_⟩
    · rw [hc, if_pos (by simpa using h)]
    · rw [if_neg (by simp [h])]
      exact ⟨rfl, rfl⟩
    · rw [reached_eq]
      have hg := logs_reached s
      generalize s.gev 0x10C = g at hg ⊢
      rw [linkCmd_used (by rw [hg.linkUsed hw, show g.exch.routeBusy = s.exch.routeBusy by rw [hg.eq]]; exact hu)]
      exact (link_modLink (s := g) (f := fun x => { x with last := 1 }) (fun e => absurd (congrArg Link.last e) (by decide : 1 ≠ 0))).trans
        (congrArg (fun x : Link => { x with last := 1 }) (hg.link l))
    · rw [reached_eq]
      have hg := logs_reached s
      generalize s.gev 0x10C = g at hg ⊢
      rw [linkCmd_free (by rw [hg.linkUsed hw]; exact hu) (by rw [show g.exch.routeBusy = s.exch.routeBusy by rw [hg.eq]]; exact hb)]
      exact (link_modLink (s := g) (f := fun x => { x with state := 3, last := 0 }) (fun e => absurd (congrArg Link.state e) (by decide : 3 ≠ 0))).trans
        (congrArg (fun x : Link => { x with state := 3, last := 0 }) (hg.link l))
  · have hnode : node < 64 := by have := side_le s.build; omega
    have hc := exec_exchStall hx hy hp hv
    have hl := logs_emitAs s J.exchStall.code hnode none [node, port, vc]
    have hrep := reports_emitAs (s := s) List.prefix_rfl rfl J.exchStall.code node none [node, port, vc]
    refine ⟨fun h hb => ?_, fun h hb => .of hc ?_, fun h hk => .of hc ?_, fun t h hk hcalm hwalk => .of hc ?_,
      fun w h hk hres => .of hc ?_⟩
    · rw [hc, stallBite_away h, if_pos hb]
    · rw [stallBite_away h, if_neg hb]
      obtain ⟨h1, h2, h3, h4, h5⟩ := exchFatalAt_does port vc hnode hl.inbox (congrArg Time.tick hl.time)
      exact ⟨h1, h2, h3 _ hrep, h4, h5.trans hl.agents⟩
    · subst h
      rw [stallBite_fatal hk]
      obtain ⟨-, -, -, hinbox, htime, -, hrep⟩ := bitten_keeps s 0 vc hnode
      obtain ⟨h1, h2, h3, h4, -⟩ := exchFatalAt_does 0 vc hnode hinbox (congrArg Time.tick htime)
      exact ⟨h1, h2, h3 _ hrep, h4⟩
    · subst h
      obtain ⟨ht, hoff, -, hfail, -, hhalt, -⟩ := alive_iff.mp hcalm.1
      rw [stallBite_till hk hfail hhalt hwalk]
      obtain ⟨hts, -, -, hinbox, htime, hfatal, hrep⟩ := bitten_keeps s 0 vc hnode
      generalize bitten s node 0 vc = u at hts hinbox htime hfatal hrep ⊢
      have hm : u.till t = s.till t := by unfold State.till; rw [hts]
      have hlen : t < u.tills.length := hts ▸ lt_tills_length hinv ht
      have hkeep := keeps_failTill (m₀ := true) (Keeps.refl u) (t := t) (cause := 3)
      obtain ⟨h1, h2, h3, -⟩ := failTill_does hlen (by rw [hm]; exact ⟨hoff, hfail⟩) (by rw [hm]; exact hhalt) 3
      exact ⟨h1, h2, hrep.of_prefix hkeep.inbox, h3.since hinbox (congrArg Time.tick htime),
        (hkeep.steady rfl).2.2.1.trans hfatal⟩
    · subst h
      rw [stallBite_wicket hk]
      obtain ⟨-, hag, hwk, hinbox, htime, hfatal, hrep⟩ := bitten_keeps s 0 vc hnode
      generalize bitten s node 0 vc = u at hag hwk hinbox htime hfatal hrep ⊢
      have hkeep := keeps_linkReset (m₀ := true) (Keeps.refl u) (w := w)
      refine ⟨hrep.of_prefix hkeep.inbox, (hkeep.steady rfl).2.2.1.trans hfatal, fun n hn hlt => ?_⟩
      have hagent (m : Nat) : u.agent m = s.agent m := by unfold State.agent; rw [hag]
      have ha := agent_linkReset (s := u) (w := w) (hag ▸ hwa)
        (by rw [show u.wicket w = s.wicket w by unfold State.wicket; rw [hwk]]
            exact fun a ha => hagent _ ▸ hres a ha) n
      rw [if_pos] at ha
      · rw [ha]; exact ⟨rfl, rfl⟩
      · refine ⟨⟨n, ?_, (Nat.mod_eq_of_lt hlt).symm⟩, ?_⟩
        · unfold State.bound; rw [hag]; exact hn
        · rw [serving_of_agent (hagent n)]
          exact (mem_bound hwa hn).1

end Sys2Proof.Machine
end

section
/-! PROOFS. AGENT_CMD in every state of an entry (R283, R284, R289). -/

namespace Sys2Proof.Machine

/-! ## AGENT_RESULT -/

theorem agent_result {s : State} {n r : Nat} (hw : KV.wf s.agents = true) :
    (result s n r).agent n = { s.agent n with result := r } := agent_modAgent s n _ hw

theorem agents_wf_result {s : State} {n r : Nat} (hw : KV.wf s.agents = true) : KV.wf (result s n r).agents = true :=
  KV.set_wf _ _ _ hw

/-! ## Joins (R284) -/

/-- A Till commits the agent's escrow, where its pool allows (R135). -/
def commitAt (n : Nat) (s : State) (t : Nat) : State :=
  if (s.agent n).committed.contains t || (s.till t).poolF < (s.agent n).escrowF || (s.till t).poolD < (s.agent n).escrowD then s
  else (s.modTill t (fun u => { u with
      escrow := KV.put u.escrow n { folios := (s.agent n).escrowF, data := (s.agent n).escrowD } })).modAgent n
    (fun a => { a with committed := a.committed ++ [t] })

theorem joinProgress_eq (s : State) (n : Nat) : joinProgress s n =
    if (s.agent n).state != .joining || s.foliosOpen n != 0 then s else s.joinTills.foldl (commitAt n) s := rfl

/-- The agent's entry but for the Tills that have committed. -/
def Agent.bare (a : Agent) : Agent := { a with committed := [] }

theorem commitAt_keeps {s : State} {n : Nat} (t : Nat) (hw : KV.wf s.agents = true) :
    KV.wf (commitAt n s t).agents = true ∧ ((commitAt n s t).agent n).bare = (s.agent n).bare ∧ (commitAt n s t).out = s.out := by
  unfold commitAt
  split
  · exact ⟨hw, rfl, rfl⟩
  · exact ⟨KV.set_wf _ _ _ hw, (congrArg Agent.bare (agent_modAgent (s.modTill t _) n
      (fun a => { a with committed := a.committed ++ [t] }) hw)).trans rfl, rfl⟩

theorem foldl_commitAt_keeps {n : Nat} (l : List Nat) {s : State} (hw : KV.wf s.agents = true) :
    ((l.foldl (commitAt n) s).agent n).bare = (s.agent n).bare ∧ (l.foldl (commitAt n) s).out = s.out := by
  induction l generalizing s with
  | nil => exact ⟨rfl, rfl⟩
  | cons t l ih =>
    obtain ⟨h1, h2, h3⟩ := commitAt_keeps (n := n) t hw
    obtain ⟨h4, h5⟩ := ih h1
    exact ⟨h4.trans h2, h5.trans h3⟩

theorem joinProgress_keeps {s : State} {n : Nat} (hw : KV.wf s.agents = true) :
    ((joinProgress s n).agent n).bare = (s.agent n).bare ∧ (joinProgress s n).out = s.out := by
  rw [joinProgress_eq]
  split
  · exact ⟨rfl, rfl⟩
  · exact foldl_commitAt_keeps _ hw

/-- A join starts: the entry but for its commitments, and no message. -/
theorem startJoin_keeps {s : State} {n : Nat} (hw : KV.wf s.agents = true) :
    ((startJoin s n).agent n).bare = { s.agent n with
        state := .joining, escrowF := s.escrowF n, escrowD := s.escrowD n, committed := [] } ∧ (startJoin s n).out = s.out := by
  obtain ⟨h1, h2⟩ := joinProgress_keeps (n := n) (s := s.setAgent n { s.agent n with
    state := .joining, escrowF := s.escrowF n, escrowD := s.escrowD n, committed := [] }) (KV.set_wf _ _ _ hw)
  rw [agent_setAgent _ _ _ hw] at h1
  exact ⟨h1, h2⟩

theorem cfgValid_iff {s : State} {a : Agent} : s.cfgValid a = true ↔
    (a.kind = 2 ∧ a.wicket = 8) ∨ ((a.kind = 0 ∨ a.kind = 1) ∧ a.wicket.toNat < s.build.wickets) := by
  have h8 : a.wicket.toNat = Build.ws ↔ a.wicket = 8 :=
    ⟨fun h => BitVec.eq_of_toNat_eq h, fun h => by rw [h]; rfl⟩
  simp only [State.cfgValid, Bool.or_eq_true, Bool.and_eq_true, beq_iff_eq, decide_eq_true_eq, h8]

theorem joinResult_reset {s : State} {n : Nat} (hl : s.fuses.lifecycle ≠ 3) (h : s.global = 1) : joinResult s n = 1 := by
  simp [joinResult, hl, h]

theorem joinResult_invalid {s : State} {n : Nat} (hl : s.fuses.lifecycle ≠ 3) (h : s.global ≠ 1)
    (hc : s.cfgValid (s.agent n) = false) : joinResult s n = 3 := by
  simp [joinResult, hl, h, hc]

theorem joinResult_wicket {s : State} {n : Nat} (hl : s.fuses.lifecycle ≠ 3) (h : s.global ≠ 1)
    (hc : s.cfgValid (s.agent n) = true) :
    joinResult s n = if (s.wicket (s.agent n).wicket.toNat).fn.st != .on then 1 else 0 := by
  simp [joinResult, hl, h, hc]

theorem Logs.joinResult {a b : State} (h : Logs a b) (n : Nat) : Machine.joinResult b n = Machine.joinResult a n := by
  rw [h.eq]; rfl

/-! ## Leaves (R289) -/

theorem rolls_startLeave (s : State) (n : Nat) :
    Rolls (s.modAgent n (fun a => { a with state := .leaving })) (startLeave s n) := by
  unfold startLeave
  extract_lets aid s1
  split
  · exact (Rolls.foldl (fun u t => rolls_clearMons (rolls_endClaims u t aid)) _ (rolls_drainWhere (.refl s1))).trans
      ⟨rfl, rfl, rfl, rfl, rfl, rfl, rfl, rfl, rfl⟩
  · exact ⟨rfl, rfl, rfl, rfl, rfl, rfl, rfl, rfl, rfl⟩
  · exact .refl s1

theorem agent_startLeave {s : State} {n : Nat} (hw : KV.wf s.agents = true) :
    (startLeave s n).agent n = { s.agent n with state := .leaving } :=
  (congrArg (fun m : KV Agent => KV.get m n {}) (rolls_startLeave s n).agents).trans (agent_modAgent s n _ hw)

/-- A caching host that leaves enters the walk set. -/
theorem leave_startLeave {s : State} {n : Nat} (hn : n < 1024) (hk : (s.agent n).kind = 0) :
    ∃ x, (startLeave s n).au.leave = s.au.leave ++ [x] ∧ x.aid.toNat = n := by
  unfold startLeave
  extract_lets aid s1
  rw [hk]
  exact ⟨walkAll s1 aid, rfl, by simp [walkAll, aid, Nat.mod_eq_of_lt hn]⟩

/-! ## A refused write of the window (R459) -/

/-- A write that the role may not make, or in Quarantine, is refused and counted. -/
theorem windowCmd_denied {s : State} (hc : s.chartUp = true) (hh : s.inHold = false) (ho : s.power.offReady = false)
    (c : Instr) (h : Option LineData) {i j : Nat} (v size : Nat)
    (hm : s.sec.quarantine = true ∨ mayWrite s.windowRole i j = false) :
    windowCmd s c h i j v size = refused (s.gev 0x10C) (s.window h) i j .denied := by
  have hg := logs_reached s
  have hq : (s.gev 0x10C).sec.quarantine = s.sec.quarantine := by rw [hg.sec]
  have hf : firstCheck (s.gev 0x10C) (s.window h) i j size = .denied := by
    unfold firstCheck
    rw [hq, if_pos]
    rcases hm with hm | hm
    · simp [hm]
    · simp [State.window, hm]
  simp [windowCmd, windowWrite, hc, hh, ho, writeEntry, hf]

/-- The count of a refused write. -/
theorem rawN_refusal {s : State} (hw : KV.wf s.chart = true) (v : Nat) :
    ((s.bump ⟨0x1100, 6, 32⟩).setRawN 0x1100 7 v).rawN 0x1100 6 = (s.rawN 0x1100 6 + 1) % 2 ^ 32 := by
  have h1 : KV.wf (s.bump ⟨0x1100, 6, 32⟩).chart = true := KV.set_wf _ _ _ hw
  rw [rawN_setRawN_ne _ v h1 (by decide), rawN_bump s _ _ _ hw (by decide)]

/-- An Observer writes no entry (R459, R464). -/
theorem mayWrite_observer (i j : Nat) : mayWrite 0 i j = false := by
  unfold mayWrite
  split
  · rfl
  · split
    · rfl
    · split
      · split <;> rfl
      · rfl

/-- A refusal moves two counts, and the result entry of a command that its role may not give. -/
theorem refused_keeps {s : State} (hw : KV.wf s.chart = true) (a : Author) (i j : Nat) (c : Code) :
    (refused s a i j c).agents = s.agents ∧ (refused s a i j c).tills = s.tills ∧ (refused s a i j c).out = s.out
      ∧ (refused s a i j c).rawN 0x1100 6 = (s.rawN 0x1100 6 + 1) % 2 ^ 32 := by
  unfold refused
  dsimp only
  generalize place i 16 48 + place j 8 40 + place c.num 4 36 + place (bit a.teller) 1 35 = v
  have h4 := rawN_refusal hw v
  generalize hs : (s.bump ⟨0x1100, 6, 32⟩).setRawN 0x1100 7 v = s1 at h4
  have h1 : s1.agents = s.agents := by rw [← hs]; rfl
  have h2 : s1.tills = s.tills := by rw [← hs]; rfl
  have h3 : s1.out = s.out := by rw [← hs]; rfl
  split
  · exact ⟨h1, h2, h3, h4⟩
  · split
    · exact ⟨h1, h2, h3, h4⟩
    · exact ⟨h1, h2, h3, h4⟩

/-! ## The commands -/

theorem lifecycle_of_open {s : State} (ho : s.windowOpen) : s.fuses.lifecycle ≠ 3 := by
  obtain ⟨-, -, -, -, hr⟩ := ho
  intro h
  exact hr (by simp [State.windowRole, h])

theorem agentCmd_join {s : State} {n : Nat} : agentCmd s n 1 = match (s.agent n).state with
    | .absent => if joinResult s n == 0 then startJoin (result s n 0) n else result s n (joinResult s n)
    | .joining | .active => result s n 0
    | .leaving | .foreclosing => result s n 1
    | .quarantined => result s n 2 := rfl

theorem agentCmd_leave {s : State} {n : Nat} : agentCmd s n 2 = match (s.agent n).state with
    | .joining => cancelJoin (result s n 0) n
    | .active => startLeave (result s n 0) n
    | _ => result s n 0 := rfl

theorem agentCmd_foreclose {s : State} {n : Nat} : agentCmd s n 3 = match (s.agent n).state with
    | .joining => cancelJoin (result s n 0) n
    | .active | .leaving => declareDead (result s n 0) (BitVec.ofNat 10 n) 3
    | _ => result s n 0 := rfl

theorem agentCmd_join_ok {s : State} {n : Nat} (h : (s.agent n).state = .joining ∨ (s.agent n).state = .active) :
    agentCmd s n 1 = result s n 0 := by
  rw [agentCmd_join]
  rcases h with h | h <;> rw [h]

theorem agentCmd_join_busy {s : State} {n : Nat} (h : (s.agent n).state = .leaving ∨ (s.agent n).state = .foreclosing) :
    agentCmd s n 1 = result s n 1 := by
  rw [agentCmd_join]
  rcases h with h | h <;> rw [h]

theorem agentCmd_join_quarantined {s : State} {n : Nat} (h : (s.agent n).state = .quarantined) :
    agentCmd s n 1 = result s n 2 := by
  rw [agentCmd_join, h]

theorem agentCmd_leave_joining {s : State} {n : Nat} (h : (s.agent n).state = .joining) :
    agentCmd s n 2 = cancelJoin (result s n 0) n := by
  rw [agentCmd_leave, h]

theorem agentCmd_foreclose_joining {s : State} {n : Nat} (h : (s.agent n).state = .joining) :
    agentCmd s n 3 = cancelJoin (result s n 0) n := by
  rw [agentCmd_foreclose, h]

theorem agentCmd_leave_active {s : State} {n : Nat} (h : (s.agent n).state = .active) :
    agentCmd s n 2 = startLeave (result s n 0) n := by
  rw [agentCmd_leave, h]

theorem agentCmd_leave_idle {s : State} {n : Nat} (h1 : (s.agent n).state ≠ .joining) (h2 : (s.agent n).state ≠ .active) :
    agentCmd s n 2 = result s n 0 := by
  rw [agentCmd_leave]
  split
  · next h => exact absurd h h1
  · next h => exact absurd h h2
  · rfl

theorem agentCmd_foreclose_serving {s : State} {n : Nat}
    (h : (s.agent n).state = .active ∨ (s.agent n).state = .leaving) :
    agentCmd s n 3 = declareDead (result s n 0) (BitVec.ofNat 10 n) 3 := by
  rw [agentCmd_foreclose]
  rcases h with h | h <;> rw [h]

theorem agentCmd_foreclose_idle {s : State} {n : Nat} (h1 : (s.agent n).state ≠ .joining)
    (h2 : (s.agent n).state ≠ .active) (h3 : (s.agent n).state ≠ .leaving) : agentCmd s n 3 = result s n 0 := by
  rw [agentCmd_foreclose]
  split
  · next h => exact absurd h h1
  · next h => exact absurd h h2
  · next h => exact absurd h h3
  · rfl

theorem agentCmd_release_quarantined {s : State} {n : Nat} (h : (s.agent n).state = .quarantined) :
    agentCmd s n 4 = (result s n 0).modAgent n (fun a => { a with state := .absent }) :=
  if_pos (by simp [h])

theorem agentCmd_release_other {s : State} {n : Nat} (h : (s.agent n).state ≠ .quarantined) :
    agentCmd s n 4 = result s n 3 :=
  if_neg (by simpa using h)

/-- A cancelled join: the entry, and the escrow at every Till (R284). -/
theorem cancelJoin_does {s : State} {n : Nat} (hw : KV.wf s.agents = true) :
    (cancelJoin s n).agent n = { s.agent n with state := .absent, committed := [] }
      ∧ (cancelJoin s n).tills = s.tills.map (fun u => { u with escrow := KV.del u.escrow n }) :=
  ⟨agent_modAgent s n (fun a => { a with state := .absent, committed := [] }) hw, rfl⟩

/-- A JOIN of an Absent entry that is refused or waits. -/
theorem agentCmd_absent {s : State} {n r : Nat} (h : (s.agent n).state = .absent) (hr : joinResult s n = r + 1) :
    agentCmd s n 1 = result s n (r + 1) := by
  rw [agentCmd_join, h, hr]
  rfl

theorem agentCmd_joins {s : State} {n : Nat} (h : (s.agent n).state = .absent) (hr : joinResult s n = 0) :
    agentCmd s n 1 = startJoin (result s n 0) n := by
  rw [agentCmd_join, h, hr]
  rfl

/-- `t` is `u` but for its Chart entries. -/
structure Entered (u t : State) : Prop where
  agents : t.agents = u.agents
  tills : t.tills = u.tills
  out : t.out = u.out
  au : t.au = u.au

theorem Entered.agent {u t : State} (h : Entered u t) (n : Nat) : t.agent n = u.agent n := by
  unfold State.agent; rw [h.agents]

theorem entered_applied (u : State) : Entered u (applied u) := ⟨rfl, rfl, rfl, rfl⟩

/-- AGENT_CMD acts on the state that counts the write, and what counts it as applied moves Chart entries alone. -/
theorem completes_agentCmd {s : State} {n v : Nat} {c : Instr} {P : State → Prop}
    (he : exec c s = .next (reached s (fun u => agentCmd u n v)))
    (hP : ∀ g t, Logs s g → Entered (agentCmd g n v) t → P t) : Completes c s P :=
  .of he (hP _ _ (logs_reached s) (entered_applied _))

section
variable {s : State} {n : Nat} (hw : KV.wf s.agents = true) (ho : s.windowOpen) (hn : n < 1024)
include hw

theorem Logs.agent_result {g : State} (hg : Logs s g) (r : Nat) : (result g n r).agent n = { s.agent n with result := r } := by
  rw [Machine.agent_result (hg.agents ▸ hw), hg.agent]

include ho hn

/-- A JOIN of an Absent entry that is refused or waits. -/
theorem join_answers {r : Nat} (h : (s.agent n).state = .absent) (hr : joinResult s n = r + 1) :
    Completes (.join n) s (fun t => t.agent n = { s.agent n with result := r + 1 }) :=
  completes_agentCmd (write_join ho hn) fun g t hg ht => by
    rw [agentCmd_absent (r := r) (by rw [hg.agent]; exact h) (by rw [hg.joinResult]; exact hr)] at ht
    rw [ht.agent, hg.agent_result hw]

theorem join_ok (h : (s.agent n).state = .joining ∨ (s.agent n).state = .active) :
    Completes (.join n) s (fun t => t.agent n = { s.agent n with result := 0 }) :=
  completes_agentCmd (write_join ho hn) fun g t hg ht => by
    rw [agentCmd_join_ok (by rw [hg.agent]; exact h)] at ht
    rw [ht.agent, hg.agent_result hw]

theorem join_busy (h : (s.agent n).state = .leaving ∨ (s.agent n).state = .foreclosing) :
    Completes (.join n) s (fun t => t.agent n = { s.agent n with result := 1 }) :=
  completes_agentCmd (write_join ho hn) fun g t hg ht => by
    rw [agentCmd_join_busy (by rw [hg.agent]; exact h)] at ht
    rw [ht.agent, hg.agent_result hw]

theorem join_quarantined (h : (s.agent n).state = .quarantined) :
    Completes (.join n) s (fun t => t.agent n = { s.agent n with result := 2 }) :=
  completes_agentCmd (write_join ho hn) fun g t hg ht => by
    rw [agentCmd_join_quarantined (by rw [hg.agent]; exact h)] at ht
    rw [ht.agent, hg.agent_result hw]

/-- A JOIN that is answered OK: the entry is Joining with the escrow in force, and nothing is sent. -/
theorem join_starts (hwc : KV.wf s.chart = true) (h : (s.agent n).state = .absent) (hr : joinResult s n = 0) :
    Completes (.join n) s (fun t => (t.agent n).state = .joining ∧ (t.agent n).result = 0 ∧ (t.agent n).inc = (s.agent n).inc
      ∧ (t.agent n).escrowF = s.escrowF n ∧ (t.agent n).escrowD = s.escrowD n ∧ t.out = s.out) :=
  completes_agentCmd (write_join ho hn) fun g t hg ht => by
    rw [agentCmd_joins (by rw [hg.agent]; exact h) (by rw [hg.joinResult]; exact hr)] at ht
    obtain ⟨hb, hout⟩ := startJoin_keeps (n := n) (agents_wf_result (n := n) (r := 0) (hg.agents ▸ hw))
    have hF : (result g n 0).escrowF n = s.escrowF n := by
      unfold State.escrowF
      rw [hg.agent_result hw, show (result g n 0).rawN 0x4010 0 = s.rawN 0x4010 0 from hg.rawN hwc (apart (by decide))]
    have hD : (result g n 0).escrowD n = s.escrowD n := by
      unfold State.escrowD
      rw [hg.agent_result hw, show (result g n 0).rawN 0x4010 1 = s.rawN 0x4010 1 from hg.rawN hwc (apart (by decide))]
    rw [hg.agent_result hw, hF, hD] at hb
    rw [show (result g n 0).out = s.out from hg.out] at hout
    generalize startJoin (result g n 0) n = u at hb hout ht
    rw [ht.agent, ht.out]
    have hf := congrArg Agent.escrowF hb
    have hd := congrArg Agent.escrowD hb
    have hi := congrArg Agent.inc hb
    exact ⟨congrArg Agent.state hb, congrArg Agent.result hb, hi, hf, hd, hout⟩

/-- LEAVE and FORECLOSE cancel a join. -/
theorem join_cancelled (h : (s.agent n).state = .joining) {c : Instr} (hc : c = .leave n ∨ c = .foreclose n) :
    Completes c s (fun t => t.agent n = { s.agent n with state := .absent, result := 0, committed := [] }
      ∧ t.tills = s.tills.map (fun u => { u with escrow := KV.del u.escrow n })) := by
  have hcan {g t : State} (hg : Logs s g) (ht : Entered (cancelJoin (result g n 0) n) t) :
      t.agent n = { s.agent n with state := .absent, result := 0, committed := [] }
        ∧ t.tills = s.tills.map (fun u => { u with escrow := KV.del u.escrow n }) := by
    obtain ⟨h1, h2⟩ := cancelJoin_does (n := n) (agents_wf_result (n := n) (r := 0) (hg.agents ▸ hw))
    rw [hg.agent_result hw] at h1
    rw [show (result g n 0).tills = s.tills from hg.tills] at h2
    exact ⟨(ht.agent n).trans h1, ht.tills.trans h2⟩
  rcases hc with rfl | rfl
  · refine completes_agentCmd (write_leave ho hn) fun g t hg ht => hcan hg ?_
    rwa [agentCmd_leave_joining (by rw [hg.agent]; exact h)] at ht
  · refine completes_agentCmd (write_foreclose ho hn) fun g t hg ht => hcan hg ?_
    rwa [agentCmd_foreclose_joining (by rw [hg.agent]; exact h)] at ht

theorem leave_active (h : (s.agent n).state = .active) :
    Completes (.leave n) s (fun t => t.agent n = { s.agent n with state := .leaving, result := 0 }
      ∧ ((s.agent n).kind = 0 → ∃ x, t.au.leave = s.au.leave ++ [x] ∧ x.aid.toNat = n)) :=
  completes_agentCmd (write_leave ho hn) fun g t hg ht => by
    rw [agentCmd_leave_active (by rw [hg.agent]; exact h)] at ht
    have h1 := agent_startLeave (n := n) (agents_wf_result (n := n) (r := 0) (hg.agents ▸ hw))
    rw [hg.agent_result hw] at h1
    refine ⟨(ht.agent n).trans h1, fun hk => ?_⟩
    have hx := leave_startLeave (s := result g n 0) hn (by rw [hg.agent_result hw]; exact hk)
    rwa [show (result g n 0).au = s.au from hg.au, ← ht.au] at hx

theorem leave_idle (h1 : (s.agent n).state ≠ .joining) (h2 : (s.agent n).state ≠ .active) :
    Completes (.leave n) s (fun t => t.agent n = { s.agent n with result := 0 }) :=
  completes_agentCmd (write_leave ho hn) fun g t hg ht => by
    rw [agentCmd_leave_idle (by rw [hg.agent]; exact h1) (by rw [hg.agent]; exact h2)] at ht
    rw [ht.agent, hg.agent_result hw]

theorem foreclose_serving (h : (s.agent n).state = .active ∨ (s.agent n).state = .leaving) :
    Completes (.foreclose n) s (fun t => diesOf s t n 3 ∧ (t.agent n).result = 0) :=
  completes_agentCmd (write_foreclose ho hn) fun g t hg ht => by
    rw [agentCmd_foreclose_serving (by rw [hg.agent]; exact h)] at ht
    have hwr := agents_wf_result (n := n) (r := 0) (hg.agents ▸ hw : KV.wf g.agents = true)
    have hr := hg.agent_result (n := n) hw 0
    have htime : (result g n 0).time.tick = s.time.tick := congrArg Time.tick hg.time
    generalize result g n 0 = u at ht hwr hr htime
    have hserve : u.serving n = true := by
      unfold State.serving
      rw [hr]
      simpa using h
    have hd := diesOf_declareDead (s := s) (c := 3) hn (by decide) hwr hserve (by rw [hr]) (by rw [hr]) htime
    have hm := agent_declareDead (a := BitVec.ofNat 10 n) hwr 3 n
    rw [if_pos ⟨by simp [Nat.mod_eq_of_lt hn], hserve⟩, hr] at hm
    unfold diesOf at hd ⊢
    rw [ht.agent]
    exact ⟨hd, congrArg Agent.result hm⟩

theorem foreclose_idle (h1 : (s.agent n).state ≠ .joining) (h2 : (s.agent n).state ≠ .active)
    (h3 : (s.agent n).state ≠ .leaving) : Completes (.foreclose n) s (fun t => t.agent n = { s.agent n with result := 0 }) :=
  completes_agentCmd (write_foreclose ho hn) fun g t hg ht => by
    rw [agentCmd_foreclose_idle (by rw [hg.agent]; exact h1) (by rw [hg.agent]; exact h2) (by rw [hg.agent]; exact h3)] at ht
    rw [ht.agent, hg.agent_result hw]

theorem release_quarantined (h : (s.agent n).state = .quarantined) :
    Completes (.agentRelease n) s (fun t => t.agent n = { s.agent n with state := .absent, result := 0 }) :=
  completes_agentCmd (write_agentRelease ho hn) fun g t hg ht => by
    rw [agentCmd_release_quarantined (by rw [hg.agent]; exact h)] at ht
    rw [ht.agent, agent_modAgent _ _ _ (agents_wf_result (hg.agents ▸ hw)), hg.agent_result hw]

theorem release_other (h : (s.agent n).state ≠ .quarantined) :
    Completes (.agentRelease n) s (fun t => t.agent n = { s.agent n with result := 3 }) :=
  completes_agentCmd (write_agentRelease ho hn) fun g t hg ht => by
    rw [agentCmd_release_other (by rw [hg.agent]; exact h)] at ht
    rw [ht.agent, hg.agent_result hw]

end

/-- In Retired the window has the authority of an Observer, which writes nothing (R464). -/
theorem join_retired {s : State} {n : Nat} (hw : KV.wf s.chart = true) (hc : s.chartUp = true) (hh : s.inHold = false)
    (hp : s.power.offReady = false) (hl : s.fuses.lifecycle = 3) (hn : n < 1024) :
    Completes (.join n) s (fun t => t.agents = s.agents ∧ t.rawN 0x1100 6 = (s.rawN 0x1100 6 + 1) % 2 ^ 32) := by
  have hg := logs_reached s
  have he : exec (.join n) s = .next (refused (s.gev 0x10C) (s.window none) (0xA000 + n) 3 .denied) := by
    have hr : s.windowRole = 0 := by simp [State.windowRole, hl]
    have hd := windowCmd_denied hc hh hp (.join n) none (i := 0xA000 + n) (j := 3) 1 8
      (.inr (by rw [hr]; exact mayWrite_observer _ _))
    exact (if_pos (by simp [chartRange, hn])).trans (congrArg Host.Outcome.next hd)
  obtain ⟨h1, -, -, h4⟩ := refused_keeps (hg.chart_wf hw) (s.window none) (0xA000 + n) 3 .denied
  exact .of he ⟨h1.trans hg.agents, h4.trans (by rw [hg.rawN hw (apart (by decide))])⟩

/-- Settles O45: each command in each state of the entry; a death and a leave move the Agent Table in one entry. -/
theorem agentCommandsFollowTable : Obligations.AgentCommandsFollowTable := by
  refine ⟨fun s n hinv ho hn => ?_, fun s n hinv hc hh hp hl hn => ?_⟩
  · obtain ⟨-, -, -, -, -, hw, hwa, -⟩ := id hinv
    have hlife := lifecycle_of_open ho
    refine ⟨fun h => ⟨fun hgl => join_answers hwa ho hn h (joinResult_reset hlife hgl),
        fun hgl => ⟨fun h1 h2 => join_answers hwa ho hn h (joinResult_invalid hlife hgl ?_),
          fun hcfg => ⟨fun hon => join_answers hwa ho hn h ?_, fun hon => join_starts hwa ho hn hw h ?_⟩⟩⟩,
      join_ok hwa ho hn, join_busy hwa ho hn, join_quarantined hwa ho hn, fun h c hc => join_cancelled hwa ho hn h ?_,
      leave_active hwa ho hn, foreclose_serving hwa ho hn, leave_idle hwa ho hn, foreclose_idle hwa ho hn,
      release_quarantined hwa ho hn, release_other hwa ho hn⟩
    · rw [← Bool.not_eq_true, cfgValid_iff]
      exact fun hv => hv.elim h1 h2
    · rw [joinResult_wicket hlife hgl (cfgValid_iff.mpr hcfg), if_pos (by simpa using hon)]
    · rw [joinResult_wicket hlife hgl (cfgValid_iff.mpr hcfg), if_neg (by simp [hon])]
    · simpa using hc
  · obtain ⟨-, -, -, -, -, hw, -⟩ := hinv
    exact join_retired hw hc hh hp hl hn

end Sys2Proof.Machine
end

section
/-! PROOFS. Reports of the port logic for an agent, and link resets (R284, R286, R291, R292, R295, R305, R343, R427). -/

namespace Sys2Proof.Machine

/-! ## A report that is acted on at once -/

theorem linkReport_now {c : Instr} {w : Nat} {s : State} (hw : s.build.hasWicket w = true) (hb : s.boot ≠ .off)
    (hp : s.power.state ≠ 3) (hh : s.inHold = false) : linkReport c w s = .next (linkEvent c s) := by
  unfold linkReport
  rw [if_neg (by simp [hw]), if_neg (by simp [hb, hp]), if_neg (by simp [hh])]

theorem linkReport_deferred {c : Instr} {w : Nat} {s : State} (hw : s.build.hasWicket w = true) (hb : s.boot ≠ .off)
    (hp : s.power.state = 2) : linkReport c w s = .next (deferTo s 3 c) := by
  unfold linkReport
  rw [if_neg (by simp [hw]), if_neg (by simp [hb, hp]), if_pos (by simp [State.inHold, hp])]

/-- The presence note moves Chart entries alone. -/
theorem presenceNote_eq (b s : State) (w : Nat) : ∃ c, presenceNote b s w = { s with chart := c } := by
  unfold presenceNote
  split
  · exact ⟨_, rfl⟩
  · exact ⟨s.chart, rfl⟩

/-- A property of a state that does not hang on its Chart entries carries over a presence note. -/
theorem of_presenceNote {P : State → Prop} {b s : State} {w : Nat} (hP : ∀ c, P { s with chart := c }) :
    P (presenceNote b s w) := by
  obtain ⟨c, hc⟩ := presenceNote_eq b s w
  rw [hc]
  exact hP c

/-! ## Reports by the state of the entry -/

section
variable {s : State} {a : Aid}

theorem linkDown_idle (h : (s.agent a.toNat).state = .absent ∨ (s.agent a.toNat).state = .foreclosing
    ∨ (s.agent a.toNat).state = .quarantined) : linkDown s a = s.modAgent a.toNat (fun g => { g with link := false }) := by
  unfold linkDown
  rcases h with h | h | h <;> simp only [h]

theorem linkDown_joining (h : (s.agent a.toNat).state = .joining) :
    linkDown s a = cancelJoin (s.modAgent a.toNat (fun g => { g with link := false })) a.toNat := by
  unfold linkDown
  simp only [h]

theorem linkDown_serving (h : (s.agent a.toNat).state = .active ∨ (s.agent a.toNat).state = .leaving) :
    linkDown s a = if (s.agent a.toNat).grace then s.modAgent a.toNat (fun g => { g with link := false })
      else startGrace (s.modAgent a.toNat (fun g => { g with link := false })) a := by
  unfold linkDown
  rcases h with h | h <;> simp only [h]

theorem agentReset_idle (h : (s.agent a.toNat).state = .absent ∨ (s.agent a.toNat).state = .foreclosing
    ∨ (s.agent a.toNat).state = .quarantined) :
    agentReset s a = s.modAgent a.toNat (fun g => { g with resetSeen := true }) := by
  unfold agentReset
  rcases h with h | h | h <;> simp only [h]

theorem agentReset_joining (h : (s.agent a.toNat).state = .joining) : agentReset s a = cancelJoin s a.toNat := by
  unfold agentReset
  simp only [h]

theorem agentReset_serving (h : (s.agent a.toNat).state = .active ∨ (s.agent a.toNat).state = .leaving) :
    agentReset s a = declareDead s a 6 := by
  unfold agentReset
  rcases h with h | h <;> simp only [h]

/-- The entry after a link-up report: its link is up, and the identity is remembered. -/
def upAgain (s : State) (a : Aid) (identity : Word) : State :=
  s.modAgent a.toNat (fun g => { g with link := true, remembered := identity })

theorem linkUp_absent {r : Bool} {i : Word} (h : (s.agent a.toNat).state = .absent) : linkUp s a r i =
    if r then autoJoin ((upAgain s a i).modAgent a.toNat (fun g => { g with resetSeen := true })) a.toNat
    else upAgain s a i := by
  unfold linkUp
  simp only [h]
  rfl

theorem linkUp_dead {r : Bool} {i : Word} (h : (s.agent a.toNat).state = .foreclosing ∨ (s.agent a.toNat).state = .quarantined) :
    linkUp s a r i = (upAgain s a i).modAgent a.toNat (fun g => { g with resetSeen := g.resetSeen || r }) := by
  unfold linkUp
  rcases h with h | h <;> simp only [h] <;> rfl

theorem linkUp_serving {r : Bool} {i : Word} (h : (s.agent a.toNat).state = .active ∨ (s.agent a.toNat).state = .leaving) :
    linkUp s a r i = if (s.agent a.toNat).grace then linkBack (upAgain s a i) a r i
      else if r then declareDead (upAgain s a i) a 6 else upAgain s a i := by
  unfold linkUp
  rcases h with h | h <;> simp only [h] <;> rfl

end

/-! ## Automatic joins (R286) -/

theorem autoJoin_starts {s : State} {n : Nat} (h : (s.agent n).state = .absent) (ha : (s.agent n).autoRejoin = true)
    (hj : joinResult s n = 0) : autoJoin s n = startJoin s n := if_pos (by simp [h, ha, hj])

theorem autoJoin_none {s : State} {n : Nat} (h : (s.agent n).autoRejoin = false ∨ joinResult s n ≠ 0) :
    autoJoin s n = s := by
  refine if_neg ?_
  rcases h with h | h
  · simp [h]
  · simp [h]

/-- The answer to a JOIN hangs on the kind and the Wicket of the entry alone. -/
theorem joinResult_modAgent {s : State} {n : Nat} (hw : KV.wf s.agents = true) (f : Agent → Agent)
    (hk : ∀ a, (f a).kind = a.kind) (hv : ∀ a, (f a).wicket = a.wicket) :
    joinResult (s.modAgent n f) n = joinResult s n := by
  have ha := agent_modAgent s n f hw
  have hc : (s.modAgent n f).cfgValid ((s.modAgent n f).agent n) = s.cfgValid (s.agent n) := by
    rw [ha]
    unfold State.cfgValid
    rw [hk, hv]
    rfl
  unfold joinResult
  dsimp only
  rw [hc, ha, hv]
  rfl

/-! ## Readmission (R229, R295) -/

theorem foldl_send_eq {α : Type} (f : α → Out) (l : List α) (s : State) :
    ∃ o, l.foldl (fun s x => s.send (f x)) s = { s with out := s.out ++ o } := by
  induction l generalizing s with
  | nil => exact ⟨[], by simp⟩
  | cons x l ih =>
    obtain ⟨o1, h1, -⟩ := send_eq s (f x)
    obtain ⟨o2, h2⟩ := ih (s.send (f x))
    exact ⟨o1 ++ o2, by rw [List.foldl_cons, h2, h1]; simp [List.append_assoc]⟩

/-- What readmission makes of the Wicket. -/
def readmitted (s : State) (a : Aid) (x : Wicket) : Wicket :=
  { x with
    graceOut := x.graceOut.filter (fun p => p.1 != a)
    sids := x.sids.map (fun p => if p.2.aid == a then
      (p.1, { p.2 with resent := !p.2.heldOut, heldOut := false, startTick := s.time.tick, timeout := s.rawN 0x2080 1 }) else p) }

/-- The messages of a readmission: the bind indication, what was held back, and the snoops again. -/
theorem readmit_eq (s : State) (a : Aid) : ∃ o, readmit s a =
    ((({ s with
        agents := (s.setAgent a.toNat { s.agent a.toNat with grace := false }).agents
        out := s.out ++ [.bind (s.agent a.toNat).wicket.toNat true a (s.agent a.toNat).inc] ++ o } : State).modWicket
      (s.agent a.toNat).wicket.toNat (readmitted s a)).note .agentReadmitted (.wicket (s.agent a.toNat).wicket.toNat)
        [a.toNat] (some a)).bump ⟨0x2080, 0xA, 32⟩ := by
  unfold readmit
  extract_lets n ag w s1 s2 snp s3 s4
  have h1 : s1 = { s with agents := (s.setAgent n { ag with grace := false }).agents, out := s.out ++ [.bind w true a ag.inc] } :=
    send_of_not_stopped _ rfl
  obtain ⟨o2, h2⟩ := foldl_send_eq (fun p : Aid × Out => p.2) ((s.wicket w).graceOut.filter (fun p => p.1 == a)) s1
  obtain ⟨o3, h3⟩ := foldl_send_eq (fun p : Nat × Snoop => .snp w p.2.opc a ag.inc p.1 p.2.laddr p.2.blk) snp s2
  refine ⟨o2 ++ o3, ?_⟩
  have h : s3 = { s with
      agents := (s.setAgent n { ag with grace := false }).agents, out := s.out ++ [.bind w true a ag.inc] ++ (o2 ++ o3) } := by
    show snp.foldl _ s2 = _
    rw [h3, show s2 = _ from h2, h1]
    simp [List.append_assoc]
  show ((s3.modWicket w (readmitted s a)).note .agentReadmitted (.wicket w) [n] (some a)).bump ⟨0x2080, 0xA, 32⟩ = _
  rw [h]

theorem readmit_does {s : State} {a : Aid} (hw : KV.wf s.agents = true) (hx : (s.agent a.toNat).wicket.toNat < s.wickets.length) :
    (readmit s a).agent a.toNat = { s.agent a.toNat with grace := false }
      ∧ Sends s (readmit s a) (.bind (s.agent a.toNat).wicket.toNat true a (s.agent a.toNat).inc)
      ∧ Reports s (readmit s a) 0x205
      ∧ (∀ p ∈ ((readmit s a).wicket (s.agent a.toNat).wicket.toNat).graceOut, p.1 ≠ a)
      ∧ (∀ p ∈ ((readmit s a).wicket (s.agent a.toNat).wicket.toNat).sids, p.2.aid = a →
          p.2.heldOut = false ∧ p.2.startTick = s.time.tick) := by
  obtain ⟨o, ho⟩ := readmit_eq s a
  have hag := agent_setAgent s a.toNat { s.agent a.toNat with grace := false } hw
  rw [ho]
  generalize (s.agent a.toNat).wicket.toNat = w at hx ⊢
  generalize hu : ({ s with
        agents := (s.setAgent a.toNat { s.agent a.toNat with grace := false }).agents
        out := s.out ++ [.bind w true a (s.agent a.toNat).inc] ++ o } : State).modWicket w (readmitted s a) = u
  have hn := logs_note u .agentReadmitted (.wicket w) [a.toNat] (some a)
  have hrep := reports_note (s := s) (u := u) (by rw [← hu]; exact List.prefix_rfl) (by rw [← hu]; rfl) .agentReadmitted
    (.wicket w) [a.toNat] (some a)
  generalize u.note .agentReadmitted (.wicket w) [a.toNat] (some a) = v at hn hrep ⊢
  have hwk : v.wicket w = readmitted s a (s.wicket w) := by
    rw [hn.wicket, ← hu]
    exact wicket_modWicket _ _ hx
  refine ⟨?_, ⟨[.bind w true a (s.agent a.toNat).inc] ++ o, ?_, by simp⟩, hrep, ?_, ?_⟩
  · exact (hn.agent a.toNat).trans (by rw [← hu]; exact hag)
  · refine hn.out.trans ?_
    rw [← hu, ← List.append_assoc]
    rfl
  · show ∀ p ∈ (v.wicket w).graceOut, p.1 ≠ a
    rw [hwk]
    intro p hp
    simpa using (List.mem_filter.mp hp).2
  · show ∀ p ∈ (v.wicket w).sids, _
    rw [hwk]
    intro p hp ha
    obtain ⟨q, -, rfl⟩ := List.mem_map.mp hp
    split at ha
    · next h => rw [if_pos h]; exact ⟨rfl, rfl⟩
    · next h => exact absurd (by simpa using ha) (by simpa using h)

/-! ## A death behind a change of the entry -/

/-- An agent in service dies, its entry changed before but for its incarnation and its count of deaths. -/
theorem diesOf_modAgent {s : State} {a : Aid} {c : Nat} (f : Agent → Agent) (hw : KV.wf s.agents = true) (hc : c < 16)
    (hs : (f (s.agent a.toNat)).state = .active ∨ (f (s.agent a.toNat)).state = .leaving)
    (hi : (f (s.agent a.toNat)).inc = (s.agent a.toNat).inc)
    (hf : (f (s.agent a.toNat)).foreCount = (s.agent a.toNat).foreCount) :
    diesOf s (declareDead (s.modAgent a.toNat f) a c) a.toNat c := by
  have hm := agent_modAgent s a.toNat f hw
  have hd := diesOf_declareDead (s := s) (u := s.modAgent a.toNat f) (n := a.toNat) a.isLt hc (KV.set_wf _ _ _ hw)
    (by unfold State.serving; rw [hm]; simpa using hs) (by rw [hm]; exact hi) (by rw [hm]; exact hf) rfl
  rwa [BitVec.ofNat_toNat, BitVec.setWidth_eq] at hd

theorem diesOf_serving {s : State} {a : Aid} {c : Nat} (hw : KV.wf s.agents = true) (hc : c < 16)
    (hs : (s.agent a.toNat).state = .active ∨ (s.agent a.toNat).state = .leaving) :
    diesOf s (declareDead s a c) a.toNat c := by
  have hd := diesOf_declareDead (s := s) (u := s) (n := a.toNat) a.isLt hc hw
    (by unfold State.serving; simpa using hs) rfl rfl rfl
  rwa [BitVec.ofNat_toNat, BitVec.setWidth_eq] at hd

/-- The whole entry after a death. -/
theorem agent_declareDead_self {s : State} {a : Aid} {c : Nat} (hw : KV.wf s.agents = true)
    (hs : (s.agent a.toNat).state = .active ∨ (s.agent a.toNat).state = .leaving) :
    (declareDead s a c).agent a.toNat = deadEntry (s.agent a.toNat) c s.time.tick :=
  (agent_declareDead hw c a.toNat).trans (if_pos ⟨rfl, by unfold State.serving; simpa using hs⟩)

/-! ## The reports -/

/-- The Home hears a report of a Wicket's port logic at once, and its agent is homed there. -/
structure Heard (s : State) (w : Nat) (a : Aid) : Prop where
  wicket : s.build.hasWicket w = true
  boot : s.boot ≠ .off
  power : s.power.state ≠ 3
  awake : s.inHold = false
  home : s.homed w a = true

section
variable {s : State} {w : Nat} {a : Aid} {P : State → Prop}

theorem Heard.linkDown (h : Heard s w a) (hP : ∀ c, P { Machine.linkDown s a with chart := c }) :
    Completes (.linkDown w a) s P :=
  .of ((linkReport_now h.wicket h.boot h.power h.awake).trans (congrArg Host.Outcome.next (if_pos h.home)))
    (of_presenceNote hP)

theorem Heard.linkUp (h : Heard s w a) {r : Bool} {i : Word} (hP : ∀ c, P { Machine.linkUp s a r i with chart := c }) :
    Completes (.linkUp w a r i) s P :=
  .of ((linkReport_now h.wicket h.boot h.power h.awake).trans (congrArg Host.Outcome.next (if_pos h.home)))
    (of_presenceNote hP)

theorem Heard.agentReset (h : Heard s w a) (hP : P (Machine.agentReset s a)) : Completes (.agentReset w a) s P :=
  .of ((linkReport_now h.wicket h.boot h.power h.awake).trans (congrArg Host.Outcome.next (if_pos h.home))) hP

end

theorem agent_upAgain {s : State} {a : Aid} {i : Word} (hw : KV.wf s.agents = true) :
    (upAgain s a i).agent a.toNat = { s.agent a.toNat with link := true, remembered := i } := agent_modAgent s _ _ hw

/-- The entry after a link-up report with a reset. -/
theorem agent_upAgain_reset {s : State} {a : Aid} {i : Word} (hw : KV.wf s.agents = true) :
    ((upAgain s a i).modAgent a.toNat (fun g => { g with resetSeen := true })).agent a.toNat =
      { s.agent a.toNat with link := true, remembered := i, resetSeen := true } :=
  (agent_modAgent (upAgain s a i) _ _ (KV.set_wf _ _ _ hw)).trans (by rw [agent_upAgain hw])

theorem joinResult_upAgain_reset {s : State} {a : Aid} {i : Word} (hw : KV.wf s.agents = true) :
    joinResult ((upAgain s a i).modAgent a.toNat (fun g => { g with resetSeen := true })) a.toNat = joinResult s a.toNat := by
  rw [joinResult_modAgent (KV.set_wf _ _ _ hw) (fun g => { g with resetSeen := true }) (fun _ => rfl) (fun _ => rfl)]
  exact joinResult_modAgent hw (fun g => { g with link := true, remembered := i }) (fun _ => rfl) (fun _ => rfl)

section
variable {s : State} {a : Aid} {i : Word} (hw : KV.wf s.agents = true)
include hw

theorem linkDown_idle_does (h : (s.agent a.toNat).state = .absent ∨ (s.agent a.toNat).state = .foreclosing
    ∨ (s.agent a.toNat).state = .quarantined) :
    (linkDown s a).agent a.toNat = { s.agent a.toNat with link := false } ∧ (linkDown s a).out = s.out := by
  rw [linkDown_idle h]
  exact ⟨agent_modAgent s _ _ hw, rfl⟩

theorem agentReset_idle_does (h : (s.agent a.toNat).state = .absent ∨ (s.agent a.toNat).state = .foreclosing
    ∨ (s.agent a.toNat).state = .quarantined) :
    (agentReset s a).agent a.toNat = { s.agent a.toNat with resetSeen := true } ∧ (agentReset s a).out = s.out := by
  rw [agentReset_idle h]
  exact ⟨agent_modAgent s _ _ hw, rfl⟩

theorem linkUp_idle_does (h : (s.agent a.toNat).state = .absent ∨ (s.agent a.toNat).state = .foreclosing
    ∨ (s.agent a.toNat).state = .quarantined) :
    (linkUp s a false i).agent a.toNat = { s.agent a.toNat with link := true, remembered := i }
      ∧ (linkUp s a false i).out = s.out := by
  rcases h with h | h
  · rw [linkUp_absent h]
    exact ⟨agent_upAgain hw, rfl⟩
  · rw [linkUp_dead h]
    have hu := agent_modAgent (upAgain s a i) a.toNat (fun g => { g with resetSeen := g.resetSeen || false }) (KV.set_wf _ _ _ hw)
    rw [agent_upAgain hw] at hu
    simp only [Bool.or_false] at hu ⊢
    exact ⟨hu, rfl⟩

/-- A link-up report with a reset starts a join, where a JOIN would be answered OK (R286). -/
theorem linkUp_joins (h : (s.agent a.toNat).state = .absent) (ha : (s.agent a.toNat).autoRejoin = true)
    (hj : joinResult s a.toNat = 0) :
    ((linkUp s a true i).agent a.toNat).state = .joining ∧ ((linkUp s a true i).agent a.toNat).remembered = i
      ∧ ((linkUp s a true i).agent a.toNat).inc = (s.agent a.toNat).inc := by
  rw [linkUp_absent h, if_pos rfl]
  have hu := agent_upAgain_reset (a := a) (i := i) hw
  have hwf : KV.wf ((upAgain s a i).modAgent a.toNat (fun g => { g with resetSeen := true })).agents = true :=
    KV.set_wf _ _ _ (KV.set_wf _ _ _ hw)
  have hj' := (joinResult_upAgain_reset (a := a) (i := i) hw).trans hj
  generalize (upAgain s a i).modAgent a.toNat (fun g => { g with resetSeen := true }) = u at hu hwf hj' ⊢
  rw [autoJoin_starts (by rw [hu]; exact h) (by rw [hu]; exact ha) hj']
  obtain ⟨hbare, -⟩ := startJoin_keeps (n := a.toNat) hwf
  rw [hu] at hbare
  generalize startJoin u a.toNat = v at hbare ⊢
  have hr := congrArg Agent.remembered hbare
  have hi := congrArg Agent.inc hbare
  exact ⟨congrArg Agent.state hbare, hr, hi⟩

theorem linkUp_stays (h : (s.agent a.toNat).state = .absent)
    (hj : (s.agent a.toNat).autoRejoin = false ∨ joinResult s a.toNat ≠ 0) :
    (linkUp s a true i).agent a.toNat = { s.agent a.toNat with link := true, remembered := i, resetSeen := true } := by
  rw [linkUp_absent h, if_pos rfl, autoJoin_none (by rw [agent_upAgain_reset hw, joinResult_upAgain_reset hw]; exact hj)]
  exact agent_upAgain_reset hw

theorem linkDown_joining_does (h : (s.agent a.toNat).state = .joining) :
    (linkDown s a).agent a.toNat = { s.agent a.toNat with state := .absent, link := false, committed := [] } := by
  rw [linkDown_joining h, (cancelJoin_does (KV.set_wf _ _ _ hw)).1, agent_modAgent _ _ _ hw]

theorem agentReset_joining_does (h : (s.agent a.toNat).state = .joining) :
    (agentReset s a).agent a.toNat = { s.agent a.toNat with state := .absent, committed := [] } := by
  rw [agentReset_joining h, (cancelJoin_does hw).1]

/-! ### In service -/

theorem linkDown_inGrace (h : (s.agent a.toNat).state = .active ∨ (s.agent a.toNat).state = .leaving)
    (hg : (s.agent a.toNat).grace = true) : (linkDown s a).agent a.toNat = { s.agent a.toNat with link := false } := by
  rw [linkDown_serving h, if_pos hg]
  exact agent_modAgent s _ _ hw

theorem linkDown_grace (h : (s.agent a.toNat).state = .active ∨ (s.agent a.toNat).state = .leaving)
    (hg : (s.agent a.toNat).grace = false) (hk : (s.agent a.toNat).kind ≠ 2) (hr : s.rawN 0x2080 0 ≠ 0) :
    (linkDown s a).agent a.toNat = { s.agent a.toNat with
      link := false, grace := true, graceStart := s.time.tick, graceLen := s.rawN 0x2080 0 } ∧ (linkDown s a).out = s.out := by
  have hm := agent_modAgent s a.toNat (fun g => { g with link := false }) hw
  have hwf : KV.wf (s.modAgent a.toNat (fun g => { g with link := false })).agents = true := KV.set_wf _ _ _ hw
  have hr' : (s.modAgent a.toNat (fun g => { g with link := false })).rawN 0x2080 0 = s.rawN 0x2080 0 := rfl
  have ht : (s.modAgent a.toNat (fun g => { g with link := false })).time = s.time := rfl
  have ho : (s.modAgent a.toNat (fun g => { g with link := false })).out = s.out := rfl
  rw [linkDown_serving h, if_neg (by simp [hg])]
  generalize s.modAgent a.toNat (fun g => { g with link := false }) = u at hm hwf hr' ht ho ⊢
  have hgr : startGrace u a = u.modAgent a.toNat (fun g => { g with
      grace := true, graceStart := u.time.tick, graceLen := u.rawN 0x2080 0 }) :=
    (if_neg (by rw [hm]; simpa using hk)).trans (if_neg (by rw [hr']; simpa using hr))
  rw [hgr]
  refine ⟨(agent_modAgent u _ _ hwf).trans ?_, ho⟩
  rw [hm, hr', ht]

theorem linkDown_dies (h : (s.agent a.toNat).state = .active ∨ (s.agent a.toNat).state = .leaving)
    (hg : (s.agent a.toNat).grace = false) (hk : (s.agent a.toNat).kind ≠ 2) (hr : s.rawN 0x2080 0 = 0) :
    diesOf s (linkDown s a) a.toNat 1 ∧ ((linkDown s a).agent a.toNat).link = false := by
  have hm := agent_modAgent s a.toNat (fun g => { g with link := false }) hw
  have he : linkDown s a = declareDead (s.modAgent a.toNat (fun g => { g with link := false })) a 1 := by
    rw [linkDown_serving h, if_neg (by simp [hg])]
    exact (if_neg (by rw [hm]; simpa using hk)).trans (if_pos (beq_iff_eq.mpr hr))
  rw [he]
  refine ⟨diesOf_modAgent _ hw (by decide) h rfl rfl, ?_⟩
  rw [agent_declareDead_self (KV.set_wf _ _ _ hw) (by rw [hm]; exact h), hm]
  rfl

theorem linkDown_internal (h : (s.agent a.toNat).state = .active ∨ (s.agent a.toNat).state = .leaving)
    (hg : (s.agent a.toNat).grace = false) (hk : (s.agent a.toNat).kind = 2) : diesOf s (linkDown s a) a.toNat 6 := by
  have hm := agent_modAgent s a.toNat (fun g => { g with link := false }) hw
  have he : linkDown s a = declareDead (s.modAgent a.toNat (fun g => { g with link := false })) a 6 := by
    rw [linkDown_serving h, if_neg (by simp [hg])]
    exact if_pos (by rw [hm]; simpa using hk)
  rw [he]
  exact diesOf_modAgent _ hw (by decide) h rfl rfl

theorem agentReset_dies (h : (s.agent a.toNat).state = .active ∨ (s.agent a.toNat).state = .leaving) :
    diesOf s (agentReset s a) a.toNat 6 ∧ ((agentReset s a).agent a.toNat).resetSeen = true := by
  rw [agentReset_serving h]
  refine ⟨diesOf_serving hw (by decide) h, ?_⟩
  rw [agent_declareDead_self hw h]
  rfl

theorem diesOf_upAgain {c : Nat} (hc : c < 16) (h : (s.agent a.toNat).state = .active ∨ (s.agent a.toNat).state = .leaving) :
    diesOf s (declareDead (upAgain s a i) a c) a.toNat c := diesOf_modAgent _ hw hc h rfl rfl

end

theorem linkBack_eq (s : State) (a : Aid) (r : Bool) (i : Word) : linkBack s a r i =
    if r then declareDead s a 6
    else if i != (s.agent a.toNat).identity then declareDead s a 7
    else if !(s.agent a.toNat).readmit then declareDead s a 8
    else readmit s a := rfl

section
variable {s : State} {a : Aid} {i : Word} (hw : KV.wf s.agents = true)
  (h : (s.agent a.toNat).state = .active ∨ (s.agent a.toNat).state = .leaving)
include hw h

theorem linkUp_afterGrace {r : Bool} (hg : (s.agent a.toNat).grace = true) : linkUp s a r i =
    if r then declareDead (upAgain s a i) a 6
    else if i != (s.agent a.toNat).identity then declareDead (upAgain s a i) a 7
    else if !(s.agent a.toNat).readmit then declareDead (upAgain s a i) a 8
    else readmit (upAgain s a i) a := by
  rw [linkUp_serving h, if_pos hg, linkBack_eq, agent_upAgain hw]

theorem linkUp_grace_reset (hg : (s.agent a.toNat).grace = true) : diesOf s (linkUp s a true i) a.toNat 6 := by
  rw [linkUp_afterGrace hw h hg, if_pos rfl]
  exact diesOf_upAgain hw (by decide) h

theorem linkUp_grace_identity (hg : (s.agent a.toNat).grace = true) (hi : i ≠ (s.agent a.toNat).identity) :
    diesOf s (linkUp s a false i) a.toNat 7 := by
  rw [linkUp_afterGrace hw h hg, if_neg Bool.false_ne_true, if_pos (by simpa using hi)]
  exact diesOf_upAgain hw (by decide) h

theorem linkUp_grace_refused (hg : (s.agent a.toNat).grace = true) (hi : i = (s.agent a.toNat).identity)
    (hr : (s.agent a.toNat).readmit = false) : diesOf s (linkUp s a false i) a.toNat 8 := by
  rw [linkUp_afterGrace hw h hg, if_neg Bool.false_ne_true, if_neg (by simpa using hi), if_pos (by simpa using hr)]
  exact diesOf_upAgain hw (by decide) h

theorem linkUp_readmits (hg : (s.agent a.toNat).grace = true) (hi : i = (s.agent a.toNat).identity)
    (hr : (s.agent a.toNat).readmit = true) : linkUp s a false i = readmit (upAgain s a i) a := by
  rw [linkUp_afterGrace hw h hg, if_neg Bool.false_ne_true, if_neg (by simpa using hi), if_neg (by simp [hr])]

theorem linkUp_again (hg : (s.agent a.toNat).grace = false) :
    (linkUp s a false i).agent a.toNat = { s.agent a.toNat with link := true, remembered := i } := by
  rw [linkUp_serving h, if_neg (by simp [hg]), if_neg Bool.false_ne_true]
  exact agent_upAgain hw

theorem linkUp_reset (hg : (s.agent a.toNat).grace = false) : diesOf s (linkUp s a true i) a.toNat 6 := by
  rw [linkUp_serving h, if_neg (by simp [hg]), if_pos rfl]
  exact diesOf_upAgain hw (by decide) h

end

/-! ## Link resets (R305, R343) -/

/-- Another value than 1 reaches the Wicket and has no effect. -/
theorem exec_wicketLinkReset_other {s : State} (ho : s.windowOpen) {w : Nat} (hw : s.build.hasWicket w = true) {v : BitVec 8}
    (hv : v ≠ 1) : exec (.wicketLinkReset w v) s = .next (applied (s.gev 0x10C)) := by
  have hn : w < 9 := hasWicket_lt hw
  refine (chartCmd_command ho (c := .wicketLinkReset w v) (h := none) (i := 0x6000 + w) (j := 2) (v := v.toNat) rfl
    (by simp [chartRange]; omega) (mayWrite_plain ho.2.2.2.2 (by omega) (by omega) (by omega)) (entryAt_wicket hw)
    (behindTill_none (by omega) (by omega) (by omega) (by omega) (by omega) (by omega)) (by omega) v.isLt (by omega)
    (by omega) (by omega)).trans ?_
  rw [reached_eq]
  have hc : controlOf (0x6000 + w) 2 = none := by
    unfold controlOf
    repeat refine (if_neg (by simp only [Bool.and_eq_true, decide_eq_true_eq, beq_iff_eq]; omega)).trans ?_
    rfl
  rw [command_other hc (by simp only [List.mem_cons, List.not_mem_nil, or_false]; omega)]
  refine congrArg Host.Outcome.next (congrArg applied ?_)
  repeat refine (if_neg (by simp only [Bool.and_eq_true, decide_eq_true_eq, beq_iff_eq]; omega)).trans ?_
  refine (if_pos ?_).trans (if_neg (by simp [toNat_ne_one hv]))
  simp
  omega

/-- A link reset in a state with the agents, Wickets and Tick of `s`. -/
theorem linkReset_does {s u : State} {w : Nat} (hag : u.agents = s.agents) (hwk : u.wickets = s.wickets)
    (ht : u.time.tick = s.time.tick) (hw : KV.wf s.agents = true) (hkeys : ∀ p ∈ s.agents, p.1 < 1024)
    (hres : ∀ a ∈ (s.wicket w).resetting, (s.agent a.toNat).state ≠ .foreclosing) :
    (∀ n ∈ s.bound w, diesOf s (linkReset u w) n 5) ∧ (∀ n, n ∉ s.bound w → (linkReset u w).agent n = s.agent n) := by
  have hagent (m : Nat) : u.agent m = s.agent m := by unfold State.agent; rw [hag]
  have hbound : u.bound w = s.bound w := by unfold State.bound; rw [hag]
  have hlt (n : Nat) (h : n ∈ s.bound w) : n < 1024 := by
    obtain ⟨p, hp, rfl⟩ := List.mem_map.mp h
    exact hkeys p (List.mem_filter.mp hp).1
  have hreset (m : Nat) := agent_linkReset (s := u) (w := w) (hag ▸ hw)
    (by rw [show u.wicket w = s.wicket w by unfold State.wicket; rw [hwk]]
        exact fun a ha => hagent _ ▸ hres a ha) m
  simp only [hbound, hagent, serving_of_agent (hagent _), ht] at hreset
  refine ⟨fun n hn => ?_, fun n hn => ?_⟩
  · have hd := hreset n
    rw [if_pos ⟨⟨n, hn, (Nat.mod_eq_of_lt (hlt n hn)).symm⟩, (mem_bound hw hn).1⟩] at hd
    unfold diesOf
    rw [hd]
    exact ⟨rfl, rfl, rfl, rfl, rfl, rfl, rfl⟩
  · rw [hreset n, if_neg]
    rintro ⟨⟨x, hx, rfl⟩, -⟩
    rw [Nat.mod_eq_of_lt (hlt x hx)] at hn
    exact hn hx

/-- Settles O47: a report in each state of the entry; the presence note behind it moves Chart entries alone. -/
theorem linkReportsAndResets : Obligations.LinkReportsAndResets := by
  refine ⟨fun s w n identity hinv hwk hn hb hp hh hhome => ?_, fun s w hinv hwk hkeys hres => ?_⟩
  · obtain ⟨-, hlen, -, -, -, -, hw, -⟩ := id hinv
    obtain ⟨aid, rfl⟩ : ∃ a : Aid, n = a.toNat := ⟨BitVec.ofNat 10 n, by simp [Nat.mod_eq_of_lt hn]⟩
    have hx : (s.agent aid.toNat).wicket.toNat < s.wickets.length := by
      have := hasWicket_lt hwk
      omega
    have h : Heard s w aid := ⟨hwk, hb, hp, hh, by simp [State.homed, hhome]⟩
    rw [BitVec.ofNat_toNat, BitVec.setWidth_eq]
    intro a _
    refine ⟨fun hst => ⟨h.linkDown fun _ => linkDown_idle_does hw hst, h.agentReset (agentReset_idle_does hw hst),
        h.linkUp fun _ => linkUp_idle_does hw hst⟩,
      fun hst ha hj => h.linkUp fun _ => linkUp_joins hw hst ha hj, fun hst hj => h.linkUp fun _ => linkUp_stays hw hst hj,
      fun hst => ⟨h.linkDown fun _ => linkDown_joining_does hw hst, h.agentReset (agentReset_joining_does hw hst)⟩,
      fun hst => ⟨fun hg hk hr => h.linkDown fun _ => linkDown_grace hw hst hg hk hr,
        fun hg hk hr => h.linkDown fun _ => linkDown_dies hw hst hg hk hr,
        fun hg hk => h.linkDown fun _ => linkDown_internal hw hst hg hk,
        fun hg => h.linkDown fun _ => linkDown_inGrace hw hst hg, h.agentReset (agentReset_dies hw hst),
        fun hg => ⟨h.linkUp fun _ => linkUp_grace_reset hw hst hg,
          fun hi => h.linkUp fun _ => linkUp_grace_identity hw hst hg hi,
          fun hi hr => h.linkUp fun _ => linkUp_grace_refused hw hst hg hi hr, fun hi hr => h.linkUp fun c => ?_⟩,
        fun hg => ⟨h.linkUp fun _ => linkUp_again hw hst hg, h.linkUp fun _ => linkUp_reset hw hst hg⟩⟩⟩
    have hu := agent_upAgain (a := aid) (i := identity) hw
    have hwu : KV.wf (upAgain s aid identity).agents = true := KV.set_wf _ _ _ hw
    have hlu : (upAgain s aid identity).wickets.length = s.wickets.length := rfl
    have hou : (upAgain s aid identity).out = s.out := rfl
    have hju : (upAgain s aid identity).journal = s.journal := rfl
    have htu : (upAgain s aid identity).time = s.time := rfl
    rw [linkUp_readmits hw hst hg hi hr]
    generalize upAgain s aid identity = u at hu hwu hlu hou hju htu ⊢
    obtain ⟨h1, h2, h3, h4, h5⟩ := readmit_does (a := aid) hwu (by rw [hu, hlu]; exact hx)
    have hwk' : (u.agent aid.toNat).wicket.toNat = w := by rw [hu]; exact hhome
    rw [hwk'] at h2 h4 h5
    rw [hu] at h1 h2
    rw [htu] at h5
    unfold Sends at h2
    rw [hou] at h2
    unfold Reports at h3
    rw [hju, htu] at h3
    generalize readmit u aid = v at h1 h2 h3 h4 h5
    exact ⟨h1, h2, h3, h4, h5⟩
  · obtain ⟨-, -, -, -, -, -, hw, -⟩ := id hinv
    have hnow := linkReset_does (s := s) rfl rfl rfl hw hkeys hres
    have hg := logs_reached s
    have hwin := linkReset_does hg.agents hg.wickets (congrArg Time.tick hg.time) hw hkeys hres
    have hwrite (ho : s.windowOpen) := write_wicketLinkReset ho hwk
    simp only [reached_eq] at hwrite
    have hother (v : BitVec 8) (hv : v ≠ 1) (ho : s.windowOpen) := exec_wicketLinkReset_other ho hwk hv
    generalize s.gev 0x10C = g at hg hwin hwrite hother
    refine ⟨fun n hn => ⟨fun hb hp hh => .of (linkReport_now hwk hb hp hh) (hnow.1 n hn), fun ho => .of (hwrite ho) (hwin.1 n hn)⟩,
      fun n hn => ⟨fun hb hp hh => .of (linkReport_now hwk hb hp hh) (hnow.2 n hn), fun ho => .of (hwrite ho) (hwin.2 n hn)⟩,
      hother, fun hb hp aid r i c hc => ?_⟩
    simp only [List.mem_cons, List.not_mem_nil, or_false] at hc
    rcases hc with rfl | rfl | rfl | rfl
    · exact linkReport_deferred hwk hb hp
    · exact linkReport_deferred hwk hb hp
    · exact linkReport_deferred hwk hb hp
    · exact linkReport_deferred hwk hb hp

end Sys2Proof.Machine
end

section
/-! PROOFS. The timers of an agent, and the whole effect of a death where nothing of the agent is outstanding (R292, R293, R296). -/

namespace Sys2Proof.Machine

/-- The Grace timer of an agent has run out, outside Hold. -/
def State.graceOver (s : State) (n : Nat) : Prop :=
  (s.agent n).grace = true ∧ (s.agent n).graceStart + (s.agent n).graceLen ≤ s.time.tick ∧ s.inHold = false

theorem exec_grace_over {s : State} {n : Nat} (h : s.graceOver n) :
    exec (.grace n) s = .next (declareDead s (BitVec.ofNat 10 n) 1) := by
  obtain ⟨hg, hd, hh⟩ := h
  exact congrArg Host.Outcome.next (if_pos (by simp [hg, hh, State.due, hd]))

theorem exec_grace_early {s : State} {n : Nat} (h : ¬ s.graceOver n) : exec (.grace n) s = .next s := by
  refine congrArg Host.Outcome.next (if_neg fun hx => h ?_)
  simpa [State.graceOver, State.due, and_assoc] using hx

theorem exec_snoopTimeout {s : State} {w sid : Nat} (hw : s.build.hasWicket w = true) :
    exec (.snoopTimeout w sid) s = .next (match KV.find? (s.wicket w).sids sid with
      | some p =>
        if !p.heldOut && !(s.agent p.aid.toNat).grace && s.due p.startTick p.timeout then declareDead s p.aid 2 else s
      | none => s) := if_neg (by simp [hw])

/-! ## A death with nothing outstanding (R296) -/

theorem answerSnoops_none {s : State} {w : Nat} (a : Aid) (hlen : w < s.wickets.length) (h1 : (s.wicket w).sids = [])
    (h2 : (s.wicket w).sWait = []) : answerSnoops s w a = s.modWicket w (fun x => { x with
      sids := List.filter (fun p => p.2.aid != a) x.sids, sWait := x.sWait.filter (·.aid != a)
      heldRsp := x.heldRsp.filter (fun h => h.r.aid != a) }) := by
  unfold answerSnoops
  extract_lets x mine s1 s2 s3
  have hm : mine = [] := by simp [mine, x, h1]
  have hs1 : s1 = s := by simp only [s1, hm]; rfl
  have hs2 : s2 = s := by simp only [s2, x, h2, hs1]; rfl
  have hw : (s3.wicket w).sWait = [] := by
    rw [show s3 = s2.modWicket w _ from rfl, hs2, wicket_modWicket _ _ hlen]
    simp [h2]
  rw [hw]
  show s2.modWicket w _ = _
  rw [hs2]

/-- What a Wicket drops of an agent. -/
def Wicket.drop (x : Wicket) (a : Aid) : Wicket :=
  { x with
    entries := x.entries.filter (·.aid != a), wbs := x.wbs.filter (·.aid != a)
    heldCmp := x.heldCmp.filter (·.aid != a), heldData := x.heldData.filter (fun d => d.d.aid != a)
    graceOut := x.graceOut.filter (fun p => p.1 != a)
    creds := List.filter (fun p => p.1 / 32 != a.toNat) x.creds, entCred := KV.del x.entCred a.toNat }

theorem dropAtWicket_none {s : State} {w : Nat} (a : Aid) (hw : w ≠ Build.ws) (h : (s.wicket w).creds = []) :
    dropAtWicket s w a = s.modWicket w (·.drop a) := by
  unfold dropAtWicket
  extract_lets n held s1 s2
  have hh : held = [] := by simp [held, h]
  have hs1 : s1 = s := by simp only [s1, hh]; rfl
  rw [if_pos (by simpa using hw)]
  show s1.modWicket w _ = _
  rw [hs1]
  rfl

/-- A Till that holds nothing of anyone. -/
def Till.vacant (u : Till) : Prop := u.folios = [] ∧ u.claims = [] ∧ u.gathers = [] ∧ u.monitors = []

theorem till_vacant {s : State} (h : ∀ u ∈ s.tills, u.vacant) (t : Nat) : (s.till t).vacant := by
  rcases till_mem_or_default s t with hm | hd
  · exact h _ hm
  · rw [hd]; exact ⟨rfl, rfl, rfl, rfl⟩

theorem endClaims_vacant {s : State} {t : Nat} (a : Aid) (h : (s.till t).vacant) : endClaims s t a = s := by
  obtain ⟨-, hc, hg, -⟩ := h
  unfold endClaims
  simp [hg, hc]

theorem clearMons_vacant {s : State} {t : Nat} (p : Monitor → Bool) (lost : Bool) (h : (s.till t).vacant) :
    clearMons s t p lost = s := by
  obtain ⟨-, -, -, hm⟩ := h
  unfold clearMons
  simp [hm]

theorem dropAtTills_vacant {s : State} (a : Aid) (h : ∀ u ∈ s.tills, u.vacant) : dropAtTills s a = s := by
  unfold dropAtTills
  induction s.build.tillList with
  | nil => rfl
  | cons t l ih =>
    rw [List.foldl_cons]
    have hv := till_vacant h t
    have hf := hv.1
    dsimp only
    rw [endClaims_vacant a hv, clearMons_vacant _ _ hv, hf]
    exact ih

/-- The entry of the dead agent, its record and its count, before anything is dropped. -/
def deathNoted (s : State) (a : Aid) (c : Nat) : State :=
  ((s.setAgent a.toNat (deadEntry (s.agent a.toNat) c s.time.tick)).note .agentDead
    (.wicket (s.agent a.toNat).wicket.toNat) [a.toNat, (s.agent a.toNat).inc.toNat, c, 0] (some a)).bump ⟨0x2080, 8, 32⟩

theorem deathNoted_does {s : State} {a : Aid} {c : Nat} (hw : KV.wf s.chart = true) :
    (deathNoted s a c).wickets = s.wickets ∧ (deathNoted s a c).tills = s.tills ∧ (deathNoted s a c).out = s.out
      ∧ (deathNoted s a c).au = s.au ∧ (deathNoted s a c).build = s.build ∧ Reports s (deathNoted s a c) 0x106
      ∧ (deathNoted s a c).rawN 0x2080 8 = (s.rawN 0x2080 8 + 1) % 2 ^ 32 := by
  unfold deathNoted
  generalize hu : s.setAgent a.toNat (deadEntry (s.agent a.toNat) c s.time.tick) = u
  have hl := logs_note u .agentDead (.wicket (s.agent a.toNat).wicket.toNat) [a.toNat, (s.agent a.toNat).inc.toNat, c, 0] (some a)
  have hrep := reports_note (s := s) (u := u) (by rw [← hu]; exact List.prefix_rfl) (by rw [← hu]; rfl) .agentDead
    (.wicket (s.agent a.toNat).wicket.toNat) [a.toNat, (s.agent a.toNat).inc.toNat, c, 0] (some a)
  generalize u.note .agentDead (.wicket (s.agent a.toNat).wicket.toNat) [a.toNat, (s.agent a.toNat).inc.toNat, c, 0]
    (some a) = v at hl hrep
  have hwu : KV.wf u.chart = true := by rw [← hu]; exact hw
  refine ⟨hl.wickets.trans (by rw [← hu]; rfl), hl.tills.trans (by rw [← hu]; rfl), hl.out.trans (by rw [← hu]; rfl),
    hl.au.trans (by rw [← hu]; rfl), hl.build.trans (by rw [← hu]; rfl), hrep, ?_⟩
  rw [rawN_bump v _ _ _ (hl.chart_wf hwu) (by decide), hl.rawN hwu (apart (by decide)), ← hu]
  rfl

/-- Nothing of the agent is outstanding: no snoop or credit at its Wicket, and nothing at any Till. -/
structure Alone (s : State) (a : Aid) : Prop where
  wicket : (s.agent a.toNat).wicket.toNat < 8
  sids : (s.wicket (s.agent a.toNat).wicket.toNat).sids = []
  sWait : (s.wicket (s.agent a.toNat).wicket.toNat).sWait = []
  creds : (s.wicket (s.agent a.toNat).wicket.toNat).creds = []
  tills : ∀ u ∈ s.tills, u.vacant

/-- What is left of the Wicket of an agent that dies alone. -/
def Wicket.afterDeath (x : Wicket) (a : Aid) : Wicket :=
  Wicket.drop { x with
    sids := List.filter (fun p => p.2.aid != a) x.sids, sWait := x.sWait.filter (·.aid != a)
    heldRsp := x.heldRsp.filter (fun h => h.r.aid != a) } a

/-- A death with nothing outstanding: the note, the Wicket, the unbind indication and the walk. -/
theorem declareDead_alone {s : State} {a : Aid} {c : Nat} (hlen : s.wickets.length = 9) (hw : KV.wf s.chart = true)
    (hs : s.serving a.toNat = true) (h : Alone s a) :
    ∃ u : State, u = { (deathNoted s a c).modWicket (s.agent a.toNat).wicket.toNat (·.afterDeath a) with
        out := s.out ++ [.bind (s.agent a.toNat).wicket.toNat false a 0] } ∧
      declareDead s a c = { u with au :=
        if (s.agent a.toNat).kind == 0 then { u.au with
          leave := u.au.leave.filter (·.aid != a), fore := u.au.fore ++ [walkAll u a] }
        else { u.au with leave := u.au.leave.filter (·.aid != a) } } := by
  obtain ⟨hw8, hsids, hwait, hcreds, htills⟩ := h
  obtain ⟨u, hu⟩ : ∃ u : State, u = { (deathNoted s a c).modWicket (s.agent a.toNat).wicket.toNat (·.afterDeath a) with
      out := s.out ++ [.bind (s.agent a.toNat).wicket.toNat false a 0] } := ⟨_, rfl⟩
  refine ⟨u, hu, ?_⟩
  unfold declareDead
  extract_lets n ag w s1 s2 s3 s4 s5 s6 au
  have hs' : s.serving n = true := hs
  rw [if_neg (by simp [hs'])]
  have h3 : s3 = deathNoted s a c := rfl
  clear_value s3
  obtain ⟨hn1, hn2, hn3, -⟩ := deathNoted_does (s := s) (a := a) (c := c) hw
  generalize deathNoted s a c = d at h3 hn1 hn2 hn3 hu
  have hx : s3.wicket w = s.wicket w := by unfold State.wicket; rw [h3, hn1]
  have hl3 : w < s3.wickets.length := by rw [h3, hn1, hlen]; exact Nat.lt_succ_of_lt hw8
  have h4 := answerSnoops_none a hl3 (by rw [hx]; exact hsids) (by rw [hx]; exact hwait)
  have h5 : s5 = { s4 with out := s4.out ++ [.bind w false a 0] } := send_of_not_stopped _ rfl
  have h6 : dropAtWicket s5 w a = s5.modWicket w (·.drop a) := by
    refine dropAtWicket_none a (Nat.ne_of_lt hw8) ?_
    rw [h5]
    show (s4.wicket w).creds = []
    rw [show s4 = _ from h4, wicket_modWicket _ _ hl3, hx]
    exact hcreds
  have h7 : s6 = u := by
    rw [hu]
    have htl : (s5.modWicket w (·.drop a)).tills = s.tills := by
      calc (s5.modWicket w (·.drop a)).tills = s4.tills := by rw [h5]; rfl
        _ = s3.tills := by rw [show s4 = _ from h4]; rfl
        _ = s.tills := by rw [h3, hn2]
    show dropAtTills (dropAtWicket s5 w a) a = _
    rw [h6, dropAtTills_vacant a (htl ▸ htills), h5, show s4 = _ from h4]
    unfold State.modWicket
    dsimp only
    rw [List.modify_modify_eq, h3, hn3]
    rfl
  clear_value s6
  subst h7
  rfl

/-- What a death with nothing outstanding leaves (R296). -/
theorem declareDead_alone_does {s : State} {a : Aid} {c : Nat} (hlen : s.wickets.length = 9) (hw : KV.wf s.chart = true)
    (hs : s.serving a.toNat = true) (h : Alone s a) :
    Sends s (declareDead s a c) (.bind (s.agent a.toNat).wicket.toNat false a 0) ∧ Reports s (declareDead s a c) 0x106
      ∧ (declareDead s a c).rawN 0x2080 8 = (s.rawN 0x2080 8 + 1) % 2 ^ 32
      ∧ (declareDead s a c).wicket (s.agent a.toNat).wicket.toNat = (s.wicket (s.agent a.toNat).wicket.toNat).afterDeath a
      ∧ ((s.agent a.toNat).kind = 0 → ∃ x, (declareDead s a c).au.fore = s.au.fore ++ [x] ∧ x.aid = a)
      ∧ ((s.agent a.toNat).kind ≠ 0 → (declareDead s a c).au.fore = s.au.fore) ∧ (declareDead s a c).tills = s.tills := by
  obtain ⟨u, hu, he⟩ := declareDead_alone (c := c) hlen hw hs h
  obtain ⟨hn1, hn2, -, hn4, -, hn6, hn7⟩ := deathNoted_does (s := s) (a := a) (c := c) hw
  generalize deathNoted s a c = d at hu hn1 hn2 hn4 hn6 hn7
  have hx : d.wicket (s.agent a.toNat).wicket.toNat = s.wicket (s.agent a.toNat).wicket.toNat := by
    unfold State.wicket; rw [hn1]
  have hwk := wicket_modWicket d (·.afterDeath a) (w := (s.agent a.toNat).wicket.toNat)
    (by rw [hn1, hlen]; exact Nat.lt_succ_of_lt h.wicket)
  rw [hx] at hwk
  have hau : u.au = s.au := by rw [hu]; exact hn4
  have hwu : u.wicket (s.agent a.toNat).wicket.toNat = (s.wicket (s.agent a.toNat).wicket.toNat).afterDeath a := by
    rw [hu]; exact hwk
  have hru : Reports s u 0x106 := by rw [hu]; exact hn6
  have hcu : u.rawN 0x2080 8 = (s.rawN 0x2080 8 + 1) % 2 ^ 32 := by rw [hu]; exact hn7
  have htu : u.tills = s.tills := by rw [hu]; exact hn2
  have hou : u.out = s.out ++ [.bind (s.agent a.toNat).wicket.toNat false a 0] := by rw [hu]
  rw [he, ← hau]
  clear hu he
  refine ⟨⟨_, hou, by simp⟩, hru, hcu, hwu, fun hk => ⟨walkAll u a, ?_, rfl⟩, fun hk => ?_, htu⟩
  · rw [if_pos (by simp [hk])]
  · rw [if_neg (by simpa using hk)]

/-- Settles O48: a timer that is due kills its agent; where nothing of the agent is outstanding, the death is the note, what
the Wicket drops, the unbind indication and the walk. -/
theorem agentTimersAndDeath : Obligations.AgentTimersAndDeath := by
  intro s n hinv hn
  obtain ⟨-, hlen, -, -, -, hw, hwa, -⟩ := id hinv
  obtain ⟨aid, rfl⟩ : ∃ a : Aid, n = a.toNat := ⟨BitVec.ofNat 10 n, by simp [Nat.mod_eq_of_lt hn]⟩
  rw [BitVec.ofNat_toNat, BitVec.setWidth_eq]
  intro a w _ expired
  have hover (h : expired) : exec (.grace aid.toNat) s = .next (declareDead s aid 1) := by
    have he := exec_grace_over (s := s) (n := aid.toNat) h
    rwa [BitVec.ofNat_toNat, BitVec.setWidth_eq] at he
  refine ⟨fun h hst => .of (hover h) (diesOf_serving hwa (by decide) hst), fun h => exec_grace_early h,
    fun v sid hv => ⟨fun hf => ?_, fun p hf => ⟨fun hh hg ht hs => .of (exec_snoopTimeout hv) ?_, fun h => ?_⟩⟩,
    fun h hst hw8 hsids hwait hcreds hvac => .of (hover h) ?_⟩
  · rw [exec_snoopTimeout hv, hf]
  · rw [hf]
    dsimp only
    rw [if_pos (by simp [hh, hg, State.due, ht])]
    exact diesOf_serving hwa (by decide) (by simpa [State.serving] using hs)
  · rw [exec_snoopTimeout hv, hf]
    dsimp only
    rw [if_neg]
    rcases h with h | h | h
    · simp [h]
    · simp [h]
    · simp [State.due, h]
  · have hserve : s.serving aid.toNat = true := by
      have hst' : (s.agent aid.toNat).state = .active := hst
      simp [State.serving, hst']
    obtain ⟨h1, h2, h3, h4, h5, h6, h7⟩ := declareDead_alone_does (c := 1) hlen hw hserve ⟨hw8, hsids, hwait, hcreds, hvac⟩
    exact ⟨diesOf_serving hwa (by decide) (.inl hst), h1, h2, h3, congrArg Wicket.entries h4, congrArg Wicket.graceOut h4, h5, h6, h7⟩

end Sys2Proof.Machine
end

section
/-! PROOFS. Writes of AGENT_CFG, of tenant lists and of escrow (R125, R127, R165, R280). -/

namespace Sys2Proof.Machine

/-! ## What a refusal and a count of the window leave -/

/-- An entry other than the two of a refusal. -/
theorem raw_refused {s : State} (hw : KV.wf s.chart = true) (a : Author) {i j : Nat} (c : Code) {i' j' : Nat}
    (h6 : ekey i' j' ≠ ekey 0x1100 6) (h7 : ekey i' j' ≠ ekey 0x1100 7) : (refused s a i j c).raw i' j' = s.raw i' j' := by
  have h1 : KV.wf (s.bump ⟨0x1100, 6, 32⟩).chart = true := KV.set_wf _ _ _ hw
  have hn (v : Nat) : ((s.bump ⟨0x1100, 6, 32⟩).setRawN 0x1100 7 v).raw i' j' = s.raw i' j' :=
    (raw_setRaw_ne _ _ h1 h7).trans (raw_setRaw_ne s _ hw h6)
  unfold refused
  dsimp only
  generalize place i 16 48 + place j 8 40 + place c.num 4 36 + place (bit a.teller) 1 35 = v
  have hv := hn v
  generalize (s.bump ⟨0x1100, 6, 32⟩).setRawN 0x1100 7 v = s1 at hv
  split
  · exact hv
  · split
    · exact hv
    · exact hv

theorem rawN_refused {s : State} (hw : KV.wf s.chart = true) (a : Author) {i j : Nat} (c : Code) {i' j' : Nat}
    (h6 : ekey i' j' ≠ ekey 0x1100 6) (h7 : ekey i' j' ≠ ekey 0x1100 7) : (refused s a i j c).rawN i' j' = s.rawN i' j' :=
  congrArg BitVec.toNat (raw_refused hw a c h6 h7)

theorem raw_applied (s : State) {i j : Nat} (w : KV.wf s.chart = true) (h : ekey i j ≠ ekey 0x1100 0xA) :
    (applied s).raw i j = s.raw i j := raw_setRaw_ne s _ w h

theorem answered_ok {a : Author} {i j : Nat} {s : State} : answered a i j (s, .ok) = applied s := if_pos rfl

theorem answered_refused {a : Author} {i j : Nat} {s : State} {c : Code} (h : c ≠ .ok) :
    answered a i j (s, c) = refused s a i j c := if_neg h

/-! ## AGENT_CFG (R280) -/

/-- The fields of AGENT_CFG. -/
def cfgFields (a : Agent) (v : BitVec 32) : Agent :=
  { a with
    kind := BitVec.ofNat 2 (bits v 31 30), wicket := BitVec.ofNat 4 (bits v 29 26), strm := bits v 25 25 == 1
    readmit := bits v 24 24 == 1, autoRejoin := bits v 23 23 == 1 }

theorem cfgWrite_absent {s : State} {n : Nat} (h : (s.agent n).state = .absent) (v : BitVec 32) :
    cfgWrite s n v = (s.setAgent n (cfgFields (s.agent n) v), true) := if_neg (by simp [h])

theorem cfgWrite_refused {s : State} {n : Nat} (h : (s.agent n).state ≠ .absent) (v : BitVec 32) :
    cfgWrite s n v = (result s n 1, false) := if_pos (by simpa using h)

theorem bits_one {n : Nat} (v : BitVec n) (i : Nat) : (bits v i i == 1) = v.getLsbD i := by
  rw [BitVec.getLsbD, Nat.testBit_eq_decide_div_mod_eq, bits, Nat.shiftRight_eq_div_pow]
  simp only [Nat.add_sub_cancel_left, pow_one]
  exact Bool.eq_iff_iff.mpr (by simp)

theorem cfgFields_read (a : Agent) (v : BitVec 32) :
    (cfgFields a v).kind.toNat = v.toNat / 2 ^ 30 ∧ (cfgFields a v).wicket.toNat = v.toNat / 2 ^ 26 % 16
      ∧ (cfgFields a v).strm = v.getLsbD 25 ∧ (cfgFields a v).readmit = v.getLsbD 24
      ∧ (cfgFields a v).autoRejoin = v.getLsbD 23 := by
  have hv := v.isLt
  refine ⟨?_, ?_, bits_one v 25, bits_one v 24, bits_one v 23⟩
  · simp only [cfgFields, bits, BitVec.toNat_ofNat, Nat.shiftRight_eq_div_pow]
    omega
  · simp only [cfgFields, bits, BitVec.toNat_ofNat, Nat.shiftRight_eq_div_pow]
    omega

/-! ## Tenant lists (R165) -/

/-- The write of a tenant list takes a member out that is in use. -/
theorem tenantWrite_eq (s : State) (t i : Nat) (v : Word) : tenantWrite s t i v =
    if ∃ b, b < 64 ∧ (s.raw (0x2040 + t) i).getLsbD b = true ∧ v.getLsbD b = false
        ∧ ((s.agent (64 * i + b)).state ≠ .absent ∨ s.foliosOpen (64 * i + b) ≠ 0)
    then (s, false) else (s.setRaw (0x2040 + t) i v, true) := by
  unfold tenantWrite
  refine if_congr ?_ rfl rfl
  have h1 (b : Nat) : (s.rawN (0x2040 + t) i / 2 ^ b % 2 == 1) = (s.raw (0x2040 + t) i).getLsbD b := by
    rw [BitVec.getLsbD, Nat.testBit_eq_decide_div_mod_eq]
    exact Bool.eq_iff_iff.mpr (by simp [State.rawN])
  have h2 (b : Nat) : (v.toNat / 2 ^ b % 2 == 0) = !v.getLsbD b := by
    rw [BitVec.getLsbD, Nat.testBit_eq_decide_div_mod_eq]
    exact Bool.eq_iff_iff.mpr (by simp)
  simp only [List.any_eq_true, List.mem_filter, List.mem_range, h1, h2, Bool.and_eq_true, Bool.not_eq_true',
    Bool.or_eq_true, bne_iff_ne, and_assoc]

/-! ## Escrow (R125 to R127) -/

theorem escrowSums_congr {a b : State} (hag : b.agents = a.agents) (h0 : b.rawN 0x4010 0 = a.rawN 0x4010 0)
    (h1 : b.rawN 0x4010 1 = a.rawN 0x4010 1) : b.escrowSums = a.escrowSums := by
  unfold State.escrowSums
  rw [hag, h0, h1]

/-- An agent's escrow entry. -/
def escrowEntered (s : State) (n j : Nat) (v : BitVec 16) : State :=
  s.modAgent n (fun a => if j = 1 then { a with dataEscrow := v } else { a with folioEscrow := v })

/-- A value that the range of its entry refuses (R126). -/
theorem escrowRange_false {agent : Bool} {j : Nat} (v : BitVec 16) : escrowRange agent (j == 1) v.toNat = false ↔
    (agent = false ∨ v ≠ 0) ∧ (v.toNat < 2 ∨ (if j = 1 then 64 else 1024) < v.toNat) := by
  have h0 : (v.toNat = 0) = (v = 0) := propext ⟨fun h => BitVec.eq_of_toNat_eq h, fun h => by rw [h]; rfl⟩
  simp only [escrowRange, Bool.or_eq_false_iff, Bool.and_eq_false_iff, beq_eq_false_iff_ne, decide_eq_false_iff_not,
    not_le, beq_iff_eq, ne_eq, h0]

theorem escrowWrite_agent {s : State} {n j : Nat} (hj : j < 2) (v : BitVec 16) :
    escrowWrite s (0x4400 + n) j v.toNat =
      if (v ≠ 0 ∧ (v.toNat < 2 ∨ (if j = 1 then 64 else 1024) < v.toNat)) ∨ 16128 < (escrowEntered s n j v).escrowSums.1
          ∨ 6080 < (escrowEntered s n j v).escrowSums.2
      then (s.setRawN 0x4010 4 3, false) else ((escrowEntered s n j v).setRawN 0x4010 4 0, true) := by
  have hi : (0x4400 + n != 0x4010) = true := by simp; omega
  have hent : (if (!true) = true then s.setRawN (0x4400 + n) j v.toNat
      else if (j == 0) = true then s.modAgent n (fun a => { a with folioEscrow := BitVec.ofNat 16 v.toNat })
      else s.modAgent n (fun a => { a with dataEscrow := BitVec.ofNat 16 v.toNat })) = escrowEntered s n j v := by
    rw [BitVec.ofNat_toNat, BitVec.setWidth_eq]
    obtain rfl | rfl : j = 0 ∨ j = 1 := by omega
    · rfl
    · rfl
  unfold escrowWrite
  dsimp only
  rw [hi, Nat.add_sub_cancel_left, hent]
  refine if_congr ?_ rfl rfl
  have hr := escrowRange_false (agent := true) (j := j) v
  simp only [Bool.or_eq_true, Bool.not_eq_true', decide_eq_true_eq, hr]
  simp [or_assoc]

theorem escrowWrite_default {s : State} {j : Nat} (v : BitVec 16) :
    escrowWrite s 0x4010 j v.toNat =
      if (v.toNat < 2 ∨ (if j = 1 then 64 else 1024) < v.toNat) ∨ 16128 < (s.setRawN 0x4010 j v.toNat).escrowSums.1
          ∨ 6080 < (s.setRawN 0x4010 j v.toNat).escrowSums.2
      then (s.setRawN 0x4010 4 3, false) else ((s.setRawN 0x4010 j v.toNat).setRawN 0x4010 4 0, true) := by
  unfold escrowWrite
  dsimp only
  refine if_congr ?_ rfl rfl
  have hr := escrowRange_false (agent := false) (j := j) v
  simp only [Bool.or_eq_true, Bool.not_eq_true', decide_eq_true_eq, bne_self_eq_false, hr]
  simp [or_assoc]

/-- A write of an escrow default. -/
theorem write_escrowDefault {s : State} (hs : s.windowOpen) {j : Nat} (hj : j < 2) (v : BitVec 16) :
    exec (.escrowWrite 0x4010 j v) s = .next (answered (s.window none) 0x4010 j
      ((escrowWrite (s.gev 0x10C) 0x4010 j v.toNat).1,
        if (escrowWrite (s.gev 0x10C) 0x4010 j v.toNat).2 then .ok else .invalid)) := by
  have hv : ownerMask 0x4010 j (cutTo .u16 v.toNat) = v.toNat := by
    rw [ownerMask_command (by omega) (by omega) (by omega)]; exact Nat.mod_eq_of_lt (by have := v.isLt; simpa [Ty.width] using this)
  obtain ⟨d, he⟩ : ∃ d, entryAt s.build 0x4010 j = some (rwK .u16 d) := by
    obtain rfl | rfl : j = 0 ∨ j = 1 := by omega
    · exact ⟨8, by cases s.build <;> rfl⟩
    · exact ⟨2, by cases s.build <;> rfl⟩
  refine (chartCmd_store hs (c := .escrowWrite 0x4010 j v) (i := 0x4010) (j := j) rfl ?_ (by omega)
    he (fun h => nomatch h) rfl (behindTill_none (by omega) (by omega) (by omega) (by omega) (by omega) (by omega))
    rfl ?_ (shaperAt_none (by omega) (by omega))).trans ?_
  · simp [chartRange, escrowEntry]; omega
  · show inRange _ _ _ (ownerMask 0x4010 j (cutTo .u16 v.toNat)) = true
    rw [hv]
    exact inRange_full (by have := v.isLt; omega) (ownerRange_plain (by omega))
  · show Host.Outcome.next (answered _ _ _ (store _ _ _ (ownerMask 0x4010 j (cutTo .u16 v.toNat)))) = _
    rw [hv]
    rfl

theorem agents_escrowEntered {s g : State} (h : g.agents = s.agents) (n j : Nat) (v : BitVec 16) :
    (escrowEntered g n j v).agents = (escrowEntered s n j v).agents := by
  unfold escrowEntered State.modAgent State.setAgent State.agent
  rw [h]

/-- One value stored in one entry of two states that read alike. -/
theorem rawN_setRawN_congr {a b : State} {i j v j' : Nat} (hb : KV.wf b.chart = true) (ha : KV.wf a.chart = true)
    (h : b.rawN i j' = a.rawN i j') : (b.setRawN i j v).rawN i j' = (a.setRawN i j v).rawN i j' := by
  by_cases he : j' = j
  · rw [he, rawN_setRawN_mod _ _ _ _ hb, rawN_setRawN_mod _ _ _ _ ha]
  · have hk : ekey i j' ≠ ekey i j := by simp only [ekey]; omega
    rw [rawN_setRawN_ne _ _ hb hk, rawN_setRawN_ne _ _ ha hk, h]

/-- Settles O49: each owner's answer in its cases; what the window counts leaves the written entries alone. -/
theorem agentTenantAndEscrowWrites : Obligations.AgentTenantAndEscrowWrites := by
  refine ⟨fun s hinv ho => ⟨fun n v hn => ?_, fun k i v hk0 hk hi => ?_⟩, fun s n j v hinv ho hn hj => ?_⟩
  · obtain ⟨-, -, -, -, -, hw, hwa, -⟩ := id hinv
    have he := write_agentCfg ho hn v
    have hg := logs_reached s
    generalize s.gev 0x10C = g at hg he
    have hga : g.agent n = s.agent n := hg.agent n
    have hgw : KV.wf g.agents = true := hg.agents ▸ hwa
    refine ⟨fun h => ?_, fun h => ?_⟩
    · rw [cfgWrite_absent (by rw [hga]; exact h), if_pos rfl, answered_ok, hga] at he
      have ha := agent_setAgent g n (cfgFields (s.agent n) v) hgw
      obtain ⟨h1, h2, h3, h4, h5⟩ := cfgFields_read (s.agent n) v
      refine .of he ?_
      have ht : (applied (g.setAgent n (cfgFields (s.agent n) v))).agent n = cfgFields (s.agent n) v := ha
      rw [ht]
      exact ⟨h1, h2, h3, h4, h5, h, rfl, rfl, hg.tills, hg.out⟩
    · rw [cfgWrite_refused (by rw [hga]; exact h), if_neg Bool.false_ne_true, answered_refused (by decide)] at he
      have hres := agent_result (n := n) (r := 1) hgw
      rw [hga] at hres
      obtain ⟨h1, h2, h3, h4⟩ := refused_keeps (s := result g n 1) (hg.chart_wf hw) (s.window none) (0xA000 + n) 0 .busy
      refine .of he ⟨?_, h4.trans ?_, h2.trans hg.tills, h3.trans hg.out⟩
      · exact (congrArg (fun m : KV Agent => KV.get m n {}) h1).trans hres
      · exact congrArg (fun x => (x + 1) % 2 ^ 32) (hg.rawN hw (apart (by decide)))
  · obtain ⟨-, -, -, -, -, hw, hwa, -⟩ := id hinv
    have he := write_tenant ho hk0 hk hi v
    have hg := logs_reached s
    generalize s.gev 0x10C = g at hg he
    have hgw := hg.chart_wf hw
    have hraw : g.raw (0x2040 + k) i = s.raw (0x2040 + k) i := hg.raw hw (apart (by omega))
    have hopen (n : Nat) : g.foliosOpen n = s.foliosOpen n := by unfold State.foliosOpen; rw [hg.tills]
    rw [tenantWrite_eq] at he
    simp only [hraw, hg.agent, hopen] at he
    refine ⟨fun h => ?_, fun h => ?_⟩
    · rw [if_neg, if_pos rfl, answered_ok] at he
      · refine .of he ⟨?_, hg.agents, hg.tills⟩
        rw [raw_applied _ (KV.set_wf _ _ _ hgw) (by simp only [ekey]; omega), raw_setRaw _ _ _ _ hgw]
      · rintro ⟨b, hb, h1, h2, h3⟩
        obtain ⟨h4, h5⟩ := h b hb h1 h2
        exact h3.elim (fun h3 => h3 h4) (fun h3 => h3 h5)
    · rw [if_pos h, if_neg Bool.false_ne_true, answered_refused (by decide)] at he
      obtain ⟨h1, -, -, h4⟩ := refused_keeps hgw (s.window none) (0x2040 + k) i .busy
      refine .of he ⟨?_, h4.trans (by rw [hg.rawN hw (apart (by decide))]), h1.trans hg.agents⟩
      rw [raw_refused hgw _ _ (by simp only [ekey]; omega) (by simp only [ekey]; omega), hraw]
  · obtain ⟨-, -, -, -, -, hw, -⟩ := id hinv
    have he := write_escrow ho hn hj v
    have hd := write_escrowDefault ho hj v
    have hg := logs_reached s
    generalize s.gev 0x10C = g at hg he hd
    have hgw := hg.chart_wf hw
    have hent := agents_escrowEntered hg.agents n j v
    have hsum : (escrowEntered g n j v).escrowSums = (escrowEntered s n j v).escrowSums :=
      escrowSums_congr hent (hg.rawN hw (apart (by decide))) (hg.rawN hw (apart (by decide)))
    have hsumD : (g.setRawN 0x4010 j v.toNat).escrowSums = (s.setRawN 0x4010 j v.toNat).escrowSums :=
      escrowSums_congr hg.agents (rawN_setRawN_congr hgw hw (hg.rawN hw (apart (by decide))))
        (rawN_setRawN_congr hgw hw (hg.rawN hw (apart (by decide))))
    rw [escrowWrite_agent hj, hsum] at he
    rw [escrowWrite_default, hsumD] at hd
    intro top u d
    refine ⟨fun h1 h2 h3 => ?_, fun h => ?_, fun h1 h2 h3 h4 => ?_, fun h => ?_⟩
    · rw [if_neg, if_pos rfl, answered_ok] at he
      · refine .of he ⟨hent, ?_, hg.tills⟩
        refine (rawN_applied _ (chart_wf_setRawN (escrowEntered g n j v) 0x4010 4 0 hgw) (by decide)).trans ?_
        exact rawN_setRawN (escrowEntered g n j v) _ _ _ hgw (by decide)
      · rintro (⟨h4, h5⟩ | h5 | h5)
        · rcases h1 with h1 | h1
          · exact h4 h1
          · exact absurd h5 (by omega)
        · exact absurd h5 (Nat.not_lt.mpr h2)
        · exact absurd h5 (Nat.not_lt.mpr h3)
    · rw [if_pos (by exact h), if_neg Bool.false_ne_true, answered_refused (by decide)] at he
      have hw3 : KV.wf (g.setRawN 0x4010 4 3).chart = true := chart_wf_setRawN _ _ _ _ hgw
      obtain ⟨h1, -, -, h4⟩ := refused_keeps hw3 (s.window none) (0x4400 + n) j .invalid
      refine .of he ⟨h1.trans hg.agents, ?_, h4.trans ?_⟩
      · rw [rawN_refused hw3 _ _ (by decide) (by decide), rawN_setRawN _ _ _ _ hgw (by decide)]
      · rw [rawN_setRawN_ne _ _ hgw (by decide), hg.rawN hw (apart (by decide))]
    · have hw2 : KV.wf (g.setRawN 0x4010 j v.toNat).chart = true := KV.set_wf _ _ _ hgw
      rw [if_neg, if_pos rfl, answered_ok] at hd
      · refine .of hd ⟨?_, ?_, hg.agents⟩
        · refine (rawN_applied _ (chart_wf_setRawN _ 0x4010 4 0 hw2) (by simp only [ekey]; omega)).trans ?_
          rw [rawN_setRawN_ne _ _ hw2 (by simp only [ekey]; omega), rawN_setRawN _ _ _ _ hgw (by have := v.isLt; omega)]
        · refine (rawN_applied _ (chart_wf_setRawN _ 0x4010 4 0 hw2) (by decide)).trans ?_
          exact rawN_setRawN _ _ _ _ hw2 (by decide)
      · rintro (h5 | h5 | h5)
        · exact absurd h5 (by omega)
        · exact absurd h5 (Nat.not_lt.mpr h3)
        · exact absurd h5 (Nat.not_lt.mpr h4)
    · rw [if_pos (by rw [or_assoc]; exact h), if_neg Bool.false_ne_true, answered_refused (by decide)] at hd
      have hw3 : KV.wf (g.setRawN 0x4010 4 3).chart = true := chart_wf_setRawN _ _ _ _ hgw
      obtain ⟨h1, -⟩ := refused_keeps hw3 (s.window none) 0x4010 j .invalid
      refine .of hd ⟨?_, ?_, h1.trans hg.agents⟩
      · rw [rawN_refused hw3 _ _ (by simp only [ekey]; omega) (by simp only [ekey]; omega),
          rawN_setRawN_ne _ _ hgw (by simp only [ekey]; omega), hg.rawN hw (apart (by omega))]
      · rw [rawN_refused hw3 _ _ (by decide) (by decide), rawN_setRawN _ _ _ _ hgw (by decide)]

end Sys2Proof.Machine
end

section
/-! PROOFS. A Teller Message: what counting it leaves, which message acts, and what its answer is (R448 to R452, R465, R469). -/

namespace Sys2Proof.Machine

/-! ## A message is counted -/

/-- The state in which a message that CH takes up has been counted. -/
def State.heard (s : State) : State := (s.bump ⟨0x1100, 8, 64⟩).gev 0x10D

theorem heard_eq (s : State) : ∃ ch, s.heard = { s with chart := ch } := by
  obtain ⟨c, hc⟩ := bump_eq s ⟨0x1100, 8, 64⟩
  obtain ⟨d, hd⟩ := gev_eq (s.bump ⟨0x1100, 8, 64⟩) 0x10D 0xFF
  refine ⟨d, ?_⟩
  unfold State.heard
  rw [hd, hc]

theorem heard_sec (s : State) : s.heard.sec = s.sec := by
  obtain ⟨c, hc⟩ := heard_eq s
  rw [hc]

theorem heard_fuses (s : State) : s.heard.fuses = s.fuses := by
  obtain ⟨c, hc⟩ := heard_eq s
  rw [hc]

theorem heard_time (s : State) : s.heard.time = s.time := by
  obtain ⟨c, hc⟩ := heard_eq s
  rw [hc]

theorem heard_out (s : State) : s.heard.out = s.out := by
  obtain ⟨c, hc⟩ := heard_eq s
  rw [hc]

theorem heard_session (s : State) (k : Nat) : s.heard.session k = s.session k := session_of_sec (by rw [heard_sec]) k

theorem heard_inbox (s : State) : s.heard.journal = s.journal := by
  obtain ⟨c, hc⟩ := heard_eq s
  rw [hc]

theorem heard_wf {s : State} (h : KV.wf s.chart = true) : KV.wf s.heard.chart = true :=
  (logs_gev _ 0x10D 0xFF).chart_wf (chart_wf_setRawN s 0x1100 8 _ h)

/-- An entry of another index and outside the statistics. -/
theorem rawN_heard {s : State} (h : KV.wf s.chart = true) {i j : Nat} (hi : i ≠ 0x1100) (hj : j < 256)
    (hk : Apart (ekey i j)) : s.heard.rawN i j = s.rawN i j := by
  refine ((logs_gev _ 0x10D 0xFF).rawN (chart_wf_setRawN s 0x1100 8 _ h) hk).trans ?_
  exact rawN_setRawN_ne s _ h (by simp only [ekey]; omega)

/-! ## The response -/

theorem reply_eq (s : State) (h : Teller) (cmd : Nat) (key : Option (List Byte)) (c : Code) (p : List Byte) :
    reply s h cmd key c p = replied s h cmd key c.num p := send_of_not_stopped s rfl

@[simp] theorem replied_session (v : State) (h : Teller) (cmd : Nat) (key : Option (List Byte)) (status : Nat) (p : List Byte)
    (k : Nat) : (replied v h cmd key status p).session k = v.session k := rfl
@[simp] theorem replied_rawN (v : State) (h : Teller) (cmd : Nat) (key : Option (List Byte)) (status : Nat) (p : List Byte)
    (i j : Nat) : (replied v h cmd key status p).rawN i j = v.rawN i j := rfl
@[simp] theorem replied_sec (v : State) (h : Teller) (cmd : Nat) (key : Option (List Byte)) (status : Nat) (p : List Byte) :
    (replied v h cmd key status p).sec = v.sec := rfl
@[simp] theorem replied_fuses (v : State) (h : Teller) (cmd : Nat) (key : Option (List Byte)) (status : Nat) (p : List Byte) :
    (replied v h cmd key status p).fuses = v.fuses := rfl

/-- A response leaves behind what the Home has sent. -/
theorem sends_replied {s v : State} {h : Teller} {cmd status : Nat} {key : Option (List Byte)} {p : List Byte}
    (ho : v.out = s.out) : Sends s (replied v h cmd key status p)
      (.teller h.eid (tellerBody key cmd status h.session.toNat h.seq.toNat p)) :=
  ⟨_, congrArg (· ++ _) ho, List.mem_singleton_self _⟩

/-- What a command answers, where it answers at once. -/
theorem answer_performed {s v : State} {c : Caller} {cmd : Nat} {h : Teller} {code : Code} {p : List Byte}
    (hp : knownCmd cmd = false ∨ s.permits c cmd = true) (e : perform s c cmd h = (v, some (code, p))) :
    answer s c cmd h = replied v h cmd c.key code.num p := by
  unfold answer
  rw [if_neg (by rcases hp with hp | hp <;> simp [hp]), e]
  exact reply_eq ..

/-! ## The checks in their order -/

theorem exec_teller {i : Instr} {cmd : Nat} {h : Teller} (ht : tellerOf i = some (cmd, h)) (s : State) :
    exec i s = .next (teller i s) := by
  unfold tellerOf at ht
  split at ht <;> first | rfl | exact absurd ht (by simp)

theorem teller_off {i : Instr} {s : State} (h : s.boot = .off ∨ s.power.state = 3) : teller i s = s := by
  unfold teller
  split
  · rfl
  · exact if_pos (by simpa using h)

theorem teller_down {i : Instr} {cmd : Nat} {h : Teller} (ht : tellerOf i = some (cmd, h)) {s : State} (hb : s.boot ≠ .off)
    (hp : s.power.state ≠ 3) (hup : s.chartUp = false) : teller i s = unavailable s cmd h := by
  unfold teller
  rw [ht]
  dsimp only
  rw [if_neg (by simp [hb, hp]), if_pos (by simp [hup])]

theorem teller_up {i : Instr} {cmd : Nat} {h : Teller} (ht : tellerOf i = some (cmd, h)) {s : State} (hup : s.chartUp = true)
    (hh : s.inHold = false) : teller i s = tellerNow s.heard cmd h := by
  obtain ⟨hb, -, hp⟩ := chartUp_iff.mp hup
  unfold teller
  rw [ht]
  dsimp only
  rw [if_neg (by simp [hb, hp]), if_neg (by simp [hup]), if_pos (by simp [hh])]
  rfl

theorem exec_up {i : Instr} {cmd : Nat} {h : Teller} (ht : tellerOf i = some (cmd, h)) {s : State} (hup : s.chartUp = true)
    (hh : s.inHold = false) : exec i s = .next (tellerNow s.heard cmd h) := by
  rw [exec_teller ht, teller_up ht hup hh]

theorem tellerNow_version {s : State} {cmd : Nat} {h : Teller} (hv : h.tver ≠ 1) :
    tellerNow s cmd h = replied s h cmd none 3 [] := by
  unfold tellerNow
  rw [if_pos (by simpa using hv)]
  exact reply_eq ..

theorem tellerNow_long {s : State} {cmd : Nat} {h : Teller} (hv : h.tver = 1) (hl : 1024 < h.length) :
    tellerNow s cmd h = replied s h cmd none 11 [] := by
  unfold tellerNow
  rw [if_neg (by simp [hv]), if_pos hl]
  exact reply_eq ..

theorem tellerNow_auth_blank {s : State} {cmd : Nat} {h : Teller} (hv : h.tver = 1) (hl : h.length ≤ 1024)
    (ha : h.auth = true) (hb : s.fuses.lifecycle = 0) : tellerNow s cmd h = replied s h cmd none 9 [] := by
  unfold tellerNow
  rw [if_neg (by simp [hv]), if_neg (by omega), if_pos ha, if_pos (by simp [hb])]
  exact reply_eq ..

theorem tellerNow_auth {s : State} {cmd : Nat} {h : Teller} (hv : h.tver = 1) (hl : h.length ≤ 1024)
    (ha : h.auth = true) (hb : s.fuses.lifecycle ≠ 0) : tellerNow s cmd h = authRequest s cmd h := by
  unfold tellerNow
  rw [if_neg (by simp [hv]), if_neg (by omega), if_pos ha, if_neg (by simp [hb])]

theorem tellerNow_plain {s : State} {cmd : Nat} {h : Teller} (hv : h.tver = 1) (hl : h.length ≤ 1024)
    (ha : h.auth = false) : tellerNow s cmd h = plainRequest s cmd h := by
  unfold tellerNow
  rw [if_neg (by simp [hv]), if_neg (by omega), if_neg (by simp [ha])]

/-- A request outside a session other than IDENTIFY, OPEN and PROVE: in Blank as Vendor, and otherwise refused (R465). -/
theorem plainRequest_other {s : State} {cmd : Nat} {h : Teller} (h1 : cmd ≠ 1) (h2 : cmd ≠ 2) (h3 : cmd ≠ 3) :
    plainRequest s cmd h =
      (if s.fuses.lifecycle == 0 then answer s ⟨4, 3, none⟩ cmd h
      else reply s h cmd none (if knownCmd cmd then .auth else .unknownCommand) []) := by
  unfold plainRequest
  split
  · exact absurd rfl h1
  · exact absurd rfl h2
  · exact absurd rfl h3
  · rfl

/-! ## The session of a request -/

/-- The first slot with a property is the slot that a search finds. -/
theorem findIdx_sessions {s : State} {p : Session → Bool} {k : Nat} (hlen : s.sec.sessions.length = 4) (hk : k < 4)
    (hp : p (s.session k) = true) (hf : ∀ j, j < k → p (s.session j) = false) : s.sec.sessions.findIdx p = k := by
  rw [List.findIdx_eq (by omega)]
  have hget : ∀ j (hj : j < s.sec.sessions.length), s.session j = s.sec.sessions[j] := fun j hj => by
    simp [State.session, hj]
  exact ⟨by rw [← hget]; exact hp, fun j hj => by rw [← hget]; exact hf j hj⟩

/-- Is `k` the session that a message names (R465). -/
structure Named (s : State) (h : Teller) (k : Nat) : Prop where
  lt : k < 4
  live : (s.session k).live = true
  number : (s.session k).number = h.session.toNat
  first : ∀ j, j < k → ¬ ((s.session j).live = true ∧ (s.session j).number = h.session.toNat)

theorem Named.heard {s : State} {h : Teller} {k : Nat} (hn : Named s h k) : Named s.heard h k where
  lt := hn.lt
  live := by rw [heard_session]; exact hn.live
  number := by rw [heard_session]; exact hn.number
  first := fun j hj => by rw [heard_session]; exact hn.first j hj

theorem Named.found {s : State} {h : Teller} {k : Nat} (hn : Named s h k) (hlen : s.sec.sessions.length = 4) :
    s.sec.sessions.findIdx (fun x => x.live && x.number == h.session.toNat) = k :=
  findIdx_sessions hlen hn.lt (by simp [hn.live, hn.number]) (fun j hj => by
    have := hn.first j hj
    simpa using this)

theorem authRequest_unknown {s : State} {cmd : Nat} {h : Teller} (hlen : s.sec.sessions.length = 4)
    (hno : ∀ x ∈ s.sec.sessions, ¬ (x.live = true ∧ x.number = h.session.toNat)) :
    authRequest s cmd h = replied s h cmd none 9 [] := by
  unfold authRequest
  have hidx : s.sec.sessions.findIdx (fun x => x.live && x.number == h.session.toNat) = 4 := by
    rw [← hlen]
    exact List.findIdx_eq_length.mpr (fun x hx => by simpa using hno x hx)
  dsimp only
  rw [hidx, if_pos (Nat.le_refl 4)]
  exact reply_eq ..

theorem authRequest_mac {s : State} {cmd : Nat} {h : Teller} {k : Nat} (hlen : s.sec.sessions.length = 4) (hn : Named s h k)
    (hm : macOver h cmd (s.session k).key ≠ leBytes 16 h.mac.toNat) : authRequest s cmd h = macFailed s k cmd h := by
  unfold authRequest
  dsimp only
  have := hn.lt
  rw [hn.found hlen, if_neg (by omega), if_pos (by simpa using hm)]

theorem authRequest_sequence {s : State} {cmd : Nat} {h : Teller} {k : Nat} (hlen : s.sec.sessions.length = 4)
    (hn : Named s h k) (hm : macOver h cmd (s.session k).key = leBytes 16 h.mac.toNat)
    (hq : h.seq.toNat ≠ (s.session k).seq + 1) :
    authRequest s cmd h
      = replied (s.modSession k (fun y => { y with macFails := 0 })) h cmd (some (s.session k).key) 10 [] := by
  unfold authRequest
  dsimp only
  have := hn.lt
  rw [hn.found hlen, if_neg (by omega), if_neg (by simp [hm]), if_pos (by simpa using hq)]
  exact reply_eq ..

/-- An accepted request of a session acts behind its SEQ; the last SEQ is left out. -/
theorem authRequest_accepted {s : State} {cmd : Nat} {h : Teller} {k : Nat} (hlen : s.sec.sessions.length = 4)
    (hn : Named s h k) (hm : macOver h cmd (s.session k).key = leBytes 16 h.mac.toNat)
    (hq : h.seq.toNat = (s.session k).seq + 1) (hq' : h.seq ≠ BitVec.allOnes 32) (h2 : cmd ≠ 2) (h3 : cmd ≠ 3) :
    authRequest s cmd h = answer (s.modSession k (fun y =>
      { y with macFails := 0, seq := h.seq.toNat, lastTick := s.time.tick })) ⟨k, (s.session k).role, some (s.session k).key⟩
        cmd h := by
  have hmod : (s.modSession k (fun y => { y with macFails := 0 })).modSession k
      (fun y => { y with seq := h.seq.toNat, lastTick := s.time.tick })
      = s.modSession k (fun y => { y with macFails := 0, seq := h.seq.toNat, lastTick := s.time.tick }) := by
    simp only [State.modSession, List.modify_modify_eq]
    rfl
  unfold authRequest
  dsimp only
  have := hn.lt
  rw [hn.found hlen, if_neg (by omega), if_neg (by simp [hm]), if_neg (by simp [hq]), if_neg (by simp [h2, h3]), hmod]
  exact if_neg (by rw [beq_false_of_ne hq']; simp)

/-! ## A message that acts -/

/-- The sender of a message and the state in which it acts. -/
structure Taken (s : State) (h : Teller) (c : Caller) (u : State) : Prop where
  eq : u = { s.heard with sec := { s.sec with sessions := u.sec.sessions } }
  length : u.sec.sessions.length = s.sec.sessions.length
  others : ∀ j, j ≠ c.slot → u.session j = s.session j
  plain : h.auth = false → c.slot = 4 ∧ u = s.heard
  sender : h.auth = true → c.slot < 4 ∧ (s.session c.slot).live = true ∧ u.session c.slot = { s.session c.slot with
    macFails := 0, seq := h.seq.toNat, lastTick := s.time.tick }

theorem taken_of_actsAt {s u : State} {cmd : Nat} {h : Teller} {c : Caller} (hinv : s.Inv) (ha : actsAt s cmd h c u) :
    Taken s h c u := by
  have hlen : s.sec.sessions.length = 4 := hinv.2.2.2.2.1
  obtain ⟨-, -, -, -, -, -, ⟨hau, -, rfl, rfl⟩ | ⟨hau, -, k, hk, rfl, hlive, -, -, -, -, -, rfl⟩⟩ := ha
  · have heq : s.heard = { s.heard with sec := { s.sec with sessions := s.heard.sec.sessions } } := by
      rw [heard_sec, ← heard_sec s]
    exact ⟨heq, by rw [← heard_sec s]; rfl, fun j _ => heard_session s j, fun _ => ⟨rfl, rfl⟩,
      fun h' => absurd (hau.symm.trans h') (by decide)⟩
  · refine ⟨?_, ?_, fun j hj => (session_modSession_ne _ _ hj).trans (heard_session s j),
      fun h' => absurd (hau.symm.trans h') (by decide), fun _ => ⟨hk, hlive, ?_⟩⟩
    · rw [← heard_sec s]
      rfl
    · rw [← heard_sec s]
      simp [State.modSession, State.heard]
    · refine (session_modSession _ _ (by show k < s.heard.sec.sessions.length; rw [heard_sec]; omega)).trans ?_
      rw [show ((s.bump ⟨0x1100, 8, 64⟩).gev 0x10D).session k = s.session k from heard_session s k]

/-- A message that passes the checks acts for its sender. -/
theorem exec_of_actsAt {s u : State} {i : Instr} {cmd : Nat} {h : Teller} {c : Caller} (hinv : s.Inv)
    (ht : tellerOf i = some (cmd, h)) (ha : actsAt s cmd h c u) : exec i s = .next (answer u c cmd h) := by
  have hlen : s.sec.sessions.length = 4 := hinv.2.2.2.2.1
  obtain ⟨hup, hh, hv, hl, h2, h3, hcase⟩ := ha
  rw [exec_up ht hup hh]
  congr 1
  rcases hcase with ⟨hau, hblank, rfl, rfl⟩ | ⟨hau, hb, k, hk, rfl, hlive, hnum, hfirst, hmac, hseq, hseq', rfl⟩
  · rw [tellerNow_plain hv hl hau]
    by_cases h1 : cmd = 1
    · subst h1
      rfl
    · have h0 : s.heard.fuses.lifecycle = 0 := by rw [heard_fuses]; exact hblank.resolve_right h1
      rw [plainRequest_other h1 h2 h3, if_pos (by simp [h0]), if_neg h1]
      rfl
  · rw [tellerNow_auth hv hl hau (by rw [heard_fuses]; exact hb)]
    have hn : Named s h k := ⟨hk, hlive, hnum, hfirst⟩
    rw [authRequest_accepted (by rw [heard_sec]; exact hlen) hn.heard (by rw [heard_session]; exact hmac)
      (by rw [heard_session]; exact hseq) hseq' h2 h3, heard_session, heard_time]
    rfl

/-- A message that acts and answers at once. -/
theorem exec_performed {s u v : State} {i : Instr} {cmd : Nat} {h : Teller} {c : Caller} {code : Code} {p : List Byte}
    (hinv : s.Inv) (ht : tellerOf i = some (cmd, h)) (ha : actsAt s cmd h c u)
    (hp : knownCmd cmd = false ∨ u.permits c cmd = true) (e : perform u c cmd h = (v, some (code, p))) :
    exec i s = .next (replied v h cmd c.key code.num p) := by
  rw [exec_of_actsAt hinv ht ha, answer_performed hp e]

/-! ## The checks in their order (R448 to R452) -/

theorem perform_unknown {s : State} {c : Caller} {cmd : Nat} {h : Teller} (hk : knownCmd cmd = false) :
    perform s c cmd h = tells s .unknownCommand := by
  unfold perform
  split <;> first | rfl | exact absurd hk (by decide)

theorem unavailable_other {s : State} {cmd : Nat} {h : Teller} (h1 : cmd ≠ 1) (h10 : cmd ≠ 0x10) (h12 : cmd ≠ 0x12) :
    unavailable s cmd h = replied s h cmd none 4 [] := by
  unfold unavailable
  split
  · exact absurd rfl h1
  · exact absurd rfl h10
  · exact absurd rfl h12
  · exact reply_eq ..

/-- What counting a wrong MAC changes. -/
def State.macCounted (s : State) (k : Nat) : State :=
  (s.bump ⟨0x9001, 4, 32⟩).modSession k (fun y => { y with macFails := y.macFails + 1 })

theorem macCounted_does {s : State} (hwf : KV.wf s.chart = true) {k : Nat} (hk : k < s.sec.sessions.length) :
    (s.macCounted k).session k = { s.session k with macFails := (s.session k).macFails + 1 }
      ∧ (s.macCounted k).rawN 0x9001 4 = (s.rawN 0x9001 4 + 1) % 2 ^ 32 ∧ (s.macCounted k).out = s.out :=
  ⟨session_modSession (s.bump ⟨0x9001, 4, 32⟩) _ hk, rawN_bump s 0x9001 4 32 hwf (by decide), rfl⟩

/-- A wrong MAC that is not the eighth in a row is counted and answered AUTH (R469). -/
theorem macFailed_counts {s : State} {k cmd : Nat} {h : Teller} (hf : (s.session k).macFails < 7) :
    macFailed s k cmd h = replied (s.macCounted k) h cmd
      (some (s.session k).key) 9 [] := by
  unfold macFailed
  dsimp only
  rw [if_pos (by omega)]
  exact reply_eq ..

/-- Settles O56: each condition is one branch of the checks. -/
theorem tellerChecksInOrder : Obligations.TellerChecksInOrder := by
  unfold Obligations.TellerChecksInOrder
  intro s i cmd h hinv ht u
  have hu : u = s.heard := rfl
  clear_value u
  subst hu
  have hlen : s.sec.sessions.length = 4 := hinv.2.2.2.2.1
  have hwf : KV.wf s.chart = true := hinv.2.2.2.2.2.1
  refine ⟨fun hoff => by rw [exec_teller ht, teller_off hoff], fun hb hp hup h1 h10 h12 => ?_, fun hb hp hup h1 => ?_,
    fun hup hh => ⟨fun hv => ?_, fun hv hl => ?_, fun hv hl => ⟨fun ha hb => ?_, fun ha hb h1 h2 h3 => ?_,
      fun ha hb => ⟨fun hno => ?_, fun k hk hlive hnum hfirst => ?_⟩⟩⟩, fun c v hac hk => ?_⟩
  · rw [exec_teller ht, teller_down ht hb hp hup, unavailable_other h1 h10 h12]
  · subst h1
    rw [exec_teller ht, teller_down ht hb hp hup]
    exact congrArg _ (reply_eq ..)
  · rw [exec_up ht hup hh, tellerNow_version hv]
  · rw [exec_up ht hup hh, tellerNow_long hv hl]
  · rw [exec_up ht hup hh, tellerNow_auth_blank hv hl ha (by rw [heard_fuses]; exact hb)]
  · rw [exec_up ht hup hh, tellerNow_plain hv hl ha, plainRequest_other h1 h2 h3,
      if_neg (by rw [heard_fuses]; simpa using hb), reply_eq]
    cases knownCmd cmd <;> rfl
  · rw [exec_up ht hup hh, tellerNow_auth hv hl ha (by rw [heard_fuses]; exact hb),
      authRequest_unknown (by rw [heard_sec]; exact hlen) (by rw [heard_sec]; exact hno)]
  · intro m
    have hn : Named s.heard h k := Named.heard ⟨hk, hlive, hnum, hfirst⟩
    have hlen' : s.heard.sec.sessions.length = 4 := by rw [heard_sec]; exact hlen
    have he := exec_up ht hup hh
    rw [tellerNow_auth hv hl ha (by rw [heard_fuses]; exact hb)] at he
    refine ⟨fun hm hf => ?_, fun hm hq => ?_⟩
    · rw [authRequest_mac hlen' hn (by rw [heard_session]; exact hm),
        macFailed_counts (by rw [heard_session]; exact hf), heard_session] at he
      obtain ⟨hs, hr, ho⟩ := macCounted_does (heard_wf hwf) (k := k) (by omega)
      refine .of he ⟨?_, ?_, ?_, sends_replied (ho.trans (heard_out s))⟩
      · rw [replied_session, hs, heard_session]
      · rw [replied_session, hs, heard_session]
      · rw [replied_rawN, hr, rawN_heard hwf (by decide) (by decide) (apart (by decide))]
    · rw [authRequest_sequence hlen' hn (by rw [heard_session]; exact hm) (by rw [heard_session]; exact hq),
        heard_session] at he
      exact he
  · exact exec_performed (code := .unknownCommand) (p := []) hinv ht hac (.inl hk) (perform_unknown hk)

end Sys2Proof.Machine
end

section
/-! PROOFS. The reads of the Teller: what each answers, and that it leaves the state in which it acts (R450, R499, R500). -/

namespace Sys2Proof.Machine

/-! ## What the sender's state keeps of the Home -/

section
variable {s u : State} {h : Teller} {c : Caller}

theorem Taken.parts (t : Taken s h c u) : ∃ ch, u = { s with chart := ch, sec := { s.sec with sessions := u.sec.sessions } } := by
  obtain ⟨ch, hch⟩ := heard_eq s
  refine ⟨ch, t.eq.trans ?_⟩
  rw [hch]

theorem Taken.build (t : Taken s h c u) : u.build = s.build := by
  obtain ⟨ch, hch⟩ := t.parts
  rw [hch]
  rfl

theorem Taken.fuses (t : Taken s h c u) : u.fuses = s.fuses := by
  obtain ⟨ch, hch⟩ := t.parts
  rw [hch]

theorem Taken.journal (t : Taken s h c u) : u.journal = s.journal := by
  obtain ⟨ch, hch⟩ := t.parts
  rw [hch]

theorem Taken.tally (t : Taken s h c u) : u.tally = s.tally := by
  obtain ⟨ch, hch⟩ := t.parts
  rw [hch]

theorem Taken.time (t : Taken s h c u) : u.time = s.time := by
  obtain ⟨ch, hch⟩ := t.parts
  rw [hch]

theorem Taken.out (t : Taken s h c u) : u.out = s.out := by
  obtain ⟨ch, hch⟩ := t.parts
  rw [hch]

theorem Taken.agents (t : Taken s h c u) : u.agents = s.agents := by
  obtain ⟨ch, hch⟩ := t.parts
  rw [hch]

theorem Taken.stream (t : Taken s h c u) (k : Nat) : u.stream k = s.stream k := by
  unfold State.stream
  rw [t.journal]

theorem Taken.chan (t : Taken s h c u) (k : Nat) : u.chan k = s.chan k := by
  unfold State.chan
  rw [t.tally]

/-- The state of security but for its sessions. -/
theorem Taken.sec (t : Taken s h c u) : u.sec = { s.sec with sessions := u.sec.sessions } := by
  obtain ⟨ch, hch⟩ := t.parts
  rw [hch]

theorem Taken.level (t : Taken s h c u) : u.sec.level = s.sec.level := by rw [t.sec]
theorem Taken.quarantine (t : Taken s h c u) : u.sec.quarantine = s.sec.quarantine := by rw [t.sec]

theorem Taken.wf (t : Taken s h c u) (hw : KV.wf s.chart = true) : KV.wf u.chart = true := by
  rw [t.eq]
  exact heard_wf hw

end

/-! ## The equations of the reads -/

theorem permits_plainRead {s : State} {c : Caller} {cmd : Nat} (h : plainRead cmd = true) : s.permits c cmd = true := by
  simp [State.permits, h]

theorem readOne_short {s : State} {c : Caller} {h : Teller} (hl : h.payload.length < 4) :
    readOne s c h = tells s .invalid := if_pos hl

theorem readOne_denied {s : State} {c : Caller} {h : Teller} (hl : 4 ≤ h.payload.length)
    (hr : mayRead c.role (arg h 0 2) = false) : readOne s c h = tells s .denied := by
  unfold readOne
  dsimp only
  rw [if_neg (by omega), if_pos (by simp [hr])]

theorem readOne_absent {s : State} {c : Caller} {h : Teller} (hl : 4 ≤ h.payload.length)
    (hr : mayRead c.role (arg h 0 2) = true) (he : entryAt s.build (arg h 0 2) (arg h 2 1) = none) :
    readOne s c h = (s, some (.ok, leBytes 2 0 ++ leBytes 2 8 ++ leBytes 8 0)) := by
  unfold readOne
  dsimp only
  rw [if_neg (by omega), if_neg (by simp [hr]), he]

theorem readOne_slot {s : State} {c : Caller} {h : Teller} {e : Entry} (hl : 4 ≤ h.payload.length)
    (hr : mayRead c.role (arg h 0 2) = true) (he : entryAt s.build (arg h 0 2) (arg h 2 1) = some e)
    (hlong : e.ty.long = false) (hg : s.gone (arg h 0 2) = false) (hjn : arg h 0 2 < 0xC000 ∨ 0xC004 ≤ arg h 0 2)
    (hseg : arg h 0 2 ≠ 0x1110) :
    readOne s c h = (s, some (.ok, leBytes 1 e.ty.code ++ leBytes 1 0 ++ leBytes 2 e.ty.bytes
      ++ leBytes e.ty.bytes (s.slotOf (arg h 0 2) (arg h 2 1)).toNat)) := by
  unfold readOne
  dsimp only
  rw [if_neg (by omega), if_neg (by simp [hr]), he]
  dsimp only
  rw [if_neg (by simp [hlong]), readSlot_eq_slotOf hjn hseg, if_neg (by simp [hg])]

theorem readOne_long {s : State} {c : Caller} {h : Teller} {e : Entry} (hl : 4 ≤ h.payload.length)
    (hr : mayRead c.role (arg h 0 2) = true) (he : entryAt s.build (arg h 0 2) (arg h 2 1) = some e)
    (hlong : e.ty.long = true) :
    readOne s c h = (s, some (.ok, leBytes 1 e.ty.code ++ leBytes 1 0 ++ leBytes 2 e.ty.bytes
      ++ s.longVal (arg h 0 2) (arg h 2 1))) := by
  unfold readOne
  dsimp only
  rw [if_neg (by omega), if_neg (by simp [hr]), he]
  dsimp only
  rw [if_pos hlong]

/-- Slots whose read has no effect are read in their order. -/
theorem readSlots_plain {c : Caller} {i : Nat} (hjn : i < 0xC000 ∨ 0xC004 ≤ i) (hseg : i ≠ 0x1110) (n : Nat) :
    ∀ (j : Nat) (s : State), readSlots c i n j s
      = (s, (List.range n).flatMap (fun k => leBytes 8 (s.slotOf i (j + k)).toNat)) := by
  induction n with
  | zero => exact fun j s => rfl
  | succ n ih =>
    intro j s
    unfold readSlots
    rw [readSlot_eq_slotOf hjn hseg]
    dsimp only
    rw [ih, List.range_succ_eq_map, List.flatMap_cons, List.flatMap_map]
    simp only [Nat.add_zero, Nat.add_assoc, Nat.succ_eq_add_one, Nat.add_comm 1]

theorem readRange_invalid {s : State} {c : Caller} {h : Teller} (hn : arg h 3 1 = 0 ∨ 64 < arg h 3 1) :
    readRange s c h = tells s .invalid := by
  unfold readRange
  dsimp only
  rw [if_pos (by rcases hn with hn | hn <;> simp [hn])]

theorem readRange_plain {s : State} {c : Caller} {h : Teller} (hl : 4 ≤ h.payload.length) (h0 : 0 < arg h 3 1)
    (h64 : arg h 3 1 ≤ 64) (hj : arg h 2 1 + arg h 3 1 ≤ 256) (hr : mayRead c.role (arg h 0 2) = true)
    (hjn : arg h 0 2 < 0xC000 ∨ 0xC004 ≤ arg h 0 2) (hseg : arg h 0 2 ≠ 0x1110) :
    readRange s c h = (s, some (.ok, (List.range (arg h 3 1)).flatMap
      (fun k => leBytes 8 (s.slotOf (arg h 0 2) (arg h 2 1 + k)).toNat))) := by
  unfold readRange
  dsimp only
  have hs : (decide (h.payload.length < 4) || arg h 3 1 == 0 || decide (64 < arg h 3 1)
      || decide (256 < arg h 2 1 + arg h 3 1)) = false := by
    simp only [Bool.or_eq_false_iff, decide_eq_false_iff_not, beq_eq_false_iff_ne]
    omega
  rw [hs, if_neg Bool.false_ne_true, if_neg (by simp [hr]), readSlots_plain hjn hseg]

/-! ## Reads of the Journal (R494, R499, R500) -/

theorem takeRecs_empty {x : Stream} (hf : x.fill = []) (hd : x.drain = []) (n room : Nat) :
    Stream.takeRecs n x room = (x, []) := by
  have hswap : x.readSwap = x := by simp [Stream.readSwap, hf]
  cases n with
  | zero => rfl
  | succ n => simp [Stream.takeRecs, hswap, hd]

/-- One record fits: it leaves the banks, and nothing else is taken. -/
theorem takeRecs_one {x : Stream} {r : JRec} (hf : x.fill = [r]) (hd : x.drain = []) {room : Nat} (hb : r.bytes ≤ room) (n : Nat) :
    ∃ y : Stream, Stream.takeRecs (n + 1) x room = (y, [r]) ∧ y.fill = [] ∧ y.drain = [] ∧ y.underrun = x.underrun := by
  have hswap : x.readSwap = { x with
      drain := [r], fill := [], word := 0, wptr := 0, wptr2 := 0, rptr := 0, rptr2 := 0, toggle := !x.toggle } := by
    simp [Stream.readSwap, hf, hd]
  refine ⟨{ x.readSwap with
    drain := [], word := 0, lastWord := r.words.getLastD 0, rptr := x.readSwap.rptr + r.bytes / 8
    rptr2 := x.readSwap.rptr2 + r.bytes / 8 }, ?_, ?_, rfl, ?_⟩
  · unfold Stream.takeRecs
    rw [hswap]
    dsimp only
    rw [if_pos hb, takeRecs_empty rfl rfl]
  · rw [hswap]
  · rw [hswap]

theorem journalRead_busy {s : State} {c : Caller} {h : Teller} (hl : 4 ≤ h.payload.length) (hk : arg h 0 1 < 3)
    (hw : (s.stream (arg h 0 1)).word ≠ 0) : journalRead s c h = tells s .busy := by
  have h3 : (arg h 0 1 == 3) = false := by simp; omega
  unfold journalRead
  dsimp only
  rw [if_neg (by simp; omega), if_neg (by simp [h3]), if_pos (by simpa using hw)]

theorem journalRead_taken {s : State} {c : Caller} {h : Teller} {y : Stream} {l : List JRec} (hl : 4 ≤ h.payload.length)
    (hk : arg h 0 1 < 3) (hw : (s.stream (arg h 0 1)).word = 0)
    (ht : (s.stream (arg h 0 1)).takeRecs 33 1024 = (y, l)) :
    journalRead s c h = (s.modStream (arg h 0 1) (fun _ => if l.isEmpty then { y with underrun := true } else y),
      some (.ok, l.flatMap (fun r => r.words.flatMap (fun v => leBytes 8 v.toNat)))) := by
  have h3 : (arg h 0 1 == 3) = false := by simp; omega
  unfold journalRead
  dsimp only
  rw [if_neg (by simp; omega), if_neg (by simp [h3]), if_neg (by simp [hw]), ht]

/-! ## Reads of the Tally and of counters (R499) -/

theorem tallyRead_last {s : State} {c : Caller} {h : Teller} (hl : 4 ≤ h.payload.length) (hk : arg h 0 2 < chanCount s.build)
    (hp : arg h 2 1 % 2 = 0) :
    tallyRead s c h = (s, some (.ok,
      leBytes 8 (if (s.chan (arg h 0 2)).cleared = true then 0 else s.tally.lastNum)
        ++ leBytes 4 (s.chan (arg h 0 2)).last.min ++ leBytes 4 (s.chan (arg h 0 2)).last.max
        ++ leBytes 8 (s.chan (arg h 0 2)).last.sum ++ leBytes 4 (s.chan (arg h 0 2)).last.count
        ++ leBytes 4 (s.chan (arg h 0 2)).last.flags
        ++ (List.range 32).flatMap (fun b => leBytes 4 (KV.get (s.chan (arg h 0 2)).last.hist b 0)))) := by
  have ho : (arg h 2 1 % 2 == 1) = false := by simp [hp]
  unfold tallyRead
  dsimp only
  rw [if_neg (by simp; omega), ho, if_neg (by simp)]
  rfl

theorem counterSubs_from {t : Bool} {a n : Nat} (hn : 0 < n) (ha : a + n ≤ 64) :
    let l := (counterSubs t).drop ((counterSubs t).findIdx (· == a))
    n ≤ l.length ∧ l.take n = (List.range n).map (a + ·) := by
  have hlen : 64 ≤ (counterSubs t).length := by simp [counterSubs]
  have hget : ∀ k (hk : k < 64), (counterSubs t)[k]'(by omega) = k := fun k hk => by
    simp [counterSubs, hk]
  have hidx : (counterSubs t).findIdx (· == a) = a := by
    rw [List.findIdx_eq (by omega)]
    refine ⟨by simp [hget a (by omega)], fun k hk => ?_⟩
    rw [hget k (by omega)]
    simp; omega
  intro l
  have hl : l = (counterSubs t).drop a := congrArg (fun k => (counterSubs t).drop k) hidx
  rw [hl]
  refine ⟨by rw [List.length_drop]; omega, List.ext_getElem (by simp; omega) fun k hk _ => ?_⟩
  simp only [List.getElem_take, List.getElem_drop, List.getElem_map, List.getElem_range]
  exact hget _ (by simp at hk; omega)

theorem counterRead_ok {s : State} {h : Teller} (hl : 4 ≤ h.payload.length)
    (ht : arg h 0 1 = 0xFF ∨ s.build.hasTill (arg h 0 1) = true) (hn : 0 < arg h 2 1) (ha : arg h 1 1 + arg h 2 1 ≤ 64) :
    counterRead s h = (s, some (.ok, (List.range (arg h 2 1)).flatMap (fun k =>
      leBytes 8 (s.slotOf (if arg h 0 1 = 0xFF then 0xB700 else 0xB600 + arg h 0 1) (arg h 1 1 + k)).toNat))) := by
  obtain ⟨h1, h2⟩ := counterSubs_from (t := arg h 0 1 != 0xFF) hn ha
  have hno : (decide (h.payload.length < 4) || !(arg h 0 1 == 0xFF || s.build.hasTill (arg h 0 1)) || arg h 2 1 == 0) = false := by
    have h4 : decide (h.payload.length < 4) = false := by simpa using hl
    have h0 : (arg h 2 1 == 0) = false := by simp; omega
    have ht' : (arg h 0 1 == 0xFF || s.build.hasTill (arg h 0 1)) = true := by simpa using ht
    rw [h4, ht', h0]
    rfl
  unfold counterRead
  dsimp only
  rw [hno, Bool.false_or, if_neg (by simpa using h1), h2, List.flatMap_map]
  simp only [beq_iff_eq]

/-! ## CLOSE (R470) -/

/-- A session without the debug level ends with its record. -/
theorem closeSession_plain {s : State} {k : Nat} (hl : (s.session k).live = true) (hd : (s.session k).debug = false) :
    closeSession s k = (s.note .sessionClosed .ch [(s.session k).number, (s.session k).role, (s.session k).slot]).modSession k
      (fun _ => {}) := by
  have hd' : ¬ (s.session k).debug = true := by simp [hd]
  unfold closeSession
  dsimp only
  rw [if_neg hd', if_pos hl]

theorem closeSession_plain_does {s : State} {k : Nat} (hl : (s.session k).live = true) (hd : (s.session k).debug = false) :
    Reports s (closeSession s k) 0x216 ∧ (closeSession s k).session k = {} ∧ (closeSession s k).out = s.out
      ∧ ∀ j, j ≠ k → (closeSession s k).session j = s.session j := by
  rw [closeSession_plain hl hd]
  have hn := logs_note s .sessionClosed .ch [(s.session k).number, (s.session k).role, (s.session k).slot] none
  have hr := reports_note (s := s) (u := s) List.prefix_rfl rfl .sessionClosed .ch
    [(s.session k).number, (s.session k).role, (s.session k).slot] none
  generalize s.note .sessionClosed .ch [(s.session k).number, (s.session k).role, (s.session k).slot] none = m at hn hr
  exact ⟨hr, session_freed m k, hn.out, fun j hj => (session_modSession_ne m _ hj).trans (hn.session j)⟩

/-! ## The reads and their answers (R450, R499, R500) -/

theorem replied_stream (v : State) (h : Teller) (cmd : Nat) (key : Option (List Byte)) (status : Nat) (p : List Byte)
    (k : Nat) : (replied v h cmd key status p).stream k = v.stream k := rfl

theorem Reports.replied {s v : State} {code : Nat} (hr : Reports s v code) (h : Teller) (cmd : Nat) (key : Option (List Byte))
    (status : Nat) (p : List Byte) : Reports s (replied v h cmd key status p) code := hr

theorem reads_read {s u : State} {h : Teller} {c : Caller} (hinv : s.Inv) (ha : actsAt s 0x10 h c u) {code : Code}
    {p : List Byte} (e : readOne u c h = (u, some (code, p))) : exec (.read h) s = .next (replied u h 0x10 c.key code.num p) :=
  exec_performed hinv rfl ha (.inr (permits_plainRead rfl)) e

theorem reads_range {s u : State} {h : Teller} {c : Caller} (hinv : s.Inv) (ha : actsAt s 0x12 h c u) {code : Code}
    {p : List Byte} (e : readRange u c h = (u, some (code, p))) :
    exec (.readRange h) s = .next (replied u h 0x12 c.key code.num p) :=
  exec_performed hinv rfl ha (.inr (permits_plainRead rfl)) e

theorem reads_journal {s u v : State} {h : Teller} {c : Caller} (hinv : s.Inv) (ha : actsAt s 0x20 h c u) {code : Code}
    {p : List Byte} (e : journalRead u c h = (v, some (code, p))) :
    exec (.journalRead h) s = .next (replied v h 0x20 c.key code.num p) :=
  exec_performed hinv rfl ha (.inr (permits_plainRead rfl)) e

theorem closes_close {s u : State} {h : Teller} {c : Caller} (hinv : s.Inv) (ha : actsAt s 0x04 h c u) :
    exec (.close h) s = .next (replied (if c.slot == 4 then u else closeSession u c.slot) h 0x04 c.key 0 []) :=
  exec_performed (code := .ok) hinv rfl ha (.inr (permits_plainRead rfl)) rfl

/-- JOURNAL_READ of a stream that holds nothing, or one record. -/
theorem completes_journalRead {s u : State} {h : Teller} {c : Caller} {y : Stream} {l : List JRec} (hinv : s.Inv)
    (ha : actsAt s 0x20 h c u) (hl : 4 ≤ h.payload.length) (hk : arg h 0 1 < 3) (hw : (s.stream (arg h 0 1)).word = 0)
    (ht : (s.stream (arg h 0 1)).takeRecs 33 1024 = (y, l)) :
    Completes (.journalRead h) s (fun t =>
      Sends s t (.teller h.eid (tellerBody c.key 0x20 0 h.session.toNat h.seq.toNat
        (l.flatMap (fun r => r.words.flatMap (fun v => leBytes 8 v.toNat)))))
      ∧ t.stream (arg h 0 1) = if l.isEmpty then { y with underrun := true } else y) := by
  have hT := taken_of_actsAt hinv ha
  have hlen : s.journal.streams.length = 4 := hinv.2.2.2.1
  refine .of (reads_journal (code := .ok) hinv ha (journalRead_taken hl hk (by rw [hT.stream]; exact hw) (by rw [hT.stream]; exact ht)))
    ⟨sends_replied hT.out, ?_⟩
  rw [replied_stream]
  exact stream_modStream u _ (by rw [hT.journal]; omega)

/-- Settles O53: each read is one equation of its command, at the state in which the message acts. -/
theorem tellerReadsAnswer : Obligations.TellerReadsAnswer := by
  unfold Obligations.TellerReadsAnswer
  intro s h c u hinv i j n
  refine ⟨fun ha => ?_, fun ha => ⟨fun hl => ?_, fun hl hi hr => ?_, fun hl hr => ⟨fun he => ?_, fun e he hlong hg hjn hseg => ?_,
    fun e he hlong => ?_⟩⟩, fun ha hl => ⟨fun hn => ?_, fun h0 h64 hj hr hjn hseg => ?_⟩, fun ha hl hk => ?_,
    fun ha hl hk hp => ?_, fun ha hl ht hn hsum => ?_, fun ha => ⟨fun hau => ?_, fun hau hd => ?_⟩⟩
  · have hT := taken_of_actsAt hinv ha
    have e : perform u c 1 h = (u, some (.ok, _)) := rfl
    rw [exec_performed hinv rfl ha (.inr (permits_plainRead rfl)) e, hT.fuses, hT.build]
    rfl
  · exact reads_read (code := .invalid) hinv ha (readOne_short hl)
  · exact reads_read (code := .denied) hinv ha (readOne_denied hl (by
      have : ¬ arg h 0 2 < 0xF000 := by omega
      simp [mayRead, this, hr]))
  · exact reads_read (code := .ok) hinv ha (readOne_absent hl (by simpa [mayRead] using hr) (by
      rw [(taken_of_actsAt hinv ha).build]; exact he))
  · exact reads_read (code := .ok) hinv ha (readOne_slot hl (by simpa [mayRead] using hr) (by
      rw [(taken_of_actsAt hinv ha).build]; exact he) hlong hg hjn hseg)
  · exact reads_read (code := .ok) hinv ha (readOne_long hl (by simpa [mayRead] using hr) (by
      rw [(taken_of_actsAt hinv ha).build]; exact he) hlong)
  · exact reads_range (code := .invalid) hinv ha (readRange_invalid hn)
  · exact reads_range (code := .ok) hinv ha (readRange_plain hl h0 h64 hj (by simpa [mayRead] using hr) hjn hseg)
  · intro k
    refine ⟨fun hw => ?_, fun hw hf hd => ?_, fun r hw hf hd hb => ?_⟩
    · exact reads_journal (code := .busy) hinv ha (journalRead_busy hl hk (by rw [(taken_of_actsAt hinv ha).stream]; exact hw))
    · obtain ⟨t, he, hs, hstr⟩ := completes_journalRead hinv ha hl hk hw (takeRecs_empty hf hd 33 1024)
      refine ⟨t, he, hs, ?_⟩
      rw [show t.stream k = { s.stream k with underrun := true } from hstr]
      exact ⟨rfl, hf, hd⟩
    · obtain ⟨y, hy, hfy, hdy, huy⟩ := takeRecs_one hf hd hb 32
      obtain ⟨t, he, hs, hstr⟩ := completes_journalRead hinv ha hl hk hw hy
      refine ⟨t, he, by simpa using hs, ?_⟩
      rw [show t.stream k = y from hstr]
      exact ⟨hfy, hdy, huy⟩
  · have hT := taken_of_actsAt hinv ha
    intro x
    refine (exec_performed (code := .ok) hinv rfl ha (.inr (permits_plainRead rfl)) (tallyRead_last hl (by
      rw [hT.build]; exact hk) hp)).trans ?_
    rw [hT.chan, hT.tally]
    rfl
  · exact exec_performed (code := .ok) hinv rfl ha (.inr (permits_plainRead rfl)) (counterRead_ok hl (by
      rw [(taken_of_actsAt hinv ha).build]; exact ht) hn hsum)
  · rw [closes_close hinv ha, if_pos (by simp [((taken_of_actsAt hinv ha).plain hau).1])]
  · have hT := taken_of_actsAt hinv ha
    obtain ⟨hlt, hlive, hses⟩ := hT.sender hau
    obtain ⟨hr, hfree, ho, hrest⟩ := closeSession_plain_does (s := u) (k := c.slot)
      (by rw [hses]; exact hlive) (by rw [hses]; exact hd)
    have he := closes_close hinv ha
    rw [if_neg (by simp; omega)] at he
    generalize closeSession u c.slot = m at *
    refine .of he ⟨(hr.since (by rw [hT.journal]) (by rw [hT.time])).replied .., ?_, sends_replied (ho.trans hT.out),
      fun k hk => ?_⟩
    · rw [replied_session, hfree]
    · rw [replied_session, hrest k hk, hT.others k hk]

end Sys2Proof.Machine
end

section
/-! PROOFS. The writes of the Teller: each value by the rules of a Chart write, and the end of the Quarantine (R446, R450, R474). -/

namespace Sys2Proof.Machine

/-! ## WRITE (R446, R450) -/

theorem permits_write (s : State) (c : Caller) : s.permits c 0x11 = true := by simp [State.permits]
theorem permits_writeMulti (s : State) (c : Caller) : s.permits c 0x13 = true := by simp [State.permits]

theorem writeOne_short {s : State} {c : Caller} {h : Teller} (hl : h.payload.length < 6 + arg h 4 2) :
    writeOne s c h = tells s .invalid := by
  unfold writeOne
  dsimp only
  rw [if_pos (by simp [hl])]

/-- What a WRITE of a value for the entry `e` does, once its first check has answered. -/
def writeChecked (s : State) (c : Caller) (h : Teller) (e : Entry) (k : Code) : Answer :=
  let i := arg h 0 2
  let j := arg h 2 1
  let n := arg h 4 2
  let v := (h.payload.drop 6).take n
  match k with
  | .ok =>
    if e.ty.bytes < n then tells (refused s c.author i j .tooLong) .tooLong
    else if e.ty.long then
      (let r := writeLong s c.author i j (v ++ List.replicate (e.ty.bytes - n) 0); tells r.1 r.2)
    else (let r := writeEntry s c.author i j (leVal v) 8; tells r.1 r.2)
  | k => tells (refused s c.author i j k) k

/-- A value for an entry that exists, past the length of the payload. -/
theorem writeOne_entry {s : State} {c : Caller} {h : Teller} {e : Entry} (hl : 6 + arg h 4 2 ≤ h.payload.length)
    (he : entryAt s.build (arg h 0 2) (arg h 2 1) = some e) :
    writeOne s c h
      = writeChecked s c h e (firstCheck s c.author (arg h 0 2) (arg h 2 1) (if e.ty.long then 0 else 8)) := by
  unfold writeOne
  dsimp only
  rw [if_neg (by simp; omega), he]
  dsimp only
  generalize firstCheck s c.author (arg h 0 2) (arg h 2 1) (if e.ty.long then 0 else 8) = k
  cases k <;> rfl

theorem writeOne_refused {s : State} {c : Caller} {h : Teller} {e : Entry} {k : Code} (hl : 6 + arg h 4 2 ≤ h.payload.length)
    (he : entryAt s.build (arg h 0 2) (arg h 2 1) = some e) (hlong : e.ty.long = false)
    (hk : firstCheck s c.author (arg h 0 2) (arg h 2 1) 8 = k) (hok : k ≠ .ok) :
    writeOne s c h = tells (refused s c.author (arg h 0 2) (arg h 2 1) k) k := by
  rw [writeOne_entry hl he, hlong, if_neg Bool.false_ne_true, hk]
  cases k <;> first | rfl | exact absurd rfl hok

theorem writeOne_tooLong {s : State} {c : Caller} {h : Teller} {e : Entry} (hl : 6 + arg h 4 2 ≤ h.payload.length)
    (he : entryAt s.build (arg h 0 2) (arg h 2 1) = some e) (hlong : e.ty.long = false)
    (hk : firstCheck s c.author (arg h 0 2) (arg h 2 1) 8 = .ok) (hn : e.ty.bytes < arg h 4 2) :
    writeOne s c h = tells (refused s c.author (arg h 0 2) (arg h 2 1) .tooLong) .tooLong := by
  rw [writeOne_entry hl he, hlong, if_neg Bool.false_ne_true, hk]
  exact if_pos hn

theorem writeOne_slot {s : State} {c : Caller} {h : Teller} {e : Entry} (hl : 6 + arg h 4 2 ≤ h.payload.length)
    (he : entryAt s.build (arg h 0 2) (arg h 2 1) = some e) (hlong : e.ty.long = false)
    (hk : firstCheck s c.author (arg h 0 2) (arg h 2 1) 8 = .ok) (hn : arg h 4 2 ≤ e.ty.bytes) :
    writeOne s c h
      = tells (writeEntry s c.author (arg h 0 2) (arg h 2 1) (leVal ((h.payload.drop 6).take (arg h 4 2))) 8).1
          (writeEntry s c.author (arg h 0 2) (arg h 2 1) (leVal ((h.payload.drop 6).take (arg h 4 2))) 8).2 := by
  rw [writeOne_entry hl he, hlong, if_neg Bool.false_ne_true, hk]
  refine (if_neg (by omega)).trans (if_neg ?_)
  rw [hlong]
  exact Bool.false_ne_true

/-! ## KEY_STAGE (R446, R461) -/

/-- The entry KEY_STAGE. -/
def keyStageEntry : Entry := ⟨.octets 48, .wo, .v, 0, 0, 2 ^ 64⟩

theorem entryAt_keyStage (b : Build) : entryAt b 0x9011 1 = some keyStageEntry := by cases b <;> rfl

theorem firstCheck_keyStage {s : State} {a : Author} (hq : s.sec.quarantine = false) (hr : a.role ≠ 0) :
    firstCheck s a 0x9011 1 0 = .ok := by
  have hg : s.gone 0x9011 = false :=
    gone_none (behindTill_none (by omega) (by omega) (by omega) (by omega) (by omega) (by omega))
  have hm : mayWrite a.role 0x9011 1 = true := by simp [mayWrite, hr]
  unfold firstCheck
  rw [hq, hm, entryAt_keyStage, if_neg (by decide)]
  dsimp only
  rw [if_neg (by decide), if_neg (by simp [keyStageEntry]), hg, if_neg Bool.false_ne_true, if_neg (by decide)]

theorem applied_sec (s : State) : (applied s).sec = s.sec := rfl
theorem applied_out (s : State) : (applied s).out = s.out := rfl

theorem writeOne_keyStage {s : State} {c : Caller} {h : Teller} (hl : 6 + arg h 4 2 ≤ h.payload.length)
    (hi : arg h 0 2 = 0x9011) (hj : arg h 2 1 = 1) (hn : arg h 4 2 ≤ 48) (hq : s.sec.quarantine = false) (hr : c.role ≠ 0) :
    writeOne s c h = tells (applied { s with sec := { s.sec with
      keyStage := (h.payload.drop 6).take (arg h 4 2) ++ List.replicate (48 - arg h 4 2) 0 } }) .ok := by
  have hf : firstCheck s c.author 0x9011 1 0 = .ok := firstCheck_keyStage hq hr
  rw [writeOne_entry hl (by rw [hi, hj]; exact entryAt_keyStage s.build), hi, hj, if_pos (by decide), hf]
  unfold writeChecked
  dsimp only
  rw [hi, hj, if_neg (by simpa [keyStageEntry, Ty.bytes] using hn), if_pos (by decide)]
  unfold writeLong
  rw [hf]
  rfl

/-! ## WRITE_MULTI (R450) -/

theorem writeMulti_invalid {s : State} {c : Caller} {h : Teller}
    (hi : h.payload.length < 2 ∨ arg h 0 2 = 0 ∨ 64 < arg h 0 2 ∨ h.payload.length < 2 + 12 * arg h 0 2) :
    writeMulti s c h = tells s .invalid := by
  have hc : (decide (h.payload.length < 2) || arg h 0 2 == 0 || decide (64 < arg h 0 2)
      || decide (h.payload.length < 2 + 12 * arg h 0 2)) = true := by
    simp only [Bool.or_eq_true, decide_eq_true_eq, beq_iff_eq]
    omega
  exact if_pos hc

/-- What a WRITE_MULTI answers for the records it has gone through. -/
def multiAnswer (r : State × Nat × Option (Nat × Nat × Code)) : Answer :=
  match r with
  | (s, k, none) => (s, some (.ok, leBytes 2 k ++ leBytes 4 0))
  | (s, k, some (i, j, code)) => (s, some (code, leBytes 2 k ++ leBytes 2 i ++ leBytes 1 j ++ leBytes 1 0))

theorem writeMulti_records {s : State} {c : Caller} {h : Teller} (h0 : 0 < arg h 0 2) (h64 : arg h 0 2 ≤ 64)
    (hl : 2 + 12 * arg h 0 2 ≤ h.payload.length) :
    writeMulti s c h = multiAnswer (writeRecords c h (arg h 0 2) 0 s) := by
  have hc : (decide (h.payload.length < 2) || arg h 0 2 == 0 || decide (64 < arg h 0 2)
      || decide (h.payload.length < 2 + 12 * arg h 0 2)) = false := by
    simp only [Bool.or_eq_false_iff, decide_eq_false_iff_not, beq_eq_false_iff_ne]
    omega
  unfold writeMulti
  dsimp only
  rw [hc, if_neg Bool.false_ne_true]
  generalize writeRecords c h (arg h 0 2) 0 s = r
  obtain ⟨t, k, _ | ⟨i, j, code⟩⟩ := r <;> rfl

theorem writeRecords_refused {c : Caller} {h : Teller} {n k : Nat} {s : State}
    (hr : (writeEntry s c.author (arg h (2 + 12 * k) 2) (arg h (2 + 12 * k + 2) 1) (arg h (2 + 12 * k + 4) 8) 8).2 ≠ .ok) :
    writeRecords c h (n + 1) k s
      = ((writeEntry s c.author (arg h (2 + 12 * k) 2) (arg h (2 + 12 * k + 2) 1) (arg h (2 + 12 * k + 4) 8) 8).1, k,
        some (arg h (2 + 12 * k) 2, arg h (2 + 12 * k + 2) 1,
          (writeEntry s c.author (arg h (2 + 12 * k) 2) (arg h (2 + 12 * k + 2) 1) (arg h (2 + 12 * k + 4) 8) 8).2)) := by
  unfold writeRecords
  dsimp only
  rw [if_neg (by simpa using hr)]

theorem writeRecords_applied {c : Caller} {h : Teller} {n k : Nat} {s : State}
    (hr : (writeEntry s c.author (arg h (2 + 12 * k) 2) (arg h (2 + 12 * k + 2) 1) (arg h (2 + 12 * k + 4) 8) 8).2 = .ok) :
    writeRecords c h (n + 1) k s = writeRecords c h n (k + 1)
      (writeEntry s c.author (arg h (2 + 12 * k) 2) (arg h (2 + 12 * k + 2) 1) (arg h (2 + 12 * k + 4) 8) 8).1 := by
  conv_lhs => unfold writeRecords
  dsimp only
  rw [if_pos (by simpa using hr)]

/-! ## UNQUARANTINE (R474) -/

/-- The Quarantine ends, and the session that ends it is open. -/
def State.unquarantined (s : State) (k : Nat) : State :=
  { s with sec := { s.sec with
    quarantine := false, proofFails := 0, sessions := s.sec.sessions.modify k (fun x => { x with state := .open_ }) } }

theorem unquarantine_released {s : State} {c : Caller} (hq : s.sec.quarantine = true)
    (hr : (s.session c.slot).state = .restricted) :
    unquarantine s c
      = tells ((s.unquarantined c.slot).note .quarantineReleased .ch [(s.session c.slot).number]) .ok := by
  unfold unquarantine
  rw [if_neg (by simp [hq, hr])]
  rfl

theorem unquarantine_denied {s : State} {c : Caller} (hq : s.sec.quarantine = false) :
    unquarantine s c = tells s .denied := if_pos (by simp [hq])

theorem unquarantined_does {s : State} {k : Nat} (hk : k < s.sec.sessions.length) :
    let t := (s.unquarantined k).note .quarantineReleased .ch [(s.session k).number]
    t.sec.quarantine = false ∧ t.sec.proofFails = 0 ∧ (t.session k).state = .open_ ∧ Reports s t 0x112 ∧ t.out = s.out := by
  intro t
  have hn : Logs (s.unquarantined k) t := logs_note _ .quarantineReleased .ch _ none
  have hr : Reports s t 0x112 := reports_note (s := s) (u := s.unquarantined k) List.prefix_rfl rfl .quarantineReleased .ch _ none
  clear_value t
  have hs : (s.unquarantined k).session k = { s.session k with state := .open_ } := by
    simp [State.session, State.unquarantined, hk]
  refine ⟨by rw [hn.sec]; rfl, by rw [hn.sec]; rfl, by rw [hn.session, hs], hr, hn.out⟩

/-! ## The writes and their answers (R446, R450, R474) -/

theorem writes_write {s u v : State} {h : Teller} {c : Caller} (hinv : s.Inv) (ha : actsAt s 0x11 h c u) {code : Code}
    {p : List Byte} (e : writeOne u c h = (v, some (code, p))) : exec (.write h) s = .next (replied v h 0x11 c.key code.num p) :=
  exec_performed hinv rfl ha (.inr (permits_write u c)) e

theorem writes_multi {s u v : State} {h : Teller} {c : Caller} (hinv : s.Inv) (ha : actsAt s 0x13 h c u) {code : Code}
    {p : List Byte} (e : writeMulti u c h = (v, some (code, p))) :
    exec (.writeMulti h) s = .next (replied v h 0x13 c.key code.num p) :=
  exec_performed hinv rfl ha (.inr (permits_writeMulti u c)) e

theorem unquarantine_not {s u : State} {h : Teller} {c : Caller} (hinv : s.Inv) (ha : actsAt s 0x05 h c u)
    (hq : s.sec.quarantine = false) : exec (.unquarantine h) s = .next (replied u h 0x05 c.key 2 []) := by
  have hT := taken_of_actsAt hinv ha
  by_cases hp : u.permits c 0x05 = true
  · exact exec_performed (code := .denied) hinv rfl ha (.inr hp) (unquarantine_denied (by rw [hT.quarantine]; exact hq))
  · rw [exec_of_actsAt hinv rfl ha]
    unfold answer
    rw [if_pos (by simp [hp]; rfl)]
    exact congrArg _ (reply_eq ..)

/-- Settles O54: the answer of each write is that of the Chart write it makes. -/
theorem tellerWritesAnswer : Obligations.TellerWritesAnswer := by
  unfold Obligations.TellerWritesAnswer
  intro s h c u hinv i j n v
  refine ⟨fun ha => ?_, fun ha => ?_, fun ha => ⟨fun hq hau hst hrole => ?_, unquarantine_not hinv ha⟩⟩
  · have hT := taken_of_actsAt hinv ha
    refine ⟨fun hl => writes_write (code := .invalid) hinv ha (writeOne_short hl), fun e hl he hlong => ?_,
      fun hl hi hj hn hr hq => ?_⟩
    · have he' : entryAt u.build (arg h 0 2) (arg h 2 1) = some e := by rw [hT.build]; exact he
      exact ⟨fun hk hn => writes_write hinv ha (writeOne_slot hl he' hlong hk hn),
        fun hk hn => writes_write (code := .tooLong) hinv ha (writeOne_tooLong hl he' hlong hk hn),
        fun k hk hok => writes_write hinv ha (writeOne_refused hl he' hlong hk hok)⟩
    · have hq' : u.sec.quarantine = false := hT.quarantine.trans hq
      have he := writes_write (code := .ok) hinv ha (writeOne_keyStage hl hi hj hn hq' hr)
      refine .of he ⟨?_, sends_replied ?_⟩
      · rw [replied_sec, applied_sec]
      · exact (applied_out _).trans hT.out
  · refine ⟨fun hbad => writes_multi (code := .invalid) hinv ha (writeMulti_invalid hbad), fun hi hl => ?_, fun hi hl => ?_⟩
    · have hi' : arg h 0 2 = 1 := hi
      have hw : writeMulti u c h = multiAnswer (writeRecords c h 1 0 u) := by
        rw [writeMulti_records (by omega) (by omega) (by omega), hi']
      intro a b r
      refine ⟨fun hr => ?_, fun hr => ?_⟩
      · exact writes_multi (code := .ok) hinv ha (by rw [hw, writeRecords_applied (k := 0) hr]; rfl)
      · exact writes_multi hinv ha (by rw [hw, writeRecords_refused (k := 0) hr]; rfl)
    · have hi' : arg h 0 2 = 2 := hi
      have hw : writeMulti u c h = multiAnswer (writeRecords c h 2 0 u) := by
        rw [writeMulti_records (by omega) (by omega) (by omega), hi']
      intro r q
      refine ⟨fun hr hq => ?_, fun hr hq => ?_⟩
      · exact writes_multi (code := .ok) hinv ha (by rw [hw, writeRecords_applied (k := 0) hr, writeRecords_applied (k := 1) hq]; rfl)
      · exact writes_multi hinv ha (by rw [hw, writeRecords_applied (k := 0) hr, writeRecords_refused (k := 1) hq]; rfl)
  · have hT := taken_of_actsAt hinv ha
    obtain ⟨hlt, -, hses⟩ := hT.sender hau
    have hlen : s.sec.sessions.length = 4 := hinv.2.2.2.2.1
    have hperm : u.permits c 0x05 = true := by simp [State.permits, hrole]
    have he := exec_performed (code := .ok) (i := .unquarantine h) hinv rfl ha (.inr hperm)
      (unquarantine_released (by rw [hT.quarantine]; exact hq) (by rw [hses]; exact hst))
    obtain ⟨h1, h2, h3, h4, h5⟩ := unquarantined_does (s := u) (k := c.slot) (by rw [hT.length]; omega)
    generalize (u.unquarantined c.slot).note .quarantineReleased .ch [(u.session c.slot).number] = m at *
    exact .of he ⟨h1, h2, h3, (h4.since (by rw [hT.journal]) (by rw [hT.time])).replied .., sends_replied (h5.trans hT.out)⟩

end Sys2Proof.Machine
end

section
/-! PROOFS. Key slots and the lifecycle (R461 to R463), and sessions that end without holding the debug level (R470). -/

namespace Sys2Proof.Machine

/-! ## Sessions end that do not hold the debug level -/

theorem closeSession_undebug {s : State} {k : Nat} (hd : (s.session k).debug = false) :
    Closes s (closeSession s k)
      ∧ (closeSession s k).sec = { s.sec with sessions := s.sec.sessions.modify k (fun _ => {}) } := by
  have hd' : ¬ (s.session k).debug = true := by simp [hd]
  unfold closeSession
  dsimp only
  rw [if_neg hd']
  split
  · have hn := logs_note s .sessionClosed .ch [(s.session k).number, (s.session k).role, (s.session k).slot] none
    generalize s.note .sessionClosed .ch [(s.session k).number, (s.session k).role, (s.session k).slot] none = m at hn ⊢
    refine ⟨hn.closes.trans (closes_sec m _), ?_⟩
    show ({ m.sec with sessions := m.sec.sessions.modify k (fun _ => {}) } : Sec) = _
    rw [hn.sec]
  · exact ⟨closes_sec s _, rfl⟩

theorem session_closeSession_undebug {s : State} {k : Nat} (hd : (s.session k).debug = false) (j : Nat) :
    (closeSession s k).session j = if j = k then {} else s.session j := by
  have hs : (closeSession s k).session j = (s.modSession k (fun _ => {})).session j :=
    session_of_sec (by rw [(closeSession_undebug hd).2]; rfl) j
  rw [hs]
  split
  · next h => rw [h, session_freed]
  · next h => exact session_modSession_ne s _ h

/-- What the end of the sessions that `p` selects leaves, the first `n` slots through, where none holds the debug level. -/
structure Freed (p : Session → Bool) (n : Nat) (a b : State) : Prop where
  closes : Closes a b
  sec : b.sec = { a.sec with sessions := b.sec.sessions }
  length : b.sec.sessions.length = a.sec.sessions.length
  session : ∀ j, b.session j = if j < n ∧ (a.session j).state ≠ .free ∧ p (a.session j) = true then {} else a.session j

theorem freed_closeWhere {s : State} (hd : ∀ x ∈ s.sec.sessions, x.debug = false) (p : Session → Bool) :
    Freed p 4 s (closeWhere s p) := by
  have hds : ∀ k, (s.session k).debug = false := by
    intro k
    by_cases hk : k < s.sec.sessions.length
    · exact hd _ (session_mem hk)
    · simp [State.session, List.getElem?_eq_none (Nat.not_lt.mp hk)]
  have step : ∀ n, Freed p n s ((List.range n).foldl
      (fun s k => if (s.session k).state != .free && p (s.session k) then closeSession s k else s) s) := by
    intro n
    induction n with
    | zero => exact ⟨.refl s, rfl, rfl, fun j => by simp⟩
    | succ n ih =>
      rw [List.range_succ, List.foldl_append, List.foldl_cons, List.foldl_nil]
      generalize (List.range n).foldl _ s = b at ih ⊢
      -- slot `n` has not been reached before
      have hn : b.session n = s.session n := by rw [ih.session]; simp
      have hbd : (b.session n).debug = false := by rw [hn]; exact hds n
      rw [hn]
      split
      · next hc =>
        have hc' : (s.session n).state ≠ .free ∧ p (s.session n) = true := by simpa using hc
        obtain ⟨hcl, hsec⟩ := closeSession_undebug hbd
        refine ⟨ih.closes.trans hcl, ?_, ?_, fun j => ?_⟩
        · rw [hsec, ih.sec]
        · rw [hsec]
          simpa using ih.length
        · rw [session_closeSession_undebug hbd]
          split
          · next hj => rw [hj, if_pos ⟨Nat.lt_succ_self n, hc'⟩]
          · next hj =>
            rw [ih.session]
            have hlt : j < n + 1 ↔ j < n := by omega
            simp only [hlt]
      · next hc =>
        have hc' : ¬ ((s.session n).state ≠ .free ∧ p (s.session n) = true) := by simpa using hc
        refine ⟨ih.closes, ih.sec, ih.length, fun j => ?_⟩
        rw [ih.session]
        by_cases hj : j = n
        · rw [hj, if_neg (fun h => hc' h.2), if_neg (fun h => hc' h.2)]
        · have hlt : j < n + 1 ↔ j < n := by omega
          simp only [hlt]
  exact step 4

/-- A session that is left is one that was, and was not selected. -/
theorem Freed.left {p : Session → Bool} {a b : State} (h : Freed p 4 a b) (hlen : a.sec.sessions.length = 4) {x : Session}
    (hx : x ∈ b.sec.sessions) (hf : x.state ≠ .free) : p x = false := by
  obtain ⟨k, hk, rfl⟩ := mem_sessions hx
  have hs := h.session k
  split at hs
  · rw [hs] at hf
    exact absurd rfl hf
  · next hc =>
    rw [hs] at hf ⊢
    rw [h.length, hlen] at hk
    by_contra hp
    exact hc ⟨hk, hf, by simpa using hp⟩

/-- The level stays Off where it is Off and no session holds it. -/
theorem levelOff_off {s : State} (h0 : s.sec.level = 0) (hd : ∀ x ∈ s.sec.sessions, x.debug = false) : levelOff s = s := by
  have hf : s.sec.sessions.find? (·.debug) = none := List.find?_eq_none.mpr (fun x hx => by simp [hd x hx])
  unfold levelOff
  rw [hf]
  exact if_pos (by simp [h0])

/-! ## KEY_PROGRAM (R461) -/

/-- A refused key command. -/
def State.keyAnswered (s : State) (r : Nat) : State := { s with sec := { s.sec with keyResult := r, keyStage := [] } }

/-- An accepted key command: the blow of the slot begins. -/
def State.keyBlown (s : State) (revoke : Bool) : State :=
  { s with sec := { s.sec with
    keyResult := 0, keyBlow := some (s.sec.keyTarget, revoke), keyImage := s.sec.keyStage, keyStage := [] } }

section
variable {s : State} {role : Nat}

theorem keyProgram_used (hb : s.sec.keyBlow = none) (hk : s.keyState s.sec.keyTarget ≠ 0) :
    keyProgram s role 1 = s.keyAnswered 3 := by
  unfold keyProgram
  dsimp only
  rw [if_neg (by simp [hb]), if_neg (by decide), if_pos (by simpa using hk)]
  rfl

theorem keyProgram_vendor (hb : s.sec.keyBlow = none) (hk : s.keyState s.sec.keyTarget = 0) (h3 : s.sec.keyTarget / 4 = 3)
    (hr : role ≠ 3) : keyProgram s role 1 = s.keyAnswered 2 := by
  unfold keyProgram
  dsimp only
  rw [if_neg (by simp [hb]), if_neg (by decide), if_neg (by simp [hk]), if_neg (by simp), if_pos (by simp [h3, hr])]
  rfl

theorem keyProgram_blown (hb : s.sec.keyBlow = none) (hk : s.keyState s.sec.keyTarget = 0) (hr0 : role ≠ 0)
    (h3 : s.sec.keyTarget / 4 ≠ 3 ∨ role = 3) : keyProgram s role 1 = s.keyBlown false := by
  unfold keyProgram
  dsimp only
  rw [if_neg (by simp [hb]), if_neg (by decide), if_neg (by simp [hk]), if_neg (by simp),
    if_neg (by rcases h3 with h | h <;> simp [hr0, h])]
  rfl

theorem keyRevoke_last (hb : s.sec.keyBlow = none) (hk : s.keyState s.sec.keyTarget = 1)
    (h13 : s.sec.keyTarget / 4 = 1 ∨ s.sec.keyTarget / 4 = 3) (hv : s.validSlots (s.sec.keyTarget / 4) ≤ 1) :
    keyProgram s role 2 = s.keyAnswered 2 := by
  unfold keyProgram
  dsimp only
  rw [if_neg (by simp [hb]), if_neg (by decide), if_neg (by simp), if_pos (by simp [hk, h13, hv])]
  rfl

theorem keyRevoke_blown (hb : s.sec.keyBlow = none) (hr0 : role ≠ 0)
    (h02 : s.sec.keyTarget / 4 = 0 ∨ s.sec.keyTarget / 4 = 2) : keyProgram s role 2 = s.keyBlown true := by
  unfold keyProgram
  dsimp only
  rw [if_neg (by simp [hb]), if_neg (by decide), if_neg (by simp), if_neg (by rcases h02 with h | h <;> simp [h]),
    if_neg (by rcases h02 with h | h <;> simp [hr0, h])]
  rfl

/-! ## LIFECYCLE_CMD (R462) -/

/-- A refused lifecycle command. -/
def State.lifeAnswered (s : State) (r : Nat) : State := { s with sec := { s.sec with lifeResult := r } }

/-- An accepted lifecycle command: the blow begins. -/
def State.lifeBlown (s : State) (n : Nat) : State := { s with sec := { s.sec with lifeResult := 0, lifeBlow := some n } }

theorem lifecycleCmd_busy (hb : s.sec.lifeBlow = none) (hl : s.sec.level = 2) (v : Nat) :
    lifecycleCmd s role v = s.lifeAnswered 1 := by
  unfold lifecycleCmd
  dsimp only
  rw [if_neg (by simp [hb]), if_pos (by simp [hl])]
  rfl

theorem lifecycleCmd_provision (hb : s.sec.lifeBlow = none) (hl : s.sec.level ≠ 2) :
    lifecycleCmd s role 1 = if s.fuses.lifecycle ≠ 0 then s.lifeAnswered 3
      else if s.validSlots 1 = 0 ∨ s.validSlots 3 = 0 then s.lifeAnswered 2 else s.lifeBlown 1 := by
  unfold lifecycleCmd
  dsimp only
  rw [if_neg (by simp [hb]), if_neg (by simp [hl])]
  simp only [bne_iff_ne, Bool.or_eq_true, beq_iff_eq]
  rfl

theorem lifecycleCmd_deploy (hb : s.sec.lifeBlow = none) (hl : s.sec.level ≠ 2) (hr : role ≠ 0) :
    lifecycleCmd s role 2 = if s.fuses.lifecycle ≠ 1 then s.lifeAnswered 3 else s.lifeBlown 2 := by
  unfold lifecycleCmd
  dsimp only
  rw [if_neg (by simp [hb]), if_neg (by simp [hl]), if_neg (c := (role == 0) = true) (by simpa using hr)]
  simp only [bne_iff_ne]
  rfl

theorem lifecycleCmd_retire (hb : s.sec.lifeBlow = none) (hl : s.sec.level ≠ 2) :
    lifecycleCmd s role 3 = if s.fuses.lifecycle ≠ 1 ∧ s.fuses.lifecycle ≠ 2 then s.lifeAnswered 3
      else if role ≠ 3 ∨ s.agentsPresent = true then s.lifeAnswered 2 else s.lifeBlown 3 := by
  unfold lifecycleCmd
  dsimp only
  rw [if_neg (by simp [hb]), if_neg (by simp [hl])]
  simp only [bne_iff_ne, Bool.and_eq_true, Bool.or_eq_true]
  rfl

end

/-! ## The commands from the window -/

theorem windowRole_provisioned {s : State} (h : s.fuses.lifecycle = 1 ∨ s.fuses.lifecycle = 2) : s.windowRole = 1 := by
  rcases h with h | h <;> simp [State.windowRole, h]

/-- A key or lifecycle command acts on the state of security alone, as it was before its event was counted. -/
theorem completes_security {s : State} {c : Instr} {f : State → State} (he : exec c s = .next (reached s f)) {x : Sec}
    (hf : ∀ g : State, g.sec = s.sec → g.fuses = s.fuses → (f g).sec = x ∧ (f g).fuses = s.fuses) :
    Completes c s (fun t => t.sec = x ∧ t.fuses = s.fuses) := by
  have hg := logs_reached s
  rw [reached_eq] at he
  generalize s.gev 0x10C = g at hg he
  obtain ⟨h1, h2⟩ := hf g hg.sec hg.fuses
  exact .of he ⟨h1, h2⟩

theorem keyState_congr {a b : State} (h : b.fuses = a.fuses) (k : Nat) : b.keyState k = a.keyState k := by
  unfold State.keyState
  rw [h]

theorem validSlots_congr {a b : State} (h : b.fuses = a.fuses) (role : Nat) : b.validSlots role = a.validSlots role := by
  unfold State.validSlots
  simp only [keyState_congr h]

theorem completes_key {s : State} {c : Instr} {v : Nat} (he : exec c s = .next (reached s (fun u => keyProgram u s.windowRole v)))
    {f : State → State} {x : Sec}
    (hk : ∀ g : State, g.sec = s.sec → g.fuses = s.fuses → keyProgram g s.windowRole v = f g)
    (hx : ∀ g : State, g.sec = s.sec → (f g).sec = x) (hfu : ∀ g : State, (f g).fuses = g.fuses) :
    Completes c s (fun t => t.sec = x ∧ t.fuses = s.fuses) :=
  completes_security he (fun g hs hf => by rw [hk g hs hf]; exact ⟨hx g hs, (hfu g).trans hf⟩)

theorem keyAnswered_sec {g s : State} (h : g.sec = s.sec) (r : Nat) :
    (g.keyAnswered r).sec = { s.sec with keyResult := r, keyStage := [] } := by
  rw [← h]
  rfl

theorem keyBlown_sec {g s : State} (h : g.sec = s.sec) (b : Bool) :
    (g.keyBlown b).sec = { s.sec with
      keyResult := 0, keyBlow := some (s.sec.keyTarget, b), keyImage := s.sec.keyStage, keyStage := [] } := by
  rw [← h]
  rfl

theorem lifeAnswered_sec {g s : State} (h : g.sec = s.sec) (r : Nat) :
    (g.lifeAnswered r).sec = { s.sec with lifeResult := r } := by
  rw [← h]
  rfl

theorem lifeBlown_sec {g s : State} (h : g.sec = s.sec) (n : Nat) :
    (g.lifeBlown n).sec = { s.sec with lifeResult := 0, lifeBlow := some n } := by
  rw [← h]
  rfl

/-- A lifecycle command that is refused. -/
theorem completes_lifeAnswered {s : State} {c : Instr} {v r : Nat}
    (he : exec c s = .next (reached s (fun u => lifecycleCmd u s.windowRole v)))
    (hk : ∀ g : State, g.sec = s.sec → g.fuses = s.fuses → lifecycleCmd g s.windowRole v = g.lifeAnswered r) :
    Completes c s (fun t => t.sec = { s.sec with lifeResult := r } ∧ t.fuses = s.fuses) :=
  completes_security he (fun g hs hf => by rw [hk g hs hf]; exact ⟨lifeAnswered_sec hs r, hf⟩)

/-- A lifecycle command that blows. -/
theorem completes_lifeBlown {s : State} {c : Instr} {v n : Nat}
    (he : exec c s = .next (reached s (fun u => lifecycleCmd u s.windowRole v)))
    (hk : ∀ g : State, g.sec = s.sec → g.fuses = s.fuses → lifecycleCmd g s.windowRole v = g.lifeBlown n) :
    Completes c s (fun t => t.sec = { s.sec with lifeResult := 0, lifeBlow := some n } ∧ t.fuses = s.fuses) :=
  completes_security he (fun g hs hf => by rw [hk g hs hf]; exact ⟨lifeBlown_sec hs n, hf⟩)

theorem Completes.sec_only {c : Instr} {s : State} {x : Sec} (h : Completes c s (fun t => t.sec = x ∧ t.fuses = s.fuses)) :
    Completes c s (fun t => t.sec = x) := by
  obtain ⟨t, he, hs, -⟩ := h
  exact ⟨t, he, hs⟩

theorem keyCommands {s : State} (ho : s.windowOpen) (hb : s.sec.keyBlow = none) :
    let k := s.sec.keyTarget
    (s.keyState k ≠ 0 → Completes .program s (fun t => t.sec = { s.sec with keyResult := 3, keyStage := [] }
      ∧ t.fuses = s.fuses)) ∧
    (s.keyState k = 0 → k / 4 = 3 → s.windowRole ≠ 3 →
      Completes .program s (fun t => t.sec = { s.sec with keyResult := 2, keyStage := [] } ∧ t.fuses = s.fuses)) ∧
    (s.keyState k = 0 → (k / 4 ≠ 3 ∨ s.windowRole = 3) →
      Completes .program s (fun t => t.sec = { s.sec with
        keyResult := 0, keyBlow := some (k, false), keyImage := s.sec.keyStage, keyStage := [] } ∧ t.fuses = s.fuses)) ∧
    (s.keyState k = 1 → (k / 4 = 1 ∨ k / 4 = 3) → s.validSlots (k / 4) ≤ 1 →
      Completes .revoke s (fun t => t.sec = { s.sec with keyResult := 2, keyStage := [] } ∧ t.fuses = s.fuses)) ∧
    ((k / 4 = 0 ∨ k / 4 = 2) →
      Completes .revoke s (fun t => t.sec = { s.sec with
        keyResult := 0, keyBlow := some (k, true), keyImage := s.sec.keyStage, keyStage := [] } ∧ t.fuses = s.fuses)) := by
  intro k
  have hr0 : s.windowRole ≠ 0 := ho.2.2.2.2
  refine ⟨fun hk => ?_, fun hk h3 hr => ?_, fun hk h3 => ?_, fun hk h13 hv => ?_, fun h02 => ?_⟩
  · exact completes_key (write_program ho) (fun g hs hf => keyProgram_used (by rw [hs, hb]) (by
      rw [keyState_congr hf, hs]; exact hk)) (fun g hs => keyAnswered_sec hs 3) (fun _ => rfl)
  · exact completes_key (write_program ho) (fun g hs hf => keyProgram_vendor (by rw [hs, hb]) (by
      rw [keyState_congr hf, hs]; exact hk) (by rw [hs]; exact h3) hr) (fun g hs => keyAnswered_sec hs 2) (fun _ => rfl)
  · exact completes_key (write_program ho) (fun g hs hf => keyProgram_blown (by rw [hs, hb]) (by
      rw [keyState_congr hf, hs]; exact hk) hr0 (by rw [hs]; exact h3)) (fun g hs => keyBlown_sec hs false) (fun _ => rfl)
  · exact completes_key (write_revoke ho) (fun g hs hf => keyRevoke_last (by rw [hs, hb]) (by
      rw [keyState_congr hf, hs]; exact hk) (by rw [hs]; exact h13) (by rw [hs, validSlots_congr hf]; exact hv))
      (fun g hs => keyAnswered_sec hs 2) (fun _ => rfl)
  · exact completes_key (write_revoke ho) (fun g hs _ => keyRevoke_blown (by rw [hs, hb]) hr0 (by rw [hs]; exact h02))
      (fun g hs => keyBlown_sec hs true) (fun _ => rfl)

theorem lifecycleCommands {s : State} (ho : s.windowOpen) (hb : s.sec.lifeBlow = none) (hl : s.sec.level ≠ 2) :
    let now := s.fuses.lifecycle
    (now ≠ 0 → Completes .provision s (fun t => t.sec = { s.sec with lifeResult := 3 })) ∧
    (now = 0 → (s.validSlots 1 = 0 ∨ s.validSlots 3 = 0) →
      Completes .provision s (fun t => t.sec = { s.sec with lifeResult := 2 })) ∧
    (now = 0 → s.validSlots 1 ≠ 0 → s.validSlots 3 ≠ 0 →
      Completes .provision s (fun t => t.sec = { s.sec with lifeResult := 0, lifeBlow := some 1 } ∧ t.fuses = s.fuses)) ∧
    (now ≠ 1 → Completes .deploy s (fun t => t.sec = { s.sec with lifeResult := 3 })) ∧
    (now = 1 → Completes .deploy s (fun t => t.sec = { s.sec with lifeResult := 0, lifeBlow := some 2 }
      ∧ t.fuses = s.fuses)) ∧
    (now = 0 → Completes .retire s (fun t => t.sec = { s.sec with lifeResult := 3 })) ∧
    (now = 1 ∨ now = 2 → Completes .retire s (fun t => t.sec = { s.sec with lifeResult := 2 } ∧ t.fuses = s.fuses)) := by
  intro now
  have hr0 : s.windowRole ≠ 0 := ho.2.2.2.2
  refine ⟨fun hn => ?_, fun hn hv => ?_, fun hn h1 h3 => ?_, fun hn => ?_, fun hn => ?_, fun hn => ?_, fun hn => ?_⟩
  · refine (completes_lifeAnswered (write_provision ho) fun g hs hf => ?_).sec_only
    rw [lifecycleCmd_provision (by rw [hs, hb]) (by rw [hs]; exact hl), if_pos (by rw [hf]; exact hn)]
  · refine (completes_lifeAnswered (write_provision ho) fun g hs hf => ?_).sec_only
    rw [lifecycleCmd_provision (by rw [hs, hb]) (by rw [hs]; exact hl), if_neg (by rw [hf]; exact not_not_intro hn),
      validSlots_congr hf, validSlots_congr hf, if_pos hv]
  · refine completes_lifeBlown (write_provision ho) fun g hs hf => ?_
    rw [lifecycleCmd_provision (by rw [hs, hb]) (by rw [hs]; exact hl), if_neg (by rw [hf]; exact not_not_intro hn),
      validSlots_congr hf, validSlots_congr hf, if_neg (not_or.mpr ⟨h1, h3⟩)]
  · refine (completes_lifeAnswered (write_deploy ho) fun g hs hf => ?_).sec_only
    rw [lifecycleCmd_deploy (by rw [hs, hb]) (by rw [hs]; exact hl) hr0, if_pos (by rw [hf]; exact hn)]
  · refine completes_lifeBlown (write_deploy ho) fun g hs hf => ?_
    rw [lifecycleCmd_deploy (by rw [hs, hb]) (by rw [hs]; exact hl) hr0, if_neg (by rw [hf]; exact not_not_intro hn)]
  · refine (completes_lifeAnswered (write_retire ho) fun g hs hf => ?_).sec_only
    have hn' : s.fuses.lifecycle = 0 := hn
    rw [lifecycleCmd_retire (by rw [hs, hb]) (by rw [hs]; exact hl), if_pos (by rw [hf]; omega)]
  · refine completes_lifeAnswered (write_retire ho) fun g hs hf => ?_
    have hn' : s.fuses.lifecycle = 1 ∨ s.fuses.lifecycle = 2 := hn
    rw [lifecycleCmd_retire (by rw [hs, hb]) (by rw [hs]; exact hl), if_neg (by rw [hf]; omega),
      if_pos (.inl (by rw [windowRole_provisioned hn']; decide))]

/-! ## The blows complete (R461 to R463) -/

theorem exec_keyBlowDone_valid {s : State} {k : Nat} (h : s.sec.keyBlow = some (k, false)) :
    exec .keyBlowDone s = .next { s with
      fuses := { s.fuses with keys := KV.put s.fuses.keys k (1, s.sec.keyImage) }
      sec := { s.sec with keyBlow := none, keyImage := [], keyResult := 0 } } := by
  show execKeyBlowDone s = _
  unfold execKeyBlowDone
  rw [h]
  rfl

/-- A slot is blown REVOKED, its verifier kept. -/
def State.slotRevoked (s : State) (k : Nat) : State :=
  { s with
    fuses := { s.fuses with keys := KV.put s.fuses.keys k (2, ((KV.find? s.fuses.keys k).map (·.2)).getD []) }
    sec := { s.sec with keyBlow := none, keyImage := [], keyResult := 0 } }

theorem exec_keyBlowDone_revoked {s : State} {k : Nat} (h : s.sec.keyBlow = some (k, true)) :
    exec .keyBlowDone s
      = .next (closeWhere (s.slotRevoked k) (fun x => x.live && x.role * 4 + x.slot == k)) := by
  show execKeyBlowDone s = _
  unfold execKeyBlowDone
  rw [h]
  rfl

theorem live_not_free {x : Session} (h : x.live = true) : x.state ≠ .free := by
  intro hf
  simp [Session.live, hf] at h

theorem keyRevoked_does {s : State} (hinv : s.Inv) {k : Nat} (h : s.sec.keyBlow = some (k, true))
    (hd : ∀ x ∈ s.sec.sessions, x.debug = false) :
    Completes .keyBlowDone s (fun t => t.keyState k = 2 ∧ t.sec.keyBlow = none
      ∧ (∀ x ∈ t.sec.sessions, x.live = true → x.role * 4 + x.slot ≠ k)) := by
  have hc := freed_closeWhere (s := s.slotRevoked k) hd (fun x => x.live && x.role * 4 + x.slot == k)
  have he := exec_keyBlowDone_revoked h
  generalize closeWhere (s.slotRevoked k) (fun x => x.live && x.role * 4 + x.slot == k) = t at hc he
  refine .of he ⟨?_, ?_, fun x hx hlive => ?_⟩
  · rw [keyState_congr hc.closes.fuses]
    simp [State.keyState, State.slotRevoked, KV.find_put]
  · rw [hc.sec]
    rfl
  · have := hc.left hinv.2.2.2.2.1 hx (live_not_free hlive)
    simpa [hlive] using this

/-- The lifecycle moves, and no blow runs. -/
def State.lifeMoved (s : State) (n : Nat) : State :=
  { s with fuses := { s.fuses with lifecycle := n }, sec := { s.sec with lifeBlow := none, lifeResult := 0 } }

/-- What the completed blow of a lifecycle state leaves, before Retired revokes and closes. -/
def State.lifecycled (s : State) (n : Nat) : State :=
  (s.lifeMoved n).note .lifecycleChanged .ch [s.fuses.lifecycle, n]

theorem lifecycled_does (s : State) (n : Nat) :
    (s.lifecycled n).fuses = { s.fuses with lifecycle := n }
      ∧ (s.lifecycled n).sec = { s.sec with lifeBlow := none, lifeResult := 0 } ∧ Reports s (s.lifecycled n) 0x110 := by
  have hf : (s.lifeMoved n).fuses = { s.fuses with lifecycle := n } := rfl
  have hs : (s.lifeMoved n).sec = { s.sec with lifeBlow := none, lifeResult := 0 } := rfl
  have hj : (s.lifeMoved n).journal = s.journal := rfl
  have ht : (s.lifeMoved n).time = s.time := rfl
  unfold State.lifecycled
  generalize s.lifeMoved n = m at hf hs hj ht ⊢
  have hn := logs_note m .lifecycleChanged .ch [s.fuses.lifecycle, n] none
  exact ⟨hn.fuses.trans hf, hn.sec.trans hs,
    reports_note (by rw [hj]) (by rw [ht]) .lifecycleChanged .ch [s.fuses.lifecycle, n] none⟩

/-- The eight slots of the roles that Retired ends. -/
def retiredKeys (m : KV (Nat × List Byte)) : KV (Nat × List Byte) :=
  (List.range 8).foldl (fun m i => KV.put m (4 + i) (2, ((KV.find? m (4 + i)).map (·.2)).getD [])) m

theorem exec_lifecycleChanged_eq {s : State} {n : Nat} (h : s.sec.lifeBlow = some n)
    (hoff : s.fuses.lifecycle ≠ 0 ∨ (s.sec.level = 0 ∧ ∀ x ∈ s.sec.sessions, x.debug = false)) :
    exec .lifecycleChanged s = .next (if n != 3 then s.lifecycled n
      else closeWhere { s.lifecycled n with fuses := { (s.lifecycled n).fuses with
        keys := retiredKeys (s.lifecycled n).fuses.keys } } (fun x => x.role == 1 || x.role == 2)) := by
  have hs : (if s.fuses.lifecycle == 0 then levelOff s else s) = s := by
    rcases hoff with h0 | ⟨h0, hd⟩
    · exact if_neg (by simpa using h0)
    · rw [levelOff_off h0 hd, ite_self]
  show execLifecycleChanged s = _
  unfold execLifecycleChanged
  rw [h]
  dsimp only
  rw [hs]
  rfl

theorem retired_does {s : State} (hinv : s.Inv) (h : s.sec.lifeBlow = some 3) (h0 : s.fuses.lifecycle ≠ 0)
    (hd : ∀ x ∈ s.sec.sessions, x.debug = false) :
    Completes .lifecycleChanged s (fun t => t.fuses.lifecycle = 3 ∧ t.sec.lifeBlow = none ∧ Reports s t 0x110
      ∧ t.fuses.keys = retiredKeys s.fuses.keys
      ∧ (∀ x ∈ t.sec.sessions, x.state ≠ .free → x.role ≠ 1 ∧ x.role ≠ 2)) := by
  have he := exec_lifecycleChanged_eq h (.inl h0)
  rw [if_neg (by decide)] at he
  obtain ⟨hf, hsec, hr⟩ := lifecycled_does s 3
  generalize s.lifecycled 3 = m at he hf hsec hr
  have hc := freed_closeWhere (s := { m with fuses := { m.fuses with keys := retiredKeys m.fuses.keys } })
    (by show ∀ x ∈ m.sec.sessions, x.debug = false; rw [hsec]; exact hd) (fun x => x.role == 1 || x.role == 2)
  generalize closeWhere { m with fuses := { m.fuses with keys := retiredKeys m.fuses.keys } }
    (fun x => x.role == 1 || x.role == 2) = t at he hc
  have hm : m.sec.sessions.length = 4 := by
    rw [hsec]
    exact hinv.2.2.2.2.1
  refine .of he ⟨?_, ?_, hr.of_prefix hc.closes.inbox, ?_, fun x hx hfree => ?_⟩
  · rw [hc.closes.fuses]
    show m.fuses.lifecycle = 3
    rw [hf]
  · rw [hc.sec]
    show m.sec.lifeBlow = none
    rw [hsec]
  · rw [hc.closes.fuses]
    show retiredKeys m.fuses.keys = _
    rw [hf]
  · have := hc.left hm hx hfree
    simpa using this

/-! ## RETIRE from a Vendor session (R462) -/

theorem firstCheck_lifecycle {s : State} {a : Author} (hq : s.sec.quarantine = false) (hr : a.role ≠ 0) :
    firstCheck s a 0x9000 1 8 = .ok :=
  firstCheck_ok (e := cmdV) hq (by simp [mayWrite, hr]) (by cases s.build <;> rfl) (by decide) (by decide)
    (fun h => absurd h (by decide)) (gone_none (behindTill_none (by omega) (by omega) (by omega) (by omega) (by omega) (by omega)))
    (by decide)

theorem writeEntry_lifecycle {s : State} {a : Author} (hq : s.sec.quarantine = false) (hr : a.role ≠ 0) :
    writeEntry s a 0x9000 1 3 8 = (applied (lifecycleCmd s a.role 3), .ok) := by
  have he : entryAt s.build 0x9000 1 = some cmdV := by cases s.build <;> rfl
  have hf := firstCheck_lifecycle hq hr
  refine Prod.ext ((writeEntry_command hf he rfl (by decide)).trans rfl) ?_
  unfold writeEntry
  rw [hf, he]
  rfl

theorem retire_told {s u : State} {h : Teller} {c : Caller} (hinv : s.Inv) (ha : actsAt s 0x11 h c u) (hrole : c.role = 3)
    (hq : s.sec.quarantine = false) (hb : s.sec.lifeBlow = none) (hl : s.sec.level ≠ 2)
    (hnow : s.fuses.lifecycle = 1 ∨ s.fuses.lifecycle = 2) (hlen : h.payload.length = 7) (hi : arg h 0 2 = 0x9000)
    (hj : arg h 2 1 = 1) (hn : arg h 4 2 = 1) (hv : arg h 6 1 = 3)
    (hag : ∀ p ∈ s.agents, (p.2.kind = 0 ∨ p.2.kind = 2) → p.2.state = .absent ∨ p.2.state = .quarantined) :
    Completes (.write h) s (fun t => t.sec.lifeBlow = some 3 ∧ t.sec.lifeResult = 0 ∧ t.fuses = s.fuses) := by
  have hT := taken_of_actsAt hinv ha
  have hq' : u.sec.quarantine = false := hT.quarantine.trans hq
  have hr : c.author.role ≠ 0 := by
    show c.role ≠ 0
    omega
  have hpres : u.agentsPresent = false := by
    unfold State.agentsPresent
    rw [hT.agents, List.any_eq_false]
    intro p hp
    by_cases hk : p.2.kind = 0 ∨ p.2.kind = 2
    · rcases hag p hp hk with e | e <;> simp [e]
    · have : (p.2.kind == 0 || p.2.kind == 2) = false := by simpa using hk
      simp only [this, Bool.false_and, Bool.false_eq_true, not_false_eq_true]
  have hcmd : lifecycleCmd u c.author.role 3 = u.lifeBlown 3 := by
    rw [lifecycleCmd_retire (by rw [hT.sec]; exact hb) (by rw [hT.level]; exact hl), if_neg (by rw [hT.fuses]; omega),
      if_neg (by rw [hpres]; simp [Caller.author, hrole])]
  have hval : leVal ((h.payload.drop 6).take 1) = 3 := hv
  have hw := writeOne_slot (s := u) (c := c) (h := h) (e := cmdV) (by omega)
    (by rw [hi, hj]; cases u.build <;> rfl) (by decide) (by rw [hi, hj]; exact firstCheck_lifecycle hq' hr)
    (by rw [hn]; decide)
  rw [hi, hj, hn, hval, writeEntry_lifecycle hq' hr, hcmd] at hw
  have he := writes_write (code := .ok) hinv ha hw
  refine .of he ⟨?_, ?_, ?_⟩
  · rw [replied_sec, applied_sec]
    rfl
  · rw [replied_sec, applied_sec]
    rfl
  · rw [replied_fuses]
    exact hT.fuses

/-- Settles O58: each row of R461 and R462 is one branch of its command, and a completed blow its lemma. -/
theorem keysAndLifecycleMoveForward : Obligations.KeysAndLifecycleMoveForward := by
  unfold Obligations.KeysAndLifecycleMoveForward
  intro s hinv k now
  refine ⟨fun ho hb => ?_, fun k h => ?_, fun k h hd => keyRevoked_does hinv h hd, fun h => ?_, fun ho hb => ⟨fun hl c hc => ?_,
    lifecycleCommands ho hb⟩, fun h c u ha hrole hq hb hl hnow hlen hi hj hn hv hag =>
      retire_told hinv ha hrole hq hb hl hnow hlen hi hj hn hv hag, fun n h hoff hn => ?_,
    fun h h0 hd => retired_does hinv h h0 hd, fun h => ?_⟩
  · obtain ⟨h1, h2, h3, h4, h5⟩ := keyCommands ho hb
    exact ⟨h1, h2, fun hk hr => (h3 hk hr).imp fun t ⟨he, hs, hf⟩ => ⟨he, hf, hs⟩, h4,
      fun hr => (h5 hr).imp fun t ⟨he, hs, hf⟩ => ⟨he, hf, hs⟩⟩
  · have hfind : KV.find? (KV.put s.fuses.keys k (1, s.sec.keyImage)) k = some (1, s.sec.keyImage) := KV.find_put ..
    refine .of (exec_keyBlowDone_valid h) ⟨?_, hfind, rfl, rfl, rfl⟩
    show ((KV.find? (KV.put s.fuses.keys k (1, s.sec.keyImage)) k).map (·.1)).getD 0 = 1
    rw [hfind]
    rfl
  · show execKeyBlowDone s = _
    unfold execKeyBlowDone
    rw [h]
  · have hbusy : ∀ {c : Instr} {v : Nat}, exec c s = .next (reached s (fun u => lifecycleCmd u s.windowRole v)) →
        Completes c s (fun t => t.sec = { s.sec with lifeResult := 1 } ∧ t.fuses = s.fuses) := fun he =>
      completes_lifeAnswered he fun g hs _ => lifecycleCmd_busy (by rw [hs, hb]) (by rw [hs]; exact hl) _
    simp only [List.mem_cons, List.not_mem_nil, or_false] at hc
    rcases hc with rfl | rfl | rfl
    · exact hbusy (write_provision ho)
    · exact hbusy (write_deploy ho)
    · exact hbusy (write_retire ho)
  · have he := exec_lifecycleChanged_eq h hoff
    rw [if_pos (by simpa using hn)] at he
    obtain ⟨hf, hsec, hr⟩ := lifecycled_does s n
    generalize s.lifecycled n = m at he hf hsec hr
    exact .of he ⟨by rw [hf], by rw [hsec], by rw [hsec], hr, by rw [hsec], by rw [hf]⟩
  · show execLifecycleChanged s = _
    unfold execLifecycleChanged
    rw [h]

end Sys2Proof.Machine
end

section
/-! PROOFS. Sessions open, prove, time out and close, and a halt that is due ends (R466 to R471, R474, R479). -/

namespace Sys2Proof.Machine

/-! ## Requests outside a session -/

section
variable {s v : State} {h : Teller} {code : Code}

theorem plainRequest_two (s : State) (h : Teller) :
    plainRequest s 2 h = if s.fuses.lifecycle == 0 then reply s h 2 none .denied []
      else (match openSession s h with
        | (s1, some (code, p)) => reply s1 h 2 none code p
        | (s1, none) => s1) := rfl

theorem plainRequest_three (s : State) (h : Teller) :
    plainRequest s 3 h = if s.fuses.lifecycle == 0 then reply s h 3 none .denied []
      else (match proveSession s h with
        | (s1, code, none) => reply s1 h 3 none code []
        | (s1, code, some (key, p)) => reply s1 { h with seq := 0 } 3 (some key) code p) := rfl

theorem plainRequest_open_blank (hb : s.fuses.lifecycle = 0) : plainRequest s 2 h = replied s h 2 none 2 [] := by
  rw [plainRequest_two, if_pos (by simp [hb])]
  exact reply_eq ..

theorem plainRequest_prove_blank (hb : s.fuses.lifecycle = 0) : plainRequest s 3 h = replied s h 3 none 2 [] := by
  rw [plainRequest_three, if_pos (by simp [hb])]
  exact reply_eq ..

theorem plainRequest_open {p : List Byte} (hb : s.fuses.lifecycle ≠ 0) (e : openSession s h = (v, some (code, p))) :
    plainRequest s 2 h = replied v h 2 none code.num p := by
  rw [plainRequest_two, if_neg (by simpa using hb), e]
  exact reply_eq ..

theorem plainRequest_proved {key p : List Byte} (hb : s.fuses.lifecycle ≠ 0)
    (e : proveSession s h = (v, code, some (key, p))) :
    plainRequest s 3 h = replied v { h with seq := 0 } 3 (some key) code.num p := by
  rw [plainRequest_three, if_neg (by simpa using hb), e]
  exact reply_eq ..

theorem plainRequest_unproved (hb : s.fuses.lifecycle ≠ 0) (e : proveSession s h = (v, code, none)) :
    plainRequest s 3 h = replied v h 3 none code.num [] := by
  rw [plainRequest_three, if_neg (by simpa using hb), e]
  exact reply_eq ..

end

/-! ## OPEN (R466, R467, R474) -/

section
variable {s : State} {h : Teller}

theorem openSession_denied (hl : 4 ≤ h.payload.length) (hr : arg h 0 1 ≤ 3) (hs : arg h 1 1 ≤ 3)
    (hq : s.sec.quarantine = true) (h1 : 1 < arg h 0 1) : openSession s h = tells s .denied := by
  unfold openSession
  dsimp only
  rw [if_neg (by simp; omega), if_pos (by simp [hq, h1])]

theorem openSession_busy (hlen : s.sec.sessions.length = 4) (hl : 4 ≤ h.payload.length) (hr : arg h 0 1 ≤ 3)
    (hs : arg h 1 1 ≤ 3) (hq : s.sec.quarantine = false ∨ arg h 0 1 ≤ 1)
    (hb : s.power.state = 7 ∨ ∀ y ∈ s.sec.sessions, y.state ≠ .free) : openSession s h = tells s .busy := by
  have hfull : (s.power.state == 7 || decide (4 ≤ s.sec.sessions.findIdx (·.state == .free))) = true := by
    rcases hb with hb | hb
    · simp [hb]
    · have : s.sec.sessions.findIdx (·.state == .free) = 4 := by
        rw [← hlen]
        exact List.findIdx_eq_length.mpr (fun y hy => by simpa using hb y hy)
      simp [this]
  unfold openSession
  dsimp only
  rw [if_neg (by simp; omega), if_neg (by rcases hq with hq | hq <;> simp [hq]), if_pos hfull]

/-- A number that is neither 0 nor in use is the next. -/
theorem nextNumber_free {n k : Nat} (h0 : k ≠ 0) (hu : ∀ y ∈ s.sec.sessions, y.state ≠ .free → y.number ≠ k) :
    nextNumber s (n + 1) k = k := by
  have hany : s.sec.sessions.any (fun x => x.state != .free && x.number == k) = false := by
    rw [List.any_eq_false]
    intro y hy
    have := hu y hy
    simpa using this
  unfold nextNumber
  rw [hany, if_neg (by simpa using h0)]

/-- The number and the nonce of the next session are used. -/
def State.drawn (s : State) (number : Nat) : State :=
  { s with sec := { s.sec with draws := s.sec.draws + 1, nextSession := (number + 1) % 2 ^ 16 } }

theorem drawn_modSession_out (s : State) (number k : Nat) (f : Session → Session) :
    ((s.drawn number).modSession k f).out = s.out := rfl

/-- The session that OPEN makes. -/
def openingSession (s : State) (h : Teller) : Session where
  state := .opening
  number := s.sec.nextSession
  role := arg h 0 1
  slot := arg h 1 1
  nonce := Config.nonce s.sec.draws
  opened := s.time.tick
  idle := s.rawN 0x9001 0
  window := s.rawN 0x9001 1

theorem openSession_ok {k : Nat} (hlen : s.sec.sessions.length = 4) (hl : 4 ≤ h.payload.length) (hr : arg h 0 1 ≤ 3)
    (hs : arg h 1 1 ≤ 3) (hq : s.sec.quarantine = false ∨ arg h 0 1 ≤ 1) (hp : s.power.state ≠ 7) (hk : k < 4)
    (hfree : (s.session k).state = .free) (hfirst : ∀ j, j < k → (s.session j).state ≠ .free) (h0 : s.sec.nextSession ≠ 0)
    (hu : ∀ y ∈ s.sec.sessions, y.state ≠ .free → y.number ≠ s.sec.nextSession) :
    openSession s h = ((s.drawn s.sec.nextSession).modSession k (fun _ => openingSession s h),
      some (.ok, leBytes 2 s.sec.nextSession ++ leBytes 2 0 ++ leBytes 32 (Config.nonce s.sec.draws).toNat)) := by
  have hidx : s.sec.sessions.findIdx (·.state == .free) = k :=
    findIdx_sessions (p := fun x => x.state == .free) hlen hk (by simp [hfree]) (fun j hj => by simpa using hfirst j hj)
  unfold openSession
  dsimp only
  rw [if_neg (by simp; omega), if_neg (by rcases hq with hq | hq <;> simp [hq]), hidx, if_neg (by simp [hp]; omega),
    nextNumber_free h0 hu]
  rfl

/-! ## PROVE (R468, R471, R474) -/

theorem proofText_eq (label : List Char) (x : Session) : proofText label x = proofOver label x := rfl

/-- A proof matches exactly where the slot is VALID and the proof is the MAC of R468. -/
theorem proves_iff {x : Session} {proof : List Byte} :
    s.proves x proof = true ↔ (KV.find? s.fuses.keys (x.role * 4 + x.slot)).map (·.1) = some 1
      ∧ proof = hmac384 (s.verifier x) (proofOver "DECESK-PROVE".toList x) := by
  unfold State.proves State.keyState
  rw [proofText_eq, Bool.and_eq_true, beq_iff_eq, beq_iff_eq]
  cases (KV.find? s.fuses.keys (x.role * 4 + x.slot)).map (·.1) with
  | none => simp
  | some v => simp

/-- The time of an Operator's PROVE is kept (R474). -/
def State.proveTimed (s : State) (x : Session) : State :=
  if x.role == 1 then { s with sec := { s.sec with lastOpProve := some s.time.tick } } else s

theorem proveTimed_eq (s : State) (x : Session) :
    ∃ t, s.proveTimed x = { s with sec := { s.sec with lastOpProve := t } } := by
  unfold State.proveTimed
  split
  · exact ⟨_, rfl⟩
  · exact ⟨_, rfl⟩

/-- The slot of the session that a PROVE names. -/
structure Proving (s : State) (h : Teller) (k : Nat) : Prop where
  lt : k < 4
  opening : (s.session k).state = .opening
  number : (s.session k).number = h.session.toNat
  first : ∀ j, j < k → ¬ ((s.session j).state = .opening ∧ (s.session j).number = h.session.toNat)

theorem Proving.found {k : Nat} (hn : Proving s h k) (hlen : s.sec.sessions.length = 4) :
    s.sec.sessions.findIdx (fun x => x.state == .opening && x.number == h.session.toNat) = k :=
  findIdx_sessions hlen hn.lt (by simp [hn.opening, hn.number]) (fun j hj => by
    have := hn.first j hj
    simpa using this)

theorem proveSession_eq {k : Nat} (hlen : s.sec.sessions.length = 4) (hn : Proving s h k) (hq : s.sec.quarantine = false) :
    proveSession s h = if (s.proveTimed (s.session k)).proves (s.session k) h.payload then
        (opened (s.proveTimed (s.session k)) k (s.session k), .ok,
          some ((s.proveTimed (s.session k)).sessionKey (s.session k), leBytes 4 (s.session k).idle))
      else (failedProof ((s.proveTimed (s.session k)).modSession k (fun _ => {})) (s.session k).role (s.session k).slot, .auth,
        none) := by
  have := hn.lt
  unfold proveSession
  dsimp only
  rw [hn.found hlen, if_neg (by omega), if_neg (by simp [hq])]
  rfl

/-- A proof that matched: the session is open with its key, and it is recorded. -/
theorem opened_does {x : Session} {k : Nat} (hk : k < s.sec.sessions.length) (hq : s.sec.quarantine = false) :
    ((opened s k x).session k).state = .open_ ∧ ((opened s k x).session k).key = s.sessionKey x
      ∧ ((opened s k x).session k).seq = 0 ∧ Reports s (opened s k x) 0x215
      ∧ (opened s k x).sec.proofFails = (if x.role = 0 then s.sec.proofFails else 0) ∧ (opened s k x).out = s.out := by
  obtain ⟨f, hs1, hf⟩ : ∃ f, (if x.role == 0 then s else { s with sec := { s.sec with proofFails := 0 } })
      = ({ s with sec := { s.sec with proofFails := f } } : State) ∧ f = (if x.role = 0 then s.sec.proofFails else 0) := by
    by_cases hr : x.role = 0
    · exact ⟨s.sec.proofFails, if_pos (by simpa using hr), by rw [if_pos hr]⟩
    · exact ⟨0, if_neg (by simpa using hr), by rw [if_neg hr]⟩
  unfold opened
  dsimp only
  rw [hs1]
  rw [hq, ← hf]
  generalize hm : State.modSession _ k _ = m
  have hn := logs_note m .sessionOpened .ch [x.number, x.role, x.slot] none
  have hses : m.session k = { s.session k with state := .open_, key := s.sessionKey x, seq := 0, lastTick := s.time.tick } := by
    rw [← hm]
    exact session_modSession _ _ hk
  have hj : m.journal = s.journal := by rw [← hm]; rfl
  have ht : m.time = s.time := by rw [← hm]; rfl
  have ho : m.out = s.out := by rw [← hm]; rfl
  have hp : m.sec.proofFails = f := by rw [← hm]; rfl
  have hr := reports_note (s := s) (u := m) (by rw [hj]) (by rw [ht]) .sessionOpened .ch [x.number, x.role, x.slot] none
  generalize m.note .sessionOpened .ch [x.number, x.role, x.slot] none = t at hn hr
  exact ⟨by rw [hn.session, hses], by rw [hn.session, hses], by rw [hn.session, hses], hr, by rw [hn.sec, hp], hn.out.trans ho⟩

/-- A failed proof before the fifth in a row: it is counted and recorded. -/
theorem failedProof_counts {role slot : Nat} (hf : s.sec.proofFails < 4) :
    (failedProof s role slot).sec = { s.sec with proofFails := s.sec.proofFails + 1 }
      ∧ Reports s (failedProof s role slot) 0x217 ∧ (failedProof s role slot).out = s.out := by
  unfold failedProof
  have hn := logs_note s .proofFailed .ch [role, slot] none
  have hr := reports_note (s := s) (u := s) List.prefix_rfl rfl .proofFailed .ch [role, slot] none
  generalize s.note .proofFailed .ch [role, slot] none = m at hn hr ⊢
  have hmin : min 255 (m.sec.proofFails + 1) = s.sec.proofFails + 1 := by
    rw [hn.sec]
    omega
  dsimp only
  rw [hmin, if_neg (by simp; omega)]
  exact ⟨by rw [hn.sec], hr, hn.out⟩

/-- The Quarantine begins with the level Off and held by no session. -/
theorem enterQuarantine_does (hlen : s.sec.sessions.length = 4) (hl : s.sec.level = 0)
    (hd : ∀ y ∈ s.sec.sessions, y.debug = false) :
    (enterQuarantine s).sec.quarantine = true ∧ (enterQuarantine s).sec.quarantines = s.sec.quarantines + 1
      ∧ Reports s (enterQuarantine s) 0x111 ∧ (enterQuarantine s).out = s.out
      ∧ ∀ y ∈ (enterQuarantine s).sec.sessions, y.state ≠ .free → y.role = 0 := by
  unfold enterQuarantine
  generalize hq : ({ s with sec := { s.sec with quarantine := true, quarantines := s.sec.quarantines + 1 } } : State) = q
  have hqs : q.sec = { s.sec with quarantine := true, quarantines := s.sec.quarantines + 1 } := by rw [← hq]
  have hqj : q.journal = s.journal := by rw [← hq]
  have hqt : q.time = s.time := by rw [← hq]
  have hqo : q.out = s.out := by rw [← hq]
  have hc := freed_closeWhere (s := q) (by rw [hqs]; exact hd) (fun x => x.role != 0)
  dsimp only
  generalize closeWhere q (fun x => x.role != 0) = b at hc ⊢
  have hleft : ∀ y ∈ b.sec.sessions, y.state ≠ .free → y.role = 0 := fun y hy hf => by
    have := hc.left (by rw [hqs]; exact hlen) hy hf
    simpa using this
  have hbl : b.sec.level = 0 := by rw [hc.sec, hqs]; exact hl
  have hbd : ∀ y ∈ b.sec.sessions, y.debug = false := by
    intro y hy
    obtain ⟨k, hk, rfl⟩ := mem_sessions hy
    have hkq : k < q.sec.sessions.length := hc.length ▸ hk
    have hdq : (q.session k).debug = false := hd _ (by
      have := session_mem hkq
      rw [hqs] at this
      exact this)
    rw [hc.session k]
    split
    · rfl
    · exact hdq
  rw [levelOff_off hbl hbd]
  have hn := logs_note b .quarantineEntered .ch [] none
  have hr := reports_note (s := s) (u := b) (by rw [← hqj]; exact hc.closes.inbox)
    (by rw [hc.closes.time, hqt]) .quarantineEntered .ch [] none
  generalize b.note .quarantineEntered .ch [] none = t at hn hr
  refine ⟨by rw [hn.sec, hc.sec, hqs], by rw [hn.sec, hc.sec, hqs], hr, hn.out.trans (hc.closes.out.trans hqo), ?_⟩
  rw [hn.sec]
  exact hleft

/-- The fifth failed proof in a row begins the Quarantine (R471, R472). -/
theorem failedProof_fifth {role slot : Nat} (hlen : s.sec.sessions.length = 4) (hf : s.sec.proofFails = 4)
    (hq : s.sec.quarantine = false) (hl : s.sec.level = 0) (hd : ∀ y ∈ s.sec.sessions, y.debug = false) :
    (failedProof s role slot).sec.quarantine = true
      ∧ (failedProof s role slot).sec.quarantines = s.sec.quarantines + 1
      ∧ Reports s (failedProof s role slot) 0x111 ∧ (failedProof s role slot).out = s.out
      ∧ ∀ y ∈ (failedProof s role slot).sec.sessions, y.state ≠ .free → y.role = 0 := by
  unfold failedProof
  have hn := logs_note s .proofFailed .ch [role, slot] none
  generalize s.note .proofFailed .ch [role, slot] none = m at hn ⊢
  have hms := hn.sec
  dsimp only
  rw [if_pos (by simp [hms, hf, hq])]
  generalize hb : ({ m with sec := { m.sec with proofFails := min 255 (m.sec.proofFails + 1) } } : State) = b
  have hbs : b.sec = { s.sec with proofFails := min 255 (m.sec.proofFails + 1) } := by rw [← hb, ← hms]
  have hbi : s.journal.inbox <+: b.journal.inbox := by rw [← hb]; exact hn.inbox
  have hbt : b.time = s.time := by rw [← hb]; exact hn.time
  have hbo : b.out = s.out := by rw [← hb]; exact hn.out
  obtain ⟨h1, h2, h3, h4, h5⟩ := enterQuarantine_does (s := b) (by rw [hbs]; exact hlen) (by rw [hbs]; exact hl)
    (by rw [hbs]; exact hd)
  exact ⟨h1, by rw [h2, hbs], h3.since hbi (by rw [hbt]), h4.trans hbo, h5⟩

end
/-! ## Messages of a session and its timers (R466 to R471) -/

theorem exec_plain {s : State} {i : Instr} {cmd : Nat} {h : Teller} (ht : tellerOf i = some (cmd, h)) (hup : s.chartUp = true)
    (hh : s.inHold = false) (hv : h.tver = 1) (hl : h.length ≤ 1024) (ha : h.auth = false) :
    exec i s = .next (plainRequest s.heard cmd h) := by
  rw [exec_up ht hup hh, tellerNow_plain hv hl ha]

/-- An answer that leaves security as it is. -/
theorem completes_refusal {s : State} {i : Instr} {h : Teller} {cmd status : Nat} {p : List Byte}
    (he : exec i s = .next (replied s.heard h cmd none status p)) :
    Completes i s (fun t => Sends s t (.teller h.eid (tellerBody none cmd status h.session.toNat h.seq.toNat p))
      ∧ t.sec = s.sec) :=
  .of he ⟨sends_replied (heard_out s), by rw [replied_sec, heard_sec]⟩

theorem heard_power (s : State) : s.heard.power = s.power := by
  obtain ⟨c, hc⟩ := heard_eq s
  rw [hc]

section
variable {s : State} {h : Teller} {k : Nat}

/-- OPEN of the next session in the first free slot. -/
theorem completes_open (hinv : s.Inv) (he : exec (.open_ h) s = .next (plainRequest s.heard 2 h))
    (hb : s.fuses.lifecycle ≠ 0) (hl : 4 ≤ h.payload.length) (hr : arg h 0 1 ≤ 3) (hs : arg h 1 1 ≤ 3)
    (hq : s.sec.quarantine = false ∨ arg h 0 1 ≤ 1) (hp : s.power.state ≠ 7) (hk : k < 4)
    (hfree : (s.session k).state = .free) (hfirst : ∀ j, j < k → (s.session j).state ≠ .free) (h0 : s.sec.nextSession ≠ 0)
    (hu : ∀ y ∈ s.sec.sessions, y.state ≠ .free → y.number ≠ s.sec.nextSession) :
    Completes (.open_ h) s (fun t => t.session k = openingSession s h
      ∧ t.sec.draws = s.sec.draws + 1 ∧ t.sec.nextSession = (s.sec.nextSession + 1) % 2 ^ 16
      ∧ Sends s t (.teller h.eid (tellerBody none 2 0 h.session.toNat h.seq.toNat
          (leBytes 2 s.sec.nextSession ++ leBytes 2 0 ++ leBytes 32 (Config.nonce s.sec.draws).toNat)))) := by
  have hlen : s.sec.sessions.length = 4 := hinv.2.2.2.2.1
  have hwf : KV.wf s.chart = true := hinv.2.2.2.2.2.1
  have hopen : openingSession s.heard h = openingSession s h := by
    unfold openingSession
    rw [heard_sec, heard_time, rawN_heard hwf (by decide) (by decide) (apart (by decide)),
      rawN_heard hwf (by decide) (by decide) (apart (by decide))]
  have e := openSession_ok (s := s.heard) (h := h) (k := k) (by rw [heard_sec]; exact hlen) hl hr hs
    (by rw [heard_sec]; exact hq) (by rw [heard_power]; exact hp) hk (by rw [heard_session]; exact hfree)
    (fun j hj => by rw [heard_session]; exact hfirst j hj) (by rw [heard_sec]; exact h0) (by rw [heard_sec]; exact hu)
  rw [hopen, heard_sec] at e
  rw [plainRequest_open (code := .ok) (by rw [heard_fuses]; exact hb) e] at he
  have hd : (s.heard.drawn s.sec.nextSession).sec.sessions = s.sec.sessions := by
    show s.heard.sec.sessions = _
    rw [heard_sec]
  refine .of he ⟨?_, ?_, ?_, sends_replied ?_⟩
  · rw [replied_session]
    exact session_modSession _ _ (by rw [hd]; omega)
  · rw [replied_sec]
    show s.heard.sec.draws + 1 = _
    rw [heard_sec]
  · rw [replied_sec]
    rfl
  · rw [drawn_modSession_out, heard_out]

/-- What the Operator's time leaves as it was. -/
theorem proveTimed_keeps (s : State) (x : Session) :
    (s.proveTimed x).fuses = s.fuses ∧ (s.proveTimed x).sec.sessions = s.sec.sessions
      ∧ (s.proveTimed x).sec.proofFails = s.sec.proofFails ∧ (s.proveTimed x).sec.quarantine = s.sec.quarantine
      ∧ (s.proveTimed x).sec.level = s.sec.level ∧ (s.proveTimed x).sec.quarantines = s.sec.quarantines
      ∧ (s.proveTimed x).journal = s.journal ∧ (s.proveTimed x).time = s.time ∧ (s.proveTimed x).out = s.out := by
  obtain ⟨t, ht⟩ := proveTimed_eq s x
  rw [ht]
  exact ⟨rfl, rfl, rfl, rfl, rfl, rfl, rfl, rfl, rfl⟩

theorem verifier_congr {a b : State} (h : b.fuses = a.fuses) (x : Session) : b.verifier x = a.verifier x := by
  unfold State.verifier
  rw [h]

theorem sessionKey_congr {a b : State} (h : b.fuses = a.fuses) (x : Session) : b.sessionKey x = a.sessionKey x := by
  unfold State.sessionKey
  rw [verifier_congr h]

/-- Does the proof match at the state before its message is counted. -/
def ProofGood (s : State) (h : Teller) (x : Session) : Prop :=
  (KV.find? s.fuses.keys (x.role * 4 + x.slot)).map (·.1) = some 1
    ∧ h.payload = hmac384 (s.verifier x) (proofOver "DECESK-PROVE".toList x)

theorem proofGood_iff {g : State} (hf : g.fuses = s.fuses) {x : Session} :
    g.proves x h.payload = true ↔ ProofGood s h x := by
  rw [proves_iff, verifier_congr hf, hf]
  rfl

theorem Proving.heard (hn : Proving s h k) : Proving s.heard h k where
  lt := hn.lt
  opening := by rw [heard_session]; exact hn.opening
  number := by rw [heard_session]; exact hn.number
  first := fun j hj => by rw [heard_session]; exact hn.first j hj

/-- What PROVE finds in the state in which it acts. -/
theorem proveSession_heard (hinv : s.Inv) (hn : Proving s h k) (hq : s.sec.quarantine = false) :
    ∃ g : State, g.fuses = s.fuses ∧ g.sec.sessions = s.sec.sessions ∧ g.sec.proofFails = s.sec.proofFails
      ∧ g.sec.quarantine = false ∧ g.sec.level = s.sec.level ∧ g.sec.quarantines = s.sec.quarantines
      ∧ g.journal = s.journal ∧ g.time = s.time ∧ g.out = s.out
      ∧ proveSession s.heard h = if g.proves (s.session k) h.payload then
          (opened g k (s.session k), .ok, some (g.sessionKey (s.session k), leBytes 4 (s.session k).idle))
        else (failedProof (g.modSession k (fun _ => {})) (s.session k).role (s.session k).slot, .auth, none) := by
  have e := proveSession_eq (s := s.heard) (by rw [heard_sec]; exact hinv.2.2.2.2.1) hn.heard (by rw [heard_sec]; exact hq)
  obtain ⟨h1, h2, h3, h4, h5, h6, h7, h8, h9⟩ := proveTimed_keeps s.heard (s.heard.session k)
  rw [heard_session] at *
  exact ⟨s.heard.proveTimed (s.session k), h1.trans (heard_fuses s), h2.trans (by rw [heard_sec]),
    h3.trans (by rw [heard_sec]), h4.trans (by rw [heard_sec]; exact hq), h5.trans (by rw [heard_sec]),
    h6.trans (by rw [heard_sec]), h7.trans (heard_inbox s), h8.trans (heard_time s), h9.trans (heard_out s), e⟩

theorem completes_proved (hinv : s.Inv) (he : exec (.prove h) s = .next (plainRequest s.heard 3 h))
    (hb : s.fuses.lifecycle ≠ 0) (hq : s.sec.quarantine = false) (hn : Proving s h k) (hg : ProofGood s h (s.session k)) :
    Completes (.prove h) s (fun t => (t.session k).state = .open_ ∧ (t.session k).key = s.sessionKey (s.session k)
      ∧ (t.session k).seq = 0 ∧ Reports s t 0x215
      ∧ t.sec.proofFails = (if (s.session k).role = 0 then s.sec.proofFails else 0)
      ∧ Sends s t (.teller h.eid (tellerBody (some (s.sessionKey (s.session k))) 3 0 h.session.toNat 0
          (leBytes 4 (s.session k).idle)))) := by
  obtain ⟨g, hf, hses, hp, hgq, -, -, hj, ht, ho, e⟩ := proveSession_heard hinv hn hq
  rw [if_pos ((proofGood_iff hf).mpr hg), sessionKey_congr hf] at e
  rw [plainRequest_proved (by rw [heard_fuses]; exact hb) e] at he
  obtain ⟨h1, h2, h3, h4, h5, h6⟩ := opened_does (s := g) (x := s.session k) (k := k)
    (by rw [hses, hinv.2.2.2.2.1]; exact hn.lt) hgq
  rw [sessionKey_congr hf] at h2
  rw [hp] at h5
  generalize opened g k (s.session k) = m at *
  refine .of he ⟨?_, ?_, ?_, (h4.since (by rw [hj]) (by rw [ht])).replied .., ?_,
    sends_replied (h := { h with seq := 0 }) (h6.trans ho)⟩
  · rw [replied_session, h1]
  · rw [replied_session, h2]
  · rw [replied_session, h3]
  · rw [replied_sec, h5]

theorem completes_unproved (hinv : s.Inv) (he : exec (.prove h) s = .next (plainRequest s.heard 3 h))
    (hb : s.fuses.lifecycle ≠ 0) (hq : s.sec.quarantine = false) (hn : Proving s h k) (hg : ¬ ProofGood s h (s.session k))
    (hf4 : s.sec.proofFails < 4) :
    Completes (.prove h) s (fun t => (t.session k).state = .free ∧ Reports s t 0x217
      ∧ t.sec.proofFails = s.sec.proofFails + 1 ∧ t.sec.quarantine = false
      ∧ Sends s t (.teller h.eid (tellerBody none 3 9 h.session.toNat h.seq.toNat []))) := by
  obtain ⟨g, hf, hses, hp, hgq, -, -, hj, ht, ho, e⟩ := proveSession_heard hinv hn hq
  rw [if_neg (fun hpr => hg ((proofGood_iff hf).mp hpr))] at e
  rw [plainRequest_unproved (code := .auth) (by rw [heard_fuses]; exact hb) e] at he
  obtain ⟨h1, h2, h3⟩ := failedProof_counts (s := g.modSession k (fun _ => {})) (role := (s.session k).role)
    (slot := (s.session k).slot) (by show g.sec.proofFails < 4; rw [hp]; exact hf4)
  have hfree : (g.modSession k (fun _ => {})).session k = {} := session_freed g k
  have hm : (g.modSession k (fun _ => {})).sec.proofFails = s.sec.proofFails
      ∧ (g.modSession k (fun _ => {})).sec.quarantine = false ∧ (g.modSession k (fun _ => {})).journal = s.journal
      ∧ (g.modSession k (fun _ => {})).time = s.time ∧ (g.modSession k (fun _ => {})).out = s.out := ⟨hp, hgq, hj, ht, ho⟩
  obtain ⟨mp, mq, mj, mt, mo⟩ := hm
  generalize g.modSession k (fun _ => {}) = m at *
  generalize failedProof m (s.session k).role (s.session k).slot = t at *
  refine .of he ⟨?_, (h2.since (by rw [mj]) (by rw [mt])).replied .., ?_, ?_, sends_replied (h3.trans mo)⟩
  · rw [replied_session, session_of_sec (a := m) (by rw [h1]) k, hfree]
  · rw [replied_sec, h1, ← mp]
  · rw [replied_sec, h1]
    exact mq

theorem completes_quarantined (hinv : s.Inv) (he : exec (.prove h) s = .next (plainRequest s.heard 3 h))
    (hb : s.fuses.lifecycle ≠ 0) (hq : s.sec.quarantine = false) (hn : Proving s h k) (hg : ¬ ProofGood s h (s.session k))
    (hf4 : s.sec.proofFails = 4) (hl : s.sec.level = 0) (hd : ∀ y ∈ s.sec.sessions, y.debug = false) :
    Completes (.prove h) s (fun t => t.sec.quarantine = true ∧ t.sec.quarantines = s.sec.quarantines + 1
      ∧ Reports s t 0x111 ∧ (∀ y ∈ t.sec.sessions, y.state ≠ .free → y.role = 0)) := by
  obtain ⟨g, hf, hses, hp, hgq, hgl, hgn, hj, ht, ho, e⟩ := proveSession_heard hinv hn hq
  rw [if_neg (fun hpr => hg ((proofGood_iff hf).mp hpr))] at e
  rw [plainRequest_unproved (code := .auth) (by rw [heard_fuses]; exact hb) e] at he
  have hlen : (g.modSession k (fun _ => {})).sec.sessions.length = 4 := by
    show (g.sec.sessions.modify k _).length = 4
    rw [List.length_modify, hses]
    exact hinv.2.2.2.2.1
  have hmd : ∀ y ∈ (g.modSession k (fun _ => {})).sec.sessions, y.debug = false := by
    intro y hy
    obtain ⟨j, hjl, rfl⟩ := mem_sessions hy
    by_cases hjk : j = k
    · rw [hjk, session_freed]
    · rw [session_modSession_ne g _ hjk, session_of_sec hses]
      exact hd _ (session_mem (by rw [hinv.2.2.2.2.1]; omega))
  obtain ⟨h1, h2, h3, h4, h5⟩ := failedProof_fifth (s := g.modSession k (fun _ => {})) (role := (s.session k).role)
    (slot := (s.session k).slot) hlen (hp.trans hf4) hgq (hgl.trans hl) hmd
  have hm : (g.modSession k (fun _ => {})).sec.quarantines = s.sec.quarantines
      ∧ (g.modSession k (fun _ => {})).journal = s.journal ∧ (g.modSession k (fun _ => {})).time = s.time := ⟨hgn, hj, ht⟩
  obtain ⟨mn, mj, mt⟩ := hm
  generalize g.modSession k (fun _ => {}) = m at *
  generalize failedProof m (s.session k).role (s.session k).slot = t at *
  exact .of he ⟨h1, h2.trans (by rw [mn]), (h3.since (by rw [mj]) (by rw [mt])).replied .., h5⟩

end

/-- A halt of a calm Till that is due ends with its record (R479). -/
theorem completes_haltMaxTicks {s : State} (hinv : s.Inv) {n d : Nat} (hn : s.build.hasTill n = true)
    (hh : (s.till n).halted = some d) (hd : d ≤ s.time.tick) (hni : (s.till n).ni = [])
    (hrel : ∀ p ∈ (s.till n).folios, p.2.opc ≠ .release) (hfail : ∀ u ∈ s.tills, u.failDue = none) :
    Completes (.haltMaxTicks n) s (fun t => t.till n = { s.till n with halted := none, idleTicks := 0 } ∧ Reports s t 0x113
      ∧ t.out = s.out) := by
  have hlt := lt_tills_length hinv hn
  have he : exec (.haltMaxTicks n) s = .next (worked (endHalt s n 2) n) := by
    show execHaltMaxTicks n s = _
    unfold execHaltMaxTicks
    rw [if_neg (by simp [hn]), hh, if_pos (by simpa using hd)]
  have hend : endHalt s n 2 = (s.modTill n (fun u => { u with halted := none })).note .debugHaltEnded .ch [n, 2] := by
    unfold endHalt
    rw [if_neg (by simp [hh])]
  rw [hend] at he
  have hm : (s.modTill n (fun u => { u with halted := none })).till n = { s.till n with halted := none } := till_modTill s _ hlt
  have hmf : ∀ u ∈ (s.modTill n (fun u => { u with halted := none })).tills, u.failDue = none := by
    intro u hu
    obtain ⟨j, hj, rfl⟩ := List.mem_iff_getElem.mp hu
    have hj' : j < s.tills.length := by simpa [State.modTill] using hj
    have hf := hfail _ (List.getElem_mem hj')
    simp only [State.modTill, List.getElem_modify]
    split
    · exact hf
    · exact hf
  have hml : (s.modTill n (fun u => { u with halted := none })).tills.length = s.tills.length := by simp [State.modTill]
  have hmj : (s.modTill n (fun u => { u with halted := none })).journal = s.journal := rfl
  have hmt : (s.modTill n (fun u => { u with halted := none })).time = s.time := rfl
  have hmo : (s.modTill n (fun u => { u with halted := none })).out = s.out := rfl
  generalize s.modTill n (fun u => { u with halted := none }) = m at *
  have hl := logs_note m .debugHaltEnded .ch [n, 2] none
  have hr := reports_note (s := s) (u := m) (by rw [hmj]) (by rw [hmt]) .debugHaltEnded .ch [n, 2] none
  generalize m.note .debugHaltEnded .ch [n, 2] none = t at *
  have htn : t.till n = { s.till n with halted := none } := (hl.till n).trans hm
  have htl : n < t.tills.length := by rw [hl.tills, hml]; exact hlt
  rw [worked_calm htl (by rw [htn]; exact hni) (by rw [htn]; exact hrel) (by rw [hl.tills]; exact hmf)] at he
  refine .of he ⟨?_, hr, hl.out.trans hmo⟩
  rw [till_modTill t _ htl, htn]

/-- Settles O57: OPEN and PROVE by their outcomes, the timers by their conditions. -/
theorem sessionsOpenProveAndEnd : Obligations.SessionsOpenProveAndEnd := by
  unfold Obligations.SessionsOpenProveAndEnd
  intro s h k hinv hk role slot x
  have hlen : s.sec.sessions.length = 4 := hinv.2.2.2.2.1
  have hlen' : s.heard.sec.sessions.length = 4 := by rw [heard_sec]; exact hlen
  refine ⟨fun hup hh hv hl ha => ?_, fun hst hdue => ?_, fun hno => ?_, fun hlive hdeb hdue => ?_, fun hno => ?_,
    fun n d hn hd => ⟨fun hlt => ?_, fun hle hni hrel hfail => completes_haltMaxTicks hinv hn hd hle hni hrel hfail⟩,
    fun n hn hd => ?_⟩
  · have heo : exec (.open_ h) s = .next (plainRequest s.heard 2 h) := exec_plain rfl hup hh hv hl ha
    have hep : exec (.prove h) s = .next (plainRequest s.heard 3 h) := exec_plain rfl hup hh hv hl ha
    refine ⟨fun hb => ?_, fun hb hpl hr hs => ?_, fun hb hq hst hnum hfirst => ?_⟩
    · have hb' : s.heard.fuses.lifecycle = 0 := by rw [heard_fuses]; exact hb
      rw [plainRequest_open_blank hb'] at heo
      rw [plainRequest_prove_blank hb'] at hep
      exact ⟨completes_refusal heo, completes_refusal hep⟩
    · have hb' : s.heard.fuses.lifecycle ≠ 0 := by rw [heard_fuses]; exact hb
      refine ⟨fun hq h1 => ?_, fun hq hbusy => ?_, fun hq hp hfree hfirst h0 hu =>
        completes_open hinv heo hb hpl hr hs hq hp hk hfree hfirst h0 hu⟩
      · rw [plainRequest_open (code := .denied) hb' (openSession_denied hpl hr hs (by rw [heard_sec]; exact hq) h1)] at heo
        exact completes_refusal heo
      · rw [plainRequest_open (code := .busy) hb' (openSession_busy hlen' hpl hr hs (by rw [heard_sec]; exact hq) (by
          rw [heard_sec, heard_power]; exact hbusy))] at heo
        exact completes_refusal heo
    · have hn : Proving s h k := ⟨hk, hst, hnum, hfirst⟩
      intro v good key
      exact ⟨fun hg => completes_proved hinv hep hb hq hn hg, fun hg hf => completes_unproved hinv hep hb hq hn hg hf,
        fun hg hf hl0 hd => completes_quarantined hinv hep hb hq hn hg hf hl0 hd⟩
  · show execProveWindow k s = _
    unfold execProveWindow
    rw [if_pos]
    simp only [Bool.and_eq_true, beq_iff_eq]
    exact ⟨hst, due_eq_true hdue⟩
  · show execProveWindow k s = _
    unfold execProveWindow
    rw [if_neg]
    simp only [Bool.and_eq_true, beq_iff_eq]
    rintro ⟨hst, hdue⟩
    rcases hno with hno | hno
    · exact hno hst
    · rw [due_eq_false hno] at hdue
      exact absurd hdue (by decide)
  · obtain ⟨hr, hfree, ho, hrest⟩ := closeSession_plain_does (s := s) (k := k) hlive hdeb
    refine .of (?_ : exec (.sessionIdle k) s = .next (closeSession s k)) ⟨hfree, hr, ho, hrest⟩
    show execSessionIdle k s = _
    unfold execSessionIdle
    rw [if_pos]
    simp only [Bool.and_eq_true]
    exact ⟨hlive, due_eq_true hdue⟩
  · show execSessionIdle k s = _
    unfold execSessionIdle
    rw [if_neg]
    simp only [Bool.and_eq_true]
    rintro ⟨hlive, hdue⟩
    rcases hno with hno | hno
    · exact absurd (hno.symm.trans hlive) (by decide)
    · rw [due_eq_false hno] at hdue
      exact absurd hdue (by decide)
  · show execHaltMaxTicks n s = _
    unfold execHaltMaxTicks
    rw [if_neg (by simp [hn]), hd, if_neg (by simpa using hlt)]
  · show execHaltMaxTicks n s = _
    unfold execHaltMaxTicks
    rw [if_neg (by simp [hn]), hd, if_neg (by simp)]

end Sys2Proof.Machine
end

section
/-! PROOFS. The port's decision and the bank arbiter's (R128, R349, R352, R354, R359 to R361). -/

namespace Sys2Proof.Machine

/-! ## What charging, granting, marking and asking leave of a Wicket -/

/-- `b` is `a` with no request sent and no credit taken at Wicket `w`; with `m` set, its admission entries and the messages sent are
as they were too. -/
structure Ported (m : Bool) (w : Nat) (a b : State) : Prop where
  entries : SameEntries a b
  q : b.net.q = a.net.q
  tills : b.tills = a.tills
  length : b.wickets.length = a.wickets.length
  creds : (b.wicket w).creds = (a.wicket w).creds
  seqs : (b.wicket w).entries.map (·.seq) = (a.wicket w).entries.map (·.seq)
  still : m = true → (b.wicket w).entries = (a.wicket w).entries ∧ b.out = a.out

section
variable {m : Bool} {w : Nat}

theorem Ported.refl (a : State) : Ported m w a a := ⟨.refl a, rfl, rfl, rfl, rfl, rfl, fun _ => ⟨rfl, rfl⟩⟩

theorem Ported.trans {a b c : State} (h : Ported m w a b) (g : Ported m w b c) : Ported m w a c where
  entries := h.entries.trans g.entries
  q := g.q.trans h.q
  tills := g.tills.trans h.tills
  length := g.length.trans h.length
  creds := g.creds.trans h.creds
  seqs := g.seqs.trans h.seqs
  still hm := ⟨(g.still hm).1.trans (h.still hm).1, (g.still hm).2.trans (h.still hm).2⟩

theorem Ported.foldl {α : Type} {f : State → α → State} (hf : ∀ s x, Ported m w s (f s x)) (l : List α) :
    ∀ s, Ported m w s (l.foldl f s) := by
  induction l with
  | nil => exact .refl
  | cons x l ih => exact fun s => (hf s x).trans (ih (f s x))

theorem Logs.ported {a b : State} (h : Logs a b) : Ported m w a b where
  entries := h.entries
  q := by rw [h.net]
  tills := h.tills
  length := by rw [h.wickets]
  creds := by rw [h.wicket]
  seqs := by rw [h.wicket]
  still _ := ⟨by rw [h.wicket], h.out⟩

/-- A change of the Wicket that keeps its credits and its admission entries in their order. -/
theorem ported_modWicket (s : State) {f : Wicket → Wicket} (hc : (f (s.wicket w)).creds = (s.wicket w).creds)
    (hs : (f (s.wicket w)).entries.map (·.seq) = (s.wicket w).entries.map (·.seq))
    (he : m = true → (f (s.wicket w)).entries = (s.wicket w).entries) : Ported m w s (s.modWicket w f) := by
  have hw : (s.modWicket w f).wicket w = f (s.wicket w) ∨ (s.modWicket w f).wicket w = s.wicket w := by
    by_cases h : w < s.wickets.length
    · exact .inl (wicket_modWicket s f h)
    · exact .inr (by simp [State.wicket, State.modWicket, h])
  refine ⟨.of_eq rfl rfl, rfl, rfl, List.length_modify .., ?_, ?_, fun hm => ⟨?_, rfl⟩⟩
  · rcases hw with e | e <;> rw [e]
    exact hc
  · rcases hw with e | e <;> rw [e]
    exact hs
  · rcases hw with e | e <;> rw [e]
    exact he hm

/-- A change of the Wicket beside its admission entries and credits. -/
theorem ported_aside (s : State) {f : Wicket → Wicket} (hc : ∀ x, (f x).creds = x.creds) (he : ∀ x, (f x).entries = x.entries) :
    Ported m w s (s.modWicket w f) :=
  ported_modWicket s (hc _) (by rw [he]) (fun _ => he _)

theorem ported_modShape (s : State) (n : Nat) (g : AgShape → AgShape) : Ported m w s (s.modShape n g) :=
  ⟨.of_eq rfl rfl, rfl, rfl, rfl, rfl, rfl, fun _ => ⟨rfl, rfl⟩⟩

theorem ported_sendW (s : State) (t : Nat) (x : WMsg) : Ported m w s (s.sendW w t x) := by
  unfold State.sendW
  have h := logs_packet s (.wicket w) (.till t) (c := 2) (by decide) 1
  generalize s.packet (.wicket w) 2 1 (.till t) = p at h ⊢
  exact h.ported.trans ⟨.of_eq rfl rfl, rfl, rfl, rfl, rfl, rfl, fun _ => ⟨rfl, rfl⟩⟩

theorem ported_send (s : State) (o : Out) : Ported false w s (s.send o) := by
  obtain ⟨l, hl, -⟩ := send_eq s o
  rw [hl]
  exact ⟨.of_eq rfl rfl, rfl, rfl, rfl, rfl, rfl, fun h => absurd h (by decide)⟩

theorem ported_chargeAll (s : State) (a c : Nat) : Ported m w s (chargeAll s w a c) := by
  have e : chargeAll s w a c = ((s.modWicket w (fun x => { x with shaper := x.shaper.charge })).modShape a
      (fun x => { x with sub := x.sub.charge })).modShape a (fun x => { x with svc := x.svc.modify c Shaper.charge }) := rfl
  have h : Ported m w s (s.modWicket w (fun x => { x with shaper := x.shaper.charge })) :=
    ported_aside s (fun _ => rfl) (fun _ => rfl)
  rw [e]
  generalize s.modWicket w (fun x => { x with shaper := x.shaper.charge }) = u at h ⊢
  exact (h.trans (ported_modShape u a _)).trans (ported_modShape _ a _)

theorem ported_delaySample (s : State) (e : Adm) : Ported m w s (delaySample s w e) := by
  unfold delaySample
  extract_lets p k s1 v
  have h1 : Ported m w s s1 :=
    ported_aside s (f := fun x => { x with delayCount := k % p }) (fun _ => rfl) (fun _ => rfl)
  split
  · exact .refl s
  · split
    · exact h1
    · exact (h1.trans (logs_sample s1 _ _ _ _).ported).trans (logs_sample _ _ _ _ _).ported

theorem ported_grantEntries (s : State) (a : Nat) (kept : Bool) (n : Nat) : Ported false w s (grantEntries s w a kept n) := by
  unfold grantEntries
  split
  · exact .refl s
  · exact (ported_aside s (f := fun x => { x with entCred := KV.put x.entCred a _ }) (fun _ => rfl) (fun _ => rfl)).trans
      (ported_send _ _)

theorem ported_regrant (s : State) (a : Nat) : Ported false w s (regrant s w a) := by
  unfold regrant
  extract_lets x c m s1 s2 c2
  have h1 : Ported false w s s1 := ported_grantEntries s a true _
  have h2 : Ported false w s s2 := h1.trans (ported_grantEntries s1 a false _)
  split
  · exact .refl s
  · split
    · exact h2.trans (ported_grantEntries s2 a false 1)
    · exact h2

theorem ported_regrantAll (s : State) (a : Nat) : Ported false w s (regrantAll s w a) := by
  unfold regrantAll
  exact (ported_regrant s a).trans (Ported.foldl (fun s n => ported_regrant s n) _ _)

/-- Marking rebuilds the entries one by one. -/
theorem markBypass_seqs (p : Adm → Bool) (l : List Adm) : ∀ r : List Adm × Nat,
    (l.foldl (fun (m : List Adm × Nat) e =>
      if p e then (m.1 ++ [{ e with bypass := some m.2 }], m.2 + 1) else (m.1 ++ [e], m.2)) r).1.map (·.seq)
      = r.1.map (·.seq) ++ l.map (·.seq) := by
  induction l with
  | nil => simp
  | cons e l ih =>
    intro r
    rw [List.foldl_cons, ih]
    split <;> simp

theorem ported_markBypass (s : State) : Ported false w s (markBypass s w) := by
  unfold markBypass
  exact ported_modWicket s rfl (markBypass_seqs _ _ _) (fun h => absurd h (by decide))

theorem ported_askLoans (s : State) : Ported m w s (askLoans s w) := by
  unfold askLoans
  dsimp only
  split
  · exact .refl s
  · refine Ported.foldl (fun s t => ?_) _ s
    split
    · exact .refl s
    · exact (ported_aside s (f := fun x => x.modLoan t (fun l => { l with asked := true })) (fun _ => rfl) (fun _ => rfl)).trans
        (ported_sendW _ t _)

end

/-! ## A request leaves (R128, R349) -/

/-- The Q flit of an admission entry that leaves on the credit `src`. -/
def leaving (w : Nat) (e : Adm) (src : Src) : QFlit where
  w := w
  till := e.till
  opc := e.opc
  aid := e.aid
  inc := e.inc
  tag := e.tag
  laddr := e.laddr
  strm := e.strm
  param := e.param
  crd := src
  bgen := e.bgen
  rgen := e.rgen
  rcpt := e.rcpt.getD 0
  cls := e.cls
  wdata := e.wdata
  origin := e.origin
  epoch := e.epoch

/-- `b` is `a` with one request sent. -/
structure Sent (w : Nat) (q : QFlit) (a b : State) : Prop where
  entries : SameEntries a b
  q : b.net.q = a.net.q ++ [q]
  tills : b.tills = a.tills
  creds : (b.wicket w).creds = (a.wicket w).creds
  seqs : (b.wicket w).entries.map (·.seq) = (a.wicket w).entries.map (·.seq)

theorem sent_sendQ (s : State) (w : Nat) (q : QFlit) : Sent w q s (sendQ s q) := by
  unfold sendQ
  extract_lets s1 s2
  have h1 : Logs s s1 := logs_packet s (.wicket q.w) (.till q.till) (c := 0) (by decide) 1
  have h2 : Logs s s2 := by
    show Logs s (ite _ _ _)
    split
    · exact h1.trans (logs_packet s1 (.wicket q.w) (.till q.till) (c := 4) (by decide) 1)
    · exact h1
  clear_value s2
  exact ⟨h2.entries.trans (.of_eq rfl rfl), congrArg (· ++ [q]) (congrArg Net.q h2.net), h2.tills,
    congrArg Wicket.creds (h2.wicket w), congrArg (fun x : Wicket => x.entries.map (·.seq)) (h2.wicket w)⟩

theorem Sent.after {w : Nat} {q : QFlit} {a b c : State} {m : Bool} (h : Sent w q b c) (g : Ported m w a b) : Sent w q a c where
  entries := g.entries.trans h.entries
  q := h.q.trans (by rw [g.q])
  tills := h.tills.trans g.tills
  creds := h.creds.trans g.creds
  seqs := h.seqs.trans g.seqs

theorem Sent.before {w : Nat} {q : QFlit} {a b c : State} {m : Bool} (h : Sent w q a b) (g : Ported m w b c) : Sent w q a c where
  entries := h.entries.trans g.entries
  q := g.q.trans h.q
  tills := g.tills.trans h.tills
  creds := g.creds.trans h.creds
  seqs := g.seqs.trans h.seqs

/-- The request is out of its entry and has its credit. -/
def State.taken (s : State) (w : Nat) (e : Adm) (src : Src) : State :=
  s.modWicket w (fun x => { (x.take e src) with entries := x.entries.filter (fun y => y.seq != e.seq) })

/-- The count of a request that leaves through the bypass. -/
def State.bypassed (s : State) (w : Nat) (src : Src) : State :=
  if src == .kept then (s.bump ⟨0x6000 + w, 9, 64⟩).gev 0x103 w else s

/-- What a request that leaves changes, from the state in which it has been counted on. -/
theorem sent_rest {w : Nat} {e : Adm} {src : Src} {b : State} :
    Sent w (leaving w e src) b
      (let s5 := sendQ (delaySample b w e) (leaving w e src)
       askLoans (markBypass (if e.origin == .agent then regrantAll s5 w e.aid.toNat else s5) w) w) := by
  have h5 : Sent w (leaving w e src) b (sendQ (delaySample b w e) (leaving w e src)) :=
    (sent_sendQ _ w _).after (ported_delaySample (m := false) b e)
  dsimp only
  generalize sendQ (delaySample b w e) (leaving w e src) = s5 at h5 ⊢
  have h6 : Sent w (leaving w e src) b (if e.origin == .agent then regrantAll s5 w e.aid.toNat else s5) := by
    split
    · exact h5.before (ported_regrantAll s5 _)
    · exact h5
  generalize (if e.origin == .agent then regrantAll s5 w e.aid.toNat else s5) = s6 at h6 ⊢
  exact (h6.before (ported_markBypass s6)).before (ported_askLoans (m := false) _)

theorem bypassed_eq (s : State) (w : Nat) (src : Src) : ∃ ch, s.bypassed w src = { s with chart := ch } := by
  unfold State.bypassed
  split
  · obtain ⟨c, hc⟩ := bump_eq s ⟨0x6000 + w, 9, 64⟩
    obtain ⟨d, hd⟩ := gev_eq (s.bump ⟨0x6000 + w, 9, 64⟩) 0x103 w
    refine ⟨d, ?_⟩
    rw [hd, hc]
  · exact ⟨s.chart, rfl⟩

/-- What a request that leaves changes. -/
theorem inject_does {s : State} {w : Nat} (hw : w < s.wickets.length) (e : Adm) (src : Src) :
    let u := inject s w e src
    u.net.q = s.net.q ++ [leaving w e src] ∧ (u.wicket w).creds = ((s.wicket w).take e src).creds
      ∧ (∀ y ∈ (u.wicket w).entries, y.seq ≠ e.seq) ∧ u.tills = s.tills := by
  intro u
  have hu : Sent w (leaving w e src) ((chargeAll (s.taken w e src) w e.aid.toNat e.cls).bypassed w src) u := sent_rest
  clear_value u
  have htw : (s.taken w e src).wicket w
      = { ((s.wicket w).take e src) with entries := (s.wicket w).entries.filter (fun y => y.seq != e.seq) } :=
    wicket_modWicket s _ hw
  have htq : (s.taken w e src).net = s.net := rfl
  have htt : (s.taken w e src).tills = s.tills := rfl
  generalize s.taken w e src = t at hu htw htq htt
  have hc : Ported false w t (chargeAll t w e.aid.toNat e.cls) := ported_chargeAll t _ _
  generalize chargeAll t w e.aid.toNat e.cls = c at hu hc
  obtain ⟨ch, hb⟩ := bypassed_eq c w src
  rw [hb] at hu
  refine ⟨hu.q.trans (congrArg (· ++ [_]) (hc.q.trans (congrArg Net.q htq))), ?_, fun y hy => ?_, hu.tills.trans (hc.tills.trans htt)⟩
  · exact hu.creds.trans (hc.creds.trans (by rw [htw]))
  · have hmem : y.seq ∈ (u.wicket w).entries.map (·.seq) := List.mem_map_of_mem hy
    rw [hu.seqs.trans hc.seqs, htw] at hmem
    obtain ⟨z, hz, hseq⟩ := List.mem_map.mp hmem
    have := (List.mem_filter.mp hz).2
    rw [← hseq]
    simpa using this

/-- A request of the bypass is counted (R349). -/
theorem inject_counts {s : State} {w : Nat} (hw : w < 9) (hwf : KV.wf s.chart = true) (e : Adm) :
    (inject s w e .kept).rawN (0x6000 + w) 9 = (s.rawN (0x6000 + w) 9 + 1) % 2 ^ 64 := by
  have hk : Apart (ekey (0x6000 + w) 9) := apart (by omega)
  have hu : Sent w (leaving w e .kept) ((chargeAll (s.taken w e .kept) w e.aid.toNat e.cls).bypassed w .kept)
      (inject s w e .kept) := sent_rest
  have ht : SameEntries s (s.taken w e .kept) := .of_eq rfl rfl
  generalize s.taken w e .kept = t at hu ht
  have hc : SameEntries t (chargeAll t w e.aid.toNat e.cls) := (ported_chargeAll (m := false) t _ _).entries
  generalize chargeAll t w e.aid.toNat e.cls = c at hu hc
  have hsc := ht.trans hc
  have hwc : KV.wf c.chart = true := (hsc.2 hwf).1
  have hb : c.bypassed w .kept = (c.bump ⟨0x6000 + w, 9, 64⟩).gev 0x103 w := if_pos (by decide)
  have hlog := logs_gev (c.bump ⟨0x6000 + w, 9, 64⟩) 0x103 w
  have hwb : KV.wf (c.bump ⟨0x6000 + w, 9, 64⟩).chart = true := chart_wf_setRawN c _ _ _ hwc
  rw [hb] at hu
  have h1 := hu.entries.rawN (hlog.chart_wf hwb) hk
  rw [h1, hlog.rawN hwb hk, rawN_bump c _ 9 64 hwc (by decide), hsc.rawN hwf hk]

/-! ## The port (R354) -/

theorem exec_requestInjection {s : State} {w : Nat} (h : s.build.hasWicket w = true) (dt : Nat) :
    exec (.requestInjection w dt) s = .next (portDecides (advance s dt) w) := if_neg (by simp [h])

theorem portDecides_bypass {a : State} {w : Nat} {e : Adm} (h : a.pickBypass w = some e) :
    portDecides a w = inject a w e .kept := by
  unfold portDecides
  rw [h]

/-- The last agent and class that the port has served. -/
def State.served (a : State) (w : Nat) (e : Adm) : State :=
  (a.modWicket w (fun x => { x with lastSub := e.aid.toNat })).modShape e.aid.toNat (fun x => { x with lastCls := e.cls })

theorem portDecides_shaped {a : State} {w : Nat} {e : Adm} {src : Src} (h : a.pickBypass w = none)
    (hs : a.pickShaped w = some e) (hc : (a.wicket w).creditFor e = some src) :
    portDecides a w = inject (a.served w e) w e src := by
  unfold portDecides
  rw [h, hs]
  dsimp only
  rw [hc]
  rfl

theorem portDecides_none {a : State} {w : Nat} (h : a.pickBypass w = none) (hs : a.pickShaped w = none) :
    portDecides a w = askLoans a w := by
  unfold portDecides
  rw [h, hs]

theorem take_creds_congr {x y : Wicket} (h : y.creds = x.creds) (e : Adm) (src : Src) :
    (y.take e src).creds = (x.take e src).creds := by
  have hcred : ∀ a t, y.cred a t = x.cred a t := fun a t => by
    unfold Wicket.cred
    rw [h]
  cases src <;> simp [Wicket.take, Wicket.modCred, Wicket.modLoan, h, Wicket.cred]

/-! ## The bank arbiter (R359 to R361) -/

theorem exec_bankArbitration {s : State} {t bank : Nat} (h : s.build.hasTill t = true) (hb : bank < 16) (dt : Nat)
    (raised : BitVec 4) (lockStart lockEnd : Bool) :
    exec (.bankArbitration t bank dt raised lockStart lockEnd) s
      = .next (arbitrate (advance s dt) t bank raised lockStart lockEnd) :=
  if_neg (by simp [h, hb])

section
variable {b : State} {t bank : Nat} {raised : BitVec 4} {lockStart lockEnd : Bool}

theorem arbitrate_held (hl : (KV.get (b.till t).banks bank {}).locked = true)
    (hd : (KV.get (b.till t).banks bank {}).debugLock = true ∨ lockEnd = false) :
    arbitrate b t bank raised lockStart lockEnd = b := by
  unfold arbitrate
  dsimp only
  rw [if_pos (by rcases hd with hd | hd <;> simp [hl, hd])]

/-- The arbiter of a bank after a decision: `x` stands in its place. -/
def State.putArb (b : State) (t bank : Nat) (x : Arb) : State :=
  b.modTill t (fun u => { u with banks := KV.put u.banks bank x })

theorem find_putArb (ht : t < b.tills.length) (x : Arb) : KV.find? ((b.putArb t bank x).till t).banks bank = some x := by
  unfold State.putArb
  rw [till_modTill b _ ht]
  exact KV.find_put ..

/-- What a decision gives the arbiter. -/
def State.arbBase (b : State) (t bank : Nat) : Arb :=
  { KV.get (b.till t).banks bank {} with
    lfsr := some (b.bankLfsr t bank), lfsrCclk := b.time.cclk, locked := false, grant := none }

theorem free_decides (hf : (KV.get (b.till t).banks bank {}).locked = false
      ∨ ((KV.get (b.till t).banks bank {}).debugLock = false ∧ lockEnd = true)) :
    ((KV.get (b.till t).banks bank {}).locked && ((KV.get (b.till t).banks bank {}).debugLock || !lockEnd)) = false := by
  rcases hf with hf | ⟨hf, he⟩ <;> simp [hf]
  simp [he]

theorem arbitrate_none (hf : (KV.get (b.till t).banks bank {}).locked = false
      ∨ ((KV.get (b.till t).banks bank {}).debugLock = false ∧ lockEnd = true))
    (hl : (List.range 4).filter (fun r => raised.getLsbD r) = []) :
    arbitrate b t bank raised lockStart lockEnd = b.putArb t bank { b.arbBase t bank with wait := [0, 0, 0, 0] } := by
  unfold arbitrate
  dsimp only
  rw [free_decides hf, if_neg Bool.false_ne_true, hl]
  rfl

/-- The wait counters after the decision for `win`. -/
def waitsAfter (wait l : List Nat) (limits win : Nat) : List Nat :=
  (List.range 4).map (fun r => if r = win ∨ r ∉ l then 0 else min (wait.getD r 0 + 1) (byteOf limits r))

theorem arbitrate_wins {win : Nat × Bool} (hf : (KV.get (b.till t).banks bank {}).locked = false
      ∨ ((KV.get (b.till t).banks bank {}).debugLock = false ∧ lockEnd = true))
    (hl : (List.range 4).filter (fun r => raised.getLsbD r) ≠ [])
    (hw : bankWinner (b.rawN 0x6800 0) (b.rawN 0x6800 1) (b.bankLfsr t bank) (KV.get (b.till t).banks bank {}).wait
      ((List.range 4).filter (fun r => raised.getLsbD r)) = win) :
    arbitrate b t bank raised lockStart lockEnd =
      (let s1 := b.putArb t bank { b.arbBase t bank with
        wait := waitsAfter (KV.get (b.till t).banks bank {}).wait ((List.range 4).filter (fun r => raised.getLsbD r))
          (b.rawN 0x6800 1) win.1
        grant := some win.1, grantTick := b.time.tick, locked := lockStart && (win.1 == 1 || win.1 == 3) }
       let s2 := if win.2 then s1.bump ⟨0x3020 + 0x80 * t, 0, 64⟩ else s1
       if lockStart && (win.1 == 1 || win.1 == 3) then s2.bump ⟨0x3020 + 0x80 * t, 1, 64⟩ else s2) := by
  unfold arbitrate
  dsimp only
  rw [free_decides hf, if_neg Bool.false_ne_true, if_neg (by simpa using hl), hw]
  have hwait : ∀ wait l limits w, waitsAfter wait l limits w = (List.range 4).map (fun r =>
      if r == w || !l.contains r then 0 else min (wait.getD r 0 + 1) (byteOf limits r)) := by
    intro wait l limits w
    unfold waitsAfter
    refine List.map_congr_left fun r _ => ?_
    by_cases hr : r = w <;> by_cases hm : r ∈ l <;> simp [hr, hm]
  rw [hwait]
  rfl

/-- One count, where `c` holds. -/
theorem rawN_bump_if {s : State} (hwf : KV.wf s.chart = true) (c : Bool) (i j : Nat) :
    (if c then s.bump ⟨i, j, 64⟩ else s).rawN i j = (if c = true then (s.rawN i j + 1) % 2 ^ 64 else s.rawN i j) := by
  cases c with
  | false => rfl
  | true => exact rawN_bump s i j 64 hwf (by decide)

theorem rawN_bump_if_ne {s : State} (hwf : KV.wf s.chart = true) (c : Bool) {i j k : Nat} (hk : ekey i k ≠ ekey i j) :
    (if c then s.bump ⟨i, j, 64⟩ else s).rawN i k = s.rawN i k := by
  cases c with
  | false => rfl
  | true => exact rawN_setRawN_ne s _ hwf hk

theorem wf_bump_if {s : State} (hwf : KV.wf s.chart = true) (c : Bool) (i j : Nat) :
    KV.wf (if c then s.bump ⟨i, j, 64⟩ else s).chart = true := by
  cases c with
  | false => exact hwf
  | true => exact chart_wf_setRawN s _ _ _ hwf

theorem till_bump_if (s : State) (c : Bool) (k : Ctr) (t : Nat) : (if c then s.bump k else s).till t = s.till t := by
  cases c <;> rfl

/-- The two counts of a decision, and the arbiter under them. -/
theorem decision_counts {s1 : State} (hwf : KV.wf s1.chart = true) (f l : Bool) (i : Nat) (t : Nat) :
    let s2 := if f then s1.bump ⟨i, 0, 64⟩ else s1
    let u := if l then s2.bump ⟨i, 1, 64⟩ else s2
    u.till t = s1.till t
      ∧ u.rawN i 0 = (if f = true then (s1.rawN i 0 + 1) % 2 ^ 64 else s1.rawN i 0)
      ∧ u.rawN i 1 = (if l = true then (s1.rawN i 1 + 1) % 2 ^ 64 else s1.rawN i 1) := by
  intro s2 u
  refine ⟨(till_bump_if s2 l _ t).trans (till_bump_if s1 f _ t), ?_, ?_⟩
  · exact (rawN_bump_if_ne (wf_bump_if hwf f i 0) l (by simp [ekey])).trans (rawN_bump_if hwf f i 0)
  · refine (rawN_bump_if (wf_bump_if hwf f i 0) l i 1).trans ?_
    rw [rawN_bump_if_ne hwf f (by simp [ekey])]

end

/-! ## Decisions and their counts (R349, R359) -/

theorem port_decides {s : State} (hinv : s.Inv) {w dt : Nat} (hw : s.build.hasWicket w = true) {a : State}
    (ha : advance s dt = a) :
    (∀ e, a.pickBypass w = some e → Completes (.requestInjection w dt) s (fun u =>
      (u.net.q = a.net.q ++ [leaving w e .kept] ∧ (u.wicket w).creds = ((a.wicket w).take e .kept).creds
        ∧ (∀ y ∈ (u.wicket w).entries, y.seq ≠ e.seq) ∧ u.tills = a.tills)
      ∧ u.rawN (0x6000 + w) 9 = (a.rawN (0x6000 + w) 9 + 1) % 2 ^ 64)) ∧
    (∀ e src, a.pickBypass w = none → a.pickShaped w = some e → (a.wicket w).creditFor e = some src →
      Completes (.requestInjection w dt) s (fun u => u.net.q = a.net.q ++ [leaving w e src]
        ∧ (u.wicket w).creds = ((a.wicket w).take e src).creds ∧ (∀ y ∈ (u.wicket w).entries, y.seq ≠ e.seq)
        ∧ u.tills = a.tills)) ∧
    (a.pickBypass w = none → a.pickShaped w = none →
      Completes (.requestInjection w dt) s (fun u => u.net.q = a.net.q
        ∧ (u.wicket w).entries = (a.wicket w).entries ∧ u.tills = a.tills ∧ u.out = a.out)) := by
  have hk := keeps_advance (.refl (m := false) s) (n := dt)
  have he := exec_requestInjection hw dt
  rw [ha] at hk he
  have hlt : w < 9 := hasWicket_lt hw
  have hlen : w < a.wickets.length := by rw [hk.wickets, hinv.2.1]; exact hlt
  have hwf : KV.wf a.chart = true := hk.chart hinv.2.2.2.2.2.1
  refine ⟨fun e h => ?_, fun e src h hs hc => ?_, fun h hs => ?_⟩
  · rw [portDecides_bypass h] at he
    exact .of he ⟨inject_does hlen e .kept, inject_counts hlt hwf e⟩
  · rw [portDecides_shaped h hs hc] at he
    have hsw : ((a.served w e).wicket w).creds = (a.wicket w).creds := by
      rw [show (a.served w e).wicket w = { a.wicket w with lastSub := e.aid.toNat } from wicket_modWicket a _ hlen]
    have hsn : (a.served w e).net = a.net := rfl
    have hst : (a.served w e).tills = a.tills := rfl
    have hsl : (a.served w e).wickets.length = a.wickets.length := List.length_modify ..
    generalize a.served w e = b at he hsw hsn hst hsl
    obtain ⟨h1, h2, h3, h4⟩ := inject_does (s := b) (w := w) (by rw [hsl]; exact hlen) e src
    generalize inject b w e src = u at he h1 h2 h3 h4
    exact .of he ⟨h1.trans (by rw [hsn]), h2.trans (take_creds_congr hsw e src), h3, h4.trans hst⟩
  · rw [portDecides_none h hs] at he
    have hp := ported_askLoans (m := true) (w := w) a
    generalize askLoans a w = u at he hp
    exact .of he ⟨hp.q, (hp.still rfl).1, hp.tills, (hp.still rfl).2⟩

theorem bank_decides {s : State} (hinv : s.Inv) {t bank dt : Nat} {raised : BitVec 4} {lockStart lockEnd : Bool}
    (ht : s.build.hasTill t = true) (hb : bank < 16) {b : State} (ha : advance s dt = b) :
    let a := KV.get (b.till t).banks bank {}
    let l := (List.range 4).filter (fun r => raised.getLsbD r)
    let win := bankWinner (b.rawN 0x6800 0) (b.rawN 0x6800 1) (b.bankLfsr t bank) a.wait l
    (a.locked = true → (a.debugLock = true ∨ lockEnd = false) →
      exec (.bankArbitration t bank dt raised lockStart lockEnd) s = .next b) ∧
    ((a.locked = false ∨ (a.debugLock = false ∧ lockEnd = true)) →
      (l = [] → Completes (.bankArbitration t bank dt raised lockStart lockEnd) s (fun u =>
        ∃ x, KV.find? (u.till t).banks bank = some x ∧ x.wait = [0, 0, 0, 0] ∧ x.grant = none ∧ x.locked = false)) ∧
      (l ≠ [] → Completes (.bankArbitration t bank dt raised lockStart lockEnd) s (fun u =>
        (∃ x, KV.find? (u.till t).banks bank = some x ∧ x.grant = some win.1 ∧ x.grantTick = b.time.tick
          ∧ x.locked = (lockStart && (win.1 == 1 || win.1 == 3)) ∧ x.wait = waitsAfter a.wait l (b.rawN 0x6800 1) win.1)
          ∧ u.rawN (0x3020 + 0x80 * t) 0 = (if win.2 = true then (b.rawN (0x3020 + 0x80 * t) 0 + 1) % 2 ^ 64
              else b.rawN (0x3020 + 0x80 * t) 0)
          ∧ u.rawN (0x3020 + 0x80 * t) 1 = (if (lockStart && (win.1 == 1 || win.1 == 3)) = true then
              (b.rawN (0x3020 + 0x80 * t) 1 + 1) % 2 ^ 64 else b.rawN (0x3020 + 0x80 * t) 1)))) := by
  intro a l win
  have hk := keeps_advance (.refl (m := false) s) (n := dt)
  have he := exec_bankArbitration ht hb dt raised lockStart lockEnd
  rw [ha] at hk he
  have hlt : t < b.tills.length := by
    rw [hk.tills]
    exact lt_tills_length hinv ht
  have hwf : KV.wf b.chart = true := hk.chart hinv.2.2.2.2.2.1
  refine ⟨fun hl hd => by rw [he, arbitrate_held hl hd], fun hf => ⟨fun hl => ?_, fun hl => ?_⟩⟩
  · rw [arbitrate_none hf hl] at he
    exact .of he ⟨_, find_putArb hlt _, rfl, rfl, rfl⟩
  · rw [arbitrate_wins (win := win) hf hl rfl] at he
    refine .of he ?_
    obtain ⟨x, hx⟩ : ∃ x : Arb, x = { b.arbBase t bank with
      wait := waitsAfter a.wait l (b.rawN 0x6800 1) win.1, grant := some win.1, grantTick := b.time.tick
      locked := lockStart && (win.1 == 1 || win.1 == 3) } := ⟨_, rfl⟩
    obtain ⟨h1, h2, h3⟩ := decision_counts (s1 := b.putArb t bank x) hwf win.2 (lockStart && (win.1 == 1 || win.1 == 3))
      (0x3020 + 0x80 * t) t
    have hfind := find_putArb (bank := bank) hlt x
    rw [← hx]
    exact ⟨⟨x, (congrArg (fun x : Till => KV.find? x.banks bank) h1).trans hfind, by rw [hx], by rw [hx], by rw [hx],
      by rw [hx]⟩, h2, h3⟩

/-- Settles O42: the choices are the port's and the arbiter's own functions; what each choice does is one lemma. -/
theorem portAndBankDecide : Obligations.PortAndBankDecide := by
  unfold Obligations.PortAndBankDecide
  intro s hinv
  refine ⟨fun w dt hw => port_decides hinv hw rfl, fun t bank dt raised lockStart lockEnd ht hb => ?_⟩
  obtain ⟨h1, h2⟩ := bank_decides (dt := dt) (raised := raised) (lockStart := lockStart) (lockEnd := lockEnd) hinv ht hb rfl
  refine ⟨h1, fun hf => ⟨(h2 hf).1, fun hl => ?_⟩⟩
  obtain ⟨u, he, hx, h3, h4⟩ := (h2 hf).2 hl
  refine ⟨u, he, hx, h3, h4.trans ?_⟩
  simp only [Bool.and_eq_true, Bool.or_eq_true, beq_iff_eq]

end Sys2Proof.Machine
end

section
/-! PROOFS. A Till at rest between its messages, and the acknowledgement of a memory write (R269, R270, R272, R519, R522). -/

namespace Sys2Proof.Machine

/-! ## Folios of a Till -/

theorem KV.find_mod {α : Type} (k : Nat) (f : α → α) : ∀ m : KV α, KV.find? (KV.mod m k f) k = (KV.find? m k).map f
  | [] => rfl
  | (j, v) :: m => by
    have ih := KV.find_mod k f m
    unfold KV.mod at ih ⊢
    simp only [List.map_cons]
    by_cases h : j = k
    · simp [KV.find?, h]
    · simp only [h, if_false, KV.find?, ih]
      split <;> rfl

theorem KV.find_mod_ne {α : Type} {k j : Nat} (h : j ≠ k) (f : α → α) : ∀ m : KV α, KV.find? (KV.mod m k f) j = KV.find? m j
  | [] => rfl
  | (i, v) :: m => by
    have ih := KV.find_mod_ne h f m
    unfold KV.mod at ih ⊢
    simp only [List.map_cons]
    by_cases hi : i = k
    · simp [KV.find?, hi, Ne.symm h, ih]
    · simp [KV.find?, hi, ih]

theorem folio_modFolio {s : State} {t : Nat} (ht : t < s.tills.length) (f : Nat) (g : Folio → Folio) :
    (s.modFolio t f g).folio? t f = (s.folio? t f).map g := by
  unfold State.folio? State.modFolio
  rw [till_modTill s _ ht]
  exact KV.find_mod f g _

theorem folio_modFolio_ne {s : State} {t : Nat} (ht : t < s.tills.length) {f h : Nat} (hne : h ≠ f) (g : Folio → Folio) :
    (s.modFolio t f g).folio? t h = s.folio? t h := by
  unfold State.folio? State.modFolio
  rw [till_modTill s _ ht]
  exact KV.find_mod_ne hne g _

/-! ## A Till at rest -/

/-- Till `t` stands, holds nothing back, and no Till has met a cause of failure: what `calm` says of the Tills. -/
structure Rests (s : State) (t : Nat) : Prop where
  lt : t < s.tills.length
  ni : (s.till t).ni = []
  releases : ∀ p ∈ (s.till t).folios, p.2.opc ≠ .release
  fails : ∀ u ∈ s.tills, u.failDue = none

theorem rests_of_calm {s : State} {t : Nat} (hinv : s.Inv) (h : s.calm t) : Rests s t :=
  ⟨lt_tills_length hinv (hasTill_of_alive h.1), h.2.1, h.2.2.1, h.2.2.2⟩

theorem Rests.of_tills {a b : State} {t : Nat} (h : Rests a t) (e : b.tills = a.tills) : Rests b t := by
  have ht : b.till t = a.till t := by
    unfold State.till
    rw [e]
  exact ⟨by rw [e]; exact h.lt, by rw [ht]; exact h.ni, by rw [ht]; exact h.releases, by rw [e]; exact h.fails⟩

theorem Rests.modTill {s : State} {t : Nat} (h : Rests s t) {f : Till → Till} (hni : (f (s.till t)).ni = [])
    (hrel : ∀ p ∈ (f (s.till t)).folios, p.2.opc ≠ .release) (hfail : (f (s.till t)).failDue = none) : Rests (s.modTill t f) t := by
  have ht := till_modTill s f h.lt
  refine ⟨by rw [tills_length_modTill]; exact h.lt, by rw [ht]; exact hni, by rw [ht]; exact hrel, fun u hu => ?_⟩
  obtain ⟨k, hk, rfl⟩ := List.mem_iff_getElem.mp hu
  have hk' : k < s.tills.length := by rw [tills_length_modTill] at hk; exact hk
  by_cases hkt : k = t
  · subst hkt
    have : (s.modTill k f).tills[k] = (s.modTill k f).till k := by simp [State.till, hk]
    rw [this, ht]
    exact hfail
  · have : (s.modTill t f).tills[k] = s.tills[k] := by simp [State.modTill, Ne.symm hkt]
    rw [this]
    exact h.fails _ (List.getElem_mem hk')

theorem Rests.failDue {s : State} {t : Nat} (h : Rests s t) : (s.till t).failDue = none := by
  rcases till_mem_or_default s t with hm | he
  · exact h.fails _ hm
  · rw [he]

theorem Rests.modFolio {s : State} {t : Nat} (h : Rests s t) (f : Nat) {g : Folio → Folio} (hg : ∀ x, (g x).opc = x.opc) :
    Rests (s.modFolio t f g) t := by
  refine h.modTill h.ni (fun p hp => ?_) h.failDue
  obtain ⟨q, hq, rfl⟩ := List.mem_map.mp hp
  split
  · rw [hg]
    exact h.releases q hq
  · exact h.releases q hq

theorem Rests.worked {s : State} {t : Nat} (h : Rests s t) :
    worked s t = s.modTill t (fun u => { u with idleTicks := 0 }) :=
  worked_calm h.lt h.ni h.releases h.fails

theorem folio_idle {s : State} {t : Nat} (ht : t < s.tills.length) (f : Nat) :
    (s.modTill t (fun u => { u with idleTicks := 0 })).folio? t f = s.folio? t f := by
  unfold State.folio?
  rw [till_modTill s _ ht]

theorem Logs.alive {a b : State} (h : Logs a b) (t : Nat) : b.alive t = a.alive t := by
  unfold State.alive State.inHold
  rw [h.till, h.build, h.fatal, h.power, h.assay]

theorem Logs.calm {a b : State} (h : Logs a b) {t : Nat} (hc : a.calm t) : b.calm t := by
  unfold State.calm at hc ⊢
  rw [h.alive, h.till, h.tills]
  exact hc

/-- A message at a Till that is calm is processed at once. -/
theorem atTill_calm {s : State} {t : Nat} (hc : s.calm t) (keep : NiMsg) (act : State → State) :
    atTill s t keep act = worked (act s) t := by
  obtain ⟨-, hoff, -, hfail, -, hhalt, hfatal, -⟩ := alive_iff.mp hc.1
  unfold atTill
  rw [if_neg (by simp [hoff, hfail, hfatal]), if_neg (by simp [hhalt]), drainNi_none hc.2.1]

/-! ## A Folio with writes open -/

theorem tryRetire_writes {s : State} {t f : Nat} {y : Folio} (h : s.folio? t f = some y) (hw : y.writes ≠ []) :
    tryRetire s t f = s := by
  unfold tryRetire
  rw [h]
  dsimp only
  rw [if_neg]
  have : y.writes.isEmpty = false := by simpa using hw
  simp [canRetire, this]

theorem dropFirst_length {α : Type} (p : α → Bool) : ∀ l : List α, l.length ≤ (dropFirst p l).length + 1
  | [] => by simp [dropFirst]
  | a :: l => by
    unfold dropFirst
    split
    · simp
    · have := dropFirst_length p l
      simp only [List.length_cons]
      omega

theorem dropFirst_ne_nil {α : Type} (p : α → Bool) {l : List α} (h : 2 ≤ l.length) : dropFirst p l ≠ [] := by
  intro he
  have := dropFirst_length p l
  rw [he] at this
  simp at this
  omega

/-- The Folio after one of its writes of `mop` at port `m` has its outcome. -/
def Folio.answered (x : Folio) (m : Nat) (lost : Bool) : Folio :=
  { x with
    writes := dropFirst (fun v => v.mop == .mwr && v.port == m) x.writes
    outcome := if lost then x.outcome.worse .lost else x.outcome }

section
variable {s : State} {m t f : Nat} {x : Folio} {w : OpenWrite}

/-- The Folio of the state is answered, its write of a full line no longer open. -/
def State.mwrAnswered (s : State) (m t f : Nat) (lost : Bool) : State := s.modFolio t f (fun x => x.answered m lost)

/-- What a lost write leaves in the lost-write table, the records and the counts. -/
def State.mwrLost (s : State) (m t : Nat) (a : Aid) (l : Line) : State :=
  ((enterLost s m false a l).note .lostWrite (.till t) [l.toNat] (some a)).bump ⟨0x2091 + m, 1, 32⟩

theorem Rests.mwrAnswered {s : State} {t : Nat} (h : Rests s t) (m f : Nat) (lost : Bool) : Rests (s.mwrAnswered m t f lost) t :=
  h.modFolio f (fun _ => rfl)

theorem openWrite_find (hw : s.openWrite? m t f .mwr = some w) (hf : s.folio? t f = some x) :
    x.writes.find? (fun w => w.mop == .mwr && w.port == m) = some w := by
  unfold State.openWrite? at hw
  rw [hf] at hw
  exact hw

theorem tills_enterLost (s : State) (m : Nat) (p : Bool) (a : Aid) (l : Line) : (enterLost s m p a l).tills = s.tills := by
  unfold enterLost
  split <;> rfl

theorem tills_mwrLost (s : State) (m t : Nat) (a : Aid) (l : Line) : (s.mwrLost m t a l).tills = s.tills := by
  unfold State.mwrLost
  refine (logs_note (enterLost s m false a l) .lostWrite (.till t) [l.toNat] (some a)).tills.trans ?_
  exact tills_enterLost ..

theorem folio_of_tills {a b : State} (h : b.tills = a.tills) (t f : Nat) : b.folio? t f = a.folio? t f := by
  unfold State.folio? State.till
  rw [h]

/-- One of several writes of a request has its outcome. -/
theorem writeAnswer_mwr (hf : s.folio? t f = some x) (hjob : x.job = .request) (hw : s.openWrite? m t f .mwr = some w)
    (h2 : 2 ≤ x.writes.length) (ht : t < s.tills.length) (lost : Bool) :
    writeAnswer s m t f .mwr lost
      = if lost then (s.mwrAnswered m t f true).mwrLost m t x.aid w.addr else s.mwrAnswered m t f false := by
  have hy : (s.mwrAnswered m t f lost).folio? t f = some (x.answered m lost) := by
    unfold State.mwrAnswered
    rw [folio_modFolio ht, hf]
    rfl
  have hne : (x.answered m lost).writes ≠ [] := dropFirst_ne_nil _ h2
  have e : writeAnswer s m t f .mwr lost
      = tryRetire (if lost then (s.mwrAnswered m t f lost).mwrLost m t x.aid w.addr else s.mwrAnswered m t f lost) t f := by
    unfold writeAnswer
    rw [hf]
    dsimp only
    rw [openWrite_find hw hf]
    dsimp only
    rw [hjob]
    cases lost <;> rfl
  rw [e]
  cases lost with
  | false =>
    rw [if_neg Bool.false_ne_true]
    exact tryRetire_writes hy hne
  | true =>
    have ht := tills_mwrLost (m := m) (s.mwrAnswered m t f true) t x.aid w.addr
    rw [if_pos rfl]
    generalize (s.mwrAnswered m t f true).mwrLost m t x.aid w.addr = b at ht ⊢
    exact tryRetire_writes ((folio_of_tills ht t f).trans hy) hne

/-! ## What a lost write leaves (R270, R272) -/

theorem enterLost_does (s : State) (a : Aid) (l : Line) :
    (enterLost s m false a l).journal = s.journal ∧ (enterLost s m false a l).time = s.time
      ∧ (enterLost s m false a l).fuses = s.fuses
      ∧ (s.lost.length < 64 → (enterLost s m false a l).lost = s.lost ++ [(BitVec.ofNat 64 (2 ^ 63 + place m 2 61
          + place a.toNat 10 50 + l.toNat), BitVec.ofNat 64 s.time.tick)])
      ∧ (64 ≤ s.lost.length → (enterLost s m false a l).lost = s.lost) := by
  unfold enterLost
  split
  · next h =>
    refine ⟨rfl, rfl, rfl, fun _ => ?_, fun h' => absurd h (by omega)⟩
    simp [place, bit]
  · next h => exact ⟨rfl, rfl, rfl, fun h' => absurd h' h, fun _ => rfl⟩

theorem chart_enterLost {s : State} (hwf : KV.wf s.chart = true) (a : Aid) (l : Line) :
    KV.wf (enterLost s m false a l).chart = true
      ∧ ∀ i j, i ≠ 0x4310 → j < 256 → (enterLost s m false a l).rawN i j = s.rawN i j := by
  unfold enterLost
  split
  · exact ⟨hwf, fun _ _ _ _ => rfl⟩
  · exact ⟨chart_wf_setRawN s _ _ _ hwf, fun i j hi hj => rawN_setRawN_ne s _ hwf (by simp only [ekey]; omega)⟩

theorem mwrLost_does {s : State} (hwf : KV.wf s.chart = true) (hm : m < 4) (t : Nat) (a : Aid) (l : Line) :
    Reports s (s.mwrLost m t a l) 0x005
      ∧ (s.mwrLost m t a l).rawN (0x2091 + m) 1 = (s.rawN (0x2091 + m) 1 + 1) % 2 ^ 32
      ∧ (∀ j, j < 256 → j ≠ 1 → (s.mwrLost m t a l).rawN (0x2091 + m) j = s.rawN (0x2091 + m) j)
      ∧ (s.lost.length < 64 → (s.mwrLost m t a l).lost = s.lost ++ [(BitVec.ofNat 64 (2 ^ 63 + place m 2 61
          + place a.toNat 10 50 + l.toNat), BitVec.ofNat 64 s.time.tick)])
      ∧ (64 ≤ s.lost.length → (s.mwrLost m t a l).lost = s.lost) := by
  obtain ⟨hj, htm, -, hin, hfull⟩ := enterLost_does (m := m) s a l
  obtain ⟨hwe, hre⟩ := chart_enterLost (m := m) hwf a l
  unfold State.mwrLost
  generalize enterLost s m false a l = e at *
  have hn := logs_note e .lostWrite (.till t) [l.toNat] (some a)
  have hr := reports_note (s := s) (u := e) (by rw [hj]) (by rw [htm]) .lostWrite (.till t) [l.toNat] (some a)
  generalize e.note .lostWrite (.till t) [l.toNat] (some a) = n at *
  have hwn := hn.chart_wf hwe
  have hk : ∀ j, j < 256 → n.rawN (0x2091 + m) j = s.rawN (0x2091 + m) j := fun j hj' => by
    rw [hn.rawN hwe (apart (by omega)), hre _ _ (by omega) hj']
  refine ⟨hr, ?_, fun j hj' hne => ?_, fun h => ?_, fun h => ?_⟩
  · rw [rawN_bump n _ 1 32 hwn (by decide), hk 1 (by decide)]
  · refine (rawN_setRawN_ne n _ hwn ?_).trans (hk j hj')
    simp only [ekey]
    omega
  · exact hn.lost.trans (hin h)
  · exact hn.lost.trans (hfull h)

end

/-! ## Answers and timeouts of writes (R269, R272) -/

section
variable {s : State} {m t f : Nat} {x : Folio} {w : OpenWrite}

theorem hasPort_lt {b : Build} (h : b.hasPort m = true) : m < 4 := by
  have hle : b.ports ≤ 4 := by cases b <;> decide
  have : m < b.ports := by simpa [Build.hasPort] using h
  omega

/-- The MCMP packet has come to the Till. -/
theorem exec_mcmp (hm : s.build.hasPort m = true) (hc : s.calm t) (lost : Bool) (mop : Mop) (f : Nat) :
    exec (.mcmp m lost mop t f) s = .next (worked (writeAnswer (s.packet (.port m) 2 1 (.till t)) m t f mop lost) t) := by
  have ht := hasTill_of_alive hc.1
  have hl := logs_packet s (.port m) (.till t) (c := 2) (by decide) 1
  show execMcmp m lost mop t f s = _
  unfold execMcmp
  rw [if_neg (by simp [hm, ht]), atTill_calm (hl.calm hc)]

theorem openWrite_congr {a b : State} (h : b.tills = a.tills) (m t f : Nat) (mop : Mop) :
    b.openWrite? m t f mop = a.openWrite? m t f mop := by
  unfold State.openWrite?
  rw [folio_of_tills h]

theorem mcmp_ok (hinv : s.Inv) (hm : s.build.hasPort m = true) (hc : s.calm t) (hf : s.folio? t f = some x)
    (hjob : x.job = .request) (hw : s.openWrite? m t f .mwr = some w) (h2 : 2 ≤ x.writes.length) :
    Completes (.mcmp m false .mwr t f) s (fun u =>
      u.folio? t f = some (x.answered m false) ∧ u.lost = s.lost ∧ u.out = s.out) := by
  have he := exec_mcmp hm hc false .mwr f
  have hl := logs_packet s (.port m) (.till t) (c := 2) (by decide) 1
  generalize s.packet (.port m) 2 1 (.till t) = p at he hl
  have hr : Rests p t := (rests_of_calm hinv hc).of_tills hl.tills
  have hfp : p.folio? t f = some x := (hl.folio? t f).trans hf
  rw [writeAnswer_mwr hfp hjob ((openWrite_congr hl.tills ..).trans hw) h2 hr.lt, if_neg Bool.false_ne_true,
    (hr.mwrAnswered m f false).worked] at he
  refine .of he ⟨?_, hl.lost, hl.out⟩
  rw [folio_idle (by rw [State.mwrAnswered, State.modFolio, tills_length_modTill]; exact hr.lt)]
  unfold State.mwrAnswered
  rw [folio_modFolio hr.lt, hfp]
  rfl

/-- A write that is lost, from a state `p` in which its loss is found. -/
theorem mwr_lost {p : State} (hwf : KV.wf p.chart = true) (hm : m < 4) (hr : Rests p t) (hf : p.folio? t f = some x)
    (hjob : x.job = .request) (hw : p.openWrite? m t f .mwr = some w) (h2 : 2 ≤ x.writes.length) :
    ∃ u, worked (writeAnswer p m t f .mwr true) t = u ∧ u.folio? t f = some (x.answered m true) ∧ Reports p u 0x005
      ∧ u.rawN (0x2091 + m) 1 = (p.rawN (0x2091 + m) 1 + 1) % 2 ^ 32
      ∧ (∀ j, j < 256 → j ≠ 1 → u.rawN (0x2091 + m) j = p.rawN (0x2091 + m) j)
      ∧ (p.lost.length < 64 → u.lost = p.lost ++ [(BitVec.ofNat 64 (2 ^ 63 + place m 2 61
          + place x.aid.toNat 10 50 + w.addr.toNat), BitVec.ofNat 64 p.time.tick)])
      ∧ (64 ≤ p.lost.length → u.lost = p.lost) := by
  rw [writeAnswer_mwr hf hjob hw h2 hr.lt, if_pos rfl]
  have hra : Rests (p.mwrAnswered m t f true) t := hr.mwrAnswered m f true
  have hfa : (p.mwrAnswered m t f true).folio? t f = some (x.answered m true) := by
    unfold State.mwrAnswered
    rw [folio_modFolio hr.lt, hf]
    rfl
  obtain ⟨h1, h2, h3, h4, h5⟩ := mwrLost_does (s := p.mwrAnswered m t f true) hwf hm t x.aid w.addr
  have ht := tills_mwrLost (p.mwrAnswered m t f true) m t x.aid w.addr
  have hjn : (p.mwrAnswered m t f true).journal = p.journal := rfl
  have htm : (p.mwrAnswered m t f true).time = p.time := rfl
  have hlo : (p.mwrAnswered m t f true).lost = p.lost := rfl
  have hra' : ∀ i j, (p.mwrAnswered m t f true).rawN i j = p.rawN i j := fun _ _ => rfl
  generalize p.mwrAnswered m t f true = a at *
  generalize a.mwrLost m t x.aid w.addr = b at *
  have hrb : Rests b t := hra.of_tills ht
  refine ⟨_, hrb.worked, ?_, h1.since (by rw [hjn]) (by rw [htm]), h2.trans (by rw [hra']), fun j hj hne =>
    (h3 j hj hne).trans (hra' _ _), fun h => ?_, fun h => ?_⟩
  · rw [folio_idle hrb.lt, folio_of_tills ht, hfa]
  · refine (h4 (by rw [hlo]; exact h)).trans ?_
    rw [hlo, htm]
  · refine (h5 (by rw [hlo]; exact h)).trans hlo

theorem mcmp_lost (hinv : s.Inv) (hm : s.build.hasPort m = true) (hc : s.calm t) (hf : s.folio? t f = some x)
    (hjob : x.job = .request) (hw : s.openWrite? m t f .mwr = some w) (h2 : 2 ≤ x.writes.length) :
    Completes (.mcmp m true .mwr t f) s (fun u => u.folio? t f = some (x.answered m true)
      ∧ Reports s u 0x005 ∧ u.rawN (0x2091 + m) 1 = (s.rawN (0x2091 + m) 1 + 1) % 2 ^ 32
      ∧ (s.lost.length < 64 → u.lost = s.lost ++ [(BitVec.ofNat 64 (2 ^ 63 + place m 2 61 + place x.aid.toNat 10 50
          + w.addr.toNat), BitVec.ofNat 64 s.time.tick)])
      ∧ (64 ≤ s.lost.length → u.lost = s.lost)) := by
  have he := exec_mcmp hm hc true .mwr f
  have hl := logs_packet s (.port m) (.till t) (c := 2) (by decide) 1
  have hwf : KV.wf s.chart = true := hinv.2.2.2.2.2.1
  have hm4 := hasPort_lt hm
  generalize s.packet (.port m) 2 1 (.till t) = p at he hl
  obtain ⟨u, hu, h1, h2', h3, -, h5, h6⟩ := mwr_lost (hl.chart_wf hwf) hm4
    ((rests_of_calm hinv hc).of_tills hl.tills) ((hl.folio? t f).trans hf) hjob ((openWrite_congr hl.tills ..).trans hw) h2
  rw [hu] at he
  refine .of he ⟨h1, h2'.since hl.inbox (by rw [hl.time]), ?_, fun h => ?_, fun h => ?_⟩
  · rw [h3, hl.rawN hwf (apart (by omega))]
  · rw [h5 (by rw [hl.lost]; exact h), hl.lost, hl.time]
  · rw [h6 (by rw [hl.lost]; exact h), hl.lost]

theorem writeTimeout_due (hinv : s.Inv) (hm : s.build.hasPort m = true) (hc : s.calm t) (hf : s.folio? t f = some x)
    (hjob : x.job = .request) (hw : s.openWrite? m t f .mwr = some w) (h2 : 2 ≤ x.writes.length)
    (hdue : s.due w.tick (s.rawN 0x2090 0) = true) :
    Completes (.memWriteTimeout m t f .mwr) s (fun u => u.folio? t f = some (x.answered m true)
      ∧ Reports s u 0x005 ∧ u.rawN (0x2091 + m) 3 = (s.rawN (0x2091 + m) 3 + 1) % 2 ^ 32
      ∧ (s.lost.length < 64 → u.lost.length = s.lost.length + 1)) := by
  have ht := hasTill_of_alive hc.1
  have hwf : KV.wf s.chart = true := hinv.2.2.2.2.2.1
  have he : exec (.memWriteTimeout m t f .mwr) s
      = .next (worked (writeAnswer (s.bump ⟨0x2091 + m, 3, 32⟩) m t f .mwr true) t) := by
    show execMemWriteTimeout m t f .mwr s = _
    unfold execMemWriteTimeout
    rw [if_neg (by simp [hm, ht]), hw]
    dsimp only
    rw [if_pos (by simp [hc.1, hdue])]
  have hrb := rawN_bump s (0x2091 + m) 3 32 hwf (by decide)
  obtain ⟨ch, hb⟩ := bump_eq s ⟨0x2091 + m, 3, 32⟩
  have hwb : KV.wf (s.bump ⟨0x2091 + m, 3, 32⟩).chart = true := chart_wf_setRawN s _ _ _ hwf
  rw [hb] at he hrb hwb
  obtain ⟨u, hu, h1, h2', -, h4, h5, -⟩ := mwr_lost (p := { s with chart := ch }) hwb (hasPort_lt hm)
    ((rests_of_calm hinv hc).of_tills rfl) hf hjob hw h2
  rw [hu] at he
  refine .of he ⟨h1, h2', (h4 3 (by decide) (by decide)).trans hrb, fun h => ?_⟩
  rw [h5 h, List.length_append]
  rfl

theorem writeTimeout_early (hm : s.build.hasPort m = true) (ht : s.build.hasTill t = true)
    (hw : s.openWrite? m t f .mwr = some w) (hdue : s.due w.tick (s.rawN 0x2090 0) = false) :
    exec (.memWriteTimeout m t f .mwr) s = .next s := by
  show execMemWriteTimeout m t f .mwr s = _
  unfold execMemWriteTimeout
  rw [if_neg (by simp [hm, ht]), hw]
  dsimp only
  rw [if_neg (by simp [hdue])]

end

/-- Settles O27: an acknowledgement, a loss and a timeout of one of several writes. -/
theorem writeAcknowledgedOrLost : Obligations.WriteAcknowledgedOrLost := by
  unfold Obligations.WriteAcknowledgedOrLost
  intro s m t f x w hinv hm ht hc hf hjob hw h2
  exact ⟨mcmp_ok hinv hm hc hf hjob hw h2, mcmp_lost hinv hm hc hf hjob hw h2, writeTimeout_due hinv hm hc hf hjob hw h2,
    writeTimeout_early hm ht hw⟩

end Sys2Proof.Machine
end

section
/-! PROOFS. Starting operations at a Till's storage, and how the Cellar comes up and is filled (R171, R175 to R177, R192, R211). -/

namespace Sys2Proof.Machine

/-! ## What feeding the ledger and the memory queue leaves of the Tills -/

/-- A Till but for its ledger and its accesses to memory. -/
def Till.bare (u : Till) : Till := { u with folios := [], chains := [], disp := [], memCred := [], memQ := [] }

/-- A Till but for its operations too. -/
def Till.rest (u : Till) : Till := { u.bare with secOps := [], groups := [] }

/-- Every Till is as it was, but for its ledger and its accesses to memory. -/
def Feeds (a b : State) : Prop := b.tills.map Till.bare = a.tills.map Till.bare

/-- Every Till is as it was, but for its ledger, its accesses to memory and its operations. -/
def Starts (a b : State) : Prop := b.tills.map Till.rest = a.tills.map Till.rest

theorem Feeds.refl (a : State) : Feeds a a := rfl
theorem Feeds.trans {a b c : State} (h : Feeds a b) (g : Feeds b c) : Feeds a c := Eq.trans g h
theorem Feeds.of_eq {a b : State} (h : b.tills = a.tills) : Feeds a b := congrArg _ h
theorem Starts.refl (a : State) : Starts a a := rfl
theorem Starts.trans {a b c : State} (h : Starts a b) (g : Starts b c) : Starts a c := Eq.trans g h
theorem Starts.of_eq {a b : State} (h : b.tills = a.tills) : Starts a b := congrArg _ h

theorem Feeds.starts {a b : State} (h : Feeds a b) : Starts a b := by
  have e : ∀ l : List Till, l.map Till.rest = (l.map Till.bare).map (fun u => { u with secOps := [], groups := [] }) := by
    intro l
    rw [List.map_map]
    rfl
  unfold Starts
  rw [e, e, h]

theorem map_modify_same {q : Till → Till} {f : Till → Till} (hf : ∀ u, q (f u) = q u) (l : List Till) (t : Nat) :
    (l.modify t f).map q = l.map q := by
  refine List.ext_getElem (by simp) fun k h1 h2 => ?_
  simp only [List.getElem_map, List.getElem_modify]
  split
  · exact hf _
  · rfl

theorem feeds_modTill (s : State) (t : Nat) {f : Till → Till} (hf : ∀ u, (f u).bare = u.bare) : Feeds s (s.modTill t f) :=
  map_modify_same hf s.tills t

theorem starts_modTill (s : State) (t : Nat) {f : Till → Till} (hf : ∀ u, (f u).rest = u.rest) : Starts s (s.modTill t f) :=
  map_modify_same hf s.tills t

theorem Starts.length {a b : State} (h : Starts a b) : b.tills.length = a.tills.length := by
  have := congrArg List.length h
  simpa using this

theorem till_of_map {q : Till → Till} {a b : State} (h : b.tills.map q = a.tills.map q) (t : Nat) :
    q (b.till t) = q (a.till t) := by
  have e : ∀ s : State, q (s.till t) = ((s.tills.map q)[t]?).getD (q {}) := fun s => by
    unfold State.till
    rw [List.getElem?_map]
    cases s.tills[t]? <;> rfl
  rw [e, e, h]

theorem Feeds.till {a b : State} (h : Feeds a b) (t : Nat) : (b.till t).bare = (a.till t).bare := till_of_map h t
theorem Starts.till {a b : State} (h : Starts a b) (t : Nat) : (b.till t).rest = (a.till t).rest := till_of_map h t

theorem Starts.fails {a b : State} (h : Starts a b) (hf : ∀ u ∈ a.tills, u.failDue = none) : ∀ u ∈ b.tills, u.failDue = none := by
  intro u hu
  have hm : u.rest ∈ a.tills.map Till.rest := by
    rw [← h]
    exact List.mem_map_of_mem hu
  obtain ⟨v, hv, he⟩ := List.mem_map.mp hm
  have hd : v.rest.failDue = u.rest.failDue := by rw [he]
  exact hd.symm.trans (hf v hv)

theorem Feeds.foldl_fst {α β : Type} {f : State × β → α → State × β} (hf : ∀ x y, Feeds x.1 (f x y).1) (l : List α) :
    ∀ x, Feeds x.1 (l.foldl f x).1 := by
  induction l with
  | nil => exact fun x => .refl x.1
  | cons y l ih => exact fun x => (hf x y).trans (ih (f x y))

theorem feeds_takeInternal (s : State) (t : Nat) (l : Line) (job : Job) : Feeds s (takeInternal s t l job).1 :=
  feeds_modTill s t (fun _ => rfl)

theorem feeds_modFolio (s : State) (t f : Nat) (g : Folio → Folio) : Feeds s (s.modFolio t f g) :=
  feeds_modTill s t (fun _ => rfl)

theorem feeds_openChain (s : State) (t : Nat) (l : Line) (f : Nat) : Feeds s (openChain s t l f) := by
  unfold openChain
  extract_lets u pl s1
  have h1 : Feeds s s1 := feeds_modTill s t (fun _ => rfl)
  split
  · have hn := (logs_note s1 .ledgerOverflowList (.till t) [t] none).tills
    generalize s1.note .ledgerOverflowList (.till t) [t] none = n at hn ⊢
    exact h1.trans (.of_eq hn)
  · exact h1

theorem feeds_joinChain (s : State) (t f : Nat) (l : Line) : Feeds s (joinChain s t f l) := by
  unfold joinChain
  split
  · exact (feeds_openChain s t l f).trans (feeds_modFolio _ t f _)
  · exact ((feeds_modFolio s t _ _).trans (feeds_modFolio _ t f _)).trans (feeds_modTill _ t (fun _ => rfl))

theorem tills_send (s : State) (o : Out) : (s.send o).tills = s.tills := by
  obtain ⟨l, hl, -⟩ := send_eq s o
  rw [hl]

theorem feeds_issueAcc (s : State) (t : Nat) (a : MemAcc) : Feeds s (issueAcc s t a) := by
  unfold issueAcc
  extract_lets s0 s0' s1 s2
  have h0 : s0'.tills = s.tills := by
    have e0 : s0.tills = s.tills := (logs_packet s (.till t) (.port a.port) (c := 0) (by decide) 1).tills
    show (ite _ _ _ : State).tills = _
    split
    · exact (logs_packet s0 (.till t) (.port a.port) (c := 4) (by decide) 1).tills.trans e0
    · exact e0
  have h1 : Feeds s s1 := .of_eq ((tills_send s0' _).trans h0)
  have h2 : Feeds s1 s2 := by
    show Feeds s1 (ite _ _ _)
    split
    · refine .trans (.of_eq ?_) (feeds_modFolio _ t _ _)
      split
      · exact (logs_gev s1 0x108 a.port).tills
      · rfl
    · split
      · exact feeds_modFolio s1 t _ _
      · exact .refl s1
  exact (h1.trans h2).trans (feeds_modTill s2 t (fun _ => rfl))

theorem feeds_drainMem (s : State) (t : Nat) : Feeds s (drainMem s t) := by
  unfold drainMem
  extract_lets go r
  have hr : Feeds s r.1 := by
    refine Feeds.foldl_fst (fun x a => ?_) _ (s, [], [])
    dsimp only [go]
    split
    · exact .refl _
    · exact feeds_issueAcc _ _ _
  exact hr.trans (feeds_modTill r.1 t (fun _ => rfl))

theorem feeds_pushAcc (s : State) (t : Nat) (a : MemAcc) : Feeds s (pushAcc s t a) :=
  (feeds_modTill s t (f := fun u => { u with memQ := u.memQ ++ [a] }) (fun _ => rfl)).trans (feeds_drainMem _ t)

theorem feeds_readGroup (s : State) (t f p g : Nat) : Feeds s (readGroup s t f p g) :=
  (feeds_modFolio s t f _).trans (feeds_pushAcc _ t _)

/-! ## Operations start (R177, R192) -/

/-- A group operation but for its progress. -/
def GroupOp.still (o : GroupOp) : GroupOp := { o with running := false }

/-- Running the table keeps its operations in their order. -/
theorem runGroups_does (s : State) {t : Nat} (ht : t < s.tills.length) :
    Starts s (runGroups s t) ∧ ((runGroups s t).till t).groups.map GroupOp.still = (s.till t).groups.map GroupOp.still := by
  unfold runGroups
  extract_lets go r
  have hgo : ∀ x g, Feeds x.1 (go x g).1 ∧ (go x g).2.map GroupOp.still = x.2.map GroupOp.still ++ [g.still] := by
    intro x g
    dsimp only [go]
    split
    · exact ⟨.refl _, by simp⟩
    · split
      · exact ⟨.refl _, by simp⟩
      · exact ⟨feeds_readGroup _ _ _ _ _, by simp [GroupOp.still]⟩
  have hr : ∀ (l : List GroupOp) x, Feeds x.1 (l.foldl go x).1
      ∧ (l.foldl go x).2.map GroupOp.still = x.2.map GroupOp.still ++ l.map GroupOp.still := by
    intro l
    induction l with
    | nil => exact fun x => ⟨.refl _, by simp⟩
    | cons g l ih =>
      intro x
      obtain ⟨h1, h2⟩ := hgo x g
      obtain ⟨h3, h4⟩ := ih (go x g)
      exact ⟨h1.trans h3, by rw [List.foldl_cons, h4, h2]; simp⟩
  obtain ⟨hf, hg⟩ := hr (s.till t).groups (s, [])
  have hlen : t < r.1.tills.length := by rw [hf.starts.length]; exact ht
  refine ⟨hf.starts.trans (starts_modTill r.1 t (fun _ => rfl)), ?_⟩
  rw [till_modTill r.1 _ hlen]
  simpa using hg

theorem starts_startGroupAt (s : State) {t : Nat} (ht : t < s.tills.length) (p g : Nat) (k : GroupKind) :
    Starts s (startGroupAt s t p g k)
      ∧ ∃ o ∈ ((startGroupAt s t p g k).till t).groups, o.p = p ∧ o.g = g ∧ o.kind = k := by
  unfold startGroupAt
  have h1 := (feeds_takeInternal s t (BitVec.ofNat 38 (s.groupLine p g)) (.group 0)).starts
  obtain ⟨⟨s1, f⟩, hs1⟩ : ∃ r, takeInternal s t (BitVec.ofNat 38 (s.groupLine p g)) (.group 0) = r := ⟨_, rfl⟩
  rw [hs1] at h1 ⊢
  dsimp only at h1 ⊢
  have ht1 : t < s1.tills.length := by rw [h1.length]; exact ht
  generalize hm : s1.modTill t _ = m
  have hsm : Starts s1 m := by
    rw [← hm]
    exact starts_modTill s1 t (fun _ => rfl)
  have hgm : (⟨p, g, k, f, false, false⟩ : GroupOp) ∈ (m.till t).groups := by
    rw [← hm, till_modTill s1 _ ht1]
    exact List.mem_append_right _ (List.mem_singleton_self _)
  obtain ⟨h2, h3⟩ := runGroups_does m (t := t) (by rw [hsm.length]; exact ht1)
  refine ⟨(h1.trans hsm).trans h2, ?_⟩
  have hmem : (⟨p, g, k, f, false, false⟩ : GroupOp) ∈ ((runGroups m t).till t).groups.map GroupOp.still := by
    rw [h3]
    exact List.mem_map.mpr ⟨_, hgm, rfl⟩
  obtain ⟨o, ho, he⟩ := List.mem_map.mp hmem
  have hp : o.p = o.still.p ∧ o.g = o.still.g ∧ o.kind = o.still.kind := ⟨rfl, rfl, rfl⟩
  rw [he] at hp
  exact ⟨o, ho, hp⟩

theorem works_startGroupAt (s : State) (t p g : Nat) (k : GroupKind) : Works s (startGroupAt s t p g k) := by
  unfold startGroupAt
  exact ((works_takeInternal s t _ _).trans (works_modTill _ t _)).trans (works_runGroups _ t)

theorem fresh_key {α : Type} (f : Nat × α → Nat) (hf : ∀ p, p.1 < f p) : ∀ (l : List (Nat × α)) (k : Nat),
    k ≤ l.foldl (fun m p => max m (f p)) k ∧ ∀ p ∈ l, p.1 < l.foldl (fun m p => max m (f p)) k
  | [], k => ⟨Nat.le_refl k, fun _ h => absurd h (by simp)⟩
  | q :: l, k => by
    obtain ⟨h1, h2⟩ := fresh_key f hf l (max k (f q))
    rw [List.foldl_cons]
    refine ⟨by omega, fun p hp => ?_⟩
    rcases List.mem_cons.mp hp with rfl | hp
    · have := hf p
      omega
    · exact h2 p hp

/-- A sector operation starts: it stands in the table under a fresh number. -/
theorem startSecOp_does (s : State) {t : Nat} (ht : t < s.tills.length) (sec : Nat) (kind : SecKind) (e : Ent)
    (buffered : Bool) (region : Nat) :
    Starts s (startSecOp s t sec kind e buffered region).1
      ∧ ∃ k o, ((startSecOp s t sec kind e buffered region).1.till t).secOps = KV.put (s.till t).secOps k o
        ∧ o.sector = sec ∧ o.kind = kind ∧ ∀ p ∈ (s.till t).secOps, p.1 < k := by
  unfold startSecOp
  extract_lets k r o
  have hr : Feeds s r.1 := Feeds.foldl_fst
    (fun x i => (feeds_takeInternal x.1 t _ _).trans (feeds_joinChain _ t _ _)) _ (s, [])
  have hlen : t < r.1.tills.length := by rw [hr.starts.length]; exact ht
  have hops : (r.1.till t).secOps = (s.till t).secOps :=
    show (r.1.till t).bare.secOps = (s.till t).bare.secOps by rw [hr.till t]
  clear_value r
  refine ⟨hr.starts.trans (starts_modTill r.1 t (fun _ => rfl)), k, o, ?_, rfl, rfl, ?_⟩
  · rw [till_modTill r.1 _ hlen, ← hops]
  · exact (fresh_key (fun p => p.1 + 1) (fun p => Nat.lt_succ_self p.1) _ 0).2

theorem KV.mem_of_find {α : Type} {k : Nat} {v : α} : ∀ {m : KV α}, KV.find? m k = some v → (k, v) ∈ m
  | [], h => by simp [KV.find?] at h
  | (j, w) :: m, h => by
    unfold KV.find? at h
    split at h
    · next hj =>
      rw [hj, Option.some.inj h]
      exact List.mem_cons_self
    · split at h
      · exact absurd h (by simp)
      · exact List.mem_cons_of_mem _ (KV.mem_of_find h)

theorem KV.mem_put {α : Type} (m : KV α) (k : Nat) (v : α) : (k, v) ∈ KV.put m k v := KV.mem_of_find (KV.find_put k v m)

/-- What stands under another key stays. -/
theorem KV.mem_put_ne {α : Type} {k : Nat} {v : α} {p : Nat × α} (hp : p.1 ≠ k) : ∀ {m : KV α}, p ∈ m → p ∈ KV.put m k v
  | [], h => absurd h (by simp)
  | (j, w) :: m, h => by
    unfold KV.put
    split
    · next hj =>
      rcases List.mem_cons.mp h with rfl | h
      · exact absurd hj hp
      · exact List.mem_cons_of_mem _ h
    · split
      · exact List.mem_cons_of_mem _ h
      · rcases List.mem_cons.mp h with rfl | h
        · exact List.mem_cons_self
        · exact List.mem_cons_of_mem _ (KV.mem_put_ne hp h)

theorem takeOrder_some {s : State} {k : Nat} (h : 0 < KV.get s.au.orderCred k 0) :
    ∃ m, takeOrder s k = some { s with au := { s.au with orderCred := m } } := by
  unfold takeOrder
  rw [if_neg (by simp; omega)]
  exact ⟨_, rfl⟩

/-! ## The header and CELLAR_ENABLE (R171, R175, R176) -/

theorem works_writeHeader (s : State) (cur floor : Nat) : Works s (writeHeader s cur floor) := by
  unfold writeHeader
  exact ((works_takeInternal s _ _ _).trans (works_modFolio _ _ _ _)).trans (works_pushAcc _ _ _)

theorem Works.cellar {a b : State} (h : Works a b) : b.cellarState = a.cellarState ∧ b.cellarGen = a.cellarGen
    ∧ b.cellarFloor = a.cellarFloor ∧ b.cellarLocked = a.cellarLocked := by
  rw [h.eq]
  exact ⟨rfl, rfl, rfl, rfl⟩

theorem Logs.cellarConfigOk {a b : State} (h : Logs a b) (w : KV.wf a.chart = true) : b.cellarConfigOk = a.cellarConfigOk := by
  unfold State.cellarConfigOk State.saveOverlaps State.cellarBytes
  rw [h.rawN w (i := 0x3F00) (j := 0) (apart (by decide)), h.rawN w (i := 0x3F00) (j := 1) (apart (by decide)),
    h.rawN w (i := 0x8051) (j := 0) (apart (by decide)), h.rawN w (i := 0x8051) (j := 1) (apart (by decide))]

section
variable {s : State} {h : LineData}

theorem cellarEnable_on (hc : s.cellarState ≠ 0) : cellarEnable s h = s := if_pos (by simpa using hc)

theorem cellarEnable_bad (h0 : s.cellarState = 0) (hc : s.cellarConfigOk = false) :
    cellarEnable s h = (s.setRawN 0x3F00 0xE 3).note .cellarConfigBad .ch [] := by
  unfold cellarEnable
  rw [if_neg (by simp [h0]), if_pos (by simp [hc])]

/-- The state with its configuration accepted and locked. -/
def State.cellarAccepted (s : State) : State := { s.setRawN 0x3F00 0xE 0 with cellarLocked := true }

theorem cellarEnable_none (h0 : s.cellarState = 0) (hc : s.cellarConfigOk = true) (hh : readHeader h = none) :
    cellarEnable s h = { s.cellarAccepted with cellarState := 1, cellarFloor := 1 } := by
  unfold cellarEnable
  rw [if_neg (by simp [h0]), if_neg (by simp [hc])]
  dsimp only
  rw [hh]
  rfl

theorem cellarEnable_exhausted {cur floor : Nat} (h0 : s.cellarState = 0) (hc : s.cellarConfigOk = true)
    (hh : readHeader h = some (cur, floor)) (hn : nextGen cur = floor) :
    cellarEnable s h = { s.cellarAccepted with cellarState := 1, cellarFloor := nextGen cur } := by
  unfold cellarEnable
  rw [if_neg (by simp [h0]), if_neg (by simp [hc])]
  dsimp only
  rw [hh]
  exact if_pos (by simpa using hn)

theorem cellarEnable_good {cur floor : Nat} (h0 : s.cellarState = 0) (hc : s.cellarConfigOk = true)
    (hh : readHeader h = some (cur, floor)) (hn : nextGen cur ≠ floor) :
    cellarEnable s h = writeHeader { s.cellarAccepted with
      cellarState := 2, cellarGen := nextGen cur, cellarFloor := floor } (nextGen cur) floor := by
  unfold cellarEnable
  rw [if_neg (by simp [h0]), if_neg (by simp [hc])]
  dsimp only
  rw [hh]
  exact if_neg (by simpa using hn)

/-- What the accepted write leaves of the Cellar, once it has been counted. -/
theorem applied_cellar (s : State) : (applied s).cellarState = s.cellarState ∧ (applied s).cellarGen = s.cellarGen
    ∧ (applied s).cellarFloor = s.cellarFloor ∧ (applied s).cellarLocked = s.cellarLocked ∧ (applied s).out = s.out
    ∧ (applied s).journal = s.journal := ⟨rfl, rfl, rfl, rfl, rfl, rfl⟩

theorem completes_cellarEnable (hinv : s.Inv) (ho : s.windowOpen) (h : LineData) :
    (s.cellarState ≠ 0 → Completes (.cellarEnable h) s (fun u => u.cellarState = s.cellarState ∧ u.cellarGen = s.cellarGen
      ∧ u.cellarFloor = s.cellarFloor ∧ u.cellarLocked = s.cellarLocked ∧ u.out = s.out)) ∧
    (s.cellarState = 0 → s.cellarConfigOk = false → Completes (.cellarEnable h) s (fun u => u.cellarState = 0
      ∧ u.cellarLocked = s.cellarLocked ∧ u.rawN 0x3F00 0xE = 3 ∧ Reports s u 0x21B)) ∧
    (s.cellarState = 0 → s.cellarConfigOk = true →
      (readHeader h = none → Completes (.cellarEnable h) s (fun u => u.cellarState = 1 ∧ u.cellarFloor = 1
        ∧ u.cellarLocked = true ∧ u.rawN 0x3F00 0xE = 0)) ∧
      (∀ cur floor, readHeader h = some (cur, floor) → nextGen cur = floor → Completes (.cellarEnable h) s (fun u =>
        u.cellarState = 1 ∧ u.cellarFloor = nextGen cur ∧ u.cellarLocked = true)) ∧
      (∀ cur floor, readHeader h = some (cur, floor) → nextGen cur ≠ floor → Completes (.cellarEnable h) s (fun u =>
        u.cellarState = 2 ∧ u.cellarGen = nextGen cur ∧ u.cellarFloor = floor ∧ u.cellarLocked = true))) := by
  have hwf : KV.wf s.chart = true := hinv.2.2.2.2.2.1
  have he := write_cellarEnable ho h
  rw [reached_eq] at he
  have hg := logs_reached s
  generalize s.gev 0x10C = g at he hg
  have hwg := hg.chart_wf hwf
  refine ⟨fun hc => ?_, fun h0 hc => ?_, fun h0 hc => ⟨fun hh => ?_, fun cur floor hh hn => ?_, fun cur floor hh hn => ?_⟩⟩
  · rw [cellarEnable_on (by rw [hg.cellarState]; exact hc)] at he
    obtain ⟨h1, h2, h3, h4, h5, -⟩ := applied_cellar g
    exact .of he ⟨h1.trans hg.cellarState, h2.trans hg.cellarGen, h3.trans hg.cellarFloor, h4.trans hg.cellarLocked,
      h5.trans hg.out⟩
  · rw [cellarEnable_bad (by rw [hg.cellarState]; exact h0) (by rw [hg.cellarConfigOk hwf]; exact hc)] at he
    have hm3 : (g.setRawN 0x3F00 0xE 3).rawN 0x3F00 0xE = 3 := rawN_setRawN g _ _ _ hwg (by decide)
    have hwm := chart_wf_setRawN g 0x3F00 0xE 3 hwg
    have hmc : (g.setRawN 0x3F00 0xE 3).cellarState = 0 := hg.cellarState.trans h0
    have hml : (g.setRawN 0x3F00 0xE 3).cellarLocked = s.cellarLocked := hg.cellarLocked
    have hmj : (g.setRawN 0x3F00 0xE 3).journal = g.journal := rfl
    have hmt : (g.setRawN 0x3F00 0xE 3).time = s.time := hg.time
    generalize g.setRawN 0x3F00 0xE 3 = m at *
    have hn := logs_note m .cellarConfigBad .ch [] none
    have hr := reports_note (s := s) (u := m) (by rw [hmj]; exact hg.inbox) (by rw [hmt]) .cellarConfigBad .ch [] none
    generalize m.note .cellarConfigBad .ch [] none = n at *
    obtain ⟨h1, -, -, h4, -, h6⟩ := applied_cellar n
    refine .of he ⟨h1.trans (hn.cellarState.trans hmc), h4.trans (hn.cellarLocked.trans hml), ?_, hr.of_prefix (by rw [h6])⟩
    rw [rawN_applied n (hn.chart_wf hwm) (by decide), hn.rawN hwm (apart (by decide)), hm3]
  · rw [cellarEnable_none (by rw [hg.cellarState]; exact h0) (by rw [hg.cellarConfigOk hwf]; exact hc) hh] at he
    have hm0 : (g.setRawN 0x3F00 0xE 0).rawN 0x3F00 0xE = 0 := rawN_setRawN g _ _ _ hwg (by decide)
    refine .of he ⟨rfl, rfl, rfl, ?_⟩
    exact (rawN_applied _ (chart_wf_setRawN g 0x3F00 0xE 0 hwg) (by decide)).trans hm0
  · rw [cellarEnable_exhausted (by rw [hg.cellarState]; exact h0) (by rw [hg.cellarConfigOk hwf]; exact hc) hh hn] at he
    exact .of he ⟨rfl, rfl, rfl⟩
  · rw [cellarEnable_good (by rw [hg.cellarState]; exact h0) (by rw [hg.cellarConfigOk hwf]; exact hc) hh hn] at he
    generalize hb : ({ g.cellarAccepted with cellarState := 2, cellarGen := nextGen cur, cellarFloor := floor } : State) = b at he
    have hbs : b.cellarState = 2 ∧ b.cellarGen = nextGen cur ∧ b.cellarFloor = floor ∧ b.cellarLocked = true := by
      rw [← hb]
      exact ⟨rfl, rfl, rfl, rfl⟩
    obtain ⟨b1, b2, b3, b4⟩ := hbs
    obtain ⟨w1, w2, w3, w4⟩ := (works_writeHeader b (nextGen cur) floor).cellar
    generalize writeHeader b (nextGen cur) floor = w at *
    obtain ⟨h1, h2, h3, h4, -, -⟩ := applied_cellar w
    exact .of he ⟨h1.trans (w1.trans b1), h2.trans (w2.trans b2), h3.trans (w3.trans b3), h4.trans (w4.trans b4)⟩

/-- The end of clearing. -/
theorem completes_clearingDone (h1 : s.cellarState = 1) :
    Completes .cellarClearingDone s (fun u => u.cellarState = 2 ∧ u.cellarGen = s.cellarFloor
      ∧ u.cellarFloor = s.cellarFloor ∧ Sends s u (.cellarZeroed (s.rawN 0x3F00 0) (2 ^ (30 + s.rawN 0x3F00 1)))) := by
  obtain ⟨o, ho⟩ : ∃ o : Out, o = .cellarZeroed (s.rawN 0x3F00 0) (2 ^ (30 + s.rawN 0x3F00 1)) := ⟨_, rfl⟩
  have he : exec .cellarClearingDone s = .next (writeHeader { s.send o with cellarState := 2, cellarGen := s.cellarFloor }
      s.cellarFloor s.cellarFloor) := by
    show execCellarClearingDone s = _
    unfold execCellarClearingDone
    rw [if_neg (by simp [h1]), ho]
  have hsend : s.send o = { s with out := s.out ++ [o] } := send_of_not_stopped s (by rw [ho]; rfl)
  rw [hsend] at he
  generalize hb : ({ s with out := s.out ++ [o], cellarState := 2, cellarGen := s.cellarFloor } : State) = b at he
  have hbs : b.cellarState = 2 ∧ b.cellarGen = s.cellarFloor ∧ b.cellarFloor = s.cellarFloor ∧ b.out = s.out ++ [o] := by
    rw [← hb]
    exact ⟨rfl, rfl, rfl, rfl⟩
  obtain ⟨b1, b2, b3, b4⟩ := hbs
  obtain ⟨w1, w2, w3, -⟩ := (works_writeHeader b s.cellarFloor s.cellarFloor).cellar
  obtain ⟨l, hl⟩ := (keeps_writeHeader (.refl (m := false) b) (cur := s.cellarFloor) (floor := s.cellarFloor)).out
  generalize writeHeader b s.cellarFloor s.cellarFloor = w at *
  rw [← ho]
  exact .of he ⟨w1.trans b1, w2.trans b2, w3.trans b3, [o] ++ l, by rw [← hl, b4, List.append_assoc], by simp⟩

end

/-! ## PRELOAD (R211) -/

/-- What R211 refuses. -/
def PreloadBad (s : State) (mode : Nat) : Prop :=
  (mode ≠ 1 ∧ s.build ≠ .h1L) ∨ s.rawN 0x3F10 1 % 4096 ≠ 0 ∨ s.rawN 0x3F10 2 % 4096 ≠ 0
    ∨ s.rawN 0x3F10 2 ≤ s.rawN 0x3F10 1 ∨ 2 ^ 44 < s.rawN 0x3F10 2

section
variable {s : State} {mode : Nat}

theorem preload_busy (hp : s.au.preload.isSome = true) : preload s mode = s.setRawN 0x3F10 8 1 := if_pos hp

theorem preloadBad_iff (h1 : 1 ≤ mode) (h3 : mode ≤ 3) :
    (mode == 0 || decide (3 < mode) || (mode != 1 && s.build != .h1L) || s.rawN 0x3F10 1 % 4096 != 0
      || s.rawN 0x3F10 2 % 4096 != 0 || decide (s.rawN 0x3F10 2 ≤ s.rawN 0x3F10 1) || decide (2 ^ 44 < s.rawN 0x3F10 2)) = true
      ↔ PreloadBad s mode := by
  have h0 : (mode == 0) = false := by simp; omega
  have h4 : decide (3 < mode) = false := by simpa using h3
  rw [h0, h4, PreloadBad]
  simp only [Bool.or_eq_true, Bool.and_eq_true, bne_iff_ne, decide_eq_true_eq, Bool.false_or, or_assoc]

theorem preload_bad (hp : s.au.preload = none) (h1 : 1 ≤ mode) (h3 : mode ≤ 3) (hb : PreloadBad s mode) :
    preload s mode = s.setRawN 0x3F10 8 3 := by
  unfold preload
  dsimp only
  rw [if_neg (by simp [hp]), if_pos ((preloadBad_iff h1 h3).mpr hb)]

theorem preload_ok (hp : s.au.preload = none) (h1 : 1 ≤ mode) (h3 : mode ≤ 3) (hb : ¬ PreloadBad s mode) :
    preload s mode = { (s.setRawN 0x3F10 8 0).setRawN 0x3F10 3 1 with
      au := { s.au with preload := some (mode, s.rawN 0x3F10 1 / 256, s.rawN 0x3F10 2 / 256) } } := by
  unfold preload
  dsimp only
  rw [if_neg (by simp [hp]), if_neg (fun h => hb ((preloadBad_iff h1 h3).mp h))]

theorem write_preloadCmd (ho : s.windowOpen) (h1 : 1 ≤ mode) (h3 : mode ≤ 3) :
    exec (preloadCmd mode) s = .next (reached s (fun u => preload u mode)) := by
  obtain rfl | rfl | rfl : mode = 1 ∨ mode = 2 ∨ mode = 3 := by omega
  · exact write_preload ho
  · exact write_preloadAndLock ho
  · exact write_unlock ho

theorem Logs.preloadBad {a b : State} (h : Logs a b) (w : KV.wf a.chart = true) (mode : Nat) :
    PreloadBad b mode ↔ PreloadBad a mode := by
  unfold PreloadBad
  rw [h.build, h.rawN w (i := 0x3F10) (j := 1) (apart (by decide)), h.rawN w (i := 0x3F10) (j := 2) (apart (by decide))]

theorem completes_preload (hinv : s.Inv) (ho : s.windowOpen) (h1 : 1 ≤ mode) (h3 : mode ≤ 3) :
    (s.au.preload.isSome = true → Completes (preloadCmd mode) s (fun u => u.rawN 0x3F10 8 = 1 ∧ u.au = s.au)) ∧
    (s.au.preload = none → PreloadBad s mode → Completes (preloadCmd mode) s (fun u => u.rawN 0x3F10 8 = 3 ∧ u.au = s.au)) ∧
    (s.au.preload = none → ¬ PreloadBad s mode → Completes (preloadCmd mode) s (fun u => u.rawN 0x3F10 8 = 0
      ∧ u.rawN 0x3F10 3 = 1
      ∧ u.au = { s.au with preload := some (mode, s.rawN 0x3F10 1 / 256, s.rawN 0x3F10 2 / 256) } ∧ u.tills = s.tills)) := by
  have hwf : KV.wf s.chart = true := hinv.2.2.2.2.2.1
  have he := write_preloadCmd ho h1 h3
  rw [reached_eq] at he
  have hg := logs_reached s
  generalize s.gev 0x10C = g at he hg
  have hwg := hg.chart_wf hwf
  have hset : ∀ v, v < 2 ^ 64 → (applied (g.setRawN 0x3F10 8 v)).rawN 0x3F10 8 = v := fun v hv =>
    (rawN_applied _ (chart_wf_setRawN g 0x3F10 8 v hwg) (by decide)).trans (rawN_setRawN g _ _ _ hwg hv)
  refine ⟨fun hp => ?_, fun hp hb => ?_, fun hp hb => ?_⟩
  · rw [preload_busy (by rw [hg.au]; exact hp)] at he
    exact .of he ⟨hset 1 (by decide), hg.au⟩
  · rw [preload_bad (by rw [hg.au]; exact hp) h1 h3 ((hg.preloadBad hwf mode).mpr hb)] at he
    exact .of he ⟨hset 3 (by decide), hg.au⟩
  · rw [preload_ok (by rw [hg.au]; exact hp) h1 h3 (fun h => hb ((hg.preloadBad hwf mode).mp h)),
      hg.rawN hwf (i := 0x3F10) (j := 1) (apart (by decide)), hg.rawN hwf (i := 0x3F10) (j := 2) (apart (by decide)), hg.au] at he
    have hw1 := chart_wf_setRawN g 0x3F10 8 0 hwg
    have hw2 := chart_wf_setRawN (g.setRawN 0x3F10 8 0) 0x3F10 3 1 hw1
    refine .of he ⟨?_, ?_, rfl, hg.tills⟩
    · refine (rawN_applied _ hw2 (by decide)).trans ?_
      exact (rawN_setRawN_ne _ _ hw1 (by decide)).trans (rawN_setRawN g 0x3F10 8 0 hwg (by decide))
    · exact (rawN_applied _ hw2 (by decide)).trans (rawN_setRawN (g.setRawN 0x3F10 8 0) 0x3F10 3 1 hw1 (by decide))

end

/-! ## The sectors of a preload, and visits (R201, R211) -/

section
variable {s : State} {t : Nat}

theorem exec_preloadSector (hc : s.calm t) (sec : BitVec 36) :
    exec (.preloadSector t sec) s = .next (settleFails (preloadSector s t sec.toNat)) := by
  show execPreloadSector t sec s = _
  unfold execPreloadSector
  rw [if_neg (by simp [hasTill_of_alive hc.1]), if_pos hc.1]

theorem exec_cellarVisit (hc : s.calm t) (p g : Nat) :
    exec (.cellarVisit t p g) s = .next (settleFails (cellarVisit s t p g)) := by
  show execCellarVisit t p g s = _
  unfold execCellarVisit
  rw [if_neg (by simp [hasTill_of_alive hc.1]), if_pos hc.1]

theorem completes_preloadSector (hinv : s.Inv) (hc : s.calm t) {m last : Nat} {sec : BitVec 36}
    (hp : s.au.preload = some (m, sec.toNat, last)) (hl : s.liveTill (bucketOfSector sec.toNat) = t)
    (hfree : 4 ≤ (s.till t).internalFree) (hcred : 0 < KV.get s.au.orderCred (ordGroup 3) 0) :
    Completes (.preloadSector t sec) s (fun u =>
      (sec.toNat + 1 < last → u.au.preload = some (m, sec.toNat + 1, last)) ∧
      (last ≤ sec.toNat + 1 → u.au.preload = none ∧ u.rawN 0x3F10 3 = 2)) := by
  have hr := rests_of_calm hinv hc
  have he := exec_preloadSector hc sec
  obtain ⟨oc, ho⟩ := takeOrder_some hcred
  obtain ⟨a, hau⟩ : ∃ a : State, a = { s with au := { s.au with orderCred := oc } } := ⟨_, rfl⟩
  have hat : a.tills = s.tills := by rw [hau]
  have hach : a.chart = s.chart := by rw [hau]
  obtain ⟨hst, -⟩ := startSecOp_does a (t := t) (by rw [hat]; exact hr.lt) sec.toNat (.preload m) {} false
    (s.regionOf s.maps.rGen sec.toNat)
  have hwk := keeps_startSecOp (.refl (m := false) a) (t := t) (sec := sec.toNat) (kind := .preload m) (e := {})
    (buffered := false) (region := s.regionOf s.maps.rGen sec.toNat)
  have hps : preloadSector s t sec.toNat
      = (let b := (startSecOp a t sec.toNat (.preload m) {} false (s.regionOf s.maps.rGen sec.toNat)).1
         if sec.toNat + 1 < last then { b with au := { b.au with preload := some (m, sec.toNat + 1, last) } }
         else { b.setRawN 0x3F10 3 2 with au := { b.au with preload := none } }) := by
    unfold preloadSector
    rw [hp]
    dsimp only
    rw [if_neg (by simp [hl]; omega), ho, hau]
  rw [hps] at he
  generalize (startSecOp a t sec.toNat (.preload m) {} false (s.regionOf s.maps.rGen sec.toNat)).1 = b at *
  have hfails : ∀ u ∈ b.tills, u.failDue = none := hst.fails (by rw [hat]; exact hr.fails)
  have hwb : KV.wf b.chart = true := hwk.chart (by rw [hach]; exact hinv.2.2.2.2.2.1)
  by_cases hlast : sec.toNat + 1 < last
  · have he2 := he
    dsimp only at he2
    rw [if_pos hlast, settleFails_none (by exact hfails)] at he2
    exact .of he2 ⟨fun _ => rfl, fun h => absurd h (by omega)⟩
  · have he2 := he
    dsimp only at he2
    rw [if_neg hlast, settleFails_none (by exact hfails)] at he2
    exact .of he2 ⟨fun h => absurd h hlast, fun _ => ⟨rfl, rawN_setRawN b 0x3F10 3 2 hwb (by decide)⟩⟩

theorem completes_cellarVisit (hinv : s.Inv) (hc : s.calm t) {p g : Nat} (hs : s.cellarState = 2) (hg : g < s.groupCount)
    (hp : p < 4096) (hl : s.liveTill p = t) (hfree : 0 < (s.till t).internalFree) (hre : KV.find? (s.till t).rebuild p = none)
    (hcur : p * s.groupCount + g = s.au.cellarCursor) (hnext : p * s.groupCount + g + 1 < s.allGroups)
    (hcred : 0 < KV.get s.au.orderCred (ordGroup 2) 0) :
    Completes (.cellarVisit t p g) s (fun u => u.au.cellarCursor = s.au.cellarCursor + 1
      ∧ (∃ o ∈ (u.till t).groups, o.p = p ∧ o.g = g ∧ o.kind = .visit false)) := by
  have hr := rests_of_calm hinv hc
  have he := exec_cellarVisit hc p g
  obtain ⟨oc, ho⟩ := takeOrder_some hcred
  obtain ⟨a, hau⟩ : ∃ a : State, a = { s with au := { s.au with orderCred := oc } } := ⟨_, rfl⟩
  have hat : a.tills = s.tills := by rw [hau]
  have hcv : cellarVisit s t p g
      = { startGroupAt a t p g (.visit false) with au := { (startGroupAt a t p g (.visit false)).au with
        cellarCursor := (startGroupAt a t p g (.visit false)).au.cellarCursor + 1 } } := by
    have hcond : (s.cellarState != 2 || decide (s.groupCount ≤ g) || decide (4096 ≤ p) || s.liveTill p != t
        || (s.till t).internalFree == 0) = false := by
      simp only [Bool.or_eq_false_iff, decide_eq_false_iff_not, bne_eq_false_iff_eq, beq_eq_false_iff_ne]
      omega
    unfold cellarVisit
    dsimp only
    rw [hcond, if_neg Bool.false_ne_true, hre, if_neg (by simp [hcur]), ho, ← hau]
    dsimp only
    rw [if_neg (by simp [hcur]), if_pos hnext]
    rfl
  rw [hcv] at he
  obtain ⟨hst, o, hog, hop⟩ := starts_startGroupAt a (t := t) (by rw [hat]; exact hr.lt) p g (.visit false)
  have hwk := (works_startGroupAt a t p g (.visit false)).au
  generalize startGroupAt a t p g (.visit false) = b at *
  have hfails : ∀ u ∈ b.tills, u.failDue = none := hst.fails (by rw [hat]; exact hr.fails)
  rw [settleFails_none (by exact hfails)] at he
  refine .of he ⟨?_, o, hog, hop⟩
  show b.au.cellarCursor + 1 = _
  rw [hwk, hau]

end

/-- Settles O37: each row of R171, R176 and R211 is one branch of its command. -/
theorem cellarComesUp : Obligations.CellarComesUp := by
  unfold Obligations.CellarComesUp
  intro s hinv
  refine ⟨fun ho h => completes_cellarEnable hinv ho h, fun h => ?_, completes_clearingDone,
    fun ho mode h1 h3 => completes_preload hinv ho h1 h3, fun t hc => ⟨fun hp sec => ?_, fun hs p g => ?_,
      fun m last sec hp hl hfree hcred => completes_preloadSector hinv hc hp hl hfree hcred,
      fun p g hs hg hp hl hfree hre hcur hnext hcred => completes_cellarVisit hinv hc hs hg hp hl hfree hre hcur hnext hcred⟩⟩
  · exact congrArg _ (if_pos (by simpa using h))
  · have e : preloadSector s t sec.toNat = s := by
      unfold preloadSector
      rw [hp]
    rw [exec_preloadSector hc, e, settleFails_none hc.2.2.2]
  · have e : cellarVisit s t p g = s := if_pos (by simp [hs])
    rw [exec_cellarVisit hc, e, settleFails_none hc.2.2.2]

end Sys2Proof.Machine
end

section
/-! PROOFS. The walks of the Auditor (R206, R290, R300, R371, R398). -/

namespace Sys2Proof.Machine

/-! ## A Till at rest starts operations -/

theorem KV.mem_put_cases {α : Type} {k : Nat} {v : α} {p : Nat × α} : ∀ {m : KV α}, p ∈ KV.put m k v → p = (k, v) ∨ p ∈ m
  | [], h => .inl (by simpa [KV.put] using h)
  | (j, w) :: m, h => by
    unfold KV.put at h
    split at h
    · rcases List.mem_cons.mp h with h | h
      · exact .inl h
      · exact .inr (List.mem_cons_of_mem _ h)
    · split at h
      · rcases List.mem_cons.mp h with h | h
        · exact .inl h
        · exact .inr h
      · rcases List.mem_cons.mp h with h | h
        · exact .inr (h ▸ List.mem_cons_self)
        · exact (KV.mem_put_cases h).imp id (List.mem_cons_of_mem _)

section
variable {s : State} {t : Nat}

theorem Rests.takeInternal (h : Rests s t) (l : Line) (job : Job) : Rests (takeInternal s t l job).1 t := by
  refine h.modTill h.ni (fun p hp => ?_) h.failDue
  rcases KV.mem_put_cases hp with rfl | hp
  · exact Opc.noConfusion
  · exact h.releases p hp

/-- A change of the Till beside what rest rests on. -/
theorem Rests.aside (h : Rests s t) {f : Till → Till} (hni : ∀ u, (f u).ni = u.ni) (hf : ∀ u, (f u).folios = u.folios)
    (hd : ∀ u, (f u).failDue = u.failDue) : Rests (s.modTill t f) t :=
  h.modTill (by rw [hni]; exact h.ni) (by rw [hf]; exact h.releases) (by rw [hd]; exact h.failDue)

theorem Rests.openChain (h : Rests s t) (l : Line) (f : Nat) : Rests (openChain s t l f) t := by
  unfold Machine.openChain
  extract_lets u pl s1
  have h1 : Rests s1 t := h.aside (fun _ => rfl) (fun _ => rfl) (fun _ => rfl)
  split
  · have hn := (logs_note s1 .ledgerOverflowList (.till t) [t] none).tills
    generalize s1.note .ledgerOverflowList (.till t) [t] none = n at hn ⊢
    exact h1.of_tills hn
  · exact h1

theorem Rests.joinChain (h : Rests s t) (f : Nat) (l : Line) : Rests (joinChain s t f l) t := by
  unfold Machine.joinChain
  split
  · exact (h.openChain l f).modFolio f (fun _ => rfl)
  · refine Rests.aside ?_ (fun _ => rfl) (fun _ => rfl) (fun _ => rfl)
    refine Rests.modFolio ?_ f (fun _ => rfl)
    exact h.modFolio _ (fun _ => rfl)

theorem rests_foldl_fst {α β : Type} {f : State × β → α → State × β} (hf : ∀ x i, Rests x.1 t → Rests (f x i).1 t) :
    ∀ (l : List α) (x : State × β), Rests x.1 t → Rests (l.foldl f x).1 t
  | [], _, h => h
  | i :: l, x, h => rests_foldl_fst hf l (f x i) (hf x i h)

theorem Rests.startSecOp (h : Rests s t) (sec : Nat) (kind : SecKind) (e : Ent) (buffered : Bool) (region : Nat) :
    Rests (startSecOp s t sec kind e buffered region).1 t := by
  unfold Machine.startSecOp
  extract_lets k r o
  have hr : Rests r.1 t := rests_foldl_fst (fun x i hx => (hx.takeInternal _ _).joinChain _ _) _ (s, []) h
  clear_value r
  exact hr.aside (f := fun u => { u with secOps := KV.put u.secOps k o }) (fun _ => rfl) (fun _ => rfl) (fun _ => rfl)

/-- Operations start on the sectors of a list, one behind the other. -/
theorem startSecOps_does (kind : SecKind) (reg : State → Nat → Nat) (l : List Nat) : ∀ s : State, t < s.tills.length →
    Starts s (l.foldl (fun s sec => (startSecOp s t sec kind {} false (reg s sec)).1) s)
      ∧ Works s (l.foldl (fun s sec => (startSecOp s t sec kind {} false (reg s sec)).1) s)
      ∧ (∀ p ∈ (s.till t).secOps,
          p ∈ ((l.foldl (fun s sec => (startSecOp s t sec kind {} false (reg s sec)).1) s).till t).secOps)
      ∧ ∀ sec ∈ l, ∃ p ∈ ((l.foldl (fun s sec => (startSecOp s t sec kind {} false (reg s sec)).1) s).till t).secOps,
          p.2.sector = sec ∧ p.2.kind = kind := by
  induction l with
  | nil => exact fun s _ => ⟨.refl s, .refl s, fun _ h => h, fun _ h => absurd h (by simp)⟩
  | cons x l ih =>
    intro s ht
    obtain ⟨h1, k, o, hops, hsec, hkind, hlt⟩ := startSecOp_does s ht x kind {} false (reg s x)
    have hw := works_startSecOp s t x kind {} false (reg s x)
    rw [List.foldl_cons]
    generalize (startSecOp s t x kind {} false (reg s x)).1 = a at *
    obtain ⟨h2, hw2, hkeep, hall⟩ := ih a (by rw [h1.length]; exact ht)
    refine ⟨h1.trans h2, hw.trans hw2, fun p hp => hkeep p ?_, fun sec hs => ?_⟩
    · rw [hops]
      exact KV.mem_put_ne (Nat.ne_of_lt (hlt p hp)) hp
    · rcases List.mem_cons.mp hs with rfl | hs
      · exact ⟨(k, o), hkeep _ (by rw [hops]; exact KV.mem_put _ _ _), hsec, hkind⟩
      · exact hall sec hs

/-! ## The Vault phase (R290, R300) -/

theorem exec_walk (ht : s.build.hasTill t = true) (leave : Bool) (pos : WalkAt) :
    exec (walkCmd leave t pos) s = .next (settleFails (walkVisit s leave t pos)) := by
  cases leave
  · exact if_neg (by simp [ht])
  · exact if_neg (by simp [ht])

theorem walkVisit_nobody (leave : Bool) (pos : WalkAt) (h : s.au.walkers leave = []) : walkVisit s leave t pos = s := by
  unfold walkVisit
  split
  · rfl
  · cases pos with
    | vault bank set => exact if_pos (by simp [h])
    | cellar p g => exact if_pos (by simp [h])

/-- What one set of the Vault phase leaves of the Auditor. -/
def Auditor.setDone (a : Auditor) (leave : Bool) (t pos : Nat) : Auditor :=
  a.setWalk leave ((a.walkers leave).map (fun (x : WalkAgent) =>
      { x with vaultLeft := x.vaultLeft.map (fun p => if p.1 == t then (p.1, p.2 - 1) else p) }))
    (KV.put (a.sets leave) t (pos + 1)) (a.group leave)

theorem setDone_does (a : Auditor) (leave : Bool) (t pos : Nat) :
    KV.get ((a.setDone leave t pos).sets leave) t 0 = pos + 1
      ∧ ((a.setDone leave t pos).walkers leave).map (·.aid) = (a.walkers leave).map (·.aid) := by
  cases leave <;>
    · refine ⟨?_, ?_⟩
      · show (KV.find? (KV.put _ t (pos + 1)) t).getD 0 = pos + 1
        rw [KV.find_put]
        rfl
      · show List.map _ (List.map _ _) = _
        rw [List.map_map]
        rfl

/-- A pass goes on while the Till's Vault is not through. -/
theorem nextPass_none {leave : Bool} (ht : s.build.hasTill t = true) (hw : s.walked t = true)
    (hp : KV.get (s.au.sets leave) t 0 ≠ vaultSets) : nextPass s leave = s := by
  have hno : s.vaultPhaseDone leave = false := by
    unfold State.vaultPhaseDone
    rw [List.all_eq_false]
    have hlt : t < s.build.tills := by simpa [Build.hasTill] using ht
    exact ⟨t, List.mem_range.mpr hlt, by simp [hw, hp]⟩
  unfold nextPass
  rw [hno]
  rfl

theorem completes_walkSet (hinv : s.Inv) (hc : s.calm t) {leave : Bool} {bank set : Nat} (hw : s.walked t = true)
    (hset : set < 2048) (hbank : bank < 16) (hcur : KV.get (s.au.sets leave) t 0 = bank * 2048 + set)
    (hwalk : s.au.walkers leave ≠ []) (hread : readSet s t bank set = s)
    (hfree : 4 * (s.walkSectors leave t bank set).length ≤ (s.till t).internalFree)
    (hcred : 0 < KV.get s.au.orderCred (ordKey t (bit leave)) 0) (hnext : bank * 2048 + set + 1 < vaultSets) :
    Completes (walkCmd leave t (.vault bank set)) s (fun u =>
      KV.get (u.au.sets leave) t 0 = bank * 2048 + set + 1
        ∧ (u.au.walkers leave).map (·.aid) = (s.au.walkers leave).map (·.aid)
        ∧ (∀ sec ∈ s.walkSectors leave t bank set, ∃ p ∈ (u.till t).secOps, p.2.sector = sec ∧ p.2.kind = walkKind leave)) := by
  have hr := rests_of_calm hinv hc
  have ht := hasTill_of_alive hc.1
  have he := exec_walk ht leave (.vault bank set)
  obtain ⟨oc, ho⟩ := takeOrder_some hcred
  obtain ⟨a, hau⟩ : ∃ a : State, a = { s with au := { s.au with orderCred := oc } } := ⟨_, rfl⟩
  have hat : a.tills = s.tills := by rw [hau]
  have hab : a.build = s.build := by rw [hau]; rfl
  have haw : a.au.walkers leave = s.au.walkers leave := by
    rw [hau]
    cases leave <;> rfl
  have hwv : walkVisit s leave t (.vault bank set)
      = (let b := (s.walkSectors leave t bank set).foldl
          (fun s sec => (startSecOp s t sec (walkKind leave) {} false (s.regionOf s.maps.rGen sec)).1) a
         nextPass { b with au := b.au.setDone leave t (bank * 2048 + set) } leave) := by
    have hcond : (!s.walked t || decide (2048 ≤ set) || decide (16 ≤ bank)
        || KV.get (s.au.sets leave) t 0 != bank * 2048 + set || (s.au.walkers leave).isEmpty) = false := by
      have h1 : decide (2048 ≤ set) = false := by simpa using hset
      have h2 : decide (16 ≤ bank) = false := by simpa using hbank
      rw [hw, h1, h2, hcur]
      simpa using hwalk
    unfold walkVisit
    rw [if_neg (by simp [hc.1])]
    dsimp only
    unfold walkSet
    dsimp only
    rw [hcond, if_neg Bool.false_ne_true, hread, if_neg (by omega), ho, ← hau]
    rfl
  rw [hwv] at he
  obtain ⟨hst, hwk, -, hops⟩ := startSecOps_does (t := t) (walkKind leave) (fun s sec => s.regionOf s.maps.rGen sec)
    (s.walkSectors leave t bank set) a (by rw [hat]; exact hr.lt)
  generalize (s.walkSectors leave t bank set).foldl
    (fun s sec => (startSecOp s t sec (walkKind leave) {} false (s.regionOf s.maps.rGen sec)).1) a = b at *
  obtain ⟨hset1, haid⟩ := setDone_does b.au leave t (bank * 2048 + set)
  have hrole : (b.till t).role = (s.till t).role := by
    have h1 : (b.till t).rest.role = (a.till t).rest.role := by rw [hst.till t]
    have h2 : a.till t = s.till t := by
      unfold State.till
      rw [hat]
    exact h1.trans (by rw [h2]; rfl)
  have hpass : nextPass { b with au := b.au.setDone leave t (bank * 2048 + set) } leave
      = { b with au := b.au.setDone leave t (bank * 2048 + set) } := by
    refine nextPass_none (t := t) ?_ ?_ ?_
    · show b.build.hasTill t = true
      rw [hwk.build, hab]
      exact ht
    · show (b.till t).role == .active || (b.till t).role == .source
      rw [hrole]
      exact hw
    · show KV.get ((b.au.setDone leave t (bank * 2048 + set)).sets leave) t 0 ≠ vaultSets
      rw [hset1]
      omega
  dsimp only at he
  rw [hpass, settleFails_none (by exact hst.fails (by rw [hat]; exact hr.fails))] at he
  refine .of he ⟨hset1, ?_, hops⟩
  exact haid.trans (by rw [hwk.au, haw])

/-! ## The clean walk (R206) -/

theorem completes_clean (hc : s.calm t) {n k : Nat} {rest : KV Nat} (h : s.au.clean = (n, k) :: rest)
    (hno : s.holdsRegion n = false) (bank set : Nat) :
    Completes (.retentiveCleanWalk t (.vault bank set)) s (fun u => u.au.clean = rest ∧ u.tills = s.tills) := by
  have he : exec (.retentiveCleanWalk t (.vault bank set)) s = .next (settleFails (cleanVisit s t bank set)) := by
    show execRetentiveCleanWalk t (.vault bank set) s = _
    unfold execRetentiveCleanWalk
    rw [if_neg (by simp [hasTill_of_alive hc.1]), if_neg (by simp [hc.1])]
  have hv : cleanVisit s t bank set = { s with au := { s.au with clean := KV.del s.au.clean n } } := by
    unfold cleanVisit
    rw [h]
    exact if_pos (by simp [hno])
  rw [hv, settleFails_none (by exact hc.2.2.2)] at he
  refine .of he ⟨?_, rfl⟩
  show KV.del s.au.clean n = rest
  rw [h]
  exact if_pos rfl

theorem clean_nothing (hc : s.calm t) (h : s.au.clean = []) (bank set : Nat) :
    exec (.retentiveCleanWalk t (.vault bank set)) s = .next s := by
  have hv : cleanVisit s t bank set = s := by
    unfold cleanVisit
    rw [h]
  show execRetentiveCleanWalk t (.vault bank set) s = _
  unfold execRetentiveCleanWalk
  rw [if_neg (by simp [hasTill_of_alive hc.1]), if_neg (by simp [hc.1])]
  dsimp only
  rw [hv, settleFails_none hc.2.2.2]

/-! ## The resolution walk (R371) -/

theorem exec_resolutionWalk (hc : s.calm t) (i : Nat) : exec (.resolutionWalk t i) s = .next (worked (resolveStep s t i) t) := by
  show execResolutionWalk t i s = _
  unfold execResolutionWalk
  rw [if_neg (by simp [hasTill_of_alive hc.1]), if_pos hc.1]

theorem completes_resolveDone (hinv : s.Inv) (hc : s.calm t) {i : Nat} {r : Resolve}
    (h : KV.find? (s.till t).resolve i = some r) (hn : nextCandidate s t r = none) :
    Completes (.resolutionWalk t i) s (fun u => (u.till t).resolve = KV.del (s.till t).resolve i ∧ Reports s u 0x211) := by
  have hr := rests_of_calm hinv hc
  have he := exec_resolutionWalk hc i
  have hs : resolveStep s t i = (s.modTill t (fun u => { u with resolve := KV.del u.resolve i })).note .resolveDone (.till t)
      [bit r.cellar, r.bank, r.set, r.p, r.g] := by
    unfold resolveStep
    rw [h]
    dsimp only
    rw [hn]
  rw [hs] at he
  have hm : Rests (s.modTill t (fun u => { u with resolve := KV.del u.resolve i })) t :=
    hr.aside (fun _ => rfl) (fun _ => rfl) (fun _ => rfl)
  have hmr : ((s.modTill t (fun u => { u with resolve := KV.del u.resolve i })).till t).resolve = KV.del (s.till t).resolve i := by
    rw [till_modTill s _ hr.lt]
  have hmj : (s.modTill t (fun u => { u with resolve := KV.del u.resolve i })).journal = s.journal := rfl
  have hmt : (s.modTill t (fun u => { u with resolve := KV.del u.resolve i })).time = s.time := rfl
  generalize s.modTill t (fun u => { u with resolve := KV.del u.resolve i }) = m at *
  have hl := logs_note m .resolveDone (.till t) [bit r.cellar, r.bank, r.set, r.p, r.g] none
  have hrep := reports_note (s := s) (u := m) (by rw [hmj]) (by rw [hmt]) .resolveDone (.till t)
    [bit r.cellar, r.bank, r.set, r.p, r.g] none
  generalize m.note .resolveDone (.till t) [bit r.cellar, r.bank, r.set, r.p, r.g] none = n at *
  have hn' : Rests n t := hm.of_tills hl.tills
  rw [hn'.worked] at he
  refine .of he ⟨?_, hrep⟩
  rw [till_modTill n _ hn'.lt]
  show (n.till t).resolve = _
  rw [hl.till, hmr]

theorem completes_resolveNext (hinv : s.Inv) (hc : s.calm t) {i sec : Nat} {r : Resolve}
    (h : KV.find? (s.till t).resolve i = some r) (hn : nextCandidate s t r = some sec) (hfree : 4 ≤ (s.till t).internalFree)
    (hcred : 0 < KV.get s.au.orderCred (ordKey t 2) 0) :
    Completes (.resolutionWalk t i) s (fun u => KV.find? (u.till t).resolve i = some { r with cursor := sec + 1 }
      ∧ (∃ p ∈ (u.till t).secOps, p.2.sector = sec ∧ p.2.kind = .resolve r.cellar)) := by
  have hr := rests_of_calm hinv hc
  have he := exec_resolutionWalk hc i
  obtain ⟨oc, ho⟩ := takeOrder_some hcred
  obtain ⟨a, hau⟩ : ∃ a : State, a = { s with au := { s.au with orderCred := oc } } := ⟨_, rfl⟩
  have hat : a.tills = s.tills := by rw [hau]
  have hs : resolveStep s t i = (startSecOp (a.modTill t (fun u => { u with
      resolve := KV.put u.resolve i { r with cursor := sec + 1 } })) t sec (.resolve r.cellar) {} false
      (s.regionOf s.maps.rGen sec)).1 := by
    unfold resolveStep
    rw [h]
    dsimp only
    rw [hn]
    dsimp only
    rw [if_neg (by omega), ho, ← hau]
  rw [hs] at he
  have hra : Rests a t := hr.of_tills hat
  have hrm : Rests (a.modTill t (fun u => { u with resolve := KV.put u.resolve i { r with cursor := sec + 1 } })) t :=
    hra.aside (fun _ => rfl) (fun _ => rfl) (fun _ => rfl)
  have hmr : KV.find? ((a.modTill t (fun u => { u with
      resolve := KV.put u.resolve i { r with cursor := sec + 1 } })).till t).resolve i = some { r with cursor := sec + 1 } := by
    rw [till_modTill a _ hra.lt]
    exact KV.find_put ..
  generalize a.modTill t (fun u => { u with resolve := KV.put u.resolve i { r with cursor := sec + 1 } }) = m at *
  obtain ⟨hst, k, o, hops, hsec, hkind, -⟩ := startSecOp_does m hrm.lt sec (.resolve r.cellar) {} false
    (s.regionOf s.maps.rGen sec)
  have hrb := hrm.startSecOp sec (.resolve r.cellar) {} false (s.regionOf s.maps.rGen sec)
  generalize (startSecOp m t sec (.resolve r.cellar) {} false (s.regionOf s.maps.rGen sec)).1 = b at *
  rw [hrb.worked] at he
  have hres : (b.till t).resolve = (m.till t).resolve :=
    show (b.till t).rest.resolve = (m.till t).rest.resolve by rw [hst.till t]
  refine .of he ?_
  rw [till_modTill b _ hrb.lt]
  exact ⟨by rw [← hmr]; exact congrArg (KV.find? · i) hres, (k, o), by rw [hops]; exact KV.mem_put _ _ _, hsec, hkind⟩

/-! ## The rebuild walk (R398) -/

theorem exec_rebuildStep (hc : s.calm t) (b : Nat) : exec (.rebuildStep t b) s = .next (rebuildStep s t b) := by
  show execRebuildStep t b s = _
  unfold execRebuildStep
  rw [if_neg (by simp [hasTill_of_alive hc.1]), if_pos hc.1]

theorem lowest_rebuild {b : Nat} (h : ∀ p ∈ (s.till t).rebuild, b ≤ p.1) :
    (s.till t).rebuild.any (fun p => decide (p.1 < b) && decide (p.2.cursor < s.topSector)) = false := by
  rw [List.any_eq_false]
  intro p hp
  have := h p hp
  simp
  omega

theorem completes_rebuilt (hinv : s.Inv) (hc : s.calm t) {b : Nat} {r : Rebuild}
    (h : KV.find? (s.till t).rebuild b = some r) (hlow : ∀ p ∈ (s.till t).rebuild, b ≤ p.1)
    (hn : nextInBucket s t b (2 ^ 20) (r.cursor / 65536) r.cursor = none) (hoff : s.cellarState ≠ 2) :
    Completes (.rebuildStep t b) s (fun u => (u.till t).rebuild
      = KV.del (KV.put (s.till t).rebuild b { r with cursor := s.topSector }) b) := by
  have hr := rests_of_calm hinv hc
  have he := exec_rebuildStep hc b
  have hs : rebuildStep s t b = rebuildDone (s.modTill t (fun u => { u with
      rebuild := KV.put u.rebuild b { r with cursor := s.topSector } })) t b := by
    unfold rebuildStep
    rw [h]
    dsimp only
    rw [lowest_rebuild hlow, if_neg Bool.false_ne_true, hn]
  have hm : ((s.modTill t (fun u => { u with rebuild := KV.put u.rebuild b { r with cursor := s.topSector } })).till t).rebuild
      = KV.put (s.till t).rebuild b { r with cursor := s.topSector } := by
    rw [till_modTill s _ hr.lt]
  have hmt : (s.modTill t (fun u => { u with rebuild := KV.put u.rebuild b { r with cursor := s.topSector } })).topSector
      = s.topSector := rfl
  have hmc : (s.modTill t (fun u => { u with rebuild := KV.put u.rebuild b { r with cursor := s.topSector } })).cellarState
      = s.cellarState := rfl
  have hml := tills_length_modTill s t (fun u => { u with rebuild := KV.put u.rebuild b { r with cursor := s.topSector } })
  rw [hs] at he
  generalize s.modTill t (fun u => { u with rebuild := KV.put u.rebuild b { r with cursor := s.topSector } }) = m at *
  have hd : rebuildDone m t b = m.modTill t (fun u => { u with rebuild := KV.del u.rebuild b }) := by
    unfold rebuildDone
    rw [hm, KV.find_put]
    dsimp only
    rw [hmt, hmc, if_pos (by simp [hoff])]
  rw [hd] at he
  refine .of he ?_
  rw [till_modTill m _ (by rw [hml]; exact hr.lt), ← hm]

theorem completes_rebuildNext (hinv : s.Inv) (hc : s.calm t) {b sec : Nat} {r : Rebuild}
    (h : KV.find? (s.till t).rebuild b = some r) (hlow : ∀ p ∈ (s.till t).rebuild, b ≤ p.1)
    (hn : nextInBucket s t b (2 ^ 20) (r.cursor / 65536) r.cursor = some sec) (hfree : 4 ≤ (s.till t).internalFree)
    (hcred : 0 < KV.get s.au.orderCred (ordKey t 3) 0) :
    Completes (.rebuildStep t b) s (fun u => KV.find? (u.till t).rebuild b = some { r with cursor := sec + 1 }
      ∧ (∃ p ∈ (u.till t).secOps, p.2.sector = sec ∧ p.2.kind = .resolve false)) := by
  have hr := rests_of_calm hinv hc
  have he := exec_rebuildStep hc b
  obtain ⟨oc, ho⟩ := takeOrder_some hcred
  obtain ⟨a, hau⟩ : ∃ a : State, a = { s with au := { s.au with orderCred := oc } } := ⟨_, rfl⟩
  have hat : a.tills = s.tills := by rw [hau]
  have hs : rebuildStep s t b = (startSecOp (a.modTill t (fun u => { u with
      rebuild := KV.put u.rebuild b { r with cursor := sec + 1 } })) t sec (.resolve false) {} false
      (s.regionOf s.maps.rGen sec)).1 := by
    unfold rebuildStep
    rw [h]
    dsimp only
    rw [lowest_rebuild hlow, if_neg Bool.false_ne_true, hn]
    dsimp only
    rw [if_neg (by omega), ho, ← hau]
  rw [hs] at he
  have hra : Rests a t := hr.of_tills hat
  have hmr : KV.find? ((a.modTill t (fun u => { u with
      rebuild := KV.put u.rebuild b { r with cursor := sec + 1 } })).till t).rebuild b = some { r with cursor := sec + 1 } := by
    rw [till_modTill a _ hra.lt]
    exact KV.find_put ..
  have hml := tills_length_modTill a t (fun u => { u with rebuild := KV.put u.rebuild b { r with cursor := sec + 1 } })
  generalize a.modTill t (fun u => { u with rebuild := KV.put u.rebuild b { r with cursor := sec + 1 } }) = m at *
  obtain ⟨hst, k, o, hops, hsec, hkind, -⟩ := startSecOp_does m (t := t) (by rw [hml]; exact hra.lt) sec (.resolve false) {}
    false (s.regionOf s.maps.rGen sec)
  generalize (startSecOp m t sec (.resolve false) {} false (s.regionOf s.maps.rGen sec)).1 = d at *
  have hres : (d.till t).rebuild = (m.till t).rebuild :=
    show (d.till t).rest.rebuild = (m.till t).rest.rebuild by rw [hst.till t]
  exact .of he ⟨by rw [hres, hmr], (k, o), by rw [hops]; exact KV.mem_put _ _ _, hsec, hkind⟩

end

/-- Settles O38: each walk moves its own cursor and starts its own operations. -/
theorem walksAdvance : Obligations.WalksAdvance := by
  unfold Obligations.WalksAdvance
  intro s t hinv hc
  refine ⟨fun leave bank set hw hset hbank hcur hwalk hread hfree hcred hnext =>
      completes_walkSet hinv hc hw hset hbank hcur hwalk hread hfree hcred hnext,
    fun leave pos h => ?_, fun h bank set => clean_nothing hc h bank set,
    fun n k rest h hno bank set => completes_clean hc h hno bank set,
    fun i r h hn => completes_resolveDone hinv hc h hn,
    fun i r sec h hn hfree hcred => completes_resolveNext hinv hc h hn hfree hcred,
    fun b r h hlow => ⟨fun hn hoff => completes_rebuilt hinv hc h hlow hn hoff,
      fun sec hn hfree hcred => completes_rebuildNext hinv hc h hlow hn hfree hcred⟩⟩
  rw [exec_walk (hasTill_of_alive hc.1), walkVisit_nobody leave pos h, settleFails_none hc.2.2.2]

end Sys2Proof.Machine
end

section
/-! PROOFS. The planned transfer of a Till (R386 to R392). -/

namespace Sys2Proof.Machine

section
variable {s : State} {x : Transfer}

theorem xfer_alone (h : s.transfers = [x]) : s.xfer? x.src = some x := by
  unfold State.xfer?
  rw [h]
  exact List.find?_cons_of_pos (beq_self_eq_true _)

theorem modXfer_alone (h : s.transfers = [x]) (f : Transfer → Transfer) :
    s.modXfer x.src f = { s with transfers := [f x] } := by
  unfold State.modXfer
  rw [h, List.map_cons, List.map_nil, if_pos (beq_self_eq_true _)]

theorem no_forced (h : s.transfers = [x]) (hp : x.planned = true) : s.transfers.any (fun y => !y.planned) = false := by
  rw [h]
  simp [hp]

theorem tryForcedEnd_planned (h : s.transfers = [x]) (hp : x.planned = true) : tryForcedEnd s x.src = s := by
  unfold tryForcedEnd
  rw [xfer_alone h]
  exact if_pos (by simp [hp])

/-- A planned transfer that runs keeps its turn. -/
theorem nextTransfer_running (h : s.transfers = [x]) (hp : x.planned = true) (hst : x.state = 2) : nextTransfer s = s := by
  have h1 : s.transfers.any (fun y => !y.planned && y.state == 3) = false := by
    rw [h]
    simp [hp]
  have h2 : s.transfers.find? (fun y => !y.planned) = none := by
    rw [h]
    simp [hp]
  have h3 : s.transfers.any (fun y => y.planned && (y.state == 1 || y.state == 2)) = true := by
    rw [h]
    simp [hp, hst]
  unfold nextTransfer
  by_cases hb : s.maps.bPend.isEmpty
  · simp [hb, h1, h2, h3]
  · simp [hb]

theorem net_sendW (s : State) (w t : Nat) (m : WMsg) : (s.sendW w t m).net.pw = s.net.pw ++ [(w, t, m)] := by
  have h := (logs_packet s (.wicket w) (.till t) (c := 2) (by decide) 1).net
  show (s.packet (.wicket w) 2 1 (.till t)).net.pw ++ _ = _
  rw [h]

theorem wickets_sendW (s : State) (w t : Nat) (m : WMsg) : (s.sendW w t m).wickets = s.wickets :=
  (logs_packet s (.wicket w) (.till t) (c := 2) (by decide) 1).wickets

theorem wickets_length_modWicket (s : State) (w : Nat) (f : Wicket → Wicket) :
    (s.modWicket w f).wickets.length = s.wickets.length := List.length_modify ..

theorem wicket_congr {a b : State} (h : b.wickets = a.wickets) (w : Nat) : b.wicket w = a.wicket w := by
  unfold State.wicket
  rw [h]

theorem till_congr {a b : State} (h : b.tills = a.tills) (t : Nat) : b.till t = a.till t := by
  unfold State.till
  rw [h]

theorem hasWicket_of_mem {b : Build} {w : Nat} (h : w ∈ b.wicketList) : b.hasWicket w = true := by
  unfold Build.wicketList at h
  rw [List.mem_append, List.mem_range, List.mem_singleton] at h
  simpa [Build.hasWicket] using h

/-! ## Copying (R387) -/

theorem completes_copyRun (hinv : s.Inv) (hx : s.transfers = [x]) (hp : x.planned = true) (hc : s.calm x.src)
    (hd : s.build.hasTill x.dst = true) (hne : x.src ≠ x.dst) (h1 : x.state = 1) {bank : Nat} (hb : bank < 16)
    (hrun : KV.get (s.till x.src).copyBank bank 0 < 32) (hcred : 0 < KV.get s.au.orderCred (1024 + bank) 0) :
    Completes (.copyRun x.src bank) s (fun u =>
      KV.get (u.till x.src).copyBank bank 0 = KV.get (s.till x.src).copyBank bank 0 + 1
        ∧ u.till x.dst = ((s.till x.src).vault.filter (fun p =>
            decide (vkey bank (KV.get (s.till x.src).copyBank bank 0 * 64) 0 ≤ p.1)
              && decide (p.1 < vkey bank (KV.get (s.till x.src).copyBank bank 0 * 64) 0 + 1024))).foldl
            (fun v p => v.vwrite p.1 (eccFix p.2)) (s.till x.dst)
        ∧ u.transfers = s.transfers ∧ u.maps = s.maps) := by
  obtain ⟨oc, ho⟩ := takeOrder_some hcred
  obtain ⟨a, ha⟩ : ∃ a : State, a = { s with au := { s.au with orderCred := oc } } := ⟨_, rfl⟩
  have he : exec (.copyRun x.src bank) s = .next (copyRun a x bank (KV.get (s.till x.src).copyBank bank 0)) := by
    show execCopyRun x.src bank s = _
    unfold execCopyRun
    rw [if_neg (by simp [hasTill_of_alive hc.1]), xfer_alone hx]
    dsimp only
    rw [if_neg (by simp [hp, h1, hc.1, no_forced hx hp, hb, hrun]), ho, ← ha]
  have hat : a.tills = s.tills := by rw [ha]
  have hax : a.transfers = s.transfers := by rw [ha]
  have ham : a.maps = s.maps := by rw [ha]
  generalize KV.get (s.till x.src).copyBank bank 0 = run at *
  have hl : Logs a (if ((a.till x.src).vault.filter (fun p => decide (vkey bank (run * 64) 0 ≤ p.1)
      && decide (p.1 < vkey bank (run * 64) 0 + 1024))).isEmpty then a else a.packet (.till x.src) 4
        ((((a.till x.src).vault.filter (fun p => decide (vkey bank (run * 64) 0 ≤ p.1)
          && decide (p.1 < vkey bank (run * 64) 0 + 1024))).length + 7) / 8) (.till x.dst)) := by
    split
    · exact .refl a
    · exact logs_packet a _ _ (by decide) _
  unfold copyRun at he
  dsimp only at he
  rw [till_congr hat] at he hl
  generalize (s.till x.src).vault.filter (fun p => decide (vkey bank (run * 64) 0 ≤ p.1)
    && decide (p.1 < vkey bank (run * 64) 0 + 1024)) = l at *
  generalize (if l.isEmpty then a else a.packet (.till x.src) 4 ((l.length + 7) / 8) (.till x.dst)) = b at *
  have hbt : b.tills = s.tills := hl.tills.trans hat
  have hlt1 : x.src < b.tills.length := by
    rw [hbt]
    exact lt_tills_length hinv (hasTill_of_alive hc.1)
  have hlt2 : x.dst < b.tills.length := by
    rw [hbt]
    exact lt_tills_length hinv hd
  refine .of he ⟨?_, ?_, hl.transfers.trans hax, hl.maps.trans ham⟩
  · rw [till_modTill _ _ (by rw [tills_length_modTill]; exact hlt1)]
    unfold KV.get
    rw [KV.find_put]
    rfl
  · rw [till_modTill_ne _ _ hne.symm, till_modTill _ _ hlt2, till_congr hbt]

/-! ## The switch-over (R388) -/

theorem switch_found (hx : s.transfers = [x]) (hp : x.planned = true) (h12 : x.state = 1 ∨ x.state = 2) (hb : x.batch = []) :
    s.transfers.find? (fun x => x.planned && (x.state == 1 || x.state == 2) && x.batch.isEmpty) = some x := by
  rw [hx]
  exact List.find?_cons_of_pos (by simpa [hp, hb] using h12)

/-- The planned transfer of the next batch, as SWITCH leaves it. -/
def Transfer.switched (x : Transfer) (l : List Nat) (now : Nat) : Transfer :=
  { x with state := 2, batch := l, notice := false, copySent := false, gateCclk := now }

theorem setBucket_congr {a b : State} (h : b.build = a.build) : b.setBucket = a.setBucket := by
  funext m k t
  unfold State.setBucket State.bucketDefault
  rw [h]

theorem moveBuckets_does (s : State) {d : Nat} (hd : d < s.tills.length) (l : List Nat) :
    (moveBuckets s l d).maps.bPend = switchNodes s.build ∧ (moveBuckets s l d).maps.bByTransfer = true
      ∧ (moveBuckets s l d).maps.bLive = l.foldl (fun m b => s.setBucket m b d) s.maps.bLive
      ∧ (moveBuckets s l d).maps.bPrev = s.maps.bLive ∧ (∀ b ∈ l, b ∈ ((moveBuckets s l d).till d).gated)
      ∧ (moveBuckets s l d).transfers = s.transfers := by
  refine ⟨rfl, rfl, rfl, rfl, fun b hb => ?_, rfl⟩
  unfold moveBuckets
  extract_lets m
  rw [till_modTill _ _ (by exact hd), List.mem_append, List.mem_filter]
  by_cases hg : b ∈ ((startMapCommit s m true).till d).gated
  · exact .inl hg
  · exact .inr ⟨hb, by simpa using hg⟩

theorem completes_switch (hinv : s.Inv) (hx : s.transfers = [x]) (hp : x.planned = true) (hd : s.build.hasTill x.dst = true)
    (h12 : x.state = 1 ∨ x.state = 2) (hb : x.batch = []) (hcop : (s.till x.src).copied = true) (hpend : s.maps.bPend = [])
    (hold : s.oldBGen = false) :
    Completes (.switch x.done) s (fun u => u.maps.bPend = switchNodes s.build ∧ u.maps.bByTransfer = true
      ∧ u.maps.bLive = ((s.bucketsOf x.src).take 16).foldl (fun m b => s.setBucket m b x.dst) s.maps.bLive
      ∧ u.maps.bPrev = s.maps.bLive
      ∧ (∀ b ∈ (s.bucketsOf x.src).take 16, b ∈ (u.till x.dst).gated)
      ∧ u.transfers = [x.switched ((s.bucketsOf x.src).take 16) s.time.cclk]) := by
  have he : exec (.switch x.done) s = .next (moveBuckets (s.modXfer x.src (fun y =>
      y.switched ((s.bucketsOf x.src).take 16) s.time.cclk)) ((s.bucketsOf x.src).take 16) x.dst) := by
    show execSwitch x.done s = _
    unfold execSwitch
    rw [switch_found hx hp h12 hb]
    dsimp only
    rw [if_neg (by simp [hcop, hpend, hold, no_forced hx hp])]
    rfl
  rw [modXfer_alone hx] at he
  obtain ⟨a, ha⟩ : ∃ a : State, a = { s with transfers := [x.switched ((s.bucketsOf x.src).take 16) s.time.cclk] } := ⟨_, rfl⟩
  have hab : a.build = s.build := by rw [ha]; rfl
  have ham : a.maps = s.maps := by rw [ha]
  have hax : a.transfers = [x.switched ((s.bucketsOf x.src).take 16) s.time.cclk] := by rw [ha]
  have hlt : x.dst < a.tills.length := by
    rw [ha]
    exact lt_tills_length hinv hd
  rw [← ha] at he
  obtain ⟨h1, h2, h3, h4, h5, h6⟩ := moveBuckets_does a hlt ((s.bucketsOf x.src).take 16)
  exact .of he ⟨h1.trans (congrArg switchNodes hab), h2, by rw [h3, setBucket_congr hab, ham], h4.trans (congrArg Maps.bLive ham),
    h5, h6.trans hax⟩

theorem switch_other (hx : s.transfers = [x]) {n : Nat} (hn : n ≠ x.done) : exec (.switch n) s = .next s := by
  show execSwitch n s = _
  unfold execSwitch
  rw [hx]
  cases h : x.planned && (x.state == 1 || x.state == 2) && x.batch.isEmpty with
  | true =>
    rw [List.find?_cons, h]
    exact congrArg _ (if_pos (by simp [hn.symm]))
  | false =>
    rw [List.find?_cons, h]
    rfl

/-! ## HANDOVER and COPY_END leave the source (R390) -/

/-- Monitors that clear without a loss count change one Till alone. -/
theorem clearMons_unlost (s : State) (t : Nat) (p : Monitor → Bool) : ∃ f : Till → Till, clearMons s t p false = s.modTill t f := by
  unfold clearMons
  dsimp only
  split
  · exact ⟨id, by simp [State.modTill]⟩
  · exact ⟨_, if_neg Bool.false_ne_true⟩

theorem completes_handoverSend (hx : s.transfers = [x]) (hp : x.planned = true) (hc : s.calm x.src) (hb : x.batch ≠ [])
    (hn : x.notice = false) (hpend : s.maps.bPend = []) (hopen : s.chainOpen x = false) :
    Completes (.handoverSend x.src) s (fun u => u.transfers = [{ x with notice := true }]
      ∧ u.net.p = s.net.p ++ s.build.wicketList.map (fun w => (x.src, w, .handover x.batch)) ∧ u.maps = s.maps) := by
  obtain ⟨f, hf⟩ := clearMons_unlost s x.src (fun m => x.batch.contains (bucketOfLine m.laddr))
  have he : exec (.handoverSend x.src) s = .next (s.build.wicketList.foldl (fun s w => s.sendP x.src w (.handover x.batch))
      ((s.modTill x.src f).modXfer x.src (fun y => { y with notice := true }))) := by
    show execHandoverSend x.src s = _
    unfold execHandoverSend
    rw [if_neg (by simp [hasTill_of_alive hc.1]), xfer_alone hx]
    dsimp only
    rw [if_neg (by simp [hp, hb, hn, hpend, hopen, hc.1]), hf]
    rfl
  rw [modXfer_alone (x := x) (by exact hx)] at he
  obtain ⟨a, ha⟩ : ∃ a : State, a = { s.modTill x.src f with transfers := [{ x with notice := true }] } := ⟨_, rfl⟩
  rw [← ha] at he
  have hlog : ∀ (s : State) (w : Nat), Logs s (s.packet (.till x.src) 2 1 (.wicket w)) := fun s w =>
    logs_packet s _ _ (by decide) 1
  have htr : ∀ (s : State) (w : Nat), (s.sendP x.src w (.handover x.batch)).transfers = s.transfers := fun s w =>
    (hlog s w).transfers
  have hmp : ∀ (s : State) (w : Nat), (s.sendP x.src w (.handover x.batch)).maps = s.maps := fun s w => (hlog s w).maps
  refine .of he ⟨?_, ?_, ?_⟩
  · rw [foldl_proj State.transfers htr, ha]
  · rw [net_sendP_all, ha]
    rfl
  · rw [foldl_proj State.maps hmp, ha]
    rfl

theorem handEntries_none (h1 : (s.till x.src).vault = []) (h2 : (s.till x.dst).vault = []) : handEntries s x = s := by
  have hid : ∀ (s : State) (t : Nat), s.modTill t (fun u => u) = s := fun s t => by
    unfold State.modTill
    rw [show (fun u : Till => u) = id from rfl, List.modify_id]
  unfold handEntries
  rw [h1, h2]
  show ((s.modTill x.dst (fun u => u)).modTill x.src (fun u => u)) = s
  rw [hid, hid]

theorem handClaims_none (h : (s.till x.src).claims = []) : handClaims s x = s := by
  unfold handClaims
  rw [h]
  rfl

/-- COPY_END of a source is on its way. -/
def State.copyEnded (s : State) (t : Nat) : State := { s with net := { s.net with copyEnd := s.net.copyEnd ++ [t] } }

theorem completes_copyEndSend (hx : s.transfers = [x]) (hp : x.planned = true) (hc : s.calm x.src) (hb : x.batch ≠ [])
    (hn : x.notice = true) (hcs : x.copySent = false) (hopen : s.batchOpen x = false) (hv1 : (s.till x.src).vault = [])
    (hv2 : (s.till x.dst).vault = []) (hcl : (s.till x.src).claims = []) :
    Completes (.copyEndSend x.src) s (fun u => u.transfers = [{ x with copySent := true }]
      ∧ u.net.copyEnd = s.net.copyEnd ++ [x.src]) := by
  have he : exec (.copyEndSend x.src) s = .next (((s.packet (.till x.src) 4 1 (.till x.dst)).modXfer x.src
      (fun y => { y with copySent := true })).copyEnded x.src) := by
    show execCopyEndSend x.src s = _
    unfold execCopyEndSend
    rw [if_neg (by simp [hasTill_of_alive hc.1]), xfer_alone hx]
    dsimp only
    rw [if_neg (by simp [hp, hb, hn, hcs, hopen, hc.1]), handEntries_none hv1 hv2, handClaims_none hcl]
    rfl
  have hl := logs_packet s (.till x.src) (.till x.dst) (c := 4) (by decide) 1
  generalize s.packet (.till x.src) 4 1 (.till x.dst) = a at hl he
  rw [modXfer_alone (x := x) (by rw [hl.transfers, hx])] at he
  exact .of he ⟨rfl, by show a.net.copyEnd ++ _ = _; rw [hl.net]⟩

/-! ## The destination and the Wickets (R390) -/

/-- The Summary bits of a batch set one Till's Summary alone. -/
theorem setSummaries_keeps (t : Nat) (l : List Nat) (s : State) :
    ((l.foldl (fun s b => setBucketSummary s t b) s).till t).copyEnd = (s.till t).copyEnd
      ∧ ((l.foldl (fun s b => setBucketSummary s t b) s).till t).acks = (s.till t).acks
      ∧ (l.foldl (fun s b => setBucketSummary s t b) s).transfers = s.transfers
      ∧ (l.foldl (fun s b => setBucketSummary s t b) s).net = s.net
      ∧ (l.foldl (fun s b => setBucketSummary s t b) s).build = s.build :=
  ⟨foldl_proj (f := fun s b => setBucketSummary s t b) (fun s => (s.till t).copyEnd)
      (fun s _ => till_modTill_proj Till.copyEnd (by exact fun _ => rfl) s t t) l s,
    foldl_proj (f := fun s b => setBucketSummary s t b) (fun s => (s.till t).acks)
      (fun s _ => till_modTill_proj Till.acks (by exact fun _ => rfl) s t t) l s,
    foldl_proj (f := fun s b => setBucketSummary s t b) State.transfers (fun _ _ => rfl) l s,
    foldl_proj (f := fun s b => setBucketSummary s t b) State.net (fun _ _ => rfl) l s,
    foldl_proj (f := fun s b => setBucketSummary s t b) State.build (fun _ _ => rfl) l s⟩

theorem allAcked_congr {a b : State} {d : Nat} (hb : b.build = a.build) (h : (b.till d).acks = (a.till d).acks) (src : Nat) :
    b.allAcked d src = a.allAcked d src := by
  unfold State.allAcked
  rw [hb, h]

theorem tryUngate_waits (hx : s.transfers = [x]) (h : (s.till x.dst).copyEnd = false ∨ s.allAcked x.dst x.src = false) :
    tryUngate s x.src = s := by
  unfold tryUngate
  rw [xfer_alone hx]
  dsimp only
  rw [if_pos]
  rcases h with h | h <;> simp [h]

theorem completes_copyEnd (hinv : s.Inv) (hx : s.transfers = [x]) (hp : x.planned = true) (hd : s.build.hasTill x.dst = true)
    (hm : x.src ∈ s.net.copyEnd) (hack : s.allAcked x.dst x.src = false) :
    Completes (.copyEnd x.dst) s (fun u => (u.till x.dst).copyEnd = true ∧ u.transfers = s.transfers
      ∧ u.net.copyEnd = s.net.copyEnd.filter (· != x.src)) := by
  obtain ⟨a, ha⟩ : ∃ a : State, a = ({ s with net := { s.net with copyEnd := s.net.copyEnd.filter (· != x.src) } } : State).modTill
    x.dst (fun u => { u with copyEnd := true }) := ⟨_, rfl⟩
  have hf : s.transfers.find? (fun y => y.planned && y.dst == x.dst && s.net.copyEnd.contains y.src) = some x := by
    rw [hx]
    exact List.find?_cons_of_pos (by simp [hp, hm])
  have he : exec (.copyEnd x.dst) s = .next (tryUngate (x.batch.foldl (fun s b => setBucketSummary s x.dst b) a) x.src) := by
    show execCopyEnd x.dst s = _
    unfold execCopyEnd
    rw [if_neg (by simp [hd]), hf]
    dsimp only
    rw [← ha]
  have hlt := lt_tills_length hinv hd
  have hat : (a.till x.dst).copyEnd = true := by
    rw [ha, till_modTill _ _ (by exact hlt)]
  have haa : (a.till x.dst).acks = (s.till x.dst).acks := by
    rw [ha, till_modTill _ _ (by exact hlt)]
    rfl
  obtain ⟨h1, h2, h3, h4, h5⟩ := setSummaries_keeps x.dst x.batch a
  have hax : a.transfers = s.transfers := by rw [ha]; rfl
  have hab : a.build = s.build := by rw [ha]; rfl
  have han : a.net.copyEnd = s.net.copyEnd.filter (· != x.src) := by rw [ha]; rfl
  generalize x.batch.foldl (fun s b => setBucketSummary s x.dst b) a = b at *
  rw [tryUngate_waits (by rw [h3, hax, hx]) (.inr (by rw [allAcked_congr (h5.trans hab) (h2.trans haa), hack]))] at he
  exact .of he ⟨h1.trans hat, h3.trans hax, (congrArg Net.copyEnd h4).trans han⟩

theorem completes_handover (hinv : s.Inv) (hx : s.transfers = [x]) (hp : x.planned = true) (hc : s.calm x.src) {w : Nat}
    {l : List Nat} (hw : s.build.hasWicket w = true) (hf : s.frontP x.src w = some (.handover l)) (howe : s.owes w x.src = false) :
    Completes (.handover w x.src) s (fun u => (u.wicket w).swTable = (s.wicket w).swTable.filter (fun e => !l.contains e.bucket)
      ∧ u.net.pw = s.net.pw ++ [(w, x.dst, .handoverAck x.src)]) := by
  obtain ⟨a, ha⟩ : ∃ a : State, a = retarget ((s.popP x.src w).modWicket w (fun y => { y with
    swTable := y.swTable.filter (fun e => !l.contains e.bucket) })) w := ⟨_, rfl⟩
  have hlt : w < s.wickets.length := by
    rw [hinv.2.1]
    exact hasWicket_lt hw
  have hax : a.transfers = [x] := by
    rw [ha]
    exact hx
  have he : exec (.handover w x.src) s = .next (a.sendW w x.dst (.handoverAck x.src)) := by
    show execHandover w x.src s = _
    unfold execHandover
    rw [if_neg (by simp [hasTill_of_alive hc.1, hw]), hf]
    dsimp only
    rw [howe, if_neg Bool.false_ne_true, ← ha, xfer_alone hx]
    dsimp only
    rw [if_pos hp]
  refine .of he ⟨?_, ?_⟩
  · rw [wicket_congr (wickets_sendW ..), ha]
    unfold retarget
    rw [wicket_modWicket _ _ (by rw [wickets_length_modWicket]; exact hlt), wicket_modWicket _ _ (by exact hlt)]
    rfl
  · rw [net_sendW, ha]
    rfl

theorem handover_owed (hc : s.calm x.src) {w : Nat} {l : List Nat} (hw : s.build.hasWicket w = true)
    (hf : s.frontP x.src w = some (.handover l)) (howe : s.owes w x.src = true) : exec (.handover w x.src) s = .next s := by
  show execHandover w x.src s = _
  unfold execHandover
  rw [if_neg (by simp [hasTill_of_alive hc.1, hw]), hf]
  dsimp only
  rw [if_pos howe]

/-! ## The acknowledgements and the end of a batch (R389, R390) -/

/-- The destination with one more acknowledgement. -/
def State.acked (s : State) (d src w : Nat) : State :=
  (s.popW w d).modTill d (fun u => { u with acks := u.acks ++ [src * 16 + w] })

theorem exec_handoverAck (hw : s.build.hasWicket w = true) (hd : s.build.hasTill d = true)
    (hf : s.frontW w d = some (.handoverAck src)) :
    exec (.handoverAck d w) s = .next (tryForcedEnd (tryUngate (s.acked d src w) src) src) := by
  show execHandoverAck d w s = _
  unfold execHandoverAck
  rw [if_neg (by simp [hd, hw]), hf]
  rfl

theorem completes_ackEarly (hinv : s.Inv) (hx : s.transfers = [x]) (hp : x.planned = true) (hd : s.build.hasTill x.dst = true)
    (hw : s.build.hasWicket w = true) (hf : s.frontW w x.dst = some (.handoverAck x.src))
    (hce : (s.till x.dst).copyEnd = false) :
    Completes (.handoverAck x.dst w) s (fun u => (u.till x.dst).acks = (s.till x.dst).acks ++ [x.src * 16 + w]
      ∧ u.transfers = s.transfers ∧ u.net.pw = dropFirst (fun y => y.1 == w && y.2.1 == x.dst) s.net.pw) := by
  have he := exec_handoverAck hw hd hf
  have hlt := lt_tills_length hinv hd
  have htill : (s.acked x.dst x.src w).till x.dst = { s.till x.dst with acks := (s.till x.dst).acks ++ [x.src * 16 + w] } :=
    till_modTill _ _ (by exact hlt)
  rw [tryUngate_waits (s := s.acked x.dst x.src w) hx (.inl (by rw [htill]; exact hce)),
    tryForcedEnd_planned (s := s.acked x.dst x.src w) hx hp] at he
  exact .of he ⟨by rw [htill], rfl, rfl⟩

theorem ungate_alone (hx : s.transfers = [x]) (hd : x.dst < s.tills.length) (hdef : (s.till x.dst).deferred = []) (l : List Nat) :
    (ungate s x.dst l x.src).transfers = [x] ∧ (ungate s x.dst l x.src).maps = s.maps
      ∧ (ungate s x.dst l x.src).build = s.build ∧ ∀ b ∈ l, b ∉ ((ungate s x.dst l x.src).till x.dst).gated := by
  have hhold : s.transfers.any (fun y => y.src != x.src && y.dst == x.dst && !y.batch.isEmpty) = false := by
    rw [hx]
    simp
  unfold ungate
  rw [hhold]
  dsimp only
  obtain ⟨a, ha⟩ : ∃ a : State, a = s.modTill x.dst (fun u => { u with
      gated := u.gated.filter (fun b => !l.contains b || (false && s.transfers.any (fun y =>
        y.src != x.src && y.dst == x.dst && y.batch.contains b)))
      acks := u.acks.filter (fun a => a / 16 != x.src) }) := ⟨_, rfl⟩
  have htill := till_modTill s (fun u => { u with
      gated := u.gated.filter (fun b => !l.contains b || (false && s.transfers.any (fun y =>
        y.src != x.src && y.dst == x.dst && y.batch.contains b)))
      acks := u.acks.filter (fun a => a / 16 != x.src) }) hd
  rw [← ha] at htill ⊢
  have hat : (a.till x.dst).deferred = [] := by
    rw [htill]
    exact hdef
  have hpl : placeDeferred a x.dst = a.modTill x.dst (fun u => { u with
      deferred := u.deferred.filter (fun f => !([] : List Nat).contains f) }) := by
    unfold placeDeferred
    dsimp only
    rw [hat]
    rfl
  rw [hpl]
  refine ⟨?_, ?_, ?_, fun b hb hmem => ?_⟩
  · rw [← hx, ha]
    rfl
  · rw [ha]
    rfl
  · rw [ha]
    rfl
  · have hk : ((a.modTill x.dst (fun u => { u with
        deferred := u.deferred.filter (fun f => !([] : List Nat).contains f) })).till x.dst).gated = (a.till x.dst).gated :=
      till_modTill_proj Till.gated (by exact fun _ => rfl) _ _ _
    rw [hk, htill] at hmem
    simp [hb] at hmem

theorem bucketsOf_congr {a b : State} (hm : b.maps = a.maps) (hb : b.build = a.build) (t : Nat) : b.bucketsOf t = a.bucketsOf t := by
  unfold State.bucketsOf State.liveTill
  rw [hm, hb]

/-- The transfer with a batch handed over. -/
def Transfer.handedOver (x : Transfer) : Transfer := { x with batch := [], notice := false, copySent := false, done := x.done + 1 }

theorem tryUngate_last (hx : s.transfers = [x]) (hp : x.planned = true) (hd : x.dst < s.tills.length)
    (hdef : (s.till x.dst).deferred = []) (hb : x.batch ≠ []) (h2 : x.state = 2) (hce : (s.till x.dst).copyEnd = true)
    (hack : s.allAcked x.dst x.src = true) (hleft : s.bucketsOf x.src ≠ []) :
    (tryUngate s x.src).transfers = [x.handedOver] ∧ ∀ b ∈ x.batch, b ∉ ((tryUngate s x.src).till x.dst).gated := by
  obtain ⟨a, ha⟩ : ∃ a : State, a = ({ s with transfers := [{ x with
    batch := [], notice := false, copySent := false, done := x.done + 1 }] } : State).modTill x.dst (fun u => { u with
      copyEnd := false }) := ⟨_, rfl⟩
  have hat : (a.till x.dst).deferred = [] := by
    rw [ha, till_modTill _ _ (by exact hd)]
    exact hdef
  obtain ⟨hu1, hu2, hu3, hu4⟩ := ungate_alone (s := a) (x := x.handedOver) (by rw [ha]; rfl)
    (by rw [ha, tills_length_modTill]; exact hd) hat x.batch
  obtain ⟨c, hc⟩ := bumpMax_eq (ungate a x.dst x.batch x.src) ⟨0x7010, 4, 32⟩ (s.time.cclk - x.gateCclk)
  have hs : tryUngate s x.src = (ungate a x.dst x.batch x.src).bumpMax ⟨0x7010, 4, 32⟩ (s.time.cclk - x.gateCclk) := by
    have hbo : ((ungate a x.dst x.batch x.src).bumpMax ⟨0x7010, 4, 32⟩ (s.time.cclk - x.gateCclk)).bucketsOf x.src
        = s.bucketsOf x.src := by
      rw [hc]
      refine bucketsOf_congr (hu2.trans (by rw [ha]; rfl)) (hu3.trans (by rw [ha]; rfl)) _
    unfold tryUngate
    rw [xfer_alone hx]
    dsimp only
    rw [if_neg (by simp [hp, hb, hce, hack]), modXfer_alone hx]
    rw [if_neg (by simp [h2]), ← ha, hbo, if_neg (by simpa using hleft)]
    exact nextTransfer_running (x := x.handedOver) (by rw [hc]; exact hu1) hp h2
  rw [hs, hc]
  exact ⟨hu1, hu4⟩

theorem completes_ackLast (hinv : s.Inv) (hx : s.transfers = [x]) (hp : x.planned = true) (hd : s.build.hasTill x.dst = true)
    (hw : s.build.hasWicket w = true) (hf : s.frontW w x.dst = some (.handoverAck x.src))
    (hce : (s.till x.dst).copyEnd = true) (hb : x.batch ≠ []) (h2 : x.state = 2) (hdef : (s.till x.dst).deferred = [])
    (hleft : s.bucketsOf x.src ≠ [])
    (hall : ∀ v, s.build.hasWicket v = true → v ≠ w → x.src * 16 + v ∈ (s.till x.dst).acks) :
    Completes (.handoverAck x.dst w) s (fun u =>
      u.transfers = [{ x with batch := [], notice := false, copySent := false, done := x.done + 1 }]
        ∧ (∀ b ∈ x.batch, b ∉ (u.till x.dst).gated)) := by
  have he := exec_handoverAck hw hd hf
  have hlt := lt_tills_length hinv hd
  have htill : (s.acked x.dst x.src w).till x.dst = { s.till x.dst with acks := (s.till x.dst).acks ++ [x.src * 16 + w] } :=
    till_modTill _ _ (by exact hlt)
  have hack : (s.acked x.dst x.src w).allAcked x.dst x.src = true := by
    unfold State.allAcked
    rw [List.all_eq_true, htill]
    intro v hv
    have hv' := hasWicket_of_mem hv
    rw [List.contains_iff_mem, List.mem_append, List.mem_singleton]
    by_cases hvw : v = w
    · exact .inr (by rw [hvw])
    · exact .inl (hall v hv' hvw)
  obtain ⟨hu1, hu2⟩ := tryUngate_last (s := s.acked x.dst x.src w) hx hp
    (by unfold State.acked; rw [tills_length_modTill]; exact hlt) (by rw [htill]; exact hdef) hb h2
    (by rw [htill]; exact hce) hack hleft
  generalize tryUngate (s.acked x.dst x.src w) x.src = b at *
  have hfe : tryForcedEnd b x.src = b := tryForcedEnd_planned (x := x.handedOver) hu1 hp
  rw [hfe] at he
  exact .of he ⟨hu1, hu2⟩

end

/-- Settles O40: each step of a planned transfer moves its own part. -/
theorem plannedTransferSteps : Obligations.PlannedTransferSteps := by
  unfold Obligations.PlannedTransferSteps
  intro s x hinv hx hp hc hd hne
  exact ⟨fun h1 bank hb hrun hcred => completes_copyRun hinv hx hp hc hd hne h1 hb hrun hcred,
    fun h12 hb hcop hpend hold => completes_switch hinv hx hp hd h12 hb hcop hpend hold,
    fun n hn => switch_other hx hn,
    fun hb hn hpend hopen => completes_handoverSend hx hp hc hb hn hpend hopen,
    fun hb hn hcs hopen hv1 hv2 hcl => completes_copyEndSend hx hp hc hb hn hcs hopen hv1 hv2 hcl,
    fun hm hack => completes_copyEnd hinv hx hp hd hm hack,
    fun w l hw hf howe => completes_handover hinv hx hp hc hw hf howe,
    fun w l hw hf howe => handover_owed hc hw hf howe,
    fun w hw hf => ⟨fun hce => completes_ackEarly hinv hx hp hd hw hf hce,
      fun hce hb h2 hdef hleft hall => completes_ackLast hinv hx hp hd hw hf hce hb h2 hdef hleft hall⟩⟩

end Sys2Proof.Machine
end

section
/-! PROOFS. What reaches a Wicket from a Till (R79, R84, R85, R130, R133, R149). -/

namespace Sys2Proof.Machine

theorem dropFirst_skip {α : Type} {p : α → Bool} {c : α} (hc : p c = true) : ∀ {l : List α}, (∀ y ∈ l, p y = false) →
    ∀ r, dropFirst p (l ++ c :: r) = l ++ r
  | [], _, r => if_pos hc
  | y :: l, h, r => by
    have hy := h y List.mem_cons_self
    show (if p y = true then l ++ c :: r else y :: dropFirst p (l ++ c :: r)) = _
    rw [hy, if_neg Bool.false_ne_true, dropFirst_skip hc (fun z hz => h z (List.mem_cons_of_mem _ hz)) r]
    rfl

theorem find_skip {α : Type} {p : α → Bool} {c : α} (hc : p c = true) {l : List α} (h : ∀ y ∈ l, p y = false) (r : List α) :
    (l ++ c :: r).find? p = some c := by
  rw [List.find?_append, List.find?_eq_none.mpr (fun y hy => by simp [h y hy])]
  exact List.find?_cons_of_pos hc

section
variable {s : State} {w t : Nat}

/-! ## A completion leaves for its agent (R85, R149) -/

/-- What an agent sees of a completion. -/
def HeldCmp.outs (c : HeldCmp) (w : Nat) (d : Option (LineData × Bool)) : List Out :=
  (d.map (fun d => Out.dataOut w c.aid c.inc c.tag d.1 d.2)).toList ++ [.cmp w c.opc c.aid c.inc c.tag c.status 0]

/-- Nothing but the outputs and the claim mirror differs. -/
structure Delivers (a b : State) (l : List Out) : Prop where
  out : b.out = a.out ++ l
  wickets : b.wickets = a.wickets
  tills : b.tills = a.tills
  net : b.net = a.net

theorem delivers_send (s : State) (o : Out) (hf : s.fatal = false) : Delivers s (s.send o) [o] := by
  unfold State.send
  rw [hf]
  exact ⟨rfl, rfl, rfl, rfl⟩

theorem fatal_send (s : State) (o : Out) : (s.send o).fatal = s.fatal := by
  unfold State.send
  split <;> rfl

theorem Delivers.trans {a b c : State} {l m : List Out} (h : Delivers a b l) (g : Delivers b c m) : Delivers a c (l ++ m) :=
  ⟨by rw [g.out, h.out, List.append_assoc], g.wickets.trans h.wickets, g.tills.trans h.tills, g.net.trans h.net⟩

theorem delivers_mirrorNote (s : State) (c : HeldCmp) : Delivers s (mirrorNote s c) []
    ∧ (mirrorNote s c).fatal = s.fatal ∧ (mirrorNote s c).agents = s.agents := by
  unfold mirrorNote
  dsimp only
  split
  · split
    · exact ⟨⟨(List.append_nil _).symm, rfl, rfl, rfl⟩, rfl, rfl⟩
    · exact ⟨⟨(List.append_nil _).symm, rfl, rfl, rfl⟩, rfl, rfl⟩
  · split
    · exact ⟨⟨(List.append_nil _).symm, rfl, rfl, rfl⟩, rfl, rfl⟩
    · exact ⟨⟨(List.append_nil _).symm, rfl, rfl, rfl⟩, rfl, rfl⟩

theorem agent_congr {a b : State} (h : b.agents = a.agents) (n : Nat) : b.agent n = a.agent n := by
  unfold State.agent
  rw [h]

theorem delivers_finishCmp {c : HeldCmp} (hst : c.status ≠ .retry) (ho : c.origin = .agent)
    (hg : (s.agent c.aid.toNat).grace = false) (hf : s.fatal = false) (d : Option (LineData × Bool)) :
    Delivers s (finishCmp s w c d) (c.outs w d) := by
  obtain ⟨hm, hmf, hma⟩ := delivers_mirrorNote s c
  unfold finishCmp
  rw [if_neg (by simpa using hst)]
  generalize mirrorNote s c = m at *
  unfold handOver
  rw [agent_congr hma, hg, Bool.and_false, if_neg Bool.false_ne_true, ho]
  have hmf' : m.fatal = false := hmf.trans hf
  cases d with
  | none => exact hm.trans (delivers_send m _ hmf')
  | some d =>
    have h1 := delivers_send m (.dataOut w c.aid c.inc c.tag d.1 d.2) hmf'
    have h2 := fatal_send m (.dataOut w c.aid c.inc c.tag d.1 d.2)
    show Delivers s ((m.send (.dataOut w c.aid c.inc c.tag d.1 d.2)).send (.cmp w c.opc c.aid c.inc c.tag c.status 0)) _
    generalize m.send (.dataOut w c.aid c.inc c.tag d.1 d.2) = n at *
    exact hm.trans (h1.trans (delivers_send n _ (h2.trans hmf')))

/-- Is a held completion from this Till for this agent. -/
def HeldCmp.ours (t : Nat) (a : Aid) (c : HeldCmp) : Bool := c.till == t && c.aid == a

theorem HeldCmp.ours_false {a : Aid} {c : HeldCmp} : c.ours t a = false ↔ c.till ≠ t ∨ c.aid ≠ a := by
  unfold HeldCmp.ours
  rw [Bool.and_eq_false_iff, beq_eq_false_iff_ne, beq_eq_false_iff_ne]

/-- The data that a held completion waits for. -/
def HeldCmp.data? (c : HeldCmp) (t : Nat) (a : Aid) (l : List HeldData) : Option HeldData :=
  l.find? (fun d => d.till == t && d.d.aid == a && d.d.tag == c.tag && d.d.inc == c.inc && d.d.origin == c.origin)

theorem flushCmps_none {a : Aid} (h : (s.wicket w).heldCmp.find? (HeldCmp.ours t a) = none) : ∀ n, flushCmps n s w t a = s
  | 0 => rfl
  | n + 1 => by
    unfold flushCmps
    rw [show (s.wicket w).heldCmp.find? (fun c => c.till == t && c.aid == a) = none from h]

/-- A completion that leaves the Wicket's list with its data. -/
def State.unheld (s : State) (w t : Nat) (a : Aid) (c : HeldCmp) (d : Option HeldData) : State :=
  s.modWicket w (fun x => { x with
    heldCmp := dropFirst (HeldCmp.ours t a) x.heldCmp
    heldData := if c.needData then dropFirst (fun y => some y == d) x.heldData else x.heldData })

theorem flushCmps_one (hw : w < s.wickets.length) {a : Aid} {c : HeldCmp} {l r : List HeldCmp}
    (hl : (s.wicket w).heldCmp = l ++ c :: r) (hno : ∀ y ∈ l, y.ours t a = false) (hnor : ∀ y ∈ r, y.ours t a = false)
    (hc : c.ours t a = true) (hd : (c.needData && (c.data? t a (s.wicket w).heldData).isNone) = false)
    (hst : c.status ≠ .retry) (ho : c.origin = .agent) (hg : (s.agent c.aid.toNat).grace = false) (hf : s.fatal = false) :
    Delivers (s.unheld w t a c (c.data? t a (s.wicket w).heldData)) (flush s w t a) (c.outs w (if c.needData then
        (c.data? t a (s.wicket w).heldData).map (fun y => (y.d.data, y.d.poison)) else none))
      ∧ ((flush s w t a).wicket w).heldCmp = l ++ r := by
  have hfind : (s.wicket w).heldCmp.find? (fun c => c.till == t && c.aid == a) = some c := by
    rw [hl]
    exact find_skip hc hno r
  have hlen : (s.wicket w).heldCmp.length + 1 = (l ++ r).length + 1 + 1 := by
    rw [hl]
    simp
    omega
  have hdel := delivers_finishCmp (s := s.unheld w t a c (c.data? t a (s.wicket w).heldData)) (w := w) hst ho hg hf
    (if c.needData then (c.data? t a (s.wicket w).heldData).map (fun y => (y.d.data, y.d.poison)) else none)
  have heq : flush s w t a = flushCmps ((l ++ r).length + 1)
      (finishCmp (s.unheld w t a c (c.data? t a (s.wicket w).heldData)) w c
        (if c.needData then (c.data? t a (s.wicket w).heldData).map (fun y => (y.d.data, y.d.poison)) else none)) w t a := by
    unfold flush
    rw [hlen]
    show flushCmps _ _ _ _ _ = _
    rw [flushCmps]
    rw [hfind]
    dsimp only
    exact if_neg (by rw [show (List.find? _ _) = c.data? t a (s.wicket w).heldData from rfl, hd]; exact Bool.false_ne_true)
  have hcmp : ((s.unheld w t a c (c.data? t a (s.wicket w).heldData)).wicket w).heldCmp = l ++ r := by
    unfold State.unheld
    rw [wicket_modWicket _ _ hw]
    show dropFirst _ _ = _
    rw [hl]
    exact dropFirst_skip hc hno r
  generalize finishCmp (s.unheld w t a c (c.data? t a (s.wicket w).heldData)) w c
    (if c.needData then (c.data? t a (s.wicket w).heldData).map (fun y => (y.d.data, y.d.poison)) else none) = u at *
  have hu : (u.wicket w).heldCmp = l ++ r := by rw [wicket_congr hdel.wickets, hcmp]
  have hnone : (u.wicket w).heldCmp.find? (HeldCmp.ours t a) = none := by
    rw [hu]
    refine List.find?_eq_none.mpr (fun y hy => ?_)
    rcases List.mem_append.mp hy with hy | hy
    · simp [hno y hy]
    · simp [hnor y hy]
  rw [heq, flushCmps_none hnone]
  exact ⟨hdel, hu⟩

theorem exec_delivery (hw : s.build.hasWicket w = true) (ht : s.build.hasTill t = true) (f : Bool) :
    exec (.completionDelivery w t f) s = .next (if f then
      (match s.net.d.find? (fun x => x.1 == t && x.2.1 == w) with
       | some x =>
         dataArrives { s with net := { s.net with d := dropFirst (fun x => x.1 == t && x.2.1 == w) s.net.d } } w t x.2.2
       | none => s)
    else
      (match s.frontP t w with
       | some (.cmp opc a i tag st rcpt isRead l req origin) =>
         cmpArrives (s.popP t w) w ⟨t, opc, a, i, tag, st, rcpt, isRead && st != .retry, l, req, origin⟩
       | _ => s)) := if_neg (by simp [hw, ht])

theorem completes_cmp (hinv : s.Inv) (hw : s.build.hasWicket w = true) (ht : s.build.hasTill t = true) (hf : s.fatal = false)
    {opc : CmpOpc} {a : Aid} {i : Inc} {tag : Tag} {st : CStat} {rcpt : Nat} {isRead : Bool} {l : Line} {req : Opc}
    (hfr : s.frontP t w = some (.cmp opc a i tag st rcpt isRead l req .agent)) (htk : s.takes a i = true)
    (hg : (s.agent a.toNat).grace = false) (hwb : req.isWb = false) (hst : st ≠ .retry) (hrd : isRead = false)
    (hno : ∀ c ∈ (s.wicket w).heldCmp, c.till ≠ t ∨ c.aid ≠ a) :
    Completes (.completionDelivery w t false) s (fun u => u.out = s.out ++ [.cmp w opc a i tag st 0]
      ∧ u.net.p = dropFirst (fun x => x.1 == t && x.2.1 == w) s.net.p ∧ u.tills = s.tills) := by
  subst hrd
  have he := exec_delivery hw ht false
  rw [hfr] at he
  have hlt : w < s.wickets.length := by
    rw [hinv.2.1]
    exact hasWicket_lt hw
  have hca : cmpArrives (s.popP t w) w ⟨t, opc, a, i, tag, st, rcpt, false, l, req, .agent⟩
      = flush ((s.popP t w).modWicket w (fun x => { x with
          heldCmp := x.heldCmp ++ [⟨t, opc, a, i, tag, st, rcpt, false, l, req, .agent⟩] })) w t a := by
    unfold cmpArrives
    rw [if_neg (by rw [show (s.popP t w).takes a i = s.takes a i from rfl, htk]; exact Bool.false_ne_true)]
    dsimp only
    rw [hwb, if_neg Bool.false_ne_true]
  obtain ⟨b, hb⟩ : ∃ b : State, b = (s.popP t w).modWicket w (fun x => { x with
    heldCmp := x.heldCmp ++ [⟨t, opc, a, i, tag, st, rcpt, false, l, req, .agent⟩] }) := ⟨_, rfl⟩
  have hbl : w < b.wickets.length := by
    rw [hb, wickets_length_modWicket]
    exact hlt
  have hbh : (b.wicket w).heldCmp = (s.wicket w).heldCmp ++ ⟨t, opc, a, i, tag, st, rcpt, false, l, req, .agent⟩ :: [] := by
    rw [hb, wicket_modWicket _ _ (by exact hlt)]
    rfl
  have hba : b.agents = s.agents := by rw [hb]; rfl
  have hbf : b.fatal = s.fatal := by rw [hb]; rfl
  have hbo : b.out = s.out := by rw [hb]; rfl
  have hbn : b.net.p = dropFirst (fun x => x.1 == t && x.2.1 == w) s.net.p := by rw [hb]; rfl
  have hbt : b.tills = s.tills := by rw [hb]; rfl
  obtain ⟨hd, -⟩ := flushCmps_one (t := t) (a := a) hbl hbh (fun y hy => HeldCmp.ours_false.mpr (hno y hy))
    (fun y hy => absurd hy (by simp)) (by simp [HeldCmp.ours]) rfl hst rfl (by rw [agent_congr hba]; exact hg) (hbf.trans hf)
  dsimp only at he
  rw [if_neg Bool.false_ne_true, Bool.false_and, hca, ← hb] at he
  exact .of he ⟨hd.out.trans (by rw [show (State.unheld b w t a _ _).out = b.out from rfl, hbo]; rfl),
    (congrArg Net.p hd.net).trans hbn, hd.tills.trans hbt⟩

/-! ## Data arrives (R149) -/

/-- A data message taken off its plane. -/
def State.popD (s : State) (t w : Nat) : State :=
  { s with net := { s.net with d := dropFirst (fun x => x.1 == t && x.2.1 == w) s.net.d } }

/-- A Wicket keeps data. -/
def State.keepData (s : State) (w t : Nat) (d : DMsg) : State :=
  s.modWicket w (fun x => { x with heldData := x.heldData ++ [⟨t, d⟩] })

theorem exec_data (hw : s.build.hasWicket w = true) (ht : s.build.hasTill t = true) {x : Nat × Nat × DMsg}
    (hx : s.net.d.find? (fun x => x.1 == t && x.2.1 == w) = some x) (htk : s.takes x.2.2.aid x.2.2.inc = true) :
    exec (.completionDelivery w t true) s = .next (flush ((s.popD t w).keepData w t x.2.2) w t x.2.2.aid) := by
  have he := exec_delivery hw ht true
  rw [hx] at he
  rw [he]
  refine congrArg _ ((if_pos rfl).trans ?_)
  show dataArrives (s.popD t w) w t x.2.2 = _
  unfold dataArrives
  exact if_neg (by rw [show (s.popD t w).takes x.2.2.aid x.2.2.inc = s.takes x.2.2.aid x.2.2.inc from rfl, htk]; exact Bool.false_ne_true)

theorem completes_dataWaits (hinv : s.Inv) (hw : s.build.hasWicket w = true) (ht : s.build.hasTill t = true)
    {x : Nat × Nat × DMsg} (hx : s.net.d.find? (fun x => x.1 == t && x.2.1 == w) = some x)
    (htk : s.takes x.2.2.aid x.2.2.inc = true) (hno : ∀ c ∈ (s.wicket w).heldCmp, c.till ≠ t ∨ c.aid ≠ x.2.2.aid) :
    Completes (.completionDelivery w t true) s (fun u => (u.wicket w).heldData = (s.wicket w).heldData ++ [⟨t, x.2.2⟩]
      ∧ u.net.d = dropFirst (fun x => x.1 == t && x.2.1 == w) s.net.d ∧ u.out = s.out) := by
  have he := exec_data hw ht hx htk
  have hlt : w < s.wickets.length := by
    rw [hinv.2.1]
    exact hasWicket_lt hw
  have hb : ((s.popD t w).keepData w t x.2.2).wicket w = { s.wicket w with
      heldData := (s.wicket w).heldData ++ [⟨t, x.2.2⟩] } := wicket_modWicket _ _ (by exact hlt)
  have hnone : (((s.popD t w).keepData w t x.2.2).wicket w).heldCmp.find? (HeldCmp.ours t x.2.2.aid) = none := by
    rw [hb]
    exact List.find?_eq_none.mpr (fun y hy => by simp [HeldCmp.ours_false.mpr (hno y hy)])
  have hfl : flush ((s.popD t w).keepData w t x.2.2) w t x.2.2.aid = (s.popD t w).keepData w t x.2.2 := flushCmps_none hnone _
  rw [hfl] at he
  exact .of he ⟨by rw [hb], rfl, rfl⟩

theorem completes_dataMeets (hinv : s.Inv) (hw : s.build.hasWicket w = true) (ht : s.build.hasTill t = true)
    (hf : s.fatal = false) {x : Nat × Nat × DMsg} {c : HeldCmp}
    (hx : s.net.d.find? (fun x => x.1 == t && x.2.1 == w) = some x) (htk : s.takes x.2.2.aid x.2.2.inc = true)
    (hc : (s.wicket w).heldCmp = [c]) (hd : (s.wicket w).heldData = []) (hct : c.till = t) (hca : c.aid = x.2.2.aid)
    (htag : c.tag = x.2.2.tag) (hinc : c.inc = x.2.2.inc) (hor : c.origin = .agent) (hdor : x.2.2.origin = .agent)
    (hneed : c.needData = true) (hst : c.status ≠ .retry) (hg : (s.agent c.aid.toNat).grace = false) :
    Completes (.completionDelivery w t true) s (fun u => u.out = s.out ++ [.dataOut w c.aid c.inc c.tag x.2.2.data x.2.2.poison,
        .cmp w c.opc c.aid c.inc c.tag c.status 0]
      ∧ (u.wicket w).heldCmp = [] ∧ (u.wicket w).heldData = [] ∧ u.tills = s.tills) := by
  have he := exec_data hw ht hx htk
  have hlt : w < s.wickets.length := by
    rw [hinv.2.1]
    exact hasWicket_lt hw
  obtain ⟨b, hb⟩ : ∃ b : State, b = (s.popD t w).keepData w t x.2.2 := ⟨_, rfl⟩
  have hbl : w < b.wickets.length := by
    rw [hb]
    unfold State.keepData
    rw [wickets_length_modWicket]
    exact hlt
  have hbw : b.wicket w = { s.wicket w with heldData := (s.wicket w).heldData ++ [⟨t, x.2.2⟩] } := by
    rw [hb]
    exact wicket_modWicket _ _ (by exact hlt)
  have hba : b.agents = s.agents := by rw [hb]; rfl
  have hbf : b.fatal = s.fatal := by rw [hb]; rfl
  have hbo : b.out = s.out := by rw [hb]; rfl
  have hbt : b.tills = s.tills := by rw [hb]; rfl
  have hbd : (b.wicket w).heldData = [⟨t, x.2.2⟩] := by
    rw [hbw, hd]
    rfl
  have hdata : c.data? t x.2.2.aid (b.wicket w).heldData = some ⟨t, x.2.2⟩ := by
    rw [hbd]
    exact List.find?_cons_of_pos (by simp [htag, hinc, hor, hdor])
  obtain ⟨hdel, hcmp⟩ := flushCmps_one (t := t) (a := x.2.2.aid) (l := []) (r := []) hbl (by rw [hbw]; exact hc)
    (fun y hy => absurd hy (by simp)) (fun y hy => absurd hy (by simp)) (by simp [HeldCmp.ours, hct, hca])
    (by rw [hdata]; simp) hst hor (by rw [agent_congr hba]; exact hg) (hbf.trans hf)
  rw [hdata, hneed] at hdel
  rw [← hb] at he
  refine .of he ⟨hdel.out.trans ?_, hcmp, ?_, hdel.tills.trans hbt⟩
  · rw [show (State.unheld b w t x.2.2.aid c (some ⟨t, x.2.2⟩)).out = b.out from rfl, hbo]
    rfl
  · rw [wicket_congr hdel.wickets]
    unfold State.unheld
    rw [wicket_modWicket _ _ hbl]
    show (if c.needData = true then _ else _) = _
    rw [if_pos hneed, hbd]
    exact if_pos (beq_self_eq_true _)

/-! ## CHAINED notices and snoops (R79, R84) -/

theorem pumpRsp_none (h : (s.wicket w).heldRsp = []) : pumpRsp s w = s := by
  unfold pumpRsp
  rw [h]
  rfl

theorem completes_chained (hinv : s.Inv) (hw : s.build.hasWicket w = true) (ht : s.build.hasTill t = true) {a : Aid} {tag : Tag}
    {l : Line} (hfr : s.frontP t w = some (.chained a tag l)) (hh : (s.wicket w).heldRsp = []) :
    Completes (.chainedNotice w t) s (fun u =>
      (u.wicket w).wbs = dropFirst (fun b => b.aid == a && b.tag == tag && b.laddr == l) (s.wicket w).wbs
      ∧ u.tills = s.tills ∧ u.out = s.out) := by
  have hlt : w < s.wickets.length := by
    rw [hinv.2.1]
    exact hasWicket_lt hw
  have he : exec (.chainedNotice w t) s = .next (wbAnswered (s.popP t w) w a tag l) := by
    show execChainedNotice w t s = _
    unfold execChainedNotice
    rw [if_neg (by simp [hw, ht]), hfr]
  have hb := wicket_modWicket (s.popP t w) (fun x => { x with
    wbs := dropFirst (fun b => b.aid == a && b.tag == tag && b.laddr == l) x.wbs }) hlt
  unfold wbAnswered at he
  rw [pumpRsp_none (by rw [hb]; exact hh)] at he
  exact .of he ⟨by rw [hb]; rfl, rfl, rfl⟩

theorem markBypass_eq (s : State) (w : Nat) : ∃ f : Wicket → Wicket, markBypass s w = s.modWicket w f ∧ ∀ x, (f x).sids = x.sids :=
  ⟨_, rfl, fun _ => rfl⟩

/-- The snoop a SID is taken for. -/
def State.snoopOf (s : State) (q : SFlit) : Snoop where
  till := q.till
  folio := q.folio
  opc := q.opc
  aid := q.aid
  laddr := q.laddr
  blk := q.blk
  undone := Machine.covered (lineIx q.laddr) q.blk
  startTick := s.time.tick
  timeout := s.rawN 0x2080 1
  heldOut := false
  resent := false

theorem takeSids_one (hw : w < s.wickets.length) {q : SFlit} {sid : Nat} (hq : (s.wicket w).sWait = [q])
    (hsid : KV.lowest (s.wicket w).sids 4096 = some sid) (hg : (s.agent q.aid.toNat).grace = false) (hf : s.fatal = false) :
    (takeSids 1 s w).out = s.out ++ [.snp w q.opc q.aid (s.agent q.aid.toNat).inc sid q.laddr q.blk]
      ∧ KV.find? ((takeSids 1 s w).wicket w).sids sid = some (s.snoopOf q) ∧ (takeSids 1 s w).tills = s.tills
      ∧ (takeSids 1 s w).wickets.length = s.wickets.length := by
  have he : takeSids 1 s w = (s.modWicket w (fun x => { x with
      sWait := [], sids := KV.put x.sids sid (s.snoopOf q), dups := KV.del x.dups sid })).send
        (.snp w q.opc q.aid (s.agent q.aid.toNat).inc sid q.laddr q.blk) := by
    unfold takeSids
    rw [hq, hsid]
    dsimp only
    rw [hg]
    rfl
  rw [he]
  have hb := wicket_modWicket s (fun x => { x with
    sWait := [], sids := KV.put x.sids sid (s.snoopOf q), dups := KV.del x.dups sid }) hw
  have hd := delivers_send (s.modWicket w (fun x => { x with
    sWait := [], sids := KV.put x.sids sid (s.snoopOf q), dups := KV.del x.dups sid }))
      (.snp w q.opc q.aid (s.agent q.aid.toNat).inc sid q.laddr q.blk) hf
  refine ⟨hd.out, ?_, hd.tills, ?_⟩
  · rw [wicket_congr hd.wickets, hb]
    exact KV.find_put ..
  · rw [hd.wickets, wickets_length_modWicket]

/-- A snoop taken off its plane. -/
def State.popS (s : State) (t w : Nat) : State :=
  { s with net := { s.net with s := dropFirst (fun q => q.till == t && q.w == w) s.net.s } }

theorem exec_snoop (hw : s.build.hasWicket w = true) (ht : s.build.hasTill t = true) {q : SFlit}
    (hq : s.net.s.find? (fun q => q.till == t && q.w == w) = some q) :
    exec (.snoopDelivery w t) s = .next (if s.serving q.aid.toNat then
        markBypass (takeSids 1 ((s.popS t w).modWicket w (fun x => { x with sWait := x.sWait ++ [q] })) w) w
      else forecloseSnoop (s.popS t w) w t q.folio q.aid q.laddr (covered (lineIx q.laddr) q.blk)) := by
  show execSnoopDelivery w t s = _
  unfold execSnoopDelivery
  rw [if_neg (by simp [hw, ht]), hq]
  rfl

theorem completes_snoop (hinv : s.Inv) (hw : s.build.hasWicket w = true) (ht : s.build.hasTill t = true) (hf : s.fatal = false)
    {q : SFlit} {sid : Nat} (hq : s.net.s.find? (fun q => q.till == t && q.w == w) = some q)
    (hserv : s.serving q.aid.toNat = true) (hg : (s.agent q.aid.toNat).grace = false) (hwait : (s.wicket w).sWait = [])
    (hsid : KV.lowest (s.wicket w).sids 4096 = some sid) :
    Completes (.snoopDelivery w t) s (fun u =>
      u.out = s.out ++ [.snp w q.opc q.aid (s.agent q.aid.toNat).inc sid q.laddr q.blk]
      ∧ (∃ p, KV.find? (u.wicket w).sids sid = some p ∧ p.till = t ∧ p.folio = q.folio ∧ p.aid = q.aid ∧ p.opc = q.opc
          ∧ p.undone = covered (lineIx q.laddr) q.blk ∧ p.startTick = s.time.tick) ∧ u.tills = s.tills) := by
  have hlt : w < s.wickets.length := by
    rw [hinv.2.1]
    exact hasWicket_lt hw
  have hqt : q.till = t := by
    have := List.find?_some hq
    simp at this
    exact this.1
  have he := exec_snoop hw ht hq
  rw [if_pos hserv] at he
  have hb := wicket_modWicket (s.popS t w) (fun x => { x with sWait := x.sWait ++ [q] }) hlt
  obtain ⟨b, hbe⟩ : ∃ b : State, b = (s.popS t w).modWicket w (fun x => { x with sWait := x.sWait ++ [q] }) := ⟨_, rfl⟩
  rw [← hbe] at hb he
  have hba : b.agents = s.agents := by rw [hbe]; rfl
  have hbl : b.wickets.length = s.wickets.length := by rw [hbe, wickets_length_modWicket]; rfl
  have hbo : b.out = s.out := by rw [hbe]; rfl
  have hbt : b.tills = s.tills := by rw [hbe]; rfl
  have hbf : b.fatal = s.fatal := by rw [hbe]; rfl
  have hbs : b.snoopOf q = s.snoopOf q := by rw [hbe]; rfl
  obtain ⟨h1, h2, h3, h4⟩ := takeSids_one (s := b) (w := w) (q := q) (sid := sid) (by rw [hbl]; exact hlt)
    (by rw [hb]; show (s.wicket w).sWait ++ [q] = [q]; rw [hwait]; rfl) (by rw [hb]; exact hsid)
    (by rw [agent_congr hba]; exact hg) (hbf.trans hf)
  obtain ⟨f, hfe, hfs⟩ := markBypass_eq (takeSids 1 b w) w
  rw [hfe] at he
  generalize takeSids 1 b w = c at *
  refine .of he ⟨?_, ⟨s.snoopOf q, ?_, hqt, rfl, rfl, rfl, rfl, rfl⟩, h3.trans hbt⟩
  · show c.out = _
    rw [h1, hbo, agent_congr hba]
  · rw [wicket_modWicket c f (by rw [h4, hbl]; exact hlt), hfs, h2, hbs]

theorem completes_foreclosed (hw : s.build.hasWicket w = true) (ht : s.build.hasTill t = true) {q : SFlit}
    (hq : s.net.s.find? (fun q => q.till == t && q.w == w) = some q) (hserv : s.serving q.aid.toNat = false) :
    Completes (.snoopDelivery w t) s (fun u =>
      u.net.pw = s.net.pw ++ [(w, t, .foreclosed q.folio q.aid q.laddr (covered (lineIx q.laddr) q.blk))]
      ∧ u.out = s.out ∧ u.wickets = s.wickets) := by
  have he := exec_snoop hw ht hq
  rw [if_neg (by simp [hserv])] at he
  have hl := logs_packet (s.popS t w) (.wicket w) (.till t) (c := 2) (by decide) 1
  exact .of he ⟨(net_sendW _ _ _ _).trans rfl, hl.out, hl.wickets⟩

/-! ## Credits and loans (R130, R133) -/

theorem cred_modCred (x : Wicket) (n t : Nat) {g : Cred → Cred} (h : g (x.cred n t) ≠ {}) :
    (x.modCred n t g).cred n t = g (x.cred n t) := KV.get_set_ne_default _ _ h

theorem loan_modLoan (x : Wicket) (t : Nat) {g : Loan → Loan} (h : g (x.loan t) ≠ {}) :
    (x.modLoan t g).loan t = g (x.loan t) := KV.get_set_ne_default _ _ h

theorem Cred.ne_of_folios {c : Cred} (h : c.folios ≠ 0) : c ≠ {} := fun e => h (by rw [e])
theorem Loan.ne_of_folios {l : Loan} (h : l.folios ≠ 0) : l ≠ {} := fun e => h (by rw [e])

theorem serveLoans_none (h : (s.till t).loanReqs = []) : serveLoans s t = s := by
  unfold serveLoans
  rw [h]
  split <;> rfl

/-- A live agent's credit back at its Wicket. -/
theorem creditBack_escrow {a : Aid} {i : Inc} (htk : s.takes a i = true) (data : Bool) :
    creditBack s w t .escrow a i data = (s.modWicket w (fun x => x.modCred a.toNat t (fun c => { c with
      folios := c.folios + 1, data := c.data + (if data then 1 else 0) }))).modWicket w (fun x =>
        x.modCred a.toNat t (fun c => { c with open_ := c.open_ - 1 })) := by
  unfold creditBack
  dsimp only
  rw [htk]
  rfl

theorem completes_credit (hinv : s.Inv) (hw : s.build.hasWicket w = true) (ht : s.build.hasTill t = true) {a : Aid} {i : Inc}
    {data : Bool} {origin : Origin} (hfr : s.frontP t w = some (.credit .escrow a i data none origin))
    (htk : s.takes a i = true) (hl : (s.till t).loanReqs = []) :
    Completes (.creditReturn w t) s (fun u =>
      (u.wicket w).cred a.toNat t = { (s.wicket w).cred a.toNat t with
        folios := ((s.wicket w).cred a.toNat t).folios + 1
        data := ((s.wicket w).cred a.toNat t).data + (if data then 1 else 0)
        open_ := ((s.wicket w).cred a.toNat t).open_ - 1 }
      ∧ u.tills = s.tills ∧ u.out = s.out) := by
  have hlt : w < s.wickets.length := by
    rw [hinv.2.1]
    exact hasWicket_lt hw
  have he : exec (.creditReturn w t) s = .next (serveLoans (creditBack (s.popP t w) w t .escrow a i data) t) := by
    show execCreditReturn w t s = _
    unfold execCreditReturn
    rw [if_neg (by simp [hw, ht]), hfr]
  rw [creditBack_escrow (by exact htk), serveLoans_none (by exact hl)] at he
  refine .of he ⟨?_, rfl, rfl⟩
  rw [wicket_modWicket _ _ (by rw [wickets_length_modWicket]; exact hlt), wicket_modWicket _ _ (by exact hlt)]
  have h1 : (((s.popP t w).wicket w).modCred a.toNat t (fun c => { c with
      folios := c.folios + 1, data := c.data + (if data then 1 else 0) })).cred a.toNat t = { (s.wicket w).cred a.toNat t with
        folios := ((s.wicket w).cred a.toNat t).folios + 1
        data := ((s.wicket w).cred a.toNat t).data + (if data then 1 else 0) } :=
    cred_modCred _ _ _ (Cred.ne_of_folios (Nat.succ_ne_zero _))
  rw [cred_modCred _ _ _ (by rw [h1]; exact Cred.ne_of_folios (Nat.succ_ne_zero _)), h1]

theorem completes_loan (hinv : s.Inv) (hw : s.build.hasWicket w = true) (ht : s.build.hasTill t = true) {n d : Nat}
    (hfr : s.frontP t w = some (.loan n d)) (hn : 0 < n) :
    Completes (.loanGrant w t) s (fun u => (u.wicket w).loan t = { (s.wicket w).loan t with
        folios := ((s.wicket w).loan t).folios + n
        data := ((s.wicket w).loan t).data + d
        asked := false, idleTick := s.time.tick } ∧ u.tills = s.tills ∧ u.out = s.out) := by
  have hlt : w < s.wickets.length := by
    rw [hinv.2.1]
    exact hasWicket_lt hw
  have he : exec (.loanGrant w t) s = .next ((s.popP t w).modWicket w (fun x => x.modLoan t (fun l => { l with
      folios := l.folios + n, data := l.data + d, asked := false, idleTick := s.time.tick }))) := by
    show execLoanGrant w t s = _
    unfold execLoanGrant
    rw [if_neg (by simp [hw, ht]), hfr]
  refine .of he ⟨?_, rfl, rfl⟩
  rw [wicket_modWicket _ _ (by exact hlt), loan_modLoan _ _ (Loan.ne_of_folios (by show _ + n ≠ 0; omega))]
  rfl

end

/-- Settles O34: each message changes its own part of the Wicket. -/
theorem messagesReachTheWicket : Obligations.MessagesReachTheWicket := by
  unfold Obligations.MessagesReachTheWicket
  intro s w t hinv hw ht hf
  exact ⟨fun opc a i tag st rcpt isRead l req hfr htk hg hwb hst hrd hno =>
      completes_cmp hinv hw ht hf hfr htk hg hwb hst hrd hno,
    fun x hx htk hno => completes_dataWaits hinv hw ht hx htk hno,
    fun x c hx htk hc hd hct hca htag hinc hor hdor hneed hst hg =>
      completes_dataMeets hinv hw ht hf hx htk hc hd hct hca htag hinc hor hdor hneed hst hg,
    fun a tag l hfr hh => completes_chained hinv hw ht hfr hh,
    fun q sid hq hserv hg hwait hsid => completes_snoop hinv hw ht hf hq hserv hg hwait hsid,
    fun q hq hserv => completes_foreclosed hw ht hq hserv,
    fun a i data origin hfr htk hl => completes_credit hinv hw ht hfr htk hl,
    fun n d hfr hn => completes_loan hinv hw ht hfr hn⟩

end Sys2Proof.Machine
end

section
/-! PROOFS. Loans, foreclosed responses and receipts (R130, R131, R141, R232, R233). -/

namespace Sys2Proof.Machine

section
variable {s : State} {t w : Nat}

/-! ## Loans (R130, R131) -/

/-- What a Till lends at a request: within the grant size, the pool and the Wicket's cap (R130). -/
def State.loanOf (s : State) (t w : Nat) : Nat :=
  min (min (s.rawN 0x4011 0) (s.till t).poolF) (s.rawN 0x4011 1 - (((s.wicket w).loan t).folios + ((s.wicket w).loan t).inUseF))

/-- A Till with a request of Folio credits kept. -/
def State.asked (s : State) (t w : Nat) : State :=
  (s.popW w t).modTill t (fun u => { u with loanReqs := u.loanReqs ++ [(w, false)] })

/-- A Till with a request served. -/
def State.lends (s : State) (t w n : Nat) : State :=
  s.modTill t (fun u => { u with loanReqs := dropFirst (· == (w, false)) u.loanReqs, lentF := u.lentF + n, lentD := u.lentD + 0 })

theorem serveLoans_one (hr : s.recalls t = false) (hq : (s.till t).loanReqs = [(w, false)]) :
    serveLoans s t = if s.loanOf t w = 0 then s else (s.lends t w (s.loanOf t w)).sendP t w (.loan (s.loanOf t w) 0) := by
  unfold serveLoans
  rw [hr, if_neg Bool.false_ne_true, hq]
  by_cases h : s.loanOf t w = 0
  · rw [if_pos h]
    unfold State.loanOf at h
    exact if_pos (by simpa using h)
  · rw [if_neg h]
    unfold State.loanOf at h
    exact if_neg (by simpa using h)

theorem completes_loanRequest (hinv : s.Inv) (hw : s.build.hasWicket w = true) (hc : s.calm t)
    (hfr : s.frontW w t = some (.loanReq false)) (hq : (s.till t).loanReqs = []) (hr : s.recalls t = false) :
    Completes (.loanRequest t w) s (fun u =>
      (0 < s.loanOf t w → (u.till t).lentF = (s.till t).lentF + s.loanOf t w ∧ (u.till t).loanReqs = []
        ∧ u.net.p = s.net.p ++ [(t, w, .loan (s.loanOf t w) 0)]) ∧
      (s.loanOf t w = 0 → (u.till t).lentF = (s.till t).lentF ∧ (u.till t).loanReqs = [(w, false)] ∧ u.net.p = s.net.p)) := by
  have hrest := rests_of_calm hinv hc
  have he : exec (.loanRequest t w) s = .next (worked (serveLoans (s.asked t w) t) t) := by
    show execLoanRequest t w s = _
    unfold execLoanRequest
    rw [if_neg (by simp [hasTill_of_alive hc.1, hw]), hfr]
    dsimp only
    rw [if_pos hc.1]
    rfl
  have hat : (s.asked t w).till t = { s.till t with loanReqs := (s.till t).loanReqs ++ [(w, false)] } :=
    till_modTill _ _ (by exact hrest.lt)
  have har : Rests (s.asked t w) t := Rests.aside (s := s.popW w t) (hrest.of_tills rfl) (fun _ => rfl) (fun _ => rfl) (fun _ => rfl)
  have hn : (s.asked t w).loanOf t w = s.loanOf t w := by
    unfold State.loanOf
    rw [hat]
    rfl
  have hap : (s.asked t w).net.p = s.net.p := rfl
  rw [serveLoans_one (s := s.asked t w) (w := w) hr (by rw [hat, hq]; rfl), hn] at he
  generalize s.asked t w = a at *
  by_cases h0 : s.loanOf t w = 0
  · rw [if_pos h0, har.worked] at he
    refine .of he ⟨fun h => absurd h (by omega), fun _ => ⟨?_, ?_, hap⟩⟩
    · rw [till_modTill _ _ har.lt, hat]
    · rw [till_modTill _ _ har.lt, hat, hq]
      rfl
  · rw [if_neg h0] at he
    have hlr : Rests (a.lends t w (s.loanOf t w)) t := har.aside (fun _ => rfl) (fun _ => rfl) (fun _ => rfl)
    have hlt : (a.lends t w (s.loanOf t w)).till t = { a.till t with
        loanReqs := dropFirst (· == (w, false)) (a.till t).loanReqs
        lentF := (a.till t).lentF + s.loanOf t w, lentD := (a.till t).lentD + 0 } := till_modTill _ _ har.lt
    have hlp : (a.lends t w (s.loanOf t w)).net.p = s.net.p := hap
    generalize a.lends t w (s.loanOf t w) = b at *
    have hpt := tills_sendP b t w (.loan (s.loanOf t w) 0)
    have hpn := net_sendP b t w (.loan (s.loanOf t w) 0)
    generalize b.sendP t w (.loan (s.loanOf t w) 0) = d at *
    have hdr : Rests d t := hlr.of_tills hpt
    rw [hdr.worked] at he
    refine .of he ⟨fun _ => ⟨?_, ?_, by rw [← hlp]; exact hpn⟩, fun h => absurd h h0⟩
    · rw [till_modTill _ _ hdr.lt]
      show (d.till t).lentF = _
      rw [till_congr hpt, hlt, hat]
    · rw [till_modTill _ _ hdr.lt]
      show (d.till t).loanReqs = _
      rw [till_congr hpt, hlt, hat, hq]
      exact if_pos (beq_self_eq_true _)

theorem exec_loanIdle (hw : s.build.hasWicket w = true) (hc : s.calm t) :
    exec (.loanIdle w t) s = .next (if s.due ((s.wicket w).loan t).idleTick (s.rawN 0x4011 3) then serveLoans (returnLoan s w t) t
      else s) := by
  obtain ⟨-, -, -, -, -, -, -, hh⟩ := alive_iff.mp hc.1
  show execLoanIdle w t s = _
  unfold execLoanIdle
  rw [if_neg (by simp [hasTill_of_alive hc.1, hw]), hh, Bool.not_false, Bool.and_true]

theorem completes_loanIdle (hinv : s.Inv) (hw : s.build.hasWicket w = true) (hc : s.calm t)
    (hd : s.due ((s.wicket w).loan t).idleTick (s.rawN 0x4011 3) = true) (hq : (s.till t).loanReqs = [])
    (hl : 0 < ((s.wicket w).loan t).folios ∨ 0 < ((s.wicket w).loan t).data) :
    Completes (.loanIdle w t) s (fun u =>
      (u.wicket w).loans = KV.set (s.wicket w).loans t { (s.wicket w).loan t with folios := 0, data := 0 } {}
      ∧ (u.till t).lentF = (s.till t).lentF - ((s.wicket w).loan t).folios
      ∧ (u.till t).lentD = (s.till t).lentD - ((s.wicket w).loan t).data ∧ u.out = s.out) := by
  have he := exec_loanIdle hw hc
  have htl := lt_tills_length hinv (hasTill_of_alive hc.1)
  have hwl : w < s.wickets.length := by
    rw [hinv.2.1]
    exact hasWicket_lt hw
  have hp := logs_packet s (.wicket w) (.till t) (c := 2) (by decide) 1
  obtain ⟨a, ha⟩ : ∃ a : State, a = (s.packet (.wicket w) 2 1 (.till t)).modWicket w (fun x =>
    x.modLoan t (fun l => { l with folios := 0, data := 0 })) := ⟨_, rfl⟩
  have hret : returnLoan s w t = a.modTill t (fun u => { u with
      lentF := u.lentF - ((s.wicket w).loan t).folios, lentD := u.lentD - ((s.wicket w).loan t).data }) := by
    unfold returnLoan
    dsimp only
    rw [if_neg (by simp; omega), ← ha]
  have hat : a.tills = s.tills := by
    rw [ha]
    exact hp.tills
  have haw : (a.wicket w).loans = KV.set (s.wicket w).loans t { (s.wicket w).loan t with folios := 0, data := 0 } {} := by
    rw [ha, wicket_modWicket _ _ (by rw [hp.wickets]; exact hwl), hp.wicket]
    rfl
  have hao : a.out = s.out := by
    rw [ha]
    exact hp.out
  have htill := till_modTill a (fun u => { u with
      lentF := u.lentF - ((s.wicket w).loan t).folios, lentD := u.lentD - ((s.wicket w).loan t).data })
    (by rw [hat]; exact htl)
  rw [if_pos hd, hret, serveLoans_none (by rw [htill]; show (a.till t).loanReqs = []; rw [till_congr hat, hq])] at he
  refine .of he ⟨haw, ?_, ?_, hao⟩
  · rw [htill, till_congr hat]
  · rw [htill, till_congr hat]

/-! ## Responses while others are due (R146, R233) -/

/-- The lines that a foreclosed response writes off. -/
def Folio.lostLines (x : Folio) (a : Aid) (lines : List Nat) : List Nat :=
  lines.filter (fun i => x.foundX.contains i && x.owners.contains a && !x.folds.contains (a, i))

/-- A Folio with responses recorded. -/
def Folio.answeredBy (x : Folio) (o : RspOpc) (a : Aid) (lines off : List Nat) : Folio :=
  { x with
    due := x.due.filter (fun d => !(lines.map (fun i => (a, i))).contains d)
    gotI := if o == .i then x.gotI ++ lines.map (fun i => (a, i)) else x.gotI
    gotS := if o == .s then x.gotS ++ lines.map (fun i => (a, i)) else x.gotS
    gotE := if o == .e && !lines.isEmpty then some a else x.gotE
    woff := x.woff || !off.isEmpty
    woffLines := x.woffLines ++ off.filter (fun i => !x.woffLines.contains i) }

/-- A response that leaves others due is recorded and nothing else happens. -/
theorem respond_waits {f : Nat} {x : Folio} (hr : Rests s t) (hx : s.folio? t f = some x) (hcr : x.crossed = []) (o : RspOpc)
    {a : Aid} {lines : List Nat} (hin : ∀ i ∈ lines, (a, i) ∈ x.due) (hmore : ∃ d ∈ x.due, ∀ i ∈ lines, d ≠ (a, i)) (dead : Bool) :
    Rests (respond s t f o a lines dead) t
      ∧ (respond s t f o a lines dead).folio? t f
          = some (x.answeredBy o a lines (if dead then x.lostLines a lines else []))
      ∧ respond s t f o a lines dead = { s with tills := (respond s t f o a lines dead).tills } := by
  have hls : lines.filter (fun i => x.due.contains (a, i)) = lines :=
    List.filter_eq_self.mpr (fun i hi => List.contains_iff_mem.mpr (hin i hi))
  obtain ⟨b, hb⟩ : ∃ b : State, b = s.modFolio t f (fun y => { y with
      due := y.due.filter (fun p => !(lines.map (fun i => (a, i))).contains p)
      gotI := if o == .i then y.gotI ++ lines.map (fun i => (a, i)) else y.gotI
      gotS := if o == .s then y.gotS ++ lines.map (fun i => (a, i)) else y.gotS
      gotE := if o == .e && !lines.isEmpty then some a else y.gotE
      woff := y.woff || !(if dead then x.lostLines a lines else []).isEmpty
      woffLines := y.woffLines ++ (if dead then x.lostLines a lines else []).filter (fun i => !y.woffLines.contains i) }) := ⟨_, rfl⟩
  have hbr : Rests b t := by
    rw [hb]
    exact hr.modFolio f (fun _ => rfl)
  have hbx : b.folio? t f = some (x.answeredBy o a lines (if dead then x.lostLines a lines else [])) := by
    rw [hb, folio_modFolio hr.lt, hx]
    rfl
  have hbe : b = { s with tills := b.tills } := by
    rw [hb]
    rfl
  have hcd : crossedDone b t f a (sectorOf x.laddr) lines = b.modFolio t f (fun y => { y with
      crossed := y.crossed.filter (fun g => !([] : List Nat).contains g) }) := by
    unfold crossedDone
    rw [hbx]
    dsimp only
    rw [show (x.answeredBy o a lines (if dead then x.lostLines a lines else [])).crossed = [] from hcr]
    rfl
  have hdr : Rests (b.modFolio t f (fun y => { y with crossed := y.crossed.filter (fun g => !([] : List Nat).contains g) })) t :=
    hbr.modFolio f (fun _ => rfl)
  have hdx : (b.modFolio t f (fun y => { y with
      crossed := y.crossed.filter (fun g => !([] : List Nat).contains g) })).folio? t f
        = some (x.answeredBy o a lines (if dead then x.lostLines a lines else [])) := by
    rw [folio_modFolio hbr.lt, hbx]
    have hc' : (x.answeredBy o a lines (if dead then x.lostLines a lines else [])).crossed = [] := hcr
    generalize x.answeredBy o a lines (if dead then x.lostLines a lines else []) = y at hc'
    cases y
    cases hc'
    rfl
  have hde : b.modFolio t f (fun y => { y with crossed := y.crossed.filter (fun g => !([] : List Nat).contains g) })
      = { s with tills := (b.modFolio t f (fun y => { y with
          crossed := y.crossed.filter (fun g => !([] : List Nat).contains g) })).tills } := by
    rw [hbe]
    rfl
  have hrsp : respond s t f o a lines dead = b.modFolio t f (fun y => { y with
      crossed := y.crossed.filter (fun g => !([] : List Nat).contains g) }) := by
    unfold respond
    rw [hx]
    dsimp only
    rw [hls]
    have hb' := hb
    unfold Folio.lostLines at hb'
    rw [← hb', hcd]
    refine if_pos ?_
    have haw : (b.modFolio t f (fun y => { y with
        crossed := y.crossed.filter (fun g => !([] : List Nat).contains g) })).awaits t f = true := by
      unfold State.awaits
      rw [hdx]
      obtain ⟨d, hd, hne⟩ := hmore
      have hmem : d ∈ x.due.filter (fun d => !(lines.map (fun i => (a, i))).contains d) := by
        rw [List.mem_filter]
        refine ⟨hd, ?_⟩
        rw [Bool.not_eq_true', Bool.eq_false_iff]
        intro hc
        obtain ⟨i, hi, hid⟩ := List.mem_map.mp (List.contains_iff_mem.mp hc)
        exact hne i hi hid.symm
      show (!(x.due.filter (fun d => !(lines.map (fun i => (a, i))).contains d)).isEmpty) = true
      simpa using List.ne_nil_of_mem hmem
    rw [haw, Bool.or_true]
  rw [hrsp]
  exact ⟨hdr, hdx, hde⟩

theorem completes_foreclosedResponse (hinv : s.Inv) (hw : s.build.hasWicket w = true) (hc : s.calm t) {f : Nat} {a : Aid}
    {l : Line} {lines : List Nat} {x : Folio} (hfr : s.frontW w t = some (.foreclosed f a l lines)) (hx : s.folio? t f = some x)
    (hcr : x.crossed = []) (hin : ∀ i ∈ lines, (a, i) ∈ x.due) (hmore : ∃ d ∈ x.due, ∀ i ∈ lines, d ≠ (a, i)) :
    Completes (.foreclosedResponse t w) s (fun u => u.folio? t f = some (x.answeredBy .i a lines (x.lostLines a lines))
      ∧ u.rawN 0x2030 4 = (s.rawN 0x2030 4 + 1) % 2 ^ 32) := by
  have he : exec (.foreclosedResponse t w) s
      = .next (worked (respond ((s.popW w t).bump ⟨0x2030, 4, 32⟩) t f .i a lines true) t) := by
    show execForeclosedResponse t w s = _
    unfold execForeclosedResponse
    rw [if_neg (by simp [hasTill_of_alive hc.1, hw]), if_pos hc.1]
    unfold takeForeclosed
    rw [hfr]
  have hcount := rawN_bump (s.popW w t) 0x2030 4 32 hinv.2.2.2.2.2.1 (by decide)
  have hbt : ((s.popW w t).bump ⟨0x2030, 4, 32⟩).tills = s.tills := rfl
  generalize (s.popW w t).bump ⟨0x2030, 4, 32⟩ = b at *
  obtain ⟨hr, hfo, hst⟩ := respond_waits ((rests_of_calm hinv hc).of_tills hbt) (by rw [folio_of_tills hbt]; exact hx) hcr .i hin
    hmore true
  generalize respond b t f .i a lines true = d at *
  rw [hr.worked] at he
  refine .of he ⟨(folio_idle hr.lt f).trans hfo, ?_⟩
  show d.rawN 0x2030 4 = _
  rw [hst]
  exact hcount

/-! ## The end of a receipt (R141) -/

/-- `b` is `a` with statistics, samples and records, a trace's count among them. -/
structure Traces (a b : State) : Prop where
  tills : b.tills = a.tills
  net : b.net = a.net
  out : b.out = a.out
  ws : b.ws = a.ws
  wickets : b.wickets = a.wickets
  agents : b.agents = a.agents
  time : b.time = a.time
  entries : SameEntries a b
  inbox : a.journal.inbox <+: b.journal.inbox

theorem Logs.traces {a b : State} (h : Logs a b) : Traces a b :=
  ⟨h.tills, h.net, h.out, h.ws, h.wickets, h.agents, h.time, h.entries, h.inbox⟩

theorem Traces.trans {a b c : State} (h : Traces a b) (g : Traces b c) : Traces a c :=
  ⟨g.tills.trans h.tills, g.net.trans h.net, g.out.trans h.out, g.ws.trans h.ws, g.wickets.trans h.wickets,
    g.agents.trans h.agents, g.time.trans h.time, h.entries.trans g.entries, h.inbox.trans g.inbox⟩

theorem traces_traceFolio (s : State) (t : Nat) (x : Folio) : Traces s (traceFolio s t x) := by
  unfold traceFolio
  split
  · exact (Logs.refl s).traces
  · extract_lets n j s1
    have h1 : Traces s s1 := ⟨rfl, rfl, rfl, rfl, rfl, rfl, rfl, .of_eq rfl rfl, List.prefix_rfl⟩
    split
    · exact h1
    · exact h1.trans (logs_note s1 _ _ _ _).traces

/-- The credit of a Folio that retires, with a write's outcome for WS. -/
def Folio.creditMsg (x : Folio) : PMsg :=
  .credit x.credit x.aid x.inc x.opc.hasData (if x.opc.isWrite then some (x.outcome, x.epoch) else none) x.origin

/-- A Till with a Folio freed. -/
def State.freed (s : State) (t f : Nat) : State :=
  s.modTill t (fun u => { u with folios := KV.del u.folios f, retCount := ((s.till t).retCount + 1) % 256 })

/-- A live request's Folio retires: it is free, and its credit leaves. -/
theorem retire_does {f : Nat} {x : Folio} (hx : s.folio? t f = some x) (hj : x.job = .request) (hd : x.dead = false)
    (hl : x.credit ≠ .loan) : ∃ b : State, Traces (s.freed t f) b ∧ retire s t f = b.sendP t x.wicket x.creditMsg := by
  have htr := traces_traceFolio (s.freed t f) t x
  have hs := logs_sample (traceFolio (s.freed t f) t x) (tillChan t) 0 0 (some (s.time.cclk - x.acceptCclk))
  refine ⟨if ((s.till t).retCount + 1) % 256 == 0 then
    (traceFolio (s.freed t f) t x).sample (tillChan t) 0 0 (some (s.time.cclk - x.acceptCclk)) else traceFolio (s.freed t f) t x, ?_, ?_⟩
  · split
    · exact htr.trans hs.traces
    · exact htr
  · unfold retire
    rw [hx]
    dsimp only
    rw [if_neg (by simp [hj]), if_neg (by simp [hd]), if_neg (by simpa using hl)]
    rfl

theorem KV.mem_of_del {α : Type} {k : Nat} {p : Nat × α} : ∀ {m : KV α}, p ∈ KV.del m k → p ∈ m
  | [], h => h
  | (j, v) :: m, h => by
    unfold KV.del at h
    split at h
    · exact List.mem_cons_of_mem _ h
    · split at h
      · exact h
      · rcases List.mem_cons.mp h with h | h
        · exact h ▸ List.mem_cons_self
        · exact List.mem_cons_of_mem _ (KV.mem_of_del h)

/-- No Folio of the Home is held in RETRY. -/
def State.noRetry (s : State) : Prop := ∀ k, ∀ p ∈ (s.till k).folios, p.2.phase ≠ .retry

theorem noRetry_of (h : ∀ u ∈ s.tills, ∀ p ∈ u.folios, p.2.phase ≠ .retry) : s.noRetry := by
  intro k
  rcases till_mem_or_default s k with hm | he
  · exact h _ hm
  · rw [he]
    exact fun p hp => absurd hp (by simp)

theorem retryHeld_none (h : s.noRetry) (l : List Nat) : l.foldl retryHeld s = s := by
  have h1 : ∀ k, retryHeld s k = s := by
    intro k
    unfold retryHeld
    rw [List.filter_eq_nil_iff.mpr (fun p hp => by simpa using h k p hp)]
    rfl
  induction l with
  | nil => rfl
  | cons k l ih =>
    rw [List.foldl_cons, h1]
    exact ih

theorem noRetry_modTill (h : s.noRetry) {g : Till → Till} (hg : ∀ u p, p ∈ (g u).folios → ∃ q ∈ u.folios, q.2.phase = p.2.phase)
    (k : Nat) : (s.modTill k g).noRetry := by
  intro j p hp
  by_cases hjk : j = k
  · subst hjk
    by_cases hj : j < s.tills.length
    · rw [till_modTill s g hj] at hp
      obtain ⟨q, hq, he⟩ := hg _ _ hp
      rw [← he]
      exact h j q hq
    · have hn : (s.modTill j g).till j = {} := by
        simp [State.till, State.modTill, hj]
      rw [hn] at hp
      exact absurd hp (by simp)
  · rw [till_modTill_ne s g hjk] at hp
    exact h j p hp

theorem noRetry_of_tills {a b : State} (h : a.noRetry) (e : b.tills = a.tills) : b.noRetry := by
  intro k
  rw [till_congr e]
  exact h k

/-- A Till without the receipt, its Folio failed. -/
def State.unreceipted (s : State) (t f : Nat) (r : Receipt) : State :=
  (s.modTill t (fun u => { u with receipts := dropFirst (· == r) u.receipts })).modFolio t f (fun y => { y with outcome := .fail })

/-- The handles of a receipt are gone. -/
def State.unhandled (s : State) (t f : Nat) : State :=
  { s with ws := { s.ws with handles := List.filter (fun p => !(p.2.till == t && p.2.folio == f)) s.ws.handles } }

theorem exec_receiptTimeout (hc : s.calm t) {f : Nat} {r : Receipt}
    (hr : (s.till t).receipts.find? (fun r => r.folio == f) = some r) :
    exec (.receiptTimeout t f) s = .next (if s.due r.tick (s.rawN 0x4012 0) && !s.resending t f then
      (let b := (retire (((s.unreceipted t f r).bump ⟨0x4012, 3, 32⟩).note .receiptExpired (.till t) [r.folio] (some r.aid)) t f).unhandled
        t f
       worked (b.build.tillList.foldl retryHeld b) t) else s) := by
  show execReceiptTimeout t f s = _
  unfold execReceiptTimeout
  rw [if_neg (by simp [hasTill_of_alive hc.1]), hr]
  dsimp only
  rw [hc.1, Bool.true_and]
  rfl

theorem completes_receiptTimeout (hinv : s.Inv) (hc : s.calm t) {f : Nat} {r : Receipt} {x : Folio}
    (hr : (s.till t).receipts.find? (fun r => r.folio == f) = some r) (hx : s.folio? t f = some x) (hj : x.job = .request)
    (hd : x.dead = false) (hl : x.credit ≠ .loan) (hno : ∀ u ∈ s.tills, ∀ p ∈ u.folios, p.2.phase ≠ .retry)
    (hdue : s.due r.tick (s.rawN 0x4012 0) = true) (hres : s.resending t f = false) :
    Completes (.receiptTimeout t f) s (fun u => (u.till t).receipts = dropFirst (· == r) (s.till t).receipts
      ∧ u.net.p = s.net.p ++ [(t, x.wicket, .credit x.credit x.aid x.inc x.opc.hasData
          (if x.opc.isWrite = true then some (.fail, x.epoch) else none) x.origin)]
      ∧ Reports s u 0x20B ∧ u.rawN 0x4012 3 = (s.rawN 0x4012 3 + 1) % 2 ^ 32 ∧ u.out = s.out) := by
  have hrest := rests_of_calm hinv hc
  have he := exec_receiptTimeout hc hr
  rw [hdue, hres, if_pos (by rfl)] at he
  -- the receipt is gone and the expiry counted and recorded
  have har : Rests (s.unreceipted t f r) t := by
    refine Rests.modFolio ?_ f (fun _ => rfl)
    exact hrest.aside (fun _ => rfl) (fun _ => rfl) (fun _ => rfl)
  have hax : (s.unreceipted t f r).folio? t f = some { x with outcome := .fail } := by
    unfold State.unreceipted
    rw [folio_modFolio (by rw [tills_length_modTill]; exact hrest.lt)]
    unfold State.folio? at hx ⊢
    rw [till_modTill s _ hrest.lt]
    show (KV.find? (s.till t).folios f).map _ = _
    rw [hx]
    rfl
  have hat : ((s.unreceipted t f r).till t).receipts = dropFirst (· == r) (s.till t).receipts := by
    unfold State.unreceipted State.modFolio
    rw [till_modTill _ _ (by rw [tills_length_modTill]; exact hrest.lt), till_modTill s _ hrest.lt]
  have hanr : (s.unreceipted t f r).noRetry := by
    refine noRetry_modTill ?_ (fun u p hp => ?_) t
    · refine noRetry_modTill (noRetry_of hno) ?_ t
      exact fun u p hp => ⟨p, hp, rfl⟩
    · obtain ⟨q, hq, rfl⟩ := List.mem_map.mp hp
      refine ⟨q, hq, ?_⟩
      split <;> rfl
  have han : (s.unreceipted t f r).net.p = s.net.p := rfl
  have hao : (s.unreceipted t f r).out = s.out := rfl
  have hai : (s.unreceipted t f r).journal.inbox = s.journal.inbox := rfl
  have hatime : (s.unreceipted t f r).time = s.time := rfl
  have hwf : KV.wf (s.unreceipted t f r).chart = true := hinv.2.2.2.2.2.1
  have hac : (s.unreceipted t f r).rawN 0x4012 3 = s.rawN 0x4012 3 := rfl
  generalize s.unreceipted t f r = a at *
  have hcount := rawN_bump a 0x4012 3 32 hwf (by decide)
  have hcwf : KV.wf (a.bump ⟨0x4012, 3, 32⟩).chart = true := chart_wf_setRawN a _ _ _ hwf
  have hbt : (a.bump ⟨0x4012, 3, 32⟩).tills = a.tills := rfl
  have hbn : (a.bump ⟨0x4012, 3, 32⟩).net = a.net := rfl
  have hbo : (a.bump ⟨0x4012, 3, 32⟩).out = a.out := rfl
  have hbi : (a.bump ⟨0x4012, 3, 32⟩).journal = a.journal := rfl
  have hbtime : (a.bump ⟨0x4012, 3, 32⟩).time = a.time := rfl
  generalize a.bump ⟨0x4012, 3, 32⟩ = b at *
  have hn := logs_note b .receiptExpired (.till t) [r.folio] (some r.aid)
  have hrep := reports_note (s := s) (u := b) (by rw [hbi, hai]) (by rw [hbtime, hatime]) .receiptExpired (.till t) [r.folio]
    (some r.aid)
  generalize b.note .receiptExpired (.till t) [r.folio] (some r.aid) = c at *
  have hct : c.tills = a.tills := hn.tills.trans hbt
  have hcr : Rests c t := har.of_tills hct
  -- the Folio retires
  obtain ⟨d, hde⟩ : ∃ d : State, d = c.freed t f := ⟨_, rfl⟩
  obtain ⟨e, htr, hret⟩ := retire_does (s := c) (t := t) (f := f) (x := { x with outcome := .fail })
    (by rw [folio_of_tills hct]; exact hax) hj hd hl
  rw [← hde] at htr
  have hdr : Rests d t := by
    rw [hde]
    exact hcr.modTill hcr.ni (fun p hp => hcr.releases p (KV.mem_of_del hp)) hcr.failDue
  have hdt : (d.till t).receipts = dropFirst (· == r) (s.till t).receipts := by
    rw [hde]
    unfold State.freed
    rw [till_modTill _ _ hcr.lt]
    show (c.till t).receipts = _
    rw [till_congr hct, hat]
  have hdnr : d.noRetry := by
    rw [hde]
    exact noRetry_modTill (noRetry_of_tills hanr hct) (fun u p hp => ⟨p, KV.mem_of_del hp, rfl⟩) t
  have hdn : d.net.p = s.net.p := by
    rw [hde]
    show c.net.p = _
    rw [hn.net, hbn, han]
  have hdo : d.out = s.out := by
    rw [hde]
    show c.out = _
    rw [hn.out, hbo, hao]
  have hdj : d.journal = c.journal := by
    rw [hde]
    rfl
  have hdc : d.chart = c.chart := by
    rw [hde]
    rfl
  have hdf : d.fuses = c.fuses := by
    rw [hde]
    rfl
  rw [hret] at he
  have hpl := logs_packet e (.till t) (.wicket x.wicket) (c := 2) (by decide) 1
  have hpt := tills_sendP e t x.wicket ({ x with outcome := .fail } : Folio).creditMsg
  have hpn := net_sendP e t x.wicket ({ x with outcome := .fail } : Folio).creditMsg
  have hpo : (e.sendP t x.wicket ({ x with outcome := .fail } : Folio).creditMsg).out = e.out := hpl.out
  have hpi : e.journal.inbox <+: (e.sendP t x.wicket ({ x with outcome := .fail } : Folio).creditMsg).journal.inbox := hpl.inbox
  have hpe : SameEntries e (e.sendP t x.wicket ({ x with outcome := .fail } : Folio).creditMsg) :=
    hpl.entries.trans (.of_eq rfl rfl)
  dsimp only at he
  generalize e.sendP t x.wicket ({ x with outcome := .fail } : Folio).creditMsg = g at *
  have hgt : g.tills = d.tills := hpt.trans htr.tills
  have hgr : Rests (g.unhandled t f) t := hdr.of_tills hgt
  rw [retryHeld_none (s := g.unhandled t f) (noRetry_of_tills hdnr hgt), hgr.worked] at he
  have hentries : SameEntries b g := hn.entries.trans ((SameEntries.of_eq hdc hdf).trans (htr.entries.trans hpe))
  refine .of he ⟨?_, ?_, ?_, ?_, ?_⟩
  · rw [till_modTill _ _ hgr.lt]
    show (g.till t).receipts = _
    rw [till_congr hgt, hdt]
  · show g.net.p = _
    rw [hpn, htr.net, hdn]
    rfl
  · refine hrep.of_prefix ?_
    show c.journal.inbox <+: g.journal.inbox
    rw [← hdj]
    exact htr.inbox.trans hpi
  · show g.rawN 0x4012 3 = _
    rw [hentries.rawN hcwf (apart (by decide)), hcount, hac]
  · show g.out = _
    rw [hpo, htr.out, hdo]

theorem receiptTimeout_early (hc : s.calm t) {f : Nat} {r : Receipt}
    (hr : (s.till t).receipts.find? (fun r => r.folio == f) = some r) (hdue : s.due r.tick (s.rawN 0x4012 0) = false) :
    exec (.receiptTimeout t f) s = .next s := by
  rw [exec_receiptTimeout hc hr, hdue]
  rfl

end

/-- Settles O35: each message at a Till has its own effect, and what is not due stays. -/
theorem loansReceiptsForeclosedResponses : Obligations.LoansReceiptsForeclosedResponses := by
  unfold Obligations.LoansReceiptsForeclosedResponses
  intro s t w hinv hw hc
  refine ⟨fun hfr hq hr => completes_loanRequest hinv hw hc hfr hq hr,
    fun hd hq hl => completes_loanIdle hinv hw hc hd hq hl, fun hd => by rw [exec_loanIdle hw hc, hd]; rfl,
    fun f a l lines x hfr hx hcr hin hmore => ?_,
    fun f r x hr hx hj hd hl hno => ⟨fun hdue hres => completes_receiptTimeout hinv hc hr hx hj hd hl hno hdue hres,
      fun hdue => receiptTimeout_early hc hr hdue⟩⟩
  obtain ⟨u, he, hfo, hcount⟩ := completes_foreclosedResponse hinv hw hc hfr hx hcr hin hmore
  refine .of he ⟨_, hfo, rfl, rfl, rfl, rfl, fun i => ?_, hcount⟩
  show i ∈ x.woffLines ++ (x.lostLines a lines).filter (fun i => !x.woffLines.contains i) ↔ _
  rw [List.mem_append, List.mem_filter]
  unfold Folio.lostLines
  rw [List.mem_filter]
  by_cases h : i ∈ x.woffLines
  · simp [h]
  · simp [h, and_assoc]

end Sys2Proof.Machine
end

section
/-! PROOFS. Snoop responses (R79, R92, R93, R146, R230). -/

namespace Sys2Proof.Machine

/-! ## Snoops that wait for a SID leave the Tills alone (R84) -/

theorem tills_takeSids (w : Nat) : ∀ (n : Nat) (s : State), (takeSids n s w).tills = s.tills
  | 0, _ => rfl
  | n + 1, s => by
    unfold takeSids
    split
    · dsimp only
      rw [tills_takeSids w n]
      split
      · rfl
      · exact tills_send _ _
    · rfl

theorem tills_freeIfDone (s : State) (w sid : Nat) : (freeIfDone s w sid).tills = s.tills := by
  unfold freeIfDone
  split
  · split
    · unfold freeSid
      dsimp only
      rw [tills_takeSids]
      split <;> rfl
    · rfl
  · rfl

section
variable {s : State} {w : Nat} {o : RspOpc} {r : Rsp}

theorem exec_response (h : heard s w r.aid r.inc) : exec (rspOf o w r) s = .next (decideRsp s w o r) := by
  obtain ⟨hw, hf, hst, hwk, hdm, hinc⟩ := h
  have hd : discardMsg s w r.aid r.inc ⟨0x2030, 0, 32⟩ = none := by
    unfold discardMsg
    dsimp only
    rw [if_neg (by rw [hst]; decide), if_neg (by simp [hwk]), if_neg (by simp [hdm]), if_neg (by simp [hinc])]
  have hr : response w o r s = .next (decideRsp s w o r) := by
    unfold response
    rw [if_neg (by simp [hw]), hf, if_neg Bool.false_ne_true, hd]
  cases o
  · exact hr
  · exact hr
  · exact hr

theorem covered_ne_nil (first blk : Nat) : (covered first blk).isEmpty = false := by
  unfold covered
  split
  · rfl
  · split <;> rfl

/-! ## A response that its snoop permits (R79, R92, R146) -/

/-- The lines of a response are done at its snoop. -/
def State.undoes (s : State) (w sid : Nat) (lines : List Nat) : State :=
  s.modWicket w (fun x => { x with sids := KV.mod x.sids sid (fun q =>
    { q with undone := q.undone.filter (fun i => !lines.contains i) }) })

theorem decideRsp_permitted (hb : blockOk r.low.toNat r.blk.toNat = true) {p : Snoop}
    (hp : KV.find? (s.wicket w).sids r.sid.toNat = some p) (ha : p.aid = r.aid) (hh : p.heldOut = false) (hr : p.resent = false)
    (hok : permitted p.opc o = true)
    (hl : ∀ i ∈ covered r.low.toNat r.blk.toNat, i ∈ p.undone ∧ i ∈ covered (lineIx p.laddr) p.blk) :
    decideRsp s w o r = if (s.wicket w).behindWb p (covered r.low.toNat r.blk.toNat) then
        (s.undoes w r.sid.toNat (covered r.low.toNat r.blk.toNat)).modWicket w (fun x => { x with heldRsp := x.heldRsp ++ [⟨o, r⟩] })
      else freeIfDone (forwardRsp (s.undoes w r.sid.toNat (covered r.low.toNat r.blk.toNat)) w p o r.aid
        (covered r.low.toNat r.blk.toNat)) w r.sid.toNat := by
  have hfresh : (covered r.low.toNat r.blk.toNat).filter p.undone.contains = covered r.low.toNat r.blk.toNat :=
    List.filter_eq_self.mpr (fun i hi => List.contains_iff_mem.mpr (hl i hi).1)
  have hmine : (covered r.low.toNat r.blk.toNat).all (covered (lineIx p.laddr) p.blk).contains = true :=
    List.all_eq_true.mpr (fun i hi => List.contains_iff_mem.mpr (hl i hi).2)
  unfold decideRsp
  dsimp only
  rw [hb, hp]
  dsimp only
  rw [if_neg (by simp), if_neg (by simp [ha, hh, hmine, hok]), if_neg (by simp [hr]), if_pos (by simp [hfresh]), hfresh]
  rfl

theorem completes_held (hinv : s.Inv) (h : heard s w r.aid r.inc) (hb : blockOk r.low.toNat r.blk.toNat = true) {p : Snoop}
    (hp : KV.find? (s.wicket w).sids r.sid.toNat = some p) (ha : p.aid = r.aid) (hh : p.heldOut = false) (hr : p.resent = false)
    (hok : permitted p.opc o = true)
    (hl : ∀ i ∈ covered r.low.toNat r.blk.toNat, i ∈ p.undone ∧ i ∈ covered (lineIx p.laddr) p.blk)
    (hwb : (s.wicket w).behindWb p (covered r.low.toNat r.blk.toNat) = true) :
    Completes (rspOf o w r) s (fun t => (t.wicket w).heldRsp = (s.wicket w).heldRsp ++ [⟨o, r⟩]
      ∧ KV.find? (t.wicket w).sids r.sid.toNat
          = some { p with undone := p.undone.filter (fun i => !(covered r.low.toNat r.blk.toNat).contains i) }
      ∧ t.tills = s.tills ∧ t.net = s.net ∧ t.out = s.out) := by
  have he := exec_response (o := o) h
  rw [decideRsp_permitted hb hp ha hh hr hok hl, if_pos hwb] at he
  have hlt : w < s.wickets.length := by
    rw [hinv.2.1]
    exact hasWicket_lt h.1
  have h1 : (s.undoes w r.sid.toNat (covered r.low.toNat r.blk.toNat)).wicket w = { s.wicket w with
      sids := KV.mod (s.wicket w).sids r.sid.toNat (fun q =>
        { q with undone := q.undone.filter (fun i => !(covered r.low.toNat r.blk.toNat).contains i) }) } :=
    wicket_modWicket _ _ hlt
  refine .of he ⟨?_, ?_, rfl, rfl, rfl⟩
  · rw [wicket_modWicket _ _ (by unfold State.undoes; rw [wickets_length_modWicket]; exact hlt), h1]
  · rw [wicket_modWicket _ _ (by unfold State.undoes; rw [wickets_length_modWicket]; exact hlt), h1]
    have hm := KV.find_mod r.sid.toNat (fun q : Snoop =>
      { q with undone := q.undone.filter (fun i => !(covered r.low.toNat r.blk.toNat).contains i) }) (s.wicket w).sids
    rw [hp] at hm
    exact hm

theorem completes_recorded (hinv : s.Inv) (h : heard s w r.aid r.inc) (hb : blockOk r.low.toNat r.blk.toNat = true) {p : Snoop}
    (hp : KV.find? (s.wicket w).sids r.sid.toNat = some p) (ha : p.aid = r.aid) (hh : p.heldOut = false) (hr : p.resent = false)
    (hok : permitted p.opc o = true)
    (hl : ∀ i ∈ covered r.low.toNat r.blk.toNat, i ∈ p.undone ∧ i ∈ covered (lineIx p.laddr) p.blk) {x : Folio}
    (hwb : (s.wicket w).behindWb p (covered r.low.toNat r.blk.toNat) = false) (hc : s.calm p.till)
    (hx : s.folio? p.till p.folio = some x) (hcr : x.crossed = [])
    (hin : ∀ i ∈ covered r.low.toNat r.blk.toNat, (r.aid, i) ∈ x.due)
    (hmore : ∃ d ∈ x.due, ∀ i ∈ covered r.low.toNat r.blk.toNat, d ≠ (r.aid, i)) :
    Completes (rspOf o w r) s (fun t =>
      t.folio? p.till p.folio = some (x.answeredBy o r.aid (covered r.low.toNat r.blk.toNat) []) ∧ t.agents = s.agents) := by
  have he := exec_response (o := o) h
  rw [decideRsp_permitted hb hp ha hh hr hok hl, if_neg (by simp [hwb])] at he
  obtain ⟨a, hae⟩ : ∃ a : State, a = s.undoes w r.sid.toNat (covered r.low.toNat r.blk.toNat) := ⟨_, rfl⟩
  have hac : a.calm p.till := by
    rw [hae]
    exact hc
  have hat : a.tills = s.tills := by
    rw [hae]
    rfl
  have haa : a.agents = s.agents := by
    rw [hae]
    rfl
  rw [← hae] at he
  have hlog := logs_packet a (.wicket w) (.till p.till) (c := 2) (by decide) 1
  have hfw : forwardRsp a w p o r.aid (covered r.low.toNat r.blk.toNat)
      = worked (respond (a.packet (.wicket w) 2 1 (.till p.till)) p.till p.folio o r.aid (covered r.low.toNat r.blk.toNat) false)
          p.till := atTill_calm (hlog.calm hac) _ _
  rw [hfw] at he
  have hbt : (a.packet (.wicket w) 2 1 (.till p.till)).tills = s.tills := hlog.tills.trans hat
  have hba : (a.packet (.wicket w) 2 1 (.till p.till)).agents = s.agents := hlog.agents.trans haa
  generalize a.packet (.wicket w) 2 1 (.till p.till) = b at *
  obtain ⟨hrest, hfo, hst⟩ := respond_waits ((rests_of_calm hinv hc).of_tills hbt) (by rw [folio_of_tills hbt]; exact hx) hcr o hin
    hmore false
  have hda : (respond b p.till p.folio o r.aid (covered r.low.toNat r.blk.toNat) false).agents = s.agents := by
    rw [hst]
    exact hba
  generalize respond b p.till p.folio o r.aid (covered r.low.toNat r.blk.toNat) false = d at *
  rw [hrest.worked] at he
  have hft := tills_freeIfDone (d.modTill p.till (fun u => { u with idleTicks := 0 })) w r.sid.toNat
  have hfa := (rolls_freeIfDone (Rolls.refl (d.modTill p.till (fun u => { u with idleTicks := 0 }))) (w := w)
    (sid := r.sid.toNat)).agents
  generalize freeIfDone (d.modTill p.till (fun u => { u with idleTicks := 0 })) w r.sid.toNat = e at *
  refine .of he ⟨?_, hfa.trans hda⟩
  rw [folio_of_tills hft, folio_idle hrest.lt]
  exact hfo

/-! ## A response that no snoop permits (R93, R230) -/

theorem decideRsp_error {p : Snoop} (hb : blockOk r.low.toNat r.blk.toNat = true)
    (hp : KV.find? (s.wicket w).sids r.sid.toNat = some p) (hno : p.aid ≠ r.aid ∨ permitted p.opc o = false) :
    decideRsp s w o r = protocolError s w r.aid (place o.code 6 58 + r.sid.toNat) := by
  unfold decideRsp
  dsimp only
  rw [hb, hp]
  dsimp only
  rw [if_neg (by simp), if_pos]
  rcases hno with hno | hno <;> simp [hno]

theorem decideRsp_unknown (hb : blockOk r.low.toNat r.blk.toNat = true) (hs : KV.find? (s.wicket w).sids r.sid.toNat = none)
    (hd : KV.find? (s.wicket w).dups r.sid.toNat = none) :
    decideRsp s w o r = protocolError s w r.aid (place o.code 6 58 + r.sid.toNat) := by
  unfold decideRsp
  dsimp only
  rw [hb, hs, hd]
  exact if_neg (by decide)

theorem decideRsp_duplicate {mine : List Nat} (hb : blockOk r.low.toNat r.blk.toNat = true)
    (hs : KV.find? (s.wicket w).sids r.sid.toNat = none) (hd : KV.find? (s.wicket w).dups r.sid.toNat = some (r.aid, mine))
    (hl : ∀ i ∈ covered r.low.toNat r.blk.toNat, i ∈ mine) : decideRsp s w o r = s.bump ⟨0x2030, 5, 32⟩ := by
  have hall : (covered r.low.toNat r.blk.toNat).all mine.contains = true :=
    List.all_eq_true.mpr (fun i hi => List.contains_iff_mem.mpr (hl i hi))
  unfold decideRsp
  dsimp only
  rw [hb, hs, hd]
  dsimp only
  rw [if_neg (by simp), if_pos (by simp [hall])]

/-- A protocol error declares its agent dead with cause 4. -/
theorem protocolError_kills (hinv : s.Inv) {a : Aid} (hst : (s.agent a.toNat).state = .active) (arg : Nat) :
    ((protocolError s w a arg).agent a.toNat).state = .foreclosing ∧ ((protocolError s w a arg).agent a.toNat).cause = 4
      ∧ ((protocolError s w a arg).agent a.toNat).deadMark = true ∧ Reports s (protocolError s w a arg) 0x006 := by
  have hn := logs_note (s.bump ⟨0x2020, 3, 32⟩) .protocolError (.wicket w) [arg] (some a)
  have hrep := reports_note (s := s) (u := s.bump ⟨0x2020, 3, 32⟩) List.prefix_rfl rfl .protocolError (.wicket w) [arg] (some a)
  have hba : (s.bump ⟨0x2020, 3, 32⟩).agents = s.agents := rfl
  unfold protocolError
  generalize s.bump ⟨0x2020, 3, 32⟩ = b at *
  generalize b.note .protocolError (.wicket w) [arg] (some a) = d at *
  have hda : d.agents = s.agents := hn.agents.trans hba
  have hwf : KV.wf d.agents = true := by
    rw [hda]
    exact hinv.2.2.2.2.2.2.1
  have hdead := agent_declareDead_self (c := 4) hwf (.inl (by rw [agent_congr hda]; exact hst))
  rw [hdead]
  exact ⟨rfl, rfl, rfl, hrep.of_prefix (keeps_declareDead (m₀ := true) (Keeps.refl d)).inbox⟩

end

/-- Settles O32: the answer to a response follows its snoop. -/
theorem snoopResponsesCollected : Obligations.SnoopResponsesCollected := by
  unfold Obligations.SnoopResponsesCollected
  intro s w o r hinv hh hb
  refine ⟨fun p hp ha hho hr hok hl => ⟨fun hwb => completes_held hinv hh hb hp ha hho hr hok hl hwb,
      fun x hwb hc hx hcr hin hmore => ?_⟩, fun p hp hno => ?_, fun hs => ⟨fun hd => ?_, fun mine hd hl => ?_⟩⟩
  · obtain ⟨t, he, hfo, hag⟩ := completes_recorded hinv hh hb hp ha hho hr hok hl hwb hc hx hcr hin hmore
    refine .of he ⟨?_, hag⟩
    rw [hfo]
    unfold Folio.answeredBy
    rw [covered_ne_nil]
    cases o <;> simp
  · have he := exec_response (o := o) hh
    rw [decideRsp_error hb hp hno] at he
    exact .of he (protocolError_kills hinv hh.2.2.1 _)
  · have he := exec_response (o := o) hh
    rw [decideRsp_unknown hb hs hd] at he
    obtain ⟨h1, h2, -, h3⟩ := protocolError_kills (w := w) hinv hh.2.2.1 (place o.code 6 58 + r.sid.toNat)
    exact .of he ⟨h1, h2, h3⟩
  · rw [exec_response hh, decideRsp_duplicate hb hs hd hl]

end Sys2Proof.Machine
end

section
/-! PROOFS. The ends of leases, of rewrites of claimed pages and of posted writes' waits (R254, R256, R262, R265). -/

namespace Sys2Proof.Machine

section
variable {s : State} {t : Nat}

/-! ## Leases and their records (R256) -/

theorem exec_leaseExpiry (hc : s.calm t) {i : Nat} {c : Claim} (hcl : KV.find? (s.till t).claims i = some c) :
    exec (.leaseExpiry t i) s = .next (if c.expiry.any (· ≤ s.time.tick) then worked (expire s t i c) t else s) := by
  show execLeaseExpiry t i s = _
  unfold execLeaseExpiry
  rw [if_neg (by simp [hasTill_of_alive hc.1]), hcl]
  dsimp only
  rw [hc.1, Bool.true_and]

theorem exec_expiredHold (hc : s.calm t) {i : Nat} {c : Claim} (hcl : KV.find? (s.till t).claims i = some c) :
    exec (.expiredHold t i) s = .next (if c.state == .expired && s.due c.expiredTick (s.rawN 0x4101 1) then
      worked (deleteRecord s t i c) t else s) := by
  show execExpiredHold t i s = _
  unfold execExpiredHold
  rw [if_neg (by simp [hasTill_of_alive hc.1]), hcl]
  dsimp only
  rw [hc.1, Bool.true_and]

/-- A claim-table entry that has expired. -/
def Claim.ended (c : Claim) (now : Nat) : Claim := { c with state := .expired, expiredTick := now }

/-- The release rewrite of a page whose Claim has expired (R256). -/
def Claim.rewrite (c : Claim) : Rel := ⟨c.page, c.claimants, none, true, none⟩

theorem startRelease_none (h : (s.till t).summary = []) (r : Rel) :
    startRelease s t r = s.modTill t (fun u => { u with releases := u.releases ++ [r] }) := by
  have hno : ∀ sec, s.summaryOf t sec = false := by
    intro sec
    unfold State.summaryOf
    rw [h]
    exact Bool.and_false _
  unfold startRelease
  dsimp only
  rw [List.filter_eq_nil_iff.mpr (fun b _ => by simp [hno])]
  rfl

theorem expire_held {i : Nat} {c : Claim} (hst : c.state = .held) (hj : c.joining = []) (hcl : c.claimants ≠ [])
    (hg : ∀ p ∈ (s.till t).gathers, p.2.entry ≠ i) :
    expire s t i c = startRelease (((s.modClaim t i (fun _ => c.ended s.time.tick)).bump ⟨0x4101, 3, 32⟩).note .claimExpired (.till t)
      (claimArgs c)) t c.rewrite := by
  have hjoin : (s.till t).gathers.filter (fun p => p.2.joins && p.2.entry == i) = [] :=
    List.filter_eq_nil_iff.mpr (fun p hp => by simp [hg p hp])
  obtain ⟨state, exclusive, page, claimants, expiry, leaseClass, coord, joining, released, expiredTick⟩ := c
  dsimp only at hst hj hcl
  subst hst hj
  have hkept : claimants.filter (fun a => !([] : List Aid).contains a) = claimants :=
    List.filter_eq_self.mpr (fun a _ => by simp)
  unfold expire
  dsimp only
  rw [hjoin, hkept, if_neg (by simpa using hcl)]
  rfl

theorem completes_leaseExpiry (hinv : s.Inv) (hc : s.calm t) {i : Nat} {c : Claim}
    (hcl : KV.find? (s.till t).claims i = some c) {k : Nat} (he : c.expiry = some k) (hk : k ≤ s.time.tick) (hst : c.state = .held)
    (hj : c.joining = []) (hne : c.claimants ≠ []) (hg : ∀ p ∈ (s.till t).gathers, p.2.entry ≠ i) (hs : (s.till t).summary = []) :
    Completes (.leaseExpiry t i) s (fun u =>
      KV.find? (u.till t).claims i = some { c with state := .expired, expiredTick := s.time.tick }
        ∧ (u.till t).releases = (s.till t).releases ++ [⟨c.page, c.claimants, none, true, none⟩]
        ∧ Reports s u 0x20D ∧ u.rawN 0x4101 3 = (s.rawN 0x4101 3 + 1) % 2 ^ 32 ∧ u.out = s.out ∧ u.agents = s.agents) := by
  have hx := exec_leaseExpiry hc hcl
  have hr := rests_of_calm hinv hc
  rw [if_pos (by rw [he]; simpa using hk), expire_held hst hj hne hg] at hx
  have hat : (s.modClaim t i (fun _ => c.ended s.time.tick)).till t = { s.till t with
      claims := KV.mod (s.till t).claims i (fun _ => c.ended s.time.tick) } := till_modTill s _ hr.lt
  have har : Rests (s.modClaim t i (fun _ => c.ended s.time.tick)) t := hr.aside (fun _ => rfl) (fun _ => rfl) (fun _ => rfl)
  have hao : (s.modClaim t i (fun _ => c.ended s.time.tick)).out = s.out := rfl
  have haa : (s.modClaim t i (fun _ => c.ended s.time.tick)).agents = s.agents := rfl
  have hai : (s.modClaim t i (fun _ => c.ended s.time.tick)).journal = s.journal := rfl
  have hatm : (s.modClaim t i (fun _ => c.ended s.time.tick)).time = s.time := rfl
  have hach : (s.modClaim t i (fun _ => c.ended s.time.tick)).rawN 0x4101 3 = s.rawN 0x4101 3 := rfl
  have hawf : KV.wf (s.modClaim t i (fun _ => c.ended s.time.tick)).chart = true := hinv.2.2.2.2.2.1
  generalize s.modClaim t i (fun _ => c.ended s.time.tick) = a at *
  have hcount := rawN_bump a 0x4101 3 32 hawf (by decide)
  have hbwf : KV.wf (a.bump ⟨0x4101, 3, 32⟩).chart = true := chart_wf_setRawN a _ _ _ hawf
  have hbt : (a.bump ⟨0x4101, 3, 32⟩).tills = a.tills := rfl
  have hbo : (a.bump ⟨0x4101, 3, 32⟩).out = s.out := hao
  have hba : (a.bump ⟨0x4101, 3, 32⟩).agents = s.agents := haa
  have hbi : (a.bump ⟨0x4101, 3, 32⟩).journal = s.journal := hai
  have hbtm : (a.bump ⟨0x4101, 3, 32⟩).time = s.time := hatm
  generalize a.bump ⟨0x4101, 3, 32⟩ = b at *
  have hn := logs_note b .claimExpired (.till t) (claimArgs c) none
  have hrep := reports_note (s := s) (u := b) (by rw [hbi]) (by rw [hbtm]) .claimExpired (.till t) (claimArgs c) none
  generalize b.note .claimExpired (.till t) (claimArgs c) none = d at *
  have hdt : d.tills = a.tills := hn.tills.trans hbt
  have hdr : Rests d t := har.of_tills hdt
  rw [startRelease_none (by rw [till_congr hdt, hat]; exact hs)] at hx
  have her : Rests (d.modTill t (fun u => { u with releases := u.releases ++ [c.rewrite] })) t :=
    hdr.aside (fun _ => rfl) (fun _ => rfl) (fun _ => rfl)
  rw [her.worked] at hx
  have htill : ((d.modTill t (fun u => { u with releases := u.releases ++ [c.rewrite] })).modTill t (fun u =>
      { u with idleTicks := 0 })).till t = { s.till t with
        claims := KV.mod (s.till t).claims i (fun _ => c.ended s.time.tick)
        releases := (s.till t).releases ++ [c.rewrite], idleTicks := 0 } := by
    rw [till_modTill _ _ her.lt, till_modTill _ _ hdr.lt, till_congr hdt, hat]
  refine .of hx ⟨?_, ?_, hrep, ?_, hn.out.trans hbo, hn.agents.trans hba⟩
  · rw [htill]
    have hm := KV.find_mod i (fun _ => c.ended s.time.tick) (s.till t).claims
    rw [hcl] at hm
    exact hm
  · rw [htill]
    rfl
  · show d.rawN 0x4101 3 = _
    rw [hn.rawN hbwf (apart (by decide)), hcount, hach]

theorem completes_expiredHold (hinv : s.Inv) (hc : s.calm t) {i : Nat} {c : Claim}
    (hcl : KV.find? (s.till t).claims i = some c) (hst : c.state = .expired) (hd : c.expiredTick + s.rawN 0x4101 1 ≤ s.time.tick) :
    Completes (.expiredHold t i) s (fun u => (u.till t).claims = KV.del (s.till t).claims i ∧ Reports s u 0x20E
      ∧ u.out = s.out ∧ u.agents = s.agents) := by
  have hx := exec_expiredHold hc hcl
  have hr := rests_of_calm hinv hc
  rw [if_pos (by rw [hst, due_eq_true hd]; rfl)] at hx
  unfold deleteRecord at hx
  have hat : (s.modTill t (fun u => { u with claims := KV.del u.claims i })).till t = { s.till t with
      claims := KV.del (s.till t).claims i } := till_modTill s _ hr.lt
  have har : Rests (s.modTill t (fun u => { u with claims := KV.del u.claims i })) t :=
    hr.aside (fun _ => rfl) (fun _ => rfl) (fun _ => rfl)
  have hao : (s.modTill t (fun u => { u with claims := KV.del u.claims i })).out = s.out := rfl
  have haa : (s.modTill t (fun u => { u with claims := KV.del u.claims i })).agents = s.agents := rfl
  have hai : (s.modTill t (fun u => { u with claims := KV.del u.claims i })).journal = s.journal := rfl
  have hatm : (s.modTill t (fun u => { u with claims := KV.del u.claims i })).time = s.time := rfl
  generalize s.modTill t (fun u => { u with claims := KV.del u.claims i }) = a at *
  have hn := logs_note a .claimRecordDeleted (.till t) [c.page] none
  have hrep := reports_note (s := s) (u := a) (by rw [hai]) (by rw [hatm]) .claimRecordDeleted (.till t) [c.page] none
  generalize a.note .claimRecordDeleted (.till t) [c.page] none = d at *
  have hdr : Rests d t := har.of_tills hn.tills
  rw [hdr.worked] at hx
  refine .of hx ⟨?_, hrep, hn.out.trans hao, hn.agents.trans haa⟩
  rw [till_modTill _ _ hdr.lt]
  show (d.till t).claims = _
  rw [hn.till, hat]

/-! ## The rewrite of a page completes (R254) -/

/-- The parts of a Till that a rewrite of a sector's entry leaves alone. -/
def Till.besideEntries (u : Till) : Till := { u with vault := [], parity := [], secOps := [], resident := [] }

theorem besideEntries_parts {u v : Till} (h : u.besideEntries = v.besideEntries) : u.ni = v.ni ∧ u.folios = v.folios
    ∧ u.failDue = v.failDue ∧ u.releases = v.releases ∧ u.claims = v.claims ∧ u.monitors = v.monitors := by
  have h1 := congrArg Till.ni h
  have h2 := congrArg Till.folios h
  have h3 := congrArg Till.failDue h
  have h4 := congrArg Till.releases h
  have h5 := congrArg Till.claims h
  have h6 := congrArg Till.monitors h
  exact ⟨h1, h2, h3, h4, h5, h6⟩

theorem besideEntries_putAt (u : Till) (sec : Nat) (l : Loc) (e : Ent) : (u.putAt sec l e).besideEntries = u.besideEntries := by
  cases l with
  | way w =>
    show (u.vwrite _ _).besideEntries = _
    unfold Till.vwrite
    split
    · rfl
    · rfl
  | op k => rfl
  | resident => rfl

/-- Entries of a page without the claimants that leave. -/
def State.unclaimed (s : State) (t page : Nat) (aids : List Aid) : State :=
  (List.range 16).foldl (fun s b =>
    s.modTill t (fun u => match u.find (page * 16 + b) with
      | some (l, e) => if e.claimed then u.putAt (page * 16 + b) l (releaseEnt aids e) else u
      | none => u)) s

theorem unclaimed_does (s : State) (t page : Nat) (aids : List Aid) :
    (s.unclaimed t page aids).tills.map Till.besideEntries = s.tills.map Till.besideEntries
      ∧ s.unclaimed t page aids = { s with tills := (s.unclaimed t page aids).tills } := by
  have hstep : ∀ (s : State) (b : Nat), (s.modTill t (fun u => match u.find (page * 16 + b) with
      | some (l, e) => if e.claimed then u.putAt (page * 16 + b) l (releaseEnt aids e) else u
      | none => u)).tills.map Till.besideEntries = s.tills.map Till.besideEntries := by
    intro s b
    refine map_modify_same (fun u => ?_) _ _
    split
    · split
      · exact besideEntries_putAt _ _ _ _
      · rfl
    · rfl
  have hrest : ∀ (l : List Nat) (s : State), l.foldl (fun s b => s.modTill t (fun u => match u.find (page * 16 + b) with
      | some (l, e) => if e.claimed then u.putAt (page * 16 + b) l (releaseEnt aids e) else u
      | none => u)) s = { s with tills := (l.foldl (fun s b => s.modTill t (fun u => match u.find (page * 16 + b) with
      | some (l, e) => if e.claimed then u.putAt (page * 16 + b) l (releaseEnt aids e) else u
      | none => u)) s).tills } := by
    intro l
    induction l with
    | nil => exact fun _ => rfl
    | cons b l ih => exact fun s => ih _
  exact ⟨foldl_proj (fun s => s.tills.map Till.besideEntries) hstep _ s, hrest _ s⟩

theorem Rests.of_besideEntries {a b : State} (h : Rests a t) (e : b.tills.map Till.besideEntries = a.tills.map Till.besideEntries) :
    Rests b t := by
  obtain ⟨hni, hfo, -⟩ := besideEntries_parts (till_of_map e t)
  refine ⟨?_, ?_, ?_, fun u hu => ?_⟩
  · rw [← List.length_map (f := Till.besideEntries), e, List.length_map]
    exact h.lt
  · exact hni.trans h.ni
  · rw [hfo]
    exact h.releases
  · have hm : u.besideEntries ∈ a.tills.map Till.besideEntries := by
      rw [← e]
      exact List.mem_map_of_mem hu
    obtain ⟨v, hv, hve⟩ := List.mem_map.mp hm
    exact (besideEntries_parts hve).2.2.1.symm.trans (h.fails v hv)

theorem modTill_self (s : State) (t : Nat) : s.modTill t (fun u => u) = s := by
  unfold State.modTill
  rw [show (fun u : Till => u) = id from rfl, List.modify_id]

theorem clearMons_does (s : State) (t : Nat) (p : Monitor → Bool) :
    clearMons s t p false = s.modTill t (fun u => { u with monitors := u.monitors.filter (fun m => !p m.2) }) := by
  unfold clearMons
  dsimp only
  split
  · next h =>
    have hnil : (s.till t).monitors.filter (fun m => p m.2) = [] := by simpa using h
    have hall : (s.till t).monitors.filter (fun m => !p m.2) = (s.till t).monitors :=
      List.filter_eq_self.mpr (fun m hm => by simpa using List.filter_eq_nil_iff.mp hnil m hm)
    refine ((modTill_congr ?_).trans (modTill_self s t)).symm
    rw [hall]
  · exact if_neg Bool.false_ne_true

/-- A head that repeats its lookup (R114). -/
def Folio.again (x : Folio) : Folio :=
  { x with phase := .lookup, blockedTick := none, looked := false, waits := false, consulted := false }

/-- Heads of a list repeat their lookups. -/
def State.repeats (s : State) (t : Nat) (l : List (Nat × Folio)) : State :=
  l.foldl (fun s p => (s.bumpMax ⟨0x4101, 6, 32⟩ (s.time.tick - p.2.blockedTick.getD s.time.tick)).modFolio t p.1 Folio.again) s

theorem repeats_does (l : List (Nat × Folio)) : ∀ {s : State}, Rests s t → Rests (s.repeats t l) t
    ∧ (∀ f x, s.folio? t f = some x → (s.repeats t l).folio? t f = some (if f ∈ l.map (·.1) then x.again else x))
    ∧ ((s.repeats t l).till t).releases = (s.till t).releases ∧ ((s.repeats t l).till t).claims = (s.till t).claims
    ∧ ((s.repeats t l).till t).monitors = (s.till t).monitors
    ∧ (s.repeats t l).agents = s.agents ∧ (s.repeats t l).out = s.out := by
  induction l with
  | nil => exact fun hr => ⟨hr, fun _ _ h => by simpa [State.repeats] using h, rfl, rfl, rfl, rfl, rfl⟩
  | cons p l ih =>
    intro s hr
    obtain ⟨c, hc⟩ := bumpMax_eq s ⟨0x4101, 6, 32⟩ (s.time.tick - p.2.blockedTick.getD s.time.tick)
    obtain ⟨a, ha⟩ : ∃ a : State, a = (s.bumpMax ⟨0x4101, 6, 32⟩
      (s.time.tick - p.2.blockedTick.getD s.time.tick)).modFolio t p.1 Folio.again := ⟨_, rfl⟩
    have hbt : (s.bumpMax ⟨0x4101, 6, 32⟩ (s.time.tick - p.2.blockedTick.getD s.time.tick)).tills = s.tills := by rw [hc]
    have hbr : Rests (s.bumpMax ⟨0x4101, 6, 32⟩ (s.time.tick - p.2.blockedTick.getD s.time.tick)) t := hr.of_tills hbt
    have har : Rests a t := by
      rw [ha]
      exact hbr.modFolio _ (fun _ => rfl)
    have hat : a.till t = { s.till t with folios := KV.mod (s.till t).folios p.1 Folio.again } := by
      rw [ha]
      unfold State.modFolio
      rw [till_modTill _ _ hbr.lt, till_congr hbt]
    have hself : a.folio? t p.1 = (s.folio? t p.1).map Folio.again := by
      rw [ha, folio_modFolio hbr.lt, folio_of_tills hbt]
    have hother : ∀ f, f ≠ p.1 → a.folio? t f = s.folio? t f := fun f hf => by
      rw [ha, folio_modFolio_ne hbr.lt hf, folio_of_tills hbt]
    have haa : a.agents = s.agents := by
      rw [ha, hc]
      rfl
    have hao : a.out = s.out := by
      rw [ha, hc]
      rfl
    have he : s.repeats t (p :: l) = a.repeats t l := by
      rw [ha]
      rfl
    obtain ⟨h1, h2, h3, h4, h5, h6, h7⟩ := ih har
    rw [he]
    refine ⟨h1, fun f x hx => ?_, by rw [h3, hat], by rw [h4, hat], by rw [h5, hat], h6.trans haa, h7.trans hao⟩
    by_cases hf : f = p.1
    · subst hf
      have hmem : p.1 ∈ (p :: l).map (·.1) := List.mem_cons_self
      rw [if_pos hmem, h2 p.1 x.again (by rw [hself, hx]; rfl)]
      split <;> rfl
    · have hmem : f ∈ (p :: l).map (·.1) ↔ f ∈ l.map (·.1) := by simp [hf]
      rw [h2 f x (by rw [hother f hf, hx])]
      by_cases hm : f ∈ l.map (·.1)
      · rw [if_pos hm, if_pos (hmem.mpr hm)]
      · rw [if_neg hm, if_neg (fun h => hm (hmem.mp h))]

/-- The heads in BLOCKED on a page repeat their lookups. -/
theorem unblock_does (hr : Rests s t) (page : Nat) : Rests (unblock s t page) t
    ∧ (∀ f x, s.folio? t f = some x → x.phase = .blocked → pageOf x.laddr = page → (unblock s t page).folio? t f = some x.again)
    ∧ ((unblock s t page).till t).releases = (s.till t).releases ∧ ((unblock s t page).till t).claims = (s.till t).claims
    ∧ ((unblock s t page).till t).monitors = (s.till t).monitors
    ∧ (unblock s t page).agents = s.agents ∧ (unblock s t page).out = s.out := by
  obtain ⟨l, hl⟩ : ∃ l, l = (s.till t).folios.filter (fun p => p.2.phase == .blocked && pageOf p.2.laddr == page) := ⟨_, rfl⟩
  have hu : unblock s t page = s.repeats t l := by
    rw [hl]
    rfl
  obtain ⟨h1, h2, h3⟩ := repeats_does l hr
  rw [hu]
  refine ⟨h1, fun f x hx hb hp => ?_, h3⟩
  have hmem : f ∈ l.map (·.1) := by
    rw [hl]
    exact List.mem_map.mpr ⟨(f, x), List.mem_filter.mpr ⟨KV.mem_of_find hx, by simp [hb, hp]⟩, rfl⟩
  rw [h2 f x hx, if_pos hmem]

/-- A rewrite of a page is done: the entry frees. -/
def State.rewritten (s : State) (t : Nat) (r : Rel) : State :=
  s.modTill t (fun u => { u with
    releases := dropFirst (fun q => q == r) u.releases
    claims := match r.entry with | some i => KV.del u.claims i | none => u.claims })

/-- The monitors of claimants on a page are gone. -/
def State.unmonitored (s : State) (t page : Nat) (aids : List Aid) : State :=
  s.modTill t (fun u => { u with monitors := u.monitors.filter (fun m => !(pageOf m.2.laddr == page && aids.contains m.2.aid)) })

theorem rewritten_rest (s : State) (t : Nat) (r : Rel) : (s.rewritten t r).agents = s.agents ∧ (s.rewritten t r).out = s.out :=
  ⟨rfl, rfl⟩

theorem unmonitored_rest (s : State) (t page : Nat) (aids : List Aid) :
    (s.unmonitored t page aids).agents = s.agents ∧ (s.unmonitored t page aids).out = s.out := ⟨rfl, rfl⟩

theorem releaseDone_eq {page : Nat} {r : Rel} (hr : (s.till t).releases.find? (fun r => r.page == page) = some r)
    (hfo : r.folio = none) (hg : ∀ g ∈ (s.till t).groups, ∀ sec, g.kind ≠ .unclaim sec) :
    releaseDone s t page = unblock (((s.unclaimed t page r.aids).rewritten t r).unmonitored t page r.aids) t page := by
  have hmon := clearMons_does ((s.unclaimed t page r.aids).rewritten t r) t
    (fun m => pageOf m.laddr == page && r.aids.contains m.aid)
  unfold State.unmonitored
  rw [← hmon]
  unfold releaseDone
  rw [hr]
  dsimp only
  rw [if_neg ?_, hfo]
  · rfl
  · rw [Bool.not_eq_true, List.any_eq_false]
    intro g hgm
    split
    · next sec hk => exact absurd hk (hg g hgm sec)
    · exact Bool.false_ne_true

theorem completes_claimReleaseDone (hinv : s.Inv) (hc : s.calm t) {page : BitVec 32} {r : Rel}
    (hr : (s.till t).releases.find? (fun r => r.page == page.toNat) = some r) (hfo : r.folio = none)
    (hg : ∀ g ∈ (s.till t).groups, ∀ sec, g.kind ≠ .unclaim sec) :
    Completes (.claimReleaseDone t page) s (fun u =>
      (u.till t).releases = dropFirst (fun q => q == r) (s.till t).releases
        ∧ (u.till t).claims = (match r.entry with | some k => KV.del (s.till t).claims k | none => (s.till t).claims)
        ∧ (u.till t).monitors = (s.till t).monitors.filter
            (fun m => !(pageOf m.2.laddr == page.toNat && r.aids.contains m.2.aid))
        ∧ (∀ f x, s.folio? t f = some x → x.phase = .blocked → pageOf x.laddr = page.toNat → u.folio? t f = some x.again)
        ∧ u.agents = s.agents ∧ u.out = s.out) := by
  have hrest := rests_of_calm hinv hc
  have he : exec (.claimReleaseDone t page) s = .next (worked (releaseDone s t page.toNat) t) := by
    show execClaimReleaseDone t page s = _
    unfold execClaimReleaseDone
    rw [if_neg (by simp [hasTill_of_alive hc.1]), if_pos hc.1]
  obtain ⟨hb, hbe⟩ := unclaimed_does s t page.toNat r.aids
  rw [releaseDone_eq hr hfo hg] at he
  have hbr : Rests (s.unclaimed t page.toNat r.aids) t := hrest.of_besideEntries hb
  obtain ⟨-, hbf, -, hbrel, hbcl, hbm⟩ := besideEntries_parts (till_of_map hb t)
  have hba : (s.unclaimed t page.toNat r.aids).agents = s.agents := by rw [hbe]
  have hbo : (s.unclaimed t page.toNat r.aids).out = s.out := by rw [hbe]
  generalize s.unclaimed t page.toNat r.aids = b at *
  obtain ⟨d, hd⟩ : ∃ d : State, d = (b.rewritten t r).unmonitored t page.toNat r.aids := ⟨_, rfl⟩
  have hcr : Rests (b.rewritten t r) t := hbr.aside (fun _ => rfl) (fun _ => rfl) (fun _ => rfl)
  have hdr : Rests d t := by
    rw [hd]
    exact hcr.aside (fun _ => rfl) (fun _ => rfl) (fun _ => rfl)
  have hct : (b.rewritten t r).till t = { b.till t with
      releases := dropFirst (fun q => q == r) (b.till t).releases
      claims := match r.entry with | some i => KV.del (b.till t).claims i | none => (b.till t).claims } := till_modTill _ _ hbr.lt
  have hdt : d.till t = { (b.rewritten t r).till t with monitors := ((b.rewritten t r).till t).monitors.filter (fun m =>
      !(pageOf m.2.laddr == page.toNat && r.aids.contains m.2.aid)) } := by
    rw [hd]
    exact till_modTill _ _ hcr.lt
  rw [hct] at hdt
  have hda : d.agents = s.agents := by rw [hd, (unmonitored_rest ..).1, (rewritten_rest ..).1, hba]
  have hdo : d.out = s.out := by rw [hd, (unmonitored_rest ..).2, (rewritten_rest ..).2, hbo]
  rw [← hd] at he
  obtain ⟨h1, h2, h3, h4, h5, h6, h7⟩ := unblock_does hdr page.toNat
  have hdf : (d.till t).folios = (s.till t).folios := by
    rw [hdt]
    exact hbf
  generalize unblock d t page.toNat = e at *
  rw [h1.worked] at he
  have het : (e.modTill t (fun u => { u with idleTicks := 0 })).till t = { e.till t with idleTicks := 0 } := till_modTill _ _ h1.lt
  refine .of he ⟨?_, ?_, ?_, fun f x hx hbl hpg => ?_, h6.trans hda, h7.trans hdo⟩
  · rw [het]
    exact h3.trans (by rw [hdt, hbrel])
  · rw [het]
    refine h4.trans ?_
    rw [hdt, hbcl]
  · rw [het]
    exact h5.trans (by rw [hdt, hbm])
  · have hxd : d.folio? t f = some x := by
      unfold State.folio? at hx ⊢
      rw [hdf]
      exact hx
    rw [folio_idle h1.lt, h2 f x hxd hbl hpg]

theorem claimReleaseDone_none (hinv : s.Inv) (hc : s.calm t) {page : BitVec 32}
    (h : ∀ r ∈ (s.till t).releases, r.page ≠ page.toNat) :
    exec (.claimReleaseDone t page) s = .next (s.modTill t (fun u => { u with idleTicks := 0 })) := by
  show execClaimReleaseDone t page s = _
  unfold execClaimReleaseDone
  rw [if_neg (by simp [hasTill_of_alive hc.1]), if_pos hc.1]
  have hn : (s.till t).releases.find? (fun r => r.page == page.toNat) = none :=
    List.find?_eq_none.mpr (fun r hr => by simpa using h r hr)
  unfold releaseDone
  rw [hn]
  dsimp only
  rw [(rests_of_calm hinv hc).worked]

end

/-! ## A posted entry drains (R265) -/

section
variable {s : State}

theorem exec_postDrain {k : Nat} {p : Post} (h : KV.find? s.ws.post k = some p) :
    exec (.postDrainDelay k) s = .next (if p.cclk + s.rawN 0x4300 0 ≤ s.time.cclk then drainPost s k else s) := by
  show execPostDrainDelay k s = _
  unfold execPostDrainDelay
  rw [h]

theorem drainPost_draining {k : Nat} {p : Post} (h : KV.find? s.ws.post k = some p) (hd : p.draining = true) :
    drainPost s k = s := by
  unfold drainPost
  rw [h]
  exact if_pos hd

/-- The write that drains a posted entry. -/
def Post.opc (p : Post) : Opc := if p.mask = BitVec.allOnes 64 then .ncwFull else .ncwPtl

theorem Post.dataOf_opc (p : Post) (q : Req) (hq : q.data = p.data ∧ q.be = p.mask ∧ q.poison = p.poison) :
    dataOf p.opc q = some ⟨p.data, p.mask, p.poison⟩ := by
  obtain ⟨h1, h2, h3⟩ := hq
  unfold Post.opc dataOf
  by_cases h : p.mask = BitVec.allOnes 64
  · rw [if_pos h, h1, h3, h]
    rfl
  · rw [if_neg h, h1, h2, h3]
    rfl

theorem pushAdm_does {w : Nat} (hw : w < s.wickets.length) (e : Adm) :
    ((pushAdm s w e).wicket w).entries = (s.wicket w).entries ++ [{ e with seq := (s.wicket w).seq }]
      ∧ (pushAdm s w e).ws = s.ws ∧ (pushAdm s w e).tills = s.tills ∧ (pushAdm s w e).agents = s.agents
      ∧ (pushAdm s w e).out = s.out := by
  obtain ⟨a, ha⟩ : ∃ a : State, a = (appendAdm s w e).modWicket w (fun x => { x with
    wbs := if e.opc.isWb then x.wbs ++ [⟨e.aid, e.tag, e.laddr⟩] else x.wbs }) := ⟨_, rfl⟩
  have hg := logs_gev a 0x102 w
  have haw : (a.wicket w).entries = (s.wicket w).entries ++ [{ e with seq := (s.wicket w).seq }] := by
    rw [ha, wicket_modWicket _ _ (by unfold appendAdm; rw [wickets_length_modWicket]; exact hw)]
    unfold appendAdm
    rw [wicket_modWicket _ _ hw]
  have he : pushAdm s w e = a.gev 0x102 w := by rw [ha]; rfl
  rw [he, hg.wicket, hg.ws, hg.tills, hg.agents, hg.out]
  refine ⟨haw, ?_, ?_, ?_, ?_⟩ <;> rw [ha] <;> rfl

/-- The request that a posted entry drains as. -/
def State.reqOf (s : State) (p : Post) : Req where
  aid := p.aid
  inc := (s.agent p.aid.toNat).inc
  tag := 0
  laddr := p.laddr
  data := p.data
  be := p.mask
  poison := p.poison

theorem completes_postDrain (hinv : s.Inv) {k : Nat} {p : Post} (h : KV.find? s.ws.post k = some p) (hd : p.draining = false)
    (hdue : p.cclk + s.rawN 0x4300 0 ≤ s.time.cclk) :
    Completes (.postDrainDelay k) s (fun t => KV.find? t.ws.post k = some { p with draining := true }
      ∧ (∃ e, (t.wicket Build.ws).entries = (s.wicket Build.ws).entries ++ [e]
          ∧ e.opc = p.opc ∧ e.aid = p.aid ∧ e.laddr = p.laddr
          ∧ e.wdata = some ⟨p.data, p.mask, p.poison⟩ ∧ e.origin = .post k ∧ e.epoch = p.epoch ∧ e.rcpt = none
          ∧ e.till = s.routeTill Build.ws e.opc p.aid p.laddr)
      ∧ t.tills = s.tills ∧ t.agents = s.agents ∧ t.out = s.out) := by
  have he := exec_postDrain h
  rw [if_pos hdue] at he
  obtain ⟨q, hq⟩ : ∃ q : Req, q = s.reqOf p := ⟨_, rfl⟩
  obtain ⟨a, ha⟩ : ∃ a : State, a = { s with ws := { s.ws with post := KV.put s.ws.post k { p with draining := true } } } := ⟨_, rfl⟩
  have hopc : (if (p.mask == BitVec.allOnes 64) = true then Opc.ncwFull else Opc.ncwPtl) = p.opc := by
    unfold Post.opc
    by_cases hm : p.mask = BitVec.allOnes 64
    · rw [if_pos hm, if_pos (by simpa using hm)]
    · rw [if_neg hm, if_neg (by simpa using hm)]
  have hdr : drainPost s k = pushAdm a Build.ws { admOf a Build.ws p.opc q false (.post k) none with epoch := p.epoch } := by
    unfold drainPost
    rw [h]
    dsimp only
    rw [if_neg (by simp [hd]), hopc, ← ha, hq]
    rfl
  have hlt : Build.ws < a.wickets.length := by
    rw [ha]
    show Build.ws < s.wickets.length
    rw [hinv.2.1]
    decide
  obtain ⟨h1, h2, h3, h4, h5⟩ := pushAdm_does hlt { admOf a Build.ws p.opc q false (.post k) none with epoch := p.epoch }
  rw [hdr] at he
  have hroute : a.routeTill Build.ws p.opc p.aid p.laddr = s.routeTill Build.ws p.opc p.aid p.laddr := by
    rw [ha]
    rfl
  have haw : a.wicket Build.ws = s.wicket Build.ws := by
    rw [ha]
    rfl
  refine .of he ⟨?_, ⟨_, by rw [h1, haw], rfl, ?_, ?_, ?_, rfl, rfl, rfl, ?_⟩, ?_, ?_, ?_⟩
  · rw [h2, ha]
    exact KV.find_put ..
  · exact congrArg Req.aid hq
  · exact congrArg Req.laddr hq
  · exact p.dataOf_opc q ⟨congrArg Req.data hq, congrArg Req.be hq, congrArg Req.poison hq⟩
  · rw [hq]
    exact hroute
  · rw [h3, ha]
  · rw [h4, ha]
  · rw [h5, ha]

end

/-- Settles O52: leases, records, rewrites and posted entries end when they are due. -/
theorem leasesAndPostedEntriesEnd : Obligations.LeasesAndPostedEntriesEnd := by
  unfold Obligations.LeasesAndPostedEntriesEnd
  refine ⟨fun s t i hinv ht hc => ⟨fun c hcl => ⟨fun k he hk hst hj hne hg hs => ?_, fun he => ?_, fun hst hd => ?_, fun h => ?_⟩,
    fun page r hr hfo hg _ => completes_claimReleaseDone hinv hc hr hfo hg, fun page h => claimReleaseDone_none hinv hc h⟩,
    fun s k p hinv h => ⟨fun hd hdue => completes_postDrain hinv h hd hdue, fun h' => ?_⟩⟩
  · exact completes_leaseExpiry hinv hc hcl he hk hst hj hne hg hs
  · rw [exec_leaseExpiry hc hcl, if_neg]
    cases hk : c.expiry with
    | none => exact Bool.false_ne_true
    | some k =>
      have := he k hk
      simpa using this
  · exact completes_expiredHold hinv hc hcl hst hd
  · rw [exec_expiredHold hc hcl, if_neg]
    rcases h with h | h
    · simp [h]
    · rw [due_eq_false h]
      simp
  · rw [exec_postDrain h]
    rcases h' with h' | h'
    · rw [drainPost_draining h h']
      split <;> rfl
    · rw [if_neg (by omega)]

end Sys2Proof.Machine
end

section
/-! PROOFS. The life of a Folio: acceptance, lookup and retirement (R112, R114, R115, R121, R133, R182). -/

namespace Sys2Proof.Machine

theorem KV.find_put_other {α : Type} {k j : Nat} (h : j ≠ k) (v : α) : ∀ m : KV α, KV.find? (KV.put m k v) j = KV.find? m j
  | [] => by
    simp only [KV.put, KV.find?, if_neg (Ne.symm h)]
    split <;> rfl
  | (i, w) :: m => by
    unfold KV.put
    split
    · next hi => simp only [KV.find?, hi, if_neg (Ne.symm h)]
    · next hi =>
      split
      · next hk =>
        simp only [KV.find?, if_neg (Ne.symm h)]
        split
        · next hjk => rw [if_neg (by omega), if_pos (by omega)]
        · rfl
      · simp only [KV.find?, KV.find_put_other h v m]

theorem KV.find_map {α : Type} (g : α → α) (k : Nat) : ∀ m : KV α,
    KV.find? (m.map (fun p => (p.1, g p.2))) k = (KV.find? m k).map g
  | [] => rfl
  | (i, w) :: m => by
    simp only [List.map_cons, KV.find?]
    split
    · rfl
    · split
      · rfl
      · exact KV.find_map g k m

/-! ## What the issue of accesses leaves alone (R143, R520) -/

/-- A Folio but for its read and its writes to memory. -/
def Folio.idle (x : Folio) : Folio := { x with spec := .none, specRead := false, read := none, writes := [] }

/-- A Till but for its accesses to memory. -/
def Till.idle (u : Till) : Till :=
  { u with folios := u.folios.map (fun p => (p.1, p.2.idle)), memCred := [], memQ := [] }

/-- Nothing differs at the Tills but accesses to memory. -/
def Issues (a b : State) : Prop := b.tills.map Till.idle = a.tills.map Till.idle

theorem Issues.refl (a : State) : Issues a a := rfl
theorem Issues.trans {a b c : State} (h : Issues a b) (g : Issues b c) : Issues a c := Eq.trans g h
theorem Issues.of_eq {a b : State} (h : b.tills = a.tills) : Issues a b := congrArg _ h

theorem issues_modTill (s : State) (t : Nat) {f : Till → Till} (hf : ∀ u, (f u).idle = u.idle) : Issues s (s.modTill t f) :=
  map_modify_same hf _ _

theorem issues_modFolio (s : State) (t f : Nat) {g : Folio → Folio} (hg : ∀ x, (g x).idle = x.idle) :
    Issues s (s.modFolio t f g) := by
  refine issues_modTill s t (fun u => ?_)
  have h : (KV.mod u.folios f g).map (fun p => (p.1, p.2.idle)) = u.folios.map (fun p => (p.1, p.2.idle)) := by
    unfold KV.mod
    rw [List.map_map]
    refine List.map_congr_left (fun p _ => ?_)
    show ((if p.1 = f then (f, g p.2) else p).1, (if p.1 = f then (f, g p.2) else p).2.idle) = (p.1, p.2.idle)
    split
    · next hp => rw [hg, hp]
    · rfl
  show ({ u with folios := KV.mod u.folios f g } : Till).idle = u.idle
  unfold Till.idle
  rw [h]

theorem issues_issueAcc (s : State) (t : Nat) (a : MemAcc) : Issues s (issueAcc s t a) := by
  unfold issueAcc
  extract_lets s0 s0' s1 s2
  have h0 : s0'.tills = s.tills := by
    have e0 : s0.tills = s.tills := (logs_packet s (.till t) (.port a.port) (c := 0) (by decide) 1).tills
    show (ite _ _ _ : State).tills = _
    split
    · exact (logs_packet s0 (.till t) (.port a.port) (c := 4) (by decide) 1).tills.trans e0
    · exact e0
  have h1 : Issues s s1 := .of_eq ((tills_send s0' _).trans h0)
  have h2 : Issues s1 s2 := by
    show Issues s1 (ite _ _ _)
    split
    · refine .trans (.of_eq ?_) (issues_modFolio _ t _ (fun _ => rfl))
      split
      · exact (logs_gev s1 0x108 a.port).tills
      · rfl
    · split
      · exact issues_modFolio s1 t _ (fun _ => rfl)
      · exact .refl s1
  exact (h1.trans h2).trans (issues_modTill s2 t (fun _ => rfl))

theorem Issues.foldl_fst {α β : Type} {f : State × β → α → State × β} (hf : ∀ x y, Issues x.1 (f x y).1) :
    ∀ (l : List α) (x : State × β), Issues x.1 (l.foldl f x).1
  | [], x => .refl x.1
  | y :: l, x => (hf x y).trans (Issues.foldl_fst hf l (f x y))

theorem issues_drainMem (s : State) (t : Nat) : Issues s (drainMem s t) := by
  unfold drainMem
  extract_lets go r
  have hr : Issues s r.1 := by
    refine Issues.foldl_fst (fun x a => ?_) _ (s, [], [])
    dsimp only [go]
    split
    · exact .refl _
    · exact issues_issueAcc _ _ _
  exact hr.trans (issues_modTill r.1 t (fun _ => rfl))

theorem issues_pushAcc (s : State) (t : Nat) (a : MemAcc) : Issues s (pushAcc s t a) :=
  (issues_modTill s t (f := fun u => { u with memQ := u.memQ ++ [a] }) (fun _ => rfl)).trans (issues_drainMem _ t)

theorem issues_readLine (s : State) {t : Nat} (ht : t < 32) (f : Nat) (l : Line) (spec : Bool) : Issues s (readLine s t f l spec) := by
  unfold readLine
  extract_lets s1 s2
  have h1 : Issues s s1 := issues_modFolio s t f (fun _ => rfl)
  have h2 : Issues s1 s2 := by
    show Issues s1 (ite _ _ _)
    split
    · exact .of_eq (logs_tev s1 ht 0x00F 0xFF).tills
    · exact .refl s1
  exact (h1.trans h2).trans (issues_pushAcc s2 t _)

theorem idle_parts {u v : Till} (h : u.idle = v.idle) : u.ni = v.ni ∧ u.failDue = v.failDue ∧ u.chains = v.chains
    ∧ u.folios.map (fun p => (p.1, p.2.idle)) = v.folios.map (fun p => (p.1, p.2.idle)) := by
  have h1 := congrArg Till.ni h
  have h2 := congrArg Till.failDue h
  have h3 := congrArg Till.chains h
  have h4 := congrArg Till.folios h
  exact ⟨h1, h2, h3, h4⟩

theorem Issues.rests {a b : State} {t : Nat} (h : Issues a b) (hr : Rests a t) : Rests b t := by
  obtain ⟨hni, -, -, hfo⟩ := idle_parts (till_of_map h t)
  refine ⟨?_, hni.trans hr.ni, fun p hp => ?_, fun u hu => ?_⟩
  · rw [← List.length_map (f := Till.idle), show b.tills.map Till.idle = _ from h, List.length_map]
    exact hr.lt
  · have hm : (p.1, p.2.idle) ∈ (a.till t).folios.map (fun p => (p.1, p.2.idle)) := by
      rw [← hfo]
      exact List.mem_map.mpr ⟨p, hp, rfl⟩
    obtain ⟨q, hq, he⟩ := List.mem_map.mp hm
    have ho := congrArg (fun z : Nat × Folio => z.2.opc) he
    exact fun h => hr.releases q hq (ho.trans h)
  · have hm : u.idle ∈ a.tills.map Till.idle := by
      rw [← show b.tills.map Till.idle = _ from h]
      exact List.mem_map_of_mem hu
    obtain ⟨v, hv, hve⟩ := List.mem_map.mp hm
    exact (idle_parts hve).2.1.symm.trans (hr.fails v hv)

theorem Issues.folio {a b : State} (h : Issues a b) (t f : Nat) :
    (b.folio? t f).map Folio.idle = (a.folio? t f).map Folio.idle := by
  obtain ⟨-, -, -, hfo⟩ := idle_parts (till_of_map h t)
  unfold State.folio?
  rw [← KV.find_map, ← KV.find_map, hfo]

theorem Issues.chains {a b : State} (h : Issues a b) (t : Nat) : (b.till t).chains = (a.till t).chains :=
  (idle_parts (till_of_map h t)).2.2.1

section
variable {s : State} {t f : Nat}

/-! ## Acceptance (R112, R115, R121) -/

/-- A Q flit taken off its plane. -/
def State.popQ (s : State) (t w : Nat) : State :=
  { s with net := { s.net with q := dropFirst (fun p => p.till == t && p.w == w) s.net.q } }

/-- A Till with the Folio of an accepted flit. -/
def State.entered (s : State) (t f : Nat) (q : QFlit) : State := (s.setFolio t f (folioOf s q)).tev t 0x001

/-- The requests that go into the chain of their line whatever else is outstanding. -/
def Opc.chains (o : Opc) : Prop := o = .rdS ∨ o = .rdX ∨ o = .rdAny ∨ o = .own

theorem place_chain {x : Folio} (h : x.opc.chains) : place' s t f x = chainIn s t f x := by
  unfold place'
  rcases h with h | h | h | h
  · simp only [h]
  · simp only [h]
  · simp only [h]
  · simp only [h]

theorem Opc.chains_kinds {o : Opc} (h : o.chains) : o.isWb = false ∧ o ≠ .release := by
  rcases h with rfl | rfl | rfl | rfl
  · exact ⟨rfl, by decide⟩
  · exact ⟨rfl, by decide⟩
  · exact ⟨rfl, by decide⟩
  · exact ⟨rfl, by decide⟩

/-- What lets a Till's ingress accept a flit of Wicket `w` into Folio `f` at once. -/
structure Admits (s : State) (t w f : Nat) (q : QFlit) : Prop where
  inv : s.Inv
  calm : s.calm t
  transfers : s.transfers = []
  gated : (s.till t).gated = []
  wicket : s.build.hasWicket w = true
  front : s.net.q.find? (fun q => q.till == t && q.w == w) = some q
  fresh : q.crd ≠ .receipt
  alive : (s.agent q.aid.toNat).deadMark = false
  inc : (s.agent q.aid.toNat).inc = q.inc
  home : s.liveTill (bucketOfLine q.laddr) = t
  free : s.freeFolio t = some f
  opc : q.opc.chains

theorem accept_enters {w : Nat} {q : QFlit} (h : Admits s t w f q) :
    accept (s.popQ t w) q = chainIn ((s.popQ t w).entered t f q) t f (folioOf (s.popQ t w) q) := by
  have ht : q.till = t := by
    have := List.find?_some h.front
    simp at this
    exact this.1
  have hgone : ((s.popQ t w).agent q.aid.toNat).deadMark = false := h.alive
  have hinc : (((s.popQ t w).agent q.aid.toNat).inc != q.inc) = false := bne_eq_false_iff_eq.mpr h.inc
  have hcrd : (q.crd == Src.receipt) = false := by simpa using h.fresh
  have hfree : (s.popQ t w).freeFolio t = some f := h.free
  have hleave : ∀ b, (s.popQ t w).leaving t b = none := by
    intro b
    unfold State.leaving
    rw [show (s.popQ t w).transfers = [] from h.transfers]
    rfl
  have hlive : ((s.popQ t w).liveTill (bucketOfLine q.laddr) != t) = false := by
    rw [show (s.popQ t w).liveTill (bucketOfLine q.laddr) = t from h.home]
    exact bne_self_eq_false _
  have hgate : ((s.popQ t w).till t).gated = [] := h.gated
  have hpl := place_chain (s := (s.popQ t w).entered t f q) (t := t) (f := f) (x := folioOf (s.popQ t w) q) h.opc
  generalize s.popQ t w = a at *
  rw [← hpl]
  unfold accept
  dsimp only
  rw [ht, hgone, hinc, hcrd, Bool.or_false, if_neg Bool.false_ne_true, hfree]
  dsimp only [Option.map]
  rw [Bool.false_and, if_neg Bool.false_ne_true]
  show (match a.leaving t (bucketOfLine q.laddr) with | some tr => _ | none => _) = _
  rw [hleave]
  dsimp only
  rw [show (folioOf a q).laddr = q.laddr from rfl, hlive, Bool.false_and, Bool.false_and, Bool.false_and,
    if_neg Bool.false_ne_true, hgate]
  rfl

/-- The state in which the Folio of an accepted flit looks for its chain. -/
theorem entered_does {w : Nat} {q : QFlit} (h : Admits s t w f q) {b : State} (hb : b = (s.popQ t w).entered t f q) :
    b.till t = { s.till t with folios := KV.put (s.till t).folios f (folioOf s q) } ∧ Rests b t ∧ b.out = s.out := by
  have hr : Rests (s.popQ t w) t := (rests_of_calm h.inv h.calm).of_tills rfl
  have hlt : t < 32 := by
    have := hr.lt
    rw [show (s.popQ t w).tills = s.tills from rfl, h.inv.1] at this
    omega
  have hset : Rests ((s.popQ t w).setFolio t f (folioOf (s.popQ t w) q)) t := by
    refine hr.modTill hr.ni (fun p hp => ?_) hr.failDue
    rcases KV.mem_put_cases hp with rfl | hp
    · exact (Opc.chains_kinds h.opc).2
    · exact hr.releases p hp
  have htill : ((s.popQ t w).setFolio t f (folioOf (s.popQ t w) q)).till t
      = { s.till t with folios := KV.put (s.till t).folios f (folioOf s q) } := till_modTill _ _ hr.lt
  have hl := logs_tev ((s.popQ t w).setFolio t f (folioOf (s.popQ t w) q)) hlt 0x001 0xFF
  rw [hb]
  exact ⟨(hl.till t).trans htill, hset.of_tills hl.tills, hl.out⟩

theorem exec_accepted {w : Nat} {q : QFlit} (h : Admits s t w f q) :
    exec (.qFlitAccepted t w) s
      = .next (worked (chainIn ((s.popQ t w).entered t f q) t f (folioOf (s.popQ t w) q)) t) := by
  rw [← accept_enters h]
  show execQFlitAccepted t w s = _
  unfold execQFlitAccepted
  rw [if_neg (by simp [hasTill_of_alive h.calm.1, h.wicket]), h.front]
  dsimp only
  rw [if_pos h.calm.1]
  rfl

/-- A new chain of a line: its head is `f`, and the Folios stay. -/
theorem openChain_does (s : State) {t : Nat} (ht : t < s.tills.length) (l : Line) (f : Nat) :
    ((openChain s t l f).till t).chains = (s.till t).chains ++ [⟨l, f, f, placeFor s.coldDraw l (s.till t).chains⟩]
      ∧ ((openChain s t l f).till t).folios = (s.till t).folios := by
  unfold openChain
  extract_lets u pl s1
  have h1 := till_modTill s (fun u => { u with
    chains := u.chains ++ [⟨l, f, f, pl⟩]
    disp := if pl == .bucket1 then u.disp else
      KV.set u.disp (hash1 s.coldDraw l) (min 7 (KV.get u.disp (hash1 s.coldDraw l) 0 + 1)) 0 }) ht
  split
  · have hn := (logs_note s1 .ledgerOverflowList (.till t) [t] none).tills
    generalize s1.note .ledgerOverflowList (.till t) [t] none = n at hn ⊢
    have hb : ((n.bump ⟨0x4012, 4, 32⟩).till t) = s1.till t := till_congr (a := s1) hn t
    rw [hb]
    show (s1.till t).chains = _ ∧ (s1.till t).folios = _
    rw [show s1.till t = _ from h1]
    exact ⟨rfl, rfl⟩
  · rw [show s1.till t = _ from h1]
    exact ⟨rfl, rfl⟩

/-- A Folio at the head of a chain that it has opened. -/
def Folio.heads (x : Folio) (now : Nat) (blk : Bool) : Folio :=
  { x with head := true, phase := .lookup, headCclk := now, blk := blk }

theorem joinChain_opens {l : Line} (hr : Rests s t) (hno : ∀ c ∈ (s.till t).chains, c.laddr ≠ l) {x : Folio}
    (hx : s.folio? t f = some x) : Rests (joinChain s t f l) t ∧ ((joinChain s t f l).till t).headOf l = some f
      ∧ (joinChain s t f l).folio? t f = some (x.heads s.time.cclk (s.rawN 0x2020 0 == 1)) := by
  have hnone : (s.till t).chains.find? (fun c => c.laddr == l) = none :=
    List.find?_eq_none.mpr (fun c hc => by simpa using hno c hc)
  have hj := hr.joinChain f l
  have hro := hr.openChain l f
  obtain ⟨hch, hfo⟩ := openChain_does s hr.lt l f
  have he : joinChain s t f l = (openChain s t l f).modFolio t f (fun x => x.heads s.time.cclk (s.rawN 0x2020 0 == 1)) := by
    unfold joinChain
    rw [hnone]
    rfl
  rw [he] at hj ⊢
  refine ⟨hj, ?_, ?_⟩
  · have hc : (((openChain s t l f).modFolio t f (fun x => x.heads s.time.cclk (s.rawN 0x2020 0 == 1))).till t).chains
        = (openChain s t l f |>.till t).chains := by
      unfold State.modFolio
      rw [till_modTill _ _ hro.lt]
    unfold Till.headOf
    have hfind := find_skip (p := fun c : Chain => c.laddr == l) (c := ⟨l, f, f, placeFor s.coldDraw l (s.till t).chains⟩)
      (beq_self_eq_true l) (fun c hc => by simpa using hno c hc) []
    rw [hc, hch, hfind]
    rfl
  · rw [folio_modFolio hro.lt]
    unfold State.folio? at hx ⊢
    rw [hfo, hx]
    rfl

theorem chainIn_opens {x : Folio} (hr : Rests s t) (hlt : t < 32) (hno : ∀ c ∈ (s.till t).chains, c.laddr ≠ x.laddr)
    (hwb : x.opc.isWb = false) (hx : s.folio? t f = some x) : Rests (chainIn s t f x) t
      ∧ ((chainIn s t f x).till t).headOf x.laddr = some f
      ∧ ∃ y, (chainIn s t f x).folio? t f = some y ∧ y.idle = (x.heads s.time.cclk (s.rawN 0x2020 0 == 1)).idle := by
  obtain ⟨hj, hhead, hfo⟩ := joinChain_opens (l := x.laddr) hr hno hx
  unfold chainIn
  dsimp only
  rw [hwb, if_neg Bool.false_ne_true]
  generalize joinChain s t f x.laddr = a at *
  split
  · have hi := issues_readLine a hlt f x.laddr true
    generalize readLine a t f x.laddr true = b at *
    refine ⟨hi.rests hj, ?_, ?_⟩
    · unfold Till.headOf at hhead ⊢
      rw [hi.chains]
      exact hhead
    · have hf := hi.folio t f
      rw [hfo] at hf
      obtain ⟨y, hy, he⟩ := Option.map_eq_some_iff.mp hf
      exact ⟨y, hy, he⟩
  · exact ⟨hj, hhead, _, hfo, rfl⟩

theorem completes_newChain {w : Nat} {q : QFlit} (h : Admits s t w f q) (hno : ∀ c ∈ (s.till t).chains, c.laddr ≠ q.laddr) :
    Completes (.qFlitAccepted t w) s (fun u => (∃ x, u.folio? t f = some x ∧ ∃ now blk,
      x.idle = ((folioOf s q).heads now blk).idle) ∧ (u.till t).headOf q.laddr = some f) := by
  have he := exec_accepted h
  obtain ⟨b, hb⟩ : ∃ b : State, b = (s.popQ t w).entered t f q := ⟨_, rfl⟩
  obtain ⟨hbt, hbr, -⟩ := entered_does h hb
  rw [← hb] at he
  have hlt : t < 32 := by
    have := lt_tills_length h.inv (hasTill_of_alive h.calm.1)
    rw [h.inv.1] at this
    omega
  have hbx : b.folio? t f = some (folioOf s q) := by
    unfold State.folio?
    rw [hbt]
    exact KV.find_put ..
  obtain ⟨hr, hhead, y, hy, hyi⟩ := chainIn_opens (x := folioOf s q) hbr hlt (by rw [hbt]; exact hno) (Opc.chains_kinds h.opc).1 hbx
  rw [show folioOf (s.popQ t w) q = folioOf s q from rfl] at he
  generalize chainIn b t f (folioOf s q) = d at *
  rw [hr.worked] at he
  refine .of he ⟨⟨y, (folio_idle hr.lt f).trans hy, _, _, hyi⟩, ?_⟩
  rw [till_modTill _ _ hr.lt]
  exact hhead

/-- A chain keeps its head when its tail changes. -/
theorem head_retailed {l : Line} (f : Nat) : ∀ {cs : List Chain} {c : Chain}, cs.find? (fun c => c.laddr == l) = some c →
    ((cs.map (fun d => if d.laddr == l then { d with tail := f } else d)).find? (fun c => c.laddr == l)).map (·.head) = some c.head
  | [], _, h => absurd h (by simp)
  | d :: cs, c, h => by
    rw [List.find?_cons] at h
    rw [List.map_cons, List.find?_cons]
    cases hd : d.laddr == l with
    | true =>
      rw [hd] at h
      obtain rfl : d = c := Option.some.inj h
      rw [if_pos rfl, show (({ d with tail := f } : Chain).laddr == l) = true from hd]
      rfl
    | false =>
      rw [hd] at h
      rw [if_neg Bool.false_ne_true, hd]
      exact head_retailed f h

theorem completes_joins {w : Nat} {q : QFlit} (h : Admits s t w f q) {c : Chain}
    (hc : (s.till t).chains.find? (fun c => c.laddr == q.laddr) = some c) (hne : c.tail ≠ f) :
    Completes (.qFlitAccepted t w) s (fun u => u.folio? t f = some { folioOf s q with phase := .waiting }
      ∧ u.folio? t c.tail = (s.folio? t c.tail).map (fun y => { y with next := some f })
      ∧ (u.till t).headOf q.laddr = some c.head ∧ u.out = s.out) := by
  have he := exec_accepted h
  obtain ⟨b, hb⟩ : ∃ b : State, b = (s.popQ t w).entered t f q := ⟨_, rfl⟩
  obtain ⟨hbt, hbr, hbo⟩ := entered_does h hb
  rw [← hb, show folioOf (s.popQ t w) q = folioOf s q from rfl] at he
  obtain ⟨d, hd⟩ : ∃ d : State, d = (b.modFolio t c.tail (fun x => { x with next := some f })).modFolio t f
    (fun x => { x with phase := .waiting }) := ⟨_, rfl⟩
  have hr1 : Rests (b.modFolio t c.tail (fun x => { x with next := some f })) t := hbr.modFolio _ (fun _ => rfl)
  have hdr : Rests d t := by
    rw [hd]
    exact hr1.modFolio _ (fun _ => rfl)
  have hbf : b.folio? t f = some (folioOf s q) := by
    unfold State.folio?
    rw [hbt]
    exact KV.find_put ..
  have hbtail : b.folio? t c.tail = s.folio? t c.tail := by
    unfold State.folio?
    rw [hbt]
    exact KV.find_put_other hne _ _
  have hdf : d.folio? t f = some { folioOf s q with phase := .waiting } := by
    rw [hd, folio_modFolio hr1.lt, folio_modFolio_ne hbr.lt hne.symm, hbf]
    rfl
  have hdtail : d.folio? t c.tail = (s.folio? t c.tail).map (fun y => { y with next := some f }) := by
    rw [hd, folio_modFolio_ne hr1.lt hne, folio_modFolio hbr.lt, hbtail]
  have hdc : (d.till t).chains = (s.till t).chains := by
    rw [hd]
    unfold State.modFolio
    rw [till_modTill _ _ (by rw [tills_length_modTill]; exact hbr.lt), till_modTill _ _ hbr.lt, hbt]
  have hdo : d.out = s.out := by
    rw [hd]
    exact hbo
  obtain ⟨e, hee⟩ : ∃ e : State, e = d.modTill t (fun u => { u with
    chains := u.chains.map (fun d => if d.laddr == q.laddr then { d with tail := f } else d) }) := ⟨_, rfl⟩
  have her : Rests e t := by
    rw [hee]
    exact hdr.aside (fun _ => rfl) (fun _ => rfl) (fun _ => rfl)
  have het : e.till t = { d.till t with
      chains := (d.till t).chains.map (fun d => if d.laddr == q.laddr then { d with tail := f } else d) } := by
    rw [hee]
    exact till_modTill _ _ hdr.lt
  have hef : ∀ g, e.folio? t g = d.folio? t g := by
    intro g
    unfold State.folio?
    rw [het]
  have heo : e.out = s.out := by
    rw [hee]
    exact hdo
  have hjoin : joinChain b t f q.laddr = e := by
    unfold joinChain
    rw [hbt]
    dsimp only
    rw [hc, hee, hd]
  have hin : chainIn b t f (folioOf s q) = e := by
    unfold chainIn
    dsimp only
    rw [show (folioOf s q).opc = q.opc from rfl, show (folioOf s q).laddr = q.laddr from rfl, (Opc.chains_kinds h.opc).1,
      if_neg Bool.false_ne_true, hjoin, hef, hdf]
    exact if_neg (by simp [folioOf, blankFolio])
  rw [hin, her.worked] at he
  refine .of he ⟨?_, ?_, ?_, heo⟩
  · rw [folio_idle her.lt, hef, hdf]
  · rw [folio_idle her.lt, hef, hdtail]
  · rw [till_modTill _ _ her.lt]
    show ((e.till t).chains.find? (fun c => c.laddr == q.laddr)).map (·.head) = _
    rw [het, hdc]
    exact head_retailed f hc

/-! ## A lookup that waits for its read (R182) -/

theorem readSet_empty (h : (s.till t).vault = []) (bank set : Nat) : readSet s t bank set = s := by
  have hraw : ∀ k, (s.till t).vraw k = 0 := by
    intro k
    unfold Till.vraw
    rw [h]
    rfl
  have hdec : (decVault 0).1 = .good := by decide
  have hfl : ∀ k, (s.till t).flawed k = false := by
    intro k
    unfold Till.flawed
    rw [hraw, hdec]
    rfl
  have hbad : ∀ k, (s.till t).bad k = false := by
    intro k
    unfold Till.bad
    rw [hraw, hdec]
    rfl
  unfold readSet
  dsimp only
  rw [List.filter_eq_nil_iff.mpr (fun w _ => by simp [hfl]), if_neg (by simp [hbad])]
  rfl

/-- The lookup that a Folio's read holds up, `r` being its region. -/
def State.lookupHeld (s : State) (t f r bank : Nat) : State :=
  ((s.modFolio t f (fun y => { y with region := r })).tev t 0x007 bank).modFolio t f (fun y => { y with waits := true })

theorem lookup_waits {x : Folio} (hlt : t < s.tills.length) (hx : s.folio? t f = some x) (hph : x.phase = .lookup)
    (hj : x.job = .request) (hw : x.waits = false) (ho : x.opc = .rdS ∨ x.opc = .rdX ∨ x.opc = .rdAny ∨ x.opc = .rdNc)
    (hrd : x.rdata = none) (hread : x.read.isSome = true) (hfind : (s.till t).find (sectorOf x.laddr) = none)
    (hun : (s.regionAt x.rgen (s.regionOf x.rgen (sectorOf x.laddr))).untracked = false) :
    lookup s t f = s.lookupHeld t f (s.regionOf x.rgen (sectorOf x.laddr)) (bankOf (sectorOf x.laddr)) := by
  have hkind : x.opc.isClaim = false ∧ (x.opc == .release) = false ∧ x.opc.reads = true := by
    rcases ho with h | h | h | h <;> rw [h] <;> exact ⟨rfl, rfl, rfl⟩
  obtain ⟨hcl, hrel, hreads⟩ := hkind
  have hfind' : ((s.modFolio t f (fun y => { y with region := s.regionOf x.rgen (sectorOf x.laddr) })).till t).find
      (sectorOf x.laddr) = none := by
    unfold State.modFolio
    rw [till_modTill s _ hlt]
    exact hfind
  unfold lookup
  rw [hx]
  dsimp only
  rw [if_neg (by simp [hph, hj, hcl, hrel])]
  rw [if_neg (by rw [show State.regionAt (s.modFolio t f _) _ _ = s.regionAt _ _ from rfl, hun]; exact Bool.false_ne_true), hfind']
  dsimp only
  rw [hw, if_neg Bool.false_ne_true, if_pos (by simp [hreads, hrd]), if_pos (by simp [hread])]
  rfl

theorem exec_lookupDone (hc : s.calm t) {x : Folio} (hx : s.folio? t f = some x) (hph : x.phase = .lookup)
    (hcrd : ∀ r, x.read = some r → r.crd = false)
    (hlk : (KV.get (s.till t).banks (bankOf (sectorOf x.laddr)) {}).locked = false) (hv : (s.till t).vault = []) :
    exec (.vaultLookupDone t f .none) s
      = .next (if s.sameWork (lookedUp s t f) t f then lookedUp s t f else worked (lookedUp s t f) t) := by
  have hnc : x.read.any (·.crd) = false := by
    cases hr : x.read with
    | none => rfl
    | some r => exact hcrd r hr
  show execVaultLookupDone t f .none s = _
  unfold execVaultLookupDone
  rw [if_neg (by simp [hasTill_of_alive hc.1]), hx]
  dsimp only
  rw [if_pos (by simp [hc.1, hph, hnc, hlk]), show upsetAt s t f _ _ .none = s from rfl, readSet_empty hv]

theorem completes_lookupWaits (hinv : s.Inv) (hc : s.calm t) {x : Folio} (hx : s.folio? t f = some x) (hph : x.phase = .lookup)
    (hj : x.job = .request) (hhead : x.head = true) (hw : x.waits = false)
    (ho : x.opc = .rdS ∨ x.opc = .rdX ∨ x.opc = .rdAny ∨ x.opc = .rdNc) (hrd : x.rdata = none)
    (hcrd : ∀ r, x.read = some r → r.crd = false) (hread : x.read.isSome = true)
    (hlk : (KV.get (s.till t).banks (bankOf (sectorOf x.laddr)) {}).locked = false) (hv : (s.till t).vault = [])
    (hfind : (s.till t).find (sectorOf x.laddr) = none)
    (hun : (s.regionAt x.rgen (s.regionOf x.rgen (sectorOf x.laddr))).untracked = false) :
    Completes (.vaultLookupDone t f .none) s (fun u =>
      u.folio? t f = some { x with region := s.regionOf x.rgen (sectorOf x.laddr), waits := true } ∧ u.out = s.out) := by
  have hr := rests_of_calm hinv hc
  have he := exec_lookupDone hc hx hph hcrd hlk hv
  have hncl : x.opc.isClaim = false := by
    rcases ho with h | h | h | h <;> rw [h] <;> rfl
  have hl : lookedUp s t f = s.lookupHeld t f (s.regionOf x.rgen (sectorOf x.laddr)) (bankOf (sectorOf x.laddr)) := by
    rw [← lookup_waits hr.lt hx hph hj hw ho hrd hread hfind hun]
    unfold lookedUp
    rw [hx]
    dsimp only
    rw [hj]
    dsimp only
    rw [if_neg (by simp [hph]), hncl, if_neg Bool.false_ne_true, if_pos hhead]
  rw [hl] at he
  generalize s.regionOf x.rgen (sectorOf x.laddr) = reg at *
  have hlt : t < 32 := by
    have := hr.lt
    rw [hinv.1] at this
    omega
  have ha : Rests (s.modFolio t f (fun y => { y with region := reg })) t := hr.modFolio f (fun _ => rfl)
  have hax : (s.modFolio t f (fun y => { y with region := reg })).folio? t f = some { x with region := reg } := by
    rw [folio_modFolio hr.lt, hx]
    rfl
  have hao : (s.modFolio t f (fun y => { y with region := reg })).out = s.out := rfl
  unfold State.lookupHeld at he
  generalize s.modFolio t f (fun y => { y with region := reg }) = a at *
  have htev := logs_tev a hlt 0x007 (bankOf (sectorOf x.laddr))
  generalize a.tev t 0x007 (bankOf (sectorOf x.laddr)) = b at *
  have hb : Rests b t := ha.of_tills htev.tills
  have hd : Rests (b.modFolio t f (fun y => { y with waits := true })) t := hb.modFolio f (fun _ => rfl)
  have hdx : (b.modFolio t f (fun y => { y with waits := true })).folio? t f = some { x with region := reg, waits := true } := by
    rw [folio_modFolio hb.lt, folio_of_tills htev.tills, hax]
    rfl
  have hdo : (b.modFolio t f (fun y => { y with waits := true })).out = s.out := htev.out.trans hao
  generalize b.modFolio t f (fun y => { y with waits := true }) = d at *
  have hmoved : s.sameWork d t f = false := by
    unfold State.sameWork
    rw [hdx, hx, show (some { x with region := reg, waits := true } == some x) = false from beq_eq_false_iff_ne.mpr (fun h =>
      Bool.false_ne_true (hw.symm.trans (congrArg Folio.waits (Option.some.inj h)).symm))]
    rfl
  rw [hmoved, if_neg Bool.false_ne_true, hd.worked] at he
  exact .of he ⟨(folio_idle hd.lt f).trans hdx, hdo⟩

/-! ## A Folio that retires (R114, R133) -/

theorem exec_readOutDone (hc : s.calm t) {x : Folio} (hx : s.folio? t f = some x) :
    exec (.folioReadOutDone t f) s = .next (if x.phase == .done && x.readOut then
      worked (kickData (tryRetire (s.modFolio t f (fun y => { y with readOut := false })) t f) t) t else s) := by
  show execFolioReadOutDone t f s = _
  unfold execFolioReadOutDone
  rw [if_neg (by simp [hasTill_of_alive hc.1]), hx]
  dsimp only
  rw [hc.1, Bool.true_and]

theorem completes_retires (hinv : s.Inv) (hc : s.calm t) {x : Folio} (hx : s.folio? t f = some x) (hph : x.phase = .done)
    (hro : x.readOut = true) (hj : x.job = .request) (hwr : x.writes = []) (hrd : x.read = none) (hd : x.dead = false)
    (hl : x.credit ≠ .loan) (hq : ∀ a ∈ (s.till t).memQ, a.folio ≠ f) (hg : ∀ g ∈ (s.till t).groups, g.folio ≠ f)
    (hdata : ∀ p ∈ (s.till t).folios, p.2.phase ≠ .data) :
    Completes (.folioReadOutDone t f) s (fun u => (u.till t).folios = KV.del (KV.mod (s.till t).folios f
        (fun y => { y with readOut := false })) f
      ∧ u.net.p = s.net.p ++ [(t, x.wicket, .credit x.credit x.aid x.inc x.opc.hasData
          (if x.opc.isWrite = true then some (x.outcome, x.epoch) else none) x.origin)]) := by
  have hr := rests_of_calm hinv hc
  have he := exec_readOutDone hc hx
  rw [if_pos (by simp [hph, hro])] at he
  have har : Rests (s.modFolio t f (fun y => { y with readOut := false })) t := hr.modFolio f (fun _ => rfl)
  have hat : (s.modFolio t f (fun y => { y with readOut := false })).till t = { s.till t with
      folios := KV.mod (s.till t).folios f (fun y => { y with readOut := false }) } := till_modTill s _ hr.lt
  have hax : (s.modFolio t f (fun y => { y with readOut := false })).folio? t f = some { x with readOut := false } := by
    rw [folio_modFolio hr.lt, hx]
    rfl
  have han : (s.modFolio t f (fun y => { y with readOut := false })).net = s.net := rfl
  generalize s.modFolio t f (fun y => { y with readOut := false }) = a at *
  obtain ⟨b, htr, hret⟩ := retire_does hax hj hd hl
  have hcan : canRetire a t f { x with readOut := false } = true := by
    unfold canRetire
    rw [hat]
    simp only [hph, hwr, hrd]
    simpa using ⟨hq, hg⟩
  have htry : tryRetire a t f = b.sendP t x.wicket x.creditMsg := by
    unfold tryRetire
    rw [hax]
    dsimp only
    rw [if_pos hcan, hret]
    rfl
  rw [htry] at he
  have hfr : Rests (a.freed t f) t := har.modTill har.ni (fun p hp => har.releases p (KV.mem_of_del hp)) har.failDue
  have hft : ((a.freed t f).till t).folios = KV.del (KV.mod (s.till t).folios f (fun y => { y with readOut := false })) f := by
    unfold State.freed
    rw [till_modTill _ _ har.lt, hat]
  have hpt := tills_sendP b t x.wicket x.creditMsg
  have hpn := net_sendP b t x.wicket x.creditMsg
  generalize b.sendP t x.wicket x.creditMsg = e at *
  have hes : e.tills = (a.freed t f).tills := hpt.trans htr.tills
  have her : Rests e t := hfr.of_tills hes
  have hef : (e.till t).folios = KV.del (KV.mod (s.till t).folios f (fun y => { y with readOut := false })) f := by
    rw [till_congr hes, hft]
  have hkick : kickData e t = e := by
    unfold kickData
    rw [List.filter_eq_nil_iff.mpr (fun p hp => ?_)]
    · rfl
    · rw [hef] at hp
      obtain ⟨p0, hp0, rfl⟩ := List.mem_map.mp (KV.mem_of_del hp)
      have := hdata p0 hp0
      split <;> simp [this]
  rw [hkick, her.worked] at he
  refine .of he ⟨?_, ?_⟩
  · rw [till_modTill _ _ her.lt]
    exact hef
  · show e.net.p = _
    rw [hpn, htr.net, show (a.freed t f).net = a.net from rfl, han]
    rfl

theorem lookupDone_nothing (hc : s.calm t) (h : ∀ x, s.folio? t f = some x → x.phase ≠ .lookup) :
    exec (.vaultLookupDone t f .none) s = .next s := by
  show execVaultLookupDone t f .none s = _
  unfold execVaultLookupDone
  rw [if_neg (by simp [hasTill_of_alive hc.1])]
  cases hx : s.folio? t f with
  | none => rfl
  | some x => exact congrArg _ (if_neg (by simp [h x hx]))

theorem readOutDone_nothing (hc : s.calm t) (h : ∀ x, s.folio? t f = some x → x.readOut = false) :
    exec (.folioReadOutDone t f) s = .next s := by
  cases hx : s.folio? t f with
  | none =>
    show execFolioReadOutDone t f s = _
    unfold execFolioReadOutDone
    rw [if_neg (by simp [hasTill_of_alive hc.1]), hx]
  | some x => rw [exec_readOutDone hc hx, if_neg (by simp [h x hx])]

end

/-- Settles O33: acceptance, lookup and retirement, step by step. -/
theorem foliosAcceptLookUpRetire : Obligations.FoliosAcceptLookUpRetire := by
  unfold Obligations.FoliosAcceptLookUpRetire
  intro s t hinv hc htr hgate
  refine ⟨fun w f q hw hq hcrd hdm hinc hlive hfree hopc => ?_,
    fun f x hx hph hj hhead hwait ho hrd hcrd hread hlk hv hfind hun =>
      completes_lookupWaits hinv hc hx hph hj hhead hwait ho hrd hcrd hread hlk hv hfind hun,
    fun f x hx hph hro hj hwr hrd hd hl hmq hg hdata => completes_retires hinv hc hx hph hro hj hwr hrd hd hl hmq hg hdata,
    fun f h => lookupDone_nothing hc h, fun f h => readOutDone_nothing hc h⟩
  have had : Admits s t w f q := ⟨hinv, hc, htr, hgate, hw, hq, hcrd, hdm, hinc, hlive, hfree, hopc⟩
  refine ⟨fun hno => ?_, fun c hch hne => completes_joins had hch hne⟩
  obtain ⟨u, he, ⟨x, hx, now, blk, hi⟩, hhead⟩ := completes_newChain had hno
  have h1 := congrArg Folio.head hi
  have h2 := congrArg Folio.phase hi
  have h3 := congrArg Folio.opc hi
  have h4 := congrArg Folio.aid hi
  have h5 := congrArg Folio.inc hi
  have h6 := congrArg Folio.tag hi
  have h7 := congrArg Folio.laddr hi
  have h8 := congrArg Folio.src hi
  exact .of he ⟨x, hx, h1, h2, h3, h4, h5, h6, h7, h8, hhead⟩

end Sys2Proof.Machine
end
